-- ==== Sys2Proof/Word.lean ====
section
/-!
DEFINITION. Sys2Proof/Word.lean: the word types of the package. R5 (numbers, little-endian multi-byte values)
and R17 (BAR0 registers are 32 bits wide) fix the widths.
-/

namespace Sys2Proof

/-- One byte of device memory, of a message or of a telegram. -/
abbrev Byte := BitVec 8

/-- One BAR0 register (R17), one micro-word (R342). -/
abbrev Word := BitVec 32

/-- One 64-bit unit: a descriptor word, a slot-table entry (R102), a nano-word (R348). -/
abbrev Word64 := BitVec 64

/-- One 64-byte line of CXL.mem or of the fabric, byte 0 first (R490). -/
abbrev Line := Vector Byte 64

end Sys2Proof
end

