-- ==== Sys2Proof/Payload.lean ====
section
/-!
DEFINITION. Sys2Proof/Payload.lean: what some commands carry: strap balls (R69, R70), sensor and rail readings (R560,
R563), patrol findings (R593, R594), configuration requests (R483–R485, R487, R488).
-/

namespace Sys2Proof

/-- The balls the board drives as straps (R69, R70). -/
structure Straps where
  posSlot : BitVec 3
  posSled : BitVec 4
  benchEn : Bool
  sbMode : Bool
  hostBif : Bool
  deriving DecidableEq, Repr

/-- One four-wire reading (R560): the ratio R_T / Rref of each polarity in units of 10^−9, and whether the excitation
current was at least half its nominal value (R576). -/
structure Rtd where
  plus : Nat
  minus : Nat
  excited : Bool
  deriving DecidableEq, Repr

/-- One sample of a rail channel (R563): the voltage and the shunt voltage, in µV. -/
structure RailSample where
  volts : Int
  shunt : Int
  deriving DecidableEq, Repr

/-- One line a patrol read with corrections (R593, R594). -/
structure PatrolHit where
  bankB : Bool
  sector : BitVec 8
  corrected : Nat
  uncorrectable : Nat
  deriving DecidableEq, Repr

/-- A row a refix had to retry or could not fix (R311, R317, R332): retries counted, whether a segment of it failed, and the
spares that failed in its remap. -/
structure RefixRow where
  row : Fin 512
  retries : BitVec 16
  failed : Bool
  badSpares : BitVec 8
  deriving DecidableEq, Repr

/-- The capabilities R483 names, present and absent. -/
inductive Capability where
  | pciExpress | powerManagement | msix | advancedErrors | serialNumber | secondaryPcie | dataLinkFeature | physical16 | physical32
  | physical64 | laneMargining | flitLogging | dataObjectExchange | ide | dvsec
  | msi | intx | vpd | expansionRom | ari | srIov | ats | pri | pasid | acs | ltr | l1Substates | resizableBar | tph | ptm
  deriving DecidableEq, Repr

/-- The fields of the PCIe DVSEC for CXL devices whose values R484 states. -/
inductive CxlField where
  | hdmCount | memCapable | cacheCapable | ioCapable | resetCapable | memClearCapable | resetTimeoutMs
  deriving DecidableEq, Repr

/-- A configuration request of one half (R127, R483–R488, R493, R505). -/
inductive CfgReq where
  /-- Whether a capability is present (R483). -/
  | hasCapability (c : Capability)
  /-- The PCI Express port type: 1 root complex integrated endpoint, 0 endpoint (R483). -/
  | readPortType
  /-- Whether a DVSEC of this vendor and ID is present (R484). -/
  | hasDvsec (vendor id : BitVec 16)
  /-- A field of the DVSEC for CXL devices (R484). -/
  | readCxlField (f : CxlField)
  /-- The entries of the Register Locator (R484). -/
  | readLocatorEntries
  /-- The IDE streams the IDE capability reports (R505). -/
  | readIdeStreams
  /-- The size of a DVSEC range, and its Memory_Active (R488). -/
  | readRangeSize (second : Bool)
  | readRangeActive (second : Bool)
  /-- A read and a write of a base address register (R493). -/
  | readBar (index : Fin 6)
  | writeBar (index : Fin 6) (value : BitVec 32)
  /-- A read of the identity of R4 (vendor and device, or revision). -/
  | readIdentity (revision : Bool)
  /-- A 16-bit read of the Twifelux identity DVSEC (R485) at this offset. -/
  | readTwifelux (off : Byte)
  /-- A write of MSI-X Enable and Function Mask (R496). -/
  | msixControl (enable mask : Bool)
  /-- A write of CXL Reset Mem Clr Enable (R484, R499). -/
  | memClear (enable : Bool)
  /-- A write of HDM Decoder Enable (R488). -/
  | hdmEnable (enable : Bool)
  /-- A write of a DVSEC range's base, used under CXL 1.1 (R488). -/
  | range (second : Bool) (base : BitVec 52) (enable : Bool)
  /-- A read of the CXL reset status: complete and error (R499, R501). -/
  | readResetStatus
  deriving DecidableEq, Repr

end Sys2Proof
end

