-- ==== Sys2Proof/Syntax.lean ====
section
/-!
DEFINITION. Sys2Proof/Syntax.lean: the commands the package takes, one constructor per row of spec/opcode_table.json. A row
that is a register write carries the written value's fields, a row that is an event of a bus, pin or clock carries what
arrived, and a row that is a step of an engine inside the package names the engine.
-/

namespace Sys2Proof

/-- The commands of spec/opcode_table.json, one constructor per row, in the table's order. Each docstring gives the
row's mnemonic and the rule the table cites. -/
inductive Instr where
  /-- REGISTER_WRITE (R15). A write to a register field that has no behaviour of its own updates it according to its
  access code (RW, W1C, W1S, RWS, RWL). -/
  | registerWrite (half : Fin 2) (off : BitVec 22) (value : Word)
  /-- LO_WORD_READ (R17). A read of the low word of a two-word register pair captures the high word for that accessor.
  -/
  | loWordRead (half : Fin 2) (off : BitVec 22)
  /-- MISALIGNED_ACCESS (R18). A narrower or misaligned BAR0 access completes without error; a read returns
  unpredictable data and a write affects only the addressed register unpredictably. -/
  | misalignedAccess (half : Fin 2) (off : BitVec 22) (write : Bool)
  /-- VAUX_IN_RANGE (R117). VAUX enters its range after at least 100 ms out of range, and the package enters DAWN at
  phase A with step 0 running. -/
  | vauxInRange (unexpected : BitVec 6)
  /-- VAUX_LOSS (R117). VAUX leaves its range: the package goes to OFF, the enables go high-impedance and the island
  commits or defers its deltas. -/
  | vauxLoss
  /-- EN_VIO_RISE (R121). Once VAUX has stayed in range for 10 ms, the island raises EN_VIO, whether or not its firmware
  runs. -/
  | enVioRise
  /-- RAIL_GOOD (R67). A switched rail has stayed in its range for 100 µs and counts as good. -/
  | railGood (rail : Fin 6)
  /-- ENABLE_RISE (R67). 1 ms after the previous rail, or both DRAM rails, became good, the island raises the next
  enable in order. -/
  | enableRise
  /-- RAIL_UNEXPECTED (R79). A switched rail enters its range while its enable is low: in dawn this is cause 0x03 and
  DAWN_FAIL; otherwise a RAIL_FAULT record is journalled. -/
  | railUnexpected (rail : Fin 6) (mv : BitVec 16)
  /-- POWER_FAULT (R139). A switched rail leaves its range while the package runs, which records the rail and makes an
  immediate stop. -/
  | powerFault (rail : Fin 6) (mv : BitVec 16)
  /-- ENABLE_FALL (R137). The island lowers the next enable in reverse order after the previous rail fell below 10 %
  plus 1 ms, or 51 ms after the previous enable; the package reaches OFF when EN_VIO falls. -/
  | enableFall
  /-- RAIL_FALL_TIMEOUT (R137). A rail has not fallen below 10 % within 50 ms of its enable falling; this is recorded as
  a power fault and the sequence continues. -/
  | railFallTimeout (rail : Fin 6) (mv : BitVec 16)
  /-- RC_START_TIMEOUT (R120). The island RC oscillator has not started within 50 µs of VAUX arrival: the enables are
  held low, FAULT_N is driven low and cause 0x01 is latched. -/
  | rcStartTimeout
  /-- PERST_RELEASE (R121). PERST_N is released; once all rails are good the control die leaves internal reset, the
  straps are sampled and phase B begins. -/
  | perstRelease (balls : Straps)
  /-- PERST_ASSERT (R124). PERST_N is asserted: a conventional reset sends a running package to DAWN at phase B, and in
  phase B or C the control die returns to reset at once. -/
  | perstAssert
  /-- DAWN_PLLS_LOCKED (R119). The core, array timing, DRAM and host SerDes PLLs are all locked and dawn step 3 ends. -/
  | dawnPllsLocked
  /-- ISLAND_HANDSHAKE (R528). The island link handshake of dawn step 4 completes and reports the island firmware level,
  ranges, seal state and digest. -/
  | islandHandshake
  /-- DRAM_LINK_TRAINED (R119). DRAM links 0 and 1 finish training at dawn step 5. -/
  | dramLinkTrained
  /-- DRAM_INIT_DONE (R119). Both DRAM stacks finish initialisation at dawn step 6. -/
  | dramInitDone
  /-- DATA_WINDOW_CLEARED (R119). The data and command windows have been cleared to zero at dawn step 7. -/
  | dataWindowCleared
  /-- STAGE2_CHECKED (R126). Stage-2 boot firmware has been fetched from island bank A and checked; a failure raises
  fw_auth and the boot ROM continues dawn itself. -/
  | stage2Checked
  /-- ARRAY_LINK_TRAINED (R234). An array link trains: the ADC self-test marks faulty tiles, the trims load from the
  contact sheet and dirty tiles are queued for erasure. -/
  | arrayLinkTrained (die : Fin 4) (faulty : BitVec 64)
  /-- PATCH_CHECKED (R365). The microcode patch has been fetched and checked at dawn step 10, then loaded or left empty
  with fw_auth raised, and the sequencers leave HALTED. -/
  | patchChecked
  /-- DAWN_TIMEOUT (R119). The timeout of a dawn step expires before the step is done, and the package enters DAWN_FAIL
  with that step's cause code and index. -/
  | dawnTimeout
  /-- DAWN_RETRY (R130). 1,000 ms after EN_VIO fell, a DAWN_FAIL attempt below 3 starts the next attempt at step 0. -/
  | dawnRetry (unexpected : BitVec 6)
  /-- DUSK_RESTART (R137). 1,000 ms after EN_VIO fell in a dusk with restart, with VAUX in range, the package enters
  DAWN at phase A. -/
  | duskRestart (unexpected : BitVec 6)
  /-- WARM_RESET (R133). A write of PWR_RESET.warm with key 0x5E7A starts a warm reset in HELD, READY, OVERCAST or
  BENCH. -/
  | warmReset (key : BitVec 16)
  /-- WARM_RESET_DONE (R135). A warm reset completes and any dusk request held during it is accepted. -/
  | warmResetDone
  /-- DUSK_REQUEST (R135). A write of PWR_DUSK.request with key 0xD05C is accepted into DUSK, held during a warm reset
  or ignored in DAWN or DUSK. -/
  | duskRequest (key : BitVec 16) (restart : Bool)
  /-- QUIESCE_DONE (R136). The dusk quiesce completes: the island closes attribution at F − 1 and starts the dusk
  journal commit. -/
  | quiesceDone
  /-- QUIESCE_DEADLINE (R136). At 2 ms after dusk acceptance unfinished work is abandoned, overrun is set and dusk
  continues as if quiesce were done. -/
  | quiesceDeadline
  /-- DUSK_COMMIT_DONE (R136). The dusk commit ends: CXL.mem service stops, the host transmitters idle and the DRAM
  enables fall. -/
  | duskCommitDone
  /-- PWR_ACK_DAWN (R131). A write of PWR_ACK.dawn acknowledges the DAWN_FAIL record and clears PWR_DAWN_CAUSE.valid. -/
  | pwrAckDawn
  /-- PWR_ACK_STOP (R138). A write of PWR_ACK.stop acknowledges the stop record and clears PWR_LAST_STOP.valid. -/
  | pwrAckStop
  /-- ISLAND_LINK_LOSS (R143). The island link fails in a running state: the control die enters DUSK with source island
  link, and the island lowers the enables if the control die has not within 20 ms. -/
  | islandLinkLoss
  /-- FRAME_MARK (R86). A frame mark is received on HZN_IN and judged against the local mark as expected or misplaced.
  -/
  | frameMark (dev : Int) (gap : Bool)
  /-- LOCAL_FRAME_MARK (R687). The local count reaches tick 0 of a new frame, which advances the frame number and drives
  every frame-mark action. -/
  | localFrameMark
  /-- SUPERFRAME_NUMBER (R88). A 64-frame superframe number and its CRC have been received; it is validated and checked
  against the local count. -/
  | superframeNumber (number : BitVec 48) (crc : BitVec 16)
  /-- ASSIGN_MESSAGE (R113). An ASSIGN message is received; it is validated and sets or conflicts with GEN_TOPO and
  GEN_MACHINE. -/
  | assignMessage (msg : Vector Byte 32)
  /-- DELAY_MESSAGE (R95). A DELAY message is received and its offset is applied, slewed, stored with a loss, or
  rejected. -/
  | delayMessage (msg : Vector Byte 32)
  /-- STATUS_MESSAGE (R90). A STATUS message is received and recorded in HZN_GEN, or rejected when byte 2 exceeds 3. -/
  | statusMessage (msg : Vector Byte 32)
  /-- UNKNOWN_MESSAGE (R90). A horizon message of an unknown type is ignored and counted in msg_rejected. -/
  | unknownMessage (msg : Vector Byte 32)
  /-- HZN_ACTIVITY (R96). 64 consecutive rising edges 8 ns apart arrive in DARK with rx_en at 1, or in LOST, and the
  receiver enters ACQUIRING. -/
  | hznActivity
  /-- HZN_EDGE_LOSS (R96). No rising edge for 24 ns outside a mark makes the receiver coast or fall back. -/
  | hznEdgeLoss
  /-- HZN_PLL_LOCK (R92). The horizon PLL locks: HZN_RET starts repeating and the first frame mark is awaited. -/
  | hznPllLock
  /-- HZN_PLL_UNLOCK (R96). The horizon PLL loses lock; LOCKED becomes COASTING and no mark counts as received. -/
  | hznPllUnlock
  /-- ACQUIRE_TIMEOUT (R96). The horizon PLL has not locked 100 µs after ACQUIRING was entered, so the receiver returns
  to its previous state. -/
  | acquireTimeout
  /-- HZN_RX_DISABLE (R100). A write of 0 to HZN_CTRL.rx_en forces the receiver to DARK. -/
  | hznRxDisable
  /-- HZN_RX_ENABLE (R96). A write of 1 to HZN_CTRL.rx_en restarts the activity count in DARK. -/
  | hznRxEnable
  /-- HZN_CLR_COUNTS (R111). A write of 1 to HZN_CTRL.clr_counts clears HZN_ERR0 and HZN_ERR1. -/
  | hznClrCounts
  /-- GAP_START (R110). In BENCH, a write of HZN_BENCH.gap_start suppresses gap_frames synthesised marks. -/
  | gapStart (frames : BitVec 7)
  /-- ADMISSION_PASS (R418). At tick 1,024 of frame F − 1 admission fixes homes, charges power and DRAM budgets and
  grants or defers eligible descriptors for frame F. -/
  | admissionPass
  /-- DEADLINE_REFUSAL (R421). When no pass runs for a descriptor's deadline frame, it is refused with a reason at tick
  1,536 of the frame before. -/
  | deadlineRefusal
  /-- HREFCLK_LOSS (R151). No HREFCLK edge for 40 ns: PLLs 0 to 4 count as unlocked, the core coasts, the array is
  safe-forced and DRAM enters self-refresh. -/
  | hrefclkLoss
  /-- HREFCLK_RESTORE (R154). 100 good HREFCLK edges arrive and PLLs 0 to 4 start relocking. -/
  | hrefclkRestore
  /-- PLL_UNLOCK (R151). A PLL lock detector drops, which starts coasting, safe-forcing, self-refresh, host link loss or
  fabric DARK according to the PLL. -/
  | pllUnlock (pll : Fin 8)
  /-- PLL_LOCK (R154). A PLL relocks: the core leaves coasting, array_forced clears or the DRAM stacks exit self-refresh
  and apply held requests. -/
  | pllLock (pll : Fin 8)
  /-- RELOCK_ATTEMPT (R170). Every 1 ms outside dawn, an unlocked PLL with its reference present makes a relock attempt
  and counts a failure. -/
  | relockAttempt (pll : Fin 8)
  /-- CLK_GATE_REQUEST (R157). A write of 0 to a gateable CLK_GATE.en bit requests gating, which takes effect at the
  first frame mark at which the block is idle. -/
  | clkGateRequest (blk : Fin 15)
  /-- CLK_UNGATE (R158). A write of 1 to a CLK_GATE.en bit cancels a pending request or ungates the block within 1 µs.
  -/
  | clkUngate (blk : Fin 15)
  /-- CLKOBS_SELECT (R162). A write to CLK_OBS selects a source and division, or is rejected with obs_reject; CLKOBS is
  then held low and restarts. -/
  | clkobsSelect (value : Word)
  /-- CLK_CLR_COUNTS (R174). A write of 1 to CLK_CTRL.clr_counts clears CLK_CNT. -/
  | clkClrCounts
  /-- TRIM_WINDOW_END (R166). An island trim window ends; the RC trim code is updated or the window is discarded, and
  the next window starts. -/
  | trimWindowEnd (count : BitVec 24) (srcFailed : Bool)
  /-- XTAL_FAIL (R168). The crystal has not oscillated within 500 ms, or shows no edge for 122 µs, and xtal_fail is set.
  -/
  | xtalFail
  /-- XTAL_RECOVER (R168). The crystal has run for 1 s and xtal_fail clears. -/
  | xtalRecover
  /-- IMG_START (R189). A write of IMG_CTRL.start begins a plate-image load: the loader copies the image to staging and
  runs its checks. -/
  | imgStart
  /-- IMG_CHECKS_DONE (R190). The fetch, header, signature, decrypt, parse, conflict and level phases end with a
  success, a level mismatch or an error code. -/
  | imgChecksDone
  /-- IMG_QUIESCE_DONE (R196). Work started before Q completes, or mark Q + 1 arrives, and install runs. -/
  | imgQuiesceDone
  /-- IMG_INSTALL_DONE (R192). The loader finishes writing the plate configuration, stores and disabled slot entries,
  and clears staging. -/
  | imgInstallDone
  /-- IMG_UNLOAD (R199). A write of IMG_CTRL.unload quiesces the named image, then releases its plates, tiles, stores
  and slot entries. -/
  | imgUnload
  /-- IMG_ABORT (R200). A write of IMG_CTRL.abort ends a load in phases 1 to 8 with ABORTED, restoring any replaced
  image. -/
  | imgAbort
  /-- EXPOSE (R349). An EXPOSE nano-word starts a burst of groups and planes on every tile of the plate. -/
  | expose (q : Fin 16)
  /-- EXPOSURE_START (R217). An exposure of a burst begins integrating; one whose window would not end before end_tick
  cuts the burst instead. -/
  | exposureStart (tile : Fin 256)
  /-- OPERAND_ARRIVAL (R211). A group's operands complete after its first exposure was due, and the burst starts late.
  -/
  | operandArrival (tile : Fin 256)
  /-- EXPOSURE_DEVELOP (R214). An exposure's ADC code becomes available and is shift-added into the plane accumulator,
  with clips counted. -/
  | exposureDevelop (tile : Fin 256)
  /-- AE_WINDOW_END (R253). An exposure completes an auto-exposure window, and each column may get a pending shift raise
  or lower. -/
  | aeWindowEnd (tile : Fin 256)
  /-- FOG_WINDOW_LATCH (R222). After 65,536 developed exposures, a tile latches its fog sums and computes its drift
  estimates. -/
  | fogWindowLatch (tile : Fin 256)
  /-- TILE_DATA_READ (R230). A read of TILE_DATA returns the addressed register of the selected tile and auto-increments
  TILE_ADDR when set. -/
  | tileDataRead
  /-- TILE_DATA_WRITE (R230). A write of TILE_DATA stores to the addressed tile register, or is denied or timed out. -/
  | tileDataWrite (value : Word)
  /-- TILE_TEST_START (R231). In BENCH, a write of TILE_TEST.start runs one test exposure on a free tile, or sets
  test_refused. -/
  | tileTestStart (value : Word)
  /-- TILE_TEST_DONE (R231). A test exposure stores its codes and clip flags and sets test_done. -/
  | tileTestDone
  /-- CHAIN_ADD (R275). Once a tile has committed its last group and received its inbound chain adds, it adds its burst
  bank into the receiving tile. -/
  | chainAdd (tile : Fin 256)
  /-- SLICE_MERGE (R276). The tile that ends a high-slice chain adds its bank into the tile that ends the low-slice
  chain. -/
  | sliceMerge (tile : Fin 256)
  /-- OUTPUT (R352). An OUTPUT nano-word starts an output-stage run over channels of the plate. -/
  | output (q : Fin 16)
  /-- OUTPUT_RUN_DONE (R278). An output-stage run has read A, shifted, fused, rounded and delivered every channel. -/
  | outputRunDone (plate : Fin 64)
  /-- COMP_ADD (R285). A DRAM controller applies a compensated add of a COMP64 word atomically, in arrival order. -/
  | compAdd (addr : BitVec 40) (word : Word64)
  /-- WEIGHT_WRITE (R303). A CXL.mem write to the weight window changes targets in the shadow and queues fix entries, or
  is dropped or held. -/
  | weightWrite (half : Fin 2) (hpa : BitVec 52) (data : Line) (be : BitVec 64)
  /-- WEIGHT_WRITE_RELEASE (R305). A fix-queue entry frees and a held weight-window write is accepted, with later held
  writes behind it. -/
  | weightWriteRelease (half : Fin 2)
  /-- WEIGHT_READ (R306). A CXL.mem read of the weight window returns markers or waits for a sensing gap. -/
  | weightRead (half : Fin 2) (hpa : BitVec 52)
  /-- WEIGHT_READ_SENSE (R308). A weight-window read finds a gap and senses the cells, returning sensed levels or
  conductances. -/
  | weightReadSense (half : Fin 2)
  /-- WEIGHT_READ_STALE (R308). A weight-window read finds no gap within 2 frames and completes with marker values. -/
  | weightReadStale (half : Fin 2)
  /-- SEGMENT_START (R313). A die's pump starts the oldest eligible fix entry on a FIXING plate. -/
  | segmentStart (die : Fin 4)
  /-- SEGMENT_DONE (R311). A segment's program-verify ends verified, or failed after three attempts. -/
  | segmentDone (die : Fin 4) (attempts : BitVec 2) (iterations : BitVec 7) (verified : Bool) (badSpares : BitVec 8)
  /-- TILE_ERASE_DONE (R320). A tile erase completes, clearing its dirty mark and erasing flag, or marks it worn. -/
  | tileEraseDone (tile : Fin 256) (fails : BitVec 8) (stuck : List (Fin 512)) (badSpares : BitVec 8)
  /-- TILE_REFIX_REQ (R331). A write of TILE_REFIX_REQ.go queues a refix of a plate's tiles, or is rejected. -/
  | tileRefixReq (value : Word)
  /-- REFIX_DONE (R332). A refix completes: the drift gain, the age and the fog sums reset, and due clears. -/
  | refixDone (tile : Fin 256) (rows : List RefixRow)
  /-- TILE_AGE_HOUR (R329). An hour elapses with VCORE in range, TILE_AGE advances and may trigger due. -/
  | tileAgeHour
  /-- STATIC_DISPATCH (R355). 64 ns before an applicable slot-table entry, a sequencer is loaded with the entry and
  enters RUNNING, or the dispatch is skipped. -/
  | staticDispatch (q : Fin 16) (index : BitVec 12)
  /-- DYNAMIC_DISPATCH (R358). 8 ticks before a granted claim, the chosen sequencer takes the dispatch record and enters
  RUNNING. -/
  | dynamicDispatch (ctx : Fin 64)
  /-- NEXT (R343). Micro-word code NEXT issues its nano-word and continues at PC + 1. -/
  | next (q : Fin 16)
  /-- LDC (R343). Micro-word code LDC loads a loop counter and issues. -/
  | ldc (q : Fin 16)
  /-- LDA (R343). Micro-word code LDA sets an address register from a0 plus the operand and issues. -/
  | lda (q : Fin 16)
  /-- ADDA (R343). Micro-word code ADDA adds a signed operand to an address register and issues. -/
  | adda (q : Fin 16)
  /-- JMP (R343). Micro-word code JMP issues and jumps to the target. -/
  | jmp (q : Fin 16)
  /-- JSR (R343). Micro-word code JSR pushes the return address, issues and jumps. -/
  | jsr (q : Fin 16)
  /-- RTS (R343). Micro-word code RTS pops the return address and issues. -/
  | rts (q : Fin 16)
  /-- LOOP (R343). Micro-word code LOOP decrements a counter and branches while it is not zero. -/
  | loop (q : Fin 16)
  /-- BCOND (R345). Micro-word codes 8 to 13 issue and branch on a counter, outstanding, sync, dynamic or limit
  condition. -/
  | bcond (q : Fin 16)
  /-- WAIT (R343). Micro-word code WAIT holds the sequencer until a tick of the slot. -/
  | wait (q : Fin 16)
  /-- WAIT_FIRE (R359). The tick a WAIT named arrives and the nano-word is issued, late if the tick had already begun.
  -/
  | waitFire (q : Fin 16)
  /-- WAITD (R343). Micro-word code WAITD holds until no command of the routine is outstanding, then issues. -/
  | waitd (q : Fin 16)
  /-- END (R343). Micro-word code END waits for outstanding commands, then ends the routine and returns the sequencer to
  IDLE. -/
  | seqEnd (q : Fin 16)
  /-- RESERVED_CODE (R343). A reserved sequencing code raises a machine check with cause code. -/
  | reservedCode (q : Fin 16)
  /-- NOP (R348). A NOP nano-word issues nothing. -/
  | nop (q : Fin 16)
  /-- LOAD (R351). A LOAD nano-word copies lines from device DRAM into the holding buffers of a plate's tiles. -/
  | load (q : Fin 16)
  /-- FSEND (R353). An FSEND nano-word sends lines over a fabric port to a destination package. -/
  | fsend (q : Fin 16)
  /-- FRECV (R462). An FRECV nano-word reserves a port's receive side and completes when length scheduled lines have
  arrived. -/
  | frecv (q : Fin 16)
  /-- VECTOR (R353). A VECTOR nano-word starts a vector-unit program. -/
  | vector (q : Fin 16)
  /-- SYNC_NANO_SIGNAL (R433). A SYNC nano-word with op 0 signals a local object, or a remote one once earlier transfers
  have resolved. -/
  | syncNanoSignal (q : Fin 16)
  /-- SYNC_NANO_TEST (R345). A SYNC nano-word with op 1 sets the sequencer's sync flag from the wait condition at issue.
  -/
  | syncNanoTest (q : Fin 16)
  /-- RESERVED_NANO_KIND (R348). A nano-word of a reserved kind raises a machine check with cause kind. -/
  | reservedNanoKind (q : Fin 16)
  /-- SEQ_COMMAND_DONE (R354). An outstanding command of a routine completes, freeing an outstanding slot and any held
  WAITD, END or later EXPOSE. -/
  | seqCommandDone (q : Fin 16) (index : Fin 4)
  /-- SPAN_END (R357). The span end arrives with the routine running, and the routine is cut and its descriptor
  completes FAULTED. -/
  | spanEnd (q : Fin 16)
  /-- SEQ_ARM (R360). A write of SEQ_ARM_CTRL.arm arms a resident image's schedule at its epoch, or reports a result
  code. -/
  | seqArm (slot : Fin 64)
  /-- SEQ_DISARM (R361). A write of SEQ_ARM_CTRL.disarm disarms the image at the next frame mark. -/
  | seqDisarm (slot : Fin 64)
  /-- SEQ_HALT (R371). A write of SEQ_CTRL.halt moves an IDLE sequencer with no armed entries to HALTED, or sets
  halt_refused. -/
  | seqHalt (q : Fin 16)
  /-- SEQ_RUN (R371). A write of SEQ_CTRL.run moves a HALTED sequencer to IDLE, except in dawn before step 10 ends. -/
  | seqRun (q : Fin 16)
  /-- SEQ_CLR_COUNTS (R372). A write of 1 to SEQ_CTRL.clr_counts clears SEQ_CNT0 and SEQ_CNT1. -/
  | seqClrCounts (q : Fin 16)
  /-- SEQ_MC_CLEAR (R369). A write of 1 to SEQ_MC0.valid clears the machine-check record and returns the sequencer from
  FAULT to IDLE. -/
  | seqMcClear (q : Fin 16)
  /-- SQ_DOORBELL (R376). A write of CMD_SQ_DB submits descriptors from the old tail for acceptance, or is rejected. -/
  | sqDoorbell (ctx : Fin 64) (tail : BitVec 12)
  /-- DESC_EXPOSE (R386). An EXPOSE descriptor is accepted and checked, and becomes a kind-1 claim on its plate. -/
  | descExpose (ctx : Fin 64)
  /-- DESC_OUTPUT (R386). An OUTPUT descriptor is accepted and checked, and becomes a kind-5 claim on its plate. -/
  | descOutput (ctx : Fin 64)
  /-- MATVEC (R388). A MATVEC descriptor is accepted and becomes an exposure claim and an output claim granted in one
  frame. -/
  | matvec (ctx : Fin 64)
  /-- SCHEDULE (R389). A SCHEDULE descriptor is accepted and owns an image's static dispatches over its frame range. -/
  | schedule (ctx : Fin 64)
  /-- SEND (R386). A SEND descriptor is accepted and becomes a kind-2 claim on a port for a fabric transfer. -/
  | send (ctx : Fin 64)
  /-- COPY (R392). A COPY descriptor is accepted and becomes a vector-unit claim that copies bytes. -/
  | copy (ctx : Fin 64)
  /-- CONVERT (R392). A CONVERT descriptor is accepted and becomes a vector-unit claim that converts formats. -/
  | convert (ctx : Fin 64)
  /-- ELTWISE (R392). An ELTWISE descriptor is accepted and becomes a vector-unit claim for add, multiply, max or min.
  -/
  | eltwise (ctx : Fin 64)
  /-- ACTIVATE (R392). An ACTIVATE descriptor is accepted and becomes a vector-unit claim applying an activation
  function. -/
  | activate (ctx : Fin 64)
  /-- SOFTMAX (R392). A SOFTMAX descriptor is accepted and becomes a vector-unit claim computing softmax along d0. -/
  | softmax (ctx : Fin 64)
  /-- NORM (R392). A NORM descriptor is accepted and becomes a vector-unit claim computing an RMS normalisation. -/
  | norm (ctx : Fin 64)
  /-- DIGITAL_MATVEC (R393). A DIGITAL_MATVEC descriptor is accepted and becomes a vector-unit claim computing a matrix
  product from DRAM weights. -/
  | digitalMatvec (ctx : Fin 64)
  /-- DESC_SYNC (R390). A SYNC descriptor is accepted and completes SERVED when its wait holds, with no claim. -/
  | descSync (ctx : Fin 64)
  /-- ROUTINE (R386). A ROUTINE descriptor is accepted and becomes a claim of claim_kind running a routine of the plate
  image. -/
  | routine (ctx : Fin 64)
  /-- DESC_RESERVED_OPCODE (R386). A descriptor with an unlisted opcode completes FAULTED OPCODE at acceptance. -/
  | descReservedOpcode (ctx : Fin 64)
  /-- CQ_DOORBELL (R381). A write of CMD_CQ_DB consumes records, and waiting records are posted into the freed entries.
  -/
  | cqDoorbell (ctx : Fin 64) (head : BitVec 12)
  /-- RING_ENABLE (R375). A write of 1 to CMD_RING_CTRL.en enables a context's rings after checks, or sets cfg_reject.
  -/
  | ringEnable (ctx : Fin 64)
  /-- RING_DISABLE (R375). A write of 0 to CMD_RING_CTRL.en disables the rings, or is refused while descriptors are
  uncompleted. -/
  | ringDisable (ctx : Fin 64)
  /-- CREATE (R411). CTX_OP op 1 binds a FREE slot from its registers and makes it ACTIVE, clearing its sync objects. -/
  | create (ctx : Fin 64)
  /-- SAVE (R425). CTX_OP op 2 checks and starts saving an ACTIVE context, rejecting doorbells and returning ungranted
  work to waiting. -/
  | save (ctx : Fin 64)
  /-- SAVE_QUIESCED (R425). A save's in-progress work has finished; the accumulator section and context record are
  written and the tiles retained. -/
  | saveQuiesced (ctx : Fin 64)
  /-- RESTORE (R428). CTX_OP op 3 checks a saved record and restores the context into a FREE slot. -/
  | restore (ctx : Fin 64)
  /-- RELEASE (R412). CTX_OP op 4 aborts the context, unloads its images and starts releasing the slot. -/
  | release (ctx : Fin 64)
  /-- RELEASE_DRAINED (R412). No work of a releasing context remains; the rings, timers, sync range and attribution are
  closed. -/
  | releaseDrained (ctx : Fin 64)
  /-- ABORT (R413). CTX_OP op 5 completes every uncompleted descriptor FAULTED ABORTED and disarms the context's
  schedules. -/
  | abort (ctx : Fin 64)
  /-- DISCARD (R411). CTX_OP op 6 unloads a saved context's parked images and frees its sync range. -/
  | discard
  /-- CTX_RESERVED_OP (R410). A CTX_OP write with a reserved op code ends with BAD_OP. -/
  | ctxReservedOp (op : BitVec 3) (ctx : Fin 64)
  /-- SYNC_SIGNAL (R433). A host write of SYNC_SIGNAL adds a value to an owned sync object. -/
  | syncSignal (obj : BitVec 12) (value : BitVec 16)
  /-- SYNC_VAL_WRITE (R433). A host write of SYNC_VALn sets an owned sync object's value. -/
  | syncValWrite (obj : BitVec 12) (value : BitVec 16)
  /-- SYNC_TIMER_ARM (R435). A write enabling a sync timer arms it, refuses it, or fires it at once if its time has
  passed. -/
  | syncTimerArm (timer : Fin 16) (obj : BitVec 12) (value : BitVec 16)
  /-- SYNC_TIMER_FIRE (R435). At the local start of its tick, an armed timer signals its object and clears en. -/
  | syncTimerFire (timer : Fin 16)
  /-- SYNC_CLR_COUNTS (R439). A write of 1 to SYNC_CTRL.clr_counts clears SYNC_CNT. -/
  | syncClrCounts
  /-- PORT_DETECT (R445). When every training condition holds, a DARK port enters DETECT and sends training blocks. -/
  | portDetect (port : Fin 12)
  /-- LANE_SIGNAL (R449). Signal is present on all four lanes and the port moves to EQUALISE. -/
  | laneSignal (port : Fin 12)
  /-- EQUALISE_DONE (R444). Both ends have adapted their equalisers and the port moves to NEGOTIATE. -/
  | equaliseDone (port : Fin 12)
  /-- TRAINING_BLOCK (R447). Eight identical good training blocks are received on every lane and the peer's lane order,
  machine, position and level are checked. -/
  | trainingBlock (port : Fin 12) (lanes : Vector (Vector Byte 64) 4) (polarity : BitVec 4) (now : Word)
  /-- GEN2_EQ_TIMEOUT (R448). Generation-2 equalisation has not completed within 10 ms, so both ends return to
  generation 1 and gen2_failed is set. -/
  | gen2EqTimeout (port : Fin 12)
  /-- TRAINING_TIMEOUT (R449). A training limit expires and the port goes DARK with cause no signal or timeout. -/
  | trainingTimeout (port : Fin 12)
  /-- TRAINING_RETRY (R449). 10 ms, or 1 s after 8 failures, after a failed attempt the port retries training. -/
  | trainingRetry (port : Fin 12)
  /-- FAB_PORT_RETRAIN (R449). A write of FAB_PORTn_CTRL.retrain restarts training at once and clears the failure count.
  -/
  | fabPortRetrain (port : Fin 12)
  /-- FAB_PORT_DISABLE (R475). A write of 0 to FAB_PORTn_CTRL.en makes the port DARK at the next flit boundary with
  cause disabled. -/
  | fabPortDisable (port : Fin 12)
  /-- FAB_PORT_ENABLE (R445). A write of 1 to FAB_PORTn_CTRL.en allows the port to leave DARK. -/
  | fabPortEnable (port : Fin 12)
  /-- FLIT_RECEIVE (R457). A flit arrives, is FEC-decoded and CRC-checked, returns credits, handles ack and nak, and
  passes its transactions on. -/
  | flitReceive (port : Fin 12) (corrected : Option (Fin 9)) (message : Vector Byte 256)
  /-- FLIT_TRANSMIT (R456). Each flit time the transmitter fills slots by precedence and credits, or sends IDLE. -/
  | flitTransmit (port : Fin 12)
  /-- RETRAIN (R458). Repeated naks, ack stall or alignment loss put a port in RETRAIN, which keeps the retry buffer. -/
  | retrain (port : Fin 12)
  /-- RETRAIN_TIMEOUT (R458). A retrain that has not ended within 5 ms, or a third retrain within 1 s, sends the port
  DARK with cause errors. -/
  | retrainTimeout (port : Fin 12)
  /-- FABRIC_WRITE (R454). A WRITE transaction reaches its destination, is checked for job and address, and stores its
  64-byte line. -/
  | fabricWrite (port : Fin 12) (txn : Vector Byte 80)
  /-- CADD (R454). A CADD transaction reaches its destination and makes a compensated add for each masked word. -/
  | cadd (port : Fin 12) (txn : Vector Byte 80)
  /-- SIGNAL (R434). A SIGNAL transaction reaches its destination and signals a sync object of a matching context, or is
  dropped. -/
  | signal (port : Fin 12) (txn : Vector Byte 80)
  /-- RESP (R469). A RESP transaction reaches its origin and tallies answered transactions toward resolving a transfer.
  -/
  | resp (port : Fin 12) (txn : Vector Byte 80)
  /-- RESP_TALLY_FLUSH (R468). 1 µs without a new transaction for a tally entry, the destination sends its RESP. -/
  | respTallyFlush (origin : BitVec 10) (xfer : BitVec 16)
  /-- TRANSFER_TIMEOUT (R469). 8 frames after a transfer's last transaction left, it resolves as timed out. -/
  | transferTimeout (xfer : BitVec 16)
  /-- FAB_CLR_COUNTS (R478). A write of 1 to FAB_CTRL.clr_counts clears the fabric counters. -/
  | fabClrCounts
  /-- HOST_LINK_UP (R479). A host half trains its link and negotiates rate, width and protocol. -/
  | hostLinkUp (half : Fin 2) (rate : BitVec 2) (width : BitVec 5) (protocol : BitVec 2)
  /-- HOST_LINK_DOWN (R500). A half's link goes down and acts as a hot reset of that half; compute continues. -/
  | hostLinkDown (half : Fin 2)
  /-- HOT_RESET (R499). A hot reset of one half resets its configuration space, decoders, MSI-X and sessions. -/
  | hotReset (half : Fin 2)
  /-- FLR (R499). A function-level reset of one half resets part of its configuration space and its MSI-X within 10 ms.
  -/
  | flr (half : Fin 2)
  /-- CXL_RESET (R501). Initiate CXL Reset runs a warm reset on both halves, poisoning reads meanwhile, or is refused in
  DAWN or DUSK. -/
  | cxlReset (half : Fin 2)
  /-- CXL_RESET_DONE (R499). A CXL reset completes and CXL Reset Complete is set. -/
  | cxlResetDone
  /-- CONFIG_REQUEST (R127). A configuration request is served, or receives retry status before cfg_ready. -/
  | configRequest (half : Fin 2) (req : CfgReq)
  /-- HDM_COMMIT (R487). The host commits an HDM decoder, which succeeds only for the fixed DPA ranges. -/
  | hdmCommit (half : Fin 2) (dec : Fin 4) (base : BitVec 52) (size : BitVec 52) (skip : BitVec 52) (ways : BitVec 4)
  /-- POWER_STATE_CHANGE (R483). The host moves a half between D0 and D3hot, stopping or restoring BAR0 decoding and
  MSI-X on that half. -/
  | powerStateChange (half : Fin 2) (d3 : Bool)
  /-- CXL_MEM_READ (R490). A CXL.mem read of a 64-byte line is served from a decoded window, or returns poison when
  unclaimed or uncorrectable. -/
  | cxlMemRead (half : Fin 2) (hpa : BitVec 52) (ecc : BitVec 2)
  /-- CXL_MEM_WRITE (R490). A CXL.mem write with byte enables is applied whole, or dropped when unclaimed. -/
  | cxlMemWrite (half : Fin 2) (hpa : BitVec 52) (data : Line) (be : BitVec 64) (poison : Bool)
  /-- IDENTIFY (R495). The CXL mailbox command Identify returns device identification. -/
  | identify (half : Fin 2)
  /-- GET_EVENT_RECORDS (R495). The CXL mailbox command Get Event Records returns logged event records. -/
  | getEventRecords (half : Fin 2) (log : Fin 4)
  /-- CLEAR_EVENT_RECORDS (R495). The CXL mailbox command Clear Event Records clears logged event records. -/
  | clearEventRecords (half : Fin 2) (log : Fin 4) (handles : List (BitVec 16))
  /-- GET_EVENT_INTERRUPT_POLICY (R495). The CXL mailbox command Get Event Interrupt Policy returns the policy. -/
  | getEventInterruptPolicy (half : Fin 2)
  /-- SET_EVENT_INTERRUPT_POLICY (R495). The CXL mailbox command Set Event Interrupt Policy sets the policy. -/
  | setEventInterruptPolicy (half : Fin 2) (policy : Vector Byte 4)
  /-- GET_FW_INFO (R495). The CXL mailbox command Get FW Info returns firmware information. -/
  | getFwInfo (half : Fin 2)
  /-- GET_TIMESTAMP (R495). The CXL mailbox command Get Timestamp returns the timestamp. -/
  | getTimestamp (half : Fin 2)
  /-- SET_TIMESTAMP (R495). The CXL mailbox command Set Timestamp sets the timestamp. -/
  | setTimestamp (half : Fin 2) (ns : Word64)
  /-- GET_SUPPORTED_LOGS (R495). The CXL mailbox command Get Supported Logs lists the Command Effects Log. -/
  | getSupportedLogs (half : Fin 2)
  /-- GET_LOG (R495). The CXL mailbox command Get Log returns the Command Effects Log. -/
  | getLog (half : Fin 2) (cel : Bool) (start : BitVec 16) (length : BitVec 16)
  /-- IDENTIFY_MEMORY_DEVICE (R495). The CXL mailbox command Identify Memory Device reports 196 volatile units of 256
  MiB. -/
  | identifyMemoryDevice (half : Fin 2)
  /-- GET_PARTITION_INFO (R495). The CXL mailbox command Get Partition Info returns partition information. -/
  | getPartitionInfo (half : Fin 2)
  /-- GET_HEALTH_INFO (R495). The CXL mailbox command Get Health Info reports the hottest die and Maintenance Needed
  while a tile is worn. -/
  | getHealthInfo (half : Fin 2)
  /-- GET_POISON_LIST (R495). The CXL mailbox command Get Poison List returns poisoned locations. -/
  | getPoisonList (half : Fin 2) (addr : BitVec 40) (lines : BitVec 32)
  /-- CXL_MBOX_UNSUPPORTED (R495). Any other CXL mailbox opcode returns Unsupported. -/
  | cxlMboxUnsupported (half : Fin 2) (opcode : BitVec 16)
  /-- CDAT_READ (R492). A DOE table-access request returns the CDAT with one DSMAS per window. -/
  | cdatRead (half : Fin 2)
  /-- SPDM_NEGOTIATE (R503). SPDM version and algorithm negotiation settles on version 1.2 with P-384, SHA-384 and
  AES-256-GCM. -/
  | spdmNegotiate (half : Fin 2) (version : BitVec 8) (algorithms : Bool)
  /-- GET_DIGESTS (R503). SPDM GET_DIGESTS returns the certificate-chain digest of slot 0. -/
  | getDigests (half : Fin 2)
  /-- GET_CERTIFICATE (R503). SPDM GET_CERTIFICATE returns the device certificate chain. -/
  | getCertificate (half : Fin 2) (slot : BitVec 4) (start : BitVec 16) (length : BitVec 16)
  /-- CHALLENGE (R503). SPDM CHALLENGE answers with a signed challenge response. -/
  | challenge (half : Fin 2) (slot : BitVec 4) (nonce : Vector Byte 32)
  /-- GET_MEASUREMENTS (R504). SPDM GET_MEASUREMENTS returns the signed measurement blocks of the requested indices. -/
  | getMeasurements (half : Fin 2) (index : BitVec 8) (nonce : Vector Byte 32)
  /-- KEY_EXCHANGE (R503). SPDM KEY_EXCHANGE opens a secure session, or returns Busy when two are open. -/
  | keyExchange (half : Fin 2) (exchange : List Byte)
  /-- FINISH (R503). SPDM FINISH completes secure-session establishment. -/
  | finish (half : Fin 2) (session : BitVec 16) (verified : Bool)
  /-- KEY_UPDATE (R503). SPDM KEY_UPDATE updates a session's keys. -/
  | keyUpdate (half : Fin 2) (session : BitVec 16)
  /-- END_SESSION (R503). SPDM END_SESSION closes a secure session. -/
  | endSession (half : Fin 2) (session : BitVec 16)
  /-- KEY_PROG (R505). IDE_KM KEY_PROG programs IDE keys on a CXL 3.1 half, or is refused with a non-zero status
  elsewhere. -/
  | keyProg (half : Fin 2) (session : BitVec 16) (mem : Bool) (key : BitVec 256)
  /-- K_SET_GO (R505). IDE_KM K_SET_GO activates a programmed IDE stream. -/
  | kSetGo (half : Fin 2) (session : BitVec 16) (mem : Bool)
  /-- IDE_FAIL (R507). An IDE integrity check fails, the data is discarded and the half's link goes down. -/
  | ideFail (half : Fin 2)
  /-- HOST_REQ (R512). A write of HOST_SB_REQ.host_req sets HOST_SB_ALERT bit 4. -/
  | hostReq
  /-- HOST_CLR_COUNTS (R516). A write of 1 to HOST_CTRL.clr_counts clears the HOST counters. -/
  | hostClrCounts
  /-- SB_IDENTITY (R510). Sideband command IDENTITY returns the 24-byte identity block at any time. -/
  | sbIdentity
  /-- SB_READ (R511). Sideband command READ returns a BAR0 word, or DENIED or ALIGN. -/
  | sbRead (off : Word)
  /-- SB_WRITE (R511). Sideband command WRITE writes a BAR0 word in the PWR, THM and ISL blocks or the alert registers,
  or is denied. -/
  | sbWrite (off : Word) (value : Word) (pecOk : Bool)
  /-- SB_LAST_STATUS (R509). Sideband command LAST_STATUS returns the status of the last WRITE. -/
  | sbLastStatus
  /-- SB_UNKNOWN_COMMAND (R509). A sideband command of another code, or before sb_ready, is NACKed at the command byte.
  -/
  | sbUnknownCommand (code : Byte)
  /-- ALERT_RESPONSE (R512). In SMBus mode the package answers the Alert Response Address with its address and releases
  ALERT_N. -/
  | alertResponse
  /-- SETDASA (R513). I3C CCC SETDASA assigns a dynamic address from the static address. -/
  | setdasa (static : BitVec 7) (dyn : BitVec 7)
  /-- ENTDAA (R513). I3C CCC ENTDAA takes part in dynamic address assignment. -/
  | entdaa (dyn : BitVec 7)
  /-- RSTDAA (R513). I3C CCC RSTDAA resets the dynamic address. -/
  | rstdaa
  /-- GETPID (R513). I3C CCC GETPID returns the provisioned ID. -/
  | getpid
  /-- GETBCR (R513). I3C CCC GETBCR returns BCR 0x00. -/
  | getbcr
  /-- GETDCR (R513). I3C CCC GETDCR returns DCR 0x00. -/
  | getdcr
  /-- GETSTATUS (R513). I3C CCC GETSTATUS returns the target status. -/
  | getstatus
  /-- GETMWL (R513). I3C CCC GETMWL returns the maximum write length. -/
  | getmwl
  /-- GETMRL (R513). I3C CCC GETMRL returns the maximum read length. -/
  | getmrl
  /-- SB_SCL_TIMEOUT (R515). SB_SCL held low for 25 ms resets the target's protocol state and discards the last command.
  -/
  | sbSclTimeout
  /-- VHOLD_EXHAUSTED (R548). With VAUX and VBAT absent, VHOLD falls below 2.4 V and the island enters COLD, losing its
  always-on state. -/
  | vholdExhausted
  /-- BUDGET_SAMPLE (R520). Every millisecond the island measures VBAT and VHOLD and recomputes the hold-up budget. -/
  | budgetSample (vbat : BitVec 16) (vhold : BitVec 16) (mah : BitVec 8)
  /-- JOURNAL_COMMIT (R522). A journal commit writes the pending deltas and records, and when it ends in HOLD the island
  goes to STANDBY. -/
  | journalCommit (readbackBad : Bool)
  /-- BATT_LOW (R524). The battery-low flag is set on low VBAT or used capacity, or clears after 10 s without either
  condition. -/
  | battLow
  /-- BATT_NEW_CELL (R524). A write of BATT_CFG.new_cell clears used_mah. -/
  | battNewCell
  /-- ISLAND_BOOT (R526). The island boot ROM checks both firmware copies and starts the newest passing one, or ROM
  mode, then the journal is rebuilt. -/
  | islandBoot
  /-- GET_INFO (R537). Island mailbox command GET_INFO returns the 32-byte island status. -/
  | getInfo (ch : Fin 2)
  /-- REG_READ (R534). Island mailbox command REG_READ returns an internal island register. -/
  | regRead (ch : Fin 2)
  /-- REG_WRITE (R534). Island mailbox command REG_WRITE writes an internal island register. -/
  | regWrite (ch : Fin 2)
  /-- FW_WRITE (R534). Island mailbox command FW_WRITE erases sectors once per session and programs bytes into a
  firmware area. -/
  | fwWrite (ch : Fin 2)
  /-- FW_COMMIT (R529). Island mailbox command FW_COMMIT checks a written firmware area and ends its write session. -/
  | fwCommit (ch : Fin 2)
  /-- FW_ACTIVATE (R529). Island mailbox command FW_ACTIVATE commits the deltas and restarts the island on the newest
  passing copy. -/
  | fwActivate (ch : Fin 2)
  /-- SEAL_ADVANCE (R540). Island mailbox command SEAL_ADVANCE writes a higher seal-counter entry after signature
  checks. -/
  | sealAdvance (ch : Fin 2)
  /-- REVOKE (R536). Island mailbox command REVOKE sets the revoked bit of a key or signer slot after signature checks.
  -/
  | revoke (ch : Fin 2)
  /-- PROVISION (R536). Island mailbox command PROVISION writes a key or signer digest into an empty slot in BENCH at
  level 0. -/
  | provision (ch : Fin 2)
  /-- MBOX_UNKNOWN_COMMAND (R533). An unknown island mailbox command, or one not served in ROM mode, ends with BAD_CMD.
  -/
  | mboxUnknownCommand (ch : Fin 2)
  /-- ISL_CLR_COUNTS (R549). A write of 1 to ISL_CTRL.clr_counts clears the island counters. -/
  | islClrCounts
  /-- SND_NKE (R542). M-Bus SND_NKE is answered 0xE5 and resets the telegram sequence, FCB state or selection. -/
  | sndNke (rate : Fin 3) (addr : Byte)
  /-- REQ_UD2 (R545). M-Bus REQ_UD2 returns the next or repeated RSP_UD telegram of the set, according to the FCB bit.
  -/
  | reqUd2 (rate : Fin 3) (addr : Byte) (fcb : Bool)
  /-- REQ_UD1 (R542). M-Bus REQ_UD1 is answered 0xE5; the slave has no alarm data. -/
  | reqUd1 (rate : Fin 3) (addr : Byte)
  /-- APPLICATION_RESET (R542). M-Bus SND_UD with CI 0x50 resets the telegram sequence and is answered 0xE5. -/
  | applicationReset (rate : Fin 3) (addr : Byte)
  /-- SET_PRIMARY_ADDRESS (R543). M-Bus SND_UD with CI 0x51 and the address record changes and journals the primary
  address. -/
  | setPrimaryAddress (rate : Fin 3) (addr : Byte) (value : Byte)
  /-- SELECTION (R544). M-Bus SND_UD with CI 0x52 to address 253 selects or deselects the slave by secondary address. -/
  | selection (rate : Fin 3) (secondary : Vector Byte 8)
  /-- SET_BAUD_RATE (R541). M-Bus SND_UD with CI 0xB8 to 0xBF is acknowledged 0xE5 and changes nothing. -/
  | setBaudRate (rate : Fin 3) (addr : Byte) (ci : Byte)
  /-- MBUS_FRAME_DISCARD (R546). An M-Bus frame with a character, byte, length, checksum or pause error is discarded
  with no answer. -/
  | mbusFrameDiscard
  /-- FLOW_MEASUREMENT (R552). A downstream and an upstream transit are timed by the TDC and judged valid or invalid. -/
  | flowMeasurement (chan : Fin 2) (down : Option Int) (up : Option Int)
  /-- SWAP_BLOCK_END (R554). A swapped block of 64 measurements ends and the zero offset estimate is updated. -/
  | swapBlockEnd (chan : Fin 2)
  /-- FLOW_CYCLE_END (R555). A flow cycle ends: flow, volume and heat are computed and events are evaluated. -/
  | flowCycleEnd
  /-- TEMP_CYCLE_END (R560). A temperature cycle measures the four RTD sensors and converts them to temperatures. -/
  | tempCycleEnd (sensors : Vector Rtd 4)
  /-- RAIL_SAMPLE (R563). In AUX each rail channel samples voltage and shunt current and adds its energy. -/
  | railSample (rails : Vector RailSample 4)
  /-- STANDBY_WAKE (R518). In STANDBY the run domain wakes for a measurement, an interval boundary or an M-Bus start
  bit. -/
  | standbyWake (reason : Fin 3)
  /-- BINDING_MESSAGE (R565). The control die sends a binding message that opens or closes a slot's attribution. -/
  | bindingMessage (isOpen : Bool) (ctx : Fin 64) (tenant : BitVec 10) (job : BitVec 16) (bench : Bool) (frame : BitVec 48)
  /-- CONTEXT_MARK (R567). A context mark for a frame arrives and the frame's energy is split over slots and overhead.
  -/
  | contextMark (frame : BitVec 48) (frames : BitVec 9) (charges : List (Fin 64 × BitVec 24))
  /-- ISLAND_FRAME_MARK (R567). The frame-mark line pulses at the island and closes a frame's energy sample window. -/
  | islandFrameMark (frame : BitVec 48)
  /-- MARK_EXPIRY (R570). A frame whose mark has not arrived 512 frames after it ends has its energy given to overhead.
  -/
  | markExpiry
  /-- HEAT_SPLIT (R568). Once all frames of a flow cycle are attributed or expired, the cycle's heat is split in
  proportion to the electrical shares. -/
  | heatSplit
  /-- RTC_SECOND (R571). Each RTC second the island compares the RTC with horizon time and corrects it when the two
  differ by 2 s or more. -/
  | rtcSecond
  /-- RTC_SET (R572). A write of MTR_RTC sets the real-time counter and may end the current interval short. -/
  | rtcSet (value : Word)
  /-- INTERVAL_END (R572). At an RTC multiple of 900 the billing interval closes, MTR_INTERVAL advances and a commit
  follows. -/
  | intervalEnd
  /-- CAL_WRITE (R575). A write of an unlocked calibration register is journalled and takes effect at the next cycle
  start. -/
  | calWrite (off : BitVec 12) (value : Word)
  /-- CAL_LOCK (R575). A write of MTR_CAL_LOCK.lock locks the calibration registers until a mass erase. -/
  | calLock
  /-- MTR_CLR_COUNTS (R585). A write of 1 to MTR_CTRL.clr_counts clears the MTR counters but not the cumulative
  registers. -/
  | mtrClrCounts
  /-- PROGRAM (R590). Flash command PROGRAM blank-checks, programs and reads back one word. -/
  | program (word : BitVec 17) (value : Word64) (readbackBad : Bool)
  /-- ERASE (R591). Flash command ERASE brackets a sector erase in the erase log and starts it, or refuses it with
  BUSY_ENERGY. -/
  | erase (bank : Bool) (sector : BitVec 8)
  /-- ERASE_DONE (R591). A sector erase finishes its pulses and verify, writing DONE, or ends ERASE_FAIL. -/
  | eraseDone (blank : Bool)
  /-- SUSPEND (R596). Flash command SUSPEND suspends the active erase or program, or is refused. -/
  | suspend
  /-- RESUME (R597). Flash command RESUME continues the innermost suspended operation, re-checking the energy budget for
  an erase. -/
  | resume
  /-- BLANK_CHECK (R589). Flash command BLANK_CHECK checks that one sector is blank. -/
  | blankCheck (bank : Bool) (sector : BitVec 8)
  /-- MASS_ERASE (R602). Flash command MASS_ERASE erases bank A, the ring, sector 2 and the log, then restarts the
  island in ROM mode. -/
  | massErase
  /-- OPTION (R601). Flash command OPTION writes a higher protection word, or ends PROTECTED. -/
  | option (level : BitVec 2)
  /-- FLS_HOST_READ (R599). A write of FLS_HADDR starts a host read of one flash word, served, retried or denied. -/
  | flsHostRead (addr : BitVec 20)
  /-- PROT_RAISE (R601). A write of FLS_PROT_REQ with a higher level and the key raises the read-out protection level.
  -/
  | protRaise (level : BitVec 2) (key : BitVec 16)
  /-- PROT_LOWER (R602). A write of FLS_PROT_REQ lowering level 1 to 0 in BENCH starts a mass erase, or ends PROTECTED.
  -/
  | protLower (key : BitVec 16)
  /-- FLS_CLR_COUNTS (R617). A write of 1 to FLS_CTRL.clr_counts clears the FLS counters. -/
  | flsClrCounts
  /-- PATROL (R594). Every 24 hours in AUX the controller reads every live sector and reports correction warnings. -/
  | patrol (hits : List PatrolHit)
  /-- ERASE_AHEAD (R607). With fewer than 4 sectors erased ahead, the controller erases the next stale ring sector,
  first writing a checkpoint if it is the tail. -/
  | eraseAhead
  /-- HOUSEKEEPING_ROUND (R619). Every 1 ms the scanner reads the diodes, checks bias and rails and evaluates suspects,
  levels, steps and shutdown. -/
  | housekeepingRound (diodes : Vector (Option Int) 8) (biasOk : BitVec 4) (railGood : BitVec 6)
  /-- THM_THR_WRITE (R629). A write of THM_THR or THM_RATE is accepted, restarting the level counts, or rejected with
  cfg_reject. -/
  | thmThrWrite (rate : Bool) (value : Word)
  /-- THM_PAIR_WRITE (R628). A write of THM_PAIRk changes a neighbour pair's offset and slope and restarts the suspect
  counts. -/
  | thmPairWrite (pair : Fin 9) (value : Word)
  /-- THM_LOCK (R629). A write of THM_CTRL.lock locks the thresholds, rates and pairs until a conventional reset. -/
  | thmLock
  /-- THM_CLR_COUNTS (R644). A write of 1 to THM_CTRL.clr_counts clears the THM counters. -/
  | thmClrCounts
  /-- PMU_START (R648). A write of PMU_START starts the counters in its mask. -/
  | pmuStart (mask : Word)
  /-- PMU_STOP (R648). A write of PMU_STOP stops the counters in its mask. -/
  | pmuStop (mask : Word)
  /-- PMU_SNAP (R648). A write of PMU_SNAP copies the counters in its mask to their snapshots. -/
  | pmuSnap (mask : Word)
  /-- PMU_CLR (R648). A write of PMU_CLR sets the counters in its mask to 0. -/
  | pmuClr (mask : Word)
  /-- PMU_CFG_WRITE (R646). A write of PMU_CFGn selects an event and filter, or is rejected with cfg_reject. -/
  | pmuCfgWrite (counter : Fin 32) (value : Word)
  /-- PMU_CNT_WRITE (R646). A write of PMU_CNTn sets a stopped counter, or is ignored with cfg_reject while it runs. -/
  | pmuCntWrite (counter : Fin 32) (high : Bool) (value : Word)
  /-- PMU_TRIGGER_ARM (R651). A write of PMU_TRIGk_CFG with armed set arms a horizon trigger, which fires at once if its
  time has passed. -/
  | pmuTriggerArm (trigger : Fin 4) (action : BitVec 2)
  /-- PMU_TRIGGER_FIRE (R651). At the local start of its tick an armed trigger starts, stops or snapshots its counters.
  -/
  | pmuTriggerFire (trigger : Fin 4)
  /-- PMU_OVERFLOW (R653). A counter passes 2^48 − 1, wraps, sets its overflow bit and may send the PMU vector. -/
  | pmuOverflow (counter : Fin 32) (inc : BitVec 16)
  /-- FLOG_CLEAR (R654). A write of GEN_FLOG_CTRL.clear empties the fault log. -/
  | flogClear
  /-- TAP_RESET (R657). TRST_N low, or five TCK cycles with TMS high, resets both TAPs with no effect on the package. -/
  | tapReset
  /-- BYPASS (R658). TAP instruction BYPASS selects the 1-bit bypass register. -/
  | bypass (island : Bool)
  /-- IDCODE (R658). TAP instruction IDCODE selects the 32-bit identification register. -/
  | idcode (island : Bool)
  /-- SAMPLE_PRELOAD (R658). TAP instruction SAMPLE/PRELOAD selects the boundary register without driving balls. -/
  | samplePreload (island : Bool)
  /-- EXTEST (R660). TAP instruction EXTEST drives the boundary balls when the state permits, or is refused and acts as
  BYPASS. -/
  | extest (island : Bool)
  /-- CLAMP (R660). TAP instruction CLAMP holds the boundary outputs when permitted, or is refused. -/
  | clamp (island : Bool)
  /-- HIGHZ (R660). TAP instruction HIGHZ floats the boundary outputs when permitted, or is refused. -/
  | highz (island : Bool)
  /-- DBG_READ (R662). TAP instruction DBG_READ reads a BAR0 offset at Update-DR when the state and protection level
  permit. -/
  | dbgRead (off : BitVec 22)
  /-- DBG_WRITE (R662). TAP instruction DBG_WRITE writes a BAR0 offset at Update-DR when the state and protection level
  permit. -/
  | dbgWrite (off : BitVec 22) (value : Word)
  /-- SYMBOL_ERROR (R112). A horizon tick whose high time fits no symbol, or a symbol not permitted at its position, is
  counted in HZN_ERR0.symbol_errors. -/
  | symbolError (tick : BitVec 11)
  /-- LOSS_OF_SIGNAL (R83). The signal on the lanes of a trained fabric port disappears because the peer went DARK or
  lost power, and the port goes DARK with cause no signal. -/
  | lossOfSignal (port : Fin 12)
  /-- CLK_UNGATE_DONE (R158). Ungating of a block completes within 1 µs of the write, CLK_GATE_STAT.gated reads 0, and a
  gating write made meanwhile becomes a new request. -/
  | clkUngateDone (blk : Fin 15)
  /-- EVENT_ENABLE_WRITE (R498). A write of 1 to an interrupt enable bit whose event bit is already set sends the
  block's MSI-X vector once. -/
  | eventEnableWrite (half : Fin 2) (off : BitVec 22) (value : Word)
  /-- MSIX_VECTOR_UNMASK (R496). The host clears the mask of an MSI-X vector whose PBA bit is pending, and the vector is
  then sent. -/
  | msixVectorUnmask (half : Fin 2) (vector : Fin 64)
  /-- DOE_DISCOVERY (R483). A DOE discovery request on a half's DOE mailbox is answered with the supported protocols. -/
  | doeDiscovery (half : Fin 2) (index : Byte)
  deriving DecidableEq, Repr

end Sys2Proof
end

