-- ==== Sys2Proof/Decode.lean ====
section
/-!
DEFINITION. Sys2Proof/Decode.lean: spec/opcode_table.json gives no row any bits, since the package takes commands from its pins,
links and registers and fetches no instruction words of its own kind; so no word spells a command. The micro-words,
nano-words, descriptors and transactions the package does decode are read in Machine/Micro.lean, Machine/Desc.lean and
Machine/Link.lean.
-/

namespace Sys2Proof

/-- The command a word of the table's bits spells: none, as no row has bits. -/
def decodeTableWord (_nbits _w : Nat) : Option Instr := none

end Sys2Proof
end

