-- ==== Sys2Proof/Config.lean ====
section
/-!
DEFINITION. Sys2Proof/Config.lean: what the spec fixes outside itself or leaves open, as constants with no body:
free values (R11 and every value the spec does not state), the cryptographic standards the spec names, and the data a
package carries from manufacture. Nothing can evaluate one, so whatever is proved holds for every choice of them. The
numbers the spec itself fixes stand with the definitions that use them.
-/

namespace Sys2Proof

/-- The free value number `n`: `State.freeIx` says how many have been used, so each use is a fresh one. -/
opaque Config.free : Nat → Nat

/-- SHA-384 of a byte string, as a 384-bit number (R178, R504). -/
opaque Config.sha384 : List Byte → Nat

/-- ECDSA P-384 verification: public key, digest, signature bytes (R178). -/
opaque Config.ecdsaVerify : List Byte → Nat → List Byte → Bool

/-- AES-256-GCM: key-slot key, iv, additional data, ciphertext, tag; the plaintext when the tag verifies (R179). -/
opaque Config.gcmOpen : Nat → Nat → List Byte → List Byte → List Byte → Option (List Byte)

/-- ECDSA P-384 signature by the package's device key (R503, R504). -/
opaque Config.deviceSign : List Byte → List Byte

/-- The device certificate chain of slot 0 (R503). -/
opaque Config.certChain : List Byte

/-- The 64-bit Device Serial Number (R481, R510). -/
opaque Config.serial : Nat

/-- The images in read-only stores: micro-ROM word, nano-ROM word at an address (R340), the boot ROM's digest (R504). -/
opaque Config.romMicro : Nat → Nat
opaque Config.romNano : Nat → Nat

/-- Where the nano-words of the two built-in routines stand among 1 to 95 (R386): two numbers. -/
opaque Config.builtinNano : Nat → Nat
opaque Config.bootRomDigest : Nat

/-- The key a provisioned key slot holds (R539). -/
opaque Config.slotKey : Nat → Nat

/-- The DRAM stack that holds a 64-byte line: the spec gives no interleave of the two stacks (R53, R82). -/
opaque Config.stackOf : Nat → Nat

/-- The factory contact sheet: packed TILE_TRIM word of a tile and column (R224). -/
opaque Config.contactSheet : Nat → Nat → Nat

/-- How far one program pulse moves a cell (R310): SET or RESET, its amplitude in mV, the conductance it meets, the pulse's
number. -/
opaque Config.pulse : Bool → Nat → Nat → Nat → Nat

/-- What an erased pair, or a fog pair as the factory left it, holds (R206): tile, its erases so far, the value's number. -/
opaque Config.blankCell : Nat → Nat → Nat → Nat

/-- How far a cell falls in one hour (R325): tile, the cell's number, the hour. -/
opaque Config.drift : Nat → Nat → Nat → Nat

/-- The systematic error of a column (R227): the term, tile, column, and what else it depends on. -/
opaque Config.columnError : Nat → Nat → Nat → Nat → Nat

end Sys2Proof
end

