-- ==== Sys2Proof/Machine/Bits.lean ====
section
/-!
DEFINITION. Sys2Proof/Machine/Bits.lean: bit fields, byte order, two's complement, saturation, rounding and the
cyclic redundancy checks, each written once. R5 (bit 0 least significant, little-endian), R12 (bit ranges),
R88 and R89 (CRC-16), and the CRC-32 of the image, ring and flash records.
-/

namespace Sys2Proof.Machine

/-- Bits `[lo + w - 1 : lo]` of `n` (R12). -/
def bits (n lo w : Nat) : Nat := n / 2 ^ lo % 2 ^ w

/-- Bit `i` of `n`. -/
def bitAt (n i : Nat) : Bool := n / 2 ^ i % 2 == 1

/-- 1 for true. -/
def b2n (b : Bool) : Nat := if b then 1 else 0

/-- Bitwise OR, AND-NOT of register contents. -/
def orBits (a b : Nat) : Nat := Nat.lor a b
def clearBits (a b : Nat) : Nat := a - Nat.land a b

/-- The signed value of the low `w` bits of `n` (two's complement). -/
def toSigned (w n : Nat) : Int :=
  let m := n % 2 ^ w
  if m < 2 ^ (w - 1) then (m : Int) else (m : Int) - 2 ^ w

/-- The `w`-bit two's complement of `i`. -/
def fromSigned (w : Nat) (i : Int) : Nat := (i % 2 ^ w).toNat

/-- `i` limited to `lo`–`hi`, both included. -/
def clampInt (lo hi i : Int) : Int := if i < lo then lo else if hi < i then hi else i

/-- `a + n`, stopping at `2 ^ w - 1`. -/
def satAdd (w a n : Nat) : Nat := if a + n < 2 ^ w then a + n else 2 ^ w - 1

/-- `num / den` rounded to the nearest integer, halves away from zero. -/
def roundHalfAway (num den : Int) : Int :=
  let d := den.natAbs
  let n := num.natAbs
  let q : Int := (((2 * n + d) / (2 * d) : Nat) : Int)
  if (decide (num < 0)) != (decide (den < 0)) then -q else q

/-- `num / den` rounded to the nearest integer, halves to the even neighbour; `den` is positive. -/
def roundHalfEven (num den : Int) : Int :=
  let q := Int.fdiv num den
  let r := num - q * den
  if 2 * r < den then q else if den < 2 * r then q + 1 else if q % 2 = 0 then q else q + 1

/-- A natural number as `n` little-endian bytes (R5). -/
def toLE : Nat → Nat → List Byte
  | 0, _ => []
  | n + 1, v => BitVec.ofNat 8 v :: toLE n (v / 256)

/-- The number little-endian bytes spell (R5). -/
def ofLE : List Byte → Nat
  | [] => 0
  | b :: bs => b.toNat + 256 * ofLE bs

/-- `n` bytes of `bs` from position `i`, as a little-endian number; bytes past the end read 0. -/
def leAt (bs : List Byte) (i n : Nat) : Nat := ofLE ((bs.drop i).take n)

/-- One bit through a CRC register of width `w`, most significant bit first. -/
def crcBit (w poly reg : Nat) (b : Bool) : Nat :=
  let top := bitAt reg (w - 1) != b
  let sh := reg * 2 % 2 ^ w
  if top then Nat.xor sh poly else sh

/-- The eight bits of a byte, bit 7 first. -/
def bitsMSB (b : Byte) : List Bool :=
  [b.getLsbD 7, b.getLsbD 6, b.getLsbD 5, b.getLsbD 4, b.getLsbD 3, b.getLsbD 2, b.getLsbD 1, b.getLsbD 0]

/-- The eight bits of a byte, bit 0 first. -/
def bitsLSB (b : Byte) : List Bool :=
  [b.getLsbD 0, b.getLsbD 1, b.getLsbD 2, b.getLsbD 3, b.getLsbD 4, b.getLsbD 5, b.getLsbD 6, b.getLsbD 7]

/-- `w` bits of a number, most significant first. -/
def natBitsMSB : Nat → Nat → List Bool
  | 0, _ => []
  | w + 1, n => bitAt n w :: natBitsMSB w n

/-- CRC-16 of a bit string: polynomial 0x1021, initial value 0xFFFF, no final inversion (R88). -/
def crc16Bits (l : List Bool) : Nat := l.foldl (crcBit 16 0x1021) 0xFFFF

/-- CRC-16 of bytes, bit 7 of each byte first (R89). -/
def crc16 (bs : List Byte) : Nat := crc16Bits (bs.flatMap bitsMSB)

/-- One bit through the reflected CRC-32 register (polynomial 0x04C11DB7, least significant bit first). -/
def crc32Bit (reg : Nat) (b : Bool) : Nat :=
  if (reg % 2 == 1) != b then Nat.xor (reg / 2) 0xEDB88320 else reg / 2

/-- CRC-32 (IEEE 802.3): initial value 0xFFFFFFFF, reflected, final inversion. -/
def crc32 (bs : List Byte) : Nat :=
  Nat.xor ((bs.flatMap bitsLSB).foldl crc32Bit 0xFFFFFFFF) 0xFFFFFFFF

end Sys2Proof.Machine
end

