-- ==== Sys2Proof/Machine/Numeric.lean ====
section
/-!
DEFINITION. Sys2Proof/Machine/Numeric.lean: the number formats of spec/08 and the exact arithmetic of the output stage
and of the compensated add of spec/09: rounding to INT8 and BF16 (R257, R258, R281, R282), the stochastic-rounding LFSR
(R259, R260), FP32 with round to nearest even (R285, R286), COMP64 words (R284), top-k ranking (R283).
-/

namespace Sys2Proof.Machine

/-- An exact binary fraction: `num / 2 ^ frac`. -/
structure Dyadic' where
  num : Int
  frac : Nat
  deriving DecidableEq, Repr

/-- The rounding modes of an output (R257). -/
inductive Rounding where
  | nearest | stochastic
  deriving DecidableEq, Repr

/-! ### The LFSR (R259, R260) -/

/-- One step of the 24-bit LFSR. -/
def lfsrStep (s : Nat) : Nat :=
  let fb := b2n (((bitAt s 23 != bitAt s 22) != bitAt s 21) != bitAt s 16)
  (s * 2 + fb) % 2 ^ 24

/-- `n` steps. -/
def lfsrSteps : Nat → Nat → Nat
  | 0, s => s
  | n + 1, s => lfsrSteps n (lfsrStep s)

/-- The seed of channel `j` (R260). -/
def lfsrSeed (base ctx j : Nat) : Nat :=
  let s := (base + ctx + j * 0x9E3779) % 2 ^ 24
  if s = 0 then 1 else s

/-! ### Integer rounding (R257, R281) -/

/-- ρ of R257 for `num / 2 ^ f`; in stochastic mode with f above 24, y is first rounded down to 24 fractional bits. -/
def roundInt (mode : Rounding) (y : Dyadic') (lfsr : Nat) : Int :=
  if y.frac = 0 then y.num else
  match mode with
  | .nearest =>
    let m : Int := (((y.num.natAbs + 2 ^ (y.frac - 1)) / 2 ^ y.frac : Nat) : Int)
    if y.num < 0 then -m else m
  | .stochastic =>
    let f := min y.frac 24
    let a := Int.fdiv y.num (2 ^ (y.frac - f))
    Int.fdiv (a + ((lfsr % 2 ^ f : Nat) : Int)) (2 ^ f)

/-- The INT8 code of R257 with zero point `z`, and whether it was clamped. -/
def int8Code (mode : Rounding) (y : Dyadic') (z lfsr : Nat) : Nat × Bool :=
  let q := roundInt mode y lfsr + (z : Int)
  ((clampInt 0 255 q).toNat, decide (q < 0 ∨ 255 < q))

/-! ### BF16 (R241, R258, R282) -/

/-- Number of significant bits. -/
def bitLen (n : Nat) : Nat := if n = 0 then 0 else n.log2 + 1

/-- The magnitude `m`, `d` significant bits beyond `keep` being dropped by the mode; the result counts units of 2^d. -/
def roundMag (mode : Rounding) (keep m lfsr : Nat) : Nat × Nat :=
  let d := bitLen m - keep
  if d = 0 then (m, 0) else
  match mode with
  | .nearest => ((roundHalfEven (m : Int) (2 ^ d)).toNat, d)
  | .stochastic =>
    if d ≤ 24 then ((m + lfsr % 2 ^ d) / 2 ^ d, d)
    else ((m / 2 ^ (d - 24) + lfsr % 2 ^ 24) / 2 ^ 24, d)

/-- The BF16 pattern of a non-zero `± q * 2 ^ e` with q of at most 9 bits: infinity above the largest finite value,
zero below 2^−126 (R282). -/
def packBF16 (neg : Bool) (q : Nat) (e : Int) : Nat :=
  let s := if neg then 0x8000 else 0
  let n := bitLen q
  let top : Int := e + (n : Int) - 1
  let frac := if n ≤ 8 then q * 2 ^ (8 - n) else q / 2 ^ (n - 8)
  if q = 0 then s
  else if 127 < top then s + 0x7F80
  else if top < -126 then s
  else s + (top + 127).toNat * 128 + frac % 128

/-- BF16 of an exact value (R258); zero writes +0. The bits dropped are counted on R281's A′ also where nothing is fused and o_c > 0, where
R258 counts them on A (DESIGN CHOICE, log 137). -/
def bf16Of (mode : Rounding) (y : Dyadic') (lfsr : Nat) : Nat :=
  if y.num = 0 then 0 else
  match roundMag mode 8 y.num.natAbs lfsr with
  | (q, d) => packBF16 (decide (y.num < 0)) q ((d : Int) - (y.frac : Int))

/-- A float read from its bits. -/
inductive FloatVal where
  | nan
  | inf (neg : Bool)
  /-- `± m * 2 ^ e`; m = 0 is a signed zero. -/
  | fin (neg : Bool) (m : Nat) (e : Int)
  deriving DecidableEq, Repr

/-- A BF16 pattern as the package reads it: subnormals are zeros (R241). -/
def readBF16 (w : Nat) : FloatVal :=
  let neg := bitAt w 15
  let ex := bits w 7 8
  let fr := bits w 0 7
  if ex = 255 then (if fr = 0 then .inf neg else .nan)
  else if ex = 0 then .fin neg 0 0
  else .fin neg (128 + fr) ((ex : Int) - 134)

/-- The exact value of a finite float as a binary fraction. -/
def FloatVal.exact : FloatVal → Dyadic'
  | .fin neg m e =>
    let n : Int := if neg then -(m : Int) else m
    if e < 0 then ⟨n, (-e).toNat⟩ else ⟨n * 2 ^ e.toNat, 0⟩
  | _ => ⟨0, 0⟩

/-- Exact sum and product. -/
def Dyadic'.add (a b : Dyadic') : Dyadic' :=
  let f := max a.frac b.frac
  ⟨a.num * 2 ^ (f - a.frac) + b.num * 2 ^ (f - b.frac), f⟩
def Dyadic'.mul (a b : Dyadic') : Dyadic' := ⟨a.num * b.num, a.frac + b.frac⟩

/-- Exact comparison. -/
def Dyadic'.lt (a b : Dyadic') : Bool := decide (a.num * 2 ^ b.frac < b.num * 2 ^ a.frac)

/-- `A * 2 ^ o` (R250). -/
def shiftOut (a : Int) (o : Int) : Dyadic' :=
  if o < 0 then ⟨a, (-o).toNat⟩ else ⟨a * 2 ^ o.toNat, 0⟩

/-- The fused operand of a run (R280, R282). -/
inductive Fused where
  | none
  /-- INT8 element with zero point and fuse shift. -/
  | int8 (mul : Bool) (q z : Nat) (shift : Int)
  | bf16 (mul : Bool) (w : Nat)
  deriving DecidableEq, Repr

/-- What a channel comes to before rounding: an exact number, or one of the table rows of R282 already decided. -/
inductive Fusion where
  | num (y : Dyadic')
  /-- BF16 fused operand: exact value and the sign an exact zero takes. -/
  | bfNum (y : Dyadic') (zeroNeg : Bool)
  | nan
  | inf (neg : Bool)
  deriving DecidableEq, Repr

/-- y′ of R280–R282. -/
def fuse (y : Dyadic') : Fused → Fusion
  | .none => .num y
  | .int8 mul q z s =>
    let v := shiftOut ((q : Int) - (z : Int)) s
    .num (if mul then y.mul v else y.add v)
  | .bf16 mul w =>
    match readBF16 w with
    | .nan => .nan
    | .inf neg => if mul then (if y.num = 0 then .nan else .inf (neg != decide (y.num < 0))) else .inf neg
    | .fin neg m e =>
      let v := (FloatVal.fin neg m e).exact
      if mul then .bfNum (y.mul v) (neg != decide (y.num < 0)) else .bfNum (y.add v) false

/-- The BF16 code of a fused result; the flag says it was written as 0x7FC0 (TILE_OUTCNT0.nans). -/
def fusionBF16 (mode : Rounding) (lfsr : Nat) : Fusion → Nat × Bool
  | .num y => (bf16Of mode y lfsr, false)
  | .bfNum y zn => (if y.num = 0 then (if zn then 0x8000 else 0) else bf16Of mode y lfsr, false)
  | .nan => (0x7FC0, true)
  | .inf neg => (if neg then 0xFF80 else 0x7F80, false)

/-! ### FP32 (R285, R286) -/

/-- An FP32 pattern. -/
def readFP32 (w : Nat) : FloatVal :=
  let neg := bitAt w 31
  let ex := bits w 23 8
  let fr := bits w 0 23
  if ex = 255 then (if fr = 0 then .inf neg else .nan)
  else if ex = 0 then .fin neg fr (-149)
  else .fin neg (0x800000 + fr) ((ex : Int) - 150)

/-- `± m * 2 ^ e` rounded to FP32, nearest even; below 2^−126 it becomes a zero of its sign, and the flag says so. -/
def packFP32 (neg : Bool) (m : Nat) (e : Int) : Nat × Bool :=
  let s := if neg then 0x80000000 else 0
  if m = 0 then (s, false) else
  match roundMag .nearest 24 m 0 with
  | (q, d) =>
    let n := bitLen q
    let top : Int := e + (d : Int) + (n : Int) - 1
    let frac := if n ≤ 24 then q * 2 ^ (24 - n) else q / 2 ^ (n - 24)
    if 127 < top then (s + 0x7F800000, false)
    else if top < -126 then (s, true)
    else (s + (top + 127).toNat * 0x800000 + frac % 0x800000, false)

/-- FP32 of an exact value. -/
def fp32Of (y : Dyadic') : Nat × Bool := packFP32 (decide (y.num < 0)) y.num.natAbs (-(y.frac : Int))

/-- FP32 addition; the flag says the result was flushed. -/
def fpAdd (a b : Nat) : Nat × Bool :=
  match readFP32 a, readFP32 b with
  | .nan, _ => (0x7FC00000, false)
  | _, .nan => (0x7FC00000, false)
  | .inf na, .inf nb => if na = nb then (if na then 0xFF800000 else 0x7F800000, false) else (0x7FC00000, false)
  | .inf na, .fin _ _ _ => (if na then 0xFF800000 else 0x7F800000, false)
  | .fin _ _ _, .inf nb => (if nb then 0xFF800000 else 0x7F800000, false)
  | .fin na ma ea, .fin nb mb eb =>
    let e := min ea eb
    let va : Int := (if na then -1 else 1) * ((ma * 2 ^ (ea - e).toNat : Nat) : Int)
    let vb : Int := (if nb then -1 else 1) * ((mb * 2 ^ (eb - e).toNat : Nat) : Int)
    let v := va + vb
    if v = 0 then (if na && nb && ma == 0 && mb == 0 then 0x80000000 else 0, false)
    else packFP32 (decide (v < 0)) v.natAbs e

/-- Negation is a flip of the sign bit. -/
def fpNeg (a : Nat) : Nat := if bitAt a 31 then a - 0x80000000 else a + 0x80000000
def fpSub (a b : Nat) : Nat × Bool := fpAdd a (fpNeg b)

/-- FP32 patterns that are NaN, infinite. -/
def fpIsNaN (a : Nat) : Bool := readFP32 a == .nan
def fpIsInf (a : Nat) : Bool := bits a 23 8 == 255 && bits a 0 23 == 0

/-- The compensated add of R285 with the special cases of R286, on 64-bit words; the flag says some operation flushed. -/
def compAdd (dest inc : Nat) : Nat × Bool :=
  let s := bits dest 0 32
  let c := bits dest 32 32
  let s2 := bits inc 0 32
  let c2 := bits inc 32 32
  let t := fpAdd s s2
  let z := fpSub t.1 s
  let tz := fpSub t.1 z.1
  let e1 := fpSub s tz.1
  let e2 := fpSub s2 z.1
  let e := fpAdd e1.1 e2.1
  let cc := fpAdd c c2
  let c1 := fpAdd cc.1 e.1
  let s3 := fpAdd t.1 c1.1
  let d := fpSub s3.1 t.1
  let c3 := fpSub c1.1 d.1
  let flushed := t.2 || z.2 || tz.2 || e1.2 || e2.2 || e.2 || cc.2 || c1.2 || s3.2 || d.2 || c3.2
  if fpIsNaN s || fpIsNaN c || fpIsNaN s2 || fpIsNaN c2 || fpIsNaN s3.1 then (0x7FC00000, flushed)
  else if fpIsInf s3.1 then (s3.1, flushed)
  else (s3.1 + c3.1 * 2 ^ 32, flushed)

/-- The COMP64 word of R284 for an exact y′. -/
def comp64Of (y : Dyadic') : Nat :=
  let s := (fp32Of y).1
  let sv := (readFP32 s).exact
  let c := (fp32Of (y.add ⟨-sv.num, sv.frac⟩)).1
  s + c * 2 ^ 32

/-! ### Weights (R245, R246) -/

/-- The level an INT4 code is fixed as, and whether the code was changed. -/
def int4Level (code : Nat) : Int × Bool :=
  let w := toSigned 4 code
  if w = -8 then (-7, true) else (w, false)

/-- The high and low slice of an INT8 code, and whether the code was changed (R246). -/
def int8Slices (code : Nat) : Int × Int × Bool :=
  let w := toSigned 8 code
  let w1 := clampInt (-119) 119 w
  let w2 := if (w1 % 16) = 8 then (if w1 < 0 then w1 + 1 else w1 - 1) else w1
  let h := roundHalfAway w2 16
  (h, w2 - 16 * h, decide (w2 ≠ w))

/-! ### Top-k (R283) -/

/-- `a` ranks above `b`: a number above a NaN, the larger value first, the lower index on a tie. -/
def ranksAbove (a b : Nat × Fusion) : Bool :=
  let key : Fusion → Nat × Dyadic'
    | .nan => (0, ⟨0, 0⟩)
    | .inf true => (1, ⟨0, 0⟩)
    | .num y => (2, y)
    | .bfNum y _ => (2, y)
    | .inf false => (3, ⟨0, 0⟩)
  let ka := key a.2
  let kb := key b.2
  if ka.1 ≠ kb.1 then decide (kb.1 < ka.1)
  else if kb.2.lt ka.2 then true
  else if ka.2.lt kb.2 then false
  else decide (a.1 < b.1)

/-- A ranked list with `a` put in its place. -/
def rankInsert (a : Nat × Fusion) : List (Nat × Fusion) → List (Nat × Fusion)
  | [] => [a]
  | b :: l => if ranksAbove a b then a :: b :: l else b :: rankInsert a l

/-- The `k` entries of 64 bits a top-k run writes: index, value in the run's top-k format (0 INT8, 1 BF16). -/
def topkEntries (k fmt z : Nat) (cands : List (Nat × Fusion)) : List Nat :=
  let ranked := (cands.foldl (fun l a => rankInsert a l) []).take k
  let code : Fusion → Nat := fun y =>
    if fmt = 1 then (fusionBF16 .nearest 0 y).1 else
    match y with
    | .num v => (int8Code .nearest v z 0).1
    | .bfNum v _ => (int8Code .nearest v z 0).1
    | .nan => 0
    | .inf neg => if neg then 0 else 255
  (List.range k).map (fun i =>
    match ranked[i]? with
    | some (j, y) => j + code y * 2 ^ 32
    | none => 0xFFFFFFFF)

end Sys2Proof.Machine
end

