-- ==== Sys2Proof/Machine/Desc.lean ====
section
/-!
DEFINITION. Sys2Proof/Machine/Desc.lean: descriptors, their parameter blocks and tensors, the checks made at acceptance
(R382–R389), the claims an operator makes (R386, R388), its power and DRAM charges (R416, R417), the admission pass as
an algorithm over candidates (R415, R418–R420), and the completion record (R394). Spec/12 and spec/13.
-/

namespace Sys2Proof.Machine

/-- A tensor descriptor (R384). -/
structure TensorD where
  addr : Nat
  fmt : Nat
  zero : Nat
  rank : Nat
  d0 : Nat
  d1 : Nat
  d2 : Nat
  stride1 : Nat
  stride2 : Nat
  /-- All 32 bytes, as a number; 0 for an absent tensor. -/
  raw : Nat
  deriving DecidableEq, Repr

def TensorD.ofBytes (b : List Byte) : TensorD :=
  ⟨leAt b 0 8, leAt b 8 1, leAt b 9 1, leAt b 10 1, leAt b 12 4, leAt b 16 4, leAt b 20 4, leAt b 24 4, leAt b 28 4,
   leAt b 0 32⟩

def TensorD.present (t : TensorD) : Bool := t.fmt != 0

/-- Bits of one element (R239–R241, R384). -/
def TensorD.elemBits (t : TensorD) : Nat :=
  if t.fmt = 1 then 8 else if t.fmt = 2 then 4 else if t.fmt = 3 then 16 else if t.fmt = 4 then 64
  else if t.fmt = 5 then 32 else 64

/-- The packed bytes of one row of d0 elements. -/
def TensorD.rowBytes (t : TensorD) : Nat := (t.d0 * t.elemBits + 7) / 8

def TensorD.elems (t : TensorD) : Nat := t.d0 * t.d1 * t.d2

/-- The length of the extent of R384. -/
def TensorD.extent (t : TensorD) : Nat := (t.d2 - 1) * t.stride2 + (t.d1 - 1) * t.stride1 + t.rowBytes

/-- The byte address of row (i1, i2). -/
def TensorD.rowAt (t : TensorD) (i1 i2 : Nat) : Nat := t.addr + i1 * t.stride1 + i2 * t.stride2

/-- R384's rules for one tensor descriptor. -/
def TensorD.ok (t : TensorD) : Bool :=
  if t.fmt = 0 then t.raw == 0 else
  decide (t.fmt ≤ 6 ∧ t.addr % 64 = 0 ∧ 1 ≤ t.rank ∧ t.rank ≤ 3 ∧ bits t.raw 88 8 = 0) &&
  (t.fmt == 1 || t.zero == 0) &&
  [t.d0, t.d1, t.d2].all (fun d => decide (1 ≤ d ∧ d ≤ 2 ^ 24)) &&
  (decide (2 ≤ t.rank) || t.d1 == 1) && (decide (3 ≤ t.rank) || t.d2 == 1) &&
  decide (t.stride1 % 64 = 0 ∧ t.stride2 % 64 = 0) &&
  (t.d1 == 1 || decide (t.rowBytes ≤ t.stride1)) && (t.d2 == 1 || decide (t.d1 * t.stride1 ≤ t.stride2))

def TensorD.sameShape (a b : TensorD) : Bool := a.rank == b.rank && a.d0 == b.d0 && a.d1 == b.d1 && a.d2 == b.d2

/-- A descriptor's copy inside the command processor (R378, R382, R383). -/
structure Desc where
  opcode : Nat
  flags : Nat
  cls : Nat
  plate : Nat
  tag : Nat
  earliest : Nat
  deadline : Nat
  waitObj : Nat
  waitValue : Nat
  signalObj : Nat
  signalValue : Nat
  signalPkg : Nat
  entry : Nat
  arena : Nat
  arenaLen : Nat
  result : Nat
  round : Nat
  fuse : Nat
  fuseShift : Int
  k : Nat
  avg : Nat
  bankOff : Nat
  firstOverwrite : Nat
  port : Nat
  claimKind : Nat
  dstPkg : Nat
  span : Nat
  spanOut : Nat
  entryOut : Nat
  unit : Nat
  vop : Nat
  outShift : Int
  inShift : Int
  topkFmt : Nat
  imageId : Nat
  baseSeed : Nat
  tensors : List TensorD
  deriving DecidableEq, Repr

def Desc.ofBytes (b : List Byte) : Desc :=
  { opcode := leAt b 0 1, flags := leAt b 1 1, cls := leAt b 2 1, plate := leAt b 3 1, tag := leAt b 4 4,
    earliest := leAt b 8 8, deadline := leAt b 16 8, waitObj := leAt b 0x18 2, waitValue := leAt b 0x1A 2,
    signalObj := leAt b 0x1C 2, signalValue := leAt b 0x1E 2, signalPkg := leAt b 0x20 2, entry := leAt b 0x24 2,
    arena := leAt b 0x28 8, arenaLen := leAt b 0x30 4, result := leAt b 0x40 1, round := leAt b 0x41 1,
    fuse := leAt b 0x42 1, fuseShift := toSigned 8 (leAt b 0x43 1), k := leAt b 0x44 1, avg := leAt b 0x45 1,
    bankOff := leAt b 0x46 1, firstOverwrite := leAt b 0x47 1, port := leAt b 0x48 1, claimKind := leAt b 0x49 1,
    dstPkg := leAt b 0x4A 2, span := leAt b 0x4C 2, spanOut := leAt b 0x4E 2, entryOut := leAt b 0x50 2,
    unit := leAt b 0x52 1, vop := leAt b 0x53 1, outShift := toSigned 8 (leAt b 0x54 1),
    inShift := toSigned 8 (leAt b 0x55 1), topkFmt := leAt b 0x56 1, imageId := leAt b 0x58 8,
    baseSeed := leAt b 0x60 4,
    tensors := (List.range 4).map (fun i => TensorD.ofBytes ((b.drop (0x80 + 32 * i)).take 32)) }

def Desc.irq (d : Desc) : Bool := bitAt d.flags 0
def Desc.waits (d : Desc) : Bool := bitAt d.flags 1
def Desc.signals (d : Desc) : Bool := bitAt d.flags 2
def Desc.signalsRemote (d : Desc) : Bool := bitAt d.flags 3

/-- 0xFFFF_FFFF_FFFF means no deadline (R382). -/
def Desc.noDeadline (d : Desc) : Bool := d.deadline == 0xFFFFFFFFFFFF

def Desc.tensor (d : Desc) (i : Nat) : TensorD := d.tensors.getD i ⟨0, 0, 0, 0, 0, 0, 0, 0, 0, 0⟩

/-- The operator codes (R386). -/
def knownOpcode (o : Nat) : Bool :=
  [1, 2, 3, 4, 8, 0x10, 0x11, 0x12, 0x13, 0x14, 0x15, 0x16, 0x20, 0x7F].contains o

def isVectorOp (o : Nat) : Bool := decide (0x10 ≤ o ∧ o ≤ 0x16)
def usesPlate (o : Nat) : Bool := decide (1 ≤ o ∧ o ≤ 3) || o == 0x7F
/-- The operators whose a0 is the arena (R386). -/
def usesArena (o : Nat) : Bool := usesPlate o

/-- What the rest of the package tells the acceptance check about a descriptor's context and plate. -/
structure AcceptEnv where
  /-- The byte ranges the context may access, each (from, up to but excluding) (R407). -/
  access : List (Nat × Nat)
  /-- Micro range (first, past the last), tile_row count, output channels of the header's plate when it is resident and
  owned by the context (R386). -/
  plate : Option (Nat × Nat × Nat × Nat)
  /-- The package's own index (R27). -/
  ownPkg : Nat
  /-- The context's sync range (from, up to but excluding) (R432). -/
  sync : Nat × Nat
  /-- image_id names an image of the context (R389). -/
  imageOk : Bool
  /-- The range of another uncompleted SCHEDULE for that image meets this one's (R389). -/
  scheduleOverlap : Bool
  deriving DecidableEq, Repr

/-- `[lo, hi)` lies in the union of ranges: `lo` is walked up through the ranges that hold it. -/
def coveredFrom (ranges : List (Nat × Nat)) : Nat → Nat → Nat → Bool
  | 0, lo, hi => decide (hi ≤ lo)
  | fuel + 1, lo, hi =>
    if hi ≤ lo then true
    else match ranges.find? (fun r => decide (r.1 ≤ lo ∧ lo < r.2)) with
      | none => false
      | some r => coveredFrom ranges fuel r.2 hi

def AcceptEnv.mayAccess (e : AcceptEnv) (lo hi : Nat) : Bool := coveredFrom e.access (e.access.length + 1) lo hi

/-- The first byte offset of `[(offset, ok)]` whose check fails. -/
def firstFail : List (Nat × Bool) → Option Nat
  | [] => none
  | (o, ok) :: rest => if ok then firstFail rest else some o

/-- R382, R383, R388, R392, R432 and the micro range: the lowest byte offset of a field that breaks its rule. -/
def Desc.fieldBreach (d : Desc) (b : List Byte) (e : AcceptEnv) : Option Nat :=
  let z := fun (o n : Nat) => decide (leAt b o n = 0)
  let o := d.opcode
  let expo := o == 1 || o == 3 || o == 0x7F
  let outp := o == 2 || o == 3 || o == 0x7F
  let vec := isVectorOp o
  let dig := o == 0x16
  let send := o == 8
  let routine := o == 0x7F
  let fp := decide (0x11 ≤ o ∧ o ≤ 0x16)
  let claims := expo || outp || vec || send
  let inMicro := fun (a : Nat) => match e.plate with
    | some (lo, hi, _) => decide (lo ≤ a ∧ a < hi)
    | none => true
  let inSync := fun (a : Nat) => decide (e.sync.1 ≤ a ∧ a < e.sync.2)
  let vopMax := if o = 0x12 then 3 else if o = 0x13 then 4 else 0
  firstFail
    [ (0x01, decide (d.flags < 16)), (0x02, decide (d.cls < 4)), (0x03, decide (d.plate < 64 ∨ d.plate = 0xFF)),
      (0x08, decide (d.earliest < 2 ^ 48)),
      (0x10, decide (d.deadline < 2 ^ 48 ∧ d.earliest ≤ d.deadline) && !(o == 4 && e.scheduleOverlap)),
      (0x18, decide (d.waitObj < 4096) && (!d.waits || inSync d.waitObj)),
      (0x1C, decide (d.signalObj < 4096) && (!d.signals || d.signalsRemote || inSync d.signalObj)),
      (0x20, decide (d.signalPkg < 1024)), (0x22, z 0x22 2),
      (0x24, !usesPlate o || inMicro d.entry), (0x26, z 0x26 2),
      (0x28, decide (d.arena % 64 = 0)), (0x30, decide (d.arenaLen % 64 = 0)), (0x34, z 0x34 12),
      (0x40, if outp then decide (d.result ≤ 5) else z 0x40 1),
      (0x41, if outp || dig then decide (d.round ≤ 1) else z 0x41 1),
      (0x42, if outp || dig then decide (d.fuse ≤ 2) else z 0x42 1),
      (0x43, if outp || dig then decide (-16 ≤ d.fuseShift ∧ d.fuseShift ≤ 15) else z 0x43 1),
      (0x44, if outp && d.result == 2 then decide (1 ≤ d.k ∧ d.k ≤ 16) else routine && decide (d.k ≤ 16) || z 0x44 1),
      (0x45, if expo then decide (d.avg ≤ 2) else z 0x45 1),
      (0x46, if expo then decide (d.bankOff ≤ 3) else z 0x46 1),
      (0x47, if expo then decide (d.firstOverwrite ≤ 1) else z 0x47 1),
      (0x48, if send || outp then decide (d.port ≤ 11) else z 0x48 1),
      (0x49, if routine then decide (1 ≤ d.claimKind ∧ d.claimKind ≤ 5) else z 0x49 1),
      (0x4A, if send || outp then decide (d.dstPkg < 1024) else z 0x4A 2),
      (0x4C, if claims then decide (1 ≤ d.span ∧ d.span ≤ 2048) && !(o == 3 && decide (2048 < d.span + 8 + d.spanOut))
             else z 0x4C 2),
      (0x4E, if o = 3 then decide (1 ≤ d.spanOut ∧ d.spanOut ≤ 2048) else z 0x4E 2),
      (0x50, if o = 3 then inMicro d.entryOut else z 0x50 2),
      (0x52, if vec || routine then decide (d.unit ≤ 3 ∨ d.unit = 0xFF) else z 0x52 1),
      (0x53, if vec then decide (d.vop ≤ vopMax) else z 0x53 1),
      (0x54, if fp then decide (-32 ≤ d.outShift ∧ d.outShift ≤ 31) else z 0x54 1),
      (0x55, if fp then decide (-32 ≤ d.inShift ∧ d.inShift ≤ 31) else z 0x55 1),
      (0x56, if outp then decide (d.topkFmt ≤ 1) else z 0x56 1), (0x57, z 0x57 1),
      (0x58, o == 4 || z 0x58 8),
      (0x60, if dig then decide (d.baseSeed < 2 ^ 24) && !(d.round == 1 && d.baseSeed == 0) else z 0x60 4),
      (0x64, z 0x64 28) ]

/-- R387: the first tensor whose format breaks its operator's rule. An operator whose table row names a tensor needs it
present. -/
def Desc.formatBreach (d : Desc) (e : AcceptEnv) : Option Nat :=
  let t0 := d.tensor 0
  let t1 := d.tensor 1
  let t2 := d.tensor 2
  let t3 := d.tensor 3
  let o := d.opcode
  let rows := match e.plate with | some (_, _, r, _) => r | none => 0
  let cols := match e.plate with | some (_, _, _, c) => c | none => 0
  let plateIn := (t0.fmt == 1 || t0.fmt == 2) && (e.plate.isNone || decide (t0.elems ≤ rows * 512))
  let plateOut :=
    if d.result = 0 then t1.fmt == 1
    else if d.result = 1 then t1.fmt == 3
    else if d.result = 2 then t1.fmt == 6 && t1.d0 == d.k && decide (d.topkFmt ≤ 1) && (t2.fmt != 3 || d.topkFmt == 1)
    else if d.result = 3 ∨ d.result = 4 then t1.fmt == 4
    else t1.fmt == 0
  let bfOut := if o = 0x16 then t1.fmt == 3 else d.result == 1 || (d.result == 2 && d.topkFmt == 1)
  let fused := fun (channels : Nat) =>
    if d.fuse = 0 then t2.fmt == 0 else (t2.fmt == 1 || (t2.fmt == 3 && bfOut)) && t2.elems == channels
  if o = 1 then firstFail [(0, plateIn)]
  else if o = 2 then firstFail [(1, plateOut), (2, e.plate.isNone || fused cols)]
  else if o = 3 then firstFail [(0, plateIn), (1, plateOut), (2, e.plate.isNone || fused cols)]
  else if o = 8 then
    let n := t0.elems * t0.elemBits
    firstFail [(0, t0.present && n % 512 == 0 && decide (1 ≤ n / 512 ∧ n / 512 ≤ 65535)),
               (1, t0.fmt == t1.fmt && t0.sameShape t1 && d.dstPkg != e.ownPkg)]
  else if o = 0x10 then firstFail [(0, t0.present), (1, t0.fmt == t1.fmt && t0.sameShape t1)]
  else if 0x11 ≤ o ∧ o ≤ 0x15 then
    firstFail [(0, t0.present && t0.fmt != 6), (1, t1.present && t1.fmt != 6 && t1.sameShape t0),
               (2, if t2.present then t2.sameShape t0 || (t2.rank == 1 && t2.d0 == t0.d0) else o != 0x12)]
  else if o = 0x16 then
    let int := fun (t : TensorD) => t.fmt == 1 || t.fmt == 2
    firstFail [(0, int t0 || t0.fmt == 3),
               (1, (t1.fmt == 1 || t1.fmt == 3) && t1.d0 == t3.d1 && t1.d1 == t0.d1),
               (2, fused t3.d1),
               (3, (int t3 || t3.fmt == 3) && t3.rank == 2 && t3.d0 == t0.d0 && (t0.fmt == 3) == (t3.fmt == 3))]
  else none

/-- Two extents meet. -/
def TensorD.meets (a b : TensorD) : Bool :=
  a.present && b.present && decide (a.addr < b.addr + b.extent ∧ b.addr < a.addr + a.extent)

/-- R385's exception: T1 identical to T0 in every field except format and zero, with equal element sizes. -/
def Desc.inPlace (d : Desc) : Bool :=
  let t0 := d.tensor 0
  let t1 := d.tensor 1
  decide (0x11 ≤ d.opcode ∧ d.opcode ≤ 0x13) && t0.elemBits == t1.elemBits &&
    { t1 with fmt := 0, zero := 0, raw := 0 } == { t0 with fmt := 0, zero := 0, raw := 0 }

/-- R385: the first tensor, or 0xFF for the arena, that lies outside what it must. SEND's T1 lies at the destination
package, so its extent is that package's to check (R37). -/
def Desc.addressBreach (d : Desc) (e : AcceptEnv) : Option Nat :=
  let tens := (List.range 4).map (fun i =>
    let t := d.tensor i
    let ok := e.mayAccess t.addr (t.addr + t.extent) &&
      (!usesArena d.opcode || decide (d.arena ≤ t.addr ∧ t.addr + t.extent ≤ d.arena + d.arenaLen))
    (i, !t.present || (d.opcode == 8 && i == 1) || ok))
  match firstFail tens with
  | some i => some i
  | none => if usesArena d.opcode && !e.mayAccess d.arena (d.arena + d.arenaLen) then some 0xFF else none

/-- R385: which tensor T1 overlaps. -/
def Desc.overlapBreach (d : Desc) : Option Nat :=
  let t1 := d.tensor 1
  if d.opcode = 8 then none
  else firstFail [(0, !(t1.meets (d.tensor 0)) || d.inPlace), (2, !(t1.meets (d.tensor 2))), (3, !(t1.meets (d.tensor 3)))]

/-- Acceptance (R378, R382–R389): the lowest FAULTED code that applies, with its detail (R397); none when it passes. -/
def Desc.accept (d : Desc) (b : List Byte) (e : AcceptEnv) : Option (Nat × Nat) :=
  let o := d.opcode
  if usesPlate o && e.plate.isNone then some (1, d.plate)
  else if o == 4 && !e.imageOk then some (1, 0xFF)
  else match firstFail ((List.range 4).map (fun i => (i, (d.tensor i).ok))) with
  | some i => some (0x0B, i)
  | none => match d.formatBreach e with
    | some i => some (0x0C, i)
    | none =>
      if !knownOpcode o then some (0x0D, o)
      else match d.fieldBreach b e with
        | some off => some (0x0E, off)
        | none => match d.addressBreach e with
          | some i => some (0x0F, i)
          | none => match d.overlapBreach with
            | some i => some (0x11, 1 + 16 * i)
            | none => none

/-! ### Claims and charges -/

/-- What a claim occupies: plate time (kinds 1 and 5), a fabric port's send or receive side (kinds 2 and 3), a vector
unit, named or any (kind 4). -/
inductive ClaimRes where
  | plate (p : Nat)
  | send (port : Nat)
  | recv (port : Nat)
  | unit (u : Option Nat)
  deriving DecidableEq, Repr

/-- One claim of a descriptor (R386, R388): its kind, resource, start relative to the home tick, length in ticks, micro
address and a0. -/
structure Claim where
  kind : Nat
  res : ClaimRes
  off : Nat
  span : Nat
  entry : Nat
  a0 : Nat
  deriving DecidableEq, Repr

def unitOf (u : Nat) : Option Nat := if u = 0xFF then none else some u

/-- The claims of a descriptor whose submission-ring slot lies at device address `slotAddr` (R386, R388). -/
def Desc.claims (d : Desc) (slotAddr : Nat) : List Claim :=
  let o := d.opcode
  let a := d.arena / 64
  if o = 1 then [⟨1, .plate d.plate, 0, d.span, d.entry, a⟩]
  else if o = 2 then [⟨5, .plate d.plate, 0, d.span, d.entry, a⟩]
  else if o = 3 then [⟨1, .plate d.plate, 0, d.span, d.entry, a⟩, ⟨5, .plate d.plate, d.span + 8, d.spanOut, d.entryOut, a⟩]
  else if o = 8 then [⟨2, .send d.port, 0, d.span, 0x10, (d.tensor 0).addr / 64⟩]
  else if isVectorOp o then [⟨4, .unit (unitOf d.unit), 0, d.span, 0x20, slotAddr / 64⟩]
  else if o = 0x7F then
    let res : ClaimRes := if d.claimKind = 1 ∨ d.claimKind = 5 then .plate d.plate else if d.claimKind = 2 then .send d.port
      else if d.claimKind = 3 then .recv d.port else .unit (unitOf d.unit)
    [⟨d.claimKind, res, 0, d.span, d.entry, a⟩]
  else []

/-- R416, in tenths of a watt: `tiles` and `acc16` are the claimed plate's. -/
def rateOf (kind tiles : Nat) (acc16 : Bool) : Nat :=
  if kind = 1 then (if acc16 then 13 else 9) * tiles else if kind = 5 then 120 else if kind = 4 then 220 else 30

/-- R416's power charge, in tenths of a W·tick. -/
def powerOf (cs : List Claim) (tiles : Nat) (acc16 : Bool) : Nat :=
  (cs.map (fun c => rateOf c.kind tiles acc16 * c.span)).sum

/-- R417's DRAM charge, in bytes. -/
def Desc.dramCharge (d : Desc) : Nat :=
  let ext := fun (i : Nat) => if (d.tensor i).present then (d.tensor i).extent else 0
  if d.opcode = 0x20 ∨ d.opcode = 4 then 0
  else if d.opcode = 0x7F then d.arenaLen
  else if d.opcode = 8 then ext 0
  else if d.opcode = 0x16 then ext 0 + ext 1 + ext 2 + ((d.tensor 0).d1 + 15) / 16 * ext 3
  else ext 0 + ext 1 + ext 2 + ext 3

/-! ### The admission pass -/

/-- Ticks `lo` up to but excluding `hi`, counted from a frame's mark, taken on a resource by a sequencer. -/
structure Busy where
  res : Option ClaimRes
  seq : Nat
  lo : Int
  hi : Int
  deriving DecidableEq, Repr

/-- A descriptor as the pass sees it (R414–R420). `seqs` lists the sequencers that may serve it (R358). -/
structure Cand where
  /-- Its place in the command processor's list. -/
  ix : Nat
  ctx : Nat
  cls : Nat
  arrival : Nat × Nat
  slot : Nat
  deadline : Nat
  claims : List Claim
  power : Nat
  dram : Nat
  home : Option Nat
  seqs : List Nat
  /-- No pass has considered it yet. -/
  fresh : Bool
  deriving DecidableEq, Repr

/-- REFUSED reasons (R396). -/
inductive Cause where
  | budgetPower | budgetSlots | budgetDram | contextLimit | held | thermal
  deriving DecidableEq, Repr

def Cause.num : Cause → Nat
  | .budgetPower => 1 | .budgetSlots => 2 | .budgetDram => 3 | .contextLimit => 4 | .held => 5 | .thermal => 6

/-- What a pass does with one descriptor: a grant with the unit (0xFF when it claims none) and the sequencer of each of
its claims, a failure that waits for the next pass, a refusal, or FAULTED NO_SEQUENCER. -/
inductive Verdict where
  | grant (unit : Nat) (seqs : List Nat)
  | wait
  | refuse (c : Cause)
  | noSequencer
  deriving DecidableEq, Repr

/-- One descriptor's outcome: its place in the list, its home from now on, whether it lost a collision. -/
structure Ruling where
  ix : Nat
  home : Option Nat
  collided : Bool
  verdict : Verdict
  deriving DecidableEq, Repr

/-- The claim's resource is free over `[lo, hi)`. -/
def resFree (occ : List Busy) (r : ClaimRes) (lo hi : Nat) : Bool :=
  occ.all (fun b => b.res != some r || decide (hi ≤ b.lo ∨ b.hi ≤ lo))

/-- The resource a claim takes: the lowest free unit for an unnamed one. -/
def pickRes (occ : List Busy) (r : ClaimRes) (lo hi : Nat) : Option ClaimRes :=
  match r with
  | .unit none => ((List.range 4).map (fun u => ClaimRes.unit (some u))).find? (fun r => resFree occ r lo hi)
  | r => if resFree occ r lo hi then some r else none

/-- A sequencer with no work whose span, widened by the 8-tick lead, meets the claim's widened the same way (R358). -/
def pickSeq (occ : List Busy) (seqs : List Nat) (lo hi : Nat) : Option Nat :=
  seqs.find? (fun q => occ.all (fun b => b.seq != q || decide (hi + 8 ≤ b.lo ∨ b.hi + 8 ≤ lo)))

/-- Places every claim at start tick `t`, adding each to the occupancy. -/
def place (occ : List Busy) (seqs : List Nat) (t : Nat) : List Claim → Option (List Busy)
  | [] => some occ
  | c :: cs =>
    let lo := t + c.off
    let hi := lo + c.span
    if 2048 < hi then none
    else match pickRes occ c.res lo hi, pickSeq occ seqs lo hi with
      | some r, some q => place (⟨some r, q, lo, hi⟩ :: occ) seqs t cs
      | _, _ => none

/-- R415: the lowest home from `t` on, against the static occupancy. -/
def homeFrom (occ : List Busy) (c : Cand) : Nat → Nat → Option Nat
  | 0, _ => none
  | fuel + 1, t => if (place occ c.seqs t c.claims).isSome then some t else homeFrom occ c fuel (t + 1)

/-- The order of R418: class, then arrival, then slot. -/
def Cand.before (a b : Cand) : Bool :=
  decide (a.cls < b.cls ∨ a.cls = b.cls ∧ (a.arrival.1 < b.arrival.1 ∨ a.arrival.1 = b.arrival.1 ∧
    (a.arrival.2 < b.arrival.2 ∨ a.arrival.2 = b.arrival.2 ∧ (a.ctx < b.ctx ∨ a.ctx = b.ctx ∧ a.slot < b.slot))))

/-- The second loop's order: class, context, arrival, slot. -/
def Cand.beforeInPlacing (a b : Cand) : Bool :=
  decide (a.cls < b.cls ∨ a.cls = b.cls ∧ (a.ctx < b.ctx ∨ a.ctx = b.ctx ∧ (a.arrival.1 < b.arrival.1 ∨
    a.arrival.1 = b.arrival.1 ∧ (a.arrival.2 < b.arrival.2 ∨ a.arrival.2 = b.arrival.2 ∧ a.slot < b.slot))))

/-- Insertion by an order. -/
def insertBy {α : Type} (before : α → α → Bool) (a : α) : List α → List α
  | [] => [a]
  | b :: bs => if before a b then a :: b :: bs else b :: insertBy before a bs

def sortBy {α : Type} (before : α → α → Bool) : List α → List α
  | [] => []
  | a :: as => insertBy before a (sortBy before as)

/-- `fail(d, cause)` of R418. -/
def failed (f : Nat) (c : Cand) (cause : Cause) (collided : Bool) : Ruling :=
  ⟨c.ix, c.home, collided, if c.deadline ≤ f then .refuse cause else .wait⟩

/-- The first loop of R418 with R415 and R420: rulings so far, what is left, and the candidates that passed. -/
def firstLoop (f : Nat) (occ : List Busy) (plim dramAll : Nat) : List Cand → Int → Nat → List Ruling × List Cand
  | [], _, _ => ([], [])
  | c0 :: cs, leftP, leftD =>
    let c := if c0.home.isNone then { c0 with home := homeFrom occ c0 2048 0 } else c0
    let fail := fun (cause : Cause) =>
      let r := firstLoop f occ plim dramAll cs leftP leftD
      (failed f c cause false :: r.1, r.2)
    if c.seqs.isEmpty ∧ c.claims ≠ [] then
      let r := firstLoop f occ plim dramAll cs leftP leftD
      (⟨c.ix, c.home, false, .noSequencer⟩ :: r.1, r.2)
    else if c.fresh ∧ (300 * 2048 * 10 < c.power ∨ dramAll < c.dram ∨ c.deadline < f) then
      let r := firstLoop f occ plim dramAll cs leftP leftD
      let cause := if 300 * 2048 * 10 < c.power then Cause.budgetPower else if dramAll < c.dram then .budgetDram else .budgetSlots
      (⟨c.ix, c.home, false, .refuse cause⟩ :: r.1, r.2)
    else if c.home.isNone then fail .budgetSlots
    else if leftP < (c.power : Int) then
      if plim < 360 ∧ (c.power : Int) ≤ leftP + ((360 - plim) * 2048 * 10 : Nat) then fail .thermal else fail .budgetPower
    else if leftD < c.dram then fail .budgetDram
    else
      let r := firstLoop f occ plim dramAll cs (leftP - c.power) (leftD - c.dram)
      (r.1, c :: r.2)

/-- The second loop: grants in order of class and context, or a collision. -/
def secondLoop (f : Nat) : List Cand → List Busy → List Ruling
  | [], _ => []
  | c :: cs, occ =>
    match c.home with
    | none => failed f c .budgetSlots false :: secondLoop f cs occ
    | some t => match place occ c.seqs t c.claims with
      | none => failed f c .budgetSlots true :: secondLoop f cs occ
      | some occ' =>
        let mine := (occ'.take (occ'.length - occ.length)).reverse
        let unit := match mine.findSome? (fun b => match b.res with | some (.unit (some u)) => some u | _ => none) with
          | some u => u
          | none => 0xFF
        ⟨c.ix, c.home, false, .grant unit (mine.map Busy.seq)⟩ :: secondLoop f cs occ'

/-- The pass for frame `f` (R418–R420): the static occupancy and charge (tenths of W·tick), P_limit, the DRAM budget in
bytes, and the eligible descriptors. The second answer is R419's overflow. -/
def ruling (f : Nat) (occ : List Busy) (staticCharge plim dramAll : Nat) (eligible : List Cand) : List Ruling × Bool :=
  let all := sortBy Cand.before eligible
  let cs := all.take 2048
  let late := (all.drop 2048).filter (fun c => decide (c.deadline ≤ f))
  let r := firstLoop f occ plim dramAll cs (((plim - 60) * 2048 * 10 : Nat) - (staticCharge : Int)) dramAll
  (r.1 ++ secondLoop f (sortBy Cand.beforeInPlacing r.2) occ ++ late.map (fun c => ⟨c.ix, c.home, false, .refuse .budgetSlots⟩),
   decide (2048 < all.length))

/-! ### Completion -/

/-- Status of a completion record (R394). -/
inductive Status where
  | served
  | deferred
  | refused (c : Cause)
  | faulted (code detail : Nat)
  deriving DecidableEq, Repr

def Status.num : Status → Nat
  | .served => 0 | .deferred => 1 | .refused _ => 2 | .faulted .. => 3

def Status.code : Status → Nat
  | .refused c => c.num
  | .faulted c _ => c
  | _ => 0

def Status.detail : Status → Nat
  | .faulted _ d => d
  | _ => 0

/-- A completed descriptor's record, before it has a phase (R394). -/
structure Record where
  tag : Nat
  slot : Nat
  status : Status
  granted : Nat
  doneFrame : Nat
  doneTick : Nat
  flags : Nat
  defers : Nat
  ctx : Nat
  irq : Bool
  deriving DecidableEq, Repr

/-- The 32 bytes of R394. -/
def Record.bytes (r : Record) (phase : Nat) : List Byte :=
  toLE 4 r.tag ++ toLE 2 r.slot ++ toLE 1 r.status.num ++ toLE 1 r.status.code ++ toLE 6 r.granted ++
  toLE 2 r.status.detail ++ toLE 6 r.doneFrame ++ toLE 2 r.doneTick ++ toLE 1 r.flags ++ toLE 1 r.defers ++
  toLE 1 r.ctx ++ toLE 4 0 ++ toLE 1 phase

end Sys2Proof.Machine
end

