-- ==== Sys2Proof/Machine/Image.lean ====
section
/-!
DEFINITION. Sys2Proof/Machine/Image.lean: the plate-image container (spec/06, R175–R188) and its checks in the order of
R190: header, section table, section bodies, multiplicities, period, slot tables, curves. The checks that need the
package's own state (context, signature, conflicts, levels) stand in Machine/Loader.lean.
-/

namespace Sys2Proof.Machine

/-- The parity of the ones among the low `w` bits of `n`. -/
def oddOnes : Nat → Nat → Bool
  | 0, _ => false
  | w + 1, n => (n % 2 == 1) != oddOnes w (n / 2)

/-- The parity bits p1 p0 of a micro-word (R342), p5 … p0 of a nano-word (R346). -/
def microParity (w : Nat) : Nat := b2n (oddOnes 16 w) + 2 * b2n (oddOnes 16 (w / 2 ^ 16))
def nanoParity (w : Nat) : Nat :=
  (List.range 6).foldl (fun a k => a + 2 ^ k * b2n (oddOnes 32 (w / 2 ^ (32 * k)))) 0

/-- A word as a store holds it, its parity bits above it (R342, R346): the loader, stage-2 and manufacture compute them. -/
def storedMicro (w : Nat) : Nat := w + 2 ^ 32 * microParity w
def storedNano (w : Nat) : Nat := w + 2 ^ 192 * nanoParity w

/-- An image's own interface level and the range it accepts from each partner kind, if it declares one (R19, R176). -/
structure Levels where
  own : Nat
  boot : Option (Nat × Nat)
  stage2 : Option (Nat × Nat)
  patch : Option (Nat × Nat)
  island : Option (Nat × Nat)
  fabric : Option (Nat × Nat)
  plate : Option (Nat × Nat)
  deriving DecidableEq, Repr

/-- One record of a PLATE_MAP (R181). -/
structure TileRec where
  tile : Nat
  row : Nat
  col : Nat
  slice : Nat
  bank : Nat
  reduceTo : Option Nat
  deriving DecidableEq, Repr

/-- One curve of a curve section (R186). -/
structure Curve where
  id : Nat
  points : List (Int × Int)
  deriving DecidableEq, Repr

/-- One plate of an image: PLATE_MAP (R181), SEED (R187) and its curves (R186). -/
structure Plate where
  num : Nat
  /-- 0: 32 rows, 1: 64, 2: 128. -/
  rowGroup : Nat
  int8 : Bool
  acc16 : Bool
  adcShift : Nat
  clipLimit : Nat
  aeWindow : Nat
  keep : Bool
  tiles : List TileRec
  seed : Nat
  curveAdc : List Curve
  curveTempco : List Curve
  curveDrift : List Curve
  deriving DecidableEq, Repr

/-- A slot-table entry (R102). -/
structure SlotEntry where
  startTick : Nat
  endTick : Nat
  frameOffset : Nat
  kind : Nat
  resource : Nat
  entry : Nat
  enable : Bool
  reservedZero : Bool
  deriving DecidableEq, Repr

/-- R102, from the 64 bits. -/
def SlotEntry.ofNat (w : Nat) : SlotEntry :=
  { startTick := bits w 0 11, endTick := bits w 11 12, frameOffset := bits w 23 12, kind := bits w 35 3,
    resource := bits w 38 6, entry := bits w 48 14, enable := bitAt w 62,
    reservedZero := bits w 44 4 == 0 && !bitAt w 63 }

/-- An image as the loader has checked it. -/
structure PlateImage where
  id : Nat
  replacing : Bool
  replaces : Nat
  tenant : Nat
  job : Nat
  levels : Levels
  period : Nat
  keySlot : Nat
  signerSlot : Nat
  secVersion : Nat
  plates : List Plate
  /-- (sequencer, mask of plates it serves) (R182). -/
  binds : List (Nat × Nat)
  microBase : Nat
  micro : List Nat
  nanoBase : Nat
  nano : List Nat
  /-- (sequencer, its entries) (R184). -/
  slots : List (Nat × List SlotEntry)
  /-- (tile, the 4,608 bytes of R185). -/
  scales : List (Nat × List Byte)
  /-- (tile, (row, spare) remaps) (R188). -/
  defects : List (Nat × List (Nat × Nat))
  digest : Nat
  deriving DecidableEq, Repr

/-- A load error: code, phase (R190) and section index, 0xFF where none applies. -/
structure LoadErr where
  code : Nat
  phase : Nat
  sect : Nat
  deriving DecidableEq, Repr

/-- A section-table entry (R177). -/
structure Section where
  type : Nat
  flags : Nat
  target : Nat
  reserved : Nat
  offset : Nat
  length : Nat
  deriving DecidableEq, Repr

/-- The header fields of R176. -/
structure Header where
  totalLen : Nat
  sectionCount : Nat
  scope : Nat
  id : Nat
  replaces : Nat
  tenantRaw : Nat
  job : Nat
  levels : Levels
  period : Nat
  keySlot : Nat
  signerSlot : Nat
  secVersion : Nat
  iv : Nat
  payloadOffset : Nat
  payloadLen : Nat
  deriving DecidableEq, Repr

/-- A declared range; min 0xFFFF with max 0x0000 declares none (R176). -/
def rangeAt (bs : List Byte) (i : Nat) : Option (Nat × Nat) :=
  let lo := leAt bs i 2
  let hi := leAt bs (i + 2) 2
  if lo = 0xFFFF ∧ hi = 0 then none else some (lo, hi)

/-- The header fields, unchecked. -/
def Header.ofBytes (bs : List Byte) : Header :=
  { totalLen := leAt bs 8 4, sectionCount := leAt bs 0x0C 2, scope := leAt bs 0x0E 2, id := leAt bs 0x10 8,
    replaces := leAt bs 0x18 8, tenantRaw := leAt bs 0x20 2, job := leAt bs 0x22 2,
    levels := { own := leAt bs 0x24 2, boot := rangeAt bs 0x28, stage2 := rangeAt bs 0x2C, patch := rangeAt bs 0x30,
                island := rangeAt bs 0x34, fabric := rangeAt bs 0x38, plate := none },
    period := leAt bs 0x3C 2, keySlot := leAt bs 0x3E 1, signerSlot := leAt bs 0x3F 1,
    secVersion := leAt bs 0x40 4, iv := leAt bs 0x44 12, payloadOffset := leAt bs 0x50 4,
    payloadLen := leAt bs 0x54 4 }

/-- The payload offset of R176. -/
def payloadOffsetOf (sections : Nat) : Nat := (256 + 16 * sections + 63) / 64 * 64

/-- The section-table entry at byte `i` of the image. -/
def Section.ofBytes (bs : List Byte) (i : Nat) : Section :=
  { type := leAt bs i 2, flags := leAt bs (i + 2) 2, target := leAt bs (i + 4) 2, reserved := leAt bs (i + 6) 2,
    offset := leAt bs (i + 8) 4, length := leAt bs (i + 12) 4 }

/-- The section table. -/
def sectionsOf (bs : List Byte) (n : Nat) : List Section :=
  (List.range n).map (fun k => Section.ofBytes bs (256 + 16 * k))

/-- Index of the first element that fails `ok`. -/
def firstBad {α : Type} (ok : Nat → α → Bool) : Nat → List α → Option Nat
  | _, [] => none
  | k, a :: l => if ok k a then firstBad ok (k + 1) l else some k

/-- All bytes from `i` for `n` are zero. -/
def zeroAt (bs : List Byte) (i n : Nat) : Bool := ((bs.drop i).take n).all (fun b => b == 0)

/-- Phase 2 of R190, as far as the image alone decides it. `len` is the length given to the loader. Of the fields of R176 the row of
0x04 names header_len, total_len, scope, image_id, section_count, payload_offset, payload_len and the reserved ones; that a broken rule of
replaces_id, tenant, key_slot, signer_slot or the padding of R175 gives 0x04 too is DESIGN CHOICE (log 131). -/
def checkHeader (bs : List Byte) (len : Nat) : Except LoadErr (Header × List Section) :=
  let h := Header.ofBytes bs
  let secs := sectionsOf bs h.sectionCount
  if leAt bs 0 4 ≠ 0x50585754 then .error ⟨0x02, 2, 0xFF⟩
  else if leAt bs 4 2 ≠ 1 then .error ⟨0x03, 2, 0xFF⟩
  else if leAt bs 6 2 ≠ 256 ∨ h.totalLen ≠ len ∨ h.totalLen ≠ h.payloadOffset + h.payloadLen + 16 + 200 ∨
      2 ≤ h.scope ∨ h.id = 0 ∨ (h.scope = 0 ∧ h.replaces ≠ 0) ∨ h.sectionCount < 1 ∨ 128 < h.sectionCount ∨
      h.payloadOffset ≠ payloadOffsetOf h.sectionCount ∨ h.payloadLen % 64 ≠ 0 ∨ leAt bs 0x26 2 ≠ 0 ∨
      zeroAt bs 0x58 168 = false ∨ 1024 ≤ h.tenantRaw ∨ 8 ≤ h.keySlot ∨ 4 ≤ h.signerSlot ∨
      zeroAt bs (256 + 16 * h.sectionCount) (h.payloadOffset - (256 + 16 * h.sectionCount)) = false
    then .error ⟨0x04, 2, 0xFF⟩
  else
    let disjointBefore (k : Nat) (s : Section) : Bool :=
      (secs.take k).all (fun t => decide (s.offset + s.length ≤ t.offset ∨ t.offset + t.length ≤ s.offset))
    let ok (k : Nat) (s : Section) : Bool :=
      decide (s.type < 0x8000) && decide (s.flags ≤ 1) && decide (s.reserved = 0) && decide (s.offset % 64 = 0) &&
      decide (1 ≤ s.length) && decide (s.offset + s.length ≤ h.payloadLen) &&
      (!(decide (s.type = 3 ∨ s.type = 4 ∨ s.type = 0xC)) || decide (s.target = 0xFFFF)) && disjointBefore k s
    match firstBad ok 0 secs with
    | some k => .error ⟨0x05, 2, k⟩
    | none => .ok (h, secs)

/-- R180: a type the loader knows. -/
def knownType (t : Nat) : Bool := decide (1 ≤ t ∧ t ≤ 0xC)

/-- The records of a PLATE_MAP body. -/
def tileRecsOf (b : List Byte) (n : Nat) : List TileRec :=
  (List.range n).map fun k =>
    let i := 16 + 8 * k
    let r := leAt b (i + 6) 2
    { tile := leAt b i 2, row := leAt b (i + 2) 1, col := leAt b (i + 3) 1, slice := leAt b (i + 4) 1,
      bank := leAt b (i + 5) 1, reduceTo := if r = 0xFFFF then none else some r }

/-- Where a chain of `reduce_to` ends within `fuel` hops; `none` is a loop. -/
def chainEnd (recs : List TileRec) : Nat → TileRec → Option TileRec
  | 0, _ => none
  | fuel + 1, r =>
    match r.reduceTo with
    | none => some r
    | some t =>
      match recs.find? (fun q => q.tile == t) with
      | none => none
      | some q => chainEnd recs fuel q

/-- The plate a PLATE_MAP body describes, without seed and curves. -/
def plateOf (num : Nat) (b : List Byte) : Plate :=
  { num := num, rowGroup := leAt b 2 1, int8 := leAt b 3 1 == 1, acc16 := leAt b 4 1 == 1, adcShift := leAt b 5 1,
    clipLimit := leAt b 6 1, aeWindow := leAt b 7 1, keep := leAt b 8 1 == 1, tiles := tileRecsOf b (leAt b 0 2),
    seed := 0, curveAdc := [], curveTempco := [], curveDrift := [] }

/-- Rows of a row group (R181). -/
def groupRows (rg : Nat) : Nat := 32 * 2 ^ rg

/-- R181 for one PLATE_MAP body; `earlier` holds the tiles of the image's earlier plates. -/
def plateMapOk (b : List Byte) (earlier : List Nat) : Bool :=
  let n := leAt b 0 2
  let recs := tileRecsOf b n
  let slices := if leAt b 3 1 = 1 then 2 else 1
  let rows := recs.foldl (fun m r => max m (r.row + 1)) 0
  let cols := recs.foldl (fun m r => max m (r.col + 1)) 0
  decide (1 ≤ n ∧ n ≤ 256 ∧ b.length = 16 + 8 * n ∧ leAt b 2 1 ≤ 2 ∧ leAt b 3 1 ≤ 1 ∧ leAt b 4 1 ≤ 1 ∧
    leAt b 5 1 ≤ 7 ∧ 1 ≤ leAt b 6 1 ∧ 4 ≤ leAt b 7 1 ∧ leAt b 7 1 ≤ 12 ∧ leAt b 8 1 ≤ 1) &&
  zeroAt b 9 7 &&
  decide (n = rows * cols * slices) &&
  decide (recs.Pairwise (fun p q => (p.row, p.col, p.slice) ≠ (q.row, q.col, q.slice) ∧ p.tile ≠ q.tile)) &&
  recs.all (fun r =>
    decide (r.tile < 256 ∧ r.slice < slices ∧ r.bank ≤ 3) && !(earlier.contains r.tile) &&
    (match r.reduceTo with
     | none => true
     | some t => recs.any (fun q => q.tile == t && q.col == r.col && q.slice == r.slice)) &&
    (chainEnd recs (n + 1) r).isSome)

/-- The curves of a curve section body, and whether R186 holds. -/
def curvesOf (b : List Byte) : List Curve × Bool :=
  let rec go : Nat → Nat → List Curve × Bool × Nat
    | 0, i => ([], true, i)
    | n + 1, i =>
      let np := leAt b i 2
      let pts := (List.range np).map (fun k =>
        (toSigned 32 (leAt b (i + 4 + 8 * k) 4), toSigned 32 (leAt b (i + 8 + 8 * k) 4)))
      let okHere := decide (2 ≤ np ∧ np ≤ 33) && decide (pts.Pairwise (fun p q => p.1 < q.1))
      match go n (i + 4 + 8 * np) with
      | (cs, ok, e) => ({ id := leAt b (i + 2) 2, points := pts } :: cs, okHere && ok, e)
  let n := leAt b 0 2
  match go n 4 with
  | (cs, ok, e) =>
    (cs, ok && decide (1 ≤ n ∧ n ≤ 16 ∧ leAt b 2 2 = 0 ∧ e = b.length) &&
      decide ((cs.map Curve.id).Nodup))

/-- The ids, x and y a curve section's type allows: 7 CURVE_ADC (R216), 8 CURVE_TEMPCO (R322), 9 CURVE_DRIFT (R324). -/
def Curve.inRange (type : Nat) (c : Curve) : Bool :=
  let lim : Nat × (Int × Int) × (Int × Int) :=
    if type = 7 then (1, (-126, 127), (-32, 32))
    else if type = 8 then (0, (-640, 2400), (-32768, 32767))
    else (0, (-32768, 32767), (-32768, 32767))
  decide (c.id ≤ lim.1) && c.points.all (fun p => decide (lim.2.1.1 ≤ p.1 ∧ p.1 ≤ lim.2.1.2 ∧ lim.2.2.1 ≤ p.2 ∧ p.2 ≤ lim.2.2.2))

/-- A curve section's body is as R186 and its type ask. -/
def curveSectionOk (type : Nat) (b : List Byte) : Bool := (curvesOf b).2 && (curvesOf b).1.all (Curve.inRange type)

/-- The scale shift k of group `g`, column `c` in a SCALE body (R185). -/
def scaleNibble (b : List Byte) (g c : Nat) : Nat :=
  bits (leAt b ((g * 512 + c) / 2) 1) (if c % 2 = 0 then 0 else 4) 4

/-- R185 for one SCALE body; `groups` is 512 / row_group. -/
def scaleOk (b : List Byte) (groups : Nat) : Bool :=
  decide (b.length = 4608) && zeroAt b (groups * 256) (4096 - groups * 256) &&
  ((b.drop 4096).take 512).all (fun x => decide (-16 ≤ toSigned 8 x.toNat ∧ toSigned 8 x.toNat ≤ 15))

/-- The entries of a SLOT_TABLE body (R184). -/
def slotEntriesOf (b : List Byte) : List SlotEntry :=
  (List.range (leAt b 0 2)).map (fun k => SlotEntry.ofNat (leAt b (8 + 8 * k) 8))

/-- R102, R104 and R184 for one entry: its start in the micro range, and for an enabled one the rest; the ordering is checked
apart. -/
def slotFieldOk (period mask microBase microCount : Nat) (plates : List Nat) (e : SlotEntry) : Bool :=
  decide (microBase ≤ e.entry ∧ e.entry < microBase + microCount) &&
  (!e.enable ||
  (decide (e.startTick < e.endTick ∧ e.endTick ≤ 2048 ∧ e.frameOffset < period ∧ e.kind ≤ 5) && e.reservedZero &&
   (match e.kind with
    | 1 | 5 => plates.contains e.resource && bitAt mask e.resource
    | 2 | 3 => decide (e.resource < 12)
    | 4 => decide (e.resource < 4)
    | _ => true)))

/-- R104: enabled entries in ascending order of (frame_offset, start_tick). -/
def slotOrderOk (es : List SlotEntry) : Bool :=
  decide ((es.filter SlotEntry.enable).Pairwise (fun a b =>
    a.frameOffset < b.frameOffset ∨ (a.frameOffset = b.frameOffset ∧ a.startTick ≤ b.startTick)))

/-- The resource class and number an entry occupies (R103): plates, send ports, receive ports, vector units. -/
def SlotEntry.resourceKey (e : SlotEntry) : Option (Nat × Nat) :=
  if !e.enable then none else
  match e.kind with
  | 1 | 5 => some (0, e.resource)
  | 2 => some (1, e.resource)
  | 3 => some (2, e.resource)
  | 4 => some (3, e.resource)
  | _ => none

/-- The tick spans of two entries intersect. -/
def SlotEntry.meets (a b : SlotEntry) : Bool := decide (a.startTick < b.endTick ∧ b.startTick < a.endTick)

/-- The section of the first payload byte that no section covers and that is not zero; R177 asks for none. -/
def uncoveredZero (payload : List Byte) (secs : List Section) : Bool :=
  (payload.zipIdx).all (fun p =>
    p.1 == 0 || secs.any (fun s => decide (s.offset ≤ p.2 ∧ p.2 < s.offset + s.length)))

/-- The remaps of a DEFECT_MAP body (R188). -/
def defectsOf (b : List Byte) : List (Nat × Nat) :=
  (List.range (leAt b 0 2)).map (fun k => (leAt b (4 + 4 * k) 2, leAt b (6 + 4 * k) 1))

/-- Phase 5 of R190: the payload parsed and checked, in the order of the table. -/
def parsePayload (h : Header) (secs : List Section) (payload : List Byte) (digest : Nat) :
    Except LoadErr PlateImage :=
  let body (s : Section) : List Byte := (payload.drop s.offset).take s.length
  let ofType (t : Nat) : List Section := secs.filter (fun s => s.type == t)
  let plates0 : List Plate := (ofType 1).map (fun s => plateOf s.target (body s))
  let tilePlate (t : Nat) : Option Plate := plates0.find? (fun p => p.tiles.any (fun r => r.tile == t))
  let plateNums := plates0.map Plate.num
  let tilesBefore (k : Nat) : List Nat :=
    ((secs.take k).filter (fun s => s.type == 1)).flatMap (fun s => (plateOf s.target (body s)).tiles.map TileRec.tile)
  -- section types and optional flags (R180)
  match firstBad (fun _ s => knownType s.type || s.flags == 1) 0 secs with
  | some k => .error ⟨0x0C, 5, k⟩
  | none =>
  -- section bodies (R181–R188), curves and slot fields apart
  let bodyOk (k : Nat) (s : Section) : Bool :=
    let b := body s
    match s.type with
    | 1 => plateMapOk b (tilesBefore k)
    | 2 => decide (b.length = 8)
    | 3 => decide (b.length = 4 + 4 * leAt b 2 2 ∧ 1024 ≤ leAt b 0 2 ∧ leAt b 0 2 + leAt b 2 2 ≤ 16384)
    | 4 => decide (b.length = 4 + 24 * leAt b 2 2 ∧ 128 ≤ leAt b 0 2 ∧ leAt b 0 2 + leAt b 2 2 ≤ 2048)
    | 5 => decide (1 ≤ leAt b 0 2 ∧ leAt b 0 2 ≤ 256 ∧ b.length = 8 + 8 * leAt b 0 2) && zeroAt b 2 6
    | 6 => scaleOk b (match tilePlate s.target with | some p => 512 / groupRows p.rowGroup | none => 16)
    | 10 => decide (b.length = 4 ∧ leAt b 0 3 ≠ 0 ∧ leAt b 3 1 = 0)
    | 11 => decide (1 ≤ leAt b 0 2 ∧ leAt b 0 2 ≤ 8 ∧ leAt b 2 2 = 0 ∧ b.length = 4 + 4 * leAt b 0 2) &&
        (List.range (leAt b 0 2)).all (fun j =>
          decide (leAt b (4 + 4 * j) 2 < 512 ∧ leAt b (6 + 4 * j) 1 < 8 ∧ leAt b (7 + 4 * j) 1 = 0))
    | _ => true
  match firstBad bodyOk 0 secs with
  | some k => .error ⟨0x0D, 5, k⟩
  | none =>
  if uncoveredZero payload secs = false then .error ⟨0x0D, 5, 0xFF⟩ else
  -- multiplicities, SEQ_BIND coverage, targets (R180, R182)
  let uniqueBefore (k : Nat) (s : Section) : Bool :=
    !((secs.take k).any (fun t => t.type == s.type && t.target == s.target))
  let binds := (ofType 2).map (fun s => (s.target, leAt (body s) 0 8))
  let targetOk (k : Nat) (s : Section) : Bool :=
    match s.type with
    | 1 => decide (s.target < 64) && uniqueBefore k s
    | 2 => decide (s.target < 16) && uniqueBefore k s &&
        (List.range 64).all (fun p => !bitAt (leAt (body s) 0 8) p || plateNums.contains p)
    | 3 | 4 => uniqueBefore k s
    | 5 => decide (s.target < 16) && uniqueBefore k s && binds.any (fun q => q.1 == s.target)
    | 6 | 11 => (tilePlate s.target).isSome && uniqueBefore k s
    | 7 | 8 | 9 | 10 => plateNums.contains s.target && uniqueBefore k s
    | _ => true
  match firstBad targetOk 0 secs with
  | some k => .error ⟨0x0E, 5, k⟩
  | none =>
  if plates0.isEmpty ||
     !(plates0.all (fun p => binds.any (fun q => bitAt q.2 p.num) &&
        (ofType 10).any (fun s => s.target == p.num) &&
        p.tiles.all (fun r => (ofType 6).any (fun s => s.target == r.tile))))
  then .error ⟨0x0E, 5, 0xFF⟩ else
  if h.period < 1 ∨ 4096 < h.period then .error ⟨0x0F, 5, 0xFF⟩ else
  let microSec := (ofType 3).map body
  let nanoSec := (ofType 4).map body
  let microBase := match microSec with | b :: _ => leAt b 0 2 | [] => 0
  let microCount := match microSec with | b :: _ => leAt b 2 2 | [] => 0
  let nanoBase := match nanoSec with | b :: _ => leAt b 0 2 | [] => 0
  let nanoCount := match nanoSec with | b :: _ => leAt b 2 2 | [] => 0
  let maskOf (q : Nat) : Nat := match binds.find? (fun b => b.1 == q) with | some b => b.2 | none => 0
  let slotOk (_ : Nat) (s : Section) : Bool :=
    s.type != 5 ||
    (slotEntriesOf (body s)).all (slotFieldOk h.period (maskOf s.target) microBase microCount plateNums)
  match firstBad slotOk 0 secs with
  | some k => .error ⟨0x10, 5, k⟩
  | none =>
  match firstBad (fun _ s => s.type != 5 || slotOrderOk (slotEntriesOf (body s))) 0 secs with
  | some k => .error ⟨0x11, 5, k⟩
  | none =>
  match firstBad (fun _ s => !(decide (7 ≤ s.type ∧ s.type ≤ 9)) || curveSectionOk s.type (body s)) 0 secs with
  | some k => .error ⟨0x12, 5, k⟩
  | none =>
  let curvesFor (t num : Nat) : List Curve :=
    match (ofType t).find? (fun s => s.target == num) with | some s => (curvesOf (body s)).1 | none => []
  let seedFor (num : Nat) : Nat :=
    match (ofType 10).find? (fun s => s.target == num) with | some s => leAt (body s) 0 3 | none => 0
  .ok
    { id := h.id, replacing := h.scope == 1, replaces := h.replaces, tenant := h.tenantRaw, job := h.job,
      levels := h.levels, period := h.period, keySlot := h.keySlot, signerSlot := h.signerSlot,
      secVersion := h.secVersion,
      plates := plates0.map (fun p =>
        { p with seed := seedFor p.num, curveAdc := curvesFor 7 p.num, curveTempco := curvesFor 8 p.num,
                 curveDrift := curvesFor 9 p.num }),
      binds := binds, microBase := microBase,
      micro := (List.range microCount).map (fun k => storedMicro (leAt (microSec.headD []) (4 + 4 * k) 4)),
      nanoBase := nanoBase,
      nano := (List.range nanoCount).map (fun k => storedNano (leAt (nanoSec.headD []) (4 + 24 * k) 24)),
      slots := (ofType 5).map (fun s => (s.target, slotEntriesOf (body s))),
      scales := (ofType 6).map (fun s => (s.target, body s)),
      defects := (ofType 11).map (fun s => (s.target, defectsOf (body s))),
      digest := digest }

/-- R19: the two levels lie within each other's declared ranges. -/
def inRange (r : Option (Nat × Nat)) (level : Nat) : Bool :=
  match r with
  | none => true
  | some (lo, hi) => decide (lo ≤ level ∧ level ≤ hi)

/-- R178's signature block of an image: public key, signature. -/
def signatureKey (bs : List Byte) : List Byte := (bs.drop (bs.length - 200)).take 97
def signatureValue (bs : List Byte) : List Byte := bs.drop (bs.length - 96)
def signaturePadOk (bs : List Byte) : Bool := zeroAt bs (bs.length - 103) 7
def signedPart (bs : List Byte) : List Byte := bs.take (bs.length - 200)

end Sys2Proof.Machine
end

