-- ==== Sys2Proof/Machine/Link.lean ====
section
/-!
DEFINITION. Sys2Proof/Machine/Link.lean: what crosses a fabric port and where it goes: positions and wiring (R27, R30),
routing (R464, R466), training blocks (R446, R447), transaction headers (R453), flit headers and messages (R451, R452).
Spec/14.
-/

namespace Sys2Proof.Machine

/-! ### Positions -/

def rackOf (pkg : Nat) : Nat := pkg / 128
def sledOf (pkg : Nat) : Nat := pkg / 8 % 16
def slotOf (pkg : Nat) : Nat := pkg % 8
def pkgIndex (rack sled slot : Nat) : Nat := rack * 128 + sled * 8 + slot

/-- R30: the peer package index and the peer's port of a port. -/
def peerOf (pkg port : Nat) : Nat × Nat :=
  let r := rackOf pkg
  let s := sledOf pkg
  let p := slotOf pkg
  if port ≤ 6 then (pkgIndex r s ((p + port + 1) % 8), 6 - port)
  else if port ≤ 10 then (pkgIndex r (Nat.xor s (2 ^ (port - 7))) p, port)
  else (pkgIndex (Nat.xor r (2 ^ (p % 3))) s p, 11)

/-- R445: the position lies in a machine of `racks` racks and, in a one-rack machine, `sleds` sleds. -/
def inMachine (racks sleds pkg : Nat) : Bool :=
  decide (rackOf pkg < racks ∧ (racks ≠ 1 ∨ sledOf pkg < sleds))

/-! ### Routing -/

/-- Bits of `width` in which `a` has a 1 and `b` a 0, lowest first. -/
def bitsToClear (width a b : Nat) : List Nat := (List.range width).filter (fun i => bitAt a i && !bitAt b i)

/-- The set the primary's bit is taken from (R464, R466): the bits to clear, or when there are none the bits to set. -/
def bitSet (width a b : Nat) : List Nat :=
  match bitsToClear width a b with
  | [] => bitsToClear width b a
  | l => l

/-- The intra-sled port from slot `p` to slot `q` (R30). -/
def slotPort (p q : Nat) : Nat := (q + 7 - p) % 8

/-- The lowest slot q with q mod 3 = b is b itself, for b = 0–2. -/
def rackPort (p b q : Nat) : Nat := if p % 3 = b then 11 else slotPort p q

/-- R464: the primary next port; none when the transaction has arrived. -/
def primaryPort (here dst : Nat) : Option Nat :=
  let p := slotOf here
  if rackOf here ≠ rackOf dst then
    match bitSet 3 (rackOf here) (rackOf dst) with
    | [] => none
    | b :: _ => some (rackPort p b (if slotOf dst % 3 = b then slotOf dst else b))
  else if sledOf here ≠ sledOf dst then
    match bitSet 4 (sledOf here) (sledOf dst) with
    | [] => none
    | b :: _ => some (7 + b)
  else if p ≠ slotOf dst then some (slotPort p (slotOf dst))
  else none

/-- The candidate ports of R466 before a detour, in order. -/
def dynamicList (here dst : Nat) : List Nat :=
  let p := slotOf here
  let first := match primaryPort here dst with | some x => [x] | none => []
  if rackOf here ≠ rackOf dst then
    match bitSet 3 (rackOf here) (rackOf dst) with
    | [] => first
    | b :: bs => first ++ bs.map (fun b' => rackPort p b' b') ++
        ((List.range 8).filter (fun q => q % 3 == b && q != p)).map (slotPort p)
  else if sledOf here ≠ sledOf dst then first ++ (bitSet 4 (sledOf here) (sledOf dst)).tail.map (fun b => 7 + b)
  else first

/-- R466: the port a dynamic transaction takes, and whether taking it is a detour. `active` says which ports are ACTIVE. -/
def dynamicPort (here dst : Nat) (active : BitVec 12) (detoured : Bool) : Option (Nat × Bool) :=
  match (dynamicList here dst).find? (fun n => active.getLsbD n) with
  | some n => some (n, false)
  | none =>
    if detoured then none
    else match (List.range 7).find? (fun n => active.getLsbD n && (slotOf here + n + 1) % 8 != slotOf dst) with
      | some n => some (n, true)
      | none => none

/-- Hops of the primary route (FAB_ROUTE_A.hops); R33 bounds them. -/
def routeHops : Nat → Nat → Nat → Nat
  | 0, _, _ => 0
  | fuel + 1, here, dst => match primaryPort here dst with
    | none => 0
    | some n => 1 + routeHops fuel (peerOf here n).1 dst

/-! ### Training -/

/-- One lane's training block (R446), as received. -/
structure TrainBlock where
  good : Bool
  lane : Nat
  flags : Nat
  level : Nat
  rangeMin : Nat
  rangeMax : Nat
  machine : Nat
  pkg : Nat
  port : Nat
  stamp : Nat
  echo : Nat
  turnaround : Nat
  deriving DecidableEq, Repr

def TrainBlock.ofBytes (b : List Byte) : TrainBlock :=
  { good := leAt b 0 4 == 0x544C4654 && leAt b 62 2 == crc16 (b.take 62), lane := leAt b 4 1, flags := leAt b 5 1,
    level := leAt b 6 2, rangeMin := leAt b 8 2, rangeMax := leAt b 10 2, machine := leAt b 12 2,
    pkg := bits (leAt b 14 2) 0 10, port := bits (leAt b 14 2) 10 4, stamp := leAt b 16 4, echo := leAt b 20 4,
    turnaround := leAt b 24 2 }

/-- The bytes of a lane's block as sent (R446). -/
def TrainBlock.bytes (b : TrainBlock) : List Byte :=
  let body := toLE 4 0x544C4654 ++ toLE 1 b.lane ++ toLE 1 b.flags ++ toLE 2 b.level ++ toLE 2 b.rangeMin ++ toLE 2 b.rangeMax ++
    toLE 2 b.machine ++ toLE 2 (b.pkg + 2 ^ 10 * b.port) ++ toLE 4 b.stamp ++ toLE 4 b.echo ++ toLE 2 b.turnaround ++ List.replicate 36 0
  body ++ toLE 2 (crc16 body)

/-- The peer's range takes a level; minimum 0xFFFF with maximum 0 declares no range, and then the peer checks none (R19, R446). -/
def TrainBlock.accepts (b : TrainBlock) (level : Nat) : Bool :=
  (b.rangeMin == 0xFFFF && b.rangeMax == 0) || decide (b.rangeMin ≤ level ∧ level ≤ b.rangeMax)

/-- R447's checks in their order: the DARK cause of the first that fails. -/
def negotiateCause (lanes : List TrainBlock) (machine ownPkg ownPort : Nat) : Option Nat :=
  let b := lanes.headD (TrainBlock.ofBytes [])
  let peer := peerOf ownPkg ownPort
  if !(lanes.zipIdx.all (fun p => p.1.lane == p.2)) then some 4
  else if b.machine ≠ machine then some 5
  else if (b.pkg, b.port) ≠ peer then some 6
  else if !(decide (2 ≤ b.level ∧ b.level ≤ 3) && b.accepts 2) then some 7
  else none

/-! ### Transactions -/

/-- A transaction header and its data (R453). -/
structure Txn where
  /-- 1 WRITE, 2 CADD, 3 SIGNAL, 4 RESP. -/
  kind : Nat
  sched : Bool
  last : Bool
  detoured : Bool
  /-- CADD: the word mask. RESP: status in [3:0], port in [7:4]. -/
  info : Nat
  dst : Nat
  origin : Nat
  tenant : Nat
  hops : Nat
  job : Nat
  xfer : Nat
  /-- Bits [127:96]. -/
  arg : Nat
  /-- 64 data bytes. -/
  data : List Byte
  deriving DecidableEq, Repr

def Txn.ofBytes (b : List Byte) : Txn :=
  let h := leAt b 0 16
  { kind := bits h 0 4, sched := bitAt h 4, last := bitAt h 5, detoured := bitAt h 6, info := bits h 8 8,
    dst := bits h 16 10, origin := bits h 26 10, tenant := bits h 36 10, hops := bits h 46 4, job := bits h 64 16,
    xfer := bits h 80 16, arg := bits h 96 32, data := (b.drop 16).take 64 }

def Txn.bytes (t : Txn) : List Byte :=
  toLE 16 (t.kind + 2 ^ 4 * b2n t.sched + 2 ^ 5 * b2n t.last + 2 ^ 6 * b2n t.detoured + 2 ^ 8 * t.info + 2 ^ 16 * t.dst +
    2 ^ 26 * t.origin + 2 ^ 36 * t.tenant + 2 ^ 46 * t.hops + 2 ^ 64 * t.job + 2 ^ 80 * t.xfer + 2 ^ 96 * t.arg) ++ t.data

/-- A reserved type, or a non-zero field marked 0 (R453). -/
def malformed (b : List Byte) : Bool :=
  let h := leAt b 0 16
  let t := Txn.ofBytes b
  !(decide (1 ≤ t.kind ∧ t.kind ≤ 4)) || bitAt h 7 || bits h 50 14 != 0 ||
  (t.info != 0 && !(t.kind == 2 || t.kind == 4)) || (t.kind == 4 && t.sched) ||
  (t.kind == 3 && bits t.arg 28 4 != 0) ||
  (decide (3 ≤ t.kind) && t.data.any (fun x => x != 0))

/-- Sixty-four zero bytes. -/
def zeroLine : List Byte := List.replicate 64 0

/-- The response that answers `n` transactions of a transfer (R468). -/
def respTo (here : Nat) (t : Txn) (status port n : Nat) : Txn :=
  { kind := 4, sched := false, last := false, detoured := false, info := status + 16 * port, dst := t.origin, origin := here,
    tenant := t.tenant, hops := 0, job := t.job, xfer := t.xfer, arg := n, data := zeroLine }

/-- The slot kind, and pool plus one, of a transaction: 1 scheduled, 2 dynamic, 3 response (R452). -/
def Txn.slotKind (t : Txn) : Nat := if t.kind = 4 then 3 else if t.sched then 1 else 2

/-! ### Flits -/

/-- A flit's header (R452). -/
structure FlitHead where
  seq : Nat
  ack : Nat
  nak : Bool
  idle : Bool
  pool : Nat
  reserved : Bool
  hopClass : Nat
  credits : Nat
  kinds : List Nat
  deriving DecidableEq, Repr

def FlitHead.ofNat (h : Nat) : FlitHead :=
  { seq := bits h 0 16, ack := bits h 16 16, nak := bitAt h 32, idle := bits h 33 2 == 1, pool := bits h 35 2,
    reserved := bitAt h 37, hopClass := bits h 38 4, credits := bits h 42 10,
    kinds := [bits h 52 2, bits h 54 2, bits h 56 2] }

def FlitHead.toNat (f : FlitHead) : Nat :=
  f.seq + 2 ^ 16 * f.ack + 2 ^ 32 * b2n f.nak + 2 ^ 33 * b2n f.idle + 2 ^ 35 * f.pool + 2 ^ 37 * b2n f.reserved +
  2 ^ 38 * f.hopClass + 2 ^ 42 * f.credits + 2 ^ 52 * f.kinds.getD 0 0 + 2 ^ 54 * f.kinds.getD 1 0 + 2 ^ 56 * f.kinds.getD 2 0

/-- The 256-byte message of a flit (R451): header, three slots, CRC-32. -/
def flitMessage (h : FlitHead) (slots : List Txn) : List Byte :=
  let empty := List.replicate 80 (0 : Byte)
  let slot := fun (i : Nat) => match slots[i]? with | some t => t.bytes | none => empty
  let body := toLE 12 h.toNat ++ slot 0 ++ slot 1 ++ slot 2
  body ++ toLE 4 (crc32 body)

/-- The message's CRC-32 holds (R451). -/
def flitGood (m : List Byte) : Bool := leAt m 252 4 == crc32 (m.take 252)

/-- The 80 bytes of slot `i`. -/
def flitSlot (m : List Byte) (i : Nat) : List Byte := (m.drop (12 + 80 * i)).take 80

end Sys2Proof.Machine
end

