-- ==== Sys2Proof/Machine/Micro.lean ====
section
/-!
DEFINITION. Sys2Proof/Machine/Micro.lean: micro-words, nano-words and the microcode patch as spec/11 lays them out: codes and
operand checks (R342, R343), parity (R342, R346), operand substitution (R347), the nano kinds and their fields (R348–R353),
machine-check causes (R367), the patch container and its overlay (R362–R364).
-/

namespace Sys2Proof.Machine

/-- Machine-check causes (R367). -/
inductive McCause where
  | microParity | nanoParity | code | range | stack | kind | resource | field | address | foreign
  deriving DecidableEq, Repr

/-- R367's numbering. -/
def McCause.num : McCause → Nat
  | .microParity => 1 | .nanoParity => 2 | .code => 3 | .range => 4 | .stack => 5
  | .kind => 6 | .resource => 7 | .field => 8 | .address => 9 | .foreign => 10

/-- The parity bits of a stored word that do not fit it; 0 when all do (R367, R368). -/
def microSyndrome (x : Nat) : Nat := (x / 2 ^ 32) ^^^ microParity (x % 2 ^ 32)
def nanoSyndrome (x : Nat) : Nat := (x / 2 ^ 192) ^^^ nanoParity (x % 2 ^ 192)

/-- Where the FSEND and the VECTOR of the built-in routines stand (R386): two different addresses of 1 to 95, which the spec leaves open. -/
def sendNano : Nat := 1 + Config.builtinNano 0 % 95
def vectorNano : Nat := 1 + (Config.builtinNano 0 + 1 + Config.builtinNano 1 % 94) % 95

/-- The read-only micro cells (R339, R386): the routines at 0x0010 and 0x0020 issue one nano-word and end; every other word is manufacture's. -/
def romMicro (a : Nat) : Nat :=
  storedMicro (if a = 0x10 then 2 ^ 16 * sendNano else if a = 0x20 then 2 ^ 16 * vectorNano
    else if a = 0x11 ∨ a = 0x21 then 2 ^ 27 * 18 else Config.romMicro a % 2 ^ 32)

/-- The read-only nano cells (R339, R386): one FSEND and one VECTOR with from_desc set, on address register 0. The port the cell of the
FSEND holds is manufacture's: the command takes its claim's. -/
def romNano (a : Nat) : Nat :=
  storedNano (if a = sendNano then 4 + 2 ^ 16 * (Config.romNano a % 12) + 2 ^ 22 + 2 ^ 80 else if a = vectorNano then 6 + 2 ^ 20
    else Config.romNano a % 2 ^ 192)

/-- A micro-word taken apart (R342). -/
structure MicroWord where
  code : Nat
  nanoPtr : Nat
  op : Nat
  deriving DecidableEq, Repr

def MicroWord.ofNat (w : Nat) : MicroWord := ⟨bits w 27 5, bits w 16 11, bits w 0 16⟩

def MicroWord.target (m : MicroWord) : Nat := bits m.op 0 14
def MicroWord.flag14 (m : MicroWord) : Bool := bitAt m.op 14
def MicroWord.flag15 (m : MicroWord) : Bool := bitAt m.op 15

/-- The codes R343 reserves. -/
def reservedCode (c : Nat) : Bool := decide (c = 14 ∨ c = 15 ∨ 19 ≤ c)

/-- The operand rules of R343; a word that breaks one raises cause *code*. -/
def MicroWord.operandOk (m : MicroWord) : Bool :=
  match m.code with
  | 4 | 5 => !m.flag14 && !m.flag15
  | 6 => m.op == 0
  | 8 | 9 | 10 | 11 | 12 | 13 => !m.flag14
  | 16 => bits m.op 11 5 == 0
  | 17 => m.op == 0
  | c => !reservedCode c

/-- Codes under which R347 permits substitution. -/
def substAllowed (c : Nat) : Bool := decide (c = 0 ∨ (4 ≤ c ∧ c ≤ 6) ∨ (8 ≤ c ∧ c ≤ 13) ∨ c = 17)

/-- EXPOSE (R349). -/
structure ExposeCmd where
  plate : Nat
  groups : List Nat
  avg : Nat
  bankOff : Nat
  firstOverwrite : Bool
  int4 : Bool
  hbLine : Nat
  z : Nat
  fromDram : Bool
  srcReg : Nat
  fromDesc : Bool
  deriving DecidableEq, Repr

/-- OUTPUT (R352). -/
structure OutputCmd where
  plate : Nat
  bankOff : Nat
  chFirst : Nat
  chCount : Nat
  result : Nat
  stochastic : Bool
  fuse : Nat
  fuseBf16 : Bool
  fuseShift : Int
  zOut : Nat
  zF : Nat
  k : Nat
  dstReg : Nat
  fuseReg : Nat
  port : Nat
  dstPkg : Nat
  fromDesc : Bool
  topkFmt : Nat
  deriving DecidableEq, Repr

/-- A nano-word's command (R348–R353). -/
inductive NanoCmd where
  | nop
  | expose (e : ExposeCmd)
  | load (plate srcReg hbLine lines : Nat)
  | output (o : OutputCmd)
  | fsend (port srcReg length dstPkg dstAddr : Nat) (fromDesc : Bool)
  | frecv (port dstReg length : Nat)
  | vector (unit progReg : Nat) (fromDesc : Bool)
  | sync (op object value : Nat) (remote : Bool) (dstPkg : Nat)
  deriving DecidableEq, Repr

/-- Substitution of R347: the field at `lo`, `w` bits wide, of nano-word `n` takes the operand; cause *field* when a
non-zero bit would be cut. -/
def substField (n lo w op : Nat) : Except McCause Nat :=
  if 2 ^ w ≤ op then .error .field
  else .ok (n - bits n lo w * 2 ^ lo + op * 2 ^ lo)

/-- The nano-word after the micro-word's substitution (R347, R348). A reserved kind is cause *kind* whatever its sub bit. -/
def substituted (n : Nat) (m : MicroWord) : Except McCause Nat :=
  if 8 ≤ bits n 0 4 then .error .kind
  else if !bitAt n 4 then .ok n
  else if !substAllowed m.code then .error .field
  else match bits n 0 4 with
    | 1 => substField n 96 12 m.op
    | 2 => substField n 24 12 m.op
    | 3 => substField n 24 16 m.op
    | 4 => substField n 22 16 m.op
    | 5 => substField n 22 16 m.op
    | 7 => substField n 18 12 m.op
    | _ => .error .field

/-- Entries 0 to `n` of the group list of an EXPOSE. -/
def exposeGroups (w ngroups : Nat) : List Nat := (List.range (ngroups + 1)).map (fun i => bits w (26 + 4 * i) 4)

/-- The command of a nano-word, with the checks of reserved bits and stated ranges that need nothing else (R346–R353). -/
def decodeNano (w : Nat) : Except McCause NanoCmd :=
  if 8 ≤ bits w 0 4 then .error .kind
  else if bits w 5 11 ≠ 0 then .error .field
  else match bits w 0 4 with
  | 0 => if w / 2 ^ 16 = 0 then .ok .nop else .error .field
  | 1 =>
    if bits w 90 2 = 3 ∨ bits w 120 72 ≠ 0 ∨ (bitAt w 95 = true ∧ bits w 108 8 ≠ 0) then .error .field
    else .ok (.expose
      { plate := bits w 16 6, groups := exposeGroups w (bits w 22 4), avg := 2 ^ bits w 90 2, bankOff := bits w 92 2,
        firstOverwrite := bitAt w 94, int4 := bitAt w 95, hbLine := bits w 96 12, z := bits w 108 8,
        fromDram := bitAt w 116, srcReg := bits w 117 2, fromDesc := bitAt w 119 })
  | 2 =>
    let lines := if bits w 36 12 = 0 then 4096 else bits w 36 12
    if bits w 48 144 ≠ 0 ∨ 4096 < bits w 24 12 + lines then .error .field
    else .ok (.load (bits w 16 6) (bits w 22 2) (bits w 24 12) lines)
  | 3 =>
    let o : OutputCmd :=
      { plate := bits w 16 6, bankOff := bits w 22 2, chFirst := bits w 24 17,
        chCount := if bits w 41 17 = 0 then 131072 else bits w 41 17, result := bits w 58 3,
        stochastic := bitAt w 61, fuse := bits w 62 2, fuseBf16 := bitAt w 64, fuseShift := toSigned 5 (bits w 65 5),
        zOut := bits w 70 8, zF := bits w 78 8, k := bits w 86 4 + 1, dstReg := bits w 90 2, fuseReg := bits w 92 2,
        port := bits w 94 4, dstPkg := bits w 98 10, fromDesc := bitAt w 108, topkFmt := bits w 109 1 }
    if 6 ≤ o.result ∨ o.fuse = 3 ∨ (o.result = 5 ∧ 12 ≤ o.port) ∨ (o.topkFmt = 1 ∧ o.result ≠ 2) ∨
       (o.result = 2 ∧ o.fuse ≠ 0 ∧ o.fuseBf16 = true ∧ o.topkFmt = 0) ∨ bits w 110 82 ≠ 0
    then .error .field else .ok (.output o)
  | 4 =>
    if bits w 22 16 = 0 ∨ 12 ≤ bits w 16 4 ∨ bits w 81 111 ≠ 0 then .error .field
    else .ok (.fsend (bits w 16 4) (bits w 20 2) (bits w 22 16) (bits w 38 10) (bits w 48 32) (bitAt w 80))
  | 5 =>
    if bits w 22 16 = 0 ∨ 12 ≤ bits w 16 4 ∨ bits w 38 154 ≠ 0 then .error .field
    else .ok (.frecv (bits w 16 4) (bits w 20 2) (bits w 22 16))
  | 6 =>
    if bitAt w 4 = true ∨ bits w 21 171 ≠ 0 then .error .field
    else .ok (.vector (bits w 16 2) (bits w 18 2) (bitAt w 20))
  | _ =>
    if 2 ≤ bits w 16 2 ∨ bits w 57 135 ≠ 0 then .error .field
    else .ok (.sync (bits w 16 2) (bits w 18 12) (bits w 30 16) (bitAt w 46) (bits w 47 10))

/-- The slot or claim kind a nano kind needs (R348); none for NOP and SYNC. -/
def NanoCmd.slotKind : NanoCmd → Option Nat
  | .nop => none
  | .expose _ => some 1
  | .load _ _ _ _ => some 1
  | .output _ => some 5
  | .fsend _ _ _ _ _ _ => some 2
  | .frecv _ _ _ => some 3
  | .vector _ _ _ => some 4
  | .sync _ _ _ _ _ => none

/-- The plate, port or unit it names (R348). -/
def NanoCmd.resource : NanoCmd → Option Nat
  | .nop => none
  | .expose e => some e.plate
  | .load p _ _ _ => some p
  | .output o => some o.plate
  | .fsend p _ _ _ _ _ => some p
  | .frecv p _ _ => some p
  | .vector u _ _ => some u
  | .sync _ _ _ _ _ => none

def NanoCmd.fromDesc : NanoCmd → Bool
  | .expose e => e.fromDesc
  | .output o => o.fromDesc
  | .fsend _ _ _ _ _ d => d
  | .vector _ _ d => d
  | _ => false

/-- An overlay record (R363, R364). -/
structure Overlay where
  nano : Bool
  romBase : Nat
  length : Nat
  ramBase : Nat
  deriving DecidableEq, Repr

/-- The patch as loaded (R362–R365). -/
structure Patch where
  levels : Levels
  micro : List (Nat × Nat)
  nano : List (Nat × Nat)
  overlays : List Overlay
  digest : Nat
  deriving DecidableEq, Repr

/-- R364: the patch RAM address an overlaid ROM address fetches from. -/
def overlaid (os : List Overlay) (nano : Bool) (a : Nat) : Option Nat :=
  match os.find? (fun o => o.nano == nano && decide (o.romBase ≤ a ∧ a < o.romBase + o.length)) with
  | some o => some (o.ramBase + (a - o.romBase))
  | none => none

/-- The overlay records of a PATCH_OVERLAY body. -/
def overlaysOf (b : List Byte) : List Overlay :=
  (List.range (leAt b 0 2)).map (fun k =>
    { nano := leAt b (4 + 8 * k) 1 == 1, romBase := leAt b (6 + 8 * k) 2, length := leAt b (8 + 8 * k) 2,
      ramBase := leAt b (10 + 8 * k) 2 })

/-- R363 for a PATCH_OVERLAY body. -/
def overlayOk (b : List Byte) : Bool :=
  let os := overlaysOf b
  decide (1 ≤ leAt b 0 2 ∧ leAt b 0 2 ≤ 64 ∧ leAt b 2 2 = 0 ∧ b.length = 4 + 8 * leAt b 0 2) &&
  (List.range (leAt b 0 2)).all (fun k => decide (leAt b (4 + 8 * k) 1 ≤ 1 ∧ leAt b (5 + 8 * k) 1 = 0)) &&
  os.all (fun o =>
    decide (1 ≤ o.length) &&
    (if o.nano then decide (1 ≤ o.romBase ∧ o.romBase + o.length ≤ 96 ∧ 96 ≤ o.ramBase ∧ o.ramBase + o.length ≤ 128)
     else decide (o.romBase + o.length ≤ 768 ∧ 768 ≤ o.ramBase ∧ o.ramBase + o.length ≤ 1024))) &&
  decide (os.Pairwise (fun p q => p.nano ≠ q.nano ∨ p.romBase + p.length ≤ q.romBase ∨ q.romBase + q.length ≤ p.romBase))

/-- Phase 2 of R190 on a firmware container of at most `maxLen` bytes, with the differences of R362 (microcode patch) and
R526 (island firmware), taken for stage-2 boot firmware too (R529); the range pairs are boot ROM, stage-2, microcode patch,
island firmware, plate image, and `rangesOk` says which of them the kind may declare. -/
def checkFwHeader (bs : List Byte) (magic maxLen : Nat) (rangesOk : Levels → Bool) : Except LoadErr (Header × List Section) :=
  let h0 := Header.ofBytes bs
  let h : Header := { h0 with levels := { own := h0.levels.own, boot := rangeAt bs 0x28, stage2 := rangeAt bs 0x2C,
                                          patch := rangeAt bs 0x30, island := rangeAt bs 0x34, fabric := none,
                                          plate := rangeAt bs 0x38 } }
  let secs := sectionsOf bs h.sectionCount
  if leAt bs 0 4 ≠ magic then .error ⟨0x02, 2, 0xFF⟩
  else if leAt bs 4 2 ≠ 1 then .error ⟨0x03, 2, 0xFF⟩
  else if leAt bs 6 2 ≠ 256 ∨ h.totalLen ≠ bs.length ∨ maxLen < h.totalLen ∨
      h.totalLen ≠ h.payloadOffset + h.payloadLen + 216 ∨ h.scope ≠ 0 ∨ h.id = 0 ∨ h.replaces ≠ 0 ∨ h.tenantRaw ≠ 0 ∨
      h.job ≠ 0 ∨ h.period ≠ 0 ∨ rangesOk h.levels = false ∨ h.sectionCount < 1 ∨ 128 < h.sectionCount ∨
      h.payloadOffset ≠ payloadOffsetOf h.sectionCount ∨ h.payloadLen % 64 ≠ 0 ∨ leAt bs 0x26 2 ≠ 0 ∨
      zeroAt bs 0x58 168 = false ∨ 8 ≤ h.keySlot ∨ 4 ≤ h.signerSlot
    then .error ⟨0x04, 2, 0xFF⟩
  else
    let ok (k : Nat) (s : Section) : Bool :=
      decide (s.type < 0x8000 ∧ s.flags ≤ 1 ∧ s.reserved = 0 ∧ s.offset % 64 = 0 ∧ 1 ≤ s.length ∧
        s.offset + s.length ≤ h.payloadLen) &&
      (secs.take k).all (fun t => decide (s.offset + s.length ≤ t.offset ∨ t.offset + t.length ≤ s.offset))
    match firstBad ok 0 secs with
    | some k => .error ⟨0x05, 2, k⟩
    | none => .ok (h, secs)

/-- Phase 5 of R190 on a patch payload (R363). -/
def parsePatch (h : Header) (secs : List Section) (payload : List Byte) (digest : Nat) : Except LoadErr Patch :=
  let body (s : Section) : List Byte := (payload.drop s.offset).take s.length
  let bodyOk (_ : Nat) (s : Section) : Bool :=
    let b := body s
    match s.type with
    | 0x101 => decide (b.length = 4 + 4 * leAt b 2 2 ∧ 768 ≤ leAt b 0 2 ∧ leAt b 0 2 + leAt b 2 2 ≤ 1024)
    | 0x102 => decide (b.length = 4 + 24 * leAt b 2 2 ∧ 96 ≤ leAt b 0 2 ∧ leAt b 0 2 + leAt b 2 2 ≤ 128)
    | 0x103 => overlayOk b
    | _ => true
  match firstBad (fun _ s => decide (0x101 ≤ s.type ∧ s.type ≤ 0x103)) 0 secs with
  | some k => .error ⟨0x0C, 5, k⟩
  | none =>
  match firstBad bodyOk 0 secs with
  | some k => .error ⟨0x0D, 5, k⟩
  | none =>
  match firstBad (fun k s => !((secs.take k).any (fun t => t.type == s.type))) 0 secs with
  | some k => .error ⟨0x0E, 5, k⟩
  | none =>
  let ofType (t : Nat) : List Byte := match secs.find? (fun s => s.type == t) with | some s => body s | none => []
  .ok { levels := h.levels,
        micro := (List.range (leAt (ofType 0x101) 2 2)).map (fun k =>
          (leAt (ofType 0x101) 0 2 + k, storedMicro (leAt (ofType 0x101) (4 + 4 * k) 4))),
        nano := (List.range (leAt (ofType 0x102) 2 2)).map (fun k =>
          (leAt (ofType 0x102) 0 2 + k, storedNano (leAt (ofType 0x102) (4 + 24 * k) 24))),
        overlays := overlaysOf (ofType 0x103), digest := digest }

end Sys2Proof.Machine
end

