-- ==== Sys2Proof/Machine/SMap.lean ====
section
/-!
DEFINITION. Sys2Proof/Machine/SMap.lean: sparse data by number, held as a list of (key, value) pairs with the keys
strictly rising and no entry equal to the stated default. Every indexed store of the package (tiles, contexts,
sequencer stores, sync objects, flash words, DRAM bytes) is one of these.
-/

namespace Sys2Proof.Machine

/-- A sparse map from numbers to `α`; what an unlisted key holds is stated by whoever reads it. -/
abbrev SMap (α : Type) := List (Nat × α)

/-- The entry listed for `k`, if any. -/
def SMap.lookup {α : Type} : SMap α → Nat → Option α
  | [], _ => none
  | (k', v) :: m, k => if k' = k then some v else SMap.lookup m k

/-- The value at `k`, `d` where nothing is listed. -/
def SMap.get {α : Type} (d : α) (m : SMap α) (k : Nat) : α := (SMap.lookup m k).getD d

/-- The map with every entry for `k` taken out. -/
def SMap.erase {α : Type} : SMap α → Nat → SMap α
  | [], _ => []
  | (k', v) :: m, k => if k' = k then SMap.erase m k else (k', v) :: SMap.erase m k

/-- The map with `(k, v)` put before the first larger key. -/
def SMap.insert {α : Type} : SMap α → Nat → α → SMap α
  | [], k, v => [(k, v)]
  | (k', v') :: m, k, v => if k < k' then (k, v) :: (k', v') :: m else (k', v') :: SMap.insert m k v

/-- The map with the value at `k` now `v`; writing the default takes the entry out, so equal contents are equal data. -/
def SMap.set {α : Type} [DecidableEq α] (d : α) (m : SMap α) (k : Nat) (v : α) : SMap α :=
  if v = d then SMap.erase m k else SMap.insert (SMap.erase m k) k v

/-- The map with the value at `k` changed by `f`. -/
def SMap.update {α : Type} [DecidableEq α] (d : α) (m : SMap α) (k : Nat) (f : α → α) : SMap α :=
  SMap.set d m k (f (SMap.get d m k))

/-- The map without its entries at the keys `lo` up to but excluding `hi`. -/
def SMap.clearRange {α : Type} : SMap α → Nat → Nat → SMap α
  | [], _, _ => []
  | (k, v) :: m, lo, hi =>
    if lo ≤ k ∧ k < hi then SMap.clearRange m lo hi else (k, v) :: SMap.clearRange m lo hi

/-- Keys strictly rising, all above `lo` when a bound is given, and no entry equal to the default. -/
def SMap.wfFrom {α : Type} [DecidableEq α] (d : α) : Option Nat → SMap α → Bool
  | _, [] => true
  | none, (k, v) :: m => decide (v ≠ d) && SMap.wfFrom d (some k) m
  | some lo, (k, v) :: m => decide (lo < k) && decide (v ≠ d) && SMap.wfFrom d (some k) m

/-- The canonical form. -/
def SMap.wf {α : Type} [DecidableEq α] (d : α) (m : SMap α) : Bool := SMap.wfFrom d none m

end Sys2Proof.Machine
end

