-- ==== Sys2Proof/Machine/Regs.lean ====
section
/-!
DEFINITION. Sys2Proof/Machine/Regs.lean: every register field of the spec's register tables (R14), one definition each:
its offset, lowest bit, width, access code (R15) and reset value. Offsets below 0x40_0000 are BAR0 offsets (the block
bases of R494 added); 0x40_0000 plus an island internal address (R530) names a register of the island; 0x100_0000 plus
0x1_0000 times the tile number plus a tile-map address (R230) names a register of a tile. A field whose reset the spec
gives as a dash holds 0 here until the hardware sets it, or is read through the live view of Machine/View.lean.
-/

namespace Sys2Proof.Machine

/-- The access codes of R15. -/
inductive Acc where
  | RW | RO | W1C | W1S | WO | RWS | RWL
  deriving DecidableEq, Repr

/-- One register field: where it lies, how it may be accessed, what it holds after a conventional reset (R14). -/
structure Fld where
  off : Nat
  lo : Nat
  w : Nat
  acc : Acc
  rst : Nat
  deriving DecidableEq, Repr

/-- The key of a field in the register file. -/
def Fld.key (f : Fld) : Nat := 32 * f.off + f.lo

/-- The register file: the fields that do not hold their reset value. -/
abbrev RegFile := SMap Nat

/-- The value of a field. -/
def RegFile.get (r : RegFile) (f : Fld) : Nat := (SMap.lookup r f.key).getD f.rst

/-- The file with the field now holding `v`, cut to the field's width. -/
def RegFile.put (r : RegFile) (f : Fld) (v : Nat) : RegFile := SMap.set f.rst r f.key (v % 2 ^ f.w)

/-- The file with every field at the offsets `lo` up to but excluding `hi` back at its reset value. -/
def RegFile.resetRange (r : RegFile) (lo hi : Nat) : RegFile := SMap.clearRange r (32 * lo) (32 * hi)

/-! ### GEN registers (spec/01_the_machine.md) -/

/-- `GEN_TOPO.slot` (RO): strap. Slot within the sled, from POS_SLOT[2:0]. -/
def R.GEN_TOPO_slot : Fld := ⟨0x40, 0, 3, .RO, 0⟩

/-- `GEN_TOPO.sled` (RO): strap. Sled within the rack, from POS_SLED[3:0]. -/
def R.GEN_TOPO_sled : Fld := ⟨0x40, 3, 4, .RO, 0⟩

/-- `GEN_TOPO.rack` (RO): Rack number from the assignment message. Reads 0 until assigned. Bits [9:0] read together give the package index. -/
def R.GEN_TOPO_rack : Fld := ⟨0x40, 7, 3, .RO, 0⟩

/-- `GEN_TOPO.assigned` (RO): 1 once a valid assignment message has been accepted since the last conventional reset. -/
def R.GEN_TOPO_assigned : Fld := ⟨0x40, 20, 1, .RO, 0⟩

/-- `GEN_TOPO.bench` (RO): strap. 1 when the package is in BENCH. Reads 1 on A0 whatever the strap reads. -/
def R.GEN_TOPO_bench : Fld := ⟨0x40, 21, 1, .RO, 0⟩

/-- `GEN_TOPO.pos_mismatch` (RO): 1 when the strapped sled or slot differs from the generator's expected values. It is cleared only by a conventional reset. -/
def R.GEN_TOPO_pos_mismatch : Fld := ⟨0x40, 22, 1, .RO, 0⟩

/-- `GEN_MACHINE.machine_id` (RO): Machine ID from the assignment message. -/
def R.GEN_MACHINE_machine_id : Fld := ⟨0x44, 0, 16, .RO, 0⟩

/-- `GEN_MACHINE.racks_minus_one` (RO): Number of racks in the machine, minus 1. -/
def R.GEN_MACHINE_racks_minus_one : Fld := ⟨0x44, 16, 3, .RO, 0⟩

/-! ### GEN registers (spec/02_package.md) -/

/-- `GEN_STRAP.pos_slot` (RO): strap. POS_SLOT[2:0] as sampled. -/
def R.GEN_STRAP_pos_slot : Fld := ⟨0x48, 0, 3, .RO, 0⟩

/-- `GEN_STRAP.pos_sled` (RO): strap. POS_SLED[3:0] as sampled. -/
def R.GEN_STRAP_pos_sled : Fld := ⟨0x48, 3, 4, .RO, 0⟩

/-- `GEN_STRAP.bench_en` (RO): strap. BENCH_EN as sampled. On A0 this field shows the strap, while GEN_TOPO.bench reads 1. -/
def R.GEN_STRAP_bench_en : Fld := ⟨0x48, 7, 1, .RO, 0⟩

/-- `GEN_STRAP.sb_mode` (RO): strap. 0: SMBus 3.1. 1: I3C basic mode. -/
def R.GEN_STRAP_sb_mode : Fld := ⟨0x48, 8, 1, .RO, 0⟩

/-- `GEN_STRAP.host_bif` (RO): strap. 0: x16. 1: 2 × x8. -/
def R.GEN_STRAP_host_bif : Fld := ⟨0x48, 9, 1, .RO, 0⟩

/-- `GEN_DIE.array_link` (RO): live. Bit k is 1 while array link k is trained. -/
def R.GEN_DIE_array_link : Fld := ⟨0x4C, 0, 4, .RO, 0⟩

/-- `GEN_DIE.dram_link` (RO): live. Bit 4 + k is 1 while DRAM link k is trained. -/
def R.GEN_DIE_dram_link : Fld := ⟨0x4C, 4, 2, .RO, 0⟩

/-- `GEN_DIE.island_link` (RO): live. 1 while the island link is up. -/
def R.GEN_DIE_island_link : Fld := ⟨0x4C, 6, 1, .RO, 0⟩

/-! ### HZN registers (spec/03_horizon.md) -/

/-- `HZN_CTRL.rx_en` (RW): 1: the receiver runs. 0: the receiver is forced to DARK. -/
def R.HZN_CTRL_rx_en : Fld := ⟨0x30000, 0, 1, .RW, 1⟩

/-- `HZN_CTRL.clr_counts` (WO): Writing 1 clears HZN_ERR0 and HZN_ERR1. -/
def R.HZN_CTRL_clr_counts : Fld := ⟨0x30000, 1, 1, .WO, 0⟩

/-- `HZN_STAT.lock_state` (RO): 0 DARK, 1 ACQUIRING, 2 LOCKED, 3 COASTING, 4 LOST. Values 5–7 do not occur. -/
def R.HZN_STAT_lock_state : Fld := ⟨0x30004, 0, 3, .RO, 0⟩

/-- `HZN_STAT.synth` (RO): 1 in BENCH. -/
def R.HZN_STAT_synth : Fld := ⟨0x30004, 3, 1, .RO, 0⟩

/-- `HZN_STAT.pll_locked` (RO): live. 1 while the horizon PLL is locked. -/
def R.HZN_STAT_pll_locked : Fld := ⟨0x30004, 4, 1, .RO, 0⟩

/-- `HZN_STAT.delay_valid` (RO): 1 once a DELAY has been applied since reset. -/
def R.HZN_STAT_delay_valid : Fld := ⟨0x30004, 5, 1, .RO, 0⟩

/-- `HZN_STAT.number_valid` (RO): 1 once R97 condition 3 has been met since reset. -/
def R.HZN_STAT_number_valid : Fld := ⟨0x30004, 6, 1, .RO, 0⟩

/-- `HZN_STAT.assign_conflict` (RO): Set as R113 states. -/
def R.HZN_STAT_assign_conflict : Fld := ⟨0x30004, 7, 1, .RO, 0⟩

/-- `HZN_STAT.coast_frames` (RO): Local marks since COASTING was entered, 0–64. Keeps its value after COASTING ends. -/
def R.HZN_STAT_coast_frames : Fld := ⟨0x30004, 8, 7, .RO, 0⟩

/-- `HZN_STAT.last_loss` (RO): Cause of the last exit from LOCKED: 0 none, 1 no activity, 2 PLL unlock, 3 missing marks, 4 number jump, 5 delay step, 6 receiver disabled. -/
def R.HZN_STAT_last_loss : Fld := ⟨0x30004, 16, 3, .RO, 0⟩

/-- `HZN_NOW_LO.frame_lo` (RO): live. Local frame [31:0]. A read captures HZN_NOW_HI. -/
def R.HZN_NOW_LO_frame_lo : Fld := ⟨0x30008, 0, 32, .RO, 0⟩

/-- `HZN_NOW_HI.frame_hi` (RO): live. Local frame [47:32], as captured. -/
def R.HZN_NOW_HI_frame_hi : Fld := ⟨0x3000C, 0, 16, .RO, 0⟩

/-- `HZN_NOW_HI.tick` (RO): live. Local tick at the capture. -/
def R.HZN_NOW_HI_tick : Fld := ⟨0x3000C, 16, 11, .RO, 0⟩

/-- `HZN_DELAY.offset` (RO): Offset now applied, in 1/64 tick. During a slew it reads the current step. -/
def R.HZN_DELAY_offset : Fld := ⟨0x30010, 0, 16, .RO, 0⟩

/-- `HZN_DELAY.seq` (RO): Sequence number of the last accepted DELAY. -/
def R.HZN_DELAY_seq : Fld := ⟨0x30010, 16, 8, .RO, 0⟩

/-- `HZN_ERR0.symbol_errors` (RO): R112. -/
def R.HZN_ERR0_symbol_errors : Fld := ⟨0x30014, 0, 16, .RO, 0⟩

/-- `HZN_ERR0.number_crc_errors` (RO): R101. -/
def R.HZN_ERR0_number_crc_errors : Fld := ⟨0x30014, 16, 16, .RO, 0⟩

/-- `HZN_ERR1.missing_marks` (RO): R96. -/
def R.HZN_ERR1_missing_marks : Fld := ⟨0x30018, 0, 8, .RO, 0⟩

/-- `HZN_ERR1.msg_crc_errors` (RO): R89. -/
def R.HZN_ERR1_msg_crc_errors : Fld := ⟨0x30018, 8, 8, .RO, 0⟩

/-- `HZN_ERR1.msg_rejected` (RO): R50, R90, R94. -/
def R.HZN_ERR1_msg_rejected : Fld := ⟨0x30018, 16, 8, .RO, 0⟩

/-- `HZN_ERR1.coast_entries` (RO): Entries into COASTING. -/
def R.HZN_ERR1_coast_entries : Fld := ⟨0x30018, 24, 8, .RO, 0⟩

/-- `HZN_EVT` (W1C): Bit 0 locked, 1 coasting, 2 lost, 3 delay_applied, 4 assign_accepted, 5 assign_conflict, 6 number_jump. Set on each event. -/
def R.HZN_EVT : Fld := ⟨0x3001C, 0, 7, .W1C, 0⟩

/-- `HZN_IRQ_EN` (RW): Bit n enables the horizon interrupt for HZN_EVT bit n. -/
def R.HZN_IRQ_EN : Fld := ⟨0x30020, 0, 7, .RW, 0⟩

/-- `HZN_GEN.gen_state` (RO): From the last STATUS message. -/
def R.HZN_GEN_gen_state : Fld := ⟨0x30024, 0, 2, .RO, 0⟩

/-- `HZN_GEN.return_seen` (RO): From the last STATUS message. -/
def R.HZN_GEN_return_seen : Fld := ⟨0x30024, 2, 1, .RO, 0⟩

/-- `HZN_GEN.star_output` (RO): From the last STATUS message. -/
def R.HZN_GEN_star_output : Fld := ⟨0x30024, 3, 7, .RO, 0⟩

/-- `HZN_BENCH.gap_frames` (RW): R110. -/
def R.HZN_BENCH_gap_frames : Fld := ⟨0x30028, 0, 7, .RW, 0⟩

/-- `HZN_BENCH.gap_start` (WO): R110. -/
def R.HZN_BENCH_gap_start : Fld := ⟨0x30028, 8, 1, .WO, 0⟩

/-! ### GEN registers (spec/04_dawn_and_dusk.md) -/

/-- `GEN_READY.cfg_ready` (RO): Configuration requests are served without retry status. -/
def R.GEN_READY_cfg_ready : Fld := ⟨0x50, 0, 1, .RO, 0⟩

/-- `GEN_READY.mem_active` (RO): DRAM is initialised and cleared; CXL.mem may decode. -/
def R.GEN_READY_mem_active : Fld := ⟨0x50, 1, 1, .RO, 0⟩

/-- `GEN_READY.sb_ready` (RO): The sideband accepts commands beyond the identity block. -/
def R.GEN_READY_sb_ready : Fld := ⟨0x50, 2, 1, .RO, 0⟩

/-- `GEN_READY.mbox_ready` (RO): The island mailbox no longer answers NOT_READY. -/
def R.GEN_READY_mbox_ready : Fld := ⟨0x50, 3, 1, .RO, 0⟩

/-- `GEN_READY.compute_ready` (RO): Admission is running (R127). -/
def R.GEN_READY_compute_ready : Fld := ⟨0x50, 4, 1, .RO, 0⟩

/-- `GEN_STATE.state` (RO): The state code of R116. -/
def R.GEN_STATE_state : Fld := ⟨0x54, 0, 3, .RO, 1⟩

/-- `GEN_STATE.dawn_step` (RO): The step of R119 in progress; 15 once dawn is complete. -/
def R.GEN_STATE_dawn_step : Fld := ⟨0x54, 8, 4, .RO, 2⟩

/-- `GEN_STATE.attempt` (RO): live. The attempt number under which the current dawn ran. -/
def R.GEN_STATE_attempt : Fld := ⟨0x54, 12, 2, .RO, 0⟩

/-- `GEN_HOLD_CAUSE.causes` (RO): Bits as R128 defines them. -/
def R.GEN_HOLD_CAUSE_causes : Fld := ⟨0x58, 0, 5, .RO, 0⟩

/-- `GEN_HOLD_CAUSE.checker` (RO): The image whose declared range excluded the other's level: 0 boot ROM, 1 stage-2, 2 microcode patch, 3 island firmware, 4 plate image. -/
def R.GEN_HOLD_CAUSE_checker : Fld := ⟨0x58, 8, 3, .RO, 0⟩

/-- `GEN_HOLD_CAUSE.checked` (RO): The image whose level was excluded, in the same coding. -/
def R.GEN_HOLD_CAUSE_checked : Fld := ⟨0x58, 11, 3, .RO, 0⟩

/-- `GEN_HOLD_CAUSE.auth_image` (RO): For fw_auth: 0 stage-2, 1 microcode patch, 2 island firmware. -/
def R.GEN_HOLD_CAUSE_auth_image : Fld := ⟨0x58, 14, 2, .RO, 0⟩

/-- `GEN_HOLD_LEVELS.checker_level` (RO): The own level of the checker image. -/
def R.GEN_HOLD_LEVELS_checker_level : Fld := ⟨0x5C, 0, 16, .RO, 0⟩

/-- `GEN_HOLD_LEVELS.checked_level` (RO): The own level of the checked image. -/
def R.GEN_HOLD_LEVELS_checked_level : Fld := ⟨0x5C, 16, 16, .RO, 0⟩

/-! ### PWR registers (spec/04_dawn_and_dusk.md) -/

/-- `PWR_STAT.rail_good` (RO): live. Bit n is 1 while rail n of R119 is good. -/
def R.PWR_STAT_rail_good : Fld := ⟨0x10000, 0, 6, .RO, 0⟩

/-- `PWR_STAT.vhold_ok` (RO): live. 1 while VHOLD is at or above 3.2 V. -/
def R.PWR_STAT_vhold_ok : Fld := ⟨0x10000, 6, 1, .RO, 0⟩

/-- `PWR_STAT.vbat_low` (RO): live. 1 while the island's battery-low flag is set. -/
def R.PWR_STAT_vbat_low : Fld := ⟨0x10000, 7, 1, .RO, 0⟩

/-- `PWR_STAT.bad_keys` (RO): Writes with a wrong key (R133, R134), saturating at 255. -/
def R.PWR_STAT_bad_keys : Fld := ⟨0x10000, 8, 8, .RO, 0⟩

/-- `PWR_DUSK.request` (WO): R134. -/
def R.PWR_DUSK_request : Fld := ⟨0x10004, 0, 1, .WO, 0⟩

/-- `PWR_DUSK.restart` (WO): With request: dawn again after OFF. -/
def R.PWR_DUSK_restart : Fld := ⟨0x10004, 1, 1, .WO, 0⟩

/-- `PWR_DUSK.key` (WO): Must be 0xD05C. -/
def R.PWR_DUSK_key : Fld := ⟨0x10004, 16, 16, .WO, 0⟩

/-- `PWR_DUSK_STAT.ignored` (W1C): A request was ignored under R135. -/
def R.PWR_DUSK_STAT_ignored : Fld := ⟨0x10008, 0, 1, .W1C, 0⟩

/-- `PWR_DUSK_STAT.overrun` (RWS): The last dusk missed its quiesce deadline. Mirrored from the island at dawn. -/
def R.PWR_DUSK_STAT_overrun : Fld := ⟨0x10008, 1, 1, .RWS, 0⟩

/-- `PWR_DUSK_STAT.warm_ignored` (W1C): A warm reset write with the correct key was ignored under R133. -/
def R.PWR_DUSK_STAT_warm_ignored : Fld := ⟨0x10008, 2, 1, .W1C, 0⟩

/-- `PWR_DAWN_CAUSE.code` (RO): live. The cause code of R119 of the last unacknowledged DAWN_FAIL, from the island journal. -/
def R.PWR_DAWN_CAUSE_code : Fld := ⟨0x1000C, 0, 8, .RO, 0⟩

/-- `PWR_DAWN_CAUSE.index` (RO): live. The cause index. -/
def R.PWR_DAWN_CAUSE_index : Fld := ⟨0x1000C, 8, 8, .RO, 0⟩

/-- `PWR_DAWN_CAUSE.attempt` (RO): live. The failed attempt. -/
def R.PWR_DAWN_CAUSE_attempt : Fld := ⟨0x1000C, 16, 2, .RO, 0⟩

/-- `PWR_DAWN_CAUSE.valid` (RO): live. 1 while a record is unacknowledged. -/
def R.PWR_DAWN_CAUSE_valid : Fld := ⟨0x1000C, 31, 1, .RO, 0⟩

/-- `PWR_DAWN_TIME.ms` (RO): live. Milliseconds from VAUX in range to the failure, saturating at 65,535. -/
def R.PWR_DAWN_TIME_ms : Fld := ⟨0x10010, 0, 16, .RO, 0⟩

/-- `PWR_LAST_STOP.kind` (RO): live. 0 none, 1 host or sideband dusk, 2 thermal dusk, 3 island-link dusk, 4 thermal immediate, 5 power-fault immediate, 6 VAUX loss. -/
def R.PWR_LAST_STOP_kind : Fld := ⟨0x10014, 0, 4, .RO, 0⟩

/-- `PWR_LAST_STOP.in_dusk` (RO): live. VAUX loss occurred during dusk (R142). -/
def R.PWR_LAST_STOP_in_dusk : Fld := ⟨0x10014, 4, 1, .RO, 0⟩

/-- `PWR_LAST_STOP.rail` (RO): live. The rail for kind 5. -/
def R.PWR_LAST_STOP_rail : Fld := ⟨0x10014, 5, 3, .RO, 0⟩

/-- `PWR_LAST_STOP.valid` (RO): live. 1 while the record is unacknowledged. -/
def R.PWR_LAST_STOP_valid : Fld := ⟨0x10014, 31, 1, .RO, 0⟩

/-- `PWR_STOP_FRAME_LO` (RO): live. Frame [31:0] of the stop. For a dusk, it is frame F − 1 of R136: the frame in which dusk was accepted, which is the last frame attributed. For an immediate stop, it is the stop frame of R140. For a VAUX loss, it is the frame in which VAUX left its range. A read captures the high word. -/
def R.PWR_STOP_FRAME_LO : Fld := ⟨0x10018, 0, 32, .RO, 0⟩

/-- `PWR_STOP_FRAME_HI` (RO): live. Frame [47:32] of the stop. -/
def R.PWR_STOP_FRAME_HI : Fld := ⟨0x1001C, 0, 16, .RO, 0⟩

/-- `PWR_ACK.dawn` (WO): Acknowledges the DAWN_FAIL record; PWR_DAWN_CAUSE.valid clears. -/
def R.PWR_ACK_dawn : Fld := ⟨0x10020, 0, 1, .WO, 0⟩

/-- `PWR_ACK.stop` (WO): Acknowledges the stop record; PWR_LAST_STOP.valid clears. -/
def R.PWR_ACK_stop : Fld := ⟨0x10020, 1, 1, .WO, 0⟩

/-- `PWR_RESET.warm` (WO): R133. -/
def R.PWR_RESET_warm : Fld := ⟨0x10024, 0, 1, .WO, 0⟩

/-- `PWR_RESET.key` (WO): Must be 0x5E7A. -/
def R.PWR_RESET_key : Fld := ⟨0x10024, 16, 16, .WO, 0⟩

/-- `PWR_DAWN_TIMES.cfg_ms` (RO): live. Milliseconds, rounded down, from the control-die reset release of the completed dawn to cfg_ready. -/
def R.PWR_DAWN_TIMES_cfg_ms : Fld := ⟨0x10028, 0, 16, .RO, 0⟩

/-- `PWR_DAWN_TIMES.lock_ms` (RO): live. Milliseconds, rounded down, from cfg_ready to LOCKED. 0 in BENCH. -/
def R.PWR_DAWN_TIMES_lock_ms : Fld := ⟨0x10028, 16, 16, .RO, 0⟩

/-! ### CLK registers (spec/05_clocks.md) -/

/-- `CLK_STAT.pll_locked` (RO): live. Bit n is 1 while PLL n of R145 is locked. -/
def R.CLK_STAT_pll_locked : Fld := ⟨0x20000, 0, 8, .RO, 0⟩

/-- `CLK_STAT.ref_present` (RO): live. 1 while HREFCLK is restored under R151. -/
def R.CLK_STAT_ref_present : Fld := ⟨0x20000, 8, 1, .RO, 0⟩

/-- `CLK_STAT.coasting` (RO): live. R152. -/
def R.CLK_STAT_coasting : Fld := ⟨0x20000, 9, 1, .RO, 0⟩

/-- `CLK_STAT.array_forced` (RO): live. R153. -/
def R.CLK_STAT_array_forced : Fld := ⟨0x20000, 10, 1, .RO, 0⟩

/-- `CLK_GATE.en` (RW): R156. -/
def R.CLK_GATE_en : Fld := ⟨0x20004, 0, 15, .RW, 32767⟩

/-- `CLK_GATE_STAT.gated` (RO): Bit n is 1 while block n's clock is stopped. -/
def R.CLK_GATE_STAT_gated : Fld := ⟨0x20008, 0, 15, .RO, 0⟩

/-- `CLK_GATE_STAT.pending` (RO): Bit 16 + n is 1 while a gating request for block n waits (R157). -/
def R.CLK_GATE_STAT_pending : Fld := ⟨0x20008, 16, 15, .RO, 0⟩

/-- `CLK_OBS.src` (RW): R161. -/
def R.CLK_OBS_src : Fld := ⟨0x2000C, 0, 5, .RW, 0⟩

/-- `CLK_OBS.en` (RW): 1 drives CLKOBS (R162). -/
def R.CLK_OBS_en : Fld := ⟨0x2000C, 5, 1, .RW, 0⟩

/-- `CLK_OBS.div` (RW): Division minus 1. -/
def R.CLK_OBS_div : Fld := ⟨0x2000C, 16, 10, .RW, 0⟩

/-- `CLK_EVT` (W1C): Bit 0 ref_lost, 1 ref_restored, 2 core_coast, 3 array_forced, 4 relock_fail, 5 fabric_unlock, 6 obs_reject. Set on each event. -/
def R.CLK_EVT : Fld := ⟨0x20010, 0, 7, .W1C, 0⟩

/-- `CLK_IRQ_EN` (RW): Bit n enables the clock interrupt for CLK_EVT bit n. -/
def R.CLK_IRQ_EN : Fld := ⟨0x20014, 0, 7, .RW, 0⟩

/-- `CLK_CNT.ref_losses` (RO): HREFCLK losses. -/
def R.CLK_CNT_ref_losses : Fld := ⟨0x20018, 0, 16, .RO, 0⟩

/-- `CLK_CNT.relock_fails` (RO): R170. -/
def R.CLK_CNT_relock_fails : Fld := ⟨0x20018, 16, 8, .RO, 0⟩

/-- `CLK_CNT.forced_exposures` (RO): Exposures abandoned under R153. -/
def R.CLK_CNT_forced_exposures : Fld := ⟨0x20018, 24, 8, .RO, 0⟩

/-- `CLK_CTRL.clr_counts` (WO): Writing 1 clears CLK_CNT. -/
def R.CLK_CTRL_clr_counts : Fld := ⟨0x2001C, 0, 1, .WO, 0⟩

/-! ### OSC registers (spec/05_clocks.md) -/

/-- `OSC_STAT.trim_src` (RO): Source of the running window: 0 none, 1 crystal, 2 frame marks. -/
def R.OSC_STAT_trim_src : Fld := ⟨0x450000, 0, 2, .RO, 0⟩

/-- `OSC_STAT.xtal_fail` (RO): R168. -/
def R.OSC_STAT_xtal_fail : Fld := ⟨0x450000, 2, 1, .RO, 0⟩

/-- `OSC_STAT.xtal_run` (RO): 1 while the crystal oscillates. -/
def R.OSC_STAT_xtal_run : Fld := ⟨0x450000, 3, 1, .RO, 0⟩

/-- `OSC_TRIM.code` (RW): R164. Writes are ignored while OSC_CTRL.auto is 1. -/
def R.OSC_TRIM_code : Fld := ⟨0x450004, 0, 9, .RW, 256⟩

/-- `OSC_CTRL.auto` (RW): 1: trim under R165. -/
def R.OSC_CTRL_auto : Fld := ⟨0x450008, 0, 1, .RW, 1⟩

/-- `OSC_CTRL.frame_ok` (RW): 1: frame marks may be a source. -/
def R.OSC_CTRL_frame_ok : Fld := ⟨0x450008, 1, 1, .RW, 1⟩

/-- `OSC_LAST.count` (RO): RC count of the last applied window. -/
def R.OSC_LAST_count : Fld := ⟨0x45000C, 0, 24, .RO, 0⟩

/-- `OSC_LAST.src` (RO): Source of that window. -/
def R.OSC_LAST_src : Fld := ⟨0x45000C, 24, 2, .RO, 0⟩

/-- `OSC_CNT.applied` (RO): Windows applied, saturating. -/
def R.OSC_CNT_applied : Fld := ⟨0x450010, 0, 16, .RO, 0⟩

/-- `OSC_CNT.discarded` (RO): Windows discarded, saturating. -/
def R.OSC_CNT_discarded : Fld := ⟨0x450010, 16, 16, .RO, 0⟩

/-! ### IMG registers (spec/06_plate_image.md) -/

/-- `IMG_CTRL.start` (WO): Starts a load (R189). -/
def R.IMG_CTRL_start : Fld := ⟨0x40000, 0, 1, .WO, 0⟩

/-- `IMG_CTRL.unload` (WO): Unloads the image named by IMG_ID (R199). -/
def R.IMG_CTRL_unload : Fld := ⟨0x40000, 1, 1, .WO, 0⟩

/-- `IMG_CTRL.abort` (WO): R200. -/
def R.IMG_CTRL_abort : Fld := ⟨0x40000, 2, 1, .WO, 0⟩

/-- `IMG_STAT.busy` (RO): 1 from start or unload until the result is posted. -/
def R.IMG_STAT_busy : Fld := ⟨0x40004, 0, 1, .RO, 0⟩

/-- `IMG_STAT.phase` (RO): 0 idle, 1–9 as in R190, 10 unload. -/
def R.IMG_STAT_phase : Fld := ⟨0x40004, 1, 4, .RO, 0⟩

/-- `IMG_SRC_LO` (RW): Source address [31:0]. Bits [11:0] must be 0. -/
def R.IMG_SRC_LO : Fld := ⟨0x40008, 0, 32, .RW, 0⟩

/-- `IMG_SRC_HI` (RW): Source address [63:32]. -/
def R.IMG_SRC_HI : Fld := ⟨0x4000C, 0, 32, .RW, 0⟩

/-- `IMG_LEN.bytes` (RW): Total length. -/
def R.IMG_LEN_bytes : Fld := ⟨0x40010, 0, 23, .RW, 0⟩

/-- `IMG_CTX.context` (RW): Owning context. -/
def R.IMG_CTX_context : Fld := ⟨0x40014, 0, 6, .RW, 0⟩

/-- `IMG_ID_LO` (RW): image_id [31:0]. After a successful load, the loaded image's ID. -/
def R.IMG_ID_LO : Fld := ⟨0x40018, 0, 32, .RW, 0⟩

/-- `IMG_ID_HI` (RW): image_id [63:32]. -/
def R.IMG_ID_HI : Fld := ⟨0x4001C, 0, 32, .RW, 0⟩

/-- `IMG_RESULT.code` (RO): Error code of R190, or 0. -/
def R.IMG_RESULT_code : Fld := ⟨0x40020, 0, 8, .RO, 0⟩

/-- `IMG_RESULT.phase` (RO): Phase of the failure. -/
def R.IMG_RESULT_phase : Fld := ⟨0x40020, 8, 4, .RO, 0⟩

/-- `IMG_RESULT.section` (RO): Index of the failing section-table entry; 0xFF where no section applies. -/
def R.IMG_RESULT_section : Fld := ⟨0x40020, 12, 8, .RO, 0⟩

/-- `IMG_RESULT.level_mismatch` (RO): R194. -/
def R.IMG_RESULT_level_mismatch : Fld := ⟨0x40020, 20, 1, .RO, 0⟩

/-- `IMG_EVT` (W1C): Bit 0 done, 1 error, 2 start_rejected, 3 held. Set on each event. -/
def R.IMG_EVT : Fld := ⟨0x40024, 0, 4, .W1C, 0⟩

/-- `IMG_IRQ_EN` (RW): Bit n enables the loader interrupt for IMG_EVT bit n. -/
def R.IMG_IRQ_EN : Fld := ⟨0x40028, 0, 4, .RW, 0⟩

/-- `IMG_COUNT.resident` (RO): Resident images, 0–64. -/
def R.IMG_COUNT_resident : Fld := ⟨0x4002C, 0, 7, .RO, 0⟩

/-- `IMG_COUNT.errors` (RO): Failed loads, saturating. Cleared by conventional and warm reset. -/
def R.IMG_COUNT_errors : Fld := ⟨0x4002C, 16, 16, .RO, 0⟩

/-- `IMG_PLATE_OCC_LO` (RO): Bit p is 1 while plate p (0–31) is in use. -/
def R.IMG_PLATE_OCC_LO : Fld := ⟨0x40030, 0, 32, .RO, 0⟩

/-- `IMG_PLATE_OCC_HI` (RO): Plates 32–63. -/
def R.IMG_PLATE_OCC_HI : Fld := ⟨0x40034, 0, 32, .RO, 0⟩

/-- `IMG_TILE_OCCk` (RO): Bit b is 1 while tile 32k + b is in use or being erased. -/
def R.IMG_TILE_OCC (k : Nat) : Fld := ⟨0x40040 + 0x4 * k, 0, 32, .RO, 0⟩

/-- `IMG_SEL.slot` (RW): Selects a resident-image slot for IMG_RES_*. -/
def R.IMG_SEL_slot : Fld := ⟨0x40060, 0, 6, .RW, 0⟩

/-- `IMG_RES_CTX.context` (RO): Owning context of the selected slot. -/
def R.IMG_RES_CTX_context : Fld := ⟨0x40064, 0, 6, .RO, 0⟩

/-- `IMG_RES_CTX.valid` (RO): 1 while the slot holds a resident image. -/
def R.IMG_RES_CTX_valid : Fld := ⟨0x40064, 6, 1, .RO, 0⟩

/-- `IMG_RES_ID_LO` (RO): image_id [31:0] of the selected slot. -/
def R.IMG_RES_ID_LO : Fld := ⟨0x40068, 0, 32, .RO, 0⟩

/-- `IMG_RES_ID_HI` (RO): image_id [63:32]. -/
def R.IMG_RES_ID_HI : Fld := ⟨0x4006C, 0, 32, .RO, 0⟩

/-- `IMG_RES_LEVEL.level` (RO): The image's own level. -/
def R.IMG_RES_LEVEL_level : Fld := ⟨0x40070, 0, 16, .RO, 0⟩

/-- `IMG_RES_LEVEL.held` (RO): R194. -/
def R.IMG_RES_LEVEL_held : Fld := ⟨0x40070, 16, 1, .RO, 0⟩

/-- `IMG_RES_MICRO.base` (RO): Micro range base. -/
def R.IMG_RES_MICRO_base : Fld := ⟨0x40074, 0, 14, .RO, 0⟩

/-- `IMG_RES_MICRO.count` (RO): Micro range length. -/
def R.IMG_RES_MICRO_count : Fld := ⟨0x40074, 16, 14, .RO, 0⟩

/-- `IMG_RES_NANO.base` (RO): Nano range base. -/
def R.IMG_RES_NANO_base : Fld := ⟨0x40078, 0, 11, .RO, 0⟩

/-- `IMG_RES_NANO.count` (RO): Nano range length. -/
def R.IMG_RES_NANO_count : Fld := ⟨0x40078, 16, 12, .RO, 0⟩

/-! ### TILE registers (spec/07_tiles_and_exposure.md) -/

/-- `TILE_SEL.tile` (RW): Tile reached through the window. -/
def R.TILE_SEL_tile : Fld := ⟨0x100000, 0, 8, .RW, 0⟩

/-- `TILE_ADDR.autoinc` (RW): 1: advance by 4 after each TILE_DATA access. -/
def R.TILE_ADDR_autoinc : Fld := ⟨0x100004, 0, 1, .RW, 0⟩

/-- `TILE_ADDR.addr` (RW): Word address in the tile map. -/
def R.TILE_ADDR_addr : Fld := ⟨0x100004, 2, 14, .RW, 0⟩

/-- `TILE_DATA` (RW): live. The addressed tile register (R230). -/
def R.TILE_DATA : Fld := ⟨0x100008, 0, 32, .RW, 0⟩

/-- `TILE_STAT.busy` (RO): A window access is in progress. -/
def R.TILE_STAT_busy : Fld := ⟨0x10000C, 0, 1, .RO, 0⟩

/-- `TILE_STAT.denied` (W1C): R224, R235. -/
def R.TILE_STAT_denied : Fld := ⟨0x10000C, 1, 1, .W1C, 0⟩

/-- `TILE_STAT.timeout` (W1C): R235. -/
def R.TILE_STAT_timeout : Fld := ⟨0x10000C, 2, 1, .W1C, 0⟩

/-- `TILE_STAT.test_busy` (RO): R231. -/
def R.TILE_STAT_test_busy : Fld := ⟨0x10000C, 3, 1, .RO, 0⟩

/-- `TILE_STAT.test_refused` (W1C): R236. -/
def R.TILE_STAT_test_refused : Fld := ⟨0x10000C, 4, 1, .W1C, 0⟩

/-- `TILE_TEST.group` (RW): Group of the test exposure. -/
def R.TILE_TEST_group : Fld := ⟨0x100010, 0, 4, .RW, 0⟩

/-- `TILE_TEST.row_group` (RW): 0: 32 rows, 1: 64 rows, 2: 128 rows. 3 is refused. -/
def R.TILE_TEST_row_group : Fld := ⟨0x100010, 4, 2, .RW, 0⟩

/-- `TILE_TEST.acc_mode` (RW): 0: ACC32, 1: ACC16. -/
def R.TILE_TEST_acc_mode : Fld := ⟨0x100010, 6, 1, .RW, 0⟩

/-- `TILE_TEST.adc_shift` (RW): Shift for the data columns. -/
def R.TILE_TEST_adc_shift : Fld := ⟨0x100010, 7, 3, .RW, 0⟩

/-- `TILE_TEST.avg` (RW): M = 1, 2, 4 for 0, 1, 2. 3 is refused. -/
def R.TILE_TEST_avg : Fld := ⟨0x100010, 10, 2, .RW, 0⟩

/-- `TILE_TEST.start` (WO): Starts a test exposure (R231). -/
def R.TILE_TEST_start : Fld := ⟨0x100010, 12, 1, .WO, 0⟩

/-- `TILE_TEST_ROWSk` (RW): Active-row mask (R231). -/
def R.TILE_TEST_ROWS (k : Nat) : Fld := ⟨0x100020 + 0x4 * k, 0, 32, .RW, 0⟩

/-! ### Tile map registers (spec/07_tiles_and_exposure.md) -/

/-- `TILE_INFO.tile` (RO): live. This tile's number. -/
def R.TILE_INFO_tile (t : Nat) : Fld := ⟨0x1000000 + 0x10000 * t, 0, 8, .RO, 0⟩

/-- `TILE_INFO.owned` (RO): live. 1 while in use by a resident image. -/
def R.TILE_INFO_owned (t : Nat) : Fld := ⟨0x1000000 + 0x10000 * t, 8, 1, .RO, 0⟩

/-- `TILE_INFO.plate` (RO): live. The owner's plate; 0 when not owned. -/
def R.TILE_INFO_plate (t : Nat) : Fld := ⟨0x1000000 + 0x10000 * t, 9, 6, .RO, 0⟩

/-- `TILE_INFO.row_group` (RO): live. As in R181; 0 when not owned. -/
def R.TILE_INFO_row_group (t : Nat) : Fld := ⟨0x1000000 + 0x10000 * t, 15, 2, .RO, 0⟩

/-- `TILE_INFO.acc_mode` (RO): live. As in R181. -/
def R.TILE_INFO_acc_mode (t : Nat) : Fld := ⟨0x1000000 + 0x10000 * t, 17, 1, .RO, 0⟩

/-- `TILE_INFO.erasing` (RO): live. 1 while the tile is being erased. -/
def R.TILE_INFO_erasing (t : Nat) : Fld := ⟨0x1000000 + 0x10000 * t, 18, 1, .RO, 0⟩

/-- `TILE_INFO.faulty` (RO): live. R234. -/
def R.TILE_INFO_faulty (t : Nat) : Fld := ⟨0x1000000 + 0x10000 * t, 19, 1, .RO, 0⟩

/-- `TILE_INFO.spares_used` (RO): live. Valid remap entries, 0–8. -/
def R.TILE_INFO_spares_used (t : Nat) : Fld := ⟨0x1000000 + 0x10000 * t, 20, 4, .RO, 0⟩

/-- `TILE_CFG.adc_shift` (RO): live. The plate's initial shift. -/
def R.TILE_CFG_adc_shift (t : Nat) : Fld := ⟨0x1000004 + 0x10000 * t, 0, 3, .RO, 0⟩

/-- `TILE_CFG.clip_limit` (RO): live. From PLATE_MAP. -/
def R.TILE_CFG_clip_limit (t : Nat) : Fld := ⟨0x1000004 + 0x10000 * t, 8, 8, .RO, 0⟩

/-- `TILE_CFG.ae_window` (RO): live. From PLATE_MAP. -/
def R.TILE_CFG_ae_window (t : Nat) : Fld := ⟨0x1000004 + 0x10000 * t, 16, 4, .RO, 0⟩

/-- `TILE_CFG.slice` (RO): live. From PLATE_MAP. -/
def R.TILE_CFG_slice (t : Nat) : Fld := ⟨0x1000004 + 0x10000 * t, 20, 1, .RO, 0⟩

/-- `TILE_CFG.bank` (RO): live. From PLATE_MAP. -/
def R.TILE_CFG_bank (t : Nat) : Fld := ⟨0x1000004 + 0x10000 * t, 21, 2, .RO, 0⟩

/-- `TILE_EVT` (W1C): Bit 0 slot_overrun, 1 foreign_cmd, 2 fog_clip, 3 operand_wait, 4 test_done. -/
def R.TILE_EVT (t : Nat) : Fld := ⟨0x1000008 + 0x10000 * t, 0, 6, .W1C, 0⟩

/-- `TILE_CNT0.slot_overruns` (RO): R232, saturating. -/
def R.TILE_CNT0_slot_overruns (t : Nat) : Fld := ⟨0x100000C + 0x10000 * t, 0, 16, .RO, 0⟩

/-- `TILE_CNT0.foreign_cmds` (RO): R233, saturating. -/
def R.TILE_CNT0_foreign_cmds (t : Nat) : Fld := ⟨0x100000C + 0x10000 * t, 16, 16, .RO, 0⟩

/-- `TILE_CNT1.operand_wait` (RO): Array-clock cycles of 0.5 ns spent waiting under R211, saturating. -/
def R.TILE_CNT1_operand_wait (t : Nat) : Fld := ⟨0x1000010 + 0x10000 * t, 0, 32, .RO, 0⟩

/-- `TILE_EXP_LO` (RO): Exposures run, counting every repetition, bits [31:0]. A read captures the high word. -/
def R.TILE_EXP_LO (t : Nat) : Fld := ⟨0x1000014 + 0x10000 * t, 0, 32, .RO, 0⟩

/-- `TILE_EXP_HI` (RO): Bits [47:32], as captured. -/
def R.TILE_EXP_HI (t : Nat) : Fld := ⟨0x1000018 + 0x10000 * t, 0, 16, .RO, 0⟩

/-- `TILE_CTRL.clr_counts` (WO): Writing 1 clears TILE_CNT0, TILE_CNT1 and TILE_EXP. -/
def R.TILE_CTRL_clr_counts (t : Nat) : Fld := ⟨0x100001C + 0x10000 * t, 0, 1, .WO, 0⟩

/-- `TILE_SPAREk.row` (RO): live. Data row replaced by spare row k. -/
def R.TILE_SPARE_row (t : Nat) (k : Nat) : Fld := ⟨0x1000020 + 0x10000 * t + 0x4 * k, 0, 9, .RO, 0⟩

/-- `TILE_SPAREk.valid` (RO): live. R225. -/
def R.TILE_SPARE_valid (t : Nat) (k : Nat) : Fld := ⟨0x1000020 + 0x10000 * t + 0x4 * k, 15, 1, .RO, 0⟩

/-- `TILE_FOG_RESIDf` (RO): Latched residual sum in cu, signed (R222). -/
def R.TILE_FOG_RESID (t : Nat) (f : Nat) : Fld := ⟨0x1000040 + 0x10000 * t + 0x4 * f, 0, 32, .RO, 0⟩

/-- `TILE_FOG_EXPECTf` (RO): Latched sum of |E_f| in cu. -/
def R.TILE_FOG_EXPECT (t : Nat) (f : Nat) : Fld := ⟨0x1000060 + 0x10000 * t + 0x4 * f, 0, 32, .RO, 0⟩

/-- `TILE_FOG_WIN.seq` (RO): Window sequence number, wrapping. -/
def R.TILE_FOG_WIN_seq (t : Nat) : Fld := ⟨0x1000080 + 0x10000 * t, 0, 16, .RO, 0⟩

/-- `TILE_FOG_WIN.fog_clips` (RO): Clipped fog samples in the latched window. -/
def R.TILE_FOG_WIN_fog_clips (t : Nat) : Fld := ⟨0x1000080 + 0x10000 * t, 16, 16, .RO, 0⟩

/-- `TILE_TRIMc.dodge32` (RW): live. R223. Loaded under R224. -/
def R.TILE_TRIM_dodge32 (t : Nat) (c : Nat) : Fld := ⟨0x1001000 + 0x10000 * t + 0x4 * c, 0, 8, .RW, 0⟩

/-- `TILE_TRIMc.burn32` (RW): live. R223. -/
def R.TILE_TRIM_burn32 (t : Nat) (c : Nat) : Fld := ⟨0x1001000 + 0x10000 * t + 0x4 * c, 8, 6, .RW, 0⟩

/-- `TILE_TRIMc.dodge16` (RW): live. R223. -/
def R.TILE_TRIM_dodge16 (t : Nat) (c : Nat) : Fld := ⟨0x1001000 + 0x10000 * t + 0x4 * c, 16, 8, .RW, 0⟩

/-- `TILE_TRIMc.burn16` (RW): live. R223. -/
def R.TILE_TRIM_burn16 (t : Nat) (c : Nat) : Fld := ⟨0x1001000 + 0x10000 * t + 0x4 * c, 24, 6, .RW, 0⟩

/-- `TILE_TEST_CODEc.code` (RO): Code of the last test exposure, two's complement. -/
def R.TILE_TEST_CODE_code (t : Nat) (c : Nat) : Fld := ⟨0x1002000 + 0x10000 * t + 0x4 * c, 0, 8, .RO, 0⟩

/-- `TILE_TEST_CODEc.clip` (RO): 1 if that conversion clipped. -/
def R.TILE_TEST_CODE_clip (t : Nat) (c : Nat) : Fld := ⟨0x1002000 + 0x10000 * t + 0x4 * c, 8, 1, .RO, 0⟩

/-! ### Tile map registers (spec/08_number_formats_and_scaling.md) -/

/-- `TILE_SCALEw` (RO): Nibble n, bits [4n + 3:4n], holds k for the group g and column c with g × 512 + c = 8w + n (R249). -/
def R.TILE_SCALE (t : Nat) (w : Nat) : Fld := ⟨0x1004000 + 0x10000 * t + 0x4 * w, 0, 32, .RO, 0⟩

/-- `TILE_OSHIFTc.shift` (RO): Output shift of column c, two's complement, −16 to +15 (R250). -/
def R.TILE_OSHIFT_shift (t : Nat) (c : Nat) : Fld := ⟨0x1005000 + 0x10000 * t + 0x4 * c, 0, 8, .RO, 0⟩

/-- `TILE_AE_WIN.pos` (RO): Developed exposures in the current window (R253). -/
def R.TILE_AE_WIN_pos (t : Nat) : Fld := ⟨0x1005800 + 0x10000 * t, 0, 13, .RO, 0⟩

/-- `TILE_AE_WIN.seq` (RO): Windows completed since residency, wrapping. -/
def R.TILE_AE_WIN_seq (t : Nat) : Fld := ⟨0x1005800 + 0x10000 * t, 16, 16, .RO, 0⟩

/-- `TILE_AEc.cur_shift` (RO): Shift in force for the group now running or next to run. -/
def R.TILE_AE_cur_shift (t : Nat) (c : Nat) : Fld := ⟨0x1005C00 + 0x10000 * t + 0x4 * c, 0, 3, .RO, 0⟩

/-- `TILE_AEc.next_shift` (RO): The pending shift, or cur_shift when nothing is pending. -/
def R.TILE_AE_next_shift (t : Nat) (c : Nat) : Fld := ⟨0x1005C00 + 0x10000 * t + 0x4 * c, 3, 3, .RO, 0⟩

/-- `TILE_AEc.pending` (RO): A change waits under R254. -/
def R.TILE_AE_pending (t : Nat) (c : Nat) : Fld := ⟨0x1005C00 + 0x10000 * t + 0x4 * c, 6, 1, .RO, 0⟩

/-- `TILE_AEc.win_clips` (RO): Clipped developed exposures in the current window. -/
def R.TILE_AE_win_clips (t : Nat) (c : Nat) : Fld := ⟨0x1005C00 + 0x10000 * t + 0x4 * c, 8, 13, .RO, 0⟩

/-- `TILE_AEc.win_peak` (RO): Largest |D| in the current window. -/
def R.TILE_AE_win_peak (t : Nat) (c : Nat) : Fld := ⟨0x1005C00 + 0x10000 * t + 0x4 * c, 21, 7, .RO, 0⟩

/-- `TILE_AEc.changes` (RO): Decisions that set a change, saturating at 15. -/
def R.TILE_AE_changes (t : Nat) (c : Nat) : Fld := ⟨0x1005C00 + 0x10000 * t + 0x4 * c, 28, 4, .RO, 0⟩

/-- `TILE_CLIPw.even` (RO): Clip count of the (group, column) with g × 512 + c = 2w (R251). The words occupy 0xC000 to 0xFFFC. -/
def R.TILE_CLIP_even (t : Nat) (w : Nat) : Fld := ⟨0x100C000 + 0x10000 * t + 0x4 * w, 0, 16, .RO, 0⟩

/-- `TILE_CLIPw.odd` (RO): Clip count for index 2w + 1. -/
def R.TILE_CLIP_odd (t : Nat) (w : Nat) : Fld := ⟨0x100C000 + 0x10000 * t + 0x4 * w, 16, 16, .RO, 0⟩

/-! ### Tile map registers (spec/09_accumulation_and_output.md) -/

/-- `TILE_BANKb.value` (RO): Bank b of column c. In ACC16, the 16-bit value sign-extended (R272). -/
def R.TILE_BANK_value (t : Nat) (b : Nat) (c : Nat) : Fld := ⟨0x1008000 + 0x10000 * t + 0x800 * b + 0x4 * c, 0, 32, .RO, 0⟩

/-- `TILE_BFLAGc.limit` (RO): Bit b: limit flag of bank b (R270 to R272). -/
def R.TILE_BFLAG_limit (t : Nat) (c : Nat) : Fld := ⟨0x100A000 + 0x10000 * t + 0x4 * c, 0, 4, .RO, 0⟩

/-- `TILE_OUTCNT0.clamps` (RO): INT8 outputs clamped to 0 or 255 under R257, at this chain end. -/
def R.TILE_OUTCNT0_clamps (t : Nat) : Fld := ⟨0x100A800 + 0x10000 * t, 0, 16, .RO, 0⟩

/-- `TILE_OUTCNT0.nans` (RO): BF16 outputs written as 0x7FC0 under R282. -/
def R.TILE_OUTCNT0_nans (t : Nat) : Fld := ⟨0x100A800 + 0x10000 * t, 16, 16, .RO, 0⟩

/-- `TILE_OUTCNT1.hazard_waits` (RO): R295. -/
def R.TILE_OUTCNT1_hazard_waits (t : Nat) : Fld := ⟨0x100A804 + 0x10000 * t, 0, 16, .RO, 0⟩

/-- `TILE_OUTCNT1.out_cuts` (RO): R296. -/
def R.TILE_OUTCNT1_out_cuts (t : Nat) : Fld := ⟨0x100A804 + 0x10000 * t, 16, 16, .RO, 0⟩

/-- `TILE_CHAIN.adds_in` (RO): Chain adds and slice merges applied into this tile. -/
def R.TILE_CHAIN_adds_in (t : Nat) : Fld := ⟨0x100A808 + 0x10000 * t, 0, 16, .RO, 0⟩

/-- `TILE_CHAIN.adds_out` (RO): Chain adds and slice merges made by this tile. -/
def R.TILE_CHAIN_adds_out (t : Nat) : Fld := ⟨0x100A808 + 0x10000 * t, 16, 16, .RO, 0⟩

/-! ### TILE registers (spec/10_fixing_and_drift.md) -/

/-- `TILE_FIXQk.depth` (RO): Fix entries queued on array die k (R305). -/
def R.TILE_FIXQ_depth (k : Nat) : Fld := ⟨0x100100 + 0x4 * k, 0, 11, .RO, 0⟩

/-- `TILE_FIXQk.running` (RO): Segments running on die k, 0–4. -/
def R.TILE_FIXQ_running (k : Nat) : Fld := ⟨0x100100 + 0x4 * k, 11, 3, .RO, 0⟩

/-- `TILE_FIXQk.limit` (RO): Current pump limit, 1 or 4 (R313). -/
def R.TILE_FIXQ_limit (k : Nat) : Fld := ⟨0x100100 + 0x4 * k, 14, 3, .RO, 4⟩

/-- `TILE_FIX_EVT` (W1C): Bit 0 queues_empty, 1 remap, 2 spares_exhausted, 3 refix_due, 4 over_budget, 5 refix_done, 6 erase_fail, 7 worn, 8 write_dropped, 9 erase_done, 10 refix_rejected. -/
def R.TILE_FIX_EVT : Fld := ⟨0x100110, 0, 11, .W1C, 0⟩

/-- `TILE_FIX_IRQ_EN` (RW): Bit n enables the fixing interrupt for TILE_FIX_EVT bit n. -/
def R.TILE_FIX_IRQ_EN : Fld := ⟨0x100114, 0, 11, .RW, 0⟩

/-- `TILE_FIX_CNT.dropped_writes` (RO): R303. -/
def R.TILE_FIX_CNT_dropped_writes : Fld := ⟨0x100118, 0, 16, .RO, 0⟩

/-- `TILE_FIX_CNT.stale_reads` (RO): R308. -/
def R.TILE_FIX_CNT_stale_reads : Fld := ⟨0x100118, 16, 16, .RO, 0⟩

/-- `TILE_PLATE_FIX0` (RO): Bit p: plate p (0–31) is FIXING. -/
def R.TILE_PLATE_FIX0 : Fld := ⟨0x100120, 0, 32, .RO, 0⟩

/-- `TILE_PLATE_FIX1` (RO): Plates 32–63. -/
def R.TILE_PLATE_FIX1 : Fld := ⟨0x100124, 0, 32, .RO, 0⟩

/-- `TILE_REFIX_REQ.plate` (WO): R331. -/
def R.TILE_REFIX_REQ_plate : Fld := ⟨0x100128, 0, 6, .WO, 0⟩

/-- `TILE_REFIX_REQ.due_only` (WO): 1: due tiles only. -/
def R.TILE_REFIX_REQ_due_only : Fld := ⟨0x100128, 6, 1, .WO, 0⟩

/-- `TILE_REFIX_REQ.go` (WO): Queues the refix. -/
def R.TILE_REFIX_REQ_go : Fld := ⟨0x100128, 7, 1, .WO, 0⟩

/-- `TILE_REFIX_CFG.threshold` (RW): Residual trigger, in units of 2^−20 (R328). -/
def R.TILE_REFIX_CFG_threshold : Fld := ⟨0x10012C, 0, 16, .RW, 4096⟩

/-- `TILE_REFIX_CFG.max_age` (RW): Age trigger, in hours. -/
def R.TILE_REFIX_CFG_max_age : Fld := ⟨0x10012C, 16, 16, .RW, 720⟩

/-- `TILE_DUE0` (RO): Bit p: plate p (0–31) has a due tile. -/
def R.TILE_DUE0 : Fld := ⟨0x100130, 0, 32, .RO, 0⟩

/-- `TILE_DUE1` (RO): Plates 32–63. -/
def R.TILE_DUE1 : Fld := ⟨0x100134, 0, 32, .RO, 0⟩

/-! ### Tile map registers (spec/10_fixing_and_drift.md) -/

/-- `TILE_FIXSTAT.fixing` (RO): live. A fix entry of this tile is queued or running. -/
def R.TILE_FIXSTAT_fixing (t : Nat) : Fld := ⟨0x100B000 + 0x10000 * t, 0, 1, .RO, 0⟩

/-- `TILE_FIXSTAT.refixing` (RO): live. A refix of this tile is queued or running. -/
def R.TILE_FIXSTAT_refixing (t : Nat) : Fld := ⟨0x100B000 + 0x10000 * t, 1, 1, .RO, 0⟩

/-- `TILE_FIXSTAT.due` (RO): live. R328. -/
def R.TILE_FIXSTAT_due (t : Nat) : Fld := ⟨0x100B000 + 0x10000 * t, 2, 1, .RO, 0⟩

/-- `TILE_FIXSTAT.over_budget` (RO): live. R318, R328. -/
def R.TILE_FIXSTAT_over_budget (t : Nat) : Fld := ⟨0x100B000 + 0x10000 * t, 3, 1, .RO, 0⟩

/-- `TILE_FIXSTAT.spares_exhausted` (RO): live. R318. -/
def R.TILE_FIXSTAT_spares_exhausted (t : Nat) : Fld := ⟨0x100B000 + 0x10000 * t, 4, 1, .RO, 0⟩

/-- `TILE_FIXSTAT.worn` (RO): live. R321. Non-volatile. -/
def R.TILE_FIXSTAT_worn (t : Nat) : Fld := ⟨0x100B000 + 0x10000 * t, 5, 1, .RO, 0⟩

/-- `TILE_FIXSTAT.fog_fault` (RO): live. R327. -/
def R.TILE_FIXSTAT_fog_fault (t : Nat) : Fld := ⟨0x100B000 + 0x10000 * t, 6, 1, .RO, 0⟩

/-- `TILE_FIXSTAT.queued` (RO): live. Fix entries of this tile queued, 0–1,024. -/
def R.TILE_FIXSTAT_queued (t : Nat) : Fld := ⟨0x100B000 + 0x10000 * t, 8, 11, .RO, 0⟩

/-- `TILE_FIXCNT0.adj_codes` (RO): R303. -/
def R.TILE_FIXCNT0_adj_codes (t : Nat) : Fld := ⟨0x100B004 + 0x10000 * t, 0, 16, .RO, 0⟩

/-- `TILE_FIXCNT0.seg_retries` (RO): R311. -/
def R.TILE_FIXCNT0_seg_retries (t : Nat) : Fld := ⟨0x100B004 + 0x10000 * t, 16, 16, .RO, 0⟩

/-- `TILE_FIXCNT1.refixes` (RO): live. R332. Non-volatile. -/
def R.TILE_FIXCNT1_refixes (t : Nat) : Fld := ⟨0x100B008 + 0x10000 * t, 0, 16, .RO, 0⟩

/-- `TILE_FIXCNT1.erase_fails` (RO): R321. -/
def R.TILE_FIXCNT1_erase_fails (t : Nat) : Fld := ⟨0x100B008 + 0x10000 * t, 16, 8, .RO, 0⟩

/-- `TILE_FIXCNT1.thin_windows` (RO): R325. -/
def R.TILE_FIXCNT1_thin_windows (t : Nat) : Fld := ⟨0x100B008 + 0x10000 * t, 24, 8, .RO, 0⟩

/-- `TILE_AGE.hours` (RO): R329, saturating. -/
def R.TILE_AGE_hours (t : Nat) : Fld := ⟨0x100B00C + 0x10000 * t, 0, 16, .RO, 0⟩

/-- `TILE_DRIFT0.d7` (RO): R325, two's complement. -/
def R.TILE_DRIFT0_d7 (t : Nat) : Fld := ⟨0x100B010 + 0x10000 * t, 0, 16, .RO, 0⟩

/-- `TILE_DRIFT0.d4` (RO): R325. -/
def R.TILE_DRIFT0_d4 (t : Nat) : Fld := ⟨0x100B010 + 0x10000 * t, 16, 16, .RO, 0⟩

/-- `TILE_DRIFT1.d1` (RO): R325. -/
def R.TILE_DRIFT1_d1 (t : Nat) : Fld := ⟨0x100B014 + 0x10000 * t, 0, 16, .RO, 0⟩

/-- `TILE_DRIFT1.resid` (RO): The residual r. -/
def R.TILE_DRIFT1_resid (t : Nat) : Fld := ⟨0x100B014 + 0x10000 * t, 16, 16, .RO, 0⟩

/-- `TILE_GAIN.g_drift` (RO): g_d in force, two's complement (R326). -/
def R.TILE_GAIN_g_drift (t : Nat) : Fld := ⟨0x100B018 + 0x10000 * t, 0, 16, .RO, 0⟩

/-- `TILE_GAIN.y_temp` (RO): y_T in force (R322). -/
def R.TILE_GAIN_y_temp (t : Nat) : Fld := ⟨0x100B018 + 0x10000 * t, 16, 16, .RO, 0⟩

/-- `TILE_DRIFT_SEQ.window` (RO): TILE_FOG_WIN.seq of the window behind the estimates. -/
def R.TILE_DRIFT_SEQ_window (t : Nat) : Fld := ⟨0x100B01C + 0x10000 * t, 0, 16, .RO, 0⟩

/-! ### SEQ registers (spec/11_shutter_sequencers.md) -/

/-- `SEQ_STAT.state` (RO): R338. -/
def R.SEQ_STAT_state (n : Nat) : Fld := ⟨0x80000 + 0x4000 * n, 0, 3, .RO, 0⟩

/-- `SEQ_STAT.dyn` (RO): The routine serves a dynamic claim. -/
def R.SEQ_STAT_dyn (n : Nat) : Fld := ⟨0x80000 + 0x4000 * n, 3, 1, .RO, 0⟩

/-- `SEQ_STAT.depth` (RO): Return-stack depth, 0–4. -/
def R.SEQ_STAT_depth (n : Nat) : Fld := ⟨0x80000 + 0x4000 * n, 4, 3, .RO, 0⟩

/-- `SEQ_STAT.halt_refused` (W1C): R371. -/
def R.SEQ_STAT_halt_refused (n : Nat) : Fld := ⟨0x80000 + 0x4000 * n, 7, 1, .W1C, 0⟩

/-- `SEQ_STAT.micro_pc` (RO): Current micro-PC. -/
def R.SEQ_STAT_micro_pc (n : Nat) : Fld := ⟨0x80000 + 0x4000 * n, 8, 14, .RO, 0⟩

/-- `SEQ_STAT.entry` (RO): Slot-table index of the running static routine. -/
def R.SEQ_STAT_entry (n : Nat) : Fld := ⟨0x80000 + 0x4000 * n, 22, 8, .RO, 0⟩

/-- `SEQ_CTRL.halt` (WO): R371. -/
def R.SEQ_CTRL_halt (n : Nat) : Fld := ⟨0x80004 + 0x4000 * n, 0, 1, .WO, 0⟩

/-- `SEQ_CTRL.run` (WO): R371. -/
def R.SEQ_CTRL_run (n : Nat) : Fld := ⟨0x80004 + 0x4000 * n, 1, 1, .WO, 0⟩

/-- `SEQ_CTRL.clr_counts` (WO): R372. -/
def R.SEQ_CTRL_clr_counts (n : Nat) : Fld := ⟨0x80004 + 0x4000 * n, 2, 1, .WO, 0⟩

/-- `SEQ_MC0.valid` (W1C): R368, R369. -/
def R.SEQ_MC0_valid (n : Nat) : Fld := ⟨0x80010 + 0x4000 * n, 0, 1, .W1C, 0⟩

/-- `SEQ_MC0.cause` (RO): R367. -/
def R.SEQ_MC0_cause (n : Nat) : Fld := ⟨0x80010 + 0x4000 * n, 1, 4, .RO, 0⟩

/-- `SEQ_MC0.micro_pc` (RO): Address of the faulting micro-word. -/
def R.SEQ_MC0_micro_pc (n : Nat) : Fld := ⟨0x80010 + 0x4000 * n, 5, 14, .RO, 0⟩

/-- `SEQ_MC1.entry` (RO): Slot-table index, when dyn is 0. -/
def R.SEQ_MC1_entry (n : Nat) : Fld := ⟨0x80014 + 0x4000 * n, 0, 8, .RO, 0⟩

/-- `SEQ_MC1.dyn` (RO): 1 for a dynamic claim. -/
def R.SEQ_MC1_dyn (n : Nat) : Fld := ⟨0x80014 + 0x4000 * n, 8, 1, .RO, 0⟩

/-- `SEQ_MC1.context` (RO): Owning context. -/
def R.SEQ_MC1_context (n : Nat) : Fld := ⟨0x80014 + 0x4000 * n, 9, 6, .RO, 0⟩

/-- `SEQ_MC1.syndrome` (RO): Failing parity bits: p1, p0 for micro; p5 to p0 for nano. -/
def R.SEQ_MC1_syndrome (n : Nat) : Fld := ⟨0x80014 + 0x4000 * n, 15, 6, .RO, 0⟩

/-- `SEQ_MC2.frame_lo` (RO): Frame [31:0] of the check. -/
def R.SEQ_MC2_frame_lo (n : Nat) : Fld := ⟨0x80018 + 0x4000 * n, 0, 32, .RO, 0⟩

/-- `SEQ_MC3.frame_hi` (RO): Frame [47:32]. -/
def R.SEQ_MC3_frame_hi (n : Nat) : Fld := ⟨0x8001C + 0x4000 * n, 0, 16, .RO, 0⟩

/-- `SEQ_MC3.tick` (RO): Tick of the check. -/
def R.SEQ_MC3_tick (n : Nat) : Fld := ⟨0x8001C + 0x4000 * n, 16, 11, .RO, 0⟩

/-- `SEQ_CNT0.skipped_busy` (RO): R356. -/
def R.SEQ_CNT0_skipped_busy (n : Nat) : Fld := ⟨0x80020 + 0x4000 * n, 0, 16, .RO, 0⟩

/-- `SEQ_CNT0.late_fires` (RO): R359. -/
def R.SEQ_CNT0_late_fires (n : Nat) : Fld := ⟨0x80020 + 0x4000 * n, 16, 16, .RO, 0⟩

/-- `SEQ_CNT1.overruns` (RO): R357. -/
def R.SEQ_CNT1_overruns (n : Nat) : Fld := ⟨0x80024 + 0x4000 * n, 0, 16, .RO, 0⟩

/-- `SEQ_CNT1.mc_lost` (RO): R368. -/
def R.SEQ_CNT1_mc_lost (n : Nat) : Fld := ⟨0x80024 + 0x4000 * n, 16, 16, .RO, 0⟩

/-- `SEQ_EVT` (W1C): Bit 0 mc, 1 late, 2 overrun, 3 skipped. -/
def R.SEQ_EVT (n : Nat) : Fld := ⟨0x80028 + 0x4000 * n, 0, 4, .W1C, 0⟩

/-- `SEQ_IRQ_EN` (RW): Bit n enables the sequencer interrupt for SEQ_EVT bit n. -/
def R.SEQ_IRQ_EN (n : Nat) : Fld := ⟨0x8002C + 0x4000 * n, 0, 4, .RW, 0⟩

/-- `SEQ_ARM_CTRL.slot` (RW): Resident-image slot. -/
def R.SEQ_ARM_CTRL_slot : Fld := ⟨0xC0000, 0, 6, .RW, 0⟩

/-- `SEQ_ARM_CTRL.arm` (WO): R360. -/
def R.SEQ_ARM_CTRL_arm : Fld := ⟨0xC0000, 8, 1, .WO, 0⟩

/-- `SEQ_ARM_CTRL.disarm` (WO): R361. -/
def R.SEQ_ARM_CTRL_disarm : Fld := ⟨0xC0000, 9, 1, .WO, 0⟩

/-- `SEQ_ARM_EPOCH_LO` (RW): E [31:0]. -/
def R.SEQ_ARM_EPOCH_LO : Fld := ⟨0xC0004, 0, 32, .RW, 0⟩

/-- `SEQ_ARM_EPOCH_HI` (RW): E [47:32]. -/
def R.SEQ_ARM_EPOCH_HI : Fld := ⟨0xC0008, 0, 16, .RW, 0⟩

/-- `SEQ_ARM_PARAM_LO` (RW): Parameter base [31:0]. -/
def R.SEQ_ARM_PARAM_LO : Fld := ⟨0xC000C, 0, 32, .RW, 0⟩

/-- `SEQ_ARM_PARAM_HI` (RW): Parameter base [63:32]. -/
def R.SEQ_ARM_PARAM_HI : Fld := ⟨0xC0010, 0, 32, .RW, 0⟩

/-- `SEQ_ARM_STAT.result` (RO): R360. -/
def R.SEQ_ARM_STAT_result : Fld := ⟨0xC0014, 0, 3, .RO, 0⟩

/-- `SEQ_ARMED_LO` (RO): Bit i: image slot i (0–31) armed. -/
def R.SEQ_ARMED_LO : Fld := ⟨0xC0018, 0, 32, .RO, 0⟩

/-- `SEQ_ARMED_HI` (RO): Slots 32–63. -/
def R.SEQ_ARMED_HI : Fld := ⟨0xC001C, 0, 32, .RO, 0⟩

/-- `SEQ_PATCH.level` (RO): live. The patch's own level; 0 when none is loaded. -/
def R.SEQ_PATCH_level : Fld := ⟨0xC0020, 0, 16, .RO, 0⟩

/-- `SEQ_PATCH.result` (RO): live. R365. -/
def R.SEQ_PATCH_result : Fld := ⟨0xC0020, 16, 8, .RO, 0⟩

/-- `SEQ_PATCH.overlays` (RO): live. Overlay records in use, 0–64. -/
def R.SEQ_PATCH_overlays : Fld := ⟨0xC0020, 24, 7, .RO, 0⟩

/-- `SEQ_PATCH.loaded` (RO): live. 1 when a patch passed. -/
def R.SEQ_PATCH_loaded : Fld := ⟨0xC0020, 31, 1, .RO, 0⟩

/-- `SEQ_ROM_ADDR.addr` (RW): Read-only address (R373). -/
def R.SEQ_ROM_ADDR_addr : Fld := ⟨0xC0024, 0, 10, .RW, 0⟩

/-- `SEQ_ROM_ADDR.nano` (RW): 0 micro, 1 nano. -/
def R.SEQ_ROM_ADDR_nano : Fld := ⟨0xC0024, 16, 1, .RW, 0⟩

/-- `SEQ_ROM_ADDR.lane` (RW): Nano lane 0–5. -/
def R.SEQ_ROM_ADDR_lane : Fld := ⟨0xC0024, 17, 3, .RW, 0⟩

/-- `SEQ_ROM_DATA.word` (RO): live. The word, or the lane. -/
def R.SEQ_ROM_DATA_word : Fld := ⟨0xC0028, 0, 32, .RO, 0⟩

/-- `SEQ_ROM_PAR.parity` (RO): live. Its parity bits. -/
def R.SEQ_ROM_PAR_parity : Fld := ⟨0xC002C, 0, 6, .RO, 0⟩

/-- `SEQ_MC_SUM` (RO): Bit n: sequencer n holds a valid record. -/
def R.SEQ_MC_SUM : Fld := ⟨0xC0030, 0, 16, .RO, 0⟩

/-! ### CMD registers (spec/12_operators_and_commands.md) -/

/-- `CMD_SQ_BASE_LO` (RW): Submission ring offset in the command window, bits [31:0]; bits [11:0] must be 0 (R375). -/
def R.CMD_SQ_BASE_LO (c : Nat) : Fld := ⟨0x180000 + 0x400 * c, 0, 32, .RW, 0⟩

/-- `CMD_SQ_BASE_HI` (RW): Bits [63:32]. -/
def R.CMD_SQ_BASE_HI (c : Nat) : Fld := ⟨0x180004 + 0x400 * c, 0, 32, .RW, 0⟩

/-- `CMD_CQ_BASE_LO` (RW): Completion ring offset, bits [31:0]. -/
def R.CMD_CQ_BASE_LO (c : Nat) : Fld := ⟨0x180008 + 0x400 * c, 0, 32, .RW, 0⟩

/-- `CMD_CQ_BASE_HI` (RW): Bits [63:32]. -/
def R.CMD_CQ_BASE_HI (c : Nat) : Fld := ⟨0x18000C + 0x400 * c, 0, 32, .RW, 0⟩

/-- `CMD_RING_CFG.sq_log2` (RW): R374. -/
def R.CMD_RING_CFG_sq_log2 (c : Nat) : Fld := ⟨0x180010 + 0x400 * c, 0, 4, .RW, 0⟩

/-- `CMD_RING_CFG.cq_log2` (RW): R374. -/
def R.CMD_RING_CFG_cq_log2 (c : Nat) : Fld := ⟨0x180010 + 0x400 * c, 4, 4, .RW, 0⟩

/-- `CMD_RING_CFG.vector` (RW): MSI-X vector for records (R380). -/
def R.CMD_RING_CFG_vector (c : Nat) : Fld := ⟨0x180010 + 0x400 * c, 8, 6, .RW, 0⟩

/-- `CMD_RING_CTRL.en` (RW): R375. -/
def R.CMD_RING_CTRL_en (c : Nat) : Fld := ⟨0x180014 + 0x400 * c, 0, 1, .RW, 0⟩

/-- `CMD_SQ_DB.tail` (WO): Doorbell (R376). -/
def R.CMD_SQ_DB_tail (c : Nat) : Fld := ⟨0x180018 + 0x400 * c, 0, 12, .WO, 0⟩

/-- `CMD_SQ_PTR.head` (RO): R379. -/
def R.CMD_SQ_PTR_head (c : Nat) : Fld := ⟨0x18001C + 0x400 * c, 0, 12, .RO, 0⟩

/-- `CMD_SQ_PTR.tail` (RO): Last accepted doorbell value. -/
def R.CMD_SQ_PTR_tail (c : Nat) : Fld := ⟨0x18001C + 0x400 * c, 16, 12, .RO, 0⟩

/-- `CMD_CQ_DB.head` (WO): Host's consumed index. -/
def R.CMD_CQ_DB_head (c : Nat) : Fld := ⟨0x180020 + 0x400 * c, 0, 12, .WO, 0⟩

/-- `CMD_CQ_PTR.head` (RO): Last CMD_CQ_DB value. -/
def R.CMD_CQ_PTR_head (c : Nat) : Fld := ⟨0x180024 + 0x400 * c, 0, 12, .RO, 0⟩

/-- `CMD_CQ_PTR.tail` (RO): Next record index. -/
def R.CMD_CQ_PTR_tail (c : Nat) : Fld := ⟨0x180024 + 0x400 * c, 16, 12, .RO, 0⟩

/-- `CMD_CQ_PTR.phase` (RO): Phase of the next record. -/
def R.CMD_CQ_PTR_phase (c : Nat) : Fld := ⟨0x180024 + 0x400 * c, 31, 1, .RO, 1⟩

/-- `CMD_RING_EVT` (W1C): Bit 0 db_reject, 1 cfg_reject, 2 cq_full. -/
def R.CMD_RING_EVT (c : Nat) : Fld := ⟨0x180028 + 0x400 * c, 0, 3, .W1C, 0⟩

/-- `CMD_RING_CNT.accepted` (RO): Descriptors accepted. -/
def R.CMD_RING_CNT_accepted (c : Nat) : Fld := ⟨0x18002C + 0x400 * c, 0, 16, .RO, 0⟩

/-- `CMD_RING_CNT.faulted_at_accept` (RO): Descriptors that failed acceptance. -/
def R.CMD_RING_CNT_faulted_at_accept (c : Nat) : Fld := ⟨0x18002C + 0x400 * c, 16, 16, .RO, 0⟩

/-- `CMD_RING_WAIT.held` (RO): Records waiting under R381. -/
def R.CMD_RING_WAIT_held (c : Nat) : Fld := ⟨0x180030 + 0x400 * c, 0, 13, .RO, 0⟩

/-- `CMD_EVT_SUM_LO` (RO): Bit c: CMD_RING_EVT of context c (0–31) is non-zero. -/
def R.CMD_EVT_SUM_LO : Fld := ⟨0x190000, 0, 32, .RO, 0⟩

/-- `CMD_EVT_SUM_HI` (RO): Contexts 32–63. -/
def R.CMD_EVT_SUM_HI : Fld := ⟨0x190004, 0, 32, .RO, 0⟩

/-- `CMD_IRQ_EN.en` (RW): 1: a new ring event sends the vector below. -/
def R.CMD_IRQ_EN_en : Fld := ⟨0x190008, 0, 1, .RW, 0⟩

/-- `CMD_IRQ_EN.vector` (RW): MSI-X vector for ring events. -/
def R.CMD_IRQ_EN_vector : Fld := ⟨0x190008, 1, 6, .RW, 0⟩

/-- `CMD_PENDING.count` (RO): Descriptors accepted and not completed, package-wide. -/
def R.CMD_PENDING_count : Fld := ⟨0x19000C, 0, 19, .RO, 0⟩

/-! ### CTX registers (spec/13_tenants_and_sync.md) -/

/-- `CTX_BIND.tenant` (RW): R411. -/
def R.CTX_BIND_tenant (c : Nat) : Fld := ⟨0x1A0000 + 0x400 * c, 0, 10, .RW, 0⟩

/-- `CTX_BIND.job` (RW): R411. -/
def R.CTX_BIND_job (c : Nat) : Fld := ⟨0x1A0000 + 0x400 * c, 16, 16, .RW, 0⟩

/-- `CTX_SEED.seed` (RW): context_seed. -/
def R.CTX_SEED_seed (c : Nat) : Fld := ⟨0x1A0004 + 0x400 * c, 0, 24, .RW, 0⟩

/-- `CTX_SAVE_LO` (RW): Save area address [31:0]; bits [5:0] must be 0. -/
def R.CTX_SAVE_LO (c : Nat) : Fld := ⟨0x1A0008 + 0x400 * c, 0, 32, .RW, 0⟩

/-- `CTX_SAVE_HI` (RW): Address [63:32]. -/
def R.CTX_SAVE_HI (c : Nat) : Fld := ⟨0x1A000C + 0x400 * c, 0, 32, .RW, 0⟩

/-- `CTX_SAVE_LEN` (RW): Bytes, a multiple of 64. -/
def R.CTX_SAVE_LEN (c : Nat) : Fld := ⟨0x1A0010 + 0x400 * c, 0, 32, .RW, 0⟩

/-- `CTX_SYNC.base` (RW): R406. -/
def R.CTX_SYNC_base (c : Nat) : Fld := ⟨0x1A0014 + 0x400 * c, 0, 12, .RW, 0⟩

/-- `CTX_SYNC.count` (RW): 0–4,096. -/
def R.CTX_SYNC_count (c : Nat) : Fld := ⟨0x1A0014 + 0x400 * c, 16, 13, .RW, 0⟩

/-- `CTX_POLICY.min_class` (RW): R408. -/
def R.CTX_POLICY_min_class (c : Nat) : Fld := ⟨0x1A0018 + 0x400 * c, 0, 2, .RW, 0⟩

/-- `CTX_WINk.base` (RW): In 64 KiB units. -/
def R.CTX_WIN_base (c : Nat) (k : Nat) : Fld := ⟨0x1A0020 + 0x400 * c + 0x8 * k, 0, 20, .RW, 0⟩

/-- `CTX_WINk.len` (RW): In 64 KiB units; 0 means unused. -/
def R.CTX_WIN_len (c : Nat) (k : Nat) : Fld := ⟨0x1A0024 + 0x400 * c + 0x8 * k, 0, 20, .RW, 0⟩

/-- `CTX_STAT.state` (RO): R405. -/
def R.CTX_STAT_state (c : Nat) : Fld := ⟨0x1A0040 + 0x400 * c, 0, 3, .RO, 0⟩

/-- `CTX_COLLIDE.count` (RO): Collisions lost (R418). -/
def R.CTX_COLLIDE_count (c : Nat) : Fld := ⟨0x1A0044 + 0x400 * c, 0, 16, .RO, 0⟩

/-- `CTX_OUTCOME0.served` (RO): SERVED records. -/
def R.CTX_OUTCOME0_served (c : Nat) : Fld := ⟨0x1A0048 + 0x400 * c, 0, 16, .RO, 0⟩

/-- `CTX_OUTCOME0.deferred` (RO): DEFERRED records. -/
def R.CTX_OUTCOME0_deferred (c : Nat) : Fld := ⟨0x1A0048 + 0x400 * c, 16, 16, .RO, 0⟩

/-- `CTX_OUTCOME1.refused` (RO): REFUSED records. -/
def R.CTX_OUTCOME1_refused (c : Nat) : Fld := ⟨0x1A004C + 0x400 * c, 0, 16, .RO, 0⟩

/-- `CTX_OUTCOME1.faulted` (RO): FAULTED records. -/
def R.CTX_OUTCOME1_faulted (c : Nat) : Fld := ⟨0x1A004C + 0x400 * c, 16, 16, .RO, 0⟩

/-- `CTX_OP.op` (WO): R411. -/
def R.CTX_OP_op : Fld := ⟨0x1B0000, 0, 3, .WO, 0⟩

/-- `CTX_OP.slot` (WO): Target slot. -/
def R.CTX_OP_slot : Fld := ⟨0x1B0000, 8, 6, .WO, 0⟩

/-- `CTX_OP_ARG.tenant` (RW): For DISCARD. -/
def R.CTX_OP_ARG_tenant : Fld := ⟨0x1B0004, 0, 10, .RW, 0⟩

/-- `CTX_OP_ARG.job` (RW): For DISCARD. -/
def R.CTX_OP_ARG_job : Fld := ⟨0x1B0004, 16, 16, .RW, 0⟩

/-- `CTX_OP_STAT.busy` (RO): An operation is in progress. -/
def R.CTX_OP_STAT_busy : Fld := ⟨0x1B0008, 0, 1, .RO, 0⟩

/-- `CTX_OP_STAT.result` (RO): R410. -/
def R.CTX_OP_STAT_result : Fld := ⟨0x1B0008, 4, 4, .RO, 0⟩

/-- `CTX_OP_STAT.op` (RO): The last operation. -/
def R.CTX_OP_STAT_op : Fld := ⟨0x1B0008, 8, 3, .RO, 0⟩

/-- `CTX_OP_STAT.slot` (RO): Its slot. -/
def R.CTX_OP_STAT_slot : Fld := ⟨0x1B0008, 16, 6, .RO, 0⟩

/-- `CTX_ACTIVE_LO` (RO): Bit c: slot c (0–31) is ACTIVE. -/
def R.CTX_ACTIVE_LO : Fld := ⟨0x1B000C, 0, 32, .RO, 0⟩

/-- `CTX_ACTIVE_HI` (RO): Slots 32–63. -/
def R.CTX_ACTIVE_HI : Fld := ⟨0x1B0010, 0, 32, .RO, 0⟩

/-- `CTX_BUDGET.power_w` (RO): P_limit in force. -/
def R.CTX_BUDGET_power_w : Fld := ⟨0x1B0014, 0, 9, .RO, 360⟩

/-- `CTX_BUDGET.dram` (RW): DRAM budget, in 64 KiB units, 1–600. A write of 0 or above 600 is ignored. -/
def R.CTX_BUDGET_dram : Fld := ⟨0x1B0014, 16, 10, .RW, 512⟩

/-- `CTX_ADM_STAT.static_over` (W1C): R416. -/
def R.CTX_ADM_STAT_static_over : Fld := ⟨0x1B0018, 0, 1, .W1C, 0⟩

/-- `CTX_ADM_STAT.overflow` (W1C): R419. -/
def R.CTX_ADM_STAT_overflow : Fld := ⟨0x1B0018, 1, 1, .W1C, 0⟩

/-- `CTX_EVT` (W1C): Bit 0 op_done, 1 op_error, 2 op_rejected. -/
def R.CTX_EVT : Fld := ⟨0x1B001C, 0, 3, .W1C, 0⟩

/-- `CTX_IRQ_EN.en` (RW): Bit n enables the interrupt for CTX_EVT bit n. -/
def R.CTX_IRQ_EN_en : Fld := ⟨0x1B0020, 0, 3, .RW, 0⟩

/-- `CTX_IRQ_EN.vector` (RW): MSI-X vector. -/
def R.CTX_IRQ_EN_vector : Fld := ⟨0x1B0020, 8, 6, .RW, 0⟩

/-! ### SYNC registers (spec/13_tenants_and_sync.md) -/

/-- `SYNC_VALn.value` (RW): A write sets the value. Writes to an object in no context's range are ignored. -/
def R.SYNC_VAL_value (n : Nat) : Fld := ⟨0x1C0000 + 0x4 * n, 0, 16, .RW, 0⟩

/-- `SYNC_SIGNAL.object` (WO): Writing signals the object (R433). A write naming an object in no context's range is ignored. -/
def R.SYNC_SIGNAL_object : Fld := ⟨0x1C4000, 0, 12, .WO, 0⟩

/-- `SYNC_SIGNAL.value` (WO): The value v. -/
def R.SYNC_SIGNAL_value : Fld := ⟨0x1C4000, 16, 16, .WO, 0⟩

/-- `SYNC_TMRk_CFG.object` (RW): R435. -/
def R.SYNC_TMR_CFG_object (k : Nat) : Fld := ⟨0x1C4010 + 0x10 * k, 0, 12, .RW, 0⟩

/-- `SYNC_TMRk_CFG.en` (RW): 1 arms the timer; cleared when it fires. -/
def R.SYNC_TMR_CFG_en (k : Nat) : Fld := ⟨0x1C4010 + 0x10 * k, 12, 1, .RW, 0⟩

/-- `SYNC_TMRk_CFG.value` (RW): The value signalled. -/
def R.SYNC_TMR_CFG_value (k : Nat) : Fld := ⟨0x1C4010 + 0x10 * k, 16, 16, .RW, 0⟩

/-- `SYNC_TMRk_LO.frame` (RW): Frame [31:0]. -/
def R.SYNC_TMR_LO_frame (k : Nat) : Fld := ⟨0x1C4014 + 0x10 * k, 0, 32, .RW, 0⟩

/-- `SYNC_TMRk_HI.frame` (RW): Frame [47:32]. -/
def R.SYNC_TMR_HI_frame (k : Nat) : Fld := ⟨0x1C4018 + 0x10 * k, 0, 16, .RW, 0⟩

/-- `SYNC_TMRk_HI.tick` (RW): Tick. -/
def R.SYNC_TMR_HI_tick (k : Nat) : Fld := ⟨0x1C4018 + 0x10 * k, 16, 11, .RW, 0⟩

/-- `SYNC_CNT.dropped_remote` (RO): R434. -/
def R.SYNC_CNT_dropped_remote : Fld := ⟨0x1C4110, 0, 16, .RO, 0⟩

/-- `SYNC_CNT.late_timers` (RO): R435. -/
def R.SYNC_CNT_late_timers : Fld := ⟨0x1C4110, 16, 16, .RO, 0⟩

/-- `SYNC_EVT` (W1C): Bit 0 timer_fired, 1 remote_dropped, 2 timer_reject. -/
def R.SYNC_EVT : Fld := ⟨0x1C4114, 0, 3, .W1C, 0⟩

/-- `SYNC_CTRL.clr_counts` (WO): Writing 1 clears SYNC_CNT. -/
def R.SYNC_CTRL_clr_counts : Fld := ⟨0x1C4118, 0, 1, .WO, 0⟩

/-! ### FAB registers (spec/14_fabric.md) -/

/-- `FAB_CTRL.clr_counts` (WO): R478. -/
def R.FAB_CTRL_clr_counts : Fld := ⟨0x200000, 0, 1, .WO, 0⟩

/-- `FAB_CFG.sled_count` (RW): R445. Writes of 0 or above 16 are ignored. -/
def R.FAB_CFG_sled_count : Fld := ⟨0x200004, 0, 5, .RW, 16⟩

/-- `FAB_STAT.active` (RO): Bit n: port n ACTIVE. -/
def R.FAB_STAT_active : Fld := ⟨0x200008, 0, 12, .RO, 0⟩

/-- `FAB_EVT` (W1C): Bit 0 port_up, 1 port_dark, 2 retrain, 3 job_drop, 4 addr_drop, 5 resp_timeout, 6 hop_drop, 7 late_resp, 8 malformed. -/
def R.FAB_EVT : Fld := ⟨0x20000C, 0, 9, .W1C, 0⟩

/-- `FAB_IRQ_EN` (RW): Bit n enables the fabric interrupt for FAB_EVT bit n. -/
def R.FAB_IRQ_EN : Fld := ⟨0x200010, 0, 9, .RW, 0⟩

/-- `FAB_ROUTE_Q.dst` (RW): Destination package index for FAB_ROUTE_A. -/
def R.FAB_ROUTE_Q_dst : Fld := ⟨0x200014, 0, 10, .RW, 0⟩

/-- `FAB_ROUTE_A.sched_port` (RO): live. Primary port (R464); 0xF for this package or a destination outside the machine. -/
def R.FAB_ROUTE_A_sched_port : Fld := ⟨0x200018, 0, 4, .RO, 0⟩

/-- `FAB_ROUTE_A.dyn_port` (RO): live. Port R466 would take now; 0xF if none. -/
def R.FAB_ROUTE_A_dyn_port : Fld := ⟨0x200018, 4, 4, .RO, 0⟩

/-- `FAB_ROUTE_A.hops` (RO): live. Hops of the primary route from this package. -/
def R.FAB_ROUTE_A_hops : Fld := ⟨0x200018, 8, 4, .RO, 0⟩

/-- `FAB_DROP0.job_drops` (RO): R468. -/
def R.FAB_DROP0_job_drops : Fld := ⟨0x20001C, 0, 16, .RO, 0⟩

/-- `FAB_DROP0.addr_drops` (RO): R468. -/
def R.FAB_DROP0_addr_drops : Fld := ⟨0x20001C, 16, 16, .RO, 0⟩

/-- `FAB_DROP1.hop_drops` (RO): R466, R476. -/
def R.FAB_DROP1_hop_drops : Fld := ⟨0x200020, 0, 8, .RO, 0⟩

/-- `FAB_DROP1.malformed` (RO): R453. -/
def R.FAB_DROP1_malformed : Fld := ⟨0x200020, 8, 8, .RO, 0⟩

/-- `FAB_DROP1.late_resps` (RO): R469. -/
def R.FAB_DROP1_late_resps : Fld := ⟨0x200020, 16, 16, .RO, 0⟩

/-- `FAB_XFER.outstanding` (RO): Unresolved transfers, 0–4,096. -/
def R.FAB_XFER_outstanding : Fld := ⟨0x200024, 0, 13, .RO, 0⟩

/-- `FAB_XFER.resp_timeouts` (RO): R469. -/
def R.FAB_XFER_resp_timeouts : Fld := ⟨0x200024, 16, 16, .RO, 0⟩

/-- `FAB_LEVEL.own` (RO): Own fabric protocol level. -/
def R.FAB_LEVEL_own : Fld := ⟨0x200028, 0, 16, .RO, 2⟩

/-- `FAB_LEVEL_RANGE.min` (RO): Accepted peer range. -/
def R.FAB_LEVEL_RANGE_min : Fld := ⟨0x20002C, 0, 16, .RO, 2⟩

/-- `FAB_LEVEL_RANGE.max` (RO): — -/
def R.FAB_LEVEL_RANGE_max : Fld := ⟨0x20002C, 16, 16, .RO, 3⟩

/-- `FAB_PORTn_CTRL.en` (RW): R445. -/
def R.FAB_PORT_CTRL_en (n : Nat) : Fld := ⟨0x201000 + 0x100 * n, 0, 1, .RW, 1⟩

/-- `FAB_PORTn_CTRL.gen_max` (RW): 1: generation 2 allowed. -/
def R.FAB_PORT_CTRL_gen_max (n : Nat) : Fld := ⟨0x201000 + 0x100 * n, 1, 1, .RW, 1⟩

/-- `FAB_PORTn_CTRL.retrain` (WO): R449. -/
def R.FAB_PORT_CTRL_retrain (n : Nat) : Fld := ⟨0x201000 + 0x100 * n, 2, 1, .WO, 0⟩

/-- `FAB_PORTn_STAT.state` (RO): R444. -/
def R.FAB_PORT_STAT_state (n : Nat) : Fld := ⟨0x201004 + 0x100 * n, 0, 3, .RO, 0⟩

/-- `FAB_PORTn_STAT.gen` (RO): 0: generation 1. 1: generation 2. -/
def R.FAB_PORT_STAT_gen (n : Nat) : Fld := ⟨0x201004 + 0x100 * n, 3, 1, .RO, 0⟩

/-- `FAB_PORTn_STAT.cause` (RO): R450. -/
def R.FAB_PORT_STAT_cause (n : Nat) : Fld := ⟨0x201004 + 0x100 * n, 4, 4, .RO, 1⟩

/-- `FAB_PORTn_STAT.gen2_failed` (RO): R448. -/
def R.FAB_PORT_STAT_gen2_failed (n : Nat) : Fld := ⟨0x201004 + 0x100 * n, 8, 1, .RO, 0⟩

/-- `FAB_PORTn_STAT.polarity` (RO): Bit 9 + l: lane l inverted. -/
def R.FAB_PORT_STAT_polarity (n : Nat) : Fld := ⟨0x201004 + 0x100 * n, 9, 4, .RO, 0⟩

/-- `FAB_PORTn_PEER.pkg` (RO): Peer package index. -/
def R.FAB_PORT_PEER_pkg (n : Nat) : Fld := ⟨0x201008 + 0x100 * n, 0, 10, .RO, 0⟩

/-- `FAB_PORTn_PEER.port` (RO): Peer port. -/
def R.FAB_PORT_PEER_port (n : Nat) : Fld := ⟨0x201008 + 0x100 * n, 10, 4, .RO, 0⟩

/-- `FAB_PORTn_PEER.gen2` (RO): Peer offered generation 2. -/
def R.FAB_PORT_PEER_gen2 (n : Nat) : Fld := ⟨0x201008 + 0x100 * n, 14, 1, .RO, 0⟩

/-- `FAB_PORTn_PEER.valid` (RO): Peer blocks have been accepted. -/
def R.FAB_PORT_PEER_valid (n : Nat) : Fld := ⟨0x201008 + 0x100 * n, 15, 1, .RO, 0⟩

/-- `FAB_PORTn_PEER.level` (RO): Peer's own level. -/
def R.FAB_PORT_PEER_level (n : Nat) : Fld := ⟨0x201008 + 0x100 * n, 16, 16, .RO, 0⟩

/-- `FAB_PORTn_PEER_RANGE.min` (RO): — -/
def R.FAB_PORT_PEER_RANGE_min (n : Nat) : Fld := ⟨0x20100C + 0x100 * n, 0, 16, .RO, 0⟩

/-- `FAB_PORTn_PEER_RANGE.max` (RO): — -/
def R.FAB_PORT_PEER_RANGE_max (n : Nat) : Fld := ⟨0x20100C + 0x100 * n, 16, 16, .RO, 0⟩

/-- `FAB_PORTn_FLIGHT.ns` (RO): R447. -/
def R.FAB_PORT_FLIGHT_ns (n : Nat) : Fld := ⟨0x201010 + 0x100 * n, 0, 16, .RO, 0⟩

/-- `FAB_PORTn_CNT0.naks` (RO): R457. -/
def R.FAB_PORT_CNT0_naks (n : Nat) : Fld := ⟨0x201014 + 0x100 * n, 0, 16, .RO, 0⟩

/-- `FAB_PORTn_CNT0.retrains` (RO): R458. -/
def R.FAB_PORT_CNT0_retrains (n : Nat) : Fld := ⟨0x201014 + 0x100 * n, 16, 16, .RO, 0⟩

/-- `FAB_PORTn_CNT1.fec_corrected` (RO): Corrected bytes. -/
def R.FAB_PORT_CNT1_fec_corrected (n : Nat) : Fld := ⟨0x201018 + 0x100 * n, 0, 32, .RO, 0⟩

/-- `FAB_PORTn_CNT2.credit_stall` (RO): Flit times in which a queued slot waited for a credit. -/
def R.FAB_PORT_CNT2_credit_stall (n : Nat) : Fld := ⟨0x20101C + 0x100 * n, 0, 32, .RO, 0⟩

/-- `FAB_PORTn_TRAIN.attempts` (RO): R449. -/
def R.FAB_PORT_TRAIN_attempts (n : Nat) : Fld := ⟨0x201020 + 0x100 * n, 0, 16, .RO, 0⟩

/-- `FAB_PORTn_TRAIN.last_fail` (RO): Cause of the last failed attempt. -/
def R.FAB_PORT_TRAIN_last_fail (n : Nat) : Fld := ⟨0x201020 + 0x100 * n, 16, 4, .RO, 0⟩

/-! ### HOST registers (spec/15_host_port.md) -/

/-- `HOST_LINKh.up` (RO): live. The link of half h is up. Reads 0 for half 1 when not bifurcated. -/
def R.HOST_LINK_up (h : Nat) : Fld := ⟨0x270000 + 0x4 * h, 0, 1, .RO, 0⟩

/-- `HOST_LINKh.rate` (RO): live. 0 none, 1 16 GT/s, 2 32 GT/s, 3 64 GT/s. -/
def R.HOST_LINK_rate (h : Nat) : Fld := ⟨0x270000 + 0x4 * h, 1, 2, .RO, 0⟩

/-- `HOST_LINKh.width` (RO): live. Lanes, 1–16. -/
def R.HOST_LINK_width (h : Nat) : Fld := ⟨0x270000 + 0x4 * h, 3, 5, .RO, 0⟩

/-- `HOST_LINKh.protocol` (RO): live. 0 PCIe only, 1 CXL 1.1, 2 CXL 2.0, 3 CXL 3.1. -/
def R.HOST_LINK_protocol (h : Nat) : Fld := ⟨0x270000 + 0x4 * h, 8, 2, .RO, 0⟩

/-- `HOST_LINKh.flit256` (RO): live. 256-byte flits. -/
def R.HOST_LINK_flit256 (h : Nat) : Fld := ⟨0x270000 + 0x4 * h, 10, 1, .RO, 0⟩

/-- `HOST_LINKh.ide` (RO): live. R505. -/
def R.HOST_LINK_ide (h : Nat) : Fld := ⟨0x270000 + 0x4 * h, 11, 1, .RO, 0⟩

/-- `HOST_EVT` (W1C): Bit 0 link_down0, 1 link_up0, 2 link_down1, 3 link_up1, 4 poison_read, 5 unclaimed, 6 ide_fail, 7 sb_denied, 8 sb_pec, 9 cxl_reset_done, 10 dusk, 11 hold. -/
def R.HOST_EVT : Fld := ⟨0x270008, 0, 12, .W1C, 0⟩

/-- `HOST_IRQ_EN` (RW): Bit n enables HOST_EVT bit n (R497, R498). -/
def R.HOST_IRQ_EN : Fld := ⟨0x27000C, 0, 12, .RW, 0⟩

/-- `HOST_IRQ_MAP0.power` (RW): R497. -/
def R.HOST_IRQ_MAP0_power : Fld := ⟨0x270010, 0, 6, .RW, 63⟩

/-- `HOST_IRQ_MAP0.hzn` (RW): — -/
def R.HOST_IRQ_MAP0_hzn : Fld := ⟨0x270010, 8, 6, .RW, 62⟩

/-- `HOST_IRQ_MAP0.clk` (RW): — -/
def R.HOST_IRQ_MAP0_clk : Fld := ⟨0x270010, 16, 6, .RW, 61⟩

/-- `HOST_IRQ_MAP0.img` (RW): — -/
def R.HOST_IRQ_MAP0_img : Fld := ⟨0x270010, 24, 6, .RW, 60⟩

/-- `HOST_IRQ_MAP1.seq` (RW): — -/
def R.HOST_IRQ_MAP1_seq : Fld := ⟨0x270014, 0, 6, .RW, 59⟩

/-- `HOST_IRQ_MAP1.fix` (RW): — -/
def R.HOST_IRQ_MAP1_fix : Fld := ⟨0x270014, 8, 6, .RW, 58⟩

/-- `HOST_IRQ_MAP1.fab` (RW): — -/
def R.HOST_IRQ_MAP1_fab : Fld := ⟨0x270014, 16, 6, .RW, 57⟩

/-- `HOST_IRQ_MAP1.thm` (RW): — -/
def R.HOST_IRQ_MAP1_thm : Fld := ⟨0x270014, 24, 6, .RW, 56⟩

/-- `HOST_IRQ_MAP2.pmu` (RW): — -/
def R.HOST_IRQ_MAP2_pmu : Fld := ⟨0x270018, 0, 6, .RW, 55⟩

/-- `HOST_IRQ_MAP2.isl` (RW): — -/
def R.HOST_IRQ_MAP2_isl : Fld := ⟨0x270018, 8, 6, .RW, 54⟩

/-- `HOST_IRQ_MAP2.host` (RW): — -/
def R.HOST_IRQ_MAP2_host : Fld := ⟨0x270018, 16, 6, .RW, 53⟩

/-- `HOST_VEC_ROUTE_LO` (RW): Bit v: vector v (0–31) is sent on half 1 (R496). -/
def R.HOST_VEC_ROUTE_LO : Fld := ⟨0x27001C, 0, 32, .RW, 0⟩

/-- `HOST_VEC_ROUTE_HI` (RW): Vectors 32–63. -/
def R.HOST_VEC_ROUTE_HI : Fld := ⟨0x270020, 0, 32, .RW, 0⟩

/-- `HOST_CNT0.poison_reads` (RO): R491. -/
def R.HOST_CNT0_poison_reads : Fld := ⟨0x270024, 0, 16, .RO, 0⟩

/-- `HOST_CNT0.poison_writes` (RO): R491. -/
def R.HOST_CNT0_poison_writes : Fld := ⟨0x270024, 16, 16, .RO, 0⟩

/-- `HOST_CNT1.corrected` (RO): R491. -/
def R.HOST_CNT1_corrected : Fld := ⟨0x270028, 0, 16, .RO, 0⟩

/-- `HOST_CNT1.unclaimed` (RO): R489, R501. -/
def R.HOST_CNT1_unclaimed : Fld := ⟨0x270028, 16, 16, .RO, 0⟩

/-- `HOST_CTRL.clr_counts` (WO): R516. -/
def R.HOST_CTRL_clr_counts : Fld := ⟨0x27002C, 0, 1, .WO, 0⟩

/-- `HOST_SB_ALERT` (W1C): R512. -/
def R.HOST_SB_ALERT : Fld := ⟨0x270030, 0, 5, .W1C, 0⟩

/-- `HOST_SB_ALERT_EN` (RW): R512. Bit 0 reads 1. -/
def R.HOST_SB_ALERT_EN : Fld := ⟨0x270034, 0, 5, .RW, 1⟩

/-- `HOST_SB_STAT.addr` (RO): live. Static address, 0x58 + slot. -/
def R.HOST_SB_STAT_addr : Fld := ⟨0x270038, 0, 7, .RO, 0⟩

/-- `HOST_SB_STAT.mode` (RO): live. 0 SMBus, 1 I3C. -/
def R.HOST_SB_STAT_mode : Fld := ⟨0x270038, 7, 1, .RO, 0⟩

/-- `HOST_SB_STAT.dyn_addr` (RO): I3C dynamic address. -/
def R.HOST_SB_STAT_dyn_addr : Fld := ⟨0x270038, 8, 7, .RO, 0⟩

/-- `HOST_SB_STAT.dyn_valid` (RO): A dynamic address is assigned. -/
def R.HOST_SB_STAT_dyn_valid : Fld := ⟨0x270038, 15, 1, .RO, 0⟩

/-- `HOST_SB_CNT.pec_errors` (RO): R515. -/
def R.HOST_SB_CNT_pec_errors : Fld := ⟨0x27003C, 0, 16, .RO, 0⟩

/-- `HOST_SB_CNT.denied` (RO): R511. -/
def R.HOST_SB_CNT_denied : Fld := ⟨0x27003C, 16, 16, .RO, 0⟩

/-- `HOST_SB_REQ.host_req` (WO): Sets HOST_SB_ALERT bit 4. -/
def R.HOST_SB_REQ_host_req : Fld := ⟨0x270040, 0, 1, .WO, 0⟩

/-! ### ISL registers (spec/16_metering_island.md) -/

/-- `ISL_CHk_CTRL.go` (WO): R531. -/
def R.ISL_CH_CTRL_go (k : Nat) : Fld := ⟨0x300000 + 0x1000 * k, 0, 1, .WO, 0⟩

/-- `ISL_CHk_STAT.busy` (RO): A command is running. -/
def R.ISL_CH_STAT_busy (k : Nat) : Fld := ⟨0x300004 + 0x1000 * k, 0, 1, .RO, 0⟩

/-- `ISL_CHk_STAT.done` (W1C): The last command completed. -/
def R.ISL_CH_STAT_done (k : Nat) : Fld := ⟨0x300004 + 0x1000 * k, 1, 1, .W1C, 0⟩

/-- `ISL_CHk_STAT.status` (RO): Status of R533. -/
def R.ISL_CH_STAT_status (k : Nat) : Fld := ⟨0x300004 + 0x1000 * k, 8, 8, .RO, 0⟩

/-- `ISL_CHk_REQw` (RW): Request bytes 4w to 4w + 3. -/
def R.ISL_CH_REQ (k : Nat) (w : Nat) : Fld := ⟨0x300100 + 0x1000 * k + 0x4 * w, 0, 32, .RW, 0⟩

/-- `ISL_CHk_RSPw` (RO): Response bytes 4w to 4w + 3. -/
def R.ISL_CH_RSP (k : Nat) (w : Nat) : Fld := ⟨0x300200 + 0x1000 * k + 0x4 * w, 0, 32, .RO, 0⟩

/-- `ISL_STAT.link_up` (RO): live. The island link is up. -/
def R.ISL_STAT_link_up : Fld := ⟨0x302000, 0, 1, .RO, 0⟩

/-- `ISL_STAT.rom_mode` (RO): live. R527. -/
def R.ISL_STAT_rom_mode : Fld := ⟨0x302000, 1, 1, .RO, 0⟩

/-- `ISL_STAT.source` (RO): live. BATT_STAT.source. -/
def R.ISL_STAT_source : Fld := ⟨0x302000, 2, 2, .RO, 0⟩

/-- `ISL_STAT.bat_low` (RO): live. R524. -/
def R.ISL_STAT_bat_low : Fld := ⟨0x302000, 4, 1, .RO, 0⟩

/-- `ISL_STAT.fw_level` (RO): live. Own level of the running firmware. -/
def R.ISL_STAT_fw_level : Fld := ⟨0x302000, 16, 16, .RO, 0⟩

/-- `ISL_EVT` (W1C): Bit 0 done0, 1 done1, 2 bat_low. -/
def R.ISL_EVT : Fld := ⟨0x302004, 0, 3, .W1C, 0⟩

/-- `ISL_IRQ_EN` (RW): Bit n enables vector HOST_IRQ_MAP2.isl for ISL_EVT bit n. -/
def R.ISL_IRQ_EN : Fld := ⟨0x302008, 0, 3, .RW, 0⟩

/-- `ISL_CNT.busy_rejects` (RO): R531. -/
def R.ISL_CNT_busy_rejects : Fld := ⟨0x30200C, 0, 16, .RO, 0⟩

/-- `ISL_CTRL.clr_counts` (WO): R549. -/
def R.ISL_CTRL_clr_counts : Fld := ⟨0x302010, 0, 1, .WO, 0⟩

/-! ### BATT registers (spec/16_metering_island.md) -/

/-- `BATT_STAT.source` (RO): live. R517. -/
def R.BATT_STAT_source : Fld := ⟨0x440000, 0, 2, .RO, 0⟩

/-- `BATT_STAT.bat_low` (RO): live. R524. -/
def R.BATT_STAT_bat_low : Fld := ⟨0x440000, 2, 1, .RO, 0⟩

/-- `BATT_STAT.reserve_ok` (RO): live. Budget is at least 10 ms. -/
def R.BATT_STAT_reserve_ok : Fld := ⟨0x440000, 3, 1, .RO, 0⟩

/-- `BATT_STAT.erase_ok` (RO): live. Budget is at least 14 ms. -/
def R.BATT_STAT_erase_ok : Fld := ⟨0x440000, 4, 1, .RO, 0⟩

/-- `BATT_STAT.commit_deferred` (RO): R522. -/
def R.BATT_STAT_commit_deferred : Fld := ⟨0x440000, 5, 1, .RO, 0⟩

/-- `BATT_VOLT.vbat_mv` (RO): live. VBAT in mV. -/
def R.BATT_VOLT_vbat_mv : Fld := ⟨0x440004, 0, 16, .RO, 0⟩

/-- `BATT_VOLT.vhold_mv` (RO): live. VHOLD in mV. -/
def R.BATT_VOLT_vhold_mv : Fld := ⟨0x440004, 16, 16, .RO, 0⟩

/-- `BATT_BUDGET.ms` (RO): live. R520. -/
def R.BATT_BUDGET_ms : Fld := ⟨0x440008, 0, 16, .RO, 0⟩

/-- `BATT_BUDGET.refusals` (RO): R521. -/
def R.BATT_BUDGET_refusals : Fld := ⟨0x440008, 16, 16, .RO, 0⟩

/-- `BATT_CAP.cap_mah` (RW): Rated cell capacity. -/
def R.BATT_CAP_cap_mah : Fld := ⟨0x44000C, 0, 16, .RW, 1000⟩

/-- `BATT_CAP.used_mah` (RO): R524. -/
def R.BATT_CAP_used_mah : Fld := ⟨0x44000C, 16, 16, .RO, 0⟩

/-- `BATT_CFG.new_cell` (WO): R524. -/
def R.BATT_CFG_new_cell : Fld := ⟨0x440010, 0, 1, .WO, 0⟩

/-! ### MBUS registers (spec/16_metering_island.md) -/

/-- `MBUS_CFG.primary` (RW): R543. -/
def R.MBUS_CFG_primary : Fld := ⟨0x430000, 0, 8, .RW, 0⟩

/-- `MBUS_STAT.rate` (RO): Rate of the last frame: 0 300, 1 2,400, 2 9,600 Bd. -/
def R.MBUS_STAT_rate : Fld := ⟨0x430004, 0, 2, .RO, 0⟩

/-- `MBUS_STAT.selected` (RO): R544. -/
def R.MBUS_STAT_selected : Fld := ⟨0x430004, 2, 1, .RO, 0⟩

/-- `MBUS_CNT.answered` (RO): Frames answered. -/
def R.MBUS_CNT_answered : Fld := ⟨0x430008, 0, 16, .RO, 0⟩

/-- `MBUS_CNT.discarded` (RO): R546. -/
def R.MBUS_CNT_discarded : Fld := ⟨0x430008, 16, 16, .RO, 0⟩

/-- `MBUS_ID.bcd` (RO): live. Identification number, BCD (R544). -/
def R.MBUS_ID_bcd : Fld := ⟨0x43000C, 0, 32, .RO, 0⟩

/-! ### SEAL registers (spec/16_metering_island.md) -/

/-- `SEAL_KEYS.provisioned` (RO): live. Bit k: key slot k. -/
def R.SEAL_KEYS_provisioned : Fld := ⟨0x460000, 0, 8, .RO, 0⟩

/-- `SEAL_KEYS.revoked` (RO): live. Bit 8 + k. -/
def R.SEAL_KEYS_revoked : Fld := ⟨0x460000, 8, 8, .RO, 0⟩

/-- `SEAL_SIGNERS.provisioned` (RO): live. Bit s: signer slot s. -/
def R.SEAL_SIGNERS_provisioned : Fld := ⟨0x460004, 0, 4, .RO, 0⟩

/-- `SEAL_SIGNERS.revoked` (RO): live. Bit 4 + s. -/
def R.SEAL_SIGNERS_revoked : Fld := ⟨0x460004, 4, 4, .RO, 0⟩

/-- `SEAL_CTRs.value` (RO): live. R540. -/
def R.SEAL_CTR_value (s : Nat) : Fld := ⟨0x460008 + 0x4 * s, 0, 32, .RO, 0⟩

/-- `SEAL_USED` (RO): live. Bits [7s + 6:7s]: entries used by counter s, 0–64. -/
def R.SEAL_USED : Fld := ⟨0x460018, 0, 28, .RO, 0⟩

/-! ### MTR registers (spec/17_heat_and_energy.md) -/

/-- `MTR_CTRL.clr_counts` (WO): R585. -/
def R.MTR_CTRL_clr_counts : Fld := ⟨0x410000, 0, 1, .WO, 0⟩

/-- `MTR_STAT.standby_sched` (RO): live. 1 on the HOLD and STANDBY schedule. -/
def R.MTR_STAT_standby_sched : Fld := ⟨0x410004, 0, 1, .RO, 0⟩

/-- `MTR_STAT.time_unknown` (RO): R571. -/
def R.MTR_STAT_time_unknown : Fld := ⟨0x410004, 1, 1, .RO, 1⟩

/-- `MTR_STAT.table_clamp` (RO): R561. -/
def R.MTR_STAT_table_clamp : Fld := ⟨0x410004, 2, 1, .RO, 0⟩

/-- `MTR_STAT.seg_bad` (RO): Bit 3 + n: channel n (R556). -/
def R.MTR_STAT_seg_bad : Fld := ⟨0x410004, 3, 2, .RO, 0⟩

/-- `MTR_EVT` (W1C): Bits 0–1 no_echo0–1, 2–3 reverse0–1, 4–5 crossed0–1, 6–9 rtd_open0–3, 10–13 rtd_short0–3, 14–15 offset0–1, 16 rail_overrange. -/
def R.MTR_EVT : Fld := ⟨0x410008, 0, 17, .W1C, 0⟩

/-- `MTR_EVT_ACT` (RO): Active conditions, same bits. -/
def R.MTR_EVT_ACT : Fld := ⟨0x41000C, 0, 17, .RO, 0⟩

/-- `MTR_RTC` (RW): R571. -/
def R.MTR_RTC : Fld := ⟨0x410010, 0, 32, .RW, 0⟩

/-- `MTR_EPOCH` (RWL): RTC seconds at frame 0. 0: not set. -/
def R.MTR_EPOCH : Fld := ⟨0x410014, 0, 32, .RWL, 0⟩

/-- `MTR_INTERVAL` (RO): R572. -/
def R.MTR_INTERVAL : Fld := ⟨0x410018, 0, 32, .RO, 0⟩

/-- `MTR_CAL_LOCK.lock` (W1S): R575. -/
def R.MTR_CAL_LOCK_lock : Fld := ⟨0x41001C, 0, 1, .W1S, 0⟩

/-- `MTR_LOOPn_CFG.fluid` (RWL): 0 water, 1 glycol (R561). -/
def R.MTR_LOOP_CFG_fluid (n : Nat) : Fld := ⟨0x410020 + 0x20 * n, 0, 1, .RWL, 0⟩

/-- `MTR_LOOPn_CFG.meter_leg` (RWL): R562. -/
def R.MTR_LOOP_CFG_meter_leg (n : Nat) : Fld := ⟨0x410020 + 0x20 * n, 1, 1, .RWL, 0⟩

/-- `MTR_CHn_K` (RWL): µL; 0 disables (R557). -/
def R.MTR_CH_K (n : Nat) : Fld := ⟨0x410024 + 0x20 * n, 0, 24, .RWL, 0⟩

/-- `MTR_CHn_CUTOFF` (RWL): 0.1 L/h. -/
def R.MTR_CH_CUTOFF (n : Nat) : Fld := ⟨0x410028 + 0x20 * n, 0, 16, .RWL, 10⟩

/-- `MTR_CHn_FLOW` (RO): 0.1 L/h, signed (R555, R576). -/
def R.MTR_CH_FLOW (n : Nat) : Fld := ⟨0x41002C + 0x20 * n, 0, 32, .RO, 0⟩

/-- `MTR_CHn_OFS_EST` (RO): o in ps, signed (R554). -/
def R.MTR_CH_OFS_EST (n : Nat) : Fld := ⟨0x410030 + 0x20 * n, 0, 16, .RO, 0⟩

/-- `MTR_CHn_CNT.invalid` (RO): R553. -/
def R.MTR_CH_CNT_invalid (n : Nat) : Fld := ⟨0x410034 + 0x20 * n, 0, 16, .RO, 0⟩

/-- `MTR_CHn_CNT.no_echo` (RO): NO_ECHO onsets. -/
def R.MTR_CH_CNT_no_echo (n : Nat) : Fld := ⟨0x410034 + 0x20 * n, 16, 16, .RO, 0⟩

/-- `MTR_CHn_ERRT` (RO): Error seconds for loop n. -/
def R.MTR_CH_ERRT (n : Nat) : Fld := ⟨0x410038 + 0x20 * n, 0, 32, .RO, 0⟩

/-- `MTR_CHn_WIN.open` (RWL): 10 ns units (R553). -/
def R.MTR_CH_WIN_open (n : Nat) : Fld := ⟨0x41003C + 0x20 * n, 0, 16, .RWL, 2000⟩

/-- `MTR_CHn_WIN.close` (RWL): 10 ns units. -/
def R.MTR_CH_WIN_close (n : Nat) : Fld := ⟨0x41003C + 0x20 * n, 16, 16, .RWL, 10000⟩

/-- `MTR_CHn_SEGk.q` (RWL): R556. -/
def R.MTR_CH_SEG_q (n : Nat) (k : Nat) : Fld := ⟨0x410060 + 0x20 * n + 0x4 * k, 0, 16, .RWL, 0⟩

/-- `MTR_CHn_SEGk.corr` (RWL): 2^−16, signed. -/
def R.MTR_CH_SEG_corr (n : Nat) (k : Nat) : Fld := ⟨0x410060 + 0x20 * n + 0x4 * k, 16, 16, .RWL, 0⟩

/-- `MTR_TEMPs` (RO): mK, signed (R560, R576). -/
def R.MTR_TEMP (s : Nat) : Fld := ⟨0x4100A0 + 0x4 * s, 0, 32, .RO, 0⟩

/-- `MTR_RAILr_SHUNT` (RWL): µΩ; 0: not metered. -/
def R.MTR_RAIL_SHUNT (r : Nat) : Fld := ⟨0x4100B0 + 0x4 * r, 0, 24, .RWL, 0⟩

/-- `MTR_RAILr_V` (RO): mV. -/
def R.MTR_RAIL_V (r : Nat) : Fld := ⟨0x4100C0 + 0x8 * r, 0, 16, .RO, 0⟩

/-- `MTR_RAILr_I` (RO): mA, signed. -/
def R.MTR_RAIL_I (r : Nat) : Fld := ⟨0x4100C4 + 0x8 * r, 0, 32, .RO, 0⟩

/-- `MTR_PWR.heat` (RO): W, both loops, over the last flow cycle. -/
def R.MTR_PWR_heat : Fld := ⟨0x4100E0, 0, 16, .RO, 0⟩

/-- `MTR_PWR.elec` (RO): W, over the last flow cycle. -/
def R.MTR_PWR_elec : Fld := ⟨0x4100E0, 16, 16, .RO, 0⟩

/-- `MTR_GAINx` (RWL): R558. -/
def R.MTR_GAIN (x : Nat) : Fld := ⟨0x410100 + 0x4 * x, 0, 32, .RWL, 0⟩

/-- `MTR_OFSx` (RWL): R558. -/
def R.MTR_OFS (x : Nat) : Fld := ⟨0x410140 + 0x4 * x, 0, 32, .RWL, 0⟩

/-- `MTR_HEATn_LO` (RO): mJ. -/
def R.MTR_HEAT_LO (n : Nat) : Fld := ⟨0x410180 + 0x10 * n, 0, 32, .RO, 0⟩

/-- `MTR_HEATn_HI` (RO): mJ. -/
def R.MTR_HEAT_HI (n : Nat) : Fld := ⟨0x410184 + 0x10 * n, 0, 32, .RO, 0⟩

/-- `MTR_VOLn_LO` (RO): mL. -/
def R.MTR_VOL_LO (n : Nat) : Fld := ⟨0x410188 + 0x10 * n, 0, 32, .RO, 0⟩

/-- `MTR_VOLn_HI` (RO): mL. -/
def R.MTR_VOL_HI (n : Nat) : Fld := ⟨0x41018C + 0x10 * n, 0, 32, .RO, 0⟩

/-- `MTR_ELEC_LO` (RO): mJ. -/
def R.MTR_ELEC_LO : Fld := ⟨0x4101A0, 0, 32, .RO, 0⟩

/-- `MTR_ELEC_HI` (RO): mJ. -/
def R.MTR_ELEC_HI : Fld := ⟨0x4101A4, 0, 32, .RO, 0⟩

/-- `MTR_REVn` (RO): mL. -/
def R.MTR_REV (n : Nat) : Fld := ⟨0x4101A8 + 0x4 * n, 0, 32, .RO, 0⟩

/-- `MTR_OVH_ELEC_LO` (RO): mJ. -/
def R.MTR_OVH_ELEC_LO : Fld := ⟨0x4101B0, 0, 32, .RO, 0⟩

/-- `MTR_OVH_ELEC_HI` (RO): mJ. -/
def R.MTR_OVH_ELEC_HI : Fld := ⟨0x4101B4, 0, 32, .RO, 0⟩

/-- `MTR_OVH_HEAT_LO` (RO): mJ. -/
def R.MTR_OVH_HEAT_LO : Fld := ⟨0x4101B8, 0, 32, .RO, 0⟩

/-- `MTR_OVH_HEAT_HI` (RO): mJ. -/
def R.MTR_OVH_HEAT_HI : Fld := ⟨0x4101BC, 0, 32, .RO, 0⟩

/-- `MTR_BENCH_ELEC_LO` (RO): mJ. -/
def R.MTR_BENCH_ELEC_LO : Fld := ⟨0x4101C0, 0, 32, .RO, 0⟩

/-- `MTR_BENCH_ELEC_HI` (RO): mJ. -/
def R.MTR_BENCH_ELEC_HI : Fld := ⟨0x4101C4, 0, 32, .RO, 0⟩

/-- `MTR_BENCH_HEAT_LO` (RO): mJ. -/
def R.MTR_BENCH_HEAT_LO : Fld := ⟨0x4101C8, 0, 32, .RO, 0⟩

/-- `MTR_BENCH_HEAT_HI` (RO): mJ. -/
def R.MTR_BENCH_HEAT_HI : Fld := ⟨0x4101CC, 0, 32, .RO, 0⟩

/-- `MTR_TEN_SEL.tenant` (RW): Selects the tenant for MTR_TEN_*. -/
def R.MTR_TEN_SEL_tenant : Fld := ⟨0x4101D0, 0, 10, .RW, 0⟩

/-- `MTR_TEN_ELEC_LO` (RO): mJ, selected tenant. -/
def R.MTR_TEN_ELEC_LO : Fld := ⟨0x4101D4, 0, 32, .RO, 0⟩

/-- `MTR_TEN_ELEC_HI` (RO): mJ, selected tenant. -/
def R.MTR_TEN_ELEC_HI : Fld := ⟨0x4101D8, 0, 32, .RO, 0⟩

/-- `MTR_TEN_HEAT_LO` (RO): mJ, selected tenant. -/
def R.MTR_TEN_HEAT_LO : Fld := ⟨0x4101DC, 0, 32, .RO, 0⟩

/-- `MTR_TEN_HEAT_HI` (RO): mJ, selected tenant. -/
def R.MTR_TEN_HEAT_HI : Fld := ⟨0x4101E0, 0, 32, .RO, 0⟩

/-- `MTR_ATTR.merged` (RO): R570. -/
def R.MTR_ATTR_merged : Fld := ⟨0x4101E4, 0, 16, .RO, 0⟩

/-- `MTR_ATTR.late` (RO): R570. -/
def R.MTR_ATTR_late : Fld := ⟨0x4101E4, 16, 16, .RO, 0⟩

/-- `MTR_ATTR2.unbound` (RO): R569. -/
def R.MTR_ATTR2_unbound : Fld := ⟨0x4101E8, 0, 16, .RO, 0⟩

/-- `MTR_CAL_CNT` (RO): R575. -/
def R.MTR_CAL_CNT : Fld := ⟨0x4101E8, 16, 16, .RO, 0⟩

/-! ### FLS registers (spec/18_record_flash.md) -/

/-- `FLS_STAT.busy` (RO): A program or erase is active. -/
def R.FLS_STAT_busy : Fld := ⟨0x420000, 0, 1, .RO, 0⟩

/-- `FLS_STAT.op` (RO): 0 none, 1 program, 2 erase, 3 mass erase. -/
def R.FLS_STAT_op : Fld := ⟨0x420000, 1, 2, .RO, 0⟩

/-- `FLS_STAT.bank` (RO): Bank of the active operation. -/
def R.FLS_STAT_bank : Fld := ⟨0x420000, 3, 1, .RO, 0⟩

/-- `FLS_STAT.sector` (RO): Sector of the active operation. -/
def R.FLS_STAT_sector : Fld := ⟨0x420000, 4, 8, .RO, 0⟩

/-- `FLS_STAT.suspend_depth` (RO): R596. -/
def R.FLS_STAT_suspend_depth : Fld := ⟨0x420000, 12, 2, .RO, 0⟩

/-- `FLS_STAT.not_blank` (W1C): R590. -/
def R.FLS_STAT_not_blank : Fld := ⟨0x420000, 16, 1, .W1C, 0⟩

/-- `FLS_STAT.busy_energy` (W1C): R591, R597. -/
def R.FLS_STAT_busy_energy : Fld := ⟨0x420000, 17, 1, .W1C, 0⟩

/-- `FLS_STAT.verify_fail` (W1C): R590. -/
def R.FLS_STAT_verify_fail : Fld := ⟨0x420000, 18, 1, .W1C, 0⟩

/-- `FLS_STAT.erase_fail` (W1C): R591. -/
def R.FLS_STAT_erase_fail : Fld := ⟨0x420000, 19, 1, .W1C, 0⟩

/-- `FLS_STAT.protected` (W1C): R601, R602. -/
def R.FLS_STAT_protected : Fld := ⟨0x420000, 20, 1, .W1C, 0⟩

/-- `FLS_STAT.target_erasing` (W1C): R596. -/
def R.FLS_STAT_target_erasing : Fld := ⟨0x420000, 21, 1, .W1C, 0⟩

/-- `FLS_STAT.suspend_refused` (W1C): R596. -/
def R.FLS_STAT_suspend_refused : Fld := ⟨0x420000, 22, 1, .W1C, 0⟩

/-- `FLS_STAT.abandoned` (W1C): R598. -/
def R.FLS_STAT_abandoned : Fld := ⟨0x420000, 23, 1, .W1C, 0⟩

/-- `FLS_STAT.range` (W1C): R587, R590. -/
def R.FLS_STAT_range : Fld := ⟨0x420000, 24, 1, .W1C, 0⟩

/-- `FLS_STAT.ecc_warn` (W1C): R593. -/
def R.FLS_STAT_ecc_warn : Fld := ⟨0x420000, 25, 1, .W1C, 0⟩

/-- `FLS_STAT.ecc_fail` (W1C): R593, R616. -/
def R.FLS_STAT_ecc_fail : Fld := ⟨0x420000, 26, 1, .W1C, 0⟩

/-- `FLS_LAST.cmd` (RO): Code of the last command (R589). -/
def R.FLS_LAST_cmd : Fld := ⟨0x420004, 0, 4, .RO, 0⟩

/-- `FLS_LAST.result` (RO): 0 OK, 1 NOT_BLANK, 2 BUSY_ENERGY, 3 VERIFY, 4 ERASE_FAIL, 5 PROTECTED, 6 TARGET_ERASING, 7 SUSPEND_REFUSED, 8 ABANDONED, 9 RANGE. -/
def R.FLS_LAST_result : Fld := ⟨0x420004, 4, 4, .RO, 0⟩

/-- `FLS_LAST.bank` (RO): — -/
def R.FLS_LAST_bank : Fld := ⟨0x420004, 8, 1, .RO, 0⟩

/-- `FLS_LAST.sector` (RO): — -/
def R.FLS_LAST_sector : Fld := ⟨0x420004, 9, 8, .RO, 0⟩

/-- `FLS_LAST.word` (RO): Word within the sector, for programs. -/
def R.FLS_LAST_word : Fld := ⟨0x420004, 17, 8, .RO, 0⟩

/-- `FLS_HADDR.addr` (RW): Byte address; bits [2:0] must be 0. A write starts a host read (R599). -/
def R.FLS_HADDR_addr : Fld := ⟨0x420010, 0, 20, .RW, 0⟩

/-- `FLS_HDATA_LO` (RO): Data [31:0]; a read captures the high word (R585). -/
def R.FLS_HDATA_LO : Fld := ⟨0x420014, 0, 32, .RO, 0⟩

/-- `FLS_HDATA_HI` (RO): Data [63:32]. -/
def R.FLS_HDATA_HI : Fld := ⟨0x420018, 0, 32, .RO, 0⟩

/-- `FLS_HSTAT.valid` (RO): Data is from the address. -/
def R.FLS_HSTAT_valid : Fld := ⟨0x42001C, 0, 1, .RO, 0⟩

/-- `FLS_HSTAT.retry` (RO): Bank busy (R599). -/
def R.FLS_HSTAT_retry : Fld := ⟨0x42001C, 1, 1, .RO, 0⟩

/-- `FLS_HSTAT.denied` (RO): R600. -/
def R.FLS_HSTAT_denied : Fld := ⟨0x42001C, 2, 1, .RO, 0⟩

/-- `FLS_HSTAT.corrected` (RO): The word was corrected. -/
def R.FLS_HSTAT_corrected : Fld := ⟨0x42001C, 3, 1, .RO, 0⟩

/-- `FLS_HSTAT.uncorrectable` (RO): R588. -/
def R.FLS_HSTAT_uncorrectable : Fld := ⟨0x42001C, 4, 1, .RO, 0⟩

/-- `FLS_PROT.level` (RO): R601. -/
def R.FLS_PROT_level : Fld := ⟨0x420020, 0, 2, .RO, 0⟩

/-- `FLS_PROT_REQ.level` (WO): R601, R602. -/
def R.FLS_PROT_REQ_level : Fld := ⟨0x420024, 0, 2, .WO, 0⟩

/-- `FLS_PROT_REQ.key` (WO): Must be 0xF1A5. -/
def R.FLS_PROT_REQ_key : Fld := ⟨0x420024, 16, 16, .WO, 0⟩

/-- `FLS_ECC_CFG.warn` (RW): 1–8. Writes of 0 or above 8 are ignored. -/
def R.FLS_ECC_CFG_warn : Fld := ⟨0x420028, 0, 4, .RW, 2⟩

/-- `FLS_ECC_CNT.corrected` (RO): R593. -/
def R.FLS_ECC_CNT_corrected : Fld := ⟨0x42002C, 0, 16, .RO, 0⟩

/-- `FLS_ECC_CNT.uncorrectable` (RO): R593. -/
def R.FLS_ECC_CNT_uncorrectable : Fld := ⟨0x42002C, 16, 16, .RO, 0⟩

/-- `FLS_ECC_LAST.sector` (RO): Sector of the last warning read. -/
def R.FLS_ECC_LAST_sector : Fld := ⟨0x420030, 0, 8, .RO, 0⟩

/-- `FLS_ECC_LAST.bank` (RO): — -/
def R.FLS_ECC_LAST_bank : Fld := ⟨0x420030, 8, 1, .RO, 0⟩

/-- `FLS_ECC_LAST.count` (RO): Its correction count. -/
def R.FLS_ECC_LAST_count : Fld := ⟨0x420030, 9, 4, .RO, 0⟩

/-- `FLS_RING.tail` (RO): R607. -/
def R.FLS_RING_tail : Fld := ⟨0x420034, 0, 8, .RO, 3⟩

/-- `FLS_RING.head` (RO): R607. -/
def R.FLS_RING_head : Fld := ⟨0x420034, 8, 8, .RO, 3⟩

/-- `FLS_RING.erased_ahead` (RO): R607. -/
def R.FLS_RING_erased_ahead : Fld := ⟨0x420034, 16, 8, .RO, 0⟩

/-- `FLS_RING.retired` (RO): Retired sectors, saturating. -/
def R.FLS_RING_retired : Fld := ⟨0x420034, 24, 8, .RO, 0⟩

/-- `FLS_WEAR.rotations` (RO): R607. -/
def R.FLS_WEAR_rotations : Fld := ⟨0x420038, 0, 17, .RO, 0⟩

/-- `FLS_WEAR.endurance_warn` (RO): R614. -/
def R.FLS_WEAR_endurance_warn : Fld := ⟨0x420038, 17, 1, .RO, 0⟩

/-- `FLS_JRNL.last_commit` (RO): Sequence number of the last valid commit. -/
def R.FLS_JRNL_last_commit : Fld := ⟨0x42003C, 0, 32, .RO, 0⟩

/-- `FLS_CKPT.first_commit` (RO): First part of the latest complete checkpoint. -/
def R.FLS_CKPT_first_commit : Fld := ⟨0x420040, 0, 32, .RO, 0⟩

/-- `FLS_CNT.commits` (RO): Valid commits written. -/
def R.FLS_CNT_commits : Fld := ⟨0x420044, 0, 16, .RO, 0⟩

/-- `FLS_CNT.recoveries` (RO): R606. -/
def R.FLS_CNT_recoveries : Fld := ⟨0x420044, 16, 16, .RO, 0⟩

/-- `FLS_CNT2.suspends` (RO): Suspensions, including automatic ones. -/
def R.FLS_CNT2_suspends : Fld := ⟨0x420048, 0, 16, .RO, 0⟩

/-- `FLS_CNT2.deferred` (RO): R612. -/
def R.FLS_CNT2_deferred : Fld := ⟨0x420048, 16, 16, .RO, 0⟩

/-- `FLS_CTRL.clr_counts` (WO): R617. -/
def R.FLS_CTRL_clr_counts : Fld := ⟨0x42004C, 0, 1, .WO, 0⟩

/-! ### THM registers (spec/19_thermal.md) -/

/-- `THM_STAT.level` (RO): Package level (R626). -/
def R.THM_STAT_level : Fld := ⟨0x280000, 0, 2, .RO, 0⟩

/-- `THM_STAT.step` (RO): Step of R630. -/
def R.THM_STAT_step : Fld := ⟨0x280000, 2, 3, .RO, 0⟩

/-- `THM_STAT.hot_die` (RO): Die with the largest T_d. -/
def R.THM_STAT_hot_die : Fld := ⟨0x280000, 5, 3, .RO, 0⟩

/-- `THM_STAT.suspect` (RO): Bit 8 + d: die d suspect. -/
def R.THM_STAT_suspect : Fld := ⟨0x280000, 8, 8, .RO, 0⟩

/-- `THM_STAT.xcheck_fail` (RO): R625. -/
def R.THM_STAT_xcheck_fail : Fld := ⟨0x280000, 16, 1, .RO, 0⟩

/-- `THM_STAT.bias_fault` (RO): Bit 17 + i: array die i safe-forced (R620). -/
def R.THM_STAT_bias_fault : Fld := ⟨0x280000, 17, 4, .RO, 0⟩

/-- `THM_LIMIT.p_limit` (RO): P_limit in W. -/
def R.THM_LIMIT_p_limit : Fld := ⟨0x280004, 0, 9, .RO, 360⟩

/-- `THM_DIEd_T.raw` (RO): T_raw,d; 0x8000 while invalid. -/
def R.THM_DIE_T_raw (d : Nat) : Fld := ⟨0x280010 + 0x8 * d, 0, 16, .RO, 0⟩

/-- `THM_DIEd_T.eff` (RO): T_d (R621, R624). -/
def R.THM_DIE_T_eff (d : Nat) : Fld := ⟨0x280010 + 0x8 * d, 16, 16, .RO, 0⟩

/-- `THM_DIEd_S.level` (RO): R626. -/
def R.THM_DIE_S_level (d : Nat) : Fld := ⟨0x280014 + 0x8 * d, 0, 2, .RO, 0⟩

/-- `THM_DIEd_S.suspect` (RO): R623. -/
def R.THM_DIE_S_suspect (d : Nat) : Fld := ⟨0x280014 + 0x8 * d, 2, 1, .RO, 0⟩

/-- `THM_DIEd_S.invalid` (RO): R619. -/
def R.THM_DIE_S_invalid (d : Nat) : Fld := ⟨0x280014 + 0x8 * d, 3, 1, .RO, 0⟩

/-- `THM_DIEd_S.rate` (RO): Rate (R627), 0.1 °C/s, signed. -/
def R.THM_DIE_S_rate (d : Nat) : Fld := ⟨0x280014 + 0x8 * d, 16, 16, .RO, 0⟩

/-- `THM_THR.warning` (RWL): °C (R629). -/
def R.THM_THR_warning : Fld := ⟨0x280060, 0, 8, .RWL, 95⟩

/-- `THM_THR.overcast` (RWL): °C. -/
def R.THM_THR_overcast : Fld := ⟨0x280060, 8, 8, .RWL, 105⟩

/-- `THM_THR.shutdown` (RWL): °C. -/
def R.THM_THR_shutdown : Fld := ⟨0x280060, 16, 8, .RWL, 115⟩

/-- `THM_THR.hyst` (RWL): °C. -/
def R.THM_THR_hyst : Fld := ⟨0x280060, 24, 4, .RWL, 3⟩

/-- `THM_RATE.limit` (RWL): °C/s. -/
def R.THM_RATE_limit : Fld := ⟨0x280064, 0, 8, .RWL, 20⟩

/-- `THM_RATE.imm_margin` (RWL): °C (R635). -/
def R.THM_RATE_imm_margin : Fld := ⟨0x280064, 8, 8, .RWL, 5⟩

/-- `THM_CTRL.lock` (W1S): R629. -/
def R.THM_CTRL_lock : Fld := ⟨0x280068, 0, 1, .W1S, 0⟩

/-- `THM_CTRL.clr_counts` (WO): R644. -/
def R.THM_CTRL_clr_counts : Fld := ⟨0x280068, 1, 1, .WO, 0⟩

/-- `THM_EVT` (W1C): Bit 0 warning_in, 1 warning_out, 2 overcast_in, 3 overcast_out, 4 step, 5 floor, 6 shutdown, 7 suspect, 8 suspect_clear, 9 xcheck_fail, 10 rate, 11 bias_fault, 12 cfg_reject, 13 dusk_ignored. Bits 0–3 follow the package level. -/
def R.THM_EVT : Fld := ⟨0x28006C, 0, 14, .W1C, 0⟩

/-- `THM_IRQ_EN` (RW): Bit n enables the thermal vector for THM_EVT bit n. -/
def R.THM_IRQ_EN : Fld := ⟨0x280070, 0, 14, .RW, 0⟩

/-- `THM_CNT0.overcast_entries` (RO): Entries of the package into overcast level. -/
def R.THM_CNT0_overcast_entries : Fld := ⟨0x280074, 0, 16, .RO, 0⟩

/-- `THM_CNT0.steps` (RO): Steps made, down and up. -/
def R.THM_CNT0_steps : Fld := ⟨0x280074, 16, 16, .RO, 0⟩

/-- `THM_CNT1.static_over_frames` (RO): R633. -/
def R.THM_CNT1_static_over_frames : Fld := ⟨0x280078, 0, 16, .RO, 0⟩

/-- `THM_CNT1.rec_suppressed` (RO): R639. -/
def R.THM_CNT1_rec_suppressed : Fld := ⟨0x280078, 16, 16, .RO, 0⟩

/-- `THM_PAIRk.offset0` (RWL): 0.1 °C, signed. Every default of R622 is 0.0 °C. -/
def R.THM_PAIR_offset0 (k : Nat) : Fld := ⟨0x280080 + 0x4 * k, 0, 16, .RWL, 0⟩

/-- `THM_PAIRk.slope` (RWL): 0.001 °C/W, signed (R622). -/
def R.THM_PAIR_slope (k : Nat) : Fld := ⟨0x280080 + 0x4 * k, 16, 16, .RWL, if k < 4 then 20 else if k < 6 then 30 else if k < 8 then 0 else 50⟩

/-- `THM_HOT.temp` (RO): R641. -/
def R.THM_HOT_temp : Fld := ⟨0x2800B0, 0, 16, .RO, 0⟩

/-- `THM_HOT.die` (RO): — -/
def R.THM_HOT_die : Fld := ⟨0x2800B0, 16, 3, .RO, 0⟩

/-- `THM_PWR_REF.p` (RO): P of R622, in W. -/
def R.THM_PWR_REF_p : Fld := ⟨0x2800B4, 0, 9, .RO, 0⟩

/-! ### PMU registers (spec/20_monitors_and_debug.md) -/

/-- `PMU_START` (WO): R648. -/
def R.PMU_START : Fld := ⟨0x2A0000, 0, 32, .WO, 0⟩

/-- `PMU_STOP` (WO): R648. -/
def R.PMU_STOP : Fld := ⟨0x2A0004, 0, 32, .WO, 0⟩

/-- `PMU_SNAP` (WO): R648. -/
def R.PMU_SNAP : Fld := ⟨0x2A0008, 0, 32, .WO, 0⟩

/-- `PMU_CLR` (WO): R648. -/
def R.PMU_CLR : Fld := ⟨0x2A000C, 0, 32, .WO, 0⟩

/-- `PMU_RUN` (RO): Bit n: counter n running. -/
def R.PMU_RUN : Fld := ⟨0x2A0010, 0, 32, .RO, 0⟩

/-- `PMU_OVF` (W1C): R653. -/
def R.PMU_OVF : Fld := ⟨0x2A0014, 0, 32, .W1C, 0⟩

/-- `PMU_OVF_IRQ_EN` (RW): R653. -/
def R.PMU_OVF_IRQ_EN : Fld := ⟨0x2A0018, 0, 32, .RW, 0⟩

/-- `PMU_EVT` (W1C): Bit 0 overflow, 1 trig_fired, 2 trig_late, 3 cfg_reject. -/
def R.PMU_EVT : Fld := ⟨0x2A001C, 0, 4, .W1C, 0⟩

/-- `PMU_IRQ_EN` (RW): Bit n enables the PMU vector for PMU_EVT bit n. -/
def R.PMU_IRQ_EN : Fld := ⟨0x2A0020, 0, 4, .RW, 0⟩

/-- `PMU_TRIGk_CFG.action` (RW): 0 none, 1 start, 2 stop, 3 snapshot. -/
def R.PMU_TRIG_CFG_action (k : Nat) : Fld := ⟨0x2A0040 + 0x10 * k, 0, 2, .RW, 0⟩

/-- `PMU_TRIGk_CFG.armed` (RW): R651; cleared on firing. -/
def R.PMU_TRIG_CFG_armed (k : Nat) : Fld := ⟨0x2A0040 + 0x10 * k, 2, 1, .RW, 0⟩

/-- `PMU_TRIGk_MASK` (RW): Counters acted on. -/
def R.PMU_TRIG_MASK (k : Nat) : Fld := ⟨0x2A0044 + 0x10 * k, 0, 32, .RW, 0⟩

/-- `PMU_TRIGk_LO.frame` (RW): Frame [31:0]. -/
def R.PMU_TRIG_LO_frame (k : Nat) : Fld := ⟨0x2A0048 + 0x10 * k, 0, 32, .RW, 0⟩

/-- `PMU_TRIGk_HI.frame` (RW): Frame [47:32]. -/
def R.PMU_TRIG_HI_frame (k : Nat) : Fld := ⟨0x2A004C + 0x10 * k, 0, 16, .RW, 0⟩

/-- `PMU_TRIGk_HI.tick` (RW): Tick. -/
def R.PMU_TRIG_HI_tick (k : Nat) : Fld := ⟨0x2A004C + 0x10 * k, 16, 11, .RW, 0⟩

/-- `PMU_CFGn.event` (RW): R650. -/
def R.PMU_CFG_event (n : Nat) : Fld := ⟨0x2A0100 + 0x4 * n, 0, 8, .RW, 0⟩

/-- `PMU_CFGn.ctx_en` (RW): R647. -/
def R.PMU_CFG_ctx_en (n : Nat) : Fld := ⟨0x2A0100 + 0x4 * n, 8, 1, .RW, 0⟩

/-- `PMU_CFGn.ctx` (RW): Slot. -/
def R.PMU_CFG_ctx (n : Nat) : Fld := ⟨0x2A0100 + 0x4 * n, 9, 6, .RW, 0⟩

/-- `PMU_CNTn_LO` (RW): Count [31:0] (R646). -/
def R.PMU_CNT_LO (n : Nat) : Fld := ⟨0x2A0200 + 0x8 * n, 0, 32, .RW, 0⟩

/-- `PMU_CNTn_HI` (RW): Count [47:32]. -/
def R.PMU_CNT_HI (n : Nat) : Fld := ⟨0x2A0204 + 0x8 * n, 0, 16, .RW, 0⟩

/-- `PMU_SNAPn_LO` (RO): Snapshot [31:0]. -/
def R.PMU_SNAP_LO (n : Nat) : Fld := ⟨0x2A0400 + 0x8 * n, 0, 32, .RO, 0⟩

/-- `PMU_SNAPn_HI` (RO): Snapshot [47:32]. -/
def R.PMU_SNAP_HI (n : Nat) : Fld := ⟨0x2A0404 + 0x8 * n, 0, 16, .RO, 0⟩

/-! ### GEN registers (spec/20_monitors_and_debug.md) -/

/-- `GEN_FLOG_STAT.count` (RO): Entries held, 0–256. -/
def R.GEN_FLOG_STAT_count : Fld := ⟨0x100, 0, 9, .RO, 0⟩

/-- `GEN_FLOG_STAT.lost` (RO): R654. -/
def R.GEN_FLOG_STAT_lost : Fld := ⟨0x100, 16, 16, .RO, 0⟩

/-- `GEN_FLOG_SEL.index` (RW): 0 selects the oldest entry held. -/
def R.GEN_FLOG_SEL_index : Fld := ⟨0x104, 0, 8, .RW, 0⟩

/-- `GEN_FLOG_Ew` (RO): Word w of the selected entry (R655); 0 beyond count. -/
def R.GEN_FLOG_E (w : Nat) : Fld := ⟨0x108 + 0x4 * w, 0, 32, .RO, 0⟩

/-- `GEN_FLOG_CTRL.clear` (WO): R654. -/
def R.GEN_FLOG_CTRL_clear : Fld := ⟨0x118, 0, 1, .WO, 0⟩

/-- `GEN_DBG_STAT.instr` (RO): Last refused instruction. -/
def R.GEN_DBG_STAT_instr : Fld := ⟨0x120, 0, 8, .RO, 0⟩

/-- `GEN_DBG_STAT.island` (RO): 1: it was refused on the island TAP. -/
def R.GEN_DBG_STAT_island : Fld := ⟨0x120, 8, 1, .RO, 0⟩

/-- `GEN_DBG_STAT.refused` (RO): R660. -/
def R.GEN_DBG_STAT_refused : Fld := ⟨0x120, 16, 16, .RO, 0⟩

/-! ### The fields at an offset -/

/-- The members of a family of registers `base + stride * n`, `n < count`, that lie at `off`. -/
def strided (off base stride count : Nat) (fs : Nat → List Fld) : List Fld :=
  if base ≤ off ∧ (off - base) % stride = 0 ∧ (off - base) / stride < count then fs ((off - base) / stride) else []

/-- The same for families with two indexes, `base + s1 * n + s2 * k`. -/
def strided2 (off base s1 c1 s2 c2 : Nat) (fs : Nat → Nat → List Fld) : List Fld :=
  if base ≤ off ∧ (off - base) / s1 < c1 then
    strided off (base + s1 * ((off - base) / s1)) s2 c2 (fs ((off - base) / s1))
  else []

/-- The fields of the GEN block at fixed offsets. -/
def genFixed : List Fld :=
    [R.GEN_TOPO_slot, R.GEN_TOPO_sled, R.GEN_TOPO_rack, R.GEN_TOPO_assigned, R.GEN_TOPO_bench, R.GEN_TOPO_pos_mismatch, R.GEN_MACHINE_machine_id, R.GEN_MACHINE_racks_minus_one, R.GEN_STRAP_pos_slot, R.GEN_STRAP_pos_sled, R.GEN_STRAP_bench_en, R.GEN_STRAP_sb_mode, R.GEN_STRAP_host_bif, R.GEN_DIE_array_link, R.GEN_DIE_dram_link, R.GEN_DIE_island_link, R.GEN_READY_cfg_ready, R.GEN_READY_mem_active, R.GEN_READY_sb_ready, R.GEN_READY_mbox_ready, R.GEN_READY_compute_ready, R.GEN_STATE_state, R.GEN_STATE_dawn_step, R.GEN_STATE_attempt] ++
    [R.GEN_HOLD_CAUSE_causes, R.GEN_HOLD_CAUSE_checker, R.GEN_HOLD_CAUSE_checked, R.GEN_HOLD_CAUSE_auth_image, R.GEN_HOLD_LEVELS_checker_level, R.GEN_HOLD_LEVELS_checked_level, R.GEN_FLOG_STAT_count, R.GEN_FLOG_STAT_lost, R.GEN_FLOG_SEL_index, R.GEN_FLOG_CTRL_clear, R.GEN_DBG_STAT_instr, R.GEN_DBG_STAT_island, R.GEN_DBG_STAT_refused]

/-- The fields of the GEN block at offset `off`. -/
def genFieldsAt (off : Nat) : List Fld :=
  (genFixed).filter (fun f => f.off == off) ++
    strided off 0x108 0x4 4 (fun w => [R.GEN_FLOG_E w])

/-- The fields of the HZN block at fixed offsets. -/
def hznFixed : List Fld :=
    [R.HZN_CTRL_rx_en, R.HZN_CTRL_clr_counts, R.HZN_STAT_lock_state, R.HZN_STAT_synth, R.HZN_STAT_pll_locked, R.HZN_STAT_delay_valid, R.HZN_STAT_number_valid, R.HZN_STAT_assign_conflict, R.HZN_STAT_coast_frames, R.HZN_STAT_last_loss, R.HZN_NOW_LO_frame_lo, R.HZN_NOW_HI_frame_hi, R.HZN_NOW_HI_tick, R.HZN_DELAY_offset, R.HZN_DELAY_seq, R.HZN_ERR0_symbol_errors, R.HZN_ERR0_number_crc_errors, R.HZN_ERR1_missing_marks, R.HZN_ERR1_msg_crc_errors, R.HZN_ERR1_msg_rejected, R.HZN_ERR1_coast_entries, R.HZN_EVT, R.HZN_IRQ_EN, R.HZN_GEN_gen_state] ++
    [R.HZN_GEN_return_seen, R.HZN_GEN_star_output, R.HZN_BENCH_gap_frames, R.HZN_BENCH_gap_start]

/-- The fields of the HZN block at offset `off`. -/
def hznFieldsAt (off : Nat) : List Fld :=
  (hznFixed).filter (fun f => f.off == off)

/-- The fields of the PWR block at fixed offsets. -/
def pwrFixed : List Fld :=
    [R.PWR_STAT_rail_good, R.PWR_STAT_vhold_ok, R.PWR_STAT_vbat_low, R.PWR_STAT_bad_keys, R.PWR_DUSK_request, R.PWR_DUSK_restart, R.PWR_DUSK_key, R.PWR_DUSK_STAT_ignored, R.PWR_DUSK_STAT_overrun, R.PWR_DUSK_STAT_warm_ignored, R.PWR_DAWN_CAUSE_code, R.PWR_DAWN_CAUSE_index, R.PWR_DAWN_CAUSE_attempt, R.PWR_DAWN_CAUSE_valid, R.PWR_DAWN_TIME_ms, R.PWR_LAST_STOP_kind, R.PWR_LAST_STOP_in_dusk, R.PWR_LAST_STOP_rail, R.PWR_LAST_STOP_valid, R.PWR_STOP_FRAME_LO, R.PWR_STOP_FRAME_HI, R.PWR_ACK_dawn, R.PWR_ACK_stop, R.PWR_RESET_warm] ++
    [R.PWR_RESET_key, R.PWR_DAWN_TIMES_cfg_ms, R.PWR_DAWN_TIMES_lock_ms]

/-- The fields of the PWR block at offset `off`. -/
def pwrFieldsAt (off : Nat) : List Fld :=
  (pwrFixed).filter (fun f => f.off == off)

/-- The fields of the CLK block at fixed offsets. -/
def clkFixed : List Fld :=
    [R.CLK_STAT_pll_locked, R.CLK_STAT_ref_present, R.CLK_STAT_coasting, R.CLK_STAT_array_forced, R.CLK_GATE_en, R.CLK_GATE_STAT_gated, R.CLK_GATE_STAT_pending, R.CLK_OBS_src, R.CLK_OBS_en, R.CLK_OBS_div, R.CLK_EVT, R.CLK_IRQ_EN, R.CLK_CNT_ref_losses, R.CLK_CNT_relock_fails, R.CLK_CNT_forced_exposures, R.CLK_CTRL_clr_counts]

/-- The fields of the CLK block at offset `off`. -/
def clkFieldsAt (off : Nat) : List Fld :=
  (clkFixed).filter (fun f => f.off == off)

/-- The fields of the OSC block at fixed offsets. -/
def oscFixed : List Fld :=
    [R.OSC_STAT_trim_src, R.OSC_STAT_xtal_fail, R.OSC_STAT_xtal_run, R.OSC_TRIM_code, R.OSC_CTRL_auto, R.OSC_CTRL_frame_ok, R.OSC_LAST_count, R.OSC_LAST_src, R.OSC_CNT_applied, R.OSC_CNT_discarded]

/-- The fields of the OSC block at offset `off`. -/
def oscFieldsAt (off : Nat) : List Fld :=
  (oscFixed).filter (fun f => f.off == off)

/-- The fields of the IMG block at fixed offsets. -/
def imgFixed : List Fld :=
    [R.IMG_CTRL_start, R.IMG_CTRL_unload, R.IMG_CTRL_abort, R.IMG_STAT_busy, R.IMG_STAT_phase, R.IMG_SRC_LO, R.IMG_SRC_HI, R.IMG_LEN_bytes, R.IMG_CTX_context, R.IMG_ID_LO, R.IMG_ID_HI, R.IMG_RESULT_code, R.IMG_RESULT_phase, R.IMG_RESULT_section, R.IMG_RESULT_level_mismatch, R.IMG_EVT, R.IMG_IRQ_EN, R.IMG_COUNT_resident, R.IMG_COUNT_errors, R.IMG_PLATE_OCC_LO, R.IMG_PLATE_OCC_HI, R.IMG_SEL_slot, R.IMG_RES_CTX_context, R.IMG_RES_CTX_valid] ++
    [R.IMG_RES_ID_LO, R.IMG_RES_ID_HI, R.IMG_RES_LEVEL_level, R.IMG_RES_LEVEL_held, R.IMG_RES_MICRO_base, R.IMG_RES_MICRO_count, R.IMG_RES_NANO_base, R.IMG_RES_NANO_count]

/-- The fields of the IMG block at offset `off`. -/
def imgFieldsAt (off : Nat) : List Fld :=
  (imgFixed).filter (fun f => f.off == off) ++
    strided off 0x40040 0x4 8 (fun k => [R.IMG_TILE_OCC k])

/-- The fields of the TILE block at fixed offsets. -/
def tileFixed : List Fld :=
    [R.TILE_SEL_tile, R.TILE_ADDR_autoinc, R.TILE_ADDR_addr, R.TILE_DATA, R.TILE_STAT_busy, R.TILE_STAT_denied, R.TILE_STAT_timeout, R.TILE_STAT_test_busy, R.TILE_STAT_test_refused, R.TILE_TEST_group, R.TILE_TEST_row_group, R.TILE_TEST_acc_mode, R.TILE_TEST_adc_shift, R.TILE_TEST_avg, R.TILE_TEST_start, R.TILE_FIX_EVT, R.TILE_FIX_IRQ_EN, R.TILE_FIX_CNT_dropped_writes, R.TILE_FIX_CNT_stale_reads, R.TILE_PLATE_FIX0, R.TILE_PLATE_FIX1, R.TILE_REFIX_REQ_plate, R.TILE_REFIX_REQ_due_only, R.TILE_REFIX_REQ_go] ++
    [R.TILE_REFIX_CFG_threshold, R.TILE_REFIX_CFG_max_age, R.TILE_DUE0, R.TILE_DUE1]

/-- The fields of the TILE block at offset `off`. -/
def tileFieldsAt (off : Nat) : List Fld :=
  (tileFixed).filter (fun f => f.off == off) ++
    strided off 0x100020 0x4 4 (fun k => [R.TILE_TEST_ROWS k]) ++
    strided off 0x100100 0x4 4 (fun k => [R.TILE_FIXQ_depth k, R.TILE_FIXQ_running k, R.TILE_FIXQ_limit k])

/-- The fields of the TMAP block at fixed offsets. -/
def tmapFixed (t : Nat) : List Fld :=
    [R.TILE_INFO_tile t, R.TILE_INFO_owned t, R.TILE_INFO_plate t, R.TILE_INFO_row_group t, R.TILE_INFO_acc_mode t, R.TILE_INFO_erasing t, R.TILE_INFO_faulty t, R.TILE_INFO_spares_used t, R.TILE_CFG_adc_shift t, R.TILE_CFG_clip_limit t, R.TILE_CFG_ae_window t, R.TILE_CFG_slice t, R.TILE_CFG_bank t, R.TILE_EVT t, R.TILE_CNT0_slot_overruns t, R.TILE_CNT0_foreign_cmds t, R.TILE_CNT1_operand_wait t, R.TILE_EXP_LO t, R.TILE_EXP_HI t, R.TILE_CTRL_clr_counts t, R.TILE_FOG_WIN_seq t, R.TILE_FOG_WIN_fog_clips t, R.TILE_AE_WIN_pos t, R.TILE_AE_WIN_seq t] ++
    [R.TILE_OUTCNT0_clamps t, R.TILE_OUTCNT0_nans t, R.TILE_OUTCNT1_hazard_waits t, R.TILE_OUTCNT1_out_cuts t, R.TILE_CHAIN_adds_in t, R.TILE_CHAIN_adds_out t, R.TILE_FIXSTAT_fixing t, R.TILE_FIXSTAT_refixing t, R.TILE_FIXSTAT_due t, R.TILE_FIXSTAT_over_budget t, R.TILE_FIXSTAT_spares_exhausted t, R.TILE_FIXSTAT_worn t, R.TILE_FIXSTAT_fog_fault t, R.TILE_FIXSTAT_queued t, R.TILE_FIXCNT0_adj_codes t, R.TILE_FIXCNT0_seg_retries t, R.TILE_FIXCNT1_refixes t, R.TILE_FIXCNT1_erase_fails t, R.TILE_FIXCNT1_thin_windows t, R.TILE_AGE_hours t, R.TILE_DRIFT0_d7 t, R.TILE_DRIFT0_d4 t, R.TILE_DRIFT1_d1 t, R.TILE_DRIFT1_resid t] ++
    [R.TILE_GAIN_g_drift t, R.TILE_GAIN_y_temp t, R.TILE_DRIFT_SEQ_window t]

/-- The fields of the TMAP block at offset `off`. -/
def tmapFieldsAt (t : Nat) (off : Nat) : List Fld :=
  (tmapFixed t).filter (fun f => f.off == off) ++
    strided off (0x1000020 + 0x10000 * t) 0x4 8 (fun k => [R.TILE_SPARE_row t k, R.TILE_SPARE_valid t k]) ++
    strided off (0x1000040 + 0x10000 * t) 0x4 8 (fun f => [R.TILE_FOG_RESID t f]) ++
    strided off (0x1000060 + 0x10000 * t) 0x4 8 (fun f => [R.TILE_FOG_EXPECT t f]) ++
    strided off (0x1001000 + 0x10000 * t) 0x4 520 (fun c => [R.TILE_TRIM_dodge32 t c, R.TILE_TRIM_burn32 t c, R.TILE_TRIM_dodge16 t c, R.TILE_TRIM_burn16 t c]) ++
    strided off (0x1002000 + 0x10000 * t) 0x4 520 (fun c => [R.TILE_TEST_CODE_code t c, R.TILE_TEST_CODE_clip t c]) ++
    strided off (0x1004000 + 0x10000 * t) 0x4 1024 (fun w => [R.TILE_SCALE t w]) ++
    strided off (0x1005000 + 0x10000 * t) 0x4 512 (fun c => [R.TILE_OSHIFT_shift t c]) ++
    strided off (0x1005C00 + 0x10000 * t) 0x4 512 (fun c => [R.TILE_AE_cur_shift t c, R.TILE_AE_next_shift t c, R.TILE_AE_pending t c, R.TILE_AE_win_clips t c, R.TILE_AE_win_peak t c, R.TILE_AE_changes t c]) ++
    strided off (0x100C000 + 0x10000 * t) 0x4 4096 (fun w => [R.TILE_CLIP_even t w, R.TILE_CLIP_odd t w]) ++
    strided2 off (0x1008000 + 0x10000 * t) 0x800 4 0x4 512 (fun b c => [R.TILE_BANK_value t b c]) ++
    strided off (0x100A000 + 0x10000 * t) 0x4 512 (fun c => [R.TILE_BFLAG_limit t c])

/-- The fields of the SEQ block at fixed offsets. -/
def seqFixed : List Fld :=
    [R.SEQ_ARM_CTRL_slot, R.SEQ_ARM_CTRL_arm, R.SEQ_ARM_CTRL_disarm, R.SEQ_ARM_EPOCH_LO, R.SEQ_ARM_EPOCH_HI, R.SEQ_ARM_PARAM_LO, R.SEQ_ARM_PARAM_HI, R.SEQ_ARM_STAT_result, R.SEQ_ARMED_LO, R.SEQ_ARMED_HI, R.SEQ_PATCH_level, R.SEQ_PATCH_result, R.SEQ_PATCH_overlays, R.SEQ_PATCH_loaded, R.SEQ_ROM_ADDR_addr, R.SEQ_ROM_ADDR_nano, R.SEQ_ROM_ADDR_lane, R.SEQ_ROM_DATA_word, R.SEQ_ROM_PAR_parity, R.SEQ_MC_SUM]

/-- The fields of the SEQ block at offset `off`. -/
def seqFieldsAt (off : Nat) : List Fld :=
  (seqFixed).filter (fun f => f.off == off) ++
    strided off 0x80000 0x4000 16 (fun n => [R.SEQ_STAT_state n, R.SEQ_STAT_dyn n, R.SEQ_STAT_depth n, R.SEQ_STAT_halt_refused n, R.SEQ_STAT_micro_pc n, R.SEQ_STAT_entry n]) ++
    strided off 0x80004 0x4000 16 (fun n => [R.SEQ_CTRL_halt n, R.SEQ_CTRL_run n, R.SEQ_CTRL_clr_counts n]) ++
    strided off 0x80010 0x4000 16 (fun n => [R.SEQ_MC0_valid n, R.SEQ_MC0_cause n, R.SEQ_MC0_micro_pc n]) ++
    strided off 0x80014 0x4000 16 (fun n => [R.SEQ_MC1_entry n, R.SEQ_MC1_dyn n, R.SEQ_MC1_context n, R.SEQ_MC1_syndrome n]) ++
    strided off 0x80018 0x4000 16 (fun n => [R.SEQ_MC2_frame_lo n]) ++
    strided off 0x8001C 0x4000 16 (fun n => [R.SEQ_MC3_frame_hi n, R.SEQ_MC3_tick n]) ++
    strided off 0x80020 0x4000 16 (fun n => [R.SEQ_CNT0_skipped_busy n, R.SEQ_CNT0_late_fires n]) ++
    strided off 0x80024 0x4000 16 (fun n => [R.SEQ_CNT1_overruns n, R.SEQ_CNT1_mc_lost n]) ++
    strided off 0x80028 0x4000 16 (fun n => [R.SEQ_EVT n]) ++
    strided off 0x8002C 0x4000 16 (fun n => [R.SEQ_IRQ_EN n])

/-- The fields of the CMD block at fixed offsets. -/
def cmdFixed : List Fld :=
    [R.CMD_EVT_SUM_LO, R.CMD_EVT_SUM_HI, R.CMD_IRQ_EN_en, R.CMD_IRQ_EN_vector, R.CMD_PENDING_count]

/-- The fields of the CMD block at offset `off`. -/
def cmdFieldsAt (off : Nat) : List Fld :=
  (cmdFixed).filter (fun f => f.off == off) ++
    strided off 0x180000 0x400 64 (fun c => [R.CMD_SQ_BASE_LO c]) ++
    strided off 0x180004 0x400 64 (fun c => [R.CMD_SQ_BASE_HI c]) ++
    strided off 0x180008 0x400 64 (fun c => [R.CMD_CQ_BASE_LO c]) ++
    strided off 0x18000C 0x400 64 (fun c => [R.CMD_CQ_BASE_HI c]) ++
    strided off 0x180010 0x400 64 (fun c => [R.CMD_RING_CFG_sq_log2 c, R.CMD_RING_CFG_cq_log2 c, R.CMD_RING_CFG_vector c]) ++
    strided off 0x180014 0x400 64 (fun c => [R.CMD_RING_CTRL_en c]) ++
    strided off 0x180018 0x400 64 (fun c => [R.CMD_SQ_DB_tail c]) ++
    strided off 0x18001C 0x400 64 (fun c => [R.CMD_SQ_PTR_head c, R.CMD_SQ_PTR_tail c]) ++
    strided off 0x180020 0x400 64 (fun c => [R.CMD_CQ_DB_head c]) ++
    strided off 0x180024 0x400 64 (fun c => [R.CMD_CQ_PTR_head c, R.CMD_CQ_PTR_tail c, R.CMD_CQ_PTR_phase c]) ++
    strided off 0x180028 0x400 64 (fun c => [R.CMD_RING_EVT c]) ++
    strided off 0x18002C 0x400 64 (fun c => [R.CMD_RING_CNT_accepted c, R.CMD_RING_CNT_faulted_at_accept c]) ++
    strided off 0x180030 0x400 64 (fun c => [R.CMD_RING_WAIT_held c])

/-- The fields of the CTX block at fixed offsets. -/
def ctxFixed : List Fld :=
    [R.CTX_OP_op, R.CTX_OP_slot, R.CTX_OP_ARG_tenant, R.CTX_OP_ARG_job, R.CTX_OP_STAT_busy, R.CTX_OP_STAT_result, R.CTX_OP_STAT_op, R.CTX_OP_STAT_slot, R.CTX_ACTIVE_LO, R.CTX_ACTIVE_HI, R.CTX_BUDGET_power_w, R.CTX_BUDGET_dram, R.CTX_ADM_STAT_static_over, R.CTX_ADM_STAT_overflow, R.CTX_EVT, R.CTX_IRQ_EN_en, R.CTX_IRQ_EN_vector]

/-- The fields of the CTX block at offset `off`. -/
def ctxFieldsAt (off : Nat) : List Fld :=
  (ctxFixed).filter (fun f => f.off == off) ++
    strided off 0x1A0000 0x400 64 (fun c => [R.CTX_BIND_tenant c, R.CTX_BIND_job c]) ++
    strided off 0x1A0004 0x400 64 (fun c => [R.CTX_SEED_seed c]) ++
    strided off 0x1A0008 0x400 64 (fun c => [R.CTX_SAVE_LO c]) ++
    strided off 0x1A000C 0x400 64 (fun c => [R.CTX_SAVE_HI c]) ++
    strided off 0x1A0010 0x400 64 (fun c => [R.CTX_SAVE_LEN c]) ++
    strided off 0x1A0014 0x400 64 (fun c => [R.CTX_SYNC_base c, R.CTX_SYNC_count c]) ++
    strided off 0x1A0018 0x400 64 (fun c => [R.CTX_POLICY_min_class c]) ++
    strided2 off 0x1A0020 0x400 64 0x8 4 (fun c k => [R.CTX_WIN_base c k]) ++
    strided2 off 0x1A0024 0x400 64 0x8 4 (fun c k => [R.CTX_WIN_len c k]) ++
    strided off 0x1A0040 0x400 64 (fun c => [R.CTX_STAT_state c]) ++
    strided off 0x1A0044 0x400 64 (fun c => [R.CTX_COLLIDE_count c]) ++
    strided off 0x1A0048 0x400 64 (fun c => [R.CTX_OUTCOME0_served c, R.CTX_OUTCOME0_deferred c]) ++
    strided off 0x1A004C 0x400 64 (fun c => [R.CTX_OUTCOME1_refused c, R.CTX_OUTCOME1_faulted c])

/-- The fields of the SYNC block at fixed offsets. -/
def syncFixed : List Fld :=
    [R.SYNC_SIGNAL_object, R.SYNC_SIGNAL_value, R.SYNC_CNT_dropped_remote, R.SYNC_CNT_late_timers, R.SYNC_EVT, R.SYNC_CTRL_clr_counts]

/-- The fields of the SYNC block at offset `off`. -/
def syncFieldsAt (off : Nat) : List Fld :=
  (syncFixed).filter (fun f => f.off == off) ++
    strided off 0x1C0000 0x4 4096 (fun n => [R.SYNC_VAL_value n]) ++
    strided off 0x1C4010 0x10 16 (fun k => [R.SYNC_TMR_CFG_object k, R.SYNC_TMR_CFG_en k, R.SYNC_TMR_CFG_value k]) ++
    strided off 0x1C4014 0x10 16 (fun k => [R.SYNC_TMR_LO_frame k]) ++
    strided off 0x1C4018 0x10 16 (fun k => [R.SYNC_TMR_HI_frame k, R.SYNC_TMR_HI_tick k])

/-- The fields of the FAB block at fixed offsets. -/
def fabFixed : List Fld :=
    [R.FAB_CTRL_clr_counts, R.FAB_CFG_sled_count, R.FAB_STAT_active, R.FAB_EVT, R.FAB_IRQ_EN, R.FAB_ROUTE_Q_dst, R.FAB_ROUTE_A_sched_port, R.FAB_ROUTE_A_dyn_port, R.FAB_ROUTE_A_hops, R.FAB_DROP0_job_drops, R.FAB_DROP0_addr_drops, R.FAB_DROP1_hop_drops, R.FAB_DROP1_malformed, R.FAB_DROP1_late_resps, R.FAB_XFER_outstanding, R.FAB_XFER_resp_timeouts, R.FAB_LEVEL_own, R.FAB_LEVEL_RANGE_min, R.FAB_LEVEL_RANGE_max]

/-- The fields of the FAB block at offset `off`. -/
def fabFieldsAt (off : Nat) : List Fld :=
  (fabFixed).filter (fun f => f.off == off) ++
    strided off 0x201000 0x100 12 (fun n => [R.FAB_PORT_CTRL_en n, R.FAB_PORT_CTRL_gen_max n, R.FAB_PORT_CTRL_retrain n]) ++
    strided off 0x201004 0x100 12 (fun n => [R.FAB_PORT_STAT_state n, R.FAB_PORT_STAT_gen n, R.FAB_PORT_STAT_cause n, R.FAB_PORT_STAT_gen2_failed n, R.FAB_PORT_STAT_polarity n]) ++
    strided off 0x201008 0x100 12 (fun n => [R.FAB_PORT_PEER_pkg n, R.FAB_PORT_PEER_port n, R.FAB_PORT_PEER_gen2 n, R.FAB_PORT_PEER_valid n, R.FAB_PORT_PEER_level n]) ++
    strided off 0x20100C 0x100 12 (fun n => [R.FAB_PORT_PEER_RANGE_min n, R.FAB_PORT_PEER_RANGE_max n]) ++
    strided off 0x201010 0x100 12 (fun n => [R.FAB_PORT_FLIGHT_ns n]) ++
    strided off 0x201014 0x100 12 (fun n => [R.FAB_PORT_CNT0_naks n, R.FAB_PORT_CNT0_retrains n]) ++
    strided off 0x201018 0x100 12 (fun n => [R.FAB_PORT_CNT1_fec_corrected n]) ++
    strided off 0x20101C 0x100 12 (fun n => [R.FAB_PORT_CNT2_credit_stall n]) ++
    strided off 0x201020 0x100 12 (fun n => [R.FAB_PORT_TRAIN_attempts n, R.FAB_PORT_TRAIN_last_fail n])

/-- The fields of the HOST block at fixed offsets. -/
def hostFixed : List Fld :=
    [R.HOST_EVT, R.HOST_IRQ_EN, R.HOST_IRQ_MAP0_power, R.HOST_IRQ_MAP0_hzn, R.HOST_IRQ_MAP0_clk, R.HOST_IRQ_MAP0_img, R.HOST_IRQ_MAP1_seq, R.HOST_IRQ_MAP1_fix, R.HOST_IRQ_MAP1_fab, R.HOST_IRQ_MAP1_thm, R.HOST_IRQ_MAP2_pmu, R.HOST_IRQ_MAP2_isl, R.HOST_IRQ_MAP2_host, R.HOST_VEC_ROUTE_LO, R.HOST_VEC_ROUTE_HI, R.HOST_CNT0_poison_reads, R.HOST_CNT0_poison_writes, R.HOST_CNT1_corrected, R.HOST_CNT1_unclaimed, R.HOST_CTRL_clr_counts, R.HOST_SB_ALERT, R.HOST_SB_ALERT_EN, R.HOST_SB_STAT_addr, R.HOST_SB_STAT_mode] ++
    [R.HOST_SB_STAT_dyn_addr, R.HOST_SB_STAT_dyn_valid, R.HOST_SB_CNT_pec_errors, R.HOST_SB_CNT_denied, R.HOST_SB_REQ_host_req]

/-- The fields of the HOST block at offset `off`. -/
def hostFieldsAt (off : Nat) : List Fld :=
  (hostFixed).filter (fun f => f.off == off) ++
    strided off 0x270000 0x4 2 (fun h => [R.HOST_LINK_up h, R.HOST_LINK_rate h, R.HOST_LINK_width h, R.HOST_LINK_protocol h, R.HOST_LINK_flit256 h, R.HOST_LINK_ide h])

/-- The fields of the ISL block at fixed offsets. -/
def islFixed : List Fld :=
    [R.ISL_STAT_link_up, R.ISL_STAT_rom_mode, R.ISL_STAT_source, R.ISL_STAT_bat_low, R.ISL_STAT_fw_level, R.ISL_EVT, R.ISL_IRQ_EN, R.ISL_CNT_busy_rejects, R.ISL_CTRL_clr_counts]

/-- The fields of the ISL block at offset `off`. -/
def islFieldsAt (off : Nat) : List Fld :=
  (islFixed).filter (fun f => f.off == off) ++
    strided off 0x300000 0x1000 2 (fun k => [R.ISL_CH_CTRL_go k]) ++
    strided off 0x300004 0x1000 2 (fun k => [R.ISL_CH_STAT_busy k, R.ISL_CH_STAT_done k, R.ISL_CH_STAT_status k]) ++
    strided2 off 0x300100 0x1000 2 0x4 64 (fun k w => [R.ISL_CH_REQ k w]) ++
    strided2 off 0x300200 0x1000 2 0x4 64 (fun k w => [R.ISL_CH_RSP k w])

/-- The fields of the BATT block at fixed offsets. -/
def battFixed : List Fld :=
    [R.BATT_STAT_source, R.BATT_STAT_bat_low, R.BATT_STAT_reserve_ok, R.BATT_STAT_erase_ok, R.BATT_STAT_commit_deferred, R.BATT_VOLT_vbat_mv, R.BATT_VOLT_vhold_mv, R.BATT_BUDGET_ms, R.BATT_BUDGET_refusals, R.BATT_CAP_cap_mah, R.BATT_CAP_used_mah, R.BATT_CFG_new_cell]

/-- The fields of the BATT block at offset `off`. -/
def battFieldsAt (off : Nat) : List Fld :=
  (battFixed).filter (fun f => f.off == off)

/-- The fields of the MBUS block at fixed offsets. -/
def mbusFixed : List Fld :=
    [R.MBUS_CFG_primary, R.MBUS_STAT_rate, R.MBUS_STAT_selected, R.MBUS_CNT_answered, R.MBUS_CNT_discarded, R.MBUS_ID_bcd]

/-- The fields of the MBUS block at offset `off`. -/
def mbusFieldsAt (off : Nat) : List Fld :=
  (mbusFixed).filter (fun f => f.off == off)

/-- The fields of the SEAL block at fixed offsets. -/
def sealFixed : List Fld :=
    [R.SEAL_KEYS_provisioned, R.SEAL_KEYS_revoked, R.SEAL_SIGNERS_provisioned, R.SEAL_SIGNERS_revoked, R.SEAL_USED]

/-- The fields of the SEAL block at offset `off`. -/
def sealFieldsAt (off : Nat) : List Fld :=
  (sealFixed).filter (fun f => f.off == off) ++
    strided off 0x460008 0x4 4 (fun s => [R.SEAL_CTR_value s])

/-- The fields of the MTR block at fixed offsets. -/
def mtrFixed : List Fld :=
    [R.MTR_CTRL_clr_counts, R.MTR_STAT_standby_sched, R.MTR_STAT_time_unknown, R.MTR_STAT_table_clamp, R.MTR_STAT_seg_bad, R.MTR_EVT, R.MTR_EVT_ACT, R.MTR_RTC, R.MTR_EPOCH, R.MTR_INTERVAL, R.MTR_CAL_LOCK_lock, R.MTR_PWR_heat, R.MTR_PWR_elec, R.MTR_ELEC_LO, R.MTR_ELEC_HI, R.MTR_OVH_ELEC_LO, R.MTR_OVH_ELEC_HI, R.MTR_OVH_HEAT_LO, R.MTR_OVH_HEAT_HI, R.MTR_BENCH_ELEC_LO, R.MTR_BENCH_ELEC_HI, R.MTR_BENCH_HEAT_LO, R.MTR_BENCH_HEAT_HI, R.MTR_TEN_SEL_tenant] ++
    [R.MTR_TEN_ELEC_LO, R.MTR_TEN_ELEC_HI, R.MTR_TEN_HEAT_LO, R.MTR_TEN_HEAT_HI, R.MTR_ATTR_merged, R.MTR_ATTR_late, R.MTR_ATTR2_unbound, R.MTR_CAL_CNT]

/-- The fields of the MTR block at offset `off`. -/
def mtrFieldsAt (off : Nat) : List Fld :=
  (mtrFixed).filter (fun f => f.off == off) ++
    strided off 0x410020 0x20 2 (fun n => [R.MTR_LOOP_CFG_fluid n, R.MTR_LOOP_CFG_meter_leg n]) ++
    strided off 0x410024 0x20 2 (fun n => [R.MTR_CH_K n]) ++
    strided off 0x410028 0x20 2 (fun n => [R.MTR_CH_CUTOFF n]) ++
    strided off 0x41002C 0x20 2 (fun n => [R.MTR_CH_FLOW n]) ++
    strided off 0x410030 0x20 2 (fun n => [R.MTR_CH_OFS_EST n]) ++
    strided off 0x410034 0x20 2 (fun n => [R.MTR_CH_CNT_invalid n, R.MTR_CH_CNT_no_echo n]) ++
    strided off 0x410038 0x20 2 (fun n => [R.MTR_CH_ERRT n]) ++
    strided off 0x41003C 0x20 2 (fun n => [R.MTR_CH_WIN_open n, R.MTR_CH_WIN_close n]) ++
    strided2 off 0x410060 0x20 2 0x4 8 (fun n k => [R.MTR_CH_SEG_q n k, R.MTR_CH_SEG_corr n k]) ++
    strided off 0x4100A0 0x4 4 (fun s => [R.MTR_TEMP s]) ++
    strided off 0x4100B0 0x4 4 (fun r => [R.MTR_RAIL_SHUNT r]) ++
    strided off 0x4100C0 0x8 4 (fun r => [R.MTR_RAIL_V r]) ++
    strided off 0x4100C4 0x8 4 (fun r => [R.MTR_RAIL_I r]) ++
    strided off 0x410100 0x4 14 (fun x => [R.MTR_GAIN x]) ++
    strided off 0x410140 0x4 14 (fun x => [R.MTR_OFS x]) ++
    strided off 0x410180 0x10 2 (fun n => [R.MTR_HEAT_LO n]) ++
    strided off 0x410184 0x10 2 (fun n => [R.MTR_HEAT_HI n]) ++
    strided off 0x410188 0x10 2 (fun n => [R.MTR_VOL_LO n]) ++
    strided off 0x41018C 0x10 2 (fun n => [R.MTR_VOL_HI n]) ++
    strided off 0x4101A8 0x4 2 (fun n => [R.MTR_REV n])

/-- The fields of the FLS block at fixed offsets. -/
def flsFixed : List Fld :=
    [R.FLS_STAT_busy, R.FLS_STAT_op, R.FLS_STAT_bank, R.FLS_STAT_sector, R.FLS_STAT_suspend_depth, R.FLS_STAT_not_blank, R.FLS_STAT_busy_energy, R.FLS_STAT_verify_fail, R.FLS_STAT_erase_fail, R.FLS_STAT_protected, R.FLS_STAT_target_erasing, R.FLS_STAT_suspend_refused, R.FLS_STAT_abandoned, R.FLS_STAT_range, R.FLS_STAT_ecc_warn, R.FLS_STAT_ecc_fail, R.FLS_LAST_cmd, R.FLS_LAST_result, R.FLS_LAST_bank, R.FLS_LAST_sector, R.FLS_LAST_word, R.FLS_HADDR_addr, R.FLS_HDATA_LO, R.FLS_HDATA_HI] ++
    [R.FLS_HSTAT_valid, R.FLS_HSTAT_retry, R.FLS_HSTAT_denied, R.FLS_HSTAT_corrected, R.FLS_HSTAT_uncorrectable, R.FLS_PROT_level, R.FLS_PROT_REQ_level, R.FLS_PROT_REQ_key, R.FLS_ECC_CFG_warn, R.FLS_ECC_CNT_corrected, R.FLS_ECC_CNT_uncorrectable, R.FLS_ECC_LAST_sector, R.FLS_ECC_LAST_bank, R.FLS_ECC_LAST_count, R.FLS_RING_tail, R.FLS_RING_head, R.FLS_RING_erased_ahead, R.FLS_RING_retired, R.FLS_WEAR_rotations, R.FLS_WEAR_endurance_warn, R.FLS_JRNL_last_commit, R.FLS_CKPT_first_commit, R.FLS_CNT_commits, R.FLS_CNT_recoveries] ++
    [R.FLS_CNT2_suspends, R.FLS_CNT2_deferred, R.FLS_CTRL_clr_counts]

/-- The fields of the FLS block at offset `off`. -/
def flsFieldsAt (off : Nat) : List Fld :=
  (flsFixed).filter (fun f => f.off == off)

/-- The fields of the THM block at fixed offsets. -/
def thmFixed : List Fld :=
    [R.THM_STAT_level, R.THM_STAT_step, R.THM_STAT_hot_die, R.THM_STAT_suspect, R.THM_STAT_xcheck_fail, R.THM_STAT_bias_fault, R.THM_LIMIT_p_limit, R.THM_THR_warning, R.THM_THR_overcast, R.THM_THR_shutdown, R.THM_THR_hyst, R.THM_RATE_limit, R.THM_RATE_imm_margin, R.THM_CTRL_lock, R.THM_CTRL_clr_counts, R.THM_EVT, R.THM_IRQ_EN, R.THM_CNT0_overcast_entries, R.THM_CNT0_steps, R.THM_CNT1_static_over_frames, R.THM_CNT1_rec_suppressed, R.THM_HOT_temp, R.THM_HOT_die, R.THM_PWR_REF_p]

/-- The fields of the THM block at offset `off`. -/
def thmFieldsAt (off : Nat) : List Fld :=
  (thmFixed).filter (fun f => f.off == off) ++
    strided off 0x280010 0x8 8 (fun d => [R.THM_DIE_T_raw d, R.THM_DIE_T_eff d]) ++
    strided off 0x280014 0x8 8 (fun d => [R.THM_DIE_S_level d, R.THM_DIE_S_suspect d, R.THM_DIE_S_invalid d, R.THM_DIE_S_rate d]) ++
    strided off 0x280080 0x4 9 (fun k => [R.THM_PAIR_offset0 k, R.THM_PAIR_slope k])

/-- The fields of the PMU block at fixed offsets. -/
def pmuFixed : List Fld :=
    [R.PMU_START, R.PMU_STOP, R.PMU_SNAP, R.PMU_CLR, R.PMU_RUN, R.PMU_OVF, R.PMU_OVF_IRQ_EN, R.PMU_EVT, R.PMU_IRQ_EN]

/-- The fields of the PMU block at offset `off`. -/
def pmuFieldsAt (off : Nat) : List Fld :=
  (pmuFixed).filter (fun f => f.off == off) ++
    strided off 0x2A0040 0x10 4 (fun k => [R.PMU_TRIG_CFG_action k, R.PMU_TRIG_CFG_armed k]) ++
    strided off 0x2A0044 0x10 4 (fun k => [R.PMU_TRIG_MASK k]) ++
    strided off 0x2A0048 0x10 4 (fun k => [R.PMU_TRIG_LO_frame k]) ++
    strided off 0x2A004C 0x10 4 (fun k => [R.PMU_TRIG_HI_frame k, R.PMU_TRIG_HI_tick k]) ++
    strided off 0x2A0100 0x4 32 (fun n => [R.PMU_CFG_event n, R.PMU_CFG_ctx_en n, R.PMU_CFG_ctx n]) ++
    strided off 0x2A0200 0x8 32 (fun n => [R.PMU_CNT_LO n]) ++
    strided off 0x2A0204 0x8 32 (fun n => [R.PMU_CNT_HI n]) ++
    strided off 0x2A0400 0x8 32 (fun n => [R.PMU_SNAP_LO n]) ++
    strided off 0x2A0404 0x8 32 (fun n => [R.PMU_SNAP_HI n])

/-- Every field that lies at `off` (R17: one register is one 32-bit word). -/
def fieldsAt (off : Nat) : List Fld :=
  if off < 0x10000 then genFieldsAt off else
  if off < 0x20000 then pwrFieldsAt off else
  if off < 0x30000 then clkFieldsAt off else
  if off < 0x40000 then hznFieldsAt off else
  if off < 0x80000 then imgFieldsAt off else
  if off < 0x100000 then seqFieldsAt off else
  if off < 0x180000 then tileFieldsAt off else
  if off < 0x1A0000 then cmdFieldsAt off else
  if off < 0x1C0000 then ctxFieldsAt off else
  if off < 0x200000 then syncFieldsAt off else
  if off < 0x240000 then fabFieldsAt off else
  if off < 0x280000 then hostFieldsAt off else
  if off < 0x2A0000 then thmFieldsAt off else
  if off < 0x300000 then pmuFieldsAt off else
  if off < 0x400000 then islFieldsAt off else
  if off < 0x420000 then mtrFieldsAt off else
  if off < 0x430000 then flsFieldsAt off else
  if off < 0x440000 then mbusFieldsAt off else
  if off < 0x450000 then battFieldsAt off else
  if off < 0x460000 then oscFieldsAt off else
  if off < 0x470000 then sealFieldsAt off else
  if off < 0x1000000 then [] else tmapFieldsAt ((off - 0x1000000) / 0x10000) off

end Sys2Proof.Machine
end

