-- ==== Sys2Proof/Machine/State.lean ====
section
/-!
DEFINITION. Sys2Proof/Machine/State.lean: everything the spec gives the package, as plain data. Register fields that
software sees live in `State.regs` (Machine/Regs.lean lists them with their reset values); what stands behind them has a
structure per chapter below.
-/

namespace Sys2Proof.Machine

/-- The package has no behaviour that stops it: every command of the table ends in a next state. -/
inductive Fault where
  deriving DecidableEq, Repr

/-- Why a command has no meaning here. -/
inductive Refusal where
  /-- Raised by the dispatcher for a row whose meaning is not written; safe, since nothing is claimed of it. -/
  | notModelled (mnemonic : String)
  deriving DecidableEq, Repr

/-! ### Package, power, resets (spec/02, spec/04) -/

/-- The package states of R116. -/
inductive PkgState where
  | off | dawn | dawnFail | held | ready | overcast | dusk | bench
  deriving DecidableEq, Repr

/-- What asked for a dusk (R134, R143); the order of PWR_LAST_STOP.kind 1–3. -/
inductive DuskSource where
  | host | thermal | islandLink
  deriving DecidableEq, Repr

/-- Why the island is lowering the enables (R137). -/
inductive Lowering where
  | none | dusk | dawnFail | stop
  deriving DecidableEq, Repr

/-- How far a dusk has come (R136). -/
inductive DuskPhase where
  | quiesce | commit | falling
  deriving DecidableEq, Repr

/-- A dusk in progress (R134–R136): its source, whether it asked for a new dawn, the frame it was accepted in and
whether frame mark F has passed. -/
structure Dusk where
  source : DuskSource
  restart : Bool
  frame : Nat
  markPassed : Bool
  phase : DuskPhase
  deriving DecidableEq, Repr

/-- The island's DAWN_FAIL record (R130, R131). -/
structure DawnRecord where
  code : Nat
  index : Nat
  attempt : Nat
  ms : Nat
  valid : Bool
  deriving DecidableEq, Repr

/-- The island's stop record (R138–R143). -/
structure StopRecord where
  kind : Nat
  inDusk : Bool
  rail : Nat
  frame : Nat
  valid : Bool
  deriving DecidableEq, Repr

/-- Power, package state and resets. Rail numbering is that of R119: 0 VIO, 1 VCORE, 2 VSER, 3 VANA, 4 VDRAM0, 5 VDRAM1. -/
structure PwrSt where
  /-- R116. -/
  state : PkgState
  /-- R119: the dawn step in progress; 15 once dawn is complete. -/
  dawnStep : Nat
  /-- R130: 0 to 3. -/
  attempt : Nat
  /-- VAUX is in its range (R117). -/
  vauxIn : Bool
  /-- When VAUX last entered its range, in ticks of `State.now`. -/
  vauxAt : Nat
  /-- PERST_N is low. -/
  perstLow : Bool
  /-- The strap balls as the board holds them (R69). -/
  balls : Straps
  /-- EN_VIO to EN_VDRAM1 (R66, R67), bit n for rail n. -/
  enables : BitVec 6
  /-- Rails in range for 100 µs (R67). -/
  railGood : BitVec 6
  /-- The control die is out of internal reset (R121). -/
  released : Bool
  /-- The straps have been sampled since power came (R69, R81). -/
  sampled : Bool
  /-- When it left reset (PWR_DAWN_TIMES). -/
  releasedAt : Nat
  /-- When cfg_ready was set (PWR_DAWN_TIMES). -/
  cfgAt : Nat
  /-- DRAM links, array links trained (GEN_DIE). -/
  dramLink : BitVec 2
  arrayLink : BitVec 4
  /-- DRAM stacks initialised (R119 step 6). -/
  dramInit : BitVec 2
  /-- The enables are being lowered, and why (R137). -/
  lowering : Lowering
  dusk : Option Dusk
  /-- A dusk request held during a warm reset (R135): source and restart. -/
  heldDusk : Option (DuskSource × Bool)
  /-- A dusk with restart has reached OFF (R137). -/
  restartWanted : Bool
  /-- A warm reset is in progress (R133). -/
  warm : Bool
  /-- That warm reset is a CXL reset (R501), and whether memory clear was enabled. -/
  cxlReset : Bool
  cxlMemClear : Bool
  /-- The half that started it. -/
  cxlHalf : Nat
  /-- Own level and ranges of the running stage-2; none when it failed its check and the boot ROM runs dawn (R126). -/
  stage2 : Option Levels
  /-- SHA-384 of stage-2 as fetched at dawn step 8 (R504). -/
  stage2Digest : Nat
  /-- A power fault or thermal shutdown holds FAULT_N low until OFF (R138). -/
  faultLow : Bool
  /-- The package journals (kept by the island, R131, R138). -/
  dawnRec : DawnRecord
  stopRec : StopRecord
  /-- The island holds PWR_DUSK_STAT.overrun for the next dawn. -/
  overrunRec : Bool
  deriving DecidableEq, Repr

/-! ### Horizon receiver (spec/03) -/

/-- HZN_STAT.lock_state (R96). -/
inductive LockState where
  | dark | acquiring | locked | coasting | lost
  deriving DecidableEq, Repr

/-- The horizon receiver behind its registers (R85–R115, R687). -/
structure HznSt where
  lock : LockState
  /-- The state ACQUIRING came from (R96). -/
  acqFrom : LockState
  /-- The local count runs (R687). -/
  counting : Bool
  /-- Local frame number and the instant of its mark, in ticks of `State.now`. -/
  frame : Nat
  markAt : Nat
  /-- R97: a mark has been received in this ACQUIRING; the marks since are in place. -/
  firstMark : Bool
  /-- The last valid number and the local frame it came in, while condition 3 of R97 awaits its successor. -/
  number1 : Option (Nat × Nat)
  /-- The generator's number for the frame now received, once two consecutive numbers agree. -/
  genFrame : Option Nat
  /-- The expected mark of the last local mark has been received, and that of the coming one (R86). -/
  markSeen : Bool
  nextSeen : Bool
  /-- The same two marks have been counted as missing or misplaced (R96). -/
  markCounted : Bool
  nextCounted : Bool
  /-- Consecutive missing or misplaced marks in LOCKED, consecutive good marks in COASTING. -/
  missRun : Nat
  goodRun : Nat
  /-- Offset of the last accepted DELAY and the frame its slew may start (R95). -/
  target : Nat
  slewFrom : Option Nat
  /-- A symbol error spoilt the number of the superframe that ends within so many frames, or this frame's message (R112). -/
  numberBad : Nat
  msgBad : Bool
  /-- The expected sled and slot of the accepted ASSIGN (R113). -/
  expSled : Nat
  expSlot : Nat
  /-- BENCH: marks still to be suppressed (R110). -/
  gapLeft : Nat
  /-- The receiver has entered LOCKED since the last conventional reset (R150). -/
  everLocked : Bool
  deriving DecidableEq, Repr

/-! ### Clocks (spec/05) -/

/-- PLLs, reference, gating (R145–R160). -/
structure ClkSt where
  /-- Bit n: PLL n of R145 is locked; started. -/
  locked : BitVec 8
  started : BitVec 8
  refPresent : Bool
  coasting : Bool
  arrayForced : Bool
  /-- 1 past the horizon instant at which array_forced last cleared: a slot that began earlier exposes nothing (R153). -/
  forcedEnd : Nat
  /-- Bit n: block n gated; a gating request waits; an ungating is in progress; a gating write came meanwhile. -/
  gated : BitVec 15
  gatePending : BitVec 15
  ungating : BitVec 15
  gateAfter : BitVec 15
  /-- DRAM stacks in self-refresh (R151). -/
  selfRefresh : BitVec 2
  /-- Ticks CLKOBS is still held low before its new output starts (R163). -/
  obsHold : Nat
  deriving DecidableEq, Repr

/-! ### What the package emits -/

/-- Everything the package drives to the outside, in the order it happens; `State.out` keeps the newest first. -/
inductive Out where
  /-- A BAR0 word returned to half 0 or 1. -/
  | word (half : Nat) (w : Nat)
  /-- An MSI-X message: half and vector (R496). -/
  | msix (half vector : Nat)
  /-- A CXL.mem read's line and poison mark (R489–R491). Its DevLoad is Light Load, as every response's is (R490). -/
  | line (half : Nat) (data : List Byte) (poison : Bool)
  /-- A configuration answer; none is retry status or no device (R127). -/
  | config (half : Nat) (value : Option Nat)
  /-- HDM decoder outcome: committed, or Error Not Committed (R487). -/
  | hdm (half decoder : Nat) (committed : Bool)
  /-- A CXL mailbox reply: return code (0 Success, 2 Invalid Input, 3 Unsupported), payload (R495). -/
  | mailbox (half code : Nat) (payload : List Nat)
  /-- A DOE or SPDM response (R483, R503, R504): a name and its bytes. -/
  | doe (half : Nat) (what : String) (payload : List Byte)
  /-- A sideband response; none is a NACK (R509–R513). -/
  | sideband (payload : Option (List Byte))
  /-- The M-Bus slave's answer (R542). -/
  | mbus (payload : List Byte)
  /-- A training block a port sends, lane 0's; the others differ in the lane number (R446). -/
  | training (port : Nat) (block : List Byte)
  /-- A flit's 256-byte message on a port (R451). -/
  | flit (port : Nat) (message : List Byte)
  /-- A binding message to the island (R565): open, slot, tenant, job, bench, frame. -/
  | binding (isOpen : Bool) (slot tenant job : Nat) (bench : Bool) (frame : Nat)
  /-- A context mark to the island (R565): the frame, and each slot's charge in tenths of a W·tick. -/
  | mark (frame : Nat) (charges : List (Nat × Nat))
  /-- A TAP data register captured (R657–R662): control die or island, value. -/
  | tap (island : Bool) (value : Nat)
  deriving DecidableEq, Repr

/-! ### Images, sequencers, tiles -/

/-- A static entry that has come to its dispatch in a frame (R356, R687). -/
structure Dispatched where
  q : Nat
  /-- Resident image slot. -/
  image : Nat
  entry : SlotEntry
  frame : Nat
  deriving DecidableEq, Repr

/-- A resident image (R192, R197, R199, R360). -/
structure ResImage where
  image : PlateImage
  /-- Owning slot; meaningless while parked. -/
  ctx : Nat
  /-- Parked by a save (R425). -/
  parked : Bool
  /-- Being unloaded or replaced (R196, R199). -/
  leaving : Bool
  armed : Bool
  epoch : Nat
  param : Nat
  /-- Disarms at the next frame mark (R361). -/
  disarming : Bool
  /-- The first incompatible pair (R194): checker, checked and their levels; none when every pair is compatible. -/
  pair : Option (Nat × Nat × Nat × Nat)
  deriving DecidableEq, Repr

/-! ### Command processor and contexts -/

/-- Where an accepted descriptor stands. -/
inductive DescPhase where
  /-- Waiting for a pass (or, for SYNC and SCHEDULE, for its end). -/
  | waiting
  /-- Granted a frame: unit, and the sequencer of each claim not yet dispatched, lowest claim first. -/
  | granted (frame unit : Nat) (seqs : List Nat)
  /-- Its last routine has ended; transfers or its remote signal are unresolved (R470, R471). -/
  | resolving
  deriving DecidableEq, Repr

/-- A descriptor accepted and not completed (R378, R379). -/
structure CmdDesc where
  ctx : Nat
  slot : Nat
  /-- Device address of its submission slot. -/
  addr : Nat
  desc : Desc
  arrival : Nat × Nat
  /-- The instant its acceptance ended (R414). -/
  accepted : Nat × Nat
  home : Option Nat
  defers : Nat
  /-- A pass has considered it (R395). -/
  considered : Bool
  phase : DescPhase
  /-- Granted frame, for the record. -/
  granted : Nat
  /-- Granted by the first pass that considered it. -/
  firstPass : Bool
  /-- Claims dispatched so far, routines of it still running. -/
  dispatched : Nat
  running : Nat
  /-- Output-stage flags gathered (R395). -/
  flags : Nat
  /-- The first run-time failure (R397). -/
  failed : Option (Nat × Nat)
  /-- Plates a ROUTINE has seeded (R260). -/
  seeded : List Nat
  /-- The remote signal has been sent (R471). -/
  signalled : Bool
  deriving DecidableEq, Repr

/-- A context's rings behind their registers (R374–R381). -/
structure RingSt where
  /-- The next submitted slot not yet accepted, and the arrival of its doorbell. -/
  nextAccept : Nat
  arrival : Nat × Nat
  /-- Slots at or after the head whose record has been posted (R379). -/
  posted : List Nat
  /-- Completed records waiting for a free entry, oldest first (R381). -/
  waiting : List Record
  deriving DecidableEq, Repr

def RingSt.none : RingSt := ⟨0, (0, 0), [], []⟩

/-- A saved context parked on the package (R425, R436). -/
structure SavedCtx where
  tenant : Nat
  job : Nat
  syncBase : Nat
  syncCount : Nat
  windows : List (Nat × Nat)
  deriving DecidableEq, Repr

/-- A charge of a slot in a frame (R566). -/
structure Charge where
  slot : Nat
  frame : Nat
  /-- Tenths of a W·tick. -/
  amount : Nat
  deriving DecidableEq, Repr

/-! ### Fabric -/

/-- FAB_PORTn_STAT.state (R444). -/
inductive PortState where
  | dark | detect | equalise | negotiate | active | retrain
  deriving DecidableEq, Repr

def PortState.num : PortState → Nat
  | .dark => 0 | .detect => 1 | .equalise => 2 | .negotiate => 3 | .active => 4 | .retrain => 5

/-- A transaction in a port's queue: the credit it holds in the port it came in by, if it is relayed (R455). -/
structure QTxn where
  txn : Txn
  held : Option (Nat × Nat)
  deriving DecidableEq, Repr

/-- A flit in the retry buffer (R457). -/
structure SentFlit where
  seq : Nat
  slots : List Txn
  deriving DecidableEq, Repr

/-- One fabric port behind its registers. Credits are counted by pool and class, key 16 × pool + hop class, class 0 the
shared slots (R455). -/
structure PortSt where
  state : PortState
  gen2 : Bool
  cause : Nat
  /-- Consecutive failed attempts (R449). -/
  fails : Nat
  /-- Checks passed; the port sends ready and waits for the next mark (R448). -/
  ready : Bool
  /-- Both ends offer generation 2 and it has not failed (R448): at the next mark the port equalises at generation 2. -/
  switching : Bool
  queue : List QTxn
  retry : List SentFlit
  /-- Flits still to be replayed after a nak (R457). -/
  replay : List SentFlit
  nextSeq : Nat
  /-- The last DATA flit received good and in order. -/
  lastGood : Nat
  /-- A nak is owed to the peer, and DATA flits are discarded until the replay (R457). -/
  nakOwed : Bool
  discarding : Bool
  /-- Credits held for sending, credits granted to the peer, credits to return. -/
  credits : SMap Nat
  granted : SMap Nat
  owed : SMap Nat
  /-- Naks received for one seq, naks received in one frame (R458). -/
  nakSeq : Nat
  nakRun : Nat
  nakFrame : Nat
  nakCount : Nat
  /-- Instants of the latest retrains, in ticks of `State.now` (R458). -/
  retrains : List Nat
  /-- The instant the port last went DARK: the waits of R449 and R458 run from it. -/
  downAt : Nat
  deriving DecidableEq, Repr

def PortSt.init : PortSt :=
  ⟨.dark, false, 1, 0, false, false, [], [], [], 0, 0xFFFF, false, false, [], [], [], 0, 0, 0, 0, [], 0⟩

/-- Who a transfer belongs to. -/
inductive XferOwner where
  /-- Routine of a sequencer serving a dynamic claim of (context, slot). -/
  | desc (ctx slot : Nat)
  /-- Routine of a static entry on this sequencer. -/
  | routine (seq : Nat)
  deriving DecidableEq, Repr

/-- An unresolved transfer at its origin (R469). -/
structure Transfer where
  id : Nat
  owner : XferOwner
  seq : Nat
  port : Nat
  count : Nat
  answered : Nat
  /-- Local frame its last transaction left in. -/
  leftFrame : Nat
  /-- The remote signal of its descriptor (R471). -/
  isSignal : Bool
  deriving DecidableEq, Repr

/-- An entry of the destination's tally table (R468). -/
structure Tally where
  origin : Nat
  id : Nat
  tenant : Nat
  job : Nat
  count : Nat
  /-- First non-OK status and its port. -/
  status : Nat
  port : Nat
  deriving DecidableEq, Repr

structure FabSt where
  ports : Vector PortSt 12
  transfers : List Transfer
  tallies : List Tally
  nextId : Nat
  /-- Timed-out IDs and the frame they timed out in (R469). -/
  timedOut : List (Nat × Nat)
  /-- Lines that have arrived for a stack in self-refresh, with their ports: they are answered once visible (R468). -/
  unseen : List (Nat × Txn)
  deriving DecidableEq, Repr

/-! ### Host port -/

/-- An HDM decoder (R487). -/
structure Decoder where
  committed : Bool
  base : Nat
  size : Nat
  skip : Nat
  deriving DecidableEq, Repr

/-- An event record kept for Get Event Records (R491, R495): log 0 information (Memory Module), 3 General Media. -/
structure EventRec where
  handle : Nat
  log : Nat
  what : Nat
  arg : Nat
  deriving DecidableEq, Repr

/-- A CXL.mem write that waits behind a full fix queue or for a stack in self-refresh (R151, R305): device address, line, byte
enables, poison. -/
structure HeldWrite where
  addr : Nat
  data : List Byte
  be : Nat
  poison : Bool
  deriving DecidableEq, Repr

/-- One host half (R479–R484, R495, R496, R505). -/
structure HalfSt where
  up : Bool
  rate : Nat
  width : Nat
  protocol : Nat
  d3 : Bool
  msixEnable : Bool
  msixMask : Bool
  /-- Bit v: vector v masked (MSI-X table), pending (PBA). -/
  vecMask : BitVec 64
  /-- The other words of the MSI-X table, by word number 0–255 (R495). -/
  msixTable : SMap Nat
  pba : BitVec 64
  decoders : Vector Decoder 4
  hdmEnable : Bool
  /-- CXL 1.1 DVSEC ranges: base when enabled. -/
  range1 : Option Nat
  range2 : Option Nat
  memClear : Bool
  resetComplete : Bool
  resetError : Bool
  events : List EventRec
  nextHandle : Nat
  policy : List Byte
  timestamp : Nat
  /-- `State.now` when the timestamp was set. -/
  timestampAt : Nat
  /-- SPDM negotiation is complete (R503). -/
  negotiated : Bool
  /-- IDE keys programmed and active: bit 0 CXL.io, bit 1 CXL.mem (R505). -/
  ideKeys : BitVec 2
  ideActive : BitVec 2
  /-- A held weight-window write and those behind it, oldest first (R305, R490). -/
  heldWrites : List HeldWrite
  /-- The base BAR0 and BAR1 hold, in units of 4 MiB (R493). -/
  bar : Nat
  /-- A weight-window read waiting for a sensing gap (R306, R308): address and the frame it arrived in. -/
  heldReads : List (Nat × Nat)
  /-- Reads of a stack in self-refresh, oldest first (R151): line, and what its ECC will find. -/
  parked : List (Nat × Nat)
  deriving DecidableEq, Repr

def HalfSt.init : HalfSt :=
  { up := false, rate := 0, width := 0, protocol := 0, d3 := false, msixEnable := false, msixMask := false,
    vecMask := BitVec.allOnes 64, msixTable := [], pba := 0, decoders := Vector.replicate 4 ⟨false, 0, 0, 0⟩, hdmEnable := false,
    range1 := none, range2 := none, memClear := false, resetComplete := false, resetError := false, events := [],
    nextHandle := 1, policy := [0, 0, 0, 0], timestamp := 0, timestampAt := 0, negotiated := false, ideKeys := 0,
    ideActive := 0, heldWrites := [], bar := 0, heldReads := [], parked := [] }

/-- An open secure session (R503): half, identifier, whether FINISH has completed it, key updates so far. -/
structure Session where
  half : Nat
  id : Nat
  complete : Bool
  updates : Nat
  deriving DecidableEq, Repr

structure HostSt where
  halves : Vector HalfSt 2
  sessions : List Session
  nextSession : Nat
  /-- Status of the last sideband WRITE (R509). -/
  sbStatus : Nat
  /-- ALERT_N has been released by an Alert Response (R512). -/
  alertReleased : Bool
  deriving DecidableEq, Repr

/-! ### Thermal protection -/

/-- One die behind its registers (R619–R627). -/
structure DieSt where
  /-- Consecutive rounds meeting each suspect condition, consecutive clean rounds (R623). -/
  suspectRun : Nat
  clearRun : Nat
  /-- Consecutive rounds at or above each threshold, and below each leaving point (R626). -/
  upWarn : Nat
  upOver : Nat
  upShut : Nat
  downRun : Nat
  /-- Consecutive rounds with the rate above, at or below its limit, above four times it (R627, R635). -/
  rateUp : Nat
  rateDown : Nat
  rateFast : Nat
  /-- The overcast level was caused by the rate (R627). -/
  rateCaused : Bool
  /-- The latest 33 effective temperatures, newest first; none where one came from an invalid reading (R627). -/
  history : List (Option Int)
  deriving DecidableEq, Repr

def DieSt.init : DieSt := ⟨0, 0, 0, 0, 0, 0, 0, 0, 0, false, []⟩

structure ThmSt where
  dies : Vector DieSt 8
  /-- Consecutive failed, consecutive good bias checks of array dies (R620). -/
  biasBad : Vector Nat 4
  biasGood : Vector Nat 4
  /-- Rounds since it started. -/
  rounds : Nat
  /-- Round of the last step (R631). -/
  lastStep : Nat
  /-- The floor event has been set for this arrival at step 7. -/
  floored : Bool
  /-- The latest 64 frames' totals of 122,880 W·tick plus charges, in tenths (R622). -/
  frames : List Nat
  /-- When records of codes 0–2 were made within the last 60 s, in ticks of `State.now` (R639). -/
  recTimes : List Nat
  /-- The die whose shutdown has been decided (R637). -/
  shut : Option Nat
  deriving DecidableEq, Repr

/-! ### The island -/

/-- BATT_STAT.source (R517). -/
inductive IslMode where
  | aux | hold | standby | cold
  deriving DecidableEq, Repr

def IslMode.num : IslMode → Nat
  | .aux => 0 | .hold => 1 | .standby => 2 | .cold => 3

/-- One journal record that has been made and not committed: its bytes from the type on (R610). -/
abbrev JRecord := List Byte

/-- Running island firmware (R526, R528). -/
structure FwCopy where
  copy : Nat
  levels : Levels
  digest : Nat
  deriving DecidableEq, Repr

structure IslSt where
  mode : IslMode
  vbat : Nat
  vhold : Nat
  /-- None in ROM mode (R527). -/
  fw : Option FwCopy
  /-- The run domain is on and the boot and rebuild have run (R526, R613). -/
  booted : Bool
  /-- The handshake of dawn step 4 has completed and the link has not dropped since (R143). -/
  linkUp : Bool
  battLow : Bool
  /-- `State.now` when the battery-low conditions were last true, when COLD was left. -/
  lowAt : Nat
  warmAt : Nat
  /-- COLD was left and the time loss has not been journalled (R548). -/
  timeLost : Bool
  /-- The run domain is on (R517, R518). -/
  runOn : Bool
  commitDeferred : Bool
  /-- The journal has been rebuilt since COLD was left (R613). -/
  rebuilt : Bool
  /-- Channels whose completion waits for the island link to return (R547). -/
  kept : List Nat
  /-- The battery-backed latch of R120: the RC oscillator failed to start. -/
  rcLatch : Bool
  /-- A DAWN_FAIL of another cause came before the island ran: its record is still to be journalled (R130). -/
  dawnOwed : Bool
  /-- `State.now` when the island link dropped in a running state, until the enables fall (R143). -/
  linkLostAt : Option Nat
  /-- `State.now` when firmware restarted the island, until it has booted (R529, R584). -/
  restartAt : Option Nat
  /-- The running trim window is discarded at its end: the link dropped, or horizon left LOCKED (R166). -/
  trimSpoilt : Bool
  /-- Channels whose commands wait for service, in order of go (R531). -/
  mboxOrder : List Nat
  /-- Write session of each target 0–2: sectors erased in it; none when no session is open (R534). -/
  sessions : Vector (Option (List Nat)) 3
  /-- Sequence number of each island firmware copy's last committed content (R529). -/
  copySeq : Vector (Option Nat) 2
  /-- Bank A areas whose content passed its last check: copy 0, copy 1, stage-2, patch (R594). -/
  areaOk : BitVec 4
  /-- OTP (R538): key slots provisioned, revoked, keys; signer slots; seal entries. -/
  keyProv : BitVec 8
  keyRev : BitVec 8
  keys : SMap Nat
  signProv : BitVec 4
  signRev : BitVec 4
  signers : SMap Nat
  seals : Vector (List Nat) 4
  /-- M-Bus (R542–R545, R578): selected is MBUS_STAT.selected. -/
  telegrams : List (List Byte)
  telIndex : Nat
  lastFcb : Option Bool
  accessNo : Nat
  /-- Records made and not committed (R610). -/
  records : List JRecord
  deriving DecidableEq, Repr

/-! ### Metering -/

/-- One flow channel (R552–R559, R576). -/
structure ChanSt where
  /-- The block in progress is swapped (R554); measurements in it, valid ones, their sum of t_up − t_dn (10 ps units). -/
  swapped : Bool
  blockCount : Nat
  blockValid : Nat
  blockSum : Int
  /-- Mean of the last normal block, when it was used. -/
  normalMean : Option Rat
  /-- o, in 10 ps units; whether an estimate has been made. -/
  offset : Rat
  estimated : Bool
  offsetRun : Nat
  offsetClear : Nat
  /-- Valid measurements of the cycle: swapped, t_up, t_dn. -/
  cycle : List (Bool × Int × Int)
  qRaw : Rat
  q : Rat
  invalidRun : Nat
  validRun : Nat
  reverseRun : Nat
  reverseClear : Nat
  /-- Volumes in µL. -/
  vol : Rat
  rev : Rat
  /-- Heat in nJ, for cumulative MTR_HEATn. -/
  heat : Nat
  crossedRun : Nat
  crossedClear : Nat
  /-- Error time in eighths of a second. -/
  errEighths : Nat
  deriving DecidableEq, Repr

def ChanSt.init : ChanSt :=
  { swapped := false, blockCount := 0, blockValid := 0, blockSum := 0, normalMean := none, offset := 0, estimated := false,
    offsetRun := 0, offsetClear := 0, cycle := [], qRaw := 0, q := 0, invalidRun := 0, validRun := 0, reverseRun := 0,
    reverseClear := 0, vol := 0, rev := 0, heat := 0, crossedRun := 0, crossedClear := 0, errEighths := 0 }

/-- One sensor's run lengths (R576) and corrected temperature in mK above 0 °C (R560). -/
structure SensorSt where
  theta : Rat
  openRun : Nat
  shortRun : Nat
  openGood : Nat
  shortGood : Nat
  deriving DecidableEq, Repr

/-- A frame whose energy waits for its mark (R567, R570): frame, energy in nJ, the flow cycle its pulse fell in. -/
structure FrameE where
  frame : Nat
  energy : Nat
  cycle : Nat
  deriving DecidableEq, Repr

/-- A flow cycle whose heat waits to be split (R568): heat in nJ, electrical shares so far by account: tenant
0–1,023, 1,024 bench, 1,025 overhead. The cycle in progress has an entry too; `closed` says that it has ended. -/
structure CycleQ where
  id : Nat
  heat : Nat
  shares : SMap Nat
  closed : Bool
  deriving DecidableEq, Repr

/-- An attribution binding of a slot (R565): the frames [from, to] it covers. -/
structure BindingSt where
  slot : Nat
  tenant : Nat
  bench : Bool
  fromFrame : Nat
  toFrame : Option Nat
  deriving DecidableEq, Repr

structure MtrSt where
  chans : Vector ChanSt 2
  sensors : Vector SensorSt 4
  /-- Electrical energy in nJ: total, the fraction not yet a whole nJ, the frame now open. -/
  elec : Nat
  elecFrac : Rat
  openFrame : Option Nat
  openEnergy : Nat
  /-- The flow cycle the open frame's pulse fell in (R568). -/
  openCycle : Nat
  frames : List FrameE
  cycle : Nat
  cycles : List CycleQ
  bindings : List BindingSt
  /-- Accounts in nJ: overhead, bench, tenants (key: tenant). -/
  ovhElec : Nat
  ovhHeat : Nat
  benchElec : Nat
  benchHeat : Nat
  tenElec : SMap Nat
  tenHeat : SMap Nat
  /-- The totals in mJ and mL already journalled, in the order of PKG_DELTA's eleven quantities, and per tenant. -/
  committed : List Nat
  comElec : SMap Nat
  comHeat : SMap Nat
  comErr : List Nat
  /-- Calibration writes that take effect at the next cycle start (R575): offset and the value still in force. -/
  calPending : List (Nat × Nat)
  /-- Heat and electrical energy of the last flow cycle, in nJ (MTR_PWR). -/
  lastHeat : Nat
  lastElec : Nat
  cycleElec : Nat
  /-- The first interval merged into the held deltas (R612). -/
  firstInterval : Nat
  /-- Length of the flow cycle in progress, in eighths of a second (R550, R551). -/
  cycleLen : Nat
  /-- The RTC value at which the last interval ended (R572). -/
  intervalRtc : Option Nat
  deriving DecidableEq, Repr

/-! ### Record flash -/

/-- A flash operation begun and not finished (R589, R596). -/
structure FlashOp where
  /-- 1 program, 2 erase, 3 mass erase. -/
  op : Nat
  bankB : Bool
  sector : Nat
  word : Nat
  value : Nat
  suspends : Nat
  deriving DecidableEq, Repr

structure FlsSt where
  /-- 64-bit words by number, 0–131,071; a word not listed is blank (R586). -/
  words : SMap Nat
  /-- Word ranges [lo, hi) left unpredictable by a cut program or erase (R592). -/
  torn : List (Nat × Nat)
  active : Option FlashOp
  /-- Suspended operations, innermost first (R596). -/
  suspended : List FlashOp
  /-- The active log sector, its next free word, the next sequence number, its generation (R604). -/
  logSector : Nat
  logWord : Nat
  logSeq : Nat
  logGen : Nat
  /-- Unmatched BEGINs of abandoned erases (R606): bank, sector. -/
  unmatched : List (Bool × Nat)
  /-- Their re-erase is due and waits for the budget of R521. -/
  recoverDue : Bool
  /-- The mass erase: which of its four parts comes next; none when none runs (R602). -/
  massPart : Option Nat
  /-- Ring: next free line of the head, first commit in it, sector sequence number, erase failures, retired (R607, R608). -/
  headLine : Nat
  headFirst : Nat
  sectorSeq : Nat
  failRuns : SMap Nat
  retired : List Nat
  /-- The interval now held was ended short (R572, R609). -/
  short : Bool
  /-- A commit held in SRAM for want of space (R612). -/
  held : Bool
  /-- A checkpoint is due (R595, R611). -/
  checkpointDue : Bool
  /-- Interval of the last checkpoint. -/
  ckptInterval : Nat
  /-- Journal contents a checkpoint repeats: latest DAWN_FAIL, STOP, ACKs, MBUS_ADDR, RETIRE records. -/
  latest : SMap JRecord
  deriving DecidableEq, Repr

/-! ### Debug -/

/-- One TAP (R657–R662): instruction in force, refusal bit, debug access result (data, done, denied). -/
structure TapSt where
  instr : Nat
  refused : Bool
  dbgData : Nat
  dbgDone : Bool
  dbgDenied : Bool
  deriving DecidableEq, Repr

def TapSt.init : TapSt := ⟨1, false, 0, false, false⟩

/-! ### Plate-image loader (spec/06) -/

/-- A load or an unload in progress (R189–R200). -/
structure Load where
  /-- IMG_STAT.phase: 1 to 9 of R190, 10 for an unload. -/
  phase : Nat
  ctx : Nat
  src : Nat
  len : Nat
  /-- The bytes in staging. -/
  bytes : List Byte
  image : Option PlateImage
  /-- The resident slot replaced or unloaded. -/
  slot : Option Nat
  /-- The quiesce mark Q, once it has passed. -/
  quiesce : Option Nat
  /-- The first incompatible pair of the image (R194): checker, checked and their levels. -/
  pair : Option (Nat × Nat × Nat × Nat)
  deriving DecidableEq, Repr

structure ImgSt where
  load : Option Load
  /-- An image whose install has ended: resident at the next frame mark (R192). -/
  arriving : Option Load
  /-- Resident images, by (slot, image), slots rising. -/
  resident : List (Nat × ResImage)
  /-- The held image whose pair GEN_HOLD_CAUSE names, by its image_id (R195). -/
  levelBy : Option Nat
  /-- Slots a context release unloads: slot, and the quiesce mark once it has passed (R199). -/
  unloads : List (Nat × Option Nat)
  /-- Stochastic-rounding registers by plate × 2^17 + channel; one not listed holds its seed (R259, R260). -/
  lfsr : SMap Nat
  deriving DecidableEq, Repr

/-! ### Tiles (spec/07–spec/10) -/

/-- A crosspoint's pair: its two conductances referred to 25 °C, in 1/25,600 µS (R206), its static programming residual in
1/25,600 cu (R226), and `State.now` when it was last pulsed. -/
structure CellPair where
  plus : Nat
  minus : Nat
  resid : Int
  fixedAt : Nat
  deriving DecidableEq, Repr

/-- What is known of data pairs that no fix has listed: erased; erased but for pairs that would not go below the limit (R321); nothing
(R201). -/
inductive Blank where
  | erased | partly | unknown
  deriving DecidableEq, Repr

/-- What a group of a burst starts with and keeps (R207, R215, R326): signed operands, the data columns' range shifts, y_T and
g_d. -/
structure GroupLoad where
  ops : List Int
  shifts : List Nat
  yTemp : Int
  gDrift : Int
  deriving DecidableEq, Repr

/-- A burst on one tile (R208, R217). -/
structure Burst where
  /-- Issuing sequencer and context slot. -/
  q : Nat
  plate : Nat
  /-- The command, with its descriptor's values in place (R349, R388). -/
  cmd : ExposeCmd
  /-- Device byte address for src 1 (R350). -/
  base : Nat
  /-- Bank of this tile (R269). -/
  bank : Nat
  endFrame : Nat
  endTick : Nat
  /-- Exposures started, developed. -/
  started : Nat
  developed : Nat
  /-- The start of exposure 0, in units of 0.5 ns of horizon time, moved on by waits (R211, R218). -/
  t0 : Nat
  /-- What each group begun so far runs on. -/
  loaded : List GroupLoad
  /-- Codes of the present plane's repetitions so far, one list of 520 columns each (R219). -/
  reps : List (List (Int × Bool))
  /-- Plane sums of the group so far, by data column (R247). -/
  psum : List Int
  /-- The last group has been committed; inbound chain adds applied; the outbound one made (R275). -/
  committed : Bool
  inbound : Nat
  sent : Bool
  deriving DecidableEq, Repr

/-- One tile behind its registers. -/
structure TileSt where
  /-- Resident slot and plate that own it. -/
  owner : Option (Nat × Nat)
  /-- Conductances fixed since the last erase, by driven row × 520 + column, fog columns from 512 (R205, R206, R302). A data pair
  not listed is erased, a fog pair not listed holds its level of R220. -/
  cells : SMap CellPair
  /-- How often the data pairs not listed took new values, and what is known of them (R201, R320, R321); how often the fog pairs not
  listed lost their levels (R201). -/
  blanks : Nat
  blank : Blank
  fogLost : Nat
  /-- A write during quiesce or install has left the tile unfixed, until it is next refixed or erased (R201). -/
  unfixed : Bool
  /-- The two integrating capacitors of each column (R205, R213): a held exposure's 520 charges, none after a reset. -/
  caps : Vector (Option (List Int)) 2
  /-- Valid remap entries (spare, row), non-volatile (R225); spares that failed since the link trained (R317). -/
  spares : List (Nat × Nat)
  badSpares : BitVec 8
  /-- Written trims by column; the others are the contact sheet's (R224). -/
  trims : SMap Nat
  /-- Holding-buffer bytes (R400). -/
  hold : SMap Nat
  /-- Non-volatile (R320, R321, R332). -/
  dirty : Bool
  worn : Bool
  refixes : Nat
  /-- A refix has ended since the tile became owned (R329). -/
  refixed : Bool
  erasing : Bool
  /-- The erasure holds a pump slot (R320). -/
  eraseRun : Bool
  /-- `FixSt.coreTicks` at the tile's reference fix; none before it (R329). -/
  ageAt : Option Nat
  faulty : Bool
  /-- Running fog sums (R222): developed exposures, clips, residuals, expectations. -/
  fogCount : Nat
  fogClips : Nat
  fogRes : List Int
  fogExp : List Nat
  burst : Option Burst
  deriving DecidableEq, Repr

def TileSt.init : TileSt :=
  { owner := none, cells := [], blanks := 0, blank := .erased, fogLost := 0, unfixed := false, caps := Vector.replicate 2 none, spares := [], badSpares := 0, trims := [],
    hold := [], dirty := false, worn := false, refixes := 0, refixed := false, erasing := false, eraseRun := false, ageAt := none, faulty := false, fogCount := 0, fogClips := 0, fogRes := List.replicate 8 0,
    fogExp := List.replicate 8 0, burst := none }

/-- A fix entry: tile, row, segment 0–7 (R305). -/
structure FixEntry where
  tile : Nat
  row : Nat
  seg : Nat
  deriving DecidableEq, Repr

/-- A segment the pump runs, with the targets it started with (R311, R333). -/
structure FixRun where
  tile : Nat
  row : Nat
  seg : Nat
  targets : List Int
  deriving DecidableEq, Repr

/-- A tile whose refix runs, and the segments it is known to have verified: row × 9 + segment of the first it may not have
(R332, R333). -/
structure RefixRun where
  tile : Nat
  pos : Nat
  deriving DecidableEq, Repr

/-- A refix queued or running: its plate, the tiles not yet refixed, and those of them in a pump slot (R330–R332). -/
structure Refix where
  plate : Nat
  tiles : List Nat
  running : List RefixRun
  deriving DecidableEq, Repr

/-- A test exposure in progress (R231). -/
structure TileTest where
  tile : Nat
  group : Nat
  rowGroup : Nat
  acc16 : Bool
  shift : Nat
  avg : Nat
  rows : Nat
  deriving DecidableEq, Repr

structure FixSt where
  /-- Fix queues and running segments of the four dies, oldest first (R305, R313). -/
  queue : Vector (List FixEntry) 4
  running : Vector (List FixRun) 4
  refixes : List Refix
  /-- FIXING plates (R314). -/
  fixing : BitVec 64
  test : Option TileTest
  /-- Ticks for which VCORE has been in range (R329). -/
  coreTicks : Nat
  deriving DecidableEq, Repr

/-! ### Sequencers (spec/11) -/

/-- SEQ_STAT.state (R338). -/
inductive SeqMode where
  | halted | idle | running | waiting | fault
  deriving DecidableEq, Repr

def SeqMode.num : SeqMode → Nat
  | .halted => 0 | .idle => 1 | .running => 2 | .waiting => 3 | .fault => 4

/-- A routine's entry or claim (R355, R358). -/
structure Routine where
  /-- Served resident slot; none for a built-in routine. -/
  image : Option Nat
  ctx : Nat
  dyn : Bool
  /-- Slot-table index of a static entry. -/
  index : Nat
  kind : Nat
  resource : Nat
  frame : Nat
  startTick : Nat
  endTick : Nat
  /-- The descriptor it runs for: the claim's, or the SCHEDULE that owns the dispatch. -/
  desc : Option (Nat × Nat)
  /-- The dispatch record of a dynamic claim: the descriptor's copy (R388). -/
  record : Option Desc
  deriving DecidableEq, Repr

/-- A command a routine has issued (R354). -/
inductive OutKind where
  | expose (plate : Nat)
  | load
  | output (plate : Nat)
  | fsend (xfer : Nat)
  /-- The range counted, first byte and past the last, and the lines still to come (R462). -/
  | frecv (port lo hi remaining : Nat)
  | vector
  deriving DecidableEq, Repr

/-- An outstanding command and whether what it started has ended. -/
structure OutCmd where
  kind : OutKind
  ended : Bool
  deriving DecidableEq, Repr

structure SeqSt where
  mode : SeqMode
  pc : Nat
  /-- Address of the micro-word whose command is latched or issued last (R368). -/
  cmdPc : Nat
  a : Vector Nat 4
  c : Vector Nat 2
  stack : List Nat
  syncFlag : Bool
  limitFlag : Bool
  routine : Option Routine
  /-- A WAIT holds until this tick of the slot (R343). -/
  waitTick : Option Nat
  /-- The command of the micro-word just executed, not yet issued; it was fetched under a WAIT. -/
  issue : Option NanoCmd
  issueTimed : Bool
  /-- A machine check waits for the outstanding commands (R368). -/
  checked : Bool
  /-- A transfer of the routine has failed (R471). -/
  xferFailed : Bool
  outstanding : List OutCmd
  deriving DecidableEq, Repr

def SeqSt.init : SeqSt :=
  { mode := .halted, pc := 0, cmdPc := 0, a := Vector.replicate 4 0, c := Vector.replicate 2 0, stack := [], syncFlag := false,
    limitFlag := false, routine := none, waitTick := none, issue := none, issueTimed := false, checked := false, xferFailed := false, outstanding := [] }

/-- An output-stage run in progress (R278). -/
structure OutRun where
  q : Nat
  ctx : Nat
  desc : Option (Nat × Nat)
  cmd : OutputCmd
  dst : Nat
  fuseAddr : Nat
  /-- The class of its fabric sends (R453). -/
  sched : Bool
  /-- Chain ends whose banks it has waited for (R295). -/
  waited : List Nat
  deriving DecidableEq, Repr

/-! ### The whole package -/

/-- A write or a compensated add handed to the controller of a stack in self-refresh, to be applied at its exit (R296, R300). -/
structure DueWrite where
  add : Bool
  addr : Nat
  data : List Byte
  deriving DecidableEq, Repr

/-- The package. -/
structure State where
  /-- Commands that wait, first in, first out. -/
  pending : List Instr
  /-- Elapsed time in nominal ticks of 8 ns (R3); a step on an empty queue adds one. -/
  now : Nat
  /-- The model's own: how many free values have been used. -/
  freeIx : Nat
  /-- What the package has emitted, newest first. -/
  out : List Out
  /-- The die stepping: A0 (R4, R44). -/
  a0 : Bool
  /-- Register fields (R14). -/
  regs : RegFile
  /-- Captured high words by accessor × 2^28 + offset (R17, R511, R585, R662). -/
  caps : SMap Nat
  /-- Device DRAM by DPA (R486): bytes that are not 0. -/
  mem : List Host.Cell
  /-- Lines marked poisoned, by line number, rising (R491). -/
  poison : List Nat
  /-- What waits for a stack to leave self-refresh, in order of arrival. -/
  dueWrites : List DueWrite
  /-- Compensated adds with a flush, by DRAM controller (R286). -/
  flushes : Vector Nat 2
  pwr : PwrSt
  hzn : HznSt
  clk : ClkSt
  img : ImgSt
  tiles : SMap TileSt
  fix : FixSt
  seqs : Vector SeqSt 16
  /-- Output-stage runs in progress. -/
  outRuns : List OutRun
  /-- The microcode patch as loaded (R365). -/
  patch : Option Patch
  descs : List CmdDesc
  rings : SMap RingSt
  saved : List SavedCtx
  /-- Frame marks at which releases and saves free their slots: slot (R412, R425). -/
  freeing : List Nat
  /-- Slots a restore makes ACTIVE at the next mark (R428), with the slots to accept again. -/
  restoring : List (Nat × List Nat)
  charges : List Charge
  /-- The last frame an admission pass has run for (R106, R421). -/
  passFrame : Nat
  /-- The static entries whose dispatch instant has come, each in its frame (R356, R687). -/
  dispatched : List Dispatched
  fab : FabSt
  host : HostSt
  thm : ThmSt
  isl : IslSt
  mtr : MtrSt
  fls : FlsSt
  /-- Fault log, oldest first, each entry 128 bits (R654, R655); the next sequence number. -/
  flog : List Nat
  flogSeq : Nat
  tapIsl : TapSt
  tapCtl : TapSt
  /-- Fractions of a core cycle carried between ticks, in fifths (R3, R645). -/
  coreFrac : Nat
  deriving DecidableEq, Repr

/-! ### The package before it has ever been powered (R117, R519) -/

def PwrSt.init : PwrSt :=
  { state := .off, dawnStep := 0, attempt := 0, vauxIn := false, vauxAt := 0, perstLow := true,
    balls := ⟨0, 0, false, false, false⟩, enables := 0, railGood := 0, released := false, sampled := false, releasedAt := 0, cfgAt := 0,
    dramLink := 0, arrayLink := 0, dramInit := 0, lowering := .none, dusk := none, heldDusk := none, restartWanted := false,
    warm := false, cxlReset := false, cxlMemClear := false, cxlHalf := 0, stage2 := none, stage2Digest := 0, faultLow := false,
    dawnRec := ⟨0, 0, 0, 0, false⟩, stopRec := ⟨0, false, 0, 0, false⟩, overrunRec := false }

def HznSt.init : HznSt :=
  { lock := .dark, acqFrom := .dark, counting := false, frame := 0, markAt := 0, firstMark := false, number1 := none,
    genFrame := none, markSeen := false, nextSeen := false, markCounted := false, nextCounted := false, missRun := 0, goodRun := 0, target := 0, slewFrom := none,
    numberBad := 0, msgBad := false, expSled := 0, expSlot := 0, gapLeft := 0, everLocked := false }

def ClkSt.init : ClkSt :=
  { locked := 0, started := 0, refPresent := true, coasting := false, arrayForced := false, forcedEnd := 0, gated := 0, gatePending := 0,
    ungating := 0, gateAfter := 0, selfRefresh := 0, obsHold := 0 }

def FixSt.init : FixSt :=
  { queue := Vector.replicate 4 [], running := Vector.replicate 4 [], refixes := [], fixing := 0, test := none, coreTicks := 0 }

def FabSt.init : FabSt :=
  { ports := Vector.replicate 12 PortSt.init, transfers := [], tallies := [], nextId := 0, timedOut := [], unseen := [] }

def ThmSt.init : ThmSt :=
  { dies := Vector.replicate 8 DieSt.init, biasBad := Vector.replicate 4 0, biasGood := Vector.replicate 4 0,
    rounds := 0, lastStep := 0, floored := false, frames := [], recTimes := [], shut := none }

def IslSt.init : IslSt :=
  { mode := .cold, vbat := 0, vhold := 0, fw := none, booted := false, linkUp := false, battLow := false, lowAt := 0,
    warmAt := 0, timeLost := true, runOn := false, commitDeferred := false, rebuilt := false, kept := [], rcLatch := false,
    dawnOwed := false, linkLostAt := none, restartAt := none, trimSpoilt := false, mboxOrder := [],
    sessions := Vector.replicate 3 none, copySeq := Vector.replicate 2 none, areaOk := 0, keyProv := 0,
    keyRev := 0, keys := [], signProv := 0, signRev := 0, signers := [], seals := Vector.replicate 4 [], telegrams := [],
    telIndex := 0, lastFcb := none, accessNo := 0, records := [] }

def MtrSt.init : MtrSt :=
  { chans := Vector.replicate 2 ChanSt.init, sensors := Vector.replicate 4 ⟨0, 0, 0, 0, 0⟩, elec := 0, elecFrac := 0,
    openFrame := none, openEnergy := 0, openCycle := 0, frames := [], cycle := 0, cycles := [], bindings := [], ovhElec := 0,
    ovhHeat := 0, benchElec := 0, benchHeat := 0, tenElec := [], tenHeat := [], committed := List.replicate 11 0,
    comElec := [], comHeat := [], comErr := [0, 0], calPending := [], lastHeat := 0, lastElec := 0, cycleElec := 0,
    firstInterval := 0, cycleLen := 1, intervalRtc := none }

def FlsSt.init : FlsSt :=
  { words := [], torn := [], active := none, suspended := [], logSector := 0, logWord := 0, logSeq := 0, logGen := 0,
    unmatched := [], recoverDue := false, massPart := none, headLine := 1, headFirst := 1, sectorSeq := 0, failRuns := [], retired := [],
    short := false, held := false, checkpointDue := false, ckptInterval := 0, latest := [] }

/-- The package as the factory leaves it, unpowered: OFF with every supply absent, every register at its reset value,
every store empty. What the spec gives no value for is named in the assumption log. -/
def State.reset : State :=
  { pending := [], now := 0, freeIx := 0, out := [], a0 := false, regs := [], caps := [], mem := [], poison := [], dueWrites := [], flushes := Vector.replicate 2 0,
    pwr := PwrSt.init, hzn := HznSt.init, clk := ClkSt.init, img := ⟨none, none, [], none, [], []⟩, tiles := [], fix := FixSt.init,
    seqs := Vector.replicate 16 SeqSt.init, outRuns := [], patch := none, descs := [], rings := [], saved := [],
    freeing := [], restoring := [], charges := [], passFrame := 0, dispatched := [], fab := FabSt.init,
    host := { halves := Vector.replicate 2 HalfSt.init, sessions := [], nextSession := 0, sbStatus := 0, alertReleased := false },
    thm := ThmSt.init, isl := IslSt.init, mtr := MtrSt.init, fls := FlsSt.init, flog := [], flogSeq := 0,
    tapIsl := TapSt.init, tapCtl := TapSt.init, coreFrac := 0 }

end Sys2Proof.Machine
end

