-- ==== Sys2Proof/Machine/Ops.lean ====
section
/-!
DEFINITION. Sys2Proof/Machine/Ops.lean: the named operations every meaning is built from: register fields, time, free values,
device memory, event counters (R645–R653), MSI-X vectors and block events (R496–R498), sideband alerts (R512), the fault
log (R654, R655) and CXL event records (R495).
-/

namespace Sys2Proof.Machine

/-! ### Register fields -/

def State.get (s : State) (f : Fld) : Nat := s.regs.get f

def State.put (s : State) (f : Fld) (v : Nat) : State := { s with regs := s.regs.put f v }

/-- A counter moved on by `n`, stopping at all ones. -/
def State.count (s : State) (f : Fld) (n : Nat) : State := s.put f (satAdd f.w (s.get f) n)

def State.setBit (s : State) (f : Fld) (b : Nat) : State := s.put f (orBits (s.get f) (2 ^ b))

def State.clrBit (s : State) (f : Fld) (b : Nat) : State := s.put f (clearBits (s.get f) (2 ^ b))

/-- The 32-bit word the stored fields at an offset make (R17). -/
def State.regWord (s : State) (off : Nat) : Nat := ((fieldsAt off).map (fun f => s.get f * 2 ^ f.lo)).sum

/-- Every stored field at an offset takes its bits of `w`, whatever its access code. -/
def State.setRegWord (s : State) (off w : Nat) : State :=
  (fieldsAt off).foldl (fun t f => t.put f (bits w f.lo f.w)) s

/-- Fields put in turn. -/
def State.puts (s : State) (l : List (Fld × Nat)) : State := l.foldl (fun t p => t.put p.1 p.2) s

def State.emit (s : State) (o : Out) : State := { s with out := o :: s.out }

/-- The next free value, and the state in which it has been used. -/
def State.free (s : State) : Nat × State := (Config.free s.freeIx, { s with freeIx := s.freeIx + 1 })

/-! ### Captured high words (R17)

Accessors: 0 the host by either half, 2 the sideband, 3 the island's REG_READ, 4 the debug path, 5 the tile window. A word is kept as its value plus one, so
that one never captured is not listed. -/

def State.capture (s : State) (accessor off v : Nat) : State :=
  { s with caps := SMap.set 0 s.caps (accessor * 2 ^ 28 + off) (v + 1) }

/-- The captured word, if its low word has been read. -/
def State.captured (s : State) (accessor off : Nat) : Option Nat :=
  match SMap.get 0 s.caps (accessor * 2 ^ 28 + off) with
  | 0 => none
  | v + 1 => some v

/-! ### Package state -/

/-- An immediate stop is in progress: the package keeps its state's name until EN_VIO falls and does nothing of what that state
allows (R117, R137, R140, R141). -/
def State.stopping (s : State) : Bool := s.pwr.lowering == .stop

/-- HELD, READY, OVERCAST, BENCH. -/
def State.running (s : State) : Bool :=
  !s.stopping &&
  match s.pwr.state with
  | .held | .ready | .overcast | .bench => true
  | _ => false

/-- DAWN, while its steps run. -/
def State.dawning (s : State) : Bool := s.pwr.state == .dawn && !s.stopping

/-- The condition Running of R72: HELD, READY, OVERCAST, BENCH, or DUSK. -/
def State.powered (s : State) : Bool := s.running || s.pwr.state == .dusk

/-- READY or OVERCAST, or BENCH: static and dynamic work may start (R356, R360). -/
def State.working (s : State) : Bool :=
  !s.stopping &&
  match s.pwr.state with
  | .ready | .overcast | .bench => true
  | _ => false

/-- The control die is powered and out of reset: DAWN past step 2, a running state, or DUSK. -/
def State.controlUp (s : State) : Bool := s.pwr.released

def State.isBench (s : State) : Bool := s.pwr.state == .bench && !s.stopping

/-- The island takes what the island link carries: the link is up and VCORE is in its range (R54). -/
def State.linkOpen (s : State) : Bool := s.isl.linkUp && s.pwr.railGood.getLsbD 1

/-- The island link drops; a trim window that runs then is discarded at its end (R166). -/
def IslSt.linkDropped (x : IslSt) : IslSt := { x with linkUp := false, trimSpoilt := x.trimSpoilt || x.linkUp }

/-- No frame-mark pulses arrive: the energy of the frame still open goes to overhead (R567). -/
def State.pulsesStop (s : State) : State :=
  { s with mtr := { s.mtr with openFrame := none, openEnergy := 0, ovhElec := s.mtr.ovhElec + s.mtr.openEnergy } }

/-- The island answers: its supply is present and its firmware or boot ROM runs. -/
def State.islandUp (s : State) : Bool := s.isl.booted && s.isl.mode != .cold

/-- Stage-2 firmware failed its check: outside BENCH the package serves memory only (R126, R502). -/
def State.memoryOnly (s : State) : Bool :=
  bitAt (s.get R.GEN_HOLD_CAUSE_causes) 1 && s.get R.GEN_HOLD_CAUSE_auth_image == 0 && !s.isBench

/-- The register block with this number of R156 is powered and its clock runs; those that need stage-2 are closed without it
(R156, R502). -/
def State.blockUp (s : State) (n : Nat) : Bool :=
  s.controlUp && !s.clk.gated.getLsbD n && !(s.memoryOnly && decide ((4 ≤ n ∧ n ≤ 10) ∨ n = 13))

/-- Nominal ticks in a millisecond (R3). -/
def ticksPerMs : Nat := 125000

/-! ### Horizon time -/

/-- The tick of the local frame, held at the last one while the mark is late (R687). -/
def State.tick (s : State) : Nat := if s.hzn.counting then min 2047 (s.now - s.hzn.markAt) else 0

def State.frame (s : State) : Nat := s.hzn.frame

/-- Frame and tick as one number. -/
def State.horizon (s : State) : Nat := s.hzn.frame * 2048 + s.tick

/-- The next frame mark is the quiesce mark Q of the image in this slot (R196, R199). -/
def State.quiesceDue (s : State) (slot : Nat) : Bool :=
  s.img.load.any (fun l => (l.phase == 8 || l.phase == 10) && l.quiesce.isNone && l.slot == some slot) ||
  s.img.unloads.contains (slot, none)

/-! ### MSI-X and event counters -/

def State.half (s : State) (h : Fin 2) : HalfSt := s.host.halves[h]

def State.setHalf (s : State) (h : Fin 2) (x : HalfSt) : State :=
  { s with host := { s.host with halves := s.host.halves.set h x } }

def halfOf (n : Nat) : Fin 2 := if n = 0 then 0 else 1

/-- The half a vector is sent on (R496). -/
def State.route (s : State) (v : Nat) : Fin 2 :=
  halfOf (b2n (if v < 32 then bitAt (s.get R.HOST_VEC_ROUTE_LO) v else bitAt (s.get R.HOST_VEC_ROUTE_HI) (v - 32)))

/-- The half can send vector `v` now (R496). -/
def HalfSt.canSend (h : HalfSt) (v : Nat) : Bool :=
  h.up && h.msixEnable && !h.msixMask && !h.d3 && !h.vecMask.getLsbD v

/-- Vector `v` is sent, or pends on its half (R496). The flag says whether a message left. -/
def State.sendRaw (s : State) (v : Nat) : State × Bool :=
  let h := s.route v
  let x := s.half h
  if x.canSend v then (s.emit (.msix h.val v), true)
  else (s.setHalf h { x with pba := x.pba ||| BitVec.twoPow 64 v }, false)

/-- The counter's 48-bit value. -/
def State.pmuCount (s : State) (n : Nat) : Nat := s.get (R.PMU_CNT_LO n) + 2 ^ 32 * s.get (R.PMU_CNT_HI n)

def State.setPmuCount (s : State) (n v : Nat) : State :=
  (s.put (R.PMU_CNT_LO n) v).put (R.PMU_CNT_HI n) (v / 2 ^ 32)

/-- Counter `n` runs, counts event `code`, and its filter admits `ctx`, a slot that is not FREE (R645, R647). -/
def State.pmuTakes (s : State) (n code : Nat) (ctx : Option Nat) : Bool :=
  bitAt (s.get R.PMU_RUN) n && s.get (R.PMU_CFG_event n) == code &&
  (s.get (R.PMU_CFG_ctx_en n) == 0 ||
    (ctx == some (s.get (R.PMU_CFG_ctx n)) && s.get (R.CTX_STAT_state (s.get (R.PMU_CFG_ctx n))) != 0))

/-- One counter moved on, wrapping at 2^48; the flag says that it wrapped with its interrupt enabled (R653). -/
def State.pmuBump (s : State) (n inc : Nat) : State × Bool :=
  let v := s.pmuCount n + inc
  let s1 := s.setPmuCount n (v % 2 ^ 48)
  if v < 2 ^ 48 then (s1, false)
  else (s1.setBit R.PMU_OVF n, bitAt (s.get R.PMU_OVF_IRQ_EN) n)

/-- Every counter that takes the event moves on. -/
def State.pmuAdd (s : State) (code : Nat) (ctx : Option Nat) (inc : Nat) : State × Bool :=
  if s.get R.PMU_RUN = 0 then (s, false)
  else (List.range 32).foldl
    (fun p n => if p.1.pmuTakes n code ctx then let q := p.1.pmuBump n inc; (q.1, p.2 || q.2) else p) (s, false)

/-- PMU_EVT.overflow becomes set; the vector it sends is itself counted (R498, R650 code 0xE7, R653). -/
def State.pmuOverflow (s : State) : State :=
  if bitAt (s.get R.PMU_EVT) 0 then s
  else
    let s1 := s.setBit R.PMU_EVT 0
    if bitAt (s1.get R.PMU_IRQ_EN) 0 then
      let p := s1.sendRaw (s1.get R.HOST_IRQ_MAP2_pmu)
      if p.2 then (p.1.pmuAdd 0xE7 none 1).1 else p.1
    else s1

/-- Event `code`, caused by context slot `ctx` where it has one, happened `inc` times (R645–R653). -/
def State.pmu (s : State) (code : Nat) (ctx : Option Nat) (inc : Nat) : State :=
  let p := s.pmuAdd code ctx inc
  if p.2 then p.1.pmuOverflow else p.1

/-- A vector sent once (R496), counted as event 0xE7. -/
def State.send (s : State) (v : Nat) : State :=
  let p := s.sendRaw v
  if p.2 then p.1.pmu 0xE7 none 1 else p.1

/-- Pending vectors of a half that can be sent now (R496). -/
def State.flushPba (s : State) (h : Fin 2) : State :=
  (List.range 64).foldl (fun t v =>
    let x := t.half h
    if x.pba.getLsbD v && x.canSend v then
      ((t.setHalf h { x with pba := x.pba &&& ~~~(BitVec.twoPow 64 v) }).emit (.msix h.val v)).pmu 0xE7 none 1
    else t) s

/-! ### Energy charges (R566) -/

/-- A slot's charge in a frame moved by some tenths of a W·tick. -/
def State.addCharge (s : State) (slot frame : Nat) (amount : Int) : State :=
  let here := fun (c : Charge) => c.slot == slot && c.frame == frame
  let moved := fun (n : Nat) => ((n : Int) + amount).toNat
  if s.charges.any here then
    { s with charges := s.charges.map (fun c => if here c then { c with amount := moved c.amount } else c) }
  else { s with charges := s.charges ++ [⟨slot, frame, moved 0⟩] }

/-! ### Device memory -/

/-- The byte at a device address; an address nothing has written reads 0. -/
def Memory.get (m : List Host.Cell) (a : Nat) : Byte := SMap.get 0 m a

def Memory.set (m : List Host.Cell) (a : Nat) (b : Byte) : List Host.Cell := SMap.set 0 m a b

/-- `n` bytes from `a` on. -/
def Memory.read (m : List Host.Cell) (a n : Nat) : List Byte := (List.range n).map (fun i => Memory.get m (a + i))

/-- Bytes stored from `a` on. -/
def Memory.write : List Host.Cell → Nat → List Byte → List Host.Cell
  | m, _, [] => m
  | m, a, b :: bs => Memory.write (Memory.set m a b) (a + 1) bs

/-- The canonical form: addresses strictly rising, no byte that an unlisted address reads as. -/
def Memory.wf (m : List Host.Cell) : Bool := SMap.wf (0 : Byte) m

def State.readMem (s : State) (a n : Nat) : List Byte := Memory.read s.mem a n

/-- Bytes stored into DRAM; a whole line written clears its poison mark (R491). -/
def State.writeMem (s : State) (a : Nat) (bs : List Byte) : State :=
  { s with mem := Memory.write s.mem a bs,
           poison := s.poison.filter (fun l => !(decide (a ≤ 64 * l ∧ 64 * l + 64 ≤ a + bs.length))) }

/-- A number of `n` bytes in DRAM. -/
def State.readNum (s : State) (a n : Nat) : Nat := ofLE (s.readMem a n)

/-- A poisoned line lies in `[a, a + n)` (R491). -/
def State.poisoned (s : State) (a n : Nat) : Bool := s.poison.any (fun l => decide (64 * l < a + n ∧ a < 64 * l + 64))

/-- The stack of a line, free: the spec does not give the interleave of the two stacks. -/
def stackOf (a : Nat) : Nat := Config.stackOf (a / 64) % 2

/-! ### DPA map (R486) -/

def dataEnd : Nat := 0xBE0000000
def cmdBase : Nat := 0xBE0000000
def cmdEnd : Nat := 0xBF0000000
def shadowBase : Nat := 0xBF0000000
def stagingBase : Nat := 0xBF4000000
def weightBase : Nat := 0xC00000000
def weightEnd : Nat := 0xC40000000

/-- The data and command windows cleared to zero (R119 step 7, R499). -/
def State.clearWindows (s : State) : State :=
  { s with mem := SMap.clearRange s.mem 0 cmdEnd, poison := s.poison.filter (fun l => decide (cmdEnd ≤ 64 * l)) }

end Sys2Proof.Machine
end

