-- ==== Sys2Proof/Machine/Flags.lean ====
section
/-!
DEFINITION. Sys2Proof/Machine/Flags.lean: how the package's event flags, fault log, sideband alerts and CXL event records become set
(R491, R495, R497, R498, R512, R654–R656).
-/

namespace Sys2Proof.Machine

/-! ### Block events -/

/-- Bit `b` of an event register becomes set; when it was clear and its enable is 1, the block's vector is sent once
(R498). -/
def State.raise (s : State) (evt en : Fld) (vec b : Nat) : State :=
  if bitAt (s.get evt) b then s
  else
    let s1 := s.setBit evt b
    if bitAt (s1.get en) b then s1.send vec else s1

def State.raiseHzn (s : State) (b : Nat) : State := s.raise R.HZN_EVT R.HZN_IRQ_EN (s.get R.HOST_IRQ_MAP0_hzn) b
def State.raiseImg (s : State) (b : Nat) : State := s.raise R.IMG_EVT R.IMG_IRQ_EN (s.get R.HOST_IRQ_MAP0_img) b
def State.raiseSeq (s : State) (q b : Nat) : State :=
  s.raise (R.SEQ_EVT q) (R.SEQ_IRQ_EN q) (s.get R.HOST_IRQ_MAP1_seq) b
def State.raiseFix (s : State) (b : Nat) : State :=
  s.raise R.TILE_FIX_EVT R.TILE_FIX_IRQ_EN (s.get R.HOST_IRQ_MAP1_fix) b
def State.raiseFab (s : State) (b : Nat) : State := s.raise R.FAB_EVT R.FAB_IRQ_EN (s.get R.HOST_IRQ_MAP1_fab) b
def State.raiseThm (s : State) (b : Nat) : State := s.raise R.THM_EVT R.THM_IRQ_EN (s.get R.HOST_IRQ_MAP1_thm) b
def State.raisePmu (s : State) (b : Nat) : State := s.raise R.PMU_EVT R.PMU_IRQ_EN (s.get R.HOST_IRQ_MAP2_pmu) b
def State.raiseIsl (s : State) (b : Nat) : State := s.raise R.ISL_EVT R.ISL_IRQ_EN (s.get R.HOST_IRQ_MAP2_isl) b
def State.raiseCtx (s : State) (b : Nat) : State := s.raise R.CTX_EVT R.CTX_IRQ_EN_en (s.get R.CTX_IRQ_EN_vector) b
/-- HOST_EVT bits 0–9 use the host vector, bits 10–11 the power vector (R497). -/
def State.raiseHost (s : State) (b : Nat) : State :=
  s.raise R.HOST_EVT R.HOST_IRQ_EN (if b < 10 then s.get R.HOST_IRQ_MAP2_host else s.get R.HOST_IRQ_MAP0_power) b
/-- A ring event sends CMD_IRQ_EN.vector when CMD_IRQ_EN.en is 1 (R497). -/
def State.raiseRing (s : State) (c b : Nat) : State :=
  if bitAt (s.get (R.CMD_RING_EVT c)) b then s
  else
    let s1 := s.setBit (R.CMD_RING_EVT c) b
    if s1.get R.CMD_IRQ_EN_en = 1 then s1.send (s1.get R.CMD_IRQ_EN_vector) else s1

/-! ### Fault log -/

/-- R655's entry as 128 bits. -/
def flogEntry (source code detail : Nat) (ctx : Option Nat) (seq frame tick : Nat) : Nat :=
  (source % 16 + 2 ^ 4 * (code % 256) + 2 ^ 12 * (detail % 65536)) +
  2 ^ 32 * ((match ctx with | some c => c % 64 + 64 | none => 0) + 2 ^ 16 * (seq % 65536)) +
  2 ^ 64 * (frame % 2 ^ 48) + 2 ^ 112 * (tick % 2048)

/-- A new entry; a full log loses its oldest (R654). -/
def State.flogAdd (s : State) (source code detail : Nat) (ctx : Option Nat) : State :=
  let e := flogEntry source code detail ctx s.flogSeq s.frame s.tick
  let s1 := { s with flogSeq := (s.flogSeq + 1) % 65536 }
  if s.flog.length < 256 then { s1 with flog := s.flog ++ [e] }
  else ({ s1 with flog := s.flog.tail ++ [e] }).count R.GEN_FLOG_STAT_lost 1

/-- A clock event; each newly set bit is logged under source 7 (R656). -/
def State.raiseClk (s : State) (b : Nat) : State :=
  if bitAt (s.get R.CLK_EVT) b then s
  else (s.raise R.CLK_EVT R.CLK_IRQ_EN (s.get R.HOST_IRQ_MAP0_clk) b).flogAdd 7 b 0 none

/-! ### Sideband alerts and CXL event records -/

/-- HOST_SB_ALERT bit `b` becomes set; a newly set bit takes ALERT_N back (R512). -/
def State.alert (s : State) (b : Nat) : State :=
  if bitAt (s.get R.HOST_SB_ALERT) b then s
  else { s.setBit R.HOST_SB_ALERT b with host := { s.host with alertReleased := false } }

/-- An event record in both halves' logs (R491, R495): log 0 Memory Module, 3 General Media. A half whose interrupt policy
for the log is 1 asks for the host vector. -/
def State.logEvent (s : State) (log what arg : Nat) : State :=
  let wanted := s.host.halves.toList.any (fun h => decide ((h.policy.getD log 0).toNat % 4 = 1))
  let s := if wanted then s.send (s.get R.HOST_IRQ_MAP2_host) else s
  { s with host := { s.host with
      halves := s.host.halves.map (fun h =>
        { h with events := h.events ++ [⟨h.nextHandle, log, what, arg⟩], nextHandle := h.nextHandle + 1 }) } }

end Sys2Proof.Machine
end

