-- ==== Sys2Proof/Machine/Gate.lean ====
section
/-!
DEFINITION. Sys2Proof/Machine/Gate.lean: clock gating (R156–R158, R173): which blocks can be gated, when one is idle, and when a request
takes effect.
-/

namespace Sys2Proof.Machine

/-- The block's clock can be gated (R156). -/
def gateable (n : Nat) : Bool := decide ((4 ≤ n ∧ n ≤ 10) ∨ n = 13)

/-- The idle condition of a gateable block (R156). -/
def State.gateIdle (s : State) (n : Nat) : Bool :=
  match n with
  | 4 => s.img.load.isNone && s.img.arriving.isNone
  | 5 => s.img.resident.all (fun x => !x.2.armed) && s.seqs.toList.all (fun q => decide (q.mode = .halted)) &&
      s.descs.all (fun d => match d.phase with | .granted .. => false | _ => true)
  | 6 => s.tiles.all (fun x => x.2.owner.isNone)
  | 7 | 8 | 9 => (List.range 64).all (fun c => s.get (R.CTX_STAT_state c) == 0)
  | 10 => s.fab.ports.toList.all (fun p => decide (p.state = .dark))
  | 13 => s.get R.PMU_RUN == 0 && (List.range 4).all (fun k => s.get (R.PMU_TRIG_CFG_armed k) == 0)
  | _ => false

/-- Waiting requests whose blocks are idle take effect (R157). -/
def State.gateTake (s : State) : State :=
  if s.clk.gatePending = 0 then s
  else
    let ns := (List.range 15).filter (fun n => s.clk.gatePending.getLsbD n && s.gateIdle n)
    let m := ns.foldl (fun (a : BitVec 15) n => a ||| BitVec.twoPow 15 n) 0
    { s with clk := { s.clk with gated := s.clk.gated ||| m, gatePending := s.clk.gatePending &&& ~~~m } }

/-- At a frame mark. -/
def State.gateMark (s : State) : State := s.gateTake

/-- In DAWN before horizon is LOCKED a request waits for no mark. -/
def State.gateDawn (s : State) : State :=
  if s.pwr.state = .dawn ∧ s.hzn.lock ≠ .locked then s.gateTake else s

/-- A write of 0 to CLK_GATE.en bit `n`: a request, or one to follow an ungating in progress (R157, R158). -/
def State.gateRequest (s : State) (n : Nat) : State :=
  if !gateable n then s
  else
    let m := BitVec.twoPow 15 n
    let s1 := s.clrBit R.CLK_GATE_en n
    if s1.clk.ungating.getLsbD n then { s1 with clk := { s1.clk with gateAfter := s1.clk.gateAfter ||| m } }
    else if s1.clk.gated.getLsbD n then s1
    else ({ s1 with clk := { s1.clk with gatePending := s1.clk.gatePending ||| m } }).gateDawn

/-- A write of 1: a pending request is cancelled; a gated block begins to ungate (R157, R158). -/
def State.ungate (s : State) (n : Nat) : State :=
  if !gateable n then s
  else
    let m := BitVec.twoPow 15 n
    let s1 := s.setBit R.CLK_GATE_en n
    { s1 with clk := { s1.clk with gatePending := s1.clk.gatePending &&& ~~~m, gateAfter := s1.clk.gateAfter &&& ~~~m,
                                   ungating := if s1.clk.gated.getLsbD n then s1.clk.ungating ||| m else s1.clk.ungating } }

/-- The ungating of a block completes; a write of 0 made meanwhile counts as a new request (R158). -/
def State.ungateDone (s : State) (n : Nat) : State :=
  if !s.clk.ungating.getLsbD n then s
  else
    let m := BitVec.twoPow 15 n
    let again := s.clk.gateAfter &&& m
    ({ s with clk := { s.clk with gated := s.clk.gated &&& ~~~m, ungating := s.clk.ungating &&& ~~~m,
                                  gateAfter := s.clk.gateAfter &&& ~~~m, gatePending := s.clk.gatePending ||| again } }).gateDawn

end Sys2Proof.Machine
end

