-- ==== Sys2Proof/Machine/HostMem.lean ====
section
/-!
DEFINITION. Sys2Proof/Machine/HostMem.lean: where a CXL.mem request goes (R486–R490), and lines of device DRAM as every user of them
reads and writes them (R491, R650).
-/

namespace Sys2Proof.Machine

/-- DRAM events of one line's stack (R650): 0 read, 1 written, 2 compensated add, 3 corrected, 4 uncorrectable, 6 context lines,
7 host lines. -/
def State.pmuLine (s : State) (i a n : Nat) : State := s.pmu (0x70 + 8 * stackOf a + i) none n

/-- Lines of `[a, a + n)` counted one by one. -/
def State.pmuLines (s : State) (i a n : Nat) : State :=
  if s.get R.PMU_RUN = 0 then s
  else (List.range ((a + n + 63) / 64 - a / 64)).foldl (fun t k => t.pmuLine i (64 * (a / 64 + k)) 1) s

/-- DPA base of decoder `i`: what lies below it and its own skip (R487). -/
def dpaBase (ds : List Decoder) (i : Nat) : Nat :=
  ((ds.take i).map (fun d => d.skip + d.size)).sum + (ds.getD i ⟨false, 0, 0, 0⟩).skip

/-- The device address of a host address on a half: by its decoders, or by the DVSEC ranges where they govern: under CXL 1.1, and
before HDM Decoder Enable (R487, R488). -/
def HalfSt.dpa (h : HalfSt) (hpa : Nat) : Option Nat :=
  if h.hdmEnable && decide (2 ≤ h.protocol) then
    (List.range 4).findSome? (fun i =>
      let d := h.decoders.toList.getD i ⟨false, 0, 0, 0⟩
      if d.committed = true ∧ d.base ≤ hpa ∧ hpa < d.base + d.size then some (dpaBase h.decoders.toList i + (hpa - d.base)) else none)
  else
    let at1 := h.range1.bind (fun b => if b ≤ hpa ∧ hpa < b + dataEnd then some (hpa - b) else none)
    let at2 := h.range2.bind (fun b => if b ≤ hpa ∧ hpa < b + (weightEnd - dataEnd) then some (dataEnd + (hpa - b)) else none)
    at1.orElse (fun _ => at2)

/-- The half takes CXL.mem requests (R119 step 11, R483, R500). -/
def State.memServes (s : State) (h : Fin 2) : Bool :=
  (s.half h).up && (s.half h).protocol != 0 && s.get R.GEN_READY_mem_active == 1

/-- A CXL reset runs: reads return poison and writes are dropped (R501). -/
def State.inCxlReset (s : State) : Bool := s.pwr.warm && s.pwr.cxlReset

/-- The claimed line of a request: the reserved DRAM is claimed by no one (R489). -/
def State.claimed (s : State) (h : Fin 2) (hpa : Nat) : Option Nat :=
  if s.inCxlReset then none
  else match (s.half h).dpa hpa with
    | none => none
    | some a => if cmdEnd ≤ a ∧ a < weightBase then none else some (a / 64 * 64)

/-- An unclaimed request is counted (R489); during a CXL reset only the dropped writes are (R501). -/
def State.unclaimedReq (s : State) (write : Bool) : State :=
  if s.inCxlReset then if write then s.count R.HOST_CNT1_unclaimed 1 else s
  else ((s.count R.HOST_CNT1_unclaimed 1).raiseHost 5).pmu 0xE8 none 1

/-- The bytes of a line whose enables are set are stored; a whole line clears the poison mark (R490, R491). -/
def State.writeEnabled (s : State) (a : Nat) (data : List Byte) (be : Nat) : State :=
  if be % 2 ^ 64 = 2 ^ 64 - 1 then s.writeMem a data
  else { s with mem := (List.range 64).foldl (fun m i => if bitAt be i then Memory.set m (a + i) (data.getD i 0) else m) s.mem }

/-- A line becomes poisoned (R491). -/
def State.poisonLine (s : State) (a : Nat) : State :=
  { s with poison := (s.poison.filter (fun l => decide (l < a / 64))) ++ a / 64 :: s.poison.filter (fun l => decide (a / 64 < l)) }

/-- A claimed write to DRAM (R490, R491). The command window of a gated CMD block takes none (R159). -/
def State.dramWrite (s : State) (a : Nat) (data : List Byte) (be : Nat) (poison : Bool) : State :=
  if s.clk.gated.getLsbD 7 = true ∧ cmdBase ≤ a ∧ a < cmdEnd then s else
  let s1 := ((s.writeEnabled a data be).pmuLine 1 a 1).pmuLine 7 a 1
  if poison then (s1.poisonLine a).count R.HOST_CNT0_poison_writes 1 else s1

/-- A host read that returns poison from DRAM is counted (R491). -/
def State.poisonRead (s : State) : State := ((s.count R.HOST_CNT0_poison_reads 1).raiseHost 4).pmu 0xE9 none 1

/-- A host read of a DRAM line (R491): `ecc` 0 good, 1 corrected, 2 uncorrectable. -/
def State.memReadLine (s : State) (h : Fin 2) (a ecc : Nat) : State :=
  let s1 := (s.pmuLine 0 a 1).pmuLine 7 a 1
  if ecc = 2 then
    ((((s1.poisonRead.pmuLine 4 a 1).flogAdd 6 (stackOf a) 0 none).logEvent 3 5 a).emit (.line h.val (List.replicate 64 0) true))
  else
    let s2 := if ecc = 1 then (s1.count R.HOST_CNT1_corrected 1).pmuLine 3 a 1 else s1
    if s2.poisoned a 64 then s2.poisonRead.emit (.line h.val (s2.readMem a 64) true)
    else s2.emit (.line h.val (s2.readMem a 64) false)

end Sys2Proof.Machine
end

