-- ==== Sys2Proof/Machine/Analog.lean ====
section
/-!
DEFINITION. Sys2Proof/Machine/Analog.lean: one exposure of a tile as spec/07 states it: operands and bit-planes (R207,
R243, R244), the ideal column value, the trims (R223), the decision levels and their curve (R214, R216), averaging (R219),
the fog columns (R220–R222), the group sum and commit value (R247, R248), the bank rules (R271, R272), the curves of
R322 and R324, the drift estimate (R325, R327) and the error model (R226–R228), whose rms terms enter as free values and whose
limits bound free ones.
-/

namespace Sys2Proof.Machine

/-- The integer a free value stands for. -/
def freeInt (n : Nat) : Int := if n % 2 = 0 then ((n / 2 : Nat) : Int) else -(((n + 1) / 2 : Nat) : Int)

/-- A free value in units of 2^−20, and one within ±`m` of 0. -/
def freeRat (n : Nat) : Rat := (freeInt n : Rat) / (2 ^ 20 : Rat)
def boundedInt (m n : Nat) : Int := ((n % (2 * m + 1) : Nat) : Int) - m

/-- The operand of an activation code: INT8 with its zero point (R243), INT4 (R244). -/
def operandOf (int4 : Bool) (code zp : Nat) : Int :=
  if int4 then toSigned 4 code else (code : Int) - (zp : Int)

/-- Planes of the format (R207) and the weight of plane b (R243, R244). -/
def planesOf (int4 : Bool) : Nat := if int4 then 4 else 9
def planeWeight (int4 : Bool) (b : Nat) : Int :=
  if b + 1 = planesOf int4 then -(2 ^ b) else 2 ^ b

/-- Plane b of an operand (two's complement). -/
def planeBit (int4 : Bool) (a : Int) (b : Nat) : Bool := bitAt (fromSigned (planesOf int4) a) b

/-- A curve evaluated at `x`: linear between points, the ends held, halves away from zero (R216, R322). -/
def curveAt : List (Int × Int) → Int → Int
  | [], _ => 0
  | [p], _ => p.2
  | p :: q :: l, x =>
    if x ≤ p.1 then p.2
    else if x ≤ q.1 then roundHalfAway (p.2 * (q.1 - x) + q.2 * (x - p.1)) (q.1 - p.1)
    else curveAt (q :: l) x

/-- The points of the curve with an id, none when absent. -/
def curveWith (cs : List Curve) (id : Nat) : List (Int × Int) :=
  match cs.find? (fun c => c.id == id) with
  | some c => c.points
  | none => []

/-- The trims of a column in one mode. -/
structure Trim where
  dodge : Int
  burn : Int
  deriving DecidableEq, Repr

/-- The trims a packed TILE_TRIM word holds for ACC32 or ACC16 (R223). -/
def trimOf (w : Nat) (acc16 : Bool) : Trim :=
  if acc16 then ⟨toSigned 8 (bits w 16 8), toSigned 6 (bits w 24 6)⟩
  else ⟨toSigned 8 (bits w 0 8), toSigned 6 (bits w 8 6)⟩

/-- A gain of `g` units of 2^−20 (R323, R326). -/
def gainOf (g : Int) : Rat := ((2 ^ 20 + g : Int) : Rat) / (2 ^ 20 : Rat)

/-- A charge of `x` cu in LSB at shift `s`, under the trims against the contact sheet's (R223). -/
def trimmedLSB (x : Rat) (s : Nat) (t cs : Trim) : Rat :=
  x * ((1024 + t.dodge : Int) : Rat) / ((1024 + cs.dodge : Int) : Rat) / (2 ^ s : Rat) + ((t.burn - cs.burn : Int) : Rat) / 8

/-- Read noise of conversion number `ix` (R226), in LSB at shift `s`: free, since only its rms is stated. -/
def readNoise (ix s : Nat) : Rat := freeRat (Config.free ix) / (2 ^ s : Rat)

/-- The systematic terms of R227 for a reading of `v` LSB at shift `s`: offset within ±0.25 LSB, gain within ±0.2 % and ±0.26 LSB,
non-linearity within ±0.5 LSB, temperature within ±0.25 LSB at s_ref (R228). The drift term is what the cells have lost. -/
def systematic (t c : Nat) (acc16 : Bool) (v : Rat) (s sref temp : Nat) : Rat :=
  let mode := b2n acc16
  let gain := v * ((boundedInt 2000 (Config.columnError 1 t c mode) : Int) : Rat) / 1000000
  ((boundedInt (2 ^ 18) (Config.columnError 0 t c mode) : Int) : Rat) / (2 ^ 20 : Rat) +
    max (-(26 / 100)) (min (26 / 100) gain) +
    ((boundedInt (2 ^ 19) (Config.columnError 2 t c (2 * (v.floor + 2 ^ 20).toNat + mode)) : Int) : Rat) / (2 ^ 20 : Rat) +
    ((boundedInt (2 ^ 18) (Config.columnError 3 t c temp) : Int) : Rat) / (2 ^ 20 : Rat) * (2 ^ sref : Rat) / (2 ^ s : Rat)

/-- The code and clip flag of R214, with the boundaries shifted by the CURVE_ADC points (R216). -/
def develop (curve : List (Int × Int)) (v : Rat) : Int × Bool :=
  if v < 255 / 2 ∧ -(255 / 2) < v then
    let n := (List.range 254).foldl (fun n i =>
      let k : Int := (i : Int) - 126
      let boundary : Rat := (k : Rat) - 1 / 2 + ((curveAt curve k : Int) : Rat) / 64
      if boundary ≤ v then n + 1 else n) 0
    ((n : Int) - 127, false)
  else (if 0 < v then 127 else -127, true)

/-- The averaged code of R219. -/
def averaged (codes : List (Int × Bool)) : Int × Bool :=
  let m := codes.length
  let s := codes.foldl (fun a c => a + c.1) 0
  (Int.fdiv (s + ((m / 2 : Nat) : Int)) (max m 1), codes.any Prod.snd)

/-- Level of fog column f in data row r (R220). -/
def fogLevel (f r : Nat) : Int :=
  match f with
  | 0 => 7 | 1 => 4 | 2 => 1 | 3 => 0 | 4 => -1 | 5 => -4 | 6 => -7
  | _ => if r % 2 = 0 then 7 else -7

/-- The fixed fog shift of a row group (R221). -/
def fogShift (rowGroup : Nat) : Nat := 1 + rowGroup

/-- The commit value of R248. -/
def commitValue (p : Int) (s s0 k : Nat) (high : Bool) : Int :=
  p * 2 ^ ((s - s0) + k + (if high then 4 else 0))

/-- A bank result stored under R271 or R272: the 32-bit register and whether the limit flag is set. -/
def bankStore (acc16 : Bool) (exact : Int) : Nat × Bool :=
  if acc16 then (fromSigned 32 (clampInt (-32768) 32767 exact), decide (exact < -32768 ∨ 32767 < exact))
  else (fromSigned 32 exact, decide (exact < -(2 ^ 31) ∨ 2 ^ 31 ≤ exact))

/-- The drift estimates of R325 from latched sums: d7, d4, d1, g_d, r; none when the window is thin. -/
def driftEstimate (curve : List (Int × Int)) (resid : Nat → Int) (expect0 : Nat) : Option (Int × Int × Int × Int × Nat) :=
  let a : Int := ((expect0 / 7 : Nat) : Int)
  if expect0 / 7 < 65536 then none else
  let sat := clampInt (-32768) 32767
  let d7 := sat (roundHalfAway ((resid 6 - resid 0) * 2 ^ 20) (14 * a))
  let d4 := sat (roundHalfAway ((resid 5 - resid 1) * 2 ^ 20) (8 * a))
  let d1 := sat (roundHalfAway ((resid 4 - resid 2) * 2 ^ 20) (2 * a))
  let gd := curveAt curve d7
  let r := max (max (d7 - gd).natAbs (d4 - gd).natAbs) (d1 - gd).natAbs
  some (d7, d4, d1, gd, min r 65535)

/-- R327: the fog columns show a gross fault. -/
def fogFaulty (resid : Nat → Int) (expect0 clips : Nat) : Bool :=
  let a := expect0 / 7
  decide (0 < clips) || decide (a < 2 * (resid 3).natAbs) || decide (a < 2 * (resid 7).natAbs)

end Sys2Proof.Machine
end

