-- ==== Sys2Proof/Machine/Pump.lean ====
section
/-!
DEFINITION. Sys2Proof/Machine/Pump.lean: conductances and program-verify: the nominal conductances of a level (R206, R220), the verify
windows (R309), what a verify read senses (R306, R307), the pulses and their amplitudes (R310), the pump's loop on a cell (R311)
and the fall of a conductance with time (R325).
-/

namespace Sys2Proof.Machine

/-! ### Conductances -/

/-- Nominal conductances of a level (R206), in 1/25,600 µS. -/
def nominalPlus (l : Int) : Nat := 25600 * (1 + l.toNat)
def nominalMinus (l : Int) : Nat := 25600 * (1 + (-l).toNat)

/-- Half-widths of the verify windows of a fix and of a refix, and the erase limit (R309): 0.04, 0.02 and 0.2 µS. -/
def fixWindow : Nat := 1024
def refixWindow : Nat := 512
def eraseLimit : Nat := 5120

/-- One cell's target: its nominal conductance, the window, and y_T, by which both the target and the cell scale (R309, R323). -/
structure CellTarget where
  nominal : Nat
  window : Nat
  yTemp : Int
  deriving DecidableEq, Repr

/-- 1 + y_T / 2^20, in units of 2^−20. -/
def tempScale (y : Int) : Nat := (2 ^ 20 + y).toNat

/-- A cell whose conductance at 25 °C is `g` verifies (R309). -/
def CellTarget.holds (c : CellTarget) (g : Nat) : Bool :=
  decide (((g : Int) - (c.nominal : Int)).natAbs * tempScale c.yTemp ≤ c.window * 2 ^ 20)

/-- A conductance inside the window, which one being free. -/
def CellTarget.landed (c : CellTarget) (ix : Nat) : Nat :=
  let m := c.window * 2 ^ 20 / tempScale c.yTemp
  c.nominal + Config.free ix % (2 * m + 1) - m

/-- The level a verify read senses (R306): the nearest to G+ − G−, referred to 25 °C. -/
def CellPair.level (p : CellPair) : Int := clampInt (-7) 7 (roundHalfAway ((p.plus : Int) - p.minus) 25600)

/-- G+ − G− as the conductance region reads it (R307), in 1/256 µS. -/
def CellPair.reading (p : CellPair) : Int := clampInt (-32768) 32767 (roundHalfAway ((p.plus : Int) - p.minus) 100)

/-- The pair's part of an exposure's charge when its row is active (R206, R213, R226), in 1/25,600 cu. -/
def CellPair.charge (p : CellPair) : Int := (p.plus : Int) - p.minus + p.resid

/-- What a cell has lost after `n` hours from hour `h` (R325: conductance falls). -/
def fallen (t cell h : Nat) : Nat → Nat
  | 0 => 0
  | n + 1 => fallen t cell h n + Config.drift t cell (h + n)

/-- Ticks of an hour. -/
def hourTicks : Nat := 450000000000

/-- The pair at instant `now`. -/
def CellPair.at (p : CellPair) (t key now : Nat) : CellPair :=
  let h := p.fixedAt / hourTicks
  let n := now / hourTicks - h
  { p with plus := p.plus - fallen t (2 * key) h n, minus := p.minus - fallen t (2 * key + 1) h n }

/-- A pair nothing has fixed since the last erase: a data pair's cells are below the erase limit, unless that erase left some above
it, whose pair then senses as level 0 (R206, R320, R321); a fog pair's are within the window of its level (R220); and after a write
that R201 forbids nothing is known. -/
def TileSt.blankPair (x : TileSt) (t row col : Nat) : CellPair :=
  let v := fun (i : Nat) => Config.blankCell t (if col < 512 then x.blanks else x.fogLost) (3 * (520 * row + col) + i)
  if col < 512 then
    match x.blank with
    | .erased => ⟨v 0 % eraseLimit, v 1 % eraseLimit, freeInt (v 2), 0⟩
    | .partly => ⟨v 0, v 0 + v 1 % 25600 - 12799, freeInt (v 2), 0⟩
    | .unknown => ⟨v 0, v 1, freeInt (v 2), 0⟩
  else if x.fogLost ≠ 0 then ⟨v 0, v 1, freeInt (v 2), 0⟩
  else
    let l := fogLevel (col - 512) row
    ⟨nominalPlus l + v 0 % (2 * fixWindow + 1) - fixWindow, nominalMinus l + v 1 % (2 * fixWindow + 1) - fixWindow, freeInt (v 2), 0⟩

/-- The key of a crosspoint in `TileSt.cells`. -/
def cellKey (row col : Nat) : Nat := 520 * row + col

/-- The pair of row `row` as driven (R302, R225) at instant `now`. -/
def TileSt.pair (x : TileSt) (t now row col : Nat) : CellPair :=
  match SMap.lookup x.cells (cellKey row col) with
  | some p => p.at t (cellKey row col) now
  | none => x.blankPair t row col

def TileSt.setPair (x : TileSt) (row col : Nat) (p : CellPair) : TileSt :=
  { x with cells := SMap.insert (SMap.erase x.cells (cellKey row col)) (cellKey row col) p }

/-! ### Pulses (R310) -/

/-- Amplitudes of iteration `n` in mV: SET from +1.20 V up to +2.00 V, RESET from −1.40 V down to −2.20 V, by 0.05 V an iteration. -/
def setMv (n : Nat) : Nat := min 2000 (1200 + 50 * n)
def resetMv (n : Nat) : Nat := min 2200 (1400 + 50 * n)

/-- A SET pulse raises a cell, a RESET pulse lowers it, by how much being free. -/
def setPulse (mv g ix : Nat) : Nat := g + Config.pulse true mv g ix
def resetPulse (mv g ix : Nat) : Nat := g - Config.pulse false mv g ix

/-! ### The loop of R311, on one cell -/

/-- `k` iterations from number `n` on: a cell below its window takes the SET phase, one above it the RESET phase, at the amplitude
the iteration has reached, and a cell that verifies takes no more. -/
def pumpIterations (c : CellTarget) (ix : Nat) : Nat → Nat → Nat → Nat
  | 0, _, g => g
  | k + 1, n, g =>
    pumpIterations c ix k (n + 1)
      (if c.holds g then g else if g < c.nominal then setPulse (setMv n) g (ix + n) else resetPulse (resetMv n) g (ix + n))

/-- At most `k` RESET pulses at −2.20 V, until the cell reads below 0.2 µS. -/
def resetToErase (ix : Nat) : Nat → Nat → Nat
  | 0, g => g
  | k + 1, g => if g < eraseLimit then g else resetToErase ix k (resetPulse 2200 g (ix + k))

/-- The first `a` attempts: 32 iterations each, and where the cell is still active at most 8 RESET pulses. -/
def pumpAttempts (c : CellTarget) (ix : Nat) : Nat → Nat → Nat
  | 0, g => g
  | a + 1, g =>
    let h := pumpIterations c (ix + 40 * a) 32 0 (pumpAttempts c ix a g)
    if c.holds h then h else resetToErase (ix + 40 * a + 32) 8 h

/-- How a segment's run went (R311): attempts that failed, iterations of the one that did not, and whether it verified. -/
structure PumpRun where
  attempts : Nat
  last : Nat
  verified : Bool
  deriving DecidableEq, Repr

/-- A run with three failed attempts: the segment has failed. -/
def PumpRun.failed : PumpRun := ⟨3, 0, false⟩

/-- A cell after its segment's run. One already in its window is never pulsed; a verified run leaves every cell in its window. -/
def pumpCell (c : CellTarget) (ix : Nat) (r : PumpRun) (g : Nat) : Nat :=
  if c.holds g then g
  else
    let h := pumpIterations c (ix + 40 * r.attempts) r.last 0 (pumpAttempts c ix r.attempts g)
    if r.verified && !c.holds h then c.landed (ix + 127) else h

/-- A pair after its segment's run, `p` being the pair as it stands now: pulsed cells take a new residual (R226). -/
def pumpPair (w : Nat) (y l : Int) (ix now : Nat) (r : PumpRun) (p : CellPair) : CellPair :=
  let a := pumpCell ⟨nominalPlus l, w, y⟩ ix r p.plus
  let b := pumpCell ⟨nominalMinus l, w, y⟩ (ix + 128) r p.minus
  if a = p.plus ∧ b = p.minus then { p with fixedAt := now } else ⟨a, b, freeInt (Config.free (ix + 255)), now⟩

end Sys2Proof.Machine
end

