-- ==== Sys2Proof/Machine/Sync.lean ====
section
/-!
DEFINITION. Sys2Proof/Machine/Sync.lean: contexts as the rest of the package sees them (R404–R408), the memory a context may access
(R407), and the sync objects with their signals, waits and timers (R431–R437).
-/

namespace Sys2Proof.Machine

/-! ### Contexts -/

/-- The package index (R27). -/
def State.ownPkg (s : State) : Nat := pkgIndex (s.get R.GEN_TOPO_rack) (s.get R.GEN_TOPO_sled) (s.get R.GEN_TOPO_slot)

/-- CTX_STAT.state of R405: 0 FREE, 1 ACTIVE, 2 SAVING, 3 RESTORING, 4 RELEASING. -/
def State.ctxState (s : State) (c : Nat) : Nat := s.get (R.CTX_STAT_state c)

/-- ACTIVE, SAVING or RELEASING (R405). -/
def State.ctxResident (s : State) (c : Nat) : Bool := [1, 2, 4].contains (s.ctxState c)

/-- The (tenant, job) pair of a slot (R404). -/
def State.ctxPair (s : State) (c : Nat) : Nat × Nat := (s.get (R.CTX_BIND_tenant c), s.get (R.CTX_BIND_job c))

/-- The lowest slot in one of these states that holds the pair. -/
def State.ctxWith (s : State) (states : List Nat) (pair : Nat × Nat) : Option Nat :=
  (List.range 64).find? (fun c => states.contains (s.ctxState c) && s.ctxPair c == pair)

def SavedCtx.pair (x : SavedCtx) : Nat × Nat := (x.tenant, x.job)

/-- The objects of a slot: from base up to but excluding base + count (R406). -/
def State.syncRange (s : State) (c : Nat) : Nat × Nat :=
  (s.get (R.CTX_SYNC_base c), s.get (R.CTX_SYNC_base c) + s.get (R.CTX_SYNC_count c))

/-- The used windows of a slot, in bytes (R406). -/
def State.windows (s : State) (c : Nat) : List (Nat × Nat) :=
  ((List.range 4).map (fun k => (65536 * s.get (R.CTX_WIN_base c k),
    65536 * (s.get (R.CTX_WIN_base c k) + s.get (R.CTX_WIN_len c k))))).filter (fun w => decide (w.1 < w.2))

def State.sqBase (s : State) (c : Nat) : Nat := s.get (R.CMD_SQ_BASE_LO c) + 2 ^ 32 * s.get (R.CMD_SQ_BASE_HI c)
def State.cqBase (s : State) (c : Nat) : Nat := s.get (R.CMD_CQ_BASE_LO c) + 2 ^ 32 * s.get (R.CMD_CQ_BASE_HI c)
def State.sqSize (s : State) (c : Nat) : Nat := 2 ^ s.get (R.CMD_RING_CFG_sq_log2 c)
def State.cqSize (s : State) (c : Nat) : Nat := 2 ^ s.get (R.CMD_RING_CFG_cq_log2 c)
def State.ringOn (s : State) (c : Nat) : Bool := s.get (R.CMD_RING_CTRL_en c) == 1

/-- The rings of a slot as ranges of offsets in the command window (R374). -/
def State.ringRanges (s : State) (c : Nat) : List (Nat × Nat) :=
  [(s.sqBase c, s.sqBase c + 256 * s.sqSize c), (s.cqBase c, s.cqBase c + 32 * s.cqSize c)]

/-- The memory a context may access (R407). -/
def State.accessOf (s : State) (c : Nat) : List (Nat × Nat) :=
  s.windows c ++ (if s.ringOn c then (s.ringRanges c).map (fun r => (cmdBase + r.1, cmdBase + r.2)) else [])

def State.mayAccess (s : State) (c lo hi : Nat) : Bool :=
  coveredFrom (s.accessOf c) ((s.accessOf c).length + 1) lo hi

/-! ### Objects -/

def State.syncVal (s : State) (o : Nat) : Nat := s.get (R.SYNC_VAL_value o)

/-- A signal of `v`: added modulo 65,536 (R431). -/
def State.signal (s : State) (o v : Nat) : State := s.put (R.SYNC_VAL_value o) (s.syncVal o + v)

/-- A wait for `w` holds (R431). -/
def State.waitHolds (s : State) (o w : Nat) : Bool := decide ((s.syncVal o + 65536 - w % 65536) % 65536 < 32768)

/-- The object lies in the range of a context of this slot. -/
def State.inRangeOf (s : State) (c o : Nat) : Bool := decide ((s.syncRange c).1 ≤ o ∧ o < (s.syncRange c).2)

/-- It lies in the range of an active or saved context (R433). -/
def State.syncOwned (s : State) (o : Nat) : Bool :=
  (List.range 64).any (fun c => s.ctxState c != 0 && s.inRangeOf c o) ||
  s.saved.any (fun x => decide (x.syncBase ≤ o ∧ o < x.syncBase + x.syncCount))

/-- Every object of a range back at 0 (R411, R412). -/
def State.syncClear (s : State) (base count : Nat) : State :=
  { s with regs := s.regs.resetRange (0x1C0000 + 4 * base) (0x1C0000 + 4 * (base + count)) }

/-- A remote signal on arrival (R434): applied when the object lies in the range of an active, saving or saved context of
that pair, and dropped and counted otherwise. A slot that is RESTORING counts as the saved context it restores. A gated block does
nothing (R156). -/
def State.remoteSignal (s : State) (pair : Nat × Nat) (o v : Nat) : State × Bool :=
  if !s.blockUp 9 then (s, false)
  else if (List.range 64).any (fun c => [1, 2, 3].contains (s.ctxState c) && s.ctxPair c == pair && s.inRangeOf c o) ||
      s.saved.any (fun x => x.pair == pair && decide (x.syncBase ≤ o ∧ o < x.syncBase + x.syncCount))
  then (s.signal o v, true)
  else ((s.count R.SYNC_CNT_dropped_remote 1).setBit R.SYNC_EVT 1, false)

/-- SYNC_SIGNAL (R433). -/
def execSyncSignal (obj : BitVec 12) (value : BitVec 16) (s : State) : Host.Outcome State Fault Refusal :=
  .next (if s.blockUp 9 && s.syncOwned obj.toNat then s.signal obj.toNat value.toNat else s)

/-- SYNC_VAL_WRITE (R433). -/
def execSyncValWrite (obj : BitVec 12) (value : BitVec 16) (s : State) : Host.Outcome State Fault Refusal :=
  .next (if s.blockUp 9 && s.syncOwned obj.toNat then s.put (R.SYNC_VAL_value obj.toNat) value.toNat else s)

/-! ### Timers (R435) -/

/-- Frame and tick of timer `k` as one number. -/
def State.timerAt (s : State) (k : Nat) : Nat :=
  2048 * (s.get (R.SYNC_TMR_LO_frame k) + 2 ^ 32 * s.get (R.SYNC_TMR_HI_frame k)) + s.get (R.SYNC_TMR_HI_tick k)

/-- The timer fires: it signals its object once and clears en. -/
def State.timerFire (s : State) (k : Nat) : State :=
  ((s.signal (s.get (R.SYNC_TMR_CFG_object k)) (s.get (R.SYNC_TMR_CFG_value k))).put (R.SYNC_TMR_CFG_en k) 0).setBit R.SYNC_EVT 0

/-- A write that enables timer `k`: refused where no context owns the object; fired at once, and counted, where its time
has passed. -/
def State.timerArm (s : State) (k o v : Nat) : State :=
  let s1 := s.puts [(R.SYNC_TMR_CFG_object k, o), (R.SYNC_TMR_CFG_value k, v)]
  if !s1.syncOwned o then (s1.put (R.SYNC_TMR_CFG_en k) 0).setBit R.SYNC_EVT 2
  else if s1.hzn.counting && decide (s1.timerAt k < s1.horizon) then (s1.timerFire k).count R.SYNC_CNT_late_timers 1
  else s1.put (R.SYNC_TMR_CFG_en k) 1

/-- SYNC_TIMER_ARM. -/
def execSyncTimerArm (timer : Fin 16) (obj : BitVec 12) (value : BitVec 16) (s : State) : Host.Outcome State Fault Refusal :=
  .next (if s.blockUp 9 then s.timerArm timer.val obj.toNat value.toNat else s)

/-- SYNC_TIMER_FIRE: the local start of an armed timer's tick. -/
def execSyncTimerFire (timer : Fin 16) (s : State) : Host.Outcome State Fault Refusal :=
  .next (if s.blockUp 9 && s.get (R.SYNC_TMR_CFG_en timer.val) == 1 && s.hzn.counting && decide (s.timerAt timer.val ≤ s.horizon)
    then s.timerFire timer.val else s)

/-- A write of SYNC_CTRL.clr_counts (R439). -/
def State.syncClrCounts (s : State) : State := s.puts [(R.SYNC_CNT_dropped_remote, 0), (R.SYNC_CNT_late_timers, 0)]

/-- SYNC_CLR_COUNTS. -/
def execSyncClrCounts (s : State) : Host.Outcome State Fault Refusal := .next (if s.blockUp 9 then s.syncClrCounts else s)

end Sys2Proof.Machine
end

