-- ==== Sys2Proof/Machine/Port.lean ====
section
/-!
DEFINITION. Sys2Proof/Machine/Port.lean: the fabric ports as their users see them: the queues transactions wait in (R455, R456), and the
transfers of this package that their destinations have not answered yet (R469).
-/

namespace Sys2Proof.Machine

def port12 (n : Nat) : Fin 12 := Fin.ofNat 12 n

def State.port (s : State) (n : Nat) : PortSt := s.fab.ports[port12 n]

def State.setPort (s : State) (n : Nat) (p : PortSt) : State :=
  { s with fab := { s.fab with ports := s.fab.ports.set (port12 n) p } }

def State.portActive (s : State) (n : Nat) : Bool := (s.port n).state == .active

/-- Bit n: port n is ACTIVE (FAB_STAT.active). -/
def State.activePorts (s : State) : BitVec 12 :=
  BitVec.ofNat 12 ((List.range 12).foldl (fun a n => a + 2 ^ n * b2n (s.portActive n)) 0)

/-- The racks of the machine, and its sleds per rack (R445). -/
def State.racks (s : State) : Nat := s.get R.GEN_MACHINE_racks_minus_one + 1
def State.destInMachine (s : State) (pkg : Nat) : Bool := inMachine s.racks (s.get R.FAB_CFG_sled_count) pkg

/-- A transaction put at the end of a port's queue; `held` names the credit of the port it came in by. It takes a hop. -/
def State.enqueue (s : State) (n : Nat) (t : Txn) (held : Option (Nat × Nat)) : State :=
  let p := s.port n
  s.setPort n { p with queue := p.queue ++ [⟨{ t with hops := t.hops + 1 }, held⟩] }

/-- Transactions of one transfer, in order (R463). -/
def State.enqueueAll (s : State) (n : Nat) (ts : List Txn) : State := ts.foldl (fun t x => t.enqueue n x none) s

/-- Lowest ID from `i` on that no unresolved transfer holds and that did not time out within 64 frames (R469). -/
def freeId (taken : List Nat) : Nat → Nat → Nat
  | 0, i => i % 65536
  | fuel + 1, i => if taken.contains (i % 65536) then freeId taken fuel (i + 1) else i % 65536

/-- The origin holds 4,096 unresolved transfers (R469). -/
def State.transfersFull (s : State) : Bool := decide (4096 ≤ s.fab.transfers.length)

/-- A new transfer of `count` transactions, and its ID (R469). -/
def State.newTransfer (s : State) (owner : XferOwner) (seq port count : Nat) (isSignal : Bool) : Nat × State :=
  let old := s.fab.timedOut.filter (fun p => decide (s.frame < p.2 + 64))
  let taken := s.fab.transfers.map Transfer.id ++ old.map Prod.fst
  let id := freeId taken (taken.length + 1) s.fab.nextId
  (id, { s with fab := { s.fab with
    transfers := s.fab.transfers ++ [⟨id, owner, seq, port, count, 0, s.frame, isSignal⟩],
    nextId := (id + 1) % 65536, timedOut := old } })

/-- A transfer of descriptor (c, slot) is unresolved. -/
def State.descTransfers (s : State) (c slot : Nat) : Bool := s.fab.transfers.any (fun t => decide (t.owner = .desc c slot))

/-- An earlier transfer of the routine running on sequencer `q` is unresolved (R471). -/
def State.seqTransfers (s : State) (q : Nat) (desc : Option (Nat × Nat)) : Bool :=
  s.fab.transfers.any (fun t => t.seq == q && decide (t.owner = match desc with | some d => .desc d.1 d.2 | none => .routine q))

/-- A transaction of this package's own (R453). -/
def State.ownTxn (s : State) (kind : Nat) (sched last : Bool) (info dst xfer arg : Nat) (pair : Nat × Nat) (data : List Byte) : Txn :=
  { kind := kind, sched := sched, last := last, detoured := false, info := info, dst := dst, origin := s.ownPkg,
    tenant := pair.1, hops := 0, job := pair.2, xfer := xfer, arg := arg, data := data }

end Sys2Proof.Machine
end

