-- ==== Sys2Proof/Machine/Complete.lean ====
section
/-!
DEFINITION. Sys2Proof/Machine/Complete.lean: how a descriptor completes: its record and the completion ring (R379–R381, R394, R395), its
signal (R390, R471), its failures (R397, R470), and the resolution of the transfers it waits for (R469).
-/

namespace Sys2Proof.Machine

/-! ### Records -/

def State.ring (s : State) (c : Nat) : RingSt := SMap.get RingSt.none s.rings c

def State.setRing (s : State) (c : Nat) (r : RingSt) : State := { s with rings := SMap.set RingSt.none s.rings c r }

/-- The head passes every slot whose record, and those of all earlier slots, have been posted (R379). -/
def advanceHead (size tail : Nat) : Nat → Nat → List Nat → Nat × List Nat
  | 0, head, posted => (head, posted)
  | fuel + 1, head, posted =>
    if head ≠ tail ∧ posted.contains head then advanceHead size tail fuel ((head + 1) % size) (posted.filter (· != head))
    else (head, posted)

/-- The completion ring has a free entry (R381). -/
def State.cqFree (s : State) (c : Nat) : Bool :=
  (s.get (R.CMD_CQ_PTR_tail c) + 1) % s.cqSize c != s.get (R.CMD_CQ_PTR_head c)

/-- One record posted (R380): written whole, the tail advanced, the interrupt sent, the phase inverted on a wrap. -/
def State.postNow (s : State) (c : Nat) (r : Record) : State :=
  let tail := s.get (R.CMD_CQ_PTR_tail c)
  let next := (tail + 1) % s.cqSize c
  let s1 := s.writeMem (cmdBase + s.cqBase c + 32 * tail) (r.bytes (s.get (R.CMD_CQ_PTR_phase c)))
  let s2 := s1.put (R.CMD_CQ_PTR_tail c) next
  let s3 := if r.irq then s2.send (s2.get (R.CMD_RING_CFG_vector c)) else s2
  let s4 := if next = 0 then s3.put (R.CMD_CQ_PTR_phase c) (1 - s3.get (R.CMD_CQ_PTR_phase c)) else s3
  let g := s4.ring c
  let h := advanceHead (s4.sqSize c) (s4.get (R.CMD_SQ_PTR_tail c)) (s4.sqSize c) (s4.get (R.CMD_SQ_PTR_head c)) (g.posted ++ [r.slot])
  (s4.setRing c { g with posted := h.2 }).put (R.CMD_SQ_PTR_head c) h.1

/-- The PMU code of a record's outcome (R650). -/
def Status.pmuCode : Status → Nat
  | .served => 0x12 | .deferred => 0x13 | .faulted .. => 0x14 | .refused c => 0x14 + c.num

/-- The outcome register a record counts in (CTX_OUTCOME). -/
def Status.outcome (st : Status) (c : Nat) : Fld :=
  match st with
  | .served => R.CTX_OUTCOME0_served c
  | .deferred => R.CTX_OUTCOME0_deferred c
  | .refused _ => R.CTX_OUTCOME1_refused c
  | .faulted .. => R.CTX_OUTCOME1_faulted c

/-- A completed descriptor's record is posted, or waits for a free entry (R381). -/
def State.post (s : State) (r : Record) : State :=
  let c := r.ctx
  let s1 := (s.count (r.status.outcome c) 1).pmu r.status.pmuCode (some c) 1
  let s2 := match r.status with | .faulted code detail => s1.flogAdd 2 code detail (some c) | _ => s1
  if (s2.ring c).waiting.isEmpty && s2.cqFree c then s2.postNow c r
  else (s2.setRing c { s2.ring c with waiting := (s2.ring c).waiting ++ [r] }).raiseRing c 2

/-- Waiting records enter the entries a doorbell has freed, oldest first (R381). -/
def State.postWaiting (s : State) (c : Nat) : Nat → State
  | 0 => s
  | fuel + 1 =>
    match (s.ring c).waiting with
    | [] => s
    | r :: rest => if s.cqFree c then ((s.setRing c { s.ring c with waiting := rest }).postNow c r).postWaiting c fuel else s

/-! ### Descriptors -/

def State.descOf (s : State) (c slot : Nat) : Option CmdDesc := s.descs.find? (fun d => d.ctx == c && d.slot == slot)

def State.setDesc (s : State) (d : CmdDesc) : State :=
  { s with descs := s.descs.map (fun x => if x.ctx == d.ctx && x.slot == d.slot then d else x) }

/-- Neither sequencers nor transfers name the descriptor any more. -/
def State.detach (s : State) (c slot : Nat) : State :=
  { s with
    descs := s.descs.filter (fun d => !(d.ctx == c && d.slot == slot)),
    seqs := s.seqs.map (fun q => match q.routine with
      | some r => if r.desc = some (c, slot) then { q with routine := some { r with desc := none } } else q
      | none => q),
    outRuns := s.outRuns.map (fun r => if r.desc = some (c, slot) then { r with desc := none } else r),
    fab := { s.fab with transfers := s.fab.transfers.map (fun t =>
      if t.owner = .desc c slot then { t with owner := .routine t.seq } else t) } }

/-- The record of a descriptor that completes now (R394). -/
def State.recordFor (s : State) (d : CmdDesc) (st : Status) : Record :=
  { tag := d.desc.tag, slot := d.slot, status := st,
    granted := match st with | .refused _ => 0 | _ => d.granted,
    doneFrame := s.frame, doneTick := s.tick, flags := d.flags, defers := min 255 d.defers, ctx := d.ctx, irq := d.desc.irq }

/-- The descriptor completes with this status; a local signal goes before the record, and only with success (R390). -/
def State.finish (s : State) (d : CmdDesc) (st : Status) : State :=
  let s1 := s.detach d.ctx d.slot
  let ok := match st with | .served => true | .deferred => true | _ => false
  let s2 := if ok && d.desc.signals && !d.desc.signalsRemote then s1.signal d.desc.signalObj d.desc.signalValue else s1
  s2.post (s.recordFor d st)

/-- SERVED or DEFERRED (R395). -/
def CmdDesc.success (d : CmdDesc) : Status :=
  if d.desc.opcode = 0x20 ∨ d.desc.opcode = 4 ∨ d.firstPass = true then .served else .deferred

/-- The remote signal of a descriptor leaves (R471), or cannot: LINK_DARK (R402, R461). One that names this package is applied
at once. -/
def State.sendSignal (s : State) (d : CmdDesc) : State :=
  let dst := d.desc.signalPkg
  let pair := s.ctxPair d.ctx
  if dst = s.ownPkg then
    let r := s.remoteSignal pair d.desc.signalObj d.desc.signalValue
    if r.2 then r.1.finish d d.success else r.1.finish d (.faulted 8 0xF)
  else if !s.destInMachine dst then s.finish d (.faulted 7 0xFF)
  else match dynamicPort s.ownPkg dst s.activePorts false with
    | none => s.finish d (.faulted 7 ((primaryPort s.ownPkg dst).getD 0xFF))
    | some (n, detour) =>
      let x := s.newTransfer (.desc d.ctx d.slot) 16 n 1 true
      let t := x.2.ownTxn 3 false true 0 dst x.1 (d.desc.signalObj + 2 ^ 12 * d.desc.signalValue) pair zeroLine
      (x.2.enqueue n { t with detoured := detour } none).setDesc { d with signalled := true, phase := .resolving }

/-- The descriptor's work has ended: it completes once its transfers have resolved, after its remote signal where it has
one (R470, R471). -/
def State.settle (s : State) (d : CmdDesc) : State :=
  if s.descTransfers d.ctx d.slot then s.setDesc { d with phase := .resolving }
  else match d.failed with
    | some f => s.finish d (.faulted f.1 f.2)
    | none =>
      if d.desc.signals && d.desc.signalsRemote && !d.signalled then
        if s.transfersFull then s.setDesc { d with phase := .resolving } else s.sendSignal d
      else s.finish d d.success

/-- A failure of the work of descriptor (c, slot): the first is kept (R397), and the descriptor completes as soon as its
transfers have resolved (R470). -/
def State.failDesc (s : State) (desc : Option (Nat × Nat)) (code detail : Nat) : State :=
  match desc with
  | none => s
  | some p =>
    match s.descOf p.1 p.2 with
    | none => s
    | some d => s.settle { d with failed := d.failed.orElse (fun _ => some (code, detail)) }

/-- A failed transfer marks its descriptor; it completes with its routine, or at once when the routine is over or static
(R470, R389). -/
def State.markFailed (s : State) (desc : Option (Nat × Nat)) (code detail : Nat) : State :=
  match desc with
  | none => s
  | some p =>
    match s.descOf p.1 p.2 with
    | none => s
    | some d =>
      let d1 := { d with failed := d.failed.orElse (fun _ => some (code, detail)) }
      if d.phase = .resolving ∨ d.desc.opcode = 4 then s.settle d1 else s.setDesc d1

/-- Output-stage flags of a run gathered into the record (R395): bit 0 limit, 1 clamp, 2 nan. -/
def State.gatherFlags (s : State) (desc : Option (Nat × Nat)) (flags : Nat) : State :=
  match desc with
  | none => s
  | some p => match s.descOf p.1 p.2 with
    | none => s
    | some d => s.setDesc { d with flags := orBits d.flags flags }

/-- A routine that served a claim of the descriptor has ended: the descriptor has ended with its last. -/
def State.claimEnded (s : State) (desc : Option (Nat × Nat)) (claims : Nat) : State :=
  match desc with
  | none => s
  | some p => match s.descOf p.1 p.2 with
    | none => s
    | some d =>
      let d1 := { d with running := d.running - 1 }
      if d.desc.opcode = 4 then s
      else if d1.running = 0 ∧ claims ≤ d1.dispatched then s.settle d1 else s.setDesc d1

/-! ### Transfers that resolve (R469–R471) -/

def XferOwner.desc? : XferOwner → Option (Nat × Nat)
  | .desc c slot => some (c, slot)
  | .routine _ => none

/-- The FAULTED code and detail of a failed transfer (R470): RESP status and port; 5 stands for a timeout. -/
def failureOf (status port firstHop : Nat) : Nat × Nat :=
  if status = 1 then (8, firstHop) else if status = 2 then (0xF, 0xFE) else if status = 5 then (7, firstHop) else (7, port)

/-- A descriptor that waits for no more transfers goes on. -/
def State.resumeSignal (s : State) : State :=
  match s.descs.find? (fun d => decide (d.phase = .resolving) && !s.descTransfers d.ctx d.slot) with
  | some d => s.settle d
  | none => s

/-- The routine whose transfer failed remembers it (R471). -/
def State.noteXferFailed (s : State) (t : Transfer) : State :=
  { s with seqs := s.seqs.zipIdx.map (fun x =>
      if x.2 = t.seq ∧ x.1.routine.isSome ∧ x.1.routine.bind Routine.desc = t.owner.desc? then { x.1 with xferFailed := true } else x.1) }

/-- A transfer has resolved: with status 0, or with a failure. -/
def State.resolve (s : State) (t : Transfer) (status port : Nat) : State :=
  let s1 := { s with fab := { s.fab with transfers := s.fab.transfers.filter (fun x => x.id != t.id) } }
  let f := failureOf status port t.port
  (if status = 0 then s1 else (s1.noteXferFailed t).markFailed t.owner.desc? f.1 f.2).resumeSignal

/-- A RESP reaches its origin (R469): its tally counts toward the transfer; one for no outstanding transfer is late. -/
def State.takeResp (s : State) (r : Txn) : State :=
  match s.fab.transfers.find? (fun t => t.id == r.xfer) with
  | none => (s.count R.FAB_DROP1_late_resps 1).raiseFab 7
  | some t =>
    let status := bits r.info 0 4
    if status ≠ 0 then s.resolve t status (bits r.info 4 4)
    else
      let t1 := { t with answered := t.answered + r.arg }
      if t.count ≤ t1.answered then s.resolve t1 0 0
      else { s with fab := { s.fab with transfers := s.fab.transfers.map (fun x => if x.id == t.id then t1 else x) } }

/-- RESP (R469): a RESP transaction whose destination is this package. -/
def State.respArrived (s : State) (b : List Byte) : State := s.takeResp (Txn.ofBytes b)

end Sys2Proof.Machine
end

