-- ==== Sys2Proof/Machine/SeqBase.lean ====
section
/-!
DEFINITION. Sys2Proof/Machine/SeqBase.lean: resident images and plates as their users find them, and the three ways a routine is
over: its end, a cut (R357, R370) and a machine check (R367, R368).
-/

namespace Sys2Proof.Machine

/-! ### Images and plates -/

def State.resImage (s : State) (i : Nat) : Option ResImage := SMap.lookup s.img.resident i

def State.setResImage (s : State) (i : Nat) (r : ResImage) : State :=
  { s with img := { s.img with resident := SMap.insert (SMap.erase s.img.resident i) i r } }

def PlateImage.plate (i : PlateImage) (p : Nat) : Option Plate := i.plates.find? (fun x => x.num == p)

/-- The resident image that holds plate `p`: its slot, itself and the plate. -/
def State.plateOf (s : State) (p : Nat) : Option (Nat × ResImage × Plate) :=
  s.img.resident.findSome? (fun x => (x.2.image.plate p).map (fun pl => (x.1, x.2, pl)))

/-- The plates a sequencer serves in an image (R182). -/
def PlateImage.serves (i : PlateImage) (q p : Nat) : Bool := i.binds.any (fun b => b.1 == q && bitAt b.2 p)

/-- Sequencer `q` serves plate `p` (R182, R233). -/
def State.serves (s : State) (q p : Nat) : Bool := s.img.resident.any (fun x => !x.2.parked && x.2.image.serves q p)

/-! ### Sequencers -/

def seq16 (n : Nat) : Fin 16 := Fin.ofNat 16 n

def State.seq (s : State) (q : Nat) : SeqSt := s.seqs[seq16 q]

def State.setSeq (s : State) (q : Nat) (x : SeqSt) : State := { s with seqs := s.seqs.set (seq16 q) x }

/-- The descriptor and context of the routine on `q`. -/
def State.seqDesc (s : State) (q : Nat) : Option (Nat × Nat) := (s.seq q).routine.bind Routine.desc
def State.seqCtx (s : State) (q : Nat) : Option Nat := (s.seq q).routine.map Routine.ctx

/-- The routine is over and the sequencer is in `mode`. -/
def State.routineOver (s : State) (q : Nat) (mode : SeqMode) : State :=
  s.setSeq q { s.seq q with mode := mode, routine := none, waitTick := none, issue := none, issueTimed := false,
                            checked := false, xferFailed := false, outstanding := [] }

/-- Claims the descriptor of a routine makes. -/
def State.claimsOf (s : State) (desc : Option (Nat × Nat)) : Nat :=
  match desc with
  | none => 0
  | some p => match s.descOf p.1 p.2 with
    | none => 0
    | some d => (d.desc.claims d.addr).length

/-- END (R343, R395): the routine has ended, and its descriptor with its last. -/
def State.routineEnd (s : State) (q : Nat) : State :=
  let desc := s.seqDesc q
  (s.routineOver q .idle).claimEnded desc (s.claimsOf desc)

/-- The rate at which a claim of this kind and resource is charged, in tenths of a watt (R416). -/
def State.claimRate (s : State) (kind resource : Nat) : Nat :=
  match s.plateOf resource with
  | some x => rateOf kind x.2.2.tiles.length x.2.2.acc16
  | none => rateOf kind 0 false

/-- A dispatched claim is charged its span (R566). -/
def State.chargeSpan (s : State) (r : Routine) : State :=
  s.addCharge r.ctx r.frame ((s.claimRate r.kind r.resource * (r.endTick - r.startTick) : Nat) : Int)

/-- A cut takes back what the routine on `q` has not run (R566). -/
def State.unchargeCut (s : State) (q : Nat) : State :=
  match (s.seq q).routine with
  | none => s
  | some r =>
    let first := max s.horizon (2048 * r.frame + r.startTick)
    let left := 2048 * r.frame + r.endTick - first
    s.addCharge r.ctx r.frame (-((s.claimRate r.kind r.resource * left : Nat) : Int))

/-- The routine is cut, and its descriptor completes FAULTED (R357, R370). -/
def State.routineCut (s : State) (q code detail : Nat) : State :=
  let desc := s.seqDesc q
  ((s.unchargeCut q).routineOver q .idle).failDesc desc code detail

/-- The routine stops with nothing completed (R370, R140). -/
def State.routineStop (s : State) (q : Nat) : State := (s.unchargeCut q).routineOver q .idle

/-- The last part of a machine check (R368): the descriptor completes FAULTED, FAULT is entered, SEQ_EVT.mc set. The causes
of the check and its sequencer stand in the detail (R397). -/
def State.mcFinish (s : State) (q cause : Nat) : State :=
  let desc := s.seqDesc q
  ((s.routineOver q .fault).failDesc desc 2 (q + 16 * cause)).raiseSeq q 0

/-- A machine check of sequencer `q` (R368): recorded if the record is free, copied to the fault log; the rest follows once its
outstanding commands have completed. `syndrome` holds the failing parity bits. -/
def State.machineCheck (s : State) (q : Nat) (c : McCause) (syndrome : Nat) : State :=
  let x := s.seq q
  let entry := match x.routine with | some r => if r.dyn then 0 else r.index | none => 0
  let dyn := match x.routine with | some r => r.dyn | none => false
  let ctx := (x.routine.map Routine.ctx).getD 0
  let s1 :=
    if s.get (R.SEQ_MC0_valid q) = 0 then
      s.puts [(R.SEQ_MC0_valid q, 1), (R.SEQ_MC0_cause q, c.num), (R.SEQ_MC0_micro_pc q, x.pc), (R.SEQ_MC1_entry q, entry),
        (R.SEQ_MC1_dyn q, b2n dyn), (R.SEQ_MC1_context q, ctx), (R.SEQ_MC1_syndrome q, syndrome),
        (R.SEQ_MC2_frame_lo q, s.frame), (R.SEQ_MC3_frame_hi q, s.frame / 2 ^ 32), (R.SEQ_MC3_tick q, s.tick)]
    else s.count (R.SEQ_CNT1_mc_lost q) 1
  let s2 := (s1.flogAdd 1 (c.num + 16 * q) x.pc (x.routine.map Routine.ctx)).pmu 0x22 (x.routine.map Routine.ctx) 1
  if x.outstanding.isEmpty then s2.mcFinish q c.num
  else s2.setSeq q { s2.seq q with mode := .waiting, issue := none, issueTimed := false, checked := true, waitTick := some c.num }

end Sys2Proof.Machine
end

