-- ==== Sys2Proof/Machine/Tiles.lean ====
section
/-!
DEFINITION. Sys2Proof/Machine/Tiles.lean: a burst on a tile, exposure by exposure (R207–R222, R232, R247–R256, R268–R272), the window
decisions (R222, R253, R325–R328), chain adds and slice merges (R275, R276, R297), the TILE window (R230, R235) and the
test exposure (R231, R236).
-/

namespace Sys2Proof.Machine

/-! ### Tiles -/

def State.tile (s : State) (t : Nat) : TileSt := SMap.get TileSt.init s.tiles t

def State.setTile (s : State) (t : Nat) (x : TileSt) : State := { s with tiles := SMap.set TileSt.init s.tiles t x }

/-- The array die of a tile (R205). -/
def dieOf (t : Nat) : Nat := t / 64

/-- Its array link is trained. -/
def State.linkTrained (s : State) (t : Nat) : Bool := s.pwr.arrayLink.getLsbD (dieOf t)

/-- Its die is safe-forced: PLL 1 is out of lock (R153), or the die's bias generators are faulty (R620). -/
def State.tileForced (s : State) (t : Nat) : Bool :=
  s.clk.arrayForced || bitAt (s.get R.THM_STAT_bias_fault) (dieOf t)

/-- The image, plate and PLATE_MAP record of an owned tile. -/
def State.tileRec (s : State) (t : Nat) : Option (ResImage × Plate × TileRec) :=
  match (s.tile t).owner with
  | none => none
  | some o => match s.resImage o.1 with
    | none => none
    | some r => match r.image.plate o.2 with
      | none => none
      | some p => (p.tiles.find? (fun x => x.tile == t)).map (fun x => (r, p, x))

/-- The context of an owned tile, for the PMU (R647). -/
def State.tileCtx (s : State) (t : Nat) : Option Nat := (s.tileRec t).map (fun x => x.1.ctx)

/-- A PMU event of an array die (R650), by its offset in the die's group. -/
def State.pmuTile (s : State) (t i n : Nat) : State := if n = 0 then s else s.pmu (0x30 + 8 * dieOf t + i) (s.tileCtx t) n

/-- The packed trims of a column: written ones, or the contact sheet's (R224). -/
def State.trimWord (s : State) (t c : Nat) : Nat :=
  match SMap.lookup (s.tile t).trims c with | some w => w | none => Config.contactSheet t c

/-- The pair of a row as driven, as it stands now (R205, R225). -/
def State.pairAt (s : State) (t row col : Nat) : CellPair := (s.tile t).pair t s.now row col

/-- The tile of the other slice at the same position of an INT8 plate (R206). -/
def Plate.partner (p : Plate) (r : TileRec) : Option Nat :=
  if p.int8 then (p.tiles.find? (fun x => x.row == r.row && x.col == r.col && x.slice != r.slice)).map TileRec.tile else none

/-- The curve that corrects a plate's decision levels (R216). -/
def Plate.adcCurve (p : Plate) : List (Int × Int) := curveWith p.curveAdc (b2n p.acc16)

/-! ### A burst -/

/-- Half-nanoseconds of an exposure period, an integration window, and from start to the decision instant (R217). -/
def periodOf (acc16 : Bool) : Nat := if acc16 then 25 else 50
def windowOf (acc16 : Bool) : Nat := if acc16 then 20 else 40
def decisionOf (acc16 : Bool) : Nat := if acc16 then 45 else 65

/-- Exposures in a group, and in the whole burst (R208). -/
def ExposeCmd.perGroup (e : ExposeCmd) : Nat := planesOf e.int4 * e.avg
def ExposeCmd.total (e : ExposeCmd) : Nat := e.groups.length * e.perGroup

/-- The start of exposure `k`, and the slot's end, in half-nanoseconds. -/
def Burst.startOf (b : Burst) (acc16 : Bool) (k : Nat) : Nat := b.t0 + k * periodOf acc16
def Burst.slotEnd (b : Burst) : Nat := 16 * (2048 * b.endFrame + b.endTick)

/-- Horizon time by the end of the present tick, in half-nanoseconds. -/
def State.halfNs (s : State) : Nat := 16 * (s.horizon + 1)

/-- The operands of group `g` on a tile at tile_row `row` (R350, R243, R244). The spec names no byte past the end of the holding
buffer: a free one is read there. -/
def State.groupOperands (s : State) (t : Nat) (b : Burst) (n row g : Nat) : List Int :=
  let e := b.cmd
  let byteAt : Nat → Byte := fun a =>
    if e.fromDram then Memory.get s.mem (b.base + a)
    else if 64 * e.hbLine + a < 0x40000 then BitVec.ofNat 8 (SMap.get 0 (s.tile t).hold (64 * e.hbLine + a))
    else BitVec.ofNat 8 (Config.free (s.freeIx + a))
  (List.range n).map (fun i =>
    let j := g * n + i + (if e.fromDram then 512 * row else 0)
    if e.int4 then operandOf true (bits (byteAt (j / 2)).toNat (4 * (j % 2)) 4) 0
    else operandOf false (byteAt j).toNat e.z)

/-- The rows of group `g` an exposure drives (R207). -/
def activeRows (n g : Nat) (active : List Bool) : List Nat := (active.zipIdx.filter (fun p => p.1)).map (fun p => g * n + p.2)

/-- An exposure integrates (R213): the charge each of the 520 columns takes up, in 1/25,600 cu at 25 °C. -/
def State.integrate (s : State) (t : Nat) (rows : List Nat) : List Int :=
  (List.range 520).map (fun c => (rows.map (fun r => (s.pairAt t r c).charge)).sum)

/-- The conditions under which the terms of R227 hold, for one column: within the refix budget, contact-sheet trims, both curves
loaded, the die from 20 °C to 95 °C. -/
def State.inBudget (s : State) (t c : Nat) (acc16 curves : Bool) : Bool :=
  let temp := toSigned 16 (s.get (R.THM_DIE_T_eff (1 + dieOf t)))
  s.get (R.TILE_FIXSTAT_over_budget t) == 0 && !(s.tile t).unfixed && curves && trimOf (s.trimWord t c) acc16 == trimOf (Config.contactSheet t c) acc16 &&
    decide (320 ≤ temp ∧ temp ≤ 1520)

/-- Column `c` converts a held charge (R214, R216, R223, R226, R227, R323, R326): temperature, its correction, the drift gain of data
columns, the trims, the systematic terms and the read noise, then the decision levels. -/
def State.convertColumn (s : State) (t c : Nat) (charge : Int) (ld : GroupLoad) (acc16 curves : Bool) (fogS : Nat) (curve : List (Int × Int)) :
    Int × Bool :=
  let y := toSigned 16 (s.get (R.TILE_GAIN_y_temp t))
  let sh := if c < 512 then ld.shifts.getD c 0 else fogS
  let gained := (charge : Rat) / 25600 * gainOf y * gainOf (-ld.yTemp) * (if c < 512 then gainOf ld.gDrift else 1)
  let v := trimmedLSB gained sh (trimOf (s.trimWord t c) acc16) (trimOf (Config.contactSheet t c) acc16)
  let e := if s.inBudget t c acc16 curves then systematic t c acc16 v sh fogS (s.get (R.THM_DIE_T_eff (1 + dieOf t)))
           else freeRat (Config.columnError 4 t c (s.freeIx + c))
  develop curve (v + e + readNoise (s.freeIx + c) sh)

/-- Codes and clip flags of a held exposure. Each conversion takes its own noise. -/
def State.convert (s : State) (t : Nat) (charges : List Int) (ld : GroupLoad) (acc16 curves : Bool) (fogS : Nat) (curve : List (Int × Int)) :
    List (Int × Bool) × State :=
  ((List.range 520).map (fun c => s.convertColumn t c (charges.getD c 0) ld acc16 curves fogS curve), { s with freeIx := s.freeIx + 520 })

/-- Removes a tile's burst. -/
def State.dropBurst (s : State) (t : Nat) : State := s.setTile t { s.tile t with burst := none, caps := Vector.replicate 2 none }

/-- Every burst of a plate ends without its chain adds (R297). -/
def State.dropPlateBursts (s : State) (p : Plate) : State := p.tiles.foldl (fun u r => u.dropBurst r.tile) s

/-- The sequencer that issued a burst, while it still runs the routine that did. -/
def State.burstSeq (s : State) (b : Burst) : Option Nat :=
  if (s.seq b.q).outstanding.any (fun o => decide (o.kind = .expose b.plate)) then some b.q else none

/-- A burst has ended in error: no chain add of it follows, and the routine ends at once, its descriptor FAULTED with this code
(R297, R370). A machine check that waits for the command takes its course (R368). -/
def State.burstEnd (s : State) (b : Burst) (p : Plate) (code detail : Nat) : State :=
  let q := s.burstSeq b
  let s1 := s.dropPlateBursts p
  match q with
  | some q => if (s1.seq q).checked then s1.mcFinish q ((s1.seq q).waitTick.getD 0) else s1.routineCut q code detail
  | none => s1

/-- A burst has ended in error on tile `t` (R232): BURST_CUT. -/
def State.burstError (s : State) (t : Nat) (b : Burst) (p : Plate) : State := s.burstEnd b p 4 t

/-- TILE_EXP counts 48 bits (R230); past the last it stays there, as TILE_CNT1 does (DESIGN CHOICE, log 133). -/
def State.countExposure (s : State) (t : Nat) : State :=
  let v := satAdd 48 (s.get (R.TILE_EXP_LO t) + 2 ^ 32 * s.get (R.TILE_EXP_HI t)) 1
  s.puts [(R.TILE_EXP_LO t, v), (R.TILE_EXP_HI t, v / 2 ^ 32)]

/-- Pending shifts come into force at the start of a group (R254). -/
def State.takeShifts (s : State) (t : Nat) : State :=
  (List.range 512).foldl (fun u c =>
    if u.get (R.TILE_AE_pending t c) = 1 then
      u.puts [(R.TILE_AE_cur_shift t c, u.get (R.TILE_AE_next_shift t c)), (R.TILE_AE_pending t c, 0)] else u) s

/-! ### Developing -/

/-- The clip counter of a (group, column) (R251). -/
def clipField (t ix : Nat) : Fld := if ix % 2 = 0 then R.TILE_CLIP_even t (ix / 2) else R.TILE_CLIP_odd t (ix / 2)

/-- One developed code of a data column enters the clip counts and the auto-exposure window (R251, R253). -/
def State.noteCode (s : State) (t g : Nat) (x : (Int × Bool) × Nat) : State :=
  let c := x.2
  let peak := max (s.get (R.TILE_AE_win_peak t c)) (if x.1.2 then 127 else x.1.1.natAbs)
  let s1 := s.put (R.TILE_AE_win_peak t c) peak
  if x.1.2 then (s1.count (clipField t (512 * g + c)) 1).count (R.TILE_AE_win_clips t c) 1 else s1

/-- Window decisions of R253 for one column; one with neither test passed leaves nothing pending (R264). -/
def State.aeColumn (s : State) (t c s0 limit w : Nat) : State :=
  let clips := s.get (R.TILE_AE_win_clips t c)
  let cur := s.get (R.TILE_AE_cur_shift t c)
  let s1 :=
    if limit * w < 256 * clips ∧ cur < 7 then
      ((s.puts [(R.TILE_AE_next_shift t c, cur + 1), (R.TILE_AE_pending t c, 1)]).count (R.TILE_AE_changes t c) 1).pmuTile t 2 1
    else if clips = 0 ∧ s.get (R.TILE_AE_win_peak t c) ≤ 63 ∧ s0 < cur then
      ((s.puts [(R.TILE_AE_next_shift t c, cur - 1), (R.TILE_AE_pending t c, 1)]).count (R.TILE_AE_changes t c) 1).pmuTile t 3 1
    else s.puts [(R.TILE_AE_next_shift t c, cur), (R.TILE_AE_pending t c, 0)]
  s1.puts [(R.TILE_AE_win_clips t c, 0), (R.TILE_AE_win_peak t c, 0)]

/-- The end of an auto-exposure window (R253). -/
def State.aeWindow (s : State) (t : Nat) (p : Plate) : State :=
  let s1 := (List.range 512).foldl (fun u c => u.aeColumn t c p.adcShift p.clipLimit (2 ^ p.aeWindow)) s
  s1.puts [(R.TILE_AE_WIN_pos t, 0), (R.TILE_AE_WIN_seq t, s1.get (R.TILE_AE_WIN_seq t) + 1)]

def State.aeDue (s : State) (t : Nat) (p : Plate) : Bool := decide (2 ^ p.aeWindow ≤ s.get (R.TILE_AE_WIN_pos t))

/-- AE_WINDOW_END (R253). -/
def execAeWindowEnd (tile : Fin 256) (s : State) : Host.Outcome State Fault Refusal :=
  .next (match s.tileRec tile.val with
    | some r => if s.aeDue tile.val r.2.1 then s.aeWindow tile.val r.2.1 else s
    | none => s)

/-- A tile is due for refixing (R328): its flag, its plate's bit and the event. -/
def State.tileDue (s : State) (t : Nat) : State :=
  match (s.tile t).owner with
  | none => s
  | some o =>
    if s.get (R.TILE_FIXSTAT_due t) = 1 then s
    else
      let s1 := s.put (R.TILE_FIXSTAT_due t) 1
      let s2 := if o.2 < 32 then s1.setBit R.TILE_DUE0 o.2 else s1.setBit R.TILE_DUE1 (o.2 - 32)
      s2.raiseFix 3

/-- The drift estimates of a latched window (R325–R328). -/
def State.driftUpdate (s : State) (t : Nat) (p : Plate) : State :=
  let resid := fun (f : Nat) => toSigned 32 (s.get (R.TILE_FOG_RESID t f))
  let expect0 := s.get (R.TILE_FOG_EXPECT t 0)
  let curve := curveWith p.curveDrift 0
  let s1 := match driftEstimate curve resid expect0 with
    | none => s.count (R.TILE_FIXCNT1_thin_windows t) 1
    | some d =>
      let u := s.puts [(R.TILE_DRIFT0_d7 t, fromSigned 16 d.1), (R.TILE_DRIFT0_d4 t, fromSigned 16 d.2.1),
        (R.TILE_DRIFT1_d1 t, fromSigned 16 d.2.2.1), (R.TILE_DRIFT1_resid t, d.2.2.2.2),
        (R.TILE_GAIN_g_drift t, fromSigned 16 d.2.2.2.1), (R.TILE_DRIFT_SEQ_window t, s.get (R.TILE_FOG_WIN_seq t))]
      let v := if 4681 < d.2.2.2.2 then (u.put (R.TILE_FIXSTAT_over_budget t) 1).raiseFix 4 else u
      let off := match curve.head?, curve.getLast? with
        | some a, some b => decide (d.1 < a.1 ∨ b.1 < d.1)
        | _, _ => false
      if v.get R.TILE_REFIX_CFG_threshold < d.2.2.2.2 || off then v.tileDue t else v
  if fogFaulty resid expect0 (s1.get (R.TILE_FOG_WIN_fog_clips t)) then (s1.put (R.TILE_FIXSTAT_fog_fault t) 1).tileDue t else s1

/-- Running fog sums start anew (R222, R238, R332). -/
def TileSt.clearFog (x : TileSt) : TileSt :=
  { x with fogCount := 0, fogClips := 0, fogRes := List.replicate 8 0, fogExp := List.replicate 8 0 }

/-- The latch at the end of a fog window (R222). The 16-bit clip count takes the count modulo 2^16 (DESIGN CHOICE, log 132). -/
def State.fogLatch (s : State) (t : Nat) (p : Plate) : State :=
  let x := s.tile t
  let s1 := (List.range 8).foldl (fun u f =>
    u.puts [(R.TILE_FOG_RESID t f, fromSigned 32 (x.fogRes.getD f 0)), (R.TILE_FOG_EXPECT t f, x.fogExp.getD f 0)]) s
  let s2 := s1.puts [(R.TILE_FOG_WIN_seq t, s1.get (R.TILE_FOG_WIN_seq t) + 1), (R.TILE_FOG_WIN_fog_clips t, x.fogClips)]
  let s3 := s2.setTile t (s2.tile t).clearFog
  s3.driftUpdate t p

/-- FOG_WINDOW_LATCH (R222, R325). -/
def execFogWindowLatch (tile : Fin 256) (s : State) : Host.Outcome State Fault Refusal :=
  .next (match s.tileRec tile.val with
    | some r => if 65536 ≤ (s.tile tile.val).fogCount then s.fogLatch tile.val r.2.1 else s
    | none => s)

/-- One developed exposure enters the fog sums (R222): codes of the fog columns and the driven rows. -/
def State.fogAdd (s : State) (t fogS : Nat) (codes : List (Int × Bool)) (rows : List Nat) : State :=
  let x := s.tile t
  let fog := codes.drop 512
  let e := (List.range 8).map (fun f => (rows.map (fun r => fogLevel f r)).sum)
  let clips := (fog.filter Prod.snd).length
  let res := (List.range 8).map (fun f =>
    let d := fog.getD f (0, false)
    x.fogRes.getD f 0 + (if d.2 then 0 else d.1 * 2 ^ fogS - e.getD f 0))
  let ex := (List.range 8).map (fun f =>
    x.fogExp.getD f 0 + (if (fog.getD f (0, false)).2 then 0 else (e.getD f 0).natAbs))
  let s1 := s.setTile t { x with fogCount := x.fogCount + 1, fogClips := x.fogClips + clips, fogRes := res, fogExp := ex }
  if clips = 0 then s1 else (s1.setBit (R.TILE_EVT t) 2).pmuTile t 6 clips

/-- One column of a group committed to its bank (R248, R270–R272). -/
def State.commitColumn (s : State) (t bank c : Nat) (acc16 overwrite : Bool) (v : Int) : State :=
  let old := toSigned 32 (s.get (R.TILE_BANK_value t bank c))
  let r := bankStore acc16 (if overwrite then v else old + v)
  let s1 := s.put (R.TILE_BANK_value t bank c) r.1
  let flags := s1.get (R.TILE_BFLAG_limit t c)
  let kept := if overwrite then clearBits flags (2 ^ bank) else flags
  s1.put (R.TILE_BFLAG_limit t c) (if r.2 then orBits kept (2 ^ bank) else kept)

/-- A group is committed (R247, R248, R270). -/
def State.commitGroup (s : State) (t : Nat) (b : Burst) (p : Plate) (slice gi : Nat) (psum : List Int) (shifts : List Nat) : State :=
  let g := b.cmd.groups.getD gi 0
  (List.range 512).foldl (fun u c =>
    let w := u.get (R.TILE_SCALE t ((512 * g + c) / 8))
    let k := bits w (4 * (c % 8)) 4
    u.commitColumn t b.bank c p.acc16 (gi == 0 && b.cmd.firstOverwrite)
      (commitValue (psum.getD c 0) (shifts.getD c 0) p.adcShift k (slice == 1))) s

/-- A plane's averaged codes enter the sums and the windows, and at the last plane the group is committed. -/
def State.planeDone (s : State) (t : Nat) (b : Burst) (p : Plate) (slice plane gi : Nat) (codes : List (Int × Bool))
    (rows : List Nat) (shifts : List Nat) : State :=
  let g := b.cmd.groups.getD gi 0
  let s0 := if s.aeDue t p then s.aeWindow t p else s
  let s1 := if 65536 ≤ (s0.tile t).fogCount then s0.fogLatch t p else s0
  let s2 := ((codes.take 512).zipIdx.foldl (fun u x => u.noteCode t g x) s1).pmuTile t 1 ((codes.take 512).filter Prod.snd).length
  let s3 := (s2.put (R.TILE_AE_WIN_pos t) (s2.get (R.TILE_AE_WIN_pos t) + 1)).fogAdd t (fogShift p.rowGroup) codes rows
  let psum := (List.range 512).map (fun c => b.psum.getD c 0 + planeWeight b.cmd.int4 plane * (codes.getD c (0, false)).1)
  if plane + 1 < planesOf b.cmd.int4 then s3.setTile t { s3.tile t with burst := some { b with reps := [], psum := psum } }
  else
    let s4 := s3.commitGroup t b p slice gi psum shifts
    s4.setTile t { s4.tile t with
      burst := some { b with reps := [], psum := [], committed := decide (gi + 1 = b.cmd.groups.length) } }

/-- The averaged code of each column over the repetitions of a plane (R219). -/
def averageAll (reps : List (List (Int × Bool))) : List (Int × Bool) :=
  (List.range 520).map (fun c => averaged (reps.map (fun r => r.getD c (0, false))))

/-- A plate's CURVE_ADC for its mode and CURVE_TEMPCO are loaded (R226). -/
def Plate.curvesLoaded (p : Plate) : Bool := p.curveAdc.any (fun c => c.id == b2n p.acc16) && p.curveTempco.any (fun c => c.id == 0)

/-- The rows the exposure of plane `plane` drives in a group begun as `ld`. -/
def GroupLoad.rows (ld : GroupLoad) (int4 : Bool) (n g plane : Nat) : List Nat := activeRows n g (ld.ops.map (fun a => planeBit int4 a plane))

def GroupLoad.none : GroupLoad := ⟨[], [], 0, 0⟩

/-- Group and plane of exposure `k` of a burst (R208). -/
def ExposeCmd.groupAt (e : ExposeCmd) (k : Nat) : Nat := e.groups.getD (k / e.perGroup) 0
def ExposeCmd.planeAt (e : ExposeCmd) (k : Nat) : Nat := k % e.perGroup / e.avg

/-- The next exposure of a burst develops (R213, R214, R217–R219, R247–R251): its capacitor's charges are converted, and the capacitor
is reset. -/
def State.developNext (s : State) (t : Nat) (b0 : Burst) (p : Plate) (slice : Nat) : State :=
  let k := b0.developed
  let gi := k / b0.cmd.perGroup
  let ld := b0.loaded.getD gi GroupLoad.none
  let cap : Fin 2 := Fin.ofNat 2 k
  let x := s.tile t
  let r := (s.setTile t { x with caps := x.caps.set cap none }).convert t (x.caps[cap].getD []) ld p.acc16 p.curvesLoaded (fogShift p.rowGroup) p.adcCurve
  let b := { b0 with developed := k + 1, reps := b0.reps ++ [r.1] }
  if k % b.cmd.avg + 1 < b.cmd.avg then r.2.setTile t { r.2.tile t with burst := some b }
  else
    let plane := b.cmd.planeAt k
    r.2.planeDone t b p slice plane gi (averageAll b.reps) (ld.rows b.cmd.int4 (groupRows p.rowGroup) (b.cmd.groupAt k) plane) ld.shifts

/-- EXPOSURE_DEVELOP: the oldest begun exposure of the burst reaches its decision instant. -/
def execExposureDevelop (tile : Fin 256) (s : State) : Host.Outcome State Fault Refusal :=
  .next (match (s.tile tile.val).burst, s.tileRec tile.val with
    | some b, some r =>
      if b.started ≤ b.developed ∨ s.tileForced tile.val = true ∨
          s.halfNs ≤ b.startOf r.2.1.acc16 b.developed + decisionOf r.2.1.acc16 then s
      else s.developNext tile.val b r.2.1 r.2.2.slice
    | _, _ => s)

/-! ### Starting -/

/-- The exposures a tile has begun develop. -/
def State.drainTile (s : State) (t : Nat) : Nat → State
  | 0 => s
  | n + 1 =>
    match (s.tile t).burst, s.tileRec t with
    | some b, some r => if b.started ≤ b.developed then s else (s.developNext t b r.2.1 r.2.2.slice).drainTile t n
    | _, _ => s

/-- One tile counts the cut (R232). -/
def State.countCut (s : State) (t : Nat) : State := ((s.count (R.TILE_CNT0_slot_overruns t) 1).setBit (R.TILE_EVT t) 0).pmuTile t 4 1

/-- A burst is cut at its slot's end (R232): the exposures begun develop and are counted (R263), and every tile of the plate with a
group not committed counts the cut. -/
def State.burstCut (s : State) (t : Nat) (b : Burst) (p : Plate) : State :=
  let s1 := p.tiles.foldl (fun u r => u.drainTile r.tile 2) s
  let cut := p.tiles.filter (fun r => match (s1.tile r.tile).burst with | some d => !d.committed | none => false)
  (cut.foldl (fun u r => u.countCut r.tile) s1).burstError t b p

/-- Exposure `b.started` integrates on its column capacitors, which alternate (R205, R213). -/
def State.integrateNext (s : State) (t : Nat) (b : Burst) (p : Plate) : State :=
  let k := b.started
  let rows := (b.loaded.getD (k / b.cmd.perGroup) GroupLoad.none).rows b.cmd.int4 (groupRows p.rowGroup) (b.cmd.groupAt k) (b.cmd.planeAt k)
  let x := s.tile t
  s.setTile t { x with burst := some { b with started := k + 1 }, caps := x.caps.set (Fin.ofNat 2 k) (some (s.integrate t rows)) }

/-- Exposure `b.started` begins (R208, R217): a new group takes its operands, its shifts and its gains (R254, R326). -/
def State.exposureBegin (s : State) (t : Nat) (b : Burst) (p : Plate) (row : Nat) : State :=
  let s1 := (s.countExposure t).pmuTile t 0 1
  if b.started % b.cmd.perGroup = 0 then
    let s2 := s1.takeShifts t
    let ld : GroupLoad := ⟨s2.groupOperands t b (groupRows p.rowGroup) row (b.cmd.groupAt b.started),
      (List.range 512).map (fun c => s2.get (R.TILE_AE_cur_shift t c)), toSigned 16 (s2.get (R.TILE_GAIN_y_temp t)),
      toSigned 16 (s2.get (R.TILE_GAIN_g_drift t))⟩
    ({ s2 with freeIx := s2.freeIx + 512 }).integrateNext t { b with loaded := b.loaded ++ [ld] } p
  else s1.integrateNext t b p

/-- EXPOSURE_START (R213, R217, R232): the next exposure of the burst begins once its start has come and a capacitor is free, or cuts
the burst when its window would not end before end_tick. -/
def execExposureStart (tile : Fin 256) (s : State) : Host.Outcome State Fault Refusal :=
  .next (match (s.tile tile.val).burst, s.tileRec tile.val with
    | some b, some r =>
      let at' := b.startOf r.2.1.acc16 b.started
      if b.cmd.total ≤ b.started ∨ s.halfNs ≤ at' ∨ s.tileForced tile.val = true then s
      else if b.slotEnd ≤ at' + windowOf r.2.1.acc16 then s.burstCut tile.val b r.2.1
      else if b.developed + 2 ≤ b.started then s
      else s.exposureBegin tile.val b r.2.1 r.2.2.row
    | _, _ => s)

/-- A tile's later exposures move on by `wait`. -/
def State.moveBurst (s : State) (t wait : Nat) : State :=
  match (s.tile t).burst with
  | some b => s.setTile t { s.tile t with burst := some { b with t0 := b.t0 + wait } }
  | none => s

/-- OPERAND_ARRIVAL (R210, R211): the operands of the next group complete after its first exposure was due, and every later
exposure moves on by whole periods, in both tiles of an INT8 pair. -/
def execOperandArrival (tile : Fin 256) (s : State) : Host.Outcome State Fault Refusal :=
  .next (match (s.tile tile.val).burst, s.tileRec tile.val with
    | some b, some r =>
      let period := periodOf r.2.1.acc16
      let due := b.startOf r.2.1.acc16 b.started
      let now := 16 * s.horizon
      if b.cmd.total ≤ b.started ∨ b.started % b.cmd.perGroup ≠ 0 ∨ now ≤ due then s
      else
        let wait := (now - due + period - 1) / period * period
        let s1 := ((s.count (R.TILE_CNT1_operand_wait tile.val) wait).setBit (R.TILE_EVT tile.val) 3).pmuTile tile.val 5 (wait * 4 / 5)
        ([tile.val] ++ (r.2.1.partner r.2.2).toList).foldl (fun u t => u.moveBurst t wait) s1
    | _, _ => s)

/-! ### Chains (R275–R277) -/

/-- The tile that ends the chain of a slice at a tile_col. -/
def Plate.chainEndOf (p : Plate) (col slice : Nat) : Option TileRec :=
  p.tiles.find? (fun r => r.col == col && r.slice == slice && r.reduceTo.isNone)

/-- Where a tile's burst bank goes: along its chain, or from the end of the high-slice chain to that of the low. -/
def Plate.outbound (p : Plate) (r : TileRec) : Option Nat :=
  match r.reduceTo with
  | some t => some t
  | none => if p.int8 && r.slice == 1 then (p.chainEndOf r.col 0).map TileRec.tile else none

/-- Chain adds and slice merges a tile receives in a burst. -/
def Plate.inboundCount (p : Plate) (t : Nat) : Nat := (p.tiles.filter (fun r => p.outbound r == some t)).length

/-- The tile has committed its last group and received every inbound add (R275). -/
def Burst.ready (b : Burst) (p : Plate) (t : Nat) : Bool := b.committed && b.inbound == p.inboundCount t

/-- The tile's part of the burst is over. -/
def Burst.over (b : Burst) (p : Plate) (r : TileRec) : Bool := b.ready p r.tile && (b.sent || (p.outbound r).isNone)

/-- One column of a bank added into the receiving tile's, with its limit flag (R275). -/
def State.addColumn (s : State) (t bank u ubank c : Nat) (acc16 : Bool) : State :=
  let s1 := s.commitColumn u ubank c acc16 false (toSigned 32 (s.get (R.TILE_BANK_value t bank c)))
  if bitAt (s.get (R.TILE_BFLAG_limit t c)) bank then s1.setBit (R.TILE_BFLAG_limit u c) ubank else s1

/-- A tile makes its chain add or slice merge (R275, R276). -/
def State.chainMove (s : State) (t : Nat) (merge : Bool) : State :=
  match (s.tile t).burst, s.tileRec t with
  | some b, some r =>
    if !b.ready r.2.1 t || b.sent || (r.2.2.reduceTo.isNone != merge) then s
    else match r.2.1.outbound r.2.2 with
      | none => s
      | some u => match (s.tile u).burst with
        | none => s
        | some d =>
          let s1 := (List.range 512).foldl (fun v c => v.addColumn t b.bank u d.bank c r.2.1.acc16) s
          let s2 := ((s1.count (R.TILE_CHAIN_adds_out t) 1).count (R.TILE_CHAIN_adds_in u) 1).pmuTile t 7 1
          (s2.setTile t { s2.tile t with burst := some { b with sent := true } }).setTile u
            { s2.tile u with burst := some { d with inbound := d.inbound + 1 } }
  | _, _ => s

/-- CHAIN_ADD. -/
def execChainAdd (tile : Fin 256) (s : State) : Host.Outcome State Fault Refusal := .next (s.chainMove tile.val false)

/-- SLICE_MERGE. -/
def execSliceMerge (tile : Fin 256) (s : State) : Host.Outcome State Fault Refusal := .next (s.chainMove tile.val true)

/-- Every tile of the plate has ended its part of the burst (R350, R277). -/
def State.burstOver (s : State) (p : Plate) : Bool :=
  p.tiles.all (fun r => match (s.tile r.tile).burst with | some b => b.over p r | none => true)

/-! ### The TILE window (R230, R235) -/

/-- TILE_INFO, TILE_CFG, TILE_SPAREk, TILE_TRIMc and the live fields of TILE_FIXSTAT and TILE_FIXCNT1. -/
def State.tileLive (s : State) (t a : Nat) : Option Nat :=
  let x := s.tile t
  let rec? := s.tileRec t
  if a = 0 then
    some (t + 2 ^ 8 * b2n x.owner.isSome +
      (match rec? with | some r => 2 ^ 9 * r.2.1.num + 2 ^ 15 * r.2.1.rowGroup + 2 ^ 17 * b2n r.2.1.acc16 | none => 0) +
      2 ^ 18 * b2n x.erasing + 2 ^ 19 * b2n x.faulty + 2 ^ 20 * x.spares.length)
  else if a = 4 then
    some (match rec? with
      | some r => r.2.1.adcShift + 2 ^ 8 * r.2.1.clipLimit + 2 ^ 16 * r.2.1.aeWindow + 2 ^ 20 * r.2.2.slice + 2 ^ 21 * r.2.2.bank
      | none => 0)
  else if 0x20 ≤ a ∧ a < 0x40 then
    some (match x.spares.find? (fun p => p.1 == (a - 0x20) / 4) with | some p => p.2 + 2 ^ 15 | none => 0)
  else if 0x1000 ≤ a ∧ a < 0x1000 + 4 * 520 then (let w := s.trimWord t ((a - 0x1000) / 4)
    some (bits w 0 14 + 2 ^ 16 * bits w 16 14))
  else if a = 0xB000 then
    let queued := ((s.fix.queue.toList.getD (dieOf t) []).filter (fun e => e.tile == t)).length
    let running := (s.fix.running.toList.getD (dieOf t) []).any (fun e => e.tile == t)
    let refixing := s.fix.refixes.any (fun r => r.tiles.contains t)
    some (b2n (decide (0 < queued) || running) + 2 * b2n refixing + 4 * s.get (R.TILE_FIXSTAT_due t) +
      8 * s.get (R.TILE_FIXSTAT_over_budget t) + 16 * s.get (R.TILE_FIXSTAT_spares_exhausted t) + 32 * b2n x.worn +
      64 * s.get (R.TILE_FIXSTAT_fog_fault t) + 2 ^ 8 * queued)
  else if a = 0xB008 then
    some (x.refixes % 2 ^ 16 + 2 ^ 16 * s.get (R.TILE_FIXCNT1_erase_fails t) + 2 ^ 24 * s.get (R.TILE_FIXCNT1_thin_windows t))
  else none

/-- A register of a tile's map; those of the scale file, the windows, the clip counters and the banks read 0 on a tile that
no image owns. -/
def State.tileWord (s : State) (t a : Nat) : Nat :=
  match s.tileLive t a with
  | some w => w
  | none =>
    if ((0x4000 ≤ a ∧ a < 0xB000) ∨ 0xC000 ≤ a) ∧ (s.tile t).owner.isNone then 0
    else s.regWord (0x1000000 + 0x10000 * t + a)

/-- TILE_ADDR moves on after an access when autoinc is set (R230). -/
def State.tileStep (s : State) : State :=
  if s.get R.TILE_ADDR_autoinc = 1 then s.put R.TILE_ADDR_addr (s.get R.TILE_ADDR_addr + 1) else s

/-- The selected tile cannot be reached (R235). -/
def State.tileUnreachable (s : State) (t : Nat) : Bool := !s.linkTrained t || s.tileForced t

/-- A read of TILE_DATA: the word, and the state after it. TILE_EXP_LO captures the high word. -/
def State.tileDataRead (s : State) : Nat × State :=
  let t := s.get R.TILE_SEL_tile
  let a := 4 * s.get R.TILE_ADDR_addr
  let key := 0x10000 * t + 0x18
  if s.tileUnreachable t then (0, (s.put R.TILE_STAT_timeout 1).tileStep)
  else if a = 0x14 then (s.tileWord t a, s.tileStep.capture 5 key (s.get (R.TILE_EXP_HI t)))
  else if a = 0x18 then ((match s.captured 5 key with | some v => v | none => s.tileWord t a), s.tileStep)
  else (s.tileWord t a, s.tileStep)

/-- TILE_DATA_READ. -/
def execTileDataRead (s : State) : Host.Outcome State Fault Refusal :=
  .next (if s.blockUp 6 then let r := s.tileDataRead; r.2.emit (.word 0 r.1) else s.emit (.word 0 0))

/-- A write to a trim (R224): all four codes of the column. -/
def State.trimWrite (s : State) (t c w : Nat) : State :=
  let x := s.tile t
  if x.owner.isSome || x.erasing then s.put R.TILE_STAT_denied 1
  else s.setTile t { x with trims := SMap.insert (SMap.erase x.trims c) c (bits w 0 14 + 2 ^ 16 * bits w 16 14) }

/-- A write of TILE_DATA (R224, R230, R235). -/
def State.tileDataWrite (s : State) (w : Nat) : State :=
  let t := s.get R.TILE_SEL_tile
  let a := 4 * s.get R.TILE_ADDR_addr
  (if s.tileUnreachable t then s.put R.TILE_STAT_timeout 1
   else if a = 8 then s.put (R.TILE_EVT t) (clearBits (s.get (R.TILE_EVT t)) (bits w 0 6))
   else if a = 0x1C then
     if bitAt w 0 then s.puts [(R.TILE_CNT0_slot_overruns t, 0), (R.TILE_CNT0_foreign_cmds t, 0), (R.TILE_CNT1_operand_wait t, 0),
       (R.TILE_EXP_LO t, 0), (R.TILE_EXP_HI t, 0)] else s
   else if 0x1000 ≤ a ∧ a < 0x1000 + 4 * 520 then s.trimWrite t ((a - 0x1000) / 4) w
   else s.put R.TILE_STAT_denied 1).tileStep

/-- TILE_DATA_WRITE. -/
def execTileDataWrite (value : Word) (s : State) : Host.Outcome State Fault Refusal :=
  .next (if s.blockUp 6 then s.tileDataWrite value.toNat else s)

/-! ### The test exposure (R231, R236) -/

/-- Why a test exposure would be refused. -/
def State.testRefused (s : State) (rg avg group : Nat) : Bool :=
  let t := s.get R.TILE_SEL_tile
  let x := s.tile t
  !s.isBench || x.owner.isSome || x.erasing || x.faulty || s.tileUnreachable t || s.fix.test.isSome ||
    decide (rg = 3 ∨ avg = 3 ∨ 512 ≤ group * groupRows rg)

/-- A write of TILE_TEST: its fields, and with start set a test exposure of the selected tile. -/
def State.tileTest (s : State) (w : Nat) : State :=
  let s1 := s.puts [(R.TILE_TEST_group, bits w 0 4), (R.TILE_TEST_row_group, bits w 4 2), (R.TILE_TEST_acc_mode, bits w 6 1),
    (R.TILE_TEST_adc_shift, bits w 7 3), (R.TILE_TEST_avg, bits w 10 2)]
  if !bitAt w 12 then s1
  else if s1.testRefused (bits w 4 2) (bits w 10 2) (bits w 0 4) then s1.put R.TILE_STAT_test_refused 1
  else
    let rows := (List.range 4).foldl (fun a k => a + 2 ^ (32 * k) * s1.get (R.TILE_TEST_ROWS k)) 0
    let x : TileTest := ⟨s1.get R.TILE_SEL_tile, bits w 0 4, bits w 4 2, bitAt w 6, bits w 7 3, 2 ^ bits w 10 2, rows⟩
    { s1.put R.TILE_STAT_test_busy 1 with fix := { s1.fix with test := some x } }

/-- TILE_TEST_START. -/
def execTileTestStart (value : Word) (s : State) : Host.Outcome State Fault Refusal :=
  .next (if s.blockUp 6 then s.tileTest value.toNat else s)

/-- The repetitions of a test exposure, with the decision levels of no curve. -/
def State.testRuns (s : State) (x : TileTest) (rows : List Nat) : Nat → List (List (Int × Bool)) × State
  | 0 => ([], s)
  | m + 1 =>
    let ld : GroupLoad := ⟨[], List.replicate 512 x.shift, toSigned 16 (s.get (R.TILE_GAIN_y_temp x.tile)), toSigned 16 (s.get (R.TILE_GAIN_g_drift x.tile))⟩
    let r := s.convert x.tile (s.integrate x.tile rows) ld x.acc16 false (fogShift x.rowGroup) []
    let rest := r.2.testRuns x rows m
    (r.1 :: rest.1, rest.2)

/-- TILE_TEST_DONE: codes and clip flags are stored (R231). A test exposure does not count in TILE_EXP (DESIGN CHOICE, log 134). -/
def execTileTestDone (s : State) : Host.Outcome State Fault Refusal :=
  .next (match s.fix.test with
    | none => s
    | some x =>
      if !s.blockUp 6 then s else
      let n := groupRows x.rowGroup
      let r := s.testRuns x (activeRows n x.group ((List.range n).map (bitAt x.rows))) x.avg
      let s1 := (averageAll r.1).zipIdx.foldl (fun u p =>
        u.puts [(R.TILE_TEST_CODE_code x.tile p.2, fromSigned 8 p.1.1), (R.TILE_TEST_CODE_clip x.tile p.2, b2n p.1.2)]) r.2
      { (s1.setBit (R.TILE_EVT x.tile) 4).put R.TILE_STAT_test_busy 0 with fix := { s1.fix with test := none } })

/-- A test exposure cut short by safe-forcing or a stop stores nothing (R238). -/
def State.testAbandon (s : State) : State :=
  match s.fix.test with
  | none => s
  | some _ => { s.puts [(R.TILE_STAT_test_busy, 0), (R.TILE_STAT_test_refused, 1)] with fix := { s.fix with test := none } }

end Sys2Proof.Machine
end

