-- ==== Sys2Proof/Machine/Fix.lean ====
section
/-!
DEFINITION. Sys2Proof/Machine/Fix.lean: the weight window (R302–R308), the pump and its queues (R305, R311–R316, R333), spare rows
(R317–R319), erasure (R320, R321) and refixing (R328–R332).
-/

namespace Sys2Proof.Machine

/-! ### Shadow and queues -/

/-- DRAM address of a crosspoint's target level (R304, R486). -/
def shadowAt (t row col : Nat) : Nat := shadowBase + 0x40000 * t + 512 * row + col

def State.target (s : State) (t row col : Nat) : Int := toSigned 8 (Memory.get s.mem (shadowAt t row col)).toNat

def State.setTarget (s : State) (t row col : Nat) (l : Int) : State :=
  { s with mem := Memory.set s.mem (shadowAt t row col) (BitVec.ofNat 8 (fromSigned 8 l)) }

/-- Every target of a tile back at 0. -/
def State.clearShadow (s : State) (t : Nat) : State :=
  { s with mem := SMap.clearRange s.mem (shadowAt t 0 0) (shadowAt (t + 1) 0 0) }

def die4 (n : Nat) : Fin 4 := Fin.ofNat 4 n

def State.fixQueue (s : State) (d : Nat) : List FixEntry := s.fix.queue[die4 d]
def State.fixRuns (s : State) (d : Nat) : List FixRun := s.fix.running[die4 d]
def State.setFixQueue (s : State) (d : Nat) (q : List FixEntry) : State :=
  { s with fix := { s.fix with queue := s.fix.queue.set (die4 d) q } }
def State.setFixRuns (s : State) (d : Nat) (r : List FixRun) : State :=
  { s with fix := { s.fix with running := s.fix.running.set (die4 d) r } }

/-- An entry or a run of the tile. -/
def State.fixPending (s : State) (t : Nat) : Bool :=
  (s.fixQueue (dieOf t)).any (fun e => e.tile == t) || (s.fixRuns (dieOf t)).any (fun e => e.tile == t)

/-- An entry or a run of the segment. -/
def State.segPending (s : State) (t row seg : Nat) : Bool :=
  (s.fixQueue (dieOf t)).any (fun e => e.tile == t && e.row == row && e.seg == seg) ||
  (s.fixRuns (dieOf t)).any (fun e => e.tile == t && e.row == row && e.seg == seg)

/-- A refix of the tile is queued or running. -/
def State.refixPending (s : State) (t : Nat) : Bool := s.fix.refixes.any (fun r => r.tiles.contains t)

/-- The running refix of the tile. -/
def State.refixRun (s : State) (t : Nat) : Option RefixRun := s.fix.refixes.findSome? (fun r => r.running.find? (fun x => x.tile == t))

/-- The pump limit of R313. -/
def State.pumpLimit (s : State) : Nat := if s.pwr.state = .overcast ∧ s.get R.THM_LIMIT_p_limit ≤ 200 then 1 else 4

/-- Pump slots in use on a die: segments, refixing tiles, erasures (R313, R320, R332). -/
def State.pumpUsed (s : State) (d : Nat) : Nat :=
  (s.fixRuns d).length + ((s.fix.refixes.flatMap Refix.running).filter (fun r => dieOf r.tile == d)).length +
  (s.tiles.filter (fun x => dieOf x.1 == d && x.2.eraseRun)).length

/-- TILE_FIX_EVT.queues_empty once nothing is queued or running. -/
def State.noteDrained (s : State) : State :=
  if (List.range 4).all (fun d => (s.fixQueue d).isEmpty && (s.fixRuns d).isEmpty) then s.raiseFix 0 else s

/-- The reference fix of R329 once a tile's entries have drained and it has had no refix. -/
def State.noteTileDrained (s : State) (t : Nat) : State :=
  if s.fixPending t || (s.tile t).refixed then s
  else (s.setTile t { s.tile t with ageAt := some s.fix.coreTicks }).put (R.TILE_AGE_hours t) 0

/-! ### Segments of a row -/

/-- First column and width of segment `m` of a row: eight of 64 data columns, and the fog columns (R302). -/
def segCol (m : Nat) : Nat := 64 * m
def segWidth (m : Nat) : Nat := if m < 8 then 64 else 8

/-- The levels segment `m` of a row is fixed to: the row's targets, or the fog levels for its parity (R220, R312). -/
def State.segTargets (s : State) (t row m : Nat) : List Int :=
  if m < 8 then (List.range 64).map (fun i => s.target t row (64 * m + i)) else (List.range 8).map (fun f => fogLevel f row)

/-- y_T in force on a tile (R322). -/
def State.tempOf (s : State) (t : Nat) : Int := toSigned 16 (s.get (R.TILE_GAIN_y_temp t))

/-- Every cell of the segment is inside its window (R309). -/
def State.segHolds (s : State) (t row m w : Nat) : Bool :=
  (s.segTargets t row m).zipIdx.all (fun l =>
    let p := s.pairAt t row (segCol m + l.2)
    (CellTarget.mk (nominalPlus l.1) w (s.tempOf t)).holds p.plus && (CellTarget.mk (nominalMinus l.1) w (s.tempOf t)).holds p.minus)

/-- The pump has run on segment `m` of a row toward `levels` (R311). -/
def State.pumpSegment (s : State) (t row m w : Nat) (levels : List Int) (r : PumpRun) : State :=
  let x := levels.zipIdx.foldl (fun (x : TileSt) l =>
    x.setPair row (segCol m + l.2) (pumpPair w (s.tempOf t) l.1 (s.freeIx + 256 * l.2) s.now r (s.pairAt t row (segCol m + l.2)))) (s.tile t)
  { s.setTile t x with freeIx := s.freeIx + 256 * levels.length }

/-- The cells of segment `m` of a row are unpredictable (R333). -/
def State.loseSegment (s : State) (t row m : Nat) : State :=
  let v := fun (i : Nat) => Config.free (s.freeIx + i)
  let x := (List.range (segWidth m)).foldl (fun (x : TileSt) i =>
    x.setPair row (segCol m + i) ⟨v (3 * i), v (3 * i + 1), freeInt (v (3 * i + 2)), s.now⟩) (s.tile t)
  { s.setTile t x with freeIx := s.freeIx + 192 }

/-- Segments numbered row × 9 + m, from `a` up to `b`, have been verified against the window, and fixed where they lay outside it
(R332 steps 1 and 2). -/
def State.refixSpan (s : State) (t a b : Nat) : State :=
  ((List.range b).drop a).foldl (fun u k => u.pumpSegment t (k / 9) (k % 9) refixWindow (u.segTargets t (k / 9) (k % 9)) ⟨0, 32, true⟩) s

/-- Segments of a tile: its 512 rows as driven, 9 each. -/
def segCount : Nat := 4608

/-- A running refix has come some way further, how far being free (R333): the segments it has passed are verified. -/
def State.refixAdvance (s : State) (t : Nat) : State :=
  match s.refixRun t with
  | none => s
  | some x =>
    let pos := x.pos + Config.free s.freeIx % (segCount - x.pos + 1)
    let s1 := ({ s with freeIx := s.freeIx + 1 }).refixSpan t x.pos pos
    { s1 with fix := { s1.fix with refixes := s1.fix.refixes.map (fun r =>
        { r with running := r.running.map (fun y => if y.tile = t then { y with pos := pos } else y) }) } }

/-- The running refix has not yet started the verify read of the segment (R333). -/
def State.refixAhead (s : State) (t row m : Nat) : Bool :=
  match s.refixRun t with | some x => decide (x.pos ≤ 9 * row + m) | none => false

/-! ### The weight window -/

/-- A decoded address of the window (R302): tile, region (0 code, 1 conductance, 2 reserved), row, first column, columns. -/
structure WindowLine where
  tile : Nat
  region : Nat
  row : Nat
  col : Nat
  count : Nat
  deriving DecidableEq, Repr

def WindowLine.ofDpa (a : Nat) : WindowLine :=
  let o := a - weightBase
  let r := o % 0x400000
  if r < 0x40000 then ⟨o / 0x400000, 0, r / 512, r % 512, 64⟩
  else if r < 0xC0000 then ⟨o / 0x400000, 1, (r - 0x40000) / 1024, (r - 0x40000) / 2 % 512, 32⟩
  else ⟨o / 0x400000, 2, 0, 0, 64⟩

/-- The tile takes new targets (R303). -/
def State.tileWritable (s : State) (t : Nat) : Bool :=
  (s.tile t).owner.isSome && !(s.tile t).erasing && s.linkTrained t && !s.tileForced t

/-- The level changes a write asks for, as (tile, column, level), and the codes it adjusts (R245, R246, R303). -/
def fixChanges (p : Plate) (t : Nat) (partner : Option Nat) (col : Nat) (data : List Byte) (be : Nat) : List (Nat × Nat × Int) × Nat :=
  (List.range 64).foldl (fun acc i =>
    if !bitAt be i then acc
    else
      let b := (data.getD i 0).toNat
      match p.int8, partner with
      | true, some u =>
        let x := int8Slices b
        (acc.1 ++ [(t, col + i, x.2.1), (u, col + i, x.1)], acc.2 + b2n x.2.2)
      | _, _ =>
        let x := int4Level (b % 16)
        (acc.1 ++ [(t, col + i, x.1)], acc.2 + b2n x.2)) ([], 0)

/-- A write dropped and counted (R303). -/
def State.dropWrite (s : State) : State := (s.count R.TILE_FIX_CNT_dropped_writes 1).raiseFix 8

/-- Tiles whose segment a write changes and for which it needs a new entry: none queued, and no running refix about to verify it. -/
def State.entriesNeeded (s : State) (row seg : Nat) (ts : List Nat) : List Nat :=
  ts.filter (fun t => !(s.fixQueue (dieOf t)).any (fun e => e.tile == t && e.row == row && e.seg == seg) && !s.refixAhead t row seg)

/-- Every needed entry has room in its die's queue. -/
def State.queueRoom (s : State) (ts : List Nat) : Bool :=
  ts.all (fun t => decide ((s.fixQueue (dieOf t)).length + (ts.filter (fun u => dieOf u == dieOf t)).length ≤ 1024))

/-- A write to a plate in quiesce or install leaves the tile's conductances unpredictable and the tile unfixed (R201). -/
def State.disturb (s : State) (t : Nat) : State :=
  match s.tileRec t with
  | some r =>
    if r.1.leaving then
      s.setTile t { s.tile t with cells := [], blanks := (s.tile t).blanks + 1, blank := .unknown, fogLost := (s.tile t).fogLost + 1, unfixed := true, dirty := true }
    else s
  | none => s

/-- A write to the weight window (R303, R305); none while it must be held. -/
def State.windowWrite (s : State) (a : Nat) (data : List Byte) (be : Nat) : Option State :=
  let w := WindowLine.ofDpa a
  if w.region = 2 ∨ s.memoryOnly = true then some s
  else if w.region = 1 ∨ s.tileWritable w.tile = false then some s.dropWrite
  else match s.tileRec w.tile with
    | none => some s.dropWrite
    | some r =>
      let partner := r.2.1.partner r.2.2
      if r.2.1.int8 && (r.2.2.slice == 1 || !(partner.all s.tileWritable)) then some s.dropWrite
      else
        let c := fixChanges r.2.1 w.tile partner w.col data be
        let moved := c.1.filter (fun x => s.target x.1 w.row x.2.1 != x.2.2)
        let changed := ([w.tile] ++ partner.toList).filter (fun t => moved.any (fun x => x.1 == t))
        let s0 := changed.foldl State.disturb (changed.foldl State.refixAdvance s)
        let needed := s0.entriesNeeded w.row (w.col / 64) changed
        if !s0.queueRoom needed then none
        else
          let s1 := moved.foldl (fun u x => u.setTarget x.1 w.row x.2.1 x.2.2) s0
          let s2 := needed.foldl (fun u t => u.setFixQueue (dieOf t) (u.fixQueue (dieOf t) ++ [⟨t, w.row, w.col / 64⟩])) s1
          some (if c.2 = 0 then s2 else (s2.count (R.TILE_FIXCNT0_adj_codes w.tile) c.2).pmu 0x6A (some r.1.ctx) c.2)

/-- A stack the write needs is in self-refresh: its own, or for the weight window any that holds the shadow (R151). -/
def State.writeAsleep (s : State) (a : Nat) : Bool :=
  if a < weightBase then s.clk.selfRefresh.getLsbD (stackOf a) else s.clk.selfRefresh != 0

/-- A claimed CXL.mem write, to DRAM or to the weight window; none while it must be held (R305, R490, R491). -/
def State.memWrite (s : State) (w : HeldWrite) : Option State :=
  if s.writeAsleep w.addr then none
  else if w.addr < weightBase then some (s.dramWrite w.addr w.data w.be w.poison)
  else if w.poison then some (s.count R.HOST_CNT0_poison_writes 1)
  else s.windowWrite w.addr w.data w.be

/-- A write arrives on a half: one behind a held one waits too (R305, R489, R490). -/
def State.memWriteOrHold (s : State) (h : Fin 2) (hpa : Nat) (data : List Byte) (be : Nat) (poison : Bool) : State :=
  let s1 := s.pmu (0xE1 + 2 * h.val) none 1
  match s1.claimed h hpa with
  | none => s1.unclaimedReq true
  | some a =>
    let x := s1.half h
    let w : HeldWrite := ⟨a, data, be, poison⟩
    if !x.heldWrites.isEmpty then s1.setHalf h { x with heldWrites := x.heldWrites ++ [w] }
    else match s1.memWrite w with
      | some t => t
      | none => s1.setHalf h { x with heldWrites := [w] }

/-- Held writes go on, oldest first, until one must wait again. -/
def State.releaseHeld (s : State) (h : Fin 2) : List HeldWrite → State
  | [] => s.setHalf h { s.half h with heldWrites := [] }
  | w :: ws =>
    match s.memWrite w with
    | some t => t.releaseHeld h ws
    | none => s.setHalf h { s.half h with heldWrites := w :: ws }

/-- WEIGHT_WRITE. -/
def execWeightWrite (half : Fin 2) (hpa : BitVec 52) (data : Line) (be : BitVec 64) (s : State) : Host.Outcome State Fault Refusal :=
  .next (if s.memServes half then s.memWriteOrHold half hpa.toNat data.toList be.toNat false else s)

/-- WEIGHT_WRITE_RELEASE (R305). -/
def execWeightWriteRelease (half : Fin 2) (s : State) : Host.Outcome State Fault Refusal :=
  .next (if s.controlUp then s.releaseHeld half (s.half half).heldWrites else s)

/-- How a read of a line answers before any sensing (R306, R307): zero, marker, or the cells are sensed. -/
inductive ReadKind where
  | zero | marker | sense
  deriving DecidableEq, Repr

def State.readKind (s : State) (w : WindowLine) : ReadKind :=
  if w.region = 2 ∨ (s.tile w.tile).owner.isNone = true ∨ (s.tile w.tile).erasing = true then .zero
  else
    let partner := match s.tileRec w.tile with | some r => (r.2.1.partner r.2.2).toList | none => []
    if ([w.tile] ++ partner).any (fun t => s.segPending t w.row (w.col / 64) || s.refixPending t) then .marker else .sense

/-- The bytes of a line of zeros or of markers. -/
def zeroBytes : List Byte := List.replicate 64 0
def WindowLine.markers (w : WindowLine) : List Byte :=
  if w.region = 1 then (List.replicate 32 [(0x00 : Byte), 0x80]).flatten else List.replicate 64 0x80

/-- The sensed level of a pair as the window shows it (R306): the verify read is referred to 25 °C. -/
def State.sensedCode (s : State) (w : WindowLine) (i : Nat) : Byte :=
  let l := (s.pairAt w.tile w.row (w.col + i)).level
  match s.tileRec w.tile with
  | some r =>
    if r.2.1.int8 && r.2.2.slice == 0 then
      match r.2.1.partner r.2.2 with
      | some u => BitVec.ofNat 8 (fromSigned 8 (16 * (s.pairAt u w.row (w.col + i)).level + l))
      | none => BitVec.ofNat 8 (fromSigned 8 l)
    else BitVec.ofNat 8 (fromSigned 8 l)
  | none => BitVec.ofNat 8 (fromSigned 8 l)

/-- A line as its cells are sensed (R306, R307). -/
def State.sensedLine (s : State) (w : WindowLine) : List Byte :=
  if w.region = 0 then (List.range 64).map (s.sensedCode w)
  else (List.range 32).flatMap (fun i => toLE 2 (fromSigned 16 (s.pairAt w.tile w.row (w.col + i)).reading))

/-- A read of the weight window that has been claimed: it answers, or waits for a gap (R306–R308). -/
def State.windowRead (s : State) (h : Fin 2) (a : Nat) : State :=
  let w := WindowLine.ofDpa a
  if s.memoryOnly then s.emit (.line h.val zeroBytes false)
  else match s.readKind w with
  | .zero => s.emit (.line h.val zeroBytes false)
  | .marker => s.emit (.line h.val w.markers false)
  | .sense => s.setHalf h { s.half h with heldReads := (s.half h).heldReads ++ [(a, s.frame)] }

/-- WEIGHT_READ. -/
def execWeightRead (half : Fin 2) (hpa : BitVec 52) (s : State) : Host.Outcome State Fault Refusal :=
  .next (if s.memServes half then
    let s1 := s.pmu (0xE0 + 2 * half.val) none 1
    match s1.claimed half hpa.toNat with
    | some a => if weightBase ≤ a then s1.windowRead half a else s
    | none => (s1.unclaimedReq false).emit (.line half.val zeroBytes true)
  else s)

/-- Ticks of the 1.5 µs a sensing gap lasts (R308). -/
def gapTicks : Nat := 188

/-- A burst of plate `p` is due within the gap (R308): a static slot of the plate about to start, a granted claim on it, or a routine
on it whose next command is not held past the gap by a WAIT. -/
def State.burstDue (s : State) (p : Nat) : Bool :=
  let soon := fun (start : Nat) => decide (s.horizon < start ∧ start ≤ s.horizon + gapTicks)
  s.img.resident.any (fun x => x.2.armed && x.2.image.slots.any (fun q => q.2.any (fun e =>
    e.enable && e.kind == 1 && e.resource == p && [s.frame, s.frame + 1].any (fun f =>
      decide (x.2.epoch ≤ f ∧ (f - x.2.epoch) % x.2.image.period = e.frameOffset) && soon (2048 * f + e.startTick))))) ||
  s.descs.any (fun d => match d.phase with
    | .granted f _ _ => usesPlate d.desc.opcode && d.desc.plate == p &&
        ((d.desc.claims d.addr).drop d.dispatched).any (fun c => c.kind == 1 && soon (2048 * f + d.home.getD 0 + c.off))
    | _ => false) ||
  s.seqs.toList.any (fun q => match q.routine with
    | some r => r.kind == 1 && r.resource == p &&
        (match q.waitTick with | some w => decide (2048 * r.frame + r.startTick + w ≤ s.horizon + gapTicks) | none => true)
    | none => false)

/-- No burst of the tile's plate is in progress, and none is due within the gap. -/
def State.plateQuiet (s : State) (t : Nat) : Bool :=
  match s.tileRec t with
  | none => true
  | some r => r.2.1.tiles.all (fun x => (s.tile x.tile).burst.isNone) && !s.burstDue r.2.1.num

/-- WEIGHT_READ_SENSE (R308): the oldest waiting read whose plate has a gap. -/
def execWeightReadSense (half : Fin 2) (s : State) : Host.Outcome State Fault Refusal :=
  .next (match (s.half half).heldReads.find? (fun r => s.plateQuiet (WindowLine.ofDpa r.1).tile) with
    | none => s
    | some r =>
      let w := WindowLine.ofDpa r.1
      let s1 := s.setHalf half { s.half half with heldReads := (s.half half).heldReads.erase r }
      match s1.readKind w with
      | .zero => s1.emit (.line half.val zeroBytes false)
      | .marker => s1.emit (.line half.val w.markers false)
      | .sense =>
        (s1.emit (.line half.val (s1.sensedLine w) false)).pmu 0x68 none 1)

/-- WEIGHT_READ_STALE (R308): the oldest waiting read has found no gap within 2 frames. -/
def execWeightReadStale (half : Fin 2) (s : State) : Host.Outcome State Fault Refusal :=
  .next (match (s.half half).heldReads with
    | r :: rest =>
      if r.2 + 2 ≤ s.frame then
        let s1 := s.setHalf half { s.half half with heldReads := rest }
        ((s1.count R.TILE_FIX_CNT_stale_reads 1).pmu 0x69 none 1).emit (.line half.val (WindowLine.ofDpa r.1).markers false)
      else s
    | [] => s)

/-! ### Segments -/

/-- The plate of a tile is FIXING, and no replacement, unload or dusk holds its entries back (R316, R333). -/
def State.pumpMay (s : State) (t : Nat) : Bool :=
  match s.tileRec t with
  | some r => s.fix.fixing.getLsbD r.2.1.num && !r.1.leaving && s.pwr.dusk.isNone && s.linkTrained t && !s.tileForced t
  | none => false

/-- Entries the die's pump may start (R313, R316, R332): their tile runs no segment and no refix. -/
def State.startable (s : State) (d : Nat) (e : FixEntry) : Bool :=
  s.pumpMay e.tile && !(s.fixRuns d).any (fun r => r.tile == e.tile) && (s.refixRun e.tile).isNone

/-- The pump has pulsed a data cell of the tile, or will: its dirty mark (R320). -/
def State.markDirty (s : State) (t : Nat) : State := s.setTile t { s.tile t with dirty := true }

/-- SEGMENT_START (R313): the oldest entry the die's pump may start. -/
def execSegmentStart (die : Fin 4) (s : State) : Host.Outcome State Fault Refusal :=
  let d := die.val
  .next (if s.pumpLimit ≤ s.pumpUsed d then s
    else match (s.fixQueue d).find? (s.startable d) with
      | none => s
      | some e =>
        let s1 := (s.setFixQueue d ((s.fixQueue d).erase e)).setFixRuns d (s.fixRuns d ++ [⟨e.tile, e.row, e.seg, s.segTargets e.tile e.row e.seg⟩])
        if s.segHolds e.tile e.row e.seg fixWindow then s1 else s1.markDirty e.tile)

/-- The spare a remap ends on (R317): the lowest that has no valid entry and has not failed, skipping those that fail now. -/
def TileSt.spareFor (x : TileSt) (bad : BitVec 8) : Option Nat :=
  (List.range 8).find? (fun k => !(x.spares.any (fun p => p.1 == k)) && !x.badSpares.getLsbD k && !bad.getLsbD k)

/-- Spares tried before the one found, or all of them, that fail now. -/
def TileSt.spareLosses (x : TileSt) (bad : BitVec 8) : BitVec 8 :=
  let past := match x.spareFor bad with | some k => k | none => 8
  BitVec.ofNat 8 ((List.range 8).foldl (fun a k =>
    a + 2 ^ k * b2n (decide (k < past) && !(x.spares.any (fun p => p.1 == k)) && bad.getLsbD k)) 0)

/-- Row `row` moves to a spare whose nine segments verify at `targets` and the fog levels (R317), or has none left; the flag says that
it moved. No entry is ever invalidated (R225), so a row already on a spare cannot move again. -/
def State.remapRow (s : State) (t row w : Nat) (bad : BitVec 8) (targets : Nat → List Int) : State × Bool :=
  let x := s.tile t
  if x.spares.any (fun p => p.2 == row) then (s, false)
  else
    let losses := x.badSpares ||| x.spareLosses bad
    match x.spareFor bad with
    | some k =>
      let s1 := s.setTile t { x with spares := x.spares ++ [(k, row)], badSpares := losses }
      let s2 := (List.range 9).foldl (fun u m => u.pumpSegment t row m w (targets m) ⟨0, 32, true⟩) s1
      ((s2.raiseFix 1).pmu 0x63 (s2.tileCtx t) 1, true)
    | none => (s.setTile t { x with badSpares := losses }, false)

/-- A row has failed (R317, R318): it moves to a spare, or stays on its own cells as its last attempts left them. -/
def State.rowFailed (s : State) (t row w : Nat) (bad : BitVec 8) : State :=
  let r := s.remapRow t row w bad (s.segTargets t row)
  if r.2 then r.1
  else (r.1.puts [(R.TILE_FIXSTAT_spares_exhausted t, 1), (R.TILE_FIXSTAT_over_budget t, 1)]).raiseFix 2

/-- Segments `ms` of a row have been run, of which a free choice, never empty, has failed. -/
def State.failSegments (s : State) (t row w : Nat) (ms : List Nat) (targets : Nat → List Int) : State :=
  let mask := 1 + Config.free s.freeIx % (2 ^ ms.length - 1)
  ms.zipIdx.foldl (fun u m => u.pumpSegment t row m.1 w (targets m.1) (if bitAt mask m.2 then PumpRun.failed else ⟨0, 32, true⟩))
    { s with freeIx := s.freeIx + 1 }

/-- The segment's run ends, and with it that of segment 8 of its row (R311, R312, R317, R318): a run with three failed attempts has
failed, and which of the two segments failed is not told. -/
def State.segmentEnd (s : State) (d : Nat) (r : FixRun) (attempts iterations : Nat) (verified : Bool) (bad : BitVec 8) : State :=
  let ok := verified && decide (attempts < 3)
  let retries := if ok then attempts else 3
  let ctx := s.tileCtx r.tile
  let targets := fun (m : Nat) => if m = r.seg then r.targets else s.segTargets r.tile r.row m
  let run : PumpRun := ⟨attempts, min 32 (iterations - 32 * attempts), true⟩
  let s1 := ((s.setFixRuns d ((s.fixRuns d).erase r)).count (R.TILE_FIXCNT0_seg_retries r.tile) retries).pmu 0x62 ctx retries
  let s2 := (s1.pmu 0x60 ctx 1).pmu 0x61 ctx iterations
  let s3 :=
    if ok then [r.seg, 8].foldl (fun u m => u.pumpSegment r.tile r.row m fixWindow (targets m) run) s2
    else (s2.failSegments r.tile r.row fixWindow [r.seg, 8] targets).rowFailed r.tile r.row fixWindow bad
  (s3.noteTileDrained r.tile).noteDrained

/-- SEGMENT_DONE: the die's oldest running segment ends. -/
def execSegmentDone (die : Fin 4) (attempts : BitVec 2) (iterations : BitVec 7) (verified : Bool) (badSpares : BitVec 8) (s : State) :
    Host.Outcome State Fault Refusal :=
  .next (match s.fixRuns die.val with
    | [] => s
    | r :: _ => s.segmentEnd die.val r attempts.toNat iterations.toNat verified badSpares)

/-! ### Erasure (R320, R321, R333) -/

/-- The tile is taken out of its plate's refix. -/
def State.refixRemove (s : State) (t : Nat) : State :=
  { s with fix := { s.fix with refixes := (s.fix.refixes.map (fun (r : Refix) =>
      { r with tiles := r.tiles.filter (· != t), running := r.running.filter (fun x => x.tile != t) })).filter (fun r => !r.tiles.isEmpty) } }

/-- Queued entries and refixes of a tile are discarded; a running segment finishes (R333). -/
def State.fixDiscard (s : State) (t : Nat) : State :=
  let d := dieOf t
  let s1 := s.setFixQueue d ((s.fixQueue d).filter (fun e => e.tile != t))
  s1.refixRemove t

/-- A released tile is erased (R198, R199, R320, R333). -/
def State.releaseTile (s : State) (t : Nat) : State :=
  let s1 := s.fixDiscard t
  s1.setTile t { s1.tile t with owner := none, burst := none, caps := Vector.replicate 2 none, erasing := true, eraseRun := false }

/-- The array link of a die has trained: spares may be tried again, and tiles left programmed are erased (R317, R320). -/
def State.eraseAtTraining (s : State) (d : Nat) : State :=
  { s with tiles := s.tiles.map (fun x =>
      if dieOf x.1 = d then (x.1, { x.2 with badSpares := 0, erasing := x.2.erasing || x.2.dirty, eraseRun := false }) else x) }

/-- The tile's erasure may hold a pump slot: nothing of it runs, and its die can be reached (R320, R333). -/
def State.eraseMay (s : State) (t : Nat) : Bool :=
  (s.tile t).erasing && !(s.fixRuns (dieOf t)).any (fun r => r.tile == t) && s.linkTrained t && !s.tileForced t

/-- Its data cells are below the erase limit again, and its targets at 0; fog cells and remaps stay (R320). -/
def State.eraseTile (s : State) (t : Nat) (bad : Bool) : State :=
  let x := s.tile t
  (s.clearShadow t).setTile t { x with erasing := false, eraseRun := false, dirty := false, blanks := x.blanks + 1,
                                       blank := if bad then .partly else .erased, unfixed := false, hold := [],
                                       cells := x.cells.filter (fun c => decide (512 ≤ c.1 % 520)) }

/-- TILE_ERASE_DONE (R320, R321): `fails` pairs stayed programmed; `stuck` names the rows with one whose level is not 0. -/
def execTileEraseDone (tile : Fin 256) (fails : BitVec 8) (stuck : List (Fin 512)) (badSpares : BitVec 8) (s : State) :
    Host.Outcome State Fault Refusal :=
  let t := tile.val
  .next (if !s.eraseMay t || !s.blockUp 6 || (!(s.tile t).eraseRun && decide (s.pumpLimit ≤ s.pumpUsed (dieOf t))) then s
    else
      let s1 := s.eraseTile t (decide (fails ≠ 0))
      let s2 := if fails = 0 then s1 else (s1.count (R.TILE_FIXCNT1_erase_fails t) fails.toNat).raiseFix 6
      let s3 := stuck.foldl (fun u row =>
        let r := u.remapRow t row.val fixWindow badSpares (fun m => if m < 8 then List.replicate 64 0 else (List.range 8).map (fun f => fogLevel f row.val))
        if r.2 then r.1 else (r.1.setTile t { r.1.tile t with worn := true }).raiseFix 7) s2
      (s3.raiseFix 9).pmu 0x64 none 1)

/-- Safe-forcing or a stop abandons what a die's pump runs: the cells of a running segment are unpredictable, every other pair keeps
its conductance; with `again` the segments queue anew, and a refix waits to start again (R333). -/
def State.abandonRuns (s : State) (d : Nat) (again : Bool) : State :=
  let runs := s.fixRuns d
  let lose := fun (u : State) (t row m : Nat) => u.loseSegment t row m
  let s1 := runs.foldl (fun u r => lose (lose u r.tile r.row r.seg) r.tile r.row 8) (s.setFixRuns d [])
  let refs := ((s1.fix.refixes.flatMap Refix.running).filter (fun x => dieOf x.tile == d)).map RefixRun.tile
  let s2 := refs.foldl (fun u t =>
    let v := u.refixAdvance t
    match v.refixRun t with
    | some x => if x.pos < segCount then v.loseSegment t (x.pos / 9) (x.pos % 9) else v
    | none => v) s1
  let s3 := { s2 with
    tiles := s2.tiles.map (fun (x : Nat × TileSt) => if dieOf x.1 = d then (x.1, { x.2 with eraseRun := false }) else x),
    fix := { s2.fix with refixes := s2.fix.refixes.map (fun r => { r with running := r.running.filter (fun x => dieOf x.tile != d) }) } }
  if again then s3.setFixQueue d (runs.map (fun r => ⟨r.tile, r.row, r.seg⟩) ++ s3.fixQueue d) else s3

/-- Queued entries and refixes are discarded; running segments go on (R333: dusk accepted). A refix in progress ends with the segment it
is on. -/
def State.fixDrop (s : State) : State :=
  let s1 := (s.fix.refixes.flatMap Refix.running).foldl (fun u x => u.refixAdvance x.tile) s
  let s2 := (List.range 4).foldl (fun u d => u.setFixQueue d []) s1
  { s2 with fix := { s2.fix with refixes := [] } }

/-- Running segments finish and everything queued is discarded (R333: warm reset, the end of a dusk's quiesce). -/
def State.fixQuiesce (s : State) : State :=
  (List.range 4).foldl (fun u d =>
    ((u.fixRuns d).foldl (fun v r => (v.pumpSegment r.tile r.row r.seg fixWindow r.targets ⟨0, 32, true⟩).pumpSegment r.tile r.row 8 fixWindow
      (v.segTargets r.tile r.row 8) ⟨0, 32, true⟩) u).setFixRuns d []) s.fixDrop

/-! ### Refixing (R328–R332) -/

/-- A tile of the plate is due. -/
def State.plateDue (s : State) (p : Plate) : Bool := p.tiles.any (fun r => s.get (R.TILE_FIXSTAT_due r.tile) == 1)

/-- The plate's bit of TILE_DUE0 or TILE_DUE1 follows its tiles. -/
def State.noteDue (s : State) (p : Plate) : State :=
  let f := if p.num < 32 then R.TILE_DUE0 else R.TILE_DUE1
  if s.plateDue p then s.setBit f (p.num % 32) else s.clrBit f (p.num % 32)

def State.refixing (s : State) (p : Nat) : Bool := s.fix.refixes.any (fun r => r.plate == p)

/-- A refix of some tiles of a plate is queued. -/
def State.queueRefix (s : State) (p : Nat) (tiles : List Nat) : State :=
  if tiles.isEmpty then s else { s with fix := { s.fix with refixes := s.fix.refixes ++ [⟨p, tiles, []⟩] } }

/-- A write of TILE_REFIX_REQ (R331). -/
def State.refixRequest (s : State) (w : Nat) : State :=
  if !bitAt w 7 then s
  else match s.plateOf (bits w 0 6) with
    | none => s.raiseFix 10
    | some x =>
      if s.refixing (bits w 0 6) then s.raiseFix 10
      else
        let tiles := x.2.2.tiles.map TileRec.tile
        s.queueRefix (bits w 0 6) (if bitAt w 6 then tiles.filter (fun t => s.get (R.TILE_FIXSTAT_due t) == 1) else tiles)

/-- TILE_REFIX_REQ. -/
def execTileRefixReq (value : Word) (s : State) : Host.Outcome State Fault Refusal :=
  .next (if s.blockUp 6 then s.refixRequest value.toNat else s)

/-- A refix begins in a pump slot: the rows not in use and the first segment count as verified from here (R332); a cell outside its
window will be pulsed (R320). -/
def State.refixBegin (s : State) (t : Nat) : State :=
  let s1 := { s with fix := { s.fix with
    refixes := s.fix.refixes.map (fun r => if r.tiles.contains t then { r with running := r.running ++ [⟨t, 0⟩] } else r),
    queue := s.fix.queue.map (fun (q : List FixEntry) => q.filter (fun e => e.tile != t)) } }
  if (List.range segCount).all (fun k => s.segHolds t (k / 9) (k % 9) refixWindow) then s1 else s1.markDirty t

/-- Tiles of a die that wait for a pump slot: erasures, then refixes of FIXING plates (R313, R316, R320, R332). -/
def State.slotWaiters (s : State) (d : Nat) : List (Bool × Nat) :=
  ((s.tiles.filter (fun x => dieOf x.1 == d && !x.2.eraseRun && s.eraseMay x.1)).map (fun x => (true, x.1))) ++
  ((s.fix.refixes.flatMap (fun r => r.tiles.filter (fun t => !r.running.any (fun x => x.tile == t)))).filter (fun t =>
    dieOf t == d && s.pumpMay t && !(s.fixRuns d).any (fun r => r.tile == t))).map (fun t => (false, t))

/-- The pump's free slots go to the tiles that wait (R313). -/
def State.pumpFill (s : State) (d : Nat) : State :=
  ((s.slotWaiters d).take (s.pumpLimit - s.pumpUsed d)).foldl (fun u x =>
    if x.1 then u.setTile x.2 { u.tile x.2 with eraseRun := true } else u.refixBegin x.2) s

/-- All four dies. -/
def State.pumpFillAll (s : State) : State := (List.range 4).foldl State.pumpFill s

/-- One tile's refix ends (R332): the segments left are verified or fixed; the drift gain, the age and the running fog sums start anew;
the flags clear. A row of `rows` with a failed segment goes to R317 after that (DESIGN CHOICE, log 135). -/
def State.refixTile (s : State) (t pos : Nat) (rows : List RefixRow) : State :=
  let s0 := s.refixSpan t pos segCount
  let x := s0.tile t
  let s1 := s0.setTile t { x.clearFog with refixed := true, unfixed := false, refixes := min 65535 (x.refixes + 1), ageAt := some s0.fix.coreTicks }
  let s2 := (s1.puts [(R.TILE_GAIN_g_drift t, 0), (R.TILE_AGE_hours t, 0), (R.TILE_FIXSTAT_due t, 0),
    (R.TILE_FIXSTAT_over_budget t, 0), (R.TILE_FIXSTAT_fog_fault t, 0)]).raiseFix 5
  rows.foldl (fun u r =>
    let v := (u.count (R.TILE_FIXCNT0_seg_retries t) r.retries.toNat).pmu 0x62 (u.tileCtx t) r.retries.toNat
    if r.failed then (v.failSegments t r.row.val refixWindow (List.range 9) (v.segTargets t r.row.val)).rowFailed t r.row.val refixWindow r.badSpares
    else v) (s2.pmu 0x65 (s2.tileCtx t) 1)

/-- REFIX_DONE (R332): a tile's refix completes; `rows` are those a segment of which took retries or failed. -/
def execRefixDone (tile : Fin 256) (rows : List RefixRow) (s : State) : Host.Outcome State Fault Refusal :=
  .next (match s.refixRun tile.val, s.tileRec tile.val with
    | some x, some r => ((s.refixTile tile.val x.pos rows).refixRemove tile.val).noteDue r.2.1
    | _, _ => s)

/-- TILE_AGE_HOUR (R328, R329): a tile whose next whole hour from its reference fix has passed grows an hour older. -/
def execTileAgeHour (s : State) : Host.Outcome State Fault Refusal :=
  .next (if !s.pwr.railGood.getLsbD 1 then s
    else s.tiles.foldl (fun u x =>
      match x.2.owner, x.2.ageAt with
      | some _, some from' =>
        if hourTicks * (u.get (R.TILE_AGE_hours x.1) + 1) ≤ s.fix.coreTicks - from' then
          let v := u.count (R.TILE_AGE_hours x.1) 1
          if v.get R.TILE_REFIX_CFG_max_age < v.get (R.TILE_AGE_hours x.1) then v.tileDue x.1 else v
        else u
      | _, _ => u) s)

/-! ### Frame marks (R314, R330) -/

/-- A plate at a frame mark: due tiles of a plate with no armed schedule are queued (R330), and FIXING begins or ends (R314). -/
def State.fixMarkPlate (s : State) (i : ResImage) (p : Plate) : State :=
  let tiles := p.tiles.map TileRec.tile
  let due := tiles.filter (fun t => s.get (R.TILE_FIXSTAT_due t) == 1)
  let s1 := if i.armed || i.leaving || s.refixing p.num then s else s.queueRefix p.num due
  let work := s1.refixing p.num || tiles.any s1.fixPending
  let quiet := tiles.all (fun t => (s1.tile t).burst.isNone)
  let on := s1.fix.fixing.getLsbD p.num
  let on' := if on then work else work && quiet
  let bit := BitVec.twoPow 64 p.num
  let s2 := { s1 with fix := { s1.fix with fixing := if on' then s1.fix.fixing ||| bit else s1.fix.fixing &&& ~~~bit } }
  if on' then s2.pmu 0x67 (some i.ctx) 1 else s2

/-- Every plate at a frame mark. -/
def State.fixMark (s : State) : State :=
  let s1 := { s with fix := { s.fix with fixing := s.fix.fixing &&& BitVec.ofNat 64 ((List.range 64).foldl (fun a p =>
    a + 2 ^ p * b2n (s.plateOf p).isSome) 0) } }
  (s1.img.resident.foldl (fun u x => x.2.image.plates.foldl (fun v p => v.fixMarkPlate x.2 p) u) s1).pumpFillAll

/-- A fix entry or refix of the plate is queued or running (R315). -/
def State.plateFixBusy (s : State) (p : Plate) : Bool := s.refixing p.num || p.tiles.any (fun r => s.fixPending r.tile)

end Sys2Proof.Machine
end

