-- ==== Sys2Proof/Machine/Output.lean ====
section
/-!
DEFINITION. Sys2Proof/Machine/Output.lean: the output stage (R278–R284, R288, R289, R295, R296, R688) and the compensated add at a DRAM
controller (R285, R286).
-/

namespace Sys2Proof.Machine

/-- A controller counts an add with a flush (R286). -/
def State.countFlush (s : State) (a : Nat) (flushed : Bool) : State :=
  if flushed then 
    let k : Fin 2 := Fin.ofNat 2 (stackOf a)
    { s with flushes := s.flushes.set k (s.flushes[k] + 1) }
  else s

/-- A compensated add into the COMP64 word at a device address (R285, R286, R288). -/
def State.addComp (s : State) (a w : Nat) : State :=
  let r := compAdd (s.readNum a 8) w
  ((s.writeMem a (toLE 8 r.1)).pmuLine 2 a 1).countFlush a r.2

/-- The stack of an address is in self-refresh: what is due there waits (R151, R300). -/
def State.asleep (s : State) (a : Nat) : Bool := s.clk.selfRefresh.getLsbD (stackOf a)

/-- A write or a compensated add is applied by its controller. -/
def State.applyWrite (s : State) (w : DueWrite) : State := if w.add then s.addComp w.addr (ofLE w.data) else s.writeMem w.addr w.data

/-- A write or an add is handed to the controller of its stack, which holds it while the stack is in self-refresh (R296, R300). -/
def State.handOver (s : State) (w : DueWrite) : State :=
  if s.asleep w.addr then { s with dueWrites := s.dueWrites ++ [w] } else s.applyWrite w

/-- A stack has left self-refresh: what was held for it is applied, in order (R300). -/
def State.applyDue (s : State) : State :=
  let awake := s.dueWrites.filter (fun w => !s.asleep w.addr)
  awake.foldl State.applyWrite { s with dueWrites := s.dueWrites.filter (fun w => s.asleep w.addr) }

/-- COMP_ADD: one compensated add arrives at the controller of its word's stack. -/
def execCompAdd (addr : BitVec 40) (word : Word64) (s : State) : Host.Outcome State Fault Refusal :=
  let a := addr.toNat / 8 * 8
  .next (if s.controlUp && decide (a < cmdEnd) then s.handOver ⟨true, a, toLE 8 word.toNat⟩ else s)

/-! ### A run -/

/-- Bytes of one result in memory (R352). -/
def OutputCmd.elemBytes (o : OutputCmd) : Nat := if o.result = 0 then 1 else if o.result = 1 then 2 else 8
def OutputCmd.fuseBytes (o : OutputCmd) : Nat := if o.fuseBf16 then 2 else 1
def OutputCmd.channels (o : OutputCmd) : List Nat := (List.range o.chCount).map (fun i => o.chFirst + i)

/-- The tile that holds channel `j` of a plate (R250, R276). -/
def Plate.channelTile (p : Plate) (j : Nat) : Option TileRec := p.chainEndOf (j / 512) 0

/-- Bank of a run at a chain end (R269). -/
def OutRun.bankAt (r : OutRun) (x : TileRec) : Nat := (x.bank + r.cmd.bankOff) % 4

/-- y of channel `j` at its chain end (R250, R278). -/
def State.channelY (s : State) (r : OutRun) (x : TileRec) (j : Nat) : Dyadic' :=
  shiftOut (toSigned 32 (s.get (R.TILE_BANK_value x.tile (r.bankAt x) (j % 512))))
    (toSigned 8 (s.get (R.TILE_OSHIFT_shift x.tile (j % 512))))

/-- The fused operand of channel `j` (R280, R282). -/
def State.channelFused (s : State) (r : OutRun) (j : Nat) : Fused :=
  let o := r.cmd
  let w := s.readNum (r.fuseAddr + (j - o.chFirst) * o.fuseBytes) o.fuseBytes
  if o.fuse = 0 then .none else if o.fuseBf16 then .bf16 (o.fuse == 2) w else .int8 (o.fuse == 2) w o.zF o.fuseShift

/-- The channel's fused operand meets an uncorrectable error (R688). -/
def State.channelBad (s : State) (r : OutRun) (j : Nat) : Bool :=
  r.cmd.fuse != 0 && s.poisoned (r.fuseAddr + (j - r.cmd.chFirst) * r.cmd.fuseBytes) r.cmd.fuseBytes

/-- The LFSR of a plate's channel (R259, R260). -/
def State.lfsrOf (s : State) (p : Plate) (ctx j : Nat) : Nat :=
  match SMap.lookup s.img.lfsr (p.num * 2 ^ 17 + j) with
  | some v => v
  | none => lfsrSeed p.seed (s.get (R.CTX_SEED_seed ctx)) j

def State.setLfsr (s : State) (p : Plate) (j v : Nat) : State :=
  let k := p.num * 2 ^ 17 + j
  { s with img := { s.img with lfsr := SMap.insert (SMap.erase s.img.lfsr k) k v } }

/-- The channels of a plate start from their seeds (R260). -/
def State.seedPlate (s : State) (p : Nat) : State :=
  { s with img := { s.img with lfsr := SMap.clearRange s.img.lfsr (p * 2 ^ 17) ((p + 1) * 2 ^ 17) } }

/-- The bits a rounding uses, and the state after the advance of R259. -/
def State.drawLfsr (s : State) (p : Plate) (r : OutRun) (j : Nat) : Nat × State :=
  if r.cmd.stochastic && decide (r.cmd.result ≤ 1) then
    let v := lfsrSteps 24 (s.lfsrOf p r.ctx j)
    (v, s.setLfsr p j v)
  else (0, s)

/-- One channel's INT8, BF16 or COMP64 result delivered (R278 steps 4 and 5): results 0, 1, 3 and 4. -/
def State.deliverChannel (s : State) (r : OutRun) (p : Plate) (x : TileRec) (j : Nat) : State × Nat :=
  let o := r.cmd
  let y := fuse (s.channelY r x j) (s.channelFused r j)
  let d := s.drawLfsr p r j
  let mode := if o.stochastic then Rounding.stochastic else Rounding.nearest
  let a := r.dst + (j - o.chFirst) * o.elemBytes
  let exact := match y with | .num v => v | .bfNum v _ => v | _ => ⟨0, 0⟩
  if o.result = 0 then
    let c := int8Code mode exact o.zOut d.1
    let s1 := d.2.handOver ⟨false, a, toLE 1 c.1⟩
    if c.2 then ((s1.count (R.TILE_OUTCNT0_clamps x.tile) 1).pmu 0x52 (some r.ctx) 1, 2) else (s1, 0)
  else if o.result = 1 then
    let c := fusionBF16 mode d.1 y
    let s1 := d.2.handOver ⟨false, a, toLE 2 c.1⟩
    if c.2 then ((s1.count (R.TILE_OUTCNT0_nans x.tile) 1).pmu 0x53 (some r.ctx) 1, 4) else (s1, 0)
  else (d.2.handOver ⟨o.result == 4, a, toLE 8 (comp64Of exact)⟩, 0)

/-- The CADD transactions of a remote run: one for each line that holds a delivered channel, in order (R454, R461). -/
def State.remoteAdds (s : State) (r : OutRun) (p : Plate) (js : List Nat) : List (Nat × Nat × List Byte) :=
  let o := r.cmd
  ((List.range ((o.chCount + 7) / 8)).map (fun l =>
    let words := (List.range 8).map (fun w =>
      let j := o.chFirst + 8 * l + w
      if js.contains j then
        match p.channelTile j with
        | some x => match fuse (s.channelY r x j) (s.channelFused r j) with
          | .num v => some (comp64Of v)
          | _ => none
        | none => none
      else none)
    let mask := words.zipIdx.foldl (fun m q => m + (if q.1.isSome then 2 ^ q.2 else 0)) 0
    (r.dst / 64 + l, mask, words.flatMap (fun w => toLE 8 (w.getD 0))))).filter (fun t => t.2.1 != 0)

/-- A remote run hands its sends to its port as one transfer. -/
def State.sendAdds (s : State) (r : OutRun) (p : Plate) (js : List Nat) : State :=
  let lines := s.remoteAdds r p js
  if lines.isEmpty then s
  else
    let owner := match r.desc with | some d => XferOwner.desc d.1 d.2 | none => .routine r.q
    let x := s.newTransfer owner r.q r.cmd.port lines.length false
    let pair := s.ctxPair r.ctx
    x.2.enqueueAll r.cmd.port (lines.zipIdx.map (fun l =>
      x.2.ownTxn 2 r.sched (decide (l.2 + 1 = lines.length)) l.1.2.1 r.cmd.dstPkg x.1 l.1.1 pair l.1.2.2))

/-- The channels `js` of a run delivered; the flags of the record gathered (R289, R394). The clamps and NaNs of a top-k run's values are
not counted (DESIGN CHOICE, log 136). -/
def State.deliverRun (s : State) (r : OutRun) (p : Plate) (js : List Nat) (whole : Bool) : State × Nat :=
  let limit := js.any (fun j => match p.channelTile j with
    | some x => bitAt (s.get (R.TILE_BFLAG_limit x.tile (j % 512))) (r.bankAt x)
    | none => false)
  let good := js.filter (fun j => !s.channelBad r j)
  let d : State × Nat :=
    if r.cmd.result = 2 then
      if !whole then (s, 0)
      else
        let cands := good.filterMap (fun j => (p.channelTile j).map (fun x => (j, fuse (s.channelY r x j) (s.channelFused r j))))
        ((s.handOver ⟨false, r.dst, (topkEntries r.cmd.k r.cmd.topkFmt r.cmd.zOut cands).flatMap (toLE 8)⟩).pmu 0x55 (some r.ctx) 1, 0)
    else if r.cmd.result = 5 then (s.sendAdds r p good, 0)
    else good.foldl (fun acc j => match p.channelTile j with
      | some x => let y := acc.1.deliverChannel r p x j; (y.1, orBits acc.2 y.2)
      | none => acc) (s, 0)
  let s1 := (d.1.pmu 0x51 (some r.ctx) good.length).pmuLines 1 r.dst (if r.cmd.result = 5 then 0 else good.length * r.cmd.elemBytes)
  (if limit then s1.pmu 0x54 (some r.ctx) 1 else s1, orBits d.2 (b2n limit))

/-- The bank the run reads at a chain end has a commit or a chain add outstanding (R295). -/
def State.endBusy (s : State) (r : OutRun) (p : Plate) (x : TileRec) : Bool :=
  match (s.tile x.tile).burst with
  | some b => decide (b.bank = r.bankAt x) && !b.over p x
  | none => false

/-- The chain ends of a run whose banks it must wait for. -/
def State.busyEnds (s : State) (r : OutRun) (p : Plate) : List Nat :=
  (((r.cmd.channels.filterMap p.channelTile).filter (s.endBusy r p)).map TileRec.tile).eraseDups

/-- The address a channel's result is written to, and that of its fused operand. -/
def OutRun.dstOf (r : OutRun) (j : Nat) : Nat := if r.cmd.result = 2 then r.dst else r.dst + (j - r.cmd.chFirst) * r.cmd.elemBytes
def OutRun.fuseOf (r : OutRun) (j : Nat) : Nat := r.fuseAddr + (j - r.cmd.chFirst) * r.cmd.fuseBytes

/-- A stack the run needs for channel `j` is in self-refresh: for its fused operand, or for its result (R151, R300). -/
def State.fuseAsleep (s : State) (r : OutRun) (j : Nat) : Bool := r.cmd.fuse != 0 && s.asleep (r.fuseOf j)
def State.runAsleep (s : State) (r : OutRun) : Bool :=
  r.cmd.channels.any (fun j => s.fuseAsleep r j || (r.cmd.result != 5 && s.asleep (r.dstOf j)))

/-- The run's OUTPUT command has ended, and the sequencer's limit flag follows it (R345). -/
def State.outputEnded (s : State) (r : OutRun) (limit : Bool) : State :=
  let x := s.seq r.q
  match x.outstanding.findIdx? (fun o => decide (o.kind = .output r.cmd.plate) && !o.ended) with
  | none => s
  | some i => s.setSeq r.q { x with limitFlag := limit, outstanding := x.outstanding.modify i (fun o => { o with ended := true }) }

/-- A poisoned fused operand among the channels met leaves the descriptor FAULTED DATA_ERROR with the line's stack (R688). -/
def State.noteBad (s : State) (r : OutRun) (js : List Nat) : State :=
  match js.find? (s.channelBad r) with
  | none => s
  | some j => s.markFailed r.desc 0x10 (stackOf (r.fuseOf j))

/-- The run waits at chain end `t` and counts it, once (R295). -/
def State.countWait (s : State) (r : OutRun) (t : Nat) : State :=
  ((s.count (R.TILE_OUTCNT1_hazard_waits t) 1).setBit (R.TILE_EVT t) 5).pmu 0x57 (some r.ctx) 1

/-- The oldest run on a plate ends. -/
def State.outputRunDone (s : State) (r : OutRun) (p : Plate) : State :=
  match s.busyEnds r p with
  | [] =>
    let d := { s with outRuns := s.outRuns.erase r }.deliverRun r p r.cmd.channels true
    ((d.1.gatherFlags r.desc d.2).noteBad r r.cmd.channels).outputEnded r (bitAt d.2 0)
  | busy =>
    let fresh := busy.filter (fun t => !r.waited.contains t)
    let s1 := fresh.foldl (fun u t => u.countWait r t) s
    { s1 with outRuns := s1.outRuns.map (fun x => if x = r then { r with waited := r.waited ++ fresh } else x) }

/-- OUTPUT_RUN_DONE (R278–R289). -/
def execOutputRunDone (plate : Fin 64) (s : State) : Host.Outcome State Fault Refusal :=
  .next (match s.outRuns.find? (fun r => r.cmd.plate == plate.val), s.plateOf plate.val with
    | some r, some x => if s.runAsleep r then s else s.outputRunDone r x.2.2
    | _, _ => s)

/-- A run cut at its span's end (R296): on each die a number of channels the spec leaves open has been handed over, in ascending order
and none past a bank still waited for (R295) or a fused operand not yet read; each chain end with a channel left counts the cut, and
the flags and errors of the channels met stay with the record (R289, R688). -/
def State.outputCut (s : State) (r : OutRun) (p : Plate) : State :=
  let dieOfCh := fun (j : Nat) => match p.channelTile j with | some x => dieOf x.tile | none => 4
  let free := fun (j : Nat) => !s.fuseAsleep r j && (match p.channelTile j with | some x => !s.endBusy r p x | none => true)
  let lanes := (List.range 4).map (fun d => (r.cmd.channels.filter (fun j => dieOfCh j == d)).takeWhile free)
  let done := lanes.zipIdx.flatMap (fun l => l.1.take (Config.free (s.freeIx + l.2) % (l.1.length + 1)))
  let js := r.cmd.channels.filter done.contains
  let left := (r.cmd.channels.filter (fun j => !(done.contains j && r.cmd.result != 2))).filterMap (fun j => (p.channelTile j).map TileRec.tile)
  let s1 := { s with freeIx := s.freeIx + 4, outRuns := s.outRuns.erase r }
  let s2 := left.eraseDups.foldl (fun u t => u.count (R.TILE_OUTCNT1_out_cuts t) 1) s1
  let d := s2.deliverRun r p js false
  ((d.1.gatherFlags r.desc d.2).noteBad r js).pmu 0x56 (some r.ctx) 1

end Sys2Proof.Machine
end

