-- ==== Sys2Proof/Machine/Vector.lean ====
section
/-!
DEFINITION. Sys2Proof/Machine/Vector.lean: what the vector units compute (R391–R393): elements read as FP32, the operators, the
conversion to T1's format, and the digital matrix product.
-/

namespace Sys2Proof.Machine

/-! ### FP32 with gradual underflow -/

def nan32 : Nat := 0x7FC00000

/-- `± m × 2^e` rounded to FP32, nearest even. -/
def packIEEE (neg : Bool) (m : Nat) (e : Int) : Nat :=
  let s := if neg then 0x80000000 else 0
  let top : Int := e + (bitLen m : Int) - 1
  if m = 0 then s
  else if top < -126 then
    s + (if e < -149 then (roundHalfEven (m : Int) (2 ^ (-149 - e).toNat)).toNat else m * 2 ^ (e + 149).toNat)
  else (packFP32 neg m e).1

/-- FP32 of an exact value; a zero takes the sign given. -/
def ieeeOf (y : Dyadic') (zeroNeg : Bool) : Nat :=
  if y.num = 0 then (if zeroNeg then 0x80000000 else 0) else packIEEE (decide (y.num < 0)) y.num.natAbs (-(y.frac : Int))

/-- Subnormals read as zeros of their sign (R391). -/
def flush32 (w : Nat) : Nat := if bits w 23 8 = 0 then w / 2 ^ 31 % 2 * 2 ^ 31 else w

def signOf (w : Nat) : Bool := bitAt w 31

/-- The sum of two FP32 numbers. -/
def addIEEE (a b : Nat) : Nat :=
  match readFP32 a, readFP32 b with
  | .fin na ma ea, .fin nb mb eb =>
    ieeeOf ((FloatVal.fin na ma ea).exact.add (FloatVal.fin nb mb eb).exact) (na && nb && ma == 0 && mb == 0)
  | _, _ => (fpAdd a b).1

/-- The product of two FP32 numbers. -/
def mulIEEE (a b : Nat) : Nat :=
  let neg := signOf a != signOf b
  match readFP32 a, readFP32 b with
  | .nan, _ => nan32
  | _, .nan => nan32
  | .inf _, .fin _ m _ => if m = 0 then nan32 else if neg then 0xFF800000 else 0x7F800000
  | .fin _ m _, .inf _ => if m = 0 then nan32 else if neg then 0xFF800000 else 0x7F800000
  | .inf _, .inf _ => if neg then 0xFF800000 else 0x7F800000
  | .fin na ma ea, .fin nb mb eb => ieeeOf ((FloatVal.fin na ma ea).exact.mul (FloatVal.fin nb mb eb).exact) neg

/-- `a < b` between numbers. -/
def ltIEEE (a b : Nat) : Bool :=
  match readFP32 a, readFP32 b with
  | .inf n, .inf m => n && !m
  | .inf n, .fin _ _ _ => n
  | .fin _ _ _, .inf m => !m
  | .fin na ma ea, .fin nb mb eb => (FloatVal.fin na ma ea).exact.lt (FloatVal.fin nb mb eb).exact
  | _, _ => false

/-- `acc + a × b` with one rounding (R393). -/
def fmaIEEE (acc a b : Nat) : Nat :=
  match readFP32 acc, readFP32 a, readFP32 b with
  | .fin n0 m0 e0, .fin na ma ea, .fin nb mb eb =>
    let p := (FloatVal.fin na ma ea).exact.mul (FloatVal.fin nb mb eb).exact
    ieeeOf ((FloatVal.fin n0 m0 e0).exact.add p) (n0 && m0 == 0 && p.num == 0 && (na != nb))
  | _, _, _ => addIEEE acc (mulIEEE a b)

/-! ### Elements -/

/-- Number of element `i0` of row (i1, i2) of a tensor, as stored. -/
def State.elemRaw (s : State) (t : TensorD) (i0 i1 i2 : Nat) : Nat :=
  let row := t.rowAt i1 i2
  if t.fmt = 2 then bits (s.readNum (row + i0 / 2) 1) (4 * (i0 % 2)) 4 else s.readNum (row + i0 * (t.elemBits / 8)) (t.elemBits / 8)

/-- An element as FP32 (R391). -/
def elemFP32 (t : TensorD) (inShift : Int) (w : Nat) : Nat :=
  if t.fmt = 1 then ieeeOf (shiftOut ((w : Int) - (t.zero : Int)) inShift) false
  else if t.fmt = 2 then ieeeOf (shiftOut (toSigned 4 w) inShift) false
  else if t.fmt = 3 then flush32 (w * 65536)
  else if t.fmt = 5 then flush32 w
  else addIEEE (bits w 0 32) (bits w 32 32)

/-- FP32 in T1's format, with the record's flags (1 is clamp, 2 is nan); INT4 has no stated conversion and takes `free`
(R391). -/
def elemOut (t : TensorD) (outShift : Int) (free v : Nat) : Nat × Nat :=
  if t.fmt = 5 then (v, 0)
  else if t.fmt = 4 then (v, 0)
  else if t.fmt = 3 then
    match readFP32 v with
    | .nan => (0x7FC0, 0)
    | .inf n => (if n then 0xFF80 else 0x7F80, 0)
    | .fin n m e => (if m = 0 then (if n then 0x8000 else 0) else bf16Of .nearest (FloatVal.fin n m e).exact 0, 0)
  else if t.fmt = 1 then
    match readFP32 v with
    | .nan => (t.zero, 4)
    | .inf n => (if n then 0 else 255, 2)
    | .fin n m e =>
      let c := int8Code .nearest ((FloatVal.fin n m e).exact.mul (shiftOut 1 outShift)) t.zero 0
      (c.1, 2 * b2n c.2)
  else (free % 16, 0)

/-- One element stored; the other nibble of an INT4 byte is kept. -/
def State.storeElem (s : State) (t : TensorD) (i0 i1 i2 w : Nat) : State :=
  let row := t.rowAt i1 i2
  if t.fmt = 2 then
    let a := row + i0 / 2
    let old := s.readNum a 1
    let keep := if i0 % 2 = 0 then (if i0 + 1 = t.d0 then 0 else old / 16 * 16) else old % 16
    s.writeMem a (toLE 1 (keep + w * 16 ^ (i0 % 2)))
  else s.writeMem (row + i0 * (t.elemBits / 8)) (toLE (t.elemBits / 8) w)

/-- Lines of a tensor's extent hold a poisoned one (R491). -/
def State.tensorPoisoned (s : State) (t : TensorD) : Bool := t.present && s.poisoned t.addr t.extent

/-! ### Functions known within a bound (R392)

The spec gives ACTIVATE, SOFTMAX and NORM within a relative or absolute bound and not to the bit. The result is a free FP32 number that
lies within the bound of a reference value; the reference is a rational that lies within a part in 2^40 of the function. -/

def FloatVal.rat (v : FloatVal) : Rat := ((v.exact.num : Int) : Rat) / (2 ^ v.exact.frac : Rat)

/-- A rational rounded to FP32, nearest even: 31 bits of the quotient or more, and a bit that says whether any are left. -/
def ieeeOfRat (q : Rat) : Nat :=
  let a := q.num.natAbs
  let k : Int := (bitLen a : Int) - (bitLen q.den : Int) - 32
  let n := if k < 0 then a * 2 ^ (-k).toNat else a
  let d := if k < 0 then q.den else q.den * 2 ^ k.toNat
  packIEEE (decide (q.num < 0)) (2 * (n / d) + b2n (n % d != 0)) (k - 1)

/-- A free FP32 number within a part `rel` of `ref`, or within `absTol`; the reference itself, rounded, where the number drawn lies
outside. -/
def withinBound (free : Nat) (ref rel absTol : Rat) : Nat :=
  match readFP32 (free % 2 ^ 32) with
  | .fin n m e =>
    let d := (FloatVal.fin n m e).rat - ref
    let a := if d < 0 then -d else d
    let r := if ref < 0 then -ref else ref
    if a ≤ rel * r ∨ a ≤ absTol then free % 2 ^ 32 else ieeeOfRat ref
  | _ => ieeeOfRat ref

/-- e^x to a part in 2^80 for x from −120 to 100; 0 below that range, and 2^140 above it, which is more than FP32 holds. -/
def expNear (x : Rat) : Rat :=
  if x < -120 then 0 else if 100 < x then 2 ^ 140 else
  let ln2 : Int := 54916777467707473351141471128
  let fx := (x * 2 ^ 96).floor
  let n := Int.fdiv fx ln2
  let r := (fx - n * ln2).toNat
  let t := (List.range 30).foldl (fun (acc : Nat × Nat) k => let u := acc.1 * r / ((k + 1) * 2 ^ 96); (u, acc.2 + u)) (2 ^ 96, 2 ^ 96)
  ((t.2 * 2 ^ (n + 200).toNat : Nat) : Rat) / (2 ^ 296 : Rat)

/-- The whole part of a square root. -/
def isqrt (n : Nat) : Nat :=
  let b := bitLen n / 2 + 1
  (List.range b).foldl (fun r i => let c := r + 2 ^ (b - 1 - i); if c * c ≤ n then c else r) 0

/-- √q of a positive q. -/
def sqrtNear (q : Rat) : Rat := (isqrt (q.num.natAbs * 4 ^ 128 / q.den) : Rat) / (2 ^ 128 : Rat)

def sigmoidNear (y : Rat) : Rat := if y < -100 then 0 else if 100 < y then 1 else 1 / (1 + expNear (-y))

/-- The reference of an ACTIVATE of a number. GELU's tanh form is v × sigmoid(2 √(2/π) (v + 0.044715 v³)). None where the spec states
no value: a reciprocal square root of a number that is not positive. -/
def activateRef (vop : Nat) (v : Rat) : Option Rat :=
  if vop = 0 then some (if v < 0 then 0 else v)
  else if vop = 1 then some (v * sigmoidNear ((29436744586989209808 : Rat) / 2 ^ 64 * (v + 44715 / 1000000 * v * v * v)))
  else if vop = 2 then some (v * sigmoidNear v)
  else if vop = 3 then some (expNear v)
  else if 0 < v then some (1 / sqrtNear v) else none

/-- One ACTIVATE: the bound is 2^−18 relative or 2^−30 absolute. An infinite operand has a stated result under the rectifier alone. -/
def activate (vop free v : Nat) : Nat :=
  match readFP32 v with
  | .nan => nan32
  | .inf n => if vop = 0 then (if n then 0 else v) else free % 2 ^ 32
  | .fin n m e =>
    match activateRef vop (FloatVal.fin n m e).rat with
    | some ref => withinBound free ref (1 / 2 ^ 18 + 1 / 2 ^ 40) (1 / 2 ^ 30 + 1 / 2 ^ 50)
    | none => free % 2 ^ 32

/-- The largest number of a row, and what divides each result of a row: the sum of exponentials for SOFTMAX, the square root of the
mean square for NORM. -/
def rowMax (row : List Nat) : Rat :=
  match row with
  | [] => 0
  | v :: l => l.foldl (fun m w => if m < (readFP32 w).rat then (readFP32 w).rat else m) (readFP32 v).rat

def rowDivisor (op : Nat) (row : List Nat) : Rat :=
  if op = 0x14 then let m := rowMax row; row.foldl (fun a v => a + expNear ((readFP32 v).rat - m)) 0
  else sqrtNear (row.foldl (fun a v => a + (readFP32 v).rat * (readFP32 v).rat) 0 / (max row.length 1 : Nat) + 1 / 2 ^ 20)

/-- One result of SOFTMAX or NORM, within 2^−18 relative; below FP32's normal range the bound is the smallest normal number. -/
def rowResult (op free v0 v2 : Nat) (rowInf : Bool) (top divisor : Rat) : Nat :=
  if rowInf || (op != 0x14 && fpIsInf v2) then free % 2 ^ 32
  else
    let ref := if op = 0x14 then expNear ((readFP32 v0).rat - top) / divisor else (readFP32 v0).rat * (readFP32 v2).rat / divisor
    withinBound free ref (1 / 2 ^ 18 + 1 / 2 ^ 40) (1 / 2 ^ 126)

/-! ### The operators of R392 -/

/-- One result of an operator, as FP32. `free` is a number no one knows; `top` and `divisor` are those of the row. -/
def vectorValue (op vop : Nat) (free v0 v2 : Nat) (rowNaN rowInf : Bool) (top divisor : Rat) : Nat :=
  if op = 0x11 then v0
  else if op = 0x12 then
    if fpIsNaN v0 || fpIsNaN v2 then nan32
    else if vop = 0 then addIEEE v0 v2
    else if vop = 1 then mulIEEE v0 v2
    else if ltIEEE v0 v2 then (if vop = 2 then v2 else v0)
    else if ltIEEE v2 v0 then (if vop = 2 then v0 else v2)
    else if free % 2 = 0 then v0 else v2
  else if op = 0x13 then activate vop free v0
  else if rowNaN || (op != 0x14 && fpIsNaN v2) then nan32 else rowResult op free v0 v2 rowInf top divisor

/-- One row of an element-wise or row operator; flags gathered. -/
def State.vectorRow (s : State) (d : Desc) (i1 i2 : Nat) : State × Nat :=
  let t0 := d.tensor 0
  let t1 := d.tensor 1
  let t2 := d.tensor 2
  let v0 := (List.range t0.d0).map (fun i => elemFP32 t0 d.inShift (s.elemRaw t0 i i1 i2))
  let v2 := (List.range t0.d0).map (fun i =>
    if !t2.present then 0x3F800000
    else if t2.rank = 1 then elemFP32 t2 d.inShift (s.elemRaw t2 i 0 0) else elemFP32 t2 d.inShift (s.elemRaw t2 i i1 i2))
  let rowNaN := v0.any fpIsNaN
  let rowInf := v0.any fpIsInf
  let top := rowMax v0
  let divisor := rowDivisor d.opcode v0
  (List.range t0.d0).foldl (fun acc i =>
    let f := acc.1.free
    let v := vectorValue d.opcode d.vop f.1 (v0.getD i 0) (v2.getD i 0) rowNaN rowInf top divisor
    let g := f.2.free
    let w := elemOut t1 d.outShift g.1 v
    (g.2.storeElem t1 i i1 i2 w.1, orBits acc.2 w.2)) (s, 0)

/-- Rows of a tensor, as (i1, i2). -/
def TensorD.rows (t : TensorD) : List (Nat × Nat) := (List.range t.d2).flatMap (fun i2 => (List.range t.d1).map (fun i1 => (i1, i2)))

/-- COPY: the packed bytes of every row, unchanged (R392), the last byte's high nibble of an odd INT4 row with them (DESIGN CHOICE,
log 138). -/
def State.vectorCopy (s : State) (t0 t1 : TensorD) : State :=
  t0.rows.foldl (fun u r => u.writeMem (t1.rowAt r.1 r.2) (s.readMem (t0.rowAt r.1 r.2) t0.rowBytes)) s

/-! ### DIGITAL_MATVEC (R393) -/

/-- The fused operand of channel `j`. -/
def State.fusedOf (s : State) (d : Desc) (j : Nat) : Fused :=
  let t2 := d.tensor 2
  if d.fuse = 0 then .none
  else if t2.fmt = 3 then .bf16 (d.fuse == 2) (s.elemRaw t2 j 0 0)
  else .int8 (d.fuse == 2) (s.elemRaw t2 j 0 0) t2.zero d.fuseShift

/-- A before the output shift: exact for integers, FP32 for BF16. -/
def State.dotOf (s : State) (d : Desc) (b j : Nat) : FloatVal :=
  let t0 := d.tensor 0
  let t3 := d.tensor 3
  let value := fun (t : TensorD) (w : Nat) => if t.fmt = 1 then (w : Int) - (t.zero : Int) else toSigned 4 w
  if t0.fmt = 3 then
    readFP32 ((List.range t0.d0).foldl (fun acc r =>
      fmaIEEE acc (flush32 (s.elemRaw t0 r b 0 * 65536)) (flush32 (s.elemRaw t3 r j 0 * 65536))) 0)
  else
    let a := (List.range t0.d0).foldl (fun acc r => acc + value t0 (s.elemRaw t0 r b 0) * value t3 (s.elemRaw t3 r j 0)) (0 : Int)
    .fin (decide (a < 0)) a.natAbs 0

/-- One output of the product: its code and flags. -/
def State.matvecOut (s : State) (d : Desc) (b j lfsr : Nat) : Nat × Nat :=
  let t1 := d.tensor 1
  let mode := if d.round = 1 then Rounding.stochastic else Rounding.nearest
  let fusion := match s.dotOf d b j with
    | .nan => Fusion.nan
    | .inf n => .inf n
    | f => fuse (f.exact.mul (shiftOut 1 d.outShift)) (s.fusedOf d j)
  if t1.fmt = 3 then
    let c := fusionBF16 mode lfsr fusion
    (c.1, 4 * b2n c.2)
  else match fusion with
    | .num y => let c := int8Code mode y t1.zero lfsr; (c.1, 2 * b2n c.2)
    | .bfNum y _ => let c := int8Code mode y t1.zero lfsr; (c.1, 2 * b2n c.2)
    | .nan => (t1.zero, 4)
    | .inf n => (if n then 0 else 255, 2)

/-- The product, channel by channel, each with its LFSR (R259, R260). -/
def State.digitalMatvec (s : State) (d : Desc) (ctx : Nat) : State × Nat :=
  let t0 := d.tensor 0
  let t1 := d.tensor 1
  let t3 := d.tensor 3
  (List.range t3.d1).foldl (fun acc j =>
    let seed := lfsrSeed d.baseSeed (s.get (R.CTX_SEED_seed ctx)) j
    let r := (List.range t0.d1).foldl (fun x b =>
      let l := if d.round = 1 then lfsrSteps 24 x.2.2 else x.2.2
      let o := s.matvecOut d b j l
      (x.1.storeElem t1 j b 0 o.1, orBits x.2.1 o.2, l)) (acc.1, 0, seed)
    (r.1, orBits acc.2 r.2.1)) (s, 0)

/-- A vector operator of a context runs to its end: the state, and the record's flags. -/
def State.vectorRun (s : State) (d : Desc) (ctx : Nat) : State × Nat :=
  let t0 := d.tensor 0
  let r := if d.opcode = 0x10 then (s.vectorCopy t0 (d.tensor 1), 0)
    else if d.opcode = 0x16 then s.digitalMatvec d ctx
    else t0.rows.foldl (fun acc i => let x := acc.1.vectorRow d i.1 i.2; (x.1, orBits acc.2 x.2)) (s, 0)
  let s1 := r.1.pmu 0x5C (some ctx) (d.tensor 1).elems
  (if d.opcode = 0x16 then s1.pmu 0x5D (some ctx) (t0.d0 * t0.d1 * (d.tensor 3).d1) else s1, r.2)

end Sys2Proof.Machine
end

