-- ==== Sys2Proof/Machine/Issue.lean ====
section
/-!
DEFINITION. Sys2Proof/Machine/Issue.lean: the commands of nano-words (R346–R354): the word fetched and checked with what the
dispatch record supplies (R388), and the effect of each kind once it is issued.
-/

namespace Sys2Proof.Machine

/-! ### Stores (R339–R341, R364) -/

/-- The instant a WAIT names, and the end of the span. -/
def Routine.at (r : Routine) (tick : Nat) : Nat := 2048 * r.frame + r.startTick + tick
def Routine.spanEnd (r : Routine) : Nat := 2048 * r.frame + r.endTick

/-- The image a routine serves. -/
def State.servedImage (s : State) (r : Routine) : Option PlateImage := (r.image.bind s.resImage).map ResImage.image

/-- A word of patch RAM; what no section wrote is 0. -/
def ramWord (l : List (Nat × Nat)) (a : Nat) : Nat := match l.find? (fun p => p.1 == a) with | some p => p.2 | none => 0

def State.ramMicro (s : State) (a : Nat) : Nat := match s.patch with | some p => ramWord p.micro a | none => 0
def State.ramNano (s : State) (a : Nat) : Nat := match s.patch with | some p => ramWord p.nano a | none => 0
def State.overlay (s : State) (nano : Bool) (a : Nat) : Option Nat := s.patch.bind (fun p => overlaid p.overlays nano a)

/-- The micro-word at `a` for a routine, as stored; none is cause *range*. -/
def State.microWord (s : State) (r : Routine) (a : Nat) : Option Nat :=
  if a < 768 then some (match s.overlay false a with | some b => s.ramMicro b | none => romMicro a)
  else if a < 1024 then some (s.ramMicro a)
  else (s.servedImage r).bind (fun i => if a < i.microBase then none else i.micro[a - i.microBase]?)

/-- The nano-word at `a` for a routine, as stored. -/
def State.nanoWord (s : State) (r : Routine) (a : Nat) : Option Nat :=
  if a = 0 then some 0
  else if a < 96 then some (match s.overlay true a with | some b => s.ramNano b | none => romNano a)
  else if a < 128 then some (s.ramNano a)
  else (s.servedImage r).bind (fun i => if a < i.nanoBase then none else i.nano[a - i.nanoBase]?)

/-! ### What the dispatch record supplies (R388) -/

/-- A command with from_desc set takes its fields from the record. -/
def NanoCmd.withRecord (c : NanoCmd) (d : Desc) : NanoCmd :=
  if !c.fromDesc then c
  else match c with
  | .expose e => .expose { e with avg := 2 ^ d.avg, bankOff := d.bankOff, firstOverwrite := d.firstOverwrite == 1,
                                  int4 := (d.tensor 0).fmt == 2, z := (d.tensor 0).zero }
  | .output o => .output { o with result := d.result, stochastic := d.round == 1, fuse := d.fuse, fuseBf16 := (d.tensor 2).fmt == 3,
                                  fuseShift := d.fuseShift, zOut := (d.tensor 1).zero, zF := (d.tensor 2).zero, k := d.k,
                                  topkFmt := d.topkFmt, port := d.port, dstPkg := d.dstPkg }
  | .fsend port reg _ _ _ f =>
    .fsend port reg ((d.tensor 0).elems * (d.tensor 0).elemBits / 512) d.dstPkg ((d.tensor 1).addr / 64) f
  | c => c

/-- The program of a VECTOR: the record, or the block its address register names (R353). -/
def State.vectorProgram (s : State) (r : Routine) (x : SeqSt) (reg : Nat) (fromDesc : Bool) : Desc :=
  match fromDesc, r.record with
  | true, some d => d
  | _, _ => Desc.ofBytes (s.readMem (64 * x.a.toList.getD reg 0) 256)

/-- Byte address an address register names (R337). -/
def SeqSt.addr (x : SeqSt) (reg : Nat) : Nat := 64 * x.a.toList.getD reg 0

/-- Bytes of a group's operands on one tile_row (R350). -/
def ExposeCmd.groupBytes (e : ExposeCmd) (n : Nat) : Nat := if e.int4 then n / 2 else n
def ExposeCmd.rowBytes (e : ExposeCmd) : Nat := if e.int4 then 256 else 512

def Plate.rowCount (p : Plate) : Nat := p.tiles.foldl (fun m r => max m (r.row + 1)) 0
def Plate.colCount (p : Plate) : Nat := p.tiles.foldl (fun m r => max m (r.col + 1)) 0

/-- Device memory a command touches, as ranges (R354). -/
def State.commandRanges (s : State) (r : Routine) (x : SeqSt) (c : NanoCmd) : List (Nat × Nat) :=
  match c with
  | .expose e =>
    match e.fromDram, s.plateOf e.plate with
    | true, some p =>
      (List.range p.2.2.rowCount).flatMap (fun row => e.groups.map (fun g =>
        let n := e.groupBytes (groupRows p.2.2.rowGroup)
        let a := x.addr e.srcReg + row * e.rowBytes + g * n
        (a, a + n)))
    | _, _ => []
  | .load plate reg _ lines =>
    match s.plateOf plate with
    | some p => [(x.addr reg, x.addr reg + 64 * lines * p.2.2.rowCount)]
    | none => []
  | .output o =>
    let n := if o.result = 2 then 8 * o.k else o.chCount * o.elemBytes
    (if o.result = 5 then [] else [(x.addr o.dstReg, x.addr o.dstReg + n)]) ++
    (if o.fuse = 0 then [] else [(x.addr o.fuseReg, x.addr o.fuseReg + o.chCount * o.fuseBytes)])
  | .fsend _ reg len _ _ _ => [(x.addr reg, x.addr reg + 64 * len)]
  | .frecv _ reg len => [(x.addr reg, x.addr reg + 64 * len)]
  | .vector _ reg f =>
    let d := s.vectorProgram r x reg f
    (x.addr reg, x.addr reg + 256) ::
      ((List.range 4).map d.tensor).filterMap (fun t => if t.present then some (t.addr, t.addr + t.extent) else none)
  | _ => []

/-- The fields that need the plate, the package or the record to check (R349, R352, R353, R354, R432, R461). -/
def State.fieldsGood (s : State) (r : Routine) (x : SeqSt) (c : NanoCmd) : Bool :=
  match c with
  | .expose e =>
    decide e.groups.Nodup &&
    (match s.plateOf e.plate with
     | some p => e.groups.all (fun g => decide (g < 512 / groupRows p.2.2.rowGroup))
     | none => true)
  | .output o =>
    (match s.plateOf o.plate with
     | some p => decide (o.chFirst + o.chCount ≤ 512 * p.2.2.colCount)
     | none => true) &&
    !(o.fuse != 0 && o.fuseBf16 && !(o.result == 1 || (o.result == 2 && o.topkFmt == 1))) &&
    !(o.result == 5 && o.dstPkg == s.ownPkg)
  | .fsend _ _ len dst _ _ => dst != s.ownPkg && decide (1 ≤ len ∧ len ≤ 65535)
  | .vector _ reg f => isVectorOp (s.vectorProgram r x reg f).opcode
  | .sync op obj _ remote _ => (op == 0 && remote) || s.inRangeOf r.ctx obj
  | _ => true

/-- The nano-word of a micro-word, fetched in the same slice (R340), its parity and kind checked and the operand in its place (R341, R347,
R348, R367); or the cause of the machine check and the failing parity bits. -/
def State.nanoFetch (s : State) (r : Routine) (m : MicroWord) : Except (McCause × Nat) Nat :=
  match s.nanoWord r m.nanoPtr with
  | none => .error (.range, 0)
  | some x =>
    if nanoSyndrome x ≠ 0 then .error (.nanoParity, nanoSyndrome x)
    else match substituted (x % 2 ^ 192) m with
      | .error c => .error (c, 0)
      | .ok w => .ok w

/-- The built-in FSEND goes on the port its claim took (DEDUCED, log 142). -/
def State.claimedPort (s : State) (r : Routine) (m : MicroWord) (c : NanoCmd) : NanoCmd :=
  match c with
  | .fsend _ reg len dst addr true =>
    if decide (m.nanoPtr < 96) && m.nanoPtr == sendNano && (s.overlay true m.nanoPtr).isNone then .fsend r.resource reg len dst addr true else c
  | c => c

/-- The command of a fetched nano-word for a routine whose registers are `x`, or the cause of the machine check (R346–R354). -/
def State.commandOf (s : State) (r : Routine) (x : SeqSt) (m : MicroWord) (w : Nat) : Except McCause NanoCmd :=
  match decodeNano w with
      | .error c => .error c
      | .ok c1 =>
        let c0 := s.claimedPort r m c1
        if (match c0.slotKind with | some k => k != r.kind | none => false) then .error .resource
        else if (match c0 with
            | .vector _ _ true => false
            | _ => (match c0.resource with | some p => p != r.resource | none => false)) then .error .resource
        else if c0.fromDesc && !r.dyn then .error .field
        else
          let c := match r.record with | some d => c0.withRecord d | none => c0
          if !s.fieldsGood r x c then .error .field
          else if !(s.commandRanges r x c).all (fun g => s.mayAccess r.ctx g.1 g.2) then .error .address
          else .ok c

/-- What a micro-word issues: its nano-word's command, or nothing for nano pointer 0 (R343). -/
def State.nanoOf (s : State) (r : Routine) (x : SeqSt) (m : MicroWord) : Except (McCause × Nat) (Option NanoCmd) :=
  if m.nanoPtr = 0 then .ok none
  else match s.nanoFetch r m with
  | .error c => .error c
  | .ok w => match s.commandOf r x m w with
    | .error c => .error (c, 0)
    | .ok c => .ok (some c)

/-! ### Issue (R354) -/

/-- The command latched on a sequencer that runs. -/
def State.latched (s : State) (q : Nat) : Option (Routine × NanoCmd) :=
  let x := s.seq q
  if s.blockUp 5 && decide (x.mode = .running) then
    match x.routine, x.issue with
    | some r, some c => some (r, c)
    | _, _ => none
  else none

/-- The latch is consumed; a command that runs on becomes outstanding. -/
def State.issued (s : State) (q : Nat) (kind : Option OutKind) : State :=
  let x := s.seq q
  let s1 := s.setSeq q { x with issue := none, issueTimed := false, waitTick := none,
                                outstanding := x.outstanding ++ (kind.map (fun k => (⟨k, false⟩ : OutCmd))).toList }
  s1.pmu 0x28 (s1.seqCtx q) 1

/-- The command must wait: four are outstanding, or an earlier EXPOSE of the plate is. -/
def State.mustHold (s : State) (q : Nat) (plate : Option Nat) : Bool :=
  let x := s.seq q
  decide (4 ≤ x.outstanding.length) ||
  (match plate with | some p => x.outstanding.any (fun o => decide (o.kind = .expose p)) | none => false)

/-- It waits, in WAITING. One issued under a WAIT has missed its tick, and starts as one issued under another code (DEDUCED, log 142). -/
def State.hold (s : State) (q : Nat) : State :=
  let s1 := s.setSeq q { s.seq q with mode := .waiting, issueTimed := false, waitTick := none }
  if 4 ≤ (s.seq q).outstanding.length then s1.pmu 0x29 (s1.seqCtx q) 1 else s1

/-- The tick a burst or a run starts at: the WAIT's own, or the next tick (R354). -/
def State.startTick (s : State) (q : Nat) (r : Routine) : Nat :=
  let x := s.seq q
  match x.issueTimed, x.waitTick with
  | true, some w => r.at w
  | _, _ => s.horizon + 1

/-- Who a transfer of this routine belongs to. -/
def Routine.owner (r : Routine) (q : Nat) : XferOwner := match r.desc with | some d => .desc d.1 d.2 | none => .routine q

/-- A burst begins on every tile of the plate (R208, R350). -/
def State.beginBurst (s : State) (q : Nat) (r : Routine) (e : ExposeCmd) (p : Plate) : State :=
  let base := (s.seq q).addr e.srcReg
  let t0 := 16 * s.startTick q r
  p.tiles.foldl (fun u x =>
    let b : Burst :=
      { q := q, plate := p.num, cmd := e, base := base, bank := (x.bank + e.bankOff) % 4, endFrame := r.frame, endTick := r.endTick,
        started := 0, developed := 0, t0 := t0, loaded := [], reps := [], psum := [], committed := false, inbound := 0, sent := false }
    u.setTile x.tile { u.tile x.tile with burst := some b }) s

/-- A tile has dropped the sequencer's command (R233, R367): the check names the micro-word that issued it. -/
def State.foreignCheck (s : State) (q : Nat) : State :=
  (s.setSeq q { s.seq q with pc := (s.seq q).cmdPc }).machineCheck q .foreign 0

/-- An EXPOSE reaches the tiles (R153, R233, R234, R314, R316, R370). -/
def State.issueExpose (s : State) (q : Nat) (r : Routine) (e : ExposeCmd) : State :=
  match s.plateOf e.plate with
  | none => s.foreignCheck q
  | some p =>
    if !s.serves q e.plate then
      (p.2.2.tiles.foldl (fun u x => (u.count (R.TILE_CNT0_foreign_cmds x.tile) 1).setBit (R.TILE_EVT x.tile) 1) s).foreignCheck q
    else if s.fix.fixing.getLsbD e.plate then s
    else match p.2.2.tiles.find? (fun x => s.tileForced x.tile || (s.tile x.tile).faulty ||
        decide (r.at 0 < s.clk.forcedEnd)) with
      | some x => s.routineCut q 4 x.tile
      | none => (s.beginBurst q r e p.2.2).issued q (some (.expose e.plate))

/-- EXPOSE. -/
def execExpose (q : Fin 16) (s : State) : Host.Outcome State Fault Refusal :=
  .next (match s.latched q.val with
    | some (r, .expose e) => if s.mustHold q.val (some e.plate) then s.hold q.val else s.issueExpose q.val r e
    | _ => s)

/-- A read of device memory that meets an uncorrectable error (R397 code 0x10). -/
def State.noteDataError (s : State) (desc : Option (Nat × Nat)) (a n : Nat) : State :=
  match s.poison.find? (fun l => decide (64 * l < a + n ∧ a < 64 * l + 64)) with
  | some l => s.markFailed desc 0x10 (stackOf (64 * l))
  | none => s

/-- Lines of DRAM copied into a tile's holding buffer (R351). -/
def State.fillHold (s : State) (t base line lines : Nat) : State :=
  s.setTile t { s.tile t with hold := (s.readMem base (64 * lines)).zipIdx.foldl (fun m b =>
    SMap.set 0 m (64 * line + b.2) b.1.toNat) (s.tile t).hold }

/-- LOAD. -/
def execLoad (q : Fin 16) (s : State) : Host.Outcome State Fault Refusal :=
  .next (match s.latched q.val with
    | some (r, .load plate reg line lines) =>
      if s.mustHold q.val none then s.hold q.val
      else match s.plateOf plate with
        | none => s.issued q.val none
        | some p =>
          let base := (s.seq q.val).addr reg
          let s1 := p.2.2.tiles.foldl (fun u x => u.fillHold x.tile (base + x.row * 64 * lines) line lines) s
          let n := 64 * lines * p.2.2.rowCount
          ((s1.issued q.val (some .load)).pmuLines 0 base n).noteDataError r.desc base n
    | _ => s)

/-- A transfer that cannot begin on its port or has no destination in the machine (R461, R470). -/
def State.sendFault (s : State) (port dst : Nat) : Option (Nat × Nat) :=
  if !s.destInMachine dst then some (7, 0xFF) else if !s.portActive port then some (7, port) else none

/-- The first stochastic OUTPUT of a ROUTINE on a plate seeds the plate's channels (R260). -/
def State.seedRoutine (s : State) (r : Routine) (o : OutputCmd) : State :=
  match r.desc.bind (fun d => s.descOf d.1 d.2) with
  | some d =>
    if d.desc.opcode == 0x7F && o.stochastic && decide (o.result ≤ 1) && !d.seeded.contains o.plate
    then (s.setDesc { d with seeded := o.plate :: d.seeded }).seedPlate o.plate else s
  | none => s

/-- OUTPUT (R352): the run begins. -/
def execOutput (q : Fin 16) (s : State) : Host.Outcome State Fault Refusal :=
  .next (match s.latched q.val with
    | some (r, .output o) =>
      if s.mustHold q.val (some o.plate) then s.hold q.val
      else if o.result = 5 ∧ (s.sendFault o.port o.dstPkg).isSome = true then
        let f := (s.sendFault o.port o.dstPkg).getD (7, 0xFF)
        (s.issued q.val none).markFailed r.desc f.1 f.2
      else if o.result = 5 ∧ s.transfersFull = true then s
      else
        let run : OutRun := ⟨q.val, r.ctx, r.desc, o, (s.seq q.val).addr o.dstReg, (s.seq q.val).addr o.fuseReg, !r.dyn, []⟩
        let s1 := ((s.issued q.val (some (.output o.plate))).seedRoutine r o).pmu 0x50 (some r.ctx) 1
        { s1 with outRuns := s1.outRuns ++ [run] }
    | _ => s)

/-- The WRITE transactions of an FSEND, in order (R453, R454, R461, R463). -/
def State.sendLines (s : State) (port base length dst addr : Nat) (r : Routine) (q : Nat) : State :=
  let x := s.newTransfer (r.owner q) q port length false
  x.2.enqueueAll port ((List.range length).map (fun i =>
    x.2.ownTxn 1 (!r.dyn) (decide (i + 1 = length)) 0 dst x.1 (addr + i) (s.ctxPair r.ctx) (s.readMem (base + 64 * i) 64)))

/-- FSEND. -/
def execFsend (q : Fin 16) (s : State) : Host.Outcome State Fault Refusal :=
  .next (match s.latched q.val with
    | some (r, .fsend port reg length dst addr _) =>
      if s.mustHold q.val none then s.hold q.val
      else match s.sendFault port dst with
        | some f => (s.issued q.val none).markFailed r.desc f.1 f.2
        | none =>
          if s.transfersFull then s
          else
            let base := (s.seq q.val).addr reg
            let s1 := (s.sendLines port base length dst addr r q.val).issued q.val (some (.fsend s.fab.nextId))
            (s1.pmuLines 0 base (64 * length)).noteDataError r.desc base (64 * length)
    | _ => s)

/-- FRECV (R462). -/
def execFrecv (q : Fin 16) (s : State) : Host.Outcome State Fault Refusal :=
  .next (match s.latched q.val with
    | some (_, .frecv port reg length) =>
      if s.mustHold q.val none then s.hold q.val
      else
        let lo := (s.seq q.val).addr reg
        s.issued q.val (some (.frecv port lo (lo + 64 * length) length))
    | _ => s)

/-- VECTOR (R353, R391–R393). -/
def execVector (q : Fin 16) (s : State) : Host.Outcome State Fault Refusal :=
  .next (match s.latched q.val with
    | some (r, .vector _ reg f) =>
      if s.mustHold q.val none then s.hold q.val
      else
        let d := s.vectorProgram r (s.seq q.val) reg f
        let bad := [d.tensor 0, d.tensor 2, d.tensor 3].find? s.tensorPoisoned
        let v := s.vectorRun d r.ctx
        let s1 := (v.1.issued q.val (some .vector)).gatherFlags r.desc v.2
        match bad with
        | some t => s1.noteDataError r.desc t.addr t.extent
        | none => s1
    | _ => s)

/-- The port a remote signal of a routine leaves on, and whether that is a detour: scheduled from a static entry, on the primary port
alone (R47, R459, R465); dynamic from a claim (R466). -/
def State.signalPort (s : State) (r : Routine) (dst : Nat) : Option (Nat × Bool) :=
  if r.dyn then dynamicPort s.ownPkg dst s.activePorts false
  else ((primaryPort s.ownPkg dst).filter s.portActive).map (fun n => (n, false))

/-- A remote signal of a SYNC nano-word (R434, R471): it waits for the routine's earlier transfers, and is not sent after a
failed one. -/
def State.syncRemote (s : State) (q : Nat) (r : Routine) (obj value dst : Nat) : State :=
  if s.seqTransfers q r.desc || s.transfersFull then s
  else if (s.seq q).xferFailed then s.issued q none
  else if dst = s.ownPkg then
    let x := (s.issued q none).remoteSignal (s.ctxPair r.ctx) obj value
    if x.2 then x.1 else x.1.markFailed r.desc 8 0xF
  else if !s.destInMachine dst then (s.issued q none).markFailed r.desc 7 0xFF
  else match s.signalPort r dst with
    | none => (s.issued q none).markFailed r.desc 7 ((primaryPort s.ownPkg dst).getD 0xFF)
    | some (n, detour) =>
      let x := s.newTransfer (r.owner q) q n 1 false
      let t := x.2.ownTxn 3 (!r.dyn) true 0 dst x.1 (obj + 2 ^ 12 * value) (s.ctxPair r.ctx) zeroLine
      (x.2.enqueue n { t with detoured := detour } none).issued q none

/-- SYNC_NANO_SIGNAL (R433). -/
def execSyncNanoSignal (q : Fin 16) (s : State) : Host.Outcome State Fault Refusal :=
  .next (match s.latched q.val with
    | some (r, .sync 0 obj value remote dst) =>
      if s.mustHold q.val none then s.hold q.val
      else if remote then s.syncRemote q.val r obj value dst
      else (s.signal obj value).issued q.val none
    | _ => s)

/-- SYNC_NANO_TEST (R345, R433). -/
def execSyncNanoTest (q : Fin 16) (s : State) : Host.Outcome State Fault Refusal :=
  .next (match s.latched q.val with
    | some (_, .sync 1 obj value _ _) =>
      if s.mustHold q.val none then s.hold q.val
      else (s.setSeq q.val { s.seq q.val with syncFlag := s.waitHolds obj value }).issued q.val none
    | _ => s)

/-- NOP (R348): nothing is issued. -/
def execNop (q : Fin 16) (s : State) : Host.Outcome State Fault Refusal :=
  .next (match s.latched q.val with
    | some (_, .nop) => s.setSeq q.val { s.seq q.val with issue := none, issueTimed := false, waitTick := none }
    | _ => s)

end Sys2Proof.Machine
end

