-- ==== Sys2Proof/Machine/Seq.lean ====
section
/-!
DEFINITION. Sys2Proof/Machine/Seq.lean: the shutter sequencers (spec/11): micro-words (R342–R347), dispatch (R355–R358), the span's
end (R357), completions (R354), arming (R360, R361), halting and machine checks (R367–R372).
-/

namespace Sys2Proof.Machine

/-! ### Micro-words -/

/-- The branch condition of codes 8 to 13 (R345). -/
def SeqSt.cond (x : SeqSt) (code : Nat) : Bool :=
  if code = 8 then x.c.toList.getD 0 0 == 0
  else if code = 9 then x.c.toList.getD 1 0 == 0
  else if code = 10 then x.outstanding.isEmpty
  else if code = 11 then x.syncFlag
  else if code = 12 then (match x.routine with | some r => r.dyn | none => false)
  else x.limitFlag

def fin2 (b : Bool) : Fin 2 := if b then 1 else 0
def fin4 (n : Nat) : Fin 4 := Fin.ofNat 4 n

/-- Registers, flags and the next address after a micro-word's own action (R343, R344). -/
def SeqSt.act (x : SeqSt) (m : MicroWord) : Except McCause SeqSt :=
  let next : Except McCause Nat := if x.pc = 16383 then .error .range else .ok (x.pc + 1)
  let go (y : SeqSt) (pc : Except McCause Nat) : Except McCause SeqSt :=
    match pc with | .ok p => .ok { y with pc := p } | .error c => .error c
  match m.code with
  | 1 => go { x with c := x.c.set (fin2 m.flag15) (bits m.op 0 15) } next
  | 2 => go { x with a := x.a.set (fin4 (bits m.op 14 2)) ((x.a[fin4 0] + bits m.op 0 14) % 2 ^ 32) } next
  | 3 =>
    let v := fromSigned 32 ((x.a[fin4 (bits m.op 14 2)] : Int) + toSigned 14 (bits m.op 0 14))
    go { x with a := x.a.set (fin4 (bits m.op 14 2)) v } next
  | 4 => .ok { x with pc := m.target }
  | 5 => if 4 ≤ x.stack.length then .error .stack
         else match next with | .ok p => .ok { x with pc := m.target, stack := p :: x.stack } | .error c => .error c
  | 6 => match x.stack with | [] => .error .stack | p :: rest => .ok { x with pc := p, stack := rest }
  | 7 =>
    let c := x.c[fin2 m.flag14] - 1
    let y := { x with c := x.c.set (fin2 m.flag14) c }
    if c ≠ 0 then .ok { y with pc := m.target } else go y next
  | 8 | 9 | 10 | 11 | 12 | 13 => if x.cond m.code != m.flag15 then .ok { x with pc := m.target } else go x next
  | _ => go x next


/-- A WAIT whose tick has begun is late (R359). -/
def State.lateFire (s : State) (q : Nat) : State :=
  ((s.count (R.SEQ_CNT0_late_fires q) 1).raiseSeq q 1).pmu 0x24 (s.seqCtx q) 1

/-- The micro-word at the PC runs (R343): `x'` holds the registers after it. -/
def State.microRun (s : State) (q : Nat) (r : Routine) (m : MicroWord) (x' : SeqSt) (nano : Option NanoCmd) : State :=
  let x := s.seq q
  let s0 := s.pmu 0x26 (some r.ctx) 1
  if m.code = 16 then
    let w := bits m.op 0 11
    if r.spanEnd ≤ r.at w then s0.setSeq q { x with mode := .waiting, waitTick := some w, issue := nano, cmdPc := x.pc }
    else if r.at w ≤ s.horizon then (s0.setSeq q { x' with issue := nano, cmdPc := x.pc }).lateFire q
    else s0.setSeq q { x with mode := .waiting, waitTick := some w, issue := nano, cmdPc := x.pc }
  else if m.code = 17 && !x.outstanding.isEmpty then s.setSeq q { x with mode := .waiting }
  else s0.setSeq q { x' with issue := nano, cmdPc := x.pc }

/-- One micro-word of sequencer `q`, where its code is one the row names (R341–R347). END issues no nano-word, but its nano-word is
fetched with it and must have good parity, a kind, and no sub bit (R347; DEDUCED, log 142). -/
def State.microStep (s : State) (q : Nat) (row : Nat → Bool) : State :=
  let x := s.seq q
  if !s.blockUp 5 || x.checked || !(decide (x.mode = .running)) || x.issue.isSome then s
  else match x.routine with
  | none => s
  | some r => match s.microWord r x.pc with
    | none => s.machineCheck q .range 0
    | some w =>
      let m := MicroWord.ofNat w
      if !row m.code then s
      else if microSyndrome w ≠ 0 then s.machineCheck q .microParity (microSyndrome w)
      else if !m.operandOk then s.machineCheck q .code 0
      else if m.code = 18 then
        match s.nanoFetch r m with
        | .error c => s.machineCheck q c.1 c.2
        | .ok _ =>
          if x.outstanding.isEmpty then (s.pmu 0x26 (some r.ctx) 1).routineEnd q else s.setSeq q { x with mode := .waiting }
      else match x.act m with
        | .error c => s.machineCheck q c 0
        | .ok x' => match s.nanoOf r x' m with
          | .error c => s.machineCheck q c.1 c.2
          | .ok nano => s.microRun q r m x' nano

/-- NEXT. -/
def execNext (q : Fin 16) (s : State) : Host.Outcome State Fault Refusal := .next (s.microStep q.val (· == 0))
/-- LDC. -/
def execLdc (q : Fin 16) (s : State) : Host.Outcome State Fault Refusal := .next (s.microStep q.val (· == 1))
/-- LDA. -/
def execLda (q : Fin 16) (s : State) : Host.Outcome State Fault Refusal := .next (s.microStep q.val (· == 2))
/-- ADDA. -/
def execAdda (q : Fin 16) (s : State) : Host.Outcome State Fault Refusal := .next (s.microStep q.val (· == 3))
/-- JMP. -/
def execJmp (q : Fin 16) (s : State) : Host.Outcome State Fault Refusal := .next (s.microStep q.val (· == 4))
/-- JSR. -/
def execJsr (q : Fin 16) (s : State) : Host.Outcome State Fault Refusal := .next (s.microStep q.val (· == 5))
/-- RTS. -/
def execRts (q : Fin 16) (s : State) : Host.Outcome State Fault Refusal := .next (s.microStep q.val (· == 6))
/-- LOOP. -/
def execLoop (q : Fin 16) (s : State) : Host.Outcome State Fault Refusal := .next (s.microStep q.val (· == 7))
/-- Codes 8 to 13. -/
def execBcond (q : Fin 16) (s : State) : Host.Outcome State Fault Refusal :=
  .next (s.microStep q.val (fun c => decide (8 ≤ c ∧ c ≤ 13)))
/-- WAIT. -/
def execWait (q : Fin 16) (s : State) : Host.Outcome State Fault Refusal := .next (s.microStep q.val (· == 16))
/-- WAITD. -/
def execWaitd (q : Fin 16) (s : State) : Host.Outcome State Fault Refusal := .next (s.microStep q.val (· == 17))
/-- END. -/
def execSeqEnd (q : Fin 16) (s : State) : Host.Outcome State Fault Refusal := .next (s.microStep q.val (· == 18))
/-- RESERVED_CODE: the check of R343 raises cause *code*. -/
def execReservedCode (q : Fin 16) (s : State) : Host.Outcome State Fault Refusal := .next (s.microStep q.val Machine.reservedCode)

/-- The nano-word the PC's micro-word points at is of a reserved kind. -/
def State.nanoReserved (s : State) (q : Nat) : Bool :=
  match (s.seq q).routine with
  | none => false
  | some r => match s.microWord r (s.seq q).pc with
    | none => false
    | some w => match s.nanoWord r (MicroWord.ofNat w).nanoPtr with
      | some n => decide (8 ≤ bits n 0 4)
      | none => false

/-- RESERVED_NANO_KIND (R348): cause *kind*. -/
def execReservedNanoKind (q : Fin 16) (s : State) : Host.Outcome State Fault Refusal :=
  .next (if s.nanoReserved q.val then s.microStep q.val (fun _ => true) else s)

/-- WAIT_FIRE (R359): the tick a WAIT named has come; after its start the fire is late. -/
def execWaitFire (q : Fin 16) (s : State) : Host.Outcome State Fault Refusal :=
  let x := s.seq q.val
  .next (match x.routine, x.waitTick with
    | some r, some w =>
      if s.blockUp 5 = false ∨ x.checked = true ∨ x.mode ≠ .waiting ∨ x.issueTimed = true ∨ s.horizon < r.at w ∨
          r.spanEnd ≤ r.at w then s
      else if x.pc = 16383 then s.machineCheck q.val .range 0
      else
        let y := { x with mode := .running, pc := x.pc + 1 }
        if s.horizon = r.at w then s.setSeq q.val { y with issueTimed := x.issue.isSome, waitTick := if x.issue.isSome then some w else none }
        else (s.setSeq q.val { y with waitTick := none }).lateFire q.val
    | _, _ => s)

/-! ### Completions (R354) -/

/-- What a command started has ended. -/
def State.commandOver (s : State) (o : OutCmd) : Bool :=
  match o.kind with
  | .expose p => match s.plateOf p with | some x => s.burstOver x.2.2 | none => true
  | .output _ => o.ended
  | .frecv _ _ _ n => n == 0
  | _ => true

/-- SEQ_COMMAND_DONE: an outstanding command completes; what it held goes on. -/
def State.commandDone (s : State) (q i : Nat) : State :=
  match (s.seq q).outstanding[i]? with
  | none => s
  | some o =>
    if !s.commandOver o then s
    else
      let s1 := match o.kind with
        | .expose p => (match s.plateOf p with | some x => s.dropPlateBursts x.2.2 | none => s)
        | _ => s
      let x := { s1.seq q with outstanding := (s1.seq q).outstanding.eraseIdx i }
      let s2 := s1.setSeq q x
      if x.checked then (if x.outstanding.isEmpty then s2.mcFinish q (x.waitTick.getD 0) else s2)
      else if x.mode ≠ .waiting ∨ (x.waitTick.isSome ∧ x.issueTimed = false) then s2
      else if x.issue.isSome then s2.setSeq q { x with mode := .running }
      else if x.outstanding.isEmpty then (s2.setSeq q { x with mode := .running }).microStep q (fun c => c == 17 || c == 18)
      else s2

/-- SEQ_COMMAND_DONE. -/
def execSeqCommandDone (q : Fin 16) (index : Fin 4) (s : State) : Host.Outcome State Fault Refusal :=
  .next (s.commandDone q.val index.val)

/-- The routine is cut at its span's end (R357, R296). A machine check that waits for its commands comes first (R370). -/
def State.spanCut (s : State) (q : Nat) : State :=
  let x := s.seq q
  let runs := s.outRuns.filter (fun r => r.q == q)
  let s1 := runs.foldl (fun u r => match u.plateOf r.cmd.plate with
    | some p => u.outputCut r p.2.2
    | none => { u with outRuns := u.outRuns.erase r }) s
  if x.checked then s1.mcFinish q (x.waitTick.getD 0)
  else
    let s2 := ((s1.count (R.SEQ_CNT1_overruns q) 1).raiseSeq q 2).pmu 0x23 (s1.seqCtx q) 1
    s2.routineCut q (if runs.isEmpty then 5 else 6) q

/-- SPAN_END (R357). -/
def execSpanEnd (q : Fin 16) (s : State) : Host.Outcome State Fault Refusal :=
  .next (match (s.seq q.val).routine with
    | none => s
    | some r => if r.spanEnd ≤ s.horizon then s.spanCut q.val else s)

/-! ### Static dispatch (R355, R356) -/

/-- Entries of an image on a sequencer. -/
def PlateImage.entriesOn (i : PlateImage) (q : Nat) : List SlotEntry :=
  (i.slots.filter (fun x => x.1 == q)).flatMap Prod.snd

/-- The slot tables of a sequencer as one: entries of resident slots in slot order. -/
def State.slotTable (s : State) (q : Nat) : List (Nat × SlotEntry) :=
  s.img.resident.flatMap (fun x => (x.2.image.entriesOn q).map (fun e => (x.1, e)))

/-- Armed, and not disarmed by a quiesce (R196, R360). -/
def ResImage.isArmed (i : ResImage) : Bool := i.armed && !i.leaving

/-- The entry applies in frame `f` (R103). -/
def ResImage.applies (i : ResImage) (e : SlotEntry) (f : Nat) : Bool :=
  i.armed && e.enable && decide (i.epoch ≤ f ∧ (f - i.epoch) % i.image.period = e.frameOffset)

/-- The SCHEDULE that owns an image's dispatches in frame `f` (R389). -/
def State.scheduleOf (s : State) (i : ResImage) (f : Nat) : Option CmdDesc :=
  s.descs.find? (fun d => d.desc.opcode == 4 && d.ctx == i.ctx && d.desc.imageId == i.image.id &&
    decide (max d.desc.earliest (d.accepted.1 + 1) ≤ f ∧ f ≤ d.desc.deadline))

/-- A hold cause is present. -/
def State.anyHold (s : State) : Bool := s.get R.GEN_HOLD_CAUSE_causes != 0

/-- Why a static dispatch does not take place: the detail of SLOT_SKIPPED (R356, R397). -/
def State.skipReason (s : State) (q : Nat) (i : ResImage) (e : SlotEntry) : Option Nat :=
  if s.working = false ∨ s.pwr.dusk.isSome = true ∨ (s.isBench = true ∧ s.anyHold = true) then some 0
  else if s.clk.coasting then some 1
  else if e.kind = 1 ∧ s.fix.fixing.getLsbD e.resource = true then some 2
  else if i.leaving then some 3
  else if (s.seq q).mode ≠ .idle then some 4
  else none

/-- A dispatch loads the sequencer (R355). -/
def State.load (s : State) (q pc a0 : Nat) (r : Routine) : State :=
  s.setSeq q { SeqSt.init with mode := .running, pc := pc, a := (Vector.replicate 4 0).set 0 (a0 % 2 ^ 32), routine := some r }

/-- The instant 8 ticks from now is the start of this entry of a sequencer's table, and it has not had its turn (R355). -/
def State.entryDue (s : State) (q : Nat) (e : Nat × SlotEntry) : Bool :=
  let at' := s.horizon + 8
  match s.resImage e.1 with
  | none => false
  | some i => decide (at' % 2048 = e.2.startTick) && i.applies e.2 (at' / 2048) && !s.dispatched.contains ⟨q, e.1, e.2, at' / 2048⟩

/-- The dispatch of entry `index` of sequencer `q` for frame `f`. -/
def State.staticDispatch (s : State) (q index slot : Nat) (i : ResImage) (e : SlotEntry) (f : Nat) : State :=
  let owner := (s.scheduleOf i f).map (fun d => (d.ctx, d.slot))
  let s0 := { s with dispatched := ⟨q, slot, e, f⟩ :: s.dispatched }
  match if s.quiesceDue slot && decide (s.frame < f) then some 3 else s.skipReason q i e with
  | some detail =>
    let s1 := if detail = 4 then ((s0.count (R.SEQ_CNT0_skipped_busy q) 1).raiseSeq q 3).pmu 0x25 (some i.ctx) 1 else s0
    s1.markFailed owner 3 detail
  | none =>
    let r : Routine := { image := some slot, ctx := i.ctx, dyn := false, index := index, kind := e.kind, resource := e.resource,
                         frame := f, startTick := e.startTick, endTick := e.endTick, desc := owner, record := none }
    ((s0.load q e.entry (i.param / 64) r).chargeSpan r).pmu 0x20 (some i.ctx) 1

/-- STATIC_DISPATCH: 8 ticks before the entry's start in a frame it applies in, but not again in a frame whose number the count
repeats (R687); of entries due at one instant, in the order of the table (R356). -/
def execStaticDispatch (q : Fin 16) (index : BitVec 12) (s : State) : Host.Outcome State Fault Refusal :=
  .next (match (s.slotTable q.val)[index.toNat]? with
    | none => s
    | some e => match s.resImage e.1 with
      | none => s
      | some i =>
        if s.blockUp 5 && s.entryDue q.val e && !((s.slotTable q.val).take index.toNat).any (s.entryDue q.val)
        then s.staticDispatch q.val index.toNat e.1 i e.2 ((s.horizon + 8) / 2048) else s)

/-! ### Dynamic dispatch (R358) -/

/-- The image a dynamic claim's routine serves: the plate's, for code of its image. -/
def State.claimImage (s : State) (d : Desc) : Option Nat := if usesPlate d.opcode then (s.plateOf d.plate).map Prod.fst else none

def ClaimRes.num : ClaimRes → Nat
  | .plate p => p
  | .send p => p
  | .recv p => p
  | .unit u => u.getD 0

/-- A granted claim that falls due now: the descriptor, its frame, unit and sequencers, the claim. -/
def State.dueClaim (s : State) (c : Nat) : Option (CmdDesc × Nat × Nat × List Nat × Claim) :=
  s.descs.findSome? (fun d =>
    match d.phase with
    | .granted f unit seqs =>
      match (d.desc.claims d.addr)[d.dispatched]? with
      | some cl => if d.ctx = c ∧ s.horizon + 8 = 2048 * f + d.home.getD 0 + cl.off then some (d, f, unit, seqs, cl) else none
      | none => none
    | _ => none)

/-- Granted and not yet started work waits for another pass (R100, R129, R152, R315). -/
def CmdDesc.waitAgain (d : CmdDesc) : CmdDesc := { d with phase := .waiting, granted := 0 }

/-- The descriptor rounds a plate's outputs stochastically (R260): an OUTPUT or MATVEC with round 1. A ROUTINE, whose code says it
only as it runs, seeds at its first such OUTPUT. -/
def Desc.roundsStochastic (d : Desc) : Bool := (d.opcode == 2 || d.opcode == 3) && d.round == 1

/-- The dispatch of one claim. A descriptor granted a frame at or after a reserved mark M, or whose dispatch cannot take place, waits
again from its dispatch instant on, and not from the mark or the event itself: R315 does not give the instant (DESIGN CHOICE, log 143). -/
def State.dynamicDispatch (s : State) (d : CmdDesc) (f unit : Nat) (seqs : List Nat) (cl : Claim) : State :=
  let q := seqs.headD 0
  let start := d.home.getD 0 + cl.off
  let stop := s.pwr.dusk.isSome || s.clk.coasting || !s.working || (s.isBench && s.anyHold) ||
    (cl.kind == 1 && s.fix.fixing.getLsbD d.desc.plate)
  let quiesce := decide (d.dispatched = 0 ∧ s.frame < f) && usesPlate d.desc.opcode && (s.plateOf d.desc.plate).any (fun x => s.quiesceDue x.1)
  if quiesce then s.setDesc d.waitAgain
  else if stop && d.dispatched == 0 then s.setDesc d.waitAgain
  else if stop then s.failDesc (some (d.ctx, d.slot)) 3 0
  else if (s.seq q).mode ≠ .idle then
    (((s.count (R.SEQ_CNT0_skipped_busy q) 1).raiseSeq q 3).pmu 0x25 (some d.ctx) 1).failDesc (some (d.ctx, d.slot)) 3 4
  else
    let r : Routine := { image := s.claimImage d.desc, ctx := d.ctx, dyn := true, index := 0, kind := cl.kind,
                         resource := if cl.kind = 4 then unit else cl.res.num, frame := f, startTick := start,
                         endTick := start + cl.span, desc := some (d.ctx, d.slot), record := some d.desc }
    let d1 := { d with phase := .granted f unit seqs.tail, dispatched := d.dispatched + 1, running := d.running + 1 }
    let s1 := if d.dispatched = 0 ∧ usesPlate d.desc.opcode ∧ d.desc.roundsStochastic = true then s.seedPlate d.desc.plate else s
    (((s1.setDesc d1).load q cl.entry cl.a0 r).chargeSpan r).pmu 0x21 (some d.ctx) 1

/-- DYNAMIC_DISPATCH: 8 ticks before the start of a granted claim of the context. -/
def execDynamicDispatch (ctx : Fin 64) (s : State) : Host.Outcome State Fault Refusal :=
  .next (match s.dueClaim ctx.val with
    | some (d, f, unit, seqs, cl) => if s.blockUp 5 then s.dynamicDispatch d f unit seqs cl else s
    | none => s)

/-! ### Control (R360, R361, R369, R371, R372) -/

/-- The result of an arm write (R360). -/
def State.armResult (s : State) (slot : Nat) : Nat :=
  let epoch := s.get R.SEQ_ARM_EPOCH_LO + 2 ^ 32 * s.get R.SEQ_ARM_EPOCH_HI
  let param := s.get R.SEQ_ARM_PARAM_LO + 2 ^ 32 * s.get R.SEQ_ARM_PARAM_HI
  match s.resImage slot with
  | none => 1
  | some i =>
    if i.leaving || i.parked then 1
    else if i.armed then 2
    else if epoch < s.frame + 2 then 3
    else if !s.working || s.get R.GEN_READY_compute_ready == 0 then 4
    else if i.image.binds.any (fun b => decide ((s.seq b.1).mode = .halted ∨ (s.seq b.1).mode = .fault)) then 5
    else if param % 64 ≠ 0 ∨ s.mayAccess i.ctx param (param + 1) = false then 7
    else 0

/-- A write of SEQ_ARM_CTRL. -/
def State.armWrite (s : State) (slot : Nat) (arm disarm : Bool) : State :=
  let s1 := s.put R.SEQ_ARM_CTRL_slot slot
  if arm && disarm then s1.put R.SEQ_ARM_STAT_result 6
  else if arm then
    let r := s1.armResult slot
    let s2 := s1.put R.SEQ_ARM_STAT_result r
    match s2.resImage slot with
    | some i =>
      let epoch := s2.get R.SEQ_ARM_EPOCH_LO + 2 ^ 32 * s2.get R.SEQ_ARM_EPOCH_HI
      let param := s2.get R.SEQ_ARM_PARAM_LO + 2 ^ 32 * s2.get R.SEQ_ARM_PARAM_HI
      if r = 0 then s2.setResImage slot { i with armed := true, disarming := false, epoch := epoch, param := param } else s2
    | none => s2
  else if disarm then
    match s1.resImage slot with
    | none => s1.put R.SEQ_ARM_STAT_result 1
    | some i =>
      if i.leaving || i.parked then s1.put R.SEQ_ARM_STAT_result 1
      else if !i.armed then s1.put R.SEQ_ARM_STAT_result 2
      else (s1.put R.SEQ_ARM_STAT_result 0).setResImage slot { i with disarming := true }
  else s1

/-- SEQ_ARM. -/
def execSeqArm (slot : Fin 64) (s : State) : Host.Outcome State Fault Refusal :=
  .next (if s.blockUp 5 then s.armWrite slot.val true false else s)

/-- SEQ_DISARM. -/
def execSeqDisarm (slot : Fin 64) (s : State) : Host.Outcome State Fault Refusal :=
  .next (if s.blockUp 5 then s.armWrite slot.val false true else s)

/-- Disarms that fall due at a frame mark (R361). -/
def State.disarmMark (s : State) : State :=
  { s with img := { s.img with resident := s.img.resident.map (fun (x : Nat × ResImage) =>
      if x.2.disarming then (x.1, { x.2 with armed := false, disarming := false }) else x) } }

/-- Dawn step 10 has ended, and was not skipped (R338, R371). -/
def State.seqsReleased (s : State) : Bool := s.pwr.stage2.isSome && (decide (s.pwr.state ≠ .dawn) || decide (10 < s.pwr.dawnStep))

/-- A write of SEQ_CTRL (R371, R372). -/
def State.seqCtrl (s : State) (q : Nat) (halt run clr : Bool) : State :=
  let x := s.seq q
  let busy := s.img.resident.any (fun i => i.2.isArmed && !(i.2.image.entriesOn q).isEmpty)
  let s1 :=
    if halt && run then s
    else if halt then
      if x.mode = .idle ∧ busy = false then (s.setSeq q { x with mode := .halted }).gateDawn else s.put (R.SEQ_STAT_halt_refused q) 1
    else if run then
      if x.mode = .halted ∧ s.seqsReleased = true then s.setSeq q { x with mode := .idle } else s
    else s
  if clr then s1.puts [(R.SEQ_CNT0_skipped_busy q, 0), (R.SEQ_CNT0_late_fires q, 0), (R.SEQ_CNT1_overruns q, 0), (R.SEQ_CNT1_mc_lost q, 0)]
  else s1

/-- SEQ_HALT. -/
def execSeqHalt (q : Fin 16) (s : State) : Host.Outcome State Fault Refusal :=
  .next (if s.blockUp 5 then s.seqCtrl q.val true false false else s)

/-- SEQ_RUN. -/
def execSeqRun (q : Fin 16) (s : State) : Host.Outcome State Fault Refusal :=
  .next (if s.blockUp 5 then s.seqCtrl q.val false true false else s)

/-- SEQ_CLR_COUNTS. -/
def execSeqClrCounts (q : Fin 16) (s : State) : Host.Outcome State Fault Refusal :=
  .next (if s.blockUp 5 then s.seqCtrl q.val false false true else s)

/-- A write of 1 to SEQ_MC0.valid (R369): the record clears and FAULT ends. -/
def State.mcClear (s : State) (q : Nat) : State :=
  let s1 := s.setRegWord (0x80010 + 0x4000 * q) 0
  let s2 := [0x80014, 0x80018, 0x8001C].foldl (fun u o => u.setRegWord (o + 0x4000 * q) 0) s1
  if (s2.seq q).mode = .fault then s2.setSeq q { s2.seq q with mode := .idle } else s2

/-- SEQ_MC_CLEAR. -/
def execSeqMcClear (q : Fin 16) (s : State) : Host.Outcome State Fault Refusal :=
  .next (if s.blockUp 5 then s.mcClear q.val else s)

end Sys2Proof.Machine
end

