-- ==== Sys2Proof/Machine/Dark.lean ====
section
/-!
DEFINITION. Sys2Proof/Machine/Dark.lean: transactions where they are delivered, forwarded, answered or lost (R453, R454, R464–R468,
R475, R476), ports that go DARK (R444, R450), and the hold causes with the states they decide (R116, R127–R129).
-/

namespace Sys2Proof.Machine

/-! ### Credits of a receiver (R455) -/

/-- A slot of port `n` is freed: its credit is owed to the peer. -/
def State.freeSlot (s : State) (held : Option (Nat × Nat)) : State :=
  match held with
  | none => s
  | some (n, key) =>
    let p := s.port n
    if p.state = .dark then s else s.setPort n { p with owed := SMap.set 0 p.owed key (SMap.get 0 p.owed key + 1) }

/-! ### Responses (R468, R476) -/

/-- A drop counted in FAB_DROP1.hop_drops. -/
def State.dropHop (s : State) : State := (s.count R.FAB_DROP1_hop_drops 1).raiseFab 6

/-- A RESP takes its primary port, and is lost where that port is not ACTIVE or the hop limit is met (R476). -/
def State.forwardResp (s : State) (t : Txn) (held : Option (Nat × Nat)) : State :=
  match primaryPort s.ownPkg t.dst with
  | none => s.freeSlot held
  | some n => if s.portActive n && decide (t.hops < 15) then s.enqueue n t held else (s.freeSlot held).dropHop

/-- `n` transactions like `t` are answered in one RESP. -/
def State.answer (s : State) (t : Txn) (status port n : Nat) : State :=
  let r := respTo s.ownPkg t status port n
  if t.origin = s.ownPkg then s.takeResp r else s.forwardResp r none

/-- A tally's RESP, whose header takes origin, transfer, tenant and job from it. -/
def Tally.txn (x : Tally) : Txn :=
  { kind := 1, sched := false, last := false, detoured := false, info := 0, dst := 0, origin := x.origin, tenant := x.tenant,
    hops := 0, job := x.job, xfer := x.id, arg := 0, data := zeroLine }

def Tally.sameAs (x : Tally) (origin id : Nat) : Bool := x.origin == origin && x.id == id


/-- The RESP of a tally leaves, and the entry is free. -/
def State.flushTally (s : State) (x : Tally) : State :=
  ({ s with fab := { s.fab with tallies := s.fab.tallies.filter (fun y => !y.sameAs x.origin x.id) } }).answer x.txn x.status x.port x.count

/-- A transaction counts as answered (R468); one of this package's own resolves at once. -/
def State.answered (s : State) (t : Txn) (status port : Nat) : State :=
  if t.origin = s.ownPkg then s.answer t status port 1
  else
    let old := s.fab.tallies.find? (fun x => x.sameAs t.origin t.xfer)
    match old with
    | none =>
      if 256 ≤ s.fab.tallies.length then s.answer t status port 1
      else
        let x : Tally := { origin := t.origin, id := t.xfer, tenant := t.tenant, job := t.job, count := 1, status := status, port := port }
        let s1 := { s with fab := { s.fab with tallies := s.fab.tallies ++ [x] } }
        if t.last then s1.flushTally x else s1
    | some y =>
      let x := { y with count := y.count + 1, status := if y.status = 0 then status else y.status, port := if y.status = 0 then port else y.port }
      let s1 := { s with fab := { s.fab with tallies := s.fab.tallies.map (fun z => if z.sameAs y.origin y.id then x else z) } }
      if t.last ∨ 64 ≤ x.count then s1.flushTally x else s1

/-! ### Delivery (R454, R462, R468) -/

/-- A line of a scheduled WRITE has arrived on `port` and is visible: the FRECVs that count it. -/
def State.frecvLine (s : State) (port a : Nat) : State :=
  { s with seqs := s.seqs.map (fun q => { q with outstanding := q.outstanding.map (fun o =>
      match o.kind with
      | .frecv p lo hi n => if p = port ∧ lo ≤ a ∧ a < hi then { o with kind := .frecv p lo hi (n - 1) } else o
      | _ => o) }) }

/-- A line handed to the controller is visible: FRECVs count it, and it is answered (R462, R468). -/
def State.lineSeen (s : State) (port : Nat) (t : Txn) : State :=
  (if t.kind = 1 ∧ t.sched = true then s.frecvLine port (64 * t.arg) else s).answered t 0 0

/-- A line goes to its stack's controller; one in self-refresh holds the answer until its exit. -/
def State.lineHanded (s : State) (port : Nat) (t : Txn) : State :=
  if s.asleep (64 * t.arg) then { s with fab := { s.fab with unseen := s.fab.unseen ++ [(port, t)] } } else s.lineSeen port t

/-- A stack has left self-refresh, and what it held has been applied: its lines are visible now. -/
def State.linesSeen (s : State) : State :=
  let seen := s.fab.unseen.filter (fun (x : Nat × Txn) => !s.asleep (64 * x.2.arg))
  seen.foldl (fun u x => u.lineSeen x.1 x.2)
    { s with fab := { s.fab with unseen := s.fab.unseen.filter (fun (x : Nat × Txn) => s.asleep (64 * x.2.arg)) } }

/-- A CADD's adds, in ascending word order (R454, R473). -/
def State.caddLine (s : State) (t : Txn) : State :=
  (List.range 8).foldl (fun u w => if bitAt t.info w then u.handOver ⟨true, 64 * t.arg + 8 * w, (t.data.drop (8 * w)).take 8⟩ else u) s

/-- The job check fails (R468). -/
def State.jobDrop (s : State) (t : Txn) : State := ((s.count R.FAB_DROP0_job_drops 1).raiseFab 3).answered t 1 0

/-- A transaction at its destination. -/
def State.deliver (s : State) (port : Nat) (t : Txn) : State :=
  let pair := (t.tenant, t.job)
  if t.kind = 4 then s.takeResp t
  else if t.kind = 3 then
    let r := s.remoteSignal pair (bits t.arg 0 12) (bits t.arg 12 16)
    if r.2 then r.1.answered t 0 0 else r.1.jobDrop t
  else match s.ctxWith [1, 2] pair with
    | none => s.jobDrop t
    | some c =>
      let a := 64 * t.arg
      if !s.mayAccess c a (a + 64) then ((s.count R.FAB_DROP0_addr_drops 1).raiseFab 4).answered t 2 0
      else if t.kind = 2 then (s.caddLine t).lineHanded port t
      else ((s.handOver ⟨false, a, t.data⟩).pmuLine 1 a 1).lineHanded port t

/-! ### Forwarding (R464–R466) -/

/-- A transaction leaves by the port the rules give, or is dropped and answered. -/
def State.forward (s : State) (t : Txn) (held : Option (Nat × Nat)) : State :=
  if t.kind = 4 then s.forwardResp t held
  else if 15 ≤ t.hops then ((s.freeSlot held).dropHop).answered t 4 0
  else
    let primary := (primaryPort s.ownPkg t.dst).getD 0xF
    if t.sched then
      if s.portActive primary then s.enqueue primary t held else (s.freeSlot held).answered t 3 primary
    else match dynamicPort s.ownPkg t.dst s.activePorts t.detoured with
      | some (n, d) => s.enqueue n { t with detoured := t.detoured || d } held
      | none => (s.freeSlot held).answered t 3 primary

/-- A good transaction has arrived on `port` in the slot `held` names. -/
def State.arrive (s : State) (port : Nat) (t : Txn) (held : Option (Nat × Nat)) : State :=
  if t.dst = s.ownPkg then (s.freeSlot held).deliver port t else s.forward t held

/-- One that breaks R453 is dropped where it is found. -/
def State.arriveBytes (s : State) (port : Nat) (b : List Byte) (held : Option (Nat × Nat)) : State :=
  if malformed b then ((s.freeSlot held).count R.FAB_DROP1_malformed 1).raiseFab 8 else s.arrive port (Txn.ofBytes b) held

/-! ### DARK (R444, R450, R475) -/

/-- The port is DARK with nothing queued or held. -/
def PortSt.dark (p : PortSt) (cause : Nat) : PortSt := { PortSt.init with cause := cause, fails := p.fails, retrains := p.retrains }

/-- The link is down: the port is DARK, what it held is returned. A port already DARK takes the cause. -/
def State.portDown (s : State) (n cause : Nat) : State × List QTxn :=
  let p := s.port n
  if p.state = .dark then (s.setPort n { p with cause := cause }, [])
  else
    let s1 := ((s.setPort n { p.dark cause with downAt := s.now }).raiseFab 1).flogAdd 4 cause n none
    (s1, p.retry.flatMap (fun f => f.slots.map (fun t => ⟨t, none⟩)) ++ p.queue)

/-- What a DARK port held goes on: scheduled and detoured transactions are answered DARK, other dynamic ones routed again,
responses lost (R475, R476). A transaction counts a hop only once it has left. -/
def State.rehome (s : State) (n : Nat) (x : QTxn) : State :=
  let t := { x.txn with hops := x.txn.hops - 1 }
  if t.kind = 4 then (s.freeSlot x.held).dropHop
  else if t.sched || t.detoured then (s.freeSlot x.held).answered t 3 n
  else s.forward t x.held

/-- Port `n` goes DARK. -/
def State.portDark (s : State) (n cause : Nat) : State :=
  let r := s.portDown n cause
  r.2.foldl (fun u x => u.rehome n x) r.1

/-- Every port goes DARK at once with cause not ready (R47, R475): relayed transactions are lost unanswered. -/
def State.portsDark (s : State) : State :=
  (List.range 12).foldl (fun u n =>
    if (u.port n).state = .dark then u
    else
      let r := u.portDown n 1
      r.2.foldl (fun v x => if x.txn.origin = v.ownPkg ∧ x.txn.kind ≠ 4 then v.answered x.txn 3 n else v) r.1) s

/-! ### Package states (R116, R117, R127) -/

/-- The thermal state is overcast: the power limit is below 360 W (R117, R144, R632). -/
def State.overcastNow (s : State) : Bool := decide (s.get R.THM_LIMIT_p_limit < 360)

/-- READY, or OVERCAST where the thermal state is, with admission running unless a warm reset is in progress (R127). -/
def State.enterRunning (s : State) : State :=
  let s1 := s.put R.GEN_READY_compute_ready (b2n (!s.pwr.warm))
  if s1.overcastNow then ({ s1 with pwr := { s1.pwr with state := .overcast } }).logEvent 0 3 (s1.get R.THM_LIMIT_p_limit)
  else { s1 with pwr := { s1.pwr with state := .ready } }

/-- OVERCAST is left (R495). -/
def State.leaveOvercast (s : State) : State :=
  if s.pwr.state = .overcast then s.logEvent 0 4 (s.get R.THM_LIMIT_p_limit) else s

/-- HELD (R127, R129). -/
def State.enterHeld (s : State) : State :=
  let s1 := s.leaveOvercast.put R.GEN_READY_compute_ready 0
  ({ s1 with pwr := { s1.pwr with state := .held } }).portsDark

/-- GEN_HOLD_CAUSE has changed from `old` (R495, R497, R656). -/
def State.holdChanged (s : State) (old : Nat) : State :=
  ((s.flogAdd 3 (s.get R.GEN_HOLD_CAUSE_causes) old none).raiseHost 11).logEvent 0 2 (s.get R.GEN_HOLD_CAUSE_causes)

/-- Hold cause `b` is raised (R128). -/
def State.raiseHold (s : State) (b : Nat) : State :=
  let old := s.get R.GEN_HOLD_CAUSE_causes
  if bitAt old b then s
  else
    let s1 := ((s.setBit R.GEN_HOLD_CAUSE_causes b).holdChanged old).alert 1
    match s1.pwr.state with
    | .ready | .overcast => s1.enterHeld
    | .bench => s1.put R.GEN_READY_compute_ready 0
    | _ => s1

/-- Hold cause `b` clears. -/
def State.clearHold (s : State) (b : Nat) : State :=
  let old := s.get R.GEN_HOLD_CAUSE_causes
  if !bitAt old b then s
  else
    let s1 := (s.clrBit R.GEN_HOLD_CAUSE_causes b).holdChanged old
    if s1.anyHold then s1
    else match s1.pwr.state with
      | .held => s1.enterRunning
      | .bench => s1.put R.GEN_READY_compute_ready (b2n (!s1.pwr.warm))
      | _ => s1

/-- An incompatible pair is recorded, unless one is (R125). -/
def State.raiseLevel (s : State) (pair : Nat × Nat × Nat × Nat) : State :=
  if bitAt (s.get R.GEN_HOLD_CAUSE_causes) 0 then s
  else (s.puts [(R.GEN_HOLD_CAUSE_checker, pair.1), (R.GEN_HOLD_CAUSE_checked, pair.2.1),
    (R.GEN_HOLD_LEVELS_checker_level, pair.2.2.1), (R.GEN_HOLD_LEVELS_checked_level, pair.2.2.2)]).raiseHold 0

end Sys2Proof.Machine
end

