-- ==== Sys2Proof/Machine/Fabric.lean ====
section
/-!
DEFINITION. Sys2Proof/Machine/Fabric.lean: the fabric ports (spec/14): training (R444–R449, R477), flits, credits and retry
(R451–R458), transactions that arrive (R454, R468), responses and timeouts (R468, R469).
-/

namespace Sys2Proof.Machine

/-! ### Training (R445–R450) -/

/-- The PLL of a port's half is locked (R145). -/
def State.portPll (s : State) (n : Nat) : Bool := s.clk.locked.getLsbD (if n < 6 then 6 else 7)

def State.peerInMachine (s : State) (n : Nat) : Bool := s.destInMachine (peerOf s.ownPkg n).1

/-- Why a port may not leave DARK, or with `up` may not stay up through COASTING (R443, R445): its cause in R450's coding.
Of several, disabled comes first, then not ready, no peer, pll. -/
def State.portWhy (s : State) (n : Nat) (up : Bool) : Option Nat :=
  if s.get (R.FAB_PORT_CTRL_en n) = 0 then some 11
  else if !(match s.pwr.state with | .ready | .overcast => true | _ => false) || s.pwr.warm ||
      !(decide (s.hzn.lock = .locked) || (up && decide (s.hzn.lock = .coasting))) ||
      s.get R.GEN_TOPO_assigned == 0 || !s.blockUp 10 then some 1
  else if !s.peerInMachine n then some 2
  else if !s.portPll n then some 10
  else none

/-- Ports that may not stay up go DARK (R443, R475). -/
def State.fabCheck (s : State) : State :=
  (List.range 12).foldl (fun u n =>
    if (u.port n).state = .dark then u
    else match u.portWhy n true with
      | some c => u.portDark n c
      | none => u) s

/-- A training attempt begins (R449). -/
def State.portStart (s : State) (n : Nat) : State :=
  let p := s.port n
  let s1 := s.setPort n { PortSt.init with state := .detect, cause := 0, fails := p.fails, retrains := p.retrains }
  (s1.put (R.FAB_PORT_STAT_gen2_failed n) 0).count (R.FAB_PORT_TRAIN_attempts n) 1

/-- An attempt has failed (R449). -/
def State.portFail (s : State) (n cause : Nat) : State :=
  let s1 := (s.portDark n cause).put (R.FAB_PORT_TRAIN_last_fail n) cause
  s1.setPort n { s1.port n with fails := (s1.port n).fails + 1 }

/-- Causes after which an attempt is retried by time (R449, R458). -/
def failedCause (c : Nat) : Bool := decide (3 ≤ c ∧ c ≤ 9)

/-- PORT_DETECT (R445). -/
def execPortDetect (port : Fin 12) (s : State) : Host.Outcome State Fault Refusal :=
  let p := s.port port.val
  .next (if p.state = .dark ∧ failedCause p.cause = false ∧ s.portWhy port.val false = none then s.portStart port.val else s)

/-- The wait before the next attempt, in milliseconds (R449, R458). -/
def PortSt.retryMs (p : PortSt) : Nat := if p.cause = 9 then 100 else if 8 ≤ p.fails then 1000 else 10

/-- TRAINING_RETRY (R449, R458): the wait after a failed attempt has ended. -/
def execTrainingRetry (port : Fin 12) (s : State) : Host.Outcome State Fault Refusal :=
  let p := s.port port.val
  .next (if p.state = .dark ∧ failedCause p.cause = true ∧ p.downAt + p.retryMs * ticksPerMs ≤ s.now ∧ s.portWhy port.val false = none then s.portStart port.val else s)

/-- LANE_SIGNAL (R449). -/
def execLaneSignal (port : Fin 12) (s : State) : Host.Outcome State Fault Refusal :=
  let p := s.port port.val
  .next (if p.state = .detect then s.setPort port.val { p with state := .equalise } else s)

/-- EQUALISE_DONE (R444). -/
def execEqualiseDone (port : Fin 12) (s : State) : Host.Outcome State Fault Refusal :=
  let p := s.port port.val
  .next (if p.state = .equalise ∧ p.switching = false then s.setPort port.val { p with state := .negotiate } else s)

/-- The peer's values are recorded whatever the outcome (R447). -/
def State.recordPeer (s : State) (n : Nat) (b : TrainBlock) (polarity now : Nat) : State :=
  s.puts [(R.FAB_PORT_PEER_pkg n, b.pkg), (R.FAB_PORT_PEER_port n, b.port), (R.FAB_PORT_PEER_gen2 n, bits b.flags 0 1),
    (R.FAB_PORT_PEER_valid n, 1), (R.FAB_PORT_PEER_level n, b.level), (R.FAB_PORT_PEER_RANGE_min n, b.rangeMin),
    (R.FAB_PORT_PEER_RANGE_max n, b.rangeMax), (R.FAB_PORT_STAT_polarity n, polarity),
    (R.FAB_PORT_FLIGHT_ns n, ((now + 2 ^ 32 - b.echo) % 2 ^ 32 - b.turnaround) / 2)]

/-- Both ends offer generation 2 and the link does not run at it (R442, R448). -/
def State.wantsGen2 (s : State) (n : Nat) (b : TrainBlock) : Bool :=
  let p := s.port n
  !p.gen2 && decide (p.state = .negotiate) && bitAt b.flags 0 && s.get (R.FAB_PORT_CTRL_gen_max n) == 1 &&
    s.get (R.FAB_PORT_STAT_gen2_failed n) == 0

/-- The block the port sends next (R446, R448): generation 2 offered, its switch requested and acknowledged, ready; the peer's stamp
echoed. How long the turn took is open. -/
def State.sendTraining (s : State) (n : Nat) (b : TrainBlock) (agreed faster : Bool) (now : Nat) : State :=
  let offer := s.get (R.FAB_PORT_CTRL_gen_max n) == 1 && s.get (R.FAB_PORT_STAT_gen2_failed n) == 0
  let flags := b2n offer + 2 * b2n faster + 4 * b2n (faster && bitAt b.flags 1) + 8 * b2n (agreed && !faster)
  let own : TrainBlock :=
    { good := true, lane := 0, flags := flags, level := 2, rangeMin := 2, rangeMax := 3, machine := s.get R.GEN_MACHINE_machine_id,
      pkg := s.ownPkg, port := n, stamp := now, echo := b.stamp, turnaround := s.free.1 % 65536 }
  s.free.2.emit (.training n own.bytes)

/-- Eight identical good blocks on every lane (R447, R448): the checks, then the switch to generation 2 once the peer
acknowledges it, or readiness once the peer is ready. -/
def State.trainingBlock (s : State) (n : Nat) (lanes : List TrainBlock) (polarity now : Nat) : State :=
  let p := s.port n
  let b := lanes.headD (TrainBlock.ofBytes [])
  if !(lanes.all TrainBlock.good) || !(decide (p.state = .negotiate) || decide (p.state = .retrain)) then s
  else
    let cause := negotiateCause lanes (s.get R.GEN_MACHINE_machine_id) s.ownPkg n
    let s1 := (s.recordPeer n b polarity now).sendTraining n b cause.isNone (s.wantsGen2 n b) now
    match cause with
    | some c => s1.portFail n c
    | none =>
      if s.wantsGen2 n b then s1.setPort n { s1.port n with switching := bitAt b.flags 2 }
      else s1.setPort n { s1.port n with ready := bitAt b.flags 3 }

/-- TRAINING_BLOCK. -/
def execTrainingBlock (port : Fin 12) (lanes : Vector (Vector Byte 64) 4) (polarity : BitVec 4) (now : Word) (s : State) :
    Host.Outcome State Fault Refusal :=
  .next (s.trainingBlock port.val (lanes.toList.map (fun l => TrainBlock.ofBytes l.toList)) polarity.toNat now.toNat)

/-- GEN2_EQ_TIMEOUT (R448): at the next mark both ends go back to generation 1. -/
def execGen2EqTimeout (port : Fin 12) (s : State) : Host.Outcome State Fault Refusal :=
  let p := s.port port.val
  .next (if p.state = .equalise ∧ p.gen2 = true then
      (s.setPort port.val { p with switching := true }).put (R.FAB_PORT_STAT_gen2_failed port.val) 1
    else s)

/-- TRAINING_TIMEOUT (R449): no signal in DETECT, timeout later. -/
def execTrainingTimeout (port : Fin 12) (s : State) : Host.Outcome State Fault Refusal :=
  .next (match (s.port port.val).state with
    | .detect => s.portFail port.val 3
    | .equalise | .negotiate => s.portFail port.val 8
    | _ => s)

/-- A write of FAB_PORTn_CTRL.retrain (R449). -/
def State.portRetrain (s : State) (n : Nat) : State :=
  let p := { s.port n with fails := 0 }
  let s1 := s.setPort n p
  match s1.portWhy n false with
  | some c => if p.state = .dark then s1.setPort n { p with cause := c } else s1.portDark n c
  | none => (p.retry.flatMap (fun f => f.slots.map (fun t => (⟨t, none⟩ : QTxn))) ++ p.queue).foldl (fun u x => u.rehome n x) (s1.portStart n)

/-- FAB_PORT_RETRAIN. -/
def execFabPortRetrain (port : Fin 12) (s : State) : Host.Outcome State Fault Refusal :=
  .next (if s.blockUp 10 then s.portRetrain port.val else s)

/-- FAB_PORTn_CTRL.en written 0 (R475). -/
def State.portDisable (s : State) (n : Nat) : State := (s.put (R.FAB_PORT_CTRL_en n) 0).portDark n 11

/-- FAB_PORT_DISABLE. -/
def execFabPortDisable (port : Fin 12) (s : State) : Host.Outcome State Fault Refusal :=
  .next (if s.blockUp 10 then s.portDisable port.val else s)

/-- FAB_PORTn_CTRL.en written 1 (R445): a port that was disabled is DARK for want of its conditions until PORT_DETECT. -/
def State.portEnable (s : State) (n : Nat) : State :=
  let s1 := s.put (R.FAB_PORT_CTRL_en n) 1
  if (s1.port n).cause = 11 then s1.setPort n { s1.port n with cause := 1 } else s1

/-- FAB_PORT_ENABLE. -/
def execFabPortEnable (port : Fin 12) (s : State) : Host.Outcome State Fault Refusal :=
  .next (if s.blockUp 10 then s.portEnable port.val else s)

/-- LOSS_OF_SIGNAL (R83): a trained port. -/
def execLossOfSignal (port : Fin 12) (s : State) : Host.Outcome State Fault Refusal :=
  .next (match (s.port port.val).state with
    | .dark | .detect => s
    | _ => s.portDark port.val 3)

/-! ### Frame marks (R448) -/

/-- The full pools of R455. -/
def fullCredits : SMap Nat :=
  (0, 784) :: (List.range 15).map (fun h => (h + 1, 16)) ++ (16, 784) :: (List.range 15).map (fun h => (h + 17, 16)) ++ [(32, 256)]

/-- A port at a local frame mark. -/
def State.portMark (s : State) (n : Nat) : State :=
  let p := s.port n
  if p.switching then s.setPort n { p with gen2 := !p.gen2, switching := false, ready := false, state := .equalise }
  else if !p.ready then s
  else match p.state with
    | .negotiate => (s.setPort n { p with state := .active, ready := false, fails := 0, credits := fullCredits, granted := fullCredits }).raiseFab 0
    | .retrain => s.setPort n { p with state := .active, ready := false, replay := p.retry }
    | _ => s

def State.fabMark (s : State) : State := (List.range 12).foldl State.portMark s

/-! ### Retraining (R458) -/

/-- The port enters RETRAIN; a third within 1 s is an error. -/
def State.portRetraining (s : State) (n : Nat) : State :=
  let p := s.port n
  let recent := p.retrains.filter (fun t => decide (s.now < t + 1000 * ticksPerMs))
  let s1 := ((s.setPort n { p with state := .retrain, ready := false, retrains := recent ++ [s.now], nakRun := 0 }).count
    (R.FAB_PORT_CNT0_retrains n) 1).raiseFab 2
  if 2 ≤ recent.length then s1.portDark n 9 else s1

/-- RETRAIN. -/
def execRetrain (port : Fin 12) (s : State) : Host.Outcome State Fault Refusal :=
  .next (if s.portActive port.val then s.portRetraining port.val else s)

/-- RETRAIN_TIMEOUT. -/
def execRetrainTimeout (port : Fin 12) (s : State) : Host.Outcome State Fault Refusal :=
  .next (if (s.port port.val).state = .retrain then s.portDark port.val 9 else s)

/-! ### Flits out (R452, R455–R457) -/

/-- The credit a transaction would be sent on: shared, else reserved for its hop class. -/
def creditFor (credits : SMap Nat) (t : Txn) : Option Nat :=
  let shared := 16 * (t.slotKind - 1)
  if 0 < SMap.get 0 credits shared then some shared
  else if t.kind ≠ 4 ∧ 0 < SMap.get 0 credits (shared + t.hops) then some (shared + t.hops)
  else none

/-- The next transaction for a flit slot: response, then scheduled, then dynamic, each in order. -/
def pickSlot (q : List QTxn) (credits : SMap Nat) : Option (QTxn × Nat) :=
  [3, 1, 2].findSome? (fun k => (q.find? (fun x => x.txn.slotKind == k)).bind (fun x => (creditFor credits x.txn).map (fun c => (x, c))))

/-- Up to three slots: what is taken, and the queue and credits left. -/
def fillSlots : Nat → List QTxn → SMap Nat → List QTxn × List QTxn × SMap Nat
  | 0, q, c => ([], q, c)
  | n + 1, q, c =>
    match pickSlot q c with
    | none => ([], q, c)
    | some (x, key) =>
      let r := fillSlots n (q.erase x) (SMap.set 0 c key (SMap.get 0 c key - 1))
      (x :: r.1, r.2.1, r.2.2)

/-- Credits of one pool and class leave in a flit's header: the key, how many. -/
def PortSt.creditReturn (p : PortSt) : Nat × Nat :=
  match p.owed with
  | [] => (0, 0)
  | x :: _ => (x.1, min 1023 x.2)

def PortSt.head (p : PortSt) (seq : Nat) (idle : Bool) (kinds : List Nat) : FlitHead :=
  let c := p.creditReturn
  { seq := seq, ack := p.lastGood, nak := p.nakOwed, idle := idle, pool := c.1 / 16, reserved := c.1 % 16 != 0,
    hopClass := c.1 % 16, credits := c.2, kinds := kinds }

/-- What a sent header has carried is no longer owed. -/
def PortSt.headSent (p : PortSt) : PortSt :=
  let c := p.creditReturn
  { p with nakOwed := false, owed := SMap.set 0 p.owed c.1 (SMap.get 0 p.owed c.1 - c.2),
           granted := if c.2 = 0 then p.granted else SMap.set 0 p.granted c.1 (SMap.get 0 p.granted c.1 + c.2) }

/-- An own transfer's last transaction has left (R469). -/
def State.noteLeft (s : State) (t : Txn) : State :=
  if t.origin = s.ownPkg ∧ t.kind ≠ 4 then
    { s with fab := { s.fab with transfers := s.fab.transfers.map (fun x => if x.id = t.xfer then { x with leftFrame := s.frame } else x) } }
  else s

/-- A DATA flit leaves and is counted. -/
def State.sendData (s : State) (n seq : Nat) (ts : List Txn) : State :=
  let p := s.port n
  let m := flitMessage (p.head seq false (((ts.map Txn.slotKind) ++ [0, 0, 0]).take 3)) ts
  ((s.setPort n p.headSent).emit (.flit n m)).pmu (0x80 + 8 * n) none 1

/-- Each flit time: a replayed flit, a new DATA flit, or IDLE. -/
def State.flitOut (s : State) (n : Nat) : State :=
  let p := s.port n
  match p.replay with
  | f :: rest => (s.setPort n { p with replay := rest }).sendData n f.seq f.slots
  | [] =>
    let r := if p.retry.length < 512 then fillSlots 3 p.queue p.credits else ([], p.queue, p.credits)
    let stalled := decide (p.retry.length < 512 ∧ r.1.length < 3) && !r.2.1.isEmpty
    let s0 := if stalled then (s.count (R.FAB_PORT_CNT2_credit_stall n) 1).pmu (0x80 + 8 * n + 6) none 1 else s
    let p0 := s0.port n
    match r.1 with
    | [] => (s0.setPort n p0.headSent).emit (.flit n (flitMessage (p0.head 0 true [0, 0, 0]) []))
    | _ =>
      let ts := r.1.map QTxn.txn
      let p1 := { p0 with queue := r.2.1, credits := r.2.2, retry := p0.retry ++ [⟨p0.nextSeq, ts⟩], nextSeq := (p0.nextSeq + 1) % 65536 }
      let s1 := (s0.setPort n p1).sendData n p0.nextSeq ts
      r.1.foldl (fun u x => ((u.freeSlot x.held).noteLeft x.txn).pmu (0x80 + 8 * n + (match x.txn.slotKind with | 1 => 2 | 2 => 3 | _ => 4)) none 1) s1

/-- FLIT_TRANSMIT. -/
def execFlitTransmit (port : Fin 12) (s : State) : Host.Outcome State Fault Refusal :=
  .next (if s.portActive port.val then s.flitOut port.val else s)

/-! ### Flits in (R452, R455, R457) -/

/-- A nak is owed, and DATA flits are discarded until the replay. -/
def State.owesNak (s : State) (n : Nat) : State := s.setPort n { s.port n with nakOwed := true, discarding := true }

/-- Flits up to and including `ack` leave the retry buffer. -/
def PortSt.acked (p : PortSt) (ack : Nat) : PortSt :=
  if p.retry.any (fun f => f.seq == ack) then { p with retry := (p.retry.dropWhile (fun f => f.seq != ack)).drop 1 } else p

/-- A nak has been received: replay from ack + 1; too many of them retrain the link (R457, R458). -/
def State.nakIn (s : State) (n ack : Nat) : State :=
  let p := s.port n
  let run := if p.nakSeq = (ack + 1) % 65536 then p.nakRun + 1 else 1
  let inFrame := if p.nakFrame = s.frame then p.nakCount + 1 else 1
  let s1 := ((s.setPort n { p with replay := p.retry, nakSeq := (ack + 1) % 65536, nakRun := run, nakFrame := s.frame, nakCount := inFrame }).count
    (R.FAB_PORT_CNT0_naks n) 1).pmu (0x80 + 8 * n + 5) none 1
  if 16 ≤ run ∨ 4096 ≤ inFrame then s1.portRetraining n else s1

/-- The slot an arriving transaction takes (R455). -/
def State.takeSlot (s : State) (n : Nat) (kind hops : Nat) : Nat × State :=
  let p := s.port n
  let shared := 16 * (kind - 1)
  let key := if 0 < SMap.get 0 p.granted shared ∨ kind = 3 then shared else shared + hops
  (key, s.setPort n { p with granted := SMap.set 0 p.granted key (SMap.get 0 p.granted key - 1) })

/-- The transactions of a good DATA flit go on. -/
def State.slotsIn (s : State) (n : Nat) (m : List Byte) (kinds : List Nat) : State :=
  kinds.zipIdx.foldl (fun u k =>
    if k.1 = 0 then u
    else
      let b := flitSlot m k.2
      let r := u.takeSlot n k.1 (Txn.ofBytes b).hops
      r.2.arriveBytes n b (some (n, r.1))) s

/-- A flit whose FEC decoding left `corrected` bytes corrected, or failed. -/
def State.flitIn (s : State) (n : Nat) (corrected : Option Nat) (m : List Byte) : State :=
  match corrected with
  | none => s.owesNak n
  | some c =>
    let s0 := (s.count (R.FAB_PORT_CNT1_fec_corrected n) c).pmu (0x80 + 8 * n + 7) none c
    if !flitGood m then s0.owesNak n
    else
      let raw := leAt m 0 12
      let h := FlitHead.ofNat raw
      let key := 16 * h.pool + (if h.reserved then h.hopClass else 0)
      let p := (s0.port n).acked h.ack
      let s1 := s0.setPort n { p with credits := if h.credits = 0 then p.credits else SMap.set 0 p.credits key (SMap.get 0 p.credits key + h.credits) }
      let s2 := if h.nak then s1.nakIn n h.ack else s1
      let p2 := s2.port n
      if bits raw 33 2 ≠ 0 then s2
      else if h.seq = (p2.lastGood + 1) % 65536 then
        ((s2.setPort n { p2 with lastGood := h.seq, discarding := false }).pmu (0x80 + 8 * n + 1) none 1).slotsIn n m h.kinds
      else if p2.discarding then s2 else s2.owesNak n

/-- FLIT_RECEIVE. -/
def execFlitReceive (port : Fin 12) (corrected : Option (Fin 9)) (message : Vector Byte 256) (s : State) :
    Host.Outcome State Fault Refusal :=
  .next (if s.portActive port.val then s.flitIn port.val (corrected.map Fin.val) message.toList else s)

/-! ### Transactions that reach this package (R453, R454, R468) -/

/-- A transaction of one type arrives on an ACTIVE port for this package. -/
def State.txnIn (s : State) (n kind : Nat) (b : List Byte) : State :=
  let t := Txn.ofBytes b
  if s.portActive n && t.kind == kind && t.dst == s.ownPkg then s.arriveBytes n b none else s

/-- FABRIC_WRITE. -/
def execFabricWrite (port : Fin 12) (txn : Vector Byte 80) (s : State) : Host.Outcome State Fault Refusal :=
  .next (s.txnIn port.val 1 txn.toList)
/-- CADD. -/
def execCadd (port : Fin 12) (txn : Vector Byte 80) (s : State) : Host.Outcome State Fault Refusal :=
  .next (s.txnIn port.val 2 txn.toList)
/-- SIGNAL. -/
def execSignal (port : Fin 12) (txn : Vector Byte 80) (s : State) : Host.Outcome State Fault Refusal :=
  .next (s.txnIn port.val 3 txn.toList)
/-- RESP. -/
def execResp (port : Fin 12) (txn : Vector Byte 80) (s : State) : Host.Outcome State Fault Refusal :=
  .next (s.txnIn port.val 4 txn.toList)

/-- RESP_TALLY_FLUSH (R468). -/
def execRespTallyFlush (origin : BitVec 10) (xfer : BitVec 16) (s : State) : Host.Outcome State Fault Refusal :=
  .next (match s.fab.tallies.find? (fun x => x.sameAs origin.toNat xfer.toNat) with
    | some x => s.flushTally x
    | none => s)

/-- A transaction of an own transfer still waits in a port's queue. -/
def State.xferQueued (s : State) (id : Nat) : Bool :=
  s.fab.ports.toList.any (fun p => p.queue.any (fun x => x.txn.kind != 4 && x.txn.origin == s.ownPkg && x.txn.xfer == id))

/-- TRANSFER_TIMEOUT (R469): 8 frames after the last transaction left. -/
def execTransferTimeout (xfer : BitVec 16) (s : State) : Host.Outcome State Fault Refusal :=
  .next (match s.fab.transfers.find? (fun t => t.id == xfer.toNat) with
    | none => s
    | some t =>
      if s.xferQueued t.id = true ∨ s.frame < t.leftFrame + 8 then s
      else
        let s1 := (s.count R.FAB_XFER_resp_timeouts 1).raiseFab 5
        ({ s1 with fab := { s1.fab with timedOut := s1.fab.timedOut ++ [(t.id, s1.frame)] } }).resolve t 5 0)

/-- A write of FAB_CTRL.clr_counts (R478). -/
def State.fabClrCounts (s : State) : State :=
  (s.puts [(R.FAB_DROP0_job_drops, 0), (R.FAB_DROP0_addr_drops, 0), (R.FAB_DROP1_hop_drops, 0), (R.FAB_DROP1_malformed, 0),
    (R.FAB_DROP1_late_resps, 0), (R.FAB_XFER_resp_timeouts, 0)]).puts
    ((List.range 12).flatMap (fun n => [(R.FAB_PORT_CNT0_naks n, 0), (R.FAB_PORT_CNT0_retrains n, 0),
      (R.FAB_PORT_CNT1_fec_corrected n, 0), (R.FAB_PORT_CNT2_credit_stall n, 0), (R.FAB_PORT_TRAIN_attempts n, 0)]))

/-- FAB_CLR_COUNTS. -/
def execFabClrCounts (s : State) : Host.Outcome State Fault Refusal := .next (if s.blockUp 10 then s.fabClrCounts else s)

end Sys2Proof.Machine
end

