-- ==== Sys2Proof/Machine/Pmu.lean ====
section
/-!
DEFINITION. Sys2Proof/Machine/Pmu.lean: the event counters' registers and triggers (R645–R653, R663) and the fault log's clear
(R654). The counting itself is State.pmu in Machine/Ops.lean and the idle tick.
-/

namespace Sys2Proof.Machine

/-- R650: an event code that is not reserved. -/
def eventKnown (c : Nat) : Bool :=
  if c < 0x10 then decide (c < 8)
  else if c < 0x20 then true
  else if c < 0x30 then decide (c < 0x2A)
  else if c < 0x50 then true
  else if c < 0x60 then decide (c < 0x5E)
  else if c < 0x70 then decide (c < 0x6B)
  else if c < 0xE0 then true
  else if c < 0xF0 then decide (c < 0xEC)
  else decide (c < 0xF5)

/-- R650: an event that can be filtered by slot. -/
def eventFilters (c : Nat) : Bool :=
  if c < 0x10 then false
  else if c < 0x20 then c != 0x1D && c != 0x1E
  else if c < 0x60 then true
  else if c < 0x70 then [0x60, 0x61, 0x62, 0x63, 0x65, 0x67, 0x6A].contains c
  else c == 0xE6

/-- R650: the largest increment of an event in one cycle. -/
def eventLargest (c : Nat) : Nat :=
  if c < 0x10 then 1 else if c < 0x20 then 64 else if c < 0x30 then 16 else if c < 0x50 then 32768 else if c < 0x60 then 1024
  else if c < 0x70 then 64 else if c < 0xF0 then 16 else 1

/-- An armed trigger names counter `n` (R646). -/
def State.pmuNamed (s : State) (n : Nat) : Bool :=
  (List.range 4).any (fun k => s.get (R.PMU_TRIG_CFG_armed k) == 1 && bitAt (s.get (R.PMU_TRIG_MASK k)) n)

/-! ### Start, stop, snapshot, clear (R648) -/

def State.pmuStart (s : State) (mask : Nat) : State := s.put R.PMU_RUN (orBits (s.get R.PMU_RUN) mask)

def State.pmuStop (s : State) (mask : Nat) : State := (s.put R.PMU_RUN (clearBits (s.get R.PMU_RUN) mask)).gateDawn

/-- Every counter of the mask, in turn. -/
def State.pmuEach (s : State) (mask : Nat) (f : State → Nat → State) : State :=
  (List.range 32).foldl (fun u n => if bitAt mask n then f u n else u) s

def State.pmuSnap (s : State) (mask : Nat) : State :=
  s.pmuEach mask (fun u n => u.puts [(R.PMU_SNAP_LO n, u.get (R.PMU_CNT_LO n)), (R.PMU_SNAP_HI n, u.get (R.PMU_CNT_HI n))])

def State.pmuZero (s : State) (mask : Nat) : State := s.pmuEach mask (fun u n => u.setPmuCount n 0)

/-- PMU_START. -/
def execPmuStart (mask : Word) (s : State) : Host.Outcome State Fault Refusal :=
  .next (if s.blockUp 13 then s.pmuStart mask.toNat else s)

/-- PMU_STOP. -/
def execPmuStop (mask : Word) (s : State) : Host.Outcome State Fault Refusal :=
  .next (if s.blockUp 13 then s.pmuStop mask.toNat else s)

/-- PMU_SNAP. -/
def execPmuSnap (mask : Word) (s : State) : Host.Outcome State Fault Refusal :=
  .next (if s.blockUp 13 then s.pmuSnap mask.toNat else s)

/-- PMU_CLR. -/
def execPmuClr (mask : Word) (s : State) : Host.Outcome State Fault Refusal :=
  .next (if s.blockUp 13 then s.pmuZero mask.toNat else s)

/-! ### Counter writes (R646) -/

def State.pmuCfg (s : State) (n v : Nat) : State :=
  if bitAt (s.get R.PMU_RUN) n || s.pmuNamed n || !eventKnown (bits v 0 8) || (bitAt v 8 && !eventFilters (bits v 0 8)) then
    s.raisePmu 3
  else s.puts [(R.PMU_CFG_event n, bits v 0 8), (R.PMU_CFG_ctx_en n, bits v 8 1), (R.PMU_CFG_ctx n, bits v 9 6)]

/-- PMU_CFG_WRITE. -/
def execPmuCfgWrite (counter : Fin 32) (value : Word) (s : State) : Host.Outcome State Fault Refusal :=
  .next (if s.blockUp 13 then s.pmuCfg counter.val value.toNat else s)

def State.pmuCnt (s : State) (n : Nat) (high : Bool) (v : Nat) : State :=
  if bitAt (s.get R.PMU_RUN) n then s.raisePmu 3
  else if high then s.put (R.PMU_CNT_HI n) v else s.put (R.PMU_CNT_LO n) v

/-- PMU_CNT_WRITE. -/
def execPmuCntWrite (counter : Fin 32) (high : Bool) (value : Word) (s : State) : Host.Outcome State Fault Refusal :=
  .next (if s.blockUp 13 then s.pmuCnt counter.val high value.toNat else s)

/-! ### Triggers (R651, R652, R663) -/

/-- A trigger's instant, frame and tick as one number. -/
def State.trigAt (s : State) (k : Nat) : Nat :=
  (s.get (R.PMU_TRIG_LO_frame k) + 2 ^ 32 * s.get (R.PMU_TRIG_HI_frame k)) * 2048 + s.get (R.PMU_TRIG_HI_tick k)

/-- A trigger acts and is no longer armed. -/
def State.trigAct (s : State) (k : Nat) : State :=
  let mask := s.get (R.PMU_TRIG_MASK k)
  let s1 := s.put (R.PMU_TRIG_CFG_armed k) 0
  let s2 := match s1.get (R.PMU_TRIG_CFG_action k) with
    | 1 => s1.pmuStart mask
    | 2 => s1.pmuStop mask
    | 3 => s1.pmuSnap mask
    | _ => s1
  s2.raisePmu 1

/-- A write of PMU_TRIGk_CFG: one whose instant has passed fires at once. -/
def State.trigWrite (s : State) (k action : Nat) (arm : Bool) : State :=
  let s1 := s.puts [(R.PMU_TRIG_CFG_action k, action), (R.PMU_TRIG_CFG_armed k, b2n (arm && action != 0))]
  if s1.get (R.PMU_TRIG_CFG_armed k) = 0 then s1.gateDawn
  else if s1.hzn.counting ∧ s1.trigAt k < s1.horizon then (s1.raisePmu 2).trigAct k
  else s1

/-- PMU_TRIGGER_ARM. -/
def execPmuTriggerArm (trigger : Fin 4) (action : BitVec 2) (s : State) : Host.Outcome State Fault Refusal :=
  .next (if s.blockUp 13 then s.trigWrite trigger.val action.toNat true else s)

/-- The armed triggers that pass `p`, snapshots first and stops last. -/
def State.trigsWhere (s : State) (p : Nat → Bool) : List Nat :=
  let due := (List.range 4).filter (fun k => s.get (R.PMU_TRIG_CFG_armed k) == 1 && p k)
  due.filter (fun k => s.get (R.PMU_TRIG_CFG_action k) == 3) ++ due.filter (fun k => s.get (R.PMU_TRIG_CFG_action k) == 1) ++
    due.filter (fun k => s.get (R.PMU_TRIG_CFG_action k) == 2)

/-- The armed triggers whose instant is now. -/
def State.trigDue (s : State) : List Nat := s.trigsWhere (fun k => s.trigAt k == s.horizon)

/-- PMU_TRIGGER_FIRE: the local start of the trigger's tick; every trigger of that instant fires with it. -/
def execPmuTriggerFire (trigger : Fin 4) (s : State) : Host.Outcome State Fault Refusal :=
  .next (if s.blockUp 13 && s.hzn.counting && s.trigDue.contains trigger.val then s.trigDue.foldl State.trigAct s else s)

/-- A write of PMU_TRIGk_MASK, _LO or _HI. -/
def State.trigSet (s : State) (k off v : Nat) : State :=
  if s.get (R.PMU_TRIG_CFG_armed k) = 1 then s.raisePmu 3 else s.setRegWord off v

/-! ### Overflow (R653) -/

/-- PMU_OVERFLOW: an increment of a running counter's event that carries it past 2^48 − 1. -/
def execPmuOverflow (counter : Fin 32) (inc : BitVec 16) (s : State) : Host.Outcome State Fault Refusal :=
  let n := counter.val
  .next (if s.blockUp 13 && bitAt (s.get R.PMU_RUN) n && decide (inc.toNat ≤ eventLargest (s.get (R.PMU_CFG_event n))) &&
      decide (2 ^ 48 ≤ s.pmuCount n + inc.toNat) then
    let r := s.pmuBump n inc.toNat
    if r.2 then r.1.pmuOverflow else r.1
  else s)

/-! ### Fault log (R654) -/

def State.flogClear (s : State) : State := ({ s with flog := [] }).put R.GEN_FLOG_STAT_lost 0

/-- FLOG_CLEAR. -/
def execFlogClear (s : State) : Host.Outcome State Fault Refusal := .next (if s.controlUp then s.flogClear else s)

end Sys2Proof.Machine
end

