-- ==== Sys2Proof/Machine/Flash.lean ====
section
/-!
DEFINITION. Sys2Proof/Machine/Flash.lean: the record flash (spec/18): words and sectors (R586–R588), the controller's
commands (R589–R592), corrections (R593–R595), suspend and resume (R596–R598), host reads (R599), protection and mass erase
(R600–R603) and the erase log (R604–R606).
-/

namespace Sys2Proof.Machine

/-! ### Words and sectors -/

/-- A blank word (R586). -/
def blankWord : Nat := 2 ^ 64 - 1

/-- The first word of a sector; bank B follows bank A. -/
def sectorWord (bankB : Bool) (sector : Nat) : Nat := b2n bankB * 65536 + 256 * sector

def FlsSt.word (f : FlsSt) (ix : Nat) : Nat := SMap.get blankWord f.words ix

/-- The sectors whose erase is active or suspended. -/
def FlsSt.erasing (f : FlsSt) : List (Bool × Nat) :=
  ((f.active.toList ++ f.suspended).filter (fun a => a.op == 2)).map (fun a => (a.bankB, a.sector))

/-- A word a cut operation left unpredictable (R592), or one of a sector being erased (R599). -/
def FlsSt.isTorn (f : FlsSt) (ix : Nat) : Bool :=
  f.torn.any (fun r => decide (r.1 ≤ ix ∧ ix < r.2)) ||
  f.erasing.any (fun u => decide (sectorWord u.1 u.2 ≤ ix ∧ ix < sectorWord u.1 u.2 + 256))

/-- A read of one word: what it holds, or a free value where a cut operation left it unpredictable (R592). -/
def State.flashRead (s : State) (ix : Nat) : Nat × State :=
  if s.fls.isTorn ix then let p := s.free; (p.1 % 2 ^ 64, p.2) else (s.fls.word ix, s)

def State.flashSet (s : State) (ix v : Nat) : State :=
  { s with fls := { s.fls with words := SMap.set blankWord s.fls.words ix v } }

/-- Little-endian bytes programmed from word `ix` on, eight to a word; an all-ones word is left blank (R590). -/
def State.flashBytes (s : State) (ix : Nat) (bs : List Byte) : State :=
  (List.range ((bs.length + 7) / 8)).foldl (fun t i =>
    let chunk := (bs.drop (8 * i)).take 8
    t.flashSet (ix + i) (ofLE (chunk ++ List.replicate (8 - chunk.length) 0xFF))) s

/-- `n` bytes of the flash as a controller's read or a fetch finds them: a word left unpredictable is a free value (R592, R599). -/
def State.flashTake (s : State) (ix n : Nat) : List Byte :=
  ((List.range ((n + 7) / 8)).flatMap (fun i =>
    toLE 8 (if s.fls.isTorn (ix + i) then Config.free (s.freeIx + ix + i) else s.fls.word (ix + i)))).take n

/-- After such a read the free values it may have met are used up: an unpredictable word may read differently the next time. -/
def State.flashSeen (s : State) : State :=
  if s.fls.torn = [] ∧ s.fls.erasing = [] then s else { s with freeIx := s.freeIx + 131072 }

/-- `n` bytes of the flash, from word `ix` on. -/
def FlsSt.bytes (f : FlsSt) (ix n : Nat) : List Byte :=
  ((List.range ((n + 7) / 8)).flatMap (fun i => toLE 8 (f.word (ix + i)))).take n

def FlsSt.sectorBlank (f : FlsSt) (bankB : Bool) (sector : Nat) : Bool :=
  let lo := sectorWord bankB sector
  f.words.all (fun p => !(decide (lo ≤ p.1 ∧ p.1 < lo + 256))) && !f.erasing.contains (bankB, sector) &&
  f.torn.all (fun r => !(decide (r.1 < lo + 256 ∧ lo < r.2)))

/-- Every word of a sector blank (R586). -/
def State.sectorErased (s : State) (bankB : Bool) (sector : Nat) : State :=
  let lo := sectorWord bankB sector
  { s with fls := { s.fls with words := SMap.clearRange s.fls.words lo (lo + 256),
                               torn := s.fls.torn.filter (fun r => !(decide (lo ≤ r.1 ∧ r.2 ≤ lo + 256))) } }

/-- Every word of a sector unpredictable (R592). -/
def State.sectorTorn (s : State) (bankB : Bool) (sector : Nat) : State :=
  let t := s.sectorErased bankB sector
  { t with fls := { t.fls with torn := (sectorWord bankB sector, sectorWord bankB sector + 256) :: t.fls.torn } }

/-! ### Status -/

/-- FLS_LAST (R589): command, result, place. -/
def State.flsLast (s : State) (cmd result : Nat) (bankB : Bool) (sector word : Nat) : State :=
  s.puts [(R.FLS_LAST_cmd, cmd), (R.FLS_LAST_result, result), (R.FLS_LAST_bank, b2n bankB), (R.FLS_LAST_sector, sector),
          (R.FLS_LAST_word, word)]

/-- R521: a sector erase may start. -/
def State.eraseAllowed (s : State) : Bool := decide (14 ≤ s.get R.BATT_BUDGET_ms)

/-- A refused erase (R521, R591). -/
def State.eraseRefused (s : State) (cmd : Nat) (bankB : Bool) (sector : Nat) : State :=
  ((s.count R.BATT_BUDGET_refusals 1).put R.FLS_STAT_busy_energy 1).flsLast cmd 2 bankB sector 0

/-- Words may be programmed: in HOLD down to 2.4 V (R65), in STANDBY from 2.7 V (R523). -/
def State.programAllowed (s : State) : Bool :=
  match s.isl.mode with
  | .hold => decide (2400 ≤ s.isl.vhold)
  | .standby => decide (2700 ≤ s.isl.vbat)
  | .aux | .cold => true

/-- FLS_STAT's picture of the active operation. -/
def State.flsShow (s : State) : State :=
  let s1 := s.put R.FLS_STAT_suspend_depth s.fls.suspended.length
  match s.fls.active with
  | none => s1.puts [(R.FLS_STAT_busy, 0), (R.FLS_STAT_op, 0), (R.FLS_STAT_bank, 0), (R.FLS_STAT_sector, 0)]
  | some a => s1.puts [(R.FLS_STAT_busy, 1), (R.FLS_STAT_op, a.op), (R.FLS_STAT_bank, b2n a.bankB), (R.FLS_STAT_sector, a.sector)]

/-! ### The erase log (R604–R606) -/

def logEntry (type : Nat) (bankB : Bool) (sector seq : Nat) : Nat :=
  type + 2 ^ 8 * b2n bankB + 2 ^ 9 * sector + 2 ^ 32 * seq

/-- One entry programmed at the next word of the active log sector; a full sector takes none. -/
def State.logPut (s : State) (type : Nat) (bankB : Bool) (sector : Nat) : State :=
  if 256 ≤ s.fls.logWord then s else
  let s1 := s.flashSet (sectorWord true s.fls.logSector + s.fls.logWord) (logEntry type bankB sector s.fls.logSeq)
  { s1 with fls := { s1.fls with logWord := s.fls.logWord + 1, logSeq := s.fls.logSeq + 1 } }

/-- The switch of log sectors, made when fewer than 3 words are free (R605) and its erase is permitted (R521). -/
def State.logSwitch (s : State) : State :=
  if 253 < s.fls.logWord ∧ s.eraseAllowed = true then
    let other := 1 - s.fls.logSector
    let s1 := ((s.logPut 0x42 true other).sectorErased true other).logPut 0x44 true other
    let s2 := s1.flashSet (sectorWord true other) (logEntry 0x48 false 0 (s1.fls.logGen + 1))
    { s2 with fls := { s2.fls with logSector := other, logWord := 1, logGen := s1.fls.logGen + 1 } }
  else s

/-- An entry, and the switch once it leaves fewer than 3 words free. -/
def State.logAppend (s : State) (type : Nat) (bankB : Bool) (sector : Nat) : State := (s.logPut type bankB sector).logSwitch

/-- BEGIN, before every erase (R605). -/
def State.logBegin (s : State) (bankB : Bool) (sector : Nat) : State := s.logSwitch.logAppend 0x42 bankB sector

def State.logDone (s : State) (bankB : Bool) (sector : Nat) : State := s.logAppend 0x44 bankB sector

/-! ### The ring (R607) -/

/-- The ring sector after `n`, skipping retired ones. -/
def nextRing (retired : List Nat) : Nat → Nat → Nat
  | 0, n => n
  | fuel + 1, n =>
    let m := if 255 ≤ n then 3 else n + 1
    if retired.contains m then nextRing retired fuel m else m

def State.ringNext (s : State) (n : Nat) : Nat := nextRing s.fls.retired 253 n

/-- The ring sector `k` places after `n`. -/
def State.ringAfter (s : State) : Nat → Nat → Nat
  | 0, n => n
  | k + 1, n => s.ringAfter k (s.ringNext n)

/-- A record made by the island and not yet committed (R610). -/
def State.record (s : State) (r : JRecord) : State := { s with isl := { s.isl with records := s.isl.records ++ [r] } }

/-- A record's 8-byte header and content (R610). -/
def recordOf (type tag interval : Nat) (content : List Byte) : JRecord :=
  toLE 1 type ++ toLE 1 ((8 + content.length) / 8) ++ toLE 2 tag ++ toLE 4 interval ++ content

/-- A record of this moment: type, tag and content under the present interval. -/
def State.note (s : State) (type tag : Nat) (content : List Byte) : State :=
  s.record (recordOf type tag (s.get R.MTR_INTERVAL) content)

def State.rtcBytes (s : State) : List Byte := toLE 4 (s.get R.MTR_RTC)
def State.frameBytes (s : State) : List Byte := toLE 6 s.frame

/-- A POWER record (R610). -/
def State.notePower (s : State) (tag : Nat) : State :=
  s.note 5 tag (s.rtcBytes ++ s.frameBytes ++ toLE 2 (s.get R.BATT_BUDGET_ms) ++ toLE 2 s.isl.vbat ++ toLE 2 0)

/-- A ring sector has been erased: it counts as erased ahead when it is the first stale one (R607). -/
def State.ringErased (s : State) (sector : Nat) : State :=
  let ahead := s.get R.FLS_RING_erased_ahead
  if 3 ≤ sector ∧ sector = s.ringAfter (ahead + 1) (s.get R.FLS_RING_head) then s.put R.FLS_RING_erased_ahead (ahead + 1)
  else s

/-- An erase has verified blank: DONE (R605), the end of a run of failures (R591), and a recovery where its BEGIN was left unmatched
(R606). -/
def State.eraseVerified (s : State) (bankB : Bool) (sector : Nat) : State :=
  let t := (s.sectorErased bankB sector).logDone bankB sector
  let t1 := { t with fls := { t.fls with
    failRuns := if bankB then SMap.set 0 t.fls.failRuns sector 0 else t.fls.failRuns,
    unmatched := t.fls.unmatched.filter (fun u => u != (bankB, sector)) } }
  let t2 := if s.fls.unmatched.contains (bankB, sector) then t1.count R.FLS_CNT_recoveries 1 else t1
  if bankB then t2.ringErased sector else t2

/-- A bracketed erase that runs inside another command, with its verify. -/
def State.eraseNow (s : State) (bankB : Bool) (sector : Nat) : State := (s.logBegin bankB sector).eraseVerified bankB sector

/-! ### Commands -/

/-- Bank A sectors 192–255 take no program and no erase (R587). -/
def outOfRange (bankB : Bool) (sector : Nat) : Bool := !bankB && decide (192 ≤ sector)

/-- PROGRAM (R590): the result code it ends with, and the state. `bad` says that the read-back differed. A sector whose re-erase
is still due is not programmed (R606): the model answers TARGET_ERASING (assumption 147). -/
def State.flashProgram (s : State) (ix v : Nat) (bad : Bool) : Nat × State :=
  let bankB := decide (65536 ≤ ix)
  let sector := ix % 65536 / 256
  let fin := fun (t : State) (r : Nat) => (r, t.flsLast 1 r bankB sector (ix % 256))
  if outOfRange bankB sector then fin (s.put R.FLS_STAT_range 1) 9
  else if s.fls.suspended.any (fun a => a.op == 2 && a.bankB == bankB && a.sector == sector) then
    fin (s.put R.FLS_STAT_target_erasing 1) 6
  else if s.fls.unmatched.contains (bankB, sector) then fin (s.put R.FLS_STAT_target_erasing 1) 6
  else if s.fls.isTorn ix then
    -- an unpredictable word (R592): what the blank check and the read-back find is free
    let p := s.free
    let q := (p.2.flashSet ix v).free
    if p.1 % 2 ^ 64 ≠ blankWord then fin (p.2.put R.FLS_STAT_not_blank 1) 1
    else if v = blankWord then fin (p.2.put R.FLS_STAT_range 1) 9
    else if bad = true ∨ q.1 % 2 ^ 64 ≠ v then fin (q.2.put R.FLS_STAT_verify_fail 1) 3
    else fin q.2 0
  else if s.fls.word ix ≠ blankWord then fin (s.put R.FLS_STAT_not_blank 1) 1
  else if v = blankWord then fin (s.put R.FLS_STAT_range 1) 9
  else
    let t := s.flashSet ix v
    if bad then fin (t.put R.FLS_STAT_verify_fail 1) 3 else fin t 0

/-- PROGRAM (R589, R590). It needs the flash idle but for suspended operations. -/
def execProgram (word : BitVec 17) (value : Word64) (readbackBad : Bool) (s : State) : Host.Outcome State Fault Refusal :=
  .next (if s.fls.active.isSome || !s.programAllowed then s else (s.flashProgram word.toNat value.toNat readbackBad).2)

/-- A sector erase begins, or is refused (R591, R596, R605). -/
def State.eraseStart (s : State) (bankB : Bool) (sector : Nat) : State :=
  if outOfRange bankB sector then (s.put R.FLS_STAT_range 1).flsLast 2 9 bankB sector 0
  else if s.fls.suspended.any (fun a => a.op == 2) then (s.put R.FLS_STAT_suspend_refused 1).flsLast 2 7 bankB sector 0
  else if !s.eraseAllowed then s.eraseRefused 2 bankB sector
  else
    let s1 := s.logBegin bankB sector
    ({ s1 with fls := { s1.fls with active := some ⟨2, bankB, sector, 0, 0, 0⟩ } }).flsShow

/-- ERASE (R591). -/
def execErase (bank : Bool) (sector : BitVec 8) (s : State) : Host.Outcome State Fault Refusal :=
  .next (if s.fls.active.isSome then s else s.eraseStart bank sector.toNat)

/-- A ring sector that fails two erases in a row is retired (R591). -/
def State.eraseFailed (s : State) (bankB : Bool) (sector : Nat) : State :=
  let s1 := (s.sectorTorn bankB sector).put R.FLS_STAT_erase_fail 1
  if bankB && decide (3 ≤ sector) then
    let n := SMap.get 0 s1.fls.failRuns sector + 1
    let s2 := { s1 with fls := { s1.fls with failRuns := SMap.set 0 s1.fls.failRuns sector n } }
    if n = 2 then
      let s3 := { s2 with fls := { s2.fls with retired := sector :: s2.fls.retired } }
      (s3.put R.FLS_RING_retired (satAdd 8 (s3.get R.FLS_RING_retired) 1)).note 0x0C sector
        (toLE 4 (s3.get R.FLS_WEAR_rotations) ++ toLE 4 0)
    else s2
  else s1

/-- ERASE_DONE: the active erase ends, verified blank or not (R591, R605). -/
def execEraseDone (blank : Bool) (s : State) : Host.Outcome State Fault Refusal :=
  .next (match s.fls.active with
    | some a =>
      if a.op = 2 then
        let s1 := { s with fls := { s.fls with active := none } }
        let s2 := if blank then s1.eraseVerified a.bankB a.sector else s1.eraseFailed a.bankB a.sector
        (s2.flsLast 2 (if blank then 0 else 4) a.bankB a.sector 0).flsShow
      else s
    | none => s)

/-- The active operation is set aside; none where R596 refuses it. -/
def State.setAside (s : State) : Option State :=
  match s.fls.active with
  | none => some s
  | some a =>
    if 2 ≤ s.fls.suspended.length ∨ 64 ≤ a.suspends ∨ a.op = 3 then none
    else
      let s1 := { s with fls := { s.fls with active := none, suspended := { a with suspends := a.suspends + 1 } :: s.fls.suspended } }
      some (s1.count R.FLS_CNT2_suspends 1).flsShow

/-- The innermost suspended operation goes on (R597): an erase rechecks R521 against the time it still needs, which is free, at
most 4 ms. -/
def State.resumeInner (s : State) : State :=
  match s.fls.active, s.fls.suspended with
  | none, a :: rest =>
    let p := s.free
    if a.op = 2 ∧ s.get R.BATT_BUDGET_ms < 10 + p.1 % 5 then p.2.eraseRefused 4 a.bankB a.sector
    else
      let s1 := { p.2 with fls := { p.2.fls with active := some a, suspended := rest } }
      (s1.flsLast 4 0 a.bankB a.sector a.word).flsShow
  | _, _ => s

/-- Work of the controller that an active operation is suspended for (R596, R599, R615), and resumed after; where it cannot be
suspended, the work waits. -/
def State.meanwhile (s : State) (work : State → State) : State :=
  match s.setAside with
  | none => s
  | some t => if s.fls.active.isSome then (work t).resumeInner else work t

/-- SUSPEND the active erase (R596). -/
def execSuspend (s : State) : Host.Outcome State Fault Refusal :=
  .next (match s.fls.active with
    | none => s
    | some a =>
      match s.setAside with
      | none => (s.put R.FLS_STAT_suspend_refused 1).flsLast 3 7 a.bankB a.sector a.word
      | some t => t.flsLast 3 0 a.bankB a.sector a.word)

/-- RESUME the innermost suspended operation (R597). -/
def execResume (s : State) : Host.Outcome State Fault Refusal := .next s.resumeInner

/-- BLANK_CHECK one sector (R589): of a sector with unpredictable words, the answer is free. -/
def execBlankCheck (bank : Bool) (sector : BitVec 8) (s : State) : Host.Outcome State Fault Refusal :=
  let lo := sectorWord bank sector.toNat
  .next (if s.fls.active.isSome then s
    else if s.fls.sectorBlank bank sector.toNat then s.flsLast 5 0 bank sector.toNat 0
    else if (List.range 256).any (fun i => s.fls.word (lo + i) != blankWord && !s.fls.isTorn (lo + i)) then
      s.flsLast 5 1 bank sector.toNat 0
    else s.free.2.flsLast 5 (s.free.1 % 2) bank sector.toNat 0)

/-- VAUX has left its range: every erase is abandoned (R598). -/
def State.abandonErases (s : State) : State :=
  let ops := (match s.fls.active with | some a => [a] | none => []) ++ s.fls.suspended
  if ops.isEmpty then s
  else
    let s1 := ops.foldl (fun t a => if a.op = 2 then
      let t1 := t.sectorTorn a.bankB a.sector
      { t1 with fls := { t1.fls with unmatched := (a.bankB, a.sector) :: t1.fls.unmatched } } else t) s
    let s2 := { s1 with fls := { s1.fls with active := none, suspended := [] } }
    match ops with
    | a :: _ => ((s2.put R.FLS_STAT_abandoned 1).flsLast (if a.op = 2 then 2 else 6) 8 a.bankB a.sector 0).flsShow
    | [] => s2

/-- Every unmatched BEGIN's sector is erased again, bracketed (R606), once R521 permits an erase. -/
def State.recoverErases (s : State) : State :=
  match s.fls.unmatched with
  | [] => { s with fls := { s.fls with recoverDue := false } }
  | u :: _ =>
    if !s.eraseAllowed then
      let t := s.eraseRefused 2 u.1 u.2
      { t with fls := { t.fls with recoverDue := true } }
    else
      let t := s.fls.unmatched.foldl (fun t v => t.eraseNow v.1 v.2) s
      { t with fls := { t.fls with recoverDue := false } }

/-! ### Protection (R600–R603) -/

def protWord (level count : Nat) : Nat := 0x50 + 2 ^ 8 * level + 2 ^ 32 * count

/-- A valid protection word's level (R601). -/
def protLevelOf (w : Nat) : Option Nat :=
  if bits w 0 8 = 0x50 ∧ bits w 10 22 = 0 ∧ bits w 8 2 ≤ 2 then some (bits w 8 2) else none

/-- The level in force: that of the last valid word of bank B sector 2, or 0. -/
def FlsSt.protLevel (f : FlsSt) : Nat :=
  ((List.range 256).map (fun i => f.word (sectorWord true 2 + i))).foldl
    (fun l w => match protLevelOf w with | some n => n | none => l) 0

def FlsSt.protWords (f : FlsSt) : Nat :=
  ((List.range 256).filter (fun i => f.word (sectorWord true 2 + i) != blankWord)).length

/-- OPTION (R601): a protection word of a higher level, or PROTECTED. -/
def State.option (s : State) (level : Nat) : State :=
  let n := s.fls.protWords
  if s.fls.protLevel < level ∧ level ≤ 2 ∧ n < 256 then
    let s1 := s.flashSet (sectorWord true 2 + n) (protWord level (n + 1))
    (s1.put R.FLS_PROT_level level).flsLast 7 0 true 2 n
  else (s.put R.FLS_STAT_protected 1).flsLast 7 5 true 2 n

/-- OPTION, a flash command (R601). -/
def execOption (level : BitVec 2) (s : State) : Host.Outcome State Fault Refusal :=
  .next (if s.fls.active.isSome || !s.programAllowed then s else s.option level.toNat)

/-- A write of FLS_PROT_REQ (R601, R602): a request to lower the level that is not served ends PROTECTED, whatever its key; any
other with a wrong key is ignored. A raise during an erase suspends it (R596). -/
def State.protRequest (s : State) (level key : Nat) : State :=
  if level < s.fls.protLevel then
    if key = 0xF1A5 ∧ level = 0 ∧ s.fls.protLevel = 1 ∧ s.isBench ∧ s.pwr.vauxIn then
      -- a suspended erase is abandoned (R615)
      let s1 := s.abandonErases.logSwitch.logAppend 0x4D false 0
      ({ s1 with fls := { s1.fls with massPart := some 0, active := some ⟨3, false, 0, 0, 0, 0⟩ } }).flsShow
    else (s.put R.FLS_STAT_protected 1).flsLast 6 5 false 0 0
  else if key ≠ 0xF1A5 then s
  else s.meanwhile (fun t => t.option level)

/-- A write of FLS_PROT_REQ with a higher level (R601). -/
def execProtRaise (level : BitVec 2) (key : BitVec 16) (s : State) : Host.Outcome State Fault Refusal :=
  .next (s.protRequest level.toNat key.toNat)

/-- A write of FLS_PROT_REQ with level 0 (R602). -/
def execProtLower (key : BitVec 16) (s : State) : Host.Outcome State Fault Refusal :=
  .next (s.protRequest 0 key.toNat)

/-! ### Host reads and corrections -/

/-- The counts of a read of `corrected` corrected and `bad` uncorrectable words in one line of a sector (R593, R595). -/
def State.eccReport (s : State) (bankB : Bool) (sector corrected bad : Nat) : State :=
  let s1 := (s.count R.FLS_ECC_CNT_corrected corrected).count R.FLS_ECC_CNT_uncorrectable bad
  let s2 := if s1.get R.FLS_ECC_CFG_warn ≤ corrected then
      s1.puts [(R.FLS_STAT_ecc_warn, 1), (R.FLS_ECC_LAST_sector, sector), (R.FLS_ECC_LAST_bank, b2n bankB),
               (R.FLS_ECC_LAST_count, corrected)]
    else s1
  let s3 := if 0 < bad then s2.put R.FLS_STAT_ecc_fail 1 else s2
  if (s1.get R.FLS_ECC_CFG_warn ≤ corrected ∨ 0 < bad) ∧ bankB = true ∧ 3 ≤ sector then
    { s3 with fls := { s3.fls with checkpointDue := true } }
  else s3

/-- A write of FLS_HADDR starts a host read of one word (R599, R600). An address that is not a multiple of 8 is not served. -/
def State.hostRead (s : State) (addr : Nat) : State :=
  let ix := addr / 8
  let bankB := decide (65536 ≤ ix)
  let sector := ix % 65536 / 256
  let s0 := s.puts [(R.FLS_HADDR_addr, addr), (R.FLS_HDATA_LO, 0), (R.FLS_HDATA_HI, 0), (R.FLS_HSTAT_valid, 0),
    (R.FLS_HSTAT_retry, 0), (R.FLS_HSTAT_denied, 0), (R.FLS_HSTAT_corrected, 0), (R.FLS_HSTAT_uncorrectable, 0)]
  let busy := (match s.fls.active with | some a => a.op == 3 || a.bankB == bankB | none => false) ||
    s.fls.suspended.any (fun a => a.bankB == bankB && a.sector == sector)
  if addr % 8 ≠ 0 then s0
  else if !bankB ∧ 1 ≤ s.fls.protLevel then s0.put R.FLS_HSTAT_denied 1
  else if busy then s0.put R.FLS_HSTAT_retry 1
  else
    let p := s0.flashRead ix
    let done := fun (t : State) => t.puts [(R.FLS_HDATA_LO, p.1), (R.FLS_HDATA_HI, p.1 / 2 ^ 32), (R.FLS_HSTAT_valid, 1)]
    if s0.fls.isTorn ix then
      let q := p.2.free
      ((done q.2).puts [(R.FLS_HSTAT_corrected, q.1 % 2), (R.FLS_HSTAT_uncorrectable, q.1 / 2 % 2)]).eccReport bankB sector
        (q.1 % 2) (q.1 / 2 % 2)
    else done p.2

/-- FLS_HOST_READ (R599). -/
def execFlsHostRead (addr : BitVec 20) (s : State) : Host.Outcome State Fault Refusal := .next (s.hostRead addr.toNat)

/-- A ring sector of the wear window, from tail to head (R607). -/
def State.ringLive (s : State) (n : Nat) : Bool :=
  let tail := s.get R.FLS_RING_tail
  let head := s.get R.FLS_RING_head
  decide (3 ≤ n) && !s.fls.retired.contains n &&
  (if tail ≤ head then decide (tail ≤ n ∧ n ≤ head) else decide (tail ≤ n ∨ n ≤ head))

/-- The sectors a patrol reads (R594): the live ring, the log pair, sector 2 and each area of bank A (R525) whose content passed its
last check. One being erased is skipped (R615). -/
def State.patrolled (s : State) (bankB : Bool) (n : Nat) : Bool :=
  !s.fls.erasing.contains (bankB, n) &&
  (if bankB then decide (n ≤ 2) || s.ringLive n
   else s.isl.areaOk.getLsbD (if n < 48 then 0 else if n < 96 then 1 else if n < 160 then 2 else 3) && decide (n < 192))

/-- PATROL (R593–R595): in AUX, with no command active; `hits` are the lines read with corrections. -/
def execPatrol (hits : List PatrolHit) (s : State) : Host.Outcome State Fault Refusal :=
  .next (if s.isl.mode != .aux || s.fls.active.isSome then s
    else hits.foldl (fun t h => if s.patrolled h.bankB h.sector.toNat then
      t.eccReport h.bankB h.sector.toNat (min 8 h.corrected) (min 8 h.uncorrectable) else t) s)

/-- A write of 1 to FLS_CTRL.clr_counts (R617). -/
def State.flsClear (s : State) : State :=
  s.puts [(R.FLS_ECC_CNT_corrected, 0), (R.FLS_ECC_CNT_uncorrectable, 0), (R.FLS_CNT_commits, 0),
    (R.FLS_CNT_recoveries, 0), (R.FLS_CNT2_suspends, 0), (R.FLS_CNT2_deferred, 0)]

def execFlsClrCounts (s : State) : Host.Outcome State Fault Refusal := .next s.flsClear

end Sys2Proof.Machine
end

