-- ==== Sys2Proof/Machine/Auth.lean ====
section
/-!
DEFINITION. Sys2Proof/Machine/Auth.lean: what every signed container goes through (R178, R179, phases 3 and 4 of R190, R538–R540),
the shipped interface levels (R21) and the compatibility of a pair (R19, R125).
-/

namespace Sys2Proof.Machine

/-- The boot ROM's row of R21. -/
def bootLevels : Levels := ⟨3, none, some (16, 31), none, some (32, 47), none, none⟩

/-- The boot ROM of stepping A0 (R2). -/
def bootLevelsA0 : Levels := ⟨2, none, some (0, 15), none, some (16, 31), none, none⟩

/-- The fabric protocol level and range of R21. -/
def fabricLevel : Nat := 2

/-- A seal counter's value: its largest entry, or 0 (R540). -/
def IslSt.seal (i : IslSt) (slot : Fin 4) : Nat := i.seals[slot].foldl max 0

def slot4 (n : Nat) : Fin 4 := Fin.ofNat 4 n

/-- The key a provisioned key slot holds: one written here, or the factory's (R538). -/
def IslSt.key (i : IslSt) (slot : Nat) : Nat :=
  match SMap.lookup i.keys slot with | some k => k | none => Config.slotKey slot

def IslSt.signerOk (i : IslSt) (slot : Nat) (key : List Byte) : Bool :=
  i.signProv.getLsbD slot && !i.signRev.getLsbD slot && SMap.get 0 i.signers slot == Config.sha384 key

/-- Phases 3 and 4 of R190 on a container: the decrypted payload, or the error. -/
def State.authenticate (s : State) (bs : List Byte) (h : Header) : Except LoadErr (List Byte) :=
  if !s.isl.signerOk h.signerSlot (signatureKey bs) then .error ⟨0x07, 3, 0xFF⟩
  else if !(signaturePadOk bs && Config.ecdsaVerify (signatureKey bs) (Config.sha384 (signedPart bs)) (signatureValue bs)) then
    .error ⟨0x08, 3, 0xFF⟩
  else if h.secVersion < s.isl.seal (slot4 h.signerSlot) then .error ⟨0x09, 3, 0xFF⟩
  else if !(s.isl.keyProv.getLsbD h.keySlot && !s.isl.keyRev.getLsbD h.keySlot) then .error ⟨0x0A, 4, 0xFF⟩
  else match Config.gcmOpen (s.isl.key h.keySlot) h.iv (bs.take h.payloadOffset)
      ((bs.drop h.payloadOffset).take h.payloadLen) ((bs.drop (h.payloadOffset + h.payloadLen)).take 16) with
    | some p => .ok p
    | none => .error ⟨0x0B, 4, 0xFF⟩

/-- Bank A areas of R525: island copies 0 and 1, stage-2, patch: first sector and length in bytes. -/
def fwArea : Nat → Nat × Nat
  | 0 => (0, 98304)
  | 1 => (48, 98304)
  | 2 => (96, 131072)
  | _ => (160, 65536)

/-- The container in a bank A area, as long as its header says, within the area. -/
def State.fwBytes (s : State) (area : Nat) : List Byte :=
  let a := fwArea area
  let len := ofLE (s.flashTake (256 * a.1 + 1) 4)
  s.flashTake (256 * a.1) (min len a.2)

/-- An area whose every word is blank holds nothing. -/
def State.fwEmpty (s : State) (area : Nat) : Bool :=
  s.fls.word (256 * (fwArea area).1) == blankWord && !s.fls.isTorn (256 * (fwArea area).1)

/-- Island firmware (R526): phases 2 to 5. -/
def State.checkIslandFw (s : State) (bs : List Byte) : Except LoadErr (Nat × Levels) :=
  match checkFwHeader bs 0x49585754 98304 (fun l => l.patch.isNone && l.island.isNone && l.plate.isNone) with
  | .error e => .error e
  | .ok (h, secs) => match s.authenticate bs h with
    | .error e => .error e
    | .ok _ => if secs.map Section.type = [0x201] then .ok (h.id, h.levels) else .error ⟨0x0C, 5, 0⟩

/-- Stage-2 boot firmware (R529): phases 2 to 4; the spec gives its sections no types. -/
def State.checkStage2 (s : State) (bs : List Byte) : Except LoadErr Levels :=
  match checkFwHeader bs 0x53585754 131072 (fun l => l.stage2.isNone) with
  | .error e => .error e
  | .ok (h, _) => match s.authenticate bs h with
    | .error e => .error e
    | .ok _ => .ok h.levels

/-- The microcode patch (R362–R365): phases 2 to 5. -/
def State.checkPatch (s : State) (bs : List Byte) : Except LoadErr Patch :=
  match checkFwHeader bs 0x4D585754 65536 (fun l => l.patch.isNone) with
  | .error e => .error e
  | .ok (h, secs) => match s.authenticate bs h with
    | .error e => .error e
    | .ok p => parsePatch h secs p (Config.sha384 bs)

/-- R125: the checker of a pair, none when the pair is compatible: true when the first image's range excludes the second. -/
def pairBad (aRange bRange : Option (Nat × Nat)) (aLevel bLevel : Nat) : Option Bool :=
  if !inRange aRange bLevel then some true else if !inRange bRange aLevel then some false else none

end Sys2Proof.Machine
end

