-- ==== Sys2Proof/Machine/Loader.lean ====
section
/-!
DEFINITION. Sys2Proof/Machine/Loader.lean: the plate-image loader (R189–R204): its phases, the checks that need the package's state,
interface levels (R125, R194, R195), residency (R192, R252, R268, R335), quiesce, unloading and release (R196–R200).
-/

namespace Sys2Proof.Machine

/-! ### Interface levels (R19, R125, R194) -/

/-- A firmware image that runs: its code in GEN_HOLD_CAUSE and its levels. -/
def State.firmware (s : State) : Nat → Option Levels
  | 0 => some (if s.a0 then bootLevelsA0 else bootLevels)
  | 1 => s.pwr.stage2
  | 2 => s.patch.map Patch.levels
  | _ => s.isl.fw.map FwCopy.levels

/-- The range an image declares for a partner. -/
def Levels.rangeFor (l : Levels) : Nat → Option (Nat × Nat)
  | 0 => l.boot
  | 1 => l.stage2
  | 2 => l.patch
  | 3 => l.island
  | _ => l.plate

/-- An incompatible pair of images `a` and `b`, as checker, checked and their levels (R125). -/
def badPair (a : Nat) (la : Levels) (b : Nat) (lb : Levels) : Option (Nat × Nat × Nat × Nat) :=
  (pairBad (la.rangeFor b) (lb.rangeFor a) la.own lb.own).map (fun first =>
    if first then (a, b, la.own, lb.own) else (b, a, lb.own, la.own))

/-- The first incompatible firmware pair, in the order of R125; a pair with an image that does not run is skipped. -/
def State.firmwarePair (s : State) : Option (Nat × Nat × Nat × Nat) :=
  [(0, 3), (0, 1), (1, 2), (1, 3), (2, 0), (2, 3)].findSome? (fun p =>
    match s.firmware p.1, s.firmware p.2 with
    | some a, some b => badPair p.1 a p.2 b
    | _, _ => none)

/-- The first incompatible pair of a plate image (R194). -/
def State.imagePair (s : State) (l : Levels) : Option (Nat × Nat × Nat × Nat) :=
  [0, 1, 2, 3].findSome? (fun n => (s.firmware n).bind (fun f => badPair 4 l n f))

/-- Held images with their pairs, the lowest resident slot first; one that waits for its mark is last (R194, R195). -/
def State.heldImages (s : State) : List (Nat × (Nat × Nat × Nat × Nat)) :=
  s.img.resident.filterMap (fun x => x.2.pair.map (fun p => (x.2.image.id, p))) ++
  (match s.img.arriving with
   | some l => (match l.image, l.pair with | some i, some p => [(i.id, p)] | _, _ => [])
   | none => [])

/-- Bit 0 of the hold causes after image `id` has gone, where it was held (R195). -/
def State.levelRecheck (s : State) (id : Nat) (held : Bool) : State :=
  let plate := s.get R.GEN_HOLD_CAUSE_checker == 4 || s.get R.GEN_HOLD_CAUSE_checked == 4
  if !held then s
  else match s.heldImages with
    | [] => if plate && s.firmwarePair.isNone then { s.clearHold 0 with img := { (s.clearHold 0).img with levelBy := none } } else s
    | x :: _ =>
      if s.img.levelBy = some id then
        { s.puts [(R.GEN_HOLD_CAUSE_checker, x.2.1), (R.GEN_HOLD_CAUSE_checked, x.2.2.1),
            (R.GEN_HOLD_LEVELS_checker_level, x.2.2.2.1), (R.GEN_HOLD_LEVELS_checked_level, x.2.2.2.2)] with
          img := { s.img with levelBy := some x.1 } }
      else s

/-! ### Results -/

/-- A result is posted (IMG_RESULT, IMG_EVT): the load is over and its staging cleared (R193). -/
def State.imgPost (s : State) (code phase sect : Nat) (mismatch : Bool) : State :=
  let s1 := { s with img := { s.img with load := none } }
  (s1.puts [(R.IMG_RESULT_code, code), (R.IMG_RESULT_phase, phase), (R.IMG_RESULT_section, sect),
    (R.IMG_RESULT_level_mismatch, b2n mismatch)]).raiseImg (if code = 0 then 0 else 1)

/-- A load has failed (R204). -/
def State.imgFail (s : State) (e : LoadErr) : State := (s.count R.IMG_COUNT_errors 1).imgPost e.code e.phase e.sect false

/-- An image that was to be replaced is restored, disarmed (R200). -/
def State.imgRestore (s : State) (slot : Option Nat) : State :=
  match slot.bind s.resImage, slot with
  | some i, some k => if i.leaving then s.setResImage k { i with leaving := false, armed := false } else s
  | _, _ => s

/-- The load in progress ends ABORTED where its phase passes `p` (R200). -/
def State.imgAbortIn (s : State) (p : Nat → Bool) : State :=
  match s.img.load with
  | some l => if p l.phase then (s.imgRestore l.slot).imgFail ⟨0x1E, l.phase, 0xFF⟩ else s
  | none => s

/-- ABORTED, in phases 1 to 8 (R200). R200's table does not list an abort of an unload, phase 10: it is ignored as in phase 9, DESIGN
CHOICE (log 129). -/
def State.imgAbort (s : State) : State := s.imgAbortIn (fun p => decide (1 ≤ p ∧ p ≤ 8))

/-! ### The checks of phases 1, 2 and 6 (R190) -/

/-- IMG_CTX names a resident context of the header's tenant and job; in BENCH context 0 and tenant 0 (R203). -/
def State.imgContextOk (s : State) (ctx : Nat) (h : Header) : Bool :=
  s.ctxResident ctx && s.ctxPair ctx == (h.tenantRaw, h.job) && (!s.isBench || (ctx == 0 && h.tenantRaw == 0))

/-- The image a load of scope 1 replaces. -/
def State.replaceTarget (s : State) (ctx id : Nat) : Option (Nat × ResImage) :=
  s.img.resident.find? (fun x => x.2.image.id == id && x.2.ctx == ctx && !x.2.parked && !x.2.leaving)

/-- Two ranges of a store meet. -/
def rangesMeet (a n b m : Nat) : Bool := decide (0 < n ∧ 0 < m ∧ a < b + m ∧ b < a + n)

/-- Index of the section of this type and target, or 0xFF. -/
def sectionOf (secs : List Section) (type target : Nat) : Nat :=
  (secs.zipIdx.find? (fun x => x.1.type == type && x.1.target == target)).elim 0xFF Prod.snd

/-- Enabled entries of an image that claim a resource, with their sequencers. -/
def PlateImage.claims (i : PlateImage) : List (Nat × SlotEntry) :=
  i.slots.flatMap (fun x => (x.2.filter (fun e => e.resourceKey.isSome)).map (fun e => (x.1, e)))

/-- Every element with the elements before it. -/
def withEarlier {α : Type} : List α → List α → List (α × List α)
  | _, [] => []
  | seen, a :: l => (a, seen) :: withEarlier (seen ++ [a]) l

/-- The sequencer of an entry that overlaps one of its image or of another (R191). -/
def overlapAt (mine others : List (Nat × SlotEntry)) : Option Nat :=
  (withEarlier [] mine).findSome? (fun x =>
    let clash := fun (y : Nat × SlotEntry) (sameImage : Bool) =>
      decide (y.2.resourceKey = x.1.2.resourceKey) && y.2.meets x.1.2 && (!sameImage || y.2.frameOffset == x.1.2.frameOffset)
    if x.2.any (fun y => clash y true) || others.any (fun y => clash y false) then some x.1.1 else none)

/-- A tile the load may not name (R190, R234, R321): owned by another image than `old`, being erased for another, faulty or worn. -/
def State.tileTaken (s : State) (old : Option Nat) (t : Nat) : Bool :=
  let x := s.tile t
  x.faulty || x.worn || x.erasing || (match x.owner with | some o => some o.1 != old | none => false)

/-- The tile's remaps are those the image states (R188, R319). -/
def State.remapsMatch (s : State) (i : PlateImage) (t : Nat) : Bool :=
  let want := (i.defects.find? (fun d => d.1 == t)).elim [] Prod.snd
  let have' := (s.tile t).spares.map (fun p => (p.2, p.1))
  want.all have'.contains && have'.all want.contains

/-- Phase 6 (R190): the slot of the image replaced, or the error. -/
def State.conflicts (s : State) (ctx : Nat) (i : PlateImage) (secs : List Section) : Except LoadErr (Option Nat) :=
  let old := if i.replacing then s.replaceTarget ctx i.replaces else none
  let oldSlot := old.map Prod.fst
  let goingSlot := s.img.arriving.bind Load.slot
  let others := (s.img.resident.filter (fun x => some x.1 != oldSlot && some x.1 != goingSlot)).map (fun x => x.2.image) ++
    (s.img.arriving.bind Load.image).toList
  let tiles := i.plates.flatMap (fun p => p.tiles.map (fun r => (p.num, r.tile)))
  let plateSec (p : Nat) : Nat := sectionOf secs 1 p
  if others.any (fun x => x.id == i.id) then .error ⟨0x14, 6, 0xFF⟩
  else if i.replacing && old.isNone then .error ⟨0x15, 6, 0xFF⟩
  else if !i.replacing && decide (64 ≤ others.length) then .error ⟨0x16, 6, 0xFF⟩
  else match i.plates.find? (fun p => others.any (fun x => (x.plate p.num).isSome)) with
  | some p => .error ⟨0x17, 6, plateSec p.num⟩
  | none =>
  match tiles.find? (fun x => s.tileTaken oldSlot x.2 || others.any (fun y => y.plates.any (fun p => p.tiles.any (fun r => r.tile == x.2)))) with
  | some x => .error ⟨0x18, 6, plateSec x.1⟩
  | none =>
  if others.any (fun x => rangesMeet i.microBase i.micro.length x.microBase x.micro.length ||
      rangesMeet i.nanoBase i.nano.length x.nanoBase x.nano.length) then .error ⟨0x19, 6, 0xFF⟩
  else match i.slots.find? (fun x => decide (256 < x.2.length + (others.map (fun o => (o.entriesOn x.1).length)).sum)) with
  | some x => .error ⟨0x1A, 6, sectionOf secs 5 x.1⟩
  | none =>
  match overlapAt i.claims (others.flatMap PlateImage.claims) with
  | some q => .error ⟨0x1B, 6, sectionOf secs 5 q⟩
  | none =>
  match tiles.find? (fun x => !s.remapsMatch i x.2) with
  | some x => .error ⟨0x1C, 6, sectionOf secs 11 x.2⟩
  | none => if s.blockUp 6 && s.blockUp 5 && s.blockUp 7 && s.blockUp 8 then .ok oldSlot else .error ⟨0x1D, 6, 0xFF⟩

/-- Phases 1 to 7 (R190): the image, the slot it replaces, its first incompatible pair. -/
def State.imgChecks (s : State) (l : Load) : Except LoadErr (PlateImage × Option Nat × Option (Nat × Nat × Nat × Nat)) :=
  if l.src % 4096 ≠ 0 ∨ dataEnd < l.src + l.len ∨ l.len < 456 ∨ 4194304 < l.len then .error ⟨0x01, 1, 0xFF⟩
  else match checkHeader l.bytes l.len with
  | .error e => .error e
  | .ok (h, secs) =>
  if !s.imgContextOk l.ctx h then .error ⟨0x06, 2, 0xFF⟩
  else match s.authenticate l.bytes h with
  | .error e => .error e
  | .ok payload =>
  match parsePayload h secs payload (Config.sha384 l.bytes) with
  | .error e => .error e
  | .ok i =>
  match s.conflicts l.ctx i secs with
  | .error e => .error e
  | .ok old => if inRange i.levels.fabric fabricLevel then .ok (i, old, s.imagePair i.levels) else .error ⟨0x13, 7, 0xFF⟩

/-! ### Commands -/

/-- A write of IMG_CTRL.start (R189, R200). -/
def State.imgBusyOrDown (s : State) : Bool := s.img.load.isSome || !s.running

def State.imgStart (s : State) : State :=
  if s.imgBusyOrDown then s.raiseImg 2
  else
    let src := s.get R.IMG_SRC_LO + 2 ^ 32 * s.get R.IMG_SRC_HI
    let len := s.get R.IMG_LEN_bytes
    let l : Load := { phase := 1, ctx := s.get R.IMG_CTX_context, src := src, len := len,
                      bytes := if src + len ≤ dataEnd ∧ len ≤ 4194304 then s.readMem src len else [],
                      image := none, slot := none, quiesce := none, pair := none }
    { s with img := { s.img with load := some l } }

/-- IMG_START. -/
def execImgStart (s : State) : Host.Outcome State Fault Refusal := .next (if s.blockUp 4 then s.imgStart else s)

/-- IMG_CHECKS_DONE: on to quiesce for a replacement, to install otherwise. -/
def execImgChecksDone (s : State) : Host.Outcome State Fault Refusal :=
  .next (match s.img.load with
    | none => s
    | some l =>
      if 8 ≤ l.phase then s
      else match s.imgChecks l with
        | .error e => s.imgFail e
        | .ok (i, old, pair) =>
          let l1 : Load := { l with phase := if i.replacing then 8 else 9, image := some i, slot := old, pair := pair }
          { s with img := { s.img with load := some l1 } })

/-- A write of IMG_CTRL.unload (R199, R200). -/
def State.imgUnload (s : State) : State :=
  if s.imgBusyOrDown then s.raiseImg 2
  else match s.replaceTarget (s.get R.IMG_CTX_context) (s.get R.IMG_ID_LO + 2 ^ 32 * s.get R.IMG_ID_HI) with
    | none => s.imgPost 0x15 10 0xFF false
    | some x =>
      let l : Load := { phase := 10, ctx := x.2.ctx, src := 0, len := 0, bytes := [], image := none, slot := some x.1,
                        quiesce := none, pair := none }
      { s with img := { s.img with load := some l } }

/-- IMG_UNLOAD. -/
def execImgUnload (s : State) : Host.Outcome State Fault Refusal := .next (if s.blockUp 4 then s.imgUnload else s)

/-- IMG_ABORT. -/
def execImgAbort (s : State) : Host.Outcome State Fault Refusal := .next (if s.blockUp 4 then s.imgAbort else s)

/-- A write of IMG_CTRL (R200). -/
def State.imgCtrl (s : State) (start unload abort : Bool) : State :=
  if 2 ≤ b2n start + b2n unload + b2n abort then s.raiseImg 2
  else if start then s.imgStart else if unload then s.imgUnload else if abort then s.imgAbort else s

/-- The loader over one tick: IMG_STAT.phase moves on from a phase whose checks pass. The spec gives no instant for that, so a free
value decides it (log 130). -/
def State.imgTick (s : State) : State :=
  match s.img.load with
  | none => s
  | some l =>
    if l.phase < 1 ∨ 7 ≤ l.phase then s
    else
      let s1 := { s with freeIx := s.freeIx + 1 }
      let passed := match s.imgChecks l with | .ok _ => true | .error e => decide (l.phase < e.phase)
      if Config.free s.freeIx % 2 = 1 ∧ passed = true then { s1 with img := { s1.img with load := some { l with phase := l.phase + 1 } } } else s1

/-! ### Quiesce, removal and release (R196–R199) -/

/-- Descriptors that wait and name one of these plates complete FAULTED with PLATE_ABSENT. -/
def State.plateAbsent (s : State) (plates : List Nat) : State :=
  (s.descs.filter (fun d => usesPlate d.desc.opcode && decide (d.phase = .waiting) && plates.contains d.desc.plate)).foldl
    (fun u d => u.finish d (.faulted 1 d.desc.plate)) s

/-- Work granted on these plates and not yet started waits for another pass. -/
def State.ungrant (s : State) (plates : List Nat) : State :=
  { s with descs := s.descs.map (fun d => match d.phase with
      | .granted .. => if usesPlate d.desc.opcode && d.dispatched == 0 && plates.contains d.desc.plate then d.waitAgain else d
      | _ => d) }

/-- Quiesce mark of a resident image (R196, R389). -/
def State.quiesceImage (s : State) (slot : Nat) : State :=
  match s.resImage slot with
  | none => s
  | some i =>
    let s1 := (s.setResImage slot { i with leaving := true, armed := false, disarming := false }).ungrant (i.image.plates.map Plate.num)
    (s1.descs.filter (fun d => d.desc.opcode == 4 && d.ctx == i.ctx && d.desc.imageId == i.image.id)).foldl (fun u d => u.settle d) s1

/-- A routine serves the image. -/
def State.imageWorking (s : State) (slot : Nat) : Bool :=
  s.seqs.toList.any (fun q => match q.routine with | some r => decide (r.image = some slot) | none => false)

/-- The due bit of a plate that is no longer in use. -/
def State.clearDue (s : State) (p : Nat) : State := s.clrBit (if p < 32 then R.TILE_DUE0 else R.TILE_DUE1) (p % 32)

/-- A resident image goes: plates released, tiles erased, stores, entries and digest dropped (R199). -/
def State.dropImage (s : State) (slot : Nat) : State :=
  match s.resImage slot with
  | none => s
  | some i =>
    let s1 := (i.image.plates.flatMap Plate.tiles).foldl (fun u r => u.releaseTile r.tile) s
    let s2 := { s1 with img := { s1.img with resident := SMap.erase s1.img.resident slot,
                                             unloads := s1.img.unloads.filter (fun x => x.1 != slot) } }
    let plates := i.image.plates.map Plate.num
    (plates.foldl State.clearDue s2).plateAbsent plates

/-- An unloaded image, with the level hold judged without it (R195). -/
def State.releaseImage (s : State) (slot : Nat) : State :=
  match s.resImage slot with
  | none => s
  | some i => (s.dropImage slot).levelRecheck i.image.id i.pair.isSome

/-! ### Residency (R192, R252, R268, R335) -/

/-- The tile keeps its conductances across a replacement (R198). -/
def keptTile (old new : PlateImage) (p : Plate) (r : TileRec) : Bool :=
  match new.plate p.num with
  | none => false
  | some n =>
    n.keep && n.rowGroup == p.rowGroup && n.int8 == p.int8 &&
    n.tiles.any (fun x => x.tile == r.tile && x.row == r.row && x.col == r.col && x.slice == r.slice) &&
    (old.plate p.num).isSome

/-- A tile of a plate that becomes resident: its scale file, output shifts, shifts, counters and banks (R252, R268, R301, R335); one
that is not kept starts with every target at 0 (R304). A kept tile's group under way goes on (R265). -/
def State.ownTile (s : State) (slot : Nat) (i : PlateImage) (p : Plate) (t : Nat) (kept : Bool) : State :=
  let base := 0x1000000 + 0x10000 * t
  let body := (i.scales.find? (fun x => x.1 == t)).elim [] Prod.snd
  let regs1 := ((s.regs.resetRange (base + 0x5800) (base + 0x6400)).resetRange (base + 0x8000) (base + 0xA80C)).resetRange (base + 0xC000) (base + 0x10000)
  let regs2 := if kept then regs1 else (regs1.resetRange (base + 0xB000) (base + 0xB020)).resetRange 0x100118 0x10011C
  let s1 := ({ s with regs := regs2 }).puts
    ((List.range 1024).map (fun w => (R.TILE_SCALE t w, leAt body (4 * w) 4)) ++
     (List.range 512).flatMap (fun c => [(R.TILE_OSHIFT_shift t c, leAt body (4096 + c) 1), (R.TILE_AE_cur_shift t c, p.adcShift),
       (R.TILE_AE_next_shift t c, p.adcShift)]))
  let x := s1.tile t
  if kept then s1.setTile t { x with owner := some (slot, p.num) }
  else (s1.clearShadow t).setTile t { x.clearFog with owner := some (slot, p.num), burst := none, refixed := false, ageAt := none }

/-- The lowest slot with no resident image. -/
def State.freeImgSlot (s : State) : Nat := ((List.range 64).find? (fun k => (s.resImage k).isNone)).getD 0

/-- The arriving image becomes resident at a frame mark. -/
def State.imgResident (s : State) (l : Load) (i : PlateImage) : State :=
  let slot := l.slot.getD s.freeImgSlot
  let old := s.resImage slot
  let oldTiles : List (Plate × TileRec) := match old with
    | some o => o.image.plates.flatMap (fun p => p.tiles.map (fun r => (p, r)))
    | none => []
  let keeps : List Nat := match old with
    | some o => (oldTiles.filter (fun x => keptTile o.image i x.1 x.2)).map (fun x => x.2.tile)
    | none => []
  let oldPlates := oldTiles.map (fun x => x.1.num)
  let s1 := (oldTiles.filter (fun x => !keeps.contains x.2.tile)).foldl (fun u x => u.releaseTile x.2.tile) s
  let s2 := { s1 with img := { s1.img with arriving := none } }
  let s3 := s2.setResImage slot { image := i, ctx := l.ctx, parked := false, leaving := false, armed := false, epoch := 0, param := 0,
                                  disarming := false, pair := l.pair }
  let s4 := i.plates.foldl (fun u p => (p.tiles.foldl (fun v r => v.ownTile slot i p r.tile (keeps.contains r.tile)) u).seedPlate p.num)
    ((oldPlates.foldl State.clearDue s3))
  let s5 := i.plates.foldl State.noteDue s4
  let s6 := s5.plateAbsent (oldPlates.filter (fun p => (i.plate p).isNone))
  match old with
  | some o => s6.levelRecheck o.image.id o.pair.isSome
  | none => s6

/-- An incompatible image holds the package; the pair recorded is its own where none was (R125, R194). -/
def State.imgHeld (s : State) (id : Nat) (p : Nat × Nat × Nat × Nat) : State :=
  let s1 := if bitAt (s.get R.GEN_HOLD_CAUSE_causes) 0 then s else { s with img := { s.img with levelBy := some id } }
  (s1.raiseLevel p).raiseImg 3

/-- IMG_INSTALL_DONE: the result is posted, and a level mismatch holds the package (R192, R194). An image whose context is being
released is unloaded with the context's others (R199), before any mark makes it resident. -/
def execImgInstallDone (s : State) : Host.Outcome State Fault Refusal :=
  .next (match s.img.load with
    | none => s
    | some l => match l.image with
      | none => s
      | some i =>
        if l.phase ≠ 9 ∨ s.img.arriving.isSome = true then s
        else
          let s1 := s.puts [(R.IMG_ID_LO, i.id), (R.IMG_ID_HI, i.id / 2 ^ 32)]
          if s.ctxState l.ctx = 4 then s1.imgPost 0 0 0 l.pair.isSome
          else
            let s2 := { s1 with img := { s1.img with arriving := some { l with bytes := [] } } }
            let s3 := match l.pair with
              | none => s2
              | some p => s2.imgHeld i.id p
            s3.imgPost 0 0 0 l.pair.isSome)

/-- IMG_QUIESCE_DONE: the old work has completed, or mark Q + 1 has come (R196). -/
def execImgQuiesceDone (s : State) : Host.Outcome State Fault Refusal :=
  .next (match s.img.load with
    | none => s
    | some l => match l.quiesce, l.slot with
      | some q, some slot =>
        if s.imageWorking slot && decide (s.frame ≤ q) then s
        else if l.phase = 10 then (s.releaseImage slot).imgPost 0 0 0 false
        else if l.phase = 8 then { s with img := { s.img with load := some { l with phase := 9 } } }
        else s
      | _, _ => s)

/-- The loader at a frame mark: an installed image becomes resident; quiesce begins. -/
def State.imgMark (s : State) : State :=
  let s1 := match s.img.arriving with
    | some l => (match l.image with | some i => s.imgResident l i | none => s)
    | none => s
  let s2 := match s1.img.load with
    | some l =>
      if (l.phase = 8 ∨ l.phase = 10) ∧ l.quiesce.isNone = true then
        let s3 := { s1 with img := { s1.img with load := some { l with quiesce := some s1.frame } } }
        s3.quiesceImage (l.slot.getD 64)
      else s1
    | none => s1
  let fresh := (s2.img.unloads.filter (fun x => x.2.isNone)).map Prod.fst
  let s4 := { s2 with img := { s2.img with unloads := s2.img.unloads.map (fun (x : Nat × Option Nat) => (x.1, some (x.2.getD s2.frame))) } }
  fresh.foldl State.quiesceImage s4

end Sys2Proof.Machine
end

