-- ==== Sys2Proof/Machine/Cmd.lean ====
section
/-!
DEFINITION. Sys2Proof/Machine/Cmd.lean: command rings and doorbells (R374–R381, R402, R403), acceptance of descriptors (R378,
R382–R390), and the admission pass (R105–R108, R414–R422).
-/

namespace Sys2Proof.Machine

/-! ### Rings (R374–R376, R381) -/

/-- Two ranges of bytes meet. -/
def rangeMeets (a b : Nat × Nat) : Bool := decide (a.1 < b.2 ∧ b.1 < a.2 ∧ a.1 < a.2 ∧ b.1 < b.2)

/-- The checks of R375 other than residency, on the registers as written. -/
def State.ringsOk (s : State) (c : Nat) : Bool :=
  let sq := s.get (R.CMD_RING_CFG_sq_log2 c)
  let cq := s.get (R.CMD_RING_CFG_cq_log2 c)
  let rs := s.ringRanges c
  decide (s.sqBase c % 4096 = 0 ∧ s.cqBase c % 4096 = 0 ∧ 4 ≤ sq ∧ sq ≤ 12 ∧ sq ≤ cq ∧ cq ≤ 12) &&
  rs.all (fun r => decide (r.2 ≤ cmdEnd - cmdBase)) &&
  !rangeMeets (rs.headD (0, 0)) ((rs.drop 1).headD (0, 0)) &&
  (List.range 64).all (fun k => k == c || !s.ringOn k || (s.ringRanges k).all (fun o => rs.all (fun r => !rangeMeets r o)))

/-- A write of 1 to CMD_RING_CTRL.en (R375, R403). -/
def State.ringEnable (s : State) (c : Nat) : State :=
  if s.ringOn c then s
  else if s.ctxResident c && s.ringsOk c then
    (s.setRing c RingSt.none).puts [(R.CMD_RING_CTRL_en c, 1), (R.CMD_SQ_PTR_head c, 0), (R.CMD_SQ_PTR_tail c, 0), (R.CMD_CQ_PTR_head c, 0),
      (R.CMD_CQ_PTR_tail c, 0), (R.CMD_CQ_PTR_phase c, 1), (R.CMD_RING_CNT_accepted c, 0), (R.CMD_RING_CNT_faulted_at_accept c, 0)]
  else s.raiseRing c 1

/-- RING_ENABLE. -/
def execRingEnable (ctx : Fin 64) (s : State) : Host.Outcome State Fault Refusal :=
  .next (if s.blockUp 7 then s.ringEnable ctx.val else s)

/-- A write of 0 to CMD_RING_CTRL.en. -/
def State.ringDisable (s : State) (c : Nat) : State :=
  if !s.ringOn c then s
  else if s.descs.any (fun d => d.ctx == c) then s.raiseRing c 1
  else s.put (R.CMD_RING_CTRL_en c) 0

/-- RING_DISABLE. -/
def execRingDisable (ctx : Fin 64) (s : State) : Host.Outcome State Fault Refusal :=
  .next (if s.blockUp 7 then s.ringDisable ctx.val else s)

/-- A doorbell (R376, R378): the descriptors it submits wait to be accepted. -/
def State.doorbell (s : State) (c t : Nat) : State :=
  let size := s.sqSize c
  let tail := s.get (R.CMD_SQ_PTR_tail c)
  let n := (t + size - tail) % size
  let o := (tail + size - s.get (R.CMD_SQ_PTR_head c)) % size
  if s.ctxState c ≠ 1 ∨ s.ringOn c = false ∨ size ≤ t ∨ n = 0 ∨ 64 < n ∨ size - 1 < n + o ∨ (s.ring c).nextAccept ≠ tail then s.raiseRing c 0
  else ((s.put (R.CMD_SQ_PTR_tail c) t).setRing c { s.ring c with arrival := (s.frame, s.tick) }).pmu 0xE6 (some c) 1

/-- SQ_DOORBELL. -/
def execSqDoorbell (ctx : Fin 64) (tail : BitVec 12) (s : State) : Host.Outcome State Fault Refusal :=
  .next (if s.blockUp 7 then s.doorbell ctx.val tail.toNat else s)

/-- A write of CMD_CQ_DB (R381). A head beyond the ring, or one for disabled rings, changes nothing. -/
def State.cqDoorbell (s : State) (c h : Nat) : State :=
  if s.ringOn c = true ∧ h < s.cqSize c then (s.put (R.CMD_CQ_PTR_head c) h).postWaiting c (s.ring c).waiting.length else s

/-- CQ_DOORBELL. -/
def execCqDoorbell (ctx : Fin 64) (head : BitVec 12) (s : State) : Host.Outcome State Fault Refusal :=
  .next (if s.blockUp 7 then s.cqDoorbell ctx.val head.toNat else s)

/-! ### Acceptance -/

/-- The frames a SCHEDULE owns (R389). -/
def CmdDesc.owned (d : CmdDesc) : Nat × Nat := (max d.desc.earliest (d.accepted.1 + 1), d.desc.deadline)

/-- What acceptance knows of the context (R386, R389, R407, R432). -/
def State.acceptEnv (s : State) (c : Nat) (d : Desc) : AcceptEnv :=
  let plate := match s.plateOf d.plate with
    | some (_, i, p) =>
      if i.ctx = c ∧ i.parked = false then some (i.image.microBase, i.image.microBase + i.image.micro.length, p.rowCount, 512 * p.colCount) else none
    | none => none
  let start := max d.earliest (s.frame + 1)
  { access := s.accessOf c, plate := plate, ownPkg := s.ownPkg, sync := s.syncRange c,
    imageOk := s.img.resident.any (fun x => x.2.ctx == c && !x.2.parked && x.2.image.id == d.imageId),
    scheduleOverlap := s.descs.any (fun x => x.desc.opcode == 4 && x.ctx == c && x.desc.imageId == d.imageId &&
      decide (start ≤ x.owned.2 ∧ x.owned.1 ≤ d.deadline)) }

/-- SYNC: at once, or when its wait holds (R390). -/
def State.syncServe (s : State) (d : CmdDesc) : State :=
  if !d.desc.waits || s.waitHolds d.desc.waitObj d.desc.waitValue then s.settle { d with granted := s.frame } else s

/-- The descriptor in a submission slot. -/
def State.slotDesc (s : State) (c slot : Nat) : Desc := Desc.ofBytes (s.readMem (cmdBase + s.sqBase c + 256 * slot) 256)

/-- The descriptor in a submission slot is copied and checked (R378). -/
def State.acceptSlot (s : State) (c slot : Nat) (arrival : Nat × Nat) : State :=
  let addr := cmdBase + s.sqBase c + 256 * slot
  let d := s.slotDesc c slot
  let x : CmdDesc := { ctx := c, slot := slot, addr := addr, desc := d, arrival := arrival, accepted := (s.frame, s.tick),
                       home := none, defers := 0, considered := false, phase := .waiting, granted := 0, firstPass := false,
                       dispatched := 0, running := 0, flags := 0, failed := none, seeded := [], signalled := false }
  let s1 := (s.count (R.CMD_RING_CNT_accepted c) 1).pmu 0x10 (some c) 1
  match d.accept (s.readMem addr 256) (s.acceptEnv c d) with
  | some f => ((s1.count (R.CMD_RING_CNT_faulted_at_accept c) 1).pmu 0x11 (some c) 1).finish x (.faulted f.1 f.2)
  | none =>
    let y := if d.opcode = 4 then { x with granted := x.owned.1 } else x
    let s2 := { s1 with descs := s1.descs ++ [y] }
    if d.opcode = 0x20 then s2.syncServe y else s2

/-- The next submitted descriptor of a ring is accepted, where the row names its opcode. -/
def State.acceptNext (s : State) (c : Nat) (row : Nat → Bool) : State :=
  let g := s.ring c
  if s.blockUp 7 = false ∨ s.ringOn c = false ∨ g.nextAccept = s.get (R.CMD_SQ_PTR_tail c) ∨ row (s.slotDesc c g.nextAccept).opcode = false then s
  else (s.setRing c { g with nextAccept := (g.nextAccept + 1) % s.sqSize c }).acceptSlot c g.nextAccept g.arrival

/-- DESC_EXPOSE. -/
def execDescExpose (ctx : Fin 64) (s : State) : Host.Outcome State Fault Refusal := .next (s.acceptNext ctx.val (· == 1))
/-- DESC_OUTPUT. -/
def execDescOutput (ctx : Fin 64) (s : State) : Host.Outcome State Fault Refusal := .next (s.acceptNext ctx.val (· == 2))
/-- MATVEC. -/
def execMatvec (ctx : Fin 64) (s : State) : Host.Outcome State Fault Refusal := .next (s.acceptNext ctx.val (· == 3))
/-- SCHEDULE. -/
def execSchedule (ctx : Fin 64) (s : State) : Host.Outcome State Fault Refusal := .next (s.acceptNext ctx.val (· == 4))
/-- SEND. -/
def execSend (ctx : Fin 64) (s : State) : Host.Outcome State Fault Refusal := .next (s.acceptNext ctx.val (· == 8))
/-- COPY. -/
def execCopy (ctx : Fin 64) (s : State) : Host.Outcome State Fault Refusal := .next (s.acceptNext ctx.val (· == 0x10))
/-- CONVERT. -/
def execConvert (ctx : Fin 64) (s : State) : Host.Outcome State Fault Refusal := .next (s.acceptNext ctx.val (· == 0x11))
/-- ELTWISE. -/
def execEltwise (ctx : Fin 64) (s : State) : Host.Outcome State Fault Refusal := .next (s.acceptNext ctx.val (· == 0x12))
/-- ACTIVATE. -/
def execActivate (ctx : Fin 64) (s : State) : Host.Outcome State Fault Refusal := .next (s.acceptNext ctx.val (· == 0x13))
/-- SOFTMAX. -/
def execSoftmax (ctx : Fin 64) (s : State) : Host.Outcome State Fault Refusal := .next (s.acceptNext ctx.val (· == 0x14))
/-- NORM. -/
def execNorm (ctx : Fin 64) (s : State) : Host.Outcome State Fault Refusal := .next (s.acceptNext ctx.val (· == 0x15))
/-- DIGITAL_MATVEC. -/
def execDigitalMatvec (ctx : Fin 64) (s : State) : Host.Outcome State Fault Refusal := .next (s.acceptNext ctx.val (· == 0x16))
/-- ROUTINE. -/
def execRoutine (ctx : Fin 64) (s : State) : Host.Outcome State Fault Refusal := .next (s.acceptNext ctx.val (· == 0x7F))

/-- DESC_RESERVED_OPCODE: a code R386 does not list. -/
def execDescReservedOpcode (ctx : Fin 64) (s : State) : Host.Outcome State Fault Refusal :=
  .next (s.acceptNext ctx.val (fun o => !knownOpcode o))

/-- The oldest waiting SYNC of a context whose wait holds now. -/
def State.syncReady (s : State) (c : Nat) : Option CmdDesc :=
  s.descs.find? (fun d => d.ctx == c && d.desc.opcode == 0x20 && decide (d.phase = .waiting) &&
    (!d.desc.waits || s.waitHolds d.desc.waitObj d.desc.waitValue))

/-- DESC_SYNC: one accepted earlier completes when its wait holds; else the next is accepted. -/
def execDescSync (ctx : Fin 64) (s : State) : Host.Outcome State Fault Refusal :=
  .next (match s.syncReady ctx.val with
    | some d => if s.blockUp 7 then s.syncServe d else s
    | none => s.acceptNext ctx.val (· == 0x20))

/-! ### What a pass sees (R358, R414–R418) -/

def SlotEntry.res (e : SlotEntry) : Option ClaimRes :=
  match e.kind with
  | 1 | 5 => some (.plate e.resource)
  | 2 => some (.send e.resource)
  | 3 => some (.recv e.resource)
  | 4 => some (.unit (some e.resource))
  | _ => none

/-- Static entries that apply in a frame, with their sequencers. -/
def State.staticIn (s : State) (f : Nat) : List (Nat × SlotEntry) :=
  s.img.resident.flatMap (fun x => if x.2.leaving then [] else
    x.2.image.slots.flatMap (fun t => (t.2.filter (fun e => x.2.applies e f)).map (fun e => (t.1, e))))

/-- Static work as a pass for frame `f` sees it: the frame's own, and the sequencer time of the frames beside it, whose spans a lead
can reach (R358). -/
def State.staticBusy (s : State) (f : Nat) : List Busy :=
  (s.staticIn f).map (fun x => ⟨x.2.res, x.1, x.2.startTick, x.2.endTick⟩) ++
  (if f = 0 then [] else (s.staticIn (f - 1)).map (fun x => ⟨none, x.1, (x.2.startTick : Int) - 2048, (x.2.endTick : Int) - 2048⟩)) ++
  (s.staticIn (f + 1)).map (fun x => ⟨none, x.1, (x.2.startTick : Int) + 2048, (x.2.endTick : Int) + 2048⟩)

/-- Their charge, in tenths of a W·tick. -/
def State.staticCharge (s : State) (f : Nat) : Nat :=
  ((s.staticIn f).map (fun x => s.claimRate x.2.kind x.2.resource * (x.2.endTick - x.2.startTick))).sum

/-- A sequencer number that stands for those that serve but are HALTED or in FAULT: it is never free. -/
def noSeq : Nat := 16

/-- Sequencers that may take a claim of the descriptor; those HALTED or in FAULT count as serving and never free. -/
def State.serving (s : State) (d : CmdDesc) : List Nat :=
  let all := (List.range 16).filter (fun q =>
    if usesPlate d.desc.opcode then s.serves q d.desc.plate
    else s.img.resident.any (fun x => x.2.ctx == d.ctx && !x.2.parked && x.2.image.binds.any (fun b => b.1 == q && b.2 != 0)))
  let up := all.filter (fun q => decide ((s.seq q).mode ≠ .halted ∧ (s.seq q).mode ≠ .fault))
  if up.isEmpty && !all.isEmpty then [noSeq] else up

/-- R408. -/
def State.effClass (s : State) (d : CmdDesc) : Nat := max d.desc.cls (s.get (R.CTX_POLICY_min_class d.ctx))

/-- A descriptor a pass for frame `f` handles: ungranted, accepted before tick 1,024 of `f − 1`, taking part in admission. -/
def State.passHandles (f : Nat) (d : CmdDesc) : Bool :=
  decide (d.phase = .waiting) && d.desc.opcode != 4 && decide (2048 * d.accepted.1 + d.accepted.2 < 2048 * (f - 1) + 1024)

/-- Its wait condition, if any, holds. -/
def State.waitOk (s : State) (d : CmdDesc) : Bool := !d.desc.waits || s.waitHolds d.desc.waitObj d.desc.waitValue

/-- Its context takes work (R414). -/
def State.ctxTakes (s : State) (c : Nat) : Bool := s.ctxState c == 1 && (s.ring c).waiting.isEmpty

/-- Eligible in the pass for frame `f` (R414). -/
def State.eligible (s : State) (f : Nat) (d : CmdDesc) : Bool :=
  State.passHandles f d && d.desc.opcode != 0x20 && s.ctxTakes d.ctx && decide (d.desc.earliest ≤ f) && s.waitOk d

/-- The plate keeps the pass from granting (R196, R315): its image is in quiesce, or a burst would meet a fix or refix. -/
def State.plateHeld (s : State) (d : CmdDesc) : Bool :=
  usesPlate d.desc.opcode && (match s.plateOf d.desc.plate with
    | some x => x.2.1.leaving || ((d.desc.claims d.addr).any (fun c => c.kind == 1) && s.plateFixBusy x.2.2)
    | none => true)

/-- The descriptor as the pass weighs it. -/
def State.candOf (s : State) (ix : Nat) (d : CmdDesc) : Cand :=
  let cs := d.desc.claims d.addr
  let p := match s.plateOf d.desc.plate with | some x => (x.2.2.tiles.length, x.2.2.acc16) | none => (0, false)
  { ix := ix, ctx := d.ctx, cls := s.effClass d, arrival := d.arrival, slot := d.slot, deadline := d.desc.deadline, claims := cs,
    power := powerOf cs p.1 p.2, dram := d.desc.dramCharge, home := d.home, seqs := s.serving d, fresh := !d.considered }

/-- Power limit in force (R416). -/
def State.pLimit (s : State) : Nat := s.get R.THM_LIMIT_p_limit

/-- A pass runs only while these hold (R414). -/
def State.passRuns (s : State) : Bool :=
  s.get R.GEN_READY_compute_ready == 1 && !s.clk.coasting && s.pwr.dusk.isNone && s.blockUp 8 && s.hzn.counting

/-! ### Rulings -/

/-- What a pass does with one descriptor it considered. -/
def State.rule (s : State) (f : Nat) (d : CmdDesc) (r : Ruling) : State :=
  let d1 := { d with home := r.home, considered := true }
  let s1 := if r.collided then (s.count (R.CTX_COLLIDE_count d.ctx) 1).pmu 0x1B (some d.ctx) 1 else s
  match r.verdict with
  | .grant unit seqs => s1.setDesc { d1 with phase := .granted f unit seqs, granted := f, firstPass := !d.considered }
  | .wait => (s1.setDesc { d1 with defers := d.defers + 1 }).pmu 0x1C (some d.ctx) 1
  | .refuse c => (s1.setDesc d1).finish d1 (.refused c)
  | .noSequencer => (s1.setDesc d1).finish d1 (.faulted 9 0)

/-- Why a descriptor not considered at its deadline is refused (R421). -/
def State.refusalCause (s : State) (ran : Bool) (d : CmdDesc) : Cause :=
  let thermalDusk := match s.pwr.dusk with | some x => decide (x.source = .thermal) | none => false
  if (!ran && !thermalDusk) || !s.waitOk d then .held
  else if !ran then .thermal
  else if !s.ctxTakes d.ctx then .contextLimit
  else .budgetSlots

/-- Descriptors handled and not considered whose deadline frame is `f` or earlier are refused (R421). -/
def State.refuseLate (s : State) (f : Nat) (ran : Bool) (ds : List CmdDesc) : State :=
  ds.foldl (fun u d => if d.desc.deadline ≤ f then u.finish d (.refused (s.refusalCause ran d)) else u) s

/-- The pass for frame `f` (R418–R421). -/
def State.pass (s : State) (f : Nat) : State :=
  let all := s.descs
  let el := all.zipIdx.filter (fun x => s.eligible f x.1)
  let held := el.filter (fun x => s.plateHeld x.1)
  let cands := (el.filter (fun x => !s.plateHeld x.1)).map (fun x => s.candOf x.2 x.1)
  let busy := s.staticBusy f ++ [⟨none, noSeq, 0, 2048⟩]
  let charge := s.staticCharge f
  let plim := s.pLimit
  let out := ruling f busy charge plim (65536 * s.get R.CTX_BUDGET_dram) cands
  let tooMuch := decide ((plim - 60) * 2048 * 10 < charge)
  let s1 := if tooMuch then (s.put R.CTX_ADM_STAT_static_over 1).pmu 0x1D none 1 else s
  let s2 := if tooMuch ∧ plim < 360 then s1.count R.THM_CNT1_static_over_frames 1 else s1
  let s3 := if out.2 then (s2.put R.CTX_ADM_STAT_overflow 1).pmu 0x1E none 1 else s2
  let waits := held.map (fun x => failed f (s.candOf x.2 x.1) .budgetSlots false)
  let s4 := (out.1 ++ waits).foldl (fun u r => match all[r.ix]? with | some d => u.rule f d r | none => u) s3
  let rest := all.filter (fun d => State.passHandles f d && !s.eligible f d)
  { s4.refuseLate f true rest with passFrame := f }

/-- ADMISSION_PASS: at tick 1,024, once in a frame (R106). -/
def execAdmissionPass (s : State) : Host.Outcome State Fault Refusal :=
  .next (if s.passRuns && s.tick == 1024 && s.passFrame != s.frame + 1 then s.pass (s.frame + 1) else s)

/-- DEADLINE_REFUSAL (R421): at tick 1,536, when no pass could run for the next frame. -/
def execDeadlineRefusal (s : State) : Host.Outcome State Fault Refusal :=
  .next (if s.controlUp && s.hzn.counting && s.tick == 1536 && s.passFrame != s.frame + 1 && !s.passRuns then
      s.refuseLate (s.frame + 1) false (s.descs.filter (State.passHandles (s.frame + 1)))
    else s)

/-! ### SCHEDULE at frame marks (R260, R389) -/

/-- The frame that begins: schedules whose deadline frame has ended are served, and those it starts seed their plates. -/
def State.scheduleMark (s : State) : State :=
  let s1 := (s.descs.filter (fun d => d.desc.opcode == 4 && decide (d.desc.deadline < s.frame))).foldl (fun u d => u.settle d) s
  (s1.descs.filter (fun d => d.desc.opcode == 4 && decide (d.owned.1 = s1.frame))).foldl (fun u d =>
    u.img.resident.foldl (fun v x =>
      if x.2.ctx = d.ctx ∧ x.2.image.id = d.desc.imageId then x.2.image.plates.foldl (fun w p => w.seedPlate p.num) v else v) u) s1

end Sys2Proof.Machine
end

