-- ==== Sys2Proof/Machine/Ctx.lean ====
section
/-!
DEFINITION. Sys2Proof/Machine/Ctx.lean: the context operations (R404–R413, R423–R430, R438, R439): create, save, restore, release, abort
and discard, with the accumulator section (R290–R294) and the context record (R426) they move.
-/

namespace Sys2Proof.Machine

/-! ### Operations and their results (R410) -/

/-- An operation ends: its result, op and slot stand in CTX_OP_STAT, and its event is raised. -/
def State.ctxEnd (s : State) (op c result : Nat) : State :=
  (s.puts [(R.CTX_OP_STAT_busy, 0), (R.CTX_OP_STAT_result, result), (R.CTX_OP_STAT_op, op), (R.CTX_OP_STAT_slot, c)]).raiseCtx
    (if result = 0 then 0 else 1)

/-- An operation goes on: it is in progress, with no failure so far. -/
def State.ctxBegin (s : State) (op c : Nat) : State :=
  s.puts [(R.CTX_OP_STAT_busy, 1), (R.CTX_OP_STAT_result, 0), (R.CTX_OP_STAT_op, op), (R.CTX_OP_STAT_slot, c)]

/-- The first failure of a list of (failed, result) checks; 0 when every check passes. -/
def firstResult : List (Bool × Nat) → Nat
  | [] => 0
  | (bad, r) :: rest => if bad then r else firstResult rest

/-- A write of CTX_OP: rejected while an operation is in progress; a failed operation changes nothing else. -/
def State.ctxOp (s : State) (op c : Nat) (checks : List (Bool × Nat)) (run : State → State) : State :=
  if s.get R.CTX_OP_STAT_busy = 1 then s.raiseCtx 2
  else
    let r := firstResult (checks ++ [(!s.running, 11)])
    if r = 0 then run s else s.ctxEnd op c r

/-! ### What a binding claims (R404, R406, R409, R410) -/

/-- Tenant, job, windows in bytes, first object and number of objects. -/
structure Claimed where
  tenant : Nat
  job : Nat
  windows : List (Nat × Nat)
  base : Nat
  count : Nat

def State.slotClaims (s : State) (c : Nat) : Claimed :=
  ⟨(s.ctxPair c).1, (s.ctxPair c).2, s.windows c, s.get (R.CTX_SYNC_base c), s.get (R.CTX_SYNC_count c)⟩

def SavedCtx.claims (x : SavedCtx) : Claimed := ⟨x.tenant, x.job, x.windows, x.syncBase, x.syncCount⟩

/-- Every active or saved context but the one of slot `c` and the saved one of `pair`. -/
def State.otherClaims (s : State) (c : Nat) (pair : Option (Nat × Nat)) : List Claimed :=
  ((List.range 64).filter (fun k => k != c && s.ctxState k != 0)).map s.slotClaims ++
  (s.saved.filter (fun x => some x.pair != pair)).map SavedCtx.claims

/-- BAD_WINDOW, WINDOW_OVERLAP and SYNC_RANGE of R410. -/
def claimChecks (x : Claimed) (others : List Claimed) : List (Bool × Nat) :=
  [(x.windows.any (fun w => decide (dataEnd < w.2)), 2),
   (others.any (fun o => o.tenant != x.tenant && o.windows.any (fun v => x.windows.any (rangeMeets v))), 3),
   (decide (4096 < x.base + x.count) || others.any (fun o => rangeMeets (o.base, o.base + o.count) (x.base, x.base + x.count)), 4)]

/-- CONTEXT_LIMIT (R409). -/
def State.benchLimit (s : State) (c tenant : Nat) : Bool := s.isBench && !(c == 0 && tenant == 0)

/-- The binding message of R565. -/
def State.bindingMsg (s : State) (isOpen : Bool) (c frame : Nat) : State :=
  s.emit (.binding isOpen c (s.ctxPair c).1 (s.ctxPair c).2 s.isBench frame)

/-- The CTX counters of a slot back at 0 (R439). -/
def State.ctxCountersClear (s : State) (c : Nat) : State :=
  s.puts [(R.CTX_COLLIDE_count c, 0), (R.CTX_OUTCOME0_served c, 0), (R.CTX_OUTCOME0_deferred c, 0), (R.CTX_OUTCOME1_refused c, 0),
    (R.CTX_OUTCOME1_faulted c, 0)]

/-! ### CREATE -/

def State.ctxCreate (s : State) (c : Nat) : State :=
  let x := s.slotClaims c
  let others := s.otherClaims c none
  s.ctxOp 1 c
    ((decide (s.ctxState c ≠ 0), 1) :: claimChecks x others ++
      [(others.any (fun o => o.tenant == x.tenant && o.job == x.job), 5), (s.benchLimit c x.tenant, 10)])
    (fun u => ((((u.syncClear x.base x.count).ctxCountersClear c).put (R.CTX_STAT_state c) 1).bindingMsg true c u.frame).ctxEnd 1 c 0)

/-- CREATE. -/
def execCreate (ctx : Fin 64) (s : State) : Host.Outcome State Fault Refusal :=
  .next (if s.blockUp 8 then s.ctxCreate ctx.val else s)

/-! ### ABORT (R402, R413) -/

/-- Every accepted, uncompleted descriptor of the context completes FAULTED ABORTED, in slot order. -/
def State.abortDescs (s : State) (c detail : Nat) : State :=
  (List.range 4096).foldl (fun u slot => match u.descOf c slot with
    | some d => u.finish d (.faulted 0xA detail)
    | none => u) s

/-- Its armed schedules disarm at the next frame mark (R361). -/
def State.disarmCtx (s : State) (c : Nat) : State :=
  { s with img := { s.img with resident := s.img.resident.map (fun (x : Nat × ResImage) =>
      if x.2.ctx == c && !x.2.parked && x.2.isArmed then (x.1, { x.2 with disarming := true }) else x) } }

def State.ctxAbort (s : State) (c : Nat) : State :=
  s.ctxOp 5 c [(decide (s.ctxState c ≠ 1), 1)] (fun u => ((u.abortDescs c 1).disarmCtx c).ctxEnd 5 c 0)

/-- ABORT. -/
def execAbort (ctx : Fin 64) (s : State) : Host.Outcome State Fault Refusal :=
  .next (if s.blockUp 8 then s.ctxAbort ctx.val else s)

/-! ### RELEASE (R412) -/

/-- Resident slots of a context's images. -/
def State.imagesOf (s : State) (c : Nat) : List Nat :=
  (s.img.resident.filter (fun x => x.2.ctx == c && !x.2.parked)).map Prod.fst

/-- A load for the context ends ABORTED, and an image of its that waits for its mark is dropped. -/
def State.dropLoads (s : State) (c : Nat) : State :=
  let s1 := match s.img.load with
    | some l => if l.ctx = c ∧ l.phase ≠ 10 then s.imgAbort else s
    | none => s
  match s1.img.arriving with
  | some l =>
    if l.ctx = c then ({ s1 with img := { s1.img with arriving := none } }).levelRecheck ((l.image.map PlateImage.id).getD 0) l.pair.isSome
    else s1
  | none => s1

def State.ctxRelease (s : State) (c : Nat) : State :=
  s.ctxOp 4 c [(decide (s.ctxState c ≠ 1), 1)] (fun u =>
    let u1 := (((u.ctxBegin 4 c).put (R.CTX_STAT_state c) 4).abortDescs c 1).disarmCtx c
    let u2 := u1.dropLoads c
    { u2 with img := { u2.img with unloads := u2.img.unloads ++ (u2.imagesOf c).map (fun k => (k, none)) } })

/-- RELEASE. -/
def execRelease (ctx : Fin 64) (s : State) : Host.Outcome State Fault Refusal :=
  .next (if s.blockUp 8 then s.ctxRelease ctx.val else s)

/-- A burst on a tile of the context has a commit, a chain add or a slice merge to come (R290). -/
def State.tileWorking (s : State) (c : Nat) (x : Nat × TileSt) : Bool :=
  match x.2.burst, s.tileRec x.1 with
  | some b, some r => r.1.ctx == c && !b.over r.2.1 r.2.2
  | _, _ => false

/-- Work of the context in progress: a routine, a burst or an output-stage run. -/
def State.ctxWorking (s : State) (c : Nat) : Bool :=
  s.tiles.any (s.tileWorking c) ||
  s.seqs.toList.any (fun q => match q.routine with | some r => decide (r.ctx = c) | none => false) ||
  s.outRuns.any (fun r => r.ctx == c)

/-- Every unload of the context has passed its quiesce mark (R199). -/
def State.unloadsPassed (s : State) (c : Nat) : Bool :=
  (s.imagesOf c).all (fun k => s.img.unloads.any (fun x => x.1 == k && x.2.isSome))

/-- Timers that name an object of the context are disabled. -/
def State.timersOff (s : State) (c : Nat) : State :=
  (List.range 16).foldl (fun u k => if u.inRangeOf c (u.get (R.SYNC_TMR_CFG_object k)) then u.put (R.SYNC_TMR_CFG_en k) 0 else u) s

/-- The rings are disabled, and records that wait are discarded (R402). -/
def State.ringsOff (s : State) (c : Nat) : State := (s.put (R.CMD_RING_CTRL_en c) 0).setRing c RingSt.none

/-- Steps 2 to 7 of R412, once no work is in progress. -/
def State.ctxReleased (s : State) (c : Nat) : State :=
  let s1 := (s.imagesOf c).foldl State.releaseImage s
  let s2 := (s1.ringsOff c).timersOff c
  let s3 := (s2.syncClear (s.get (R.CTX_SYNC_base c)) (s.get (R.CTX_SYNC_count c))).bindingMsg false c s.frame
  { s3 with freeing := s3.freeing ++ [c] }

/-- RELEASE_DRAINED. -/
def execReleaseDrained (ctx : Fin 64) (s : State) : Host.Outcome State Fault Refusal :=
  .next (if s.ctxState ctx.val = 4 ∧ s.freeing.contains ctx.val = false ∧ s.ctxWorking ctx.val = false ∧ s.unloadsPassed ctx.val = true ∧
      s.img.load.any (fun l => l.ctx == ctx.val && l.phase == 9) = false
    then s.ctxReleased ctx.val else s)

/-! ### SAVE (R290–R293, R423–R426) -/

/-- Tiles of the context's plates, rising. -/
def State.tilesOfImages (s : State) (slots : List Nat) : List Nat :=
  let owned := slots.flatMap (fun k => match s.resImage k with
    | some i => i.image.plates.flatMap (fun p => p.tiles.map TileRec.tile)
    | none => [])
  (List.range 256).filter owned.contains

/-- L of R423. -/
def sectionLen (n : Nat) : Nat := if n = 0 then 0 else 64 + 20480 * n

def State.saveAddr (s : State) (c : Nat) : Nat := s.get (R.CTX_SAVE_LO c) + 2 ^ 32 * s.get (R.CTX_SAVE_HI c)

/-- The save area is aligned and lies inside the windows (R410). -/
def State.saveAreaOk (s : State) (c : Nat) (windows : List (Nat × Nat)) : Bool :=
  let a := s.saveAddr c
  let n := s.get (R.CTX_SAVE_LEN c)
  decide (a % 64 = 0 ∧ n % 64 = 0) && coveredFrom windows (windows.length + 1) a (a + n)

/-- BUSY of R424. -/
def State.saveBusy (s : State) (c : Nat) : Bool :=
  let own := s.imagesOf c
  own.any (fun k => match s.resImage k with
    | some i => i.isArmed || i.leaving || i.image.plates.any (fun p => s.plateFixBusy p || p.tiles.any (fun r => (s.tile r.tile).erasing))
    | none => false) ||
  (match s.img.load with | some l => l.ctx == c | none => false) ||
  (match s.img.arriving with | some l => l.ctx == c | none => false) ||
  !(s.ring c).waiting.isEmpty

/-- Granted work of the context that has not started waits for another pass. -/
def State.ungrantCtx (s : State) (c : Nat) : State :=
  { s with descs := s.descs.map (fun d => match d.phase with
      | .granted .. => if d.ctx == c && d.dispatched == 0 then d.waitAgain else d
      | _ => d) }

def State.ctxSave (s : State) (c : Nat) : State :=
  s.ctxOp 2 c
    [(decide (s.ctxState c ≠ 1), 1), (!s.saveAreaOk c (s.windows c), 2),
     (decide (s.get (R.CTX_SAVE_LEN c) < 1024 + sectionLen (s.tilesOfImages (s.imagesOf c)).length), 6), (s.saveBusy c, 7)]
    (fun u => ((u.ctxBegin 2 c).put (R.CTX_STAT_state c) 2).ungrantCtx c)

/-- SAVE. -/
def execSave (ctx : Fin 64) (s : State) : Host.Outcome State Fault Refusal :=
  .next (if s.blockUp 8 then s.ctxSave ctx.val else s)

/-- Base of a tile's registers. -/
def tileBase (t : Nat) : Nat := 0x1000000 + 0x10000 * t

/-- A TILE_AE word as it reads: the next shift is the present one when no change is pending. -/
def State.aeWord (s : State) (t c : Nat) : Nat :=
  let w := s.regWord (tileBase t + 0x5C00 + 4 * c)
  if s.get (R.TILE_AE_pending t c) = 1 then w else w - 8 * s.get (R.TILE_AE_next_shift t c) + 8 * s.get (R.TILE_AE_cur_shift t c)

/-- A tile's record (R292). -/
def State.tileRecord (s : State) (t : Nat) : List Byte :=
  let words := fun (off n : Nat) => (List.range n).flatMap (fun k => toLE 4 (s.regWord (tileBase t + off + 4 * k)))
  words 0x8000 2048 ++ (List.range 512).flatMap (fun c => toLE 1 (s.get (R.TILE_BFLAG_limit t c))) ++
  (List.range 512).flatMap (fun c => toLE 4 (s.aeWord t c)) ++ words 0x5800 1 ++ words 0xA800 3 ++ List.replicate 1520 0 ++ words 0xC000 2048

/-- The accumulator section (R291). -/
def State.accSection (s : State) (tiles : List Nat) : List Byte :=
  let records := tiles.flatMap s.tileRecord
  toLE 4 0x53434341 ++ toLE 2 1 ++ toLE 2 tiles.length ++ toLE 8 s.frame ++
  (List.range 32).flatMap (fun k => toLE 1 ((List.range 8).map (fun b => if tiles.contains (8 * k + b) then 2 ^ b else 0)).sum) ++
  toLE 4 (crc32 records) ++ List.replicate 12 0 ++ records

/-- Bytes 0x004 to 0x3FB of the context record (R426). -/
def State.ctxBody (s : State) (c : Nat) : List Byte :=
  let g := s.ring c
  let on := s.ringOn c
  let ring := fun (n : Nat) => if on then n else 0
  let head := s.get (R.CMD_SQ_PTR_head c)
  let done := if on then g.posted else []
  toLE 2 1 ++ toLE 2 c ++ toLE 4 ((s.ctxPair c).1 + 65536 * (s.ctxPair c).2) ++ toLE 4 (s.get (R.CTX_SEED_seed c)) ++ toLE 8 s.frame ++
  (List.range 4).flatMap (fun k => toLE 4 (s.get (R.CTX_WIN_base c k)) ++ toLE 4 (s.get (R.CTX_WIN_len c k))) ++
  toLE 2 (s.get (R.CTX_SYNC_base c)) ++ toLE 2 (s.get (R.CTX_SYNC_count c)) ++ toLE 4 (s.get (R.CTX_POLICY_min_class c)) ++
  toLE 8 (ring (s.sqBase c)) ++ toLE 8 (ring (s.cqBase c)) ++
  toLE 1 (ring (s.get (R.CMD_RING_CFG_sq_log2 c))) ++ toLE 1 (ring (s.get (R.CMD_RING_CFG_cq_log2 c))) ++
  toLE 1 (ring (s.get (R.CMD_RING_CFG_vector c))) ++ toLE 1 (ring (s.get (R.CMD_CQ_PTR_phase c))) ++
  toLE 2 (ring head) ++ toLE 2 (ring (s.get (R.CMD_SQ_PTR_tail c))) ++ toLE 2 (ring (s.get (R.CMD_CQ_PTR_head c))) ++
  toLE 2 (ring (s.get (R.CMD_CQ_PTR_tail c))) ++ List.replicate 164 0 ++
  (List.range 512).flatMap (fun k => toLE 1 ((List.range 8).map (fun b => if done.contains (8 * k + b) then 2 ^ b else 0)).sum) ++
  List.replicate 252 0

/-- The bytes a save or restore moves, counted as lines of the context (R650). -/
def State.ctxMove (s : State) (c a : Nat) (write : Bool) (n : Nat) : State :=
  if s.get R.PMU_RUN = 0 then s
  else (List.range ((n + 63) / 64)).foldl (fun u k =>
    (u.pmuLine (if write then 1 else 0) (a + 64 * k) 1).pmu (0x70 + 8 * stackOf (a + 64 * k) + 6) (some c) 1) s

/-- Registers of a tile that lose their values in retention (R425 step 7): free values stand in them. -/
def State.scrambleTile (s : State) (t : Nat) : State :=
  let offs := fun (off n : Nat) => (List.range n).map (fun k => tileBase t + off + 4 * k)
  let all := offs 0x5800 1 ++ offs 0x5C00 512 ++ offs 0x8000 2560 ++ offs 0xA800 3 ++ offs 0xC000 4096
  let s1 := all.zipIdx.foldl (fun u x => u.setRegWord x.1 (Config.free (s.freeIx + x.2))) s
  { s1 with freeIx := s.freeIx + all.length }

/-- Steps 4 to 8 of R425. -/
def State.ctxSaved (s : State) (c : Nat) : State :=
  let a := s.saveAddr c
  let own := s.imagesOf c
  let tiles := s.tilesOfImages own
  let body := s.ctxBody c
  let n := 1024 + sectionLen tiles.length
  let s1 := if tiles.isEmpty then s else s.writeMem (a + 1024) (s.accSection tiles)
  let s2 := ((s1.writeMem (a + 4) (body ++ toLE 4 (crc32 body))).writeMem a (toLE 4 0x53585443)).ctxMove c a true n
  let s3 := ((s2.ringsOff c).bindingMsg false c s.frame)
  let s4 := tiles.foldl State.scrambleTile { s3 with descs := s3.descs.filter (fun d => d.ctx != c) }
  let kept : SavedCtx := ⟨(s.ctxPair c).1, (s.ctxPair c).2, s.get (R.CTX_SYNC_base c), s.get (R.CTX_SYNC_count c), s.windows c⟩
  { s4 with
    img := { s4.img with resident := s4.img.resident.map (fun (x : Nat × ResImage) =>
      if own.contains x.1 then (x.1, { x.2 with parked := true, armed := false, disarming := false }) else x) },
    saved := s4.saved ++ [kept], freeing := s4.freeing ++ [c] }

/-- SAVE_QUIESCED: the work in progress has finished, with its records posted. -/
def execSaveQuiesced (ctx : Fin 64) (s : State) : Host.Outcome State Fault Refusal :=
  .next (
    let c := ctx.val
    let started := s.descs.any (fun d => d.ctx == c && (decide (0 < d.dispatched) || decide (d.phase = .resolving)))
    if s.ctxState c = 2 ∧ s.freeing.contains c = false ∧ s.ctxWorking c = false ∧ started = false ∧ (s.ring c).waiting.isEmpty = true
    then s.ctxSaved c else s)

/-! ### RESTORE (R294, R427, R428) -/

/-- The windows a record states, in bytes. -/
def recordWindows (b : List Byte) : List (Nat × Nat) :=
  ((List.range 4).map (fun k => (65536 * leAt b (0x18 + 8 * k) 4, 65536 * (leAt b (0x18 + 8 * k) 4 + leAt b (0x1C + 8 * k) 4)))).filter
    (fun w => decide (w.1 < w.2))

def recordClaims (b : List Byte) : Claimed :=
  ⟨bits (leAt b 8 4) 0 10, leAt b 0xA 2, recordWindows b, leAt b 0x38 2, leAt b 0x3A 2⟩

/-- Resident slots of the parked images of a pair. -/
def State.parkedOf (s : State) (pair : Nat × Nat) : List Nat :=
  (s.img.resident.filter (fun x => x.2.parked && x.2.image.tenant == pair.1 && x.2.image.job == pair.2)).map Prod.fst

/-- The accumulator section passes R294 for these tiles. -/
def sectionOk (b : List Byte) (tiles : List Nat) : Bool :=
  leAt b 0 4 == 0x53434341 && leAt b 4 2 == 1 && leAt b 6 2 == tiles.length &&
  (List.range 256).all (fun t => bitAt (leAt b (0x10 + t / 8) 1) (t % 8) == tiles.contains t) &&
  leAt b 0x30 4 == crc32 ((b.drop 64).take (20480 * tiles.length))

/-- BAD_RECORD: the record's own checks, then the section's (R427). -/
def State.recordBad (s : State) (c : Nat) : Bool :=
  let a := s.saveAddr c
  let len := s.get (R.CTX_SAVE_LEN c)
  let b := s.readMem a 1024
  let x := recordClaims b
  let tiles := s.tilesOfImages (s.parkedOf (x.tenant, x.job))
  let n := sectionLen tiles.length
  s.poisoned a (1024 + n) || !(leAt b 0 4 == 0x53585443 && leAt b 4 2 == 1 && leAt b 0x3FC 4 == crc32 ((b.drop 4).take 1016)) ||
  decide (len < 1024 + n) || (!tiles.isEmpty && !sectionOk (s.readMem (a + 1024) n) tiles)

/-- The parked context matches the record. -/
def SavedCtx.fits (x : SavedCtx) (r : Claimed) : Bool :=
  x.pair == (r.tenant, r.job) && x.syncBase == r.base && x.syncCount == r.count && x.windows == r.windows

/-- The tile registers of a record written back (R294). The clip words the record has no room for take free values. -/
def State.tileWriteBack (s : State) (t : Nat) (b : List Byte) : State :=
  let words := fun (u : State) (off pos n : Nat) =>
    (List.range n).foldl (fun v k => v.setRegWord (tileBase t + off + 4 * k) (leAt b (pos + 4 * k) 4)) u
  let s1 := words s 0x8000 0 2048
  let s2 := (List.range 512).foldl (fun v c => v.put (R.TILE_BFLAG_limit t c) (leAt b (0x2000 + c) 1)) s1
  let s3 := words (words (words (words s2 0x5C00 0x2200 512) 0x5800 0x2A00 1) 0xA800 0x2A04 3) 0xC000 0x3000 2048
  let s4 := (List.range 2048).foldl (fun v k => v.setRegWord (tileBase t + 0xC000 + 4 * (2048 + k)) (Config.free (s.freeIx + k))) s3
  { s4 with freeIx := s.freeIx + 2048 }

/-- The binding and ring registers a record states. -/
def recordRegs (c : Nat) (b : List Byte) : List (Fld × Nat) :=
  [(R.CTX_BIND_tenant c, leAt b 8 2), (R.CTX_BIND_job c, leAt b 0xA 2), (R.CTX_SEED_seed c, leAt b 0xC 4),
   (R.CTX_POLICY_min_class c, leAt b 0x3C 1), (R.CTX_SYNC_base c, leAt b 0x38 2), (R.CTX_SYNC_count c, leAt b 0x3A 2)] ++
  (List.range 4).flatMap (fun k => [(R.CTX_WIN_base c k, leAt b (0x18 + 8 * k) 4), (R.CTX_WIN_len c k, leAt b (0x1C + 8 * k) 4)]) ++
  [(R.CMD_SQ_BASE_LO c, leAt b 0x40 4), (R.CMD_SQ_BASE_HI c, leAt b 0x44 4), (R.CMD_CQ_BASE_LO c, leAt b 0x48 4),
   (R.CMD_CQ_BASE_HI c, leAt b 0x4C 4), (R.CMD_RING_CFG_sq_log2 c, leAt b 0x50 1), (R.CMD_RING_CFG_cq_log2 c, leAt b 0x51 1),
   (R.CMD_RING_CFG_vector c, leAt b 0x52 1), (R.CMD_CQ_PTR_phase c, leAt b 0x53 1), (R.CMD_SQ_PTR_head c, leAt b 0x54 2),
   (R.CMD_SQ_PTR_tail c, leAt b 0x56 2), (R.CMD_CQ_PTR_head c, leAt b 0x58 2), (R.CMD_CQ_PTR_tail c, leAt b 0x5A 2)]

/-- The context had its rings enabled when it was saved. -/
def recordRings (b : List Byte) : Bool := leAt b 0x50 1 != 0

/-- Slots from head up to but excluding tail whose record has, or has not, been posted. -/
def recordSlots (b : List Byte) (posted : Bool) : List Nat :=
  let size := 2 ^ leAt b 0x50 1
  let head := leAt b 0x54 2
  let n := (leAt b 0x56 2 + size - head) % size
  ((List.range n).map (fun k => (head + k) % size)).filter (fun k => bitAt (leAt b (0x100 + k / 8) 1) (k % 8) == posted)

/-- R428. -/
def State.ctxRestored (s : State) (c : Nat) : State :=
  let a := s.saveAddr c
  let b := s.readMem a 1024
  let x := recordClaims b
  let own := s.parkedOf (x.tenant, x.job)
  let tiles := s.tilesOfImages own
  let acc := s.readMem (a + 1024) (sectionLen tiles.length)
  let on := recordRings b
  let s1 := (((s.ctxBegin 3 c).puts (recordRegs c b)).put (R.CTX_STAT_state c) 3).ctxCountersClear c
  let s2 := tiles.zipIdx.foldl (fun u t => u.tileWriteBack t.1 (acc.drop (64 + 20480 * t.2))) s1
  let s3 := (s2.writeMem a (List.replicate 4 0)).ctxMove c a false (1024 + sectionLen tiles.length)
  let ring : RingSt := { RingSt.none with nextAccept := leAt b 0x56 2, posted := recordSlots b true }
  let s4 := if on then (s3.setRing c ring).put (R.CMD_RING_CTRL_en c) 1 else s3.setRing c RingSt.none
  let s5 := s4.bindingMsg true c (s.frame + 1)
  { s5 with
    img := { s5.img with resident := s5.img.resident.map (fun (y : Nat × ResImage) =>
      if own.contains y.1 then (y.1, { y.2 with parked := false, ctx := c }) else y) },
    saved := s5.saved.filter (fun y => y.pair != (x.tenant, x.job)),
    restoring := s5.restoring ++ [(c, if on then recordSlots b false else [])] }

def State.ctxRestore (s : State) (c : Nat) : State :=
  let b := s.readMem (s.saveAddr c) 1024
  let x := recordClaims b
  s.ctxOp 3 c
    ([(decide (s.ctxState c ≠ 0), 1), (s.recordBad c, 8), (!s.saved.any (fun y => y.fits x), 9), (s.benchLimit c x.tenant, 10),
      (!s.saveAreaOk c x.windows, 2)] ++ claimChecks x (s.otherClaims c (some (x.tenant, x.job))) ++
      [(recordRings b && !(s.puts (recordRegs c b)).ringsOk c, 8)])
    (fun u => u.ctxRestored c)

/-- RESTORE. -/
def execRestore (ctx : Fin 64) (s : State) : Host.Outcome State Fault Refusal :=
  .next (if s.blockUp 8 then s.ctxRestore ctx.val else s)

/-! ### DISCARD and reserved op codes -/

def State.ctxDiscard (s : State) (c : Nat) : State :=
  let pair := (s.get R.CTX_OP_ARG_tenant, s.get R.CTX_OP_ARG_job)
  match s.saved.find? (fun x => x.pair == pair) with
  | none => s.ctxOp 6 c [(!s.running, 11), (true, 12)] id
  | some x => s.ctxOp 6 c [] (fun u =>
      let u1 := (u.parkedOf pair).foldl State.releaseImage u
      (({ u1 with saved := u1.saved.filter (fun y => y.pair != pair) }).syncClear x.syncBase x.syncCount).ctxEnd 6 c 0)

/-- DISCARD: the pair stands in CTX_OP_ARG; the slot named is not used. -/
def execDiscard (s : State) : Host.Outcome State Fault Refusal :=
  .next (if s.blockUp 8 then s.ctxDiscard 0 else s)

/-- CTX_RESERVED_OP: op codes 0 and 7. -/
def execCtxReservedOp (op : BitVec 3) (ctx : Fin 64) (s : State) : Host.Outcome State Fault Refusal :=
  .next (if s.blockUp 8 = true ∧ (op.toNat = 0 ∨ op.toNat = 7) then s.ctxOp op.toNat ctx.val [(true, 11)] id else s)

/-- A write of CTX_OP. -/
def State.ctxOpWrite (s : State) (op c : Nat) : State :=
  match op with
  | 1 => s.ctxCreate c
  | 2 => s.ctxSave c
  | 3 => s.ctxRestore c
  | 4 => s.ctxRelease c
  | 5 => s.ctxAbort c
  | 6 => s.ctxDiscard c
  | n => s.ctxOp n c [(true, 11)] id

/-! ### Frame marks and warm resets -/

/-- Slots that become FREE, and restored ones that become ACTIVE, at a frame mark (R412, R425, R428). -/
def State.ctxMark (s : State) : State :=
  let s1 := s.freeing.foldl (fun u c => (u.put (R.CTX_STAT_state c) 0).ctxEnd (u.get R.CTX_OP_STAT_op) c 0) { s with freeing := [] }
  s1.restoring.foldl (fun u x =>
    x.2.foldl (fun v slot => v.acceptSlot x.1 slot (v.frame, 0)) ((u.put (R.CTX_STAT_state x.1) 1).ctxEnd 3 x.1 0))
    { s1 with restoring := [] }

/-- A warm reset (R132, R133, R436, R438): every descriptor ends ABORTED, every slot is FREE, and every image goes. -/
def State.ctxWarmReset (s : State) : State :=
  let s1 := (List.range 64).foldl (fun u c => u.abortDescs c 0) s
  let s2 := (s1.img.resident.map Prod.fst).foldl State.dropImage s1
  let bound := (List.range 64).filter (fun c => [1, 2].contains (s2.ctxState c) || (s2.ctxState c == 4 && !s2.freeing.contains c))
  let s3 := bound.foldl (fun u c => u.bindingMsg false c u.frame) s2
  { s3 with saved := [], freeing := [], restoring := [], rings := [], descs := [] }

end Sys2Proof.Machine
end

