-- ==== Sys2Proof/Machine/Journal.lean ====
section
/-!
DEFINITION. Sys2Proof/Machine/Journal.lean: the journal of bank B (R607–R616): what a commit holds, how its block and the
sector header are written, checkpoints, deferral, and the rebuild at island boot.
-/

namespace Sys2Proof.Machine

/-! ### Totals -/

/-- A rational quantity as whole thousandths' thousandth units: `x / d`, rounded down. -/
def wholeUnits (x : Rat) (d : Nat) : Nat := (x / d).floor.toNat

/-- The eleven quantities of PKG_DELTA in order (R610), in mJ and mL. -/
def MtrSt.totals (m : MtrSt) : List Nat :=
  [m.chans[0].heat / 1000000, m.chans[1].heat / 1000000, m.elec / 1000000, m.ovhElec / 1000000, m.ovhHeat / 1000000,
   m.benchElec / 1000000, m.benchHeat / 1000000, wholeUnits m.chans[0].vol 1000, wholeUnits m.chans[1].vol 1000,
   wholeUnits m.chans[0].rev 1000, wholeUnits m.chans[1].rev 1000]

/-- Error seconds of both loops. -/
def State.errTotals (s : State) : List Nat := [s.get (R.MTR_CH_ERRT 0), s.get (R.MTR_CH_ERRT 1)]

/-- Tenants with a share not yet journalled, in ascending order (R573). -/
def MtrSt.dirtyTenants (m : MtrSt) : List Nat :=
  (List.range 1024).filter (fun t =>
    SMap.get 0 m.tenElec t / 1000000 != SMap.get 0 m.comElec t || SMap.get 0 m.tenHeat t / 1000000 != SMap.get 0 m.comHeat t)

def MtrSt.dirty (m : MtrSt) (errs : List Nat) : Bool := m.totals != m.committed || errs != m.comErr

/-- The PKG_DELTA record (R610). -/
def State.pkgDelta (s : State) : JRecord :=
  recordOf 1 0 (s.get R.MTR_INTERVAL) (s.rtcBytes ++ s.frameBytes ++ toLE 2 0 ++
    (s.mtr.totals.zip s.mtr.committed).flatMap (fun p => toLE 4 (p.1 - p.2)) ++
    (s.errTotals.zip s.mtr.comErr).flatMap (fun p => toLE 2 (p.1 - p.2)) ++ toLE 4 s.mtr.firstInterval)

/-- A TEN_DELTA record (R610). -/
def State.tenDelta (s : State) (t : Nat) : JRecord :=
  recordOf 2 t (s.get R.MTR_INTERVAL)
    (toLE 4 (SMap.get 0 s.mtr.tenElec t / 1000000 - SMap.get 0 s.mtr.comElec t) ++
     toLE 4 (SMap.get 0 s.mtr.tenHeat t / 1000000 - SMap.get 0 s.mtr.comHeat t))

/-- Everything pending, as records: the package's, then the tenants', then the others (R573, R610). -/
def State.pendingRecords (s : State) : List JRecord :=
  (if s.mtr.dirty s.errTotals then [s.pkgDelta] else []) ++ s.mtr.dirtyTenants.map s.tenDelta ++ s.isl.records

/-- Records added to a commit until one does not fit, which begins the next (R610). -/
def packRecords : List Byte → List JRecord → List (List Byte)
  | c, [] => [c]
  | c, r :: rs => if c.length + r.length ≤ 992 then packRecords (c ++ r) rs else c :: packRecords r rs

/-- Records gathered into commits of at most 992 bytes, in order (R610). -/
def chunkRecords : List JRecord → List (List Byte)
  | [] => []
  | r :: rs => packRecords r rs

/-! ### Blocks and sectors -/

/-- The first word of line `n` of a ring sector. -/
def ringLine (sector line : Nat) : Nat := sectorWord true sector + 8 * line

/-- A commit block: 32-byte header, then records (R609). -/
def State.commitBlock (s : State) (kind : Nat) (recs : List Byte) : List Byte :=
  let lines := (32 + recs.length + 63) / 64
  let head := toLE 4 0x434A5754 ++ toLE 1 kind ++ toLE 1 lines ++ toLE 2 recs.length ++
    toLE 4 (s.get R.FLS_JRNL_last_commit + 1) ++ toLE 4 (s.get R.MTR_INTERVAL) ++ s.rtcBytes ++ s.frameBytes ++
    toLE 2 (s.get R.MTR_STAT_time_unknown + 2 * b2n s.fls.held + 4 * b2n s.fls.short)
  head ++ toLE 4 (crc32 (head ++ recs)) ++ recs

/-- A sector's header line is blank. -/
def FlsSt.headerBlank (f : FlsSt) (n : Nat) : Bool := f.bytes (ringLine n 0) 64 == List.replicate 64 0xFF

/-- The open sector gets its header (R608). -/
def State.closeSector (s : State) : State :=
  let h := s.get R.FLS_RING_head
  let head := toLE 4 0x534A5754 ++ toLE 2 1 ++ toLE 2 (s.fls.headLine - 1) ++ toLE 4 s.fls.sectorSeq ++
    toLE 4 s.fls.headFirst ++ toLE 4 (s.get R.FLS_JRNL_last_commit) ++ toLE 4 (s.get R.FLS_WEAR_rotations) ++
    List.replicate 36 0
  let crc := crc32 (s.fls.bytes (ringLine h 1) 1984 ++ head)
  if s.fls.headLine ≤ 1 ∨ s.fls.headerBlank h = false then s else s.flashBytes (ringLine h 0) (head ++ toLE 4 crc)

/-- The next erased sector opens; none when no sector is erased ahead (R607, R612). -/
def State.openNext (s : State) : Option State :=
  let ahead := s.get R.FLS_RING_erased_ahead
  let h := s.get R.FLS_RING_head
  if ahead = 0 then none
  else
    let n := s.ringNext h
    let s1 := s.puts [(R.FLS_RING_head, n), (R.FLS_RING_erased_ahead, ahead - 1)]
    let s2 := if n ≤ h then
        let r := s1.get R.FLS_WEAR_rotations + 1
        (s1.put R.FLS_WEAR_rotations r).put R.FLS_WEAR_endurance_warn (b2n (decide (90000 ≤ r)))
      else s1
    some { s2 with fls := { s2.fls with headLine := 1, headFirst := s2.get R.FLS_JRNL_last_commit + 1,
                                        sectorSeq := s2.fls.sectorSeq + 1 } }

/-- A block written at the head's next free line (R609); the last word programmed is the fourth of its header. -/
def State.writeBlock (s : State) (bs : List Byte) : State :=
  let s1 := s.flashBytes (ringLine (s.get R.FLS_RING_head) s.fls.headLine) bs
  let s2 := ({ s1 with fls := { s1.fls with headLine := s.fls.headLine + (bs.length + 63) / 64 } } : State).flsLast 1 0 true
    (s.get R.FLS_RING_head) (8 * s.fls.headLine + 3)
  (s2.put R.FLS_JRNL_last_commit (s.get R.FLS_JRNL_last_commit + 1)).count R.FLS_CNT_commits 1

/-- A read-back went bad (R609): the records were programmed, the header was not. Whether a program ended VERIFY (R590) or
corrections reached the warning level (R593, R595) is free. -/
def State.badCommit (s : State) (block : List Byte) : State :=
  let h := s.get R.FLS_RING_head
  let s1 := s.flashBytes (ringLine h s.fls.headLine + 4) (block.drop 32)
  let s2 := { s1 with fls := { s1.fls with headLine := s.fls.headLine + (block.length + 63) / 64 } }
  let p := s2.free
  let warn := s.get R.FLS_ECC_CFG_warn
  if p.1 % 2 = 0 then (p.2.put R.FLS_STAT_verify_fail 1).flsLast 1 3 true h (8 * s.fls.headLine + 4)
  else p.2.free.2.eccReport true h (warn + p.2.free.1 % (9 - warn)) 0

/-- Room for a block: the open sector, or the next when the block does not fit it (R608). -/
def State.roomFor (s : State) (block : List Byte) : Option State :=
  if 32 < s.fls.headLine + (block.length + 63) / 64 then s.closeSector.openNext else some s

/-- One commit (R608, R609): after a bad read-back the sector is closed, and the commit is written again in the next. None when
there is no room. -/
def State.commitOne (s : State) (kind : Nat) (recs : List Byte) (bad : Bool) : Option State :=
  match s.roomFor (s.commitBlock kind recs) with
  | none => none
  | some t =>
    if bad then
      match (t.badCommit (t.commitBlock kind recs)).closeSector.openNext with
      | none => none
      | some u => some (u.writeBlock (u.commitBlock kind recs))
    else some (t.writeBlock (t.commitBlock kind recs))

def State.commitMany (s : State) : List (Nat × List Byte) → Bool → Option State
  | [], _ => some s
  | (k, c) :: cs, bad => match s.commitOne k c bad with
    | none => none
    | some t => t.commitMany cs false

/-- The key under which a record is kept for checkpoints (R611); none for a record that is not. -/
def latestKey (r : JRecord) : Option Nat :=
  let t := leAt r 0 1
  let tag := leAt r 2 2
  if t = 6 ∨ t = 7 ∨ t = 0xB then some (t * 65536)
  else if t = 0xA ∨ t = 0xC then some (t * 65536 + tag)
  else none

def keepLatest (m : SMap JRecord) (r : JRecord) : SMap JRecord :=
  match latestKey r with | some k => SMap.set [] m k r | none => m

/-- Deltas and records are journalled (R573): the pending ones are gone. -/
def State.markCommitted (s : State) : State :=
  { s with
    mtr := { s.mtr with committed := s.mtr.totals, comErr := s.errTotals,
                        comElec := s.mtr.tenElec.foldl (fun m p => SMap.set 0 m p.1 (p.2 / 1000000)) s.mtr.comElec,
                        comHeat := s.mtr.tenHeat.foldl (fun m p => SMap.set 0 m p.1 (p.2 / 1000000)) s.mtr.comHeat,
                        firstInterval := s.get R.MTR_INTERVAL },
    isl := { s.isl with records := [] },
    fls := { s.fls with held := false, short := false, latest := s.isl.records.foldl keepLatest s.fls.latest } }

/-- What is pending stays in SRAM, and is merged with what follows (R612). -/
def State.holdCommit (s : State) : State :=
  let t := if s.fls.held then s else s.count R.FLS_CNT2_deferred 1
  { t with fls := { t.fls with held := true } }

/-- Everything pending is written, or held in SRAM where there is no room or no program may run (R65, R523, R612). -/
def State.writePending (s : State) (bad : Bool) : State :=
  if !s.programAllowed then s.holdCommit
  else match s.commitMany ((chunkRecords s.pendingRecords).map (fun c => (0, c))) bad with
    | none => s.holdCommit
    | some t => ({ t with isl := { t.isl with commitDeferred := false } } : State).markCommitted

/-- A journal commit of everything pending (R522, R573, R609, R612), once the rebuild has ended (R613). An active erase is
suspended for it (R615). -/
def State.commitPending (s : State) (bad : Bool) : State :=
  if !s.isl.rebuilt then s
  else if s.pendingRecords.isEmpty then
    if s.isl.mode = .aux then { s with isl := { s.isl with commitDeferred := false } } else s
  else s.meanwhile (fun t => t.writePending bad)

/-- The commit a loss of VAUX deferred (R522), or one held for want of space (R612), goes before any other flash work in AUX. -/
def State.journalFirst (s : State) : State :=
  if s.isl.mode = .aux ∧ s.isl.fw.isSome ∧ (s.isl.commitDeferred ∨ s.fls.held) then s.commitPending false else s

/-! ### Checkpoints (R611) -/

/-- Offsets of the calibration registers, CAL_LOCK among them (R575, R610). -/
def calOffsets : List Nat :=
  [0x14, 0x1C] ++ (List.range 2).flatMap (fun n => [0x20 + 0x20 * n, 0x24 + 0x20 * n, 0x28 + 0x20 * n, 0x3C + 0x20 * n]) ++
  (List.range 2).flatMap (fun n => (List.range 8).map (fun k => 0x60 + 0x20 * n + 4 * k)) ++
  (List.range 4).map (fun r => 0xB0 + 4 * r) ++ (List.range 14).map (fun x => 0x100 + 4 * x) ++
  (List.range 14).map (fun x => 0x140 + 4 * x)

/-- A CAL record (R610). -/
def State.calRecord (s : State) (off old new : Nat) : JRecord :=
  recordOf 3 off (s.get R.MTR_INTERVAL) (toLE 4 old ++ toLE 4 new ++ s.rtcBytes ++ toLE 4 0)

def State.checkpointRecords (s : State) : List JRecord :=
  let i := s.get R.MTR_INTERVAL
  [recordOf 0x10 0 i (s.mtr.totals.flatMap (toLE 8) ++ s.errTotals.flatMap (toLE 4) ++ toLE 4 (s.get R.MTR_EVT_ACT) ++
    toLE 4 (s.get R.FLS_WEAR_rotations))] ++
  ((List.range 1024).filter (fun t => SMap.get 0 s.mtr.tenElec t / 1000000 != 0 || SMap.get 0 s.mtr.tenHeat t / 1000000 != 0)).map
    (fun t => recordOf 0x11 t i (toLE 8 (SMap.get 0 s.mtr.tenElec t / 1000000) ++ toLE 8 (SMap.get 0 s.mtr.tenHeat t / 1000000))) ++
  calOffsets.map (fun o => s.calRecord o (s.regWord (0x410000 + o)) (s.regWord (0x410000 + o))) ++
  s.fls.latest.map (fun p => p.2)

/-- A checkpoint: commits of kind 1, the last of kind 2, and no other between them. Pending deltas are committed first, so that
its totals are those of its first part. None when there is no room. -/
def State.checkpointed (s : State) : Option State :=
  let s0 := s.commitPending false
  let chunks := chunkRecords s0.checkpointRecords
  let kinds := (List.replicate (chunks.length - 1) 1) ++ [2]
  match s0.commitMany (kinds.zip chunks) false with
  | none => none
  | some t =>
    let t1 := t.put R.FLS_CKPT_first_commit (s0.get R.FLS_JRNL_last_commit + 1)
    some { t1 with fls := { t1.fls with checkpointDue := false, ckptInterval := t1.get R.MTR_INTERVAL } }

/-- A checkpoint that finds no room stays due. -/
def State.checkpoint (s : State) : State :=
  match s.checkpointed with
  | some t => t
  | none =>
    let t := s.commitPending false
    { t with fls := { t.fls with checkpointDue := true } }

/-- The sector that holds the first part of a checkpoint written from `s` on (R607): the head, or the next sector when the
first part does not fit the head. -/
def State.firstPartSector (s : State) : Nat :=
  let s0 := s.commitPending false
  match chunkRecords s0.checkpointRecords with
  | [] => s0.get R.FLS_RING_head
  | c :: _ =>
    if 32 < s0.fls.headLine + (32 + c.length + 63) / 64 then s0.ringNext (s0.get R.FLS_RING_head) else s0.get R.FLS_RING_head

/-- The first stale ring sector after those erased ahead is erased, after a checkpoint when it is the tail; the tail stays where the
checkpoint finds no room (R607). -/
def State.eraseAhead (s : State) : State :=
  let ahead := s.get R.FLS_RING_erased_ahead
  let target := s.ringAfter (ahead + 1) (s.get R.FLS_RING_head)
  if 4 ≤ ahead then s
  else if !s.eraseAllowed then s.eraseRefused 2 true target
  else if target = s.get R.FLS_RING_tail then
    match s.checkpointed with
    | some t => (t.put R.FLS_RING_tail s.firstPartSector).eraseStart true target
    | none => s.checkpoint
  else s.eraseStart true target

/-- ERASE_AHEAD (R607), in AUX, with the flash idle and the journal rebuilt (R613). -/
def execEraseAhead (s : State) : Host.Outcome State Fault Refusal :=
  .next (if s.isl.mode != .aux || !s.isl.rebuilt || s.fls.active.isSome || !s.fls.suspended.isEmpty then s
    else s.journalFirst.eraseAhead)

/-- A commit in HOLD would not end before VHOLD falls to 2.4 V: it takes 8 ms at most (R65, R522). -/
def State.commitTooLate (s : State) : Bool := s.isl.mode == .hold && decide (s.get R.BATT_BUDGET_ms < 8)

/-- JOURNAL_COMMIT (R522, R523, R573): the pending deltas and records are written; a commit in HOLD ends in STANDBY, and one that
could not finish is deferred. None starts before the rebuild of R613 has run, and none in ROM mode. -/
def execJournalCommit (readbackBad : Bool) (s : State) : Host.Outcome State Fault Refusal :=
  .next (if !s.islandUp then s
    else
      let s0 := if s.commitTooLate then { s with isl := { s.isl with commitDeferred := true } } else s
      let s1 := if s0.isl.fw.isNone || (s0.isl.commitDeferred && s0.isl.mode != .aux) then s0 else s0.commitPending readbackBad
      let s2 := if s1.isl.mode = .aux ∧ s1.isl.fw.isSome ∧ s1.isl.rebuilt ∧ s1.fls.active.isNone ∧
            (s1.fls.checkpointDue ∨ s1.fls.ckptInterval + 96 ≤ s1.get R.MTR_INTERVAL) then
          s1.checkpoint else s1
      if s2.isl.mode = .hold then { s2 with isl := { s2.isl with mode := .standby, runOn := false } } else s2)

/-! ### Rebuild (R613) -/

/-- A valid commit found in the ring. -/
structure FoundCommit where
  seq : Nat
  kind : Nat
  interval : Nat
  sector : Nat
  line : Nat
  lines : Nat
  recs : List Byte
  deriving DecidableEq, Repr

/-- The commit block at a line, if its magic, sizes and CRC hold (R609). -/
def FlsSt.commitAt (f : FlsSt) (sector line : Nat) : Option FoundCommit :=
  let h := f.bytes (ringLine sector line) 32
  let n := leAt h 6 2
  if leAt h 0 4 = 0x434A5754 ∧ 1 ≤ leAt h 5 1 ∧ leAt h 5 1 ≤ 16 ∧ 8 ≤ n ∧ n ≤ 992 then
    let recs := (f.bytes (ringLine sector line) (32 + n)).drop 32
    if leAt h 0x1C 4 = crc32 (h.take 28 ++ recs) ∧
        !((List.range (8 * leAt h 5 1)).any (fun i => f.isTorn (ringLine sector line + i))) then
      some ⟨leAt h 8 4, leAt h 4 1, leAt h 12 4, sector, line, leAt h 5 1, recs⟩
    else none
  else none

/-- The commits of a sector from a line on. -/
def FlsSt.scanLines (f : FlsSt) (sector : Nat) : Nat → Nat → List FoundCommit
  | 0, _ => []
  | fuel + 1, line =>
    if 32 ≤ line then []
    else match f.commitAt sector line with
      | some c => c :: f.scanLines sector fuel (line + c.lines)
      | none => f.scanLines sector fuel (line + 1)

/-- Every valid commit of the ring, by sequence number. -/
def FlsSt.allCommits (f : FlsSt) : List FoundCommit :=
  sortBy (fun a b => decide (a.seq < b.seq))
    (((List.range 253).map (fun i => i + 3)).flatMap (fun n =>
      if f.sectorBlank true n || f.retired.contains n || f.unmatched.contains (true, n) then [] else f.scanLines n 31 1))

/-- Records of a commit. -/
def splitRecords : Nat → List Byte → List JRecord
  | 0, _ => []
  | fuel + 1, bs =>
    let n := 8 * leAt bs 1 1
    if n = 0 ∨ bs.length < n then [] else bs.take n :: splitRecords fuel (bs.drop n)

/-- One record applied to the rebuilt registers (R613.4). -/
def State.applyRecord (s : State) (r : JRecord) : State :=
  let tag := leAt r 2 2
  let s := { s with fls := { s.fls with latest := keepLatest s.fls.latest r } }
  let q := fun (i : Nat) => leAt r (20 + 4 * i) 4
  match leAt r 0 1 with
  | 1 =>
    let c0 := s.mtr.chans[0]
    let c1 := s.mtr.chans[1]
    let m := { s.mtr with
      chans := #v[{ c0 with heat := c0.heat + 1000000 * q 0, vol := c0.vol + 1000 * q 7, rev := c0.rev + 1000 * q 9 },
                  { c1 with heat := c1.heat + 1000000 * q 1, vol := c1.vol + 1000 * q 8, rev := c1.rev + 1000 * q 10 }],
      elec := s.mtr.elec + 1000000 * q 2, ovhElec := s.mtr.ovhElec + 1000000 * q 3,
      ovhHeat := s.mtr.ovhHeat + 1000000 * q 4, benchElec := s.mtr.benchElec + 1000000 * q 5,
      benchHeat := s.mtr.benchHeat + 1000000 * q 6 }
    (({ s with mtr := m } : State).count (R.MTR_CH_ERRT 0) (leAt r 64 2)).count (R.MTR_CH_ERRT 1) (leAt r 66 2)
  | 2 => { s with mtr := { s.mtr with
      tenElec := SMap.update 0 s.mtr.tenElec tag (fun x => x + 1000000 * leAt r 8 4),
      tenHeat := SMap.update 0 s.mtr.tenHeat tag (fun x => x + 1000000 * leAt r 12 4) } }
  | 3 => s.setRegWord (0x410000 + tag) (leAt r 12 4)
  | 6 => { s with pwr := { s.pwr with dawnRec := ⟨leAt r 2 1, leAt r 3 1, leAt r 8 1, leAt r 10 2, true⟩ } }
  | 7 => { s with pwr := { s.pwr with
      stopRec := ⟨bits tag 0 4, bitAt tag 4, bits tag 5 3, leAt r 12 6, true⟩ } }
  | 0xA => if tag = 1 then { s with pwr := { s.pwr with dawnRec := { s.pwr.dawnRec with valid := false } } }
           else { s with pwr := { s.pwr with stopRec := { s.pwr.stopRec with valid := false } } }
  | 0xB => s.put R.MBUS_CFG_primary tag
  | 0xC => if s.fls.retired.contains tag then s
    else ({ s with fls := { s.fls with retired := tag :: s.fls.retired } } : State).count R.FLS_RING_retired 1
  | 0x10 =>
    let t := fun (i : Nat) => leAt r (8 + 8 * i) 8
    let c0 := s.mtr.chans[0]
    let c1 := s.mtr.chans[1]
    let m := { s.mtr with
      chans := #v[{ c0 with heat := 1000000 * t 0, vol := 1000 * t 7, rev := 1000 * t 9 },
                  { c1 with heat := 1000000 * t 1, vol := 1000 * t 8, rev := 1000 * t 10 }],
      elec := 1000000 * t 2, ovhElec := 1000000 * t 3, ovhHeat := 1000000 * t 4, benchElec := 1000000 * t 5,
      benchHeat := 1000000 * t 6, tenElec := [], tenHeat := [] }
    ({ s with mtr := m } : State).puts [(R.MTR_CH_ERRT 0, leAt r 96 4), (R.MTR_CH_ERRT 1, leAt r 100 4),
      (R.FLS_WEAR_rotations, leAt r 108 4), (R.FLS_WEAR_endurance_warn, b2n (decide (90000 ≤ leAt r 108 4)))]
  | 0x11 => { s with mtr := { s.mtr with tenElec := SMap.set 0 s.mtr.tenElec tag (1000000 * leAt r 8 8),
                                         tenHeat := SMap.set 0 s.mtr.tenHeat tag (1000000 * leAt r 16 8) } }
  | _ => s

def State.applyCommit (s : State) (c : FoundCommit) : State :=
  (splitRecords 124 c.recs).foldl State.applyRecord s

/-- The commits from the first part of the latest complete checkpoint on: the parts, then the deltas after them. With no
checkpoint, every commit. -/
def fromCheckpoint (cs : List FoundCommit) : List FoundCommit :=
  match (cs.filter (fun c => c.kind == 2)).getLast? with
  | none => cs.filter (fun c => c.kind == 0)
  | some last =>
    let parts := ((cs.filter (fun c => decide (c.seq ≤ last.seq))).reverse.tail).takeWhile (fun c => c.kind == 1)
    parts.reverse ++ [last] ++ cs.filter (fun c => decide (last.seq < c.seq) && c.kind == 0)

/-- The log, read at boot (R604–R606): the active sector by its generation, the entries of both, the older first, and the unmatched
BEGINs. -/
def State.readLog (s : State) : State :=
  let head := fun (n : Nat) => s.fls.word (sectorWord true n)
  let valid := fun (n : Nat) => decide (bits (head n) 0 8 = 0x48)
  let gen := fun (n : Nat) => bits (head n) 32 32
  if !valid 0 && !valid 1 then
    -- a flash whose log pair is blank, new or after a mass erase: the log starts at generation 1
    let s1 := s.flashSet (sectorWord true 0) (logEntry 0x48 false 0 1)
    { s1 with fls := { s1.fls with
        logSector := 0, logWord := 1, logSeq := 1, logGen := 1, unmatched := [],
        massPart := if s.fls.sectorBlank true 0 || s.fls.sectorBlank true 1 then s.fls.massPart else some 0 } }
  else
    let act := if valid 1 && (!valid 0 || decide (gen 0 < gen 1)) then 1 else 0
    let used := fun (n : Nat) =>
      ((List.range 255).map (fun i => s.fls.word (sectorWord true n + 1 + i))).takeWhile (fun w => w != blankWord)
    let entries := ((if valid (1 - act) then used (1 - act) else []) ++ used act).filter (fun w => [0x42, 0x44, 0x4D].contains (bits w 0 8))
    let place := fun (w : Nat) => (bitAt w 8, bits w 9 8)
    let open_ := entries.foldl (fun (l : List (Bool × Nat)) w =>
      if bits w 0 8 = 0x42 then place w :: l.filter (fun u => u != place w)
      else if bits w 0 8 = 0x44 then l.filter (fun u => u != place w) else l) []
    { s with fls := { s.fls with logSector := act, logWord := 1 + (used act).length,
                                 logSeq := 1 + (entries.map (fun w => bits w 32 32)).foldl max 0, logGen := gen act,
                                 unmatched := open_,
                                 massPart := if entries.any (fun w => bits w 0 8 == 0x4D) then some 0 else s.fls.massPart } }

/-- Sectors blank in a row after `n` (R607). -/
def State.blankAhead (s : State) : Nat → Nat → Nat
  | 0, _ => 0
  | fuel + 1, n =>
    let m := s.ringNext n
    if s.fls.sectorBlank true m && m != s.get R.FLS_RING_tail then 1 + s.blankAhead fuel m else 0

/-- Where the next commit goes (R613.5). With no erased sector to open, the head stays full until one is erased ahead. -/
def State.placeHead (s : State) (cs : List FoundCommit) : State :=
  match cs.getLast? with
  | none => { s.puts [(R.FLS_RING_head, 3), (R.FLS_RING_tail, 3)] with fls := { s.fls with
      headLine := if s.fls.sectorBlank true 3 then 1 else 32, headFirst := 1 } }
  | some c =>
    let base := sectorWord true c.sector
    let lastWord := ((List.range 256).filter (fun i => s.fls.word (base + i) != blankWord)).foldl max 0
    let after := 8 * (c.line + c.lines)
    let line := max (c.line + c.lines) ((lastWord + 8) / 8)
    let s1 := s.puts [(R.FLS_RING_head, c.sector), (R.FLS_JRNL_last_commit, c.seq)]
    let s2 := { s1 with fls := { s1.fls with headLine := line, headFirst := (s.fls.scanLines c.sector 31 1).foldl (fun m x => min m x.seq) c.seq } }
    let s3 := s2.closeSector
    let n := s3.ringNext c.sector
    if s.fls.headerBlank c.sector ∧ lastWord < after ∧ line ≤ 30 then s2
    else if s3.fls.sectorBlank true n = false then { s3 with fls := { s3.fls with headLine := 32 } }
    else
      { s3.put R.FLS_RING_head n with fls := { s3.fls with headLine := 1, headFirst := c.seq + 1, sectorSeq := s3.fls.sectorSeq + 1 } }

/-- A non-blank line of the ring that no valid commit covers: an invalid commit (R611). -/
def FlsSt.anyInvalid (f : FlsSt) (cs : List FoundCommit) : Bool :=
  ((List.range 253).map (fun i => i + 3)).any (fun n =>
    !f.sectorBlank true n && !f.retired.contains n && !f.unmatched.contains (true, n) &&
    (List.range 31).any (fun l =>
      !(cs.any (fun c => c.sector == n && decide (c.line ≤ l + 1 ∧ l + 1 < c.line + c.lines))) &&
      (List.range 8).any (fun i => f.word (ringLine n (l + 1) + i) != blankWord)))

/-- The highest sequence number of a sector header whose magic holds (R608). -/
def FlsSt.lastSectorSeq (f : FlsSt) : Nat :=
  (((List.range 253).map (fun i => f.bytes (ringLine (i + 3) 0) 16)).filter (fun h => leAt h 0 4 == 0x534A5754)).foldl
    (fun m h => max m (leAt h 8 4)) 0

/-- The rebuild at island boot (R613), after the log recovery of R606. -/
def State.rebuild (s : State) : State :=
  let s2 := s.put R.FLS_PROT_level s.fls.protLevel
  let cs := s2.fls.allCommits
  let s2 := { s2 with fls := { s2.fls with sectorSeq := s2.fls.lastSectorSeq + 1 } }
  let use := fromCheckpoint cs
  let s3 := use.foldl State.applyCommit s2
  let s4 := s3.put R.MTR_INTERVAL (cs.foldl (fun m c => max m c.interval) (s3.get R.MTR_INTERVAL))
  let tail := match use with | c :: _ => c.sector | [] => 3
  let s5 := (s4.placeHead cs).puts [(R.FLS_RING_tail, tail),
    (R.FLS_CKPT_first_commit, match use with | c :: _ => if c.kind = 0 then 0 else c.seq | [] => 0)]
  let s6 := s5.put R.FLS_RING_erased_ahead (s5.blankAhead 253 (s5.get R.FLS_RING_head))
  let s7 := { s6 with fls := { s6.fls with checkpointDue := s6.fls.checkpointDue || s2.fls.anyInvalid cs },
                      isl := { s6.isl with rebuilt := true } }
  { s7 with mtr := { s7.mtr with committed := s6.mtr.totals, comErr := s6.errTotals,
                                 comElec := s6.mtr.tenElec.foldl (fun m p => SMap.set 0 m p.1 (p.2 / 1000000)) [],
                                 comHeat := s6.mtr.tenHeat.foldl (fun m p => SMap.set 0 m p.1 (p.2 / 1000000)) [],
                                 firstInterval := s6.get R.MTR_INTERVAL } }

end Sys2Proof.Machine
end

