-- ==== Sys2Proof/Machine/Metering.lean ====
section
/-!
DEFINITION. Sys2Proof/Machine/Metering.lean: heat and energy metering (spec/17): flow, temperature, heat, electrical energy,
attribution, time and intervals, calibration, events. Transit times are counted in the TDC's 10 ps steps.
-/

namespace Sys2Proof.Machine

/-- Metering runs: the run domain is on (R518), island firmware runs (R527), and the journal has been rebuilt (R613). -/
def State.metering (s : State) : Bool := s.islandUp && s.isl.runOn && s.isl.fw.isSome && s.isl.rebuilt

/-- The schedule of HOLD and STANDBY is in force (R550). -/
def State.slowSchedule (s : State) : Bool := s.isl.mode != .aux

/-! ### Calibration (R558, R575) -/

/-- The calibration value in force: that of the last cycle start. -/
def State.cal (s : State) (f : Fld) : Nat :=
  match s.mtr.calPending.find? (fun p => p.1 == f.off - 0x410000) with
  | some p => bits p.2 f.lo f.w
  | none => s.get f

/-- raw × (1 + g / 2^20) + o, with o in units of `unit` (R558). -/
def State.corrected (s : State) (x : Nat) (raw unit : Rat) : Rat :=
  raw * (1 + (toSigned 32 (s.cal (R.MTR_GAIN x)) : Rat) / 1048576) + (toSigned 32 (s.cal (R.MTR_OFS x)) : Rat) * unit

/-- A rational rounded to the nearest integer, halves away from zero. -/
def roundRat (x : Rat) : Int := roundHalfAway x.num (x.den : Int)

/-- Calibration writes of one kind of cycle come into force. -/
def State.calStart (s : State) (temperature : Bool) : State :=
  let isTemp := fun (o : Nat) => decide (0x108 ≤ o ∧ o ≤ 0x114 ∨ 0x148 ≤ o ∧ o ≤ 0x154)
  { s with mtr := { s.mtr with calPending := s.mtr.calPending.filter (fun p => isTemp p.1 != temperature) } }

/-- A calibration write (R575); a locked block ignores it. -/
def State.calWrite (s : State) (off value : Nat) : State :=
  if !calOffsets.contains off || off == 0x1C || s.get R.MTR_CAL_LOCK_lock == 1 then s
  else
    let old := s.regWord (0x410000 + off)
    let s1 := (s.setRegWord (0x410000 + off) value).count R.MTR_CAL_CNT 1
    let s2 := s1.record (s1.calRecord off old (s1.regWord (0x410000 + off)))
    let pend := if s2.mtr.calPending.any (fun p => p.1 == off) then s2.mtr.calPending else (off, old) :: s2.mtr.calPending
    let unest := fun (c : ChanSt) (n : Nat) => if off = 0x24 + 0x20 * n then { c with estimated := false } else c
    { s2 with mtr := { s2.mtr with calPending := pend,
                                   chans := #v[unest s2.mtr.chans[0] 0, unest s2.mtr.chans[1] 1] } }

def execCalWrite (off : BitVec 12) (value : Word) (s : State) : Host.Outcome State Fault Refusal :=
  .next (s.calWrite off.toNat value.toNat)

/-- The lock sets, which is a calibration write as well: it is counted and journalled (R575, R610). -/
def State.calLock (s : State) : State :=
  if s.get R.MTR_CAL_LOCK_lock = 1 then s
  else ((s.put R.MTR_CAL_LOCK_lock 1).count R.MTR_CAL_CNT 1).record (s.calRecord 0x1C 0 1)

def execCalLock (s : State) : Host.Outcome State Fault Refusal := .next s.calLock

/-! ### Events (R576) -/

/-- An event's onset or clear: MTR_EVT, MTR_EVT_ACT and an EVENT record. -/
def State.mtrEvent (s : State) (b : Nat) (onset : Bool) : State :=
  if bitAt (s.get R.MTR_EVT_ACT) b == onset then s
  else
    let s1 := s.setBit R.MTR_EVT b
    let s2 := if onset then s1.setBit R.MTR_EVT_ACT b else s1.clrBit R.MTR_EVT_ACT b
    s2.note 4 (b + (if onset then 0x8000 else 0)) (s.rtcBytes ++ s.frameBytes ++ toLE 6 0)

def State.evtActive (s : State) (b : Nat) : Bool := bitAt (s.get R.MTR_EVT_ACT) b

/-! ### Flow (R552–R559) -/

def State.chan (s : State) (n : Fin 2) : ChanSt := s.mtr.chans[n]

def State.setChan (s : State) (n : Fin 2) (c : ChanSt) : State := { s with mtr := { s.mtr with chans := s.mtr.chans.set n c } }

/-- R553, with the window in 10 ns units. -/
def State.transitOk (s : State) (n : Nat) (stop : Option Int) : Bool :=
  match stop with
  | none => false
  | some t => decide ((1000 * s.cal (R.MTR_CH_WIN_open n) : Int) ≤ t ∧ t ≤ 1000 * s.cal (R.MTR_CH_WIN_close n) ∧ 2 < t)

/-- One transit judged: an invalid one is counted, and the sixteenth in a row is NO_ECHO (R553, R576). -/
def State.transit (s : State) (n : Fin 2) (stop : Option Int) : State :=
  let c := s.chan n
  if s.transitOk n.val stop then s.setChan n { c with invalidRun := 0 }
  else
    let s1 := (s.setChan n { c with invalidRun := c.invalidRun + 1, validRun := 0 }).count (R.MTR_CH_CNT_invalid n.val) 1
    if c.invalidRun + 1 = 16 ∧ !s1.evtActive n.val then (s1.count (R.MTR_CH_CNT_no_echo n.val) 1).mtrEvent n.val true else s1

/-- The estimate at the end of a swapped block (R554), with the OFFSET event of R576. -/
def State.swapEnd (s : State) (n : Fin 2) : State :=
  let c := s.chan n
  let c1 := { c with swapped := false, blockCount := 0, blockValid := 0, blockSum := 0 }
  match c.normalMean with
  | some dn =>
    if c.blockValid < 32 then s.setChan n c1
    else
      let oNew : Rat := (dn - (c.blockSum : Rat) / c.blockValid) / 2
      let far := decide (200 < oNew ∨ oNew < -200)
      let c2 := { c1 with offsetRun := if far then c.offsetRun + 1 else 0, offsetClear := if far then 0 else c.offsetClear + 1 }
      let s1 := if far ∧ 4 ≤ c2.offsetRun then (s.setChan n c2).mtrEvent (14 + n.val) true
        else if !far ∧ 4 ≤ c2.offsetClear then (s.setChan n c2).mtrEvent (14 + n.val) false
        else s.setChan n c2
      if s1.evtActive (14 + n.val) then s1
      else
        let o := if c.estimated then c.offset + (oNew - c.offset) / 16 else oNew
        (s1.setChan n { s1.chan n with offset := o, estimated := true }).put (R.MTR_CH_OFS_EST n.val)
          (fromSigned 16 (roundRat (10 * o)))
  | none => s.setChan n c1

/-- The block in progress takes a measurement; a normal block of 64 ends and a swapped one begins (R554). -/
def ChanSt.measured (c : ChanSt) (valid : Bool) (diff : Int) : ChanSt :=
  let c1 := { c with blockCount := c.blockCount + 1, blockValid := c.blockValid + b2n valid,
                     blockSum := c.blockSum + (if valid then diff else 0) }
  if c1.swapped || decide (c1.blockCount < 64) then c1
  else { c1 with swapped := true, blockCount := 0, blockValid := 0, blockSum := 0,
                 normalMean := if 32 ≤ c1.blockValid then some ((c1.blockSum : Rat) / c1.blockValid) else none }

/-- FLOW_MEASUREMENT (R552–R555): a downstream and an upstream transit on one channel. A swapped block already full ends
first. -/
def execFlowMeasurement (chan : Fin 2) (down up : Option Int) (s : State) : Host.Outcome State Fault Refusal :=
  .next (if !s.metering || s.cal (R.MTR_CH_K chan.val) == 0 then s
    else
      let s0 := if (s.chan chan).swapped && decide (64 ≤ (s.chan chan).blockCount) then s.swapEnd chan else s
      let s1 := (s0.transit chan down).transit chan up
      match down, up with
      | some d, some u =>
        let valid := s.transitOk chan.val down && s.transitOk chan.val up
        let c := s1.chan chan
        if valid then
          let c1 := { c.measured true (u - d) with cycle := c.cycle ++ [(c.swapped, u, d)], validRun := c.validRun + 1 }
          let s2 := s1.setChan chan c1
          if 8 ≤ c1.validRun then s2.mtrEvent chan.val false else s2
        else s1.setChan chan (c.measured false 0)
      | _, _ => s1.setChan chan ((s1.chan chan).measured false 0))

/-- SWAP_BLOCK_END (R554). -/
def execSwapBlockEnd (chan : Fin 2) (s : State) : Host.Outcome State Fault Refusal :=
  .next (if s.metering && (s.chan chan).swapped && decide (64 ≤ (s.chan chan).blockCount) then s.swapEnd chan else s)

/-- The eight points of a channel: breakpoint in 0.1 L/h, correction in 2^−16 (R556). -/
def State.segPoints (s : State) (n : Nat) : List (Nat × Int) :=
  (List.range 8).map (fun k => (s.cal (R.MTR_CH_SEG_q n k), toSigned 16 (s.cal (R.MTR_CH_SEG_corr n k))))

/-- Breakpoints strictly increasing. -/
def risingKeys : List (Nat × Int) → Bool
  | a :: b :: l => decide (a.1 < b.1) && risingKeys (b :: l)
  | _ => true

/-- Linear interpolation between points, held at the ends. -/
def interpolate : List (Rat × Rat) → Rat → Rat
  | [], _ => 0
  | [p], _ => p.2
  | a :: b :: l, x =>
    if x ≤ a.1 then a.2
    else if x ≤ b.1 then a.2 + (b.2 - a.2) * (x - a.1) / (b.1 - a.1)
    else interpolate (b :: l) x

/-- corr(|q|) in units of 2^−16 (R556). -/
def State.segCorr (s : State) (n : Nat) (q : Rat) : Rat :=
  let pts := s.segPoints n
  if risingKeys pts then interpolate (pts.map (fun p => ((p.1 : Rat), (p.2 : Rat)))) (10 * |q|) else 0

/-- R555: the cycle's q in L/h, and q_raw. -/
def State.flowOf (s : State) (n : Fin 2) : Rat × Rat :=
  let c := s.chan n
  let term := fun (m : Bool × Int × Int) =>
    let dt : Rat := (m.2.1 : Rat) - m.2.2 + (if m.1 then c.offset else -c.offset)
    (s.cal (R.MTR_CH_K n.val) : Rat) * dt / (m.2.1 * m.2.2 : Int) * 100000000000
  let raw := if c.cycle.isEmpty then c.qRaw else (c.cycle.map term).sum / c.cycle.length * 36 / 10000
  let seg := raw * (1 + s.segCorr n.val raw / 65536)
  let q := s.corrected n.val seg (1 / 1000)
  (if |q| * 10 < s.cal (R.MTR_CH_CUTOFF n.val) then 0 else q, raw)

/-! ### Temperature (R560) -/

/-- IEC 60751 R_T / R_0 at `n` µ°C. -/
def rtdRatio (n : Int) : Rat :=
  let t : Rat := (n : Rat) / 1000000
  let base := 1 + 39083 * t / 10000000 - 5775 * t * t / 10000000000
  if n < 0 then base - 4183 * (t - 100) * t * t * t / 1000000000000000 else base

/-- The largest whole µ°C in `[lo, lo + 2^k)` whose ratio does not exceed `r`, by halving. -/
def rtdFind (r : Rat) : Nat → Int → Int
  | 0, lo => lo
  | k + 1, lo => if rtdRatio (lo + 2 ^ k) ≤ r then rtdFind r k (lo + 2 ^ k) else rtdFind r k lo

/-- θ in mK above 0 °C, to 1 µK. -/
def rtdTheta (r : Rat) : Rat := (rtdFind r 29 (-200000000) : Rat) / 1000

def State.sensor (s : State) (n : Fin 4) : SensorSt := s.mtr.sensors[n]

def State.setSensor (s : State) (n : Fin 4) (x : SensorSt) : State :=
  { s with mtr := { s.mtr with sensors := s.mtr.sensors.set n x } }

/-- One sensor's reading (R560, R576). A reading that is open or short leaves the temperature as it was. -/
def State.sensorRead (s : State) (n : Fin 4) (r : Rtd) : State :=
  let ratio : Rat := ((r.plus + r.minus : Nat) : Rat) / 2000000000
  let isOpen := !r.excited || decide (18 / 10 < ratio)
  let isShort := decide (ratio < 8 / 10)
  let x := s.sensor n
  let x1 := { x with openRun := if isOpen then x.openRun + 1 else 0, openGood := if isOpen || isShort then 0 else x.openGood + 1,
                     shortRun := if isShort then x.shortRun + 1 else 0,
                     shortGood := if isOpen || isShort then 0 else x.shortGood + 1,
                     theta := if isOpen || isShort then x.theta else s.corrected (2 + n.val) (rtdTheta ratio) 1 }
  let s1 := s.setSensor n x1
  let s2 := if 2 ≤ x1.openRun then s1.mtrEvent (6 + n.val) true else if 2 ≤ x1.openGood then s1.mtrEvent (6 + n.val) false else s1
  let s3 := if 2 ≤ x1.shortRun then s2.mtrEvent (10 + n.val) true
    else if 2 ≤ x1.shortGood then s2.mtrEvent (10 + n.val) false else s2
  if s3.evtActive (6 + n.val) || s3.evtActive (10 + n.val) then s3.put (R.MTR_TEMP n.val) 0x80000000
  else s3.put (R.MTR_TEMP n.val) (fromSigned 32 (roundRat x1.theta))

/-- CROSSED of a loop (R576). -/
def State.crossed (s : State) (n : Fin 2) : State :=
  let c := s.chan n
  let tin := (s.mtr.sensors[2 * n.val]'(by omega)).theta
  let tout := (s.mtr.sensors[2 * n.val + 1]'(by omega)).theta
  let bad := decide (0 < c.q ∧ tout < tin - 500)
  let c1 := { c with crossedRun := if bad then c.crossedRun + 1 else 0, crossedClear := if bad then 0 else c.crossedClear + 1 }
  let s1 := s.setChan n c1
  if 10 ≤ c1.crossedRun then s1.mtrEvent (4 + n.val) true
  else if 10 ≤ c1.crossedClear then s1.mtrEvent (4 + n.val) false else s1

/-- TEMP_CYCLE_END (R560). -/
def execTempCycleEnd (sensors : Vector Rtd 4) (s : State) : Host.Outcome State Fault Refusal :=
  .next (if !s.metering then s
    else
      let s1 := (((s.sensorRead 0 sensors[0]).sensorRead 1 sensors[1]).sensorRead 2 sensors[2]).sensorRead 3 sensors[3]
      let s2 := ((s1.crossed 0).crossed 1).calStart true
      { s2 with isl := { s2.isl with runOn := s2.isl.mode != .standby } })

/-! ### Heat (R561, R562) -/

/-- The coolant tables of R561: temperature in mK, density in g/L, enthalpy in J/g. -/
def rhoTable (glycol : Bool) : List (Rat × Rat) :=
  let ts : List Rat := (List.range 11).map (fun i => ((10000 * i : Nat) : Rat))
  ts.zip (if glycol then [1027, 1024, 1020, 1016, 1011, 1006, 1000, 994, 988, 981, 974]
    else [9998 / 10, 9997 / 10, 9982 / 10, 9957 / 10, 9922 / 10, 9880 / 10, 9832 / 10, 9778 / 10, 9718 / 10, 9653 / 10, 9584 / 10])

def enthalpyTable (glycol : Bool) : List (Rat × Rat) :=
  let ts : List Rat := (List.range 11).map (fun i => ((10000 * i : Nat) : Rat))
  ts.zip (if glycol then [0, 391 / 10, 784 / 10, 1179 / 10, 1576 / 10, 1975 / 10, 2376 / 10, 2779 / 10, 3184 / 10, 3591 / 10, 400]
    else [0, 420 / 10, 839 / 10, 1257 / 10, 1675 / 10, 2093 / 10, 2511 / 10, 2930 / 10, 3349 / 10, 3769 / 10, 4190 / 10])

/-- A temperature outside 0–100 °C (R561). -/
def outsideTable (t : Rat) : Bool := decide (t < 0 ∨ 100000 < t)

/-- An event stops heat for a loop (R562, R576). -/
def State.heatStopped (s : State) (n : Nat) : Bool :=
  s.evtActive n || [6 + 2 * n, 7 + 2 * n, 10 + 2 * n, 11 + 2 * n].any (fun b => s.evtActive b)

/-- Flow, volume, heat and events of one loop at the end of a cycle (R555–R562, R576): the heat in nJ. -/
def State.loopCycle (s : State) (n : Fin 2) : Nat × State :=
  let c := s.chan n
  let enabled := s.cal (R.MTR_CH_K n.val) != 0
  let f := if enabled then s.flowOf n else (0, 0)
  let q := f.1
  let echo := s.evtActive n.val
  let secs : Rat := (s.mtr.cycleLen : Rat) / 8
  let dv : Rat := if echo || !enabled then 0 else q * 1000000 / 3600 * secs
  let tin := (s.mtr.sensors[2 * n.val]'(by omega)).theta
  let tout := (s.mtr.sensors[2 * n.val + 1]'(by omega)).theta
  let gly := s.cal (R.MTR_LOOP_CFG_fluid n.val) == 1
  let tm := if s.cal (R.MTR_LOOP_CFG_meter_leg n.val) = 0 then tin else tout
  let dh := interpolate (enthalpyTable gly) tout - interpolate (enthalpyTable gly) tin
  let heat := if 0 < dv ∧ 0 < dh ∧ !s.heatStopped n.val then (dv * 1000 * interpolate (rhoTable gly) tm * dh).floor.toNat else 0
  let cut : Rat := (s.cal (R.MTR_CH_CUTOFF n.val) : Rat) / 10
  let rev := decide (q < -cut)
  let err := s.heatStopped n.val
  let eighths := c.errEighths + (if err then s.mtr.cycleLen else 0)
  let c1 := { c with cycle := [], q := q, qRaw := f.2, vol := if 0 < dv then c.vol + dv else c.vol,
                     rev := if dv < 0 then c.rev - dv else c.rev, heat := c.heat + heat,
                     reverseRun := if rev then c.reverseRun + 1 else 0, reverseClear := if rev then 0 else c.reverseClear + 1,
                     errEighths := eighths % 8 }
  let s1 := (s.setChan n c1).count (R.MTR_CH_ERRT n.val) (eighths / 8)
  let s2 := if 8 ≤ c1.reverseRun then s1.mtrEvent (2 + n.val) true
    else if 8 ≤ c1.reverseClear then s1.mtrEvent (2 + n.val) false else s1
  let s3 := s2.put (R.MTR_CH_FLOW n.val) (if echo then 0x80000000 else fromSigned 32 (roundRat (10 * q)))
  let s4 := if enabled && !risingKeys (s.segPoints n.val) then s3.setBit R.MTR_STAT_seg_bad n.val else s3.clrBit R.MTR_STAT_seg_bad n.val
  (heat, if 0 < dv ∧ !s.heatStopped n.val ∧ (outsideTable tin || outsideTable tout) then s4.put R.MTR_STAT_table_clamp 1 else s4)

/-- The cycle with this number, a fresh one where it has no entry. -/
def MtrSt.cycleOf (m : MtrSt) (id : Nat) : CycleQ :=
  match m.cycles.find? (fun c => c.id == id) with | some c => c | none => ⟨id, 0, [], false⟩

def MtrSt.setCycle (m : MtrSt) (c : CycleQ) : MtrSt :=
  if m.cycles.any (fun d => d.id == c.id) then { m with cycles := m.cycles.map (fun d => if d.id == c.id then c else d) }
  else { m with cycles := m.cycles ++ [c] }

/-- FLOW_CYCLE_END (R555–R562): both loops, MTR_PWR, and the cycle's heat set aside for its split (R568). -/
def execFlowCycleEnd (s : State) : Host.Outcome State Fault Refusal :=
  .next (if !s.metering then s
    else
      let a := s.loopCycle 0
      let b := a.2.loopCycle 1
      let s1 := b.2
      let heat := a.1 + b.1
      let len := s1.mtr.cycleLen
      let watts := fun (nj : Nat) => 8 * nj / (1000000000 * len)
      let m := s1.mtr.setCycle { s1.mtr.cycleOf s1.mtr.cycle with heat := heat, closed := true }
      let s2 := ({ s1 with mtr := { m with lastHeat := heat, lastElec := m.cycleElec, cycleElec := 0, cycle := m.cycle + 1,
                                           cycleLen := if s1.slowSchedule then 16 else 1 },
                           isl := { s1.isl with runOn := s1.isl.mode != .standby } } : State)
      (s2.puts [(R.MTR_PWR_heat, min 65535 (watts heat)), (R.MTR_PWR_elec, min 65535 (watts s2.mtr.lastElec))]).calStart false)

/-! ### Electrical energy (R563, R564) -/

/-- One rail's sample: energy in nJ, and its registers. -/
def State.railSample (s : State) (r : Fin 4) (x : RailSample) : Rat × State :=
  let shunt := s.cal (R.MTR_RAIL_SHUNT r.val)
  if shunt = 0 then (0, s)
  else
    let v := s.corrected (6 + r.val) ((x.volts : Rat) / 1000) (1 / 100)
    let i := s.corrected (10 + r.val) ((clampInt (-64000) 64000 x.shunt : Rat) * 1000 / shunt) 1
    (v * i * 1000 / 64000, s.puts [(R.MTR_RAIL_V r.val, fromSigned 16 (roundRat v)), (R.MTR_RAIL_I r.val, fromSigned 32 (roundRat i))])

/-- Energy given to an account, in nJ: a tenant's number, 1,024 bench, 1,025 overhead (R569). A commit runs before a 57th
tenant would hold a pending delta (R573). -/
def State.give (s : State) (account nj : Nat) (heat : Bool) : State :=
  if nj = 0 then s
  else if account = 1025 then
    { s with mtr := if heat then { s.mtr with ovhHeat := s.mtr.ovhHeat + nj } else { s.mtr with ovhElec := s.mtr.ovhElec + nj } }
  else if account = 1024 then
    { s with mtr := if heat then { s.mtr with benchHeat := s.mtr.benchHeat + nj } else { s.mtr with benchElec := s.mtr.benchElec + nj } }
  else
    let dirty := s.mtr.dirtyTenants
    let s1 := if 56 ≤ dirty.length ∧ !dirty.contains account then s.commitPending false else s
    { s1 with mtr :=
        if heat then { s1.mtr with tenHeat := SMap.update 0 s1.mtr.tenHeat account (fun x => x + nj) }
        else { s1.mtr with tenElec := SMap.update 0 s1.mtr.tenElec account (fun x => x + nj) } }

/-- RAIL_SAMPLE (R563, R564): in AUX, the four channels' energy. Samples with no frame open go to overhead (R567). -/
def execRailSample (rails : Vector RailSample 4) (s : State) : Host.Outcome State Fault Refusal :=
  .next (if !s.metering || s.isl.mode != .aux then s
    else
      let p0 := s.railSample 0 rails[0]
      let p1 := p0.2.railSample 1 rails[1]
      let p2 := p1.2.railSample 2 rails[2]
      let p3 := p2.2.railSample 3 rails[3]
      let tooBig := (List.range 4).any (fun r => s.cal (R.MTR_RAIL_SHUNT r) != 0 &&
        (match rails.toList[r]? with | some x => decide (64000 < x.shunt ∨ x.shunt < -64000) | none => false))
      let s1 := p3.2.mtrEvent 16 tooBig
      let e : Rat := s1.mtr.elecFrac + p0.1 + p1.1 + p2.1 + p3.1
      let whole := e.floor.toNat
      let s2 := { s1 with mtr := { s1.mtr with elec := s1.mtr.elec + whole, elecFrac := e - whole,
                                               cycleElec := s1.mtr.cycleElec + whole } }
      match s2.mtr.openFrame with
      | some _ => { s2 with mtr := { s2.mtr with openEnergy := s2.mtr.openEnergy + whole } }
      | none => s2.give 1025 whole false)

/-! ### Attribution (R565–R570) -/

/-- The open frame closes: its energy waits for its mark. -/
def State.closeFrame (s : State) : State :=
  match s.mtr.openFrame with
  | some f => { s with mtr := { s.mtr with frames := s.mtr.frames ++ [⟨f, s.mtr.openEnergy, s.mtr.openCycle⟩], openFrame := none,
                                           openEnergy := 0 } }
  | none => s

/-- ISLAND_FRAME_MARK (R567). The island ignores it, as all the link carries, while it is isolated (R54). -/
def execIslandFrameMark (frame : BitVec 48) (s : State) : Host.Outcome State Fault Refusal :=
  .next (if !s.metering || !s.linkOpen then s
    else
      let s1 := s.closeFrame
      { s1 with mtr := { s1.mtr with openFrame := some frame.toNat, openEnergy := 0, openCycle := s1.mtr.cycle } })

/-- BINDING_MESSAGE (R565): opens or closes a slot's attribution. -/
def State.bind (s : State) (isOpen : Bool) (slot tenant : Nat) (bench : Bool) (frame : Nat) : State :=
  let closed := fun (f : Nat) => s.mtr.bindings.map (fun b =>
    if b.slot == slot && b.toFrame.isNone then { b with toFrame := some f } else b)
  if isOpen then
    { s with mtr := { s.mtr with bindings := (closed (frame - 1)).filter (fun b => match b.toFrame with
        | some t => decide (frame < t + 1024) | none => true) ++ [⟨slot, tenant, bench, frame, none⟩] } }
  else { s with mtr := { s.mtr with bindings := closed frame } }

def execBindingMessage (isOpen : Bool) (ctx : Fin 64) (tenant : BitVec 10) (_job : BitVec 16) (bench : Bool) (frame : BitVec 48)
    (s : State) : Host.Outcome State Fault Refusal :=
  .next (if !s.metering || !s.linkOpen then s else s.bind isOpen ctx.val tenant.toNat bench frame.toNat)

/-- Where a slot's share in a frame lands (R569). -/
def State.accountOf (s : State) (slot frame : Nat) : Nat :=
  match s.mtr.bindings.reverse.find? (fun b => b.slot == slot && decide (b.fromFrame ≤ frame) &&
      (match b.toFrame with | some t => decide (frame ≤ t) | none => true)) with
  | some b => if b.bench then 1024 else b.tenant
  | none => 1025

/-- An account's electrical share in a frame of a cycle (R568). -/
def State.addShare (s : State) (cycle account nj : Nat) : State :=
  let c := s.mtr.cycleOf cycle
  { s with mtr := s.mtr.setCycle { c with shares := SMap.update 0 c.shares account (fun x => x + nj) } }

/-- The energy of frames split by charges (R567): `n` frames of base charge, each slot's W·tick. -/
def State.splitFrames (s : State) (es : List FrameE) (n : Nat) (charges : List (Nat × Nat)) (frame : Nat) : State :=
  let total := (es.map FrameE.energy).sum
  let c := 122880 * n + (charges.map (fun p => p.2)).sum
  let shareOf := fun (e amount : Nat) => e * amount / c
  let s1 := charges.foldl (fun t p =>
    let acc := t.accountOf p.1 frame
    es.foldl (fun u e => u.addShare e.cycle acc (shareOf e.energy p.2)) (t.give acc (shareOf total p.2) false)) s
  let given := (charges.map (fun p => shareOf total p.2)).sum
  let s2 := es.foldl (fun u e => u.addShare e.cycle 1025 (e.energy - (charges.map (fun p => shareOf e.energy p.2)).sum))
    (s1.give 1025 (total - given) false)
  { s2 with mtr := { s2.mtr with frames := s2.mtr.frames.filter (fun f => !es.contains f) } }

/-- A frame that ended 512 frames ago and whose mark has not come (R570). -/
def MtrSt.expired (m : MtrSt) (f : Nat) : Bool := match m.openFrame with | some g => decide (f + 513 ≤ g) | none => false

/-- CONTEXT_MARK (R54, R565, R567, R570): the mark of one frame, or of `frames` merged ones from `frame` on. -/
def execContextMark (frame : BitVec 48) (frames : BitVec 9) (charges : List (Fin 64 × BitVec 24)) (s : State) :
    Host.Outcome State Fault Refusal :=
  let n := max 1 frames.toNat
  let es := s.mtr.frames.filter (fun e => decide (frame.toNat ≤ e.frame ∧ e.frame < frame.toNat + n) && !s.mtr.expired e.frame)
  let cs := charges.map (fun p => (p.1.val, p.2.toNat))
  let s0 := if 1 < n then s.count R.MTR_ATTR_merged 1 else s
  .next (if !s.metering || !s.linkOpen then s
    else if es.isEmpty then s0.count R.MTR_ATTR_late 1
    else
      let unbound := cs.any (fun p => p.2 != 0 && s.accountOf p.1 frame.toNat == 1025)
      (if unbound then s0.count R.MTR_ATTR2_unbound 1 else s0).splitFrames es n cs frame.toNat)

/-- MARK_EXPIRY (R570): the oldest waiting frame ended 512 frames ago, and its energy goes to overhead. -/
def execMarkExpiry (s : State) : Host.Outcome State Fault Refusal :=
  .next (if !s.metering then s
    else match s.mtr.frames with
      | e :: _ => if s.mtr.expired e.frame then s.splitFrames [e] 1 [] e.frame else s
      | [] => s)

/-- A cycle's frames are all attributed or expired (R568, R570). -/
def MtrSt.splittable (m : MtrSt) (c : CycleQ) : Bool :=
  c.closed && !(m.frames.any (fun e => e.cycle == c.id)) && !(m.openFrame.isSome && m.openCycle == c.id)

/-- A cycle's heat split in proportion to its electrical shares (R568). -/
def State.splitCycle (s : State) (c : CycleQ) : State :=
  let total := (c.shares.map (fun p => p.2)).sum
  let cut := fun (e : Nat) => if total = 0 then 0 else c.heat * e / total
  let named := c.shares.filter (fun p => p.1 != 1025)
  let s1 := named.foldl (fun t p => t.give p.1 (cut p.2) true) s
  let s2 := s1.give 1025 (c.heat - (named.map (fun p => cut p.2)).sum) true
  { s2 with mtr := { s2.mtr with cycles := s2.mtr.cycles.filter (fun d => d.id != c.id) } }

/-- Every cycle that can be split is. -/
def State.splitAll (s : State) : State := (s.mtr.cycles.filter s.mtr.splittable).foldl State.splitCycle s

/-- HEAT_SPLIT (R568). -/
def execHeatSplit (s : State) : Host.Outcome State Fault Refusal :=
  .next (if !s.metering then s
    else match s.mtr.cycles.find? s.mtr.splittable with | some c => s.splitCycle c | none => s)

/-! ### Time and intervals (R571–R573) -/

/-- The interval closes: splits, MTR_INTERVAL, commit (R572). -/
def State.intervalEnd (s : State) (short : Bool) : State :=
  let s1 := s.splitAll
  let s2 := s1.put R.MTR_INTERVAL (s1.get R.MTR_INTERVAL + 1)
  let s3 := ({ s2 with fls := { s2.fls with short := s2.fls.short || short },
                       mtr := { s2.mtr with intervalRtc := some (s2.get R.MTR_RTC) } } : State).commitPending false
  { s3 with isl := { s3.isl with runOn := s3.isl.mode != .standby } }

/-- INTERVAL_END (R572): the RTC has reached a multiple of 900. -/
def execIntervalEnd (s : State) : Host.Outcome State Fault Refusal :=
  .next (if s.metering && s.get R.MTR_RTC % 900 == 0 && s.mtr.intervalRtc != some (s.get R.MTR_RTC) then s.intervalEnd false else s)

/-- The RTC is set (R571, R572): a move of 2 s or more ends the current interval short. -/
def State.rtcSet (s : State) (v : Nat) : State :=
  let old := s.get R.MTR_RTC
  let s1 := (s.put R.MTR_RTC v).put R.MTR_STAT_time_unknown 0
  if old + 2 ≤ v ∨ v + 2 ≤ old then s1.intervalEnd true else s1

/-- RTC_SET, a REG_WRITE of MTR_RTC (R571). -/
def execRtcSet (value : Word) (s : State) : Host.Outcome State Fault Refusal :=
  .next (if !s.metering then s else s.rtcSet value.toNat)

/-- RTC_SECOND (R571): the counter moves on, and is compared with horizon time while LOCKED and MTR_EPOCH is not 0. -/
def execRtcSecond (s : State) : Host.Outcome State Fault Refusal :=
  .next (if s.isl.mode = .cold then s
    else
      let s1 := s.put R.MTR_RTC (s.get R.MTR_RTC + 1)
      let th := s1.cal R.MTR_EPOCH + s1.frame * 16384 / 1000000000
      let r := s1.get R.MTR_RTC
      if s1.metering && s1.linkOpen && s1.hzn.lock == .locked && s1.cal R.MTR_EPOCH != 0 && decide (r + 2 ≤ th ∨ th + 2 ≤ r) then s1.rtcSet th
      else s1)

/-- STANDBY_WAKE (R518): the run domain wakes for a measurement, an interval boundary or an M-Bus start bit. -/
def execStandbyWake (_reason : Fin 3) (s : State) : Host.Outcome State Fault Refusal :=
  .next (if s.isl.mode = .standby then { s with isl := { s.isl with runOn := true } } else s)

/-- A write of 1 to MTR_CTRL.clr_counts (R585). -/
def State.mtrClear (s : State) : State :=
  s.puts [(R.MTR_CH_CNT_invalid 0, 0), (R.MTR_CH_CNT_invalid 1, 0), (R.MTR_CH_CNT_no_echo 0, 0), (R.MTR_CH_CNT_no_echo 1, 0),
    (R.MTR_ATTR_merged, 0), (R.MTR_ATTR_late, 0), (R.MTR_ATTR2_unbound, 0), (R.MTR_CAL_CNT, 0)]

def execMtrClrCounts (s : State) : Host.Outcome State Fault Refusal := .next s.mtrClear

end Sys2Proof.Machine
end

