-- ==== Sys2Proof/Machine/IslView.lean ====
section
/-!
DEFINITION. Sys2Proof/Machine/IslView.lean: what the island's registers read as (R530): the stored fields, and those that show the
island's live state: supplies (R517–R524), keys and seals (R538–R540), the M-Bus identity (R544) and the cumulative
registers (R574).
-/

namespace Sys2Proof.Machine

/-- Eight BCD digits of a number (R544). -/
def bcd : Nat → Nat → Nat
  | 0, _ => 0
  | n + 1, v => v % 10 + 16 * bcd n (v / 10)

/-- The M-Bus identification number: the serial number's low word in decimal, modulo 10^8 (R544). -/
def mbusId : Nat := bcd 8 (Config.serial % 2 ^ 32 % 100000000)

def levelOf (fw : Option FwCopy) : Nat := match fw with | some f => f.levels.own | none => 0

/-- MTR registers that show running totals, in mJ and mL, with their low and high words (R574). -/
def State.mtrLive (s : State) (off : Nat) : Option Nat :=
  let m := s.mtr
  let tot := m.totals
  let t := fun (i : Nat) => tot.getD i 0
  let sel := s.get R.MTR_TEN_SEL_tenant
  let lo := fun (v : Nat) => some (v % 2 ^ 32)
  let hi := fun (v : Nat) => some (v / 2 ^ 32 % 2 ^ 32)
  match off with
  | 0x410180 => lo (t 0)
  | 0x410184 => hi (t 0)
  | 0x410188 => lo (t 7)
  | 0x41018C => hi (t 7)
  | 0x410190 => lo (t 1)
  | 0x410194 => hi (t 1)
  | 0x410198 => lo (t 8)
  | 0x41019C => hi (t 8)
  | 0x4101A0 => lo (t 2)
  | 0x4101A4 => hi (t 2)
  | 0x4101A8 => lo (t 9)
  | 0x4101AC => lo (t 10)
  | 0x4101B0 => lo (t 3)
  | 0x4101B4 => hi (t 3)
  | 0x4101B8 => lo (t 4)
  | 0x4101BC => hi (t 4)
  | 0x4101C0 => lo (t 5)
  | 0x4101C4 => hi (t 5)
  | 0x4101C8 => lo (t 6)
  | 0x4101CC => hi (t 6)
  | 0x4101D4 => lo (SMap.get 0 m.tenElec sel / 1000000)
  | 0x4101D8 => hi (SMap.get 0 m.tenElec sel / 1000000)
  | 0x4101DC => lo (SMap.get 0 m.tenHeat sel / 1000000)
  | 0x4101E0 => hi (SMap.get 0 m.tenHeat sel / 1000000)
  | _ => none

/-- The other live registers of the island. -/
def State.islLive (s : State) (off : Nat) : Option Nat :=
  let i := s.isl
  let budget := s.get R.BATT_BUDGET_ms
  match off with
  | 0x410004 => some ((s.put R.MTR_STAT_standby_sched (b2n s.slowSchedule)).regWord off)
  | 0x440000 => some (i.mode.num + 4 * b2n i.battLow + 8 * b2n (decide (10 ≤ budget)) + 16 * b2n (decide (14 ≤ budget)) +
      32 * b2n i.commitDeferred)
  | 0x440004 => some (i.vbat + 2 ^ 16 * i.vhold)
  | 0x43000C => some mbusId
  | 0x460000 => some (i.keyProv.toNat + 2 ^ 8 * i.keyRev.toNat)
  | 0x460004 => some (i.signProv.toNat + 2 ^ 4 * i.signRev.toNat)
  | 0x460008 => some (i.seal 0)
  | 0x46000C => some (i.seal 1)
  | 0x460010 => some (i.seal 2)
  | 0x460014 => some (i.seal 3)
  | 0x460018 => some (i.seals[0].length + 2 ^ 7 * i.seals[1].length + 2 ^ 14 * i.seals[2].length + 2 ^ 21 * i.seals[3].length)
  | _ => s.mtrLive off

/-- What an island register reads as; an offset without one reads 0 (R530). -/
def State.islWord (s : State) (off : Nat) : Nat := match s.islLive off with | some w => w | none => s.regWord off

/-- Low words whose read captures the high word that follows (R585). -/
def islPairs : List Nat :=
  [0x410180, 0x410188, 0x410190, 0x410198, 0x4101A0, 0x4101B0, 0x4101B8, 0x4101C0, 0x4101C8, 0x4101D4, 0x4101DC, 0x420014]

/-- A REG_READ: the word, and the state with its high word captured (R585). A high word reads as it was captured; before its low
word has ever been read it reads live. -/
def State.islRead (s : State) (off : Nat) : Nat × State :=
  if islPairs.contains off then (s.islWord off, s.capture 3 (off + 4) (s.islWord (off + 4)))
  else if islPairs.contains (off - 4) ∧ 4 ≤ off then
    ((match s.captured 3 off with | some v => v | none => s.islWord off), s)
  else (s.islWord off, s)

end Sys2Proof.Machine
end

