-- ==== Sys2Proof/Machine/MBus.lean ====
section
/-!
DEFINITION. Sys2Proof/Machine/MBus.lean: the M-Bus slave (R541–R546), its telegrams (R578–R583) and its reduced form in ROM mode
(R527).
-/

namespace Sys2Proof.Machine

/-! ### Data records -/

/-- Days of a month of a year after 2000. -/
def monthDays (year month : Nat) : Nat :=
  match month with
  | 2 => if year % 4 = 0 ∧ year % 100 ≠ 0 ∨ year % 400 = 0 then 29 else 28
  | 4 | 6 | 9 | 11 => 30
  | _ => 31

/-- Month and day from a day of the year, both from 1. -/
def splitMonth (year : Nat) : Nat → Nat → Nat → Nat × Nat
  | 0, month, d => (month, d + 1)
  | fuel + 1, month, d => if d < monthDays year month then (month, d + 1) else splitMonth year fuel (month + 1) (d - monthDays year month)

/-- Year, month and day from days since 2000-01-01. -/
def splitDays : Nat → Nat → Nat → Nat × Nat × Nat
  | 0, year, _ => (year, 1, 1)
  | fuel + 1, year, d =>
    let n := if monthDays year 2 = 29 then 366 else 365
    if d < n then (year, splitMonth year 12 1 d) else splitDays fuel (year + 1) (d - n)

/-- Date and time, type F of EN 13757-3, from the RTC; the IV bit when the time is unknown (R571, R580). PRESUMED: the
bit places are those of that standard, with the century field at 1 for 20xx. -/
def typeF (rtc : Nat) (unknown : Bool) : Nat :=
  let date := splitDays 200 2000 (rtc / 86400)
  let year := date.1 % 100
  let century := date.1 / 100 - 19
  rtc / 60 % 60 + 2 ^ 7 * b2n unknown + 2 ^ 8 * (rtc / 3600 % 24) + 2 ^ 13 * century + 2 ^ 16 * date.2.2 +
  2 ^ 21 * (year % 8) + 2 ^ 24 * date.2.1 + 2 ^ 28 * (year / 8)

/-- Watt-hours of a count of nJ, rounded down. -/
def wattHours (nj : Nat) : Nat := nj / 3600000000000

def hexBytes (l : List Nat) : List Byte := l.map (BitVec.ofNat 8)

/-- The error flags (R581). -/
def State.errorFlags (s : State) : Nat :=
  s.get R.MTR_EVT_ACT + 2 ^ 17 * b2n s.isl.battLow + 2 ^ 18 * s.get R.OSC_STAT_xtal_fail +
  2 ^ 19 * s.get R.MTR_STAT_time_unknown + 2 ^ 20 * b2n s.pwr.dawnRec.valid + 2 ^ 21 * b2n s.pwr.stopRec.valid +
  2 ^ 22 * (1 - s.get R.MTR_CAL_LOCK_lock)

/-- Tenants with an entry (R583): those whose registers are not both 0. -/
def State.mbusTenants (s : State) : List Nat :=
  (List.range 1024).filter (fun t => SMap.get 0 s.mtr.tenElec t / 1000000 != 0 || SMap.get 0 s.mtr.tenHeat t / 1000000 != 0)

def chunk23 : Nat → List Nat → List (List Nat)
  | 0, _ => []
  | fuel + 1, l => if l.isEmpty then [] else l.take 23 :: chunk23 fuel (l.drop 23)

/-- A temperature record's value: 0.01 °C, or 0x8000 while an event makes it invalid (R576, R580). -/
def State.mbusTemp (s : State) (n : Fin 4) : Nat :=
  if s.evtActive (6 + n.val) || s.evtActive (10 + n.val) then 0x8000 else fromSigned 16 (roundRat (s.mtr.sensors[n].theta / 10))

/-- The status block of telegram 1 (R582). -/
def State.statusBlock (s : State) (telegrams entries : Nat) : List Byte :=
  let d := s.pwr.dawnRec
  let p := s.pwr.stopRec
  let dl := fun (n : Fin 2) => ((s.mtr.chans[n].rev / 100000).floor.toNat)
  hexBytes [1, telegrams] ++ toLE 4 (s.get R.MTR_INTERVAL) ++
  hexBytes [128 * b2n d.valid + d.attempt, d.code, d.index] ++ toLE 2 d.ms ++
  hexBytes [128 * b2n p.valid + 16 * b2n p.inDusk + p.kind, p.rail] ++ toLE 6 p.frame ++
  toLE 4 (dl 0) ++ toLE 4 (dl 1) ++ toLE 4 (wattHours s.mtr.ovhElec) ++ toLE 4 (wattHours s.mtr.ovhHeat) ++
  toLE 4 (wattHours (s.mtr.benchElec + s.mtr.benchHeat)) ++ toLE 2 entries

def State.dateRecord (s : State) : List Byte :=
  hexBytes [0x04, 0x6D] ++ toLE 4 (typeF (s.get R.MTR_RTC) (s.get R.MTR_STAT_time_unknown == 1))

/-- The records of telegram 1 (R580). -/
def State.telegram1 (s : State) (telegrams entries : Nat) : List Byte :=
  let m := s.mtr
  let dl := fun (x : Rat) => (x / 100000).floor.toNat
  s.dateRecord ++
  hexBytes [0x04, 0x03] ++ toLE 4 (wattHours m.chans[0].heat) ++ hexBytes [0x84, 0x40, 0x03] ++ toLE 4 (wattHours m.chans[1].heat) ++
  hexBytes [0x84, 0x10, 0x03] ++ toLE 4 (wattHours m.elec) ++
  hexBytes [0x04, 0x12] ++ toLE 4 (dl m.chans[0].vol) ++ hexBytes [0x84, 0x40, 0x12] ++ toLE 4 (dl m.chans[1].vol) ++
  hexBytes [0x04, 0x3A] ++ toLE 4 (s.get (R.MTR_CH_FLOW 0)) ++ hexBytes [0x84, 0x40, 0x3A] ++ toLE 4 (s.get (R.MTR_CH_FLOW 1)) ++
  hexBytes [0x02, 0x59] ++ toLE 2 (s.mbusTemp 0) ++ hexBytes [0x02, 0x5D] ++ toLE 2 (s.mbusTemp 1) ++
  hexBytes [0x82, 0x40, 0x59] ++ toLE 2 (s.mbusTemp 2) ++ hexBytes [0x82, 0x40, 0x5D] ++ toLE 2 (s.mbusTemp 3) ++
  hexBytes [0x04, 0x2B] ++ toLE 4 (s.get R.MTR_PWR_heat) ++ hexBytes [0x84, 0x10, 0x2B] ++ toLE 4 (s.get R.MTR_PWR_elec) ++
  hexBytes [0x04, 0xFD, 0x17] ++ toLE 4 s.errorFlags ++
  hexBytes [if entries = 0 then 0x0F else 0x1F] ++ s.statusBlock telegrams entries

/-- The records of a tenant telegram (R583). -/
def State.tenantTelegram (s : State) (number : Nat) (last : Bool) (ts : List Nat) : List Byte :=
  s.dateRecord ++ hexBytes [if last then 0x0F else 0x1F, 2, number, ts.length] ++
  ts.flatMap (fun t => toLE 2 t ++ toLE 4 (wattHours (SMap.get 0 s.mtr.tenElec t)) ++ toLE 4 (wattHours (SMap.get 0 s.mtr.tenHeat t)))

/-- The status byte of the header (R579). -/
def State.mbusStatus (s : State) : Nat :=
  4 * b2n s.isl.battLow + 8 * (1 - s.get R.MTR_CAL_LOCK_lock) + 16 * b2n (s.get R.MTR_EVT_ACT != 0)

/-- The set of telegrams, as of now: each is its status byte and its records (R578). -/
def State.telegramSet (s : State) : List (List Byte) :=
  let ts := s.mbusTenants
  let groups := chunk23 45 ts
  let n := 1 + groups.length
  let st := BitVec.ofNat 8 s.mbusStatus
  (st :: s.telegram1 n ts.length) ::
  (groups.zipIdx).map (fun p => st :: s.tenantTelegram (p.2 + 2) (decide (p.2 + 2 = n)) p.1)

/-- An RSP_UD long frame around a telegram (R542, R579): the address, the version and the access number are the slave's. -/
def State.rspUd (s : State) (access : Nat) (telegram : List Byte) : List Byte :=
  match telegram with
  | [] => []
  | st :: recs =>
    let body := hexBytes [0x08, s.get R.MBUS_CFG_primary, 0x72] ++ toLE 4 mbusId ++ toLE 2 0x05B1 ++
      hexBytes [levelOf s.isl.fw, 0x04, access] ++ [st] ++ toLE 2 0 ++ recs
    hexBytes [0x68, body.length, body.length, 0x68] ++ body ++
    hexBytes [(body.map BitVec.toNat).sum, 0x16]

/-- The single telegram of ROM mode (R527): its status byte, the error flags and 0F. -/
def romTelegram : List Byte := hexBytes [0x12, 0x04, 0xFD, 0x17, 0x00, 0x00, 0x80, 0x00, 0x0F]

/-! ### Addressing and answers -/

/-- The slave takes a frame to this address (R543). -/
def State.mbusTakes (s : State) (a : Nat) : Bool :=
  s.islandUp && (a == s.get R.MBUS_CFG_primary || (a == 253 && s.get R.MBUS_STAT_selected == 1) || a == 254 || a == 255)

/-- The rate of the last frame (R541). -/
def State.mbusRate (s : State) (rate : Fin 3) : State := if s.islandUp then s.put R.MBUS_STAT_rate rate.val else s

/-- An answer, counted (R546); a frame to 255 is never answered. -/
def State.mbusAnswer (s : State) (a : Nat) (bs : List Byte) : State :=
  if a = 255 then s else (s.count R.MBUS_CNT_answered 1).emit (.mbus bs)

def ackByte : List Byte := [0xE5]

/-- The telegram sequence and the FCB state start again (R545). -/
def State.mbusRestart (s : State) : State := { s with isl := { s.isl with telegrams := [], telIndex := 0, lastFcb := none } }

/-- SND_NKE (R542, R544). -/
def execSndNke (rate : Fin 3) (addr : Byte) (s : State) : Host.Outcome State Fault Refusal :=
  let s0 := s.mbusRate rate
  .next (if s0.mbusTakes addr.toNat then
      let s1 := s0.mbusRestart.mbusAnswer addr.toNat ackByte
      if addr.toNat = 253 then s1.put R.MBUS_STAT_selected 0 else s1
    else s0)

/-- The telegram at a position of the set is sent anew: the access number moves on (R578). -/
def State.sendNew (s : State) (a : Nat) (set : List (List Byte)) (ix : Nat) (fcb : Bool) : State :=
  let n := (s.isl.accessNo + 1) % 256
  let s1 := { s with isl := { s.isl with telegrams := set, telIndex := ix, lastFcb := some fcb, accessNo := n } }
  s1.mbusAnswer a (s1.rspUd n (set.getD ix []))

/-- REQ_UD2 (R545, R578): the next telegram when FCB has changed, the same again when it has not. -/
def execReqUd2 (rate : Fin 3) (addr : Byte) (fcb : Bool) (s : State) : Host.Outcome State Fault Refusal :=
  let s0 := s.mbusRate rate
  let a := addr.toNat
  .next (if !s0.mbusTakes a || a == 255 then s0
    else if s0.isl.fw.isNone then s0.mbusAnswer a (s0.rspUd 0 romTelegram)
    else match s0.isl.lastFcb with
      | none => s0.sendNew a s0.telegramSet 0 fcb
      | some b =>
        if b = fcb then s0.mbusAnswer a (s0.rspUd s0.isl.accessNo (s0.isl.telegrams.getD s0.isl.telIndex []))
        else if s0.isl.telIndex + 1 < s0.isl.telegrams.length then s0.sendNew a s0.isl.telegrams (s0.isl.telIndex + 1) fcb
        else s0.sendNew a s0.telegramSet 0 fcb)

/-- REQ_UD1 (R542). -/
def execReqUd1 (rate : Fin 3) (addr : Byte) (s : State) : Host.Outcome State Fault Refusal :=
  let s0 := s.mbusRate rate
  .next (if s0.mbusTakes addr.toNat then s0.mbusAnswer addr.toNat ackByte else s0)

/-- SND_UD with CI 0x50 (R542, R545). -/
def execApplicationReset (rate : Fin 3) (addr : Byte) (s : State) : Host.Outcome State Fault Refusal :=
  let s0 := s.mbusRate rate
  .next (if s0.mbusTakes addr.toNat then s0.mbusRestart.mbusAnswer addr.toNat ackByte else s0)

/-- The primary address becomes `v`, 0 to 250, and a change is journalled (R543, R610). -/
def State.setPrimary (s : State) (v : Nat) : State :=
  if 250 < v ∨ v = s.get R.MBUS_CFG_primary then s
  else (s.put R.MBUS_CFG_primary v).note 0x0B v (s.rtcBytes ++ toLE 4 0)

/-- SND_UD with CI 0x51 and the address record (R542, R543); no answer in ROM mode (R527). -/
def execSetPrimaryAddress (rate : Fin 3) (addr : Byte) (value : Byte) (s : State) : Host.Outcome State Fault Refusal :=
  let s0 := s.mbusRate rate
  .next (if s0.mbusTakes addr.toNat && s0.isl.fw.isSome && decide (value.toNat ≤ 250) then
      (s0.mbusAnswer addr.toNat ackByte).setPrimary value.toNat
    else s0)

/-- Nibbles of the number match, 0xF matching any (R544). -/
def bcdMatches : Nat → Nat → Nat → Bool
  | 0, _, _ => true
  | n + 1, pat, v => (pat % 16 == 15 || pat % 16 == v % 16) && bcdMatches n (pat / 16) (v / 16)

def byteMatches (p v : Nat) : Bool := p == 255 || p == v

/-- R544: the secondary address names this slave. -/
def State.secondaryMatches (s : State) (b : List Byte) : Bool :=
  bcdMatches 8 (leAt b 0 4) mbusId && byteMatches (leAt b 4 1) 0xB1 && byteMatches (leAt b 5 1) 0x05 &&
  byteMatches (leAt b 6 1) (levelOf s.isl.fw % 256) && byteMatches (leAt b 7 1) 4

/-- SND_UD with CI 0x52 to 253 (R544). -/
def execSelection (rate : Fin 3) (secondary : Vector Byte 8) (s : State) : Host.Outcome State Fault Refusal :=
  let s0 := s.mbusRate rate
  .next (if !s0.islandUp then s0
    else if s0.secondaryMatches secondary.toList then (s0.put R.MBUS_STAT_selected 1).mbusAnswer 253 ackByte
    else s0.put R.MBUS_STAT_selected 0)

/-- SND_UD with CI 0xB8 to 0xBF (R541); the reduced form of ROM mode does not name it (R527). -/
def execSetBaudRate (rate : Fin 3) (addr : Byte) (ci : Byte) (s : State) : Host.Outcome State Fault Refusal :=
  let s0 := s.mbusRate rate
  .next (if s0.mbusTakes addr.toNat && s0.isl.fw.isSome && decide (0xB8 ≤ ci.toNat ∧ ci.toNat ≤ 0xBF) then
      s0.mbusAnswer addr.toNat ackByte else s0)

/-- A frame discarded (R546). -/
def execMbusFrameDiscard (s : State) : Host.Outcome State Fault Refusal :=
  .next (if s.islandUp then s.count R.MBUS_CNT_discarded 1 else s)

end Sys2Proof.Machine
end

