-- ==== Sys2Proof/Machine/Operands.lean ====
section
/-!
DEFINITION. Sys2Proof/Machine/Operands.lean: how a written word meets the fields of its register: the access codes of R15, one rule for
BAR0, the sideband, the debug port and the island's REG_WRITE.
-/

namespace Sys2Proof.Machine

/-- What a field holds after a write of `w` (R15); `locked` says that the block's lock is set. -/
def Fld.written (f : Fld) (locked : Bool) (old w : Nat) : Nat :=
  match f.acc with
  | .RW | .RWS => bits w f.lo f.w
  | .RWL => if locked then old else bits w f.lo f.w
  | .W1C => clearBits old (bits w f.lo f.w)
  | .W1S => orBits old (bits w f.lo f.w)
  | .RO | .WO => old

/-- One field takes its bits of a written word. -/
def State.writeField (locked : Bool) (w : Nat) (s : State) (f : Fld) : State := s.put f (f.written locked (s.get f) w)

/-- Every field at an offset takes its bits of a written word (R15). -/
def State.accWrite (s : State) (off w : Nat) (locked : Bool) : State := (fieldsAt off).foldl (State.writeField locked w) s

end Sys2Proof.Machine
end

