-- ==== Sys2Proof/Machine/Island.lean ====
section
/-!
DEFINITION. Sys2Proof/Machine/Island.lean: the island's supplies (R517–R524), its boot (R526, R527, R548) and the host mailbox with its
commands (R531–R540). FW_ACTIVATE, which drops the island link, stands in Machine/Restart.lean.
-/

namespace Sys2Proof.Machine

/-! ### Supplies -/

/-- The hold-up budget in ms (R520). -/
def budgetMs (vhold : Nat) : Nat := if vhold < 2400 then 0 else (vhold * vhold - 5760000) / 100000

/-- A battery-low condition holds (R524). -/
def State.battCondition (s : State) : Bool :=
  decide (s.isl.vbat < 2500 ∨ 95 * s.get R.BATT_CAP_cap_mah ≤ 100 * s.get R.BATT_CAP_used_mah)

/-- What BUDGET_SAMPLE measures (R520, R524): VBAT, VHOLD and the charge drawn from the cell. Below 2.4 V, HOLD is left (R517). -/
def State.supplySampled (s : State) (vbat vhold mah : Nat) : State :=
  let s1 := (s.count R.BATT_CAP_used_mah mah).put R.BATT_BUDGET_ms (budgetMs vhold)
  let left := decide (s1.isl.mode = IslMode.hold ∧ vhold < 2400 ∧ 2500 ≤ vbat)
  let s2 := { s1 with isl := { s1.isl with
    vbat := vbat, vhold := vhold, mode := if left then IslMode.standby else s1.isl.mode, runOn := s1.isl.runOn && !left } }
  if s2.battCondition then { s2 with isl := { s2.isl with lowAt := s2.now } } else s2

/-- BATT_LOW (R524): the flag sets on either condition and clears after 10 s without one. -/
def execBattLow (s : State) : Host.Outcome State Fault Refusal :=
  .next (if s.isl.mode = .cold then s
    else if s.battCondition then
      let s1 := { s with isl := { s.isl with battLow := true, lowAt := s.now } }
      if s.isl.battLow || !s.isl.linkUp then s1 else s1.raiseIsl 2
    else if s.isl.lowAt + 10000 * ticksPerMs ≤ s.now then { s with isl := { s.isl with battLow := false } }
    else s)

/-- A write of BATT_CFG.new_cell (R524). -/
def execBattNewCell (s : State) : Host.Outcome State Fault Refusal :=
  .next (if s.isl.mode = .cold then s else s.put R.BATT_CAP_used_mah 0)

/-- The island's registers and SRAM are lost (R519, R548); flash, OTP and the two package records in flash survive. -/
def State.islandCold (s : State) : State :=
  { s with
    regs := s.regs.resetRange 0x300000 0x1000000,
    isl := { s.isl with
      mode := .cold, vbat := 0, vhold := 0, fw := none, booted := false, rebuilt := false, linkUp := false, kept := [],
      battLow := false, timeLost := true, runOn := false, commitDeferred := false, rcLatch := false, dawnOwed := false, restartAt := none,
      mboxOrder := [], sessions := Vector.replicate 3 none, telegrams := [], telIndex := 0, lastFcb := none, accessNo := 0, records := [] },
    mtr := { s.mtr with
      chans := Vector.replicate 2 ChanSt.init, sensors := Vector.replicate 4 ⟨0, 0, 0, 0, 0⟩, elec := 0, elecFrac := 0,
      openFrame := none, openEnergy := 0, openCycle := 0, frames := [], cycle := 0, cycles := [], bindings := [], ovhElec := 0,
      ovhHeat := 0, benchElec := 0, benchHeat := 0, tenElec := [], tenHeat := [], committed := List.replicate 11 0,
      comElec := [], comHeat := [], comErr := [0, 0], calPending := [], lastHeat := 0, lastElec := 0, cycleElec := 0,
      firstInterval := 0, cycleLen := 1, intervalRtc := none },
    fls := { s.fls with active := none, suspended := [], recoverDue := false, short := false, held := false, checkpointDue := false,
                        ckptInterval := 0, latest := [], headLine := 1, headFirst := 1, sectorSeq := 0 } }

/-- VHOLD_EXHAUSTED (R548): VAUX and VBAT are absent and VHOLD falls below 2.4 V. -/
def execVholdExhausted (s : State) : Host.Outcome State Fault Refusal :=
  .next (if s.pwr.vauxIn || decide (2500 ≤ s.isl.vbat) || s.isl.mode == .cold then s else s.islandCold)

/-! ### Boot -/

/-- A firmware copy that may be started (R526, R529): the sequence number by which it is chosen, and itself. -/
def State.bootCopy (s : State) (copy : Nat) : Option (Nat × FwCopy) :=
  let bs := s.fwBytes copy
  if !s.isl.areaOk.getLsbD copy then none
  else match s.checkIslandFw bs with
    | .error _ => none
    | .ok (id, levels) =>
      some ((s.isl.copySeq.toList.getD copy none).getD id, ⟨copy, levels, Config.sha384 bs⟩)

/-- The copy the boot ROM starts (R526): of those that pass, the one of the higher sequence number. -/
def State.bootChoice (s : State) : Option FwCopy :=
  match s.bootCopy 0, s.bootCopy 1 with
  | some a, some b => if a.1 < b.1 then some b.2 else some a.2
  | some a, none => some a.2
  | none, some b => some b.2
  | none, none => none

/-- The M-Bus address of the journal's latest MBUS_ADDR record, or 0 (R527, R543). -/
def State.journalAddress (s : State) : Nat :=
  (s.fls.allCommits.flatMap (fun c => splitRecords 124 c.recs)).foldl
    (fun a r => if leAt r 0 1 = 0x0B then leAt r 2 2 else a) 0

/-- A DAWN_FAIL found while the island did not run goes into the journal once it does (R120, R130, R610). -/
def State.journalLatch (s : State) : State :=
  if s.isl.rcLatch || s.isl.dawnOwed then
    let r := s.pwr.dawnRec
    ({ s with isl := { s.isl with rcLatch := false, dawnOwed := false } }).note 6 (r.code + 256 * r.index)
      (toLE 1 r.attempt ++ toLE 1 0 ++ toLE 2 r.ms ++ s.rtcBytes)
  else s

/-! ### Trim windows (R165) -/

/-- The source the next window takes: 2 frame marks, 1 the crystal, 0 none. -/
def State.trimSource (s : State) : Nat :=
  if s.get R.OSC_CTRL_frame_ok = 1 ∧ s.isl.linkUp = true ∧ s.hzn.lock = .locked then 2
  else if s.get R.OSC_STAT_xtal_run = 1 ∧ s.get R.OSC_STAT_xtal_fail = 0 then 1 else 0

/-- A window starts where none runs and a source is there. -/
def State.trimStart (s : State) : State :=
  if s.get R.OSC_CTRL_auto = 1 ∧ s.get R.OSC_STAT_trim_src = 0 ∧ s.isl.booted = true ∧ s.isl.runOn = true then
    { s.put R.OSC_STAT_trim_src s.trimSource with isl := { s.isl with trimSpoilt := false } } else s

/-- The running window is discarded, and ends (R166). -/
def State.trimDrop (s : State) : State := (s.count R.OSC_CNT_discarded 1).put R.OSC_STAT_trim_src 0

/-- A write of OSC_CTRL: without auto no window runs. -/
def State.trimControl (s : State) (v : Nat) : State :=
  let s1 := s.accWrite 0x450008 v false
  if s1.get R.OSC_CTRL_auto = 1 then s1.trimStart else s1.put R.OSC_STAT_trim_src 0

/-- The crystal starts with the island (R120, R168). -/
def State.xtalStart (s : State) : State :=
  if s.get R.OSC_STAT_xtal_fail = 0 then (s.put R.OSC_STAT_xtal_run 1).trimStart else s.trimStart

/-- The cycles a restart lost (R584): no volume or heat, error time for both loops, and in the journal the restart and the gap. Every
cycle that the outage reached is lost. -/
def State.gapNote (s : State) : State :=
  match s.isl.restartAt with
  | none => s
  | some t =>
    let len := s.mtr.cycleLen
    let eighths := len * ((s.now - t) / (len * 125 * ticksPerMs) + 1)
    let miss := fun (c : ChanSt) => { c with cycle := [], errEighths := (c.errEighths + eighths) % 8 }
    let c0 := s.mtr.chans[0]
    let c1 := s.mtr.chans[1]
    let s1 := ((s.count (R.MTR_CH_ERRT 0) ((c0.errEighths + eighths) / 8)).count (R.MTR_CH_ERRT 1) ((c1.errEighths + eighths) / 8))
    ({ s1 with isl := { s1.isl with restartAt := none }, mtr := { s1.mtr with chans := #v[miss c0, miss c1] } } : State).notePower 6
      |>.notePower 4

/-- What follows the log recovery of a boot (R527, R548, R613): the journal is rebuilt where it has not been since COLD, in ROM mode
the M-Bus address is looked up, and a failure or a loss of time that came before is journalled. A mass erase still to be resumed
comes first. -/
def State.bootFinish (s : State) : State :=
  if s.fls.recoverDue || s.fls.massPart.isSome then s
  else
    let s1 := if s.isl.rebuilt || s.isl.fw.isNone then s else s.rebuild
    let s2 := s1.put R.FLS_PROT_level s1.fls.protLevel
    let s3 := if s.isl.rcLatch || s.isl.dawnOwed then { s2 with pwr := { s2.pwr with dawnRec := s.pwr.dawnRec } } else s2
    let s4 := if s.isl.fw.isNone then s3.put R.MBUS_CFG_primary s3.journalAddress else s3
    let s5 := s4.journalLatch.gapNote
    if s5.isl.timeLost then { s5.notePower 3 with isl := { (s5.notePower 3).isl with timeLost := false } } else s5

/-- The log recovery of R606 and what waits for it. -/
def State.recover (s : State) : State := s.recoverErases.bootFinish

/-- ISLAND_BOOT (R526, R527, R548, R606, R613): the newest passing copy starts, or ROM mode; then the log is recovered and
the journal rebuilt. -/
def execIslandBoot (s : State) : Host.Outcome State Fault Refusal :=
  .next (if s.isl.mode = .cold || s.isl.booted then s
    else
      let s1 := { s.flashSeen with isl := { s.isl with fw := s.bootChoice, booted := true, sessions := Vector.replicate 3 none,
                                                       mboxOrder := [], kept := [] } }
      s1.readLog.recover.xtalStart)

/-- BUDGET_SAMPLE (R520, R524). A re-erase that waited for the budget starts once there is enough (R521, R606). -/
def execBudgetSample (vbat : BitVec 16) (vhold : BitVec 16) (mah : BitVec 8) (s : State) : Host.Outcome State Fault Refusal :=
  .next (if s.isl.mode = .cold then s
    else
      let t := s.supplySampled vbat.toNat vhold.toNat mah.toNat
      if t.fls.recoverDue && t.islandUp && t.eraseAllowed && t.fls.active.isNone && t.fls.suspended.isEmpty then t.recover else t)

/-! ### The mailbox (R531–R533) -/

def State.mboxReq (s : State) (k : Fin 2) : List Byte := (List.range 64).flatMap (fun w => toLE 4 (s.get (R.ISL_CH_REQ k.val w)))

/-- A request: command, argument length, arguments. -/
def State.mboxCmd (s : State) (k : Fin 2) : Nat := leAt (s.mboxReq k) 0 2
def State.mboxLen (s : State) (k : Fin 2) : Nat := leAt (s.mboxReq k) 2 2
def State.mboxArgs (s : State) (k : Fin 2) : List Byte := ((s.mboxReq k).drop 8).take (min 248 (s.mboxLen k))

/-- The channel's command has completed: done, and its event (R535). -/
def State.mboxDone (s : State) (k : Fin 2) : State :=
  ((s.put (R.ISL_CH_STAT_busy k.val) 0).put (R.ISL_CH_STAT_done k.val) 1).raiseIsl k.val

/-- The response of R532 stands in ISL_CHk_RSP, and the status in ISL_CHk_STAT. -/
def State.mboxRespond (s : State) (k : Fin 2) (status : Nat) (data : List Byte) : State :=
  let req := s.mboxReq k
  let bs := req.take 2 ++ toLE 2 data.length ++ (req.drop 4).take 4 ++ toLE 1 status ++ List.replicate 7 0 ++ data
  let s1 := (List.range 64).foldl (fun t w => t.put (R.ISL_CH_RSP k.val w) (leAt bs (4 * w) 4)) s
  s1.put (R.ISL_CH_STAT_status k.val) status

/-- A command ends: its response is written; it shows as done now, or once the island link has returned (R547). -/
def State.mboxEnd (s : State) (k : Fin 2) (status : Nat) (data : List Byte) : State :=
  let s1 := { s with isl := { s.isl with mboxOrder := s.isl.mboxOrder.filter (fun c => c != k.val) } }
  let s2 := s1.mboxRespond k status data
  if s2.isl.linkUp then s2.mboxDone k else { s2 with isl := { s2.isl with kept := s2.isl.kept ++ [k.val] } }

/-- The link has returned: kept completions show (R547). -/
def State.mboxKept (s : State) : State :=
  s.isl.kept.foldl (fun t k => t.mboxDone (halfOf k)) { s with isl := { s.isl with kept := [] } }

/-- A write of 1 to ISL_CHk_CTRL.go (R531, R533). -/
def State.mboxGo (s : State) (k : Fin 2) : State :=
  if s.get (R.ISL_CH_STAT_busy k.val) = 1 then s.count R.ISL_CNT_busy_rejects 1
  else
    let s1 := s.put (R.ISL_CH_STAT_busy k.val) 1
    if s1.get R.GEN_READY_mbox_ready = 0 ∨ s1.isl.linkUp = false then (s1.mboxRespond k 1 []).mboxDone k
    else { s1 with isl := { s1.isl with mboxOrder := s1.isl.mboxOrder ++ [k.val] } }

/-- Commands the boot ROM serves (R527). -/
def romServes (code : Nat) : Bool := [0x0001, 0x0010, 0x0011, 0x0012].contains code

def knownCommand (code : Nat) : Bool := [0x1, 0x2, 0x3, 0x10, 0x11, 0x12, 0x20, 0x21, 0x22].contains code

/-- The channel whose command is served next (R531): the first in order of go, FW_ACTIVATE waiting for the other (R547). -/
def State.mboxNext (s : State) : Option Nat :=
  match s.isl.mboxOrder with
  | [] => none
  | [k] => some k
  | a :: b :: _ => if s.mboxCmd (halfOf a) = 0x12 then some b else some a

/-- The island serves channel `k`'s command, whose code is `code`: BAD_CMD in ROM mode where it is not served, BAD_LEN, or
what `body` does with the arguments: a status, its data and the state. -/
def State.mboxServe (s : State) (k : Fin 2) (code : Nat) (lenOk : Nat → Bool)
    (body : List Byte → State → Nat × List Byte × State) : State :=
  if !s.islandUp || s.mboxNext != some k.val || s.mboxCmd k != code then s
  else if s.isl.fw.isNone && !romServes code then s.mboxEnd k 2 []
  else if !lenOk (s.mboxLen k) then s.mboxEnd k 3 []
  else
    let r := body (s.mboxArgs k) s
    r.2.2.mboxEnd k r.1 r.2.1

/-- MBOX_UNKNOWN_COMMAND (R527, R533): BAD_CMD. -/
def execMboxUnknownCommand (ch : Fin 2) (s : State) : Host.Outcome State Fault Refusal :=
  .next (if !s.islandUp || s.mboxNext != some ch.val ||
      (knownCommand (s.mboxCmd ch) && (s.isl.fw.isSome || romServes (s.mboxCmd ch))) then s
    else s.mboxEnd ch 2 [])

/-! ### GET_INFO, REG_READ, REG_WRITE -/

def rangeBytes (r : Option (Nat × Nat)) : List Byte :=
  match r with
  | some (lo, hi) => toLE 2 lo ++ toLE 2 hi
  | none => toLE 2 0xFFFF ++ toLE 2 0

/-- The 32 bytes of GET_INFO (R537). -/
def State.islInfo (s : State) : List Byte :=
  let i := s.isl
  toLE 2 (levelOf i.fw) ++
  rangeBytes (match i.fw with | some f => f.levels.boot | none => none) ++
  rangeBytes (match i.fw with | some f => f.levels.stage2 | none => none) ++
  toLE 1 (match i.fw with | some f => f.copy | none => 0xFF) ++ toLE 1 i.mode.num ++ toLE 2 i.vbat ++ toLE 2 i.vhold ++
  toLE 2 (s.get R.BATT_BUDGET_ms) ++ toLE 2 (s.get R.BATT_CAP_used_mah) ++ toLE 1 (s.get R.MBUS_CFG_primary) ++
  toLE 1 (b2n i.battLow + 2 * s.get R.OSC_STAT_xtal_fail + 4 * b2n i.fw.isNone + 8 * b2n i.commitDeferred) ++ toLE 2 0 ++
  toLE 8 ((s.now - i.warmAt) / (1000 * ticksPerMs))

def execGetInfo (ch : Fin 2) (s : State) : Host.Outcome State Fault Refusal :=
  .next (s.mboxServe ch 0x01 (fun n => n == 0) (fun _ t => (0, t.islInfo, t)))

/-- The register offset of a block base and an offset (R530); none for a base that is no block's. -/
def islOffset (base off : Nat) : Option Nat :=
  if [0x10000, 0x20000, 0x30000, 0x40000, 0x50000, 0x60000].contains base then
    some (if off < 0x10000 then 0x400000 + base + off else 0x470000)
  else none

def execRegRead (ch : Fin 2) (s : State) : Host.Outcome State Fault Refusal :=
  .next (s.mboxServe ch 0x02 (fun n => n == 8) (fun a t =>
    match islOffset (leAt a 0 4) (leAt a 4 4) with
    | none => (4, [], t)
    | some o => let r := t.islRead o; (0, toLE 4 r.1, r.2)))

/-- What a REG_WRITE of an island register does (R530): its access codes, and the registers with a behaviour of their own. -/
def State.islWrite (s : State) (off v : Nat) : State :=
  match off with
  | 0x410000 => if bitAt v 0 then s.mtrClear else s
  | 0x410010 => s.rtcSet v
  | 0x41001C => if bitAt v 0 then s.calLock else s
  | 0x420010 => s.hostRead (bits v 0 20)
  | 0x420024 => s.protRequest (bits v 0 2) (bits v 16 16)
  | 0x420028 => if 1 ≤ bits v 0 4 ∧ bits v 0 4 ≤ 8 then s.accWrite off v false else s
  | 0x42004C => if bitAt v 0 then s.flsClear else s
  | 0x430000 => s.setPrimary (bits v 0 8)
  | 0x440010 => if bitAt v 0 then s.put R.BATT_CAP_used_mah 0 else s
  | 0x450004 => if s.get R.OSC_CTRL_auto = 1 then s else s.accWrite off v false
  | 0x450008 => s.trimControl v
  | _ => if 0x410000 ≤ off ∧ calOffsets.contains (off - 0x410000) then s.calWrite (off - 0x410000) v else s.accWrite off v false

def execRegWrite (ch : Fin 2) (s : State) : Host.Outcome State Fault Refusal :=
  .next (s.mboxServe ch 0x03 (fun n => n == 12) (fun a t =>
    match islOffset (leAt a 0 4) (leAt a 4 4) with
    | none => (4, [], t)
    | some o => (0, [], t.islWrite o (leAt a 8 4))))

/-! ### Firmware commands (R525, R529, R534) -/

/-- The bank A area a write target names (R529): island firmware goes to the copy not running. -/
def State.targetArea (s : State) (target : Nat) : Nat :=
  match target with
  | 0 => match s.isl.fw with | some f => 1 - f.copy | none => 0
  | 1 => 2
  | _ => 3

/-- Sectors reached, each erased once a session (R534); the flag says that an erase was refused. -/
def State.fwErase (s : State) (target : Nat) : List Nat → State × Bool
  | [] => (s, false)
  | n :: ns =>
    let done := (s.isl.sessions.toList.getD target none).getD []
    if done.contains n then s.fwErase target ns
    else if !s.eraseAllowed then (s.eraseRefused 2 false n, true)
    else
      let s1 := (s.eraseNow false n).flsLast 2 0 false n 0
      ({ s1 with isl := { s1.isl with
          sessions := s1.isl.sessions.mapIdx (fun i x => if i = target then some (n :: done) else x) } } : State).fwErase target ns

/-- Words programmed in turn, an all-ones word left blank; the flag says that one was not blank (R534). -/
def State.fwProgram (s : State) : List (Nat × Nat) → State × Bool
  | [] => (s, false)
  | (ix, v) :: ws =>
    if v = blankWord ∧ s.fls.word ix = blankWord ∧ s.fls.isTorn ix = false then s.fwProgram ws
    else
      let r := s.flashProgram ix v false
      if r.1 = 0 then r.2.fwProgram ws else (r.2, true)

/-- Bytes from a byte offset on, as words of the flash with 0xFF where nothing is written. -/
def fwWords (base off : Nat) (bs : List Byte) : List (Nat × Nat) :=
  let padded := List.replicate (off % 8) (0xFF : Byte) ++ bs
  (List.range ((padded.length + 7) / 8)).map (fun i =>
    let chunk := (padded.drop (8 * i)).take 8
    (base + off / 8 + i, ofLE (chunk ++ List.replicate (8 - chunk.length) (0xFF : Byte))))

def execFwWrite (ch : Fin 2) (s : State) : Host.Outcome State Fault Refusal :=
  .next (if s.fls.active.isSome || !s.fls.suspended.isEmpty then s
    else s.mboxServe ch 0x10 (fun n => decide (9 ≤ n ∧ n ≤ 240)) (fun a t0 =>
    let t := t0.journalFirst
    let target := leAt a 0 1
    let off := leAt a 4 4
    let data := a.drop 8
    let area := t.targetArea target
    let base := 256 * (fwArea area).1
    if 2 < target ∨ leAt a 1 3 ≠ 0 ∨ (fwArea area).2 < off + data.length then (4, [], t)
    else
      let old := if area < 2 ∧ (t.isl.copySeq.toList.getD area none).isNone then (t.bootCopy area).map (fun p => p.1) else none
      let t1 := { t with isl := { t.isl with
        sessions := t.isl.sessions.mapIdx (fun i (x : Option (List Nat)) => if i = target then some (x.getD []) else x),
        copySeq := t.isl.copySeq.mapIdx (fun i x => if i = area then (match x with | some q => some q | none => old) else x) } }
      let first := (fwArea area).1 + off / 2048
      let last := (fwArea area).1 + (off + data.length - 1) / 2048
      let e := t1.fwErase target ((List.range (last + 1 - first)).map (fun i => first + i))
      if e.2 then (6, [], e.1)
      else
        let p := e.1.fwProgram (fwWords base off data)
        (if p.2 then 9 else 0, [], p.1)))

/-- The check of a written area (R526, R529, R362): the error code, or the content's sequence number. -/
def State.fwCheck (s : State) (target : Nat) (bs : List Byte) : Except LoadErr Nat :=
  match target with
  | 0 => match s.checkIslandFw bs with | .error e => .error e | .ok r => .ok r.1
  | 1 => match s.checkStage2 bs with | .error e => .error e | .ok _ => .ok 0
  | _ => match s.checkPatch bs with | .error e => .error e | .ok _ => .ok 0

def execFwCommit (ch : Fin 2) (s : State) : Host.Outcome State Fault Refusal :=
  .next (s.mboxServe ch 0x11 (fun n => n == 8) (fun a t =>
    let target := leAt a 0 1
    let len := leAt a 4 4
    let area := t.targetArea target
    if 2 < target ∨ leAt a 1 3 ≠ 0 then (4, [], t)
    else
      let t1 := { t with isl := { t.isl with sessions := t.isl.sessions.mapIdx (fun i x => if i = target then none else x) } }
      if (fwArea area).2 < len then (4, [], t1)
      else match t.fwCheck target (t.flashTake (256 * (fwArea area).1) len) with
        | .error e => (7, toLE 1 e.code, { t1.flashSeen with isl := { t1.isl with areaOk := t1.isl.areaOk &&& ~~~(BitVec.twoPow 4 area) } })
        | .ok id => (0, [], { t1.flashSeen with isl := { t1.isl with
            areaOk := t1.isl.areaOk ||| BitVec.twoPow 4 area,
            copySeq := t1.isl.copySeq.mapIdx (fun i x => if i = area then some id else x) } })))

/-! ### Security commands (R536–R540) -/

/-- What SEAL_ADVANCE and REVOKE sign (R536). -/
def signedBytes (code : Nat) (args : List Byte) : List Byte :=
  hexBytes [0x54, 0x57, 0x58, 0x53] ++ toLE 2 code ++ args ++ toLE 8 Config.serial

/-- R536: the key is that of a signer slot which `may` sign, and its signature holds; none, or the R190 code. -/
def State.signedBy (s : State) (code : Nat) (args key sig : List Byte) (may : Nat → Bool) : Option Nat :=
  if !((List.range 4).any (fun n => may n && s.isl.signerOk n key)) then some 0x07
  else if !Config.ecdsaVerify key (Config.sha384 (signedBytes code args)) sig then some 0x08
  else none

/-- SEAL_ADVANCE (R540): BAD_ARG, DENIED and FULL in that order, then the signature. -/
def execSealAdvance (ch : Fin 2) (s : State) : Host.Outcome State Fault Refusal :=
  .next (s.mboxServe ch 0x20 (fun n => n == 201) (fun a t =>
    let slot := leAt a 0 1
    let value := leAt a 4 4
    if 3 < slot ∨ leAt a 1 3 ≠ 0 ∨ value ≤ t.isl.seal (slot4 slot) then (4, [], t)
    else if t.isl.signRev.getLsbD slot then (5, [], t)
    else if 64 ≤ t.isl.seals[slot4 slot].length then (8, [], t)
    else match t.signedBy 0x20 (a.take 8) ((a.drop 8).take 97) (a.drop 105) (fun n => n == slot) with
      | some e => (7, toLE 1 e, t)
      | none => (0, [], { t with isl := { t.isl with
          seals := t.isl.seals.set (slot4 slot) (value :: t.isl.seals[slot4 slot]) } })))

/-- REVOKE (R536, R538): the bit of a key or signer slot sets. -/
def execRevoke (ch : Fin 2) (s : State) : Host.Outcome State Fault Refusal :=
  .next (s.mboxServe ch 0x21 (fun n => n == 197) (fun a t =>
    let kind := leAt a 0 1
    let slot := leAt a 1 1
    if 1 < kind ∨ leAt a 2 2 ≠ 0 ∨ (if kind = 0 then 8 else 4) ≤ slot then (4, [], t)
    else match t.signedBy 0x21 (a.take 4) ((a.drop 4).take 97) (a.drop 101) (fun n => kind == 0 || n != slot) with
      | some e => (7, toLE 1 e, t)
      | none => (0, [], { t with isl :=
          if kind = 0 then { t.isl with keyRev := t.isl.keyRev ||| BitVec.twoPow 8 slot }
          else { t.isl with signRev := t.isl.signRev ||| BitVec.twoPow 4 slot } })))

/-- PROVISION (R536): in BENCH at protection level 0, into a slot not provisioned. -/
def execProvision (ch : Fin 2) (s : State) : Host.Outcome State Fault Refusal :=
  .next (s.mboxServe ch 0x22 (fun n => n == 36 || n == 52) (fun a t =>
    let kind := leAt a 0 1
    let slot := leAt a 1 1
    let value := ofLE (a.drop 4)
    if 1 < kind ∨ leAt a 2 2 ≠ 0 ∨ (if kind = 0 then 8 else 4) ≤ slot then (4, [], t)
    else if a.length ≠ (if kind = 0 then 36 else 52) then (3, [], t)
    else if !t.isBench || t.fls.protLevel != 0 ||
        (if kind = 0 then t.isl.keyProv.getLsbD slot else t.isl.signProv.getLsbD slot) then (5, [], t)
    else (0, [], { t with isl :=
      if kind = 0 then { t.isl with keyProv := t.isl.keyProv ||| BitVec.twoPow 8 slot, keys := SMap.insert (SMap.erase t.isl.keys slot) slot value }
      else { t.isl with signProv := t.isl.signProv ||| BitVec.twoPow 4 slot, signers := SMap.set 0 t.isl.signers slot value } })))

/-- A write of 1 to ISL_CTRL.clr_counts (R549). -/
def State.islClear (s : State) : State :=
  s.puts [(R.ISL_CNT_busy_rejects, 0), (R.BATT_BUDGET_refusals, 0), (R.MBUS_CNT_answered, 0), (R.MBUS_CNT_discarded, 0)]

def execIslClrCounts (s : State) : Host.Outcome State Fault Refusal := .next s.islClear

end Sys2Proof.Machine
end

