-- ==== Sys2Proof/Machine/Power.lean ====
section
/-!
DEFINITION. Sys2Proof/Machine/Power.lean: rails and enables (R66–R68, R79, R80), dawn (R119–R126), DAWN_FAIL and its retries (R130,
R131), the resets (R132, R133), dusk (R134–R138) and immediate stops (R139–R143).
-/

namespace Sys2Proof.Machine

/-! ### What a reset of the control die leaves (R132) -/

/-- A tile that has lost everything volatile: its conductances, remaps and refix counts stay. -/
def TileSt.cut (x : TileSt) : TileSt :=
  { TileSt.init with cells := x.cells, blanks := x.blanks, blank := x.blank, fogLost := x.fogLost, unfixed := x.unfixed, spares := x.spares, dirty := x.dirty, worn := x.worn, refixes := x.refixes, faulty := x.faulty }

/-- The fields that show the straps as sampled. -/
def strapFields : List Fld :=
  [R.GEN_STRAP_pos_slot, R.GEN_STRAP_pos_sled, R.GEN_STRAP_bench_en, R.GEN_STRAP_sb_mode, R.GEN_STRAP_host_bif, R.GEN_TOPO_slot,
   R.GEN_TOPO_sled, R.GEN_TOPO_bench]

/-- The registers of the control die at their reset values; the straps keep what was sampled until the next sample, as long as
the die has power (R69, R81). -/
def RegFile.dieReset (r : RegFile) (powerLost : Bool) : RegFile :=
  let r1 := (r.resetRange 0 0x300000).resetRange 0x1000000 0x2000000
  if powerLost then r1 else strapFields.foldl (fun u f => u.put f (r.get f)) r1

/-- The latched fog registers, which an immediate stop leaves until the rails fall (R238). -/
def RegFile.fogLatches (r : RegFile) : List (Nat × Nat) :=
  r.filter (fun e => let o := e.1 / 32; decide (0x1000000 ≤ o ∧ 0x40 ≤ o % 0x10000 ∧ o % 0x10000 < 0x84))

/-- The control die loses its state: at power loss, in DAWN_FAIL, at a conventional reset. DRAM contents go with its rails.
The blocks below 0x30_0000 are the control die's; the island keeps its own (R549). -/
def State.dieReset (s : State) (powerLost : Bool) : State :=
  let s1 := ((List.range 4).foldl (fun u d => u.abandonRuns d false) s).pulsesStop
  { s1 with
    regs := s1.regs.dieReset powerLost,
    caps := s1.caps.filter (fun x => x.1 / 2 ^ 28 == 3),
    mem := if powerLost then [] else s1.mem, poison := if powerLost then [] else s1.poison,
    dueWrites := [], flushes := Vector.replicate 2 0,
    hzn := HznSt.init, clk := { ClkSt.init with refPresent := s1.clk.refPresent }, img := ⟨none, none, [], none, [], []⟩,
    tiles := s1.tiles.filterMap (fun (x : Nat × TileSt) => let y := x.2.cut; if y = TileSt.init then none else some (x.1, y)),
    fix := FixSt.init, seqs := Vector.replicate 16 SeqSt.init, outRuns := [], patch := none, descs := [], rings := [], saved := [],
    freeing := [], restoring := [], charges := [], passFrame := 0, dispatched := [], fab := FabSt.init,
    host := { halves := Vector.replicate 2 HalfSt.init, sessions := [], nextSession := 0, sbStatus := 0, alertReleased := false },
    thm := ThmSt.init, flog := [], flogSeq := 0, tapCtl := if powerLost then TapSt.init else s1.tapCtl, coreFrac := 0,
    isl := { s1.isl.linkDropped with linkLostAt := none },
    pwr := { s1.pwr with released := false, sampled := s1.pwr.sampled && !powerLost, dramLink := 0,
                         arrayLink := 0, dramInit := 0, dusk := none, heldDusk := none,
                         warm := false, cxlReset := false, cxlMemClear := false, cxlHalf := 0, stage2 := none, stage2Digest := 0 } }

/-- Open attributions close at a frame (R136, R140). -/
def State.closeBindings (s : State) (f : Nat) : State :=
  { s with mtr := { s.mtr with bindings := s.mtr.bindings.map (fun b => if b.toFrame.isNone then { b with toFrame := some f } else b) } }

/-- A package state in which VAUX loss, a power fault or a thermal shutdown makes a stop record (R139, R142); a stop in progress
has made its own. -/
def State.underWay (s : State) : Bool :=
  s.running || s.dawning || (s.pwr.state == .dusk && !s.stopping)

/-! ### Island records -/

/-- A record made by the island, where it runs. -/
def State.islNote (s : State) (type tag : Nat) (content : List Byte) : State :=
  if s.islandUp then s.note type tag content else s

/-- RAIL_FAULT (R79, R80, R610). -/
def State.railFault (s : State) (rail mv : Nat) : State :=
  s.islNote 8 rail (toLE 2 mv ++ toLE 2 0 ++ s.frameBytes ++ toLE 2 s.tick ++ s.rtcBytes)

/-- The stop record (R138, R142, R610). -/
def State.stopNote (s : State) (kind : Nat) (inDusk : Bool) (rail frame : Nat) : State :=
  ({ s with pwr := { s.pwr with stopRec := ⟨kind, inDusk, rail, frame, true⟩ } }).islNote 7 (kind + 16 * b2n inDusk + 32 * rail)
    (s.rtcBytes ++ toLE 6 frame ++ toLE 6 0)

/-! ### Enables (R67, R137) -/

/-- The enables of the DRAM pair fall first; then VANA, VSER, VCORE and VIO. -/
def nextLowered (e : BitVec 6) : BitVec 6 :=
  if e &&& 0b110000#6 ≠ 0#6 then 0b110000#6
  else if e.getLsbD 3 then 0b001000#6 else if e.getLsbD 2 then 0b000100#6 else if e.getLsbD 1 then 0b000010#6 else 0b000001#6

/-- The next enable in the order of R67, once every enabled rail is good. -/
def nextRaised (e : BitVec 6) : BitVec 6 :=
  if !e.getLsbD 1 then 0b000010#6 else if !e.getLsbD 2 then 0b000100#6 else if !e.getLsbD 3 then 0b001000#6 else 0b110000#6

/-- The enables driven; the island link is isolated from the fall of EN_VCORE on (R54). -/
def State.setEnables (s : State) (e : BitVec 6) : State :=
  { s with pwr := { s.pwr with enables := e, railGood := s.pwr.railGood &&& e },
           isl := if e.getLsbD 1 then s.isl else s.isl.linkDropped }

/-- One step of R137: EN_VIO falls last, and the package reaches OFF with it. -/
def State.lowerNext (s : State) : State :=
  let s1 := s.setEnables (s.pwr.enables &&& ~~~(nextLowered s.pwr.enables))
  if s1.pwr.enables ≠ 0 then s1
  else match s1.pwr.lowering with
    | .dusk =>
      let s2 := s1.dieReset true
      { s2 with pwr := { s2.pwr with state := .off, lowering := .none, faultLow := false } }
    | .stop => { s1 with regs := s1.regs.resetRange 0x1000000 0x2000000, pwr := { s1.pwr with state := .off, lowering := .none, faultLow := false } }
    | _ => { s1 with pwr := { s1.pwr with lowering := .none } }

/-- The enables begin to fall, for a reason. -/
def State.beginLowering (s : State) (why : Lowering) : State :=
  let s1 := { s with pwr := { s.pwr with lowering := if s.pwr.enables = 0 then Lowering.none else why } }
  if s1.pwr.enables = 0 then s1 else s1.lowerNext

/-- The island link has been down for 20 ms in a running state or in the dusk that followed, and no enable has fallen (R143). -/
def State.linkOverdue (s : State) : Bool :=
  match s.isl.linkLostAt with
  | some t => decide (t + 20 * ticksPerMs ≤ s.now) && (s.running || s.pwr.state == .dusk)
  | none => false

/-- The island lowers the enables by itself (R143): a dusk goes on with it, a package that could not enter DUSK stops. -/
def State.islandLowers (s : State) : State :=
  let s1 := { s with isl := { s.isl with linkLostAt := none } }
  match s1.pwr.dusk with
  | some x => ({ s1 with pwr := { s1.pwr with dusk := some { x with phase := .falling } } }).beginLowering .dusk
  | none => (s1.dieReset true).beginLowering .stop

/-- ENABLE_FALL: the next enable of a sequence that runs falls; with the island link lost for 20 ms and no sequence running the
island starts one itself. -/
def execEnableFall (s : State) : Host.Outcome State Fault Refusal :=
  .next (if s.pwr.enables = 0 then s
    else if s.pwr.lowering ≠ .none then s.lowerNext
    else if s.linkOverdue then s.islandLowers
    else s)

/-- RAIL_FALL_TIMEOUT (R137): a power fault, recorded. -/
def execRailFallTimeout (rail : Fin 6) (mv : BitVec 16) (s : State) : Host.Outcome State Fault Refusal :=
  .next (if s.pwr.vauxIn = false ∨ s.pwr.enables.getLsbD rail.val = true ∨ s.dawning = true then s
    else
      let s1 := s.railFault rail.val mv.toNat
      { s1 with pwr := { s1.pwr with faultLow := decide (s1.pwr.lowering ≠ .none) || s1.pwr.faultLow } })

/-! ### DAWN_FAIL (R119, R130) -/

/-- Milliseconds from VAUX in range. -/
def State.vauxMs (s : State) : Nat := min 65535 ((s.now - s.pwr.vauxAt) / ticksPerMs)

/-- The package enters DAWN_FAIL with a cause; a step-0 failure stays in the latch until the island runs (R120), and another's record
waits for the island too where it does not run yet. -/
def State.dawnFail (s : State) (code index : Nat) : State :=
  let ms := s.vauxMs
  let s1 := s.dieReset true
  let s2 := { s1 with pwr := { s1.pwr with state := .dawnFail, faultLow := false, dawnRec := ⟨code, index, s1.pwr.attempt, ms, true⟩ } }
  let s3 := if code = 1 then { s2 with isl := { s2.isl with rcLatch := true } }
    else if !s2.islandUp then { s2 with isl := { s2.isl with dawnOwed := true } }
    else s2.islNote 6 (code + 256 * index) (toLE 1 s2.pwr.attempt ++ toLE 1 0 ++ toLE 2 ms ++ s2.rtcBytes)
  s3.beginLowering .dawnFail

/-- A dawn attempt starts at step 0; a rail in range with its enable low fails it at once (R79). -/
def State.dawnBegin (s : State) (unexpected : BitVec 6) : State :=
  let s1 := { s with pwr := { s.pwr with state := .dawn, dawnStep := 0, faultLow := false, restartWanted := false, lowering := .none } }
  match (List.range 6).find? (fun r => unexpected.getLsbD r) with
  | some r => s1.dawnFail 3 r
  | none => s1

/-- VAUX_IN_RANGE (R117, R120, R517). -/
def execVauxInRange (unexpected : BitVec 6) (s : State) : Host.Outcome State Fault Refusal :=
  .next (if s.pwr.vauxIn then s
    else
      let s1 := { s with pwr := { s.pwr with vauxIn := true, vauxAt := s.now, attempt := 0 } }
      let s2 := if s1.isl.mode = .cold then { s1 with isl := { s1.isl with warmAt := s1.now } }
        else if s1.isl.booted then (s1.notePower 2).recover else s1
      let woken := s2.isl.mode == .standby
      let s3 := { s2 with isl := { s2.isl with mode := .aux, runOn := true } }
      let s3 := if woken then (if s3.get R.OSC_STAT_trim_src = 0 then s3 else s3.trimDrop).trimStart else s3
      if s3.pwr.state = .off then s3.dawnBegin unexpected else s3)

/-- RC_START_TIMEOUT (R120). -/
def execRcStartTimeout (s : State) : Host.Outcome State Fault Refusal :=
  .next (if s.dawning = true ∧ s.pwr.dawnStep = 0 then s.dawnFail 1 0 else s)

/-- EN_VIO_RISE (R121): step 0 is done, and a failure it left in the latch is journalled. -/
def execEnVioRise (s : State) : Host.Outcome State Fault Refusal :=
  .next (if s.dawning = true ∧ s.pwr.dawnStep = 0 ∧ s.pwr.enables = 0 then
      let s1 := if s.isl.booted then s.journalLatch else s
      { s1 with pwr := { s1.pwr with dawnStep := 1, enables := 0b000001#6 } }
    else s)

/-- ENABLE_RISE (R67). -/
def execEnableRise (s : State) : Host.Outcome State Fault Refusal :=
  .next (if s.dawning = true ∧ s.pwr.dawnStep = 1 ∧ s.pwr.enables.getLsbD 0 = true ∧ s.pwr.enables ≠ BitVec.allOnes 6 ∧
      s.pwr.railGood = s.pwr.enables then s.setEnables (s.pwr.enables ||| nextRaised s.pwr.enables) else s)

/-! ### Phase B (R121–R126) -/

/-- The control die leaves internal reset: the straps are sampled (R29, R44, R69), the PLLs start. -/
def State.dieRelease (s : State) : State :=
  let b := s.pwr.balls
  let s1 := s.puts [(R.GEN_STRAP_pos_slot, b.posSlot.toNat), (R.GEN_STRAP_pos_sled, b.posSled.toNat), (R.GEN_STRAP_bench_en, b2n b.benchEn),
    (R.GEN_STRAP_sb_mode, b2n b.sbMode), (R.GEN_STRAP_host_bif, b2n b.hostBif), (R.GEN_TOPO_slot, b.posSlot.toNat),
    (R.GEN_TOPO_sled, b.posSled.toNat), (R.GEN_TOPO_bench, b2n (b.benchEn || s.a0)), (R.GEN_STATE_attempt, s.pwr.attempt)]
  { s1 with pwr := { s1.pwr with dawnStep := 3, released := true, sampled := true, releasedAt := s1.now },
            clk := { s1.clk with started := s1.clk.started ||| 0x1F#8 } }

/-- Step 2 ends when every rail is good and PERST_N is released. -/
def State.tryRelease (s : State) : State :=
  if s.dawning = true ∧ s.pwr.dawnStep = 2 ∧ s.pwr.perstLow = false then s.dieRelease else s

/-- RAIL_GOOD (R67). -/
def execRailGood (rail : Fin 6) (s : State) : Host.Outcome State Fault Refusal :=
  .next (if s.pwr.enables.getLsbD rail.val = false then s
    else
      let good := s.pwr.railGood ||| BitVec.twoPow 6 rail.val
      let s1 := { s with pwr := { s.pwr with railGood := good } }
      if s1.dawning = true ∧ s1.pwr.dawnStep = 1 ∧ good = BitVec.allOnes 6 then
        ({ s1 with pwr := { s1.pwr with dawnStep := 2 } }).tryRelease
      else s1)

/-- RAIL_UNEXPECTED (R79, R119). -/
def execRailUnexpected (rail : Fin 6) (mv : BitVec 16) (s : State) : Host.Outcome State Fault Refusal :=
  .next (if s.pwr.vauxIn = false ∨ s.pwr.enables.getLsbD rail.val = true then s
    else if s.dawning then s.dawnFail 3 rail.val
    else s.railFault rail.val mv.toNat)

/-- PERST_RELEASE (R121). -/
def execPerstRelease (balls : Straps) (s : State) : Host.Outcome State Fault Refusal :=
  .next (({ s with pwr := { s.pwr with perstLow := false, balls := balls } }).tryRelease)

/-- A conventional reset: back to step 2, with the rails on (R117, R124, R132). The island journals it. -/
def State.conventionalReset (s : State) : State :=
  let s1 := (if s.islandUp then s.notePower 5 else s).dieReset false
  { s1 with pwr := { s1.pwr with state := .dawn, dawnStep := 2 } }

/-- PERST_ASSERT (R124, R141): no effect on a dusk, nor before phase B. -/
def execPerstAssert (s : State) : Host.Outcome State Fault Refusal :=
  let s1 := { s with pwr := { s.pwr with perstLow := true } }
  .next (if s.running = true ∨ (s.dawning = true ∧ 3 ≤ s.pwr.dawnStep) then s1.conventionalReset else s1)

/-- Step `n` of a dawn is in progress. -/
def State.atStep (s : State) (n : Nat) : Bool := s.dawning && s.pwr.dawnStep == n

def State.setStep (s : State) (n : Nat) : State := { s with pwr := { s.pwr with dawnStep := n } }

/-- DAWN_PLLS_LOCKED: step 3, all five PLLs together or the last of those PLL_LOCK has reported; the housekeeping scanner starts at its end (R619). -/
def execDawnPllsLocked (s : State) : Host.Outcome State Fault Refusal :=
  .next (if s.atStep 3 && s.clk.refPresent then
      ({ s with clk := { s.clk with locked := s.clk.locked ||| 0x1F#8, coasting := false, arrayForced := false, selfRefresh := 0 },
                thm := ThmSt.init }).setStep 4
    else s)

/-- fw_auth (R126): the failed image of the lowest code is named. -/
def State.authFail (s : State) (image : Nat) : State :=
  let first := !bitAt (s.get R.GEN_HOLD_CAUSE_causes) 1
  let named := if first then image else min image (s.get R.GEN_HOLD_CAUSE_auth_image)
  (s.put R.GEN_HOLD_CAUSE_auth_image named).raiseHold 1

/-- The island link is up: kept completions show (R528, R547). -/
def State.linkReturn (s : State) : State := ({ s with isl := { s.isl with linkUp := true, linkLostAt := none } }).mboxKept.trimStart

/-- ISLAND_HANDSHAKE: step 4, and the link's return in a state in which it dropped. -/
def execIslandHandshake (s : State) : Host.Outcome State Fault Refusal :=
  .next (if !s.islandUp || s.isl.linkUp || !s.controlUp then s
    else if s.atStep 4 then
      let s1 := (s.linkReturn.put R.PWR_DUSK_STAT_overrun (b2n s.pwr.overrunRec)).setStep 5
      if s1.isl.fw.isNone then s1.authFail 2 else s1
    else if s.dawning = true ∧ s.pwr.dawnStep < 4 then s
    else s.linkReturn)

/-- DRAM_LINK_TRAINED: step 5. -/
def execDramLinkTrained (s : State) : Host.Outcome State Fault Refusal :=
  .next (if s.atStep 5 then ({ s with pwr := { s.pwr with dramLink := 3 } }).setStep 6 else s)

/-- DRAM_INIT_DONE: step 6. -/
def execDramInitDone (s : State) : Host.Outcome State Fault Refusal :=
  .next (if s.atStep 6 then ({ s with pwr := { s.pwr with dramInit := 3 } }).setStep 7 else s)

/-- DATA_WINDOW_CLEARED: step 7. -/
def execDataWindowCleared (s : State) : Host.Outcome State Fault Refusal :=
  .next (if s.atStep 7 then s.clearWindows.setStep 8 else s)

/-- STAGE2_CHECKED: step 8 (R126). -/
def execStage2Checked (s : State) : Host.Outcome State Fault Refusal :=
  let bs := s.fwBytes 2
  .next (if !s.atStep 8 then s
    else
      let s1 := { s.flashSeen with pwr := { s.pwr with stage2Digest := Config.sha384 bs } }
      match s1.checkStage2 bs with
      | .ok l => ({ s1 with pwr := { s1.pwr with stage2 := some l } }).setStep 9
      | .error _ => (s1.authFail 0).setStep 9)

/-- BENCH begins (R109, R127): horizon is synthesised from HREFCLK, its first mark now. -/
def State.enterBench (s : State) : State :=
  let s1 := s.put R.GEN_READY_compute_ready (b2n (!s.anyHold))
  { s1 with
    pwr := { s1.pwr with state := .bench, dawnStep := 15, attempt := 0 },
    hzn := { HznSt.init with lock := .locked, counting := true, markAt := s1.now, markSeen := true, everLocked := true },
    clk := { s1.clk with locked := s1.clk.locked ||| 0x20#8, started := s1.clk.started ||| 0x20#8 } }

/-- The sideband alert of a dawn that completes with a record unacknowledged (R512). -/
def State.dawnAlert (s : State) : State :=
  if s.pwr.dawnRec.valid || s.pwr.stopRec.valid then s.alert 3 else s

/-- Step 11 and the end of phase B (R122, R125). -/
def State.phaseBEnd (s : State) : State :=
  let s1 := match s.firmwarePair with | some p => s.raiseLevel p | none => s
  let s2 := s1.puts [(R.GEN_READY_cfg_ready, 1), (R.GEN_READY_mem_active, 1), (R.GEN_READY_sb_ready, 1), (R.GEN_READY_mbox_ready, 1),
    (R.PWR_DAWN_TIMES_cfg_ms, (s.now - s.pwr.releasedAt) / ticksPerMs)]
  let s3 := { s2 with pwr := { s2.pwr with cfgAt := s2.now } }
  if s3.get R.GEN_TOPO_bench = 1 then s3.enterBench.dawnAlert.trimStart else s3.setStep 12

/-- ARRAY_LINK_TRAINED: step 9, one die after another (R224, R234, R320). Without stage-2, step 10 is skipped (R126). -/
def execArrayLinkTrained (die : Fin 4) (faulty : BitVec 64) (s : State) : Host.Outcome State Fault Refusal :=
  let d := die.val
  .next (if !s.atStep 9 || s.pwr.arrayLink.getLsbD d then s
    else
      let s1 := { s with pwr := { s.pwr with arrayLink := s.pwr.arrayLink ||| BitVec.twoPow 4 d } }
      let s2 := (List.range 64).foldl (fun u k =>
        let t := 64 * d + k
        u.setTile t { u.tile t with faulty := faulty.getLsbD k, trims := [] }) s1
      let s3 := s2.eraseAtTraining d
      if s3.pwr.arrayLink ≠ BitVec.allOnes 4 then s3
      else if s3.pwr.stage2.isSome then s3.setStep 10 else s3.phaseBEnd)

/-- Every sequencer leaves HALTED (R338). -/
def State.seqsIdle (s : State) : State := { s with seqs := s.seqs.map (fun (q : SeqSt) => { q with mode := SeqMode.idle }) }

/-- PATCH_CHECKED: step 10 (R338, R365), then step 11. -/
def execPatchChecked (s : State) : Host.Outcome State Fault Refusal :=
  .next (if !s.atStep 10 then s
    else
      let s1 := if s.fwEmpty 3 then (s.put R.SEQ_PATCH_result 0xFF).authFail 1
        else match s.checkPatch (s.fwBytes 3) with
          | .ok p => ({ s with patch := some p }).put R.SEQ_PATCH_result 0
          | .error e => (s.put R.SEQ_PATCH_result e.code).authFail 1
      s1.flashSeen.seqsIdle.phaseBEnd)

/-- The end of step 14: HELD with a hold cause, READY otherwise, by way of READY to OVERCAST (R117, R122, R131, R632). -/
def State.dawnComplete (s : State) : State :=
  let s1 := s.put R.PWR_DAWN_TIMES_lock_ms ((s.now - s.pwr.cfgAt) / ticksPerMs)
  let s2 := { s1 with pwr := { s1.pwr with dawnStep := 15, attempt := 0 } }
  (if s2.anyHold then s2.enterHeld else s2.enterRunning).dawnAlert

/-- What a dawn step that times out reports (R119). Of two stacks or four dies the first not done is named; where one row of
the table covers both stacks, which of them is open. -/
def State.timeoutCause (s : State) : Option (Nat × Nat) :=
  let stack := Config.free s.freeIx % 2
  match s.pwr.dawnStep with
  | 1 => ((List.range 6).find? (fun r => s.pwr.enables.getLsbD r && !s.pwr.railGood.getLsbD r)).map (fun r => (2, r))
  | 3 => some (4, ((List.range 5).find? (fun p => !s.clk.locked.getLsbD p)).getD 0)
  | 4 => some (5, 0)
  | 5 => some (6, stack)
  | 6 => some (7, stack)
  | 7 => some (8, stack)
  | 8 => some (9, 0)
  | 9 => some (0xA, ((List.range 4).find? (fun d => !s.pwr.arrayLink.getLsbD d)).getD 0)
  | 10 => some (0xB, 0)
  | 12 => some (0xC, 0)
  | 13 => some (0xD, 0)
  | 14 => some (0xE, 0)
  | _ => none

/-- DAWN_TIMEOUT. -/
def execDawnTimeout (s : State) : Host.Outcome State Fault Refusal :=
  .next (if s.dawning = false then s
    else match s.timeoutCause with
      | some c => ({ s with freeIx := s.freeIx + 1 }).dawnFail c.1 c.2
      | none => s)

/-- DAWN_RETRY (R130): a conventional reset, which the island journals (R132). -/
def execDawnRetry (unexpected : BitVec 6) (s : State) : Host.Outcome State Fault Refusal :=
  .next (if s.pwr.state = .dawnFail ∧ s.pwr.vauxIn = true ∧ s.pwr.enables = 0 ∧ s.pwr.attempt < 3 then
      let s1 := if s.islandUp then s.notePower 5 else s
      ({ s1 with pwr := { s1.pwr with attempt := s1.pwr.attempt + 1 } }).dawnBegin unexpected
    else s)

/-- DUSK_RESTART (R117, R137). -/
def execDuskRestart (unexpected : BitVec 6) (s : State) : Host.Outcome State Fault Refusal :=
  .next (if s.pwr.state = .off ∧ s.pwr.restartWanted = true ∧ s.pwr.vauxIn = true ∧ s.pwr.enables = 0 then s.dawnBegin unexpected else s)

/-! ### Immediate stops and VAUX loss (R138–R142) -/

/-- The enables fall at once; the package enters OFF, and FAULT_N rises, when EN_VIO falls (R137, R138). -/
def State.stopped (s : State) : State :=
  let s2 : State := { s with pwr := { s.pwr with restartWanted := false, faultLow := true } }
  let s3 : State := s2.beginLowering .stop
  if s3.pwr.lowering = .none then { s3 with pwr := { s3.pwr with state := .off, faultLow := false } } else s3

/-- An immediate stop: everything under way is lost, no record is posted, and the enables fall at once. The package stays in its
state, unable to do anything of it, until the last enable falls. -/
def State.immediateStop (s : State) (kind rail : Nat) : State :=
  let s1 := (s.stopNote kind false rail s.frame).closeBindings s.frame
  let s2 := s1.dieReset true
  ({ s2 with regs := s1.regs.fogLatches.foldl (fun (r : RegFile) (e : Nat × Nat) => SMap.insert (SMap.erase r e.1) e.1 e.2) s2.regs }).stopped

/-- A rail that was in range with its enable up has left it (R139). -/
def State.railLost (s : State) (rail mv : Nat) : State :=
  let s1 := { s with pwr := { s.pwr with railGood := s.pwr.railGood &&& ~~~(BitVec.twoPow 6 rail) } }
  if s1.stopping then s1
  else if s1.pwr.state = .dawn then s1.dawnFail 2 rail
  else if s1.running || s1.pwr.state == .dusk then (s1.railFault rail mv).immediateStop 5 rail
  else s1

/-- POWER_FAULT (R80, R119, R139). -/
def execPowerFault (rail : Fin 6) (mv : BitVec 16) (s : State) : Host.Outcome State Fault Refusal :=
  .next (if s.pwr.enables.getLsbD rail.val = false ∨ s.pwr.railGood.getLsbD rail.val = false then s
    else s.railLost rail.val mv.toNat)

/-- The supply the island falls back to (R517). -/
def State.fallBack (s : State) : State :=
  if s.isl.mode = .cold then s
  else if 2400 ≤ s.isl.vhold then { s with isl := { s.isl with mode := .hold } }
  else if 2500 ≤ s.isl.vbat then { s with isl := { s.isl with mode := .standby, runOn := false } }
  else s.islandCold

/-- VAUX_LOSS (R68, R117, R142, R522, R547). -/
def execVauxLoss (s : State) : Host.Outcome State Fault Refusal :=
  .next (if !s.pwr.vauxIn then s
    else
      let f := s.frame
      let s1 := if s.underWay then (s.stopNote 6 (s.pwr.state == .dusk) 0 f).closeBindings f else s
      let s2 := (if s1.islandUp then s1.abandonErases.notePower 1 else s1).dieReset true
      let s3 := s2.puts [(R.ISL_CH_STAT_busy 0, 0), (R.ISL_CH_STAT_busy 1, 0)]
      let s4 := { s3 with
        tapIsl := TapSt.init,
        pwr := { s3.pwr with state := .off, vauxIn := false, attempt := 0, enables := 0, railGood := 0, lowering := .none,
                             restartWanted := false, faultLow := false },
        isl := { s3.isl with mboxOrder := [], kept := [], linkLostAt := none,
                             commitDeferred := s3.isl.commitDeferred || (s3.islandUp && decide (budgetMs s3.isl.vhold < 10)) } }
      s4.fallBack)

/-! ### Warm reset (R132, R133, R366) -/

/-- Registers a warm reset resets: the blocks other than GEN, PWR, HZN and THM, of HOST its registers alone, and the tiles'. -/
def RegFile.warm (r : RegFile) : RegFile :=
  ((((r.resetRange 0x20000 0x30000).resetRange 0x40000 0x240000).resetRange 0x270000 0x280000).resetRange 0x2A0000 0x300000).resetRange
    0x1000000 0x2000000

/-- Every sequencer stops; one whose machine check the reset clears serves again. -/
def SeqSt.warm (q : SeqSt) : SeqSt := { SeqSt.init with mode := if q.mode = .halted then .halted else .idle }

/-- A tile's bursts and fog sums end; what it holds stays until its erasure (R333). -/
def TileSt.warm (x : TileSt) : TileSt :=
  { x.clearFog with burst := none, caps := Vector.replicate 2 none }

/-- A warm reset runs (R133): every descriptor ends ABORTED before its context goes; images, objects and ports with them. -/
def State.warmStart (s : State) (cxl : Bool) : State :=
  let s0 := (s.flogAdd 9 (b2n cxl) 0 none).put R.GEN_READY_compute_ready 0
  let s1 := { s0 with pwr := { s0.pwr with warm := true, cxlReset := cxl } }
  let s2 := s1.imgAbortIn (fun _ => true)
  let s3 := { s2 with img := { s2.img with load := none, arriving := none } }
  let s4 := (s3.ctxWarmReset.fixQuiesce).portsDark
  let kept := [R.SEQ_PATCH_level, R.SEQ_PATCH_result, R.SEQ_PATCH_overlays, R.SEQ_PATCH_loaded].map (fun f => (f, s4.get f))
  let s5 : State := { s4 with
    regs := s4.regs.warm, seqs := s4.seqs.map SeqSt.warm, outRuns := [], coreFrac := 0, dispatched := [],
    fab := { FabSt.init with nextId := s4.fab.nextId },
    tiles := s4.tiles.map (fun (x : Nat × TileSt) => (x.1, x.2.warm)),
    fix := { FixSt.init with coreTicks := s4.fix.coreTicks }, dueWrites := [], clk := { s4.clk with gated := 0, gatePending := 0, ungating := 0, gateAfter := 0 } }
  { s5 with regs := kept.foldl (fun r p => r.put p.1 p.2) s5.regs }

/-- WARM_RESET: a write of PWR_RESET.warm. -/
def State.warmRequest (s : State) (key : Nat) : State :=
  if key ≠ 0x5E7A then s.count R.PWR_STAT_bad_keys 1
  else if s.running && !s.pwr.warm then s.warmStart false
  else s.put R.PWR_DUSK_STAT_warm_ignored 1

/-- WARM_RESET. -/
def execWarmReset (key : BitVec 16) (s : State) : Host.Outcome State Fault Refusal :=
  .next (if s.controlUp then s.warmRequest key.toNat else s)

/-! ### Dusk (R134–R138) -/

def DuskSource.kind : DuskSource → Nat
  | .host => 1 | .thermal => 2 | .islandLink => 3

/-- A dusk is accepted (R135). -/
def State.duskAccept (s : State) (source : DuskSource) (restart : Bool) : State :=
  let s1 := (s.leaveOvercast.imgAbort.fixDrop).put R.GEN_READY_compute_ready 0
  let s2 := { s1 with pwr := { s1.pwr with state := .dusk, dusk := some ⟨source, restart, s1.frame, false, .quiesce⟩,
                                           restartWanted := restart, faultLow := s1.pwr.faultLow || source == DuskSource.thermal } }
  (((s2.portsDark.alert 0).raiseHost 10).flogAdd 10 source.kind 0 none).logEvent 0 1 source.kind

/-- A dusk request (R135, R141): accepted, held behind a warm reset, or ignored. -/
def State.duskAsk (s : State) (source : DuskSource) (restart : Bool) : State :=
  if !s.running then s.put R.PWR_DUSK_STAT_ignored 1
  else if !s.pwr.warm then s.duskAccept source restart
  else if s.pwr.heldDusk.isNone then { s with pwr := { s.pwr with heldDusk := some (source, restart) } }
  else s.put R.PWR_DUSK_STAT_ignored 1

/-- A write of PWR_DUSK.request (R134). -/
def State.duskRequest (s : State) (key : Nat) (restart : Bool) : State :=
  if key ≠ 0xD05C then s.count R.PWR_STAT_bad_keys 1 else s.duskAsk .host restart

/-- DUSK_REQUEST. -/
def execDuskRequest (key : BitVec 16) (restart : Bool) (s : State) : Host.Outcome State Fault Refusal :=
  .next (if s.controlUp then s.duskRequest key.toNat restart else s)

/-- A warm reset completes: a held dusk is accepted (R135), admission runs again (R127). -/
def State.warmDone (s : State) : State :=
  let s1 := { s with pwr := { s.pwr with warm := false, cxlReset := false, heldDusk := none } }
  let s2 := if s1.working && !s1.anyHold then s1.put R.GEN_READY_compute_ready 1 else s1
  match s.pwr.heldDusk with
  | some d => s2.duskAccept d.1 d.2
  | none => s2

/-- WARM_RESET_DONE: of a warm reset that no CXL reset started. -/
def execWarmResetDone (s : State) : Host.Outcome State Fault Refusal :=
  .next (if s.pwr.warm && !s.pwr.cxlReset then s.warmDone else s)

/-- Work started before F is in progress (R136). -/
def State.quiesceBusy (s : State) : Bool :=
  s.seqs.toList.any (fun q => q.routine.isSome) || !s.outRuns.isEmpty || !s.fab.transfers.isEmpty ||
  s.fix.running.toList.any (fun r => !r.isEmpty) || s.fix.test.isSome || s.restoring != [] ||
  s.img.load.any (fun l => l.phase == 9) ||
  (List.range 64).any (fun c => (s.ctxState c == 2 || s.ctxState c == 3) && !s.freeing.contains c)

/-- The quiesce has ended (R136): granted descriptors complete FAULTED, ungranted ones REFUSED; the island closes attribution at
F − 1, records the stop and starts its commit. -/
def State.quiesceEnd (s : State) (x : Dusk) : State :=
  let cause := if x.source = .thermal then Cause.thermal else Cause.held
  let s1 := s.descs.foldl (fun u d => match u.descOf d.ctx d.slot with
    | some y => u.finish y (match y.phase with
        | .waiting => if y.desc.opcode = 4 then Status.faulted 0xA 2 else .refused cause
        | _ => .faulted 0xA 2)
    | none => u) s
  let s2 := s1.fixQuiesce.closeBindings x.frame
  let s2 := if x.source = .islandLink then s2 else s2.stopNote x.source.kind false 0 x.frame
  { s2 with pwr := { s2.pwr with dusk := some { x with phase := .commit } } }

/-- QUIESCE_DONE. -/
def execQuiesceDone (s : State) : Host.Outcome State Fault Refusal :=
  .next (match s.pwr.dusk with
    | some x => if x.phase = .quiesce ∧ x.markPassed = true ∧ s.quiesceBusy = false then
        { s.quiesceEnd x with pwr := { (s.quiesceEnd x).pwr with overrunRec := false } } else s
    | none => s)

/-- Unfinished work is abandoned (R136). -/
def State.abandonWork (s : State) : State :=
  let s1 := (List.range 16).foldl (fun u q => if (u.seq q).routine.isSome then u.routineStop q else u) s
  let s2 := ((List.range 4).foldl (fun u d => u.abandonRuns d false) s1).testAbandon
  { s2 with outRuns := [], fab := { s2.fab with transfers := [] } }

/-- QUIESCE_DEADLINE: 2 ms after acceptance. -/
def execQuiesceDeadline (s : State) : Host.Outcome State Fault Refusal :=
  .next (match s.pwr.dusk with
    | some x =>
      if x.phase ≠ .quiesce then s
      else if x.markPassed && !s.quiesceBusy then
        let s1 := s.quiesceEnd x
        { s1 with pwr := { s1.pwr with overrunRec := false } }
      else
        let s1 := (s.abandonWork.put R.PWR_DUSK_STAT_overrun 1).quiesceEnd x
        { s1 with pwr := { s1.pwr with overrunRec := true } }
    | none => s)

/-- Every host half's link goes idle. -/
def State.hostIdle (s : State) : State :=
  { s with host := { s.host with halves := s.host.halves.map (fun h => { h with up := false }) } }

/-- DUSK_COMMIT_DONE: the deltas are committed, the host is no longer served, and the enables fall. -/
def execDuskCommitDone (s : State) : Host.Outcome State Fault Refusal :=
  .next (match s.pwr.dusk with
    | some x =>
      if x.phase ≠ .commit then s
      else
        let s1 := if s.islandUp && s.isl.fw.isSome then s.commitPending false else s
        let s2 := (s1.put R.GEN_READY_mem_active 0).hostIdle
        ({ s2 with pwr := { s2.pwr with dusk := some { x with phase := .falling } } }).beginLowering .dusk
    | none => s)

/-- The island link drops (R143): in a running state the island, which sees it, journals the stop, and the package enters DUSK. -/
def State.linkLost (s : State) : State :=
  let s1 := ({ s with isl := s.isl.linkDropped } : State).pulsesStop
  if s1.running then
    (({ s1 with isl := { s1.isl with linkLostAt := some s1.now } }).stopNote 3 false 0 s1.frame).duskAsk .islandLink false
  else s1

/-- ISLAND_LINK_LOSS. -/
def execIslandLinkLoss (s : State) : Host.Outcome State Fault Refusal := .next (if s.isl.linkUp then s.linkLost else s)

/-! ### Acknowledgements (R131, R138) -/

def State.ackDawn (s : State) : State :=
  if s.pwr.dawnRec.valid then
    ({ s with pwr := { s.pwr with dawnRec := { s.pwr.dawnRec with valid := false } } }).islNote 0xA 1 (s.rtcBytes ++ toLE 4 0)
  else s

def State.ackStop (s : State) : State :=
  if s.pwr.stopRec.valid then
    ({ s with pwr := { s.pwr with stopRec := { s.pwr.stopRec with valid := false } } }).islNote 0xA 2 (s.rtcBytes ++ toLE 4 0)
  else s

/-- PWR_ACK_DAWN. -/
def execPwrAckDawn (s : State) : Host.Outcome State Fault Refusal := .next (if s.controlUp then s.ackDawn else s)

/-- PWR_ACK_STOP. -/
def execPwrAckStop (s : State) : Host.Outcome State Fault Refusal := .next (if s.controlUp then s.ackStop else s)

end Sys2Proof.Machine
end

