-- ==== Sys2Proof/Machine/Horizon.lean ====
section
/-!
DEFINITION. Sys2Proof/Machine/Horizon.lean: the horizon receiver (spec/03): marks, superframe numbers and messages (R85–R91), delay
(R92–R95), the lock state machine (R96–R101), the local count and what its marks do (R687), and BENCH (R109, R110).
-/

namespace Sys2Proof.Machine

/-! ### Pieces -/

def State.setHzn (s : State) (x : HznSt) : State := { s with hzn := x }

/-- The horizon PLL is locked (R145). -/
def State.hznPll (s : State) : Bool := s.clk.locked.getLsbD 5

/-- The stream at HZN_IN is being read: the PLL is locked, the receiver aligned to a first mark, and not in BENCH (R97, R109). -/
def State.hznReads (s : State) : Bool :=
  s.controlUp && !s.isBench && s.hznPll &&
  (match s.hzn.lock with
   | .acquiring => s.hzn.firstMark
   | .locked | .coasting => true
   | _ => false)

/-- Whole ticks of an offset (R90, R93); the count keeps whole ticks. -/
def offsetTicks (units : Nat) : Nat := units / 64

/-- An offset applied at once moves the local mark against the received one (R93, R95). -/
def State.applyOffset (s : State) (new : Nat) : State :=
  let old := s.get R.HZN_DELAY_offset
  let s1 := s.put R.HZN_DELAY_offset new
  s1.setHzn { s1.hzn with markAt := s1.hzn.markAt + offsetTicks old - offsetTicks new }

/-- The next frame number (48 bits). -/
def nextFrame (f : Nat) : Nat := (f + 1) % 2 ^ 48

/-- The marks and numbers gathered so far count no more (R97). -/
def HznSt.restart (h : HznSt) : HznSt := { h with number1 := none, genFrame := none }

/-- The receiver reads the stream no longer: what it gathered, what spoilt it, and a slew in progress end (R95, R97, R112). -/
def HznSt.ended (h : HznSt) : HznSt :=
  { h.restart with slewFrom := none, firstMark := false, goodRun := 0, numberBad := 0, msgBad := false }

/-! ### Losses (R96, R99, R100) -/

/-- Granted work not begun waits for another pass (R100). -/
def State.ungrantAll (s : State) : State :=
  { s with descs := s.descs.map (fun d => match d.phase with
      | .granted .. => if d.dispatched == 0 then d.waitAgain else d
      | _ => d) }

/-- Horizon has left LOCKED: a trim window on frame marks is discarded at its end (R166). -/
def State.trimSpoil (s : State) : State :=
  if s.hzn.lock ≠ .locked then { s with isl := { s.isl with trimSpoilt := s.isl.trimSpoilt || s.get R.OSC_STAT_trim_src == 2 } } else s

/-- COASTING is entered. -/
def State.toCoasting (s : State) (loss : Nat) : State :=
  let s1 := ((s.put R.HZN_STAT_last_loss loss).put R.HZN_STAT_coast_frames 0).count R.HZN_ERR1_coast_entries 1
  (s1.setHzn { s1.hzn with lock := .coasting, goodRun := 0, missRun := 0 }).trimSpoil.raiseHzn 1

/-- LOST is entered; `loss` is recorded when LOCKED is left, and for a delay step also from COASTING (R95). -/
def State.toLost (s : State) (loss : Nat) : State :=
  let s1 := if s.hzn.lock = .locked ∨ loss = 5 then s.put R.HZN_STAT_last_loss loss else s
  let s2 := (s1.setHzn { s1.hzn.ended with lock := .lost }).trimSpoil.pulsesStop.raiseHzn 2
  if s2.running then s2.ungrantAll.raiseHold 3 else s2

/-- Every entry into LOCKED: the horizon hold clears, the fabric PLLs start the first time (R100, R150). -/
def State.toLocked (s : State) : State :=
  let h := s.hzn
  let s1 := s.setHzn { h with lock := .locked, missRun := 0, goodRun := 0, everLocked := true }
  let s2 := if h.everLocked || s.isBench then s1 else { s1 with clk := { s1.clk with started := s1.clk.started ||| 0xC0#8 } }
  ((s2.raiseHzn 0).clearHold 3).trimStart

/-- ACQUIRING is entered on activity; an offset kept from before applies at once (R95, R96). -/
def State.toAcquiring (s : State) : State :=
  let s1 := s.setHzn { s.hzn.ended with lock := .acquiring, acqFrom := s.hzn.lock }
  if s1.hzn.target = s1.get R.HZN_DELAY_offset ∨ s1.isBench = true then s1
  else (s1.applyOffset s1.hzn.target).raiseHzn 3

/-- ACQUIRING falls back to where it came from. -/
def State.acquireBack (s : State) : State :=
  let s1 := s.setHzn { s.hzn.ended with lock := s.hzn.acqFrom }
  if s1.hzn.lock = .dark then { s1 with clk := { s1.clk with locked := s1.clk.locked &&& ~~~0x20#8 } } else s1

/-! ### What the horizon receiver is told -/

/-- The package is past the start of dawn step 12, where the receiver begins (R122). -/
def State.horizonDue (s : State) : Bool :=
  match s.pwr.state with
  | .ready | .overcast | .held | .dusk => true
  | .dawn => decide (12 ≤ s.pwr.dawnStep)
  | _ => false

/-- HZN_ACTIVITY (R96, R122): 64 edges in DARK with rx_en at 1 once dawn step 12 has begun, or in LOST. -/
def execHznActivity (s : State) : Host.Outcome State Fault Refusal :=
  let due := match s.hzn.lock with
    | .dark => s.get R.HZN_CTRL_rx_en == 1 && !s.isBench && s.horizonDue
    | .lost => true
    | _ => false
  .next (if !s.controlUp || !due then s
    else
      let s1 := s.toAcquiring
      if s1.atStep 12 then s1.setStep 13 else s1)

/-- HZN_EDGE_LOSS (R96, R109). -/
def execHznEdgeLoss (s : State) : Host.Outcome State Fault Refusal :=
  .next (if !s.controlUp || s.isBench then s
    else match s.hzn.lock with
      | .locked => s.toCoasting 1
      | .acquiring => s.acquireBack
      | _ => s)

/-- The horizon PLL has locked (R92, R98, R151). -/
def State.hznPllUp (s : State) : State :=
  let able := if s.isBench then s.clk.refPresent else decide (s.hzn.lock ≠ .dark)
  if !s.controlUp || s.hznPll || !able then s
  else
    let s1 := { s with clk := { s.clk with locked := s.clk.locked ||| 0x20#8, started := s.clk.started ||| 0x20#8 } }
    if s1.atStep 13 && decide (s1.hzn.lock = .acquiring) then s1.setStep 14 else s1

/-- HZN_PLL_LOCK. -/
def execHznPllLock (s : State) : Host.Outcome State Fault Refusal := .next s.hznPllUp

/-- The horizon PLL has lost lock (R96, R97). -/
def State.hznPllDown (s : State) : State :=
  if !s.hznPll then s
  else
    let s1 := { s with clk := { s.clk with locked := s.clk.locked &&& ~~~0x20#8 } }
    match s1.hzn.lock with
    | .locked => s1.toCoasting 2
    | .acquiring => s1.setHzn s1.hzn.ended
    | .coasting => s1.setHzn { s1.hzn with goodRun := 0 }
    | _ => s1

/-- HZN_PLL_UNLOCK. -/
def execHznPllUnlock (s : State) : Host.Outcome State Fault Refusal := .next s.hznPllDown

/-- ACQUIRE_TIMEOUT (R96): the PLL has not locked 100 µs after ACQUIRING was entered. At dawn the step has its own timeout. -/
def execAcquireTimeout (s : State) : Host.Outcome State Fault Refusal :=
  .next (if s.hzn.lock = .acquiring ∧ s.hznPll = false then s.acquireBack else s)

/-- A write of 0 to HZN_CTRL.rx_en (R96, R100). -/
def State.rxDisable (s : State) : State :=
  if s.isBench then s
  else
    let was := s.hzn.lock
    let s1 := s.put R.HZN_CTRL_rx_en 0
    let s2 := if was = .locked ∨ was = .coasting then s1.put R.HZN_STAT_last_loss 6 else s1
    let s3 : State := ({ s2 with
      hzn := { s2.hzn.ended with lock := .dark },
      clk := { s2.clk with locked := s2.clk.locked &&& ~~~0x20#8 } } : State).trimSpoil
    if s3.running && (was == .locked || was == .coasting || was == .lost) then s3.ungrantAll.raiseHold 3 else s3

/-- A write of 1: the count of edges starts again. -/
def State.rxEnable (s : State) : State := if s.isBench then s else s.put R.HZN_CTRL_rx_en 1

/-- HZN_RX_DISABLE. -/
def execHznRxDisable (s : State) : Host.Outcome State Fault Refusal := .next (if s.controlUp then s.rxDisable else s)

/-- HZN_RX_ENABLE. -/
def execHznRxEnable (s : State) : Host.Outcome State Fault Refusal := .next (if s.controlUp then s.rxEnable else s)

/-- HZN_ERR0 and HZN_ERR1 cleared (R111). -/
def State.hznClear (s : State) : State :=
  s.puts [(R.HZN_ERR0_symbol_errors, 0), (R.HZN_ERR0_number_crc_errors, 0), (R.HZN_ERR1_missing_marks, 0),
    (R.HZN_ERR1_msg_crc_errors, 0), (R.HZN_ERR1_msg_rejected, 0), (R.HZN_ERR1_coast_entries, 0)]

/-- HZN_CLR_COUNTS. -/
def execHznClrCounts (s : State) : Host.Outcome State Fault Refusal := .next (if s.controlUp then s.hznClear else s)

/-- HZN_BENCH.gap_start (R110): marks of the synthesiser suppressed, from the next one on. -/
def State.gapStart (s : State) (n : Nat) : State :=
  if s.isBench then s.setHzn { s.hzn with gapLeft := n } else s

/-- GAP_START: HZN_BENCH written with gap_start. -/
def execGapStart (frames : BitVec 7) (s : State) : Host.Outcome State Fault Refusal :=
  .next (if s.isBench then (s.put R.HZN_BENCH_gap_frames frames.toNat).gapStart frames.toNat else s)

/-! ### Received marks (R86, R96, R97) -/

/-- The local mark nearest to now is the one to come, not the last one. -/
def State.markComing (s : State) : Bool := decide (1024 < s.now - s.hzn.markAt)

/-- The mark expected at the local mark nearest to now has been received. -/
def State.markIsSeen (s : State) : Bool := if s.markComing then s.hzn.nextSeen else s.hzn.markSeen

/-- The mark expected at the local mark nearest to now is received, within ±1 tick (R86). -/
def State.seeMark (s : State) : State :=
  s.setHzn (if s.markComing then { s.hzn with nextSeen := true } else { s.hzn with markSeen := true })

/-- A misplaced mark stands for the mark expected at the local mark nearest to it, and each mark is counted once (R86, R96). -/
def State.countMisplaced (s : State) : State :=
  if (if s.markComing then s.hzn.nextCounted else s.hzn.markCounted) then s
  else (s.setHzn (if s.markComing then { s.hzn with nextCounted := true } else { s.hzn with markCounted := true })).count
    R.HZN_ERR1_missing_marks 1

/-- A mark received in ACQUIRING: the first one starts or re-aligns the count; one out of place starts the conditions of R97
again. -/
def State.markAcquiring (s : State) (dev : Int) (gap : Bool) : State :=
  let h := s.hzn
  let moved := (((h.markAt : Int) + dev)).toNat
  if !h.firstMark then
    if h.counting then s.setHzn { h.restart with firstMark := true, markAt := moved }
    else s.setHzn { h.restart with firstMark := true, counting := true, frame := 0, markAt := s.now }
  else if gap then s.setHzn { h.restart with markAt := moved }
  else s.seeMark

/-- A good mark in COASTING: the second in a row restores LOCKED at once. -/
def State.markCoasting (s : State) : State :=
  let s1 := (s.setHzn { s.hzn with goodRun := s.hzn.goodRun + 1 }).seeMark
  if s.hzn.goodRun + 1 < 2 then s1 else s1.toLocked

/-- A mark more than 1 tick from the local mark. -/
def State.markMisplaced (s : State) : State :=
  if s.hzn.lock = .coasting then s.countMisplaced.toLost 0 else s.countMisplaced

/-- FRAME_MARK: `dev` ticks after the local mark nearest to it, `gap` when not 2,048 ticks after the mark before. -/
def execFrameMark (dev : Int) (gap : Bool) (s : State) : Host.Outcome State Fault Refusal :=
  let good := decide (-1 ≤ dev ∧ dev ≤ 1)
  .next (if !s.controlUp || s.isBench || !s.hznPll then s
    else match s.hzn.lock with
      | .acquiring => s.markAcquiring dev gap
      | .locked => if good then s.seeMark else s.markMisplaced
      | .coasting => if !good then s.markMisplaced else if s.markIsSeen then s else s.markCoasting
      | _ => s)

/-! ### Numbers and messages (R88–R91, R94, R95, R101, R112, R113) -/

/-- A valid number follows the last one: 64 more, and from the next superframe, 64 local frames later (R97 condition 3). -/
def HznSt.follows (h : HznSt) (n : Nat) : Bool :=
  h.number1 == some ((n + 2 ^ 48 - 64) % 2 ^ 48, (h.frame + 2 ^ 48 - 64) % 2 ^ 48)

/-- A valid number, in the frame 63 after the one it names. -/
def State.numberIn (s : State) (n : Nat) : State :=
  match s.hzn.lock with
  | .acquiring =>
    if s.hzn.follows n then
      (s.setHzn { s.hzn with number1 := some (n, s.hzn.frame), genFrame := some ((n + 63) % 2 ^ 48) }).put R.HZN_STAT_number_valid 1
    else s.setHzn { s.hzn with number1 := some (n, s.hzn.frame), genFrame := none }
  | _ => if (n + 63) % 2 ^ 48 = s.hzn.frame then s else (s.raiseHzn 6).toLost 4

/-- SUPERFRAME_NUMBER. -/
def execSuperframeNumber (number : BitVec 48) (crc : BitVec 16) (s : State) : Host.Outcome State Fault Refusal :=
  .next (if !s.hznReads then s
    else if s.hzn.numberBad ≠ 0 then s.setHzn { s.hzn with numberBad := 0 }
    else if crc16Bits (natBitsMSB 48 number.toNat) ≠ crc.toNat then s.count R.HZN_ERR0_number_crc_errors 1
    else s.numberIn number.toNat)

/-- A message of type `t` reaches `take` when the stream is read, no symbol error spoilt it and its CRC checks. -/
def State.message (s : State) (m : List Byte) (row : Nat → Bool) (take : State → State) : State :=
  if !s.hznReads || !row (leAt m 0 1) then s
  else if s.hzn.msgBad then s.setHzn { s.hzn with msgBad := false }
  else if crc16 (m.take 30) ≠ leAt m 30 2 then s.count R.HZN_ERR1_msg_crc_errors 1
  else take s

/-- ASSIGN (R29, R50, R113). -/
def State.assignIn (s : State) (m : List Byte) : State :=
  let id := leAt m 2 2
  let rack := bits (leAt m 4 1) 0 3
  let last := bits (leAt m 4 1) 4 3
  let sled := bits (leAt m 5 1) 0 4
  let slot := bits (leAt m 5 1) 4 3
  if last < rack then s.count R.HZN_ERR1_msg_rejected 1
  else if s.get R.GEN_TOPO_assigned = 0 then
    let s1 := s.puts [(R.GEN_TOPO_rack, rack), (R.GEN_TOPO_assigned, 1), (R.GEN_MACHINE_machine_id, id), (R.GEN_MACHINE_racks_minus_one, last)]
    let s2 := (s1.setHzn { s1.hzn with expSled := sled, expSlot := slot }).raiseHzn 4
    if sled = s2.get R.GEN_TOPO_sled ∧ slot = s2.get R.GEN_TOPO_slot then s2 else (s2.put R.GEN_TOPO_pos_mismatch 1).raiseHold 2
  else if id = s.get R.GEN_MACHINE_machine_id ∧ rack = s.get R.GEN_TOPO_rack ∧ last = s.get R.GEN_MACHINE_racks_minus_one ∧
      sled = s.hzn.expSled ∧ slot = s.hzn.expSlot then s
  else ((s.put R.HZN_STAT_assign_conflict 1).raiseHzn 5).raiseHold 4

/-- ASSIGN_MESSAGE. -/
def execAssignMessage (msg : Vector Byte 32) (s : State) : Host.Outcome State Fault Refusal :=
  .next (s.message msg.toList (· == 1) (fun u => u.assignIn msg.toList))

/-- DELAY in LOCKED or COASTING (R95): nothing, a slew toward the new target, or a step that loses lock. A slew that runs when
a DELAY redirects it stops stepping until the mark of that DELAY's apply frame: DESIGN CHOICE, the spec does not say whether it goes on toward the old
target meanwhile (log 126). -/
def State.delayRunning (s : State) (off apply : Nat) : State :=
  let change := ((off : Int) - s.hzn.target).natAbs
  if change = 0 then s
  else if change ≤ 16 then (s.setHzn { s.hzn with target := off, slewFrom := some apply }).raiseHzn 3
  else (s.setHzn { s.hzn with target := off }).toLost 5

/-- DELAY (R94, R95). -/
def State.delayIn (s : State) (m : List Byte) : State :=
  let off := leAt m 2 2
  if 4096 < off then s.count R.HZN_ERR1_msg_rejected 1
  else
    let s1 := s.put R.HZN_DELAY_seq (leAt m 4 1)
    if s1.hzn.lock = .acquiring then
      (((s1.applyOffset off).setHzn { (s1.applyOffset off).hzn with target := off }).put R.HZN_STAT_delay_valid 1).raiseHzn 3
    else s1.delayRunning off (leAt m 5 6)

/-- DELAY_MESSAGE. -/
def execDelayMessage (msg : Vector Byte 32) (s : State) : Host.Outcome State Fault Refusal :=
  .next (s.message msg.toList (· == 2) (fun u => u.delayIn msg.toList))

/-- STATUS (R90, R91, R115). -/
def State.statusIn (s : State) (m : List Byte) : State :=
  if 3 < leAt m 2 1 then s.count R.HZN_ERR1_msg_rejected 1
  else s.puts [(R.HZN_GEN_gen_state, leAt m 2 1), (R.HZN_GEN_return_seen, leAt m 3 1), (R.HZN_GEN_star_output, leAt m 1 1)]

/-- STATUS_MESSAGE. -/
def execStatusMessage (msg : Vector Byte 32) (s : State) : Host.Outcome State Fault Refusal :=
  .next (s.message msg.toList (· == 3) (fun u => u.statusIn msg.toList))

/-- UNKNOWN_MESSAGE (R90). -/
def execUnknownMessage (msg : Vector Byte 32) (s : State) : Host.Outcome State Fault Refusal :=
  .next (s.message msg.toList (fun t => decide (t = 0 ∨ 3 < t)) (fun u => u.count R.HZN_ERR1_msg_rejected 1))

/-- The generator's number of the frame now received, as far as the receiver knows it. -/
def HznSt.genNow (h : HznSt) : Option Nat :=
  match h.lock with
  | .locked | .coasting => some h.frame
  | _ => h.genFrame

/-- SYMBOL_ERROR (R86, R112): in tick 1 it spoils the superframe's number, in the message field the message. Read as 0 in tick 3 it
hides the message, and in tick 2 of a superframe's first frame the start of that superframe. Ticks 0 and 2,047 are judged only as marks. -/
def execSymbolError (tick : BitVec 11) (s : State) : Host.Outcome State Fault Refusal :=
  let t := tick.toNat
  .next (if !s.hznReads || decide (t = 0 ∨ t = 2047) then s
    else
      let s1 := s.count R.HZN_ERR0_symbol_errors 1
      let noStart := decide (t = 2) && s1.hzn.genNow.any (fun f => decide (f % 64 = 0))
      s1.setHzn { s1.hzn with numberBad := if t = 1 ∨ noStart = true then 64 else s1.hzn.numberBad,
                              msgBad := s1.hzn.msgBad || decide (t = 3 ∨ (16 ≤ t ∧ t ≤ 271)) })

/-! ### The expected mark judged, and local marks in the receiver (R95–R99, R110) -/

/-- LOCKED: the expected mark of the last local mark, once its ±1 tick has passed. -/
def State.judgeLocked (s : State) (good counted : Bool) (loss : Nat) : State :=
  if good then s.setHzn { s.hzn with missRun := 0 }
  else
    let s1 := if counted then s else s.count R.HZN_ERR1_missing_marks 1
    if s1.hzn.missRun + 1 < 2 then s1.setHzn { s1.hzn with missRun := s1.hzn.missRun + 1 } else s1.toCoasting loss

/-- COASTING (R96, R99): the expected mark of the last local mark, once its ±1 tick has passed. The 64th that has not restored
LOCKED by then ends COASTING. -/
def State.judgeCoasting (s : State) (good counted : Bool) : State :=
  let s1 := if good || counted then s else s.count R.HZN_ERR1_missing_marks 1
  let s2 := if good then s1 else s1.setHzn { s1.hzn with goodRun := 0 }
  if s2.get R.HZN_STAT_coast_frames < 64 then s2 else s2.toLost 0

/-- The synthesised mark of BENCH, unless a gap suppresses it (R110). -/
def State.judgeBench (s : State) : State :=
  let good := decide (s.hzn.gapLeft = 0) && s.hznPll
  let s1 := s.setHzn { s.hzn with gapLeft := s.hzn.gapLeft - 1 }
  let s2 := s1.setHzn { s1.hzn with goodRun := if good then s1.hzn.goodRun + 1 else 0 }
  match s.hzn.lock with
  | .locked => s1.judgeLocked good false 3
  | .coasting => if good && decide (2 ≤ s2.hzn.goodRun) then (s2.put R.HZN_STAT_coast_frames (min 64 (s2.get R.HZN_STAT_coast_frames + 1))).toLocked
      else
        let n := min 64 (s2.get R.HZN_STAT_coast_frames + 1)
        let s3 := s2.put R.HZN_STAT_coast_frames n
        let s4 := if good then s3 else s3.count R.HZN_ERR1_missing_marks 1
        if n < 64 then s4 else s4.toLost 0
  | .acquiring => if good && decide (2 ≤ s2.hzn.goodRun) then s2.toLocked else s2
  | _ => s1

/-- Two ticks after a local mark nothing can be its expected mark any more, and the receiver judges it (R86, R96). A missing one
has been counted from then on. -/
def State.hznJudge (s : State) : State :=
  let h := s.hzn
  if !s.controlUp || !h.counting || s.isBench || decide (s.now ≠ h.markAt + 2) then s
  else
    let s1 := s.setHzn { h with markCounted := h.markCounted || !h.markSeen }
    match h.lock with
    | .locked => s1.judgeLocked h.markSeen h.markCounted 3
    | .coasting => s1.judgeCoasting h.markSeen h.markCounted
    | _ => s

/-- The receiver at a local mark: BENCH judges the mark it makes itself; COASTING counts the mark (R99); the frame's symbols
are read anew. -/
def State.hznMark (s : State) : State :=
  let s1 := if s.isBench then s.judgeBench
    else if s.hzn.lock = .coasting then s.put R.HZN_STAT_coast_frames (min 64 (s.get R.HZN_STAT_coast_frames + 1)) else s
  let h := s1.hzn
  s1.setHzn { h with markSeen := h.nextSeen, nextSeen := false, markCounted := h.nextCounted, nextCounted := false,
                     numberBad := h.numberBad - 1, msgBad := false }

/-- One step of a slew (R95): 125 ps, spread over the frame's ticks, so that the local count keeps every tick. -/
def State.slewStep (s : State) : State :=
  match s.hzn.lock, s.hzn.slewFrom with
  | .locked, some f | .coasting, some f =>
    if s.hzn.frame < f then s
    else
      let o := s.get R.HZN_DELAY_offset
      let o' := if o < s.hzn.target then o + 1 else o - 1
      let s1 := if o = s.hzn.target then s else s.put R.HZN_DELAY_offset o'
      if s1.get R.HZN_DELAY_offset = s1.hzn.target then s1.setHzn { s1.hzn with slewFrom := none } else s1
  | _, _ => s

/-- The lock conditions of R97 hold; the generator's number of the mark that falls now. Condition 4 asks for delay_valid, which
stays 1 from the first DELAY applied after reset, so that a reacquisition needs no new DELAY: DESIGN CHOICE, R114 can be read to ask for one (log 127). -/
def State.lockFrame (s : State) : Option Nat :=
  if s.hzn.lock = .acquiring ∧ s.isBench = false ∧ s.hznPll = true ∧ s.hzn.firstMark = true ∧ s.get R.HZN_STAT_delay_valid = 1 then
    s.hzn.genFrame.map nextFrame else none

/-- Frames `[a, b)` hold an enabled entry of the image that passes `p`. -/
def ResImage.worksIn (i : ResImage) (a b : Nat) (p : SlotEntry → Bool) : Bool :=
  let n := min (b - a) i.image.period
  i.armed && (i.image.slots.flatMap Prod.snd).any (fun e => e.enable && p e && (List.range n).any (fun k =>
    decide (i.epoch ≤ a + k ∧ (a + k - i.epoch) % i.image.period = e.frameOffset)))

/-- The count has passed over frames `[a, b)`, and over the dispatch instants of frame `b` that lie before its mark: the schedules
that own entries there have a skipped slot, and work begun whose next claim lay there ends (R100, R355, R687). -/
def State.passOver (s : State) (a b : Nat) : State :=
  s.descs.foldl (fun u d =>
    let lo := max a d.owned.1
    let hi := min b (d.owned.2 + 1)
    let early (e : SlotEntry) := decide (a ≠ b ∧ e.startTick < 8) && !u.dispatched.any (fun x => x.entry == e && x.frame == b)
    if d.desc.opcode = 4 then
      if u.img.resident.any (fun x => x.2.ctx == d.ctx && x.2.image.id == d.desc.imageId &&
          (x.2.worksIn lo hi (fun _ => true) || (decide (d.owned.1 ≤ b ∧ b ≤ d.owned.2) && x.2.worksIn b (b + 1) early))) then
        u.markFailed (some (d.ctx, d.slot)) 3 0 else u
    else match d.phase with
      | .granted f _ seqs =>
        if seqs ≠ [] ∧ f < b ∧ d.dispatched ≠ 0 then u.failDesc (some (d.ctx, d.slot)) 3 0 else u
      | _ => u) s

/-- Timers and triggers armed for an instant the count has passed over fire at once, as late (R435, R651, R687). -/
def State.firePassed (s : State) : State :=
  let s1 := if s.blockUp 9 then (List.range 16).foldl (fun u k =>
      if u.get (R.SYNC_TMR_CFG_en k) = 1 ∧ u.timerAt k < u.horizon then (u.timerFire k).count R.SYNC_CNT_late_timers 1 else u) s
    else s
  if s1.blockUp 13 then
    (s1.trigsWhere (fun k => decide (s1.trigAt k < s1.horizon))).foldl (fun u k => (u.raisePmu 2).trigAct k) s1
  else s1

/-- Admission after the count took another number: no pass has run for frame `f` or any it passed over, so that a waiting
descriptor whose deadline lies there is REFUSED with HELD (R100), and one accepted under a higher number is considered from now on. -/
def State.admitFrom (s : State) (f : Nat) : State :=
  let s1 := s.refuseLate f false (s.descs.filter (fun d => decide (d.phase = .waiting ∧ d.desc.opcode ≠ 4)))
  { s1 with passFrame := 0,
            descs := s1.descs.map (fun d => if f ≤ d.accepted.1 ∧ d.desc.opcode ≠ 4 then { d with accepted := (f, 0) } else d) }

/-- The count takes the generator's number `f`, where its own would have been another. -/
def State.renumber (s : State) (f : Nat) : State :=
  let s1 := s.passOver (nextFrame s.hzn.frame) f
  (({ s1 with hzn := { s1.hzn with frame := f }, clk := { s1.clk with forcedEnd := 0 } }).admitFrom f).firePassed

/-- The count takes the generator's number, and the receiver is LOCKED. -/
def State.lockNow (s : State) (f : Nat) : State :=
  let s1 := if f = nextFrame s.hzn.frame then s.setHzn { s.hzn with frame := f } else s.renumber f
  let s2 := (s1.setHzn { s1.hzn with genFrame := none, number1 := none }).toLocked
  if s2.atStep 14 then s2.dawnComplete else s2

/-- The number of the frame that begins; LOCKED where R97 allows it. -/
def State.countFrame (s : State) : State :=
  match s.lockFrame with
  | some f => s.lockNow f
  | none => s.setHzn { s.hzn with frame := nextFrame s.hzn.frame, genFrame := s.hzn.genFrame.map nextFrame }

/-! ### Local marks: everything else -/

/-- The frame that ended: its charges go to the island and to the scanner's 64-frame mean (R565, R567, R622). -/
def State.frameEnded (s : State) (f : Nat) : State :=
  let mine := s.charges.filter (fun c => c.frame == f)
  let s1 := s.emit (.mark f (mine.map (fun c => (c.slot, c.amount))))
  { s1 with charges := s1.charges.filter (fun c => decide (f < c.frame)),
            thm := { s1.thm with frames := ((1228800 + (mine.map Charge.amount).sum) :: s1.thm.frames).take 64 } }

/-- Events counted by the frame (R650 codes 2, 5, 6, 7). -/
def State.pmuMark (s : State) : State :=
  let s1 := s.pmu 2 none 1
  let s2 := if s1.pwr.state = .held then s1.pmu 5 none 1 else s1
  let s3 := if s2.pwr.state = .overcast then s2.pmu 6 none 1 else s2
  if s3.clk.arrayForced || s3.get R.THM_STAT_bias_fault != 0 then s3.pmu 7 none 1 else s3

/-- Dusk has passed frame mark F (R136). -/
def State.duskMark (s : State) : State :=
  match s.pwr.dusk with
  | some d => { s with pwr := { s.pwr with dusk := some { d with markPassed := true } } }
  | none => s

/-- Everything else a frame mark drives, in a fixed order: disarms, schedules, the loader, contexts, ports, fixing, gating,
dusk. -/
def State.markWork (s : State) : State :=
  (((((((s.disarmMark.scheduleMark).imgMark).ctxMark).fabMark).fixMark).gateMark).duskMark).pmuMark

/-- LOCAL_FRAME_MARK (R687): 2,048 ticks after the mark before. -/
def execLocalFrameMark (s : State) : Host.Outcome State Fault Refusal :=
  .next (if !s.controlUp || !s.hzn.counting || decide (s.now < s.hzn.markAt + 2048) then s
    else
      let ended := s.hzn.frame
      let s1 := s.setHzn { s.hzn with markAt := s.now }
      let s2 := s1.hznMark.countFrame.slewStep
      (s2.frameEnded ended).markWork)

end Sys2Proof.Machine
end

