-- ==== Sys2Proof/Machine/HostLink.lean ====
section
/-!
DEFINITION. Sys2Proof/Machine/HostLink.lean: a host half whose link goes down or takes a hot reset (R499, R500, R506).
-/

namespace Sys2Proof.Machine

/-- What a hot reset leaves of a half: every per-half item at its reset value; writes received whole are still applied, and
reads have nowhere to answer to. -/
def HalfSt.hot (h : HalfSt) : HalfSt :=
  { HalfSt.init with heldWrites := h.heldWrites }

/-- A hot reset of one half (R499): its secure sessions end with it. -/
def State.halfHot (s : State) (h : Fin 2) : State :=
  let s1 := s.setHalf h (s.half h).hot
  { s1 with host := { s1.host with sessions := s1.host.sessions.filter (fun x => x.half != h.val) } }

/-- The link of a half goes down (R500). -/
def State.linkDown (s : State) (h : Fin 2) : State :=
  if (s.half h).up then ((s.halfHot h).raiseHost (2 * h.val)).flogAdd 8 h.val 0 none else s

end Sys2Proof.Machine
end

