-- ==== Sys2Proof/Machine/Clocks.lean ====
section
/-!
DEFINITION. Sys2Proof/Machine/Clocks.lean: the clocks (spec/05): loss and return of HREFCLK and of PLL lock (R145, R151–R155, R170),
gating (R156–R158), CLKOBS (R161–R163), and the island's oscillators and their trim (R164–R168).
-/

namespace Sys2Proof.Machine

/-! ### Safe-forcing (R153) -/

/-- A chain add or slice merge of the tile may be under way: the receiving bank holds free values (R299); every other bank keeps its
own. -/
def State.tearChain (s : State) (t : Nat) (b : Burst) : State :=
  match s.tileRec t with
  | none => s
  | some r =>
    if !b.ready r.2.1 t || b.sent then s
    else match (r.2.1.outbound r.2.2).bind (fun u => (s.tile u).burst.map (fun d => (u, d.bank))) with
      | none => s
      | some d => (List.range 512).foldl (fun u c => let p := u.free; p.2.put (R.TILE_BANK_value d.1 d.2 c) p.1) s

/-- A tile whose die is forced: the exposures under way are abandoned and counted, and a chain add may be torn (R153, R238, R299). -/
def State.forceTile (s : State) (t : Nat) (b : Burst) : State :=
  (s.count R.CLK_CNT_forced_exposures (b.started - b.developed)).tearChain t b

/-- The burst of a forced tile ends in error: cut while any tile of the plate has groups to commit, and as a torn chain after that
(R299, R397). -/
def State.forceBurst (s : State) (t : Nat) : State :=
  match (s.tile t).burst, s.tileRec t with
  | some b, some r =>
    if b.over r.2.1 r.2.2 then s
    else if r.2.1.tiles.all (fun x => match (s.tile x.tile).burst with | some d => d.committed | none => true) then s.burstEnd b r.2.1 6 b.q
    else s.burstError t b r.2.1
  | _, _ => s

/-- Every row driver off, every ADC held in reset, on some dies: bursts, fixing runs and a test exposure there are abandoned, and the
running fog sums restart. -/
def State.forceDies (s : State) (dies : List Nat) : State :=
  let there := fun (t : Nat) => dies.contains (dieOf t)
  let tiles := s.tiles.filterMap (fun x => if there x.1 then x.2.burst.map (fun b => (x.1, b)) else none)
  let s1 := tiles.foldl (fun u x => u.forceTile x.1 x.2) s
  let s2 := tiles.foldl (fun u x => u.forceBurst x.1) s1
  let s2 := { s2 with tiles := s2.tiles.map (fun (x : Nat × TileSt) => if there x.1 then (x.1, x.2.clearFog) else x) }
  let s3 := dies.foldl (fun u d => u.abandonRuns d true) s2
  match s3.fix.test with
  | some x => if there x.tile then s3.testAbandon else s3
  | none => s3

/-- All four dies (R153). -/
def State.forceArray (s : State) : State := s.forceDies [0, 1, 2, 3]

/-! ### PLLs (R151–R155) -/

/-- What the loss of PLL `n`'s lock does (R151). -/
def State.pllEffect (s : State) (n : Nat) : State :=
  match n with
  | 0 => ({ s with clk := { s.clk with coasting := true } }).raiseClk 2
  | 1 => (({ s with clk := { s.clk with arrayForced := true } }).raiseClk 3).forceArray
  | 2 => { s with clk := { s.clk with selfRefresh := s.clk.selfRefresh ||| 1#2 } }
  | 3 => { s with clk := { s.clk with selfRefresh := s.clk.selfRefresh ||| 2#2 } }
  | 4 => (s.linkDown 0).linkDown 1
  | _ => (s.raiseClk 5).fabCheck

/-- PLL `n` has lost its lock or its reference. The horizon PLL's loss is the receiver's. -/
def State.pllDown (s : State) (n : Nat) : State :=
  if n = 5 then s.hznPllDown
  else if !s.clk.locked.getLsbD n then s
  else ({ s with clk := { s.clk with locked := s.clk.locked &&& ~~~(BitVec.twoPow 8 n) } }).pllEffect n

/-- Dawn past step 3, where a loss ends it (R155). -/
def State.dawnPastPlls (s : State) : Bool := s.pwr.state == .dawn && decide (3 < s.pwr.dawnStep)

/-- HREFCLK_LOSS. -/
def execHrefclkLoss (s : State) : Host.Outcome State Fault Refusal :=
  .next (if !s.clk.refPresent then s
    else
      let s1 := { s with clk := { s.clk with refPresent := false } }
      if !s1.controlUp then s1
      else
        let s2 := (s1.count R.CLK_CNT_ref_losses 1).raiseClk 0
        if s2.dawnPastPlls then s2.dawnFail 4 0
        else
          let s3 := [0, 1, 2, 3, 4].foldl State.pllDown s2
          if s3.isBench then s3.pllDown 5 else s3)

/-- HREFCLK_RESTORE (R154): the PLLs begin to lock again. -/
def execHrefclkRestore (s : State) : Host.Outcome State Fault Refusal :=
  .next (if s.clk.refPresent then s
    else
      let s1 := { s with clk := { s.clk with refPresent := true } }
      if s1.controlUp then s1.raiseClk 1 else s1)

/-- PLL_UNLOCK: a lock detector drops with the reference present. -/
def execPllUnlock (pll : Fin 8) (s : State) : Host.Outcome State Fault Refusal :=
  .next (if !s.controlUp || !s.clk.locked.getLsbD pll.val then s
    else if s.dawnPastPlls && decide (pll.val ≤ 4) then s.dawnFail 4 pll.val
    else s.pllDown pll.val)

/-- PLL `n` has its reference (R145): HREFCLK, or the horizon PLL's output. -/
def State.pllRef (s : State) (n : Nat) : Bool := if n ≤ 4 ∨ (n = 5 ∧ s.isBench = true) then s.clk.refPresent else true

/-- Requests of a half whose stack answers again, reads and writes each in order (R151). -/
def State.unpark (s : State) (h : Fin 2) : State :=
  let all := (s.half h).parked
  let asleep := fun (r : Nat × Nat) => s.clk.selfRefresh.getLsbD (stackOf r.1)
  let s1 := (all.filter (fun r => !asleep r)).foldl (fun u r => u.memReadLine h r.1 r.2) (s.setHalf h { s.half h with parked := all.filter asleep })
  s1.releaseHeld h (s1.half h).heldWrites

/-- What PLL `n`'s lock does (R154). -/
def State.pllReturn (s : State) (n : Nat) : State :=
  match n with
  | 0 => { s with clk := { s.clk with coasting := false } }
  | 1 => { s with clk := { s.clk with arrayForced := false, forcedEnd := s.horizon + 1 } }
  | 2 => (({ s with clk := { s.clk with selfRefresh := s.clk.selfRefresh &&& 2#2 } }).applyDue.linesSeen.unpark 0).unpark 1
  | 3 => (({ s with clk := { s.clk with selfRefresh := s.clk.selfRefresh &&& 1#2 } }).applyDue.linesSeen.unpark 0).unpark 1
  | _ => s

/-- PLL_LOCK. In dawn step 3 it is one of those the step waits for (R145, R155). -/
def execPllLock (pll : Fin 8) (s : State) : Host.Outcome State Fault Refusal :=
  let n := pll.val
  .next (if n = 5 then s.hznPllUp
    else if !s.controlUp || s.clk.locked.getLsbD n || !s.clk.started.getLsbD n || !s.pllRef n then s
    else ({ s with clk := { s.clk with locked := s.clk.locked ||| BitVec.twoPow 8 n } }).pllReturn n)

/-- RELOCK_ATTEMPT (R170): an attempt that fails. -/
def execRelockAttempt (pll : Fin 8) (s : State) : Host.Outcome State Fault Refusal :=
  let n := pll.val
  .next (if !s.controlUp || s.pwr.state == .dawn || s.clk.locked.getLsbD n || !s.clk.started.getLsbD n || !s.pllRef n ||
      (n == 5 && !s.isBench) then s
    else (s.count R.CLK_CNT_relock_fails 1).raiseClk 4)

/-! ### Gating (R156–R158) -/

/-- CLK_GATE_REQUEST. -/
def execClkGateRequest (blk : Fin 15) (s : State) : Host.Outcome State Fault Refusal := .next (if s.controlUp then s.gateRequest blk.val else s)

/-- CLK_UNGATE. -/
def execClkUngate (blk : Fin 15) (s : State) : Host.Outcome State Fault Refusal := .next (if s.controlUp then s.ungate blk.val else s)

/-- CLK_UNGATE_DONE. -/
def execClkUngateDone (blk : Fin 15) (s : State) : Host.Outcome State Fault Refusal := .next (if s.controlUp then s.ungateDone blk.val else s)

/-! ### CLKOBS (R161–R163) -/

/-- Nominal frequency in kHz of clock sources 1 to 9 (R161). -/
def obsFreq (src : Nat) : Nat :=
  match src with
  | 1 => 100000
  | 2 => 1600000
  | 3 | 4 | 5 | 6 => 2000000
  | 7 | 8 => 1171875
  | 9 => 125000
  | _ => 0

/-- A write of CLK_OBS (R162, R163). -/
def State.obsWrite (s : State) (w : Nat) : State :=
  let src := bits w 0 5
  let div := bits w 16 10
  if 13 ≤ src ∨ 200000 * (div + 1) < obsFreq src then s.raiseClk 6
  else
    let changed := decide (src ≠ s.get R.CLK_OBS_src ∨ div ≠ s.get R.CLK_OBS_div)
    let s1 := s.puts [(R.CLK_OBS_src, src), (R.CLK_OBS_en, bits w 5 1), (R.CLK_OBS_div, div)]
    if changed then { s1 with clk := { s1.clk with obsHold := 3 } } else s1

/-- CLKOBS_SELECT. -/
def execClkobsSelect (value : Word) (s : State) : Host.Outcome State Fault Refusal := .next (if s.controlUp then s.obsWrite value.toNat else s)

/-- CLK_CNT cleared (R174). -/
def State.clkClear (s : State) : State :=
  s.puts [(R.CLK_CNT_ref_losses, 0), (R.CLK_CNT_relock_fails, 0), (R.CLK_CNT_forced_exposures, 0)]

/-- CLK_CLR_COUNTS. -/
def execClkClrCounts (s : State) : Host.Outcome State Fault Refusal := .next (if s.controlUp then s.clkClear else s)

/-! ### The island's oscillators (R164–R168) -/

/-- RC cycles a window of source 1 or 2 should count (R165). -/
def trimExpected (src : Nat) : Nat := if src = 2 then 4096000 else 4000000

/-- The trim code after a window (R166). -/
def trimNext (code count expected : Nat) : Nat :=
  (clampInt 0 511 ((code : Int) - roundHalfAway (((count : Int) - expected) * 10000) expected)).toNat

/-- The window is discarded (R166). -/
def State.trimBad (s : State) (src count : Nat) (srcFailed : Bool) : Bool :=
  srcFailed || s.isl.trimSpoilt || (src == 2 && !(s.isl.linkUp && s.hzn.lock == .locked)) ||
  decide (30000 * trimExpected src < ((count : Int) - trimExpected src).natAbs * 1000000)

/-- TRIM_WINDOW_END. -/
def execTrimWindowEnd (count : BitVec 24) (srcFailed : Bool) (s : State) : Host.Outcome State Fault Refusal :=
  let src := s.get R.OSC_STAT_trim_src
  let n := count.toNat
  .next (if src = 0 ∨ s.islandUp = false ∨ s.isl.runOn = false then s
    else
      (if s.trimBad src n srcFailed then s.trimDrop
        else ((s.puts [(R.OSC_TRIM_code, trimNext (s.get R.OSC_TRIM_code) n (trimExpected src)), (R.OSC_LAST_count, n),
          (R.OSC_LAST_src, src)]).count R.OSC_CNT_applied 1).put R.OSC_STAT_trim_src 0).trimStart)

/-- XTAL_FAIL (R166, R168): a window on the crystal is discarded at once, and the next one has another source or none. -/
def execXtalFail (s : State) : Host.Outcome State Fault Refusal :=
  .next (if s.isl.mode = .cold then s
    else
      let s1 := s.puts [(R.OSC_STAT_xtal_fail, 1), (R.OSC_STAT_xtal_run, 0)]
      if s1.get R.OSC_STAT_trim_src = 1 then s1.trimDrop.trimStart else s1)

/-- XTAL_RECOVER. -/
def execXtalRecover (s : State) : Host.Outcome State Fault Refusal :=
  .next (if s.isl.mode = .cold then s else (s.puts [(R.OSC_STAT_xtal_fail, 0), (R.OSC_STAT_xtal_run, 1)]).trimStart)

end Sys2Proof.Machine
end

