-- ==== Sys2Proof/Machine/Restart.lean ====
section
/-!
DEFINITION. Sys2Proof/Machine/Restart.lean: what restarts the island: FW_ACTIVATE (R529) and the mass erase (R602, R603).
-/

namespace Sys2Proof.Machine

/-- The island restarts: its firmware stops, its write sessions and the mailbox end, and its link drops (R529, R143). The
next ISLAND_BOOT starts it again. -/
def State.islandRestart (s : State) : State :=
  ({ s with isl := { s.isl with booted := false, fw := none, restartAt := some s.now, mboxOrder := [], sessions := Vector.replicate 3 none } }).linkLost

/-- FW_ACTIVATE (R529, R547): the deltas are committed, the command completes, and the island restarts. -/
def execFwActivate (ch : Fin 2) (s : State) : Host.Outcome State Fault Refusal :=
  let t := s.mboxServe ch 0x12 (fun n => n == 0) (fun _ t => (0, [], t.commitPending false))
  let served := s.islandUp && s.mboxNext == some ch.val && s.mboxCmd ch == 0x12 && s.mboxLen ch == 0
  .next (if served then t.islandRestart else t)

/-- The flash after a mass erase (R602): bank A, the ring, sector 2 and the log pair are blank. -/
def State.massErased (s : State) : State :=
  let s1 := (List.range 192).foldl (fun t n => t.sectorErased false n) s
  (List.range 256).foldl (fun t n => t.sectorErased true n) s1

/-- What the island keeps of erased flash: no committed copy, an empty ring, protection level 0. -/
def State.flashFresh (s : State) : State :=
  let f := { s.fls with
    massPart := none, active := none, suspended := [], unmatched := [], recoverDue := false, retired := [], failRuns := [], latest := [],
    headLine := 1, headFirst := 1, sectorSeq := 0, held := false, checkpointDue := false, ckptInterval := 0,
    logSector := 0, logWord := 0, logSeq := 0, logGen := 0 }
  let i := { s.isl with areaOk := 0, copySeq := Vector.replicate 2 none, records := [] }
  ({ s with fls := f, isl := i }).puts [(R.FLS_PROT_level, 0), (R.FLS_RING_head, 3), (R.FLS_RING_tail, 3),
    (R.FLS_RING_erased_ahead, 252), (R.FLS_JRNL_last_commit, 0), (R.FLS_CKPT_first_commit, 0)]

/-- Every cumulative and calibration register at its reset value, the lock with them (R574, R575, R602). -/
def State.meterCleared (s : State) : State :=
  let chan := fun (c : ChanSt) => { c with vol := 0, rev := 0, heat := 0, errEighths := 0 }
  let m := { s.mtr with
    chans := s.mtr.chans.map chan, elec := 0, elecFrac := 0, ovhElec := 0, ovhHeat := 0, benchElec := 0, benchHeat := 0,
    tenElec := [], tenHeat := [], committed := List.replicate 11 0, comElec := [], comHeat := [], comErr := [0, 0],
    calPending := [], firstInterval := 0 }
  let s1 := { s with mtr := m, regs := calOffsets.foldl (fun (r : RegFile) o => r.resetRange (0x410000 + o) (0x410004 + o)) s.regs }
  s1.puts [(R.MTR_CAL_LOCK_lock, 0), (R.MTR_INTERVAL, 0), (R.MTR_CH_ERRT 0, 0), (R.MTR_CH_ERRT 1, 0)]

/-- MASS_ERASE (R602): each sector erase needs the budget of R521, and a refusal only delays it; then the island restarts,
with no firmware to start. -/
def execMassErase (s : State) : Host.Outcome State Fault Refusal :=
  .next (if !s.islandUp || s.fls.massPart.isNone then s
    else if !s.eraseAllowed then s.eraseRefused 6 false 0
    else ((s.massErased.flashFresh.meterCleared.flsLast 6 0 false 0 0).flsShow).islandRestart)

end Sys2Proof.Machine
end

