-- ==== Sys2Proof/Machine/HostPort.lean ====
section
/-!
DEFINITION. Sys2Proof/Machine/HostPort.lean: the host port (spec/15): links (R479, R480, R499, R500), configuration space (R4, R483–R488),
device memory (R489–R491), the CXL mailbox (R495), MSI-X (R496) and CXL reset (R501).
-/

namespace Sys2Proof.Machine

/-! ### Links and resets (R479, R480, R499–R501, R507) -/

/-- The rate, width and protocol a half can train at (R479, R480). -/
def linkOk (split : Bool) (rate width protocol : Nat) : Bool :=
  decide (1 ≤ rate) && decide (width ∈ [1, 2, 4, 8, 16]) && decide (width ≤ if split then 8 else 16) &&
  (protocol == 0 || protocol == 3 || decide (rate ≤ 2))

/-- The host PHY can train: the SerDes clock runs, and dusk has not idled the transmitters (R127, R136). -/
def State.hostPhy (s : State) : Bool :=
  s.controlUp && s.clk.locked.getLsbD 4 && (match s.pwr.dusk with | some d => decide (d.phase ≠ .falling) | none => true)

/-- HOST_LINK_UP. -/
def execHostLinkUp (half : Fin 2) (rate : BitVec 2) (width : BitVec 5) (protocol : BitVec 2) (s : State) : Host.Outcome State Fault Refusal :=
  let split := s.get R.GEN_STRAP_host_bif == 1
  .next (if !s.hostPhy || (s.half half).up || (half.val == 1 && !split) || !linkOk split rate.toNat width.toNat protocol.toNat then s
    else ((s.setHalf half { s.half half with up := true, rate := rate.toNat, width := width.toNat, protocol := protocol.toNat }).raiseHost
      (2 * half.val + 1)).flushPba half)

/-- HOST_LINK_DOWN. -/
def execHostLinkDown (half : Fin 2) (s : State) : Host.Outcome State Fault Refusal := .next (s.linkDown half)

/-- HOT_RESET: the half's items return to reset and its link trains again. -/
def execHotReset (half : Fin 2) (s : State) : Host.Outcome State Fault Refusal := .next (if (s.half half).up then s.halfHot half else s)

/-- IDE_FAIL (R507). -/
def execIdeFail (half : Fin 2) (s : State) : Host.Outcome State Fault Refusal :=
  .next (if (s.half half).up && (s.half half).ideActive != 0 then (s.raiseHost 6).linkDown half else s)

/-- What FLR resets of a half (R499): MSI-X and the power state; the CXL and Flex Bus DVSECs, decoders, sessions and keys stay. -/
def HalfSt.flr (h : HalfSt) : HalfSt :=
  { h with bar := 0, d3 := false, msixEnable := false, msixMask := false, vecMask := BitVec.allOnes 64, msixTable := [], pba := 0 }

/-- FLR. -/
def execFlr (half : Fin 2) (s : State) : Host.Outcome State Fault Refusal :=
  .next (if (s.half half).up && s.get R.GEN_READY_cfg_ready == 1 then s.setHalf half (s.half half).flr else s)

/-- Every secure session and IDE key ends, on both halves (R499). -/
def State.sessionsEnd (s : State) : State :=
  { s with host := { s.host with sessions := [], halves := s.host.halves.map (fun (h : HalfSt) => { h with ideKeys := 0, ideActive := 0 }) } }

/-- CXL_RESET (R501): a warm reset, or CXL Reset Error where none can run. -/
def execCxlReset (half : Fin 2) (s : State) : Host.Outcome State Fault Refusal :=
  let h := s.half half
  .next (if !h.up || h.protocol == 0 || s.get R.GEN_READY_cfg_ready == 0 then s
    else if !s.running || s.pwr.warm then s.setHalf half { h with resetComplete := false, resetError := true }
    else
      let s1 := (s.setHalf half { h with resetComplete := false, resetError := false }).sessionsEnd
      let s2 := { s1 with pwr := { s1.pwr with cxlMemClear := h.memClear, cxlHalf := half.val } }
      s2.warmStart true)

/-- CXL_RESET_DONE (R499). -/
def execCxlResetDone (s : State) : Host.Outcome State Fault Refusal :=
  .next (if !(s.pwr.warm && s.pwr.cxlReset) then s
    else
      let h := halfOf s.pwr.cxlHalf
      let s1 := if s.pwr.cxlMemClear then s.clearWindows else s
      let s2 := s1.setHalf h { s1.half h with resetComplete := true }
      ({ s2 with pwr := { s2.pwr with cxlMemClear := false } }).warmDone.raiseHost 9)

/-- POWER_STATE_CHANGE (R483). -/
def execPowerStateChange (half : Fin 2) (d3 : Bool) (s : State) : Host.Outcome State Fault Refusal :=
  .next (if (s.half half).up && s.get R.GEN_READY_cfg_ready == 1 then (s.setHalf half { s.half half with d3 := d3 }).flushPba half else s)

/-! ### Configuration space -/

/-- Codes of R116. -/
def PkgState.num : PkgState → Nat
  | .off => 0 | .dawn => 1 | .dawnFail => 2 | .held => 3 | .ready => 4 | .overcast => 5 | .dusk => 6 | .bench => 7

def vendorId : Nat := 0x1F3C
def State.deviceId (s : State) : Nat := if s.a0 then 0x4800 else 0x4801
def State.revisionId (s : State) : Nat := if s.a0 then 0x00 else 0x10

/-- GEN_TOPO[9:0] with assigned in bit 15 (R485, R510). -/
def State.topoWord (s : State) : Nat :=
  s.get R.GEN_TOPO_slot + 8 * s.get R.GEN_TOPO_sled + 128 * s.get R.GEN_TOPO_rack + 32768 * s.get R.GEN_TOPO_assigned

def State.ownBoot (s : State) : Nat := if s.a0 then bootLevelsA0.own else bootLevels.own

/-- A word of the Twifelux identity DVSEC (R485). -/
def State.twifelux (s : State) (h : Fin 2) (off : Nat) : Nat :=
  match off with
  | 0x0A => h.val + 2 * s.get R.GEN_STRAP_host_bif
  | 0x0C => s.topoWord
  | 0x0E => s.pwr.state.num
  | 0x10 => s.ownBoot
  | 0x12 => match s.pwr.stage2 with | some l => l.own | none => 0
  | 0x14 => s.get R.GEN_HOLD_CAUSE_causes
  | _ => 0

/-- What R483 marks present; the IDE capability is there whatever the half runs (R505). -/
def capPresent : Capability → Bool
  | .pciExpress | .powerManagement | .msix | .advancedErrors | .serialNumber | .secondaryPcie | .dataLinkFeature | .physical16
  | .physical32 | .physical64 | .laneMargining | .flitLogging | .dataObjectExchange | .ide | .dvsec => true
  | .msi | .intx | .vpd | .expansionRom | .ari | .srIov | .ats | .pri | .pasid | .acs | .ltr | .l1Substates | .resizableBar | .tph
  | .ptm => false

/-- The vendor ID of the CXL DVSECs; PRESUMED (assumption 145): R484 names the vendor only as CXL. -/
def cxlVendor : Nat := 0x1E98

/-- The DVSECs R484 marks present. -/
def dvsecPresent (vendor id : Nat) : Bool :=
  (vendor == cxlVendor && [0x0000, 0x0007, 0x0008].contains id) || (vendor == vendorId && id == 0x0001)

/-- Values of the DVSEC for CXL devices (R484). -/
def cxlField : CxlField → Nat
  | .hdmCount => 2 | .memCapable => 1 | .cacheCapable => 0 | .ioCapable => 1 | .resetCapable => 1 | .memClearCapable => 1
  | .resetTimeoutMs => 100

/-- A base address register (R493): BAR0 and BAR1 are one 64-bit, non-prefetchable memory BAR of 4 MiB; its type bits are those of
PCI, PRESUMED (assumption 145). -/
def HalfSt.barWord (h : HalfSt) (i : Nat) : Nat :=
  match i with
  | 0 => 0x400000 * (h.bar % 1024) + 4
  | 1 => h.bar / 1024
  | _ => 0

/-- A write of a base address register keeps the bits above the 4 MiB size. -/
def HalfSt.barSet (h : HalfSt) (i w : Nat) : HalfSt :=
  match i with
  | 0 => { h with bar := h.bar / 1024 * 1024 + w / 0x400000 }
  | 1 => { h with bar := w * 1024 + h.bar % 1024 }
  | _ => h

/-- A configuration request that is served: its answer, and the half after it. -/
def State.configDo (s : State) (h : Fin 2) (req : CfgReq) : Nat × HalfSt :=
  let x := s.half h
  match req with
  | .hasCapability c => (b2n (capPresent c), x)
  | .readPortType => (b2n (x.protocol == 1), x)
  | .hasDvsec vendor id => (b2n (dvsecPresent vendor.toNat id.toNat), x)
  | .readCxlField f => (cxlField f, x)
  | .readLocatorEntries => (2, x)
  | .readIdeStreams => (b2n (x.protocol == 3), x)
  | .readRangeSize second => (if second then weightEnd - dataEnd else dataEnd, x)
  | .readRangeActive _ => (s.get R.GEN_READY_mem_active, x)
  | .readBar i => (x.barWord i.val, x)
  | .writeBar i w => (0, x.barSet i.val w.toNat)
  | .readIdentity revision => (if revision then 0x05021000 + s.revisionId else 65536 * s.deviceId + vendorId, x)
  | .readTwifelux off => (s.twifelux h off.toNat, x)
  | .msixControl enable mask => (0, { x with msixEnable := enable, msixMask := mask })
  | .memClear enable => (0, { x with memClear := enable })
  | .hdmEnable enable => (0, { x with hdmEnable := enable })
  | .range second base enable =>
    let v := if enable then some base.toNat else none
    (0, if second then { x with range2 := v } else { x with range1 := v })
  | .readResetStatus => (b2n x.resetComplete + 2 * b2n x.resetError, x)

/-- CONFIG_REQUEST: retry status before cfg_ready (R127). -/
def execConfigRequest (half : Fin 2) (req : CfgReq) (s : State) : Host.Outcome State Fault Refusal :=
  .next (if !(s.half half).up then s
    else
      let s1 := s.pmu 0xE4 none 1
      if s1.get R.GEN_READY_cfg_ready = 0 then s1.emit (.config half.val none)
      else
        let r := s1.configDo half req
        ((s1.setHalf half r.2).emit (.config half.val (some r.1))).flushPba half)

/-! ### HDM decoders (R487) -/

/-- The DPA range a decoder may take. -/
def hdmFits (dec base size : Nat) : Bool :=
  match dec with
  | 0 => base == 0 && decide (0x10000000 ≤ size ∧ size ≤ dataEnd) && size % 0x10000000 == 0
  | 1 => base == cmdBase && size == 0x10000000
  | 2 => base == weightBase && size == 0x40000000
  | _ => size == 0

/-- HDM_COMMIT: a range that does not fit reports Error Not Committed and decodes nothing. -/
def execHdmCommit (half : Fin 2) (dec : Fin 4) (base size skip : BitVec 52) (ways : BitVec 4) (s : State) : Host.Outcome State Fault Refusal :=
  let h := s.half half
  let ds := h.decoders.toList
  let d := dec.val
  .next (if !h.up || s.get R.GEN_READY_cfg_ready == 0 || decide (h.protocol < 2) then s
    else if (ds.drop (d + 1)).any Decoder.committed then s.emit (.hdm half.val d false)
    else
      let dpa := ((ds.take d).map (fun (x : Decoder) => x.skip + x.size)).sum + skip.toNat
      let ok := (ds.take d).all Decoder.committed && ways.toNat == 1 && hdmFits d dpa size.toNat
      let new : Decoder := if ok then ⟨true, base.toNat, size.toNat, skip.toNat⟩ else ⟨false, 0, 0, 0⟩
      (s.setHalf half { h with decoders := h.decoders.set dec new }).emit (.hdm half.val d ok))

/-! ### CXL.mem (R489–R491) -/

/-- CXL_MEM_READ. -/
def execCxlMemRead (half : Fin 2) (hpa : BitVec 52) (ecc : BitVec 2) (s : State) : Host.Outcome State Fault Refusal :=
  .next (if !s.memServes half then s
    else
      let s1 := s.pmu (0xE0 + 2 * half.val) none 1
      match s1.claimed half hpa.toNat with
      | none => (s1.unclaimedReq false).emit (.line half.val zeroBytes true)
      | some a =>
        if weightBase ≤ a then s1.windowRead half a
        else if s1.clk.selfRefresh.getLsbD (stackOf a) then
          s1.setHalf half { s1.half half with parked := (s1.half half).parked ++ [(a, ecc.toNat)] }
        else s1.memReadLine half a ecc.toNat)

/-- CXL_MEM_WRITE. -/
def execCxlMemWrite (half : Fin 2) (hpa : BitVec 52) (data : Line) (be : BitVec 64) (poison : Bool) (s : State) :
    Host.Outcome State Fault Refusal :=
  .next (if s.memServes half then s.memWriteOrHold half hpa.toNat data.toList be.toNat poison else s)

/-! ### The CXL mailbox (R495) -/

/-- The half's primary mailbox answers. -/
def State.cxlMbox (s : State) (h : Fin 2) : Bool :=
  (s.half h).up && (s.half h).protocol != 0 && !(s.half h).d3 && s.get R.GEN_READY_cfg_ready == 1

/-- A mailbox command: its reply and what it changes. -/
def State.mailbox (s : State) (h : Fin 2) (run : State → Nat × List Nat × State) : State :=
  if s.cxlMbox h then
    let r := run s
    r.2.2.emit (.mailbox h.val r.1 r.2.1)
  else s

/-- IDENTIFY. -/
def execIdentify (half : Fin 2) (s : State) : Host.Outcome State Fault Refusal :=
  .next (s.mailbox half (fun t => (0, [vendorId, t.deviceId, t.revisionId, Config.serial % 2 ^ 64], t)))

/-- GET_EVENT_RECORDS: handle, kind and argument of each record of the log. -/
def execGetEventRecords (half : Fin 2) (log : Fin 4) (s : State) : Host.Outcome State Fault Refusal :=
  .next (s.mailbox half (fun t => (0, ((t.half half).events.filter (fun e => e.log == log.val)).flatMap (fun e => [e.handle, e.what, e.arg]), t)))

/-- CLEAR_EVENT_RECORDS: the named records, or all of the log. -/
def execClearEventRecords (half : Fin 2) (log : Fin 4) (handles : List (BitVec 16)) (s : State) : Host.Outcome State Fault Refusal :=
  .next (s.mailbox half (fun t =>
    let gone := fun (e : EventRec) => e.log == log.val && (handles.isEmpty || handles.any (fun n => n.toNat == e.handle % 65536))
    (0, [], t.setHalf half { t.half half with events := (t.half half).events.filter (fun e => !gone e) })))

/-- GET_EVENT_INTERRUPT_POLICY: the policy of each log, and the message number. -/
def execGetEventInterruptPolicy (half : Fin 2) (s : State) : Host.Outcome State Fault Refusal :=
  .next (s.mailbox half (fun t => (0, (t.half half).policy.map BitVec.toNat ++ [t.get R.HOST_IRQ_MAP2_host], t)))

/-- SET_EVENT_INTERRUPT_POLICY. -/
def execSetEventInterruptPolicy (half : Fin 2) (policy : Vector Byte 4) (s : State) : Host.Outcome State Fault Refusal :=
  .next (s.mailbox half (fun t => (0, [], t.setHalf half { t.half half with policy := policy.toList })))

/-- Own levels of boot ROM, stage-2, patch and island firmware, 0 for one that does not run. -/
def State.ownLevels (s : State) : List Nat :=
  [s.ownBoot, (s.pwr.stage2.map Levels.own).getD 0, (s.patch.map (fun (p : Patch) => p.levels.own)).getD 0,
   (s.isl.fw.map (fun (f : FwCopy) => f.levels.own)).getD 0]

/-- GET_FW_INFO. -/
def execGetFwInfo (half : Fin 2) (s : State) : Host.Outcome State Fault Refusal :=
  .next (s.mailbox half (fun t => (0, t.ownLevels, t)))

/-- The timestamp runs on in nanoseconds once it has been set. -/
def State.timestampNow (s : State) (h : Fin 2) : Nat :=
  let x := s.half h
  if x.timestamp = 0 then 0 else (x.timestamp + 8 * (s.now - x.timestampAt)) % 2 ^ 64

/-- GET_TIMESTAMP. -/
def execGetTimestamp (half : Fin 2) (s : State) : Host.Outcome State Fault Refusal :=
  .next (s.mailbox half (fun t => (0, [t.timestampNow half], t)))

/-- SET_TIMESTAMP. -/
def execSetTimestamp (half : Fin 2) (ns : Word64) (s : State) : Host.Outcome State Fault Refusal :=
  .next (s.mailbox half (fun t => (0, [], t.setHalf half { t.half half with timestamp := ns.toNat, timestampAt := t.now })))

/-- Opcodes of the commands implemented, in the order of R495. -/
def mailboxOpcodes : List Nat :=
  [0x0001, 0x0100, 0x0101, 0x0102, 0x0103, 0x0200, 0x0300, 0x0301, 0x0400, 0x0401, 0x4000, 0x4100, 0x4200, 0x4300]

/-- GET_SUPPORTED_LOGS: the Command Effects Log and its size. -/
def execGetSupportedLogs (half : Fin 2) (s : State) : Host.Outcome State Fault Refusal :=
  .next (s.mailbox half (fun t => (0, [0x0DA9C0B5BF414B788F7996B1623B3F17, 4 * mailboxOpcodes.length], t)))

/-- The Command Effects Log: each opcode, and its effects, which the spec does not give. -/
def State.effectsLog (s : State) : List Byte :=
  mailboxOpcodes.zipIdx.flatMap (fun x => toLE 2 x.1 ++ toLE 2 (Config.free (s.freeIx + x.2)))

/-- GET_LOG: a part of the Command Effects Log; no other log exists. -/
def execGetLog (half : Fin 2) (cel : Bool) (start length : BitVec 16) (s : State) : Host.Outcome State Fault Refusal :=
  .next (s.mailbox half (fun t =>
    if !cel || decide (4 * mailboxOpcodes.length < start.toNat + length.toNat) then (2, [], t)
    else (0, ((t.effectsLog.drop start.toNat).take length.toNat).map BitVec.toNat, { t with freeIx := t.freeIx + mailboxOpcodes.length })))

/-- IDENTIFY_MEMORY_DEVICE: total, volatile and persistent units of 256 MiB, label storage. -/
def execIdentifyMemoryDevice (half : Fin 2) (s : State) : Host.Outcome State Fault Refusal :=
  .next (s.mailbox half (fun t => (0, [196, 196, 0, 0], t)))

/-- GET_PARTITION_INFO: active volatile and persistent units, next volatile and persistent. -/
def execGetPartitionInfo (half : Fin 2) (s : State) : Host.Outcome State Fault Refusal :=
  .next (s.mailbox half (fun t => (0, [196, 0, 0, 0], t)))

/-- GET_HEALTH_INFO: Maintenance Needed, and the hottest die temperature as THM_HOT gives it. -/
def execGetHealthInfo (half : Fin 2) (s : State) : Host.Outcome State Fault Refusal :=
  .next (s.mailbox half (fun t => (0, [b2n (t.tiles.any (fun x => x.2.worn)), t.get R.THM_HOT_temp], t)))

/-- GET_POISON_LIST: the poisoned lines of a range. -/
def execGetPoisonList (half : Fin 2) (addr : BitVec 40) (lines : BitVec 32) (s : State) : Host.Outcome State Fault Refusal :=
  .next (s.mailbox half (fun t => (0, (t.poison.filter (fun l => decide (addr.toNat ≤ 64 * l ∧ 64 * l < addr.toNat + 64 * lines.toNat))).map (64 * ·), t)))

/-- CXL_MBOX_UNSUPPORTED: any other opcode. -/
def execCxlMboxUnsupported (half : Fin 2) (opcode : BitVec 16) (s : State) : Host.Outcome State Fault Refusal :=
  .next (if mailboxOpcodes.contains opcode.toNat then s else s.mailbox half (fun t => (3, [], t)))

/-! ### MSI-X and counters -/

/-- The half decodes BAR0 (R127, R483). -/
def State.barServes (s : State) (h : Fin 2) : Bool := (s.half h).up && s.get R.GEN_READY_cfg_ready == 1 && !(s.half h).d3

/-- MSIX_VECTOR_UNMASK. -/
def execMsixVectorUnmask (half : Fin 2) (vector : Fin 64) (s : State) : Host.Outcome State Fault Refusal :=
  .next (if s.barServes half then
      (s.setHalf half { s.half half with vecMask := (s.half half).vecMask &&& ~~~(BitVec.twoPow 64 vector.val) }).flushPba half
    else s)

/-- HOST_REQ (R512). -/
def execHostReq (s : State) : Host.Outcome State Fault Refusal := .next (if s.controlUp then s.alert 4 else s)

/-- The HOST counters cleared (R516). -/
def State.hostClear (s : State) : State :=
  s.puts [(R.HOST_CNT0_poison_reads, 0), (R.HOST_CNT0_poison_writes, 0), (R.HOST_CNT1_corrected, 0), (R.HOST_CNT1_unclaimed, 0),
    (R.HOST_SB_CNT_pec_errors, 0), (R.HOST_SB_CNT_denied, 0)]

/-- HOST_CLR_COUNTS. -/
def execHostClrCounts (s : State) : Host.Outcome State Fault Refusal := .next (if s.controlUp then s.hostClear else s)

end Sys2Proof.Machine
end

