-- ==== Sys2Proof/Machine/Spdm.lean ====
section
/-!
DEFINITION. Sys2Proof/Machine/Spdm.lean: a half's DOE mailbox (R483): discovery, the CDAT (R492), the SPDM responder with its
measurements (R503, R504), and IDE key management (R505).
-/

namespace Sys2Proof.Machine

/-- A response of the half's DOE mailbox. -/
def State.doe (s : State) (h : Fin 2) (what : String) (payload : List Byte) : State := s.emit (.doe h.val what payload)

/-- The DOE mailbox answers: configuration space is served (R127, R483). -/
def State.doeServes (s : State) (h : Fin 2) : Bool := (s.half h).up && s.get R.GEN_READY_cfg_ready == 1

/-! ### Discovery and CDAT -/

/-- Object types by discovery index: vendor 0x0001 types 0 discovery, 1 CMA/SPDM, 2 secured CMA/SPDM; vendor 0x1E98 type 2 CXL
table access. -/
def doeProtocol (i : Nat) : Nat × Nat :=
  match i with
  | 0 => (0x0001, 0)
  | 1 => (0x0001, 1)
  | 2 => (0x0001, 2)
  | 3 => (0x1E98, 2)
  | _ => (0xFFFF, 0)

/-- DOE_DISCOVERY: vendor, type, and the next index, 0 after the last. -/
def execDoeDiscovery (half : Fin 2) (index : Byte) (s : State) : Host.Outcome State Fault Refusal :=
  let p := doeProtocol index.toNat
  .next (if s.doeServes half then
      s.doe half "DISCOVERY" (toLE 2 p.1 ++ toLE 1 p.2 ++ toLE 1 (if index.toNat < 3 then index.toNat + 1 else 0))
    else s)

/-- A DSMAS entry: handle, no flags, the window's range. -/
def dsmas (handle base len : Nat) : List Byte := [0, 0, 24, 0] ++ toLE 1 handle ++ [0, 0, 0] ++ toLE 8 base ++ toLE 8 len

/-- A DSLBIS entry: data type 1 read latency, 2 write latency, 4 read and 5 write bandwidth; `unit × value` picoseconds or MB/s. -/
def dslbis (handle type unit value : Nat) : List Byte :=
  [1, 0, 24, 0] ++ toLE 1 handle ++ [0] ++ toLE 1 type ++ [0] ++ toLE 8 unit ++ toLE 2 value ++ [0, 0, 0, 0, 0, 0]

/-- Latency in nanoseconds and bandwidth in GB/s of a window. -/
def dslbisOf (handle read write gb : Nat) : List Byte :=
  dslbis handle 1 1000 read ++ dslbis handle 2 1000 write ++ dslbis handle 4 1000 gb ++ dslbis handle 5 1000 gb

/-- The entries of the CDAT (R492). -/
def cdatEntries : List Byte :=
  dsmas 0 0 dataEnd ++ dsmas 1 cmdBase 0x10000000 ++ dsmas 2 weightBase 0x40000000 ++
  dslbisOf 0 150 150 2400 ++ dslbisOf 1 150 150 2400 ++ dslbisOf 2 33000 200 1

/-- The table: length, revision 1, a checksum that makes the sum of its bytes 0, sequence 0. -/
def cdat : List Byte :=
  let n := 16 + cdatEntries.length
  let head := fun (c : Nat) => toLE 4 n ++ toLE 1 1 ++ toLE 1 c ++ List.replicate 10 (0 : Byte)
  let total := ((head 0 ++ cdatEntries).map BitVec.toNat).sum
  head ((256 - total % 256) % 256) ++ cdatEntries

/-- CDAT_READ. -/
def execCdatRead (half : Fin 2) (s : State) : Host.Outcome State Fault Refusal :=
  .next (if s.doeServes half then s.doe half "CDAT" cdat else s)

/-! ### SPDM (R503) -/

/-- An error response of the responder, named by its SPDM error. -/
def State.spdmError (s : State) (h : Fin 2) (why : String) : State := s.doe h why []

/-- SPDM_NEGOTIATE: version 1.2 and the one set of algorithms. -/
def execSpdmNegotiate (half : Fin 2) (version : BitVec 8) (algorithms : Bool) (s : State) : Host.Outcome State Fault Refusal :=
  .next (if !s.doeServes half then s
    else if version.toNat = 0x12 ∧ algorithms = true then
      (s.setHalf half { s.half half with negotiated := true }).doe half "ALGORITHMS" [0x12]
    else (s.setHalf half { s.half half with negotiated := false }).spdmError half "ERROR VersionMismatch")

/-- A request that needs the negotiation. -/
def State.spdm (s : State) (h : Fin 2) (run : State → State) : State :=
  if !s.doeServes h then s else if (s.half h).negotiated then run s else s.spdmError h "ERROR UnexpectedRequest"

def chainDigest : List Byte := toLE 48 (Config.sha384 Config.certChain)

/-- GET_DIGESTS: slot 0 alone holds a chain. -/
def execGetDigests (half : Fin 2) (s : State) : Host.Outcome State Fault Refusal :=
  .next (s.spdm half (fun t => t.doe half "DIGESTS" ([1] ++ chainDigest)))

/-- GET_CERTIFICATE. -/
def execGetCertificate (half : Fin 2) (slot : BitVec 4) (start length : BitVec 16) (s : State) : Host.Outcome State Fault Refusal :=
  .next (s.spdm half (fun t =>
    if slot ≠ 0 ∨ Config.certChain.length ≤ start.toNat then t.spdmError half "ERROR InvalidRequest"
    else t.doe half "CERTIFICATE" ((Config.certChain.drop start.toNat).take length.toNat)))

/-- CHALLENGE: signed over the chain's digest and the nonce. -/
def execChallenge (half : Fin 2) (slot : BitVec 4) (nonce : Vector Byte 32) (s : State) : Host.Outcome State Fault Refusal :=
  .next (s.spdm half (fun t =>
    if slot ≠ 0 then t.spdmError half "ERROR InvalidRequest"
    else t.doe half "CHALLENGE_AUTH" (chainDigest ++ Config.deviceSign (chainDigest ++ nonce.toList))))

/-! ### Measurements (R504) -/

/-- A measurement block: index, specification 1, sizes, value type with bit 7 for a raw value, value. -/
def measurement (index type : Nat) (value : List Byte) : List Byte :=
  toLE 1 index ++ [1] ++ toLE 2 (value.length + 3) ++ toLE 1 type ++ toLE 2 value.length ++ value

/-- The value of a present index, with its DMTF type. -/
def State.measured (s : State) (index : Nat) : Option (Nat × List Byte) :=
  let digest := fun (d : Nat) => toLE 48 d
  match index with
  | 1 => some (0, digest Config.bootRomDigest)
  | 2 => some (1, digest s.pwr.stage2Digest)
  | 3 => s.patch.map (fun p => (1, digest p.digest))
  | 4 => s.isl.fw.map (fun f => (1, digest f.digest))
  | 5 => some (0x83, (s.ownLevels ++ [fabricLevel]).flatMap (toLE 2))
  | 6 => some (0x82, [s.isl.signRev.setWidth 8, s.isl.keyProv, s.isl.keyRev] ++ toLE 1 (s.get R.FLS_PROT_level) ++
      (List.range 4).flatMap (fun k => toLE 4 (s.isl.seal (slot4 k))))
  | n => if 16 ≤ n ∧ n < 80 then (s.resImage (n - 16)).map (fun i => (3, digest i.image.digest)) else none

/-- Every present index. -/
def State.presentIndices (s : State) : List Nat := (List.range 80).filter (fun n => (s.measured n).isSome)

def State.blockOf (s : State) (n : Nat) : List Byte :=
  match s.measured n with | some m => measurement n m.1 m.2 | none => []

/-- GET_MEASUREMENTS: index 0 the number of indices present, 0xFF all of them, signed with the nonce. -/
def execGetMeasurements (half : Fin 2) (index : BitVec 8) (nonce : Vector Byte 32) (s : State) : Host.Outcome State Fault Refusal :=
  .next (s.spdm half (fun t =>
    let body := match index.toNat with
      | 0 => toLE 1 t.presentIndices.length
      | 0xFF => t.presentIndices.flatMap t.blockOf
      | n => t.blockOf n
    t.doe half "MEASUREMENTS" (body ++ Config.deviceSign (body ++ nonce.toList))))

/-! ### Secure sessions and IDE (R503, R505) -/

/-- KEY_EXCHANGE: at most 2 sessions are open per package. -/
def execKeyExchange (half : Fin 2) (exchange : List Byte) (s : State) : Host.Outcome State Fault Refusal :=
  .next (s.spdm half (fun t =>
    if 2 ≤ t.host.sessions.length then t.spdmError half "ERROR Busy"
    else
      let id := t.host.nextSession
      let x : Session := ⟨half.val, id, false, 0⟩
      ({ t with host := { t.host with sessions := t.host.sessions ++ [x], nextSession := (id + 1) % 65536 } }).doe half "KEY_EXCHANGE_RSP"
        (toLE 2 id ++ Config.deviceSign (toLE 2 id ++ exchange))))

/-- The half's open session with this identifier. -/
def State.session (s : State) (h : Fin 2) (id : Nat) : Option Session :=
  s.host.sessions.find? (fun x => x.half == h.val && x.id == id)

def State.setSession (s : State) (y : Session) : State :=
  { s with host := { s.host with sessions := s.host.sessions.map (fun x => if x.half == y.half && x.id == y.id then y else x) } }

def State.dropSession (s : State) (y : Session) : State :=
  { s with host := { s.host with sessions := s.host.sessions.filter (fun x => !(x.half == y.half && x.id == y.id)) } }

/-- FINISH: a session whose check fails is closed. -/
def execFinish (half : Fin 2) (session : BitVec 16) (verified : Bool) (s : State) : Host.Outcome State Fault Refusal :=
  .next (s.spdm half (fun t => match t.session half session.toNat with
    | none => t.spdmError half "ERROR InvalidSession"
    | some x =>
      if verified then (t.setSession { x with complete := true }).doe half "FINISH_RSP" (toLE 2 x.id)
      else (t.dropSession x).spdmError half "ERROR DecryptError"))

/-- A request inside a completed session. -/
def State.inSession (s : State) (h : Fin 2) (id : Nat) (run : State → Session → State) : State :=
  s.spdm h (fun t => match t.session h id with
    | some x => if x.complete then run t x else t.spdmError h "ERROR UnexpectedRequest"
    | none => t.spdmError h "ERROR InvalidSession")

/-- KEY_UPDATE. -/
def execKeyUpdate (half : Fin 2) (session : BitVec 16) (s : State) : Host.Outcome State Fault Refusal :=
  .next (s.inSession half session.toNat (fun t x => (t.setSession { x with updates := x.updates + 1 }).doe half "KEY_UPDATE_ACK" (toLE 2 x.id)))

/-- END_SESSION. -/
def execEndSession (half : Fin 2) (session : BitVec 16) (s : State) : Host.Outcome State Fault Refusal :=
  .next (s.inSession half session.toNat (fun t x => (t.dropSession x).doe half "END_SESSION_ACK" (toLE 2 x.id)))

/-- The IDE stream a request names: 0 CXL.io, 1 CXL.cachemem. -/
def ideStream (mem : Bool) : BitVec 2 := if mem then 2 else 1

/-- KEY_PROG: only a half that runs CXL 3.1 has streams; elsewhere the status is not zero and nothing is programmed. The spec
does not give which status. -/
def execKeyProg (half : Fin 2) (session : BitVec 16) (mem : Bool) (_key : BitVec 256) (s : State) : Host.Outcome State Fault Refusal :=
  .next (s.inSession half session.toNat (fun t _ =>
    let h := t.half half
    if h.protocol = 3 then (t.setHalf half { h with ideKeys := h.ideKeys ||| ideStream mem }).doe half "KP_ACK" [0]
    else
      let p := t.free
      p.2.doe half "KP_ACK" (toLE 1 (1 + p.1 % 255))))

/-- K_SET_GO: a stream with its keys becomes active. -/
def execKSetGo (half : Fin 2) (session : BitVec 16) (mem : Bool) (s : State) : Host.Outcome State Fault Refusal :=
  .next (s.inSession half session.toNat (fun t _ =>
    let h := t.half half
    if h.ideKeys &&& ideStream mem = 0 then t.doe half "K_GOSTOP_ACK" []
    else (t.setHalf half { h with ideActive := h.ideActive ||| ideStream mem }).doe half "K_GOSTOP_ACK" []))

end Sys2Proof.Machine
end

