-- ==== Sys2Proof/Machine/Thermal.lean ====
section
/-!
DEFINITION. Sys2Proof/Machine/Thermal.lean: thermal protection (spec/19): the housekeeping round with its cross-check, levels, steps and
shutdown (R618–R643), and the writes of its configuration (R628, R629, R644). Temperatures are in 1/16 °C.
-/

namespace Sys2Proof.Machine

/-! ### Readings (R619, R622) -/

/-- The nine neighbour pairs. -/
def thmPairs : List (Nat × Nat) := [(0, 1), (0, 2), (0, 3), (0, 4), (0, 5), (0, 6), (1, 2), (3, 4), (4, 7)]

/-- The pairs a die is in. -/
def pairsOf (d : Nat) : List Nat :=
  (List.range 9).filter (fun k => (thmPairs.getD k (0, 0)).1 == d || (thmPairs.getD k (0, 0)).2 == d)

/-- The other die of pair `k`. -/
def otherOf (k d : Nat) : Nat :=
  let p := thmPairs.getD k (0, 0)
  if p.1 = d then p.2 else p.1

/-- A valid reading lies in −40 °C to +150 °C; diode 7 needs the island link. -/
def State.thmRaw (s : State) (diodes : Vector (Option Int) 8) (d : Nat) : Option Int :=
  match diodes.toList.getD d none with
  | none => none
  | some v => if -640 ≤ v ∧ v ≤ 2400 ∧ (d ≠ 7 ∨ s.linkOpen = true) then some v else none

/-- P of R622 as a fraction of W: the mean over the latest frames, or the 60 W base. Frame totals are tenths of a W·tick. -/
def State.thmPower (s : State) : Nat × Nat :=
  if s.thm.frames.isEmpty then (60, 1) else (s.thm.frames.sum, 20480 * s.thm.frames.length)

/-- The predicted offset p_k in 1/16 °C, times `125 × den` where P is `num / den`. -/
def State.thmOffset (s : State) (k : Nat) : Int :=
  let P := s.thmPower
  200 * toSigned 16 (s.get (R.THM_PAIR_offset0 k)) * P.2 + 2 * toSigned 16 (s.get (R.THM_PAIR_slope k)) * P.1

/-- The denominator of `thmOffset`. -/
def State.thmScale (s : State) : Int := 125 * s.thmPower.2

/-- Pair `k` disagrees: |r_k| > 8 °C, or a reading is invalid. -/
def State.pairDisagrees (s : State) (raw : Nat → Option Int) (k : Nat) : Bool :=
  let p := thmPairs.getD k (0, 0)
  match raw p.1, raw p.2 with
  | some a, some b => decide (128 * s.thmScale < ((a - b) * s.thmScale - s.thmOffset k).natAbs)
  | _, _ => true

/-! ### Suspects (R623–R625) -/

def State.thmDie (s : State) (d : Nat) : DieSt := s.thm.dies.toList.getD d ⟨0, 0, 0, 0, 0, 0, 0, 0, 0, false, []⟩

def State.setThmDie (s : State) (d : Nat) (x : DieSt) : State :=
  { s with thm := { s.thm with dies := s.thm.dies.mapIdx (fun i y => if i = d then x else y) } }

def State.suspect (s : State) (d : Nat) : Bool := bitAt (s.get R.THM_STAT_suspect) d

/-- The cross-check condition of one round. -/
def State.xcheckRound (s : State) (dis : Nat → Bool) (d : Nat) : Bool :=
  let ps := pairsOf d
  match ps with
  | [k] => dis k && !s.suspect (otherOf k d) && (pairsOf (otherOf k d)).any (fun j => !dis j)
  | _ => decide (ps.length < 2 * (ps.filter dis).length)

/-- The suspect counts of every die, moved on by a round. -/
def State.suspectCounts (s : State) (raw : Nat → Option Int) (dis : Nat → Bool) : State :=
  { s with thm := { s.thm with dies := s.thm.dies.mapIdx (fun d x =>
      { x with suspectRun := if s.xcheckRound dis d then x.suspectRun + 1 else 0,
               clearRun := if (raw d).isSome && !((pairsOf d).any dis) then x.clearRun + 1 else 0 }) } }

/-- A die's suspect mark after its counts have moved: onset or clear, with its event; the record's code, if one is due. -/
def State.suspectMark (s : State) (raw : Nat → Option Int) (d : Nat) : State × List (Nat × Nat) :=
  let x := s.thmDie d
  if s.suspect d then
    if 16 ≤ x.clearRun then ((s.clrBit R.THM_STAT_suspect d).raiseThm 8, [(6, d)]) else (s, [])
  else if (raw d).isNone || decide (4 ≤ x.suspectRun) then ((((s.setBit R.THM_STAT_suspect d).raiseThm 7).alert 2).pmu 0xF3 none 1, [(5, d)])
  else (s, [])

/-- How many dies are suspect. -/
def State.suspects (s : State) : Nat := ((List.range 8).filter s.suspect).length

/-- THM_STAT.xcheck_fail: three or more dies are suspect (R625). -/
def State.xcheckShow (s : State) : State × List (Nat × Nat) :=
  if s.suspects < 3 then (s.put R.THM_STAT_xcheck_fail 0, [])
  else if s.get R.THM_STAT_xcheck_fail = 1 then (s, [])
  else (((s.put R.THM_STAT_xcheck_fail 1).raiseThm 9).alert 2, [(7, 0)])

/-- Suspect marks and the cross-check failure; the records due, as (code, die). -/
def State.suspectRound (s : State) (raw : Nat → Option Int) (dis : Nat → Bool) : State × List (Nat × Nat) :=
  let r := (List.range 8).foldl (fun (u : State × List (Nat × Nat)) d => let v := u.1.suspectMark raw d; (v.1, u.2 ++ v.2))
    (s.suspectCounts raw dis, [])
  let x := r.1.xcheckShow
  (x.1, r.2 ++ x.2)

def maxInt (l : List Int) : Option Int := l.foldl (fun m v => match m with | none => some v | some w => some (max v w)) none

/-- T_d (R621, R624, R625). -/
def State.effective (s : State) (raw : Nat → Option Int) (d : Nat) : Int :=
  if s.get R.THM_STAT_xcheck_fail = 1 then (raw d).getD 2400
  else if !s.suspect d then (raw d).getD 2400
  else
    let near := (pairsOf d).filterMap (fun k =>
      let n := otherOf k d
      match raw n with
      | some v => if s.suspect n then none
          else some (v * s.thmScale + (if (thmPairs.getD k (0, 0)).1 = d then s.thmOffset k else - s.thmOffset k))
      | none => none)
    match maxInt near with
    | some v => roundHalfAway v s.thmScale
    | none => (maxInt ((List.range 8).filterMap (fun n => if s.suspect n then none else raw n))).getD 2400

/-- What the history keeps of a round: nothing where T_d came from an invalid reading (R627). -/
def State.effectiveKept (s : State) (raw : Nat → Option Int) (d : Nat) : Option Int :=
  if (raw d).isNone && (s.get R.THM_STAT_xcheck_fail == 1 || !s.suspect d) then none else some (s.effective raw d)

/-! ### Bias generators (R620) -/

/-- One die's bias check. -/
def State.biasCheck (s : State) (i : Fin 4) (good : Bool) : State × List (Nat × Nat) :=
  let s1 := { s with thm := { s.thm with
    biasBad := s.thm.biasBad.set i (if good then 0 else s.thm.biasBad[i] + 1),
    biasGood := s.thm.biasGood.set i (if good then s.thm.biasGood[i] + 1 else 0) } }
  if bitAt (s1.get R.THM_STAT_bias_fault) i.val then
    (if 16 ≤ s1.thm.biasGood[i] then s1.clrBit R.THM_STAT_bias_fault i.val else s1, [])
  else if 2 ≤ s1.thm.biasBad[i] then
    (((s1.setBit R.THM_STAT_bias_fault i.val).forceDies [i.val]).raiseThm 11, [(9, i.val + 1)])
  else (s1, [])

def State.biasRound (s : State) (ok : BitVec 4) : State × List (Nat × Nat) :=
  [(0 : Fin 4), 1, 2, 3].foldl (fun (u : State × List (Nat × Nat)) i =>
    let v := u.1.biasCheck i (ok.getLsbD i.val); (v.1, u.2 ++ v.2)) (s, [])

/-! ### Levels (R626, R627) -/

/-- The change over 32 rounds of a die now at `t`, in 1/16 °C, where the rate is computed. -/
def DieSt.change (x : DieSt) (t : Int) : Option Int := (x.history.getD 32 none).map (fun b => t - b)

/-- The rate of a change exceeds a number of °C/s: 1/16 °C in 32 ms is 125/64 °C/s. -/
def rateOver (change : Int) (limit : Nat) : Bool := decide (64 * (limit : Int) < 125 * change)

/-- A rate in 0.1 °C/s. -/
def rateTenths (change : Int) : Int := clampInt (-32768) 32767 (roundHalfAway (1250 * change) 64)

/-- A die's counts after a round at temperature `t`. -/
def State.dieCounts (s : State) (d : Nat) (t : Int) (kept : Option Int) : State :=
  let x := s.thmDie d
  let at' := fun (f : Fld) (n : Nat) => if 16 * (s.get f : Int) ≤ t then n + 1 else 0
  let leave : Int := 16 * ((if s.get (R.THM_DIE_S_level d) = 1 then s.get R.THM_THR_warning else s.get R.THM_THR_overcast : Nat) : Int) -
    16 * (s.get R.THM_THR_hyst : Int)
  let h := (kept :: x.history).take 33
  let y := { x with history := h, upWarn := at' R.THM_THR_warning x.upWarn, upOver := at' R.THM_THR_overcast x.upOver,
                    upShut := at' R.THM_THR_shutdown x.upShut, downRun := if t < leave then x.downRun + 1 else 0 }
  let limit := s.get R.THM_RATE_limit
  let z := match y.change t with
    | none => { y with rateUp := 0, rateDown := 0, rateFast := 0 }
    | some c => { y with rateUp := if rateOver c limit then y.rateUp + 1 else 0, rateDown := if rateOver c limit then 0 else y.rateDown + 1,
                         rateFast := if rateOver c (4 * limit) then y.rateFast + 1 else 0 }
  let s1 := s.setThmDie d z
  match z.change t with
  | none => s1
  | some c => s1.put (R.THM_DIE_S_rate d) (fromSigned 16 (rateTenths c))

/-- The level a die's counts give it. -/
def DieSt.level (x : DieSt) (old : Nat) : Nat :=
  let up := if 4 ≤ x.upShut then 3 else if 4 ≤ x.upOver ∨ 4 ≤ x.rateUp then 2 else if 4 ≤ x.upWarn then 1 else 0
  if old < up then up
  else if (old = 1 ∨ old = 2) ∧ 16 ≤ x.downRun ∧ (old = 1 ∨ x.rateCaused = false ∨ 16 ≤ x.rateDown) then old - 1
  else old

/-- A die's level rule; level and rate counts restart when the level changes. -/
def State.dieLevel (s : State) (d : Nat) : State :=
  let old := s.get (R.THM_DIE_S_level d)
  let x0 := s.thmDie d
  let x := { x0 with rateCaused := x0.rateCaused || decide (4 ≤ x0.rateUp) }
  let s1 := if x.rateUp = 4 then s.raiseThm 10 else s
  let new := x.level old
  let y := { x with rateCaused := x.rateCaused && decide (2 ≤ new) }
  if new = old then s1.setThmDie d y
  else (s1.setThmDie d { y with upWarn := 0, upOver := 0, upShut := 0, downRun := 0, rateUp := 0, rateDown := 0, rateFast := 0 }).put
    (R.THM_DIE_S_level d) new

/-- The hottest of some dies, the lowest code of equals. -/
def hottest (t : Nat → Int) (ds : List Nat) : Nat :=
  match ds with
  | [] => 0
  | d :: ds => ds.foldl (fun m n => if t m < t n then n else m) d

/-- The package level has changed from `old` (R626, R639, R640): events, the alert, and the record due. -/
def State.pkgLevel (s : State) (old new : Nat) (t : Nat → Int) (rose : Nat → List Nat) : State × List (Nat × Nat) :=
  if old = new then (s, [])
  else
    let s1 := if old < 1 ∧ 1 ≤ new then s.raiseThm 0 else if new < 1 then s.raiseThm 1 else s
    let s2 := if old < 2 ∧ 2 ≤ new then (s1.raiseThm 2).count R.THM_CNT0_overcast_entries 1
      else if 2 ≤ old ∧ new < 2 then s1.raiseThm 3 else s1
    ((s2.put R.THM_STAT_level new).alert 2,
      if new < old then [(new, hottest t (List.range 8))] else if new < 3 then [(new, hottest t (rose new))] else [])

/-! ### Steps (R630–R633) -/

/-- P_limit in W of a step. -/
def limitOf (step : Nat) : Nat := [360, 320, 280, 240, 200, 160, 120, 90].getD step 90

/-- A step is made (R631); OVERCAST is entered and left with it (R632). -/
def State.setLimit (s : State) (n : Nat) : State :=
  let s1 := { s with thm := { s.thm with lastStep := s.thm.rounds, floored := false } }
  let s2 := (((s1.puts [(R.THM_STAT_step, n), (R.THM_LIMIT_p_limit, limitOf n)]).raiseThm 4).count R.THM_CNT0_steps 1).pmu 0xF2 none 1
  match s2.pwr.state with
  | .ready => if s2.overcastNow then ({ s2 with pwr := { s2.pwr with state := .overcast } }).logEvent 0 3 (limitOf n) else s2
  | .overcast => if s2.overcastNow then s2 else { s2.leaveOvercast with pwr := { s2.leaveOvercast.pwr with state := .ready } }
  | _ => s2

/-- The step rule of a round: the level rose to overcast, at once at 360 W and below it with no step in that round, or a step instant. -/
def State.stepRound (s : State) (old new : Nat) (t : Nat → Int) : State :=
  let step := s.get R.THM_STAT_step
  let down := (List.range 8).any (fun d => decide (2 ≤ s.get (R.THM_DIE_S_level d)) &&
    (decide (16 * (s.get R.THM_THR_overcast : Int) ≤ t d) ||
      (match (s.thmDie d).change (t d) with | some c => rateOver c (s.get R.THM_RATE_limit) | none => false)))
  if old < 2 ∧ 2 ≤ new then (if step = 0 then s.setLimit 1 else s)
  else if s.thm.rounds < s.thm.lastStep + 50 then s
  else if down then
    if step < 7 then s.setLimit (step + 1)
    else if s.thm.floored then s
    else ({ s with thm := { s.thm with floored := true } }).raiseThm 5
  else if new < 2 ∧ 0 < step then s.setLimit (step - 1)
  else s

/-! ### Records (R639) -/

/-- A temperature in 0.1 °C. -/
def thmTenths (t : Int) : Int := roundHalfAway (10 * t) 16

/-- A THERMAL record and its fault-log entry (R656); at most 16 of codes 0 to 2 in any 60 s. -/
def State.thmRecord (t : Nat → Int) (s : State) (r : Nat × Nat) : State :=
  let made := fun (u : State) => (u.islNote 9 (r.2 + 16 * r.1)
    (toLE 2 (fromSigned 16 (thmTenths (t r.2))) ++ toLE 2 0 ++ u.frameBytes ++ toLE 2 u.tick ++ u.rtcBytes)).flogAdd 5 r.1 r.2 none
  let recent := s.thm.recTimes.filter (fun (x : Nat) => decide (s.now < x + 60000 * ticksPerMs))
  if r.1 ≤ 2 then
    if 16 ≤ recent.length then ({ s with thm := { s.thm with recTimes := recent } }).count R.THM_CNT1_rec_suppressed 1
    else made { s with thm := { s.thm with recTimes := s.now :: recent } }
  else made s

/-! ### Shutdown (R635–R638) -/

/-- The margin or the rate asks for an immediate stop. `fast` says which dies have had four rounds above four times the limit. -/
def State.stopNow (s : State) (t : Nat → Int) (fast : Nat → Bool) : Bool :=
  (List.range 8).any (fun d =>
    decide (16 * ((s.get R.THM_THR_shutdown : Int) + s.get R.THM_RATE_imm_margin) ≤ t d) ||
    (fast d && decide (16 * (s.get R.THM_THR_overcast : Int) ≤ t d)))

/-- A die has entered shutdown: FAULT_N low, and an immediate stop, a thermal dusk, or a request ignored. -/
def State.shutdown (s : State) (die : Nat) (t : Nat → Int) (fast : Nat → Bool) : State :=
  let s1 := ({ s with thm := { s.thm with shut := some die }, pwr := { s.pwr with faultLow := true } }).raiseThm 6
  let s2 := s1.alert 2
  if s2.pwr.state = .dawn ∨ s2.stopNow t fast = true then (s2.thmRecord t (4, die)).immediateStop 4 0
  else
    let taken := s2.running && (!s2.pwr.warm || s2.pwr.heldDusk.isNone)
    if taken then (s2.thmRecord t (3, die)).duskAsk DuskSource.thermal false
    else ((s2.raiseThm 13).thmRecord t (8, hottest t (List.range 8))).duskAsk DuskSource.thermal false

/-- What the round decides about shutdown. -/
def State.shutRound (s : State) (new : Nat) (t : Nat → Int) (fast : Nat → Bool) (rose : List Nat) : State :=
  match s.thm.shut with
  | none => if new = 3 then s.shutdown (hottest t rose) t fast else s
  | some die =>
    if s.pwr.state = .dusk ∧ s.stopNow t fast = true then (s.thmRecord t (4, die)).immediateStop 4 0 else s

/-! ### The round -/

/-- T_d, T_raw and the flags as the registers show them (R641). -/
def State.thmShow (s : State) (raw : Nat → Option Int) (t : Nat → Int) : State :=
  let s1 := (List.range 8).foldl (fun (u : State) d => u.puts [
    (R.THM_DIE_T_raw d, match raw d with | some v => fromSigned 16 v | none => 0x8000),
    (R.THM_DIE_T_eff d, fromSigned 16 (clampInt (-32768) 32767 (t d))),
    (R.THM_DIE_S_suspect d, b2n (u.suspect d)), (R.THM_DIE_S_invalid d, b2n (raw d).isNone)]) s
  let hot := hottest t (List.range 8)
  s1.puts [(R.THM_STAT_hot_die, hot), (R.THM_HOT_die, hot), (R.THM_HOT_temp, fromSigned 16 (clampInt (-32768) 32767 (t hot)))]

/-- Each owned tile takes y_T at the temperature of its own die (R322, R621). -/
def State.tempcoTile (t : Nat → Int) (s : State) (x : Nat × TileSt) : State :=
  match s.tileRec x.1 with
  | some r => s.put (R.TILE_GAIN_y_temp x.1) (fromSigned 16 (curveAt (curveWith r.2.1.curveTempco 0) (t (1 + dieOf x.1))))
  | none => s

/-- Rounds counted (R650). -/
def State.thmPmu (s : State) : State :=
  let s1 := s.pmu 4 none 1
  let s2 := if 1 ≤ s1.get R.THM_STAT_level then s1.pmu 0xF0 none 1 else s1
  let s3 := if 2 ≤ s2.get R.THM_STAT_level then s2.pmu 0xF1 none 1 else s2
  if s3.get R.THM_STAT_bias_fault ≠ 0 then s3.pmu 0xF4 none 1 else s3

/-- Steps 1 and 4 of R619, after bias and rails: `recs` are the records due so far. -/
def State.thmEvaluate (s : State) (raw : Nat → Option Int) (recs : List (Nat × Nat)) : State :=
  let P := s.thmPower
  let s0 := s.put R.THM_PWR_REF_p (min 511 (P.1 / P.2))
  let su := s0.suspectRound raw (s0.pairDisagrees raw)
  let s1 := su.1
  let temps := (List.range 8).map (s1.effective raw)
  let t := fun (d : Nat) => temps.getD d 0
  let s2 := (List.range 8).foldl (fun (u : State) d => u.dieCounts d (t d) (u.effectiveKept raw d)) s1
  let fasts := (List.range 8).map (fun d => decide (4 ≤ (s2.thmDie d).rateFast))
  let olds := (List.range 8).map (fun d => s2.get (R.THM_DIE_S_level d))
  let s3 := (List.range 8).foldl State.dieLevel s2
  let rose := fun (l : Nat) => (List.range 8).filter (fun d =>
    decide (s3.get (R.THM_DIE_S_level d) = l) && decide (olds.getD d 0 < l))
  let old := s3.get R.THM_STAT_level
  let new := ((List.range 8).map (fun d => s3.get (R.THM_DIE_S_level d))).foldl max 0
  let lv := s3.pkgLevel old new t rose
  let s4 := (lv.1.thmShow raw t).stepRound old new t
  let s5 := (s4.tiles.foldl (State.tempcoTile t) s4).thmPmu
  let s6 := (recs ++ su.2 ++ lv.2).foldl (State.thmRecord t) s5
  s6.shutRound new t (fun d => fasts.getD d false) (rose 3)

/-- The scanner runs: from the end of dawn step 3 until OFF (R619, R643). -/
def State.scanning (s : State) : Bool := s.controlUp && (s.pwr.state != .dawn || decide (3 < s.pwr.dawnStep))

/-- HOUSEKEEPING_ROUND (R619): diodes, bias generators, rail-good signals, then the rules. A rail whose signal has gone is a
power fault (R620, R139), whose voltage the round does not give. -/
def execHousekeepingRound (diodes : Vector (Option Int) 8) (biasOk : BitVec 4) (railGood : BitVec 6) (s : State) :
    Host.Outcome State Fault Refusal :=
  .next (if !s.scanning then s
    else
      let raws := (List.range 8).map (s.thmRaw diodes)
      let s0 := { s with thm := { s.thm with rounds := s.thm.rounds + 1 } }
      let b := s0.biasRound biasOk
      let lost := (List.range 6).find? (fun n => b.1.pwr.railGood.getLsbD n && b.1.pwr.enables.getLsbD n && !railGood.getLsbD n)
      match lost with
      | some n =>
        let v := b.1.free
        v.2.railLost n (v.1 % 2 ^ 16)
      | none => b.1.thmEvaluate (fun d => raws.getD d none) b.2)

/-! ### Configuration (R628, R629, R644) -/

/-- R629's rules for THM_THR and THM_RATE. -/
def thmAccepts (rate : Bool) (v : Nat) : Bool :=
  if rate then decide (5 ≤ bits v 0 8 ∧ bits v 0 8 ≤ 50 ∧ 2 ≤ bits v 8 8 ∧ bits v 8 8 ≤ 10)
  else decide (60 ≤ bits v 0 8 ∧ bits v 0 8 < bits v 8 8 ∧ bits v 8 8 < bits v 16 8 ∧ bits v 16 8 ≤ 115 ∧
    1 ≤ bits v 24 4 ∧ bits v 24 4 ≤ 10)

/-- A write of THM_THR or THM_RATE. -/
def State.thmThrWrite (s : State) (rate : Bool) (v : Nat) : State :=
  if s.get R.THM_CTRL_lock = 1 then s
  else if !thmAccepts rate v then s.raiseThm 12
  else
    let s1 := s.accWrite (if rate then 0x280064 else 0x280060) v false
    { s1 with thm := { s1.thm with dies := s1.thm.dies.map (fun (x : DieSt) =>
        { x with upWarn := 0, upOver := 0, upShut := 0, downRun := 0, rateUp := 0, rateDown := 0, rateFast := 0 }) } }

/-- A write of THM_PAIRk. -/
def State.thmPairWrite (s : State) (k v : Nat) : State :=
  if s.get R.THM_CTRL_lock = 1 then s
  else
    let s1 := s.accWrite (0x280080 + 4 * k) v false
    { s1 with thm := { s1.thm with dies := s1.thm.dies.map (fun (x : DieSt) => { x with suspectRun := 0, clearRun := 0 }) } }

def State.thmClear (s : State) : State :=
  s.puts [(R.THM_CNT0_overcast_entries, 0), (R.THM_CNT0_steps, 0), (R.THM_CNT1_static_over_frames, 0), (R.THM_CNT1_rec_suppressed, 0)]

/-- THM_THR_WRITE. -/
def execThmThrWrite (rate : Bool) (value : Word) (s : State) : Host.Outcome State Fault Refusal :=
  .next (if s.controlUp then s.thmThrWrite rate value.toNat else s)

/-- THM_PAIR_WRITE. -/
def execThmPairWrite (pair : Fin 9) (value : Word) (s : State) : Host.Outcome State Fault Refusal :=
  .next (if s.controlUp then s.thmPairWrite pair.val value.toNat else s)

/-- THM_LOCK. -/
def execThmLock (s : State) : Host.Outcome State Fault Refusal := .next (if s.controlUp then s.put R.THM_CTRL_lock 1 else s)

/-- THM_CLR_COUNTS. -/
def execThmClrCounts (s : State) : Host.Outcome State Fault Refusal := .next (if s.controlUp then s.thmClear else s)

end Sys2Proof.Machine
end

