-- ==== Sys2Proof/Machine/View.lean ====
section
/-!
DEFINITION. Sys2Proof/Machine/View.lean: what BAR0 reads as (R14, R17, R18, R22, R156, R494, R495): the stored register fields, and
those that show live state; the captured high words of each accessor.
-/

namespace Sys2Proof.Machine

/-! ### Live fields -/

def bitsOf (n : Nat) (p : Nat → Bool) : Nat := ((List.range n).map (fun i => if p i then 2 ^ i else 0)).sum

def State.liveGen (s : State) (off : Nat) : List (Fld × Nat) :=
  match off with
  | 0x4C => [(R.GEN_DIE_array_link, s.pwr.arrayLink.toNat), (R.GEN_DIE_dram_link, s.pwr.dramLink.toNat),
             (R.GEN_DIE_island_link, b2n s.isl.linkUp)]
  | 0x54 => [(R.GEN_STATE_state, s.pwr.state.num), (R.GEN_STATE_dawn_step, s.pwr.dawnStep)]
  | 0x100 => [(R.GEN_FLOG_STAT_count, s.flog.length)]
  | _ =>
    if 0x108 ≤ off ∧ off ≤ 0x114 then
      let w := (off - 0x108) / 4
      [(R.GEN_FLOG_E w, s.flog.getD (s.get R.GEN_FLOG_SEL_index) 0 / 2 ^ (32 * w))]
    else []

def State.livePwr (s : State) (off : Nat) : List (Fld × Nat) :=
  let d := s.pwr.dawnRec
  let t := s.pwr.stopRec
  match off with
  | 0x10000 => [(R.PWR_STAT_rail_good, s.pwr.railGood.toNat), (R.PWR_STAT_vhold_ok, b2n (decide (3200 ≤ s.isl.vhold))),
                (R.PWR_STAT_vbat_low, b2n s.isl.battLow)]
  | 0x1000C => if d.valid then [(R.PWR_DAWN_CAUSE_code, d.code), (R.PWR_DAWN_CAUSE_index, d.index),
                (R.PWR_DAWN_CAUSE_attempt, d.attempt), (R.PWR_DAWN_CAUSE_valid, 1)] else []
  | 0x10010 => if d.valid then [(R.PWR_DAWN_TIME_ms, d.ms)] else []
  | 0x10014 => if t.valid then [(R.PWR_LAST_STOP_kind, t.kind), (R.PWR_LAST_STOP_in_dusk, b2n t.inDusk),
                (R.PWR_LAST_STOP_rail, t.rail), (R.PWR_LAST_STOP_valid, 1)] else []
  | 0x10018 => if t.valid then [(R.PWR_STOP_FRAME_LO, t.frame)] else []
  | 0x1001C => if t.valid then [(R.PWR_STOP_FRAME_HI, t.frame / 2 ^ 32)] else []
  | _ => []

def State.liveClk (s : State) (off : Nat) : List (Fld × Nat) :=
  match off with
  | 0x20000 => [(R.CLK_STAT_pll_locked, s.clk.locked.toNat), (R.CLK_STAT_ref_present, b2n s.clk.refPresent),
                (R.CLK_STAT_coasting, b2n s.clk.coasting), (R.CLK_STAT_array_forced, b2n s.clk.arrayForced)]
  | 0x20008 => [(R.CLK_GATE_STAT_gated, s.clk.gated.toNat), (R.CLK_GATE_STAT_pending, s.clk.gatePending.toNat)]
  | _ => []

def LockState.num : LockState → Nat
  | .dark => 0 | .acquiring => 1 | .locked => 2 | .coasting => 3 | .lost => 4

def State.liveHzn (s : State) (off : Nat) : List (Fld × Nat) :=
  match off with
  | 0x30004 => [(R.HZN_STAT_lock_state, s.hzn.lock.num), (R.HZN_STAT_synth, b2n s.isBench), (R.HZN_STAT_pll_locked, b2n s.hznPll)]
  | 0x30008 => [(R.HZN_NOW_LO_frame_lo, s.frame)]
  | 0x3000C => [(R.HZN_NOW_HI_frame_hi, s.frame / 2 ^ 32), (R.HZN_NOW_HI_tick, s.tick)]
  | _ => []

/-- A plate is in use by a resident image. -/
def State.plateInUse (s : State) (p : Nat) : Bool := s.img.resident.any (fun x => x.2.image.plates.any (fun q => q.num == p))

/-- A tile is in use or being erased. -/
def State.tileInUse (s : State) (t : Nat) : Bool :=
  let x := s.tile t
  x.owner.isSome || x.erasing || x.faulty || x.worn

/-- The fields of the selected resident slot. -/
def State.liveRes (s : State) (off : Nat) : List (Fld × Nat) :=
  match s.resImage (s.get R.IMG_SEL_slot) with
  | none => []
  | some i =>
    match off with
    | 0x40064 => [(R.IMG_RES_CTX_context, i.ctx), (R.IMG_RES_CTX_valid, 1)]
    | 0x40068 => [(R.IMG_RES_ID_LO, i.image.id)]
    | 0x4006C => [(R.IMG_RES_ID_HI, i.image.id / 2 ^ 32)]
    | 0x40070 => [(R.IMG_RES_LEVEL_level, i.image.levels.own), (R.IMG_RES_LEVEL_held, b2n i.pair.isSome)]
    | 0x40074 => [(R.IMG_RES_MICRO_base, i.image.microBase), (R.IMG_RES_MICRO_count, i.image.micro.length)]
    | 0x40078 => [(R.IMG_RES_NANO_base, i.image.nanoBase), (R.IMG_RES_NANO_count, i.image.nano.length)]
    | _ => []

def State.liveImg (s : State) (off : Nat) : List (Fld × Nat) :=
  match off with
  | 0x40004 => match s.img.load with
    | some l => [(R.IMG_STAT_busy, 1), (R.IMG_STAT_phase, l.phase)]
    | none => []
  | 0x4002C => [(R.IMG_COUNT_resident, s.img.resident.length)]
  | 0x40030 => [(R.IMG_PLATE_OCC_LO, bitsOf 32 s.plateInUse)]
  | 0x40034 => [(R.IMG_PLATE_OCC_HI, bitsOf 32 (fun p => s.plateInUse (p + 32)))]
  | _ =>
    if 0x40040 ≤ off ∧ off < 0x40060 then
      let k := (off - 0x40040) / 4
      [(R.IMG_TILE_OCC k, bitsOf 32 (fun b => s.tileInUse (32 * k + b)))]
    else s.liveRes off

def State.liveTile (s : State) (off : Nat) : List (Fld × Nat) :=
  match off with
  | 0x100120 => [(R.TILE_PLATE_FIX0, s.fix.fixing.toNat)]
  | 0x100124 => [(R.TILE_PLATE_FIX1, s.fix.fixing.toNat / 2 ^ 32)]
  | _ =>
    if 0x100100 ≤ off ∧ off < 0x100110 then
      let k := (off - 0x100100) / 4
      [(R.TILE_FIXQ_depth k, (s.fix.queue.toList.getD k []).length), (R.TILE_FIXQ_running k, (s.fix.running.toList.getD k []).length),
       (R.TILE_FIXQ_limit k, s.pumpLimit)]
    else []

/-- SEQ_STAT of sequencer `n`. -/
def State.liveSeq1 (s : State) (n : Nat) : List (Fld × Nat) :=
  let x := s.seq n
  let r := match x.routine with
    | some r => [(R.SEQ_STAT_dyn n, b2n r.dyn), (R.SEQ_STAT_entry n, if r.dyn then 0 else r.index)]
    | none => []
  [(R.SEQ_STAT_state n, x.mode.num), (R.SEQ_STAT_depth n, x.stack.length), (R.SEQ_STAT_micro_pc n, x.pc)] ++ r

/-- The read-only word SEQ_ROM_ADDR names, and its parity (R373). -/
def State.romShown (s : State) : Nat × Nat :=
  let a := s.get R.SEQ_ROM_ADDR_addr
  let lane := s.get R.SEQ_ROM_ADDR_lane
  if s.get R.SEQ_ROM_ADDR_nano = 0 then
    if a < 768 then (romMicro a % 2 ^ 32, romMicro a / 2 ^ 32) else (0, 0)
  else if 0 < a ∧ a < 96 then
    (if lane < 6 then romNano a % 2 ^ 192 / 2 ^ (32 * lane) else 0, romNano a / 2 ^ 192)
  else (0, 0)

def State.liveSeq (s : State) (off : Nat) : List (Fld × Nat) :=
  let armed := fun (i : Nat) => match s.resImage i with | some r => r.armed | none => false
  match off with
  | 0xC0018 => [(R.SEQ_ARMED_LO, bitsOf 32 armed)]
  | 0xC001C => [(R.SEQ_ARMED_HI, bitsOf 32 (fun i => armed (i + 32)))]
  | 0xC0020 => match s.patch with
    | some p => [(R.SEQ_PATCH_level, p.levels.own), (R.SEQ_PATCH_overlays, p.overlays.length), (R.SEQ_PATCH_loaded, 1)]
    | none => []
  | 0xC0028 => [(R.SEQ_ROM_DATA_word, s.romShown.1)]
  | 0xC002C => [(R.SEQ_ROM_PAR_parity, s.romShown.2)]
  | 0xC0030 => [(R.SEQ_MC_SUM, bitsOf 16 (fun q => s.get (R.SEQ_MC0_valid q) == 1))]
  | _ => if off < 0xC0000 ∧ off % 0x4000 = 0 then s.liveSeq1 ((off - 0x80000) / 0x4000) else []

def State.liveCmd (s : State) (off : Nat) : List (Fld × Nat) :=
  match off with
  | 0x190000 => [(R.CMD_EVT_SUM_LO, bitsOf 32 (fun c => s.get (R.CMD_RING_EVT c) != 0))]
  | 0x190004 => [(R.CMD_EVT_SUM_HI, bitsOf 32 (fun c => s.get (R.CMD_RING_EVT (c + 32)) != 0))]
  | 0x19000C => [(R.CMD_PENDING_count, s.descs.length)]
  | _ =>
    if off < 0x190000 ∧ off % 0x400 = 0x30 then
      let c := (off - 0x180000) / 0x400
      [(R.CMD_RING_WAIT_held c, (s.ring c).waiting.length)]
    else []

def State.liveCtx (s : State) (off : Nat) : List (Fld × Nat) :=
  match off with
  | 0x1B000C => [(R.CTX_ACTIVE_LO, bitsOf 32 (fun c => s.ctxState c == 1))]
  | 0x1B0010 => [(R.CTX_ACTIVE_HI, bitsOf 32 (fun c => s.ctxState (c + 32) == 1))]
  | 0x1B0014 => [(R.CTX_BUDGET_power_w, s.get R.THM_LIMIT_p_limit)]
  | _ => []

/-- FAB_ROUTE_A for FAB_ROUTE_Q (R464, R466). -/
def State.routeShown (s : State) : List (Fld × Nat) :=
  let d := s.get R.FAB_ROUTE_Q_dst
  if d = s.ownPkg ∨ s.destInMachine d = false then [(R.FAB_ROUTE_A_sched_port, 0xF), (R.FAB_ROUTE_A_dyn_port, 0xF)]
  else [(R.FAB_ROUTE_A_sched_port, (primaryPort s.ownPkg d).getD 0xF),
        (R.FAB_ROUTE_A_dyn_port, match dynamicPort s.ownPkg d s.activePorts false with | some p => p.1 | none => 0xF),
        (R.FAB_ROUTE_A_hops, routeHops 16 s.ownPkg d)]

/-- FAB_PORTn_STAT: a DARK port shows why it may not leave DARK now, or why it went there; one in DETECT shows no signal (R449). -/
def State.livePort (s : State) (n : Nat) : List (Fld × Nat) :=
  let p := s.port n
  let cause := if p.state = PortState.dark then (s.portWhy n false).getD p.cause else if p.state = PortState.detect then 3 else 0
  [(R.FAB_PORT_STAT_state n, p.state.num), (R.FAB_PORT_STAT_gen n, b2n p.gen2), (R.FAB_PORT_STAT_cause n, cause)]

def State.liveFab (s : State) (off : Nat) : List (Fld × Nat) :=
  match off with
  | 0x200008 => [(R.FAB_STAT_active, s.activePorts.toNat)]
  | 0x200018 => s.routeShown
  | 0x200024 => [(R.FAB_XFER_outstanding, s.fab.transfers.length)]
  | 0x200028 => [(R.FAB_LEVEL_own, fabricLevel)]
  | 0x20002C => [(R.FAB_LEVEL_RANGE_min, 2), (R.FAB_LEVEL_RANGE_max, 3)]
  | _ => if 0x201000 ≤ off ∧ off % 0x100 = 4 then s.livePort ((off - 0x201000) / 0x100) else []

def State.liveHost (s : State) (off : Nat) : List (Fld × Nat) :=
  if off = 0x270000 ∨ off = 0x270004 then
    let h := (off - 0x270000) / 4
    let x := s.half (halfOf h)
    if x.up then [(R.HOST_LINK_up h, 1), (R.HOST_LINK_rate h, x.rate), (R.HOST_LINK_width h, x.width),
      (R.HOST_LINK_protocol h, x.protocol), (R.HOST_LINK_flit256 h, b2n (x.rate == 3)), (R.HOST_LINK_ide h, b2n (x.ideActive != 0))]
    else []
  else if off = 0x270034 then [(R.HOST_SB_ALERT_EN, orBits (s.get R.HOST_SB_ALERT_EN) 1)]
  else if off = 0x270038 then
    [(R.HOST_SB_STAT_addr, 0x58 + s.get R.GEN_STRAP_pos_slot), (R.HOST_SB_STAT_mode, s.get R.GEN_STRAP_sb_mode)]
  else []

def State.liveIsl (s : State) (off : Nat) : List (Fld × Nat) :=
  if off = 0x302000 then
    [(R.ISL_STAT_link_up, b2n s.isl.linkUp), (R.ISL_STAT_rom_mode, b2n s.isl.fw.isNone), (R.ISL_STAT_source, s.isl.mode.num),
     (R.ISL_STAT_bat_low, b2n s.isl.battLow), (R.ISL_STAT_fw_level, levelOf s.isl.fw)]
  else []

/-- The number of R156 of the block at a BAR0 offset (R494). -/
def barBlock (off : Nat) : Nat :=
  if off < 0x10000 then 0 else if off < 0x20000 then 1 else if off < 0x30000 then 2 else if off < 0x40000 then 3
  else if off < 0x80000 then 4 else if off < 0x100000 then 5 else if off < 0x180000 then 6 else if off < 0x1A0000 then 7
  else if off < 0x1C0000 then 8 else if off < 0x200000 then 9 else if off < 0x240000 then 10 else if off < 0x280000 then 11
  else if off < 0x2A0000 then 12 else if off < 0x300000 then 13 else 14

/-- The live fields of a register. -/
def State.liveAt (s : State) (off : Nat) : List (Fld × Nat) :=
  match barBlock off with
  | 0 => s.liveGen off
  | 1 => s.livePwr off
  | 2 => s.liveClk off
  | 3 => s.liveHzn off
  | 4 => s.liveImg off
  | 5 => s.liveSeq off
  | 6 => s.liveTile off
  | 7 => s.liveCmd off
  | 8 => s.liveCtx off
  | 10 => s.liveFab off
  | 11 => s.liveHost off
  | 14 => s.liveIsl off
  | _ => []

/-- What the register at an offset reads as; where there is none, 0 (R22). -/
def State.barWord (s : State) (off : Nat) : Nat := (s.puts (s.liveAt off)).regWord off

/-! ### Pairs and captures (R17) -/

/-- The host's captures: one for both halves. -/
def hostAccessor : Nat := 0

/-- Low words of the pairs. -/
def pairLow (off : Nat) : Bool :=
  [0x10018, 0x30008, 0x40008, 0x40018, 0x40030, 0x40068, 0xC0004, 0xC000C, 0xC0018, 0x100120, 0x100130, 0x190000, 0x1B000C, 0x27001C, 0x110].contains off ||
  (decide (0x80000 ≤ off ∧ off < 0xC0000) && off % 0x4000 == 0x18) ||
  (decide (0x180000 ≤ off ∧ off < 0x190000) && (off % 0x400 == 0 || off % 0x400 == 8)) ||
  (decide (0x1A0000 ≤ off ∧ off < 0x1B0000) && off % 0x400 == 8) ||
  (decide (0x1C4010 ≤ off ∧ off < 0x1C4110) && off % 0x10 == 4) ||
  (decide (0x2A0040 ≤ off ∧ off < 0x2A0080) && off % 0x10 == 8) ||
  (decide (0x2A0200 ≤ off ∧ off < 0x2A0300) && off % 8 == 0) ||
  (decide (0x2A0400 ≤ off ∧ off < 0x2A0500) && off % 8 == 0)

/-- A register read by an accessor: the word, and the state with what the read captured. -/
def State.regRead (s : State) (accessor off : Nat) : Nat × State :=
  if pairLow off then (s.barWord off, s.capture accessor (off + 4) (s.barWord (off + 4)))
  else if 4 ≤ off ∧ pairLow (off - 4) then ((match s.captured accessor off with | some v => v | none => s.barWord off), s)
  else (s.barWord off, s)

/-! ### The HOST block below its registers (R495) -/

/-- A word of a half's MSI-X table. -/
def HalfSt.msixWord (x : HalfSt) (w : Nat) : Nat :=
  if w % 4 = 3 then b2n (x.vecMask.getLsbD (w / 4)) + SMap.get 0 x.msixTable w / 2 * 2 else SMap.get 0 x.msixTable w

/-- The CXL component and device registers are CXL's own: a read of them gives a free value. The MSI-X table and PBA are the
half's; an accessor of no half reads a free value of them too. The PBA's 64 bits are a pair of R17. -/
def State.hostArea (s : State) (half : Option (Fin 2)) (off : Nat) : Nat × State :=
  match half with
  | some h =>
    if 0x260000 ≤ off ∧ off < 0x260400 then ((s.half h).msixWord ((off - 0x260000) / 4), s)
    else if off = 0x261000 then
      ((s.half h).pba.toNat % 2 ^ 32, s.capture hostAccessor (off + 4) ((s.half h).pba.toNat / 2 ^ 32))
    else if off = 0x261004 then
      ((match s.captured hostAccessor off with | some v => v | none => (s.half h).pba.toNat / 2 ^ 32), s)
    else if off < 0x260000 then (s.free.1 % 2 ^ 32, s.free.2)
    else (0, s)
  | none =>
    if off < 0x260400 ∨ off = 0x261000 ∨ off = 0x261004 then (s.free.1 % 2 ^ 32, s.free.2) else (0, s)

/-! ### An access -/

/-- An accessor's read of an aligned word: of a gated or unpowered block 0 (R156). -/
def State.barRead (s : State) (accessor : Nat) (half : Option (Fin 2)) (off : Nat) : Nat × State :=
  if !s.blockUp (barBlock off) then (0, s)
  else if off = 0x100008 then s.tileDataRead
  else if 0x240000 ≤ off ∧ off < 0x270000 then s.hostArea half off
  else s.regRead accessor off

/-- A half's read; while a CXL reset runs, blocks other than HOST read 0 (R501). -/
def State.hostBarRead (s : State) (h : Fin 2) (off : Nat) : Nat × State :=
  if s.inCxlReset && barBlock off != 11 then (0, s) else s.barRead hostAccessor (some h) off

/-- LO_WORD_READ (R17): a half reads the word at an offset. -/
def execLoWordRead (half : Fin 2) (off : BitVec 22) (s : State) : Host.Outcome State Fault Refusal :=
  .next (if s.barServes half then
      let r := (s.pmu 0xE5 none 1).hostBarRead half (4 * (off.toNat / 4))
      r.2.emit (.word half.val r.1)
    else s)

end Sys2Proof.Machine
end

