-- ==== Sys2Proof/Machine/RegWrite.lean ====
section
/-!
DEFINITION. Sys2Proof/Machine/RegWrite.lean: what a BAR0 write does (R15, R18, R22, R23, R156, R494): the access codes where a field
has no behaviour of its own, and the behaviour of the rest, one rule for the halves, the sideband and the debug port.
-/

namespace Sys2Proof.Machine

/-! ### Enables (R498) -/

/-- A write of an enable register: it takes its bits, and where one is written 1 while its event bit is set, the vector `vec`
is sent once. -/
def State.enableWrite (s : State) (off w events vec : Nat) : State :=
  let s1 := s.accWrite off w false
  if Nat.land w events = 0 then s1 else s1.send vec

/-- HOST_IRQ_EN: bits 0–9 and bits 10–11 are two sources (R497). -/
def State.hostEnable (s : State) (w : Nat) : State :=
  let e := Nat.land w (s.get R.HOST_EVT)
  let s1 := s.accWrite 0x27000C w false
  let s2 := if e % 2 ^ 10 = 0 then s1 else s1.send (s1.get R.HOST_IRQ_MAP2_host)
  if e / 2 ^ 10 % 4 = 0 then s2 else s2.send (s2.get R.HOST_IRQ_MAP0_power)

/-- The enable registers of R497: the offset's event bits and vector; none for any other register. -/
def State.enableAt (s : State) (off w : Nat) : Option (Nat × Nat) :=
  match off with
  | 0x30020 => some (s.get R.HZN_EVT, s.get R.HOST_IRQ_MAP0_hzn)
  | 0x20014 => some (s.get R.CLK_EVT, s.get R.HOST_IRQ_MAP0_clk)
  | 0x40028 => some (s.get R.IMG_EVT, s.get R.HOST_IRQ_MAP0_img)
  | 0x100114 => some (s.get R.TILE_FIX_EVT, s.get R.HOST_IRQ_MAP1_fix)
  | 0x190008 => some (b2n ((List.range 64).any (fun c => s.get (R.CMD_RING_EVT c) != 0)), bits w 1 6)
  | 0x1B0020 => some (s.get R.CTX_EVT, bits w 8 6)
  | 0x200010 => some (s.get R.FAB_EVT, s.get R.HOST_IRQ_MAP1_fab)
  | 0x280070 => some (s.get R.THM_EVT, s.get R.HOST_IRQ_MAP1_thm)
  | 0x2A0020 => some (s.get R.PMU_EVT, s.get R.HOST_IRQ_MAP2_pmu)
  | 0x302008 => some (s.get R.ISL_EVT, s.get R.HOST_IRQ_MAP2_isl)
  | _ =>
    if 0x80000 ≤ off ∧ off < 0xC0000 ∧ off % 0x4000 = 0x2C then
      some (s.get (R.SEQ_EVT ((off - 0x80000) / 0x4000)), s.get R.HOST_IRQ_MAP1_seq)
    else none

/-- The register at an offset holds interrupt enables. -/
def State.isEnable (s : State) (off : Nat) : Bool := off == 0x27000C || (s.enableAt off 0).isSome

/-- A write of a register with no behaviour of its own, or of an enable register. -/
def State.plainWrite (s : State) (off w : Nat) : State :=
  if off = 0x27000C then s.hostEnable w
  else match s.enableAt off w with
    | some e => s.enableWrite off w e.1 e.2
    | none => s.accWrite off w false

/-! ### Block by block -/

def State.pwrWrite (s : State) (off w : Nat) : State :=
  match off with
  | 0x10004 =>
    if bits w 16 16 ≠ 0xD05C then s.count R.PWR_STAT_bad_keys 1
    else if bitAt w 0 then s.duskRequest 0xD05C (bitAt w 1) else s
  | 0x10020 =>
    let s1 := if bitAt w 0 then s.ackDawn else s
    if bitAt w 1 then s1.ackStop else s1
  | 0x10024 =>
    if bits w 16 16 ≠ 0x5E7A then s.count R.PWR_STAT_bad_keys 1
    else if bitAt w 0 then s.warmRequest 0x5E7A else s
  | _ => s.plainWrite off w

def State.clkWrite (s : State) (off w : Nat) : State :=
  match off with
  | 0x20004 => (List.range 15).foldl (fun (u : State) n => if bitAt w n then u.ungate n else u.gateRequest n) s
  | 0x2000C => s.obsWrite w
  | 0x2001C => if bitAt w 0 then s.clkClear else s
  | _ => s.plainWrite off w

def State.hznWrite (s : State) (off w : Nat) : State :=
  match off with
  | 0x30000 =>
    let s1 := if bitAt w 0 then s.rxEnable else if s.get R.HZN_CTRL_rx_en = 1 then s.rxDisable else s
    if bitAt w 1 then s1.hznClear else s1
  | 0x30028 =>
    if !s.isBench then s
    else
      let s1 := s.put R.HZN_BENCH_gap_frames (bits w 0 7)
      if bitAt w 8 then s1.gapStart (bits w 0 7) else s1
  | _ => s.plainWrite off w

def State.seqWrite (s : State) (off w : Nat) : State :=
  let q := (off - 0x80000) / 0x4000
  if off = 0xC0000 then s.armWrite (bits w 0 6) (bitAt w 8) (bitAt w 9)
  else if 0xC0000 ≤ off then s.plainWrite off w
  else if off % 0x4000 = 4 then s.seqCtrl q (bitAt w 0) (bitAt w 1) (bitAt w 2)
  else if off % 0x4000 = 0x10 then if bitAt w 0 then s.mcClear q else s
  else s.plainWrite off w

def State.tileWrite (s : State) (off w : Nat) : State :=
  match off with
  | 0x100008 => s.tileDataWrite w
  | 0x100010 => s.tileTest w
  | 0x100128 => s.refixRequest w
  | _ => s.plainWrite off w

def State.cmdWrite (s : State) (off w : Nat) : State :=
  let c := (off - 0x180000) / 0x400
  let r := off % 0x400
  if 0x190000 ≤ off then s.plainWrite off w
  else if r ≤ 0x10 then if s.ringOn c then s.raiseRing c 1 else s.plainWrite off w
  else if r = 0x14 then if bitAt w 0 then s.ringEnable c else s.ringDisable c
  else if r = 0x18 then s.doorbell c (bits w 0 12)
  else if r = 0x20 then s.cqDoorbell c (bits w 0 12)
  else s.plainWrite off w

/-- Registers of a slot that are written only while it is FREE (R409). -/
def ctxBound (r : Nat) : Bool := r == 0 || r == 4 || r == 0x14 || r == 0x18 || decide (0x20 ≤ r ∧ r < 0x40)

def State.ctxWrite (s : State) (off w : Nat) : State :=
  let c := (off - 0x1A0000) / 0x400
  if off = 0x1B0000 then s.ctxOpWrite (bits w 0 3) (bits w 8 6)
  else if off = 0x1B0014 then if bits w 16 10 = 0 ∨ 600 < bits w 16 10 then s else s.plainWrite off w
  else if off < 0x1B0000 ∧ ctxBound (off % 0x400) = true ∧ s.ctxState c ≠ 0 then s
  else s.plainWrite off w

def State.syncWrite (s : State) (off w : Nat) : State :=
  let k := (off - 0x1C4010) / 0x10
  if off < 0x1C4000 then
    if s.syncOwned ((off - 0x1C0000) / 4) then s.put (R.SYNC_VAL_value ((off - 0x1C0000) / 4)) (bits w 0 16) else s
  else if off = 0x1C4000 then if s.syncOwned (bits w 0 12) then s.signal (bits w 0 12) (bits w 16 16) else s
  else if off = 0x1C4118 then if bitAt w 0 then s.syncClrCounts else s
  else if 0x1C4010 ≤ off ∧ off < 0x1C4110 ∧ off % 0x10 = 0 then
    if bitAt w 12 then s.timerArm k (bits w 0 12) (bits w 16 16) else s.plainWrite off w
  else s.plainWrite off w

/-- A write of FAB_PORTn_CTRL (R445, R448, R449, R475). -/
def State.portCtrl (s : State) (n w : Nat) : State :=
  let s1 := s.put (R.FAB_PORT_CTRL_gen_max n) (bits w 1 1)
  let on := s1.get (R.FAB_PORT_CTRL_en n) == 1
  let s2 := if bitAt w 0 == on then s1 else if on then s1.portDisable n else s1.portEnable n
  if bitAt w 2 then s2.portRetrain n else s2

def State.fabWrite (s : State) (off w : Nat) : State :=
  match off with
  | 0x200000 => if bitAt w 0 then s.fabClrCounts else s
  | 0x200004 => if bits w 0 5 = 0 ∨ 16 < bits w 0 5 then s else (s.plainWrite off w).fabCheck
  | _ => if 0x201000 ≤ off ∧ off < 0x201C00 ∧ off % 0x100 = 0 then s.portCtrl ((off - 0x201000) / 0x100) w else s.plainWrite off w

/-- A write of a word of a half's MSI-X table: a vector whose mask clears is sent if it pends (R496). -/
def State.msixWrite (s : State) (h : Fin 2) (w v : Nat) : State :=
  let x := s.half h
  let bit := BitVec.twoPow 64 (w / 4)
  let y := { x with msixTable := SMap.set 0 x.msixTable w (v % 2 ^ 32),
                    vecMask := if w % 4 ≠ 3 then x.vecMask else if bitAt v 0 then x.vecMask ||| bit else x.vecMask &&& ~~~bit }
  (s.setHalf h y).flushPba h

def State.hostWrite (s : State) (half : Option (Fin 2)) (off w : Nat) : State :=
  if 0x240000 ≤ off ∧ off < 0x270000 then
    match half with
    | some h => if 0x260000 ≤ off ∧ off < 0x260400 then s.msixWrite h ((off - 0x260000) / 4) w else s
    | none => s
  else match off with
    | 0x27001C => ((s.plainWrite off w).flushPba 0).flushPba 1
    | 0x270020 => ((s.plainWrite off w).flushPba 0).flushPba 1
    | 0x27002C => if bitAt w 0 then s.hostClear else s
    | 0x270040 => if bitAt w 0 then s.alert 4 else s
    | _ => s.plainWrite off w

def State.thmWrite (s : State) (off w : Nat) : State :=
  match off with
  | 0x280060 => s.thmThrWrite false w
  | 0x280064 => s.thmThrWrite true w
  | 0x280068 =>
    let s1 := if bitAt w 0 then s.put R.THM_CTRL_lock 1 else s
    if bitAt w 1 then s1.thmClear else s1
  | _ => if 0x280080 ≤ off ∧ off < 0x2800A4 then s.thmPairWrite ((off - 0x280080) / 4) w else s.plainWrite off w

def State.pmuWrite (s : State) (off w : Nat) : State :=
  match off with
  | 0x2A0000 => s.pmuStart w
  | 0x2A0004 => s.pmuStop w
  | 0x2A0008 => s.pmuSnap w
  | 0x2A000C => s.pmuZero w
  | _ =>
    if 0x2A0040 ≤ off ∧ off < 0x2A0080 then
      let k := (off - 0x2A0040) / 0x10
      if off % 0x10 = 0 then s.trigWrite k (bits w 0 2) (bitAt w 2) else s.trigSet k off w
    else if 0x2A0100 ≤ off ∧ off < 0x2A0180 then s.pmuCfg ((off - 0x2A0100) / 4) w
    else if 0x2A0200 ≤ off ∧ off < 0x2A0300 then s.pmuCnt ((off - 0x2A0200) / 8) (off % 8 == 4) w
    else s.plainWrite off w

/-- The mailbox and the ISL registers (R531, R549). -/
def State.islBarWrite (s : State) (off w : Nat) : State :=
  let k := halfOf (off / 0x1000 % 4)
  let r := off % 0x1000
  if off = 0x302010 then if bitAt w 0 then s.islClear else s
  else if 0x302000 ≤ off then s.plainWrite off w
  else if r = 0 then if bitAt w 0 then (s.pmu 0xEB none 1).mboxGo k else s
  else if 0x100 ≤ r ∧ r < 0x200 ∧ s.get (R.ISL_CH_STAT_busy k.val) = 1 then s
  else s.plainWrite off w

/-! ### An access -/

/-- What a write of an aligned word does where its block takes it. -/
def State.blockWrite (s : State) (half : Option (Fin 2)) (off w : Nat) : State :=
  match barBlock off with
  | 0 => if off = 0x118 then (if bitAt w 0 then s.flogClear else s) else s.plainWrite off w
  | 1 => s.pwrWrite off w
  | 2 => s.clkWrite off w
  | 3 => s.hznWrite off w
  | 4 => if off = 0x40000 then s.imgCtrl (bitAt w 0) (bitAt w 1) (bitAt w 2) else s.plainWrite off w
  | 5 => s.seqWrite off w
  | 6 => s.tileWrite off w
  | 7 => s.cmdWrite off w
  | 8 => s.ctxWrite off w
  | 9 => s.syncWrite off w
  | 10 => s.fabWrite off w
  | 11 => s.hostWrite half off w
  | 12 => s.thmWrite off w
  | 13 => s.pmuWrite off w
  | _ => s.islBarWrite off w

/-- A write by any accessor; a gated or unpowered block drops it (R156). -/
def State.barWrite (s : State) (half : Option (Fin 2)) (off w : Nat) : State :=
  if s.blockUp (barBlock off) then s.blockWrite half off w else s

/-- A half's write; while a CXL reset runs, blocks other than HOST drop it (R501). -/
def State.hostBarWrite (s : State) (h : Fin 2) (off w : Nat) : State :=
  let s1 := s.pmu 0xE5 none 1
  if s1.inCxlReset && barBlock off != 11 then s1 else s1.barWrite (some h) off w

/-- REGISTER_WRITE (R15). -/
def execRegisterWrite (half : Fin 2) (off : BitVec 22) (value : Word) (s : State) : Host.Outcome State Fault Refusal :=
  .next (if s.barServes half then s.hostBarWrite half (4 * (off.toNat / 4)) value.toNat else s)

/-- EVENT_ENABLE_WRITE (R498): a write of a register that holds interrupt enables. -/
def execEventEnableWrite (half : Fin 2) (off : BitVec 22) (value : Word) (s : State) : Host.Outcome State Fault Refusal :=
  let o := 4 * (off.toNat / 4)
  .next (if s.barServes half && s.isEnable o then s.hostBarWrite half o value.toNat else s)

/-! ### Narrow and misaligned accesses (R18) -/

/-- The register's write acts on state behind it, or is taken only after a check of what it asks for: whatever a narrow write did
to it would reach another register, a tenant or a protection, which R11 and R18 exclude (DEDUCED, log 92). -/
def governs (off : Nat) : Bool :=
  [0x20004, 0x2000C, 0x30000, 0x30028, 0x100008, 0x1B0014, 0x200004, 0x27001C, 0x270020].contains off ||
  (barBlock off == 5 && decide (off < 0xC0000) && off % 0x4000 == 0x10) ||
  (barBlock off == 7 && decide (off < 0x190000) && off % 0x400 == 0x14) ||
  (decide (0x1C4010 ≤ off ∧ off < 0x1C4110) && off % 0x10 == 0) ||
  (decide (0x201000 ≤ off ∧ off < 0x201C00) && off % 0x100 == 0) ||
  barBlock off == 12 || decide (0x2A0040 ≤ off ∧ off < 0x2A0300)

/-- The register takes no host write now: a ring's set-up while it is enabled, a slot's binding while the slot is not FREE, a sync
object of no context, mailbox data while its channel is busy. -/
def State.shielded (s : State) (off : Nat) : Bool :=
  match barBlock off with
  | 7 => decide (off < 0x190000) && decide (off % 0x400 ≤ 0x10) && s.ringOn ((off - 0x180000) / 0x400)
  | 8 => decide (off < 0x1B0000) && ctxBound (off % 0x400) && s.ctxState ((off - 0x1A0000) / 0x400) != 0
  | 9 => decide (off < 0x1C4000) && !s.syncOwned ((off - 0x1C0000) / 4)
  | 14 => decide (off < 0x302000) && s.get (R.ISL_CH_STAT_busy (halfOf (off / 0x1000 % 4)).val) == 1
  | _ => false

/-- What a narrow write does to the addressed register: it acts as a write of free bits, so that a field that software cannot
write keeps its value. -/
def State.regScramble (s : State) (off : Nat) : State :=
  if governs off || s.shielded off then s else s.free.2.accWrite off s.free.1 true

/-- A narrow write by a half: of the HOST block's tables it reaches a free word of the half's MSI-X table (address and data words). -/
def State.narrowWrite (s : State) (h : Fin 2) (off : Nat) : State :=
  let w := (off - 0x260000) / 4
  if (s.inCxlReset && barBlock off != 11) || !s.blockUp (barBlock off) then s
  else if 0x260000 ≤ off ∧ off < 0x260400 ∧ w % 4 ≠ 3 then
    s.free.2.setHalf h { s.half h with msixTable := SMap.set 0 (s.half h).msixTable w (s.free.1 % 2 ^ 32) }
  else s.regScramble off

/-- MISALIGNED_ACCESS: a read returns a free word; a write leaves free bits in the addressed register, and in no other. -/
def execMisalignedAccess (half : Fin 2) (off : BitVec 22) (write : Bool) (s : State) : Host.Outcome State Fault Refusal :=
  let s1 := s.pmu 0xE5 none 1
  .next (if !s.barServes half then s
    else if write then s1.narrowWrite half (4 * (off.toNat / 4))
    else s1.free.2.emit (.word half.val (s1.free.1 % 2 ^ 32)))

end Sys2Proof.Machine
end

