-- ==== Sys2Proof/Machine/Sideband.lean ====
section
/-!
DEFINITION. Sys2Proof/Machine/Sideband.lean: the sideband target on SMBus and I3C (R508–R515): identity, reads and writes of BAR0,
the alert response, the I3C address and its CCCs.
-/

namespace Sys2Proof.Machine

/-! ### The target (R508) -/

/-- The target runs from VIO. -/
def State.sbUp (s : State) : Bool := s.pwr.railGood.getLsbD 0

/-- The mode: the strap ball until the straps are first sampled, `GEN_STRAP` from then on (R69, R81); 1 is I3C. -/
def State.sbI3c (s : State) : Bool :=
  if s.pwr.sampled then s.get R.GEN_STRAP_sb_mode == 1 else s.pwr.balls.sbMode

def State.sbSlot (s : State) : Nat := if s.pwr.sampled then s.get R.GEN_STRAP_pos_slot else s.pwr.balls.posSlot.toNat

/-- The target address, 0x58 + slot. -/
def State.sbAddress (s : State) : Nat := 0x58 + s.sbSlot

/-- A response on the bus. -/
def State.sbReply (s : State) (bytes : List Byte) : State := s.emit (.sideband (some bytes))

/-- A NACK at the command byte, or in I3C at the address of the next private read. -/
def State.sbNack (s : State) : State := s.emit (.sideband none)

/-- A command other than IDENTITY is served once `GEN_READY.sb_ready` is 1 (R127, R509). -/
def State.sbReady (s : State) : Bool := s.controlUp && s.get R.GEN_READY_sb_ready == 1

/-- A served command is an event of R650. -/
def State.sbCounted (s : State) : State := s.pmu 0xEA none 1

/-- An access the sideband may not make (R511). -/
def State.sbDenied (s : State) : State := (s.count R.HOST_SB_CNT_denied 1).raiseHost 7

/-! ### IDENTITY (R510) -/

/-- Byte 1: the state, which reads 1 while the control die is in reset, and sb_ready. -/
def State.identState (s : State) : Nat :=
  (if s.controlUp then s.pwr.state.num else 1) + 128 * b2n s.sbReady

/-- Byte 7: the straps as sampled. -/
def State.identStraps (s : State) : Nat :=
  s.get R.GEN_STRAP_sb_mode + 2 * s.get R.GEN_STRAP_host_bif + 4 * s.get R.GEN_STRAP_bench_en

/-- The identity block. -/
def State.identity (s : State) : List Byte :=
  [1, BitVec.ofNat 8 s.identState] ++ toLE 2 vendorId ++ toLE 2 s.deviceId ++ toLE 1 s.revisionId ++ toLE 1 s.identStraps ++
    toLE 8 Config.serial ++ toLE 2 s.topoWord ++ toLE 1 (s.pwr.dawnStep + 16 * s.get R.GEN_STATE_attempt) ++
    toLE 1 (s.get R.GEN_HOLD_CAUSE_causes) ++ toLE 2 s.ownBoot ++ [0, 0]

/-- SB_IDENTITY: answered from VIO good onward, ready or not. -/
def execSbIdentity (s : State) : Host.Outcome State Fault Refusal :=
  .next (if s.sbUp then s.sbCounted.sbReply s.identity else s)

/-! ### READ, WRITE, LAST_STATUS (R509, R511) -/

/-- An offset the sideband answers ALIGN to. -/
def sbMisaligned (off : Nat) : Bool := off % 4 != 0 || decide (0x400000 ≤ off)

/-- The places the sideband may write: PWR, THM, ISL, `HOST_SB_ALERT` and `HOST_SB_ALERT_EN`. -/
def sbWritable (off : Nat) : Bool :=
  barBlock off == 1 || barBlock off == 12 || barBlock off == 14 || off == 0x270030 || off == 0x270034

/-- A READ's status 1 or 2; the data beside it is a free value. -/
def State.sbReadError (s : State) (status : Nat) : State :=
  s.free.2.sbReply (BitVec.ofNat 8 status :: toLE 4 s.free.1)

/-- A READ of BAR0 by the sideband, which keeps captures of its own (R17). -/
def State.sbReadAt (s : State) (off : Nat) : State :=
  if sbMisaligned off then s.sbReadError 2
  else if barBlock off = 6 then s.sbDenied.sbReadError 1
  else
    let r := s.barRead 2 none off
    r.2.sbReply (0 :: toLE 4 r.1)

/-- SB_READ. -/
def execSbRead (off : Word) (s : State) : Host.Outcome State Fault Refusal :=
  .next (if !s.sbUp then s else if !s.sbReady then s.sbNack else s.sbCounted.sbReadAt off.toNat)

/-- The status of the last WRITE. -/
def State.sbStatusSet (s : State) (status : Nat) : State := { s with host := { s.host with sbStatus := status } }

/-- A WRITE of BAR0 by the sideband. -/
def State.sbWriteAt (s : State) (off w : Nat) : State :=
  if sbMisaligned off then s.sbStatusSet 2
  else if !sbWritable off then s.sbDenied.sbStatusSet 1
  else (s.barWrite none off w).sbStatusSet 0

/-- SB_WRITE: on SMBus a write whose PEC fails is NACKed and discarded (R515). -/
def execSbWrite (off : Word) (value : Word) (pecOk : Bool) (s : State) : Host.Outcome State Fault Refusal :=
  .next (if !s.sbUp then s
    else if !s.sbReady then s.sbNack
    else if !s.sbI3c && !pecOk then ((s.count R.HOST_SB_CNT_pec_errors 1).raiseHost 8).sbNack
    else s.sbCounted.sbWriteAt off.toNat value.toNat)

/-- SB_LAST_STATUS. -/
def execSbLastStatus (s : State) : Host.Outcome State Fault Refusal :=
  .next (if !s.sbUp then s else if !s.sbReady then s.sbNack
    else s.sbCounted.sbReply [BitVec.ofNat 8 s.host.sbStatus])

/-- SB_UNKNOWN_COMMAND: any other command code is NACKed. -/
def execSbUnknownCommand (code : Byte) (s : State) : Host.Outcome State Fault Refusal :=
  .next (if s.sbUp && !([0, 0x10, 0x11, 0x12].contains code.toNat) then s.sbNack else s)

/-! ### Alerts (R512) -/

/-- Alert bits whose enable is 1; enable bit 0 always is. -/
def State.alertsEnabled (s : State) : Nat := s.get R.HOST_SB_ALERT &&& orBits (s.get R.HOST_SB_ALERT_EN) 1

/-- `ALERT_N` is driven low. -/
def State.alertLow (s : State) : Bool := s.powered && s.alertsEnabled != 0 && !s.host.alertReleased

/-- ALERT_RESPONSE: on SMBus the package that drives `ALERT_N` answers with its own address, and releases it until a bit is newly set. -/
def execAlertResponse (s : State) : Host.Outcome State Fault Refusal :=
  .next (if s.sbUp && !s.sbI3c && s.alertLow then
      { s.sbReply [BitVec.ofNat 8 s.sbAddress] with host := { s.host with alertReleased := true } }
    else s)

/-- SB_SCL_TIMEOUT: the protocol state resets and the command under way is discarded. A command is one step here, so none is
ever under way between two. -/
def execSbSclTimeout (s : State) : Host.Outcome State Fault Refusal := .next s

/-! ### I3C (R513) -/

/-- The target runs in I3C mode. -/
def State.i3cUp (s : State) : Bool := s.sbUp && s.sbI3c

def State.dynTaken (s : State) : Bool := s.get R.HOST_SB_STAT_dyn_valid == 1

def State.setDyn (s : State) (addr : Nat) : State :=
  (s.put R.HOST_SB_STAT_dyn_addr addr).put R.HOST_SB_STAT_dyn_valid 1

/-- The 48-bit PID. -/
def State.pid (s : State) : Nat := 0x02A7 * 2 ^ 33 + 0x4801 * 2 ^ 16 + s.sbSlot * 2 ^ 12

/-- The PID on the bus, its most significant byte first. -/
def State.pidBytes (s : State) : List Byte := (toLE 6 s.pid).reverse

/-- SETDASA at the static address: a target without a dynamic address takes one. -/
def execSetdasa (static : BitVec 7) (dyn : BitVec 7) (s : State) : Host.Outcome State Fault Refusal :=
  .next (if s.i3cUp && static.toNat == s.sbAddress && !s.dynTaken then s.setDyn dyn.toNat else s)

/-- ENTDAA: the target gives PID, BCR and DCR, and takes the address. -/
def execEntdaa (dyn : BitVec 7) (s : State) : Host.Outcome State Fault Refusal :=
  .next (if s.i3cUp && !s.dynTaken then (s.sbReply (s.pidBytes ++ [0, 0])).setDyn dyn.toNat else s)

/-- RSTDAA: the dynamic address goes. -/
def execRstdaa (s : State) : Host.Outcome State Fault Refusal :=
  .next (if s.i3cUp then (s.put R.HOST_SB_STAT_dyn_addr 0).put R.HOST_SB_STAT_dyn_valid 0 else s)

/-- GETPID. -/
def execGetpid (s : State) : Host.Outcome State Fault Refusal := .next (if s.i3cUp then s.sbReply s.pidBytes else s)

/-- GETBCR: 0x00. -/
def execGetbcr (s : State) : Host.Outcome State Fault Refusal := .next (if s.i3cUp then s.sbReply [0] else s)

/-- GETDCR: 0x00. -/
def execGetdcr (s : State) : Host.Outcome State Fault Refusal := .next (if s.i3cUp then s.sbReply [0] else s)

/-- An answer of two bytes that the spec does not state. -/
def State.sbFree (s : State) : State := s.free.2.sbReply (toLE 2 s.free.1)

/-- GETSTATUS: answered; what it holds is a free value. -/
def execGetstatus (s : State) : Host.Outcome State Fault Refusal := .next (if s.i3cUp then s.sbFree else s)

/-- GETMWL: answered; what it holds is a free value. -/
def execGetmwl (s : State) : Host.Outcome State Fault Refusal := .next (if s.i3cUp then s.sbFree else s)

/-- GETMRL: answered; what it holds is a free value. -/
def execGetmrl (s : State) : Host.Outcome State Fault Refusal := .next (if s.i3cUp then s.sbFree else s)

end Sys2Proof.Machine
end

