-- ==== Sys2Proof/Machine/Debug.lean ====
section
/-!
DEFINITION. Sys2Proof/Machine/Debug.lean: the two TAPs: boundary-scan instructions, refusals, debug reads and writes (R657–R663).
-/

namespace Sys2Proof.Machine

/-- A TAP runs while its supply is in range: VAUX for the island's, VIO for the control die's (R657). -/
def State.tapUp (s : State) (island : Bool) : Bool := if island then s.pwr.vauxIn else s.pwr.railGood.getLsbD 0

def State.tap (s : State) (island : Bool) : TapSt := if island then s.tapIsl else s.tapCtl

def State.setTap (s : State) (island : Bool) (x : TapSt) : State :=
  if island then { s with tapIsl := x } else { s with tapCtl := x }

/-- An instruction is loaded; a debug result not yet captured goes (R663). -/
def State.tapLoad (s : State) (island : Bool) (code : Nat) (refused : Bool) : State :=
  s.setTap island ⟨code, refused, 0, false, false⟩

/-- The BYPASS code of a TAP (R658). -/
def bypassCode (island : Bool) : Nat := if island then 0x3F else 0xFF

/-- An instruction is refused: it acts as BYPASS and is recorded (R660). -/
def State.tapRefuse (s : State) (island : Bool) (code : Nat) : State :=
  let s1 := (s.tapLoad island (bypassCode island) true).emit (.tap island 0)
  if s1.controlUp then
    ((s1.put R.GEN_DBG_STAT_instr code).put R.GEN_DBG_STAT_island (b2n island)).count R.GEN_DBG_STAT_refused 1
  else s1

/-- An instruction with a data register of one bit, which captures 0; so does the pass-through of an absent TAP (R657, R658). -/
def State.tapOne (s : State) (island : Bool) (code : Nat) : State :=
  if s.tapUp island then (s.tapLoad island code false).emit (.tap island 0) else s.emit (.tap island 0)

/-- The boundary register captures balls of the board: a free value. -/
def State.tapBoundary (s : State) (island : Bool) (code : Nat) : State :=
  if s.tapUp island then
    let s1 := s.tapLoad island code false
    s1.free.2.emit (.tap island s1.free.1)
  else s.emit (.tap island 0)

/-- EXTEST, CLAMP and HIGHZ are allowed (R660). -/
def State.scanAllowed (s : State) (island : Bool) : Bool :=
  !s.controlUp || (!island && s.isBench && s.fls.protLevel == 0)

/-- TAP_RESET: both TAPs; the package is not touched (R657). -/
def execTapReset (s : State) : Host.Outcome State Fault Refusal :=
  .next { s with tapIsl := TapSt.init, tapCtl := TapSt.init }

/-- BYPASS. -/
def execBypass (island : Bool) (s : State) : Host.Outcome State Fault Refusal := .next (s.tapOne island (bypassCode island))

/-- The IDCODE of a TAP (R658). -/
def State.idcode (s : State) (island : Bool) : Nat :=
  (if s.a0 then 0x04800000 else 0x14800000) + (if island then 0x8BC7 else 0x1BC7)

/-- IDCODE. -/
def execIdcode (island : Bool) (s : State) : Host.Outcome State Fault Refusal :=
  .next (if s.tapUp island then (s.tapLoad island 1 false).emit (.tap island (s.idcode island)) else s.emit (.tap island 0))

/-- SAMPLE/PRELOAD. -/
def execSamplePreload (island : Bool) (s : State) : Host.Outcome State Fault Refusal := .next (s.tapBoundary island 2)

/-- EXTEST. -/
def execExtest (island : Bool) (s : State) : Host.Outcome State Fault Refusal :=
  .next (if s.tapUp island && !s.scanAllowed island then s.tapRefuse island 3 else s.tapBoundary island 3)

/-- CLAMP. -/
def execClamp (island : Bool) (s : State) : Host.Outcome State Fault Refusal :=
  .next (if s.tapUp island && !s.scanAllowed island then s.tapRefuse island 4 else s.tapOne island 4)

/-- HIGHZ. -/
def execHighz (island : Bool) (s : State) : Host.Outcome State Fault Refusal :=
  .next (if s.tapUp island && !s.scanAllowed island then s.tapRefuse island 5 else s.tapOne island 5)

/-! ### Debug accesses (R661, R662) -/

/-- What the next Capture-DR of a debug access captures. -/
def State.dbgResult (s : State) (code data : Nat) (denied : Bool) : State :=
  (s.setTap false ⟨code, false, data % 2 ^ 32, true, denied⟩).emit (.tap false (data % 2 ^ 32 + 2 ^ 32 + 2 ^ 33 * b2n denied))

/-- A result whose data is a free value. -/
def State.dbgOpen (s : State) (code : Nat) (denied : Bool) : State := s.free.2.dbgResult code s.free.1 denied

/-- DBG_READ is permitted at levels 0 and 1, DBG_WRITE at level 0 in BENCH (R600, R661). -/
def State.dbgPermits (s : State) (write : Bool) : Bool :=
  s.powered && (if write then s.isBench && s.fls.protLevel == 0 else decide (s.fls.protLevel ≤ 1))

/-- A permitted DBG_READ. -/
def State.dbgReadAt (s : State) (off : Nat) : State :=
  if barBlock off = 6 then s.dbgOpen 0x40 true
  else if off % 4 ≠ 0 then s.dbgOpen 0x40 false
  else
    let r := s.barRead 4 none off
    r.2.dbgResult 0x40 r.1 false

/-- DBG_READ. -/
def execDbgRead (off : BitVec 22) (s : State) : Host.Outcome State Fault Refusal :=
  .next (if !s.tapUp false then s.emit (.tap false 0)
    else if !s.dbgPermits false then s.tapRefuse false 0x40
    else s.dbgReadAt off.toNat)

/-- A permitted DBG_WRITE; a misaligned one leaves free bits in the addressed register (R18). -/
def State.dbgWriteAt (s : State) (off w : Nat) : State :=
  let o := 4 * (off / 4)
  if !sbWritable o then s.dbgOpen 0x41 true
  else if off % 4 ≠ 0 then (if s.blockUp (barBlock o) then s.regScramble o else s).dbgOpen 0x41 false
  else (s.barWrite none off w).dbgOpen 0x41 false

/-- DBG_WRITE. -/
def execDbgWrite (off : BitVec 22) (value : Word) (s : State) : Host.Outcome State Fault Refusal :=
  .next (if !s.tapUp false then s.emit (.tap false 0)
    else if !s.dbgPermits true then s.tapRefuse false 0x41
    else s.dbgWriteAt off.toNat value.toNat)

end Sys2Proof.Machine
end

