-- ==== Sys2Proof/Machine/Dispatch.lean ====
section
/-!
DEFINITION. Sys2Proof/Machine/Dispatch.lean: one arm per command of the table, each one call of its meaning.
-/

namespace Sys2Proof.Machine

/-- The effect of one command on everything but the queue. -/
def exec (i : Instr) (s : State) : Host.Outcome State Fault Refusal :=
  match i with
  | .registerWrite half off value => Sys2Proof.Machine.execRegisterWrite half off value s
  | .loWordRead half off => Sys2Proof.Machine.execLoWordRead half off s
  | .misalignedAccess half off write => Sys2Proof.Machine.execMisalignedAccess half off write s
  | .vauxInRange unexpected => Sys2Proof.Machine.execVauxInRange unexpected s
  | .vauxLoss => Sys2Proof.Machine.execVauxLoss s
  | .enVioRise => Sys2Proof.Machine.execEnVioRise s
  | .railGood rail => Sys2Proof.Machine.execRailGood rail s
  | .enableRise => Sys2Proof.Machine.execEnableRise s
  | .railUnexpected rail mv => Sys2Proof.Machine.execRailUnexpected rail mv s
  | .powerFault rail mv => Sys2Proof.Machine.execPowerFault rail mv s
  | .enableFall => Sys2Proof.Machine.execEnableFall s
  | .railFallTimeout rail mv => Sys2Proof.Machine.execRailFallTimeout rail mv s
  | .rcStartTimeout => Sys2Proof.Machine.execRcStartTimeout s
  | .perstRelease balls => Sys2Proof.Machine.execPerstRelease balls s
  | .perstAssert => Sys2Proof.Machine.execPerstAssert s
  | .dawnPllsLocked => Sys2Proof.Machine.execDawnPllsLocked s
  | .islandHandshake => Sys2Proof.Machine.execIslandHandshake s
  | .dramLinkTrained => Sys2Proof.Machine.execDramLinkTrained s
  | .dramInitDone => Sys2Proof.Machine.execDramInitDone s
  | .dataWindowCleared => Sys2Proof.Machine.execDataWindowCleared s
  | .stage2Checked => Sys2Proof.Machine.execStage2Checked s
  | .arrayLinkTrained die faulty => Sys2Proof.Machine.execArrayLinkTrained die faulty s
  | .patchChecked => Sys2Proof.Machine.execPatchChecked s
  | .dawnTimeout => Sys2Proof.Machine.execDawnTimeout s
  | .dawnRetry unexpected => Sys2Proof.Machine.execDawnRetry unexpected s
  | .duskRestart unexpected => Sys2Proof.Machine.execDuskRestart unexpected s
  | .warmReset key => Sys2Proof.Machine.execWarmReset key s
  | .warmResetDone => Sys2Proof.Machine.execWarmResetDone s
  | .duskRequest key restart => Sys2Proof.Machine.execDuskRequest key restart s
  | .quiesceDone => Sys2Proof.Machine.execQuiesceDone s
  | .quiesceDeadline => Sys2Proof.Machine.execQuiesceDeadline s
  | .duskCommitDone => Sys2Proof.Machine.execDuskCommitDone s
  | .pwrAckDawn => Sys2Proof.Machine.execPwrAckDawn s
  | .pwrAckStop => Sys2Proof.Machine.execPwrAckStop s
  | .islandLinkLoss => Sys2Proof.Machine.execIslandLinkLoss s
  | .frameMark dev gap => Sys2Proof.Machine.execFrameMark dev gap s
  | .localFrameMark => Sys2Proof.Machine.execLocalFrameMark s
  | .superframeNumber number crc => Sys2Proof.Machine.execSuperframeNumber number crc s
  | .assignMessage msg => Sys2Proof.Machine.execAssignMessage msg s
  | .delayMessage msg => Sys2Proof.Machine.execDelayMessage msg s
  | .statusMessage msg => Sys2Proof.Machine.execStatusMessage msg s
  | .unknownMessage msg => Sys2Proof.Machine.execUnknownMessage msg s
  | .hznActivity => Sys2Proof.Machine.execHznActivity s
  | .hznEdgeLoss => Sys2Proof.Machine.execHznEdgeLoss s
  | .hznPllLock => Sys2Proof.Machine.execHznPllLock s
  | .hznPllUnlock => Sys2Proof.Machine.execHznPllUnlock s
  | .acquireTimeout => Sys2Proof.Machine.execAcquireTimeout s
  | .hznRxDisable => Sys2Proof.Machine.execHznRxDisable s
  | .hznRxEnable => Sys2Proof.Machine.execHznRxEnable s
  | .hznClrCounts => Sys2Proof.Machine.execHznClrCounts s
  | .gapStart frames => Sys2Proof.Machine.execGapStart frames s
  | .admissionPass => Sys2Proof.Machine.execAdmissionPass s
  | .deadlineRefusal => Sys2Proof.Machine.execDeadlineRefusal s
  | .hrefclkLoss => Sys2Proof.Machine.execHrefclkLoss s
  | .hrefclkRestore => Sys2Proof.Machine.execHrefclkRestore s
  | .pllUnlock pll => Sys2Proof.Machine.execPllUnlock pll s
  | .pllLock pll => Sys2Proof.Machine.execPllLock pll s
  | .relockAttempt pll => Sys2Proof.Machine.execRelockAttempt pll s
  | .clkGateRequest blk => Sys2Proof.Machine.execClkGateRequest blk s
  | .clkUngate blk => Sys2Proof.Machine.execClkUngate blk s
  | .clkobsSelect value => Sys2Proof.Machine.execClkobsSelect value s
  | .clkClrCounts => Sys2Proof.Machine.execClkClrCounts s
  | .trimWindowEnd count srcFailed => Sys2Proof.Machine.execTrimWindowEnd count srcFailed s
  | .xtalFail => Sys2Proof.Machine.execXtalFail s
  | .xtalRecover => Sys2Proof.Machine.execXtalRecover s
  | .imgStart => Sys2Proof.Machine.execImgStart s
  | .imgChecksDone => Sys2Proof.Machine.execImgChecksDone s
  | .imgQuiesceDone => Sys2Proof.Machine.execImgQuiesceDone s
  | .imgInstallDone => Sys2Proof.Machine.execImgInstallDone s
  | .imgUnload => Sys2Proof.Machine.execImgUnload s
  | .imgAbort => Sys2Proof.Machine.execImgAbort s
  | .expose q => Sys2Proof.Machine.execExpose q s
  | .exposureStart tile => Sys2Proof.Machine.execExposureStart tile s
  | .operandArrival tile => Sys2Proof.Machine.execOperandArrival tile s
  | .exposureDevelop tile => Sys2Proof.Machine.execExposureDevelop tile s
  | .aeWindowEnd tile => Sys2Proof.Machine.execAeWindowEnd tile s
  | .fogWindowLatch tile => Sys2Proof.Machine.execFogWindowLatch tile s
  | .tileDataRead => Sys2Proof.Machine.execTileDataRead s
  | .tileDataWrite value => Sys2Proof.Machine.execTileDataWrite value s
  | .tileTestStart value => Sys2Proof.Machine.execTileTestStart value s
  | .tileTestDone => Sys2Proof.Machine.execTileTestDone s
  | .chainAdd tile => Sys2Proof.Machine.execChainAdd tile s
  | .sliceMerge tile => Sys2Proof.Machine.execSliceMerge tile s
  | .output q => Sys2Proof.Machine.execOutput q s
  | .outputRunDone plate => Sys2Proof.Machine.execOutputRunDone plate s
  | .compAdd addr word => Sys2Proof.Machine.execCompAdd addr word s
  | .weightWrite half hpa data be => Sys2Proof.Machine.execWeightWrite half hpa data be s
  | .weightWriteRelease half => Sys2Proof.Machine.execWeightWriteRelease half s
  | .weightRead half hpa => Sys2Proof.Machine.execWeightRead half hpa s
  | .weightReadSense half => Sys2Proof.Machine.execWeightReadSense half s
  | .weightReadStale half => Sys2Proof.Machine.execWeightReadStale half s
  | .segmentStart die => Sys2Proof.Machine.execSegmentStart die s
  | .segmentDone die attempts iterations verified badSpares => Sys2Proof.Machine.execSegmentDone die attempts iterations verified badSpares s
  | .tileEraseDone tile fails stuck badSpares => Sys2Proof.Machine.execTileEraseDone tile fails stuck badSpares s
  | .tileRefixReq value => Sys2Proof.Machine.execTileRefixReq value s
  | .refixDone plate rows => Sys2Proof.Machine.execRefixDone plate rows s
  | .tileAgeHour => Sys2Proof.Machine.execTileAgeHour s
  | .staticDispatch q index => Sys2Proof.Machine.execStaticDispatch q index s
  | .dynamicDispatch ctx => Sys2Proof.Machine.execDynamicDispatch ctx s
  | .next q => Sys2Proof.Machine.execNext q s
  | .ldc q => Sys2Proof.Machine.execLdc q s
  | .lda q => Sys2Proof.Machine.execLda q s
  | .adda q => Sys2Proof.Machine.execAdda q s
  | .jmp q => Sys2Proof.Machine.execJmp q s
  | .jsr q => Sys2Proof.Machine.execJsr q s
  | .rts q => Sys2Proof.Machine.execRts q s
  | .loop q => Sys2Proof.Machine.execLoop q s
  | .bcond q => Sys2Proof.Machine.execBcond q s
  | .wait q => Sys2Proof.Machine.execWait q s
  | .waitFire q => Sys2Proof.Machine.execWaitFire q s
  | .waitd q => Sys2Proof.Machine.execWaitd q s
  | .seqEnd q => Sys2Proof.Machine.execSeqEnd q s
  | .reservedCode q => Sys2Proof.Machine.execReservedCode q s
  | .nop q => Sys2Proof.Machine.execNop q s
  | .load q => Sys2Proof.Machine.execLoad q s
  | .fsend q => Sys2Proof.Machine.execFsend q s
  | .frecv q => Sys2Proof.Machine.execFrecv q s
  | .vector q => Sys2Proof.Machine.execVector q s
  | .syncNanoSignal q => Sys2Proof.Machine.execSyncNanoSignal q s
  | .syncNanoTest q => Sys2Proof.Machine.execSyncNanoTest q s
  | .reservedNanoKind q => Sys2Proof.Machine.execReservedNanoKind q s
  | .seqCommandDone q index => Sys2Proof.Machine.execSeqCommandDone q index s
  | .spanEnd q => Sys2Proof.Machine.execSpanEnd q s
  | .seqArm slot => Sys2Proof.Machine.execSeqArm slot s
  | .seqDisarm slot => Sys2Proof.Machine.execSeqDisarm slot s
  | .seqHalt q => Sys2Proof.Machine.execSeqHalt q s
  | .seqRun q => Sys2Proof.Machine.execSeqRun q s
  | .seqClrCounts q => Sys2Proof.Machine.execSeqClrCounts q s
  | .seqMcClear q => Sys2Proof.Machine.execSeqMcClear q s
  | .sqDoorbell ctx tail => Sys2Proof.Machine.execSqDoorbell ctx tail s
  | .descExpose ctx => Sys2Proof.Machine.execDescExpose ctx s
  | .descOutput ctx => Sys2Proof.Machine.execDescOutput ctx s
  | .matvec ctx => Sys2Proof.Machine.execMatvec ctx s
  | .schedule ctx => Sys2Proof.Machine.execSchedule ctx s
  | .send ctx => Sys2Proof.Machine.execSend ctx s
  | .copy ctx => Sys2Proof.Machine.execCopy ctx s
  | .convert ctx => Sys2Proof.Machine.execConvert ctx s
  | .eltwise ctx => Sys2Proof.Machine.execEltwise ctx s
  | .activate ctx => Sys2Proof.Machine.execActivate ctx s
  | .softmax ctx => Sys2Proof.Machine.execSoftmax ctx s
  | .norm ctx => Sys2Proof.Machine.execNorm ctx s
  | .digitalMatvec ctx => Sys2Proof.Machine.execDigitalMatvec ctx s
  | .descSync ctx => Sys2Proof.Machine.execDescSync ctx s
  | .routine ctx => Sys2Proof.Machine.execRoutine ctx s
  | .descReservedOpcode ctx => Sys2Proof.Machine.execDescReservedOpcode ctx s
  | .cqDoorbell ctx head => Sys2Proof.Machine.execCqDoorbell ctx head s
  | .ringEnable ctx => Sys2Proof.Machine.execRingEnable ctx s
  | .ringDisable ctx => Sys2Proof.Machine.execRingDisable ctx s
  | .create ctx => Sys2Proof.Machine.execCreate ctx s
  | .save ctx => Sys2Proof.Machine.execSave ctx s
  | .saveQuiesced ctx => Sys2Proof.Machine.execSaveQuiesced ctx s
  | .restore ctx => Sys2Proof.Machine.execRestore ctx s
  | .release ctx => Sys2Proof.Machine.execRelease ctx s
  | .releaseDrained ctx => Sys2Proof.Machine.execReleaseDrained ctx s
  | .abort ctx => Sys2Proof.Machine.execAbort ctx s
  | .discard => Sys2Proof.Machine.execDiscard s
  | .ctxReservedOp op ctx => Sys2Proof.Machine.execCtxReservedOp op ctx s
  | .syncSignal obj value => Sys2Proof.Machine.execSyncSignal obj value s
  | .syncValWrite obj value => Sys2Proof.Machine.execSyncValWrite obj value s
  | .syncTimerArm timer obj value => Sys2Proof.Machine.execSyncTimerArm timer obj value s
  | .syncTimerFire timer => Sys2Proof.Machine.execSyncTimerFire timer s
  | .syncClrCounts => Sys2Proof.Machine.execSyncClrCounts s
  | .portDetect port => Sys2Proof.Machine.execPortDetect port s
  | .laneSignal port => Sys2Proof.Machine.execLaneSignal port s
  | .equaliseDone port => Sys2Proof.Machine.execEqualiseDone port s
  | .trainingBlock port lanes polarity now => Sys2Proof.Machine.execTrainingBlock port lanes polarity now s
  | .gen2EqTimeout port => Sys2Proof.Machine.execGen2EqTimeout port s
  | .trainingTimeout port => Sys2Proof.Machine.execTrainingTimeout port s
  | .trainingRetry port => Sys2Proof.Machine.execTrainingRetry port s
  | .fabPortRetrain port => Sys2Proof.Machine.execFabPortRetrain port s
  | .fabPortDisable port => Sys2Proof.Machine.execFabPortDisable port s
  | .fabPortEnable port => Sys2Proof.Machine.execFabPortEnable port s
  | .flitReceive port corrected message => Sys2Proof.Machine.execFlitReceive port corrected message s
  | .flitTransmit port => Sys2Proof.Machine.execFlitTransmit port s
  | .retrain port => Sys2Proof.Machine.execRetrain port s
  | .retrainTimeout port => Sys2Proof.Machine.execRetrainTimeout port s
  | .fabricWrite port txn => Sys2Proof.Machine.execFabricWrite port txn s
  | .cadd port txn => Sys2Proof.Machine.execCadd port txn s
  | .signal port txn => Sys2Proof.Machine.execSignal port txn s
  | .resp port txn => Sys2Proof.Machine.execResp port txn s
  | .respTallyFlush origin xfer => Sys2Proof.Machine.execRespTallyFlush origin xfer s
  | .transferTimeout xfer => Sys2Proof.Machine.execTransferTimeout xfer s
  | .fabClrCounts => Sys2Proof.Machine.execFabClrCounts s
  | .hostLinkUp half rate width protocol => Sys2Proof.Machine.execHostLinkUp half rate width protocol s
  | .hostLinkDown half => Sys2Proof.Machine.execHostLinkDown half s
  | .hotReset half => Sys2Proof.Machine.execHotReset half s
  | .flr half => Sys2Proof.Machine.execFlr half s
  | .cxlReset half => Sys2Proof.Machine.execCxlReset half s
  | .cxlResetDone => Sys2Proof.Machine.execCxlResetDone s
  | .configRequest half req => Sys2Proof.Machine.execConfigRequest half req s
  | .hdmCommit half dec base size skip ways => Sys2Proof.Machine.execHdmCommit half dec base size skip ways s
  | .powerStateChange half d3 => Sys2Proof.Machine.execPowerStateChange half d3 s
  | .cxlMemRead half hpa ecc => Sys2Proof.Machine.execCxlMemRead half hpa ecc s
  | .cxlMemWrite half hpa data be poison => Sys2Proof.Machine.execCxlMemWrite half hpa data be poison s
  | .identify half => Sys2Proof.Machine.execIdentify half s
  | .getEventRecords half log => Sys2Proof.Machine.execGetEventRecords half log s
  | .clearEventRecords half log handles => Sys2Proof.Machine.execClearEventRecords half log handles s
  | .getEventInterruptPolicy half => Sys2Proof.Machine.execGetEventInterruptPolicy half s
  | .setEventInterruptPolicy half policy => Sys2Proof.Machine.execSetEventInterruptPolicy half policy s
  | .getFwInfo half => Sys2Proof.Machine.execGetFwInfo half s
  | .getTimestamp half => Sys2Proof.Machine.execGetTimestamp half s
  | .setTimestamp half ns => Sys2Proof.Machine.execSetTimestamp half ns s
  | .getSupportedLogs half => Sys2Proof.Machine.execGetSupportedLogs half s
  | .getLog half cel start length => Sys2Proof.Machine.execGetLog half cel start length s
  | .identifyMemoryDevice half => Sys2Proof.Machine.execIdentifyMemoryDevice half s
  | .getPartitionInfo half => Sys2Proof.Machine.execGetPartitionInfo half s
  | .getHealthInfo half => Sys2Proof.Machine.execGetHealthInfo half s
  | .getPoisonList half addr lines => Sys2Proof.Machine.execGetPoisonList half addr lines s
  | .cxlMboxUnsupported half opcode => Sys2Proof.Machine.execCxlMboxUnsupported half opcode s
  | .cdatRead half => Sys2Proof.Machine.execCdatRead half s
  | .spdmNegotiate half version algorithms => Sys2Proof.Machine.execSpdmNegotiate half version algorithms s
  | .getDigests half => Sys2Proof.Machine.execGetDigests half s
  | .getCertificate half slot start length => Sys2Proof.Machine.execGetCertificate half slot start length s
  | .challenge half slot nonce => Sys2Proof.Machine.execChallenge half slot nonce s
  | .getMeasurements half index nonce => Sys2Proof.Machine.execGetMeasurements half index nonce s
  | .keyExchange half exchange => Sys2Proof.Machine.execKeyExchange half exchange s
  | .finish half session verified => Sys2Proof.Machine.execFinish half session verified s
  | .keyUpdate half session => Sys2Proof.Machine.execKeyUpdate half session s
  | .endSession half session => Sys2Proof.Machine.execEndSession half session s
  | .keyProg half session mem key => Sys2Proof.Machine.execKeyProg half session mem key s
  | .kSetGo half session mem => Sys2Proof.Machine.execKSetGo half session mem s
  | .ideFail half => Sys2Proof.Machine.execIdeFail half s
  | .hostReq => Sys2Proof.Machine.execHostReq s
  | .hostClrCounts => Sys2Proof.Machine.execHostClrCounts s
  | .sbIdentity => Sys2Proof.Machine.execSbIdentity s
  | .sbRead off => Sys2Proof.Machine.execSbRead off s
  | .sbWrite off value pecOk => Sys2Proof.Machine.execSbWrite off value pecOk s
  | .sbLastStatus => Sys2Proof.Machine.execSbLastStatus s
  | .sbUnknownCommand code => Sys2Proof.Machine.execSbUnknownCommand code s
  | .alertResponse => Sys2Proof.Machine.execAlertResponse s
  | .setdasa static dyn => Sys2Proof.Machine.execSetdasa static dyn s
  | .entdaa dyn => Sys2Proof.Machine.execEntdaa dyn s
  | .rstdaa => Sys2Proof.Machine.execRstdaa s
  | .getpid => Sys2Proof.Machine.execGetpid s
  | .getbcr => Sys2Proof.Machine.execGetbcr s
  | .getdcr => Sys2Proof.Machine.execGetdcr s
  | .getstatus => Sys2Proof.Machine.execGetstatus s
  | .getmwl => Sys2Proof.Machine.execGetmwl s
  | .getmrl => Sys2Proof.Machine.execGetmrl s
  | .sbSclTimeout => Sys2Proof.Machine.execSbSclTimeout s
  | .vholdExhausted => Sys2Proof.Machine.execVholdExhausted s
  | .budgetSample vbat vhold mah => Sys2Proof.Machine.execBudgetSample vbat vhold mah s
  | .journalCommit readbackBad => Sys2Proof.Machine.execJournalCommit readbackBad s
  | .battLow => Sys2Proof.Machine.execBattLow s
  | .battNewCell => Sys2Proof.Machine.execBattNewCell s
  | .islandBoot => Sys2Proof.Machine.execIslandBoot s
  | .getInfo ch => Sys2Proof.Machine.execGetInfo ch s
  | .regRead ch => Sys2Proof.Machine.execRegRead ch s
  | .regWrite ch => Sys2Proof.Machine.execRegWrite ch s
  | .fwWrite ch => Sys2Proof.Machine.execFwWrite ch s
  | .fwCommit ch => Sys2Proof.Machine.execFwCommit ch s
  | .fwActivate ch => Sys2Proof.Machine.execFwActivate ch s
  | .sealAdvance ch => Sys2Proof.Machine.execSealAdvance ch s
  | .revoke ch => Sys2Proof.Machine.execRevoke ch s
  | .provision ch => Sys2Proof.Machine.execProvision ch s
  | .mboxUnknownCommand ch => Sys2Proof.Machine.execMboxUnknownCommand ch s
  | .islClrCounts => Sys2Proof.Machine.execIslClrCounts s
  | .sndNke rate addr => Sys2Proof.Machine.execSndNke rate addr s
  | .reqUd2 rate addr fcb => Sys2Proof.Machine.execReqUd2 rate addr fcb s
  | .reqUd1 rate addr => Sys2Proof.Machine.execReqUd1 rate addr s
  | .applicationReset rate addr => Sys2Proof.Machine.execApplicationReset rate addr s
  | .setPrimaryAddress rate addr value => Sys2Proof.Machine.execSetPrimaryAddress rate addr value s
  | .selection rate secondary => Sys2Proof.Machine.execSelection rate secondary s
  | .setBaudRate rate addr ci => Sys2Proof.Machine.execSetBaudRate rate addr ci s
  | .mbusFrameDiscard => Sys2Proof.Machine.execMbusFrameDiscard s
  | .flowMeasurement chan down up => Sys2Proof.Machine.execFlowMeasurement chan down up s
  | .swapBlockEnd chan => Sys2Proof.Machine.execSwapBlockEnd chan s
  | .flowCycleEnd => Sys2Proof.Machine.execFlowCycleEnd s
  | .tempCycleEnd sensors => Sys2Proof.Machine.execTempCycleEnd sensors s
  | .railSample rails => Sys2Proof.Machine.execRailSample rails s
  | .standbyWake reason => Sys2Proof.Machine.execStandbyWake reason s
  | .bindingMessage isOpen ctx tenant job bench frame => Sys2Proof.Machine.execBindingMessage isOpen ctx tenant job bench frame s
  | .contextMark frame frames charges => Sys2Proof.Machine.execContextMark frame frames charges s
  | .islandFrameMark frame => Sys2Proof.Machine.execIslandFrameMark frame s
  | .markExpiry => Sys2Proof.Machine.execMarkExpiry s
  | .heatSplit => Sys2Proof.Machine.execHeatSplit s
  | .rtcSecond => Sys2Proof.Machine.execRtcSecond s
  | .rtcSet value => Sys2Proof.Machine.execRtcSet value s
  | .intervalEnd => Sys2Proof.Machine.execIntervalEnd s
  | .calWrite off value => Sys2Proof.Machine.execCalWrite off value s
  | .calLock => Sys2Proof.Machine.execCalLock s
  | .mtrClrCounts => Sys2Proof.Machine.execMtrClrCounts s
  | .program word value readbackBad => Sys2Proof.Machine.execProgram word value readbackBad s
  | .erase bank sector => Sys2Proof.Machine.execErase bank sector s
  | .eraseDone blank => Sys2Proof.Machine.execEraseDone blank s
  | .suspend => Sys2Proof.Machine.execSuspend s
  | .resume => Sys2Proof.Machine.execResume s
  | .blankCheck bank sector => Sys2Proof.Machine.execBlankCheck bank sector s
  | .massErase => Sys2Proof.Machine.execMassErase s
  | .option level => Sys2Proof.Machine.execOption level s
  | .flsHostRead addr => Sys2Proof.Machine.execFlsHostRead addr s
  | .protRaise level key => Sys2Proof.Machine.execProtRaise level key s
  | .protLower key => Sys2Proof.Machine.execProtLower key s
  | .flsClrCounts => Sys2Proof.Machine.execFlsClrCounts s
  | .patrol hits => Sys2Proof.Machine.execPatrol hits s
  | .eraseAhead => Sys2Proof.Machine.execEraseAhead s
  | .housekeepingRound diodes biasOk railGood => Sys2Proof.Machine.execHousekeepingRound diodes biasOk railGood s
  | .thmThrWrite rate value => Sys2Proof.Machine.execThmThrWrite rate value s
  | .thmPairWrite pair value => Sys2Proof.Machine.execThmPairWrite pair value s
  | .thmLock => Sys2Proof.Machine.execThmLock s
  | .thmClrCounts => Sys2Proof.Machine.execThmClrCounts s
  | .pmuStart mask => Sys2Proof.Machine.execPmuStart mask s
  | .pmuStop mask => Sys2Proof.Machine.execPmuStop mask s
  | .pmuSnap mask => Sys2Proof.Machine.execPmuSnap mask s
  | .pmuClr mask => Sys2Proof.Machine.execPmuClr mask s
  | .pmuCfgWrite counter value => Sys2Proof.Machine.execPmuCfgWrite counter value s
  | .pmuCntWrite counter high value => Sys2Proof.Machine.execPmuCntWrite counter high value s
  | .pmuTriggerArm trigger action => Sys2Proof.Machine.execPmuTriggerArm trigger action s
  | .pmuTriggerFire trigger => Sys2Proof.Machine.execPmuTriggerFire trigger s
  | .pmuOverflow counter inc => Sys2Proof.Machine.execPmuOverflow counter inc s
  | .flogClear => Sys2Proof.Machine.execFlogClear s
  | .tapReset => Sys2Proof.Machine.execTapReset s
  | .bypass island => Sys2Proof.Machine.execBypass island s
  | .idcode island => Sys2Proof.Machine.execIdcode island s
  | .samplePreload island => Sys2Proof.Machine.execSamplePreload island s
  | .extest island => Sys2Proof.Machine.execExtest island s
  | .clamp island => Sys2Proof.Machine.execClamp island s
  | .highz island => Sys2Proof.Machine.execHighz island s
  | .dbgRead off => Sys2Proof.Machine.execDbgRead off s
  | .dbgWrite off value => Sys2Proof.Machine.execDbgWrite off value s
  | .symbolError tick => Sys2Proof.Machine.execSymbolError tick s
  | .lossOfSignal port => Sys2Proof.Machine.execLossOfSignal port s
  | .clkUngateDone blk => Sys2Proof.Machine.execClkUngateDone blk s
  | .eventEnableWrite half off value => Sys2Proof.Machine.execEventEnableWrite half off value s
  | .msixVectorUnmask half vector => Sys2Proof.Machine.execMsixVectorUnmask half vector s
  | .doeDiscovery half index => Sys2Proof.Machine.execDoeDiscovery half index s

end Sys2Proof.Machine
end

