-- ==== Sys2Proof/Machine/Idle.lean ====
section
/-!
DEFINITION. Sys2Proof/Machine/Idle.lean: a tick of 8 ns in which no command arrives: time passes, and the performance counters
that count time move on (R645, R650), the horizon receiver judges its expected mark (R86), and the loader moves through its phases (R190). Every other timed effect is a command of
the table.
-/

namespace Sys2Proof.Machine

/-- Core cycles in this tick, and the fifths left over: 12.8 at 1.6 GHz, 1.6 while the core coasts (R145, R152, R645). -/
def coreCycles (coasting : Bool) (fifths : Nat) : Nat × Nat :=
  let t := fifths + (if coasting then 8 else 64)
  (t / 5, t % 5)

/-- Whole cycles of a clock of `num` / `den` cycles per tick that end in tick `now`. -/
def tickCycles (num den now : Nat) : Nat := (now + 1) * num / den - now * num / den

/-- Sequencers that wait, each for its context (R650 code 0x27): 3.2 sequencer cycles per tick, 0.4 in coasting. -/
def State.pmuWaiting (s : State) : State :=
  let c := tickCycles (if s.clk.coasting then 2 else 16) 5 s.now
  s.seqs.toList.foldl (fun t q =>
    if q.mode = .waiting then t.pmu 0x27 (q.routine.map Routine.ctx) c else t) s

/-- Controller cycles of a stack in self-refresh (R650 codes 0x75 and 0x7D), at the DRAM PLLs' nominal 1.171875 GHz (log 117). -/
def State.pmuAsleep (s : State) : State :=
  [0, 1].foldl (fun t k => if s.clk.selfRefresh.getLsbD k then t.pmu (0x75 + 8 * k) none (tickCycles 75 8 s.now) else t) s

/-- Contexts whose records wait for ring space (R650 code 0x1F, R381). -/
def State.pmuHeld (s : State) (cycles : Nat) : State :=
  s.rings.foldl (fun t r => if r.2.waiting.isEmpty then t else t.pmu 0x1F (some r.1) cycles) s

/-- A host write held under R305 (R650 code 0x66). -/
def State.pmuHostHeld (s : State) (cycles : Nat) : State :=
  if s.host.halves.toList.any (fun h => !h.heldWrites.isEmpty) then s.pmu 0x66 none cycles else s

/-- Busy vector units (R650 codes 0x58 to 0x5B). -/
def State.pmuVector (s : State) (cycles : Nat) : State :=
  s.seqs.toList.foldl (fun t q =>
    match q.routine with
    | some r =>
      if r.kind = 4 && q.outstanding.any (fun o => decide (o.kind = OutKind.vector) && !o.ended)
      then t.pmu (0x58 + r.resource % 4) (some r.ctx) cycles else t
    | none => t) s

/-- The counters that count time, over one tick. -/
def State.pmuTime (s : State) (cycles : Nat) : State :=
  let s1 := s.pmu 0x00 none cycles
  let s2 := if s1.hzn.counting then s1.pmu 0x01 none 1 else s1
  let s3 := if s2.clk.coasting then s2.pmu 0x03 none cycles else s2
  ((((s3.pmuWaiting.pmuAsleep).pmuHeld cycles).pmuHostHeld cycles).pmuVector cycles)

/-- Slots a segment of whose tiles is being fixed or refixed. -/
def State.fixingSlots (s : State) : List Nat :=
  let tiles := (s.fix.running.toList.flatten.map FixRun.tile) ++ (s.fix.refixes.flatMap Refix.running).map RefixRun.tile
  (tiles.filterMap (fun t => ((SMap.lookup s.tiles t).bind TileSt.owner).bind (fun o =>
    (SMap.lookup s.img.resident o.1).map ResImage.ctx))).eraseDups

/-- Each is charged 2 W for the tick (R566). -/
def State.chargeFixing (s : State) : State := s.fixingSlots.foldl (fun u c => u.addCharge c u.frame 20) s

/-- VCORE's time in range moves on (R329), and free pump slots are taken (R313). -/
def State.pumpTick (s : State) : State :=
  (if s.pwr.railGood.getLsbD 1 then { s with fix := { s.fix with coreTicks := s.fix.coreTicks + 1 } } else s).pumpFillAll

/-- One tick passes. The PMU counts while the control die is out of reset and its clock runs. -/
def State.idleTick (s : State) : State :=
  let s1 := { s with now := s.now + 1, clk := { s.clk with obsHold := s.clk.obsHold - 1 } }
  if s1.blockUp 13 then
    let c := coreCycles s1.clk.coasting s1.coreFrac
    (({ s1 with coreFrac := c.2 }).pmuTime c.1).chargeFixing.pumpTick.hznJudge.imgTick
  else s1.chargeFixing.pumpTick.hznJudge.imgTick

end Sys2Proof.Machine
end

