-- ==== Sys2Proof/Machine/Pins.lean ====
section
/-!
DEFINITION. Sys2Proof/Machine/Pins.lean: what the package drives on its output balls (R72), each computed from the state: FAULT_N,
THROTTLE_N, ALERT_N, the enables, HZN_RET and CLKOBS. HIGHZ and EXTEST of a TAP that runs them put the board's values there instead.
-/

namespace Sys2Proof.Machine

/-- What a ball does. -/
inductive Drive where
  | highZ
  | low
  | high
  /-- A level without edges which the spec does not state (HZN_RET, R92). -/
  | steady
  /-- HZN_RET repeats the received symbol stream (R92). -/
  | repeats
  /-- CLKOBS shows a source of so many kHz divided (R161), high for so many half periods of the source in each output period (R162). -/
  | clock (src kHz division highHalves : Nat)
  /-- CLKOBS shows one pulse at every so many marks or rounds (R161). -/
  | pulses (src every : Nat)
  /-- The TAP's boundary register drives the ball (R658). -/
  | scanned
  /-- A transmitter in electrical idle (R72). -/
  | idle
  /-- Driven as the link's protocol has it (PCIe, the fabric, the sideband, the TAP's shifted bits). -/
  | protocol
  /-- One M-Bus unit load, and the answers of R542 (R72). -/
  | busLoad
  deriving DecidableEq, Repr

/-- A boundary-scan instruction that takes the balls with output cells: EXTEST and CLAMP drive them, HIGHZ releases them (R658, R659). -/
def State.scanDrive (s : State) : Option Drive :=
  if s.tapCtl.instr = 3 ∨ s.tapCtl.instr = 4 then some .scanned else if s.tapCtl.instr = 5 then some .highZ else none

/-- FAULT_N, from the island: low in DAWN_FAIL, and while a fault is flagged (R72, R120, R130, R138, R637). -/
def State.pinFault (s : State) : Drive :=
  if s.pwr.vauxIn && (s.pwr.state == .dawnFail || s.pwr.faultLow) then .low else .highZ

/-- THROTTLE_N: low in OVERCAST (R72, R144, R632). -/
def State.pinThrottle (s : State) : Drive :=
  s.scanDrive.getD (if s.pwr.state = .overcast ∧ s.controlUp = true then .low else .highZ)

/-- ALERT_N: low while an alert is pending (R72, R135, R512). -/
def State.pinAlert (s : State) : Drive := s.scanDrive.getD (if s.alertLow then .low else .highZ)

/-- An EN_ ball: high while the island holds it up, high-impedance without VAUX (R67, R68). -/
def State.pinEnable (s : State) (k : Fin 6) : Drive :=
  if !s.pwr.vauxIn then .highZ else if s.pwr.enables.getLsbD k.val then .high else .low

/-- HZN_RET (R72, R92, R100): high-impedance in reset and on a package that enters BENCH; it repeats while the horizon PLL is locked
and the receiver is not forced DARK. -/
def State.pinRet (s : State) : Drive :=
  s.scanDrive.getD
    (if !s.controlUp || s.get R.GEN_TOPO_bench == 1 then .highZ
     else if s.hznPll && s.get R.HZN_CTRL_rx_en == 1 then .repeats else .steady)

/-- VIO is in its range. -/
def State.vioGood (s : State) : Bool := s.pwr.vauxIn && s.pwr.railGood.getLsbD 0

/-- TDO: driven in Shift-DR and Shift-IR alone, while VIO is in range (R72). A TAP command of the table shifts within one step. -/
def State.pinTdo (s : State) (shifting : Bool) : Drive := if s.vioGood && shifting then .protocol else .highZ

/-- FTX of a fabric port: electrical idle while the port is DARK (R72, R127). -/
def State.pinFtx (s : State) (n : Fin 12) : Drive :=
  if !s.pwr.vauxIn then .highZ
  else s.scanDrive.getD (if !s.controlUp || (s.port n.val).state == .dark then .idle else .protocol)

/-- HTX of a host half: electrical idle before dawn step 3 and after the commit step of dusk (R72, R127, R136). -/
def State.pinHtx (s : State) : Drive :=
  if !s.pwr.vauxIn then .highZ else s.scanDrive.getD (if s.hostPhy then .protocol else .idle)

/-- SB_SCL and SB_SDA: released but for the answers of the sideband protocol, which an unpowered package never gives (R72, R127). -/
def State.pinSb (s : State) : Drive := if !s.pwr.vauxIn then .highZ else s.scanDrive.getD .protocol

/-- MBUS_A and MBUS_B: one unit load; answers while the island runs (R72). -/
def State.pinMbus (s : State) : Drive := if s.isl.mode = .cold then .highZ else .busLoad

/-- The frequency of a clock source now: the core clock coasts at 200 MHz (R152, R161). -/
def State.obsNow (s : State) (src : Nat) : Nat := if src = 2 ∧ s.clk.coasting = true then 200000 else obsFreq src

/-- Half source periods for which a divided output is high: half the output period for an even division, `(d + 1) / 2` periods for an
odd one above 1, and the source itself undivided (R162). -/
def obsHigh (d : Nat) : Nat := if d = 1 then 1 else if d % 2 = 0 then d else d + 1

/-- A CLKOBS source whose clock is stopped (R163). The core clock never is: it coasts. -/
def State.obsStopped (s : State) (src : Nat) : Bool :=
  if src = 1 then !s.clk.refPresent
  else if 3 ≤ src ∧ src ≤ 6 then !s.clk.locked.getLsbD 1 || s.clk.gated.getLsbD 6
  else if src = 7 ∨ src = 8 then !s.clk.locked.getLsbD (src - 5)
  else if src = 9 then !s.clk.locked.getLsbD 5
  else false

/-- CLKOBS (R161–R163). -/
def State.pinClkobs (s : State) : Drive :=
  let src := s.get R.CLK_OBS_src
  let division := s.get R.CLK_OBS_div + 1
  s.scanDrive.getD <|
  if !s.powered || s.get R.CLK_OBS_en = 0 then .highZ
  else if src = 0 || decide (0 < s.clk.obsHold) || s.obsStopped src then .low
  else if src ≤ 9 then .clock src (s.obsNow src) division (obsHigh division)
  else .pulses src division

end Sys2Proof.Machine
end

