-- ==== Sys2Proof/Safety.lean ====
section
/-!
DEFINITION. Sys2Proof/Safety.lean: the terms in which statements say what a command changes, and what counts as a sound state.
-/

namespace Sys2Proof.Machine

/-- Everything but the register file is the same. -/
def OnlyRegs (s t : State) : Prop := t = { s with regs := t.regs }

/-- Everything but the register file, what is emitted, and the halves is the same: what an interrupt's vector and an event's count
can change. -/
def OnlySignals (s t : State) : Prop := t = { s with regs := t.regs, out := t.out, host := t.host }

/-- Everything but what is emitted and the halves is the same. -/
def OnlyHost (s t : State) : Prop := t = { s with out := t.out, host := t.host }

/-- The command emits `o`, and nothing else of the state differs. -/
def Emits (c : Instr) (o : Out) (s : State) : Prop := exec c s = .next (s.emit o)

/-- The halves other than `h` are as they were. -/
def OtherHalf (h : Fin 2) (s t : State) : Prop := ∀ k : Fin 2, k ≠ h → t.half k = s.half k

/-- Half `h` is `x`, but for vectors that pend on it. -/
def HalfIs (h : Fin 2) (x : HalfSt) (t : State) : Prop := t.half h = { x with pba := (t.half h).pba }

/-- The halves other than `h` are as they were, but for vectors that pend on them. -/
def OthersPend (h : Fin 2) (s t : State) : Prop := ∀ k : Fin 2, k ≠ h → HalfIs k (s.half k) t

/-- Every register field but those listed reads as before. -/
def FieldsBut (l : List Fld) (s t : State) : Prop := ∀ g : Fld, (∀ f ∈ l, g.key ≠ f.key) → t.get g = s.get g

/-- The command changes the listed register fields and nothing else. -/
def Writes (l : List Fld) (s t : State) : Prop := OnlyRegs s t ∧ FieldsBut l s t

/-- Every byte of device memory reads as before. -/
def SameMem (s t : State) : Prop := ∀ a, Memory.get t.mem a = Memory.get s.mem a

/-- Every byte of device memory outside `[a, a + n)` reads as before. -/
def SameMemBut (a n : Nat) (s t : State) : Prop := ∀ b, b < a ∨ a + n ≤ b → Memory.get t.mem b = Memory.get s.mem b

/-- A field of the PMU block, where an event that is counted may move a counter. -/
abbrev inPmu (g : Fld) : Prop := 32 * 0x2A0000 ≤ g.key ∧ g.key < 32 * 0x2B0000

/-- Every register field outside the PMU block but those listed reads as before. -/
def FieldsButPmu (l : List Fld) (s t : State) : Prop := ∀ g : Fld, ¬ inPmu g → (∀ f ∈ l, g.key ≠ f.key) → t.get g = s.get g

/-- The command changes the listed register fields, and else only what vectors and event counts change. -/
def Signals (l : List Fld) (s t : State) : Prop := OnlySignals s t ∧ FieldsButPmu l s t

/-- Offsets of BAR0 registers outside the PMU block whose write does what the access codes of their fields say and nothing else
(R15): event bits, settings, and read-only words. -/
def plainRegs : List Nat :=
  [0x40, 0x104, 0x10008, 0x20010, 0x3001C, 0x40008, 0x4000C, 0x40010, 0x40014, 0x40018, 0x4001C, 0x40024, 0x40060, 0x100000, 0x100004,
   0x10000C, 0x100110, 0x10012C, 0xC0004, 0xC0008, 0xC000C, 0xC0010, 0xC0024, 0x1B0004, 0x1B0018, 0x1B001C, 0x1C4114, 0x20000C,
   0x200014, 0x270008, 0x270010, 0x270014, 0x270018, 0x270030, 0x270034, 0x28006C, 0x302004]

/-- A field after a write of `v` to its register by the access codes of R15. -/
def TakesWrite (f : Fld) (v : Nat) (s t : State) : Prop :=
  (f.acc = .RW → t.get f = bits v f.lo f.w) ∧
  (f.acc = .W1C → ∀ i, i < f.w → bitAt (t.get f) i = (bitAt (s.get f) i && !bitAt v (f.lo + i))) ∧
  (f.acc = .RO → ∀ i, i < f.w → bitAt (t.get f) i = bitAt (s.get f) i)

/-- A field of a tile's map. -/
abbrev inTile (k : Nat) (g : Fld) : Prop := 32 * (0x1000000 + 0x10000 * k) ≤ g.key ∧ g.key < 32 * (0x1010000 + 0x10000 * k)

/-- Every register field outside the PMU block and the maps of the listed tiles, but those listed, reads as before. -/
def FieldsButTiles (ks : List Nat) (l : List Fld) (s t : State) : Prop :=
  ∀ g : Fld, ¬ inPmu g → (∀ k ∈ ks, ¬ inTile k g) → (∀ f ∈ l, g.key ≠ f.key) → t.get g = s.get g

/-- Tiles other than those listed are as they were behind their registers. -/
def OtherTiles (ks : List Nat) (s t : State) : Prop := ∀ k, k ∉ ks → t.tile k = s.tile k

/-- Sequencer `q` runs routine `r` and has the micro-word `m`, of good parity, at its address, with nothing latched before it. -/
def Fetched (s : State) (q : Fin 16) (r : Routine) (m : MicroWord) : Prop :=
  s.blockUp 5 = true ∧ (s.seq q.val).checked = false ∧ (s.seq q.val).mode = .running ∧ (s.seq q.val).issue = none ∧
    (s.seq q.val).routine = some r ∧ ∃ w, s.microWord r (s.seq q.val).pc = some w ∧ microSyndrome w = 0 ∧ MicroWord.ofNat w = m

/-- A command of sequencer `q` replaces its registers by `y`, and the word it ran is counted for the context of `r`. -/
def Becomes (c : Instr) (q : Fin 16) (r : Routine) (y : SeqSt) (s : State) : Prop :=
  exec c s = .next ((s.pmu 0x26 (some r.ctx) 1).setSeq q.val y)

/-- Sequencers other than `q` are as they were. -/
def OtherSeqs (q : Fin 16) (s t : State) : Prop := ∀ k : Fin 16, k ≠ q → t.seqs[k] = s.seqs[k]

/-- The command answers a next state in which the listed fields read 0 and nothing else of the state differs. -/
def Clears (c : Instr) (l : List Fld) (s : State) : Prop :=
  ∃ t, exec c s = .next t ∧ Writes l s t ∧ ∀ f ∈ l, t.get f = 0

/-- The command answers a next state in which the field reads `v` and nothing else of the state differs. -/
def Sets (c : Instr) (f : Fld) (v : Nat) (s : State) : Prop :=
  ∃ t, exec c s = .next t ∧ Writes [f] s t ∧ t.get f = v

/-- Bit `b` of a register field is set. -/
def BitSet (s : State) (f : Fld) (b : Nat) : Prop := bitAt (s.get f) b = true

/-- The store of device memory is in its canonical form. -/
def Sound (s : State) : Prop := Memory.wf s.mem = true

end Sys2Proof.Machine
end

