-- ==== Sys2Proof/WellFormed.lean ====
section
/-!
DEFINITION. Sys2Proof/WellFormed.lean: what a command must be beyond its operands' types: the alignment, range and type rules of the spec
that name the command.
-/

namespace Sys2Proof

/-- A BAR0 offset of an aligned 32-bit access (R18). -/
def wordOffset (off : BitVec 22) : Bool := off.toNat % 4 == 0

/-- A host address of a 64-byte line (R489, R490). -/
def lineAddress (hpa : BitVec 52) : Bool := hpa.toNat % 64 == 0

/-- The type of a horizon message, its byte 0 (R90). -/
def messageType (msg : Vector Byte 32) : Nat := (msg[0]).toNat

/-- The type of a fabric transaction, bits [3:0] of its header (R453). -/
def txnType (txn : Vector Byte 80) : Nat := (txn[0]).toNat % 16

/-- The sideband command codes of R509. -/
def sidebandCodes : List Nat := [0x00, 0x10, 0x11, 0x12]

/-- A command that can arise: every check a command's own rules make on its operands alone. -/
def WellFormed (i : Instr) : Bool :=
  match i with
  | .registerWrite _ off _ => wordOffset off
  | .eventEnableWrite _ off _ => wordOffset off
  | .loWordRead _ off => wordOffset off
  | .assignMessage msg => messageType msg == 1
  | .delayMessage msg => messageType msg == 2
  | .statusMessage msg => messageType msg == 3
  | .unknownMessage msg => messageType msg == 0 || decide (3 < messageType msg)
  | .fabricWrite _ txn => txnType txn == 1
  | .cadd _ txn => txnType txn == 2
  | .signal _ txn => txnType txn == 3
  | .resp _ txn => txnType txn == 4
  | .weightWrite _ hpa _ _ => lineAddress hpa
  | .weightRead _ hpa => lineAddress hpa
  | .cxlMemRead _ hpa ecc => lineAddress hpa && decide (ecc.toNat < 3)
  | .cxlMemWrite _ hpa _ _ _ => lineAddress hpa
  | .ctxReservedOp op _ => op == 0 || op == 7
  | .setBaudRate _ _ ci => decide (0xB8 ≤ ci.toNat ∧ ci.toNat ≤ 0xBF)
  | .segmentDone _ attempts _ verified _ => !verified || decide (attempts.toNat ≤ 2)
  | .contextMark _ frames _ => decide (1 ≤ frames.toNat)
  | .pmuTriggerArm _ action => action != 0
  | .pmuOverflow _ inc => decide (1 ≤ inc.toNat ∧ inc.toNat ≤ 32768)
  | .sbUnknownCommand code => !(sidebandCodes.contains code.toNat)
  | .misalignedAccess _ _ _ | .vauxInRange _ | .vauxLoss | .enVioRise | .railGood _ | .enableRise | .railUnexpected _ _
  | .powerFault _ _ | .enableFall | .railFallTimeout _ _ | .rcStartTimeout | .perstRelease _ | .perstAssert | .dawnPllsLocked
  | .islandHandshake | .dramLinkTrained | .dramInitDone | .dataWindowCleared | .stage2Checked | .arrayLinkTrained _ _
  | .patchChecked | .dawnTimeout | .dawnRetry _ | .duskRestart _ | .warmReset _ | .warmResetDone | .duskRequest _ _
  | .quiesceDone | .quiesceDeadline | .duskCommitDone | .pwrAckDawn | .pwrAckStop | .islandLinkLoss | .frameMark _ _
  | .localFrameMark | .superframeNumber _ _ | .hznActivity | .hznEdgeLoss | .hznPllLock | .hznPllUnlock | .acquireTimeout
  | .hznRxDisable | .hznRxEnable | .hznClrCounts | .gapStart _ | .admissionPass | .deadlineRefusal | .hrefclkLoss
  | .hrefclkRestore | .pllUnlock _ | .pllLock _ | .relockAttempt _ | .clkGateRequest _ | .clkUngate _ | .clkobsSelect _
  | .clkClrCounts | .trimWindowEnd _ _ | .xtalFail | .xtalRecover | .imgStart | .imgChecksDone | .imgQuiesceDone
  | .imgInstallDone | .imgUnload | .imgAbort | .expose _ | .exposureStart _ | .operandArrival _ | .exposureDevelop _
  | .aeWindowEnd _ | .fogWindowLatch _ | .tileDataRead | .tileDataWrite _ | .tileTestStart _ | .tileTestDone | .chainAdd _
  | .sliceMerge _ | .output _ | .outputRunDone _ | .compAdd _ _ | .weightWriteRelease _ | .weightReadSense _
  | .weightReadStale _ | .segmentStart _ | .tileEraseDone _ _ _ _ | .tileRefixReq _ | .refixDone _ _ | .tileAgeHour
  | .staticDispatch _ _ | .dynamicDispatch _ | .next _ | .ldc _ | .lda _ | .adda _ | .jmp _ | .jsr _ | .rts _ | .loop _
  | .bcond _ | .wait _ | .waitFire _ | .waitd _ | .seqEnd _ | .reservedCode _ | .nop _ | .load _ | .fsend _ | .frecv _
  | .vector _ | .syncNanoSignal _ | .syncNanoTest _ | .reservedNanoKind _ | .seqCommandDone _ _ | .spanEnd _ | .seqArm _
  | .seqDisarm _ | .seqHalt _ | .seqRun _ | .seqClrCounts _ | .seqMcClear _ | .sqDoorbell _ _ | .descExpose _ | .descOutput _
  | .matvec _ | .schedule _ | .send _ | .copy _ | .convert _ | .eltwise _ | .activate _ | .softmax _ | .norm _
  | .digitalMatvec _ | .descSync _ | .routine _ | .descReservedOpcode _ | .cqDoorbell _ _ | .ringEnable _ | .ringDisable _
  | .create _ | .save _ | .saveQuiesced _ | .restore _ | .release _ | .releaseDrained _ | .abort _ | .discard
  | .syncSignal _ _ | .syncValWrite _ _ | .syncTimerArm _ _ _ | .syncTimerFire _ | .syncClrCounts | .portDetect _
  | .laneSignal _ | .equaliseDone _ | .trainingBlock _ _ _ _ | .gen2EqTimeout _ | .trainingTimeout _ | .trainingRetry _
  | .fabPortRetrain _ | .fabPortDisable _ | .fabPortEnable _ | .flitReceive _ _ _ | .flitTransmit _ | .retrain _
  | .retrainTimeout _ | .respTallyFlush _ _ | .transferTimeout _ | .fabClrCounts | .hostLinkUp _ _ _ _ | .hostLinkDown _
  | .hotReset _ | .flr _ | .cxlReset _ | .cxlResetDone | .configRequest _ _ | .hdmCommit _ _ _ _ _ _ | .powerStateChange _ _
  | .identify _ | .getEventRecords _ _ | .clearEventRecords _ _ _ | .getEventInterruptPolicy _ | .setEventInterruptPolicy _ _
  | .getFwInfo _ | .getTimestamp _ | .setTimestamp _ _ | .getSupportedLogs _ | .getLog _ _ _ _ | .identifyMemoryDevice _
  | .getPartitionInfo _ | .getHealthInfo _ | .getPoisonList _ _ _ | .cxlMboxUnsupported _ _ | .cdatRead _
  | .spdmNegotiate _ _ _ | .getDigests _ | .getCertificate _ _ _ _ | .challenge _ _ _ | .getMeasurements _ _ _
  | .keyExchange _ _ | .finish _ _ _ | .keyUpdate _ _ | .endSession _ _ | .keyProg _ _ _ _ | .kSetGo _ _ _ | .ideFail _
  | .hostReq | .hostClrCounts | .sbIdentity | .sbRead _ | .sbWrite _ _ _ | .sbLastStatus | .alertResponse | .setdasa _ _
  | .entdaa _ | .rstdaa | .getpid | .getbcr | .getdcr | .getstatus | .getmwl | .getmrl | .sbSclTimeout | .vholdExhausted
  | .budgetSample _ _ _ | .journalCommit _ | .battLow | .battNewCell | .islandBoot | .getInfo _ | .regRead _ | .regWrite _
  | .fwWrite _ | .fwCommit _ | .fwActivate _ | .sealAdvance _ | .revoke _ | .provision _ | .mboxUnknownCommand _
  | .islClrCounts | .sndNke _ _ | .reqUd2 _ _ _ | .reqUd1 _ _ | .applicationReset _ _ | .setPrimaryAddress _ _ _
  | .selection _ _ | .mbusFrameDiscard | .flowMeasurement _ _ _ | .swapBlockEnd _ | .flowCycleEnd | .tempCycleEnd _
  | .railSample _ | .standbyWake _ | .bindingMessage _ _ _ _ _ _ | .islandFrameMark _ | .markExpiry | .heatSplit | .rtcSecond
  | .rtcSet _ | .intervalEnd | .calWrite _ _ | .calLock | .mtrClrCounts | .program _ _ _ | .erase _ _ | .eraseDone _
  | .suspend | .resume | .blankCheck _ _ | .massErase | .option _ | .flsHostRead _ | .protRaise _ _ | .protLower _
  | .flsClrCounts | .patrol _ | .eraseAhead | .housekeepingRound _ _ _ | .thmThrWrite _ _ | .thmPairWrite _ _ | .thmLock
  | .thmClrCounts | .pmuStart _ | .pmuStop _ | .pmuSnap _ | .pmuClr _ | .pmuCfgWrite _ _ | .pmuCntWrite _ _ _
  | .pmuTriggerFire _ | .flogClear | .tapReset | .bypass _ | .idcode _ | .samplePreload _ | .extest _ | .clamp _ | .highz _
  | .dbgRead _ | .dbgWrite _ _ | .symbolError _ | .lossOfSignal _ | .clkUngateDone _ | .msixVectorUnmask _ _
  | .doeDiscovery _ _ => true

end Sys2Proof
end

