-- ==== Sys2Proof/Certificates/Slice0/Obligations.lean ====
section
/-!
DEFINITION. Sys2Proof/Certificates/Slice0/Obligations.lean: the statements about the model.
-/

open Sys2Proof Sys2Proof.Machine

/-- For every command c and state s, a step of s with c at the front of its queue is exec of c on s with the queue's rest. -/
def Obligations.StepRunsFront : Prop :=
  ∀ (c : Instr) (rest : List Instr) (s : State), s.pending = c :: rest → step s = exec c { s with pending := rest }

/-- On an empty queue a step answers a next state: the elapsed time has moved on by one nominal tick of 8 ns and the queue is still empty.
Where the receiver judges no expected mark in this tick, the package state, the receiver, the sequencers, the descriptors and device
memory are as they were, and so are the tiles where none waits for a slot of its die's pump. That a tick passes there is the model's
choice, log 5, as are the instant of the judging, log 29, and the taking of pump slots at every tick, log 140. -/
def Obligations.IdleTickPasses : Prop :=
  ∀ s : State, s.pending = [] → ∃ t, step s = .next t ∧ t.now = s.now + 1 ∧ t.pending = [] ∧
    (s.controlUp = false ∨ s.hzn.counting = false ∨ s.isBench = true ∨ s.now ≠ s.hzn.markAt + 1 →
      t.pwr = s.pwr ∧ t.hzn = s.hzn ∧ t.seqs = s.seqs ∧ t.descs = s.descs ∧ t.mem = s.mem ∧
      ((∀ d : Fin 4, s.slotWaiters d.val = []) → t.tiles = s.tiles))

/-- After reset every register field holds the reset value of its register table, nothing waits in the queue, device memory lists no
byte, and the package is OFF with no rail good and its control die in reset. That the state after reset is the unpowered package is
the model's choice, log 1; a field whose reset the tables leave open holds 0, log 2. -/
def Obligations.ResetRegisters : Prop :=
  (∀ f : Fld, State.reset.get f = f.rst) ∧ State.reset.pending = [] ∧ State.reset.mem = [] ∧ State.reset.pwr.state = .off ∧
    State.reset.pwr.railGood = 0 ∧ State.reset.pwr.released = false ∧
    State.reset.get R.CLK_GATE_en = 0x7FFF ∧ State.reset.get R.HOST_SB_ALERT_EN = 1 ∧ State.reset.get R.OSC_TRIM_code = 256 ∧
    State.reset.get R.HZN_CTRL_rx_en = 1

/-- No command of the table ends in a fault or a refusal: in every state each answers a next state. -/
def Obligations.EveryCommandAnswers : Prop :=
  ∀ (c : Instr) (s : State), ∃ t, exec c s = .next t

/-- From every state whose device memory is in canonical form (addresses strictly rising, no entry equal to what an unlisted byte
reads as), whatever command is at the front of the queue, and on an empty queue, the next state's device memory is in canonical
form. -/
def Obligations.StepKeepsMemoryCanonical : Prop :=
  ∀ s t : State, Sound s → step s = .next t → Sound t

/-- The state after reset meets the invariant that every step keeps. -/
def Obligations.ResetMemoryCanonical : Prop := Sound State.reset

/-- Where the control die is out of reset (HZN, CLK, THM, HOST), where the block answers (SEQ, SYNC, FAB), and in every state for the
island's blocks (FLS, MTR, ISL), the command that clears a block's counters answers a next state in which those counters read 0, and
no other register field and nothing else of the state differs. -/
def Obligations.CountersClear : Prop :=
  (∀ s : State, s.controlUp = true → Clears .hznClrCounts [R.HZN_ERR0_symbol_errors, R.HZN_ERR0_number_crc_errors,
    R.HZN_ERR1_missing_marks, R.HZN_ERR1_msg_crc_errors, R.HZN_ERR1_msg_rejected, R.HZN_ERR1_coast_entries] s) ∧
  (∀ s : State, s.controlUp = true → Clears .clkClrCounts [R.CLK_CNT_ref_losses, R.CLK_CNT_relock_fails,
    R.CLK_CNT_forced_exposures] s) ∧
  (∀ s : State, s.controlUp = true → Clears .thmClrCounts [R.THM_CNT0_overcast_entries, R.THM_CNT0_steps,
    R.THM_CNT1_static_over_frames, R.THM_CNT1_rec_suppressed] s) ∧
  (∀ s : State, s.controlUp = true → Clears .hostClrCounts [R.HOST_CNT0_poison_reads, R.HOST_CNT0_poison_writes,
    R.HOST_CNT1_corrected, R.HOST_CNT1_unclaimed, R.HOST_SB_CNT_pec_errors, R.HOST_SB_CNT_denied] s) ∧
  (∀ (q : Fin 16) (s : State), s.blockUp 5 = true → Clears (.seqClrCounts q) [R.SEQ_CNT0_skipped_busy q.val,
    R.SEQ_CNT0_late_fires q.val, R.SEQ_CNT1_overruns q.val, R.SEQ_CNT1_mc_lost q.val] s) ∧
  (∀ s : State, s.blockUp 9 = true → Clears .syncClrCounts [R.SYNC_CNT_dropped_remote, R.SYNC_CNT_late_timers] s) ∧
  (∀ s : State, s.blockUp 10 = true → Clears .fabClrCounts
    ([R.FAB_DROP0_job_drops, R.FAB_DROP0_addr_drops, R.FAB_DROP1_hop_drops, R.FAB_DROP1_malformed, R.FAB_DROP1_late_resps,
      R.FAB_XFER_resp_timeouts] ++ (List.range 12).flatMap (fun n => [R.FAB_PORT_CNT0_naks n, R.FAB_PORT_CNT0_retrains n,
      R.FAB_PORT_CNT1_fec_corrected n, R.FAB_PORT_CNT2_credit_stall n, R.FAB_PORT_TRAIN_attempts n])) s) ∧
  (∀ s : State, Clears .flsClrCounts [R.FLS_ECC_CNT_corrected, R.FLS_ECC_CNT_uncorrectable, R.FLS_CNT_commits,
    R.FLS_CNT_recoveries, R.FLS_CNT2_suspends, R.FLS_CNT2_deferred] s) ∧
  (∀ s : State, Clears .mtrClrCounts [R.MTR_CH_CNT_invalid 0, R.MTR_CH_CNT_invalid 1, R.MTR_CH_CNT_no_echo 0,
    R.MTR_CH_CNT_no_echo 1, R.MTR_ATTR_merged, R.MTR_ATTR_late, R.MTR_ATTR2_unbound, R.MTR_CAL_CNT] s) ∧
  (∀ s : State, Clears .islClrCounts [R.ISL_CNT_busy_rejects, R.BATT_BUDGET_refusals, R.MBUS_CNT_answered,
    R.MBUS_CNT_discarded] s)

/-- With the SYNC block answering: a signal to an owned object adds its value modulo 65,536; a write of an owned object gives it the
value; arming a timer whose object is owned and whose instant has not passed writes object and value and sets en; an armed timer at
its instant adds its value to its object, clears en and sets SYNC_EVT bit 0. No other register field and nothing else of the state
differs. -/
def Obligations.SyncObjects : Prop :=
  (∀ (obj : BitVec 12) (value : BitVec 16) (s : State), s.blockUp 9 = true → s.syncOwned obj.toNat = true →
    Sets (.syncSignal obj value) (R.SYNC_VAL_value obj.toNat) ((s.syncVal obj.toNat + value.toNat) % 65536) s) ∧
  (∀ (obj : BitVec 12) (value : BitVec 16) (s : State), s.blockUp 9 = true → s.syncOwned obj.toNat = true →
    Sets (.syncValWrite obj value) (R.SYNC_VAL_value obj.toNat) value.toNat s) ∧
  (∀ (k : Fin 16) (obj : BitVec 12) (value : BitVec 16) (s : State), s.blockUp 9 = true → s.syncOwned obj.toNat = true →
    (s.hzn.counting = false ∨ s.horizon ≤ s.timerAt k.val) →
    ∃ t, exec (.syncTimerArm k obj value) s = .next t ∧
      Writes [R.SYNC_TMR_CFG_object k.val, R.SYNC_TMR_CFG_value k.val, R.SYNC_TMR_CFG_en k.val] s t ∧
      t.get (R.SYNC_TMR_CFG_object k.val) = obj.toNat ∧ t.get (R.SYNC_TMR_CFG_value k.val) = value.toNat ∧
      t.get (R.SYNC_TMR_CFG_en k.val) = 1) ∧
  (∀ (k : Fin 16) (obj : BitVec 12) (s : State), s.blockUp 9 = true → s.get (R.SYNC_TMR_CFG_en k.val) = 1 →
    s.get (R.SYNC_TMR_CFG_object k.val) = obj.toNat → s.hzn.counting = true → s.timerAt k.val ≤ s.horizon →
    ∃ t, exec (.syncTimerFire k) s = .next t ∧
      Writes [R.SYNC_VAL_value obj.toNat, R.SYNC_TMR_CFG_en k.val, R.SYNC_EVT] s t ∧
      t.get (R.SYNC_VAL_value obj.toNat) = (s.syncVal obj.toNat + s.get (R.SYNC_TMR_CFG_value k.val)) % 65536 ∧
      t.get (R.SYNC_TMR_CFG_en k.val) = 0 ∧ BitSet t R.SYNC_EVT 0)

/-- On a half whose CXL mailbox answers, IDENTIFY, GET_EVENT_RECORDS, GET_EVENT_INTERRUPT_POLICY, GET_FW_INFO, GET_TIMESTAMP,
GET_SUPPORTED_LOGS, IDENTIFY_MEMORY_DEVICE, GET_PARTITION_INFO, GET_HEALTH_INFO, GET_POISON_LIST and an unsupported opcode each
answer a next state that differs only by the reply emitted: return code 0 (3 for the unsupported opcode) and the payload that the
state gives. The layout of a payload is presumed from the CXL standard (PRESUMED in the log). -/
def Obligations.MailboxReports : Prop :=
  ∀ (h : Fin 2) (s : State), s.cxlMbox h = true →
    Emits (.identify h) (.mailbox h.val 0 [vendorId, s.deviceId, s.revisionId, Config.serial % 2 ^ 64]) s ∧
    (∀ log : Fin 4, Emits (.getEventRecords h log) (.mailbox h.val 0
      (((s.half h).events.filter (fun e => e.log == log.val)).flatMap (fun e => [e.handle, e.what, e.arg]))) s) ∧
    Emits (.getEventInterruptPolicy h) (.mailbox h.val 0 ((s.half h).policy.map BitVec.toNat ++ [s.get R.HOST_IRQ_MAP2_host])) s ∧
    Emits (.getFwInfo h) (.mailbox h.val 0 s.ownLevels) s ∧
    Emits (.getTimestamp h) (.mailbox h.val 0 [if (s.half h).timestamp = 0 then 0
      else ((s.half h).timestamp + 8 * (s.now - (s.half h).timestampAt)) % 2 ^ 64]) s ∧
    Emits (.getSupportedLogs h) (.mailbox h.val 0 [0x0DA9C0B5BF414B788F7996B1623B3F17, 4 * mailboxOpcodes.length]) s ∧
    Emits (.identifyMemoryDevice h) (.mailbox h.val 0 [196, 196, 0, 0]) s ∧
    Emits (.getPartitionInfo h) (.mailbox h.val 0 [196, 0, 0, 0]) s ∧
    Emits (.getHealthInfo h) (.mailbox h.val 0 [b2n (s.tiles.any (fun x => x.2.worn)), s.get R.THM_HOT_temp]) s ∧
    (∀ (addr : BitVec 40) (lines : BitVec 32), Emits (.getPoisonList h addr lines) (.mailbox h.val 0
      ((s.poison.filter (fun l => decide (addr.toNat ≤ 64 * l ∧ 64 * l < addr.toNat + 64 * lines.toNat))).map (64 * ·))) s) ∧
    (∀ opcode : BitVec 16, opcode.toNat ∉ mailboxOpcodes → Emits (.cxlMboxUnsupported h opcode) (.mailbox h.val 3 []) s)

/-- On a half whose CXL mailbox answers: CLEAR_EVENT_RECORDS removes the named records of the named log, all of it for an empty list, and
keeps the other records in order; SET_EVENT_INTERRUPT_POLICY and SET_TIMESTAMP write what they carry; GET_LOG of the Command Effects
Log within its length replies and uses one free value for each opcode. Only the half, the reply and the count of free values
differ. -/
def Obligations.MailboxChanges : Prop :=
  ∀ (h : Fin 2) (s : State), s.cxlMbox h = true →
    (∀ (log : Fin 4) (hs : List (BitVec 16)), ∃ t, exec (.clearEventRecords h log hs) s = .next t ∧ OnlyHost s t ∧ OtherHalf h s t ∧
      t.out = .mailbox h.val 0 [] :: s.out ∧
      (t.half h) = { s.half h with events := (s.half h).events.filter (fun e =>
        !(e.log == log.val && (hs.isEmpty || hs.any (fun n => n.toNat == e.handle % 65536)))) }) ∧
    (∀ policy : Vector Byte 4, ∃ t, exec (.setEventInterruptPolicy h policy) s = .next t ∧ OnlyHost s t ∧ OtherHalf h s t ∧
      t.out = .mailbox h.val 0 [] :: s.out ∧ t.half h = { s.half h with policy := policy.toList }) ∧
    (∀ ns : Word64, ∃ t, exec (.setTimestamp h ns) s = .next t ∧ OnlyHost s t ∧ OtherHalf h s t ∧
      t.out = .mailbox h.val 0 [] :: s.out ∧ t.half h = { s.half h with timestamp := ns.toNat, timestampAt := s.now }) ∧
    (∀ start length : BitVec 16, start.toNat + length.toNat ≤ 4 * mailboxOpcodes.length → ∃ payload,
      exec (.getLog h true start length) s = .next (({ s with freeIx := s.freeIx + mailboxOpcodes.length }).emit (.mailbox h.val 0 payload)) ∧
      payload.length = length.toNat)

/-- On a half that serves configuration requests, DOE_DISCOVERY, CDAT_READ and SPDM_NEGOTIATE of version 1.2 answer; once SPDM is negotiated,
GET_DIGESTS, GET_CERTIFICATE of slot 0, CHALLENGE of slot 0 and GET_MEASUREMENTS answer. Each emits its response and nothing else of
the state differs, but for the negotiation itself. -/
def Obligations.SpdmResponses : Prop :=
  ∀ (h : Fin 2) (s : State), (s.half h).up = true → s.get R.GEN_READY_cfg_ready = 1 →
    (∀ i : Byte, Emits (.doeDiscovery h i) (.doe h.val "DISCOVERY" (toLE 2 (doeProtocol i.toNat).1 ++ toLE 1 (doeProtocol i.toNat).2 ++
      toLE 1 (if i.toNat < 3 then i.toNat + 1 else 0))) s) ∧
    Emits (.cdatRead h) (.doe h.val "CDAT" cdat) s ∧
    (∃ t, exec (.spdmNegotiate h 0x12 true) s = .next t ∧ OnlyHost s t ∧ OtherHalf h s t ∧
      t.half h = { s.half h with negotiated := true } ∧ t.out = .doe h.val "ALGORITHMS" [0x12] :: s.out) ∧
    ((s.half h).negotiated = true →
      Emits (.getDigests h) (.doe h.val "DIGESTS" ([1] ++ toLE 48 (Config.sha384 Config.certChain))) s ∧
      (∀ start length : BitVec 16, start.toNat < Config.certChain.length → Emits (.getCertificate h 0 start length)
        (.doe h.val "CERTIFICATE" ((Config.certChain.drop start.toNat).take length.toNat)) s) ∧
      (∀ nonce : Vector Byte 32, Emits (.challenge h 0 nonce) (.doe h.val "CHALLENGE_AUTH"
        (chainDigest ++ Config.deviceSign (chainDigest ++ nonce.toList))) s) ∧
      (∀ nonce : Vector Byte 32, Emits (.getMeasurements h 0 nonce) (.doe h.val "MEASUREMENTS"
        (toLE 1 s.presentIndices.length ++ Config.deviceSign (toLE 1 s.presentIndices.length ++ nonce.toList))) s) ∧
      (∀ (i : BitVec 8) (nonce : Vector Byte 32), i.toNat ≠ 0 → i.toNat ≠ 0xFF → Emits (.getMeasurements h i nonce)
        (.doe h.val "MEASUREMENTS" (s.blockOf i.toNat ++ Config.deviceSign (s.blockOf i.toNat ++ nonce.toList))) s))

/-- On a half that serves configuration requests and has negotiated SPDM: KEY_EXCHANGE opens a session while fewer than 2 are open;
FINISH with a good check completes it, with a bad one closes it; in a completed session KEY_UPDATE counts an update, END_SESSION
closes it, KEY_PROG on a CXL 3.1 half marks the stream's keys as programmed, and K_SET_GO makes a programmed stream active. Only the
halves, the sessions and what is emitted differ. -/
def Obligations.SpdmSessions : Prop :=
  ∀ (h : Fin 2) (s : State), (s.half h).up = true → s.get R.GEN_READY_cfg_ready = 1 → (s.half h).negotiated = true →
    (∀ exchange : List Byte, s.host.sessions.length < 2 → ∃ t, exec (.keyExchange h exchange) s = .next t ∧ OnlyHost s t ∧
      t.host.sessions = s.host.sessions ++ [⟨h.val, s.host.nextSession, false, 0⟩] ∧ t.host.halves = s.host.halves) ∧
    (∀ (id : BitVec 16) (x : Session), s.session h id.toNat = some x →
      (∃ t, exec (.finish h id true) s = .next t ∧ t = (s.setSession { x with complete := true }).doe h "FINISH_RSP" (toLE 2 x.id)) ∧
      (∃ t, exec (.finish h id false) s = .next t ∧ OnlyHost s t ∧ t.session h id.toNat = none) ∧
      (x.complete = true →
        (∃ t, exec (.keyUpdate h id) s = .next t ∧ OnlyHost s t ∧ t.host.halves = s.host.halves ∧
          t.session h id.toNat = some { x with updates := x.updates + 1 }) ∧
        (∃ t, exec (.endSession h id) s = .next t ∧ OnlyHost s t ∧ t.host.halves = s.host.halves ∧ t.session h id.toNat = none) ∧
        (∀ (mem : Bool) (key : BitVec 256), (s.half h).protocol = 3 → ∃ t, exec (.keyProg h id mem key) s = .next t ∧
          OnlyHost s t ∧ OtherHalf h s t ∧ t.half h = { s.half h with ideKeys := (s.half h).ideKeys ||| ideStream mem } ∧
          t.out = .doe h.val "KP_ACK" [0] :: s.out) ∧
        (∀ mem : Bool, (s.half h).ideKeys &&& ideStream mem ≠ 0 → ∃ t, exec (.kSetGo h id mem) s = .next t ∧
          OnlyHost s t ∧ OtherHalf h s t ∧ t.half h = { s.half h with ideActive := (s.half h).ideActive ||| ideStream mem })))

/-- HOST_LINK_UP on a half that is down, with the host PHY able and a rate, width and protocol it may train at, brings it up with those,
keeps its other items, and sets HOST_EVT link_up of the half. HOST_LINK_DOWN on a half that is up returns its items to reset but for the
held writes, ends its sessions, sets link_down and adds a fault-log entry; an integrity failure of active IDE does the same and sets
ide_fail. A hot reset of a half that is up returns its items to reset and ends its sessions, and does nothing else. FLR resets the base
address, MSI-X and the power state of the half alone. POWER_STATE_CHANGE writes the power state of the half alone. A command for a half
that is down (or, of HOST_LINK_UP, up) changes nothing. In each, vectors may pend on either half, the other half is as it was but for
those, and register fields differ only in HOST_EVT, the fault log's lost count and the PMU block. That a hot reset leaves the half down
until HOST_LINK_UP is the model's reading, log 83. -/
def Obligations.HostLinks : Prop :=
  (∀ (h : Fin 2) (rate : BitVec 2) (width : BitVec 5) (protocol : BitVec 2) (s : State), s.hostPhy = true → (s.half h).up = false →
    (h.val = 0 ∨ s.get R.GEN_STRAP_host_bif = 1) →
    linkOk (s.get R.GEN_STRAP_host_bif == 1) rate.toNat width.toNat protocol.toNat = true →
    ∃ t, exec (.hostLinkUp h rate width protocol) s = .next t ∧ Signals [R.HOST_EVT] s t ∧ BitSet t R.HOST_EVT (2 * h.val + 1) ∧
      HalfIs h { s.half h with up := true, rate := rate.toNat, width := width.toNat, protocol := protocol.toNat } t ∧ OthersPend h s t ∧
      t.host.sessions = s.host.sessions) ∧
  (∀ (h : Fin 2) (s : State), (s.half h).up = true → ∃ t, exec (.hostLinkDown h) s = .next t ∧ BitSet t R.HOST_EVT (2 * h.val) ∧
    HalfIs h { HalfSt.init with heldWrites := (s.half h).heldWrites } t ∧ OthersPend h s t ∧
    t.host.sessions = s.host.sessions.filter (fun x => x.half != h.val) ∧ t.flogSeq = (s.flogSeq + 1) % 65536 ∧
    Signals [R.HOST_EVT, R.GEN_FLOG_STAT_lost] { s with flog := t.flog, flogSeq := t.flogSeq } t) ∧
  (∀ (h : Fin 2) (s : State), (s.half h).up = true → (s.half h).ideActive ≠ 0 → ∃ t, exec (.ideFail h) s = .next t ∧
    BitSet t R.HOST_EVT 6 ∧ BitSet t R.HOST_EVT (2 * h.val) ∧ HalfIs h { HalfSt.init with heldWrites := (s.half h).heldWrites } t ∧
    OthersPend h s t ∧ t.host.sessions = s.host.sessions.filter (fun x => x.half != h.val) ∧
    Signals [R.HOST_EVT, R.GEN_FLOG_STAT_lost] { s with flog := t.flog, flogSeq := t.flogSeq } t) ∧
  (∀ (h : Fin 2) (s : State), (s.half h).up = true → ∃ t, exec (.hotReset h) s = .next t ∧ t = { s with host := t.host } ∧ OtherHalf h s t ∧
    t.half h = { HalfSt.init with heldWrites := (s.half h).heldWrites } ∧
    t.host.sessions = s.host.sessions.filter (fun x => x.half != h.val)) ∧
  (∀ (h : Fin 2) (s : State), (s.half h).up = true → s.get R.GEN_READY_cfg_ready = 1 → exec (.flr h) s = .next (s.setHalf h
    { s.half h with bar := 0, d3 := false, msixEnable := false, msixMask := false, vecMask := BitVec.allOnes 64, msixTable := [], pba := 0 })) ∧
  (∀ (h : Fin 2) (d3 : Bool) (s : State), (s.half h).up = true → s.get R.GEN_READY_cfg_ready = 1 →
    ∃ t, exec (.powerStateChange h d3) s = .next t ∧ Signals [] s t ∧ HalfIs h { s.half h with d3 := d3 } t ∧ OthersPend h s t ∧
      t.host.sessions = s.host.sessions) ∧
  (∀ (h : Fin 2) (d3 : Bool) (s : State), (s.half h).up = false → exec (.hostLinkDown h) s = .next s ∧ exec (.ideFail h) s = .next s ∧
    exec (.hotReset h) s = .next s ∧ exec (.flr h) s = .next s ∧ exec (.powerStateChange h d3) s = .next s) ∧
  (∀ (h : Fin 2) (rate : BitVec 2) (width : BitVec 5) (protocol : BitVec 2) (s : State), (s.half h).up = true →
    exec (.hostLinkUp h rate width protocol) s = .next s)

/-- A configuration request on a half that is up answers retry status before cfg_ready, and its answer after it (the identity words are the
vendor, device and revision of R4 and R485; a base address written is kept above the 4 MiB size; MSI-X control, memory clear and decoder
enable are kept as written); register fields differ only in the PMU block. A commit of decoder d with 1-way interleave, decoders below d
committed and none above, in a range the rule allows, is committed with its base, size and skip, and one in a range it does not allow is
not committed; either emits its outcome. Unmasking a vector of a half in D0 clears its mask bit and no other. HOST_SB_REQ sets alert
bit 4. -/
def Obligations.HostConfiguration : Prop :=
  (∀ (h : Fin 2) (req : CfgReq) (s : State), (s.half h).up = true → s.get R.GEN_READY_cfg_ready = 0 →
    ∃ t, exec (.configRequest h req) s = .next t ∧ Signals [] s t ∧ t.out.head? = some (.config h.val none) ∧ HalfIs h (s.half h) t) ∧
  (∀ (h : Fin 2) (s : State), (s.half h).up = true → s.get R.GEN_READY_cfg_ready = 1 →
    (∀ req : CfgReq, ∃ t, exec (.configRequest h req) s = .next t ∧ Signals [] s t ∧
      (.config h.val (some (s.configDo h req).1)) ∈ t.out ∧ HalfIs h (s.configDo h req).2 t ∧ OthersPend h s t) ∧
    (s.configDo h (.readIdentity false)).1 = 65536 * s.deviceId + 0x1F3C ∧ (s.configDo h (.readIdentity true)).1 = 0x05021000 + s.revisionId ∧
    (∀ enable mask, (s.configDo h (.msixControl enable mask)).2 = { s.half h with msixEnable := enable, msixMask := mask }) ∧
    (∀ enable, (s.configDo h (.memClear enable)).2 = { s.half h with memClear := enable } ∧
      (s.configDo h (.hdmEnable enable)).2 = { s.half h with hdmEnable := enable })) ∧
  (∀ (h : Fin 2) (d : Fin 4) (base size skip : BitVec 52) (s : State), (s.half h).up = true → s.get R.GEN_READY_cfg_ready = 1 →
    2 ≤ (s.half h).protocol → ((s.half h).decoders.toList.take d.val).all Decoder.committed = true →
    ((s.half h).decoders.toList.drop (d.val + 1)).any Decoder.committed = false →
    let fits := hdmFits d.val ((((s.half h).decoders.toList.take d.val).map (fun (x : Decoder) => x.skip + x.size)).sum + skip.toNat) size.toNat
    (fits = true → exec (.hdmCommit h d base size skip 1) s = .next ((s.setHalf h { s.half h with
      decoders := (s.half h).decoders.set d ⟨true, base.toNat, size.toNat, skip.toNat⟩ }).emit (.hdm h.val d.val true))) ∧
    (fits = false → exec (.hdmCommit h d base size skip 1) s = .next ((s.setHalf h { s.half h with
      decoders := (s.half h).decoders.set d ⟨false, 0, 0, 0⟩ }).emit (.hdm h.val d.val false)))) ∧
  (∀ (h : Fin 2) (v : Fin 64) (s : State), (s.half h).up = true → s.get R.GEN_READY_cfg_ready = 1 → (s.half h).d3 = false →
    ∃ t, exec (.msixVectorUnmask h v) s = .next t ∧ Signals [] s t ∧ OthersPend h s t ∧
      HalfIs h { s.half h with vecMask := (s.half h).vecMask &&& ~~~(BitVec.twoPow 64 v.val) } t) ∧
  (∀ s : State, s.controlUp = true → ∃ t, exec .hostReq s = .next t ∧ BitSet t R.HOST_SB_ALERT 4 ∧ t = { s with regs := t.regs, host := t.host } ∧
    t.host.halves = s.host.halves ∧ FieldsBut [R.HOST_SB_ALERT] s t)

/-- On a half that serves CXL.mem, outside a CXL reset: a read of a claimed line of DRAM that is not poisoned returns the 64 stored bytes and
no poison; a read of an address no decoder claims returns poison, counts an unclaimed request and sets HOST_EVT bit 5; a write of a
claimed line of DRAM, with no write held before it and the CMD block's clock running or the line below the command window, stores exactly
the bytes whose enables are 1, and one into the command window of a gated CMD block stores none; memory outside those bytes is unchanged. During a
CXL reset a read returns zeros with poison, and a write stores nothing and is counted as unclaimed. -/
def Obligations.CxlMemAccesses : Prop :=
  (∀ (h : Fin 2) (hpa : BitVec 52) (a : Nat) (s : State), s.memServes h = true → s.claimed h hpa.toNat = some a → a < weightBase →
    s.clk.selfRefresh = 0 → s.poisoned a 64 = false →
    ∃ t, exec (.cxlMemRead h hpa 0) s = .next t ∧ Signals [] s t ∧ t.out.head? = some (.line h.val (s.readMem a 64) false)) ∧
  (∀ (h : Fin 2) (hpa : BitVec 52) (ecc : BitVec 2) (s : State), s.memServes h = true → s.inCxlReset = false →
    s.claimed h hpa.toNat = none →
    ∃ t, exec (.cxlMemRead h hpa ecc) s = .next t ∧ Signals [R.HOST_EVT, R.HOST_CNT1_unclaimed] s t ∧ BitSet t R.HOST_EVT 5 ∧
      t.get R.HOST_CNT1_unclaimed = satAdd R.HOST_CNT1_unclaimed.w (s.get R.HOST_CNT1_unclaimed) 1 ∧
      t.out.head? = some (.line h.val (List.replicate 64 0) true)) ∧
  (∀ (h : Fin 2) (hpa : BitVec 52) (a : Nat) (data : Line) (be : BitVec 64) (s : State), s.memServes h = true →
    s.claimed h hpa.toNat = some a → a < weightBase → s.clk.selfRefresh = 0 → (s.half h).heldWrites = [] →
    (s.clk.gated.getLsbD 7 = false ∨ a < cmdBase →
      ∃ t, exec (.cxlMemWrite h hpa data be false) s = .next t ∧ SameMemBut a 64 s t ∧
        (∀ i : Fin 64, Memory.get t.mem (a + i.val) = if be.getLsbD i.val then data[i] else Memory.get s.mem (a + i.val)) ∧
        Signals [] { s with mem := t.mem, poison := t.poison } t) ∧
    (s.clk.gated.getLsbD 7 = true → cmdBase ≤ a → ∃ t, exec (.cxlMemWrite h hpa data be false) s = .next t ∧ Signals [] s t)) ∧
  (∀ (h : Fin 2) (hpa : BitVec 52) (ecc : BitVec 2) (data : Line) (be : BitVec 64) (s : State), s.memServes h = true → s.inCxlReset = true →
    (∃ t, exec (.cxlMemRead h hpa ecc) s = .next t ∧ Signals [] s t ∧ t.out.head? = some (.line h.val (List.replicate 64 0) true)) ∧
    (∃ t, exec (.cxlMemWrite h hpa data be false) s = .next t ∧ Signals [R.HOST_CNT1_unclaimed] s t ∧
      t.get R.HOST_CNT1_unclaimed = satAdd R.HOST_CNT1_unclaimed.w (s.get R.HOST_CNT1_unclaimed) 1))

/-- After a CXL.mem write of a whole claimed line of DRAM (of the command window where the CMD block's clock runs), a CXL.mem read of the same
address on the same half returns the bytes written and no poison, whatever the line held before and poisoned or not. -/
def Obligations.CxlMemReadAfterWrite : Prop :=
  ∀ (h : Fin 2) (hpa : BitVec 52) (a : Nat) (data : Line) (s : State), s.memServes h = true → s.claimed h hpa.toNat = some a →
    a < weightBase → s.clk.selfRefresh = 0 → (s.half h).heldWrites = [] → (s.clk.gated.getLsbD 7 = false ∨ a < cmdBase) →
    ∃ t u, exec (.cxlMemWrite h hpa data (BitVec.allOnes 64) false) s = .next t ∧ exec (.cxlMemRead h hpa 0) t = .next u ∧
      u.out.head? = some (.line h.val data.toList false)

/-- With the PMU block answering and the package not in DAWN: PMU_START and PMU_STOP set and clear the running bits of the mask; PMU_SNAP
copies each counter of the mask into its snapshot and leaves the other snapshots; PMU_CLR zeroes each counter of the mask and leaves the
others; PMU_CFG_WRITE of a counter that neither runs nor is named by an armed trigger, with a known event and a filter only where the event
has one, takes event, filter and slot; PMU_CNT_WRITE of a stopped counter takes its half. Nothing else of the state differs. -/
def Obligations.PmuCounters : Prop :=
  (∀ (mask : Word) (s : State), s.blockUp 13 = true → ∃ t, exec (.pmuStart mask) s = .next t ∧ Writes [R.PMU_RUN] s t ∧
    ∀ n : Fin 32, bitAt (t.get R.PMU_RUN) n.val = (bitAt (s.get R.PMU_RUN) n.val || bitAt mask.toNat n.val)) ∧
  (∀ (mask : Word) (s : State), s.blockUp 13 = true → s.pwr.state ≠ .dawn → ∃ t, exec (.pmuStop mask) s = .next t ∧
    Writes [R.PMU_RUN] s t ∧ ∀ n : Fin 32, bitAt (t.get R.PMU_RUN) n.val = (bitAt (s.get R.PMU_RUN) n.val && !bitAt mask.toNat n.val)) ∧
  (∀ (mask : Word) (s : State), s.blockUp 13 = true → ∃ t, exec (.pmuSnap mask) s = .next t ∧
    Writes ((List.range 32).flatMap (fun n => [R.PMU_SNAP_LO n, R.PMU_SNAP_HI n])) s t ∧
    ∀ n : Fin 32,
      (bitAt mask.toNat n.val = true → t.get (R.PMU_SNAP_LO n.val) = s.get (R.PMU_CNT_LO n.val) % 2 ^ 32 ∧
        t.get (R.PMU_SNAP_HI n.val) = s.get (R.PMU_CNT_HI n.val) % 2 ^ 16) ∧
      (bitAt mask.toNat n.val = false → t.get (R.PMU_SNAP_LO n.val) = s.get (R.PMU_SNAP_LO n.val) ∧
        t.get (R.PMU_SNAP_HI n.val) = s.get (R.PMU_SNAP_HI n.val))) ∧
  (∀ (mask : Word) (s : State), s.blockUp 13 = true → ∃ t, exec (.pmuClr mask) s = .next t ∧
    Writes ((List.range 32).flatMap (fun n => [R.PMU_CNT_LO n, R.PMU_CNT_HI n])) s t ∧
    ∀ n : Fin 32, t.pmuCount n.val = if bitAt mask.toNat n.val then 0 else s.pmuCount n.val) ∧
  (∀ (n : Fin 32) (v : Word) (s : State), s.blockUp 13 = true → bitAt (s.get R.PMU_RUN) n.val = false → s.pmuNamed n.val = false →
    eventKnown (bits v.toNat 0 8) = true → (bitAt v.toNat 8 = false ∨ eventFilters (bits v.toNat 0 8) = true) →
    ∃ t, exec (.pmuCfgWrite n v) s = .next t ∧ Writes [R.PMU_CFG_event n.val, R.PMU_CFG_ctx_en n.val, R.PMU_CFG_ctx n.val] s t ∧
      t.get (R.PMU_CFG_event n.val) = bits v.toNat 0 8 ∧ t.get (R.PMU_CFG_ctx_en n.val) = bits v.toNat 8 1 ∧
      t.get (R.PMU_CFG_ctx n.val) = bits v.toNat 9 6) ∧
  (∀ (n : Fin 32) (v : Word) (s : State), s.blockUp 13 = true → bitAt (s.get R.PMU_RUN) n.val = false →
    Sets (.pmuCntWrite n false v) (R.PMU_CNT_LO n.val) v.toNat s ∧
    Sets (.pmuCntWrite n true v) (R.PMU_CNT_HI n.val) (v.toNat % 65536) s)

/-- With the PMU block answering: arming trigger k with a non-zero action, its instant not passed, sets its action and armed; a start
trigger that alone is due starts the counters of its mask, clears armed and sets PMU_EVT bit 1, and fields outside the PMU block stay; a
trigger not due does nothing; an increment that carries a running counter with its overflow interrupt off past 2^48 − 1 keeps the low 48
bits and sets its overflow bit. With the control die up, clearing the fault log leaves no entry and a lost count of 0. -/
def Obligations.PmuTriggersAndOverflow : Prop :=
  (∀ (k : Fin 4) (action : BitVec 2) (s : State), s.blockUp 13 = true → action ≠ 0 →
    (s.hzn.counting = false ∨ s.horizon ≤ s.trigAt k.val) →
    ∃ t, exec (.pmuTriggerArm k action) s = .next t ∧ Writes [R.PMU_TRIG_CFG_action k.val, R.PMU_TRIG_CFG_armed k.val] s t ∧
      t.get (R.PMU_TRIG_CFG_action k.val) = action.toNat ∧ t.get (R.PMU_TRIG_CFG_armed k.val) = 1) ∧
  (∀ (k : Fin 4) (s : State), s.blockUp 13 = true → s.hzn.counting = true → s.trigDue = [k.val] →
    s.get (R.PMU_TRIG_CFG_action k.val) = 1 →
    ∃ t, exec (.pmuTriggerFire k) s = .next t ∧ Signals [] s t ∧ t.get (R.PMU_TRIG_CFG_armed k.val) = 0 ∧ BitSet t R.PMU_EVT 1 ∧
      ∀ n : Fin 32, bitAt (t.get R.PMU_RUN) n.val = (bitAt (s.get R.PMU_RUN) n.val || bitAt (s.get (R.PMU_TRIG_MASK k.val)) n.val)) ∧
  (∀ (k : Fin 4) (s : State), (s.hzn.counting = false ∨ s.trigDue.contains k.val = false) → exec (.pmuTriggerFire k) s = .next s) ∧
  (∀ (n : Fin 32) (inc : BitVec 16) (s : State), s.blockUp 13 = true → bitAt (s.get R.PMU_RUN) n.val = true →
    inc.toNat ≤ eventLargest (s.get (R.PMU_CFG_event n.val)) → 2 ^ 48 ≤ s.pmuCount n.val + inc.toNat →
    bitAt (s.get R.PMU_OVF_IRQ_EN) n.val = false →
    ∃ t, exec (.pmuOverflow n inc) s = .next t ∧ Writes [R.PMU_CNT_LO n.val, R.PMU_CNT_HI n.val, R.PMU_OVF] s t ∧
      t.pmuCount n.val = (s.pmuCount n.val + inc.toNat) % 2 ^ 48 ∧ BitSet t R.PMU_OVF n.val) ∧
  (∀ s : State, s.controlUp = true → exec .flogClear s = .next (({ s with flog := [] }).put R.GEN_FLOG_STAT_lost 0))

/-- With the control die up and THM unlocked: an accepted write of THM_THR or THM_RATE takes its fields and restarts the level and rate counts of
every die; a write of THM_PAIRk takes its fields and restarts the suspect counts; THM_LOCK sets the lock. No other register field
differs. -/
def Obligations.ThermalConfiguration : Prop :=
  (∀ (v : Word) (s : State), s.controlUp = true → s.get R.THM_CTRL_lock = 0 → thmAccepts false v.toNat = true →
    ∃ t, exec (.thmThrWrite false v) s = .next t ∧ t.get R.THM_THR_warning = bits v.toNat 0 8 ∧
      t.get R.THM_THR_overcast = bits v.toNat 8 8 ∧ t.get R.THM_THR_shutdown = bits v.toNat 16 8 ∧ t.get R.THM_THR_hyst = bits v.toNat 24 4 ∧
      FieldsBut [R.THM_THR_warning, R.THM_THR_overcast, R.THM_THR_shutdown, R.THM_THR_hyst] s t ∧
      t = { s with regs := t.regs, thm := { s.thm with dies := t.thm.dies } } ∧ (∀ d ∈ t.thm.dies.toList, d.upWarn = 0 ∧ d.upOver = 0 ∧
        d.upShut = 0 ∧ d.downRun = 0 ∧ d.rateUp = 0 ∧ d.rateDown = 0 ∧ d.rateFast = 0)) ∧
  (∀ (v : Word) (s : State), s.controlUp = true → s.get R.THM_CTRL_lock = 0 → thmAccepts true v.toNat = true →
    ∃ t, exec (.thmThrWrite true v) s = .next t ∧ t.get R.THM_RATE_limit = bits v.toNat 0 8 ∧
      t.get R.THM_RATE_imm_margin = bits v.toNat 8 8 ∧ FieldsBut [R.THM_RATE_limit, R.THM_RATE_imm_margin] s t ∧
      t = { s with regs := t.regs, thm := { s.thm with dies := t.thm.dies } } ∧ (∀ d ∈ t.thm.dies.toList, d.upWarn = 0 ∧ d.upOver = 0 ∧
        d.upShut = 0 ∧ d.downRun = 0 ∧ d.rateUp = 0 ∧ d.rateDown = 0 ∧ d.rateFast = 0)) ∧
  (∀ (k : Fin 9) (v : Word) (s : State), s.controlUp = true → s.get R.THM_CTRL_lock = 0 →
    ∃ t, exec (.thmPairWrite k v) s = .next t ∧ t.get (R.THM_PAIR_offset0 k.val) = bits v.toNat 0 16 ∧
      t.get (R.THM_PAIR_slope k.val) = bits v.toNat 16 16 ∧ FieldsBut [R.THM_PAIR_offset0 k.val, R.THM_PAIR_slope k.val] s t ∧
      t = { s with regs := t.regs, thm := { s.thm with dies := t.thm.dies } } ∧ (∀ d ∈ t.thm.dies.toList, d.suspectRun = 0 ∧ d.clearRun = 0)) ∧
  (∀ s : State, s.controlUp = true → Sets .thmLock R.THM_CTRL_lock 1 s)

/-- RWL fields lie in THM (thresholds, rate, pairs) and in MTR (calibration). With the block's lock bit set, a write of any of them changes
nothing and reports nothing, whichever accessor makes it: the commands, a BAR0 write by any accessor, and the island's own register
write. -/
def Obligations.LockedFieldsKeepTheirValue : Prop :=
  (∀ (rate : Bool) (v : Word) (s : State), s.get R.THM_CTRL_lock = 1 → exec (.thmThrWrite rate v) s = .next s) ∧
  (∀ (k : Fin 9) (v : Word) (s : State), s.get R.THM_CTRL_lock = 1 → exec (.thmPairWrite k v) s = .next s) ∧
  (∀ (half : Option (Fin 2)) (off v : Nat) (s : State), s.get R.THM_CTRL_lock = 1 →
    (off = 0x280060 ∨ off = 0x280064 ∨ (0x280080 ≤ off ∧ off < 0x2800A4)) → s.barWrite half off v = s) ∧
  (∀ (off : BitVec 12) (v : Word) (s : State), s.get R.MTR_CAL_LOCK_lock = 1 → exec (.calWrite off v) s = .next s) ∧
  (∀ (o v : Nat) (s : State), s.get R.MTR_CAL_LOCK_lock = 1 → o ∈ calOffsets → o ≠ 0x1C → s.islWrite (0x410000 + o) v = s)

/-- From VIO good, IDENTITY answers 24 bytes. Once sb_ready is set: a READ of an aligned BAR0 offset of a block that answers, outside the
TILE and PMU blocks and CXL areas and no half of a captured pair, answers status 0 and the register's word; LAST_STATUS answers the status
of the last WRITE. Before it, READ, WRITE and LAST_STATUS are NACKed, and so is any other command code. A WRITE on SMBus with a bad PEC is
counted, raises HOST_EVT bit 8, is NACKed and discarded. -/
def Obligations.SidebandAnswers : Prop :=
  (∀ s : State, s.sbUp = true → ∃ t, exec .sbIdentity s = .next t ∧ Signals [] s t ∧
    ∃ b : List Byte, t.out.head? = some (.sideband (some b)) ∧ b.length = 24 ∧ b.head? = some 1) ∧
  (∀ (off : Word) (s : State), s.sbUp = true → s.sbReady = true → off.toNat % 4 = 0 → off.toNat < 0x400000 → barBlock off.toNat ≠ 6 →
    pairLow off.toNat = false → pairLow (off.toNat - 4) = false → (off.toNat < 0x240000 ∨ 0x270000 ≤ off.toNat) →
    s.blockUp (barBlock off.toNat) = true → barBlock off.toNat ≠ 13 →
    ∃ t, exec (.sbRead off) s = .next t ∧ Signals [] s t ∧ t.out.head? = some (.sideband (some (0 :: toLE 4 (s.barWord off.toNat))))) ∧
  (∀ s : State, s.sbUp = true → s.sbReady = true → ∃ t, exec .sbLastStatus s = .next t ∧ Signals [] s t ∧
    t.out.head? = some (.sideband (some [BitVec.ofNat 8 s.host.sbStatus]))) ∧
  (∀ (off : Word) (s : State), s.sbUp = true → s.sbReady = false → Emits (.sbRead off) (.sideband none) s ∧
    Emits .sbLastStatus (.sideband none) s ∧ ∀ (v : Word) (pec : Bool), Emits (.sbWrite off v pec) (.sideband none) s) ∧
  (∀ (code : Byte) (s : State), s.sbUp = true → code.toNat ∉ [0x00, 0x10, 0x11, 0x12] →
    Emits (.sbUnknownCommand code) (.sideband none) s) ∧
  (∀ (off v : Word) (s : State), s.sbUp = true → s.sbReady = true → s.sbI3c = false → ∃ t, exec (.sbWrite off v false) s = .next t ∧
    Signals [R.HOST_SB_CNT_pec_errors, R.HOST_EVT] s t ∧ BitSet t R.HOST_EVT 8 ∧
    t.get R.HOST_SB_CNT_pec_errors = min (s.get R.HOST_SB_CNT_pec_errors + 1) 65535 ∧ t.out.head? = some (.sideband none))

/-- With sb_ready set: a WRITE whose offset is misaligned or beyond 4 MiB leaves status 2; a WRITE outside PWR, THM, ISL and the two alert
registers leaves status 1, is counted, raises HOST_EVT bit 7 and changes nothing else; a WRITE of HOST_SB_ALERT clears the bits written
1 and leaves status 0. An alert response on SMBus while ALERT_N is driven low answers the own address and releases ALERT_N; SB_SCL
held low leaves everything as it is, since no command is under way between two steps. -/
def Obligations.SidebandWrites : Prop :=
  (∀ (off v : Word) (s : State), s.sbUp = true → s.sbReady = true → (off.toNat % 4 ≠ 0 ∨ 0x400000 ≤ off.toNat) →
    ∃ t, exec (.sbWrite off v true) s = .next t ∧ t.host.sbStatus = 2 ∧ Signals [] s t) ∧
  (∀ (off v : Word) (s : State), s.sbUp = true → s.sbReady = true → off.toNat % 4 = 0 → off.toNat < 0x400000 →
    barBlock off.toNat ≠ 1 → barBlock off.toNat ≠ 12 → barBlock off.toNat ≠ 14 → off.toNat ≠ 0x270030 → off.toNat ≠ 0x270034 →
    ∃ t, exec (.sbWrite off v true) s = .next t ∧ t.host.sbStatus = 1 ∧ Signals [R.HOST_SB_CNT_denied, R.HOST_EVT] s t ∧
      BitSet t R.HOST_EVT 7 ∧ t.get R.HOST_SB_CNT_denied = satAdd R.HOST_SB_CNT_denied.w (s.get R.HOST_SB_CNT_denied) 1) ∧
  (∀ (v : Word) (s : State), s.sbUp = true → s.sbReady = true → s.blockUp 11 = true →
    ∃ t, exec (.sbWrite 0x270030 v true) s = .next t ∧ t.host.sbStatus = 0 ∧ Signals [R.HOST_SB_ALERT] s t ∧
      ∀ n : Fin 5, bitAt (t.get R.HOST_SB_ALERT) n.val = (bitAt (s.get R.HOST_SB_ALERT) n.val && !bitAt v.toNat n.val)) ∧
  (∀ s : State, s.sbUp = true → s.sbI3c = false → s.alertLow = true → ∃ t, exec .alertResponse s = .next t ∧ OnlyHost s t ∧
    t.out = .sideband (some [BitVec.ofNat 8 (0x58 + s.sbSlot)]) :: s.out ∧ t.alertLow = false ∧ t.host.halves = s.host.halves) ∧
  (∀ s : State, exec .sbSclTimeout s = .next s)

/-- In I3C mode from VIO good: SETDASA at the static address and ENTDAA give a target that has none its dynamic address, RSTDAA takes it away;
GETPID answers the PID, most significant byte first, GETBCR and GETDCR answer 0x00, and GETSTATUS, GETMWL and GETMRL answer two bytes
that are free values (PRESUMED in the log). -/
def Obligations.I3cTarget : Prop :=
  ∀ s : State, s.sbUp = true → s.sbI3c = true →
    (∀ dyn : BitVec 7, s.get R.HOST_SB_STAT_dyn_valid = 0 →
      (∃ t, exec (.setdasa (BitVec.ofNat 7 s.sbAddress) dyn) s = .next t ∧ (s.sbSlot < 8 →
        Writes [R.HOST_SB_STAT_dyn_addr, R.HOST_SB_STAT_dyn_valid] s t ∧ t.get R.HOST_SB_STAT_dyn_addr = dyn.toNat ∧
        t.get R.HOST_SB_STAT_dyn_valid = 1)) ∧
      (∃ t, exec (.entdaa dyn) s = .next t ∧ t.get R.HOST_SB_STAT_dyn_addr = dyn.toNat ∧ t.get R.HOST_SB_STAT_dyn_valid = 1 ∧
        t = { s with regs := t.regs, out := t.out } ∧ FieldsBut [R.HOST_SB_STAT_dyn_addr, R.HOST_SB_STAT_dyn_valid] s t ∧
        t.out = .sideband (some (s.pidBytes ++ [0, 0])) :: s.out)) ∧
    (∃ t, exec .rstdaa s = .next t ∧ Writes [R.HOST_SB_STAT_dyn_addr, R.HOST_SB_STAT_dyn_valid] s t ∧
      t.get R.HOST_SB_STAT_dyn_addr = 0 ∧ t.get R.HOST_SB_STAT_dyn_valid = 0) ∧
    Emits .getpid (.sideband (some s.pidBytes)) s ∧
    (s.sbSlot < 8 → s.pidBytes = [0x05, 0x4E, 0x48, 0x01, BitVec.ofNat 8 (16 * s.sbSlot), 0x00]) ∧
    Emits .getbcr (.sideband (some [0])) s ∧ Emits .getdcr (.sideband (some [0])) s ∧
    (∃ b : List Byte, b.length = 2 ∧ exec .getstatus s = .next ({ s with freeIx := s.freeIx + 1, out := .sideband (some b) :: s.out })) ∧
    (∃ b : List Byte, b.length = 2 ∧ exec .getmwl s = .next ({ s with freeIx := s.freeIx + 1, out := .sideband (some b) :: s.out })) ∧
    (∃ b : List Byte, b.length = 2 ∧ exec .getmrl s = .next ({ s with freeIx := s.freeIx + 1, out := .sideband (some b) :: s.out }))

/-- A TAP reset returns both TAPs to their reset and touches nothing else. On a TAP whose supply is in range BYPASS captures 0, IDCODE the TAP's
IDCODE, SAMPLE/PRELOAD a free value; EXTEST, CLAMP and HIGHZ, where R660 allows them, load their code. A TAP whose supply is out of
range is passed through and captures 0. Only the TAP, what is emitted
and the count of free values differ. -/
def Obligations.TapInstructions : Prop :=
  (∀ s : State, ∃ t, exec .tapReset s = .next t ∧ t = { s with tapIsl := TapSt.init, tapCtl := TapSt.init }) ∧
  (∀ (island : Bool) (s : State), s.tapUp island = false → Emits (.bypass island) (.tap island 0) s ∧ Emits (.idcode island) (.tap island 0) s ∧
    Emits (.samplePreload island) (.tap island 0) s ∧ Emits (.extest island) (.tap island 0) s ∧ Emits (.clamp island) (.tap island 0) s ∧
    Emits (.highz island) (.tap island 0) s) ∧
  (∀ (island : Bool) (s : State), s.tapUp island = true →
    (∃ t, exec (.bypass island) s = .next t ∧ t = { s with out := .tap island 0 :: s.out, tapIsl := t.tapIsl, tapCtl := t.tapCtl } ∧
      (t.tap island).instr = (if island then 0x3F else 0xFF) ∧ t.tap (!island) = s.tap (!island)) ∧
    (∃ t, exec (.idcode island) s = .next t ∧ t = { s with out := t.out, tapIsl := t.tapIsl, tapCtl := t.tapCtl } ∧
      (t.tap island).instr = 1 ∧ t.tap (!island) = s.tap (!island) ∧
      (s.a0 = false → t.out = .tap island (if island then 0x14808BC7 else 0x14801BC7) :: s.out) ∧
      (s.a0 = true → t.out = .tap island (if island then 0x04808BC7 else 0x04801BC7) :: s.out)) ∧
    (∃ t, exec (.samplePreload island) s = .next t ∧ (t.tap island).instr = 2 ∧ t.tap (!island) = s.tap (!island) ∧
      t = { s with out := .tap island (Config.free s.freeIx) :: s.out, freeIx := s.freeIx + 1, tapIsl := t.tapIsl, tapCtl := t.tapCtl }) ∧
    (s.scanAllowed island = true →
      (∃ t, exec (.extest island) s = .next t ∧ (t.tap island).instr = 3 ∧ (t.tap island).refused = false ∧
        t = { s with out := .tap island (Config.free s.freeIx) :: s.out, freeIx := s.freeIx + 1, tapIsl := t.tapIsl, tapCtl := t.tapCtl } ∧
        t.tap (!island) = s.tap (!island)) ∧
      (∃ t, exec (.clamp island) s = .next t ∧ t = { s with out := .tap island 0 :: s.out, tapIsl := t.tapIsl, tapCtl := t.tapCtl } ∧
        (t.tap island).instr = 4 ∧ (t.tap island).refused = false ∧ t.tap (!island) = s.tap (!island)) ∧
      (∃ t, exec (.highz island) s = .next t ∧ t = { s with out := .tap island 0 :: s.out, tapIsl := t.tapIsl, tapCtl := t.tapCtl } ∧
        (t.tap island).instr = 5 ∧ (t.tap island).refused = false ∧ t.tap (!island) = s.tap (!island))))

/-- EXTEST, CLAMP and HIGHZ are refused on the island TAP unless the control die is in internal reset, and on the control-die TAP unless it is
in internal reset or the package is in BENCH at protection level 0; DBG_READ is refused at level 2, DBG_WRITE at level 1 or 2 or
outside BENCH, both outside a running state. A refused instruction acts as BYPASS, sets the refused bit, is recorded in GEN_DBG_STAT, adds
1 to its saturating count, and leaves every other register field, memory and everything else as it was. -/
def Obligations.TapRefusals : Prop :=
  (∀ (island : Bool) (s : State), s.tapUp island = true → s.controlUp = true → (island = true ∨ s.isBench = false ∨ s.fls.protLevel ≠ 0) →
    ∀ p ∈ [(Instr.extest island, 3), (Instr.clamp island, 4), (Instr.highz island, 5)], ∃ t, exec p.1 s = .next t ∧
      t = { s with regs := t.regs, out := .tap island 0 :: s.out, tapIsl := t.tapIsl, tapCtl := t.tapCtl } ∧
      (t.tap island).instr = bypassCode island ∧ (t.tap island).refused = true ∧ t.tap (!island) = s.tap (!island) ∧
      t.get R.GEN_DBG_STAT_instr = p.2 ∧ t.get R.GEN_DBG_STAT_island = b2n island ∧
      t.get R.GEN_DBG_STAT_refused = satAdd 16 (s.get R.GEN_DBG_STAT_refused) 1 ∧
      FieldsBut [R.GEN_DBG_STAT_instr, R.GEN_DBG_STAT_island, R.GEN_DBG_STAT_refused] s t) ∧
  (∀ (off : BitVec 22) (s : State), s.tapUp false = true → s.controlUp = true → (s.powered = false ∨ 2 ≤ s.fls.protLevel) →
    ∃ t, exec (.dbgRead off) s = .next t ∧ t.tapCtl.instr = 0xFF ∧ t.tapCtl.refused = true ∧ t.get R.GEN_DBG_STAT_instr = 0x40 ∧
      FieldsBut [R.GEN_DBG_STAT_instr, R.GEN_DBG_STAT_island, R.GEN_DBG_STAT_refused] s t ∧ SameMem s t) ∧
  (∀ (off : BitVec 22) (v : Word) (s : State), s.tapUp false = true → s.controlUp = true →
    (s.powered = false ∨ s.isBench = false ∨ 1 ≤ s.fls.protLevel) →
    ∃ t, exec (.dbgWrite off v) s = .next t ∧ t.tapCtl.instr = 0xFF ∧ t.tapCtl.refused = true ∧ t.get R.GEN_DBG_STAT_instr = 0x41 ∧
      FieldsBut [R.GEN_DBG_STAT_instr, R.GEN_DBG_STAT_island, R.GEN_DBG_STAT_refused] s t ∧ SameMem s t)

/-- A permitted DBG_READ of an aligned offset outside the TILE block and the pairs captures the register's word with done set and denied clear;
one of the TILE block captures denied and changes nothing else; a permitted DBG_WRITE of a block closed to the sideband captures denied
and changes nothing else; one of THM_CTRL with the lock bit sets the lock. -/
def Obligations.DebugAccesses : Prop :=
  (∀ (off : BitVec 22) (s : State), s.tapUp false = true → s.powered = true → s.fls.protLevel ≤ 1 → off.toNat % 4 = 0 →
    barBlock off.toNat ≠ 6 → pairLow off.toNat = false → pairLow (off.toNat - 4) = false → (off.toNat < 0x240000 ∨ 0x270000 ≤ off.toNat) →
    s.blockUp (barBlock off.toNat) = true →
    ∃ t, exec (.dbgRead off) s = .next t ∧ t = { s with out := t.out, tapCtl := t.tapCtl } ∧
      t.out = .tap false (s.barWord off.toNat % 2 ^ 32 + 2 ^ 32) :: s.out ∧ t.tapCtl = ⟨0x40, false, s.barWord off.toNat % 2 ^ 32, true, false⟩) ∧
  (∀ (off : BitVec 22) (s : State), s.tapUp false = true → s.powered = true → s.fls.protLevel ≤ 1 → barBlock off.toNat = 6 →
    ∃ t, exec (.dbgRead off) s = .next t ∧ t = { s with out := t.out, tapCtl := t.tapCtl, freeIx := s.freeIx + 1 } ∧
      t.tapCtl.dbgDenied = true ∧ t.tapCtl.instr = 0x40) ∧
  (∀ (off : BitVec 22) (v : Word) (s : State), s.tapUp false = true → s.isBench = true → s.fls.protLevel = 0 →
    sbWritable (4 * (off.toNat / 4)) = false →
    ∃ t, exec (.dbgWrite off v) s = .next t ∧ t = { s with out := t.out, tapCtl := t.tapCtl, freeIx := s.freeIx + 1 } ∧
      t.tapCtl.dbgDenied = true ∧ t.tapCtl.instr = 0x41) ∧
  (∀ s : State, s.tapUp false = true → s.isBench = true → s.fls.protLevel = 0 → s.blockUp 12 = true →
    ∃ t, exec (.dbgWrite 0x280068 1) s = .next t ∧ t.get R.THM_CTRL_lock = 1 ∧ FieldsBut [R.THM_CTRL_lock] s t ∧ t.tapCtl.dbgDenied = false)

/-- REGISTER_WRITE by a half that serves, outside a CXL reset, of a register with no behaviour but its access codes (`plainRegs`), its block
answering: each of its RW fields takes its bits of the value, each W1C field loses exactly the bits written 1, each RO field keeps its
value; other register fields are unchanged but in the PMU block, where the access is counted, and else only vectors and the halves differ.
A write at an offset with no register, or of a block that does not answer, changes no field; one by a half that does not serve changes
nothing. MISALIGNED_ACCESS by a half that serves: a read emits a free value and uses one, and leaves every register field but the PMU's; a
write, outside a CXL reset and where the block answers, leaves every field outside the addressed register as it was, and in a register
with no behaviour but its access codes and no lock its RW fields take their bits of the free value it uses. -/
def Obligations.RegisterWritesByAccessCode : Prop :=
  (∀ (h : Fin 2) (v : Word) (s : State), s.barServes h = true → s.inCxlReset = false → ∀ off ∈ plainRegs, s.blockUp (barBlock off) = true →
    ∃ t, exec (.registerWrite h (BitVec.ofNat 22 off) v) s = .next t ∧ Signals (fieldsAt off) s t ∧
      ∀ f ∈ fieldsAt off, TakesWrite f v.toNat s t) ∧
  (∀ (h : Fin 2) (v : Word) (s : State), s.barServes h = true → s.blockUp 11 = true →
    (∃ t, exec (.registerWrite h 0x270010#22 v) s = .next t ∧
      Signals [R.HOST_IRQ_MAP0_power, R.HOST_IRQ_MAP0_hzn, R.HOST_IRQ_MAP0_clk, R.HOST_IRQ_MAP0_img] s t ∧
      t.get R.HOST_IRQ_MAP0_power = bits v.toNat 0 6 ∧ t.get R.HOST_IRQ_MAP0_hzn = bits v.toNat 8 6 ∧
      t.get R.HOST_IRQ_MAP0_clk = bits v.toNat 16 6 ∧ t.get R.HOST_IRQ_MAP0_img = bits v.toNat 24 6) ∧
    (∃ t, exec (.registerWrite h 0x270008#22 v) s = .next t ∧ Signals [R.HOST_EVT] s t ∧
      ∀ i : Fin 12, bitAt (t.get R.HOST_EVT) i.val = (bitAt (s.get R.HOST_EVT) i.val && !v.getLsbD i.val)) ∧
    (∃ t, exec (.registerWrite h 0x270044#22 v) s = .next t ∧ Signals [] s t)) ∧
  (∀ (h : Fin 2) (off : BitVec 22) (v : Word) (s : State),
    (s.barServes h = false → exec (.registerWrite h off v) s = .next s) ∧
    (s.barServes h = true → s.blockUp (barBlock (4 * (off.toNat / 4))) = false →
      ∃ t, exec (.registerWrite h off v) s = .next t ∧ Signals [] s t)) ∧
  (∀ (h : Fin 2) (off : BitVec 22) (s : State),
    let o := 4 * (off.toNat / 4)
    (s.barServes h = false → ∀ w : Bool, exec (.misalignedAccess h off w) s = .next s) ∧
    (s.barServes h = true →
      (∃ t, exec (.misalignedAccess h off false) s = .next t ∧ t.out.head? = some (.word h.val (Config.free s.freeIx % 2 ^ 32)) ∧
        t.freeIx = s.freeIx + 1 ∧ Signals [] { s with freeIx := t.freeIx } t) ∧
      (s.inCxlReset = false → s.blockUp (barBlock o) = true →
        (∃ t, exec (.misalignedAccess h off true) s = .next t ∧ OnlySignals { s with freeIx := t.freeIx } t ∧
          (t.freeIx = s.freeIx ∨ t.freeIx = s.freeIx + 1) ∧
          ∀ g : Fld, ¬ inPmu g → ¬ (32 * o ≤ g.key ∧ g.key < 32 * o + 32) → t.get g = s.get g) ∧
        (o ∈ plainRegs → governs o = false → ∃ t, exec (.misalignedAccess h off true) s = .next t ∧ t.freeIx = s.freeIx + 1 ∧
          Signals (fieldsAt o) { s with freeIx := t.freeIx } t ∧ ∀ f ∈ fieldsAt o, TakesWrite f (Config.free s.freeIx) s t))))

/-- On a half that serves, outside a CXL reset: a write of any interrupt-enable register whose block answers changes register fields of that
register alone, the PMU block apart. A write of HZN_IRQ_EN gives it bits 0 to 6 of the value, and where a bit is written 1 while its
HZN_EVT bit is set, the vector of HOST_IRQ_MAP0 is sent if its half can send it. -/
def Obligations.EnableWrites : Prop :=
  (∀ (h : Fin 2) (off : BitVec 22) (v : Word) (s : State), s.barServes h = true → s.inCxlReset = false → off.toNat % 4 = 0 →
    s.isEnable off.toNat = true → s.blockUp (barBlock off.toNat) = true →
    ∃ t, exec (.eventEnableWrite h off v) s = .next t ∧ OnlySignals s t ∧
      ∀ g : Fld, ¬ inPmu g → ¬ (32 * off.toNat ≤ g.key ∧ g.key < 32 * off.toNat + 32) → t.get g = s.get g) ∧
  (∀ (h : Fin 2) (v : Word) (s : State), s.barServes h = true → s.inCxlReset = false → s.blockUp 3 = true →
    ∃ t, exec (.eventEnableWrite h 0x30020#22 v) s = .next t ∧ Signals [R.HZN_IRQ_EN] s t ∧ t.get R.HZN_IRQ_EN = bits v.toNat 0 7 ∧
      (Nat.land v.toNat (s.get R.HZN_EVT) ≠ 0 →
        (s.half (s.route (s.get R.HOST_IRQ_MAP0_hzn))).canSend (s.get R.HOST_IRQ_MAP0_hzn) = true →
        Out.msix (s.route (s.get R.HOST_IRQ_MAP0_hzn)).val (s.get R.HOST_IRQ_MAP0_hzn) ∈ t.out))

/-- On a half that serves, outside a CXL reset, where the block answers: a read of the low word of a pair returns the word and captures the
high word for the host, whose two halves share one capture; the captures of the other accessors and of other pairs stay, and so do the
register fields outside the PMU block. In any state in which the host holds a captured high word, a read of the high word by either half
returns the captured value, and in one in which it holds none, the high word itself. -/
def Obligations.LowWordReadCaptures : Prop :=
  (∀ (h : Fin 2) (off : BitVec 22) (s : State), s.barServes h = true → s.inCxlReset = false → off.toNat % 4 = 0 →
    pairLow off.toNat = true → s.blockUp (barBlock off.toNat) = true →
    ∃ t, exec (.loWordRead h off) s = .next t ∧ t.out.head? = some (.word h.val ((s.pmu 0xE5 none 1).barWord off.toNat)) ∧
      t.captured hostAccessor (off.toNat + 4) = some ((s.pmu 0xE5 none 1).barWord (off.toNat + 4)) ∧
      (∀ k o, o < 2 ^ 28 → (k ≠ hostAccessor ∨ o ≠ off.toNat + 4) → t.captured k o = s.captured k o) ∧
      Signals [] { s with caps := t.caps } t) ∧
  (∀ (h : Fin 2) (off : BitVec 22) (s : State), s.barServes h = true → s.inCxlReset = false → off.toNat % 4 = 0 →
    4 ≤ off.toNat → pairLow off.toNat = false → pairLow (off.toNat - 4) = true → s.blockUp (barBlock off.toNat) = true →
    (∀ v, s.captured hostAccessor off.toNat = some v →
      ∃ t, exec (.loWordRead h off) s = .next t ∧ Signals [] s t ∧ t.out.head? = some (.word h.val v)) ∧
    (s.captured hostAccessor off.toNat = none → ∃ t, exec (.loWordRead h off) s = .next t ∧ Signals [] s t ∧
      t.out.head? = some (.word h.val ((s.pmu 0xE5 none 1).barWord off.toNat))))

/-- With the control die up. Running: HZN_ACTIVITY in LOST, or in DARK with rx_en at 1 outside BENCH, enters ACQUIRING; HZN_EDGE_LOSS in
LOCKED outside BENCH enters COASTING with loss 1, HZN_PLL_UNLOCK in LOCKED with loss 2 and the PLL not locked, each with HZN_EVT bit 1, a
count of coast_entries, and a trim window on frame marks spoilt; HZN_PLL_LOCK locks PLL 5; ACQUIRE_TIMEOUT without lock returns to the
state before ACQUIRING; a disable of the receiver clears rx_en, goes DARK and, from LOCKED or COASTING, raises hold cause 3 with loss 6;
an enable sets rx_en; GAP_START in BENCH starts a gap. -/
def Obligations.ReceiverStates : Prop :=
  (∀ s : State, s.controlUp = true → s.running = true →
    (s.hzn.lock = .lost ∨ (s.hzn.lock = .dark ∧ s.get R.HZN_CTRL_rx_en = 1 ∧ s.isBench = false)) →
    ∃ t, exec .hznActivity s = .next t ∧ t.hzn.lock = .acquiring ∧ t.hzn.acqFrom = s.hzn.lock ∧ t.hzn.firstMark = false ∧
      t.hzn.frame = s.hzn.frame ∧ FieldsButPmu [R.HZN_DELAY_offset, R.HZN_EVT] s t ∧
      t = { s with regs := t.regs, out := t.out, host := t.host, hzn := t.hzn }) ∧
  (∀ s : State, s.controlUp = true → s.isBench = false → s.hzn.lock = .locked →
    ∃ t, exec .hznEdgeLoss s = .next t ∧ t.hzn = { s.hzn with lock := .coasting, goodRun := 0, missRun := 0 } ∧
      t.get R.HZN_STAT_last_loss = 1 ∧ t.get R.HZN_STAT_coast_frames = 0 ∧ BitSet t R.HZN_EVT 1 ∧
      t.get R.HZN_ERR1_coast_entries = satAdd R.HZN_ERR1_coast_entries.w (s.get R.HZN_ERR1_coast_entries) 1 ∧
      t.isl = { s.isl with trimSpoilt := s.isl.trimSpoilt || s.get R.OSC_STAT_trim_src == 2 } ∧
      FieldsButPmu [R.HZN_STAT_last_loss, R.HZN_STAT_coast_frames, R.HZN_ERR1_coast_entries, R.HZN_EVT] s t ∧
      t = { s with regs := t.regs, out := t.out, host := t.host, hzn := t.hzn, isl := t.isl }) ∧
  (∀ s : State, s.hznPll = true → s.hzn.lock = .locked →
    ∃ t, exec .hznPllUnlock s = .next t ∧ t.hzn = { s.hzn with lock := .coasting, goodRun := 0, missRun := 0 } ∧ t.hznPll = false ∧
      t.get R.HZN_STAT_last_loss = 2 ∧ t.get R.HZN_STAT_coast_frames = 0 ∧ BitSet t R.HZN_EVT 1 ∧
      t.get R.HZN_ERR1_coast_entries = satAdd R.HZN_ERR1_coast_entries.w (s.get R.HZN_ERR1_coast_entries) 1 ∧
      t.isl = { s.isl with trimSpoilt := s.isl.trimSpoilt || s.get R.OSC_STAT_trim_src == 2 } ∧
      FieldsButPmu [R.HZN_STAT_last_loss, R.HZN_STAT_coast_frames, R.HZN_ERR1_coast_entries, R.HZN_EVT] s t ∧
      t = { s with regs := t.regs, out := t.out, host := t.host, hzn := t.hzn, clk := { s.clk with locked := t.clk.locked }, isl := t.isl }) ∧
  (∀ s : State, s.controlUp = true → s.running = true → s.isBench = false → s.hznPll = false → s.hzn.lock ≠ .dark →
    exec .hznPllLock s = .next { s with clk := { s.clk with locked := s.clk.locked ||| 0x20#8, started := s.clk.started ||| 0x20#8 } }) ∧
  (∀ s : State, s.hzn.lock = .acquiring → s.hznPll = false →
    ∃ t, exec .acquireTimeout s = .next t ∧ t.hzn.lock = s.hzn.acqFrom ∧ t.hzn.firstMark = false ∧ t.hznPll = false ∧
      t = { s with hzn := t.hzn, clk := { s.clk with locked := t.clk.locked } }) ∧
  (∀ s : State, s.controlUp = true → s.isBench = false → (s.hzn.lock = .locked ∨ s.hzn.lock = .coasting) → s.running = true →
    ∃ u : State, exec .hznRxDisable s = .next (u.raiseHold 3) ∧ u.hzn.lock = .dark ∧ u.hznPll = false ∧ u.get R.HZN_CTRL_rx_en = 0 ∧
      u.get R.HZN_STAT_last_loss = 6 ∧ FieldsBut [R.HZN_CTRL_rx_en, R.HZN_STAT_last_loss] s u ∧
      u = { s with regs := u.regs, hzn := u.hzn, clk := { s.clk with locked := u.clk.locked }, descs := u.descs,
                   isl := { s.isl with trimSpoilt := u.isl.trimSpoilt } }) ∧
  (∀ s : State, s.controlUp = true → s.isBench = false → (s.hzn.lock = .dark ∨ s.hzn.lock = .acquiring) →
    ∃ t, exec .hznRxDisable s = .next t ∧ t.hzn.lock = .dark ∧ t.hznPll = false ∧ t.get R.HZN_CTRL_rx_en = 0 ∧
      FieldsBut [R.HZN_CTRL_rx_en] s t ∧
      t = { s with regs := t.regs, hzn := t.hzn, clk := { s.clk with locked := t.clk.locked }, isl := { s.isl with trimSpoilt := t.isl.trimSpoilt } }) ∧
  (∀ s : State, s.controlUp = true → s.isBench = false → Sets .hznRxEnable R.HZN_CTRL_rx_en 1 s) ∧
  (∀ (n : BitVec 7) (s : State), s.isBench = true → ∃ t, exec (.gapStart n) s = .next t ∧ t.hzn = { s.hzn with gapLeft := n.toNat } ∧
    t.get R.HZN_BENCH_gap_frames = n.toNat ∧ FieldsBut [R.HZN_BENCH_gap_frames] s t ∧ t = { s with regs := t.regs, hzn := t.hzn })

/-- With the horizon PLL locked and outside BENCH: the first mark in ACQUIRING starts the count; a mark within a tick in LOCKED is the one
expected at the local mark nearest to now; one farther off is counted missing, once; a mark within a tick in COASTING that is not the
first of its local mark makes the run of good marks longer, and the second restores LOCKED; one farther off loses lock with HZN_EVT bit 2 and,
when running, hold cause 3.
Where the stream is read: a spoilt number is not taken; one whose CRC fails is counted; in LOCKED one that names this frame changes
nothing, and any other loses lock with loss 4, HZN_EVT bits 6 and 2, and hold cause 3 when running; in ACQUIRING a number that follows
none is kept with its frame, and one 64 above the number of 64 frames earlier is valid. A symbol error outside ticks 0 and 2,047 is
counted, and in tick 1 spoils the number, in ticks 3 and 16 to 271 the message. At the local mark of a LOCKED receiver outside BENCH, with
no slew, the frame number moves on by one, a new frame begins now, and the rest of the mark's work starts from that state. -/
def Obligations.MarksAndNumbers : Prop :=
  (∀ (dev : Int) (gap : Bool) (s : State), s.controlUp = true → s.isBench = false → s.hznPll = true →
    (s.hzn.lock = .acquiring → s.hzn.firstMark = false → s.hzn.counting = false → exec (.frameMark dev gap) s =
      .next { s with hzn := { s.hzn with number1 := none, genFrame := none, firstMark := true, counting := true, frame := 0, markAt := s.now } }) ∧
    (s.hzn.lock = .locked → -1 ≤ dev → dev ≤ 1 →
      (s.now - s.hzn.markAt ≤ 1024 → exec (.frameMark dev gap) s = .next { s with hzn := { s.hzn with markSeen := true } }) ∧
      (1024 < s.now - s.hzn.markAt → exec (.frameMark dev gap) s = .next { s with hzn := { s.hzn with nextSeen := true } })) ∧
    (s.hzn.lock = .locked → (dev < -1 ∨ 1 < dev) →
      (s.now - s.hzn.markAt ≤ 1024 → s.hzn.markCounted = true → exec (.frameMark dev gap) s = .next s) ∧
      (s.now - s.hzn.markAt ≤ 1024 → s.hzn.markCounted = false → ∃ t, exec (.frameMark dev gap) s = .next t ∧
        t.get R.HZN_ERR1_missing_marks = satAdd R.HZN_ERR1_missing_marks.w (s.get R.HZN_ERR1_missing_marks) 1 ∧
        t.hzn = { s.hzn with markCounted := true } ∧ FieldsBut [R.HZN_ERR1_missing_marks] s t ∧ t = { s with regs := t.regs, hzn := t.hzn })) ∧
    (s.hzn.lock = .coasting → s.now - s.hzn.markAt ≤ 1024 → s.hzn.markSeen = false → -1 ≤ dev → dev ≤ 1 →
      (s.hzn.goodRun = 0 → exec (.frameMark dev gap) s = .next { s with hzn := { s.hzn with goodRun := 1, markSeen := true } }) ∧
      (s.hzn.goodRun = 1 → ∃ t, exec (.frameMark dev gap) s = .next t ∧ t.hzn.lock = .locked ∧ t.hzn.frame = s.hzn.frame ∧
        BitSet t R.HZN_EVT 0 ∧ bitAt (t.get R.GEN_HOLD_CAUSE_causes) 3 = false)) ∧
    (s.hzn.lock = .coasting → (dev < -1 ∨ 1 < dev) → ∃ u : State,
      exec (.frameMark dev gap) s = .next (if s.running = true then u.raiseHold 3 else u) ∧ u.hzn.lock = .lost ∧
      u.get R.HZN_STAT_last_loss = s.get R.HZN_STAT_last_loss ∧ BitSet u R.HZN_EVT 2 ∧
      FieldsButPmu [R.HZN_ERR1_missing_marks, R.HZN_EVT] s u ∧
      u = { s with regs := u.regs, out := u.out, host := u.host, hzn := u.hzn, descs := u.descs, isl := u.isl, mtr := u.mtr })) ∧
  (∀ (n : BitVec 48) (crc : BitVec 16) (s : State), s.hznReads = true → s.hzn.numberBad ≠ 0 →
    exec (.superframeNumber n crc) s = .next { s with hzn := { s.hzn with numberBad := 0 } }) ∧
  (∀ (n : BitVec 48) (crc : BitVec 16) (s : State), s.hznReads = true → s.hzn.numberBad = 0 →
    (crc16Bits (natBitsMSB 48 n.toNat) ≠ crc.toNat → Writes [R.HZN_ERR0_number_crc_errors] s (s.count R.HZN_ERR0_number_crc_errors 1) ∧
      exec (.superframeNumber n crc) s = .next (s.count R.HZN_ERR0_number_crc_errors 1)) ∧
    (crc16Bits (natBitsMSB 48 n.toNat) = crc.toNat →
      (s.hzn.lock = .locked → (n.toNat + 63) % 2 ^ 48 = s.hzn.frame → exec (.superframeNumber n crc) s = .next s) ∧
      (s.hzn.lock = .locked → (n.toNat + 63) % 2 ^ 48 ≠ s.hzn.frame → s.running = true → ∃ u : State,
        exec (.superframeNumber n crc) s = .next (u.raiseHold 3) ∧ u.hzn.lock = .lost ∧ u.get R.HZN_STAT_last_loss = 4 ∧
        BitSet u R.HZN_EVT 6 ∧ BitSet u R.HZN_EVT 2 ∧ FieldsButPmu [R.HZN_STAT_last_loss, R.HZN_EVT] s u ∧
        u = { s with regs := u.regs, out := u.out, host := u.host, hzn := u.hzn, descs := u.descs, isl := u.isl, mtr := u.mtr }) ∧
      (s.hzn.lock = .acquiring → s.hzn.number1 = none →
        exec (.superframeNumber n crc) s = .next { s with hzn := { s.hzn with number1 := some (n.toNat, s.hzn.frame), genFrame := none } }) ∧
      (∀ (m f : Nat), s.hzn.lock = .acquiring → s.hzn.number1 = some (m, f) → m < 2 ^ 48 → f < 2 ^ 48 →
        n.toNat = (m + 64) % 2 ^ 48 → s.hzn.frame = (f + 64) % 2 ^ 48 → ∃ t, exec (.superframeNumber n crc) s = .next t ∧
        t.get R.HZN_STAT_number_valid = 1 ∧ Writes [R.HZN_STAT_number_valid] { s with hzn := t.hzn } t ∧
        t.hzn = { s.hzn with number1 := some (n.toNat, s.hzn.frame), genFrame := some ((n.toNat + 63) % 2 ^ 48) }))) ∧
  (∀ (tick : BitVec 11) (s : State), s.hznReads = true →
    ((tick.toNat = 0 ∨ tick.toNat = 2047) → exec (.symbolError tick) s = .next s) ∧
    (tick.toNat ≠ 0 → tick.toNat ≠ 2047 → ∃ t, exec (.symbolError tick) s = .next t ∧
      t.get R.HZN_ERR0_symbol_errors = satAdd R.HZN_ERR0_symbol_errors.w (s.get R.HZN_ERR0_symbol_errors) 1 ∧
      FieldsBut [R.HZN_ERR0_symbol_errors] s t ∧
      t = { s with regs := t.regs, hzn := { s.hzn with numberBad := t.hzn.numberBad, msgBad := t.hzn.msgBad } } ∧
      (tick.toNat = 1 → 0 < t.hzn.numberBad) ∧ (tick.toNat = 3 ∨ (16 ≤ tick.toNat ∧ tick.toNat ≤ 271) → t.hzn.msgBad = true))) ∧
  (∀ s : State, s.controlUp = true → s.isBench = false → s.hzn.counting = true → s.hzn.markAt + 2048 ≤ s.now → s.hzn.lock = .locked →
    s.hzn.slewFrom = none → ∃ u : State, exec .localFrameMark s = .next u.markWork ∧
      u.hzn.frame = (s.hzn.frame + 1) % 2 ^ 48 ∧ u.hzn.markAt = s.now ∧ u.hzn.lock = .locked ∧ u.hzn.markSeen = s.hzn.nextSeen ∧
      u.hzn.nextSeen = false ∧ FieldsBut [] s u ∧ (∀ c ∈ u.charges, s.hzn.frame < c.frame) ∧
      u = { s with hzn := u.hzn, out := u.out, charges := u.charges, thm := u.thm })

/-- Where the stream is read and the message is not spoilt: one whose CRC fails is counted and has no other effect. A first ASSIGN whose rack
is not above its last rack and whose sled and slot are the package's sets the machine, the rack and assigned, with HZN_EVT bit 4; the same
ASSIGN again changes nothing; one with its last rack below its rack is rejected and counted. A DELAY in ACQUIRING applies its offset at
once; in LOCKED one with another offset within 16 units of the target starts a slew; one above 4,096 is rejected and counted. A STATUS
with a generator state of 3 or less is recorded; a message of another type is rejected and counted. -/
def Obligations.HorizonMessages : Prop :=
  ∀ (msg : Vector Byte 32) (s : State), s.hznReads = true → s.hzn.msgBad = false →
    let m := msg.toList
    (crc16 (m.take 30) ≠ leAt m 30 2 →
      (leAt m 0 1 = 1 → exec (.assignMessage msg) s = .next (s.count R.HZN_ERR1_msg_crc_errors 1)) ∧
      (leAt m 0 1 = 2 → exec (.delayMessage msg) s = .next (s.count R.HZN_ERR1_msg_crc_errors 1)) ∧
      (leAt m 0 1 = 3 → exec (.statusMessage msg) s = .next (s.count R.HZN_ERR1_msg_crc_errors 1))) ∧
    (crc16 (m.take 30) = leAt m 30 2 →
      (leAt m 0 1 = 1 → s.get R.GEN_TOPO_assigned = 0 → bits (leAt m 4 1) 0 3 ≤ bits (leAt m 4 1) 4 3 →
        bits (leAt m 5 1) 0 4 = s.get R.GEN_TOPO_sled → bits (leAt m 5 1) 4 3 = s.get R.GEN_TOPO_slot →
        ∃ t, exec (.assignMessage msg) s = .next t ∧ t.get R.GEN_TOPO_rack = bits (leAt m 4 1) 0 3 ∧ t.get R.GEN_TOPO_assigned = 1 ∧
          t.get R.GEN_MACHINE_machine_id = leAt m 2 2 ∧ t.get R.GEN_MACHINE_racks_minus_one = bits (leAt m 4 1) 4 3 ∧
          BitSet t R.HZN_EVT 4 ∧ t.hzn = { s.hzn with expSled := bits (leAt m 5 1) 0 4, expSlot := bits (leAt m 5 1) 4 3 } ∧
          FieldsButPmu [R.GEN_TOPO_rack, R.GEN_TOPO_assigned, R.GEN_MACHINE_machine_id, R.GEN_MACHINE_racks_minus_one, R.HZN_EVT] s t ∧
          t = { s with regs := t.regs, out := t.out, host := t.host, hzn := t.hzn }) ∧
      (leAt m 0 1 = 1 → s.get R.GEN_TOPO_assigned = 1 → leAt m 2 2 = s.get R.GEN_MACHINE_machine_id →
        bits (leAt m 4 1) 0 3 = s.get R.GEN_TOPO_rack → bits (leAt m 4 1) 4 3 = s.get R.GEN_MACHINE_racks_minus_one →
        bits (leAt m 4 1) 0 3 ≤ bits (leAt m 4 1) 4 3 → bits (leAt m 5 1) 0 4 = s.hzn.expSled →
        bits (leAt m 5 1) 4 3 = s.hzn.expSlot → exec (.assignMessage msg) s = .next s) ∧
      (leAt m 0 1 = 1 → bits (leAt m 4 1) 4 3 < bits (leAt m 4 1) 0 3 →
        exec (.assignMessage msg) s = .next (s.count R.HZN_ERR1_msg_rejected 1)) ∧
      (leAt m 0 1 = 2 → leAt m 2 2 ≤ 4096 → s.hzn.lock = .acquiring → ∃ t, exec (.delayMessage msg) s = .next t ∧
        t.get R.HZN_DELAY_offset = leAt m 2 2 ∧ t.get R.HZN_DELAY_seq = leAt m 4 1 ∧ t.get R.HZN_STAT_delay_valid = 1 ∧
        t.hzn.target = leAt m 2 2 ∧ t.hzn.markAt = s.hzn.markAt + offsetTicks (s.get R.HZN_DELAY_offset) - offsetTicks (leAt m 2 2) ∧
        BitSet t R.HZN_EVT 3 ∧ FieldsButPmu [R.HZN_DELAY_offset, R.HZN_DELAY_seq, R.HZN_STAT_delay_valid, R.HZN_EVT] s t ∧
        t = { s with regs := t.regs, out := t.out, host := t.host, hzn := { s.hzn with target := t.hzn.target, markAt := t.hzn.markAt } }) ∧
      (leAt m 0 1 = 2 → leAt m 2 2 ≤ 4096 → s.hzn.lock = .locked → leAt m 2 2 ≠ s.hzn.target →
        leAt m 2 2 ≤ s.hzn.target + 16 → s.hzn.target ≤ leAt m 2 2 + 16 → ∃ t, exec (.delayMessage msg) s = .next t ∧
        t.hzn = { s.hzn with target := leAt m 2 2, slewFrom := some (leAt m 5 6) } ∧ t.get R.HZN_DELAY_seq = leAt m 4 1 ∧
        BitSet t R.HZN_EVT 3 ∧ FieldsButPmu [R.HZN_DELAY_seq, R.HZN_EVT] s t ∧
        t = { s with regs := t.regs, out := t.out, host := t.host, hzn := t.hzn }) ∧
      (leAt m 0 1 = 2 → 4096 < leAt m 2 2 → exec (.delayMessage msg) s = .next (s.count R.HZN_ERR1_msg_rejected 1)) ∧
      (leAt m 0 1 = 3 → leAt m 2 1 ≤ 3 → ∃ t, exec (.statusMessage msg) s = .next t ∧ t.get R.HZN_GEN_gen_state = leAt m 2 1 ∧
        t.get R.HZN_GEN_return_seen = leAt m 3 1 % 2 ∧ t.get R.HZN_GEN_star_output = leAt m 1 1 % 128 ∧
        Writes [R.HZN_GEN_gen_state, R.HZN_GEN_return_seen, R.HZN_GEN_star_output] s t) ∧
      ((leAt m 0 1 = 0 ∨ 3 < leAt m 0 1) → exec (.unknownMessage msg) s = .next (s.count R.HZN_ERR1_msg_rejected 1)))

/-- HREFCLK_LOSS with the control die in reset only marks the reference absent; with it up, outside a dawn past step 3, it is counted with
CLK_EVT bit 0 and then PLLs 0 to 4, and 5 in BENCH, lose lock. HREFCLK_RESTORE marks it present with CLK_EVT bit 1. The unlock of a locked
PLL clears its lock and has its effect: 0 coasts with CLK_EVT bit 2, 1 safe-forces the array with bit 3, 2 and 3 put their stack into
self-refresh, 4 takes both host links down, 6 and 7 set bit 5 and check the ports. The lock of a started PLL other than 5 with its
reference sets its lock and ends the effect: the stacks of 2 and 3 take what waited for them. While the package runs a failed relock attempt
is counted with CLK_EVT bit 4. -/
def Obligations.ClockLosses : Prop :=
  (∀ s : State, s.clk.refPresent = true → s.controlUp = false →
    exec .hrefclkLoss s = .next { s with clk := { s.clk with refPresent := false } }) ∧
  (∀ s : State, s.clk.refPresent = true → s.controlUp = true → s.dawnPastPlls = false → ∃ u : State,
    (let w := [0, 1, 2, 3, 4].foldl State.pllDown u
     exec .hrefclkLoss s = .next (if w.isBench then w.pllDown 5 else w)) ∧
    u.clk = { s.clk with refPresent := false } ∧ BitSet u R.CLK_EVT 0 ∧
    u.get R.CLK_CNT_ref_losses = satAdd R.CLK_CNT_ref_losses.w (s.get R.CLK_CNT_ref_losses) 1 ∧
    FieldsButPmu [R.CLK_CNT_ref_losses, R.CLK_EVT, R.GEN_FLOG_STAT_lost] s u ∧
    u = { s with regs := u.regs, out := u.out, host := u.host, clk := u.clk, flog := u.flog, flogSeq := u.flogSeq }) ∧
  (∀ s : State, s.clk.refPresent = false → s.controlUp = true → ∃ t, exec .hrefclkRestore s = .next t ∧
    t.clk = { s.clk with refPresent := true } ∧ BitSet t R.CLK_EVT 1 ∧ FieldsButPmu [R.CLK_EVT, R.GEN_FLOG_STAT_lost] s t ∧
    t = { s with regs := t.regs, out := t.out, host := t.host, clk := t.clk, flog := t.flog, flogSeq := t.flogSeq }) ∧
  (∀ (pll : Fin 8) (s : State), s.controlUp = true → s.dawnPastPlls = false → s.clk.locked.getLsbD pll.val = true →
    let clk := { s.clk with locked := s.clk.locked &&& ~~~(BitVec.twoPow 8 pll.val) }
    (pll = 0 → ∃ t, exec (.pllUnlock pll) s = .next t ∧ t.clk = { clk with coasting := true } ∧ BitSet t R.CLK_EVT 2 ∧
      FieldsButPmu [R.CLK_EVT, R.GEN_FLOG_STAT_lost] s t ∧
      t = { s with regs := t.regs, out := t.out, host := t.host, clk := t.clk, flog := t.flog, flogSeq := t.flogSeq }) ∧
    (pll = 1 → ∃ u : State, exec (.pllUnlock pll) s = .next u.forceArray ∧ u.clk = { clk with arrayForced := true } ∧
      BitSet u R.CLK_EVT 3 ∧ FieldsButPmu [R.CLK_EVT, R.GEN_FLOG_STAT_lost] s u ∧
      u = { s with regs := u.regs, out := u.out, host := u.host, clk := u.clk, flog := u.flog, flogSeq := u.flogSeq }) ∧
    (pll = 2 → exec (.pllUnlock pll) s = .next { s with clk := { clk with selfRefresh := s.clk.selfRefresh ||| 1#2 } }) ∧
    (pll = 3 → exec (.pllUnlock pll) s = .next { s with clk := { clk with selfRefresh := s.clk.selfRefresh ||| 2#2 } }) ∧
    (pll = 4 → ∃ t, exec (.pllUnlock pll) s = .next t ∧ t.clk = clk ∧ (t.half 0).up = false ∧ (t.half 1).up = false ∧
      FieldsButPmu [R.HOST_EVT, R.GEN_FLOG_STAT_lost] s t ∧
      t = { s with regs := t.regs, out := t.out, host := t.host, clk := t.clk, flog := t.flog, flogSeq := t.flogSeq }) ∧
    (5 < pll.val → ∃ u : State, exec (.pllUnlock pll) s = .next u.fabCheck ∧ u.clk = clk ∧ BitSet u R.CLK_EVT 5 ∧
      FieldsButPmu [R.CLK_EVT, R.GEN_FLOG_STAT_lost] s u ∧
      u = { s with regs := u.regs, out := u.out, host := u.host, clk := u.clk, flog := u.flog, flogSeq := u.flogSeq })) ∧
  (∀ (pll : Fin 8) (s : State), s.controlUp = true → s.clk.locked.getLsbD pll.val = false → s.clk.started.getLsbD pll.val = true →
    s.pllRef pll.val = true →
    let clk := { s.clk with locked := s.clk.locked ||| BitVec.twoPow 8 pll.val }
    (pll = 0 → exec (.pllLock pll) s = .next { s with clk := { clk with coasting := false } }) ∧
    (pll = 1 → exec (.pllLock pll) s = .next { s with clk := { clk with arrayForced := false, forcedEnd := s.horizon + 1 } }) ∧
    (pll = 2 → exec (.pllLock pll) s = 
      .next ((({ s with clk := { clk with selfRefresh := s.clk.selfRefresh &&& 2#2 } }).applyDue.linesSeen.unpark 0).unpark 1)) ∧
    (pll = 3 → exec (.pllLock pll) s = 
      .next ((({ s with clk := { clk with selfRefresh := s.clk.selfRefresh &&& 1#2 } }).applyDue.linesSeen.unpark 0).unpark 1)) ∧
    (pll = 4 ∨ 5 < pll.val → exec (.pllLock pll) s = .next { s with clk := clk })) ∧
  (∀ (pll : Fin 8) (s : State), s.controlUp = true → s.running = true → s.clk.locked.getLsbD pll.val = false →
    s.clk.started.getLsbD pll.val = true → s.pllRef pll.val = true → (pll.val = 5 → s.isBench = true) →
    ∃ t, exec (.relockAttempt pll) s = .next t ∧ BitSet t R.CLK_EVT 4 ∧
      t.get R.CLK_CNT_relock_fails = satAdd R.CLK_CNT_relock_fails.w (s.get R.CLK_CNT_relock_fails) 1 ∧
      FieldsButPmu [R.CLK_CNT_relock_fails, R.CLK_EVT, R.GEN_FLOG_STAT_lost] s t ∧
      t = { s with regs := t.regs, out := t.out, host := t.host, flog := t.flog, flogSeq := t.flogSeq })

/-- While the package runs: a request to gate a gateable block that is neither gated nor ungating clears its CLK_GATE.en bit and waits; an
ungate sets the bit, cancels what waits and starts the ungating of a gated block; when the ungating is done the clock runs, and a gate
request made meanwhile waits anew. A block that cannot be gated ignores both. A CLK_OBS value with a source or divider out of range is
refused with CLK_EVT bit 6; any other takes effect, a new source or divider after three ticks of steady low. -/
def Obligations.ClockGating : Prop :=
  (∀ (b : Fin 15) (s : State), s.controlUp = true → gateable b.val = false →
    exec (.clkGateRequest b) s = .next s ∧ exec (.clkUngate b) s = .next s) ∧
  (∀ (b : Fin 15) (s : State), s.controlUp = true → s.running = true → gateable b.val = true →
    (s.clk.ungating.getLsbD b.val = false → s.clk.gated.getLsbD b.val = false → ∃ t, exec (.clkGateRequest b) s = .next t ∧
      bitAt (t.get R.CLK_GATE_en) b.val = false ∧ t.clk = { s.clk with gatePending := s.clk.gatePending ||| BitVec.twoPow 15 b.val } ∧
      (∀ k : Fin 15, k ≠ b → bitAt (t.get R.CLK_GATE_en) k.val = bitAt (s.get R.CLK_GATE_en) k.val) ∧
      FieldsBut [R.CLK_GATE_en] s t ∧ t = { s with regs := t.regs, clk := t.clk }) ∧
    (∃ t, exec (.clkUngate b) s = .next t ∧ bitAt (t.get R.CLK_GATE_en) b.val = true ∧ t.clk.gatePending.getLsbD b.val = false ∧
      t.clk.gateAfter.getLsbD b.val = false ∧ t.clk.gated = s.clk.gated ∧
      (s.clk.gated.getLsbD b.val = true → t.clk.ungating.getLsbD b.val = true) ∧ FieldsBut [R.CLK_GATE_en] s t ∧
      t = { s with regs := t.regs, clk := t.clk })) ∧
  (∀ (b : Fin 15) (s : State), s.controlUp = true → s.running = true → s.clk.ungating.getLsbD b.val = true →
    ∃ t, exec (.clkUngateDone b) s = .next t ∧
      t = { s with clk := { s.clk with gated := t.clk.gated, ungating := t.clk.ungating, gateAfter := t.clk.gateAfter,
                                       gatePending := t.clk.gatePending } } ∧
      t.clk.gated.getLsbD b.val = false ∧ t.clk.gateAfter.getLsbD b.val = false ∧
      t.clk.ungating.getLsbD b.val = false ∧
      t.clk.gatePending.getLsbD b.val = (s.clk.gatePending.getLsbD b.val || s.clk.gateAfter.getLsbD b.val)) ∧
  (∀ (v : Word) (s : State), s.controlUp = true →
    (13 ≤ bits v.toNat 0 5 ∨ 200000 * (bits v.toNat 16 10 + 1) < obsFreq (bits v.toNat 0 5) → ∃ t, exec (.clkobsSelect v) s = .next t ∧
      BitSet t R.CLK_EVT 6 ∧ FieldsButPmu [R.CLK_EVT, R.GEN_FLOG_STAT_lost] s t ∧
      t = { s with regs := t.regs, out := t.out, host := t.host, flog := t.flog, flogSeq := t.flogSeq }) ∧
    (bits v.toNat 0 5 < 13 → obsFreq (bits v.toNat 0 5) ≤ 200000 * (bits v.toNat 16 10 + 1) → ∃ t, exec (.clkobsSelect v) s = .next t ∧
      t.get R.CLK_OBS_src = bits v.toNat 0 5 ∧ t.get R.CLK_OBS_en = bits v.toNat 5 1 ∧ t.get R.CLK_OBS_div = bits v.toNat 16 10 ∧
      FieldsBut [R.CLK_OBS_src, R.CLK_OBS_en, R.CLK_OBS_div] s t ∧
      t = { s with regs := t.regs, clk := { s.clk with obsHold := t.clk.obsHold } } ∧
      ((bits v.toNat 0 5 ≠ s.get R.CLK_OBS_src ∨ bits v.toNat 16 10 ≠ s.get R.CLK_OBS_div) → t.clk.obsHold = 3) ∧
      (bits v.toNat 0 5 = s.get R.CLK_OBS_src → bits v.toNat 16 10 = s.get R.CLK_OBS_div → t.clk.obsHold = s.clk.obsHold)))

/-- A trim window that ends with its source usable, unspoilt and its count within 30,000 ppm of the expected one steps the trim code by R166,
limited to 0 to 511, and records count and source; any other is counted as discarded and leaves the code. A crystal failure stops the
crystal and discards a window on it; its recovery starts it. A next window may start at once. -/
def Obligations.IslandOscillators : Prop :=
  (∀ (count : BitVec 24) (failed : Bool) (s : State), s.islandUp = true → s.isl.runOn = true → s.get R.OSC_STAT_trim_src ≠ 0 →
    (s.trimBad (s.get R.OSC_STAT_trim_src) count.toNat failed = false → s.get R.OSC_STAT_trim_src < 4 →
      ∃ t, exec (.trimWindowEnd count failed) s = .next t ∧ OnlyRegs s t ∧
      t.get R.OSC_TRIM_code = trimNext (s.get R.OSC_TRIM_code) count.toNat (trimExpected (s.get R.OSC_STAT_trim_src)) ∧
      t.get R.OSC_LAST_count = count.toNat ∧ t.get R.OSC_LAST_src = s.get R.OSC_STAT_trim_src ∧
      t.get R.OSC_CNT_applied = satAdd R.OSC_CNT_applied.w (s.get R.OSC_CNT_applied) 1 ∧
      FieldsBut [R.OSC_TRIM_code, R.OSC_LAST_count, R.OSC_LAST_src, R.OSC_CNT_applied, R.OSC_STAT_trim_src] s t) ∧
    (s.trimBad (s.get R.OSC_STAT_trim_src) count.toNat failed = true → ∃ t, exec (.trimWindowEnd count failed) s = .next t ∧
      t.get R.OSC_CNT_discarded = satAdd R.OSC_CNT_discarded.w (s.get R.OSC_CNT_discarded) 1 ∧
      FieldsBut [R.OSC_CNT_discarded, R.OSC_STAT_trim_src] s t ∧
      t = { s with regs := t.regs, isl := { s.isl with trimSpoilt := t.isl.trimSpoilt } })) ∧
  (∀ s : State, s.isl.mode ≠ .cold →
    (s.get R.OSC_STAT_trim_src ≠ 1 → ∃ t, exec .xtalFail s = .next t ∧ t.get R.OSC_STAT_xtal_fail = 1 ∧
      t.get R.OSC_STAT_xtal_run = 0 ∧ Writes [R.OSC_STAT_xtal_fail, R.OSC_STAT_xtal_run] s t) ∧
    (s.get R.OSC_STAT_trim_src = 1 → ∃ t, exec .xtalFail s = .next t ∧ t.get R.OSC_STAT_xtal_fail = 1 ∧
      t.get R.OSC_STAT_xtal_run = 0 ∧ t.get R.OSC_STAT_trim_src ≠ 1 ∧
      t.get R.OSC_CNT_discarded = satAdd R.OSC_CNT_discarded.w (s.get R.OSC_CNT_discarded) 1 ∧
      FieldsBut [R.OSC_STAT_xtal_fail, R.OSC_STAT_xtal_run, R.OSC_CNT_discarded, R.OSC_STAT_trim_src] s t ∧
      t = { s with regs := t.regs, isl := { s.isl with trimSpoilt := t.isl.trimSpoilt } }) ∧
    (∃ t, exec .xtalRecover s = .next t ∧ t.get R.OSC_STAT_xtal_fail = 0 ∧ t.get R.OSC_STAT_xtal_run = 1 ∧
      FieldsBut [R.OSC_STAT_xtal_fail, R.OSC_STAT_xtal_run, R.OSC_STAT_trim_src] s t ∧
      t = { s with regs := t.regs, isl := { s.isl with trimSpoilt := t.isl.trimSpoilt } }))

/-- VAUX in range with the package OFF and the island cold starts a dawn at step 0 with attempt 0; EN_VIO rises in step 0 and step 1 begins;
a rail with its enable high counts as good, and with the last of them step 1 ends; the next enable rises once every enabled rail is good;
PERST_N released in step 2 samples the straps, releases the control die and starts PLLs 0 to 4 in step 3, elsewhere it changes only the
balls. PERST_N asserted while the package runs returns it to step 2 with the control die's registers at their reset values but for the
straps it sampled, and DRAM kept; outside a run and before step 3 it changes only the ball. A start timeout fails step 0 with cause 1. A
retry, which a running island journals, and a restart after dusk begin a dawn at step 0. -/
def Obligations.DawnPhaseA : Prop :=
  (∀ s : State, s.pwr.vauxIn = false → s.pwr.state = .off → s.isl.mode = .cold → exec (.vauxInRange 0) s = .next { s with
    pwr := { s.pwr with vauxIn := true, vauxAt := s.now, attempt := 0, state := .dawn, dawnStep := 0, faultLow := false,
                        restartWanted := false, lowering := .none },
    isl := { s.isl with warmAt := s.now, mode := .aux, runOn := true } }) ∧
  (∀ s : State, s.dawning = true → s.pwr.dawnStep = 0 → ∃ t, exec .rcStartTimeout s = .next t ∧ t.pwr.state = .dawnFail ∧
    t.pwr.dawnRec = ⟨1, 0, s.pwr.attempt, s.vauxMs, true⟩ ∧ t.isl.rcLatch = true ∧ t.mem = [] ∧ t.pwr.released = false) ∧
  (∀ s : State, s.dawning = true → s.pwr.dawnStep = 0 → s.pwr.enables = 0 →
    (s.isl.booted = false ∨ (s.isl.rcLatch = false ∧ s.isl.dawnOwed = false) →
      exec .enVioRise s = .next { s with pwr := { s.pwr with dawnStep := 1, enables := 0b000001#6 } }) ∧
    (s.isl.booted = true → exec .enVioRise s =
      .next { s.journalLatch with pwr := { s.journalLatch.pwr with dawnStep := 1, enables := 0b000001#6 } })) ∧
  (∀ s : State, s.dawning = true → s.pwr.dawnStep = 1 → s.pwr.enables.getLsbD 0 = true → s.pwr.enables ≠ BitVec.allOnes 6 →
    s.pwr.railGood = s.pwr.enables → ∃ t, exec .enableRise s = .next t ∧ t.pwr.enables = s.pwr.enables ||| nextRaised s.pwr.enables ∧
      t.pwr.enables ≠ s.pwr.enables ∧ t.pwr.railGood = s.pwr.railGood ∧ t = { s with pwr := t.pwr }) ∧
  (∀ (rail : Fin 6) (s : State), s.pwr.enables.getLsbD rail.val = true →
    let good := s.pwr.railGood ||| BitVec.twoPow 6 rail.val
    (s.dawning = false ∨ good ≠ BitVec.allOnes 6 → exec (.railGood rail) s = .next { s with pwr := { s.pwr with railGood := good } }) ∧
    (s.dawning = true → s.pwr.dawnStep = 1 → good = BitVec.allOnes 6 → s.pwr.perstLow = true →
      exec (.railGood rail) s = .next { s with pwr := { s.pwr with railGood := good, dawnStep := 2 } })) ∧
  (∀ (b : Straps) (s : State), s.dawning = false ∨ s.pwr.dawnStep ≠ 2 →
    exec (.perstRelease b) s = .next { s with pwr := { s.pwr with perstLow := false, balls := b } }) ∧
  (∀ (b : Straps) (s : State), s.dawning = true → s.pwr.dawnStep = 2 → ∃ t, exec (.perstRelease b) s = .next t ∧
    t.pwr = { s.pwr with perstLow := false, balls := b, dawnStep := 3, released := true, sampled := true, releasedAt := s.now } ∧
    t.clk = { s.clk with started := s.clk.started ||| 0x1F#8 } ∧ t.get R.GEN_STRAP_pos_slot = b.posSlot.toNat ∧
    t.get R.GEN_STRAP_pos_sled = b.posSled.toNat ∧ t.get R.GEN_STRAP_sb_mode = b2n b.sbMode ∧
    t.get R.GEN_STRAP_host_bif = b2n b.hostBif ∧ t.get R.GEN_TOPO_bench = b2n (b.benchEn || s.a0) ∧
    FieldsBut (R.GEN_STATE_attempt :: strapFields) s t ∧ t = { s with regs := t.regs, pwr := t.pwr, clk := t.clk }) ∧
  (∀ s : State, s.running = false → (s.dawning = false ∨ s.pwr.dawnStep < 3) →
    exec .perstAssert s = .next { s with pwr := { s.pwr with perstLow := true } }) ∧
  (∀ s : State, s.running = true → ∃ t, exec .perstAssert s = .next t ∧ t.pwr.state = .dawn ∧ t.pwr.dawnStep = 2 ∧
    t.pwr.perstLow = true ∧ t.pwr.released = false ∧ t.pwr.enables = s.pwr.enables ∧ t.hzn = HznSt.init ∧ t.descs = [] ∧ SameMem s t ∧
    (∀ f ∈ strapFields, t.get f = s.get f % 2 ^ f.w) ∧
    (∀ g : Fld, g.key < 32 * 0x300000 → (∀ f ∈ strapFields, g.key ≠ f.key) → t.get g = g.rst)) ∧
  (∀ s : State, s.pwr.state = .dawnFail → s.pwr.vauxIn = true → s.pwr.enables = 0 → s.pwr.attempt < 3 →
    let s1 := if s.islandUp = true then s.notePower 5 else s
    ∃ t, exec (.dawnRetry 0) s = .next t ∧ t.pwr.state = .dawn ∧ t.pwr.dawnStep = 0 ∧ t.pwr.attempt = s.pwr.attempt + 1 ∧
      t = { s1 with pwr := t.pwr }) ∧
  (∀ s : State, s.pwr.state = .off → s.pwr.restartWanted = true → s.pwr.vauxIn = true → s.pwr.enables = 0 →
    ∃ t, exec (.duskRestart 0) s = .next t ∧ t.pwr.state = .dawn ∧ t.pwr.dawnStep = 0 ∧ t.pwr.restartWanted = false ∧
      t = { s with pwr := t.pwr })

/-- Each event of phase B, at its step, moves to the next: PLLs 0 to 4 locked; the island's handshake with its firmware running and no
completion kept brings the link up; DRAM links trained; both stacks initialised; the data and command windows cleared to 0, other DRAM
bytes kept; stage-2 good and kept, or fw_auth raised with it bad; an array die trained marks its faulty tiles, and the fourth ends
step 9; the patch good, out of BENCH and with no incompatible pair, sets the ready bits and opens step 12 with every sequencer idle. A
timeout in steps 4 or 8 fails dawn with that step's cause. -/
def Obligations.DawnPhaseB : Prop :=
  (∀ s : State, s.atStep 3 = true → s.clk.refPresent = true → exec .dawnPllsLocked s = .next { s with
    clk := { s.clk with locked := s.clk.locked ||| 0x1F#8, coasting := false, arrayForced := false, selfRefresh := 0 }, thm := ThmSt.init, pwr := { s.pwr with dawnStep := 4 } }) ∧
  (∀ s : State, s.atStep 4 = true → s.islandUp = true → s.isl.linkUp = false → s.controlUp = true → s.isl.fw.isSome = true →
    s.isl.kept = [] → ∃ t, exec .islandHandshake s = .next t ∧ t.isl = { s.isl with linkUp := true, linkLostAt := none, trimSpoilt := t.isl.trimSpoilt } ∧
    t.pwr = { s.pwr with dawnStep := 5 } ∧ t.get R.PWR_DUSK_STAT_overrun = b2n s.pwr.overrunRec ∧
    FieldsBut [R.PWR_DUSK_STAT_overrun, R.OSC_STAT_trim_src] s t ∧ t = { s with regs := t.regs, pwr := t.pwr, isl := t.isl }) ∧
  (∀ s : State, s.atStep 5 = true →
    exec .dramLinkTrained s = .next { s with pwr := { s.pwr with dramLink := 3, dawnStep := 6 } }) ∧
  (∀ s : State, s.atStep 6 = true →
    exec .dramInitDone s = .next { s with pwr := { s.pwr with dramInit := 3, dawnStep := 7 } }) ∧
  (∀ s : State, s.atStep 7 = true → ∃ t, exec .dataWindowCleared s = .next t ∧ t.pwr = { s.pwr with dawnStep := 8 } ∧
    (∀ a, Memory.get t.mem a = if a < cmdEnd then 0 else Memory.get s.mem a) ∧ (∀ l ∈ t.poison, cmdEnd ≤ 64 * l) ∧
    t = { s with mem := t.mem, poison := t.poison, pwr := t.pwr }) ∧
  (∀ s : State, s.atStep 8 = true →
    let s1 := { s.flashSeen with pwr := { s.pwr with stage2Digest := Config.sha384 (s.fwBytes 2) } }
    (∀ l, s1.checkStage2 (s.fwBytes 2) = .ok l →
      exec .stage2Checked s = .next { s1 with pwr := { s1.pwr with stage2 := some l, dawnStep := 9 } }) ∧
    (∀ e, s1.checkStage2 (s.fwBytes 2) = .error e → ∃ t, exec .stage2Checked s = .next t ∧ t.pwr.dawnStep = 9 ∧
      BitSet t R.GEN_HOLD_CAUSE_causes 1 ∧ t.get R.GEN_HOLD_CAUSE_auth_image = 0 ∧ t.pwr.stage2 = s.pwr.stage2 ∧ SameMem s t)) ∧
  (∀ (die : Fin 4) (faulty : BitVec 64) (s : State), s.atStep 9 = true → s.pwr.arrayLink.getLsbD die.val = false →
    let link := s.pwr.arrayLink ||| BitVec.twoPow 4 die.val
    (link ≠ BitVec.allOnes 4 → ∃ t, exec (.arrayLinkTrained die faulty) s = .next t ∧ t.pwr = { s.pwr with arrayLink := link } ∧
      (∀ k : Fin 64, (t.tile (64 * die.val + k.val)).faulty = faulty.getLsbD k.val) ∧
      (∀ u, dieOf u ≠ die.val → t.tile u = s.tile u) ∧ t = { s with pwr := t.pwr, tiles := t.tiles }) ∧
    (link = BitVec.allOnes 4 → s.pwr.stage2.isSome = true → ∃ t, exec (.arrayLinkTrained die faulty) s = .next t ∧
      t.pwr = { s.pwr with arrayLink := link, dawnStep := 10 } ∧
      (∀ k : Fin 64, (t.tile (64 * die.val + k.val)).faulty = faulty.getLsbD k.val) ∧ t = { s with pwr := t.pwr, tiles := t.tiles })) ∧
  (∀ (p : Patch) (s : State), s.atStep 10 = true → s.fwEmpty 3 = false → s.checkPatch (s.fwBytes 3) = .ok p →
    s.get R.GEN_TOPO_bench = 0 → ({ s with patch := some p }).firmwarePair = none → ∃ t, exec .patchChecked s = .next t ∧
    t.patch = some p ∧ t.pwr = { s.pwr with cfgAt := s.now, dawnStep := 12 } ∧ (∀ q : Fin 16, t.seqs[q] = { s.seqs[q] with mode := .idle }) ∧
    t.get R.SEQ_PATCH_result = 0 ∧ t.get R.GEN_READY_cfg_ready = 1 ∧ t.get R.GEN_READY_mem_active = 1 ∧ t.get R.GEN_READY_sb_ready = 1 ∧
    t.get R.GEN_READY_mbox_ready = 1 ∧ FieldsBut [R.SEQ_PATCH_result, R.GEN_READY_cfg_ready, R.GEN_READY_mem_active, R.GEN_READY_sb_ready,
      R.GEN_READY_mbox_ready, R.PWR_DAWN_TIMES_cfg_ms] s t ∧ t = { s with regs := t.regs, pwr := t.pwr, patch := t.patch, seqs := t.seqs, freeIx := t.freeIx }) ∧
  (∀ s : State, s.dawning = true → (s.pwr.dawnStep = 4 ∨ s.pwr.dawnStep = 8) → ∃ t, exec .dawnTimeout s = .next t ∧
    t.pwr.state = .dawnFail ∧ t.pwr.dawnRec = ⟨if s.pwr.dawnStep = 4 then 5 else 9, 0, s.pwr.attempt, s.vauxMs, true⟩ ∧ t.mem = [])

/-- The loss of a good rail stops a running package at once, with a stop record of kind 5 with the rail and frame, DRAM lost and the control
die in reset: the enables begin to fall, and the package does nothing more of its state; in dawn it is cause 2. A rail in range with its
enable low in dawn is cause 3, elsewhere it is recorded where the island is up. The loss of VAUX takes every enable away, OFF, with a stop
record of kind 6 where the package was running. The fall of an enable takes the next in reverse order; the last one of an immediate stop
or a dusk enters OFF, and of a stop releases FAULT_N. With the island link lost for 20 ms and no sequence running the island starts one
itself. A rail that does not fall is recorded, and drives FAULT_N while the enables fall. -/
def Obligations.PowerFaults : Prop :=
  (∀ (rail : Fin 6) (mv : BitVec 16) (s : State), s.pwr.enables.getLsbD rail.val = true → s.pwr.railGood.getLsbD rail.val = true →
    (s.running = true → ∃ t, exec (.powerFault rail mv) s = .next t ∧ t.running = false ∧
      t.pwr.enables = s.pwr.enables &&& ~~~(nextLowered s.pwr.enables) ∧
      (t.pwr.enables ≠ 0 → t.pwr.lowering = .stop ∧ t.pwr.state = s.pwr.state ∧ t.pwr.faultLow = true) ∧
      (t.pwr.enables = 0 → t.pwr.lowering = .none ∧ t.pwr.state = .off) ∧
      t.pwr.stopRec = ⟨5, false, rail.val, s.hzn.frame, true⟩ ∧ t.mem = [] ∧ t.pwr.released = false ∧ t.descs = [] ∧ t.hzn = HznSt.init) ∧
    (s.dawning = true → ∃ t, exec (.powerFault rail mv) s = .next t ∧ t.pwr.state = .dawnFail ∧
      t.pwr.dawnRec = ⟨2, rail.val, s.pwr.attempt, s.vauxMs, true⟩ ∧ t.mem = [])) ∧
  (∀ (rail : Fin 6) (mv : BitVec 16) (s : State), s.pwr.vauxIn = true → s.pwr.enables.getLsbD rail.val = false →
    (s.dawning = true → ∃ t, exec (.railUnexpected rail mv) s = .next t ∧ t.pwr.state = .dawnFail ∧
      t.pwr.dawnRec = ⟨3, rail.val, s.pwr.attempt, s.vauxMs, true⟩) ∧
    (s.dawning = false → exec (.railUnexpected rail mv) s = .next (s.railFault rail.val mv.toNat)) ∧
    (s.dawning = false → ∃ u : State, u = s.railFault rail.val mv.toNat ∧ exec (.railFallTimeout rail mv) s = .next { u with
      pwr := { u.pwr with faultLow := decide (u.pwr.lowering ≠ .none) || u.pwr.faultLow } })) ∧
  (∀ s : State, s.pwr.vauxIn = true → ∃ t, exec .vauxLoss s = .next t ∧ t.pwr.state = .off ∧ t.pwr.vauxIn = false ∧ t.pwr.enables = 0 ∧
    t.pwr.railGood = 0 ∧ t.mem = [] ∧ t.pwr.released = false ∧ t.isl.mode ≠ .aux ∧
    (s.running = true → t.pwr.stopRec = ⟨6, false, 0, s.hzn.frame, true⟩)) ∧
  (∀ s : State, s.pwr.lowering ≠ .none →
    let e := s.pwr.enables &&& ~~~(nextLowered s.pwr.enables)
    (s.pwr.enables ≠ 0 → e ≠ 0 → exec .enableFall s = .next { s with
      pwr := { s.pwr with enables := e, railGood := s.pwr.railGood &&& e },
      isl := if e.getLsbD 1 then s.isl else { s.isl with linkUp := false, trimSpoilt := s.isl.trimSpoilt || s.isl.linkUp } }) ∧
    (s.pwr.enables = 1#6 → s.pwr.lowering = .stop → ∃ t, exec .enableFall s = .next t ∧
      t.pwr = { s.pwr with enables := 0, railGood := 0, state := .off, lowering := .none, faultLow := false } ∧
      (∀ g : Fld, 32 * 0x1000000 ≤ g.key → g.key < 32 * 0x2000000 → t.get g = g.rst) ∧
      (∀ g : Fld, g.key < 32 * 0x1000000 ∨ 32 * 0x2000000 ≤ g.key → t.get g = s.get g) ∧
      t = { s with regs := t.regs, pwr := t.pwr, isl := t.isl }) ∧
    (s.pwr.enables = 1#6 → s.pwr.lowering = .dusk → ∃ t, exec .enableFall s = .next t ∧ t.pwr.enables = 0 ∧ t.pwr.state = .off ∧
      t.pwr.lowering = .none ∧ t.mem = [] ∧ t.pwr.released = false)) ∧
  (∀ s : State, s.pwr.lowering = .none → s.linkOverdue = true → s.pwr.enables = BitVec.allOnes 6 → ∃ t, exec .enableFall s = .next t ∧
    t.pwr.enables = 0b001111#6 ∧ t.isl.linkLostAt = none ∧
    (∀ x, s.pwr.dusk = some x → t.pwr.lowering = .dusk ∧ t.pwr.dusk = some { x with phase := .falling } ∧ SameMem s t) ∧
    (s.pwr.dusk = none → t.pwr.lowering = .stop ∧ t.mem = [] ∧ t.pwr.released = false))

/-- Raising a hold cause in READY, with every fabric port DARK: the cause, HOST_EVT bit 11 and alert bit 1 are set, compute_ready clears and
the package is HELD; clearing the only cause in HELD with the power limit at 360 W or more makes it READY with compute_ready set. An
acknowledgement clears the valid mark of its record. -/
def Obligations.HoldCauses : Prop :=
  (∀ (b : Fin 5) (s : State), s.pwr.state = .ready → bitAt (s.get R.GEN_HOLD_CAUSE_causes) b.val = false →
    (∀ n < 12, (s.port n).state = .dark) → (s.raiseHold b.val).pwr = { s.pwr with state := .held } ∧
    BitSet (s.raiseHold b.val) R.GEN_HOLD_CAUSE_causes b.val ∧ BitSet (s.raiseHold b.val) R.HOST_EVT 11 ∧
    BitSet (s.raiseHold b.val) R.HOST_SB_ALERT 1 ∧ (s.raiseHold b.val).get R.GEN_READY_compute_ready = 0 ∧
    FieldsButPmu [R.GEN_HOLD_CAUSE_causes, R.HOST_EVT, R.HOST_SB_ALERT, R.GEN_READY_compute_ready, R.GEN_FLOG_STAT_lost] s (s.raiseHold b.val) ∧
    SameMem s (s.raiseHold b.val)) ∧
  (∀ (b : Fin 5) (s : State), s.pwr.state = .held → s.get R.GEN_HOLD_CAUSE_causes = 2 ^ b.val → 360 ≤ s.get R.THM_LIMIT_p_limit →
    (s.clearHold b.val).get R.GEN_HOLD_CAUSE_causes = 0 ∧ (s.clearHold b.val).pwr = { s.pwr with state := .ready } ∧
    (s.clearHold b.val).get R.GEN_READY_compute_ready = b2n (!s.pwr.warm) ∧ SameMem s (s.clearHold b.val)) ∧
  (∀ s : State, s.controlUp = true → s.islandUp = false →
    exec .pwrAckDawn s = .next { s with pwr := { s.pwr with dawnRec := { s.pwr.dawnRec with valid := false } } } ∧
    exec .pwrAckStop s = .next { s with pwr := { s.pwr with stopRec := { s.pwr.stopRec with valid := false } } }) ∧
  (∀ s : State, s.controlUp = true → (∃ t, exec .pwrAckDawn s = .next t ∧ t.pwr.dawnRec.valid = false ∧ SameMem s t) ∧
    (∃ t, exec .pwrAckStop s = .next t ∧ t.pwr.stopRec.valid = false ∧ SameMem s t))

/-- With the control die up: a reset or dusk write with a wrong key is counted and has no other effect; a warm reset in a running state
ends with every sequencer idle or halted, no output run, the registers of the TILE, CMD, CTX, SYNC and FAB blocks at reset and no clock
gated; elsewhere it is ignored. A warm reset that completes with no dusk held ends it. A CXL reset where none can run reports its error;
when one completes, its half reports completion. A dusk request is ignored outside a running state, held behind a warm reset, and
otherwise accepted. The drop of the island link goes on record and asks for dusk in a running state. The quiesce that ends hands on to the
commit; at its deadline with work unfinished overrun is recorded too; the commit done, memory service ends and the enables begin to
fall. -/
def Obligations.ResetsAndDusk : Prop :=
  (∀ (key : BitVec 16) (s : State), s.controlUp = true →
    (key ≠ 0x5E7A#16 → exec (.warmReset key) s = .next (s.count R.PWR_STAT_bad_keys 1)) ∧
    (∀ restart : Bool, key ≠ 0xD05C#16 → exec (.duskRequest key restart) s = .next (s.count R.PWR_STAT_bad_keys 1))) ∧
  (∀ s : State, s.controlUp = true → s.running = true → s.pwr.warm = false → ∃ t, exec (.warmReset 0x5E7A#16) s = .next t ∧
    (∀ g : Fld, 32 * 0x100000 ≤ g.key → g.key < 32 * 0x240000 → t.get g = g.rst) ∧ t.outRuns = [] ∧ t.clk.gated = 0 ∧
    t.clk.gatePending = 0 ∧ (∀ q : Fin 16, t.seqs[q].mode = .idle ∨ t.seqs[q].mode = .halted) ∧ (∀ q : Fin 16, t.seqs[q].routine = none)) ∧
  (∀ s : State, s.controlUp = true → s.running = false ∨ s.pwr.warm = true → Sets (.warmReset 0x5E7A#16) R.PWR_DUSK_STAT_warm_ignored 1 s) ∧
  (∀ s : State, s.pwr.warm = true → s.pwr.cxlReset = false → s.pwr.heldDusk = none → ∃ t, exec .warmResetDone s = .next t ∧
    t.pwr = { s.pwr with warm := false, cxlReset := false, heldDusk := none } ∧ FieldsBut [R.GEN_READY_compute_ready] s t ∧
    (s.working = true → s.get R.GEN_HOLD_CAUSE_causes = 0 → t.get R.GEN_READY_compute_ready = 1) ∧
    t = { s with regs := t.regs, pwr := t.pwr }) ∧
  (∀ (h : Fin 2) (s : State), (s.half h).up = true → (s.half h).protocol ≠ 0 → s.get R.GEN_READY_cfg_ready = 1 →
    (s.running = false ∨ s.pwr.warm = true → ∃ t, exec (.cxlReset h) s = .next t ∧ OnlyHost s t ∧ OtherHalf h s t ∧
      t.half h = { s.half h with resetComplete := false, resetError := true }) ∧
    (s.running = true → s.pwr.warm = false → ∃ u : State, exec (.cxlReset h) s = .next (u.warmStart true) ∧ u.host.sessions = [] ∧
      (∀ k : Fin 2, (u.half k).ideKeys = 0 ∧ (u.half k).ideActive = 0) ∧ (u.half h).resetComplete = false ∧
      u.pwr = { s.pwr with cxlMemClear := (s.half h).memClear, cxlHalf := h.val } ∧ u = { s with host := u.host, pwr := u.pwr })) ∧
  (∀ s : State, s.pwr.warm = true → s.pwr.cxlReset = true → s.pwr.heldDusk = none → ∃ t, exec .cxlResetDone s = .next t ∧
    t.pwr.warm = false ∧ t.pwr.cxlReset = false ∧ (t.half (halfOf s.pwr.cxlHalf)).resetComplete = true ∧ BitSet t R.HOST_EVT 9 ∧
    (s.pwr.cxlMemClear = true → ∀ a, a < cmdEnd → Memory.get t.mem a = 0) ∧ (s.pwr.cxlMemClear = false → SameMem s t)) ∧
  (∀ (restart : Bool) (s : State), s.controlUp = true →
    (s.running = false → Sets (.duskRequest 0xD05C#16 restart) R.PWR_DUSK_STAT_ignored 1 s) ∧
    (s.running = true → s.pwr.warm = true → s.pwr.heldDusk = none → exec (.duskRequest 0xD05C#16 restart) s = .next { s with
      pwr := { s.pwr with heldDusk := some (.host, restart) } }) ∧
    (s.running = true → s.pwr.warm = false → exec (.duskRequest 0xD05C#16 restart) s = .next (s.duskAccept .host restart)) ∧
    (s.running = true → s.pwr.state = .ready → s.pwr.warm = false → s.img.load = none → (∀ n < 12, (s.port n).state = .dark) →
      ∃ t, exec (.duskRequest 0xD05C#16 restart) s = .next t ∧ t.pwr.state = .dusk ∧
      t.pwr.dusk = some ⟨.host, restart, s.hzn.frame, false, .quiesce⟩ ∧ t.pwr.restartWanted = restart ∧
      t.get R.GEN_READY_compute_ready = 0 ∧ BitSet t R.HOST_EVT 10 ∧ BitSet t R.HOST_SB_ALERT 0 ∧ SameMem s t ∧ t.descs = s.descs)) ∧
  (∀ s : State, s.isl.linkUp = true →
    let u : State := { s with isl := { s.isl with linkUp := false, trimSpoilt := true },
                              mtr := { s.mtr with openFrame := none, openEnergy := 0, ovhElec := s.mtr.ovhElec + s.mtr.openEnergy } }
    (s.running = false → exec .islandLinkLoss s = .next u) ∧
    (s.running = true → exec .islandLinkLoss s =
      .next ((({ u with isl := { u.isl with linkLostAt := some s.now } }).stopNote 3 false 0 s.hzn.frame).duskAsk .islandLink false))) ∧
  (∀ (x : Dusk) (s : State), s.pwr.dusk = some x → x.phase = .quiesce →
    (x.markPassed = true → s.quiesceBusy = false → ∃ t, exec .quiesceDone s = .next t ∧ t.pwr.dusk = some { x with phase := .commit } ∧
      t.pwr.overrunRec = false) ∧
    (x.markPassed = false ∨ s.quiesceBusy = true → ∃ t, exec .quiesceDeadline s = .next t ∧
      t.pwr.dusk = some { x with phase := .commit } ∧ t.pwr.overrunRec = true)) ∧
  (∀ (x : Dusk) (s : State), s.pwr.dusk = some x → x.phase = .commit → s.islandUp = false → s.pwr.enables = BitVec.allOnes 6 →
    ∃ t, exec .duskCommitDone s = .next t ∧ t.get R.GEN_READY_mem_active = 0 ∧ (∀ h : Fin 2, (t.half h).up = false) ∧
      t.pwr.enables = 0b001111#6 ∧ t.pwr.lowering = .dusk ∧ t.pwr.dusk = some { x with phase := .falling } ∧ SameMem s t)

/-- On an owned tile with a burst whose next exposure is due and whose die is not safe-forced: where its window ends before the slot does and
one of the two capacitors is free, the exposure begins, is counted in TILE_EXP, its charges are held, and at a group's start its operands
and shifts are taken; with both capacitors held it waits; where its window would not end in time, no exposure being undeveloped, every
tile of the plate with a group not committed counts the cut and flags it, and the burst ends in error. Operands that arrive late move
every later exposure of the burst, and of its slice partner's, by whole periods and are counted. The oldest begun exposure whose decision
instant has come develops and frees its capacitor: a repetition is kept, and a plane's last one empties the repetitions. When the tile's
auto-exposure window is full, its end counts a window, empties every column's clips and peak, asks for one more shift on a column clipped
more than its limit and below shift 7, and leaves nothing pending on a column that passes no test. When its fog window is full, its latch
counts a window, latches the residual and expected sums and the clips, and starts the sums again. Other tiles but a partner, device memory,
and register fields outside the tile (but for the due marks) are unchanged. -/
def Obligations.TileBursts : Prop :=
  (∀ (k : Fin 256) (b : Burst) (r : ResImage × Plate × TileRec) (s : State), (s.tile k.val).burst = some b → s.tileRec k.val = some r →
    let at' := b.startOf r.2.1.acc16 b.started
    (b.started < b.cmd.total → at' < s.halfNs → s.tileForced k.val = false →
      (at' + windowOf r.2.1.acc16 < b.slotEnd → b.started < b.developed + 2 → ∃ t b', exec (.exposureStart k) s = .next t ∧
        (t.tile k.val).burst = some b' ∧
        b'.started = b.started + 1 ∧ b'.developed = b.developed ∧ b'.cmd = b.cmd ∧ b'.bank = b.bank ∧
        ((t.tile k.val).caps[Fin.ofNat 2 b.started]).isSome = true ∧
        (b.started % b.cmd.perGroup ≠ 0 → b'.loaded = b.loaded) ∧
        (b.started % b.cmd.perGroup = 0 → b'.loaded.length = b.loaded.length + 1) ∧
        (s.get (R.TILE_EXP_LO k.val) + 1 < 2 ^ 32 → s.get (R.TILE_EXP_HI k.val) < 2 ^ 16 →
          t.get (R.TILE_EXP_LO k.val) = s.get (R.TILE_EXP_LO k.val) + 1) ∧
        OtherTiles [k.val] s t ∧ FieldsButTiles [k.val] [] s t ∧ SameMem s t) ∧
      (at' + windowOf r.2.1.acc16 < b.slotEnd → b.developed + 2 ≤ b.started → exec (.exposureStart k) s = .next s) ∧
      (b.slotEnd ≤ at' + windowOf r.2.1.acc16 → (r.2.1.tiles.map TileRec.tile).Nodup →
        (∀ q ∈ r.2.1.tiles, ∀ d, (s.tile q.tile).burst = some d → d.started ≤ d.developed) →
        ∃ u : State, exec (.exposureStart k) s = .next (u.burstError k.val b r.2.1) ∧
        (∀ q ∈ r.2.1.tiles, ∀ d, (s.tile q.tile).burst = some d → d.committed = false →
          u.get (R.TILE_CNT0_slot_overruns q.tile) = satAdd 16 (s.get (R.TILE_CNT0_slot_overruns q.tile)) 1 ∧ BitSet u (R.TILE_EVT q.tile) 0) ∧
        Signals (r.2.1.tiles.flatMap (fun q => [R.TILE_CNT0_slot_overruns q.tile, R.TILE_EVT q.tile])) s u)) ∧
    (b.started < b.cmd.total → b.started % b.cmd.perGroup = 0 → at' < 16 * s.horizon →
      (∀ u, r.2.1.partner r.2.2 = some u → u ≠ k.val) →
      let period := periodOf r.2.1.acc16
      let late := (16 * s.horizon - at' + period - 1) / period * period
      ∃ t, exec (.operandArrival k) s = .next t ∧ (t.tile k.val).burst = some { b with t0 := b.t0 + late } ∧
        (∀ u d, r.2.1.partner r.2.2 = some u → (s.tile u).burst = some d → (t.tile u).burst = some { d with t0 := d.t0 + late }) ∧
        t.get (R.TILE_CNT1_operand_wait k.val) = satAdd 32 (s.get (R.TILE_CNT1_operand_wait k.val)) late ∧
        BitSet t (R.TILE_EVT k.val) 3 ∧ OtherTiles (k.val :: (r.2.1.partner r.2.2).toList) s t ∧
        FieldsButPmu [R.TILE_CNT1_operand_wait k.val, R.TILE_EVT k.val] s t ∧ SameMem s t) ∧
    (b.developed < b.started → s.tileForced k.val = false →
      b.startOf r.2.1.acc16 b.developed + decisionOf r.2.1.acc16 < s.halfNs → b.bank < 4 → (∀ g ∈ b.cmd.groups, g < 16) →
      ∃ t b', exec (.exposureDevelop k) s = .next t ∧ (t.tile k.val).burst = some b' ∧ b'.developed = b.developed + 1 ∧
        b'.started = b.started ∧ (t.tile k.val).caps[Fin.ofNat 2 b.developed] = none ∧ OtherTiles [k.val] s t ∧
        FieldsButTiles [k.val] [R.TILE_DUE0, R.TILE_DUE1, R.TILE_FIX_EVT] s t ∧ SameMem s t ∧
        (b.developed % b.cmd.avg + 1 < b.cmd.avg → b'.reps.length = b.reps.length + 1 ∧ FieldsBut [] s t) ∧
        (b.cmd.avg ≤ b.developed % b.cmd.avg + 1 → b'.reps = []))) ∧
  (∀ (k : Fin 256) (r : ResImage × Plate × TileRec) (s : State), s.tileRec k.val = some r →
      (s.aeDue k.val r.2.1 = true → ∃ t, exec (.aeWindowEnd k) s = .next t ∧ OnlySignals s t ∧ FieldsButTiles [k.val] [] s t ∧
        t.get (R.TILE_AE_WIN_pos k.val) = 0 ∧ t.get (R.TILE_AE_WIN_seq k.val) = (s.get (R.TILE_AE_WIN_seq k.val) + 1) % 2 ^ 16 ∧
        ∀ c : Fin 512, t.get (R.TILE_AE_win_clips k.val c.val) = 0 ∧ t.get (R.TILE_AE_win_peak k.val c.val) = 0 ∧
          (r.2.1.clipLimit * 2 ^ r.2.1.aeWindow < 256 * s.get (R.TILE_AE_win_clips k.val c.val) → s.get (R.TILE_AE_cur_shift k.val c.val) < 7 →
            t.get (R.TILE_AE_next_shift k.val c.val) = s.get (R.TILE_AE_cur_shift k.val c.val) + 1 ∧
            t.get (R.TILE_AE_pending k.val c.val) = 1) ∧
          (256 * s.get (R.TILE_AE_win_clips k.val c.val) ≤ r.2.1.clipLimit * 2 ^ r.2.1.aeWindow →
            (s.get (R.TILE_AE_win_clips k.val c.val) ≠ 0 ∨ 63 < s.get (R.TILE_AE_win_peak k.val c.val) ∨
              s.get (R.TILE_AE_cur_shift k.val c.val) ≤ r.2.1.adcShift) → t.get (R.TILE_AE_pending k.val c.val) = 0)) ∧
      (65536 ≤ (s.tile k.val).fogCount → ∃ t, exec (.fogWindowLatch k) s = .next t ∧
        t.get (R.TILE_FOG_WIN_seq k.val) = (s.get (R.TILE_FOG_WIN_seq k.val) + 1) % 2 ^ 16 ∧
        t.get (R.TILE_FOG_WIN_fog_clips k.val) = (s.tile k.val).fogClips % 2 ^ 16 ∧
        (∀ f : Fin 8, t.get (R.TILE_FOG_RESID k.val f.val) = fromSigned 32 ((s.tile k.val).fogRes.getD f.val 0) ∧
          t.get (R.TILE_FOG_EXPECT k.val f.val) = (s.tile k.val).fogExp.getD f.val 0 % 2 ^ 32) ∧
        t.tile k.val = { s.tile k.val with fogCount := 0, fogClips := 0, fogRes := List.replicate 8 0, fogExp := List.replicate 8 0 } ∧
        OtherTiles [k.val] s t ∧ FieldsButTiles [k.val] [R.TILE_DUE0, R.TILE_DUE1, R.TILE_FIX_EVT] s t ∧
        t = { s with regs := t.regs, out := t.out, host := t.host, tiles := t.tiles }))

/-- With the TILE block answering: a read of TILE_DATA returns the addressed word, or 0 with timeout set on a tile that cannot be reached, and
moves the address on only with autoinc. A write clears the TILE_EVT bits written 1, sets the trim of a column of a tile no image owns,
and to a register of its map it may not write sets denied. A write of TILE_TEST takes its fields; with start it begins a test exposure, or sets
test_refused; when the codes are stored the test ends with TILE_EVT bit 4. -/
def Obligations.TileAccesses : Prop :=
  (∀ s : State, s.blockUp 6 = true →
    let k := s.get R.TILE_SEL_tile
    let a := 4 * s.get R.TILE_ADDR_addr
    (s.tileUnreachable k = false → a ≠ 0x14 → a ≠ 0x18 → ∃ t, exec .tileDataRead s = .next t ∧ t.out = .word 0 (s.tileWord k a) :: s.out ∧
      FieldsBut [R.TILE_ADDR_addr] s t ∧ t = { s with regs := t.regs, out := t.out } ∧
      (s.get R.TILE_ADDR_autoinc = 0 → t.regs = s.regs) ∧
      (s.get R.TILE_ADDR_autoinc = 1 → t.get R.TILE_ADDR_addr = (s.get R.TILE_ADDR_addr + 1) % 2 ^ 14)) ∧
    (s.tileUnreachable k = true → ∃ t, exec .tileDataRead s = .next t ∧ t.out = .word 0 0 :: s.out ∧ t.get R.TILE_STAT_timeout = 1 ∧
      FieldsBut [R.TILE_STAT_timeout, R.TILE_ADDR_addr] s t ∧ t = { s with regs := t.regs, out := t.out }) ∧
    (∀ v : Word, s.tileUnreachable k = false → s.get R.TILE_ADDR_autoinc = 0 →
      (a = 8 → ∃ t, exec (.tileDataWrite v) s = .next t ∧ Writes [R.TILE_EVT k] s t ∧
        ∀ i : Fin 6, bitAt (t.get (R.TILE_EVT k)) i.val = (bitAt (s.get (R.TILE_EVT k)) i.val && !v.getLsbD i.val)) ∧
      (∀ c : Fin 520, a = 0x1000 + 4 * c.val → (s.tile k).owner = none → (s.tile k).erasing = false →
        ∃ t, exec (.tileDataWrite v) s = .next t ∧ t.trimWord k c.val = bits v.toNat 0 14 + 2 ^ 16 * bits v.toNat 16 14 ∧
          (∀ d, d ≠ c.val → t.trimWord k d = s.trimWord k d) ∧ OtherTiles [k] s t ∧ t = { s with tiles := t.tiles }) ∧
      (a < 8 ∨ (0x20 ≤ a ∧ a < 0x1000) ∨ 0x2000 ≤ a → Sets (.tileDataWrite v) R.TILE_STAT_denied 1 s))) ∧
  (∀ (v : Word) (s : State), s.blockUp 6 = true → ∃ u : State, u.get R.TILE_TEST_group = bits v.toNat 0 4 ∧
    u.get R.TILE_TEST_row_group = bits v.toNat 4 2 ∧ u.get R.TILE_TEST_acc_mode = bits v.toNat 6 1 ∧
    u.get R.TILE_TEST_adc_shift = bits v.toNat 7 3 ∧ u.get R.TILE_TEST_avg = bits v.toNat 10 2 ∧
    Writes [R.TILE_TEST_group, R.TILE_TEST_row_group, R.TILE_TEST_acc_mode, R.TILE_TEST_adc_shift, R.TILE_TEST_avg] s u ∧
    (v.getLsbD 12 = false → exec (.tileTestStart v) s = .next u) ∧
    (v.getLsbD 12 = true → s.testRefused (bits v.toNat 4 2) (bits v.toNat 10 2) (bits v.toNat 0 4) = true →
      exec (.tileTestStart v) s = .next (u.put R.TILE_STAT_test_refused 1)) ∧
    (v.getLsbD 12 = true → s.testRefused (bits v.toNat 4 2) (bits v.toNat 10 2) (bits v.toNat 0 4) = false →
      ∃ t x, exec (.tileTestStart v) s = .next t ∧ t.fix.test = some x ∧ x.tile = s.get R.TILE_SEL_tile ∧ x.group = bits v.toNat 0 4 ∧
        x.avg = 2 ^ bits v.toNat 10 2 ∧ t.get R.TILE_STAT_test_busy = 1 ∧ FieldsBut [R.TILE_STAT_test_busy] u t ∧
        t = { s with regs := t.regs, fix := t.fix })) ∧
  (∀ (x : TileTest) (s : State), s.fix.test = some x → s.blockUp 6 = true → ∃ t, exec .tileTestDone s = .next t ∧ t.fix = { s.fix with test := none } ∧
    t.get R.TILE_STAT_test_busy = 0 ∧ BitSet t (R.TILE_EVT x.tile) 4 ∧ FieldsButTiles [x.tile] [R.TILE_STAT_test_busy] s t ∧
    t = { s with regs := t.regs, fix := t.fix, freeIx := t.freeIx })

/-- A tile whose part of a burst is done makes its chain add, or its slice merge at the end of the high-slice chain: each column of its bank
is added into the receiving tile's bank, both counted, and no byte of memory changes. A compensated add replaces one 8-byte word and no
other byte; with the word's stack in self-refresh it waits. The oldest INT8 output run of a plate that waits for no bank and no stack, with
no fused operand and nearest rounding, stores one code for each channel, the shifted bank value rounded and offset, at consecutive bytes
from its destination, leaves every other byte, and is gone. One that waits for banks counts each wait once, with TILE_EVT bit 5, and
stays. -/
def Obligations.ChainsAndOutputRuns : Prop :=
  (∀ (k u : Fin 256) (merge : Bool) (b d : Burst) (r : ResImage × Plate × TileRec) (s : State), (s.tile k.val).burst = some b →
    s.tileRec k.val = some r → b.ready r.2.1 k.val = true → b.sent = false → r.2.2.reduceTo.isNone = merge →
    r.2.1.outbound r.2.2 = some u.val → u ≠ k → (s.tile u.val).burst = some d → b.bank < 4 → d.bank < 4 →
    ∃ t, exec (if merge then .sliceMerge k else .chainAdd k) s = .next t ∧ (t.tile k.val).burst = some { b with sent := true } ∧
      (t.tile u.val).burst = some { d with inbound := d.inbound + 1 } ∧ OtherTiles [k.val, u.val] s t ∧ SameMem s t ∧
      FieldsButTiles [k.val, u.val] [] s t ∧
      t.get (R.TILE_CHAIN_adds_out k.val) = satAdd 16 (s.get (R.TILE_CHAIN_adds_out k.val)) 1 ∧
      t.get (R.TILE_CHAIN_adds_in u.val) = satAdd 16 (s.get (R.TILE_CHAIN_adds_in u.val)) 1 ∧
      ∀ c : Fin 512, t.get (R.TILE_BANK_value u.val d.bank c.val) = (bankStore r.2.1.acc16
        (toSigned 32 (s.get (R.TILE_BANK_value u.val d.bank c.val)) + toSigned 32 (s.get (R.TILE_BANK_value k.val b.bank c.val)))).1) ∧
  (∀ (addr : BitVec 40) (w : Word64) (s : State), s.controlUp = true → addr.toNat / 8 * 8 < cmdEnd →
    (s.asleep (addr.toNat / 8 * 8) = false → ∃ t, exec (.compAdd addr w) s = .next t ∧ SameMemBut (addr.toNat / 8 * 8) 8 s t ∧
      t.readNum (addr.toNat / 8 * 8) 8 = (compAdd (s.readNum (addr.toNat / 8 * 8) 8) w.toNat).1 % 2 ^ 64 ∧ FieldsButPmu [] s t) ∧
    (s.asleep (addr.toNat / 8 * 8) = true → exec (.compAdd addr w) s =
      .next { s with dueWrites := s.dueWrites ++ [⟨true, addr.toNat / 8 * 8, toLE 8 w.toNat⟩] })) ∧
  (∀ (p : Fin 64) (r : OutRun) (x : Nat × ResImage × Plate) (s : State), s.outRuns.find? (fun q => q.cmd.plate == p.val) = some r →
    s.plateOf p.val = some x → s.runAsleep r = false →
    (s.busyEnds r x.2.2 = [] → r.cmd.fuse = 0 → r.cmd.result = 0 → r.cmd.stochastic = false →
      ∃ t, exec (.outputRunDone p) s = .next t ∧ t.outRuns = s.outRuns.erase r ∧ SameMemBut r.dst r.cmd.chCount s t ∧
        ∀ i y, i < r.cmd.chCount → x.2.2.channelTile (r.cmd.chFirst + i) = some y →
          Memory.get t.mem (r.dst + i) = BitVec.ofNat 8 (int8Code .nearest (s.channelY r y (r.cmd.chFirst + i)) r.cmd.zOut 0).1) ∧
    (s.busyEnds r x.2.2 ≠ [] → ∃ t, exec (.outputRunDone p) s = .next t ∧ OnlySignals { s with outRuns := t.outRuns } t ∧
      t.outRuns.length = s.outRuns.length ∧
      FieldsButPmu ((s.busyEnds r x.2.2).flatMap (fun k => [R.TILE_OUTCNT1_hazard_waits k, R.TILE_EVT k])) s t ∧
      ∀ k ∈ s.busyEnds r x.2.2,
        (k ∈ r.waited → t.get (R.TILE_OUTCNT1_hazard_waits k) = s.get (R.TILE_OUTCNT1_hazard_waits k)) ∧
        (k ∉ r.waited → t.get (R.TILE_OUTCNT1_hazard_waits k) = satAdd 16 (s.get (R.TILE_OUTCNT1_hazard_waits k)) 1 ∧
          BitSet t (R.TILE_EVT k) 5)))

/-- A die's pump with room starts the oldest entry it may, which leaves the queue and runs toward the targets of now, its tile dirty where a
cell lies outside its window; a verified segment leaves the runs with each of its cells inside the window of its target and its failed
attempts counted, one that failed counts 3; a clean erasure puts a tile's data cells below the erase limit and its targets at 0 and
raises TILE_FIX_EVT bit 9; a refix request for a plate that is there and not refixing queues its tiles, any other raises bit 10; a refix
that ends with no failed row has every segment left inside the refix window, counts it, clears the tile's marks and starts its age anew
with bit 5; while the array is powered, an owned tile whose next whole hour has passed grows an hour older. -/
def Obligations.FixingSteps : Prop :=
  (∀ (d : Fin 4) (e : FixEntry) (s : State), s.pumpUsed d.val < s.pumpLimit → (s.fixQueue d.val).find? (s.startable d.val) = some e →
    ∃ t run, exec (.segmentStart d) s = .next t ∧ t.fixRuns d.val = s.fixRuns d.val ++ [run] ∧ run.tile = e.tile ∧ run.row = e.row ∧
      run.seg = e.seg ∧ (e.seg < 8 → run.targets = (List.range 64).map (fun i => s.target e.tile e.row (64 * e.seg + i))) ∧
      t.fixQueue d.val = (s.fixQueue d.val).erase e ∧ OtherTiles [e.tile] s t ∧ t = { s with fix := t.fix, tiles := t.tiles } ∧
      (s.segHolds e.tile e.row e.seg fixWindow = true → t.tiles = s.tiles) ∧
      (s.segHolds e.tile e.row e.seg fixWindow = false → t.tile e.tile = { s.tile e.tile with dirty := true })) ∧
  (∀ (d : Fin 4) (r : FixRun) (rest : List FixRun) (attempts : BitVec 2) (iterations : BitVec 7) (bad : BitVec 8) (s : State),
    s.fixRuns d.val = r :: rest →
    (attempts.toNat < 3 → ∃ t, exec (.segmentDone d attempts iterations true bad) s = .next t ∧ t.fixRuns d.val = rest ∧
      (r.seg < 8 → r.targets.length ≤ 64 → ∀ i l, r.targets[i]? = some l →
        (CellTarget.mk (nominalPlus l) fixWindow (s.tempOf r.tile)).holds (t.pairAt r.tile r.row (64 * r.seg + i)).plus = true ∧
        (CellTarget.mk (nominalMinus l) fixWindow (s.tempOf r.tile)).holds (t.pairAt r.tile r.row (64 * r.seg + i)).minus = true) ∧
      OtherTiles [r.tile] s t ∧ SameMem s t ∧
      t.get (R.TILE_FIXCNT0_seg_retries r.tile) = satAdd 16 (s.get (R.TILE_FIXCNT0_seg_retries r.tile)) attempts.toNat ∧
      FieldsButPmu [R.TILE_FIXCNT0_seg_retries r.tile, R.TILE_AGE_hours r.tile, R.TILE_FIX_EVT] s t) ∧
    (∃ t, exec (.segmentDone d attempts iterations false bad) s = .next t ∧ t.fixRuns d.val = rest ∧ OtherTiles [r.tile] s t ∧
      SameMem s t ∧ t.get (R.TILE_FIXCNT0_seg_retries r.tile) = satAdd 16 (s.get (R.TILE_FIXCNT0_seg_retries r.tile)) 3)) ∧
  (∀ (k : Fin 256) (s : State), s.eraseMay k.val = true → s.blockUp 6 = true →
    ((s.tile k.val).eraseRun = true ∨ s.pumpUsed (dieOf k.val) < s.pumpLimit) → ∃ t, exec (.tileEraseDone k 0 [] 0) s = .next t ∧
    t.tile k.val = { s.tile k.val with erasing := false, eraseRun := false, dirty := false, blanks := (s.tile k.val).blanks + 1, blank := .erased,
                                       unfixed := false, hold := [], cells := (s.tile k.val).cells.filter (fun c => decide (512 ≤ c.1 % 520)) } ∧
    OtherTiles [k.val] s t ∧
    BitSet t R.TILE_FIX_EVT 9 ∧ FieldsButPmu [R.TILE_FIX_EVT] s t ∧ SameMemBut (shadowAt k.val 0 0) 0x40000 s t ∧
    ∀ a, shadowAt k.val 0 0 ≤ a → a < shadowAt k.val 0 0 + 0x40000 → Memory.get t.mem a = 0) ∧
  (∀ (v : Word) (s : State), s.blockUp 6 = true → v.getLsbD 7 = true →
    (s.plateOf (bits v.toNat 0 6) = none ∨ s.refixing (bits v.toNat 0 6) = true → ∃ t, exec (.tileRefixReq v) s = .next t ∧
      BitSet t R.TILE_FIX_EVT 10 ∧ Signals [R.TILE_FIX_EVT] s t) ∧
    (∀ x, s.plateOf (bits v.toNat 0 6) = some x → s.refixing (bits v.toNat 0 6) = false → v.getLsbD 6 = false → x.2.2.tiles ≠ [] →
      exec (.tileRefixReq v) s = .next { s with fix := { s.fix with
        refixes := s.fix.refixes ++ [⟨bits v.toNat 0 6, x.2.2.tiles.map TileRec.tile, []⟩] } })) ∧
  (∀ (k : Fin 256) (x : RefixRun) (r : ResImage × Plate × TileRec) (s : State), s.refixRun k.val = some x → s.tileRec k.val = some r →
    ∃ t, exec (.refixDone k []) s = .next t ∧ t.refixPending k.val = false ∧ OtherTiles [k.val] s t ∧ SameMem s t ∧
      (∀ n, x.pos ≤ n → n < segCount → t.segHolds k.val (n / 9) (n % 9) refixWindow = true) ∧
      (t.tile k.val).refixed = true ∧ (t.tile k.val).unfixed = false ∧ (t.tile k.val).refixes = min 65535 ((s.tile k.val).refixes + 1) ∧
      (t.tile k.val).fogCount = 0 ∧ t.get (R.TILE_GAIN_g_drift k.val) = 0 ∧ t.get (R.TILE_FIXSTAT_due k.val) = 0 ∧
      t.get (R.TILE_FIXSTAT_over_budget k.val) = 0 ∧ t.get (R.TILE_AGE_hours k.val) = 0 ∧ BitSet t R.TILE_FIX_EVT 5) ∧
  (∀ (k : Fin 256) (o : Nat × Nat) (a : Nat) (s : State), s.pwr.railGood.getLsbD 1 = true → SMap.wf TileSt.init s.tiles = true →
    (s.tile k.val).owner = some o → (s.tile k.val).ageAt = some a → ∃ t, exec .tileAgeHour s = .next t ∧ t.tiles = s.tiles ∧ SameMem s t ∧
      (hourTicks * (s.get (R.TILE_AGE_hours k.val) + 1) ≤ s.fix.coreTicks - a →
        t.get (R.TILE_AGE_hours k.val) = satAdd 16 (s.get (R.TILE_AGE_hours k.val)) 1) ∧
      (s.fix.coreTicks - a < hourTicks * (s.get (R.TILE_AGE_hours k.val) + 1) →
        t.get (R.TILE_AGE_hours k.val) = s.get (R.TILE_AGE_hours k.val)))

/-- On a sequencer that runs a routine, with an acceptable micro-word at its address, nano pointer 0 and its address below 16,383: NEXT, LDC,
LDA, ADDA, JMP, JSR with room on the stack, RTS with an entry, LOOP, the conditional branches, WAIT before and after its tick, and WAITD
with nothing outstanding, each replace the registers as the rules say, count one micro-word, and change nothing else; a WAIT whose tick
has begun counts a late fire. WAITD and END with commands outstanding wait; END with none ends the routine. A WAIT that holds goes on
when its tick comes. -/
def Obligations.MicroWords : Prop :=
  ∀ (q : Fin 16) (r : Routine) (m : MicroWord) (s : State), Fetched s q r m → m.operandOk = true → m.nanoPtr = 0 →
    (s.seq q.val).pc < 16383 →
    let x := s.seq q.val
    let j := fin4 (bits m.op 14 2)
    (m.code = 0 → Becomes (.next q) q r { x with pc := x.pc + 1, cmdPc := x.pc } s) ∧
    (m.code = 1 → Becomes (.ldc q) q r { x with c := x.c.set (fin2 m.flag15) (bits m.op 0 15), pc := x.pc + 1, cmdPc := x.pc } s) ∧
    (m.code = 2 → Becomes (.lda q) q r { x with a := x.a.set j ((x.a[fin4 0] + bits m.op 0 14) % 2 ^ 32), pc := x.pc + 1, cmdPc := x.pc } s) ∧
    (m.code = 3 → Becomes (.adda q) q r
      { x with a := x.a.set j (fromSigned 32 ((x.a[j] : Int) + toSigned 14 (bits m.op 0 14))), pc := x.pc + 1, cmdPc := x.pc } s) ∧
    (m.code = 4 → Becomes (.jmp q) q r { x with pc := m.target, cmdPc := x.pc } s) ∧
    (m.code = 5 → x.stack.length < 4 → Becomes (.jsr q) q r { x with pc := m.target, stack := (x.pc + 1) :: x.stack, cmdPc := x.pc } s) ∧
    (∀ p rest, m.code = 6 → x.stack = p :: rest → Becomes (.rts q) q r { x with pc := p, stack := rest, cmdPc := x.pc } s) ∧
    (m.code = 7 →
      let c := x.c[fin2 m.flag14] - 1
      Becomes (.loop q) q r { x with c := x.c.set (fin2 m.flag14) c, pc := if c ≠ 0 then m.target else x.pc + 1, cmdPc := x.pc } s) ∧
    (8 ≤ m.code → m.code ≤ 13 → Becomes (.bcond q) q r { x with pc := if x.cond m.code != m.flag15 then m.target else x.pc + 1, cmdPc := x.pc } s) ∧
    (m.code = 16 → s.horizon < r.at (bits m.op 0 11) →
      Becomes (.wait q) q r { x with mode := .waiting, waitTick := some (bits m.op 0 11), cmdPc := x.pc } s) ∧
    (m.code = 16 → r.at (bits m.op 0 11) < r.spanEnd → r.at (bits m.op 0 11) ≤ s.horizon →
      exec (.wait q) s = .next (((s.pmu 0x26 (some r.ctx) 1).setSeq q.val { x with pc := x.pc + 1, cmdPc := x.pc }).lateFire q.val)) ∧
    (m.code = 17 → x.outstanding = [] → Becomes (.waitd q) q r { x with pc := x.pc + 1, cmdPc := x.pc } s) ∧
    (m.code = 17 → x.outstanding ≠ [] → exec (.waitd q) s = .next (s.setSeq q.val { x with mode := .waiting })) ∧
    (m.code = 18 → x.outstanding = [] → exec (.seqEnd q) s = .next ((s.pmu 0x26 (some r.ctx) 1).routineEnd q.val)) ∧
    (m.code = 18 → x.outstanding ≠ [] → exec (.seqEnd q) s = .next (s.setSeq q.val { x with mode := .waiting })) ∧
    (∀ (w : Nat) (u : State), u = s.setSeq q.val { x with mode := .waiting, waitTick := some w } → s.horizon = r.at w → r.at w < r.spanEnd →
      x.issueTimed = false → exec (.waitFire q) u = .next (u.setSeq q.val { x with pc := x.pc + 1, waitTick := none }))

/-- A fetched word with a reserved code makes a machine check of cause code; one that points at a nano-word of good parity and a reserved
kind, and passes the checks before it, makes one of cause kind. A NEXT whose parity fails makes one of cause micro_parity, and one whose
nano-word's parity fails one of cause nano_parity, each with its syndrome. A machine check of a routine with nothing outstanding and no
descriptor, on a free record, records the cause and address, ends the routine, enters FAULT and sets SEQ_EVT bit 0. Clearing the record
returns the sequencer to IDLE. -/
def Obligations.MachineChecks : Prop :=
  (∀ (q : Fin 16) (r : Routine) (m : MicroWord) (s : State), Fetched s q r m →
    (reservedCode m.code = true → exec (.reservedCode q) s = .next (s.machineCheck q.val .code 0)) ∧
    (∀ n, m.operandOk = true → m.nanoPtr ≠ 0 → (m.code = 18 ∨ ∃ x, (s.seq q.val).act m = .ok x) → s.nanoWord r m.nanoPtr = some n →
      nanoSyndrome n = 0 → 8 ≤ bits n 0 4 → exec (.reservedNanoKind q) s = .next (s.machineCheck q.val .kind 0)) ∧
    (∀ n, m.code = 0 → m.nanoPtr ≠ 0 → (s.seq q.val).pc ≠ 16383 → s.nanoWord r m.nanoPtr = some n → nanoSyndrome n ≠ 0 →
      exec (.next q) s = .next (s.machineCheck q.val .nanoParity (nanoSyndrome n)))) ∧
  (∀ (q : Fin 16) (r : Routine) (w : Nat) (s : State), s.blockUp 5 = true → (s.seq q.val).checked = false →
    (s.seq q.val).mode = .running → (s.seq q.val).issue = none → (s.seq q.val).routine = some r →
    s.microWord r (s.seq q.val).pc = some w → (MicroWord.ofNat w).code = 0 → microSyndrome w ≠ 0 →
    exec (.next q) s = .next (s.machineCheck q.val .microParity (microSyndrome w))) ∧
  (∀ (q : Fin 16) (r : Routine) (c : McCause) (syndrome : Nat) (s : State), (s.seq q.val).routine = some r → r.desc = none →
    (s.seq q.val).outstanding = [] → s.get (R.SEQ_MC0_valid q.val) = 0 →
    let t := s.machineCheck q.val c syndrome
    t.get (R.SEQ_MC0_valid q.val) = 1 ∧ t.get (R.SEQ_MC0_cause q.val) = c.num ∧
      t.get (R.SEQ_MC0_micro_pc q.val) = (s.seq q.val).pc % 2 ^ 14 ∧ t.get (R.SEQ_MC1_context q.val) = r.ctx % 64 ∧
      BitSet t (R.SEQ_EVT q.val) 0 ∧ (t.seq q.val).mode = .fault ∧ (t.seq q.val).routine = none ∧ OtherSeqs q s t ∧ SameMem s t) ∧
  (∀ (q : Fin 16) (s : State), s.blockUp 5 = true → ∃ t, exec (.seqMcClear q) s = .next t ∧ t.get (R.SEQ_MC0_valid q.val) = 0 ∧
    t.get (R.SEQ_MC0_cause q.val) = 0 ∧ t.get (R.SEQ_MC2_frame_lo q.val) = 0 ∧ OtherSeqs q s t ∧
    ((s.seq q.val).mode = .fault → (t.seq q.val).mode = .idle) ∧ ((s.seq q.val).mode ≠ .fault → t.seqs = s.seqs) ∧
    t = { s with regs := t.regs, seqs := t.seqs })

/-- On a sequencer with a latched command that need not wait: EXPOSE, on a plate it serves that is not FIXING with its tiles able, begins a
burst on every tile of the plate; LOAD, with no poisoned line, fills the holding buffers from memory; OUTPUT adds a run; FSEND, with a
destination and a port, opens one transfer; FRECV counts its range; VECTOR runs its program; each becomes outstanding (LOAD too). A local
SYNC signal adds to its object; a SYNC test sets the flag; NOP issues nothing. The latch is empty afterwards. -/
def Obligations.NanoCommands : Prop :=
  ∀ (q : Fin 16) (r : Routine) (s : State),
    (∀ e p, s.latched q.val = some (r, .expose e) → s.mustHold q.val (some e.plate) = false → s.plateOf e.plate = some p →
      s.serves q.val e.plate = true → s.fix.fixing.getLsbD e.plate = false →
      (∀ x ∈ p.2.2.tiles, s.tileForced x.tile = false ∧ (s.tile x.tile).faulty = false) → s.clk.forcedEnd ≤ r.at 0 →
      ∃ t, exec (.expose q) s = .next t ∧ (t.seq q.val).outstanding = (s.seq q.val).outstanding ++ [⟨.expose e.plate, false⟩] ∧
        (t.seq q.val).issue = none ∧ OtherSeqs q s t ∧ SameMem s t ∧ FieldsButPmu [] s t ∧
        (∀ x ∈ p.2.2.tiles, ∃ b, (t.tile x.tile).burst = some b ∧ b.cmd = e ∧ b.started = 0 ∧ b.developed = 0 ∧ b.q = q.val ∧
          b.endFrame = r.frame ∧ b.endTick = r.endTick) ∧
        OtherTiles (p.2.2.tiles.map TileRec.tile) s t) ∧
    (∀ plate reg line lines p, s.latched q.val = some (r, .load plate reg line lines) → s.mustHold q.val none = false →
      s.plateOf plate = some p → s.poison = [] → (p.2.2.tiles.map TileRec.tile).Nodup →
      ∃ t, exec (.load q) s = .next t ∧ (t.seq q.val).outstanding = (s.seq q.val).outstanding ++ [⟨.load, false⟩] ∧
        (t.seq q.val).issue = none ∧ OtherSeqs q s t ∧ SameMem s t ∧ FieldsButPmu [] s t ∧
        OtherTiles (p.2.2.tiles.map TileRec.tile) s t ∧
        ∀ x ∈ p.2.2.tiles, ∀ i, i < 64 * lines → SMap.get 0 (t.tile x.tile).hold (64 * line + i) =
          (Memory.get s.mem ((s.seq q.val).addr reg + x.row * 64 * lines + i)).toNat) ∧
    (∀ o, s.latched q.val = some (r, .output o) → s.mustHold q.val (some o.plate) = false → o.result ≠ 5 →
      ∃ t, exec (.output q) s = .next t ∧ (t.seq q.val).outstanding = (s.seq q.val).outstanding ++ [⟨.output o.plate, false⟩] ∧
        (t.seq q.val).issue = none ∧ OtherSeqs q s t ∧ SameMem s t ∧ FieldsButPmu [] s t ∧
        ∃ run, t.outRuns = s.outRuns ++ [run] ∧ run.cmd = o ∧ run.q = q.val ∧ run.dst = (s.seq q.val).addr o.dstReg) ∧
    (∀ port reg length dst addr f, s.latched q.val = some (r, .fsend port reg length dst addr f) → s.mustHold q.val none = false →
      s.sendFault port dst = none → s.transfersFull = false → s.poison = [] →
      ∃ t x, exec (.fsend q) s = .next t ∧ t.fab.transfers = s.fab.transfers ++ [x] ∧ x.port = port ∧ x.count = length ∧
        (t.port port).queue.length = (s.port port).queue.length + length ∧
        (t.seq q.val).outstanding.length = (s.seq q.val).outstanding.length + 1 ∧ (t.seq q.val).issue = none ∧ OtherSeqs q s t ∧
        SameMem s t ∧ FieldsButPmu [] s t) ∧
    (∀ port reg length, s.latched q.val = some (r, .frecv port reg length) → s.mustHold q.val none = false →
      exec (.frecv q) s = .next (s.issued q.val
        (some (.frecv port ((s.seq q.val).addr reg) ((s.seq q.val).addr reg + 64 * length) length)))) ∧
    (∀ unit reg f, s.latched q.val = some (r, .vector unit reg f) → s.mustHold q.val none = false → s.poison = [] →
      let v := s.vectorRun (s.vectorProgram r (s.seq q.val) reg f) r.ctx
      exec (.vector q) s = .next ((v.1.issued q.val (some .vector)).gatherFlags r.desc v.2)) ∧
    (∀ obj value dst, s.latched q.val = some (r, .sync 0 obj value false dst) → s.mustHold q.val none = false → obj < 4096 →
      ∃ t, exec (.syncNanoSignal q) s = .next t ∧ t.syncVal obj = (s.syncVal obj + value) % 65536 ∧
        FieldsButPmu [R.SYNC_VAL_value obj] s t ∧ (t.seq q.val).issue = none ∧ OtherSeqs q s t ∧ SameMem s t) ∧
    (∀ obj value rem dst, s.latched q.val = some (r, .sync 1 obj value rem dst) → s.mustHold q.val none = false →
      ∃ t, exec (.syncNanoTest q) s = .next t ∧ (t.seq q.val).syncFlag = s.waitHolds obj value ∧ FieldsButPmu [] s t ∧
        (t.seq q.val).issue = none ∧ OtherSeqs q s t ∧ SameMem s t) ∧
    (s.latched q.val = some (r, .nop) →
      exec (.nop q) s = .next (s.setSeq q.val { s.seq q.val with issue := none, issueTimed := false, waitTick := none }))

/-- A static entry due, first of those due in its table and not skipped, and a granted claim due and not stopped, load an idle sequencer: it
runs the entry's code with nothing outstanding for the image's, or the descriptor's, context. A command that has ended leaves a running
sequencer's outstanding ones. A routine at its span's end with no output run is counted, flagged and cut. An arm write records its result
and arms the image on 0; a disarm of an armed image is noted; a halt of an idle sequencer with no entry of an armed image halts it, any
other is refused; a run returns a halted one to IDLE, and does nothing where dawn step 10 was skipped. -/
def Obligations.SequencerRuns : Prop :=
  (∀ (q : Fin 16) (index : BitVec 12) (e : Nat × SlotEntry) (i : ResImage) (s : State), s.blockUp 5 = true →
    (s.slotTable q.val)[index.toNat]? = some e → s.resImage e.1 = some i → s.entryDue q.val e = true →
    (∀ x ∈ (s.slotTable q.val).take index.toNat, s.entryDue q.val x = false) → s.quiesceDue e.1 = false → s.skipReason q.val i e.2 = none →
    ∃ t r, exec (.staticDispatch q index) s = .next t ∧ (t.seq q.val).mode = .running ∧ (t.seq q.val).pc = e.2.entry ∧
      (t.seq q.val).outstanding = [] ∧ (t.seq q.val).routine = some r ∧ r.ctx = i.ctx ∧ r.dyn = false ∧ r.image = some e.1 ∧
      r.startTick = e.2.startTick ∧ r.endTick = e.2.endTick ∧ t.entryDue q.val e = false ∧ OtherSeqs q s t ∧ SameMem s t ∧ FieldsButPmu [] s t ∧ t.tiles = s.tiles) ∧
  (∀ (c : Fin 64) (d : CmdDesc) (f unit : Nat) (seqs : List Nat) (cl : Claim) (s : State), s.dueClaim c.val = some (d, f, unit, seqs, cl) →
    s.blockUp 5 = true → s.pwr.dusk = none → s.clk.coasting = false → s.working = true → s.isBench = false →
    (∀ x, s.plateOf d.desc.plate = some x → s.quiesceDue x.1 = false) →
    (cl.kind = 1 → s.fix.fixing.getLsbD d.desc.plate = false) → seqs.headD 0 < 16 → (s.seq (seqs.headD 0)).mode = .idle →
    ∃ t r, exec (.dynamicDispatch c) s = .next t ∧ (t.seq (seqs.headD 0)).mode = .running ∧ (t.seq (seqs.headD 0)).pc = cl.entry ∧
      (t.seq (seqs.headD 0)).routine = some r ∧ r.dyn = true ∧ r.desc = some (d.ctx, d.slot) ∧ r.ctx = d.ctx ∧
      (∀ k : Fin 16, k.val ≠ seqs.headD 0 → t.seqs[k] = s.seqs[k]) ∧ SameMem s t ∧ FieldsButPmu [] s t ∧ t.tiles = s.tiles) ∧
  (∀ (q : Fin 16) (i : Fin 4) (o : OutCmd) (s : State), (s.seq q.val).outstanding[i.val]? = some o → s.commandOver o = true →
    (∀ p, o.kind ≠ .expose p) → (s.seq q.val).checked = false → (s.seq q.val).mode = .running →
    exec (.seqCommandDone q i) s = .next (s.setSeq q.val { s.seq q.val with outstanding := (s.seq q.val).outstanding.eraseIdx i.val })) ∧
  (∀ (q : Fin 16) (r : Routine) (s : State), (s.seq q.val).routine = some r → r.spanEnd ≤ s.horizon → (s.seq q.val).checked = false →
    s.outRuns = [] → ∃ u : State, exec (.spanEnd q) s = .next (u.routineCut q.val 5 q.val) ∧
      u.get (R.SEQ_CNT1_overruns q.val) = satAdd 16 (s.get (R.SEQ_CNT1_overruns q.val)) 1 ∧ BitSet u (R.SEQ_EVT q.val) 2 ∧
      Signals [R.SEQ_CNT1_overruns q.val, R.SEQ_EVT q.val] s u) ∧
  (∀ (slot : Fin 64) (s : State), s.blockUp 5 = true →
    let u := s.put R.SEQ_ARM_CTRL_slot slot.val
    (u.armResult slot.val ≠ 0 → ∃ t, exec (.seqArm slot) s = .next t ∧ t.get R.SEQ_ARM_STAT_result = u.armResult slot.val ∧
      Writes [R.SEQ_ARM_CTRL_slot, R.SEQ_ARM_STAT_result] s t) ∧
    (u.armResult slot.val = 0 → ∃ t i, exec (.seqArm slot) s = .next t ∧ t.get R.SEQ_ARM_STAT_result = 0 ∧ t.resImage slot.val = some i ∧
      i.armed = true ∧ i.epoch = s.get R.SEQ_ARM_EPOCH_LO + 2 ^ 32 * s.get R.SEQ_ARM_EPOCH_HI ∧ t.seqs = s.seqs ∧
      FieldsBut [R.SEQ_ARM_CTRL_slot, R.SEQ_ARM_STAT_result] s t) ∧
    (∀ i, s.resImage slot.val = some i → i.leaving = false → i.parked = false → i.armed = true →
      ∃ t, exec (.seqDisarm slot) s = .next t ∧ t.get R.SEQ_ARM_STAT_result = 0 ∧
        t.resImage slot.val = some { i with disarming := true } ∧ FieldsBut [R.SEQ_ARM_CTRL_slot, R.SEQ_ARM_STAT_result] s t)) ∧
  (∀ (q : Fin 16) (s : State), s.blockUp 5 = true → s.running = true →
    let busy := s.img.resident.any (fun i => i.2.isArmed && !(i.2.image.entriesOn q.val).isEmpty)
    ((s.seq q.val).mode = .idle → busy = false →
      exec (.seqHalt q) s = .next (s.setSeq q.val { s.seq q.val with mode := .halted })) ∧
    ((s.seq q.val).mode ≠ .idle ∨ busy = true → Sets (.seqHalt q) (R.SEQ_STAT_halt_refused q.val) 1 s) ∧
    (s.pwr.stage2 = none → exec (.seqRun q) s = .next s) ∧
    (s.pwr.stage2.isSome = true → (s.seq q.val).mode = .halted → exec (.seqRun q) s = .next (s.setSeq q.val { s.seq q.val with mode := .idle })))

/-- With the loader block up. A start or an unload while a load runs, or outside the running states, only raises start_rejected. A start copies the
image from IMG_SRC and opens a load in phase 1; an unload of a resident image opens one in phase 10, and of no such image ends with 0x15.
The end of the checks posts the first failure and counts it, or moves to quiesce for a replacement and to install otherwise. The end of
install posts success with the image's ID and leaves it arriving, or drops it where its context is being released. The end of quiesce
moves a replacement to install and ends an unload with the image gone. An abort in phases 1 to 8 posts 0x1E, in a later one does
nothing. -/
def Obligations.ImageLoader : Prop :=
  let result := [R.IMG_RESULT_code, R.IMG_RESULT_phase, R.IMG_RESULT_section, R.IMG_RESULT_level_mismatch, R.IMG_EVT]
  let posted := fun (t : State) (code phase sect mismatch : Nat) => t.img.load = none ∧ t.get R.IMG_RESULT_code = code % 256 ∧
    t.get R.IMG_RESULT_phase = phase % 16 ∧ t.get R.IMG_RESULT_section = sect % 256 ∧ t.get R.IMG_RESULT_level_mismatch = mismatch
  (∀ s : State, s.blockUp 4 = true →
    (s.img.load ≠ none ∨ s.running = false → exec .imgStart s = .next (s.raiseImg 2) ∧ exec .imgUnload s = .next (s.raiseImg 2)) ∧
    (s.img.load = none → s.running = true →
      (∃ l, exec .imgStart s = .next { s with img := { s.img with load := some l } } ∧ l.phase = 1 ∧
        l.ctx = s.get R.IMG_CTX_context ∧ l.src = s.get R.IMG_SRC_LO + 2 ^ 32 * s.get R.IMG_SRC_HI ∧ l.len = s.get R.IMG_LEN_bytes ∧
        l.image = none ∧ l.slot = none ∧ l.quiesce = none ∧
        (l.src + l.len ≤ dataEnd → l.len ≤ 4194304 → l.bytes = s.readMem l.src l.len)) ∧
      (s.img.resident = [] → ∃ t, exec .imgUnload s = .next t ∧ posted t 0x15 10 0xFF 0 ∧ BitSet t R.IMG_EVT 1 ∧
        t.img.resident = s.img.resident ∧ Signals result { s with img := t.img } t) ∧
      (∀ slot i, s.img.resident.find? (fun x => decide (x.2.image.id = s.get R.IMG_ID_LO + 2 ^ 32 * s.get R.IMG_ID_HI ∧
          x.2.ctx = s.get R.IMG_CTX_context ∧ x.2.parked = false ∧ x.2.leaving = false)) = some (slot, i) →
        ∃ l, exec .imgUnload s = .next { s with img := { s.img with load := some l } } ∧ l.phase = 10 ∧ l.ctx = i.ctx ∧
          l.slot = some slot ∧ l.quiesce = none)) ∧
    (∀ l, s.img.load = some l → 1 ≤ l.phase → l.phase ≤ 8 → ∃ t, exec .imgAbort s = .next t ∧ posted t 0x1E l.phase 0xFF 0 ∧
      BitSet t R.IMG_EVT 1 ∧ t.get R.IMG_COUNT_errors = satAdd 16 (s.get R.IMG_COUNT_errors) 1 ∧
      Signals (R.IMG_COUNT_errors :: result) { s with img := t.img } t ∧ (l.slot = none → t.img.resident = s.img.resident)) ∧
    (∀ l, s.img.load = some l → 9 ≤ l.phase → exec .imgAbort s = .next s)) ∧
  (∀ (s : State) (l : Load), s.img.load = some l →
    (∀ e, l.phase < 8 → s.imgChecks l = .error e → e.code ≠ 0 → ∃ t, exec .imgChecksDone s = .next t ∧ posted t e.code e.phase e.sect 0 ∧
      BitSet t R.IMG_EVT 1 ∧ t.get R.IMG_COUNT_errors = satAdd 16 (s.get R.IMG_COUNT_errors) 1 ∧
      t.img.resident = s.img.resident ∧ Signals (R.IMG_COUNT_errors :: result) { s with img := t.img } t) ∧
    (l.src % 4096 ≠ 0 ∨ dataEnd < l.src + l.len ∨ l.len < 456 ∨ 4194304 < l.len → s.imgChecks l = .error ⟨1, 1, 0xFF⟩) ∧
    (∀ i old pair, l.phase < 8 → s.imgChecks l = .ok (i, old, pair) →
      exec .imgChecksDone s = .next { s with img := { s.img with load := some { l with phase := if i.replacing then 8 else 9, image := some i, slot := old, pair := pair } } }) ∧
    (∀ i, l.phase = 9 → l.image = some i → s.img.arriving = none → s.ctxState l.ctx = 4 → ∃ t, exec .imgInstallDone s = .next t ∧
      posted t 0 0 0 (b2n l.pair.isSome) ∧ BitSet t R.IMG_EVT 0 ∧ t.img = { s.img with load := none } ∧
      Signals (R.IMG_ID_LO :: R.IMG_ID_HI :: result) { s with img := t.img } t) ∧
    (∀ i, l.phase = 9 → l.image = some i → s.img.arriving = none → s.ctxState l.ctx ≠ 4 → l.pair = none → ∃ t, exec .imgInstallDone s = .next t ∧
      posted t 0 0 0 0 ∧ BitSet t R.IMG_EVT 0 ∧ t.img.arriving = some { l with bytes := [] } ∧ t.img.resident = s.img.resident ∧
      t.get R.IMG_ID_LO = i.id % 2 ^ 32 ∧ t.get R.IMG_ID_HI = i.id / 2 ^ 32 % 2 ^ 32 ∧
      Signals (R.IMG_ID_LO :: R.IMG_ID_HI :: result) { s with img := t.img } t) ∧
    (∀ i p, l.phase = 9 → l.image = some i → s.img.arriving = none → s.ctxState l.ctx ≠ 4 → l.pair = some p → ∃ u : State,
      exec .imgInstallDone s = .next (((u.raiseLevel p).raiseImg 3).imgPost 0 0 0 true) ∧
      u = { s with regs := u.regs, img := u.img } ∧
      u.img = { s.img with arriving := some { l with bytes := [] }, levelBy := (if bitAt (s.get R.GEN_HOLD_CAUSE_causes) 0 then s.img.levelBy else some i.id) } ∧
      u.get R.IMG_ID_LO = i.id % 2 ^ 32 ∧ u.get R.IMG_ID_HI = i.id / 2 ^ 32 % 2 ^ 32 ∧ FieldsBut [R.IMG_ID_LO, R.IMG_ID_HI] s u) ∧
    (∀ q slot, l.quiesce = some q → l.slot = some slot → (s.imageWorking slot = false ∨ q < s.frame) →
      (l.phase = 8 → exec .imgQuiesceDone s = .next { s with img := { s.img with load := some { l with phase := 9 } } }) ∧
      (∀ i, l.phase = 10 → s.resImage slot = some i → s.descs = [] → i.pair = none → ∃ t, exec .imgQuiesceDone s = .next t ∧
        posted t 0 0 0 0 ∧ BitSet t R.IMG_EVT 0 ∧ t.img.resident = SMap.erase s.img.resident slot ∧
        (∀ p ∈ i.image.plates, ∀ r ∈ p.tiles, (t.tile r.tile).owner = none ∧ (t.tile r.tile).erasing = true) ∧ SameMem s t)))

/-- With the block up, the rings on and a submitted descriptor next. A row that names another opcode, or nothing submitted, changes nothing. A
descriptor that passes acceptance is counted and joins the command processor's list with what it was submitted with; a SYNC joins it when
its wait does not hold, and is served at once when it waits for nothing. One that fails is counted as faulted and completes FAULTED with
the lowest code; a reserved opcode whose tensors pass is FAULTED 0x0D with the opcode. A waiting SYNC whose wait holds is served. -/
def Obligations.DescriptorsAccepted : Prop :=
  ∀ (c : Fin 64) (s : State),
    let n := (s.ring c.val).nextAccept
    let d := s.slotDesc c.val n
    let env := s.acceptEnv c.val d
    let copied := s.readMem (cmdBase + s.sqBase c.val + 256 * n) 256
    let rows : List (Instr × Nat) := [(.descExpose c, 1), (.descOutput c, 2), (.matvec c, 3), (.schedule c, 4), (.send c, 8), (.copy c, 0x10),
      (.convert c, 0x11), (.eltwise c, 0x12), (.activate c, 0x13), (.softmax c, 0x14), (.norm c, 0x15), (.digitalMatvec c, 0x16), (.routine c, 0x7F)]
    let fresh := fun (y : CmdDesc) => y.ctx = c.val ∧ y.slot = n ∧ y.desc = d ∧ y.phase = .waiting ∧ y.arrival = (s.ring c.val).arrival ∧
      y.accepted = (s.frame, s.tick) ∧ y.home = none ∧ y.defers = 0 ∧ y.considered = false ∧ y.failed = none ∧ y.signalled = false
    let taken := fun (l : List Fld) (t : State) =>
      t.ring c.val = { s.ring c.val with nextAccept := (n + 1) % s.sqSize c.val } ∧
      t.get (R.CMD_RING_CNT_accepted c.val) = satAdd 16 (s.get (R.CMD_RING_CNT_accepted c.val)) 1 ∧ SameMem s t ∧
      Signals (R.CMD_RING_CNT_accepted c.val :: l) { s with descs := t.descs, rings := t.rings } t
    let joins := fun (cmd : Instr) => ∃ t y, exec cmd s = .next t ∧ t.descs = s.descs ++ [y] ∧ fresh y ∧ taken [] t
    let faults := fun (cmd : Instr) (code detail : Nat) => ∃ u y, exec cmd s = .next (u.finish y (.faulted code detail)) ∧ fresh y ∧
      u.descs = s.descs ∧ taken [R.CMD_RING_CNT_faulted_at_accept c.val] u ∧
      u.get (R.CMD_RING_CNT_faulted_at_accept c.val) = satAdd 16 (s.get (R.CMD_RING_CNT_faulted_at_accept c.val)) 1
    (∀ x ∈ rows, s.blockUp 7 = false ∨ s.ringOn c.val = false ∨ n = s.get (R.CMD_SQ_PTR_tail c.val) ∨ d.opcode ≠ x.2 → exec x.1 s = .next s) ∧
    (s.blockUp 7 = true → s.ringOn c.val = true → n ≠ s.get (R.CMD_SQ_PTR_tail c.val) →
      (∀ x ∈ rows, d.opcode = x.2 → (d.accept copied env = none → joins x.1) ∧
        (∀ code detail, d.accept copied env = some (code, detail) → faults x.1 code detail)) ∧
      (knownOpcode d.opcode = false → (∀ i, i < 4 → (d.tensor i).ok = true) → faults (.descReservedOpcode c) 0x0D d.opcode) ∧
      (d.opcode = 0x20 → s.syncReady c.val = none →
        (d.accept copied env = none → d.waits = true → s.waitHolds d.waitObj d.waitValue = false → joins (.descSync c)) ∧
        (d.accept copied env = none → d.waits = false ∨ s.waitHolds d.waitObj d.waitValue = true → d.signalsRemote = false → s.descTransfers c.val n = false →
          ∃ u y, exec (.descSync c) s = .next (u.finish y .served) ∧ fresh y ∧ y.granted = s.frame ∧ u.descs.length = s.descs.length + 1 ∧ taken [] u) ∧
        (∀ code detail, d.accept copied env = some (code, detail) → faults (.descSync c) code detail))) ∧
    (∀ y, s.blockUp 7 = true → s.syncReady c.val = some y → s.descTransfers y.ctx y.slot = false → y.failed = none →
      (y.desc.signals = false ∨ y.desc.signalsRemote = false) → exec (.descSync c) s = .next (s.finish { y with granted := s.frame } .served))

/-- Rings: enabling good rings clears their pointers and sets the phase; enabling bad ones sets bad_ring; disabling works with no descriptor
left, else sets bad_ring; a good doorbell moves the tail and stamps the arrival, a bad one sets bad_doorbell; a completion doorbell moves
the head and lets a held record in. A descriptor that completes leaves the list, counts its outcome and posts its record at the
completion tail, or holds it with cq_full. The first pass at tick 1,024 of a frame with no static work marks its frame when nothing is
handled, and grants a lone vector descriptor that fits the frame and its budgets the lowest home, with no static work in the frames beside
either; a second one changes nothing. At tick 1,536 with no pass a lone descriptor whose deadline comes is refused. -/
def Obligations.RingsAndPasses : Prop :=
  (∀ (c : Fin 64) (s : State), s.blockUp 7 = true →
    (s.ringOn c.val = true → exec (.ringEnable c) s = .next s) ∧
    (s.ringOn c.val = false → s.ctxResident c.val = true → s.ringsOk c.val = true → ∃ t, exec (.ringEnable c) s = .next t ∧
      t.get (R.CMD_RING_CTRL_en c.val) = 1 ∧ t.get (R.CMD_CQ_PTR_phase c.val) = 1 ∧
      (∀ f ∈ [R.CMD_SQ_PTR_head c.val, R.CMD_SQ_PTR_tail c.val, R.CMD_CQ_PTR_head c.val, R.CMD_CQ_PTR_tail c.val, R.CMD_RING_CNT_accepted c.val,
        R.CMD_RING_CNT_faulted_at_accept c.val], t.get f = 0) ∧ t.ring c.val = RingSt.none ∧
      Writes [R.CMD_RING_CTRL_en c.val, R.CMD_SQ_PTR_head c.val, R.CMD_SQ_PTR_tail c.val, R.CMD_CQ_PTR_head c.val, R.CMD_CQ_PTR_tail c.val,
        R.CMD_CQ_PTR_phase c.val, R.CMD_RING_CNT_accepted c.val, R.CMD_RING_CNT_faulted_at_accept c.val] { s with rings := t.rings } t) ∧
    (s.ringOn c.val = false → s.ctxResident c.val = false ∨ s.ringsOk c.val = false → exec (.ringEnable c) s = .next (s.raiseRing c.val 1)) ∧
    (s.ringOn c.val = false → exec (.ringDisable c) s = .next s) ∧
    (s.ringOn c.val = true → (∀ d ∈ s.descs, d.ctx ≠ c.val) → Sets (.ringDisable c) (R.CMD_RING_CTRL_en c.val) 0 s) ∧
    (∀ d ∈ s.descs, s.ringOn c.val = true → d.ctx = c.val → exec (.ringDisable c) s = .next (s.raiseRing c.val 1)) ∧
    (∀ tail : BitVec 12,
      let size := s.sqSize c.val
      let old := s.get (R.CMD_SQ_PTR_tail c.val)
      let n := (tail.toNat + size - old) % size
      let held := (old + size - s.get (R.CMD_SQ_PTR_head c.val)) % size
      let good := s.ctxState c.val = 1 ∧ s.ringOn c.val = true ∧ tail.toNat < size ∧ 1 ≤ n ∧ n ≤ 64 ∧ n + held ≤ size - 1 ∧
        (s.ring c.val).nextAccept = old
      (¬ good → exec (.sqDoorbell c tail) s = .next (s.raiseRing c.val 0)) ∧
      (good → ∃ t, exec (.sqDoorbell c tail) s = .next t ∧ t.get (R.CMD_SQ_PTR_tail c.val) = tail.toNat ∧
        t.ring c.val = { s.ring c.val with arrival := (s.frame, s.tick) } ∧
        Signals [R.CMD_SQ_PTR_tail c.val] { s with rings := t.rings } t)) ∧
    (∀ head : BitVec 12,
      (s.ringOn c.val = false ∨ s.cqSize c.val ≤ head.toNat → exec (.cqDoorbell c head) s = .next s) ∧
      (s.ringOn c.val = true → head.toNat < s.cqSize c.val → (s.ring c.val).waiting = [] →
        Sets (.cqDoorbell c head) (R.CMD_CQ_PTR_head c.val) head.toNat s) ∧
      (∀ r, s.ringOn c.val = true → head.toNat < s.cqSize c.val → (s.ring c.val).waiting = [r] →
        let tail := s.get (R.CMD_CQ_PTR_tail c.val)
        let a := cmdBase + s.cqBase c.val + 32 * tail
        (tail + 1) % s.cqSize c.val ≠ head.toNat → ∃ t, exec (.cqDoorbell c head) s = .next t ∧ (t.ring c.val).waiting = [] ∧
          t.readMem a 32 = r.bytes (s.get (R.CMD_CQ_PTR_phase c.val)) ∧ SameMemBut a 32 s t))) ∧
  (∀ (s : State) (d : CmdDesc) (st : Status), d.ctx < 64 → d.desc.signals = false →
    let c := d.ctx
    let t := s.finish d st
    let r := s.recordFor d st
    let tail := s.get (R.CMD_CQ_PTR_tail c)
    let a := cmdBase + s.cqBase c + 32 * tail
    t.get (st.outcome c) = satAdd (st.outcome c).w (s.get (st.outcome c)) 1 ∧ (∀ x ∈ t.descs, x.ctx = c → x.slot ≠ d.slot) ∧
    ((s.ring c).waiting = [] → s.cqFree c = true →
      t.readMem a 32 = r.bytes (s.get (R.CMD_CQ_PTR_phase c)) ∧ SameMemBut a 32 s t ∧
      t.get (R.CMD_CQ_PTR_tail c) = (tail + 1) % s.cqSize c % 4096 ∧
      ((s.ring c).posted = [] → d.slot = s.get (R.CMD_SQ_PTR_head c) → d.slot ≠ s.get (R.CMD_SQ_PTR_tail c) →
        t.get (R.CMD_SQ_PTR_head c) = (d.slot + 1) % s.sqSize c % 4096)) ∧
    ((s.ring c).waiting ≠ [] ∨ s.cqFree c = false → (t.ring c).waiting = (s.ring c).waiting ++ [r] ∧ BitSet t (R.CMD_RING_EVT c) 2 ∧ SameMem s t)) ∧
  (∀ s : State,
    let f := s.frame + 1
    (s.passRuns = true → s.tick = 1024 → s.passFrame ≠ f → s.staticIn f = [] →
      (s.descs = [] → exec .admissionPass s = .next { s with passFrame := f }) ∧
      (∀ d q rest, s.staticIn (f - 1) = [] → s.staticIn (f + 1) = [] → s.descs = [d] → s.eligible f d = true → isVectorOp d.desc.opcode = true → d.desc.unit ≤ 3 → d.home = none →
        d.considered = false → s.serving d = q :: rest → q < 16 → 1 ≤ d.desc.span → d.desc.span ≤ 2048 → f ≤ d.desc.deadline →
        220 * d.desc.span ≤ (s.pLimit - 60) * 20480 → 220 * d.desc.span ≤ 300 * 20480 → d.desc.dramCharge ≤ 65536 * s.get R.CTX_BUDGET_dram →
        let y := { d with home := some 0, considered := true, phase := .granted f d.desc.unit [q], granted := f, firstPass := true }
        exec .admissionPass s = .next { s with passFrame := f, descs := [y] })) ∧
    (s.passRuns = false ∨ s.tick ≠ 1024 ∨ s.passFrame = f → exec .admissionPass s = .next s) ∧
    (s.controlUp = true → s.hzn.counting = true → s.tick = 1536 → s.passFrame ≠ f → s.passRuns = false →
      ((∀ d ∈ s.descs, State.passHandles f d = true → f < d.desc.deadline) → exec .deadlineRefusal s = .next s) ∧
      (∀ d, s.descs = [d] → State.passHandles f d = true → d.desc.deadline ≤ f →
        ((∀ x, s.pwr.dusk = some x → x.source ≠ .thermal) ∨ s.waitOk d = false → exec .deadlineRefusal s = .next (s.finish d (.refused .held))) ∧
        (∀ x, s.pwr.dusk = some x → x.source = .thermal → s.waitOk d = true → exec .deadlineRefusal s = .next (s.finish d (.refused .thermal))))))

/-- With the block up. While an operation is in progress every other only raises op_rejected. An operation that fails a check ends with the
first failing result and changes nothing else. CREATE on good registers makes the slot ACTIVE with its sync objects and counters at 0; SAVE
puts it in SAVING and, once its work is done, writes the context record; RESTORE of a good record fills the slot's registers, zeroes the
record's magic and puts it in RESTORING; RELEASE puts it in RELEASING and, once its work is done, its images are gone and no install of its
runs, turns its rings and timers off; ABORT completes its descriptors FAULTED ABORTED; DISCARD drops the saved context. In BENCH a slot
other than 0 or a tenant other than 0 gives CONTEXT_LIMIT. -/
def Obligations.ContextOperations : Prop :=
  ∀ (c : Fin 64) (s : State), s.blockUp 8 = true →
    let k := c.val
    let stat := [R.CTX_OP_STAT_busy, R.CTX_OP_STAT_result, R.CTX_OP_STAT_op, R.CTX_OP_STAT_slot]
    let posted := fun (t : State) (busy op slot result : Nat) => t.get R.CTX_OP_STAT_busy = busy ∧ t.get R.CTX_OP_STAT_result = result ∧
      t.get R.CTX_OP_STAT_op = op ∧ t.get R.CTX_OP_STAT_slot = slot
    let fails := fun (cmd : Instr) (op slot result : Nat) => ∃ t, exec cmd s = .next t ∧ posted t 0 op slot result ∧ BitSet t R.CTX_EVT 1 ∧
      Signals (R.CTX_EVT :: stat) s t
    let objects := fun (t : State) (base count : Nat) => ∀ i, i < count → t.get (R.SYNC_VAL_value (base + i)) = 0
    let outside := fun (l : List Fld) (base count : Nat) (t : State) => ∀ g : Fld, ¬ inPmu g → (∀ f ∈ l, g.key ≠ f.key) →
      (g.key < 32 * (0x1C0000 + 4 * base) ∨ 32 * (0x1C0000 + 4 * (base + count)) ≤ g.key) → t.get g = s.get g
    let counters := [R.CTX_COLLIDE_count k, R.CTX_OUTCOME0_served k, R.CTX_OUTCOME0_deferred k, R.CTX_OUTCOME1_refused k,
      R.CTX_OUTCOME1_faulted k]
    let x := s.slotClaims k
    let a := s.saveAddr k
    let b := s.readMem a 1024
    let r := recordClaims b
    let tiles := s.tilesOfImages (s.imagesOf k)
    let pair := (s.get R.CTX_OP_ARG_tenant, s.get R.CTX_OP_ARG_job)
    (s.get R.CTX_OP_STAT_busy = 1 → (∀ cmd ∈ [Instr.create c, .save c, .restore c, .release c, .abort c, .discard], exec cmd s = .next (s.raiseCtx 2)) ∧
      (∀ op : BitVec 3, op = 0 ∨ op = 7 → exec (.ctxReservedOp op c) s = .next (s.raiseCtx 2))) ∧
    (s.get R.CTX_OP_STAT_busy = 0 →
      (s.ctxState k ≠ 0 → fails (.create c) 1 k 1 ∧ fails (.restore c) 3 k 1) ∧
      (s.ctxState k ≠ 1 → fails (.save c) 2 k 1 ∧ fails (.release c) 4 k 1 ∧ fails (.abort c) 5 k 1) ∧
      (∀ op : BitVec 3, op = 0 ∨ op = 7 → fails (.ctxReservedOp op c) op.toNat k 11) ∧
      (s.running = false → fails .discard 6 0 11 ∧ (s.ctxState k = 1 → fails (.release c) 4 k 11 ∧ fails (.abort c) 5 k 11)) ∧
      (s.running = true → (∀ y ∈ s.saved, y.pair ≠ pair) → fails .discard 6 0 12) ∧
      (s.ctxState k = 0 → (∃ w ∈ x.windows, dataEnd < w.2) → fails (.create c) 1 k 2) ∧
      (s.ctxState k = 0 → firstResult (claimChecks x (s.otherClaims k none)) = 0 →
        ((∃ o ∈ s.otherClaims k none, o.tenant = x.tenant ∧ o.job = x.job) → fails (.create c) 1 k 5) ∧
        ((∀ o ∈ s.otherClaims k none, o.tenant ≠ x.tenant ∨ o.job ≠ x.job) →
          (s.isBench = true → k ≠ 0 ∨ x.tenant ≠ 0 → fails (.create c) 1 k 10) ∧
          (s.isBench = false ∨ k = 0 ∧ x.tenant = 0 → s.running = true → ∃ t, exec (.create c) s = .next t ∧ posted t 0 1 k 0 ∧
            BitSet t R.CTX_EVT 0 ∧ t.ctxState k = 1 ∧ objects t x.base x.count ∧
            (∀ f ∈ counters, t.get f = 0) ∧
            outside (R.CTX_EVT :: R.CTX_STAT_state k :: stat ++ counters) x.base x.count t ∧ Out.binding true k x.tenant x.job s.isBench s.frame ∈ t.out ∧ OnlySignals s t))) ∧
      (s.ctxState k = 1 → s.saveAreaOk k (s.windows k) = false → fails (.save c) 2 k 2) ∧
      (s.ctxState k = 1 → s.saveAreaOk k (s.windows k) = true →
        (s.get (R.CTX_SAVE_LEN k) < 1024 + sectionLen tiles.length → fails (.save c) 2 k 6) ∧
        (1024 + sectionLen tiles.length ≤ s.get (R.CTX_SAVE_LEN k) →
          (s.saveBusy k = true → fails (.save c) 2 k 7) ∧
          (s.saveBusy k = false → s.running = true → ∃ t, exec (.save c) s = .next t ∧ posted t 1 2 k 0 ∧ t.ctxState k = 2 ∧
            Writes (R.CTX_STAT_state k :: stat) (s.ungrantCtx k) t))) ∧
      (s.ctxState k = 0 → (s.recordBad k = true → fails (.restore c) 3 k 8) ∧
        (s.recordBad k = false → (∀ y ∈ s.saved, y.fits r = false) → fails (.restore c) 3 k 9) ∧
        (s.recordBad k = false → (∃ y ∈ s.saved, y.fits r = true) →
          (s.isBench = true → k ≠ 0 ∨ r.tenant ≠ 0 → fails (.restore c) 3 k 10) ∧
          (s.isBench = false ∨ k = 0 ∧ r.tenant = 0 → s.saveAreaOk k r.windows = true → s.running = true →
            firstResult (claimChecks r (s.otherClaims k (some (r.tenant, r.job)))) = 0 →
            (recordRings b = true → (s.puts (recordRegs k b)).ringsOk k = true) →
            ∃ t, exec (.restore c) s = .next t ∧ posted t 1 3 k 0 ∧ t.ctxState k = 3 ∧
              (∀ y ∈ recordRegs k b, t.get y.1 = y.2 % 2 ^ y.1.w) ∧ t.readMem a 4 = List.replicate 4 0 ∧ SameMemBut a 4 s t ∧
              t.saved = s.saved.filter (fun y => y.pair != (r.tenant, r.job)) ∧
              t.restoring = s.restoring ++ [(k, if recordRings b then recordSlots b false else [])]))) ∧
      (s.ctxState k = 1 → s.running = true →
        (s.descs = [] → s.img.load = none → s.img.arriving = none → ∃ t, exec (.release c) s = .next t ∧ posted t 1 4 k 0 ∧ t.ctxState k = 4 ∧
          t.img.unloads = s.img.unloads ++ (s.imagesOf k).map (fun i => (i, none)) ∧
          Writes (R.CTX_STAT_state k :: stat) { s with img := t.img } t) ∧
        (s.descs = [] → ∃ t, exec (.abort c) s = .next t ∧ posted t 0 5 k 0 ∧ BitSet t R.CTX_EVT 0 ∧ t.ctxState k = 1 ∧
          (∀ y ∈ t.img.resident, y.2.ctx = k → y.2.parked = false → y.2.isArmed = true → y.2.disarming = true) ∧
          Signals (R.CTX_EVT :: stat) { s with img := t.img } t) ∧
        (∀ d, s.descs = [d] → d.ctx = k → d.slot < 4096 →
          exec (.abort c) s = .next (((s.finish d (.faulted 0xA 1)).disarmCtx k).ctxEnd 5 k 0))) ∧
      (∀ y, s.saved.find? (fun y => y.pair == pair) = some y → s.running = true → s.parkedOf pair = [] → ∃ t, exec .discard s = .next t ∧
        posted t 0 6 0 0 ∧ BitSet t R.CTX_EVT 0 ∧ objects t y.syncBase y.syncCount ∧
        outside (R.CTX_EVT :: stat) y.syncBase y.syncCount t ∧
        t.saved = s.saved.filter (fun z => z.pair != pair) ∧ OnlySignals { s with saved := t.saved } t)) ∧
    (∀ op : BitVec 3, op ≠ 0 → op ≠ 7 → exec (.ctxReservedOp op c) s = .next s) ∧
    (s.ctxState k = 4 → k ∉ s.freeing → s.ctxWorking k = false → s.unloadsPassed k = true → s.imagesOf k = [] →
      (∀ l, s.img.load = some l → l.ctx = k → l.phase ≠ 9) →
      ∃ t, exec (.releaseDrained c) s = .next t ∧ t.get (R.CMD_RING_CTRL_en k) = 0 ∧ t.ring k = RingSt.none ∧ t.freeing = s.freeing ++ [k] ∧
        (∀ j, j < 16 → s.inRangeOf k (s.get (R.SYNC_TMR_CFG_object j)) = true → t.get (R.SYNC_TMR_CFG_en j) = 0) ∧
        objects t (s.get (R.CTX_SYNC_base k)) (s.get (R.CTX_SYNC_count k)) ∧
        outside (R.CMD_RING_CTRL_en k :: (List.range 16).map R.SYNC_TMR_CFG_en) x.base x.count t ∧
        t.out = Out.binding false k x.tenant x.job s.isBench s.frame :: s.out ∧
        t = { s with regs := t.regs, rings := t.rings, freeing := t.freeing, out := t.out }) ∧
    (s.ctxState k ≠ 4 ∨ k ∈ s.freeing ∨ s.ctxWorking k = true ∨ s.unloadsPassed k = false ∨ (∃ l, s.img.load = some l ∧ l.ctx = k ∧ l.phase = 9) →
      exec (.releaseDrained c) s = .next s) ∧
    (s.ctxState k = 2 → k ∉ s.freeing → s.ctxWorking k = false → (∀ d ∈ s.descs, d.ctx = k → d.dispatched = 0 ∧ d.phase ≠ .resolving) →
      (s.ring k).waiting = [] → ∃ t, exec (.saveQuiesced c) s = .next t ∧ t.readMem a 4 = toLE 4 0x53585443 ∧
        t.readMem (a + 4) 1016 = s.ctxBody k ∧ t.readMem (a + 1020) 4 = toLE 4 (crc32 (s.ctxBody k)) ∧
        SameMemBut a (1024 + sectionLen tiles.length) s t ∧ t.get (R.CMD_RING_CTRL_en k) = 0 ∧ t.freeing = s.freeing ++ [k] ∧
        t.saved = s.saved ++ [⟨x.tenant, x.job, x.base, x.count, x.windows⟩] ∧ t.descs = s.descs.filter (fun d => d.ctx != k) ∧
        (∀ i ∈ s.imagesOf k, ∀ y, t.resImage i = some y → y.parked = true)) ∧
    (s.ctxState k ≠ 2 ∨ k ∈ s.freeing ∨ s.ctxWorking k = true ∨ (s.ring k).waiting ≠ [] → exec (.saveQuiesced c) s = .next s)

/-- A DARK port whose conditions hold begins an attempt: on detection when its cause is no failure, after the wait when it is. A signal in
DETECT leads to EQUALISE, its end to NEGOTIATE; the timeouts fail the attempt with no signal or timeout. Good blocks record the peer and
send a block back, whose turnaround is a free value; a failed check fails the attempt with its cause, passed ones make the port ready or
switch it to generation 2; an equalise that fails at generation 2 switches back. Disable, loss of signal, a retrain timeout and a third
retrain within 1 s make the port DARK with their causes. Retrain counts and enters RETRAIN. Other ports and registers stay as they were; a
command whose state does not fit changes nothing. -/
def Obligations.PortTraining : Prop :=
  ∀ (n : Fin 12) (s : State),
    let k := n.val
    let p := s.port k
    let others := fun (t : State) => ∀ j : Fin 12, j ≠ n → t.fab.ports[j] = s.fab.ports[j]
    let into := fun (cmd : Instr) (l : List Fld) (q : PortSt) (vals : List (Fld × Nat)) => ∃ t, exec cmd s = .next t ∧ t.port k = q ∧ others t ∧
      (∀ v ∈ vals, t.get v.1 = v.2) ∧ Writes l { s with fab := t.fab } t
    let begins := fun (cmd : Instr) (fails : Nat) => into cmd [R.FAB_PORT_STAT_gen2_failed k, R.FAB_PORT_TRAIN_attempts k]
      { PortSt.init with state := .detect, cause := 0, fails := fails, retrains := p.retrains }
      [(R.FAB_PORT_STAT_gen2_failed k, 0), (R.FAB_PORT_TRAIN_attempts k, satAdd 16 (s.get (R.FAB_PORT_TRAIN_attempts k)) 1)]
    let fails := fun (cmd : Instr) (l : List Fld) (cause : Nat) => ∃ t, exec cmd s = .next t ∧
      t.port k = { p.dark cause with fails := p.fails + 1, downAt := s.now } ∧ t.get (R.FAB_PORT_TRAIN_last_fail k) = cause ∧ BitSet t R.FAB_EVT 1 ∧ others t ∧
      Signals (R.FAB_PORT_TRAIN_last_fail k :: R.FAB_EVT :: R.GEN_FLOG_STAT_lost :: l)
        { s with fab := t.fab, flog := t.flog, flogSeq := t.flogSeq } t
    let rehomed := fun (u : State) =>
      (p.retry.flatMap (fun f => f.slots.map (fun t => (⟨t, none⟩ : QTxn))) ++ p.queue).foldl (fun v x => v.rehome k x) u
    let goesDark := fun (cmd : Instr) (l : List Fld) (q : PortSt) (cause : Nat) => ∃ u, exec cmd s = .next (rehomed u) ∧
      u.port k = { q.dark cause with downAt := s.now } ∧ (∀ f ∈ l, u.get f = 0) ∧ BitSet u R.FAB_EVT 1 ∧ others u ∧
      Signals (R.FAB_EVT :: R.GEN_FLOG_STAT_lost :: l) { s with fab := u.fab, flog := u.flog, flogSeq := u.flogSeq } u
    (p.state = .dark → failedCause p.cause = false → s.portWhy k false = none → begins (.portDetect n) p.fails) ∧
    (p.state = .dark → failedCause p.cause = true → s.portWhy k false = none → p.downAt + p.retryMs * ticksPerMs ≤ s.now →
      begins (.trainingRetry n) p.fails) ∧
    (p.state ≠ .dark ∨ s.portWhy k false ≠ none → exec (.portDetect n) s = .next s ∧ exec (.trainingRetry n) s = .next s) ∧
    (s.now < p.downAt + p.retryMs * ticksPerMs → exec (.trainingRetry n) s = .next s) ∧
    (p.state = .detect → into (.laneSignal n) [] { p with state := .equalise } []) ∧
    (p.state ≠ .detect → exec (.laneSignal n) s = .next s) ∧
    (p.state = .equalise → p.switching = false → into (.equaliseDone n) [] { p with state := .negotiate } []) ∧
    (p.state ≠ .equalise ∨ p.switching = true → exec (.equaliseDone n) s = .next s) ∧
    (p.state = .equalise → p.gen2 = true → into (.gen2EqTimeout n) [R.FAB_PORT_STAT_gen2_failed k] { p with switching := true }
      [(R.FAB_PORT_STAT_gen2_failed k, 1)]) ∧
    (p.state ≠ .equalise ∨ p.gen2 = false → exec (.gen2EqTimeout n) s = .next s) ∧
    (p.queue = [] → p.retry = [] → (p.state = .detect → fails (.trainingTimeout n) [] 3) ∧
      (p.state = .equalise ∨ p.state = .negotiate → fails (.trainingTimeout n) [] 8)) ∧
    (p.state = .dark ∨ p.state = .active ∨ p.state = .retrain → exec (.trainingTimeout n) s = .next s) ∧
    (∀ (lanes : Vector (Vector Byte 64) 4) (polarity : BitVec 4) (now : Word),
      let blocks := lanes.toList.map (fun l => TrainBlock.ofBytes l.toList)
      let b := TrainBlock.ofBytes lanes[0].toList
      let cause := negotiateCause blocks (s.get R.GEN_MACHINE_machine_id) s.ownPkg k
      let peer := [(R.FAB_PORT_PEER_pkg k, b.pkg % 1024), (R.FAB_PORT_PEER_port k, b.port % 16), (R.FAB_PORT_PEER_gen2 k, b.flags % 2),
        (R.FAB_PORT_PEER_valid k, 1), (R.FAB_PORT_PEER_level k, b.level % 65536), (R.FAB_PORT_PEER_RANGE_min k, b.rangeMin % 65536),
        (R.FAB_PORT_PEER_RANGE_max k, b.rangeMax % 65536), (R.FAB_PORT_STAT_polarity k, polarity.toNat),
        (R.FAB_PORT_FLIGHT_ns k, ((now.toNat + 2 ^ 32 - b.echo) % 2 ^ 32 - b.turnaround) / 2 % 65536)]
      let faster := p.gen2 = false ∧ p.state = .negotiate ∧ bitAt b.flags 0 = true ∧ s.get (R.FAB_PORT_CTRL_gen_max k) = 1 ∧
        s.get (R.FAB_PORT_STAT_gen2_failed k) = 0
      let sent := fun (faster ready : Bool) => Out.training k (TrainBlock.bytes ⟨true, 0,
        b2n (s.get (R.FAB_PORT_CTRL_gen_max k) == 1 && s.get (R.FAB_PORT_STAT_gen2_failed k) == 0) + 2 * b2n faster +
          4 * b2n (faster && bitAt b.flags 1) + 8 * b2n ready,
        2, 2, 3, s.get R.GEN_MACHINE_machine_id, s.ownPkg, k, now.toNat, b.stamp, s.free.1 % 65536⟩)
      let answers := fun (faster ready : Bool) (q : PortSt) => ∃ t, exec (.trainingBlock n lanes polarity now) s = .next t ∧ t.port k = q ∧
        others t ∧ (∀ v ∈ peer, t.get v.1 = v.2) ∧ t.out = sent faster ready :: s.out ∧ FieldsBut (peer.map Prod.fst) s t ∧
        t = { s with regs := t.regs, fab := t.fab, out := t.out, freeIx := s.freeIx + 1 }
      (blocks.all TrainBlock.good = false ∨ (p.state ≠ .negotiate ∧ p.state ≠ .retrain) → exec (.trainingBlock n lanes polarity now) s = .next s) ∧
      (blocks.all TrainBlock.good = true → p.state = .negotiate ∨ p.state = .retrain →
        (∀ c, cause = some c → p.queue = [] → p.retry = [] → ∃ t, exec (.trainingBlock n lanes polarity now) s = .next t ∧
          t.port k = { p.dark c with fails := p.fails + 1, downAt := s.now } ∧ t.get (R.FAB_PORT_TRAIN_last_fail k) = c ∧
          BitSet t R.FAB_EVT 1 ∧ others t ∧ (∀ v ∈ peer, t.get v.1 = v.2) ∧ sent (s.wantsGen2 k b) false ∈ t.out ∧
          Signals (R.FAB_PORT_TRAIN_last_fail k :: R.FAB_EVT :: R.GEN_FLOG_STAT_lost :: peer.map Prod.fst)
            { s with fab := t.fab, flog := t.flog, flogSeq := t.flogSeq, freeIx := s.freeIx + 1 } t) ∧
        (cause = none → faster → answers true false { p with switching := bitAt b.flags 2 }) ∧
        (cause = none → ¬ faster → answers false true { p with ready := bitAt b.flags 3 }))) ∧
    (s.blockUp 10 = true →
      (p.state ≠ .dark → goesDark (.fabPortDisable n) [R.FAB_PORT_CTRL_en k] p 11) ∧
      (p.state = .dark → into (.fabPortDisable n) [R.FAB_PORT_CTRL_en k] { p with cause := 11 } [(R.FAB_PORT_CTRL_en k, 0)]) ∧
      into (.fabPortEnable n) [R.FAB_PORT_CTRL_en k] { p with cause := if p.cause = 11 then 1 else p.cause } [(R.FAB_PORT_CTRL_en k, 1)] ∧
      (s.portWhy k false = none → ∃ u, exec (.fabPortRetrain n) s = .next (rehomed u) ∧
        u.port k = { PortSt.init with state := .detect, cause := 0, fails := 0, retrains := p.retrains } ∧ others u ∧
        u.get (R.FAB_PORT_STAT_gen2_failed k) = 0 ∧ u.get (R.FAB_PORT_TRAIN_attempts k) = satAdd 16 (s.get (R.FAB_PORT_TRAIN_attempts k)) 1 ∧
        Writes [R.FAB_PORT_STAT_gen2_failed k, R.FAB_PORT_TRAIN_attempts k] { s with fab := u.fab } u) ∧
      (∀ c, s.portWhy k false = some c → p.state ≠ .dark → goesDark (.fabPortRetrain n) [] { p with fails := 0 } c) ∧
      (∀ c, s.portWhy k false = some c → p.state = .dark → into (.fabPortRetrain n) [] { p with fails := 0, cause := c } [])) ∧
    (p.state ≠ .dark → p.state ≠ .detect → goesDark (.lossOfSignal n) [] p 3) ∧
    (p.state = .dark ∨ p.state = .detect → exec (.lossOfSignal n) s = .next s) ∧
    (p.state = .retrain → goesDark (.retrainTimeout n) [] p 9) ∧ (p.state ≠ .retrain → exec (.retrainTimeout n) s = .next s) ∧
    (p.state ≠ .active → exec (.retrain n) s = .next s) ∧
    (p.state = .active →
      let recent := p.retrains.filter (fun t => decide (s.now < t + 1000 * ticksPerMs))
      ∃ u, exec (.retrain n) s = .next (if recent.length < 2 then u else u.portDark k 9) ∧
        u.port k = { p with state := .retrain, ready := false, retrains := recent ++ [s.now], nakRun := 0 } ∧ others u ∧
        u.get (R.FAB_PORT_CNT0_retrains k) = satAdd 16 (s.get (R.FAB_PORT_CNT0_retrains k)) 1 ∧ BitSet u R.FAB_EVT 2 ∧
        Signals [R.FAB_PORT_CNT0_retrains k, R.FAB_EVT] { s with fab := u.fab } u)

/-- On an ACTIVE port. With nothing to send an IDLE flit leaves; a replayed flit or a transaction with a credit leaves in a DATA flit, the
latter kept for replay. A flit that decoding or its CRC fails, or one out of order while none is discarded, owes a nak; a good IDLE flit
without a nak acknowledges and returns credits; a good DATA flit in order delivers its slots. A WRITE or CADD for this package that its
context may make has its effect and is answered 0, and is held with its answer where its stack is in self-refresh; a SIGNAL to an object
of its pair adds and is answered 0. One the pair may not make is counted and answered 1 or 2, as is a signal to a gated block; a malformed
one is counted and dropped. A RESP counts toward its transfer, and a late one is counted. A tally flushed sends its RESP; a transfer with
nothing queued times out 8 frames after the frame noted for it. -/
def Obligations.FabricTraffic : Prop :=
  (∀ (n : Fin 12) (s : State),
    let k := n.val
    let p := s.port k
    let others := fun (t : State) => ∀ j : Fin 12, j ≠ n → t.fab.ports[j] = s.fab.ports[j]
    let msg := flitMessage (p.head 0 true [0, 0, 0]) []
    (p.state ≠ .active → exec (.flitTransmit n) s = .next s ∧ ∀ c m, exec (.flitReceive n c m) s = .next s) ∧
    (p.state = .active →
      (p.replay = [] → p.queue = [] → ∃ t, exec (.flitTransmit n) s = .next t ∧ t.out = .flit k msg :: s.out ∧ t.port k = p.headSent ∧
        others t ∧ t = { s with fab := t.fab, out := t.out }) ∧
      (∀ f rest, p.replay = f :: rest → ∃ t, exec (.flitTransmit n) s = .next t ∧ others t ∧
        t.port k = ({ p with replay := rest } : PortSt).headSent ∧
        Out.flit k (flitMessage (p.head f.seq false (((f.slots.map Txn.slotKind) ++ [0, 0, 0]).take 3)) f.slots) ∈ t.out ∧
        Signals [] { s with fab := t.fab } t) ∧
      (∀ x, p.replay = [] → p.queue = [x] → p.retry.length < 512 → x.held = none → 1 ≤ SMap.get 0 p.credits (16 * (x.txn.slotKind - 1)) →
        ∃ t, exec (.flitTransmit n) s = .next t ∧ (t.port k).queue = [] ∧ (t.port k).retry = p.retry ++ [⟨p.nextSeq, [x.txn]⟩] ∧
          (t.port k).nextSeq = (p.nextSeq + 1) % 65536 ∧
          (x.txn.origin = s.ownPkg → x.txn.kind ≠ 4 → ∀ y ∈ t.fab.transfers, y.id = x.txn.xfer → y.leftFrame = s.frame) ∧
          SMap.get 0 (t.port k).credits (16 * (x.txn.slotKind - 1)) = SMap.get 0 p.credits (16 * (x.txn.slotKind - 1)) - 1 ∧ others t ∧
          Out.flit k (flitMessage (p.head p.nextSeq false [x.txn.slotKind, 0, 0]) [x.txn]) ∈ t.out ∧
          Signals [] { s with fab := t.fab } t) ∧
      (∀ m : Vector Byte 256, exec (.flitReceive n none m) s = .next (s.setPort k { p with nakOwed := true, discarding := true })) ∧
      (∀ (c : Fin 9) (m : Vector Byte 256),
        let h := FlitHead.ofNat (leAt m.toList 0 12)
        let key := 16 * h.pool + (if h.reserved then h.hopClass else 0)
        let q := p.acked h.ack
        let counted := fun (t : State) => t.get (R.FAB_PORT_CNT1_fec_corrected k) = satAdd 32 (s.get (R.FAB_PORT_CNT1_fec_corrected k)) c.val ∧
          others t ∧ Signals [R.FAB_PORT_CNT1_fec_corrected k] { s with fab := t.fab } t
        (flitGood m.toList = false → ∃ t, exec (.flitReceive n (some c) m) s = .next t ∧
          t.port k = { p with nakOwed := true, discarding := true } ∧ counted t) ∧
        (flitGood m.toList = true → h.nak = false →
          let q1 := { q with credits := if h.credits = 0 then q.credits else SMap.set 0 q.credits key (SMap.get 0 q.credits key + h.credits) }
          (bits (leAt m.toList 0 12) 33 2 ≠ 0 → ∃ t, exec (.flitReceive n (some c) m) s = .next t ∧ t.port k = q1 ∧ counted t) ∧
          (bits (leAt m.toList 0 12) 33 2 = 0 → h.seq = (p.lastGood + 1) % 65536 →
            ∃ u, exec (.flitReceive n (some c) m) s = .next (u.slotsIn k m.toList h.kinds) ∧
              u.port k = { q1 with lastGood := h.seq, discarding := false } ∧ counted u) ∧
          (bits (leAt m.toList 0 12) 33 2 = 0 → h.seq ≠ (p.lastGood + 1) % 65536 → ∃ t, exec (.flitReceive n (some c) m) s = .next t ∧
            t.port k = (if p.discarding then q1 else { q1 with nakOwed := true, discarding := true }) ∧ counted t)))) ∧
    (∀ b : Vector Byte 80,
      let t := Txn.ofBytes b.toList
      let a := 64 * t.arg
      let held := fun (u : State) (l : List DueWrite) =>
        { u with dueWrites := u.dueWrites ++ l, fab := { u.fab with unseen := u.fab.unseen ++ [(k, t)] } }
      let rows : List (Instr × Nat) := [(.fabricWrite n b, 1), (.cadd n b, 2), (.signal n b, 3), (.resp n b, 4)]
      (∀ x ∈ rows, p.state ≠ .active ∨ t.kind ≠ x.2 ∨ t.dst ≠ s.ownPkg → exec x.1 s = .next s) ∧
      (p.state = .active → t.dst = s.ownPkg →
        (∀ x ∈ rows, t.kind = x.2 → malformed b.toList = true → ∃ u, exec x.1 s = .next u ∧ BitSet u R.FAB_EVT 8 ∧
          u.get R.FAB_DROP1_malformed = satAdd R.FAB_DROP1_malformed.w (s.get R.FAB_DROP1_malformed) 1 ∧
          Signals [R.FAB_DROP1_malformed, R.FAB_EVT] s u) ∧
        (malformed b.toList = false →
          (∀ x ∈ rows, t.kind = x.2 → t.kind ≤ 2 →
            (s.ctxWith [1, 2] (t.tenant, t.job) = none → ∃ u, exec x.1 s = .next (u.answered t 1 0) ∧ BitSet u R.FAB_EVT 3 ∧
              u.get R.FAB_DROP0_job_drops = satAdd R.FAB_DROP0_job_drops.w (s.get R.FAB_DROP0_job_drops) 1 ∧
              Signals [R.FAB_DROP0_job_drops, R.FAB_EVT] s u) ∧
            (∀ c, s.ctxWith [1, 2] (t.tenant, t.job) = some c → s.mayAccess c a (a + 64) = false →
              ∃ u, exec x.1 s = .next (u.answered t 2 0) ∧ BitSet u R.FAB_EVT 4 ∧
                u.get R.FAB_DROP0_addr_drops = satAdd R.FAB_DROP0_addr_drops.w (s.get R.FAB_DROP0_addr_drops) 1 ∧
                Signals [R.FAB_DROP0_addr_drops, R.FAB_EVT] s u)) ∧
          (∀ c, s.ctxWith [1, 2] (t.tenant, t.job) = some c → s.mayAccess c a (a + 64) = true →
            (s.asleep a = true → (t.kind = 1 → exec (.fabricWrite n b) s = .next (held (s.pmuLine 1 a 1) [⟨false, a, t.data⟩])) ∧
              (t.kind = 2 → exec (.cadd n b) s = .next (held s (((List.range 8).filter (fun w => bitAt t.info w)).map
                (fun w => (⟨true, a + 8 * w, (t.data.drop (8 * w)).take 8⟩ : DueWrite)))))) ∧
            (s.asleep a = false → t.kind = 1 → ∃ u, exec (.fabricWrite n b) s = .next (u.answered t 0 0) ∧ u.readMem a 64 = t.data ∧ SameMemBut a 64 s u ∧
              u.seqs = (if t.sched then (s.frecvLine k a).seqs else s.seqs) ∧
              Signals [] { s with mem := u.mem, poison := u.poison, seqs := u.seqs } u) ∧
            (s.asleep a = false → t.kind = 2 → ∃ u, exec (.cadd n b) s = .next (u.answered t 0 0) ∧ SameMemBut a 64 s u ∧
              (∀ w, w < 8 → u.readMem (a + 8 * w) 8 = if bitAt t.info w then toLE 8 (compAdd (s.readNum (a + 8 * w) 8) (leAt t.data (8 * w) 8)).1
                else s.readMem (a + 8 * w) 8) ∧
              Signals [] { s with mem := u.mem, poison := u.poison, flushes := u.flushes } u)) ∧
          (t.kind = 3 → s.blockUp 9 = false → ∃ u, exec (.signal n b) s = .next (u.answered t 1 0) ∧ BitSet u R.FAB_EVT 3 ∧
            u.get R.FAB_DROP0_job_drops = satAdd R.FAB_DROP0_job_drops.w (s.get R.FAB_DROP0_job_drops) 1 ∧
            Signals [R.FAB_DROP0_job_drops, R.FAB_EVT] s u) ∧
          (t.kind = 3 → s.blockUp 9 = true → ∀ c : Fin 64,
            let o := bits t.arg 0 12
            (s.ctxState c.val = 1 ∨ s.ctxState c.val = 2 → s.ctxPair c.val = (t.tenant, t.job) → s.inRangeOf c.val o = true →
              exec (.signal n b) s = .next ((s.put (R.SYNC_VAL_value o) (s.get (R.SYNC_VAL_value o) + bits t.arg 12 16)).answered t 0 0)) ∧
            ((∀ c : Fin 64, s.ctxPair c.val ≠ (t.tenant, t.job)) → (∀ y ∈ s.saved, y.pair ≠ (t.tenant, t.job)) →
              ∃ u, exec (.signal n b) s = .next (u.answered t 1 0) ∧ BitSet u R.SYNC_EVT 1 ∧ BitSet u R.FAB_EVT 3 ∧
                u.get R.SYNC_CNT_dropped_remote = satAdd R.SYNC_CNT_dropped_remote.w (s.get R.SYNC_CNT_dropped_remote) 1 ∧
                u.get R.FAB_DROP0_job_drops = satAdd R.FAB_DROP0_job_drops.w (s.get R.FAB_DROP0_job_drops) 1 ∧
                Signals [R.SYNC_CNT_dropped_remote, R.SYNC_EVT, R.FAB_DROP0_job_drops, R.FAB_EVT] s u)) ∧
          (t.kind = 4 →
            ((∀ x ∈ s.fab.transfers, x.id ≠ t.xfer) → ∃ u, exec (.resp n b) s = .next u ∧ BitSet u R.FAB_EVT 7 ∧
              u.get R.FAB_DROP1_late_resps = satAdd R.FAB_DROP1_late_resps.w (s.get R.FAB_DROP1_late_resps) 1 ∧
              Signals [R.FAB_DROP1_late_resps, R.FAB_EVT] s u) ∧
            (∀ x, s.fab.transfers = [x] → x.id = t.xfer → bits t.info 0 4 = 0 →
              (x.answered + t.arg < x.count → ∃ u, exec (.resp n b) s = .next u ∧ u.fab.transfers = [{ x with answered := x.answered + t.arg }] ∧
                u = { s with fab := { s.fab with transfers := u.fab.transfers } }) ∧
              (x.count ≤ x.answered + t.arg → s.descs = [] →
                exec (.resp n b) s = .next { s with fab := { s.fab with transfers := [] } })))))) ∧
    (∀ (t : Txn) (status port : Nat), t.origin ≠ s.ownPkg → t.last = false → s.fab.tallies.length < 256 →
      ((∀ x ∈ s.fab.tallies, x.sameAs t.origin t.xfer = false) → ∃ u, u = s.answered t status port ∧
        u.fab.tallies = s.fab.tallies ++ [⟨t.origin, t.xfer, t.tenant, t.job, 1, status, port⟩] ∧
        u = { s with fab := { s.fab with tallies := u.fab.tallies } }))) ∧
  (∀ (origin : BitVec 10) (xfer : BitVec 16) (s : State),
    ((∀ x ∈ s.fab.tallies, x.sameAs origin.toNat xfer.toNat = false) → exec (.respTallyFlush origin xfer) s = .next s) ∧
    (∀ x n, s.fab.tallies = [x] → x.sameAs origin.toNat xfer.toNat = true → x.origin ≠ s.ownPkg → primaryPort s.ownPkg x.origin = some n →
      s.portActive n = true → ∃ t, exec (.respTallyFlush origin xfer) s = .next t ∧ t.fab.tallies = [] ∧
        (t.port n).queue = (s.port n).queue ++ [⟨{ respTo s.ownPkg x.txn x.status x.port x.count with hops := 1 }, none⟩] ∧
        t = { s with fab := { s.fab with tallies := [], ports := t.fab.ports } }) ∧
    (∀ x n, s.fab.tallies = [x] → x.sameAs origin.toNat xfer.toNat = true → x.origin ≠ s.ownPkg → primaryPort s.ownPkg x.origin = some n →
      s.portActive n = false → ∃ t, exec (.respTallyFlush origin xfer) s = .next t ∧ t.fab = { s.fab with tallies := [] } ∧
        t.get R.FAB_DROP1_hop_drops = satAdd R.FAB_DROP1_hop_drops.w (s.get R.FAB_DROP1_hop_drops) 1 ∧ BitSet t R.FAB_EVT 6 ∧
        Signals [R.FAB_DROP1_hop_drops, R.FAB_EVT] { s with fab := t.fab } t) ∧
    ((∀ x ∈ s.fab.transfers, x.id ≠ xfer.toNat) → exec (.transferTimeout xfer) s = .next s) ∧
    (∀ x, s.fab.transfers.find? (fun t => t.id == xfer.toNat) = some x →
      (s.xferQueued x.id = true ∨ s.frame < x.leftFrame + 8 → exec (.transferTimeout xfer) s = .next s) ∧
      (s.xferQueued x.id = false → x.leftFrame + 8 ≤ s.frame → ∃ u, exec (.transferTimeout xfer) s = .next (u.resolve x 5 0) ∧
        u.fab = { s.fab with timedOut := s.fab.timedOut ++ [(x.id, s.frame)] } ∧ BitSet u R.FAB_EVT 5 ∧
        u.get R.FAB_XFER_resp_timeouts = satAdd R.FAB_XFER_resp_timeouts.w (s.get R.FAB_XFER_resp_timeouts) 1 ∧
        Signals [R.FAB_XFER_resp_timeouts, R.FAB_EVT] { s with fab := u.fab } u)))

/-- Every transaction whose fields fit their widths reads back from its 80 bytes as it is, and is not malformed where its type allows its fields.
Every flit header whose fields fit reads back from its number, and fits in its 12 bytes. Every flit message built from a header and up to
three such transactions passes its CRC-32, and gives its header and the transactions of its slots back. -/
def Obligations.FlitsReadBack : Prop :=
  let fits := fun (t : Txn) => t.kind < 16 ∧ t.info < 256 ∧ t.dst < 1024 ∧ t.origin < 1024 ∧ t.tenant < 1024 ∧ t.hops < 16 ∧ t.job < 65536 ∧
    t.xfer < 65536 ∧ t.arg < 2 ^ 32 ∧ t.data.length = 64
  let headFits := fun (h : FlitHead) => h.seq < 65536 ∧ h.ack < 65536 ∧ h.pool < 4 ∧ h.hopClass < 16 ∧ h.credits < 1024 ∧
    h.kinds.length = 3 ∧ ∀ k ∈ h.kinds, k < 4
  (∀ t : Txn, fits t → t.bytes.length = 80 ∧ Txn.ofBytes t.bytes = t ∧
    (t.kind = 1 ∨ t.kind = 2 ∨ (t.kind = 3 ∧ t.arg < 2 ^ 28 ∧ t.data = zeroLine) ∨ (t.kind = 4 ∧ t.sched = false ∧ t.data = zeroLine) →
      t.info = 0 ∨ t.kind = 2 ∨ t.kind = 4 → malformed t.bytes = false)) ∧
  (∀ h : FlitHead, headFits h → FlitHead.ofNat h.toNat = h ∧ h.toNat < 2 ^ 96) ∧
  (∀ (h : FlitHead) (ts : List Txn), headFits h → ts.length ≤ 3 → (∀ t ∈ ts, fits t) →
    let m := flitMessage h ts
    m.length = 256 ∧ flitGood m = true ∧ FlitHead.ofNat (leAt m 0 12) = h ∧
    ∀ i t, ts[i]? = some t → flitSlot m i = t.bytes ∧ Txn.ofBytes (flitSlot m i) = t)

/-- A claimed write to the code region of a writable tile of an INT4 plate, on a half with no held write, with room in the fix queue and memory
awake: each enabled byte's code becomes the target level of its one pair, −8 as −7; other targets and all other memory stay. -/
def Obligations.Int4CodesBecomeLevels : Prop :=
  ∀ (half : Fin 2) (hpa : BitVec 52) (data : Line) (be : BitVec 64) (s : State) (a : Nat) (r : ResImage × Plate × TileRec),
    let w := WindowLine.ofDpa a
    s.memServes half = true → (s.half half).heldWrites = [] → s.claimed half hpa.toNat = some a → weightBase ≤ a → s.memoryOnly = false →
    s.clk.selfRefresh = 0 → w.region = 0 → s.tileWritable w.tile = true → s.tileRec w.tile = some r → r.2.1.int8 = false →
    (s.fixQueue (dieOf w.tile)).length < 1024 →
    ∃ t, exec (.weightWrite half hpa data be) s = .next t ∧ SameMemBut (shadowAt w.tile w.row w.col) 64 s t ∧
      ∀ i : Fin 64,
        let code := data[i].toNat % 16
        t.target w.tile w.row (w.col + i.val) =
          if be.getLsbD i.val = false then s.target w.tile w.row (w.col + i.val) else if code = 8 then -7 else toSigned 4 code

/-- A write that changes a target queues one entry for its segment, unless one is queued or the tile's running refix, advanced, has not reached
the segment; in quiesce it leaves the tile's cells unknown. One to a high slice, to the conductance region or to a tile that cannot take it
is dropped and counted; one to the reserved region is dropped uncounted; one with memory in self-refresh, or behind a held write, is held;
an INT8 code is split over the two slices. An unclaimed request is counted; in a CXL reset a write is counted and a read gives poison.
Released, a held write goes on. A read of an absent tile gives zeros, of one with pending work markers, and else waits; with its plate
quiet the oldest gives the sensed levels or conductances, and after 2 frames markers, counted. -/
def Obligations.WeightWindow : Prop :=
  ∀ (half : Fin 2) (hpa : BitVec 52) (data : Line) (be : BitVec 64) (s : State),
    let x := s.half half
    let write := Instr.weightWrite half hpa data be
    let read := Instr.weightRead half hpa
    (s.memServes half = false → exec write s = .next s ∧ exec read s = .next s) ∧
    (s.memServes half = true → s.claimed half hpa.toNat = none → s.inCxlReset = false →
      (∃ t, exec write s = .next t ∧ t.get R.HOST_CNT1_unclaimed = satAdd R.HOST_CNT1_unclaimed.w (s.get R.HOST_CNT1_unclaimed) 1 ∧
        BitSet t R.HOST_EVT 5 ∧ Signals [R.HOST_CNT1_unclaimed, R.HOST_EVT] s t) ∧
      (∃ t, exec read s = .next t ∧ t.get R.HOST_CNT1_unclaimed = satAdd R.HOST_CNT1_unclaimed.w (s.get R.HOST_CNT1_unclaimed) 1 ∧
        BitSet t R.HOST_EVT 5 ∧ t.out.head? = some (.line half.val (List.replicate 64 0) true) ∧
        Signals [R.HOST_CNT1_unclaimed, R.HOST_EVT] s t)) ∧
    (s.memServes half = true → s.inCxlReset = true →
      (∃ t, exec write s = .next t ∧ t.get R.HOST_CNT1_unclaimed = satAdd R.HOST_CNT1_unclaimed.w (s.get R.HOST_CNT1_unclaimed) 1 ∧
        Signals [R.HOST_CNT1_unclaimed] s t) ∧
      (∃ t, exec read s = .next t ∧ t.out.head? = some (.line half.val (List.replicate 64 0) true) ∧ Signals [] s t)) ∧
    (∀ a, s.memServes half = true → s.claimed half hpa.toNat = some a → weightBase ≤ a →
      let w := WindowLine.ofDpa a
      let held := fun (l : List HeldWrite) => ∃ t, exec write s = .next t ∧ (t.half half).heldWrites = l ∧ SameMem s t ∧ Signals [] s t
      (x.heldWrites ≠ [] → held (x.heldWrites ++ [⟨a, data.toList, be.toNat, false⟩])) ∧
      (x.heldWrites = [] → s.clk.selfRefresh ≠ 0 → held [⟨a, data.toList, be.toNat, false⟩]) ∧
      (x.heldWrites = [] → s.clk.selfRefresh = 0 →
        (w.region = 2 ∨ s.memoryOnly = true → ∃ t, exec write s = .next t ∧ Signals [] s t) ∧
        (w.region ≠ 2 → s.memoryOnly = false →
          w.region = 1 ∨ s.tileWritable w.tile = false ∨ (∃ r, s.tileRec w.tile = some r ∧ r.2.1.int8 = true ∧ r.2.2.slice = 1) →
          ∃ t, exec write s = .next t ∧ BitSet t R.TILE_FIX_EVT 8 ∧
            t.get R.TILE_FIX_CNT_dropped_writes = satAdd R.TILE_FIX_CNT_dropped_writes.w (s.get R.TILE_FIX_CNT_dropped_writes) 1 ∧
            Signals [R.TILE_FIX_CNT_dropped_writes, R.TILE_FIX_EVT] s t) ∧
        (∀ r, w.region = 0 → s.memoryOnly = false → s.tileWritable w.tile = true → s.tileRec w.tile = some r →
          let d := dieOf w.tile
          (s.fixQueue d).length < 1024 →
          let level := fun (i : Fin 64) => (int4Level (data[i].toNat % 16)).1
          let entry : FixEntry := ⟨w.tile, w.row, w.col / 64⟩
          let queued := (s.fixQueue d).any (fun e => e.tile == w.tile && e.row == w.row && e.seg == w.col / 64)
          (r.2.1.int8 = false → (∃ i : Fin 64, be.getLsbD i.val = true ∧ s.target w.tile w.row (w.col + i.val) ≠ level i) →
            (s.refixRun w.tile = none → ∃ t, exec write s = .next t ∧
              t.fixQueue d = (if queued then s.fixQueue d else s.fixQueue d ++ [entry]) ∧ t.fix.running = s.fix.running ∧
              t.fix.refixes = s.fix.refixes ∧ OtherTiles [w.tile] s t ∧
              (r.1.leaving = false → t.tile w.tile = s.tile w.tile) ∧
              (r.1.leaving = true → (t.tile w.tile).cells = [] ∧ (t.tile w.tile).blank = .unknown ∧ (t.tile w.tile).unfixed = true) ∧
              Signals [R.TILE_FIXCNT0_adj_codes w.tile] { s with mem := t.mem, fix := t.fix, tiles := t.tiles } t) ∧
            (∀ y, s.refixRun w.tile = some y → y.pos ≤ segCount → ∃ t y', exec write s = .next t ∧
              t.refixRun w.tile = some y' ∧ y.pos ≤ y'.pos ∧ y'.pos ≤ segCount ∧
              t.fixQueue d = (if queued = true ∨ y'.pos ≤ 9 * w.row + w.col / 64 then s.fixQueue d else s.fixQueue d ++ [entry]) ∧
              t.fix.running = s.fix.running ∧ OtherTiles [w.tile] s t ∧
              Signals [R.TILE_FIXCNT0_adj_codes w.tile] { s with mem := t.mem, fix := t.fix, tiles := t.tiles, freeIx := t.freeIx } t)) ∧
          (r.2.1.int8 = false → (∀ i : Fin 64, be.getLsbD i.val = true → s.target w.tile w.row (w.col + i.val) = level i) →
            ∃ t, exec write s = .next t ∧ SameMem s t ∧ Signals [R.TILE_FIXCNT0_adj_codes w.tile] s t)) ∧
        (∀ r u, w.region = 0 → s.memoryOnly = false → s.tileWritable w.tile = true → s.tileRec w.tile = some r → r.2.1.int8 = true →
          r.2.2.slice = 0 → r.2.1.partner r.2.2 = some u → u ≠ w.tile → s.tileWritable u = true → dieOf u ≠ dieOf w.tile →
          (s.fixQueue (dieOf w.tile)).length < 1024 → (s.fixQueue (dieOf u)).length < 1024 →
          ∃ t, exec write s = .next t ∧ ∀ i : Fin 64, be.getLsbD i.val = true →
            t.target w.tile w.row (w.col + i.val) = (int8Slices data[i].toNat).2.1 ∧
            t.target u w.row (w.col + i.val) = (int8Slices data[i].toNat).1)) ∧
      (s.memoryOnly = true ∨ s.readKind w = .zero → ∃ t, exec read s = .next t ∧
        t.out.head? = some (.line half.val zeroBytes false) ∧ Signals [] s t) ∧
      (s.memoryOnly = false → s.readKind w = .marker → ∃ t, exec read s = .next t ∧
        t.out.head? = some (.line half.val w.markers false) ∧ Signals [] s t) ∧
      (s.memoryOnly = false → s.readKind w = .sense → ∃ t, exec read s = .next t ∧
        (t.half half).heldReads = x.heldReads ++ [(a, s.frame)] ∧ Signals [] s t)) ∧
    (s.controlUp = false → exec (.weightWriteRelease half) s = .next s) ∧
    (∀ w t, s.controlUp = true → x.heldWrites = [w] → s.memWrite w = some t →
      exec (.weightWriteRelease half) s = .next (t.setHalf half { t.half half with heldWrites := [] })) ∧
    (∀ w rest, s.controlUp = true → x.heldWrites = w :: rest → s.memWrite w = none → exec (.weightWriteRelease half) s = .next s) ∧
    ((∀ r ∈ x.heldReads, s.plateQuiet (WindowLine.ofDpa r.1).tile = false) → exec (.weightReadSense half) s = .next s) ∧
    (∀ r rest, x.heldReads = r :: rest → s.plateQuiet (WindowLine.ofDpa r.1).tile = true →
      let w := WindowLine.ofDpa r.1
      let answers := fun (line : List Byte) => ∃ t, exec (.weightReadSense half) s = .next t ∧ .line half.val line false ∈ t.out ∧
        (t.half half).heldReads = rest ∧ Signals [] s t
      (s.readKind w = .zero → answers zeroBytes) ∧ (s.readKind w = .marker → answers w.markers) ∧
      (s.readKind w = .sense → w.region = 0 → answers ((List.range 64).map (s.sensedCode w))) ∧
      (s.readKind w = .sense → w.region = 1 →
        answers ((List.range 32).flatMap (fun i => toLE 2 (fromSigned 16 (s.pairAt w.tile w.row (w.col + i)).reading))))) ∧
    (∀ r rest, x.heldReads = r :: rest →
      (s.frame < r.2 + 2 → exec (.weightReadStale half) s = .next s) ∧
      (r.2 + 2 ≤ s.frame → ∃ t, exec (.weightReadStale half) s = .next t ∧ (t.half half).heldReads = rest ∧
        t.get R.TILE_FIX_CNT_stale_reads = satAdd R.TILE_FIX_CNT_stale_reads.w (s.get R.TILE_FIX_CNT_stale_reads) 1 ∧
        t.out.head? = some (.line half.val (WindowLine.ofDpa r.1).markers false) ∧ Signals [R.TILE_FIX_CNT_stale_reads] s t)) ∧
    (x.heldReads = [] → exec (.weightReadStale half) s = .next s)

/-- Supplies: samples, battery-low, a new cell and the loss of VHOLD set what their rules say, and nothing in COLD; a sample starts a recovery
that waited for the budget. A boot starts the copy that R526 chooses. A commit with nothing to write, deferred, or too late for VHOLD,
leaves HOLD for STANDBY, deferred if it is late; one that fits the open sector is written and counted. Mailbox: the
next channel's command ends BAD_CMD in ROM mode where it is not served, BAD_LEN on a wrong length, and else with its own result: the
information, a register read or written, a word of firmware programmed, an area checked, the island restarted, a seal advanced, a slot
revoked or provisioned, or the refusal that comes first. M-Bus: each frame for this slave sets the rate and is answered and counted, but
for address 255; requests send the next telegram or the last again; selection matches the secondary address. -/
def Obligations.IslandMailboxAndMeterBus : Prop :=
  (∀ s : State,
    (s.isl.mode = .cold → (∀ a b c, exec (.budgetSample a b c) s = .next s) ∧ exec .battLow s = .next s ∧ exec .battNewCell s = .next s ∧
      exec .vholdExhausted s = .next s ∧ exec .islandBoot s = .next s) ∧
    (s.isl.mode ≠ .cold →
      (∀ vbat vhold : BitVec 16, ∀ mah : BitVec 8, ∃ t : State,
        let due := t.fls.recoverDue = true ∧ t.islandUp = true ∧ t.eraseAllowed = true ∧ t.fls.active = none ∧ t.fls.suspended = []
        let left := s.isl.mode = .hold ∧ vhold.toNat < 2400 ∧ 2500 ≤ vbat.toNat
        (due → exec (.budgetSample vbat vhold mah) s = .next t.recover) ∧ (¬ due → exec (.budgetSample vbat vhold mah) s = .next t) ∧
        t.get R.BATT_CAP_used_mah = satAdd 16 (s.get R.BATT_CAP_used_mah) mah.toNat ∧ t.get R.BATT_BUDGET_ms = budgetMs vhold.toNat % 65536 ∧
        t.isl.vbat = vbat.toNat ∧ t.isl.vhold = vhold.toNat ∧
        (left → t.isl.mode = .standby ∧ t.isl.runOn = false) ∧ (¬ left → t.isl.mode = s.isl.mode ∧ t.isl.runOn = s.isl.runOn) ∧
        Writes [R.BATT_CAP_used_mah, R.BATT_BUDGET_ms] { s with isl := t.isl } t) ∧
      (s.battCondition = true → ∃ t, exec .battLow s = .next t ∧ t.isl = { s.isl with battLow := true, lowAt := s.now } ∧
        (s.isl.battLow = false → s.isl.linkUp = true → BitSet t R.ISL_EVT 2) ∧ Signals [R.ISL_EVT] { s with isl := t.isl } t) ∧
      (s.battCondition = false →
        (s.isl.lowAt + 10000 * ticksPerMs ≤ s.now → exec .battLow s = .next { s with isl := { s.isl with battLow := false } }) ∧
        (s.now < s.isl.lowAt + 10000 * ticksPerMs → exec .battLow s = .next s)) ∧
      Sets .battNewCell R.BATT_CAP_used_mah 0 s ∧
      (s.pwr.vauxIn = true ∨ 2500 ≤ s.isl.vbat → exec .vholdExhausted s = .next s) ∧
      (s.pwr.vauxIn = false → s.isl.vbat < 2500 → ∃ t, exec .vholdExhausted s = .next t ∧ t.isl.mode = .cold ∧ t.isl.booted = false ∧
        t.isl.linkUp = false ∧ t.isl.fw = none ∧ t.isl.timeLost = true ∧ t.fls.words = s.fls.words ∧ t.isl.keys = s.isl.keys ∧ SameMem s t) ∧
      (s.isl.booted = true → exec .islandBoot s = .next s) ∧
      (s.isl.booted = false → ∃ t, exec .islandBoot s = .next t ∧ t.isl.booted = true ∧ t.isl.fw = s.bootChoice ∧ t.isl.mboxOrder = [] ∧
        t.isl.sessions = Vector.replicate 3 none ∧ t.isl.mode = s.isl.mode ∧ SameMem s t)) ∧
    (∀ bad : Bool,
      let hold := decide (s.isl.mode = .hold)
      let ended : State := { s with isl := { s.isl with
        commitDeferred := s.isl.commitDeferred || s.commitTooLate, mode := (if hold then .standby else s.isl.mode), runOn := s.isl.runOn && !hold } }
      (s.islandUp = false → exec (.journalCommit bad) s = .next s) ∧
      (s.islandUp = true → s.isl.fw = none → exec (.journalCommit bad) s = .next ended) ∧
      (s.islandUp = true → s.isl.mode ≠ .aux → s.isl.commitDeferred = true ∨ s.commitTooLate = true →
        exec (.journalCommit bad) s = .next ended) ∧
      (s.islandUp = true → s.isl.fw ≠ none →
        (s.pendingRecords = [] ∨ s.isl.rebuilt = false → s.isl.mode ≠ .aux → exec (.journalCommit bad) s = .next ended) ∧
        (∀ c, chunkRecords s.pendingRecords = [c] → s.isl.mode = .aux → s.isl.rebuilt = true → s.fls.active = none → bad = false → s.fls.checkpointDue = false →
          s.get R.MTR_INTERVAL < s.fls.ckptInterval + 96 → s.fls.headLine + (32 + c.length + 63) / 64 ≤ 32 →
          ∃ t, exec (.journalCommit bad) s = .next t ∧ t.isl.records = [] ∧ t.isl.commitDeferred = false ∧ t.mtr.committed = s.mtr.totals ∧
            t.get R.FLS_JRNL_last_commit = (s.get R.FLS_JRNL_last_commit + 1) % 2 ^ R.FLS_JRNL_last_commit.w ∧
            t.get R.FLS_CNT_commits = satAdd R.FLS_CNT_commits.w (s.get R.FLS_CNT_commits) 1 ∧
            t.fls.headLine = s.fls.headLine + (32 + c.length + 63) / 64 ∧
            Writes [R.FLS_JRNL_last_commit, R.FLS_CNT_commits, R.FLS_LAST_cmd, R.FLS_LAST_result, R.FLS_LAST_bank, R.FLS_LAST_sector, R.FLS_LAST_word]
              { s with isl := t.isl, mtr := t.mtr, fls := t.fls } t)))) ∧
  (∀ (k : Fin 2) (s : State),
    let rows : List (Instr × Nat × (Nat → Bool)) := [(.getInfo k, 0x01, (· == 0)), (.regRead k, 0x02, (· == 8)), (.regWrite k, 0x03, (· == 12)),
      (.fwWrite k, 0x10, fun n => decide (9 ≤ n ∧ n ≤ 240)), (.fwCommit k, 0x11, (· == 8)), (.sealAdvance k, 0x20, (· == 201)),
      (.revoke k, 0x21, (· == 197)), (.provision k, 0x22, fun n => n == 36 || n == 52)]
    let next := s.islandUp = true ∧ s.mboxNext = some k.val ∧ s.fls.active = none
    let ends := fun (cmd : Instr) (status : Nat) (data : List Byte) (u : State) => exec cmd s = .next (u.mboxEnd k status data)
    let a := s.mboxArgs k
    let served := fun (code len : Nat) => next ∧ s.mboxCmd k = code ∧ s.mboxLen k = len ∧ s.isl.fw ≠ none
    let done := [R.ISL_CH_STAT_busy k.val, R.ISL_CH_STAT_done k.val, R.ISL_CH_STAT_status k.val, R.ISL_EVT] ++
      (List.range 64).map (R.ISL_CH_RSP k.val)
    (∀ (status : Nat) (data : List Byte),
      let t := s.mboxEnd k status data
      let req := s.mboxReq k
      let bs := req.take 2 ++ toLE 2 data.length ++ (req.drop 4).take 4 ++ toLE 1 status ++ List.replicate 7 0 ++ data
      t.get (R.ISL_CH_STAT_status k.val) = status % 256 ∧ (∀ w, w < 64 → t.get (R.ISL_CH_RSP k.val w) = leAt bs (4 * w) 4) ∧
      (s.isl.linkUp = true → t.get (R.ISL_CH_STAT_busy k.val) = 0 ∧ t.get (R.ISL_CH_STAT_done k.val) = 1 ∧ BitSet t R.ISL_EVT k.val ∧
        t.isl = { s.isl with mboxOrder := s.isl.mboxOrder.filter (fun c => c != k.val) }) ∧
      (s.isl.linkUp = false → t.isl = { s.isl with mboxOrder := s.isl.mboxOrder.filter (fun c => c != k.val), kept := s.isl.kept ++ [k.val] }) ∧
      Signals done { s with isl := t.isl } t) ∧
    (∀ x ∈ rows, (s.islandUp = false ∨ s.mboxNext ≠ some k.val ∨ s.mboxCmd k ≠ x.2.1 → exec x.1 s = .next s) ∧
      (next → (x.2.1 = 0x10 → s.fls.suspended = []) → s.mboxCmd k = x.2.1 →
        (s.isl.fw = none → romServes x.2.1 = false → ends x.1 2 [] s) ∧
        (s.isl.fw ≠ none ∨ romServes x.2.1 = true → x.2.2 (s.mboxLen k) = false → ends x.1 3 [] s))) ∧
    (s.fls.active ≠ none ∨ s.fls.suspended ≠ [] → exec (.fwWrite k) s = .next s) ∧
    (next → knownCommand (s.mboxCmd k) = false ∨ (s.isl.fw = none ∧ romServes (s.mboxCmd k) = false) → ends (.mboxUnknownCommand k) 2 [] s) ∧
    (next → s.mboxCmd k = 0x01 → s.mboxLen k = 0 → ends (.getInfo k) 0 s.islInfo s) ∧
    (served 0x02 8 → (islOffset (leAt a 0 4) (leAt a 4 4) = none → ends (.regRead k) 4 [] s) ∧
      (∀ o, islOffset (leAt a 0 4) (leAt a 4 4) = some o → ends (.regRead k) 0 (toLE 4 (s.islRead o).1) (s.islRead o).2)) ∧
    (served 0x03 12 → (islOffset (leAt a 0 4) (leAt a 4 4) = none → ends (.regWrite k) 4 [] s) ∧
      (∀ o, islOffset (leAt a 0 4) (leAt a 4 4) = some o → ends (.regWrite k) 0 [] (s.islWrite o (leAt a 8 4)))) ∧
    (served 0x10 16 → s.fls.suspended = [] →
      let j := s.journalFirst
      let target := leAt a 0 1
      let off := leAt a 4 4
      let area := fwArea (s.targetArea target)
      let n := area.1 + off / 2048
      (2 < target ∨ leAt a 1 3 ≠ 0 ∨ area.2 < off + 8 → ends (.fwWrite k) 4 [] j) ∧
      (target ≤ 2 → leAt a 1 3 = 0 → off + 8 ≤ area.2 → off % 8 = 0 → ofLE (a.drop 8) ≠ blankWord →
        ((s.isl.sessions.toList.getD target none).getD [] = [] → s.eraseAllowed = false →
          ∃ u, ends (.fwWrite k) 6 [] u ∧ u.fls = j.fls ∧ u.get R.FLS_LAST_result = 2) ∧
        ((s.isl.sessions.toList.getD target none).getD [] = [] → s.eraseAllowed = true → s.fls.torn = [] →
          ∃ u, ends (.fwWrite k) 0 [] u ∧ u.fls.word (256 * area.1 + off / 8) = ofLE (a.drop 8) ∧
            (u.isl.sessions.toList.getD target none) = some [n]))) ∧
    (next → s.mboxCmd k = 0x11 → s.mboxLen k = 8 →
      let target := leAt a 0 1
      let area := s.targetArea target
      (2 < target ∨ leAt a 1 3 ≠ 0 → ends (.fwCommit k) 4 [] s) ∧
      (target ≤ 2 → leAt a 1 3 = 0 → (fwArea area).2 < leAt a 4 4 → ∃ u, ends (.fwCommit k) 4 [] u ∧ u = { s with isl := u.isl }) ∧
      (target ≤ 2 → leAt a 1 3 = 0 → leAt a 4 4 ≤ (fwArea area).2 →
        (∀ e, s.fwCheck target (s.flashTake (256 * (fwArea area).1) (leAt a 4 4)) = .error e → ∃ u, ends (.fwCommit k) 7 (toLE 1 e.code) u ∧
          u.isl.areaOk = s.isl.areaOk &&& ~~~(BitVec.twoPow 4 area) ∧ u = { s.flashSeen with isl := u.isl }) ∧
        (∀ id, s.fwCheck target (s.flashTake (256 * (fwArea area).1) (leAt a 4 4)) = .ok id → ∃ u, ends (.fwCommit k) 0 [] u ∧
          u.isl.areaOk = s.isl.areaOk ||| BitVec.twoPow 4 area ∧ u = { s.flashSeen with isl := u.isl }))) ∧
    (next → s.mboxCmd k = 0x12 → s.mboxLen k = 0 → ∃ u v : State, exec (.fwActivate k) s = .next u.linkLost ∧
      v = (s.commitPending false).mboxEnd k 0 [] ∧ u = { v with isl := u.isl } ∧ u.isl.booted = false ∧ u.isl.fw = none ∧ u.isl.mboxOrder = []) ∧
    (served 0x20 201 →
      let slot := leAt a 0 1
      let value := leAt a 4 4
      let seals := s.isl.seals[slot4 slot]
      let good := slot ≤ 3 ∧ leAt a 1 3 = 0 ∧ s.isl.seal (slot4 slot) < value
      (¬ good → ends (.sealAdvance k) 4 [] s) ∧ (good → s.isl.signRev.getLsbD slot = true → ends (.sealAdvance k) 5 [] s) ∧
      (good → s.isl.signRev.getLsbD slot = false → 64 ≤ seals.length → ends (.sealAdvance k) 8 [] s) ∧
      (good → s.isl.signRev.getLsbD slot = false → seals.length < 64 →
        let check := s.signedBy 0x20 (a.take 8) ((a.drop 8).take 97) (a.drop 105) (fun n => n == slot)
        (∀ e, check = some e → ends (.sealAdvance k) 7 (toLE 1 e) s) ∧
        (check = none → ∃ u, ends (.sealAdvance k) 0 [] u ∧ u.isl.seal (slot4 slot) = value ∧
          u = { s with isl := { s.isl with seals := u.isl.seals } }))) ∧
    (served 0x21 197 →
      let kind := leAt a 0 1
      let slot := leAt a 1 1
      let good := kind ≤ 1 ∧ leAt a 2 2 = 0 ∧ slot < (if kind = 0 then 8 else 4)
      let check := s.signedBy 0x21 (a.take 4) ((a.drop 4).take 97) (a.drop 101) (fun n => kind == 0 || n != slot)
      (¬ good → ends (.revoke k) 4 [] s) ∧ (∀ e, good → check = some e → ends (.revoke k) 7 (toLE 1 e) s) ∧
      (good → check = none → ∃ u, ends (.revoke k) 0 [] u ∧
        (kind = 0 → u = { s with isl := { s.isl with keyRev := s.isl.keyRev ||| BitVec.twoPow 8 slot } }) ∧
        (kind = 1 → u = { s with isl := { s.isl with signRev := s.isl.signRev ||| BitVec.twoPow 4 slot } }))) ∧
    (∀ n, n = 36 ∨ n = 52 → served 0x22 n →
      let kind := leAt a 0 1
      let slot := leAt a 1 1
      let good := kind ≤ 1 ∧ leAt a 2 2 = 0 ∧ slot < (if kind = 0 then 8 else 4)
      let may := s.isBench = true ∧ s.fls.protLevel = 0 ∧ (if kind = 0 then s.isl.keyProv.getLsbD slot else s.isl.signProv.getLsbD slot) = false
      (¬ good → ends (.provision k) 4 [] s) ∧
      (good → n ≠ (if kind = 0 then 36 else 52) → ends (.provision k) 3 [] s) ∧
      (good → n = (if kind = 0 then 36 else 52) → ¬ may → ends (.provision k) 5 [] s) ∧
      (good → n = (if kind = 0 then 36 else 52) → may → ∃ u, ends (.provision k) 0 [] u ∧ u = { s with isl := u.isl } ∧
        (kind = 0 → u.isl.keyProv.getLsbD slot = true ∧ SMap.get 0 u.isl.keys slot = ofLE (a.drop 4) ∧ u.isl.signers = s.isl.signers) ∧
        (kind = 1 → u.isl.signProv.getLsbD slot = true ∧ SMap.get 0 u.isl.signers slot = ofLE (a.drop 4) ∧ u.isl.keys = s.isl.keys)))) ∧
  (∀ (rate : Fin 3) (addr value ci : Byte) (fcb : Bool) (sec : Vector Byte 8) (s : State),
    let frames := [Instr.sndNke rate addr, .reqUd1 rate addr, .reqUd2 rate addr fcb, .applicationReset rate addr,
      .setPrimaryAddress rate addr value, .selection rate sec, .setBaudRate rate addr ci]
    let answers := fun (cmd : Instr) (dst : Nat) (bs : List Byte) (l : List Fld) (t : State) => exec cmd s = .next t ∧
      t.get R.MBUS_STAT_rate = rate.val ∧ t.out = (if dst = 255 then s.out else .mbus bs :: s.out) ∧
      t.get R.MBUS_CNT_answered = (if dst = 255 then s.get R.MBUS_CNT_answered else satAdd 16 (s.get R.MBUS_CNT_answered) 1) ∧
      Writes (R.MBUS_STAT_rate :: R.MBUS_CNT_answered :: l) { s with out := t.out, isl := t.isl } t
    let silent := fun (cmd : Instr) => Sets cmd R.MBUS_STAT_rate rate.val s
    (s.islandUp = false → (∀ cmd ∈ frames, exec cmd s = .next s) ∧ exec .mbusFrameDiscard s = .next s) ∧
    (s.islandUp = true → Sets .mbusFrameDiscard R.MBUS_CNT_discarded (satAdd 16 (s.get R.MBUS_CNT_discarded) 1) s ∧
      (s.mbusTakes addr.toNat = false → silent (.sndNke rate addr) ∧ silent (.reqUd1 rate addr) ∧ silent (.reqUd2 rate addr fcb) ∧
        silent (.applicationReset rate addr) ∧ silent (.setPrimaryAddress rate addr value) ∧ silent (.setBaudRate rate addr ci)) ∧
      (s.secondaryMatches sec.toList = true → ∃ t, answers (.selection rate sec) 253 ackByte [R.MBUS_STAT_selected] t ∧ t.isl = s.isl ∧
        t.get R.MBUS_STAT_selected = 1) ∧
      (s.secondaryMatches sec.toList = false → ∃ t, exec (.selection rate sec) s = .next t ∧ t.get R.MBUS_STAT_selected = 0 ∧
        t.get R.MBUS_STAT_rate = rate.val ∧ Writes [R.MBUS_STAT_rate, R.MBUS_STAT_selected] s t)) ∧
    (s.mbusTakes addr.toNat = true →
      let restarted := { s.isl with telegrams := [], telIndex := 0, lastFcb := none }
      (∃ t, answers (.sndNke rate addr) addr.toNat ackByte [R.MBUS_STAT_selected] t ∧ t.isl = restarted ∧
        t.get R.MBUS_STAT_selected = if addr = 253 then 0 else s.get R.MBUS_STAT_selected) ∧
      (∃ t, answers (.reqUd1 rate addr) addr.toNat ackByte [] t ∧ t.isl = s.isl) ∧
      (∃ t, answers (.applicationReset rate addr) addr.toNat ackByte [] t ∧ t.isl = restarted) ∧
      (s.isl.fw ≠ none → 0xB8 ≤ ci.toNat → ci.toNat ≤ 0xBF → ∃ t, answers (.setBaudRate rate addr ci) addr.toNat ackByte [] t ∧ t.isl = s.isl) ∧
      (s.isl.fw ≠ none → value.toNat ≤ 250 → ∃ t, answers (.setPrimaryAddress rate addr value) addr.toNat ackByte [R.MBUS_CFG_primary] t ∧
        t.get R.MBUS_CFG_primary = value.toNat ∧
        (value.toNat = s.get R.MBUS_CFG_primary → t.isl = s.isl) ∧
        (value.toNat ≠ s.get R.MBUS_CFG_primary → t.isl.records.length = s.isl.records.length + 1)) ∧
      (s.isl.fw = none ∨ 250 < value.toNat → silent (.setPrimaryAddress rate addr value)) ∧
      (addr = 255 → silent (.reqUd2 rate addr fcb)) ∧
      (addr ≠ 255 →
        (s.isl.fw = none → ∃ t, answers (.reqUd2 rate addr fcb) addr.toNat (s.rspUd 0 romTelegram) [] t ∧ t.isl = s.isl) ∧
        (s.isl.fw ≠ none → s.isl.lastFcb = some fcb →
          ∃ t, answers (.reqUd2 rate addr fcb) addr.toNat (s.rspUd s.isl.accessNo (s.isl.telegrams.getD s.isl.telIndex [])) [] t ∧ t.isl = s.isl) ∧
        (s.isl.fw ≠ none → s.isl.lastFcb ≠ some fcb →
          let on := s.isl.lastFcb ≠ none ∧ s.isl.telIndex + 1 < s.isl.telegrams.length
          let set := if on then s.isl.telegrams else s.telegramSet
          let ix := if on then s.isl.telIndex + 1 else 0
          let n := (s.isl.accessNo + 1) % 256
          ∃ t, answers (.reqUd2 rate addr fcb) addr.toNat (s.rspUd n (set.getD ix [])) [] t ∧
            t.isl = { s.isl with telegrams := set, telIndex := ix, lastFcb := some fcb, accessNo := n }))))

/-- While metering runs. A valid flow measurement joins its block and cycle, a missing echo counts twice as invalid; a full swapped block
without a usable normal mean starts afresh, and with one makes the first offset estimate. A temperature cycle takes good readings and keeps
the temperature of bad ones. A flow cycle's end moves its heat and electrical energy into the registers of the cycle; rail energy goes to
the open frame. Bindings open and close; a frame mark opens a frame and closes the one before; a context mark splits a frame's energy
between a bound slot and overhead; expiry and a cycle without shares go to overhead. The RTC counts and is set; an interval's end counts it;
the lock sets once, and a calibration write until then takes its fields, each counted and journalled. What the link carries is ignored while
it is isolated. Without metering measurements, cycles, marks, splits, intervals and settings of the clock change nothing; STANDBY wakes all
the same. -/
def Obligations.Metering : Prop :=
  ∀ s : State,
    (s.metering = false →
      (∀ c d u, exec (.flowMeasurement c d u) s = .next s) ∧ (∀ c, exec (.swapBlockEnd c) s = .next s) ∧ exec .flowCycleEnd s = .next s ∧
      (∀ v, exec (.tempCycleEnd v) s = .next s) ∧ (∀ v, exec (.railSample v) s = .next s) ∧
      (∀ a b c d e f, exec (.bindingMessage a b c d e f) s = .next s) ∧ (∀ f, exec (.islandFrameMark f) s = .next s) ∧
      (∀ f n l, exec (.contextMark f n l) s = .next s) ∧ exec .markExpiry s = .next s ∧ exec .heatSplit s = .next s ∧
      exec .intervalEnd s = .next s ∧ (∀ v, exec (.rtcSet v) s = .next s)) ∧
    (s.isl.mode = .standby → ∀ r, exec (.standbyWake r) s = .next { s with isl := { s.isl with runOn := true } }) ∧
    (s.isl.mode ≠ .standby → ∀ r, exec (.standbyWake r) s = .next s) ∧
    (s.get R.MTR_CAL_LOCK_lock = 0 → ∀ (off : BitVec 12) (v : Word), off.toNat ∈ calOffsets → off.toNat ≠ 0x1C →
      let l := fieldsAt (0x410000 + off.toNat)
      ∃ t, exec (.calWrite off v) s = .next t ∧ (∀ f ∈ l, t.get f = bits v.toNat f.lo f.w) ∧
        t.get R.MTR_CAL_CNT = satAdd R.MTR_CAL_CNT.w (s.get R.MTR_CAL_CNT) 1 ∧ t.isl.records.length = s.isl.records.length + 1 ∧
        (∀ n : Fin 2, t.chan n = { s.chan n with estimated := (s.chan n).estimated && off.toNat != 0x24 + 0x20 * n.val }) ∧
        Writes (R.MTR_CAL_CNT :: l) { s with isl := t.isl, mtr := t.mtr } t) ∧
    (∀ (off : BitVec 12) (v : Word), off.toNat ∉ calOffsets → exec (.calWrite off v) s = .next s) ∧
    (s.get R.MTR_CAL_LOCK_lock = 1 → exec .calLock s = .next s) ∧
    (s.get R.MTR_CAL_LOCK_lock = 0 → ∃ t, exec .calLock s = .next t ∧ t.get R.MTR_CAL_LOCK_lock = 1 ∧
      t.get R.MTR_CAL_CNT = satAdd R.MTR_CAL_CNT.w (s.get R.MTR_CAL_CNT) 1 ∧
      t.isl.records.length = s.isl.records.length + 1 ∧ Writes [R.MTR_CAL_LOCK_lock, R.MTR_CAL_CNT] { s with isl := t.isl } t) ∧
    (s.linkOpen = false → (∀ a b c d e f, exec (.bindingMessage a b c d e f) s = .next s) ∧ (∀ f, exec (.islandFrameMark f) s = .next s) ∧
      (∀ f n l, exec (.contextMark f n l) s = .next s)) ∧
    (s.isl.mode = .cold → exec .rtcSecond s = .next s) ∧
    (s.isl.mode ≠ .cold → s.metering = false ∨ s.linkOpen = false ∨ s.hzn.lock ≠ .locked ∨ s.cal R.MTR_EPOCH = 0 →
      Sets .rtcSecond R.MTR_RTC ((s.get R.MTR_RTC + 1) % 2 ^ 32) s) ∧
    (s.metering = true →
      (∀ (n : Fin 2) (d u : Int), s.cal (R.MTR_CH_K n.val) ≠ 0 → (s.chan n).swapped = false ∨ (s.chan n).blockCount < 64 →
        s.transitOk n.val (some d) = true → s.transitOk n.val (some u) = true → (s.chan n).validRun + 1 < 8 →
        let c := { s.chan n with invalidRun := 0 }
        ∃ t, exec (.flowMeasurement n (some d) (some u)) s = .next t ∧ (∀ k, k ≠ n → t.chan k = s.chan k) ∧
          t.chan n = { c.measured true (u - d) with cycle := c.cycle ++ [(c.swapped, u, d)], validRun := c.validRun + 1 } ∧
          t = { s with mtr := { s.mtr with chans := t.mtr.chans } }) ∧
      (∀ n : Fin 2, s.cal (R.MTR_CH_K n.val) ≠ 0 → (s.chan n).swapped = false ∨ (s.chan n).blockCount < 64 → (s.chan n).invalidRun + 2 < 16 →
        let c := { s.chan n with invalidRun := (s.chan n).invalidRun + 2, validRun := 0 }
        ∃ t, exec (.flowMeasurement n none none) s = .next t ∧ t.chan n = c.measured false 0 ∧ (∀ k, k ≠ n → t.chan k = s.chan k) ∧
          t.get (R.MTR_CH_CNT_invalid n.val) = satAdd 16 (s.get (R.MTR_CH_CNT_invalid n.val)) 2 ∧
          Writes [R.MTR_CH_CNT_invalid n.val] { s with mtr := t.mtr } t) ∧
      (∀ n d u, s.cal (R.MTR_CH_K n.val) = 0 → exec (.flowMeasurement n d u) s = .next s) ∧
      (∀ n : Fin 2,
        let c := s.chan n
        let fresh := { c with swapped := false, blockCount := 0, blockValid := 0, blockSum := 0 }
        (c.swapped = false ∨ c.blockCount < 64 → exec (.swapBlockEnd n) s = .next s) ∧
        (c.swapped = true → 64 ≤ c.blockCount → c.normalMean = none ∨ c.blockValid < 32 → exec (.swapBlockEnd n) s = .next (s.setChan n fresh)) ∧
        (∀ dn : Rat, c.swapped = true → 64 ≤ c.blockCount → c.normalMean = some dn → 32 ≤ c.blockValid →
          let o : Rat := (dn - (c.blockSum : Rat) / c.blockValid) / 2
          o ≤ 200 → -200 ≤ o → c.estimated = false → c.offsetClear + 1 < 4 → s.evtActive (14 + n.val) = false →
          ∃ t, exec (.swapBlockEnd n) s = .next t ∧
            t.chan n = { fresh with offset := o, estimated := true, offsetRun := 0, offsetClear := c.offsetClear + 1 } ∧
            t.get (R.MTR_CH_OFS_EST n.val) = fromSigned 16 (roundRat (10 * o)) ∧
            Writes [R.MTR_CH_OFS_EST n.val] { s with mtr := t.mtr } t)) ∧
      (∀ v : Vector Rtd 4, ∃ t, exec (.tempCycleEnd v) s = .next t ∧ t.isl.runOn = (s.isl.mode != .standby) ∧
        ∀ n : Fin 4,
          let r : Rat := ((v[n].plus + v[n].minus : Nat) : Rat) / 2000000000
          (v[n].excited = true → 8 / 10 ≤ r → r ≤ 18 / 10 → (t.sensor n).theta = s.corrected (2 + n.val) (rtdTheta r) 1) ∧
          (v[n].excited = false ∨ r < 8 / 10 ∨ 18 / 10 < r → (t.sensor n).theta = (s.sensor n).theta)) ∧
      (∃ t, exec .flowCycleEnd s = .next t ∧ t.mtr.cycle = s.mtr.cycle + 1 ∧ t.mtr.lastElec = s.mtr.cycleElec ∧ t.mtr.cycleElec = 0 ∧
        t.mtr.cycleLen = (if s.isl.mode = .aux then 1 else 16) ∧ t.isl.runOn = (s.isl.mode != .standby) ∧
        (t.chan 0).heat + (t.chan 1).heat = (s.chan 0).heat + (s.chan 1).heat + t.mtr.lastHeat ∧
        t.get R.MTR_PWR_elec = min 65535 (8 * s.mtr.cycleElec / (1000000000 * s.mtr.cycleLen)) ∧
        ∀ n : Fin 2, (t.chan n).cycle = [] ∧ (s.cal (R.MTR_CH_K n.val) = 0 → (t.chan n).q = 0 ∧ (t.chan n).heat = (s.chan n).heat ∧
          (t.chan n).vol = (s.chan n).vol)) ∧
      (∀ v, s.isl.mode ≠ .aux → exec (.railSample v) s = .next s) ∧
      (∀ v f, s.isl.mode = .aux → s.mtr.openFrame = some f → ∃ t, exec (.railSample v) s = .next t ∧
        t.mtr.openEnergy + s.mtr.elec = s.mtr.openEnergy + t.mtr.elec ∧ t.mtr.cycleElec + s.mtr.elec = s.mtr.cycleElec + t.mtr.elec ∧
        ∀ r : Fin 4, s.cal (R.MTR_RAIL_SHUNT r.val) ≠ 0 → t.get (R.MTR_RAIL_V r.val) =
          fromSigned 16 (roundRat (s.corrected (6 + r.val) ((v[r].volts : Rat) / 1000) (1 / 100)))) ∧
      (∀ (slot : Fin 64) (tenant : BitVec 10) (job : BitVec 16) (bench : Bool) (frame : BitVec 48), s.linkOpen = true →
        (∃ t, exec (.bindingMessage true slot tenant job bench frame) s = .next t ∧
          t.mtr.bindings.getLast? = some ⟨slot.val, tenant.toNat, bench, frame.toNat, none⟩ ∧
          (∀ b ∈ t.mtr.bindings, b.slot = slot.val → b.toFrame = none → b.fromFrame = frame.toNat ∧ b.tenant = tenant.toNat) ∧
          t = { s with mtr := { s.mtr with bindings := t.mtr.bindings } }) ∧
        (∃ t, exec (.bindingMessage false slot tenant job bench frame) s = .next t ∧
          (∀ b ∈ t.mtr.bindings, b.slot = slot.val → b.toFrame ≠ none) ∧ t = { s with mtr := { s.mtr with bindings := t.mtr.bindings } })) ∧
      (∀ f : BitVec 48, s.linkOpen = true → ∃ t, exec (.islandFrameMark f) s = .next t ∧ t.mtr.openFrame = some f.toNat ∧ t.mtr.openEnergy = 0 ∧
        t.mtr.openCycle = s.mtr.cycle ∧
        (s.mtr.openFrame = none → t.mtr.frames = s.mtr.frames) ∧
        (∀ g, s.mtr.openFrame = some g → t.mtr.frames = s.mtr.frames ++ [⟨g, s.mtr.openEnergy, s.mtr.openCycle⟩]) ∧
        t = { s with mtr := t.mtr }) ∧
      (∀ (f : BitVec 48) (l : List (Fin 64 × BitVec 24)), s.linkOpen = true → (∀ e ∈ s.mtr.frames, e.frame ≠ f.toNat ∨ s.mtr.expired e.frame = true) →
        Sets (.contextMark f 1 l) R.MTR_ATTR_late (satAdd 16 (s.get R.MTR_ATTR_late) 1) s) ∧
      (∀ (f : BitVec 48) (slot : Fin 64) (w : BitVec 24) (e : FrameE) (account : Nat), s.linkOpen = true → s.mtr.frames = [e] → e.frame = f.toNat →
        s.mtr.expired e.frame = false →
        s.accountOf slot.val f.toNat = account → account < 1024 → s.mtr.dirtyTenants.length < 56 →
        let share := e.energy * w.toNat / (122880 + w.toNat)
        ∃ t, exec (.contextMark f 1 [(slot, w)]) s = .next t ∧ t.mtr.frames = [] ∧ t.regs = s.regs ∧
          SMap.get 0 t.mtr.tenElec account = SMap.get 0 s.mtr.tenElec account + share ∧
          (∀ k, k ≠ account → SMap.get 0 t.mtr.tenElec k = SMap.get 0 s.mtr.tenElec k) ∧
          t.mtr.ovhElec = s.mtr.ovhElec + (e.energy - share)) ∧
      (∀ e rest g, s.mtr.frames = e :: rest → s.mtr.openFrame = some g →
        (g < e.frame + 513 → exec .markExpiry s = .next s) ∧
        (e.frame + 513 ≤ g → ∃ t, exec .markExpiry s = .next t ∧ e ∉ t.mtr.frames ∧ t.mtr.ovhElec = s.mtr.ovhElec + e.energy ∧
          t = { s with mtr := t.mtr })) ∧
      (s.mtr.frames = [] ∨ s.mtr.openFrame = none → exec .markExpiry s = .next s) ∧
      ((∀ c ∈ s.mtr.cycles, s.mtr.splittable c = false) → exec .heatSplit s = .next s) ∧
      (∀ c, s.mtr.cycles.find? s.mtr.splittable = some c → c.shares = [] → ∃ t, exec .heatSplit s = .next t ∧
        t.mtr.ovhHeat = s.mtr.ovhHeat + c.heat ∧ t.mtr.cycles = s.mtr.cycles.filter (fun d => d.id != c.id) ∧ t = { s with mtr := t.mtr }) ∧
      (∀ v : Word,
        let old := s.get R.MTR_RTC
        (v.toNat < old + 2 → old < v.toNat + 2 → ∃ t, exec (.rtcSet v) s = .next t ∧ t.get R.MTR_RTC = v.toNat ∧
          t.get R.MTR_STAT_time_unknown = 0 ∧ Writes [R.MTR_RTC, R.MTR_STAT_time_unknown] s t) ∧
        (old + 2 ≤ v.toNat ∨ v.toNat + 2 ≤ old → ∃ u, exec (.rtcSet v) s = .next (u.intervalEnd true) ∧ u.get R.MTR_RTC = v.toNat ∧
          u.get R.MTR_STAT_time_unknown = 0 ∧ Writes [R.MTR_RTC, R.MTR_STAT_time_unknown] s u)) ∧
      (s.get R.MTR_RTC % 900 ≠ 0 ∨ s.mtr.intervalRtc = some (s.get R.MTR_RTC) → exec .intervalEnd s = .next s) ∧
      (s.get R.MTR_RTC % 900 = 0 → s.mtr.intervalRtc ≠ some (s.get R.MTR_RTC) → s.mtr.cycles = [] → s.pendingRecords = [] →
        ∃ t, exec .intervalEnd s = .next t ∧ t.get R.MTR_INTERVAL = (s.get R.MTR_INTERVAL + 1) % 2 ^ 32 ∧
          t.mtr.intervalRtc = some (s.get R.MTR_RTC) ∧ t.fls.short = s.fls.short ∧
          Writes [R.MTR_INTERVAL] { s with mtr := t.mtr, fls := t.fls, isl := t.isl } t))

/-- Each flash command on an idle flash ends with its own result code at its place: PROGRAM of a blank word stores it, and else says why not, an
unpredictable word being free; ERASE logs its BEGIN and becomes the active operation, or is refused; its end blanks the sector or leaves
it unpredictable; SUSPEND and RESUME move it; BLANK_CHECK tests a sector; OPTION raises the protection level, as a request with its key
does; a request to lower it starts a mass erase or ends PROTECTED. A mass erase blanks the flash and restarts the island. A host read is
denied, told to retry, or answers the word; a patrol counts the corrections of a sector it reads; a held commit goes before the sector
ahead is erased. A housekeeping round loses a rail whose signal has gone, or evaluates the diodes; a die's level follows its counts. -/
def Obligations.FlashAndHousekeeping : Prop :=
  ∀ s : State,
    let status := [R.FLS_STAT_busy, R.FLS_STAT_op, R.FLS_STAT_bank, R.FLS_STAT_sector, R.FLS_STAT_suspend_depth]
    let last := [R.FLS_LAST_cmd, R.FLS_LAST_result, R.FLS_LAST_bank, R.FLS_LAST_sector, R.FLS_LAST_word]
    let lastIs := fun (t : State) (cmd result : Nat) (bankB : Bool) (sector word : Nat) => t.get R.FLS_LAST_cmd = cmd ∧
      t.get R.FLS_LAST_result = result ∧ t.get R.FLS_LAST_bank = b2n bankB ∧ t.get R.FLS_LAST_sector = sector % 256 ∧
      t.get R.FLS_LAST_word = word % 256
    let refuses := fun (i : Instr) (flag : Fld) (cmd result : Nat) (bankB : Bool) (sector word : Nat) => ∃ t, exec i s = .next t ∧
      t.get flag = 1 ∧ lastIs t cmd result bankB sector word ∧ Writes (flag :: last) s t
    let noEnergy := fun (i : Instr) (cmd : Nat) (bankB : Bool) (sector : Nat) => ∃ t, exec i s = .next t ∧ t.get R.FLS_STAT_busy_energy = 1 ∧
      t.get R.BATT_BUDGET_refusals = satAdd 16 (s.get R.BATT_BUDGET_refusals) 1 ∧ lastIs t cmd 2 bankB sector 0 ∧
      Writes (R.FLS_STAT_busy_energy :: R.BATT_BUDGET_refusals :: last) s t
    let erasing := s.fls.suspended.any (fun a => a.op == 2)
    let begins := fun (i : Instr) (bankB : Bool) (sector : Nat) => ∃ t, exec i s = .next t ∧
      t.fls.active = some ⟨2, bankB, sector, 0, 0, 0⟩ ∧ t.get R.FLS_STAT_busy = 1 ∧ t.get R.FLS_STAT_op = 2 ∧
      (s.fls.logWord ≤ 253 → t.fls.word (sectorWord true s.fls.logSector + s.fls.logWord) = logEntry 0x42 bankB sector s.fls.logSeq) ∧
      Writes status { s with fls := t.fls } t
    (∀ (w : BitVec 17) (v : Word64) (bad : Bool),
      let ix := w.toNat
      let bankB := decide (65536 ≤ ix)
      let sector := ix % 65536 / 256
      let cmd := Instr.program w v bad
      let cut := s.fls.suspended.any (fun a => a.op == 2 && a.bankB == bankB && a.sector == sector) || s.fls.unmatched.contains (bankB, sector)
      let free := fun (used : Nat) (flag : List Fld) (result : Nat) (word : Option Nat) => ∃ t, exec cmd s = .next t ∧
        (∀ f ∈ flag, t.get f = 1) ∧ lastIs t 1 result bankB sector ix ∧ (∀ k, k ≠ ix → t.fls.word k = s.fls.word k) ∧
        (∀ x, word = some x → t.fls.word ix = x) ∧ (word = none → t.fls = s.fls) ∧
        Writes (flag ++ last) { s with fls := { s.fls with words := t.fls.words }, freeIx := s.freeIx + used } t
      (s.fls.active ≠ none ∨ s.programAllowed = false → exec cmd s = .next s) ∧
      (s.fls.active = none → s.programAllowed = true →
        (outOfRange bankB sector = true → refuses cmd R.FLS_STAT_range 1 9 bankB sector ix) ∧
        (outOfRange bankB sector = false → cut = true → refuses cmd R.FLS_STAT_target_erasing 1 6 bankB sector ix) ∧
        (outOfRange bankB sector = false → cut = false →
          (s.fls.isTorn ix = true →
            let found := s.free.1 % 2 ^ 64
            let back := s.free.2.free.1 % 2 ^ 64
            (found ≠ blankWord → free 1 [R.FLS_STAT_not_blank] 1 none) ∧
            (found = blankWord → v.toNat = blankWord → free 1 [R.FLS_STAT_range] 9 none) ∧
            (found = blankWord → v.toNat ≠ blankWord → bad = true ∨ back ≠ v.toNat → free 2 [R.FLS_STAT_verify_fail] 3 (some v.toNat)) ∧
            (found = blankWord → v.toNat ≠ blankWord → bad = false → back = v.toNat → free 2 [] 0 (some v.toNat))) ∧
          (s.fls.isTorn ix = false → s.fls.word ix ≠ blankWord → refuses cmd R.FLS_STAT_not_blank 1 1 bankB sector ix) ∧
          (s.fls.word ix = blankWord → s.fls.isTorn ix = false →
            (v.toNat = blankWord → refuses cmd R.FLS_STAT_range 1 9 bankB sector ix) ∧
            (v.toNat ≠ blankWord → ∃ t, exec cmd s = .next t ∧ t.fls.word ix = v.toNat ∧ (∀ k, k ≠ ix → t.fls.word k = s.fls.word k) ∧
              lastIs t 1 (if bad then 3 else 0) bankB sector ix ∧ (bad = true → t.get R.FLS_STAT_verify_fail = 1) ∧
              Writes (if bad then R.FLS_STAT_verify_fail :: last else last) { s with fls := { s.fls with words := t.fls.words } } t))))) ∧
    (∀ (bank : Bool) (sec : BitVec 8),
      let n := sec.toNat
      let cmd := Instr.erase bank sec
      (s.fls.active ≠ none → exec cmd s = .next s ∧ exec (.blankCheck bank sec) s = .next s) ∧
      (s.fls.active = none →
        (outOfRange bank n = true → refuses cmd R.FLS_STAT_range 2 9 bank n 0) ∧
        (outOfRange bank n = false → erasing = true → refuses cmd R.FLS_STAT_suspend_refused 2 7 bank n 0) ∧
        (outOfRange bank n = false → erasing = false → s.eraseAllowed = false → noEnergy cmd 2 bank n) ∧
        (outOfRange bank n = false → erasing = false → s.eraseAllowed = true → begins cmd bank n) ∧
        (let some' := ∃ i : Fin 256, s.fls.word (sectorWord bank n + i.val) ≠ blankWord ∧ s.fls.isTorn (sectorWord bank n + i.val) = false
          let answers := fun (result used : Nat) => ∃ t, exec (.blankCheck bank sec) s = .next t ∧ lastIs t 5 result bank n 0 ∧
            Writes last { s with freeIx := s.freeIx + used } t
          (s.fls.sectorBlank bank n = true → answers 0 0) ∧ (s.fls.sectorBlank bank n = false → some' → answers 1 0) ∧
          (s.fls.sectorBlank bank n = false → ¬ some' → answers (s.free.1 % 2) 1)))) ∧
    (∀ blank : Bool, (∀ a, s.fls.active = some a → a.op ≠ 2) → exec (.eraseDone blank) s = .next s) ∧
    (∀ a, s.fls.active = some a → a.op = 2 →
      (a.sector < 256 → s.fls.logSector < 2 → s.fls.logWord < 256 → a.bankB = false ∨ 2 ≤ a.sector →
        ∃ t, exec (.eraseDone true) s = .next t ∧ t.fls.active = none ∧ lastIs t 2 0 a.bankB a.sector 0 ∧ t.get R.FLS_STAT_busy = 0 ∧
        (∀ i, i < 256 → t.fls.word (sectorWord a.bankB a.sector + i) = blankWord) ∧
        t.fls.word (sectorWord true s.fls.logSector + s.fls.logWord) = logEntry 0x44 a.bankB a.sector s.fls.logSeq) ∧
      (∃ t, exec (.eraseDone false) s = .next t ∧ t.fls.active = none ∧ lastIs t 2 4 a.bankB a.sector 0 ∧ t.get R.FLS_STAT_erase_fail = 1 ∧
        (∀ i, i < 256 → t.fls.isTorn (sectorWord a.bankB a.sector + i) = true))) ∧
    (s.fls.active = none → exec .suspend s = .next s) ∧
    (∀ a, s.fls.active = some a →
      (2 ≤ s.fls.suspended.length ∨ 64 ≤ a.suspends ∨ a.op = 3 → refuses .suspend R.FLS_STAT_suspend_refused 3 7 a.bankB a.sector a.word) ∧
      (s.fls.suspended.length < 2 → a.suspends < 64 → a.op ≠ 3 → ∃ t, exec .suspend s = .next t ∧
        t.fls = { s.fls with active := none, suspended := { a with suspends := a.suspends + 1 } :: s.fls.suspended } ∧
        t.get R.FLS_CNT2_suspends = satAdd 16 (s.get R.FLS_CNT2_suspends) 1 ∧ lastIs t 3 0 a.bankB a.sector a.word ∧
        t.get R.FLS_STAT_busy = 0 ∧ Writes (R.FLS_CNT2_suspends :: status ++ last) { s with fls := t.fls } t)) ∧
    (s.fls.active ≠ none ∨ s.fls.suspended = [] → exec .resume s = .next s) ∧
    (∀ a rest, s.fls.active = none → s.fls.suspended = a :: rest →
      (a.op = 2 → s.get R.BATT_BUDGET_ms < 10 → ∃ t, exec .resume s = .next t ∧ t.fls = s.fls ∧ lastIs t 4 2 a.bankB a.sector 0 ∧
        t.get R.FLS_STAT_busy_energy = 1) ∧
      (a.op ≠ 2 ∨ 14 ≤ s.get R.BATT_BUDGET_ms → ∃ t, exec .resume s = .next t ∧ t.fls = { s.fls with active := some a, suspended := rest } ∧
        lastIs t 4 0 a.bankB a.sector a.word ∧ t.get R.FLS_STAT_busy = 1 ∧
        Writes (status ++ last) { s with fls := t.fls, freeIx := s.freeIx + 1 } t)) ∧
    (∀ level : BitVec 2,
      let raise := fun (i : Instr) (n : Nat) => (s.fls.protLevel < n → n ≤ 2 → s.fls.protWords < 256 → ∃ t, exec i s = .next t ∧
          t.get R.FLS_PROT_level = n ∧ lastIs t 7 0 true 2 s.fls.protWords ∧
          t.fls.word (sectorWord true 2 + s.fls.protWords) = protWord n (s.fls.protWords + 1) ∧
          Writes (R.FLS_PROT_level :: last) { s with fls := { s.fls with words := t.fls.words } } t) ∧
        (n ≤ s.fls.protLevel ∨ n = 3 ∨ 256 ≤ s.fls.protWords → refuses i R.FLS_STAT_protected 7 5 true 2 s.fls.protWords)
      (s.fls.active ≠ none ∨ s.programAllowed = false → exec (.option level) s = .next s) ∧
      (s.fls.active = none → s.programAllowed = true → raise (.option level) level.toNat) ∧
      (∀ key : BitVec 16, ∀ r ∈ [(Instr.protRaise level key, level.toNat), (.protLower key, 0)],
        let lowers := key.toNat = 0xF1A5 ∧ r.2 = 0 ∧ s.fls.protLevel = 1 ∧ s.isBench = true ∧ s.pwr.vauxIn = true
        (r.2 < s.fls.protLevel → ¬ lowers → refuses r.1 R.FLS_STAT_protected 6 5 false 0 0) ∧
        (lowers → ∃ t, exec r.1 s = .next t ∧ t.fls.massPart = some 0 ∧ t.fls.active = some ⟨3, false, 0, 0, 0, 0⟩ ∧
          t.get R.FLS_STAT_busy = 1 ∧ t.get R.FLS_STAT_op = 3) ∧
        (s.fls.protLevel ≤ r.2 → key.toNat ≠ 0xF1A5 → exec r.1 s = .next s) ∧
        (s.fls.protLevel ≤ r.2 → key.toNat = 0xF1A5 → (s.fls.active = none → raise r.1 r.2) ∧
          (s.setAside = none → exec r.1 s = .next s) ∧
          (∀ t, s.fls.active ≠ none → s.setAside = some t → exec r.1 s = .next (t.option r.2).resumeInner)))) ∧
    (s.islandUp = false ∨ s.fls.massPart = none → exec .massErase s = .next s) ∧
    (s.islandUp = true → s.fls.massPart ≠ none →
      (s.eraseAllowed = false → noEnergy .massErase 6 false 0) ∧
      (s.eraseAllowed = true → ∃ u, exec .massErase s = .next (State.islandRestart u) ∧ lastIs u 6 0 false 0 0 ∧ u.fls.massPart = none ∧
        u.fls.active = none ∧ (∀ i, i < 49152 → u.fls.word i = blankWord) ∧ (∀ i, i < 65536 → u.fls.word (65536 + i) = blankWord) ∧
        u.get R.FLS_PROT_level = 0 ∧ u.get R.MTR_CAL_LOCK_lock = 0 ∧ u.mtr.elec = 0)) ∧
    (∀ addr : BitVec 20,
      let ix := addr.toNat / 8
      let bankB := decide (65536 ≤ ix)
      let busy := (match s.fls.active with | some a => a.op == 3 || a.bankB == bankB | none => false) ||
        s.fls.suspended.any (fun a => a.bankB == bankB && a.sector == ix % 65536 / 256)
      let shown := [R.FLS_HADDR_addr, R.FLS_HDATA_LO, R.FLS_HDATA_HI, R.FLS_HSTAT_valid, R.FLS_HSTAT_retry, R.FLS_HSTAT_denied,
        R.FLS_HSTAT_corrected, R.FLS_HSTAT_uncorrectable]
      let reads := fun (data valid retry denied : Nat) => ∃ t, exec (.flsHostRead addr) s = .next t ∧ t.get R.FLS_HADDR_addr = addr.toNat ∧
        t.get R.FLS_HDATA_LO = data % 2 ^ 32 ∧ t.get R.FLS_HDATA_HI = data / 2 ^ 32 % 2 ^ 32 ∧ t.get R.FLS_HSTAT_valid = valid ∧
        t.get R.FLS_HSTAT_retry = retry ∧ t.get R.FLS_HSTAT_denied = denied ∧ Writes shown s t
      (addr.toNat % 8 ≠ 0 → reads 0 0 0 0) ∧
      (addr.toNat % 8 = 0 → bankB = false → 1 ≤ s.fls.protLevel → reads 0 0 0 1) ∧
      (addr.toNat % 8 = 0 → bankB = true ∨ s.fls.protLevel = 0 →
        (busy = true → reads 0 0 1 0) ∧ (busy = false → s.fls.isTorn ix = false → reads (s.fls.word ix) 1 0 0))) ∧
    (∀ hits, s.isl.mode ≠ .aux ∨ s.fls.active ≠ none → exec (.patrol hits) s = .next s) ∧
    (∀ h : PatrolHit, s.isl.mode = .aux → s.fls.active = none → h.corrected ≤ 8 → h.uncorrectable ≤ 8 →
      s.patrolled h.bankB h.sector.toNat = true → ∃ t, exec (.patrol [h]) s = .next t ∧
      t.get R.FLS_ECC_CNT_corrected = satAdd 16 (s.get R.FLS_ECC_CNT_corrected) h.corrected ∧
      t.get R.FLS_ECC_CNT_uncorrectable = satAdd 16 (s.get R.FLS_ECC_CNT_uncorrectable) h.uncorrectable ∧
      (s.get R.FLS_ECC_CFG_warn ≤ h.corrected → t.get R.FLS_STAT_ecc_warn = 1 ∧ t.get R.FLS_ECC_LAST_sector = h.sector.toNat ∧
        t.get R.FLS_ECC_LAST_count = h.corrected) ∧ (0 < h.uncorrectable → t.get R.FLS_STAT_ecc_fail = 1) ∧
      (0 < h.uncorrectable → h.bankB = true → 3 ≤ h.sector.toNat → t.fls.checkpointDue = true) ∧
      Writes [R.FLS_ECC_CNT_corrected, R.FLS_ECC_CNT_uncorrectable, R.FLS_STAT_ecc_warn, R.FLS_STAT_ecc_fail, R.FLS_ECC_LAST_sector,
        R.FLS_ECC_LAST_bank, R.FLS_ECC_LAST_count] { s with fls := { s.fls with checkpointDue := t.fls.checkpointDue } } t) ∧
    (∀ h : PatrolHit, s.patrolled h.bankB h.sector.toNat = false → exec (.patrol [h]) s = .next s) ∧
    (s.isl.mode ≠ .aux ∨ s.isl.rebuilt = false ∨ s.fls.active ≠ none ∨ s.fls.suspended ≠ [] → exec .eraseAhead s = .next s) ∧
    (s.isl.mode = .aux → s.isl.rebuilt = true → s.fls.active = none → s.fls.suspended = [] → s.isl.commitDeferred = true ∨ s.fls.held = true →
      s.isl.fw ≠ none → exec .eraseAhead s = .next (s.commitPending false).eraseAhead) ∧
    (s.isl.mode = .aux → s.isl.rebuilt = true → s.fls.active = none → s.fls.suspended = [] → s.isl.commitDeferred = false → s.fls.held = false →
      let target := s.ringAfter (s.get R.FLS_RING_erased_ahead + 1) (s.get R.FLS_RING_head)
      (4 ≤ s.get R.FLS_RING_erased_ahead → exec .eraseAhead s = .next s) ∧
      (s.get R.FLS_RING_erased_ahead < 4 → s.eraseAllowed = false → noEnergy .eraseAhead 2 true target) ∧
      (s.get R.FLS_RING_erased_ahead < 4 → s.eraseAllowed = true → target ≠ s.get R.FLS_RING_tail → begins .eraseAhead true target)) ∧
    (∀ (diodes : Vector (Option Int) 8) (bias : BitVec 4) (rails : BitVec 6),
      let cmd := Instr.housekeepingRound diodes bias rails
      let lost := fun (n : Nat) => s.pwr.railGood.getLsbD n && s.pwr.enables.getLsbD n && !rails.getLsbD n
      (s.scanning = false → exec cmd s = .next s) ∧
      (s.scanning = true → bias = 15 → s.get R.THM_STAT_bias_fault = 0 →
        ((∀ n, n < 6 → lost n = false) → ∃ (u : State) (raw : Nat → Option Int), exec cmd s = .next (u.thmEvaluate raw []) ∧
          (∀ d, d < 8 → raw d = s.thmRaw diodes d) ∧ u = { s with thm := u.thm } ∧ u.thm.rounds = s.thm.rounds + 1 ∧
          u.thm.biasBad = Vector.replicate 4 0 ∧ u.thm.dies = s.thm.dies) ∧
        (∀ n, n < 6 → lost n = true → (∀ m, m < n → lost m = false) → ∃ (u : State) (mv : Nat), exec cmd s = .next (u.railLost n mv) ∧
          mv < 65536 ∧ u = { s with thm := u.thm, freeIx := s.freeIx + 1 } ∧ u.thm.rounds = s.thm.rounds + 1))) ∧
    (∀ (x : DieSt) (old : Nat), old ≤ 3 →
      (4 ≤ x.upShut → x.level old = 3) ∧ (x.upShut < 4 → 4 ≤ x.upOver ∨ 4 ≤ x.rateUp → old < 2 → x.level old = 2) ∧
      (x.upShut < 4 → x.upOver < 4 → x.rateUp < 4 → (4 ≤ x.upWarn → old = 0 → x.level old = 1) ∧
        (16 ≤ x.downRun → old = 1 → x.upWarn < 4 → x.level old = 0) ∧
        (16 ≤ x.downRun → old = 2 → x.rateCaused = false ∨ 16 ≤ x.rateDown → x.level old = 1) ∧
        (x.downRun < 16 → 2 ≤ old → x.level old = old)))
end

