-- ==== Sys2Proof/Laws/SMap.lean ====
section
/-!
SUPPORT. Sys2Proof/Laws/SMap.lean: reading a sparse map after a write or a clear, and the canonical form kept by each.
-/

namespace Sys2Proof.Machine

variable {α : Type}

theorem SMap.lookup_erase_same (m : SMap α) (k : Nat) : SMap.lookup (SMap.erase m k) k = none := by
  induction m with
  | nil => rfl
  | cons x m ih =>
    obtain ⟨k', v⟩ := x
    by_cases h : k' = k <;> simp [SMap.erase, SMap.lookup, h, ih]

theorem SMap.lookup_erase_other (m : SMap α) (k j : Nat) (h : j ≠ k) :
    SMap.lookup (SMap.erase m k) j = SMap.lookup m j := by
  induction m with
  | nil => rfl
  | cons x m ih =>
    obtain ⟨k', v⟩ := x
    by_cases h1 : k' = k
    · subst h1
      have h2 : ¬(k' = j) := fun h3 => h h3.symm
      simp [SMap.erase, SMap.lookup, h2, ih]
    · simp only [SMap.erase, if_neg h1, SMap.lookup, ih]

theorem SMap.lookup_insert_other (m : SMap α) (k j : Nat) (v : α) (h : j ≠ k) :
    SMap.lookup (SMap.insert m k v) j = SMap.lookup m j := by
  have h0 : ¬(k = j) := fun h3 => h h3.symm
  induction m with
  | nil => simp [SMap.insert, SMap.lookup, h0]
  | cons x m ih =>
    obtain ⟨k', v'⟩ := x
    by_cases h1 : k < k'
    · simp [SMap.insert, SMap.lookup, h1, h0]
    · simp only [SMap.insert, if_neg h1, SMap.lookup, ih]

theorem SMap.lookup_insert_same (m : SMap α) (k : Nat) (v : α) (h : SMap.lookup m k = none) :
    SMap.lookup (SMap.insert m k v) k = some v := by
  induction m with
  | nil => simp [SMap.insert, SMap.lookup]
  | cons x m ih =>
    obtain ⟨k', v'⟩ := x
    by_cases h2 : k' = k
    · simp [SMap.lookup, h2] at h
    · have h3 : SMap.lookup m k = none := by simpa [SMap.lookup, h2] using h
      by_cases h1 : k < k' <;> simp [SMap.insert, SMap.lookup, h1, h2, ih h3]

/-- A write is read back. -/
@[simp] theorem SMap.get_set_same [DecidableEq α] (d : α) (m : SMap α) (k : Nat) (v : α) :
    SMap.get d (SMap.set d m k v) k = v := by
  by_cases h : v = d
  · simp [SMap.get, SMap.set, h, SMap.lookup_erase_same]
  · simp [SMap.get, SMap.set, h, SMap.lookup_insert_same _ _ _ (SMap.lookup_erase_same m k)]

theorem SMap.lookup_set_other [DecidableEq α] (d : α) (m : SMap α) (k j : Nat) (v : α) (h : j ≠ k) :
    SMap.lookup (SMap.set d m k v) j = SMap.lookup m j := by
  by_cases h1 : v = d
  · simp [SMap.set, h1, SMap.lookup_erase_other _ _ _ h]
  · simp [SMap.set, h1, SMap.lookup_insert_other _ _ _ _ h, SMap.lookup_erase_other _ _ _ h]

/-- A write leaves every other key alone. -/
theorem SMap.get_set_other [DecidableEq α] (d : α) (m : SMap α) (k j : Nat) (v : α) (h : j ≠ k) :
    SMap.get d (SMap.set d m k v) j = SMap.get d m j := by
  simp [SMap.get, SMap.lookup_set_other d m k j v h]

theorem SMap.lookup_clearRange_in (m : SMap α) (lo hi j : Nat) (h : lo ≤ j ∧ j < hi) :
    SMap.lookup (SMap.clearRange m lo hi) j = none := by
  induction m with
  | nil => rfl
  | cons x m ih =>
    obtain ⟨k, v⟩ := x
    by_cases h1 : lo ≤ k ∧ k < hi
    · simp [SMap.clearRange, h1, ih]
    · have h2 : ¬(k = j) := fun h3 => h1 (h3 ▸ h)
      simp [SMap.clearRange, h1, SMap.lookup, h2, ih]

theorem SMap.lookup_clearRange_out (m : SMap α) (lo hi j : Nat) (h : ¬(lo ≤ j ∧ j < hi)) :
    SMap.lookup (SMap.clearRange m lo hi) j = SMap.lookup m j := by
  induction m with
  | nil => rfl
  | cons x m ih =>
    obtain ⟨k, v⟩ := x
    by_cases h1 : lo ≤ k ∧ k < hi
    · have h2 : ¬(k = j) := fun h3 => h (h3 ▸ h1)
      simp [SMap.clearRange, h1, SMap.lookup, h2, ih]
    · by_cases h2 : k = j
      · subst h2; simp [SMap.clearRange, h1, SMap.lookup]
      · simp [SMap.clearRange, h1, SMap.lookup, h2, ih]

/-! ### The canonical form -/

/-- Every key of the map is at least `lo`. -/
def SMap.above (lo : Nat) (m : SMap α) : Prop := ∀ x ∈ m, lo ≤ x.1

theorem SMap.wfFrom_some_iff [DecidableEq α] (d : α) (lo : Nat) (m : SMap α) :
    SMap.wfFrom d (some lo) m = true ↔ SMap.wfFrom d none m = true ∧ SMap.above (lo + 1) m := by
  induction m generalizing lo with
  | nil => simp [SMap.wfFrom, SMap.above]
  | cons x m ih =>
    obtain ⟨k, v⟩ := x
    simp only [SMap.wfFrom, Bool.and_eq_true, decide_eq_true_eq, SMap.above, List.mem_cons, forall_eq_or_imp]
    constructor
    · rintro ⟨⟨h1, h2⟩, h3⟩
      refine ⟨⟨h2, h3⟩, by omega, ?_⟩
      intro x hx
      have := ((ih k).1 h3).2 x hx
      omega
    · rintro ⟨⟨h2, h3⟩, h1, _⟩
      exact ⟨⟨by omega, h2⟩, h3⟩

theorem SMap.wf_cons [DecidableEq α] (d : α) (k : Nat) (v : α) (m : SMap α) :
    SMap.wf d ((k, v) :: m) = true ↔ v ≠ d ∧ SMap.wf d m = true ∧ SMap.above (k + 1) m := by
  show SMap.wfFrom d none ((k, v) :: m) = true ↔ v ≠ d ∧ SMap.wfFrom d none m = true ∧ SMap.above (k + 1) m
  simp [SMap.wfFrom, SMap.wfFrom_some_iff]

theorem SMap.mem_erase (m : SMap α) (k : Nat) (x : Nat × α) (h : x ∈ SMap.erase m k) : x ∈ m := by
  induction m with
  | nil => simp [SMap.erase] at h
  | cons y m ih =>
    obtain ⟨k', v⟩ := y
    by_cases h1 : k' = k
    · simp [SMap.erase, h1] at h; exact List.mem_cons_of_mem _ (ih h)
    · simp [SMap.erase, h1] at h
      rcases h with h | h
      · simp [h]
      · exact List.mem_cons_of_mem _ (ih h)

theorem SMap.mem_insert (m : SMap α) (k : Nat) (v : α) (x : Nat × α) (h : x ∈ SMap.insert m k v) : x = (k, v) ∨ x ∈ m := by
  induction m with
  | nil => left; simpa [SMap.insert] using h
  | cons y m ih =>
    obtain ⟨k', v'⟩ := y
    by_cases h1 : k < k'
    · simpa [SMap.insert, h1] using h
    · simp [SMap.insert, h1] at h
      rcases h with h | h
      · right; simp [h]
      · rcases ih h with h2 | h2
        · left; exact h2
        · right; exact List.mem_cons_of_mem _ h2

theorem SMap.wf_erase [DecidableEq α] (d : α) (m : SMap α) (k : Nat) (h : SMap.wf d m = true) :
    SMap.wf d (SMap.erase m k) = true := by
  induction m with
  | nil => rfl
  | cons y m ih =>
    obtain ⟨k', v⟩ := y
    obtain ⟨h1, h2, h3⟩ := (SMap.wf_cons d k' v m).1 h
    by_cases h4 : k' = k
    · simp only [SMap.erase, h4, ↓reduceIte]; exact ih h2
    · simp only [SMap.erase, h4, ↓reduceIte]
      exact (SMap.wf_cons d k' v _).2 ⟨h1, ih h2, fun x hx => h3 x (SMap.mem_erase m k x hx)⟩

theorem SMap.erase_no_key (m : SMap α) (k : Nat) : ∀ x ∈ SMap.erase m k, x.1 ≠ k := by
  induction m with
  | nil => simp [SMap.erase]
  | cons y m ih =>
    obtain ⟨k', v⟩ := y
    by_cases h1 : k' = k
    · simpa [SMap.erase, h1] using ih
    · intro x hx
      simp [SMap.erase, h1] at hx
      rcases hx with hx | hx
      · simpa [hx] using h1
      · exact ih x hx

theorem SMap.wf_insert [DecidableEq α] (d : α) (m : SMap α) (k : Nat) (v : α) (hv : v ≠ d) (hk : ∀ x ∈ m, x.1 ≠ k)
    (h : SMap.wf d m = true) : SMap.wf d (SMap.insert m k v) = true := by
  induction m with
  | nil => simp [SMap.insert, SMap.wf, SMap.wfFrom, hv]
  | cons y m ih =>
    obtain ⟨k', v'⟩ := y
    obtain ⟨h1, h2, h3⟩ := (SMap.wf_cons d k' v' m).1 h
    have hk' : k' ≠ k := hk (k', v') (by simp)
    by_cases h4 : k < k'
    · simp only [SMap.insert, h4, ↓reduceIte]
      refine (SMap.wf_cons d k v _).2 ⟨hv, h, ?_⟩
      intro x hx
      simp only [List.mem_cons] at hx
      rcases hx with hx | hx
      · simp [hx]; omega
      · have := h3 x hx; omega
    · simp only [SMap.insert, h4, ↓reduceIte]
      refine (SMap.wf_cons d k' v' _).2 ⟨h1, ih (fun x hx => hk x (List.mem_cons_of_mem _ hx)) h2, ?_⟩
      intro x hx
      rcases SMap.mem_insert m k v x hx with hx | hx
      · simp [hx]; omega
      · exact h3 x hx

/-- A write keeps the canonical form. -/
theorem SMap.wf_set [DecidableEq α] (d : α) (m : SMap α) (k : Nat) (v : α) (h : SMap.wf d m = true) :
    SMap.wf d (SMap.set d m k v) = true := by
  by_cases hv : v = d
  · simpa [SMap.set, hv] using SMap.wf_erase d m k h
  · simpa [SMap.set, hv] using SMap.wf_insert d _ k v hv (SMap.erase_no_key m k) (SMap.wf_erase d m k h)

theorem SMap.mem_clearRange (m : SMap α) (lo hi : Nat) (x : Nat × α) (h : x ∈ SMap.clearRange m lo hi) : x ∈ m := by
  induction m with
  | nil => simp [SMap.clearRange] at h
  | cons y m ih =>
    obtain ⟨k', v⟩ := y
    by_cases h1 : lo ≤ k' ∧ k' < hi
    · simp [SMap.clearRange, h1] at h; exact List.mem_cons_of_mem _ (ih h)
    · simp only [SMap.clearRange, h1, ↓reduceIte, List.mem_cons] at h
      rcases h with h | h
      · simp [h]
      · exact List.mem_cons_of_mem _ (ih h)

/-- Clearing a range keeps the canonical form. -/
theorem SMap.wf_clearRange [DecidableEq α] (d : α) (m : SMap α) (lo hi : Nat) (h : SMap.wf d m = true) :
    SMap.wf d (SMap.clearRange m lo hi) = true := by
  induction m with
  | nil => rfl
  | cons y m ih =>
    obtain ⟨k', v⟩ := y
    obtain ⟨h1, h2, h3⟩ := (SMap.wf_cons d k' v m).1 h
    by_cases h4 : lo ≤ k' ∧ k' < hi
    · simp only [SMap.clearRange, h4, and_self, ↓reduceIte]; exact ih h2
    · simp only [SMap.clearRange, h4, ↓reduceIte]
      exact (SMap.wf_cons d k' v _).2 ⟨h1, ih h2, fun x hx => h3 x (SMap.mem_clearRange m lo hi x hx)⟩

end Sys2Proof.Machine
end

