-- ==== Sys2Proof/Laws/Memory.lean ====
section
/-!
SUPPORT. Sys2Proof/Laws/Memory.lean: DRAM reads after a store, and the canonical form kept by every memory operation.
-/

namespace Sys2Proof.Machine

@[simp] theorem Memory.get_set_same (m : List Host.Cell) (a : Nat) (b : Byte) : Memory.get (Memory.set m a b) a = b :=
  SMap.get_set_same 0 m a b

theorem Memory.get_set_other (m : List Host.Cell) (a c : Nat) (b : Byte) (h : c ≠ a) :
    Memory.get (Memory.set m a b) c = Memory.get m c :=
  SMap.get_set_other 0 m a c b h

/-- A store leaves every byte outside it alone. -/
theorem Memory.get_write_outside (bs : List Byte) (m : List Host.Cell) (a c : Nat) (h : c < a ∨ a + bs.length ≤ c) :
    Memory.get (Memory.write m a bs) c = Memory.get m c := by
  induction bs generalizing m a with
  | nil => rfl
  | cons b bs ih =>
    simp only [List.length_cons] at h
    simp only [Memory.write]
    rw [ih _ _ (by omega), Memory.get_set_other _ _ _ _ (by omega)]

/-- A store's bytes are read back. -/
theorem Memory.get_write_inside (bs : List Byte) (m : List Host.Cell) (a i : Nat) (h : i < bs.length) :
    Memory.get (Memory.write m a bs) (a + i) = bs[i] := by
  induction bs generalizing m a i with
  | nil => simp at h
  | cons b bs ih =>
    simp only [Memory.write]
    cases i with
    | zero =>
      rw [Memory.get_write_outside _ _ _ _ (by omega)]
      simp
    | succ i =>
      have : a + (i + 1) = (a + 1) + i := by omega
      rw [this, ih _ _ _ (by simpa using h)]
      simp

theorem Memory.wf_set (m : List Host.Cell) (a : Nat) (b : Byte) (h : Memory.wf m = true) : Memory.wf (Memory.set m a b) = true :=
  SMap.wf_set 0 m a b h

/-- A store keeps the canonical form. -/
theorem Memory.wf_write (bs : List Byte) (m : List Host.Cell) (a : Nat) (h : Memory.wf m = true) :
    Memory.wf (Memory.write m a bs) = true := by
  induction bs generalizing m a with
  | nil => exact h
  | cons b bs ih => exact ih _ _ (Memory.wf_set m a b h)

theorem Memory.wf_clearRange (m : List Host.Cell) (lo hi : Nat) (h : Memory.wf m = true) :
    Memory.wf (SMap.clearRange m lo hi) = true :=
  SMap.wf_clearRange 0 m lo hi h

theorem State.writeMem_wf (s : State) (a : Nat) (bs : List Byte) (h : Memory.wf s.mem = true) :
    Memory.wf (s.writeMem a bs).mem = true :=
  Memory.wf_write bs s.mem a h

theorem State.clearWindows_wf (s : State) (h : Memory.wf s.mem = true) : Memory.wf s.clearWindows.mem = true :=
  Memory.wf_clearRange s.mem 0 cmdEnd h

theorem Memory.reset_wf : Memory.wf State.reset.mem = true := by decide

end Sys2Proof.Machine
end

