-- ==== Sys2Proof/Laws/Regs.lean ====
section
/-!
SUPPORT. Sys2Proof/Laws/Regs.lean: reading a register field after one is put, or after a range of offsets is reset.
-/

namespace Sys2Proof.Machine

/-- A field put is read back, cut to its width. -/
@[simp] theorem RegFile.get_put_same (r : RegFile) (f : Fld) (v : Nat) : (r.put f v).get f = v % 2 ^ f.w :=
  SMap.get_set_same f.rst r f.key (v % 2 ^ f.w)

/-- A field of another key keeps its value. -/
theorem RegFile.get_put_other (r : RegFile) (f g : Fld) (v : Nat) (h : g.key ≠ f.key) : (r.put f v).get g = r.get g := by
  simp [RegFile.get, RegFile.put, SMap.lookup_set_other _ _ _ _ _ h]

/-- A field in a range that is reset reads its reset value. -/
theorem RegFile.get_resetRange_in (r : RegFile) (lo hi : Nat) (g : Fld) (h : 32 * lo ≤ g.key ∧ g.key < 32 * hi) :
    (r.resetRange lo hi).get g = g.rst := by
  simp [RegFile.get, RegFile.resetRange, SMap.lookup_clearRange_in _ _ _ _ h]

theorem RegFile.get_resetRange_out (r : RegFile) (lo hi : Nat) (g : Fld) (h : ¬(32 * lo ≤ g.key ∧ g.key < 32 * hi)) :
    (r.resetRange lo hi).get g = r.get g := by
  simp [RegFile.get, RegFile.resetRange, SMap.lookup_clearRange_out _ _ _ _ h]

@[simp] theorem State.get_put_same (s : State) (f : Fld) (v : Nat) : (s.put f v).get f = v % 2 ^ f.w :=
  RegFile.get_put_same s.regs f v

theorem State.get_put_other (s : State) (f g : Fld) (v : Nat) (h : g.key ≠ f.key) : (s.put f v).get g = s.get g :=
  RegFile.get_put_other s.regs f g v h

/-- A counter moved on: all a count does. -/
theorem State.count_eq (s : State) (f : Fld) (n : Nat) : s.count f n = s.put f (satAdd f.w (s.get f) n) := rfl

theorem State.setBit_eq (s : State) (f : Fld) (b : Nat) : s.setBit f b = s.put f (orBits (s.get f) (2 ^ b)) := rfl

theorem State.clrBit_eq (s : State) (f : Fld) (b : Nat) : s.clrBit f b = s.put f (clearBits (s.get f) (2 ^ b)) := rfl

@[simp] theorem State.puts_nil (s : State) : s.puts [] = s := rfl

@[simp] theorem State.puts_cons (s : State) (p : Fld × Nat) (l : List (Fld × Nat)) : s.puts (p :: l) = (s.put p.1 p.2).puts l := rfl

/-- A list of fields put changes the register file alone. -/
theorem State.puts_only (s : State) (l : List (Fld × Nat)) : s.puts l = { s with regs := (s.puts l).regs } := by
  induction l generalizing s with
  | nil => rfl
  | cons p l ih => rw [State.puts_cons, ih]; rfl

/-- A field whose key is not among those put keeps its value. -/
theorem State.get_puts_other (s : State) (l : List (Fld × Nat)) (g : Fld) (h : ∀ p ∈ l, g.key ≠ p.1.key) :
    (s.puts l).get g = s.get g := by
  induction l generalizing s with
  | nil => rfl
  | cons p l ih =>
    rw [State.puts_cons, ih _ (fun q hq => h q (List.mem_cons_of_mem _ hq)),
      State.get_put_other _ _ _ _ (h p (List.mem_cons_self ..))]

end Sys2Proof.Machine
end

