-- ==== Sys2Proof/Laws/State.lean ====
section
/-!
SUPPORT. Sys2Proof/Laws/State.lean: what each named update of the state leaves of each field, and what it writes.
-/

namespace Sys2Proof.Machine

@[simp] theorem State.put_pending (s : State) (f : Fld) (v : Nat) : (s.put f v).pending = s.pending := rfl
@[simp] theorem State.put_now (s : State) (f : Fld) (v : Nat) : (s.put f v).now = s.now := rfl
@[simp] theorem State.put_freeIx (s : State) (f : Fld) (v : Nat) : (s.put f v).freeIx = s.freeIx := rfl
@[simp] theorem State.put_out (s : State) (f : Fld) (v : Nat) : (s.put f v).out = s.out := rfl
@[simp] theorem State.put_a0 (s : State) (f : Fld) (v : Nat) : (s.put f v).a0 = s.a0 := rfl
@[simp] theorem State.put_caps (s : State) (f : Fld) (v : Nat) : (s.put f v).caps = s.caps := rfl
@[simp] theorem State.put_mem (s : State) (f : Fld) (v : Nat) : (s.put f v).mem = s.mem := rfl
@[simp] theorem State.put_poison (s : State) (f : Fld) (v : Nat) : (s.put f v).poison = s.poison := rfl
@[simp] theorem State.put_dueWrites (s : State) (f : Fld) (v : Nat) : (s.put f v).dueWrites = s.dueWrites := rfl
@[simp] theorem State.put_flushes (s : State) (f : Fld) (v : Nat) : (s.put f v).flushes = s.flushes := rfl
@[simp] theorem State.put_pwr (s : State) (f : Fld) (v : Nat) : (s.put f v).pwr = s.pwr := rfl
@[simp] theorem State.put_hzn (s : State) (f : Fld) (v : Nat) : (s.put f v).hzn = s.hzn := rfl
@[simp] theorem State.put_clk (s : State) (f : Fld) (v : Nat) : (s.put f v).clk = s.clk := rfl
@[simp] theorem State.put_img (s : State) (f : Fld) (v : Nat) : (s.put f v).img = s.img := rfl
@[simp] theorem State.put_tiles (s : State) (f : Fld) (v : Nat) : (s.put f v).tiles = s.tiles := rfl
@[simp] theorem State.put_fix (s : State) (f : Fld) (v : Nat) : (s.put f v).fix = s.fix := rfl
@[simp] theorem State.put_seqs (s : State) (f : Fld) (v : Nat) : (s.put f v).seqs = s.seqs := rfl
@[simp] theorem State.put_outRuns (s : State) (f : Fld) (v : Nat) : (s.put f v).outRuns = s.outRuns := rfl
@[simp] theorem State.put_patch (s : State) (f : Fld) (v : Nat) : (s.put f v).patch = s.patch := rfl
@[simp] theorem State.put_descs (s : State) (f : Fld) (v : Nat) : (s.put f v).descs = s.descs := rfl
@[simp] theorem State.put_rings (s : State) (f : Fld) (v : Nat) : (s.put f v).rings = s.rings := rfl
@[simp] theorem State.put_saved (s : State) (f : Fld) (v : Nat) : (s.put f v).saved = s.saved := rfl
@[simp] theorem State.put_freeing (s : State) (f : Fld) (v : Nat) : (s.put f v).freeing = s.freeing := rfl
@[simp] theorem State.put_restoring (s : State) (f : Fld) (v : Nat) : (s.put f v).restoring = s.restoring := rfl
@[simp] theorem State.put_charges (s : State) (f : Fld) (v : Nat) : (s.put f v).charges = s.charges := rfl
@[simp] theorem State.put_passFrame (s : State) (f : Fld) (v : Nat) : (s.put f v).passFrame = s.passFrame := rfl
@[simp] theorem State.put_dispatched (s : State) (f : Fld) (v : Nat) : (s.put f v).dispatched = s.dispatched := rfl
@[simp] theorem State.put_fab (s : State) (f : Fld) (v : Nat) : (s.put f v).fab = s.fab := rfl
@[simp] theorem State.put_host (s : State) (f : Fld) (v : Nat) : (s.put f v).host = s.host := rfl
@[simp] theorem State.put_thm (s : State) (f : Fld) (v : Nat) : (s.put f v).thm = s.thm := rfl
@[simp] theorem State.put_isl (s : State) (f : Fld) (v : Nat) : (s.put f v).isl = s.isl := rfl
@[simp] theorem State.put_mtr (s : State) (f : Fld) (v : Nat) : (s.put f v).mtr = s.mtr := rfl
@[simp] theorem State.put_fls (s : State) (f : Fld) (v : Nat) : (s.put f v).fls = s.fls := rfl
@[simp] theorem State.put_flog (s : State) (f : Fld) (v : Nat) : (s.put f v).flog = s.flog := rfl
@[simp] theorem State.put_flogSeq (s : State) (f : Fld) (v : Nat) : (s.put f v).flogSeq = s.flogSeq := rfl
@[simp] theorem State.put_tapIsl (s : State) (f : Fld) (v : Nat) : (s.put f v).tapIsl = s.tapIsl := rfl
@[simp] theorem State.put_tapCtl (s : State) (f : Fld) (v : Nat) : (s.put f v).tapCtl = s.tapCtl := rfl
@[simp] theorem State.put_coreFrac (s : State) (f : Fld) (v : Nat) : (s.put f v).coreFrac = s.coreFrac := rfl

@[simp] theorem State.emit_pending (s : State) (o : Out) : (s.emit o).pending = s.pending := rfl
@[simp] theorem State.emit_now (s : State) (o : Out) : (s.emit o).now = s.now := rfl
@[simp] theorem State.emit_freeIx (s : State) (o : Out) : (s.emit o).freeIx = s.freeIx := rfl
@[simp] theorem State.emit_a0 (s : State) (o : Out) : (s.emit o).a0 = s.a0 := rfl
@[simp] theorem State.emit_regs (s : State) (o : Out) : (s.emit o).regs = s.regs := rfl
@[simp] theorem State.emit_caps (s : State) (o : Out) : (s.emit o).caps = s.caps := rfl
@[simp] theorem State.emit_mem (s : State) (o : Out) : (s.emit o).mem = s.mem := rfl
@[simp] theorem State.emit_poison (s : State) (o : Out) : (s.emit o).poison = s.poison := rfl
@[simp] theorem State.emit_dueWrites (s : State) (o : Out) : (s.emit o).dueWrites = s.dueWrites := rfl
@[simp] theorem State.emit_flushes (s : State) (o : Out) : (s.emit o).flushes = s.flushes := rfl
@[simp] theorem State.emit_pwr (s : State) (o : Out) : (s.emit o).pwr = s.pwr := rfl
@[simp] theorem State.emit_hzn (s : State) (o : Out) : (s.emit o).hzn = s.hzn := rfl
@[simp] theorem State.emit_clk (s : State) (o : Out) : (s.emit o).clk = s.clk := rfl
@[simp] theorem State.emit_img (s : State) (o : Out) : (s.emit o).img = s.img := rfl
@[simp] theorem State.emit_tiles (s : State) (o : Out) : (s.emit o).tiles = s.tiles := rfl
@[simp] theorem State.emit_fix (s : State) (o : Out) : (s.emit o).fix = s.fix := rfl
@[simp] theorem State.emit_seqs (s : State) (o : Out) : (s.emit o).seqs = s.seqs := rfl
@[simp] theorem State.emit_outRuns (s : State) (o : Out) : (s.emit o).outRuns = s.outRuns := rfl
@[simp] theorem State.emit_patch (s : State) (o : Out) : (s.emit o).patch = s.patch := rfl
@[simp] theorem State.emit_descs (s : State) (o : Out) : (s.emit o).descs = s.descs := rfl
@[simp] theorem State.emit_rings (s : State) (o : Out) : (s.emit o).rings = s.rings := rfl
@[simp] theorem State.emit_saved (s : State) (o : Out) : (s.emit o).saved = s.saved := rfl
@[simp] theorem State.emit_freeing (s : State) (o : Out) : (s.emit o).freeing = s.freeing := rfl
@[simp] theorem State.emit_restoring (s : State) (o : Out) : (s.emit o).restoring = s.restoring := rfl
@[simp] theorem State.emit_charges (s : State) (o : Out) : (s.emit o).charges = s.charges := rfl
@[simp] theorem State.emit_passFrame (s : State) (o : Out) : (s.emit o).passFrame = s.passFrame := rfl
@[simp] theorem State.emit_dispatched (s : State) (o : Out) : (s.emit o).dispatched = s.dispatched := rfl
@[simp] theorem State.emit_fab (s : State) (o : Out) : (s.emit o).fab = s.fab := rfl
@[simp] theorem State.emit_host (s : State) (o : Out) : (s.emit o).host = s.host := rfl
@[simp] theorem State.emit_thm (s : State) (o : Out) : (s.emit o).thm = s.thm := rfl
@[simp] theorem State.emit_isl (s : State) (o : Out) : (s.emit o).isl = s.isl := rfl
@[simp] theorem State.emit_mtr (s : State) (o : Out) : (s.emit o).mtr = s.mtr := rfl
@[simp] theorem State.emit_fls (s : State) (o : Out) : (s.emit o).fls = s.fls := rfl
@[simp] theorem State.emit_flog (s : State) (o : Out) : (s.emit o).flog = s.flog := rfl
@[simp] theorem State.emit_flogSeq (s : State) (o : Out) : (s.emit o).flogSeq = s.flogSeq := rfl
@[simp] theorem State.emit_tapIsl (s : State) (o : Out) : (s.emit o).tapIsl = s.tapIsl := rfl
@[simp] theorem State.emit_tapCtl (s : State) (o : Out) : (s.emit o).tapCtl = s.tapCtl := rfl
@[simp] theorem State.emit_coreFrac (s : State) (o : Out) : (s.emit o).coreFrac = s.coreFrac := rfl

@[simp] theorem State.free_snd_pending (s : State) : (s.free.2).pending = s.pending := rfl
@[simp] theorem State.free_snd_now (s : State) : (s.free.2).now = s.now := rfl
@[simp] theorem State.free_snd_out (s : State) : (s.free.2).out = s.out := rfl
@[simp] theorem State.free_snd_a0 (s : State) : (s.free.2).a0 = s.a0 := rfl
@[simp] theorem State.free_snd_regs (s : State) : (s.free.2).regs = s.regs := rfl
@[simp] theorem State.free_snd_caps (s : State) : (s.free.2).caps = s.caps := rfl
@[simp] theorem State.free_snd_mem (s : State) : (s.free.2).mem = s.mem := rfl
@[simp] theorem State.free_snd_poison (s : State) : (s.free.2).poison = s.poison := rfl
@[simp] theorem State.free_snd_dueWrites (s : State) : (s.free.2).dueWrites = s.dueWrites := rfl
@[simp] theorem State.free_snd_flushes (s : State) : (s.free.2).flushes = s.flushes := rfl
@[simp] theorem State.free_snd_pwr (s : State) : (s.free.2).pwr = s.pwr := rfl
@[simp] theorem State.free_snd_hzn (s : State) : (s.free.2).hzn = s.hzn := rfl
@[simp] theorem State.free_snd_clk (s : State) : (s.free.2).clk = s.clk := rfl
@[simp] theorem State.free_snd_img (s : State) : (s.free.2).img = s.img := rfl
@[simp] theorem State.free_snd_tiles (s : State) : (s.free.2).tiles = s.tiles := rfl
@[simp] theorem State.free_snd_fix (s : State) : (s.free.2).fix = s.fix := rfl
@[simp] theorem State.free_snd_seqs (s : State) : (s.free.2).seqs = s.seqs := rfl
@[simp] theorem State.free_snd_outRuns (s : State) : (s.free.2).outRuns = s.outRuns := rfl
@[simp] theorem State.free_snd_patch (s : State) : (s.free.2).patch = s.patch := rfl
@[simp] theorem State.free_snd_descs (s : State) : (s.free.2).descs = s.descs := rfl
@[simp] theorem State.free_snd_rings (s : State) : (s.free.2).rings = s.rings := rfl
@[simp] theorem State.free_snd_saved (s : State) : (s.free.2).saved = s.saved := rfl
@[simp] theorem State.free_snd_freeing (s : State) : (s.free.2).freeing = s.freeing := rfl
@[simp] theorem State.free_snd_restoring (s : State) : (s.free.2).restoring = s.restoring := rfl
@[simp] theorem State.free_snd_charges (s : State) : (s.free.2).charges = s.charges := rfl
@[simp] theorem State.free_snd_passFrame (s : State) : (s.free.2).passFrame = s.passFrame := rfl
@[simp] theorem State.free_snd_dispatched (s : State) : (s.free.2).dispatched = s.dispatched := rfl
@[simp] theorem State.free_snd_fab (s : State) : (s.free.2).fab = s.fab := rfl
@[simp] theorem State.free_snd_host (s : State) : (s.free.2).host = s.host := rfl
@[simp] theorem State.free_snd_thm (s : State) : (s.free.2).thm = s.thm := rfl
@[simp] theorem State.free_snd_isl (s : State) : (s.free.2).isl = s.isl := rfl
@[simp] theorem State.free_snd_mtr (s : State) : (s.free.2).mtr = s.mtr := rfl
@[simp] theorem State.free_snd_fls (s : State) : (s.free.2).fls = s.fls := rfl
@[simp] theorem State.free_snd_flog (s : State) : (s.free.2).flog = s.flog := rfl
@[simp] theorem State.free_snd_flogSeq (s : State) : (s.free.2).flogSeq = s.flogSeq := rfl
@[simp] theorem State.free_snd_tapIsl (s : State) : (s.free.2).tapIsl = s.tapIsl := rfl
@[simp] theorem State.free_snd_tapCtl (s : State) : (s.free.2).tapCtl = s.tapCtl := rfl
@[simp] theorem State.free_snd_coreFrac (s : State) : (s.free.2).coreFrac = s.coreFrac := rfl

@[simp] theorem State.count_pending (s : State) (f : Fld) (n : Nat) : (s.count f n).pending = s.pending := rfl
@[simp] theorem State.count_now (s : State) (f : Fld) (n : Nat) : (s.count f n).now = s.now := rfl
@[simp] theorem State.count_freeIx (s : State) (f : Fld) (n : Nat) : (s.count f n).freeIx = s.freeIx := rfl
@[simp] theorem State.count_out (s : State) (f : Fld) (n : Nat) : (s.count f n).out = s.out := rfl
@[simp] theorem State.count_a0 (s : State) (f : Fld) (n : Nat) : (s.count f n).a0 = s.a0 := rfl
@[simp] theorem State.count_caps (s : State) (f : Fld) (n : Nat) : (s.count f n).caps = s.caps := rfl
@[simp] theorem State.count_mem (s : State) (f : Fld) (n : Nat) : (s.count f n).mem = s.mem := rfl
@[simp] theorem State.count_poison (s : State) (f : Fld) (n : Nat) : (s.count f n).poison = s.poison := rfl
@[simp] theorem State.count_dueWrites (s : State) (f : Fld) (n : Nat) : (s.count f n).dueWrites = s.dueWrites := rfl
@[simp] theorem State.count_flushes (s : State) (f : Fld) (n : Nat) : (s.count f n).flushes = s.flushes := rfl
@[simp] theorem State.count_pwr (s : State) (f : Fld) (n : Nat) : (s.count f n).pwr = s.pwr := rfl
@[simp] theorem State.count_hzn (s : State) (f : Fld) (n : Nat) : (s.count f n).hzn = s.hzn := rfl
@[simp] theorem State.count_clk (s : State) (f : Fld) (n : Nat) : (s.count f n).clk = s.clk := rfl
@[simp] theorem State.count_img (s : State) (f : Fld) (n : Nat) : (s.count f n).img = s.img := rfl
@[simp] theorem State.count_tiles (s : State) (f : Fld) (n : Nat) : (s.count f n).tiles = s.tiles := rfl
@[simp] theorem State.count_fix (s : State) (f : Fld) (n : Nat) : (s.count f n).fix = s.fix := rfl
@[simp] theorem State.count_seqs (s : State) (f : Fld) (n : Nat) : (s.count f n).seqs = s.seqs := rfl
@[simp] theorem State.count_outRuns (s : State) (f : Fld) (n : Nat) : (s.count f n).outRuns = s.outRuns := rfl
@[simp] theorem State.count_patch (s : State) (f : Fld) (n : Nat) : (s.count f n).patch = s.patch := rfl
@[simp] theorem State.count_descs (s : State) (f : Fld) (n : Nat) : (s.count f n).descs = s.descs := rfl
@[simp] theorem State.count_rings (s : State) (f : Fld) (n : Nat) : (s.count f n).rings = s.rings := rfl
@[simp] theorem State.count_saved (s : State) (f : Fld) (n : Nat) : (s.count f n).saved = s.saved := rfl
@[simp] theorem State.count_freeing (s : State) (f : Fld) (n : Nat) : (s.count f n).freeing = s.freeing := rfl
@[simp] theorem State.count_restoring (s : State) (f : Fld) (n : Nat) : (s.count f n).restoring = s.restoring := rfl
@[simp] theorem State.count_charges (s : State) (f : Fld) (n : Nat) : (s.count f n).charges = s.charges := rfl
@[simp] theorem State.count_passFrame (s : State) (f : Fld) (n : Nat) : (s.count f n).passFrame = s.passFrame := rfl
@[simp] theorem State.count_dispatched (s : State) (f : Fld) (n : Nat) : (s.count f n).dispatched = s.dispatched := rfl
@[simp] theorem State.count_fab (s : State) (f : Fld) (n : Nat) : (s.count f n).fab = s.fab := rfl
@[simp] theorem State.count_host (s : State) (f : Fld) (n : Nat) : (s.count f n).host = s.host := rfl
@[simp] theorem State.count_thm (s : State) (f : Fld) (n : Nat) : (s.count f n).thm = s.thm := rfl
@[simp] theorem State.count_isl (s : State) (f : Fld) (n : Nat) : (s.count f n).isl = s.isl := rfl
@[simp] theorem State.count_mtr (s : State) (f : Fld) (n : Nat) : (s.count f n).mtr = s.mtr := rfl
@[simp] theorem State.count_fls (s : State) (f : Fld) (n : Nat) : (s.count f n).fls = s.fls := rfl
@[simp] theorem State.count_flog (s : State) (f : Fld) (n : Nat) : (s.count f n).flog = s.flog := rfl
@[simp] theorem State.count_flogSeq (s : State) (f : Fld) (n : Nat) : (s.count f n).flogSeq = s.flogSeq := rfl
@[simp] theorem State.count_tapIsl (s : State) (f : Fld) (n : Nat) : (s.count f n).tapIsl = s.tapIsl := rfl
@[simp] theorem State.count_tapCtl (s : State) (f : Fld) (n : Nat) : (s.count f n).tapCtl = s.tapCtl := rfl
@[simp] theorem State.count_coreFrac (s : State) (f : Fld) (n : Nat) : (s.count f n).coreFrac = s.coreFrac := rfl

@[simp] theorem State.setBit_pending (s : State) (f : Fld) (b : Nat) : (s.setBit f b).pending = s.pending := rfl
@[simp] theorem State.setBit_now (s : State) (f : Fld) (b : Nat) : (s.setBit f b).now = s.now := rfl
@[simp] theorem State.setBit_freeIx (s : State) (f : Fld) (b : Nat) : (s.setBit f b).freeIx = s.freeIx := rfl
@[simp] theorem State.setBit_out (s : State) (f : Fld) (b : Nat) : (s.setBit f b).out = s.out := rfl
@[simp] theorem State.setBit_a0 (s : State) (f : Fld) (b : Nat) : (s.setBit f b).a0 = s.a0 := rfl
@[simp] theorem State.setBit_caps (s : State) (f : Fld) (b : Nat) : (s.setBit f b).caps = s.caps := rfl
@[simp] theorem State.setBit_mem (s : State) (f : Fld) (b : Nat) : (s.setBit f b).mem = s.mem := rfl
@[simp] theorem State.setBit_poison (s : State) (f : Fld) (b : Nat) : (s.setBit f b).poison = s.poison := rfl
@[simp] theorem State.setBit_dueWrites (s : State) (f : Fld) (b : Nat) : (s.setBit f b).dueWrites = s.dueWrites := rfl
@[simp] theorem State.setBit_flushes (s : State) (f : Fld) (b : Nat) : (s.setBit f b).flushes = s.flushes := rfl
@[simp] theorem State.setBit_pwr (s : State) (f : Fld) (b : Nat) : (s.setBit f b).pwr = s.pwr := rfl
@[simp] theorem State.setBit_hzn (s : State) (f : Fld) (b : Nat) : (s.setBit f b).hzn = s.hzn := rfl
@[simp] theorem State.setBit_clk (s : State) (f : Fld) (b : Nat) : (s.setBit f b).clk = s.clk := rfl
@[simp] theorem State.setBit_img (s : State) (f : Fld) (b : Nat) : (s.setBit f b).img = s.img := rfl
@[simp] theorem State.setBit_tiles (s : State) (f : Fld) (b : Nat) : (s.setBit f b).tiles = s.tiles := rfl
@[simp] theorem State.setBit_fix (s : State) (f : Fld) (b : Nat) : (s.setBit f b).fix = s.fix := rfl
@[simp] theorem State.setBit_seqs (s : State) (f : Fld) (b : Nat) : (s.setBit f b).seqs = s.seqs := rfl
@[simp] theorem State.setBit_outRuns (s : State) (f : Fld) (b : Nat) : (s.setBit f b).outRuns = s.outRuns := rfl
@[simp] theorem State.setBit_patch (s : State) (f : Fld) (b : Nat) : (s.setBit f b).patch = s.patch := rfl
@[simp] theorem State.setBit_descs (s : State) (f : Fld) (b : Nat) : (s.setBit f b).descs = s.descs := rfl
@[simp] theorem State.setBit_rings (s : State) (f : Fld) (b : Nat) : (s.setBit f b).rings = s.rings := rfl
@[simp] theorem State.setBit_saved (s : State) (f : Fld) (b : Nat) : (s.setBit f b).saved = s.saved := rfl
@[simp] theorem State.setBit_freeing (s : State) (f : Fld) (b : Nat) : (s.setBit f b).freeing = s.freeing := rfl
@[simp] theorem State.setBit_restoring (s : State) (f : Fld) (b : Nat) : (s.setBit f b).restoring = s.restoring := rfl
@[simp] theorem State.setBit_charges (s : State) (f : Fld) (b : Nat) : (s.setBit f b).charges = s.charges := rfl
@[simp] theorem State.setBit_passFrame (s : State) (f : Fld) (b : Nat) : (s.setBit f b).passFrame = s.passFrame := rfl
@[simp] theorem State.setBit_dispatched (s : State) (f : Fld) (b : Nat) : (s.setBit f b).dispatched = s.dispatched := rfl
@[simp] theorem State.setBit_fab (s : State) (f : Fld) (b : Nat) : (s.setBit f b).fab = s.fab := rfl
@[simp] theorem State.setBit_host (s : State) (f : Fld) (b : Nat) : (s.setBit f b).host = s.host := rfl
@[simp] theorem State.setBit_thm (s : State) (f : Fld) (b : Nat) : (s.setBit f b).thm = s.thm := rfl
@[simp] theorem State.setBit_isl (s : State) (f : Fld) (b : Nat) : (s.setBit f b).isl = s.isl := rfl
@[simp] theorem State.setBit_mtr (s : State) (f : Fld) (b : Nat) : (s.setBit f b).mtr = s.mtr := rfl
@[simp] theorem State.setBit_fls (s : State) (f : Fld) (b : Nat) : (s.setBit f b).fls = s.fls := rfl
@[simp] theorem State.setBit_flog (s : State) (f : Fld) (b : Nat) : (s.setBit f b).flog = s.flog := rfl
@[simp] theorem State.setBit_flogSeq (s : State) (f : Fld) (b : Nat) : (s.setBit f b).flogSeq = s.flogSeq := rfl
@[simp] theorem State.setBit_tapIsl (s : State) (f : Fld) (b : Nat) : (s.setBit f b).tapIsl = s.tapIsl := rfl
@[simp] theorem State.setBit_tapCtl (s : State) (f : Fld) (b : Nat) : (s.setBit f b).tapCtl = s.tapCtl := rfl
@[simp] theorem State.setBit_coreFrac (s : State) (f : Fld) (b : Nat) : (s.setBit f b).coreFrac = s.coreFrac := rfl

@[simp] theorem State.clrBit_pending (s : State) (f : Fld) (b : Nat) : (s.clrBit f b).pending = s.pending := rfl
@[simp] theorem State.clrBit_now (s : State) (f : Fld) (b : Nat) : (s.clrBit f b).now = s.now := rfl
@[simp] theorem State.clrBit_freeIx (s : State) (f : Fld) (b : Nat) : (s.clrBit f b).freeIx = s.freeIx := rfl
@[simp] theorem State.clrBit_out (s : State) (f : Fld) (b : Nat) : (s.clrBit f b).out = s.out := rfl
@[simp] theorem State.clrBit_a0 (s : State) (f : Fld) (b : Nat) : (s.clrBit f b).a0 = s.a0 := rfl
@[simp] theorem State.clrBit_caps (s : State) (f : Fld) (b : Nat) : (s.clrBit f b).caps = s.caps := rfl
@[simp] theorem State.clrBit_mem (s : State) (f : Fld) (b : Nat) : (s.clrBit f b).mem = s.mem := rfl
@[simp] theorem State.clrBit_poison (s : State) (f : Fld) (b : Nat) : (s.clrBit f b).poison = s.poison := rfl
@[simp] theorem State.clrBit_dueWrites (s : State) (f : Fld) (b : Nat) : (s.clrBit f b).dueWrites = s.dueWrites := rfl
@[simp] theorem State.clrBit_flushes (s : State) (f : Fld) (b : Nat) : (s.clrBit f b).flushes = s.flushes := rfl
@[simp] theorem State.clrBit_pwr (s : State) (f : Fld) (b : Nat) : (s.clrBit f b).pwr = s.pwr := rfl
@[simp] theorem State.clrBit_hzn (s : State) (f : Fld) (b : Nat) : (s.clrBit f b).hzn = s.hzn := rfl
@[simp] theorem State.clrBit_clk (s : State) (f : Fld) (b : Nat) : (s.clrBit f b).clk = s.clk := rfl
@[simp] theorem State.clrBit_img (s : State) (f : Fld) (b : Nat) : (s.clrBit f b).img = s.img := rfl
@[simp] theorem State.clrBit_tiles (s : State) (f : Fld) (b : Nat) : (s.clrBit f b).tiles = s.tiles := rfl
@[simp] theorem State.clrBit_fix (s : State) (f : Fld) (b : Nat) : (s.clrBit f b).fix = s.fix := rfl
@[simp] theorem State.clrBit_seqs (s : State) (f : Fld) (b : Nat) : (s.clrBit f b).seqs = s.seqs := rfl
@[simp] theorem State.clrBit_outRuns (s : State) (f : Fld) (b : Nat) : (s.clrBit f b).outRuns = s.outRuns := rfl
@[simp] theorem State.clrBit_patch (s : State) (f : Fld) (b : Nat) : (s.clrBit f b).patch = s.patch := rfl
@[simp] theorem State.clrBit_descs (s : State) (f : Fld) (b : Nat) : (s.clrBit f b).descs = s.descs := rfl
@[simp] theorem State.clrBit_rings (s : State) (f : Fld) (b : Nat) : (s.clrBit f b).rings = s.rings := rfl
@[simp] theorem State.clrBit_saved (s : State) (f : Fld) (b : Nat) : (s.clrBit f b).saved = s.saved := rfl
@[simp] theorem State.clrBit_freeing (s : State) (f : Fld) (b : Nat) : (s.clrBit f b).freeing = s.freeing := rfl
@[simp] theorem State.clrBit_restoring (s : State) (f : Fld) (b : Nat) : (s.clrBit f b).restoring = s.restoring := rfl
@[simp] theorem State.clrBit_charges (s : State) (f : Fld) (b : Nat) : (s.clrBit f b).charges = s.charges := rfl
@[simp] theorem State.clrBit_passFrame (s : State) (f : Fld) (b : Nat) : (s.clrBit f b).passFrame = s.passFrame := rfl
@[simp] theorem State.clrBit_dispatched (s : State) (f : Fld) (b : Nat) : (s.clrBit f b).dispatched = s.dispatched := rfl
@[simp] theorem State.clrBit_fab (s : State) (f : Fld) (b : Nat) : (s.clrBit f b).fab = s.fab := rfl
@[simp] theorem State.clrBit_host (s : State) (f : Fld) (b : Nat) : (s.clrBit f b).host = s.host := rfl
@[simp] theorem State.clrBit_thm (s : State) (f : Fld) (b : Nat) : (s.clrBit f b).thm = s.thm := rfl
@[simp] theorem State.clrBit_isl (s : State) (f : Fld) (b : Nat) : (s.clrBit f b).isl = s.isl := rfl
@[simp] theorem State.clrBit_mtr (s : State) (f : Fld) (b : Nat) : (s.clrBit f b).mtr = s.mtr := rfl
@[simp] theorem State.clrBit_fls (s : State) (f : Fld) (b : Nat) : (s.clrBit f b).fls = s.fls := rfl
@[simp] theorem State.clrBit_flog (s : State) (f : Fld) (b : Nat) : (s.clrBit f b).flog = s.flog := rfl
@[simp] theorem State.clrBit_flogSeq (s : State) (f : Fld) (b : Nat) : (s.clrBit f b).flogSeq = s.flogSeq := rfl
@[simp] theorem State.clrBit_tapIsl (s : State) (f : Fld) (b : Nat) : (s.clrBit f b).tapIsl = s.tapIsl := rfl
@[simp] theorem State.clrBit_tapCtl (s : State) (f : Fld) (b : Nat) : (s.clrBit f b).tapCtl = s.tapCtl := rfl
@[simp] theorem State.clrBit_coreFrac (s : State) (f : Fld) (b : Nat) : (s.clrBit f b).coreFrac = s.coreFrac := rfl

@[simp] theorem State.capture_pending (s : State) (accessor off v : Nat) : (s.capture accessor off v).pending = s.pending := rfl
@[simp] theorem State.capture_now (s : State) (accessor off v : Nat) : (s.capture accessor off v).now = s.now := rfl
@[simp] theorem State.capture_freeIx (s : State) (accessor off v : Nat) : (s.capture accessor off v).freeIx = s.freeIx := rfl
@[simp] theorem State.capture_out (s : State) (accessor off v : Nat) : (s.capture accessor off v).out = s.out := rfl
@[simp] theorem State.capture_a0 (s : State) (accessor off v : Nat) : (s.capture accessor off v).a0 = s.a0 := rfl
@[simp] theorem State.capture_regs (s : State) (accessor off v : Nat) : (s.capture accessor off v).regs = s.regs := rfl
@[simp] theorem State.capture_mem (s : State) (accessor off v : Nat) : (s.capture accessor off v).mem = s.mem := rfl
@[simp] theorem State.capture_poison (s : State) (accessor off v : Nat) : (s.capture accessor off v).poison = s.poison := rfl
@[simp] theorem State.capture_dueWrites (s : State) (accessor off v : Nat) : (s.capture accessor off v).dueWrites = s.dueWrites := rfl
@[simp] theorem State.capture_flushes (s : State) (accessor off v : Nat) : (s.capture accessor off v).flushes = s.flushes := rfl
@[simp] theorem State.capture_pwr (s : State) (accessor off v : Nat) : (s.capture accessor off v).pwr = s.pwr := rfl
@[simp] theorem State.capture_hzn (s : State) (accessor off v : Nat) : (s.capture accessor off v).hzn = s.hzn := rfl
@[simp] theorem State.capture_clk (s : State) (accessor off v : Nat) : (s.capture accessor off v).clk = s.clk := rfl
@[simp] theorem State.capture_img (s : State) (accessor off v : Nat) : (s.capture accessor off v).img = s.img := rfl
@[simp] theorem State.capture_tiles (s : State) (accessor off v : Nat) : (s.capture accessor off v).tiles = s.tiles := rfl
@[simp] theorem State.capture_fix (s : State) (accessor off v : Nat) : (s.capture accessor off v).fix = s.fix := rfl
@[simp] theorem State.capture_seqs (s : State) (accessor off v : Nat) : (s.capture accessor off v).seqs = s.seqs := rfl
@[simp] theorem State.capture_outRuns (s : State) (accessor off v : Nat) : (s.capture accessor off v).outRuns = s.outRuns := rfl
@[simp] theorem State.capture_patch (s : State) (accessor off v : Nat) : (s.capture accessor off v).patch = s.patch := rfl
@[simp] theorem State.capture_descs (s : State) (accessor off v : Nat) : (s.capture accessor off v).descs = s.descs := rfl
@[simp] theorem State.capture_rings (s : State) (accessor off v : Nat) : (s.capture accessor off v).rings = s.rings := rfl
@[simp] theorem State.capture_saved (s : State) (accessor off v : Nat) : (s.capture accessor off v).saved = s.saved := rfl
@[simp] theorem State.capture_freeing (s : State) (accessor off v : Nat) : (s.capture accessor off v).freeing = s.freeing := rfl
@[simp] theorem State.capture_restoring (s : State) (accessor off v : Nat) : (s.capture accessor off v).restoring = s.restoring := rfl
@[simp] theorem State.capture_charges (s : State) (accessor off v : Nat) : (s.capture accessor off v).charges = s.charges := rfl
@[simp] theorem State.capture_passFrame (s : State) (accessor off v : Nat) : (s.capture accessor off v).passFrame = s.passFrame := rfl
@[simp] theorem State.capture_dispatched (s : State) (accessor off v : Nat) : (s.capture accessor off v).dispatched = s.dispatched := rfl
@[simp] theorem State.capture_fab (s : State) (accessor off v : Nat) : (s.capture accessor off v).fab = s.fab := rfl
@[simp] theorem State.capture_host (s : State) (accessor off v : Nat) : (s.capture accessor off v).host = s.host := rfl
@[simp] theorem State.capture_thm (s : State) (accessor off v : Nat) : (s.capture accessor off v).thm = s.thm := rfl
@[simp] theorem State.capture_isl (s : State) (accessor off v : Nat) : (s.capture accessor off v).isl = s.isl := rfl
@[simp] theorem State.capture_mtr (s : State) (accessor off v : Nat) : (s.capture accessor off v).mtr = s.mtr := rfl
@[simp] theorem State.capture_fls (s : State) (accessor off v : Nat) : (s.capture accessor off v).fls = s.fls := rfl
@[simp] theorem State.capture_flog (s : State) (accessor off v : Nat) : (s.capture accessor off v).flog = s.flog := rfl
@[simp] theorem State.capture_flogSeq (s : State) (accessor off v : Nat) : (s.capture accessor off v).flogSeq = s.flogSeq := rfl
@[simp] theorem State.capture_tapIsl (s : State) (accessor off v : Nat) : (s.capture accessor off v).tapIsl = s.tapIsl := rfl
@[simp] theorem State.capture_tapCtl (s : State) (accessor off v : Nat) : (s.capture accessor off v).tapCtl = s.tapCtl := rfl
@[simp] theorem State.capture_coreFrac (s : State) (accessor off v : Nat) : (s.capture accessor off v).coreFrac = s.coreFrac := rfl

@[simp] theorem State.writeMem_pending (s : State) (a : Nat) (bs : List Byte) : (s.writeMem a bs).pending = s.pending := rfl
@[simp] theorem State.writeMem_now (s : State) (a : Nat) (bs : List Byte) : (s.writeMem a bs).now = s.now := rfl
@[simp] theorem State.writeMem_freeIx (s : State) (a : Nat) (bs : List Byte) : (s.writeMem a bs).freeIx = s.freeIx := rfl
@[simp] theorem State.writeMem_out (s : State) (a : Nat) (bs : List Byte) : (s.writeMem a bs).out = s.out := rfl
@[simp] theorem State.writeMem_a0 (s : State) (a : Nat) (bs : List Byte) : (s.writeMem a bs).a0 = s.a0 := rfl
@[simp] theorem State.writeMem_regs (s : State) (a : Nat) (bs : List Byte) : (s.writeMem a bs).regs = s.regs := rfl
@[simp] theorem State.writeMem_caps (s : State) (a : Nat) (bs : List Byte) : (s.writeMem a bs).caps = s.caps := rfl
@[simp] theorem State.writeMem_pwr (s : State) (a : Nat) (bs : List Byte) : (s.writeMem a bs).pwr = s.pwr := rfl
@[simp] theorem State.writeMem_hzn (s : State) (a : Nat) (bs : List Byte) : (s.writeMem a bs).hzn = s.hzn := rfl
@[simp] theorem State.writeMem_clk (s : State) (a : Nat) (bs : List Byte) : (s.writeMem a bs).clk = s.clk := rfl
@[simp] theorem State.writeMem_img (s : State) (a : Nat) (bs : List Byte) : (s.writeMem a bs).img = s.img := rfl
@[simp] theorem State.writeMem_tiles (s : State) (a : Nat) (bs : List Byte) : (s.writeMem a bs).tiles = s.tiles := rfl
@[simp] theorem State.writeMem_fix (s : State) (a : Nat) (bs : List Byte) : (s.writeMem a bs).fix = s.fix := rfl
@[simp] theorem State.writeMem_seqs (s : State) (a : Nat) (bs : List Byte) : (s.writeMem a bs).seqs = s.seqs := rfl
@[simp] theorem State.writeMem_outRuns (s : State) (a : Nat) (bs : List Byte) : (s.writeMem a bs).outRuns = s.outRuns := rfl
@[simp] theorem State.writeMem_patch (s : State) (a : Nat) (bs : List Byte) : (s.writeMem a bs).patch = s.patch := rfl
@[simp] theorem State.writeMem_descs (s : State) (a : Nat) (bs : List Byte) : (s.writeMem a bs).descs = s.descs := rfl
@[simp] theorem State.writeMem_rings (s : State) (a : Nat) (bs : List Byte) : (s.writeMem a bs).rings = s.rings := rfl
@[simp] theorem State.writeMem_saved (s : State) (a : Nat) (bs : List Byte) : (s.writeMem a bs).saved = s.saved := rfl
@[simp] theorem State.writeMem_freeing (s : State) (a : Nat) (bs : List Byte) : (s.writeMem a bs).freeing = s.freeing := rfl
@[simp] theorem State.writeMem_restoring (s : State) (a : Nat) (bs : List Byte) : (s.writeMem a bs).restoring = s.restoring := rfl
@[simp] theorem State.writeMem_charges (s : State) (a : Nat) (bs : List Byte) : (s.writeMem a bs).charges = s.charges := rfl
@[simp] theorem State.writeMem_passFrame (s : State) (a : Nat) (bs : List Byte) : (s.writeMem a bs).passFrame = s.passFrame := rfl
@[simp] theorem State.writeMem_dispatched (s : State) (a : Nat) (bs : List Byte) : (s.writeMem a bs).dispatched = s.dispatched := rfl
@[simp] theorem State.writeMem_fab (s : State) (a : Nat) (bs : List Byte) : (s.writeMem a bs).fab = s.fab := rfl
@[simp] theorem State.writeMem_host (s : State) (a : Nat) (bs : List Byte) : (s.writeMem a bs).host = s.host := rfl
@[simp] theorem State.writeMem_thm (s : State) (a : Nat) (bs : List Byte) : (s.writeMem a bs).thm = s.thm := rfl
@[simp] theorem State.writeMem_isl (s : State) (a : Nat) (bs : List Byte) : (s.writeMem a bs).isl = s.isl := rfl
@[simp] theorem State.writeMem_mtr (s : State) (a : Nat) (bs : List Byte) : (s.writeMem a bs).mtr = s.mtr := rfl
@[simp] theorem State.writeMem_fls (s : State) (a : Nat) (bs : List Byte) : (s.writeMem a bs).fls = s.fls := rfl
@[simp] theorem State.writeMem_flog (s : State) (a : Nat) (bs : List Byte) : (s.writeMem a bs).flog = s.flog := rfl
@[simp] theorem State.writeMem_flogSeq (s : State) (a : Nat) (bs : List Byte) : (s.writeMem a bs).flogSeq = s.flogSeq := rfl
@[simp] theorem State.writeMem_tapIsl (s : State) (a : Nat) (bs : List Byte) : (s.writeMem a bs).tapIsl = s.tapIsl := rfl
@[simp] theorem State.writeMem_tapCtl (s : State) (a : Nat) (bs : List Byte) : (s.writeMem a bs).tapCtl = s.tapCtl := rfl
@[simp] theorem State.writeMem_coreFrac (s : State) (a : Nat) (bs : List Byte) : (s.writeMem a bs).coreFrac = s.coreFrac := rfl

@[simp] theorem State.clearWindows_pending (s : State) : (s.clearWindows).pending = s.pending := rfl
@[simp] theorem State.clearWindows_now (s : State) : (s.clearWindows).now = s.now := rfl
@[simp] theorem State.clearWindows_freeIx (s : State) : (s.clearWindows).freeIx = s.freeIx := rfl
@[simp] theorem State.clearWindows_out (s : State) : (s.clearWindows).out = s.out := rfl
@[simp] theorem State.clearWindows_a0 (s : State) : (s.clearWindows).a0 = s.a0 := rfl
@[simp] theorem State.clearWindows_regs (s : State) : (s.clearWindows).regs = s.regs := rfl
@[simp] theorem State.clearWindows_caps (s : State) : (s.clearWindows).caps = s.caps := rfl
@[simp] theorem State.clearWindows_pwr (s : State) : (s.clearWindows).pwr = s.pwr := rfl
@[simp] theorem State.clearWindows_hzn (s : State) : (s.clearWindows).hzn = s.hzn := rfl
@[simp] theorem State.clearWindows_clk (s : State) : (s.clearWindows).clk = s.clk := rfl
@[simp] theorem State.clearWindows_img (s : State) : (s.clearWindows).img = s.img := rfl
@[simp] theorem State.clearWindows_tiles (s : State) : (s.clearWindows).tiles = s.tiles := rfl
@[simp] theorem State.clearWindows_fix (s : State) : (s.clearWindows).fix = s.fix := rfl
@[simp] theorem State.clearWindows_seqs (s : State) : (s.clearWindows).seqs = s.seqs := rfl
@[simp] theorem State.clearWindows_outRuns (s : State) : (s.clearWindows).outRuns = s.outRuns := rfl
@[simp] theorem State.clearWindows_patch (s : State) : (s.clearWindows).patch = s.patch := rfl
@[simp] theorem State.clearWindows_descs (s : State) : (s.clearWindows).descs = s.descs := rfl
@[simp] theorem State.clearWindows_rings (s : State) : (s.clearWindows).rings = s.rings := rfl
@[simp] theorem State.clearWindows_saved (s : State) : (s.clearWindows).saved = s.saved := rfl
@[simp] theorem State.clearWindows_freeing (s : State) : (s.clearWindows).freeing = s.freeing := rfl
@[simp] theorem State.clearWindows_restoring (s : State) : (s.clearWindows).restoring = s.restoring := rfl
@[simp] theorem State.clearWindows_charges (s : State) : (s.clearWindows).charges = s.charges := rfl
@[simp] theorem State.clearWindows_passFrame (s : State) : (s.clearWindows).passFrame = s.passFrame := rfl
@[simp] theorem State.clearWindows_dispatched (s : State) : (s.clearWindows).dispatched = s.dispatched := rfl
@[simp] theorem State.clearWindows_fab (s : State) : (s.clearWindows).fab = s.fab := rfl
@[simp] theorem State.clearWindows_host (s : State) : (s.clearWindows).host = s.host := rfl
@[simp] theorem State.clearWindows_thm (s : State) : (s.clearWindows).thm = s.thm := rfl
@[simp] theorem State.clearWindows_isl (s : State) : (s.clearWindows).isl = s.isl := rfl
@[simp] theorem State.clearWindows_mtr (s : State) : (s.clearWindows).mtr = s.mtr := rfl
@[simp] theorem State.clearWindows_fls (s : State) : (s.clearWindows).fls = s.fls := rfl
@[simp] theorem State.clearWindows_flog (s : State) : (s.clearWindows).flog = s.flog := rfl
@[simp] theorem State.clearWindows_flogSeq (s : State) : (s.clearWindows).flogSeq = s.flogSeq := rfl
@[simp] theorem State.clearWindows_tapIsl (s : State) : (s.clearWindows).tapIsl = s.tapIsl := rfl
@[simp] theorem State.clearWindows_tapCtl (s : State) : (s.clearWindows).tapCtl = s.tapCtl := rfl
@[simp] theorem State.clearWindows_coreFrac (s : State) : (s.clearWindows).coreFrac = s.coreFrac := rfl

@[simp] theorem State.setHalf_pending (s : State) (h : Fin 2) (x : HalfSt) : (s.setHalf h x).pending = s.pending := rfl
@[simp] theorem State.setHalf_now (s : State) (h : Fin 2) (x : HalfSt) : (s.setHalf h x).now = s.now := rfl
@[simp] theorem State.setHalf_freeIx (s : State) (h : Fin 2) (x : HalfSt) : (s.setHalf h x).freeIx = s.freeIx := rfl
@[simp] theorem State.setHalf_out (s : State) (h : Fin 2) (x : HalfSt) : (s.setHalf h x).out = s.out := rfl
@[simp] theorem State.setHalf_a0 (s : State) (h : Fin 2) (x : HalfSt) : (s.setHalf h x).a0 = s.a0 := rfl
@[simp] theorem State.setHalf_regs (s : State) (h : Fin 2) (x : HalfSt) : (s.setHalf h x).regs = s.regs := rfl
@[simp] theorem State.setHalf_caps (s : State) (h : Fin 2) (x : HalfSt) : (s.setHalf h x).caps = s.caps := rfl
@[simp] theorem State.setHalf_mem (s : State) (h : Fin 2) (x : HalfSt) : (s.setHalf h x).mem = s.mem := rfl
@[simp] theorem State.setHalf_poison (s : State) (h : Fin 2) (x : HalfSt) : (s.setHalf h x).poison = s.poison := rfl
@[simp] theorem State.setHalf_dueWrites (s : State) (h : Fin 2) (x : HalfSt) : (s.setHalf h x).dueWrites = s.dueWrites := rfl
@[simp] theorem State.setHalf_flushes (s : State) (h : Fin 2) (x : HalfSt) : (s.setHalf h x).flushes = s.flushes := rfl
@[simp] theorem State.setHalf_pwr (s : State) (h : Fin 2) (x : HalfSt) : (s.setHalf h x).pwr = s.pwr := rfl
@[simp] theorem State.setHalf_hzn (s : State) (h : Fin 2) (x : HalfSt) : (s.setHalf h x).hzn = s.hzn := rfl
@[simp] theorem State.setHalf_clk (s : State) (h : Fin 2) (x : HalfSt) : (s.setHalf h x).clk = s.clk := rfl
@[simp] theorem State.setHalf_img (s : State) (h : Fin 2) (x : HalfSt) : (s.setHalf h x).img = s.img := rfl
@[simp] theorem State.setHalf_tiles (s : State) (h : Fin 2) (x : HalfSt) : (s.setHalf h x).tiles = s.tiles := rfl
@[simp] theorem State.setHalf_fix (s : State) (h : Fin 2) (x : HalfSt) : (s.setHalf h x).fix = s.fix := rfl
@[simp] theorem State.setHalf_seqs (s : State) (h : Fin 2) (x : HalfSt) : (s.setHalf h x).seqs = s.seqs := rfl
@[simp] theorem State.setHalf_outRuns (s : State) (h : Fin 2) (x : HalfSt) : (s.setHalf h x).outRuns = s.outRuns := rfl
@[simp] theorem State.setHalf_patch (s : State) (h : Fin 2) (x : HalfSt) : (s.setHalf h x).patch = s.patch := rfl
@[simp] theorem State.setHalf_descs (s : State) (h : Fin 2) (x : HalfSt) : (s.setHalf h x).descs = s.descs := rfl
@[simp] theorem State.setHalf_rings (s : State) (h : Fin 2) (x : HalfSt) : (s.setHalf h x).rings = s.rings := rfl
@[simp] theorem State.setHalf_saved (s : State) (h : Fin 2) (x : HalfSt) : (s.setHalf h x).saved = s.saved := rfl
@[simp] theorem State.setHalf_freeing (s : State) (h : Fin 2) (x : HalfSt) : (s.setHalf h x).freeing = s.freeing := rfl
@[simp] theorem State.setHalf_restoring (s : State) (h : Fin 2) (x : HalfSt) : (s.setHalf h x).restoring = s.restoring := rfl
@[simp] theorem State.setHalf_charges (s : State) (h : Fin 2) (x : HalfSt) : (s.setHalf h x).charges = s.charges := rfl
@[simp] theorem State.setHalf_passFrame (s : State) (h : Fin 2) (x : HalfSt) : (s.setHalf h x).passFrame = s.passFrame := rfl
@[simp] theorem State.setHalf_dispatched (s : State) (h : Fin 2) (x : HalfSt) : (s.setHalf h x).dispatched = s.dispatched := rfl
@[simp] theorem State.setHalf_fab (s : State) (h : Fin 2) (x : HalfSt) : (s.setHalf h x).fab = s.fab := rfl
@[simp] theorem State.setHalf_thm (s : State) (h : Fin 2) (x : HalfSt) : (s.setHalf h x).thm = s.thm := rfl
@[simp] theorem State.setHalf_isl (s : State) (h : Fin 2) (x : HalfSt) : (s.setHalf h x).isl = s.isl := rfl
@[simp] theorem State.setHalf_mtr (s : State) (h : Fin 2) (x : HalfSt) : (s.setHalf h x).mtr = s.mtr := rfl
@[simp] theorem State.setHalf_fls (s : State) (h : Fin 2) (x : HalfSt) : (s.setHalf h x).fls = s.fls := rfl
@[simp] theorem State.setHalf_flog (s : State) (h : Fin 2) (x : HalfSt) : (s.setHalf h x).flog = s.flog := rfl
@[simp] theorem State.setHalf_flogSeq (s : State) (h : Fin 2) (x : HalfSt) : (s.setHalf h x).flogSeq = s.flogSeq := rfl
@[simp] theorem State.setHalf_tapIsl (s : State) (h : Fin 2) (x : HalfSt) : (s.setHalf h x).tapIsl = s.tapIsl := rfl
@[simp] theorem State.setHalf_tapCtl (s : State) (h : Fin 2) (x : HalfSt) : (s.setHalf h x).tapCtl = s.tapCtl := rfl
@[simp] theorem State.setHalf_coreFrac (s : State) (h : Fin 2) (x : HalfSt) : (s.setHalf h x).coreFrac = s.coreFrac := rfl

@[simp] theorem State.put_regs (s : State) (f : Fld) (v : Nat) : (s.put f v).regs = s.regs.put f v := rfl
@[simp] theorem State.emit_out (s : State) (o : Out) : (s.emit o).out = o :: s.out := rfl
@[simp] theorem State.emit_get (s : State) (o : Out) (f : Fld) : (s.emit o).get f = s.get f := rfl
@[simp] theorem State.free_get (s : State) (f : Fld) : s.free.2.get f = s.get f := rfl
@[simp] theorem State.free_freeIx (s : State) : s.free.2.freeIx = s.freeIx + 1 := rfl
@[simp] theorem State.capture_get (s : State) (accessor off v : Nat) (f : Fld) : (s.capture accessor off v).get f = s.get f := rfl
@[simp] theorem State.writeMem_get (s : State) (a : Nat) (bs : List Byte) (f : Fld) : (s.writeMem a bs).get f = s.get f := rfl
@[simp] theorem State.setHalf_get (s : State) (h : Fin 2) (x : HalfSt) (f : Fld) : (s.setHalf h x).get f = s.get f := rfl

end Sys2Proof.Machine
end

