-- ==== Sys2Proof/Laws/Ops.lean ====
section
/-!
SUPPORT. Sys2Proof/Laws/Ops.lean: once for each shared operation, all it can change: register fields put, events counted, vectors sent,
flags raised, entries logged.
-/

namespace Sys2Proof.Machine

theorem OnlyRegs.rfl' (s : State) : OnlyRegs s s := rfl

theorem OnlyRegs.trans {s t u : State} (h1 : OnlyRegs s t) (h2 : OnlyRegs t u) : OnlyRegs s u := by
  unfold OnlyRegs at *; rw [h2, h1]

theorem OnlySignals.rfl' (s : State) : OnlySignals s s := rfl

theorem OnlySignals.trans {s t u : State} (h1 : OnlySignals s t) (h2 : OnlySignals t u) : OnlySignals s u := by
  unfold OnlySignals at *; rw [h2, h1]

theorem OnlyRegs.signals {s t : State} (h : OnlyRegs s t) : OnlySignals s t := by
  unfold OnlyRegs at h; unfold OnlySignals; rw [h]

theorem State.put_only (s : State) (f : Fld) (v : Nat) : OnlyRegs s (s.put f v) := rfl

theorem State.count_only (s : State) (f : Fld) (n : Nat) : OnlyRegs s (s.count f n) := rfl

theorem State.setBit_only (s : State) (f : Fld) (b : Nat) : OnlyRegs s (s.setBit f b) := rfl

theorem State.sendRaw_only (s : State) (v : Nat) : OnlySignals s (s.sendRaw v).1 := by
  unfold State.sendRaw
  dsimp only
  split <;> rfl

theorem State.pmuBump_only (s : State) (n inc : Nat) : OnlyRegs s (s.pmuBump n inc).1 := by
  unfold State.pmuBump
  dsimp only
  split <;> rfl

theorem State.pmuAdd_only (s : State) (code : Nat) (ctx : Option Nat) (inc : Nat) : OnlyRegs s (s.pmuAdd code ctx inc).1 := by
  unfold State.pmuAdd
  split
  · rfl
  · generalize List.range 32 = l
    have : ∀ (p : State × Bool), OnlyRegs p.1 (l.foldl
        (fun p n => if p.1.pmuTakes n code ctx then let q := p.1.pmuBump n inc; (q.1, p.2 || q.2) else p) p).1 := by
      induction l with
      | nil => intro p; rfl
      | cons n l ih =>
        intro p
        rw [List.foldl_cons]
        refine OnlyRegs.trans ?_ (ih _)
        split
        · exact State.pmuBump_only p.1 n inc
        · rfl
    exact this (s, false)

theorem State.pmuOverflow_only (s : State) : OnlySignals s s.pmuOverflow := by
  unfold State.pmuOverflow
  split
  · rfl
  · dsimp only
    split
    · split
      · exact (State.setBit_only s R.PMU_EVT 0).signals.trans
          ((State.sendRaw_only _ _).trans (State.pmuAdd_only _ _ _ _).signals)
      · exact (State.setBit_only s R.PMU_EVT 0).signals.trans (State.sendRaw_only _ _)
    · exact (State.setBit_only s R.PMU_EVT 0).signals

/-- An event counted changes register fields, and what an overflow's vector changes. -/
theorem State.pmu_only (s : State) (code : Nat) (ctx : Option Nat) (inc : Nat) : OnlySignals s (s.pmu code ctx inc) := by
  unfold State.pmu
  dsimp only
  split
  · exact (State.pmuAdd_only _ _ _ _).signals.trans (State.pmuOverflow_only _)
  · exact (State.pmuAdd_only _ _ _ _).signals

theorem State.send_only (s : State) (v : Nat) : OnlySignals s (s.send v) := by
  unfold State.send
  dsimp only
  split
  · exact (State.sendRaw_only s v).trans (State.pmu_only _ _ _ _)
  · exact State.sendRaw_only s v

/-- An event bit raised changes register fields, and what its vector changes. -/
theorem State.raise_only (s : State) (evt en : Fld) (vec b : Nat) : OnlySignals s (s.raise evt en vec b) := by
  unfold State.raise
  split
  · rfl
  · dsimp only
    split
    · exact (State.setBit_only s evt b).signals.trans (State.send_only _ _)
    · exact (State.setBit_only s evt b).signals

theorem State.raiseHost_only (s : State) (b : Nat) : OnlySignals s (s.raiseHost b) := State.raise_only _ _ _ _ _

theorem State.raiseHzn_only (s : State) (b : Nat) : OnlySignals s (s.raiseHzn b) := State.raise_only _ _ _ _ _

theorem State.raiseIsl_only (s : State) (b : Nat) : OnlySignals s (s.raiseIsl b) := State.raise_only _ _ _ _ _

theorem State.alert_only (s : State) (b : Nat) : OnlySignals s (s.alert b) := by
  unfold State.alert
  split <;> rfl

/-- An operation that changes signals alone leaves device memory as it was. -/
theorem OnlySignals.mem {s t : State} (h : OnlySignals s t) : t.mem = s.mem := by
  unfold OnlySignals at h; rw [h]

theorem OnlySignals.pending {s t : State} (h : OnlySignals s t) : t.pending = s.pending := by
  unfold OnlySignals at h; rw [h]

/-! ### Register fields under an event that is counted -/

theorem FieldsButPmu.rfl' (l : List Fld) (s : State) : FieldsButPmu l s s := fun _ _ _ => rfl

theorem FieldsButPmu.trans {l : List Fld} {s t u : State} (h1 : FieldsButPmu l s t) (h2 : FieldsButPmu l t u) :
    FieldsButPmu l s u := fun g hp hl => (h2 g hp hl).trans (h1 g hp hl)

theorem State.put_fields (s : State) (f : Fld) (v : Nat) (l : List Fld) (hf : f ∈ l) : FieldsButPmu l s (s.put f v) :=
  fun g _ hl => State.get_put_other s f g v (hl f hf)

theorem State.put_pmu_fields (s : State) (f : Fld) (v : Nat) (l : List Fld) (hf : inPmu f) : FieldsButPmu l s (s.put f v) :=
  fun g hp _ => State.get_put_other s f g v (fun h => hp (by unfold inPmu at *; omega))

theorem State.sendRaw_fields (s : State) (v : Nat) (l : List Fld) : FieldsButPmu l s (s.sendRaw v).1 := by
  intro g _ _
  unfold State.sendRaw
  dsimp only
  split <;> rfl

theorem inPmu_cnt_lo (n : Nat) (h : n < 32) : inPmu (R.PMU_CNT_LO n) := by
  unfold inPmu Fld.key R.PMU_CNT_LO; dsimp only; omega

theorem inPmu_cnt_hi (n : Nat) (h : n < 32) : inPmu (R.PMU_CNT_HI n) := by
  unfold inPmu Fld.key R.PMU_CNT_HI; dsimp only; omega

theorem State.pmuBump_fields (s : State) (n inc : Nat) (l : List Fld) (h : n < 32) : FieldsButPmu l s (s.pmuBump n inc).1 := by
  have h1 : ∀ v, FieldsButPmu l s (s.setPmuCount n v) := fun v =>
    (State.put_pmu_fields _ _ _ l (inPmu_cnt_lo n h)).trans (State.put_pmu_fields _ _ _ l (inPmu_cnt_hi n h))
  unfold State.pmuBump
  dsimp only
  split
  · exact h1 _
  · exact (h1 _).trans (State.put_pmu_fields _ _ _ l (by decide))

theorem State.pmuAdd_fields (s : State) (code : Nat) (ctx : Option Nat) (inc : Nat) (l : List Fld) :
    FieldsButPmu l s (s.pmuAdd code ctx inc).1 := by
  unfold State.pmuAdd
  split
  · exact FieldsButPmu.rfl' l s
  · have : ∀ (ns : List Nat), (∀ n ∈ ns, n < 32) → ∀ (p : State × Bool), FieldsButPmu l p.1 (ns.foldl
        (fun p n => if p.1.pmuTakes n code ctx then let q := p.1.pmuBump n inc; (q.1, p.2 || q.2) else p) p).1 := by
      intro ns
      induction ns with
      | nil => intro _ p; exact FieldsButPmu.rfl' l _
      | cons n ns ih =>
        intro hn p
        rw [List.foldl_cons]
        refine FieldsButPmu.trans ?_ (ih (fun m hm => hn m (List.mem_cons_of_mem _ hm)) _)
        split
        · exact State.pmuBump_fields p.1 n inc l (hn n (List.mem_cons_self ..))
        · exact FieldsButPmu.rfl' l _
    exact this (List.range 32) (fun n hn => List.mem_range.1 hn) (s, false)

theorem State.pmuOverflow_fields (s : State) (l : List Fld) : FieldsButPmu l s s.pmuOverflow := by
  unfold State.pmuOverflow
  split
  · exact FieldsButPmu.rfl' l s
  · have h0 : FieldsButPmu l s (s.setBit R.PMU_EVT 0) := State.put_pmu_fields _ _ _ l (by decide)
    dsimp only
    split
    · split
      · exact h0.trans ((State.sendRaw_fields _ _ l).trans (State.pmuAdd_fields _ _ _ _ l))
      · exact h0.trans (State.sendRaw_fields _ _ l)
    · exact h0

/-- An event counted leaves every field outside the PMU block as it was. -/
theorem State.pmu_fields (s : State) (code : Nat) (ctx : Option Nat) (inc : Nat) (l : List Fld) :
    FieldsButPmu l s (s.pmu code ctx inc) := by
  unfold State.pmu
  dsimp only
  split
  · exact (State.pmuAdd_fields _ _ _ _ l).trans (State.pmuOverflow_fields _ l)
  · exact State.pmuAdd_fields _ _ _ _ l

theorem State.send_fields (s : State) (v : Nat) (l : List Fld) : FieldsButPmu l s (s.send v) := by
  unfold State.send
  dsimp only
  split
  · exact (State.sendRaw_fields s v l).trans (State.pmu_fields _ _ _ _ l)
  · exact State.sendRaw_fields s v l

/-- An event bit raised leaves every field outside the PMU block but its own register's as it was. -/
theorem State.raise_fields (s : State) (evt en : Fld) (vec b : Nat) (l : List Fld) (h : evt ∈ l) :
    FieldsButPmu l s (s.raise evt en vec b) := by
  unfold State.raise
  split
  · exact FieldsButPmu.rfl' l s
  · dsimp only
    split
    · exact (State.put_fields s evt _ l h).trans (State.send_fields _ _ l)
    · exact State.put_fields s evt _ l h

end Sys2Proof.Machine
end

