-- ==== Sys2Proof/Tests/Slice0.lean ====
section
/-!
SUPPORT. Sys2Proof/Tests/Slice0.lean: small tests: ill-formed commands that are refused, witnesses that the hypotheses of the statements
can be met together, and one-step tests against the spec's numbers.
-/

namespace Sys2Proof.Tests

set_option Elab.async false

open Sys2Proof Sys2Proof.Machine

/-! ### Small states -/

/-- A half whose link is up at protocol CXL 3.1, its MSI-X enabled and its SPDM negotiated. -/
def upHalf : HalfSt :=
  { HalfSt.init with up := true, rate := 3, width := 16, protocol := 3, msixEnable := true, vecMask := 0, negotiated := true,
                     decoders := #v[⟨true, 0, 0x10000000, 0⟩, ⟨false, 0, 0, 0⟩, ⟨false, 0, 0, 0⟩, ⟨false, 0, 0, 0⟩], hdmEnable := true }

/-- A package in READY: horizon LOCKED in frame 9, island in AUX with its firmware running, half 0 up. -/
def ready : State :=
  { State.reset with
    regs := [], pwr := { PwrSt.init with state := .ready, dawnStep := 15, vauxIn := true, released := true, enables := 63, railGood := 63,
                                         perstLow := false, sampled := true },
    hzn := { HznSt.init with lock := .locked, counting := true, frame := 9 },
    clk := { ClkSt.init with locked := 255, started := 255 },
    host := { State.reset.host with halves := #v[upHalf, HalfSt.init] },
    isl := { IslSt.init with mode := .aux, booted := true, rebuilt := true, fw := some ⟨0, ⟨1, none, none, none, none, none, none⟩, 0⟩, linkUp := true,
                             runOn := true } }.puts
    [(R.GEN_READY_cfg_ready, 1), (R.GEN_READY_mem_active, 1), (R.GEN_READY_sb_ready, 1), (R.GEN_READY_mbox_ready, 1), (R.BATT_BUDGET_ms, 20)]

/-- The same package in BENCH. -/
def bench : State := { ready with pwr := { ready.pwr with state := .bench } }

/-- A dawn at the given step, in the state before the control die is released up to step 2. -/
def dawnAt (n : Nat) : State := { ready with pwr := { ready.pwr with state := .dawn, dawnStep := n, released := decide (2 < n) } }

/-- The next state of a command. -/
def after (c : Instr) (s : State) : State := match exec c s with | .next t => t | _ => s

/-- A 32-byte horizon message of a type and 13 bytes of body, with the CRC of its first 30 bytes. -/
def message (body : List Byte) : Vector Byte 32 :=
  let m := body ++ List.replicate (30 - body.length) 0
  Vector.ofFn (fun i => (m ++ toLE 2 (crc16 m)).getD i.val 0)

/-! ### Ill-formed commands -/

theorem test_ill_formed_offsets : WellFormed (.registerWrite 0 0x270011#22 0) = false ∧ WellFormed (.eventEnableWrite 0 0x30022#22 0) = false ∧
    WellFormed (.loWordRead 0 0x30001#22) = false ∧ WellFormed (.registerWrite 0 0x270010#22 0) = true := by decide +kernel

theorem test_ill_formed_messages : WellFormed (.assignMessage (message [2])) = false ∧ WellFormed (.delayMessage (message [1])) = false ∧
    WellFormed (.statusMessage (message [0])) = false ∧ WellFormed (.unknownMessage (message [3])) = false ∧
    WellFormed (.delayMessage (message [2])) = true := by decide +kernel

/-- A transaction whose header has this type and no other bit. -/
def txnOf (type : Byte) : Vector Byte 80 := (Vector.replicate 80 0).set 0 type

theorem test_ill_formed_transactions : WellFormed (.fabricWrite 0 (txnOf 2)) = false ∧ WellFormed (.cadd 0 (txnOf 3)) = false ∧
    WellFormed (.signal 0 (txnOf 4)) = false ∧ WellFormed (.resp 0 (txnOf 1)) = false ∧ WellFormed (.resp 0 (txnOf 4)) = true := by decide +kernel

theorem test_ill_formed_lines : WellFormed (.weightWrite 0 32 (Vector.replicate 64 0) 0) = false ∧ WellFormed (.weightRead 0 1) = false ∧
    WellFormed (.cxlMemRead 0 63 0) = false ∧ WellFormed (.cxlMemRead 0 64 3) = false ∧
    WellFormed (.cxlMemWrite 0 65 (Vector.replicate 64 0) 0 false) = false ∧ WellFormed (.cxlMemRead 0 64 2) = true := by decide +kernel

theorem test_ill_formed_operands : WellFormed (.ctxReservedOp 3 0) = false ∧ WellFormed (.setBaudRate 0 0 0xB7) = false ∧
    WellFormed (.contextMark 0 0 []) = false ∧ WellFormed (.pmuTriggerArm 0 0) = false ∧ WellFormed (.pmuOverflow 0 0) = false ∧
    WellFormed (.pmuOverflow 0 32769) = false ∧ WellFormed (.sbUnknownCommand 0x11) = false ∧ WellFormed (.sbUnknownCommand 0x13) = true ∧
    WellFormed (.setBaudRate 0 0 0xB8) = true := by decide +kernel

/-! ### The hypotheses of the statements can be met -/

/-- StepRunsFront, IdleTickPasses: a tick that judges a mark, one that does not, and no tile that waits for a pump. -/
theorem test_met_queue : ({ ready with pending := [.bypass true] } : State).pending = .bypass true :: [] ∧ ready.pending = [] ∧
    ready.now ≠ ready.hzn.markAt + 1 ∧ (∀ d : Fin 4, ready.slotWaiters d.val = []) ∧ (dawnAt 2).controlUp = false ∧ bench.isBench = true := by
  decide +kernel

/-- StepKeepsMemoryCanonical: a sound state with a byte in memory whose step answers. -/
theorem test_met_sound : Sound { ready with mem := [(3, 7)], pending := [.tapReset] } ∧
    step { ready with mem := [(3, 7)], pending := [.tapReset] } = exec .tapReset { ready with mem := [(3, 7)] } := by
  constructor
  · show Memory.wf [(3, 7)] = true
    decide
  · rfl

/-- CountersClear. -/
theorem test_met_counters : ready.controlUp = true ∧ ready.blockUp 5 = true ∧ ready.blockUp 9 = true ∧ ready.blockUp 10 = true := by decide +kernel

/-- READY with slot 1 ACTIVE, owning sync objects 16 to 31, and timer 0 armed for frame 9, tick 0. -/
def withSync : State := ready.puts [(R.CTX_STAT_state 1, 1), (R.CTX_SYNC_base 1, 16), (R.CTX_SYNC_count 1, 16), (R.CTX_WIN_len 1 0, 1), (R.SYNC_TMR_CFG_en 0, 1),
  (R.SYNC_TMR_CFG_object 0, 16), (R.SYNC_TMR_CFG_value 0, 3), (R.SYNC_TMR_LO_frame 0, 9)]

/-- SyncObjects: the lowest and the highest object owned; a timer that may be armed, one that may fire. -/
theorem test_met_sync : withSync.blockUp 9 = true ∧ withSync.syncOwned 16 = true ∧ withSync.syncOwned 31 = true ∧
    withSync.syncOwned 32 = false ∧ withSync.horizon ≤ withSync.timerAt 0 ∧ withSync.get (R.SYNC_TMR_CFG_en 0) = 1 ∧
    withSync.get (R.SYNC_TMR_CFG_object 0) = (16#12).toNat ∧ withSync.hzn.counting = true ∧ withSync.timerAt 0 ≤ withSync.horizon := by decide +kernel

theorem test_sync_signal_wraps : ((after (.syncSignal 16 0xFFFF) (withSync.put (R.SYNC_VAL_value 16) 2)).get (R.SYNC_VAL_value 16)) = 1 := by decide +kernel

theorem test_sync_fires : (after (.syncTimerFire 0) withSync).get (R.SYNC_VAL_value 16) = 3 ∧
    (after (.syncTimerFire 0) withSync).get (R.SYNC_TMR_CFG_en 0) = 0 := by decide +kernel

/-- MailboxReports, MailboxChanges, SpdmResponses, SpdmSessions: a half that serves all of them, an opcode that is not supported, a whole
log, and a completed session whose CXL.io keys are programmed. -/
theorem test_met_mailbox : ready.cxlMbox 0 = true ∧ (0x0300#16).toNat ∈ mailboxOpcodes ∧ (0xFFFF#16).toNat ∉ mailboxOpcodes ∧
    (0#16).toNat + (4 * 14 : Nat) ≤ 4 * mailboxOpcodes.length ∧ (ready.half 0).up = true ∧ ready.get R.GEN_READY_cfg_ready = 1 ∧
    (ready.half 0).negotiated = true ∧ (1#8).toNat ≠ 0 ∧ (1#8).toNat ≠ 0xFF := by decide +kernel

/-- A completed session on half 0. -/
def withSession : State := { ready with host := { ready.host with
  halves := #v[{ upHalf with ideKeys := 1 }, HalfSt.init], sessions := [⟨0, 5, true, 0⟩] } }

theorem test_met_sessions : withSession.session 0 (5#16).toNat = some ⟨0, 5, true, 0⟩ ∧ withSession.host.sessions.length < 2 ∧
    (withSession.half 0).protocol = 3 ∧ (withSession.half 0).ideKeys &&& ideStream false ≠ 0 ∧ (withSession.half 0).negotiated = true := by
  decide +kernel

/-- HostLinks, HostConfiguration: half 1 down and trainable under bifurcation at its widest; half 0 up with active IDE; cfg_ready 0 and 1;
decoder 1 may be committed beside decoder 0. -/
theorem test_met_host : let s := ready.put R.GEN_STRAP_host_bif 1
    let t := ({ ready with host := { ready.host with halves := #v[{ upHalf with ideActive := 1 }, HalfSt.init] } } : State)
    s.hostPhy = true ∧ (s.half 1).up = false ∧ s.get R.GEN_STRAP_host_bif = 1 ∧ linkOk true 3 8 3 = true ∧ linkOk true 3 16 3 = false ∧
      (t.half 0).up = true ∧ (t.half 0).ideActive ≠ 0 ∧ (ready.put R.GEN_READY_cfg_ready 0).get R.GEN_READY_cfg_ready = 0 ∧
      (ready.half 0).pba = 0 ∧ 2 ≤ (ready.half 0).protocol ∧ ((ready.half 0).decoders.toList.take 1).all Decoder.committed = true ∧
      ((ready.half 0).decoders.toList.drop 2).any Decoder.committed = false ∧ (ready.half 0).d3 = false ∧
      hdmFits 1 ((((ready.half 0).decoders.toList.take 1).map (fun (x : Decoder) => x.skip + x.size)).sum + (0xBD0000000#52).toNat) 0x10000000 = true := by
  decide +kernel

/-- CxlMemAccesses, CxlMemReadAfterWrite: the last line claimed, the first line not claimed. -/
theorem test_met_mem : ready.memServes 0 = true ∧ ready.claimed 0 (0xFFFFFC0#52).toNat = some 0xFFFFFC0 ∧ 0xFFFFFC0 < weightBase ∧
    ready.claimed 0 (0x10000000#52).toNat = none ∧ ready.clk.selfRefresh = 0 ∧ ready.poisoned 0xFFFFFC0 64 = false ∧
    ready.inCxlReset = false ∧ (ready.half 0).heldWrites = [] ∧ ready.clk.gated.getLsbD 7 = false := by decide +kernel

/-- CxlMemAccesses: a CXL reset under way on a half that serves; a gated CMD block under a line of its window. -/
theorem test_met_mem_reset : let reset : State := { ready with pwr := { ready.pwr with warm := true, cxlReset := true } }
    let gated : State := { ready with
      clk := { ready.clk with gated := 0x80 },
      host := { ready.host with halves := #v[{ upHalf with decoders := #v[⟨true, 0, 0xBE0000000, 0⟩, ⟨true, 0xBE0000000, 0x10000000, 0⟩,
        ⟨false, 0, 0, 0⟩, ⟨false, 0, 0, 0⟩] }, HalfSt.init] } }
    reset.memServes 0 = true ∧ reset.inCxlReset = true ∧ gated.memServes 0 = true ∧ gated.clk.gated.getLsbD 7 = true ∧
      gated.claimed 0 (0xBE0000000#52).toNat = some cmdBase ∧ gated.clk.selfRefresh = 0 ∧ gated.poisoned cmdBase 64 = false := by decide +kernel

/-- PmuCounters, PmuTriggersAndOverflow. -/
theorem test_met_pmu : let s := ready.puts [(R.PMU_TRIG_CFG_armed 2, 1), (R.PMU_TRIG_CFG_action 2, 1), (R.PMU_TRIG_LO_frame 2, 9)]
    let t := ready.puts [(R.PMU_RUN, 0x80000000), (R.PMU_CNT_LO 31, 0xFFFFFFFF), (R.PMU_CNT_HI 31, 0xFFFF)]
    s.blockUp 13 = true ∧ s.pwr.state ≠ .dawn ∧ bitAt (s.get R.PMU_RUN) 0 = false ∧ s.pmuNamed 0 = false ∧ eventKnown 0x26 = true ∧
      eventFilters 0x26 = true ∧ s.hzn.counting = true ∧ s.trigDue = [2] ∧ s.get (R.PMU_TRIG_CFG_action 2) = 1 ∧
      s.horizon ≤ s.trigAt 2 ∧ bitAt (t.get R.PMU_RUN) 31 = true ∧ (1#16).toNat ≤ eventLargest (t.get (R.PMU_CFG_event 31)) ∧
      2 ^ 48 ≤ t.pmuCount 31 + (1#16).toNat ∧ bitAt (t.get R.PMU_OVF_IRQ_EN) 31 = false ∧ s.trigDue.contains 1 = false := by decide +kernel

/-- ThermalConfiguration, LockedFieldsKeepTheirValue: the limits of R629 themselves. -/
theorem test_met_thermal : ready.controlUp = true ∧ ready.get R.THM_CTRL_lock = 0 ∧ thmAccepts false 0x0173723C = true ∧
    thmAccepts false 0x0174723C = false ∧ thmAccepts true 0x0205 = true ∧ thmAccepts true 0x0A32 = true ∧ thmAccepts true 0x0A33 = false ∧
    (ready.put R.THM_CTRL_lock 1).get R.THM_CTRL_lock = 1 ∧ (ready.put R.MTR_CAL_LOCK_lock 1).get R.MTR_CAL_LOCK_lock = 1 ∧
    0x14 ∈ calOffsets ∧ 0x174 ∈ calOffsets := by decide +kernel

/-- SidebandAnswers, SidebandWrites, I3cTarget. -/
theorem test_met_sideband : ready.sbUp = true ∧ ready.sbReady = true ∧ ready.sbI3c = false ∧ (dawnAt 2).sbReady = false ∧ (dawnAt 2).sbUp = true ∧
    barBlock 0x270008 = 11 ∧ pairLow 0x270008 = false ∧ pairLow 0x270004 = false ∧ ready.blockUp 11 = true ∧ barBlock 0x30000 = 3 ∧
    (0x13#8).toNat ∉ [0x00, 0x10, 0x11, 0x12] ∧ (ready.puts [(R.HOST_SB_ALERT, 1), (R.HOST_SB_ALERT_EN, 1)]).alertLow = true ∧
    (ready.put R.GEN_STRAP_sb_mode 1).sbI3c = true ∧ (ready.put R.GEN_STRAP_sb_mode 1).get R.HOST_SB_STAT_dyn_valid = 0 ∧ ready.sbSlot < 8 := by
  decide +kernel

theorem test_sideband_identity : ((after .sbIdentity ready).out.head?.map (fun o => match o with
    | .sideband (some b) => b.length | _ => 0)) = some 24 := by decide +kernel

/-- TapInstructions, TapRefusals, DebugAccesses. -/
theorem test_met_taps : State.reset.tapUp true = false ∧ ready.tapUp true = true ∧ ready.tapUp false = true ∧ (dawnAt 2).scanAllowed true = true ∧ bench.scanAllowed false = true ∧
    ready.controlUp = true ∧ ready.isBench = false ∧ (dawnAt 3).powered = false ∧ bench.powered = true ∧ bench.isBench = true ∧
    barBlock 0x1000 ≠ 6 ∧ sbWritable (4 * ((0x30000#22).toNat / 4)) = false ∧ bench.blockUp 12 = true := by decide +kernel

theorem test_met_protection : bench.fls.protLevel = 0 := by decide +kernel

theorem test_idcode : (after (.idcode true) ready).out = [.tap true 0x14808BC7] := by decide +kernel

/-- RegisterWritesByAccessCode, EnableWrites, LowWordReadCaptures. -/
theorem test_met_bar : ready.barServes 0 = true ∧ ready.blockUp 11 = true ∧ ready.blockUp 3 = true ∧ ready.isEnable 0x30020 = true ∧
    ready.inCxlReset = false ∧ ready.blockUp (barBlock 0x30020) = true ∧ pairLow 0x30008 = true ∧
    (ready.half (ready.route (ready.get R.HOST_IRQ_MAP0_hzn))).canSend (ready.get R.HOST_IRQ_MAP0_hzn) = true ∧
    Nat.land (0x7F#32).toNat ((ready.put R.HZN_EVT 2).get R.HZN_EVT) ≠ 0 ∧
    (ready.capture hostAccessor 0x3000C 77).captured hostAccessor 0x3000C = some 77 ∧ pairLow 0x3000C = false ∧
    ready.captured hostAccessor 0x3000C = none := by decide +kernel

/-- RegisterWritesByAccessCode: every register of its list is in a block that answers; a half that does not serve; a gated block. -/
theorem test_met_plain : plainRegs.all (fun o => o % 4 == 0 && ready.blockUp (barBlock o)) = true ∧ ready.barServes 1 = false ∧
    ({ ready with clk := { ready.clk with gated := 0x10 } } : State).blockUp (barBlock (4 * ((0x40000#22).toNat / 4))) = false ∧
    governs 0x40008 = false ∧ 0x40008 ∈ plainRegs := by decide +kernel

/-- ReceiverStates. -/
theorem test_met_receiver : let lost : State := { ready with hzn := { ready.hzn with lock := .lost } }
    let dark : State := { ready with hzn := { ready.hzn with lock := .dark } }
    let acq : State := { ready with hzn := { ready.hzn with lock := .acquiring }, clk := { ready.clk with locked := 0xDF } }
    lost.running = true ∧ lost.hzn.lock = .lost ∧ dark.get R.HZN_CTRL_rx_en = 1 ∧ dark.isBench = false ∧ ready.hzn.lock = .locked ∧
      ready.hznPll = true ∧ acq.hznPll = false ∧ acq.hzn.lock ≠ .dark ∧ acq.hzn.lock = .acquiring ∧ acq.running = true ∧ bench.isBench = true := by
  decide +kernel

/-- MarksAndNumbers: a number whose CRC is good, the numbers that name and do not name frame 9, marks of either half of the frame, and the
second of two consecutive numbers. -/
theorem test_met_marks : let acq : State := { ready with hzn := { HznSt.init with lock := .acquiring } }
    let coast : State := { ready with hzn := { ready.hzn with lock := .coasting, goodRun := 1 } }
    let mark : State := { ready with now := 2048, hzn := { ready.hzn with markSeen := true } }
    let second : State := { ready with hzn := { ready.hzn with lock := .acquiring, firstMark := true, number1 := some (6, 2 ^ 48 - 55) } }
    acq.hznPll = true ∧ acq.hzn.firstMark = false ∧ acq.hzn.counting = false ∧ coast.hzn.goodRun = 1 ∧ coast.hzn.markSeen = false ∧
      ready.hznReads = true ∧ ready.hzn.numberBad = 0 ∧ (2 ^ 48 - 54 + 63) % 2 ^ 48 = ready.hzn.frame ∧ (9 + 63) % 2 ^ 48 ≠ ready.hzn.frame ∧
      second.hznReads = true ∧ (6 : Nat) < 2 ^ 48 ∧ (2 ^ 48 - 55 : Nat) < 2 ^ 48 ∧ (70#48).toNat = (6 + 64) % 2 ^ 48 ∧
      second.hzn.frame = (2 ^ 48 - 55 + 64) % 2 ^ 48 ∧
      mark.hzn.markAt + 2048 ≤ mark.now ∧ mark.hzn.slewFrom = none ∧ mark.hzn.lock = .locked ∧ 1024 < mark.now - mark.hzn.markAt ∧
      ready.now - ready.hzn.markAt ≤ 1024 ∧ ready.hzn.markCounted = false := by decide +kernel

theorem test_met_number_crc : crc16Bits (natBitsMSB 48 9) ≠ crc16Bits (natBitsMSB 48 9) + 1 ∧ crc16Bits (natBitsMSB 48 9) < 2 ^ 16 := by decide +kernel

/-- HorizonMessages: a good ASSIGN, repeated, and one rejected; DELAYs at the edges of their ranges; a good STATUS; an unknown message. -/
theorem test_met_messages : let assign := (message [1, 0, 5, 0, 0x21, 0x00]).toList
    let delay := (message [2, 0, 0, 0x10]).toList
    let assigned := ready.puts [(R.GEN_TOPO_assigned, 1), (R.GEN_MACHINE_machine_id, 5), (R.GEN_TOPO_rack, 1), (R.GEN_MACHINE_racks_minus_one, 2)]
    crc16 (assign.take 30) = leAt assign 30 2 ∧ leAt assign 0 1 = 1 ∧ ready.get R.GEN_TOPO_assigned = 0 ∧
      bits (leAt assign 4 1) 0 3 ≤ bits (leAt assign 4 1) 4 3 ∧ bits (leAt assign 5 1) 0 4 = ready.get R.GEN_TOPO_sled ∧
      bits (leAt assign 5 1) 4 3 = ready.get R.GEN_TOPO_slot ∧ leAt assign 2 2 = assigned.get R.GEN_MACHINE_machine_id ∧
      bits (leAt assign 4 1) 0 3 = assigned.get R.GEN_TOPO_rack ∧
      bits (leAt assign 4 1) 4 3 = assigned.get R.GEN_MACHINE_racks_minus_one ∧ bits (leAt assign 5 1) 0 4 = assigned.hzn.expSled ∧
      leAt delay 2 2 = 4096 ∧ crc16 (delay.take 30) = leAt delay 30 2 ∧ leAt delay 0 1 = 2 ∧
      leAt (message [3, 0, 3, 1]).toList 2 1 ≤ 3 ∧ ready.hzn.msgBad = false := by decide +kernel

theorem test_met_slew : let s : State := { ready with hzn := { ready.hzn with target := 16 } }
    leAt (message [2, 0, 32, 0]).toList 2 2 ≠ s.hzn.target ∧ leAt (message [2, 0, 32, 0]).toList 2 2 ≤ s.hzn.target + 16 ∧
      s.hzn.target ≤ leAt (message [2, 0, 32, 0]).toList 2 2 + 16 := by decide +kernel

/-- ClockLosses, ClockGating, IslandOscillators. -/
theorem test_met_clocks : let off : State := { ready with clk := { ready.clk with locked := 0 } }
    let gated : State := { ready with clk := { ready.clk with ungating := 0x10 } }
    ready.clk.refPresent = true ∧ (dawnAt 2).controlUp = false ∧ ready.dawnPastPlls = false ∧ ready.clk.locked.getLsbD 7 = true ∧
      off.clk.locked.getLsbD 0 = false ∧ off.clk.started.getLsbD 7 = true ∧ off.pllRef 0 = true ∧ off.pllRef 7 = true ∧ off.atStep 3 = false ∧
      gateable 4 = true ∧ gateable 13 = true ∧ gateable 11 = false ∧ gated.clk.ungating.getLsbD 4 = true ∧ ready.clk.gated.getLsbD 13 = false ∧
      (dawnAt 2).clk.refPresent = true ∧ bench.isBench = true ∧ obsFreq (bits 0 0 5) ≤ 200000 * (bits 0 16 10 + 1) ∧ 200000 * (bits 2 16 10 + 1) < obsFreq (bits 2 0 5) := by decide +kernel

theorem test_met_trim : let s := ready.put R.OSC_STAT_trim_src 1
    s.islandUp = true ∧ s.isl.runOn = true ∧ s.get R.OSC_STAT_trim_src ≠ 0 ∧ s.trimBad 1 (trimExpected 1) false = false ∧
      s.trimBad 1 0 false = true ∧ s.isl.mode ≠ .cold ∧ s.get R.OSC_STAT_trim_src < 4 ∧ ready.get R.OSC_STAT_trim_src ≠ 1 := by decide +kernel

/-- DawnPhaseA, DawnPhaseB: every step has its state; the straps may come in steps 2 and 15; the retries. -/
theorem test_met_dawn_a : let dark : State := { dawnAt 0 with pwr := { (dawnAt 0).pwr with enables := 0, railGood := 0 } }
    let one : State := { dawnAt 1 with pwr := { (dawnAt 1).pwr with enables := 1, railGood := 1 } }
    let last : State := { dawnAt 1 with pwr := { (dawnAt 1).pwr with railGood := 31, perstLow := true } }
    let failed : State := { dark with pwr := { dark.pwr with state := .dawnFail, attempt := 2 } }
    let off : State := { dark with pwr := { dark.pwr with state := .off, restartWanted := true } }
    State.reset.pwr.vauxIn = false ∧ State.reset.pwr.state = .off ∧ State.reset.isl.mode = .cold ∧ dark.pwr.dawnStep = 0 ∧
      dark.dawning = true ∧ one.dawning = true ∧ last.dawning = true ∧ dark.isl.booted = true ∧ dark.isl.rcLatch = false ∧
      dark.isl.dawnOwed = false ∧ one.pwr.enables.getLsbD 0 = true ∧ one.pwr.enables ≠ BitVec.allOnes 6 ∧
      one.pwr.railGood = one.pwr.enables ∧ last.pwr.enables.getLsbD 5 = true ∧ last.pwr.railGood ||| BitVec.twoPow 6 5 = BitVec.allOnes 6 ∧
      last.pwr.dawnStep = 1 ∧ last.pwr.perstLow = true ∧ (dawnAt 2).pwr.dawnStep = 2 ∧ (dawnAt 2).dawning = true ∧ ready.dawning = false ∧ ready.running = true ∧ off.running = false ∧
      failed.pwr.vauxIn = true ∧ failed.pwr.attempt < 3 ∧ off.pwr.restartWanted = true ∧ off.pwr.enables = 0 := by decide +kernel

theorem test_met_dawn_b : let up : State := { dawnAt 4 with isl := { ready.isl with linkUp := false } }
    (dawnAt 3).atStep 3 = true ∧ (dawnAt 3).clk.refPresent = true ∧ up.atStep 4 = true ∧ up.islandUp = true ∧ up.isl.linkUp = false ∧
      up.isl.fw.isSome = true ∧ up.isl.kept = [] ∧ (dawnAt 5).atStep 5 = true ∧ (dawnAt 6).atStep 6 = true ∧ (dawnAt 7).atStep 7 = true ∧
      (dawnAt 8).atStep 8 = true ∧ (dawnAt 9).atStep 9 = true ∧ (dawnAt 9).pwr.arrayLink.getLsbD 3 = false ∧
      (dawnAt 9).pwr.arrayLink ||| BitVec.twoPow 4 3 ≠ BitVec.allOnes 4 ∧ (0b0111#4) ||| BitVec.twoPow 4 3 = BitVec.allOnes 4 ∧
      (dawnAt 10).atStep 10 = true ∧ (dawnAt 10).get R.GEN_TOPO_bench = 0 ∧ (dawnAt 4).dawning = true ∧ (dawnAt 8).dawning = true ∧ up.controlUp = true := by decide +kernel

theorem test_stage2_missing : (after .stage2Checked (dawnAt 8)).pwr.dawnStep = 9 ∧
    bitAt ((after .stage2Checked (dawnAt 8)).get R.GEN_HOLD_CAUSE_causes) 1 = true := by
  decide +kernel

/-- PowerFaults, HoldCauses. -/
theorem test_met_power : let falling : State := { ready with pwr := { ready.pwr with state := .off, lowering := .stop, enables := 1 } }
    let held : State := State.puts { ready with pwr := { ready.pwr with state := .held } } [(R.GEN_HOLD_CAUSE_causes, 8), (R.THM_LIMIT_p_limit, 360)]
    ready.pwr.enables.getLsbD 5 = true ∧ ready.pwr.railGood.getLsbD 5 = true ∧ ready.running = true ∧ falling.pwr.enables.getLsbD 5 = false ∧
      falling.pwr.vauxIn = true ∧ falling.pwr.lowering ≠ .none ∧ falling.pwr.enables = 1#6 ∧
      ready.pwr.enables &&& ~~~(nextLowered ready.pwr.enables) ≠ 0 ∧ bitAt (ready.get R.GEN_HOLD_CAUSE_causes) 4 = false ∧
      (∀ n < 12, (ready.port n).state = .dark) ∧ held.pwr.state = .held ∧ held.get R.GEN_HOLD_CAUSE_causes = 2 ^ 3 ∧
      360 ≤ held.get R.THM_LIMIT_p_limit := by decide +kernel

/-- PowerFaults: the island link lost for 20 ms with no sequence running; HoldCauses: no island. -/
theorem test_met_link_overdue : let s : State := { ready with now := 20 * ticksPerMs, isl := { ready.isl with linkUp := false, linkLostAt := some 0 } }
    s.linkOverdue = true ∧ s.pwr.lowering = .none ∧ s.pwr.enables = BitVec.allOnes 6 ∧ s.pwr.dusk = none ∧
      ({ ready with isl := IslSt.init } : State).islandUp = false ∧ ({ ready with isl := IslSt.init } : State).controlUp = true := by decide +kernel

theorem test_enables_fall_in_reverse : ((after .enableFall { ready with pwr := { ready.pwr with lowering := .stop } }).pwr.enables = 0b001111#6) := by
  decide +kernel

/-- ResetsAndDusk. -/
theorem test_met_dusk : let warm : State := { ready with pwr := { ready.pwr with warm := true } }
    let cxl : State := { warm with pwr := { warm.pwr with cxlReset := true, cxlMemClear := true } }
    let dusk : State := { ready with pwr := { ready.pwr with state := .dusk, dusk := some ⟨.host, false, 9, true, .quiesce⟩ } }
    let commit : State := { dusk with pwr := { dusk.pwr with dusk := some ⟨.host, false, 9, true, .commit⟩ }, isl := IslSt.init }
    (0#16) ≠ 0x5E7A#16 ∧ ready.pwr.warm = false ∧ warm.pwr.cxlReset = false ∧ warm.pwr.heldDusk = none ∧ cxl.pwr.warm = true ∧
      (ready.half 0).protocol ≠ 0 ∧ ready.img.load = none ∧ (∀ n < 12, (ready.port n).state = .dark) ∧ ready.isl.linkUp = true ∧ dusk.quiesceBusy = false ∧
      commit.pwr.enables = BitVec.allOnes 6 ∧ commit.islandUp = false := by decide +kernel

/-! An image with one INT4 plate, number 3, on tiles 0 and 1: tile 0 adds into tile 1. -/

def plate3 : Plate := { num := 3, rowGroup := 2, int8 := false, acc16 := false, adcShift := 0, clipLimit := 0, aeWindow := 0, keep := false,
                        tiles := [⟨0, 0, 0, 0, 0, some 1⟩, ⟨1, 1, 0, 0, 1, none⟩], seed := 0, curveAdc := [], curveTempco := [], curveDrift := [] }

/-- Micro-words at 1,024 on: NEXT, END, a reserved code, WAIT tick 100, a NEXT of bad parity, a NEXT with nano-word 128. -/
def image5 : PlateImage :=
  { id := 77, replacing := false, replaces := 0, tenant := 0, job := 0, levels := ⟨2, none, none, none, none, none, none⟩, period := 1, keySlot := 0,
    signerSlot := 0, secVersion := 0, plates := [plate3], binds := [(2, 8)], microBase := 1024,
    micro := [storedMicro 0, storedMicro (18 * 2 ^ 27), storedMicro (14 * 2 ^ 27), storedMicro (16 * 2 ^ 27 + 100), 1, storedMicro (128 * 2 ^ 16)],
    nanoBase := 128, nano := [storedNano 8],
    slots := [(2, [⟨100, 200, 0, 1, 3, 1024, true, true⟩])], scales := [], defects := [], digest := 0 }

def res5 : ResImage := { image := image5, ctx := 1, parked := false, leaving := false, armed := true, epoch := 9, param := 0, disarming := false, pair := none }

def cmd5 : ExposeCmd := { plate := 3, groups := [0], avg := 1, bankOff := 0, firstOverwrite := true, int4 := true, hbLine := 0, z := 0, fromDram := false,
                          srcReg := 0, fromDesc := false }

def burst5 : Burst := { q := 2, plate := 3, cmd := cmd5, base := 0, bank := 0, endFrame := 9, endTick := 2047, started := 0, developed := 0,
                        t0 := 16 * 9 * 2048, loaded := [], reps := [], psum := [], committed := false, inbound := 0, sent := false }

/-- A routine of the image's static entry. -/
def routine5 : Routine := { image := some 5, ctx := 1, dyn := false, index := 0, kind := 1, resource := 3, frame := 9, startTick := 100, endTick := 2000,
                            desc := none, record := none }

/-- READY with the image in slot 5 of context 1, its tiles owned, and sequencer 2 idle. -/
def loaded : State :=
  { withSync with
    pwr := { ready.pwr with arrayLink := 15 }, img := ⟨none, none, [(5, res5)], none, [], []⟩,
    tiles := [(0, { TileSt.init with owner := some (5, 3) }), (1, { TileSt.init with owner := some (5, 3) })],
    seqs := Vector.replicate 16 { SeqSt.init with mode := .idle } }

/-- Sequencer 2 runs at address `pc`, with `issue` latched. -/
def runningAt (pc : Nat) (issue : Option NanoCmd) : State :=
  { loaded with seqs := loaded.seqs.set 2 { SeqSt.init with mode := .running, pc := pc, routine := some routine5, issue := issue } }

/-- A tile in the middle of a burst. -/
def bursting (a b : Burst) : State :=
  { loaded with tiles := [(0, { TileSt.init with owner := some (5, 3), burst := some a }), (1, { TileSt.init with owner := some (5, 3), burst := some b })] }

/-- TileBursts: an exposure due, one that would pass its slot's end, late operands, one to develop, and full windows. -/
theorem test_met_bursts : let s := bursting burst5 burst5
    let late : State := { s with hzn := { s.hzn with frame := 10 } }
    let dev : State := { bursting { burst5 with started := 1 } burst5 with now := 10 }
    s.tileRec 0 = some (res5, plate3, ⟨0, 0, 0, 0, 0, some 1⟩) ∧ burst5.started < burst5.cmd.total ∧
      burst5.startOf false 0 < s.halfNs ∧ s.tileForced 0 = false ∧ burst5.startOf false 0 + windowOf false < burst5.slotEnd ∧
      ({ burst5 with endTick := 2 } : Burst).slotEnd ≤ burst5.startOf false 0 + windowOf false ∧ burst5.started % burst5.cmd.perGroup = 0 ∧
      burst5.startOf false 0 < 16 * late.horizon ∧ ({ burst5 with started := 1 } : Burst).startOf false 0 + decisionOf false < dev.halfNs ∧
      (∀ g ∈ burst5.cmd.groups, g < 16) ∧ (s.put (R.TILE_AE_WIN_pos 0) 1).aeDue 0 plate3 = true ∧
      65536 ≤ ({ TileSt.init with fogCount := 65536 } : TileSt).fogCount ∧ burst5.started < burst5.developed + 2 ∧ burst5.bank < 4 ∧
      (∀ u, plate3.partner ⟨0, 0, 0, 0, 0, some 1⟩ = some u → u ≠ 0) ∧ (plate3.tiles.map TileRec.tile).Nodup ∧
      (∀ q ∈ plate3.tiles, ∀ d, (s.tile q.tile).burst = some d → d.started ≤ d.developed) := by
  intro s late dev
  refine ⟨by decide +kernel, by decide +kernel, by decide +kernel, by decide +kernel, by decide +kernel, by decide +kernel, by decide +kernel,
    by decide +kernel, by decide +kernel, by decide +kernel, by decide +kernel, by decide +kernel, by decide +kernel, by decide +kernel, ?_,
    by decide +kernel, ?_⟩
  · intro u h
    simp [Plate.partner, plate3] at h
  · intro q hq d hd
    have hb : (s.tile q.tile).burst = some burst5 ∨ (s.tile q.tile).burst = none := by
      simp [plate3] at hq
      rcases hq with rfl | rfl <;> exact Or.inl (by decide +kernel)
    rcases hb with hb | hb <;> rw [hb] at hd <;> cases hd
    decide

/-- TileAccesses, ChainsAndOutputRuns. -/
theorem test_met_tiles : let t := bursting { burst5 with committed := true } burst5
    loaded.blockUp 6 = true ∧ loaded.tileUnreachable (loaded.get R.TILE_SEL_tile) = false ∧ ready.tileUnreachable 0 = true ∧
      loaded.get R.TILE_ADDR_autoinc = 0 ∧ ({ bench with pwr := { bench.pwr with arrayLink := 15 } } : State).testRefused 0 0 0 = false ∧
      loaded.testRefused 0 0 0 = true ∧ ({ burst5 with committed := true } : Burst).ready plate3 0 = true ∧
      plate3.outbound ⟨0, 0, 0, 0, 0, some 1⟩ = some 1 ∧ (t.tile 1).burst = some burst5 ∧
      loaded.plateOf 3 = some (5, res5, plate3) := by decide +kernel

/-- An output run of plate 3's channels 0 to 15 to address 64: with no burst it waits for no bank, with one it waits for its chain end. -/
def run5 : OutRun := { q := 2, ctx := 1, desc := none, cmd := ⟨3, 0, 0, 16, 0, false, 0, false, 0, 0, 0, 0, 0, 0, 0, 0, false, 0⟩, dst := 64,
                       fuseAddr := 0, sched := false, waited := [] }

theorem test_met_runs : loaded.busyEnds run5 plate3 = [] ∧ (bursting burst5 { burst5 with bank := 1 }).busyEnds run5 plate3 = [1] := by decide +kernel

/-- Whatever stack holds a line, it is awake when neither is in self-refresh, and asleep when both are. -/
theorem test_met_asleep (a : Nat) (r : OutRun) : ready.asleep a = false ∧ ready.runAsleep r = false ∧
    ({ ready with clk := { ready.clk with selfRefresh := 3 } } : State).asleep a = true := by
  have h0 : ∀ b, ready.asleep b = false := fun b => by
    show (0#2).getLsbD (stackOf b) = false
    simp
  refine ⟨h0 a, by simp [State.runAsleep, State.fuseAsleep, h0], ?_⟩
  show (3#2).getLsbD (stackOf a) = true
  have h : stackOf a < 2 := Nat.mod_lt _ (by decide)
  generalize stackOf a = n at h
  interval_cases n <;> rfl

/-- FixingSteps: a pump with room, an entry it may start, a refix that runs, an erasure that waits, and a tile an hour old. -/
theorem test_met_fixing : let busy : State := { loaded with fix := { loaded.fix with fixing := 8, queue := #v[[⟨0, 0, 0⟩], [], [], []] } }
    let refix : State := { loaded with fix := { loaded.fix with fixing := 8, refixes := [⟨3, [0, 1], [⟨0, 0⟩]⟩], coreTicks := hourTicks },
                                       tiles := SMap.set TileSt.init loaded.tiles 0 { loaded.tile 0 with ageAt := some 0 } }
    let erasing : State := { loaded with tiles := [(0, { TileSt.init with erasing := true })] }
    busy.pumpUsed 0 < busy.pumpLimit ∧ (busy.fixQueue 0).find? (busy.startable 0) = some ⟨0, 0, 0⟩ ∧
      loaded.plateOf 4 = none ∧ loaded.refixing 3 = false ∧ plate3.tiles ≠ [] ∧ SMap.wf TileSt.init refix.tiles = true ∧
      refix.refixRun 0 = some ⟨0, 0⟩ ∧ (refix.tile 0).owner = some (5, 3) ∧ (refix.tile 0).ageAt = some 0 ∧ refix.refixing 3 = true ∧
      refix.pwr.railGood.getLsbD 1 = true ∧ hourTicks * (refix.get (R.TILE_AGE_hours 0) + 1) ≤ refix.fix.coreTicks - 0 ∧
      erasing.eraseMay 0 = true ∧ erasing.pumpUsed (dieOf 0) < erasing.pumpLimit ∧ erasing.blockUp 6 = true := by decide +kernel

/-- MicroWords, MachineChecks: the words above are fetched on sequencer 2, acceptable, with the tick before and after the WAIT's. -/
theorem test_met_fetch (pc : Fin 4) : Fetched (runningAt (1024 + pc.val) none) 2 routine5 (MicroWord.ofNat (image5.micro.getD pc.val 0)) := by
  fin_cases pc <;> exact ⟨by decide, by decide, by decide, by decide, by decide, _, rfl, by decide +kernel, rfl⟩

theorem test_met_micro : (MicroWord.ofNat 0).operandOk = true ∧ (MicroWord.ofNat 0).nanoPtr = 0 ∧ (MicroWord.ofNat (18 * 2 ^ 27)).code = 18 ∧
    reservedCode (MicroWord.ofNat (14 * 2 ^ 27)).code = true ∧ (MicroWord.ofNat (16 * 2 ^ 27 + 100)).operandOk = true ∧
    (runningAt 1027 none).horizon < routine5.at 100 ∧ routine5.at 100 < routine5.spanEnd ∧
    routine5.at 100 ≤ ({ runningAt 1027 none with now := 200 } : State).horizon ∧ (runningAt 1027 none).get (R.SEQ_MC0_valid 2) = 0 ∧
    8 ≤ bits (storedNano 8) 0 4 ∧ nanoSyndrome (storedNano 8) = 0 ∧ (runningAt 1029 none).nanoWord routine5 128 = some (storedNano 8) ∧
    (runningAt 1028 none).microWord routine5 1028 = some 1 ∧ microSyndrome 1 ≠ 0 ∧ (MicroWord.ofNat 1).code = 0 ∧ nanoSyndrome 1 ≠ 0 ∧
    (runningAt 1029 none).microWord routine5 1029 = some (storedMicro (128 * 2 ^ 16)) ∧ microSyndrome (storedMicro (128 * 2 ^ 16)) = 0 ∧
    (MicroWord.ofNat (storedMicro (128 * 2 ^ 16))).nanoPtr = 128 ∧ (MicroWord.ofNat (storedMicro (128 * 2 ^ 16))).operandOk = true := by decide +kernel

/-- NanoCommands: each kind latched, and nothing that would hold it. -/
theorem test_met_nano : let s := runningAt 1024 (some (.expose cmd5))
    s.latched 2 = some (routine5, .expose cmd5) ∧ s.mustHold 2 (some 3) = false ∧ s.plateOf 3 = some (5, res5, plate3) ∧ s.serves 2 3 = true ∧
      s.fix.fixing.getLsbD 3 = false ∧ plate3.tiles.find? (fun x => s.tileForced x.tile || (s.tile x.tile).faulty) = none ∧
      (runningAt 1024 (some (.load 3 0 0 1))).latched 2 = some (routine5, .load 3 0 0 1) ∧ s.poison = [] ∧
      (plate3.tiles.map TileRec.tile).Nodup ∧ (runningAt 1024 (some (.sync 0 16 1 false 0))).latched 2 = some (routine5, .sync 0 16 1 false 0) ∧
      (runningAt 1024 (some .nop)).latched 2 = some (routine5, .nop) ∧ s.mustHold 2 none = false ∧ s.transfersFull = false ∧
      s.clk.forcedEnd ≤ routine5.at 0 := by decide +kernel

/-- SequencerRuns: the static entry due 8 ticks ahead; an ended command; a span's end; an arm, a halt and a run. -/
theorem test_met_dispatch : let s : State := { loaded with now := 92 }
    let disarmed : State := State.puts { loaded with img := ⟨none, none, [(5, { res5 with armed := false })], none, [], []⟩ }
      [(R.GEN_READY_compute_ready, 1), (R.SEQ_ARM_EPOCH_LO, 11)]
    let past : State := { runningAt 1024 none with now := 2001 }
    s.blockUp 5 = true ∧ (s.slotTable 2)[(0#12).toNat]? = some (5, ⟨100, 200, 0, 1, 3, 1024, true, true⟩) ∧ s.resImage 5 = some res5 ∧
      (s.horizon + 8) % 2048 = 100 ∧ res5.applies ⟨100, 200, 0, 1, 3, 1024, true, true⟩ ((s.horizon + 8) / 2048) = true ∧
      s.entryDue 2 (5, ⟨100, 200, 0, 1, 3, 1024, true, true⟩) = true ∧ s.quiesceDue 5 = false ∧ s.skipReason 2 res5 ⟨100, 200, 0, 1, 3, 1024, true, true⟩ = none ∧
      s.commandOver ⟨.load, true⟩ = true ∧ (past.seq 2).routine = some routine5 ∧ routine5.spanEnd ≤ past.horizon ∧ past.outRuns = [] ∧
      (disarmed.put R.SEQ_ARM_CTRL_slot 5).armResult 5 = 0 ∧ (s.put R.SEQ_ARM_CTRL_slot 6).armResult 6 ≠ 0 ∧ (s.seq 3).mode = .idle ∧
      s.img.resident.any (fun i => i.2.isArmed && (i.2.image.entriesOn 3).any SlotEntry.enable) = false ∧ (ready.seq 0).mode = .halted := by decide +kernel

theorem test_static_dispatch_loads : ((after (.staticDispatch 2 0) { loaded with now := 92 }).seq 2).pc = 1024 ∧
    ((after (.staticDispatch 2 0) { loaded with now := 92 }).seq 2).mode = .running := by decide +kernel

/-- ImageLoader: a load in each phase, and a resident image to unload. -/
theorem test_met_loader : let l : Load := { phase := 9, ctx := 1, src := 4096, len := 455, bytes := [], image := some image5, slot := some 5,
                                            quiesce := some 8, pair := none }
    let s : State := { loaded with img := { loaded.img with load := some l } }
    s.img.load = some l ∧ l.len < 456 ∧ s.img.arriving = none ∧ ready.img.resident = [] ∧ ready.img.load = none ∧ ready.running = true ∧
      (8 : Nat) < s.frame ∧ s.ctxState 1 ≠ 4 ∧ (s.put (R.CTX_STAT_state 1) 4).ctxState 1 = 4 ∧ loaded.img.resident.find? (fun x => decide (x.2.image.id = 77 ∧ x.2.ctx = 1 ∧ x.2.parked = false ∧
        x.2.leaving = false)) = some (5, res5) := by decide +kernel

/-- A descriptor of an opcode, its other bytes 0. -/
def desc (o : Nat) : Desc := { Desc.ofBytes [] with opcode := o, deadline := 12, earliest := 0, span := 2, unit := 0 }

def waitingDesc (o : Nat) : CmdDesc :=
  { ctx := 1, slot := 0, addr := cmdBase, desc := desc o, arrival := (8, 0), accepted := (8, 0), home := none, defers := 0, considered := false,
    phase := .waiting, granted := 0, firstPass := false, dispatched := 0, running := 0, flags := 0, failed := none, seeded := [], signalled := false }

/-- READY, compute_ready, with the rings of context 1 on at 16 entries, a SYNC descriptor submitted in slot 0. -/
def ringed : State :=
  ({ loaded with mem := [(cmdBase, 0x20)] } : State).puts
    [(R.CMD_RING_CFG_sq_log2 1, 4), (R.CMD_RING_CFG_cq_log2 1, 4), (R.CMD_CQ_BASE_LO 1, 4096), (R.CMD_RING_CTRL_en 1, 1), (R.CMD_SQ_PTR_tail 1, 1),
     (R.GEN_READY_compute_ready, 1), (R.THM_LIMIT_p_limit, 500), (R.CTX_BUDGET_dram, 16)]

/-- SequencerRuns: a claim granted 8 ticks ahead, the sequencer it runs on idle. -/
theorem test_met_claim : let d : CmdDesc := { waitingDesc 0x12 with phase := .granted 9 0 [2], granted := 9, home := some 108 }
    let s : State := { ringed with now := 100, descs := [d], pwr := { ringed.pwr with stage2 := some image5.levels } }
    (s.dueClaim 1).map (fun x => (x.1.slot, x.2.1, x.2.2.2.1)) = some (0, 9, [2]) ∧ s.blockUp 5 = true ∧ s.pwr.dusk = none ∧ s.clk.coasting = false ∧
      s.working = true ∧ s.isBench = false ∧ s.plateOf d.desc.plate = none ∧ (s.seq 2).mode = .idle ∧ s.pwr.stage2.isSome = true ∧
      ready.pwr.stage2 = none := by decide +kernel

/-- DescriptorsAccepted: a SYNC that passes acceptance, one that fails, and a reserved opcode. -/
theorem test_met_accept : ringed.blockUp 7 = true ∧ ringed.ringOn 1 = true ∧ (ringed.ring 1).nextAccept ≠ ringed.get (R.CMD_SQ_PTR_tail 1) ∧
    (ringed.slotDesc 1 0).opcode = 0x20 ∧ ringed.syncReady 1 = none ∧ knownOpcode 0x21 = false ∧ (Desc.ofBytes []).opcode ≠ 0x20 ∧ (ringed.slotDesc 1 0).waits = false ∧
    (ringed.slotDesc 1 0).signalsRemote = false ∧ ringed.descTransfers 1 0 = false := by decide +kernel

/-- RingsAndPasses: rings to enable, a doorbell at each edge, completions with room, and passes with one descriptor. -/
theorem test_met_passes : let off := ringed.put (R.CMD_RING_CTRL_en 1) 0
    let p : State := { ringed with now := 1024, descs := [waitingDesc 0x12], img := ⟨none, none, [(5, { res5 with armed := false })], none, [], []⟩ }
    let noPass : State := { p with now := 1536, pwr := { p.pwr with dusk := some ⟨.thermal, false, 9, true, .quiesce⟩ }, descs := [{ waitingDesc 0x12 with desc := { desc 0x12 with deadline := 10 } }] }
    off.ringOn 1 = false ∧ off.ctxResident 1 = true ∧ off.ringsOk 1 = true ∧ ringed.ctxState 1 = 1 ∧ ringed.cqFree 1 = true ∧
      (ringed.put (R.CMD_CQ_PTR_tail 1) 15).cqFree 1 = false ∧ (5 : Nat) < ringed.cqSize 1 ∧ p.passRuns = true ∧ p.tick = 1024 ∧ p.passFrame ≠ 10 ∧ p.staticIn 9 = [] ∧ p.staticIn 10 = [] ∧ p.staticIn 11 = [] ∧
      p.eligible 10 (waitingDesc 0x12) = true ∧ p.serving (waitingDesc 0x12) = [2] ∧ isVectorOp 0x12 = true ∧
      220 * (desc 0x12).span ≤ (p.pLimit - 60) * 20480 ∧ (desc 0x12).dramCharge ≤ 65536 * p.get R.CTX_BUDGET_dram ∧
      noPass.passRuns = false ∧ noPass.tick = 1536 ∧ noPass.passFrame ≠ 10 ∧ State.passHandles 10 (waitingDesc 0x12) = true := by decide +kernel

/-- ContextOperations: registers that CREATE takes and refuses, a context to save, restore, release and drain, a saved one to discard. -/
theorem test_met_contexts : let s := ready.puts [(R.CTX_WIN_base 2 0, 1), (R.CTX_WIN_len 2 0, 1), (R.CTX_SYNC_base 2, 64), (R.CTX_SYNC_count 2, 8)]
    let savedIt : State := { s with saved := [⟨0, 0, 128, 4, []⟩] }
    s.blockUp 8 = true ∧ s.get R.CTX_OP_STAT_busy = 0 ∧ s.ctxState 2 = 0 ∧ firstResult (claimChecks (s.slotClaims 2) (s.otherClaims 2 none)) = 0 ∧
      s.otherClaims 2 none = [] ∧ s.isBench = false ∧ s.running = true ∧ (s.put (R.CTX_STAT_state 2) 4).ctxWorking 2 = false ∧
      s.unloadsPassed 2 = true ∧ s.imagesOf 2 = [] ∧ (s.put (R.CTX_STAT_state 2) 1).saveBusy 2 = false ∧
      savedIt.saved.find? (fun y => y.pair == (s.get R.CTX_OP_ARG_tenant, s.get R.CTX_OP_ARG_job)) = some ⟨0, 0, 128, 4, []⟩ ∧
      s.parkedOf (0, 0) = [] ∧ (s.put R.CTX_OP_STAT_busy 1).get R.CTX_OP_STAT_busy = 1 ∧ s.recordBad 2 = true ∧ (s.put (R.CTX_STAT_state 2) 4).ctxState 2 = 4 ∧
      (2 : Nat) ∉ s.freeing ∧ s.img.load = none := by decide +kernel

theorem test_create : (after (.create 2) (ready.puts [(R.CTX_SYNC_base 2, 64), (R.CTX_SYNC_count 2, 8), (R.SYNC_VAL_value 71, 5), (R.SYNC_VAL_value 72, 6)])).get
      (R.SYNC_VAL_value 71) = 0 ∧
    (after (.create 2) (ready.puts [(R.CTX_SYNC_base 2, 64), (R.CTX_SYNC_count 2, 8), (R.SYNC_VAL_value 72, 6)])).get (R.SYNC_VAL_value 72) = 6 := by
  decide +kernel

/-- A machine of one rack in which port 7 leads to another sled, its port enabled and in state `x`. -/
def wired (x : PortState) : State :=
  ({ ready with fab := { ready.fab with ports := ready.fab.ports.set 7 { PortSt.init with state := x } } } : State).puts
    [(R.GEN_TOPO_assigned, 1), (R.FAB_PORT_CTRL_en 7, 1), (R.FAB_PORT_CTRL_gen_max 7, 1), (R.CTX_STAT_state 1, 1), (R.CTX_SYNC_base 1, 16),
     (R.CTX_SYNC_count 1, 16), (R.CTX_WIN_len 1 0, 1), (R.CTX_BIND_tenant 1, 4)]

/-- PortTraining, FabricTraffic: a port in each state that may train, a good flit, transactions for this package that may and may not act. -/
theorem test_met_ports : (wired .dark).portWhy 7 false = none ∧ failedCause ((wired .dark).port 7).cause = false ∧ failedCause 3 = true ∧ failedCause 9 = true ∧
    failedCause 10 = false ∧ ((wired .dark).port 7).downAt + ((wired .dark).port 7).retryMs * ticksPerMs ≤ (10 ^ 9 : Nat) ∧ ((wired .equalise).port 7).state = .equalise ∧ ((wired .active).port 7).replay = [] ∧
    (wired .active).ctxWith [1, 2] (4, 0) = some 1 ∧ (wired .active).ctxWith [1, 2] (5, 0) = none ∧
    (wired .active).mayAccess 1 0 64 = true ∧ (wired .active).mayAccess 1 65536 65600 = false ∧ (wired .active).inRangeOf 1 31 = true ∧
    (wired .active).portActive 7 = true ∧ primaryPort (wired .active).ownPkg (pkgIndex 0 1 0) = some 7 ∧ (wired .active).fab.tallies.length < 256 ∧ (wired .active).xferQueued 9 = false := by
  decide +kernel

/-- A WRITE of tenant 4 to line 0 of this package, and a RESP. -/
def write4 : Txn := ⟨1, false, false, false, 0, 0, 1, 4, 0, 0, 9, 0, List.replicate 64 7⟩
def resp9 : Txn := ⟨4, false, false, false, 0, 0, 1, 4, 0, 0, 9, 1, zeroLine⟩

theorem test_met_txns : Txn.ofBytes write4.bytes = write4 ∧ malformed write4.bytes = false ∧ malformed resp9.bytes = false ∧
    malformed ({ resp9 with sched := true } : Txn).bytes = true ∧ write4.dst = (wired .active).ownPkg := by decide +kernel

/-- FlitsReadBack: a header and a transaction whose fields fit at their largest. -/
theorem test_met_flits : let h : FlitHead := ⟨65535, 65535, true, false, 3, true, 15, 1023, [3, 3, 3]⟩
    h.seq < 65536 ∧ h.pool < 4 ∧ h.hopClass < 16 ∧ h.credits < 1024 ∧ h.kinds.length = 3 ∧ (∀ k ∈ h.kinds, k < 4) ∧ FlitHead.ofNat h.toNat = h ∧
      write4.kind < 16 ∧ write4.tenant < 1024 ∧ write4.data.length = 64 := by decide +kernel

/-- Half 0 with the weight window on decoder 2. -/
def weighed : State := { loaded with host := { loaded.host with halves := #v[{ upHalf with decoders := #v[⟨true, 0, 0x10000000, 0⟩,
  ⟨true, 0, 0, 0⟩, ⟨true, 0x40000000, 0x40000000, 0xBF0000000⟩, ⟨false, 0, 0, 0⟩] }, HalfSt.init] } }

/-- Int4CodesBecomeLevels, WeightWindow: the code, conductance and reserved regions of tile 0, written and read. -/
theorem test_met_weights : weighed.memServes 0 = true ∧ weighed.claimed 0 (0x40000000#52).toNat = some weightBase ∧ weighed.memoryOnly = false ∧
    (WindowLine.ofDpa weightBase).region = 0 ∧ (WindowLine.ofDpa (weightBase + 0x3FFC0)).region = 0 ∧ (WindowLine.ofDpa (weightBase + 0x40000)).region = 1 ∧
    (WindowLine.ofDpa (weightBase + 0xC0000)).region = 2 ∧ (WindowLine.ofDpa (weightBase + 0x400000)).tile = 1 ∧
    weighed.tileWritable 0 = true ∧ weighed.tileWritable 2 = false ∧ weighed.tileRec 0 = some (res5, plate3, ⟨0, 0, 0, 0, 0, some 1⟩) ∧
    (weighed.fixQueue 0).length < 1024 ∧ weighed.plateQuiet 0 = false ∧ ({ weighed with now := 300 } : State).plateQuiet 0 = true ∧
    ({ weighed with fix := { weighed.fix with refixes := [⟨3, [0, 1], [⟨0, 0⟩]⟩] } } : State).refixRun 0 = some ⟨0, 0⟩ ∧ weighed.refixRun 0 = none ∧
    weighed.readKind (WindowLine.ofDpa weightBase) = .sense ∧ weighed.readKind (WindowLine.ofDpa (weightBase + 0x800000)) = .zero := by decide +kernel

/-- IslandMailboxAndMeterBus: a GET_INFO and a REG_READ that come next, ROM mode, a slave that takes address 253 only when selected. -/
theorem test_met_island : let s : State := State.puts { ready with isl := { ready.isl with mboxOrder := [0] } } [(R.ISL_CH_REQ 0 0, 0x02 + 8 * 2 ^ 16)]
    let rom : State := { s with isl := { s.isl with fw := none } }
    let cold : State := { ready with isl := IslSt.init }
    cold.isl.mode = .cold ∧ s.mboxNext = some 0 ∧ s.mboxCmd 0 = 2 ∧ s.mboxLen 0 = 8 ∧ s.islandUp = true ∧ s.fls.active = none ∧ rom.isl.fw = none ∧ romServes 0x20 = false ∧
      ready.mbusTakes 254 = true ∧ ready.mbusTakes 253 = false ∧ ready.mbusTakes 255 = true ∧ ready.isl.lastFcb ≠ some true ∧
      ready.pendingRecords = [] ∧ ready.isl.mode = .aux ∧ ready.isl.rebuilt = true ∧ ready.commitTooLate = false ∧
      ({ ready with isl := { ready.isl with mode := .hold } } : State).commitTooLate = false ∧
      (State.puts { ready with isl := { ready.isl with mode := .hold } } [(R.BATT_BUDGET_ms, 7)]).commitTooLate = true ∧
      ({ ready with fls := { ready.fls with recoverDue := true } } : State).fls.recoverDue = true ∧ ready.eraseAllowed = true := by decide +kernel

/-- Metering: an enabled channel, a full swapped block that makes a first estimate, an open frame and one that waits. -/
theorem test_met_metering :
    let s := ready.puts [(R.MTR_CH_K 0, 1000), (R.MTR_CH_WIN_open 0, 1), (R.MTR_CH_WIN_close 0, 100)]
    let c : ChanSt := { ChanSt.init with swapped := true, blockCount := 64, blockValid := 32, blockSum := 320, normalMean := some 30 }
    let t : State := { s with mtr := { s.mtr with chans := #v[c, ChanSt.init], openFrame := some 9, frames := [⟨8, 1000, 0⟩] } }
    s.metering = true ∧ ({ s with isl := IslSt.init } : State).metering = false ∧ s.cal (R.MTR_CH_K 0) ≠ 0 ∧ s.cal (R.MTR_CH_K 1) = 0 ∧
      s.transitOk 0 (some 1000) = true ∧ s.transitOk 0 (some 100000) = true ∧ s.transitOk 0 (some 999) = false ∧
      (t.chan 0).swapped = true ∧ 64 ≤ (t.chan 0).blockCount ∧ (t.chan 0).normalMean = some 30 ∧ t.evtActive 14 = false ∧
      t.mtr.openFrame = some 9 ∧ t.accountOf 3 8 = 1025 ∧ t.mtr.dirtyTenants.length < 56 ∧ s.get R.MTR_RTC % 900 = 0 ∧
      s.mtr.intervalRtc ≠ some (s.get R.MTR_RTC) ∧ s.mtr.cycles = [] ∧ s.pendingRecords = [] ∧ s.linkOpen = true ∧
      ({ s with isl := { s.isl with linkUp := false } } : State).linkOpen = false ∧ t.mtr.expired 8 = false ∧
      ({ t.mtr with openFrame := some 600 } : MtrSt).expired 8 = true := by decide +kernel

/-- The first estimate of an offset is half the difference of the means (R554): (30 − 10) / 2 steps of 10 ps, in picoseconds 100. -/
theorem test_offset_estimate : let c : ChanSt := { ChanSt.init with swapped := true, blockCount := 64, blockValid := 32, blockSum := 320, normalMean := some 30 }
    (after (.swapBlockEnd 0) { ready with mtr := { ready.mtr with chans := #v[c, ChanSt.init] } }).get (R.MTR_CH_OFS_EST 0) = 100 := by decide +kernel

/-- FlashAndHousekeeping: a blank word, one programmed, sectors in and out of range, erases running and suspended, a scanner that runs. -/
theorem test_met_flash : let a : FlashOp := ⟨2, true, 3, 0, 0, 0⟩
    let erasing : State := { ready with fls := { ready.fls with active := some a } }
    let suspended : State := { ready with fls := { ready.fls with suspended := [a] } }
    outOfRange false 192 = true ∧ outOfRange false 191 = false ∧ outOfRange true 255 = false ∧ ready.fls.word 5 = blankWord ∧ ready.fls.isTorn 5 = false ∧
      ready.programAllowed = true ∧ ready.eraseAllowed = true ∧ (ready.put R.BATT_BUDGET_ms 13).eraseAllowed = false ∧
      erasing.fls.active = some a ∧ suspended.fls.suspended = [a] ∧ ready.isl.mode = .aux ∧ ready.scanning = true ∧ (dawnAt 3).scanning = false ∧
      ready.get R.THM_STAT_bias_fault = 0 ∧ ready.get R.FLS_RING_erased_ahead < 4 ∧ ready.isl.rebuilt = true ∧ ready.isl.commitDeferred = false ∧
      ({ ready with fls := { ready.fls with torn := [(5, 6)] } } : State).fls.isTorn 5 = true ∧ ready.patrolled true 3 = true ∧
      ready.patrolled true 255 = false ∧ erasing.setAside.isSome = true ∧
      ({ erasing with fls := { erasing.fls with active := some ⟨3, false, 0, 0, 0, 0⟩ } } : State).setAside = none := by decide +kernel

theorem test_program_twice_is_refused : (after (.program 7 5 false) (after (.program 7 5 false) ready)).get R.FLS_LAST_result = 1 ∧
    (after (.program 7 5 false) ready).fls.word 7 = 5 := by decide +kernel

theorem test_die_level : ({ DieSt.init with upShut := 4 } : DieSt).level 0 = 3 ∧ ({ DieSt.init with downRun := 16 } : DieSt).level 2 = 1 ∧
    ({ DieSt.init with downRun := 15 } : DieSt).level 2 = 2 := by decide +kernel

/-! ### The spec's worked examples -/

/-- spec/01: package 349 at rack 2, sled 11, slot 5, and its peers. -/
theorem test_example_package : pkgIndex 2 11 5 = 349 ∧ (List.range 7).map (fun n => (peerOf 349 n).1) = [6, 7, 0, 1, 2, 3, 4].map (pkgIndex 2 11) ∧
    (List.range 4).map (fun n => (peerOf 349 (7 + n)).1) = [10, 9, 15, 3].map (fun s => pkgIndex 2 s 5) ∧ peerOf 0 0 = (1, 6) := by decide

theorem test_example_topo : (ready.puts [(R.GEN_TOPO_assigned, 1), (R.GEN_TOPO_rack, 2), (R.GEN_TOPO_sled, 11), (R.GEN_TOPO_slot, 5),
      (R.GEN_MACHINE_machine_id, 0x0A2C), (R.GEN_MACHINE_racks_minus_one, 2)]).barWord 0x40 = 0x0010015D ∧
    (ready.puts [(R.GEN_MACHINE_machine_id, 0x0A2C), (R.GEN_MACHINE_racks_minus_one, 2)]).barWord 0x44 = 0x00020A2C := by decide +kernel

/-- spec/03: offset 262 is 4 ticks and a part. -/
theorem test_example_delay : offsetTicks 262 = 4 := by decide

/-- spec/04: the registers after a failed attempt. -/
theorem test_example_dawn : let s : State := State.put { ready with pwr := { ready.pwr with dawnRec := ⟨7, 1, 0, 172, true⟩ } } R.GEN_STATE_attempt 1
    s.barWord 0x54 = 0x00001F04 ∧ s.barWord 0x1000C = 0x80000107 ∧ (after .pwrAckDawn s).barWord 0x1000C / 2 ^ 31 = 0 := by decide +kernel

/-- spec/05: CLKOBS and the trim. -/
theorem test_example_clocks : (after (.clkobsSelect 0x00000029) bench).barWord 0x2000C = 0x29 ∧
    (after (.clkobsSelect 0x00000022) (after (.clkobsSelect 0x00000029) bench)).barWord 0x2000C = 0x29 ∧
    bitAt ((after (.clkobsSelect 0x00000022) bench).get R.CLK_EVT) 6 = true ∧ trimNext 256 4036000 4000000 = 166 ∧
    trimNext 166 4000150 4000000 = 166 ∧ trimNext 166 4096250 4096000 = 165 := by decide +kernel

/-- spec/06: 17 sections put the payload at 576. -/
theorem test_example_payload : payloadOffsetOf 17 = 576 := by decide

/-- spec/08: INT8 weights split over two slices; INT4 code −8; the output of A = 1,258 and 1,130 with shift −7. -/
theorem test_example_codes : int8Slices 119 = (7, 7, false) ∧ int8Slices 9 = (1, -7, false) ∧ int8Slices 0xE8 = (-1, -7, true) ∧
    int4Level 8 = (-7, true) ∧ int8Code .nearest ⟨1258, 7⟩ 128 0 = (138, false) ∧ int8Code .nearest ⟨1130, 7⟩ 128 0 = (137, false) ∧
    bf16Of .nearest ⟨1258, 7⟩ 0 = 0x411D := by decide +kernel

/-- spec/09: the chain add, the fused byte, and two compensated adds of 65.125. -/
theorem test_example_compensated : bankStore false (-150 + 1000) = (850, false) ∧ int8Code .nearest ⟨65125, 0⟩ 0 0 = (255, true) ∧
    (compAdd 0x000000004B800000 0x0000000042824000).1 = 0xBF6000004B800021 ∧
    (compAdd 0xBF6000004B800021 0x0000000042824000).1 = 0x3E8000004B800041 := by decide +kernel

/-- e^3 and 1/√3 rounded to FP32, and a free number taken inside the bound of R392 alone. -/
theorem test_activate : activate 3 0 0x40400000 = 0x41A0AF2E ∧ activate 4 0 0x40400000 = 0x3F13CD3A ∧ activate 3 0x41A0AF2F 0x40400000 = 0x41A0AF2F ∧
    activate 3 0x41A0B000 0x40400000 = 0x41A0AF2E ∧ activate 0 0 0xC0400000 = 0 := by decide +kernel

/-- spec/10: the line of tile 70, row 5, and the conductance of its pair (5, 2). -/
theorem test_example_window : (WindowLine.ofDpa (weightBase + 0x11800A00)).tile = 70 ∧ (WindowLine.ofDpa (weightBase + 0x11800A00)).row = 5 ∧
    (WindowLine.ofDpa (weightBase + 0x11800A00)).col = 0 ∧ (WindowLine.ofDpa (weightBase + 0x11841400)).region = 1 ∧
    (WindowLine.ofDpa (weightBase + 0x11841400)).row = 5 := by decide

/-- spec/15: the two links' registers, and the three decoders. -/
theorem test_example_links : let s : State := { ready with host := { ready.host with halves := #v[{ upHalf with width := 8 },
      { upHalf with rate := 2, width := 8, protocol := 2 }] } }
    s.barWord 0x270000 = 0x747 ∧ s.barWord 0x270004 = 0x245 := by decide +kernel

theorem test_example_decoders : let bare : State := { ready with host := { ready.host with halves := #v[{ upHalf with decoders := HalfSt.init.decoders }, HalfSt.init] } }
    let s := after (.hdmCommit 0 1 0x4C00000000 0x10000000 0 1) (after (.hdmCommit 0 0 0x4000000000 0xBE0000000 0 1) bare)
    (after (.hdmCommit 0 2 0x4D00000000 0x40000000 0 1) s).out.head? = some (.hdm 0 2 false) ∧
      (after (.hdmCommit 0 2 0x4D00000000 0x40000000 0x10000000 1) s).out.head? = some (.hdm 0 2 true) := by decide +kernel

theorem test_example_ring_address : let bare : State := { ready with host := { ready.host with halves := #v[{ upHalf with decoders := HalfSt.init.decoders }, HalfSt.init] } }
    (after (.hdmCommit 0 1 0x4C00000000 0x10000000 0 1) (after (.hdmCommit 0 0 0x4000000000 0xBE0000000 0 1) bare)).claimed 0 0x4C00050000 =
      some (cmdBase + 0x50000) := by decide +kernel

/-- spec/16: the budget at four voltages, and GET_INFO's words. -/
theorem test_example_budget : budgetMs 2500 = 4 ∧ budgetMs 3000 = 32 ∧ budgetMs 3200 = 44 ∧ budgetMs 3070 = 36 := by decide

theorem test_example_get_info :
    let fw : FwCopy := ⟨0, ⟨33, some (3, 4), some (16, 31), none, none, none, none⟩, 0⟩
    let s : State := State.puts { ready with isl := { ready.isl with mboxOrder := [0], vbat := 3600, vhold := 3200, fw := some fw } } [(R.ISL_CH_REQ 0 0, 1), (R.ISL_CH_REQ 0 1, 0x51)]
    (List.range 8).map (fun w => (after (.getInfo 0) s).get (R.ISL_CH_RSP 0 w)) =
      [0x00200001, 0x51, 0, 0, 0x00030021, 0x00100004, 0x1F, 0x0C800E10] := by decide +kernel

/-- spec/17: an offset estimate of 0.120 ns, and the temperatures of two ratios to within a microkelvin's rounding. -/
theorem test_example_offset : let c : ChanSt := { ChanSt.init with swapped := true, blockCount := 64, blockValid := 40, blockSum := 22772, normalMean := some (5933 / 10) }
    (after (.swapBlockEnd 0) { ready with mtr := { ready.mtr with chans := #v[c, ChanSt.init] } }).get (R.MTR_CH_OFS_EST 0) = 0x78 := by decide +kernel

theorem test_example_temperature : roundRat (rtdTheta (1116729 / 1000000)) = 30000 ∧ roundRat (rtdTheta (1136083 / 1000000)) = 35000 := by
  decide +kernel

theorem test_example_enthalpy : interpolate (enthalpyTable false) 35000 - interpolate (enthalpyTable false) 30000 = 209 / 10 ∧
    interpolate (enthalpyTable false) 34000 = 14242 / 100 ∧ interpolate (rhoTable false) 30000 = 9957 / 10 := by decide +kernel

/-- spec/18: the erase log's words. -/
theorem test_example_log : logEntry 0x42 true 121 0x1A2F = 0x00001A2F0000F342 ∧ logEntry 0x44 true 121 0x1A31 = 0x00001A310000F344 := by decide

/-- spec/19: a fourth round at the threshold is overcast, a restart is not. -/
theorem test_example_overcast : ({ DieSt.init with upOver := 4, upWarn := 9 } : DieSt).level 1 = 2 ∧
    ({ DieSt.init with upOver := 3, upWarn := 9 } : DieSt).level 1 = 1 := by decide

end Sys2Proof.Tests
end

section
/-!
PROOFS. Bits of register contents: `bits`, `bitAt` and `clearBits` bit by bit.
-/

namespace Sys2Proof.Machine

theorem bitAt_eq_testBit (n i : Nat) : bitAt n i = n.testBit i := by
  rw [bitAt, Nat.testBit_eq_decide_div_mod_eq]; rfl

theorem bitAt_mod_two_pow (n w i : Nat) (h : i < w) : bitAt (n % 2 ^ w) i = bitAt n i := by
  simp [bitAt_eq_testBit, h]

theorem bitAt_bits (n lo w i : Nat) (h : i < w) : bitAt (bits n lo w) i = bitAt n (lo + i) := by
  rw [bits, bitAt_mod_two_pow _ _ _ h]
  simp [bitAt_eq_testBit, Nat.testBit_div_two_pow, Nat.add_comm]

/-- Clearing bits works bit by bit: the halves of the difference are the difference of the halves. -/
theorem bitAt_clearBits (a b i : Nat) : bitAt (clearBits a b) i = (bitAt a i && !bitAt b i) := by
  simp only [bitAt_eq_testBit]
  show (a - (a &&& b)).testBit i = _
  induction i generalizing a b with
  | zero =>
    have hle : a &&& b ≤ a := Nat.and_le_left
    have hbit : (a &&& b) % 2 = 1 ↔ a % 2 = 1 ∧ b % 2 = 1 := Nat.and_mod_two_eq_one
    rw [Bool.eq_iff_iff]
    simp only [Nat.testBit_zero, decide_eq_true_eq, Bool.and_eq_true, Bool.not_eq_true', decide_eq_false_iff_not]
    omega
  | succ i ih =>
    have hle : a &&& b ≤ a := Nat.and_le_left
    have hbit : (a &&& b) % 2 = 1 ↔ a % 2 = 1 ∧ b % 2 = 1 := Nat.and_mod_two_eq_one
    have hhalf : (a &&& b) / 2 = a / 2 &&& b / 2 := Nat.and_div_two
    have hdiff : (a - (a &&& b)) / 2 = a / 2 - (a / 2 &&& b / 2) := by omega
    rw [Nat.testBit_add_one, hdiff, ih, Nat.testBit_add_one, Nat.testBit_add_one]

end Sys2Proof.Machine
end

section
/-!
PROOFS. Where the fields of a register lie: every field of `fieldsAt off` has the offset `off` and a lowest bit below 32 (R14, R17).
-/

namespace Sys2Proof.Machine

/-- The fields lie in the register at `off`. -/
def LieAt (off : Nat) (l : List Fld) : Prop := ∀ f ∈ l, f.off = off ∧ f.lo < 32

theorem LieAt.nil (off : Nat) : LieAt off [] := by simp [LieAt]

theorem LieAt.cons {off : Nat} {f : Fld} {l : List Fld} (hoff : f.off = off) (hlo : f.lo.blt 32 = true) (hl : LieAt off l) :
    LieAt off (f :: l) := by
  simpa [LieAt, hoff] using ⟨by simpa using hlo, hl⟩

theorem LieAt.append {off : Nat} {l m : List Fld} (hl : LieAt off l) (hm : LieAt off m) : LieAt off (l ++ m) :=
  List.forall_mem_append.2 ⟨hl, hm⟩

theorem LieAt.ite {off : Nat} {l m : List Fld} {c : Prop} [Decidable c] (hl : LieAt off l) (hm : LieAt off m) :
    LieAt off (if c then l else m) := by
  split <;> assumption

theorem LieAt.fixed {off : Nat} {l : List Fld} (h : l.all (fun f => f.lo.blt 32) = true) :
    LieAt off (l.filter (fun f => f.off == off)) := by
  intro f hf
  obtain ⟨hmem, hoff⟩ := List.mem_filter.1 hf
  exact ⟨by simpa using hoff, by simpa using List.all_eq_true.1 h f hmem⟩

theorem LieAt.strided {off base stride count : Nat} {fs : Nat → List Fld} (h : ∀ n, LieAt (base + stride * n) (fs n)) :
    LieAt off (strided off base stride count fs) := by
  unfold Machine.strided
  split
  case isTrue hin =>
    obtain ⟨hbase, hmod, -⟩ := hin
    have hoff : base + stride * ((off - base) / stride) = off := by
      rw [Nat.mul_div_cancel' (Nat.dvd_of_mod_eq_zero hmod)]; omega
    simpa only [hoff] using h ((off - base) / stride)
  case isFalse => exact LieAt.nil off

theorem LieAt.strided2 {off base s1 c1 s2 c2 : Nat} {fs : Nat → Nat → List Fld}
    (h : ∀ n k, LieAt (base + s1 * n + s2 * k) (fs n k)) : LieAt off (strided2 off base s1 c1 s2 c2 fs) := by
  unfold Machine.strided2
  split
  case isTrue => exact LieAt.strided (h _)
  case isFalse => exact LieAt.nil off


/-- One register is one 32-bit word (R17): every table entry listed at an offset lies there. -/
theorem lieAt_fieldsAt (off : Nat) : LieAt off (fieldsAt off) := by
  unfold fieldsAt genFieldsAt pwrFieldsAt clkFieldsAt hznFieldsAt imgFieldsAt seqFieldsAt tileFieldsAt cmdFieldsAt ctxFieldsAt
    syncFieldsAt fabFieldsAt hostFieldsAt thmFieldsAt pmuFieldsAt islFieldsAt mtrFieldsAt flsFieldsAt mbusFieldsAt battFieldsAt
    oscFieldsAt sealFieldsAt tmapFieldsAt
  with_reducible repeat' apply LieAt.ite
  with_reducible repeat' apply LieAt.append
  all_goals apply_rules [LieAt.fixed, LieAt.strided, LieAt.strided2, LieAt.nil]
  all_goals
    intros
    apply_rules [LieAt.cons, LieAt.nil]

end Sys2Proof.Machine
end

section
/-!
PROOFS. What signals leave alone, and what a written word does to the fields of its register (R15).
-/

namespace Sys2Proof.Machine

/-! ### What signals leave alone -/

theorem Signals.trans {l : List Fld} {s t u : State} (h1 : Signals l s t) (h2 : Signals l t u) : Signals l s u :=
  ⟨h1.1.trans h2.1, h1.2.trans h2.2⟩

theorem Signals.refl (l : List Fld) (s : State) : Signals l s s := ⟨rfl, FieldsButPmu.rfl' l s⟩

theorem State.pmu_signals (s : State) (code : Nat) (ctx : Option Nat) (inc : Nat) (l : List Fld) :
    Signals l s (s.pmu code ctx inc) :=
  ⟨s.pmu_only code ctx inc, s.pmu_fields code ctx inc l⟩

theorem State.emit_signals (s : State) (o : Out) (l : List Fld) : Signals l s (s.emit o) := ⟨rfl, fun _ _ _ => rfl⟩

theorem State.pmu_get (s : State) (code : Nat) (ctx : Option Nat) (inc : Nat) {g : Fld} (hg : ¬ inPmu g) :
    (s.pmu code ctx inc).get g = s.get g :=
  s.pmu_fields code ctx inc [] g hg (by simp)

theorem OnlySignals.pwr {s t : State} (h : OnlySignals s t) : t.pwr = s.pwr := by rw [h]
theorem OnlySignals.clk {s t : State} (h : OnlySignals s t) : t.clk = s.clk := by rw [h]
theorem OnlySignals.caps {s t : State} (h : OnlySignals s t) : t.caps = s.caps := by rw [h]
theorem OnlySignals.freeIx {s t : State} (h : OnlySignals s t) : t.freeIx = s.freeIx := by rw [h]

theorem State.blockUp_congr {s t : State} (hpwr : t.pwr = s.pwr) (hclk : t.clk = s.clk)
    (hcauses : t.get R.GEN_HOLD_CAUSE_causes = s.get R.GEN_HOLD_CAUSE_causes)
    (hauth : t.get R.GEN_HOLD_CAUSE_auth_image = s.get R.GEN_HOLD_CAUSE_auth_image) (n : Nat) : t.blockUp n = s.blockUp n := by
  simp only [State.blockUp, State.controlUp, State.memoryOnly, State.isBench, State.stopping, hpwr, hclk, hcauses, hauth]

@[simp] theorem State.pmu_blockUp (s : State) (code : Nat) (ctx : Option Nat) (inc n : Nat) :
    (s.pmu code ctx inc).blockUp n = s.blockUp n :=
  State.blockUp_congr (s.pmu_only code ctx inc).pwr (s.pmu_only code ctx inc).clk (s.pmu_get _ _ _ (by decide))
    (s.pmu_get _ _ _ (by decide)) n

@[simp] theorem State.pmu_inCxlReset (s : State) (code : Nat) (ctx : Option Nat) (inc : Nat) :
    (s.pmu code ctx inc).inCxlReset = s.inCxlReset := by
  simp only [State.inCxlReset, (s.pmu_only code ctx inc).pwr]

@[simp] theorem State.pmu_freeIx (s : State) (code : Nat) (ctx : Option Nat) (inc : Nat) :
    (s.pmu code ctx inc).freeIx = s.freeIx := (s.pmu_only code ctx inc).freeIx

@[simp] theorem State.pmu_captured (s : State) (code : Nat) (ctx : Option Nat) (inc k o : Nat) :
    (s.pmu code ctx inc).captured k o = s.captured k o := by
  simp only [State.captured, (s.pmu_only code ctx inc).caps]

/-! ### Fields under a written word -/

theorem State.writeFields_only (l : List Fld) (lk : Bool) (w : Nat) (s : State) : OnlyRegs s (l.foldl (State.writeField lk w) s) := by
  induction l generalizing s with
  | nil => rfl
  | cons f l ih => exact (s.put_only f _).trans (ih _)

theorem State.get_writeFields_other (l : List Fld) (lk : Bool) (w : Nat) (s : State) (g : Fld) (h : ∀ f ∈ l, g.key ≠ f.key) :
    (l.foldl (State.writeField lk w) s).get g = s.get g := by
  induction l generalizing s with
  | nil => rfl
  | cons f l ih =>
    obtain ⟨hf, hl⟩ := List.forall_mem_cons.1 h
    rw [List.foldl_cons, ih _ hl]
    exact State.get_put_other s f g _ hf

theorem State.get_writeFields_mem (l : List Fld) (lk : Bool) (w : Nat) (s : State) (hl : (l.map Fld.key).Nodup) (f : Fld) (hf : f ∈ l) :
    (l.foldl (State.writeField lk w) s).get f = f.written lk (s.get f) w % 2 ^ f.w := by
  induction l generalizing s with
  | nil => cases hf
  | cons g l ih =>
    rw [List.map_cons, List.nodup_cons, List.mem_map] at hl
    obtain ⟨hg, hl⟩ := hl
    rw [List.foldl_cons]
    rcases List.mem_cons.1 hf with rfl | hf
    · rw [State.get_writeFields_other l lk w _ f (fun x hx hk => hg ⟨x, hx, hk.symm⟩)]
      exact State.get_put_same s f _
    · have hkey : f.key ≠ g.key := fun hk => hg ⟨f, hf, hk⟩
      rw [ih _ hl hf, State.writeField, State.get_put_other s g f _ hkey]

/-- A written word changes the fields of its register and nothing else. -/
theorem State.accWrite_signals (s : State) (off w : Nat) (lk : Bool) : Signals (fieldsAt off) s (s.accWrite off w lk) :=
  ⟨(State.writeFields_only _ lk w s).signals, fun g _ hg => State.get_writeFields_other _ lk w s g hg⟩

/-- A field lies in its register's 32 bits, so a written word reaches no key outside them (R17). -/
theorem State.get_accWrite_outside (s : State) (off w : Nat) (lk : Bool) (g : Fld) (hg : ¬ (32 * off ≤ g.key ∧ g.key < 32 * off + 32)) :
    (s.accWrite off w lk).get g = s.get g := by
  refine State.get_writeFields_other _ lk w s g (fun f hf hk => hg ?_)
  obtain ⟨hoff, hlo⟩ := lieAt_fieldsAt off f hf
  rw [hk, Fld.key, hoff]
  omega

/-- R15's access codes, read back from the field: what is put is cut to the field's width. -/
theorem takesWrite_of_written {f : Fld} {lk : Bool} {v : Nat} {s t : State} (h : t.get f = f.written lk (s.get f) v % 2 ^ f.w) :
    TakesWrite f v s t := by
  refine ⟨fun ha => ?_, fun ha i hi => ?_, fun ha i hi => ?_⟩
  · rw [h, Fld.written, ha]
    exact Nat.mod_mod _ _
  · rw [h, Fld.written, ha, bitAt_mod_two_pow _ _ _ hi, bitAt_clearBits, bitAt_bits _ _ _ _ hi]
  · rw [h, Fld.written, ha, bitAt_mod_two_pow _ _ _ hi]

theorem State.accWrite_takes (s : State) (off w : Nat) (lk : Bool) (hnd : ((fieldsAt off).map Fld.key).Nodup) :
    ∀ f ∈ fieldsAt off, TakesWrite f w s (s.accWrite off w lk) :=
  fun f hf => takesWrite_of_written (State.get_writeFields_mem _ lk w s hnd f hf)

theorem TakesWrite.of_get_eq {f : Fld} {v : Nat} {r s t : State} (h : TakesWrite f v s t) (hget : s.get f = r.get f) : TakesWrite f v r t := by
  unfold TakesWrite at *
  rwa [hget] at h

/-! ### The registers that only their access codes govern -/

theorem plainRegs_aligned : ∀ off ∈ plainRegs, 4 * ((BitVec.ofNat 22 off).toNat / 4) = off := by decide +kernel

theorem plainRegs_nodup : ∀ off ∈ plainRegs, ((fieldsAt off).map Fld.key).Nodup := by decide +kernel

theorem plainRegs_not_pmu : ∀ off ∈ plainRegs, ∀ f ∈ fieldsAt off, ¬ inPmu f := by decide +kernel

theorem plainRegs_not_table : ∀ off ∈ plainRegs, ¬ (0x260000 ≤ off ∧ off < 0x260400) := by decide +kernel

theorem State.blockWrite_plain (s : State) (half : Option (Fin 2)) (w : Nat) :
    ∀ off ∈ plainRegs, s.blockWrite half off w = s.accWrite off w false := by
  simp only [plainRegs, List.forall_mem_cons, List.not_mem_nil, false_imp_iff, implies_true, and_true]
  and_intros <;> rfl

theorem State.shielded_plain (s : State) : ∀ off ∈ plainRegs, s.shielded off = false := by
  simp only [plainRegs, List.forall_mem_cons, List.not_mem_nil, false_imp_iff, implies_true, and_true]
  and_intros <;> rfl

end Sys2Proof.Machine
end

section
/-!
PROOFS. REGISTER_WRITE and MISALIGNED_ACCESS by a half (R15, R18, R22).
-/

namespace Sys2Proof.Machine

/-! ### A half's write -/

theorem exec_registerWrite (h : Fin 2) (off : BitVec 22) (v : Word) (s : State) :
    exec (.registerWrite h off v) s = .next (if s.barServes h then s.hostBarWrite h (4 * (off.toNat / 4)) v.toNat else s) := rfl

/-- A block is open to a half: no CXL reset runs, or the block is HOST (R501). -/
def State.OpenTo (s : State) (off : Nat) : Prop := s.inCxlReset = false ∨ barBlock off = 11

theorem State.hostBarWrite_open (s : State) (h : Fin 2) (off w : Nat) (ho : s.OpenTo off) (hup : s.blockUp (barBlock off) = true) :
    s.hostBarWrite h off w = (s.pmu 0xE5 none 1).blockWrite (some h) off w := by
  have hgo : (s.inCxlReset && barBlock off != 11) = false := by
    rcases ho with ho | ho <;> simp [ho]
  simp [State.hostBarWrite, State.barWrite, hup, hgo]

theorem State.hostBarWrite_closed (s : State) (h : Fin 2) (off w : Nat) (hup : s.blockUp (barBlock off) = false) :
    s.hostBarWrite h off w = s.pmu 0xE5 none 1 := by
  simp [State.hostBarWrite, State.barWrite, hup]

/-- A half's write of a register that its access codes alone govern: the access is counted, and the fields take the word. -/
theorem registerWrite_plain (h : Fin 2) (v : Word) (s : State) (off : Nat) (hs : s.barServes h = true) (ho : s.OpenTo off)
    (hoff : off ∈ plainRegs) (hup : s.blockUp (barBlock off) = true) :
    ∃ t, exec (.registerWrite h (BitVec.ofNat 22 off) v) s = .next t ∧ Signals (fieldsAt off) s t ∧
      ∀ f ∈ fieldsAt off, TakesWrite f v.toNat s t := by
  refine ⟨(s.pmu 0xE5 none 1).accWrite off v.toNat false, ?_, ?_, fun f hf => ?_⟩
  · rw [exec_registerWrite, if_pos hs, plainRegs_aligned off hoff, State.hostBarWrite_open _ _ _ _ ho hup,
      State.blockWrite_plain _ _ _ off hoff]
  · exact (s.pmu_signals _ _ _ _).trans (State.accWrite_signals _ off _ _)
  · exact (State.accWrite_takes _ off _ _ (plainRegs_nodup off hoff) f hf).of_get_eq (s.pmu_get _ _ _ (plainRegs_not_pmu off hoff f hf))

/-- A half's write that changes no field: only the access is counted. -/
theorem registerWrite_counted (h : Fin 2) (off : BitVec 22) (v : Word) (s : State) (hs : s.barServes h = true)
    (hw : s.hostBarWrite h (4 * (off.toNat / 4)) v.toNat = s.pmu 0xE5 none 1) :
    ∃ t, exec (.registerWrite h off v) s = .next t ∧ Signals [] s t :=
  ⟨s.pmu 0xE5 none 1, by rw [exec_registerWrite, if_pos hs, hw], s.pmu_signals _ _ _ _⟩

/-! ### Narrow and misaligned accesses -/

theorem exec_misalignedAccess_unserved (h : Fin 2) (off : BitVec 22) (w : Bool) (s : State) (hs : s.barServes h = false) :
    exec (.misalignedAccess h off w) s = .next s := by
  show execMisalignedAccess h off w s = _
  simp [execMisalignedAccess, hs]

theorem exec_misalignedRead (h : Fin 2) (off : BitVec 22) (s : State) (hs : s.barServes h = true) :
    exec (.misalignedAccess h off false) s =
      .next ((s.pmu 0xE5 none 1).free.2.emit (.word h.val (Config.free s.freeIx % 2 ^ 32))) := by
  show execMisalignedAccess h off false s = _
  simp [execMisalignedAccess, hs, State.free]

theorem exec_misalignedWrite (h : Fin 2) (off : BitVec 22) (s : State) (hs : s.barServes h = true) :
    exec (.misalignedAccess h off true) s = .next ((s.pmu 0xE5 none 1).narrowWrite h (4 * (off.toNat / 4))) := by
  show execMisalignedAccess h off true s = _
  simp [execMisalignedAccess, hs]

/-- The count of free values used takes no part in what signals change. -/
theorem OnlySignals.withFreeIx {s t : State} (h : OnlySignals s t) (k : Nat) :
    OnlySignals { s with freeIx := k } { t with freeIx := k } := by
  rw [h]; rfl

theorem Signals.withFreeIx {l : List Fld} {s t : State} (h : Signals l s t) (k : Nat) :
    Signals l { s with freeIx := k } { t with freeIx := k } :=
  ⟨h.1.withFreeIx k, h.2⟩

/-- What a narrow write does where the block answers: it writes a free word of the MSI-X table, nothing, or free bits into the
addressed register. -/
theorem State.narrowWrite_cases (s : State) (h : Fin 2) (off : Nat) (hc : s.inCxlReset = false) (hup : s.blockUp (barBlock off) = true) :
    (∃ x, s.narrowWrite h off = s.free.2.setHalf h x) ∨ s.narrowWrite h off = s ∨
      s.narrowWrite h off = s.free.2.accWrite off s.free.1 true := by
  unfold State.narrowWrite State.regScramble
  simp only [hc, hup, Bool.false_and, Bool.not_true, Bool.or_self, Bool.false_eq_true, if_false]
  split_ifs
  · exact .inl ⟨_, rfl⟩
  · exact .inr (.inl rfl)
  · exact .inr (.inr rfl)

/-- A narrow write uses one free value or none, and leaves the fields outside the addressed register. -/
theorem State.narrowWrite_reach (s : State) (h : Fin 2) (off : Nat) (hc : s.inCxlReset = false) (hup : s.blockUp (barBlock off) = true) :
    let t := s.narrowWrite h off
    OnlySignals { s with freeIx := t.freeIx } t ∧ (t.freeIx = s.freeIx ∨ t.freeIx = s.freeIx + 1) ∧
      ∀ g : Fld, ¬ (32 * off ≤ g.key ∧ g.key < 32 * off + 32) → t.get g = s.get g := by
  rcases s.narrowWrite_cases h off hc hup with ⟨x, ht⟩ | ht | ht <;> simp only [ht]
  · exact ⟨rfl, .inr rfl, fun _ _ => rfl⟩
  · exact ⟨rfl, .inl trivial, fun _ _ => trivial⟩
  · have hix := (State.accWrite_signals s.free.2 off s.free.1 true).1.freeIx
    refine ⟨?_, .inr hix, fun g hg => State.get_accWrite_outside _ off _ true g hg⟩
    rw [hix]
    exact (State.accWrite_signals s.free.2 off s.free.1 true).1

/-- In a register that its access codes alone govern, a narrow write is a write of the free value. -/
theorem State.narrowWrite_plain (s : State) (h : Fin 2) (off : Nat) (hc : s.inCxlReset = false) (hup : s.blockUp (barBlock off) = true)
    (hoff : off ∈ plainRegs) (hg : governs off = false) :
    s.narrowWrite h off = s.free.2.accWrite off s.free.1 true := by
  have htable := plainRegs_not_table off hoff
  unfold State.narrowWrite State.regScramble
  rw [State.shielded_plain s off hoff, hg]
  simp only [hc, hup, Bool.false_and, Bool.not_true, Bool.or_self, Bool.false_eq_true, if_false]
  rw [if_neg (fun h => htable ⟨h.1, h.2.1⟩)]

theorem misalignedRead_free (h : Fin 2) (off : BitVec 22) (s : State) (hs : s.barServes h = true) :
    ∃ t, exec (.misalignedAccess h off false) s = .next t ∧ t.out.head? = some (.word h.val (Config.free s.freeIx % 2 ^ 32)) ∧
      t.freeIx = s.freeIx + 1 ∧ Signals [] { s with freeIx := t.freeIx } t := by
  have hix : (s.pmu 0xE5 none 1).free.2.freeIx = s.freeIx + 1 := by simp
  refine ⟨_, exec_misalignedRead h off s hs, rfl, hix, ?_⟩
  rw [State.emit_freeIx]
  exact ((s.pmu_signals 0xE5 none 1 []).withFreeIx _).trans (State.emit_signals _ _ [])

theorem misalignedWrite_reach (h : Fin 2) (off : BitVec 22) (s : State) (hs : s.barServes h = true) (hc : s.inCxlReset = false)
    (hup : s.blockUp (barBlock (4 * (off.toNat / 4))) = true) :
    ∃ t, exec (.misalignedAccess h off true) s = .next t ∧ OnlySignals { s with freeIx := t.freeIx } t ∧
      (t.freeIx = s.freeIx ∨ t.freeIx = s.freeIx + 1) ∧
      ∀ g : Fld, ¬ inPmu g → ¬ (32 * (4 * (off.toNat / 4)) ≤ g.key ∧ g.key < 32 * (4 * (off.toNat / 4)) + 32) → t.get g = s.get g := by
  obtain ⟨honly, hix, hget⟩ := (s.pmu 0xE5 none 1).narrowWrite_reach h (4 * (off.toNat / 4)) (by simpa using hc) (by simpa using hup)
  refine ⟨_, exec_misalignedWrite h off s hs, ((s.pmu_only 0xE5 none 1).withFreeIx _).trans honly, by simpa using hix, ?_⟩
  exact fun g hg hoff => (hget g hoff).trans (s.pmu_get _ _ _ hg)

theorem misalignedWrite_plain (h : Fin 2) (off : BitVec 22) (s : State) (hs : s.barServes h = true) (hc : s.inCxlReset = false)
    (hup : s.blockUp (barBlock (4 * (off.toNat / 4))) = true) (hoff : 4 * (off.toNat / 4) ∈ plainRegs)
    (hg : governs (4 * (off.toNat / 4)) = false) :
    ∃ t, exec (.misalignedAccess h off true) s = .next t ∧ t.freeIx = s.freeIx + 1 ∧
      Signals (fieldsAt (4 * (off.toNat / 4))) { s with freeIx := t.freeIx } t ∧
      ∀ f ∈ fieldsAt (4 * (off.toNat / 4)), TakesWrite f (Config.free s.freeIx) s t := by
  generalize hoff' : 4 * (off.toNat / 4) = o at *
  let s1 := s.pmu 0xE5 none 1
  have hval : s1.free.1 = Config.free s.freeIx := congrArg Config.free (State.pmu_freeIx ..)
  have hix : (s1.free.2.accWrite o (Config.free s.freeIx) true).freeIx = s.freeIx + 1 := by
    rw [(State.accWrite_signals _ o _ true).1.freeIx, State.free_freeIx, State.pmu_freeIx]
  refine ⟨s1.free.2.accWrite o (Config.free s.freeIx) true, ?_, hix, ?_, fun f hf => ?_⟩
  · rw [exec_misalignedWrite h off s hs, hoff', State.narrowWrite_plain _ h o (by simpa using hc) (by simpa using hup) hoff hg, hval]
  · rw [hix]
    have hfree : s1.free.2 = { s1 with freeIx := s.freeIx + 1 } := by simp [State.free, s1]
    rw [hfree]
    exact ((s.pmu_signals 0xE5 none 1 _).withFreeIx _).trans (State.accWrite_signals _ o _ true)
  · exact (State.accWrite_takes s1.free.2 o _ true (plainRegs_nodup o hoff) f hf).of_get_eq
      (s.pmu_get _ _ _ (plainRegs_not_pmu o hoff f hf))

/-- An offset of the HOST block with no register (R22). -/
theorem State.blockWrite_hole (s : State) (half : Option (Fin 2)) (w : Nat) : s.blockWrite half 0x270044 w = s := rfl

/-- Settles O27: a half's access reaches `blockWrite` or `narrowWrite` of the addressed register alone, and there the fields take the
word by their access codes (`accWrite_takes`). -/
theorem registerWritesByAccessCode : Obligations.RegisterWritesByAccessCode := by
  unfold Obligations.RegisterWritesByAccessCode
  refine ⟨fun h v s hs hc off hoff hup => registerWrite_plain h v s off hs (.inl hc) hoff hup,
    fun h v s hs hup => ⟨?_, ?_, ?_⟩, fun h off v s => ⟨fun hs => ?_, fun hs hup => ?_⟩,
    fun h off s => ⟨fun hs w => exec_misalignedAccess_unserved h off w s hs, fun hs => ⟨misalignedRead_free h off s hs,
      fun hc hup => ⟨misalignedWrite_reach h off s hs hc hup, misalignedWrite_plain h off s hs hc hup⟩⟩⟩⟩
  · obtain ⟨t, hexec, hsig, htake⟩ := registerWrite_plain h v s 0x270010 hs (.inr rfl) (by decide) hup
    have hrw : ∀ f ∈ fieldsAt 0x270010, t.get f = bits v.toNat f.lo f.w := fun f hf => (htake f hf).1 (by revert f; decide)
    exact ⟨t, hexec, hsig, hrw R.HOST_IRQ_MAP0_power (by decide), hrw R.HOST_IRQ_MAP0_hzn (by decide),
      hrw R.HOST_IRQ_MAP0_clk (by decide), hrw R.HOST_IRQ_MAP0_img (by decide)⟩
  · obtain ⟨t, hexec, hsig, htake⟩ := registerWrite_plain h v s 0x270008 hs (.inr rfl) (by decide) hup
    obtain ⟨-, hclears, -⟩ := htake R.HOST_EVT (by decide)
    refine ⟨t, hexec, hsig, fun i => ?_⟩
    rw [hclears rfl i.val i.isLt, bitAt_eq_testBit v.toNat, show R.HOST_EVT.lo + i.val = i.val from Nat.zero_add _]
    rfl
  · refine registerWrite_counted h _ v s hs ?_
    exact (State.hostBarWrite_open s h 0x270044 v.toNat (.inr rfl) hup).trans (State.blockWrite_hole _ _ _)
  · rw [exec_registerWrite, hs]; rfl
  · exact registerWrite_counted h off v s hs (State.hostBarWrite_closed s h _ _ hup)

end Sys2Proof.Machine
end

section
/-!
PROOFS. LO_WORD_READ: reads of the words of a pair (R17).
-/

namespace Sys2Proof.Machine

/-! ### Reads of a pair (R17) -/

theorem exec_loWordRead (h : Fin 2) (off : BitVec 22) (s : State) (hs : s.barServes h = true) (hoff : off.toNat % 4 = 0) :
    exec (.loWordRead h off) s = .next (((s.pmu 0xE5 none 1).hostBarRead h off.toNat).2.emit
      (.word h.val ((s.pmu 0xE5 none 1).hostBarRead h off.toNat).1)) := by
  have haligned : 4 * (off.toNat / 4) = off.toNat := by omega
  show execLoWordRead h off s = _
  simp only [execLoWordRead, hs, if_true, haligned]

/-- Where the pairs lie: neither they nor the words after them are the tile window or in the HOST block's areas. -/
theorem pairLow_plain {off : Nat} (h : pairLow off = true) :
    (off ≠ 0x100008 ∧ ¬ (0x240000 ≤ off ∧ off < 0x270000)) ∧
      (off + 4 ≠ 0x100008 ∧ ¬ (0x240000 ≤ off + 4 ∧ off + 4 < 0x270000)) := by
  simp [pairLow] at h
  omega

theorem State.hostBarRead_reg (s : State) (h : Fin 2) (off : Nat) (hc : s.inCxlReset = false) (hup : s.blockUp (barBlock off) = true)
    (hplain : off ≠ 0x100008 ∧ ¬ (0x240000 ≤ off ∧ off < 0x270000)) : s.hostBarRead h off = s.regRead hostAccessor off := by
  obtain ⟨hwindow, harea⟩ := hplain
  simp [State.hostBarRead, State.barRead, hc, hup, hwindow, harea]

theorem State.regRead_low (s : State) (k off : Nat) (h : pairLow off = true) :
    s.regRead k off = (s.barWord off, s.capture k (off + 4) (s.barWord (off + 4))) := by
  rw [State.regRead, if_pos h]

theorem State.regRead_high (s : State) (k off : Nat) (h : pairLow off = false) (h4 : 4 ≤ off) (hlow : pairLow (off - 4) = true) :
    s.regRead k off = ((s.captured k off).getD (s.barWord off), s) := by
  rw [State.regRead, if_neg (by simp [h]), if_pos ⟨h4, hlow⟩]
  cases s.captured k off <;> rfl

theorem State.captured_capture_same (s : State) (k off v : Nat) : (s.capture k off v).captured k off = some v := by
  simp [State.captured, State.capture]

/-- Captures of two accessors, or of two offsets, are kept apart: an offset is below 2^28. -/
theorem State.captured_capture_other (s : State) (k off v k' off' : Nat) (hoff : off < 2 ^ 28) (hoff' : off' < 2 ^ 28)
    (hne : k' ≠ k ∨ off' ≠ off) : (s.capture k off v).captured k' off' = s.captured k' off' := by
  have hkey : k' * 2 ^ 28 + off' ≠ k * 2 ^ 28 + off := by omega
  simp only [State.captured, State.capture, SMap.get_set_other _ _ _ _ _ hkey]

/-- A half's read of a high word. -/
theorem loWordRead_high (h : Fin 2) (off : BitVec 22) (s : State) (hs : s.barServes h = true) (hc : s.inCxlReset = false)
    (hoff : off.toNat % 4 = 0) (h4 : 4 ≤ off.toNat) (hhigh : pairLow off.toNat = false) (hlow : pairLow (off.toNat - 4) = true)
    (hup : s.blockUp (barBlock off.toNat) = true) :
    ∃ t, exec (.loWordRead h off) s = .next t ∧ Signals [] s t ∧
      t.out.head? = some (.word h.val ((s.captured hostAccessor off.toNat).getD ((s.pmu 0xE5 none 1).barWord off.toNat))) := by
  have hplain : off.toNat ≠ 0x100008 ∧ ¬ (0x240000 ≤ off.toNat ∧ off.toNat < 0x270000) := by
    have := (pairLow_plain hlow).2
    rwa [Nat.sub_add_cancel h4] at this
  have hread := State.hostBarRead_reg (s.pmu 0xE5 none 1) h off.toNat (by simpa using hc) (by simpa using hup) hplain
  rw [State.regRead_high _ _ _ hhigh h4 hlow, State.pmu_captured] at hread
  refine ⟨_, exec_loWordRead h off s hs hoff, ?_, ?_⟩
  · rw [hread]
    exact (s.pmu_signals 0xE5 none 1 []).trans (State.emit_signals _ _ [])
  · rw [hread]; rfl

/-- A half's read of a low word. -/
theorem loWordRead_low (h : Fin 2) (off : BitVec 22) (s : State) (hs : s.barServes h = true) (hc : s.inCxlReset = false)
    (hoff : off.toNat % 4 = 0) (hlow : pairLow off.toNat = true) (hup : s.blockUp (barBlock off.toNat) = true) :
    let s1 := s.pmu 0xE5 none 1
    exec (.loWordRead h off) s = .next ((s1.capture hostAccessor (off.toNat + 4) (s1.barWord (off.toNat + 4))).emit
      (.word h.val (s1.barWord off.toNat))) := by
  have hread := State.hostBarRead_reg (s.pmu 0xE5 none 1) h off.toNat (by simpa using hc) (by simpa using hup) (pairLow_plain hlow).1
  rw [State.regRead_low _ _ _ hlow] at hread
  rw [exec_loWordRead h off s hs hoff, hread]

/-- The captured high words take no part in what signals change. -/
theorem Signals.withCaps {l : List Fld} {s t : State} (h : Signals l s t) (c : SMap Nat) :
    Signals l { s with caps := c } { t with caps := c } := by
  obtain ⟨honly, hget⟩ := h
  exact ⟨by rw [honly]; rfl, hget⟩

/-- Settles O29: a low word's read captures under the host's key, and a high word's read looks there first. -/
theorem lowWordReadCaptures : Obligations.LowWordReadCaptures := by
  unfold Obligations.LowWordReadCaptures
  refine ⟨fun h off s hs hc hoff hlow hup => ?_, fun h off s hs hc hoff h4 hhigh hlow hup => ⟨fun v hv => ?_, fun hn => ?_⟩⟩
  · have hlt : off.toNat + 4 < 2 ^ 28 := by have := off.isLt; omega
    refine ⟨_, loWordRead_low h off s hs hc hoff hlow hup, rfl, State.captured_capture_same .., fun k o ho hne => ?_, ?_⟩
    · exact (State.captured_capture_other _ _ _ _ k o hlt ho hne).trans (State.pmu_captured ..)
    · exact ((s.pmu_signals 0xE5 none 1 []).withCaps _).trans (State.emit_signals _ _ [])
  · obtain ⟨t, hexec, hsig, hout⟩ := loWordRead_high h off s hs hc hoff h4 hhigh hlow hup
    exact ⟨t, hexec, hsig, by rw [hout, hv]; rfl⟩
  · obtain ⟨t, hexec, hsig, hout⟩ := loWordRead_high h off s hs hc hoff h4 hhigh hlow hup
    exact ⟨t, hexec, hsig, by rw [hout, hn]; rfl⟩

end Sys2Proof.Machine
end

section
/-!
PROOFS. Writes of locked fields (R23).
-/

namespace Sys2Proof.Machine

/-! ### Locked fields (R23) -/

theorem State.thmThrWrite_locked (s : State) (rate : Bool) (v : Nat) (hl : s.get R.THM_CTRL_lock = 1) : s.thmThrWrite rate v = s :=
  if_pos hl

theorem State.thmPairWrite_locked (s : State) (k v : Nat) (hl : s.get R.THM_CTRL_lock = 1) : s.thmPairWrite k v = s :=
  if_pos hl

theorem State.calWrite_locked (s : State) (off v : Nat) (hl : s.get R.MTR_CAL_LOCK_lock = 1) : s.calWrite off v = s :=
  if_pos (by simp [hl])

/-- A write of a threshold, rate or pair register reaches the locked block's own check. -/
theorem State.thmWrite_locked (s : State) (off v : Nat) (hl : s.get R.THM_CTRL_lock = 1)
    (hoff : off = 0x280060 ∨ off = 0x280064 ∨ (0x280080 ≤ off ∧ off < 0x2800A4)) : s.thmWrite off v = s := by
  rcases hoff with rfl | rfl | hpair
  · exact s.thmThrWrite_locked false v hl
  · exact s.thmThrWrite_locked true v hl
  · unfold State.thmWrite
    split
    case h_4 => rw [if_pos hpair, s.thmPairWrite_locked _ v hl]
    all_goals omega

theorem barBlock_thm (off : Nat) (hlo : 0x280000 ≤ off) (hhi : off < 0x2A0000) : barBlock off = 12 := by
  unfold barBlock
  repeat rw [if_neg (by omega)]
  exact if_pos hhi

theorem State.barWrite_thm_locked (s : State) (half : Option (Fin 2)) (off v : Nat) (hl : s.get R.THM_CTRL_lock = 1)
    (hoff : off = 0x280060 ∨ off = 0x280064 ∨ (0x280080 ≤ off ∧ off < 0x2800A4)) : s.barWrite half off v = s := by
  have hblock : barBlock off = 12 := barBlock_thm off (by omega) (by omega)
  have hwrite : s.blockWrite half off v = s := by
    unfold State.blockWrite
    rw [hblock]
    exact s.thmWrite_locked off v hl hoff
  rw [State.barWrite, hwrite, ite_self]

/-- The island's register write of a calibration register, the lock bit's own apart, is a calibration write. -/
theorem State.islWrite_cal (s : State) (o v : Nat) (ho : o ∈ calOffsets) (hlock : o ≠ 0x1C) :
    s.islWrite (0x410000 + o) v = s.calWrite o v := by
  have hrange : 0x14 ≤ o ∧ o < 0x200 := by
    revert o
    decide
  unfold State.islWrite
  split
  case h_12 => rw [if_pos ⟨Nat.le_add_right .., by simpa using ho⟩, Nat.add_sub_cancel_left]
  all_goals omega

/-- Settles O20: every write of a locked RWL field ends in the lock's own check. -/
theorem lockedFieldsKeepTheirValue : Obligations.LockedFieldsKeepTheirValue := by
  unfold Obligations.LockedFieldsKeepTheirValue
  refine ⟨fun rate v s hl => ?_, fun k v s hl => ?_, fun half off v s hl hoff => s.barWrite_thm_locked half off v hl hoff,
    fun off v s hl => ?_, fun o v s hl ho hlock => ?_⟩
  · show execThmThrWrite rate v s = _
    rw [execThmThrWrite, s.thmThrWrite_locked rate _ hl, ite_self]
  · show execThmPairWrite k v s = _
    rw [execThmPairWrite, s.thmPairWrite_locked _ _ hl, ite_self]
  · show execCalWrite off v s = _
    rw [execCalWrite, s.calWrite_locked _ _ hl]
  · rw [s.islWrite_cal o v ho hlock, s.calWrite_locked o v hl]

end Sys2Proof.Machine
end

section
/-!
PROOFS. What leaves the elapsed time and the queue alone, up to the receiver's judging of an expected mark.
-/

namespace Sys2Proof.Machine

/-! ### What leaves the elapsed time and the queue alone -/

/-- The elapsed time and the queue are the same. -/
@[simp] abbrev SameClock (s t : State) : Prop := t.now = s.now ∧ t.pending = s.pending

theorem SameClock.trans {s t u : State} (h1 : SameClock s t) (h2 : SameClock t u) : SameClock s u :=
  ⟨h2.1.trans h1.1, h2.2.trans h1.2⟩

theorem OnlySignals.sameClock {s t : State} (h : OnlySignals s t) : SameClock s t := by rw [h]; exact ⟨rfl, rfl⟩

theorem foldl_sameClock {α : Type} (f : State → α → State) (h : ∀ u x, SameClock u (f u x)) (l : List α) (s : State) :
    SameClock s (l.foldl f s) := by
  induction l generalizing s with
  | nil => exact ⟨rfl, rfl⟩
  | cons x l ih => exact SameClock.trans (h s x) (ih _)

/-! Signals, flags and logs. -/

@[simp] theorem State.pmu_sameClock (s : State) (code : Nat) (ctx : Option Nat) (inc : Nat) : SameClock s (s.pmu code ctx inc) :=
  (s.pmu_only code ctx inc).sameClock

@[simp] theorem State.send_sameClock (s : State) (v : Nat) : SameClock s (s.send v) := (s.send_only v).sameClock

@[simp] theorem State.raise_sameClock (s : State) (evt en : Fld) (vec b : Nat) : SameClock s (s.raise evt en vec b) :=
  (s.raise_only evt en vec b).sameClock

@[simp] theorem State.raiseHzn_sameClock (s : State) (b : Nat) : SameClock s (s.raiseHzn b) := s.raise_sameClock _ _ _ b
@[simp] theorem State.raiseFab_sameClock (s : State) (b : Nat) : SameClock s (s.raiseFab b) := s.raise_sameClock _ _ _ b
@[simp] theorem State.raiseHost_sameClock (s : State) (b : Nat) : SameClock s (s.raiseHost b) := s.raise_sameClock _ _ _ b
@[simp] theorem State.alert_sameClock (s : State) (b : Nat) : SameClock s (s.alert b) := (s.alert_only b).sameClock

@[simp] theorem State.raiseRing_sameClock (s : State) (c b : Nat) : SameClock s (s.raiseRing c b) := by
  unfold State.raiseRing
  dsimp only
  split_ifs <;> simp

@[simp] theorem State.flogAdd_sameClock (s : State) (source code detail : Nat) (ctx : Option Nat) :
    SameClock s (s.flogAdd source code detail ctx) := by
  unfold State.flogAdd
  dsimp only
  split <;> simp

@[simp] theorem State.logEvent_sameClock (s : State) (log what arg : Nat) : SameClock s (s.logEvent log what arg) := by
  unfold State.logEvent
  dsimp only
  split <;> simp

/-! Descriptors that complete. -/

@[simp] theorem State.setRing_sameClock (s : State) (c : Nat) (r : RingSt) : SameClock s (s.setRing c r) := ⟨rfl, rfl⟩
@[simp] theorem State.setDesc_sameClock (s : State) (d : CmdDesc) : SameClock s (s.setDesc d) := ⟨rfl, rfl⟩
@[simp] theorem State.detach_sameClock (s : State) (c slot : Nat) : SameClock s (s.detach c slot) := ⟨rfl, rfl⟩
@[simp] theorem State.signal_sameClock (s : State) (o v : Nat) : SameClock s (s.signal o v) := ⟨rfl, rfl⟩
@[simp] theorem State.setPort_sameClock (s : State) (n : Nat) (p : PortSt) : SameClock s (s.setPort n p) := ⟨rfl, rfl⟩
@[simp] theorem State.enqueue_sameClock (s : State) (n : Nat) (t : Txn) (held : Option (Nat × Nat)) : SameClock s (s.enqueue n t held) :=
  ⟨rfl, rfl⟩
@[simp] theorem State.newTransfer_sameClock (s : State) (owner : XferOwner) (seq port count : Nat) (isSignal : Bool) :
    SameClock s (s.newTransfer owner seq port count isSignal).2 := ⟨rfl, rfl⟩
@[simp] theorem State.noteXferFailed_sameClock (s : State) (t : Transfer) : SameClock s (s.noteXferFailed t) := ⟨rfl, rfl⟩

@[simp] theorem State.remoteSignal_sameClock (s : State) (pair : Nat × Nat) (o v : Nat) : SameClock s (s.remoteSignal pair o v).1 := by
  unfold State.remoteSignal
  split_ifs <;> simp

@[simp] theorem State.postNow_sameClock (s : State) (c : Nat) (r : Record) : SameClock s (s.postNow c r) := by
  unfold State.postNow
  dsimp only
  split_ifs <;> simp

@[simp] theorem State.post_sameClock (s : State) (r : Record) : SameClock s (s.post r) := by
  unfold State.post
  extract_lets c s1 s2
  have h2 : SameClock s s2 := by
    simp only [s2]
    split <;> simp [s1]
  split <;> simp [h2]

@[simp] theorem State.finish_sameClock (s : State) (d : CmdDesc) (st : Status) : SameClock s (s.finish d st) := by
  unfold State.finish
  dsimp only
  split_ifs <;> simp

@[simp] theorem State.sendSignal_sameClock (s : State) (d : CmdDesc) : SameClock s (s.sendSignal d) := by
  unfold State.sendSignal
  dsimp only
  split_ifs
  · simp
  · simp
  · simp
  · split <;> simp

@[simp] theorem State.settle_sameClock (s : State) (d : CmdDesc) : SameClock s (s.settle d) := by
  unfold State.settle
  split
  · simp
  · split
    · simp
    · split_ifs <;> simp

@[simp] theorem State.markFailed_sameClock (s : State) (desc : Option (Nat × Nat)) (code detail : Nat) :
    SameClock s (s.markFailed desc code detail) := by
  unfold State.markFailed
  split
  · simp
  · split
    · simp
    · dsimp only
      split <;> simp

@[simp] theorem State.resumeSignal_sameClock (s : State) : SameClock s s.resumeSignal := by
  unfold State.resumeSignal
  split <;> simp

/-! Transactions that are answered, and ports that go DARK. -/

@[simp] theorem State.resolve_sameClock (s : State) (t : Transfer) (status port : Nat) : SameClock s (s.resolve t status port) := by
  unfold State.resolve
  dsimp only
  split <;> simp

@[simp] theorem State.takeResp_sameClock (s : State) (r : Txn) : SameClock s (s.takeResp r) := by
  unfold State.takeResp
  split
  · simp
  · dsimp only
    split_ifs <;> simp

@[simp] theorem State.freeSlot_sameClock (s : State) (held : Option (Nat × Nat)) : SameClock s (s.freeSlot held) := by
  unfold State.freeSlot
  split
  · simp
  · dsimp only
    split <;> simp

@[simp] theorem State.dropHop_sameClock (s : State) : SameClock s s.dropHop := by simp [State.dropHop]

@[simp] theorem State.forwardResp_sameClock (s : State) (t : Txn) (held : Option (Nat × Nat)) : SameClock s (s.forwardResp t held) := by
  unfold State.forwardResp
  split
  · simp
  · split <;> simp

@[simp] theorem State.answer_sameClock (s : State) (t : Txn) (status port n : Nat) : SameClock s (s.answer t status port n) := by
  unfold State.answer
  dsimp only
  split <;> simp

@[simp] theorem State.flushTally_sameClock (s : State) (x : Tally) : SameClock s (s.flushTally x) := by simp [State.flushTally]

@[simp] theorem State.answered_sameClock (s : State) (t : Txn) (status port : Nat) : SameClock s (s.answered t status port) := by
  unfold State.answered
  dsimp only
  split
  · simp
  · split <;> split_ifs <;> simp

@[simp] theorem State.portDown_sameClock (s : State) (n cause : Nat) : SameClock s (s.portDown n cause).1 := by
  unfold State.portDown
  dsimp only
  split <;> simp

@[simp] theorem State.portsDark_sameClock (s : State) : SameClock s s.portsDark := by
  refine foldl_sameClock _ (fun u n => ?_) _ s
  dsimp only
  split
  · simp
  · refine SameClock.trans (u.portDown_sameClock n 1) (foldl_sameClock _ (fun v x => ?_) _ _)
    split <;> simp

/-! Hold causes. -/

@[simp] theorem State.leaveOvercast_sameClock (s : State) : SameClock s s.leaveOvercast := by
  unfold State.leaveOvercast
  split <;> simp

@[simp] theorem State.enterHeld_sameClock (s : State) : SameClock s s.enterHeld := by simp [State.enterHeld]

@[simp] theorem State.holdChanged_sameClock (s : State) (old : Nat) : SameClock s (s.holdChanged old) := by simp [State.holdChanged]

@[simp] theorem State.raiseHold_sameClock (s : State) (b : Nat) : SameClock s (s.raiseHold b) := by
  unfold State.raiseHold
  dsimp only
  split
  · simp
  · split <;> simp

/-! The horizon receiver's judgement. -/

@[simp] theorem State.setHzn_sameClock (s : State) (x : HznSt) : SameClock s (s.setHzn x) := ⟨rfl, rfl⟩
@[simp] theorem State.ungrantAll_sameClock (s : State) : SameClock s s.ungrantAll := ⟨rfl, rfl⟩
@[simp] theorem State.pulsesStop_sameClock (s : State) : SameClock s s.pulsesStop := ⟨rfl, rfl⟩

@[simp] theorem State.trimSpoil_sameClock (s : State) : SameClock s s.trimSpoil := by
  unfold State.trimSpoil
  split <;> simp

@[simp] theorem State.toCoasting_sameClock (s : State) (loss : Nat) : SameClock s (s.toCoasting loss) := by simp [State.toCoasting]

@[simp] theorem State.toLost_sameClock (s : State) (loss : Nat) : SameClock s (s.toLost loss) := by
  unfold State.toLost
  dsimp only
  split_ifs <;> simp

@[simp] theorem State.judgeLocked_sameClock (s : State) (good counted : Bool) (loss : Nat) :
    SameClock s (s.judgeLocked good counted loss) := by
  unfold State.judgeLocked
  dsimp only
  split_ifs <;> simp

@[simp] theorem State.judgeCoasting_sameClock (s : State) (good counted : Bool) : SameClock s (s.judgeCoasting good counted) := by
  unfold State.judgeCoasting
  dsimp only
  split_ifs <;> simp

@[simp] theorem State.hznJudge_sameClock (s : State) : SameClock s s.hznJudge := by
  unfold State.hznJudge
  dsimp only
  split
  · simp
  · split <;> simp

end Sys2Proof.Machine
end

section
/-!
PROOFS. A tick in which no command arrives (R3, logs 5, 29, 140).
-/

namespace Sys2Proof.Machine

/-! ### What a tick counts and charges -/

theorem foldl_signals {α : Type} (l : List Fld) (f : State → α → State) (h : ∀ u x, Signals l u (f u x)) (xs : List α) (s : State) :
    Signals l s (xs.foldl f s) := by
  induction xs generalizing s with
  | nil => exact Signals.refl l s
  | cons x xs ih => exact (h s x).trans (ih _)

theorem Signals.ite {l : List Fld} {s t u : State} {c : Prop} [Decidable c] (ht : Signals l s t) (hu : Signals l s u) :
    Signals l s (if c then t else u) := by
  split <;> assumption

theorem State.pmuWaiting_signals (s : State) (l : List Fld) : Signals l s s.pmuWaiting :=
  foldl_signals l _ (fun u _ => .ite (u.pmu_signals _ _ _ l) (.refl l u)) _ s

theorem State.pmuAsleep_signals (s : State) (l : List Fld) : Signals l s s.pmuAsleep :=
  foldl_signals l _ (fun u _ => .ite (u.pmu_signals _ _ _ l) (.refl l u)) _ s

theorem State.pmuHeld_signals (s : State) (cycles : Nat) (l : List Fld) : Signals l s (s.pmuHeld cycles) :=
  foldl_signals l _ (fun u _ => .ite (.refl l u) (u.pmu_signals _ _ _ l)) _ s

theorem State.pmuHostHeld_signals (s : State) (cycles : Nat) (l : List Fld) : Signals l s (s.pmuHostHeld cycles) :=
  .ite (s.pmu_signals _ _ _ l) (.refl l s)

theorem State.pmuVector_signals (s : State) (cycles : Nat) (l : List Fld) : Signals l s (s.pmuVector cycles) := by
  refine foldl_signals l _ (fun u q => ?_) _ s
  split
  · exact .ite (u.pmu_signals _ _ _ l) (.refl l u)
  · exact .refl l u

theorem State.pmuTime_signals (s : State) (cycles : Nat) (l : List Fld) : Signals l s (s.pmuTime cycles) := by
  unfold State.pmuTime
  extract_lets s1 s2 s3
  have h1 : Signals l s s1 := s.pmu_signals _ _ _ l
  have h2 : Signals l s1 s2 := .ite (s1.pmu_signals _ _ _ l) (.refl l s1)
  have h3 : Signals l s2 s3 := .ite (s2.pmu_signals _ _ _ l) (.refl l s2)
  exact h1.trans (h2.trans (h3.trans ((s3.pmuWaiting_signals l).trans ((State.pmuAsleep_signals _ l).trans
    ((State.pmuHeld_signals _ _ l).trans ((State.pmuHostHeld_signals _ _ l).trans (State.pmuVector_signals _ _ l)))))))

/-- Everything but the energy charges is the same. -/
def OnlyCharges (s t : State) : Prop := t = { s with charges := t.charges }

theorem State.addCharge_only (s : State) (slot frame : Nat) (amount : Int) : OnlyCharges s (s.addCharge slot frame amount) := by
  unfold State.addCharge
  dsimp only
  split <;> rfl

theorem State.chargeFixing_only (s : State) : OnlyCharges s s.chargeFixing := by
  unfold State.chargeFixing
  generalize s.fixingSlots = l
  induction l generalizing s with
  | nil => rfl
  | cons c l ih =>
    have h1 := s.addCharge_only c s.frame 20
    have h2 := ih (s.addCharge c s.frame 20)
    unfold OnlyCharges at *
    rw [List.foldl_cons, h2, h1]

/-- One nominal tick later, with a tick less of CLKOBS held low. -/
def State.tickOn (s : State) : State := { s with now := s.now + 1, clk := { s.clk with obsHold := s.clk.obsHold - 1 } }

/-- Performance counters and energy charges have moved on, and what an overflow's vector changes. -/
structure Counted (s t : State) : Prop where
  counts : t = { s with coreFrac := t.coreFrac, regs := t.regs, out := t.out, host := t.host, charges := t.charges }
  fields : FieldsButPmu [] s t

theorem Counted.chargeFixing {s t : State} (h : Counted s t) : Counted s t.chargeFixing := by
  have hcharge := t.chargeFixing_only
  refine ⟨?_, fun g hg hl => Eq.trans ?_ (h.fields g hg hl)⟩
  · rw [hcharge, h.counts]
  · rw [hcharge]; rfl

theorem Counted.pmuTime (s : State) (frac cycles : Nat) : Counted s (State.pmuTime { s with coreFrac := frac } cycles) := by
  obtain ⟨honly, hfields⟩ := State.pmuTime_signals { s with coreFrac := frac } cycles []
  exact ⟨by rw [honly], hfields⟩

/-- A tick counts and charges; then the pump, the receiver and the loader take their turn. -/
theorem State.idleTick_counted (s : State) : ∃ t, Counted s.tickOn t ∧ s.idleTick = t.pumpTick.hznJudge.imgTick := by
  unfold State.idleTick
  dsimp only
  split
  · exact ⟨_, (Counted.pmuTime s.tickOn _ _).chargeFixing, rfl⟩
  · exact ⟨_, Counted.chargeFixing ⟨rfl, FieldsButPmu.rfl' [] s.tickOn⟩, rfl⟩

/-! ### The pump's turn -/

/-- Everything but the pump's queues and the tiles is the same. -/
def OnlyPump (s t : State) : Prop := t = { s with fix := t.fix, tiles := t.tiles }

theorem OnlyPump.trans {s t u : State} (h1 : OnlyPump s t) (h2 : OnlyPump t u) : OnlyPump s u := by
  unfold OnlyPump at *; rw [h2, h1]

theorem foldl_onlyPump {α : Type} (f : State → α → State) (h : ∀ u x, OnlyPump u (f u x)) (l : List α) (s : State) :
    OnlyPump s (l.foldl f s) := by
  induction l generalizing s with
  | nil => rfl
  | cons x l ih => exact (h s x).trans (ih _)

theorem State.refixBegin_only (s : State) (t : Nat) : OnlyPump s (s.refixBegin t) := by
  unfold State.refixBegin
  dsimp only
  split <;> rfl

theorem State.pumpFill_only (s : State) (d : Nat) : OnlyPump s (s.pumpFill d) := by
  refine foldl_onlyPump _ (fun u x => ?_) _ s
  split
  · rfl
  · exact u.refixBegin_only x.2

theorem State.pumpFillAll_only (s : State) : OnlyPump s s.pumpFillAll := foldl_onlyPump _ State.pumpFill_only _ s

theorem State.pumpTick_only (s : State) : OnlyPump s s.pumpTick := by
  refine OnlyPump.trans ?_ (State.pumpFillAll_only _)
  split <;> rfl

/-- Which tiles wait for a slot depends on the tiles, the pump's work, the resident images, the links and the safe-forced dies. -/
theorem State.slotWaiters_congr {s t : State} (htiles : t.tiles = s.tiles) (hrun : t.fix.running = s.fix.running)
    (href : t.fix.refixes = s.fix.refixes) (hfix : t.fix.fixing = s.fix.fixing) (himg : t.img = s.img) (hpwr : t.pwr = s.pwr)
    (hforced : t.clk.arrayForced = s.clk.arrayForced) (hbias : t.get R.THM_STAT_bias_fault = s.get R.THM_STAT_bias_fault) (d : Nat) :
    t.slotWaiters d = s.slotWaiters d := by
  have htile : ∀ k, t.tile k = s.tile k := fun k => by simp only [State.tile, htiles]
  have hruns : ∀ k, t.fixRuns k = s.fixRuns k := fun k => by simp only [State.fixRuns, hrun]
  have hlink : ∀ k, t.linkTrained k = s.linkTrained k := fun k => by simp only [State.linkTrained, hpwr]
  have hsafe : ∀ k, t.tileForced k = s.tileForced k := fun k => by simp only [State.tileForced, hforced, hbias]
  have hrec : ∀ k, t.tileRec k = s.tileRec k := fun k => by simp only [State.tileRec, State.resImage, htile, himg]
  have herase : ∀ k, t.eraseMay k = s.eraseMay k := fun k => by simp only [State.eraseMay, htile, hruns, hlink, hsafe]
  have hpump : ∀ k, t.pumpMay k = s.pumpMay k := fun k => by simp only [State.pumpMay, hrec, hfix, hpwr, hlink, hsafe]
  simp only [State.slotWaiters, htiles, href, hruns, herase, hpump]

theorem State.pumpFill_idle (s : State) (d : Nat) (h : s.slotWaiters d = []) : s.pumpFill d = s := by
  rw [State.pumpFill, h, List.take_nil, List.foldl_nil]

theorem State.pumpFillAll_idle (s : State) (h : ∀ d : Fin 4, s.slotWaiters d.val = []) : s.pumpFillAll.tiles = s.tiles := by
  have hfill : ∀ d, d < 4 → s.pumpFill d = s := fun d hd => s.pumpFill_idle d (h ⟨d, hd⟩)
  simp [State.pumpFillAll, List.range_succ, hfill]

/-- With no tile waiting, the pump's turn leaves the tiles: the hours of VCORE it counts decide no wait. -/
theorem State.pumpTick_idle (s : State) (h : ∀ d : Fin 4, s.slotWaiters d.val = []) : s.pumpTick.tiles = s.tiles := by
  unfold State.pumpTick
  split
  · refine State.pumpFillAll_idle _ (fun d => ?_)
    rw [← h d]
    apply State.slotWaiters_congr <;> rfl
  · exact s.pumpFillAll_idle h

/-! ### The receiver's and the loader's turn -/

/-- The receiver judges no expected mark in this tick. -/
theorem State.hznJudge_idle (s : State)
    (h : s.controlUp = false ∨ s.hzn.counting = false ∨ s.isBench = true ∨ s.now ≠ s.hzn.markAt + 2) : s.hznJudge = s := by
  have hskip : (!s.controlUp || !s.hzn.counting || s.isBench || decide (s.now ≠ s.hzn.markAt + 2)) = true := by
    rcases h with h | h | h | h <;> simp [h]
  unfold State.hznJudge
  exact if_pos hskip

/-- Everything but the loader and the count of free values used is the same. -/
def OnlyLoader (s t : State) : Prop := t = { s with freeIx := t.freeIx, img := t.img }

theorem State.imgTick_only (s : State) : OnlyLoader s s.imgTick := by
  unfold State.imgTick
  split
  · rfl
  · dsimp only
    split_ifs <;> rfl

/-! ### The tick -/

theorem step_idle (s : State) (h : s.pending = []) : step s = .next s.idleTick := by
  rw [step, h]

theorem Counted.sameClock {s t : State} (h : Counted s t) : SameClock s t := by rw [h.counts]; exact ⟨rfl, rfl⟩

theorem OnlyPump.sameClock {s t : State} (h : OnlyPump s t) : SameClock s t := by rw [h]; exact ⟨rfl, rfl⟩

theorem OnlyLoader.sameClock {s t : State} (h : OnlyLoader s t) : SameClock s t := by rw [h]; exact ⟨rfl, rfl⟩

theorem State.idleTick_clock (s : State) : s.idleTick.now = s.now + 1 ∧ s.idleTick.pending = s.pending := by
  obtain ⟨t, hcount, htick⟩ := s.idleTick_counted
  rw [htick]
  exact hcount.sameClock.trans (t.pumpTick_only.sameClock.trans ((State.hznJudge_sameClock _).trans (State.imgTick_only _).sameClock))

/-- The parts of the state that no tick moves unless a mark is judged. -/
def SameWork (s t : State) : Prop := t.pwr = s.pwr ∧ t.hzn = s.hzn ∧ t.seqs = s.seqs ∧ t.descs = s.descs ∧ t.mem = s.mem

theorem SameWork.trans {s t u : State} (h1 : SameWork s t) (h2 : SameWork t u) : SameWork s u := by
  obtain ⟨hpwr, hhzn, hseqs, hdescs, hmem⟩ := h2
  unfold SameWork
  rwa [hpwr, hhzn, hseqs, hdescs, hmem]

theorem Counted.sameWork {s t : State} (h : Counted s t) : SameWork s t := by rw [h.counts]; exact ⟨rfl, rfl, rfl, rfl, rfl⟩

theorem OnlyPump.sameWork {s t : State} (h : OnlyPump s t) : SameWork s t := by rw [h]; exact ⟨rfl, rfl, rfl, rfl, rfl⟩

theorem OnlyLoader.sameWork {s t : State} (h : OnlyLoader s t) : SameWork s t := by rw [h]; exact ⟨rfl, rfl, rfl, rfl, rfl⟩

theorem Counted.slotWaiters {s t : State} (h : Counted s t) (d : Nat) : t.slotWaiters d = s.slotWaiters d := by
  have hbias := h.fields R.THM_STAT_bias_fault (by decide) (by simp)
  refine State.slotWaiters_congr ?_ ?_ ?_ ?_ ?_ ?_ ?_ hbias d <;> rw [h.counts]

theorem Counted.tiles {s t : State} (h : Counted s t) : t.tiles = s.tiles := by rw [h.counts]

theorem OnlyLoader.tiles {s t : State} (h : OnlyLoader s t) : t.tiles = s.tiles := by rw [h]

/-- In a tick in which no expected mark is judged the receiver's turn is empty: only counters, charges, the pump and the loader move. -/
theorem State.idleTick_unjudged (s : State)
    (h : s.controlUp = false ∨ s.hzn.counting = false ∨ s.isBench = true ∨ s.now ≠ s.hzn.markAt + 1) :
    SameWork s s.idleTick ∧ ((∀ d : Fin 4, s.slotWaiters d.val = []) → s.idleTick.tiles = s.tiles) := by
  obtain ⟨t, hcount, htick⟩ := s.idleTick_counted
  have hwork : SameWork s t.pumpTick := hcount.sameWork.trans t.pumpTick_only.sameWork
  have hnow : t.pumpTick.now = s.now + 1 := (hcount.sameClock.trans t.pumpTick_only.sameClock).1
  have hsame : t.pumpTick.hznJudge = t.pumpTick := by
    obtain ⟨hpwr, hhzn, -⟩ := hwork
    refine State.hznJudge_idle _ ?_
    simpa [State.controlUp, State.isBench, State.stopping, hpwr, hhzn, hnow] using h
  rw [htick, hsame]
  have hload := State.imgTick_only t.pumpTick
  refine ⟨hwork.trans hload.sameWork, fun hw => ?_⟩
  rw [hload.tiles, t.pumpTick_idle (fun d => (hcount.slotWaiters d.val).trans (hw d)), hcount.tiles]
  rfl

/-- Settles O2: the tick's four turns keep the clock, and an unjudged tick keeps the work. -/
theorem idleTickPasses : Obligations.IdleTickPasses := by
  unfold Obligations.IdleTickPasses
  intro s hs
  obtain ⟨hnow, hpending⟩ := s.idleTick_clock
  refine ⟨s.idleTick, step_idle s hs, hnow, hpending.trans hs, fun h => ?_⟩
  obtain ⟨⟨hpwr, hhzn, hseqs, hdescs, hmem⟩, htiles⟩ := s.idleTick_unjudged h
  exact ⟨hpwr, hhzn, hseqs, hdescs, hmem, htiles⟩

end Sys2Proof.Machine
end

section
/-!
PROOFS. Register fields put in the register file alone: which fields a run of writes can reach, and counters cleared (R111, R174, R372,
R439, R478, R516, R549, R585, R617, R644).
-/

namespace Sys2Proof.Machine

/-! ### Fields that a write leaves -/

theorem FieldsBut.refl (l : List Fld) (s : State) : FieldsBut l s s := fun _ _ => rfl

theorem FieldsBut.trans {l : List Fld} {s t u : State} (h1 : FieldsBut l s t) (h2 : FieldsBut l t u) : FieldsBut l s u :=
  fun g hg => (h2 g hg).trans (h1 g hg)

theorem FieldsBut.put {l : List Fld} {s t : State} (h : FieldsBut l s t) (f : Fld) (v : Nat) (hf : f ∈ l) : FieldsBut l s (t.put f v) :=
  h.trans fun g hg => t.get_put_other f g v (hg f hf)

theorem FieldsButPmu.put {l : List Fld} {s t : State} (h : FieldsButPmu l s t) (f : Fld) (v : Nat) (hf : f ∈ l) :
    FieldsButPmu l s (t.put f v) :=
  h.trans (t.put_fields f v l hf)

theorem State.put_writes (s : State) (f : Fld) (v : Nat) : Writes [f] s (s.put f v) :=
  ⟨s.put_only f v, (FieldsBut.refl [f] s).put f v (List.mem_singleton_self f)⟩

theorem State.puts_writes (s : State) (l : List (Fld × Nat)) : Writes (l.map Prod.fst) s (s.puts l) :=
  ⟨s.puts_only l, fun g hg => s.get_puts_other l g fun _ hp => hg _ (List.mem_map_of_mem hp)⟩

theorem State.puts_fields (s : State) {l : List (Fld × Nat)} {fs : List Fld} (h : ∀ p ∈ l, p.1 ∈ fs) : FieldsButPmu fs s (s.puts l) :=
  fun g _ hg => s.get_puts_other l g fun p hp => hg p.1 (h p hp)

/-! ### Counters -/

/-- A counter that saturates never leaves its width. -/
theorem satAdd_mod (w a n : Nat) : satAdd w a n % 2 ^ w = satAdd w a n := by
  have hpos : 0 < 2 ^ w := Nat.two_pow_pos w
  apply Nat.mod_eq_of_lt
  unfold satAdd
  split <;> omega

@[simp] theorem State.get_count_same (s : State) (f : Fld) (n : Nat) : (s.count f n).get f = satAdd f.w (s.get f) n := by
  rw [State.count_eq, State.get_put_same, satAdd_mod]

theorem State.count_writes (s : State) (f : Fld) (n : Nat) : Writes [f] s (s.count f n) := s.put_writes f _

/-- The listed fields put to 0: what every clr_counts does. -/
def State.zero (s : State) (l : List Fld) : State := s.puts (l.map (·, 0))

theorem State.puts_append (s : State) (l m : List (Fld × Nat)) : s.puts (l ++ m) = (s.puts l).puts m := List.foldl_append

theorem State.zero_writes (s : State) (l : List Fld) : Writes l s (s.zero l) := by
  simpa [State.zero, Function.comp_def] using s.puts_writes (l.map (·, 0))

/-- A field put to 0 reads 0 whatever else is put to 0: where a later one has its key, that one's 0 is also its reset value. -/
theorem State.get_zero (s : State) (l : List Fld) (hrst : ∀ f ∈ l, f.rst = 0) : ∀ f ∈ l, (s.zero l).get f = 0 := by
  induction l generalizing s with
  | nil => simp
  | cons h l ih =>
    obtain ⟨hh, hl⟩ := List.forall_mem_cons.1 hrst
    have hstep : s.zero (h :: l) = (s.put h 0).zero l := rfl
    refine List.forall_mem_cons.2 ⟨?_, fun f hf => hstep ▸ ih (s.put h 0) hl f hf⟩
    by_cases hkey : ∃ f ∈ l, h.key = f.key
    · obtain ⟨f, hf, hk⟩ := hkey
      have hsame : (s.zero (h :: l)).get h = (s.zero (h :: l)).get f := by
        simp only [State.get, RegFile.get, hk, hh, hl f hf]
      rw [hsame, hstep, ih (s.put h 0) hl f hf]
    · have hother : ∀ f ∈ l, h.key ≠ f.key := fun f hf hk => hkey ⟨f, hf, hk⟩
      rw [hstep, (State.zero_writes _ l).2 h hother, State.get_put_same, Nat.zero_mod]

/-- A command that puts counters to 0 clears them. -/
theorem clears_of_zero {c : Instr} {l : List Fld} {s : State} (hexec : exec c s = .next (s.zero l)) (hrst : l.all (·.rst == 0) = true) :
    Clears c l s :=
  ⟨s.zero l, hexec, s.zero_writes l, s.get_zero l (by simpa using hrst)⟩

theorem exec_hznClrCounts {s : State} (h : s.controlUp = true) : exec .hznClrCounts s = .next s.hznClear := congrArg _ (if_pos h)
theorem exec_clkClrCounts {s : State} (h : s.controlUp = true) : exec .clkClrCounts s = .next s.clkClear := congrArg _ (if_pos h)
theorem exec_thmClrCounts {s : State} (h : s.controlUp = true) : exec .thmClrCounts s = .next s.thmClear := congrArg _ (if_pos h)
theorem exec_hostClrCounts {s : State} (h : s.controlUp = true) : exec .hostClrCounts s = .next s.hostClear := congrArg _ (if_pos h)
theorem exec_syncClrCounts {s : State} (h : s.blockUp 9 = true) : exec .syncClrCounts s = .next s.syncClrCounts := congrArg _ (if_pos h)
theorem exec_fabClrCounts {s : State} (h : s.blockUp 10 = true) : exec .fabClrCounts s = .next s.fabClrCounts := by
  show execFabClrCounts s = _
  rw [execFabClrCounts, if_pos h]
theorem exec_seqClrCounts {q : Fin 16} {s : State} (h : s.blockUp 5 = true) :
    exec (.seqClrCounts q) s = .next (s.seqCtrl q.val false false true) := congrArg _ (if_pos h)

/-- Settles O7: each clr_counts puts its block's counters, whose reset value is 0, to 0 and does nothing else. -/
theorem countersClear : Obligations.CountersClear := by
  unfold Obligations.CountersClear
  refine ⟨fun s h => clears_of_zero (exec_hznClrCounts h) rfl, fun s h => clears_of_zero (exec_clkClrCounts h) rfl,
    fun s h => clears_of_zero (exec_thmClrCounts h) rfl, fun s h => clears_of_zero (exec_hostClrCounts h) rfl,
    fun q s h => clears_of_zero (exec_seqClrCounts h) rfl, fun s h => clears_of_zero (exec_syncClrCounts h) rfl,
    fun s h => clears_of_zero ((exec_fabClrCounts h).trans ?_) rfl, fun s => clears_of_zero rfl rfl, fun s => clears_of_zero rfl rfl,
    fun s => clears_of_zero rfl rfl⟩
  rw [State.zero, List.map_append, State.puts_append, List.map_flatMap]
  rfl

end Sys2Proof.Machine
end

section
/-!
PROOFS. What the horizon receiver's steps are made of: an event bit raised (R498), a hold cause reported and cleared (R127, R495, R656),
and COASTING and LOST entered (R96, R99, R100).
-/

namespace Sys2Proof.Machine

/-! ### An event bit raised -/

theorem bitAt_two_pow (b i : Nat) : bitAt (2 ^ b) i = (i == b) := by
  rw [bitAt_eq_testBit, Nat.testBit_two_pow, Bool.beq_eq_decide_eq, decide_eq_decide, eq_comm]

theorem bitAt_orBits (a b i : Nat) : bitAt (orBits a (2 ^ b)) i = (bitAt a i || i == b) := by
  rw [← bitAt_two_pow b i]
  simp only [bitAt_eq_testBit]
  exact Nat.testBit_or a (2 ^ b) i

theorem State.setBit_bit (s : State) (f : Fld) (b i : Nat) (hi : i < f.w) :
    bitAt ((s.setBit f b).get f) i = (bitAt (s.get f) i || i == b) := by
  rw [State.setBit_eq, State.get_put_same, bitAt_mod_two_pow _ _ _ hi, bitAt_orBits]

theorem State.clrBit_bit (s : State) (f : Fld) (b i : Nat) (hi : i < f.w) :
    bitAt ((s.clrBit f b).get f) i = (bitAt (s.get f) i && !i == b) := by
  rw [State.clrBit_eq, State.get_put_same, bitAt_mod_two_pow _ _ _ hi, bitAt_clearBits, bitAt_two_pow]

theorem State.send_get (s : State) (v : Nat) {g : Fld} (hg : ¬ inPmu g) : (s.send v).get g = s.get g :=
  s.send_fields v [] g hg (by simp)

/-- Raising bit `b` of an event register sets it, whether its vector is sent or it was set before, and leaves the other bits. -/
theorem State.raise_bit (s : State) (evt en : Fld) (vec b i : Nat) (hp : ¬ inPmu evt) (hi : i < evt.w) :
    bitAt ((s.raise evt en vec b).get evt) i = (bitAt (s.get evt) i || i == b) := by
  unfold State.raise
  split
  case isTrue hset =>
    by_cases hib : i = b
    · simp [hib, hset]
    · simp [hib]
  case isFalse =>
    dsimp only
    split
    · rw [State.send_get _ _ hp, State.setBit_bit _ _ _ _ hi]
    · exact s.setBit_bit evt b i hi

theorem State.raiseHzn_bit (s : State) (b i : Nat) (hi : i < 7) :
    bitAt ((s.raiseHzn b).get R.HZN_EVT) i = (bitAt (s.get R.HZN_EVT) i || i == b) :=
  s.raise_bit _ _ _ b i (by decide) hi

theorem State.raiseHzn_bitSet (s : State) (b : Nat) (hb : b < 7) : BitSet (s.raiseHzn b) R.HZN_EVT b := by
  rw [BitSet, State.raiseHzn_bit s b b hb, BEq.rfl, Bool.or_true]

theorem FieldsButPmu.raiseHzn {l : List Fld} {s t : State} (h : FieldsButPmu l s t) (b : Nat) (hl : R.HZN_EVT ∈ l) :
    FieldsButPmu l s (t.raiseHzn b) :=
  h.trans (t.raise_fields _ _ _ b l hl)

theorem State.raiseHzn_get (s : State) (b : Nat) {g : Fld} (hp : ¬ inPmu g) (hg : g.key ≠ R.HZN_EVT.key) :
    (s.raiseHzn b).get g = s.get g :=
  (FieldsButPmu.rfl' [R.HZN_EVT] s).raiseHzn b (List.mem_singleton_self _) g hp (by simpa using hg)

theorem OnlySignals.hzn {s t : State} (h : OnlySignals s t) : t.hzn = s.hzn := by rw [h]
theorem OnlySignals.isl {s t : State} (h : OnlySignals s t) : t.isl = s.isl := by rw [h]

@[simp] theorem State.raiseHzn_hzn (s : State) (b : Nat) : (s.raiseHzn b).hzn = s.hzn := (s.raiseHzn_only b).hzn
@[simp] theorem State.raiseHzn_pwr (s : State) (b : Nat) : (s.raiseHzn b).pwr = s.pwr := (s.raiseHzn_only b).pwr

/-- Everything but the receiver, the register file, and what vectors and event counts change is the same. -/
def OnlyReceiver (s t : State) : Prop := t = { s with regs := t.regs, out := t.out, host := t.host, hzn := t.hzn }

theorem OnlyReceiver.refl (s : State) : OnlyReceiver s s := rfl

theorem OnlyReceiver.trans {s t u : State} (h1 : OnlyReceiver s t) (h2 : OnlyReceiver t u) : OnlyReceiver s u := by
  unfold OnlyReceiver at *
  rw [h2, h1]

theorem OnlySignals.receiver {s t : State} (h : OnlySignals s t) : OnlyReceiver s t := by
  unfold OnlyReceiver
  rw [h]

theorem OnlyReceiver.raiseHzn {s t : State} (h : OnlyReceiver s t) (b : Nat) : OnlyReceiver s (t.raiseHzn b) :=
  h.trans (t.raiseHzn_only b).receiver

theorem OnlyReceiver.put {s t : State} (h : OnlyReceiver s t) (f : Fld) (v : Nat) : OnlyReceiver s (t.put f v) :=
  h.trans (t.put_only f v).signals.receiver

theorem OnlyReceiver.setHzn {s t : State} (h : OnlyReceiver s t) (x : HznSt) : OnlyReceiver s (t.setHzn x) := h.trans rfl

theorem OnlyReceiver.puts {s t : State} (h : OnlyReceiver s t) (l : List (Fld × Nat)) : OnlyReceiver s (t.puts l) :=
  h.trans (OnlyRegs.signals (t.puts_only l)).receiver

/-! ### A hold cause that clears -/

/-- The listed fields and the package's power state may change, and else only what vectors, event counts and log entries change. -/
def Reports (l : List Fld) (s t : State) : Prop :=
  FieldsButPmu l s t ∧
    t = { s with regs := t.regs, out := t.out, host := t.host, flog := t.flog, flogSeq := t.flogSeq, pwr := t.pwr }

theorem Reports.trans {l : List Fld} {s t u : State} (h1 : Reports l s t) (h2 : Reports l t u) : Reports l s u :=
  ⟨h1.1.trans h2.1, by rw [h2.2, h1.2]⟩

theorem Reports.refl (l : List Fld) (s : State) : Reports l s s := ⟨FieldsButPmu.rfl' l s, rfl⟩

theorem Signals.reports {l : List Fld} {s t : State} (h : Signals l s t) : Reports l s t := ⟨h.2, by rw [h.1]⟩

theorem Reports.hzn {l : List Fld} {s t : State} (h : Reports l s t) : t.hzn = s.hzn := by rw [h.2]

theorem State.put_reports (s : State) (f : Fld) (v : Nat) {l : List Fld} (hf : f ∈ l) : Reports l s (s.put f v) :=
  ⟨s.put_fields f v l hf, rfl⟩

theorem State.flogAdd_reports (s : State) (source code detail : Nat) (ctx : Option Nat) {l : List Fld} (hl : R.GEN_FLOG_STAT_lost ∈ l) :
    Reports l s (s.flogAdd source code detail ctx) := by
  unfold State.flogAdd
  dsimp only
  split
  · exact ⟨fun _ _ _ => rfl, rfl⟩
  · refine ⟨fun g _ hg => ?_, rfl⟩
    exact State.get_put_other _ _ g _ (hg _ hl)

theorem State.logEvent_reports (s : State) (log what arg : Nat) (l : List Fld) : Reports l s (s.logEvent log what arg) := by
  unfold State.logEvent
  dsimp only
  split
  · refine ⟨s.send_fields _ l, ?_⟩
    rw [s.send_only (s.get R.HOST_IRQ_MAP2_host)]
  · exact ⟨fun _ _ _ => rfl, rfl⟩

theorem State.raiseHost_reports (s : State) (b : Nat) {l : List Fld} (hl : R.HOST_EVT ∈ l) : Reports l s (s.raiseHost b) :=
  Signals.reports ⟨s.raiseHost_only b, s.raise_fields _ _ _ b l hl⟩

/-- The fields that a change of the hold causes can reach. -/
def holdFields : List Fld := [R.GEN_FLOG_STAT_lost, R.HOST_EVT, R.GEN_READY_compute_ready]

theorem State.holdChanged_reports (s : State) (old : Nat) : Reports holdFields s (s.holdChanged old) :=
  ((s.flogAdd_reports _ _ _ _ (by decide)).trans (State.raiseHost_reports _ _ (by decide))).trans (State.logEvent_reports _ _ _ _ _)

theorem State.enterRunning_reports (s : State) : Reports holdFields s s.enterRunning := by
  unfold State.enterRunning
  extract_lets s1
  have h1 : Reports holdFields s s1 := s.put_reports _ _ (by decide)
  have hpwr : ∀ p : PwrSt, Reports holdFields s1 { s1 with pwr := p } := fun p => ⟨fun _ _ _ => rfl, rfl⟩
  split
  · exact (h1.trans (hpwr _)).trans (State.logEvent_reports _ _ _ _ _)
  · exact h1.trans (hpwr _)

/-- A hold cause that clears: what follows the clearing of its bit reaches no other bit of the causes. -/
theorem State.clearHold_cleared (s : State) (b : Nat) (h : bitAt (s.get R.GEN_HOLD_CAUSE_causes) b = true) :
    Reports holdFields (s.clrBit R.GEN_HOLD_CAUSE_causes b) (s.clearHold b) := by
  unfold State.clearHold
  extract_lets old s1
  have h1 : Reports holdFields (s.clrBit R.GEN_HOLD_CAUSE_causes b) s1 := State.holdChanged_reports _ _
  rw [if_neg (by simp [old, h])]
  split
  · exact h1
  · split
    · exact h1.trans s1.enterRunning_reports
    · exact h1.trans (s1.put_reports _ _ (by decide))
    · exact h1

theorem State.clearHold_idle (s : State) (b : Nat) (h : bitAt (s.get R.GEN_HOLD_CAUSE_causes) b = false) : s.clearHold b = s := by
  simp [State.clearHold, h]

theorem State.clearHold_bit (s : State) (b : Nat) (hb : b < 5) : bitAt ((s.clearHold b).get R.GEN_HOLD_CAUSE_causes) b = false := by
  cases h : bitAt (s.get R.GEN_HOLD_CAUSE_causes) b
  case false => rw [s.clearHold_idle b h, h]
  case true =>
    rw [(s.clearHold_cleared b h).1 R.GEN_HOLD_CAUSE_causes (by decide) (by decide), State.clrBit_bit _ _ _ _ hb, BEq.rfl,
      Bool.not_true, Bool.and_false]

theorem State.clearHold_reports (s : State) (b : Nat) : Reports (R.GEN_HOLD_CAUSE_causes :: holdFields) s (s.clearHold b) := by
  cases h : bitAt (s.get R.GEN_HOLD_CAUSE_causes) b
  case false => rw [s.clearHold_idle b h]; exact .refl _ s
  case true =>
    obtain ⟨hget, honly⟩ := s.clearHold_cleared b h
    exact (s.put_reports _ _ (List.mem_cons_self ..)).trans ⟨fun g hp hg => hget g hp fun f hf => hg f (List.mem_cons_of_mem _ hf), honly⟩

/-! ### LOCKED, COASTING and LOST entered -/

theorem State.trimStart_hzn (s : State) : s.trimStart.hzn = s.hzn := by
  unfold State.trimStart
  split <;> rfl

theorem State.trimStart_get (s : State) {g : Fld} (hg : g.key ≠ R.OSC_STAT_trim_src.key) : s.trimStart.get g = s.get g := by
  unfold State.trimStart
  split
  · exact State.get_put_other s _ g _ hg
  · rfl

/-- What LOCKED sets of the receiver itself; the fabric PLLs it starts are clocks. -/
theorem State.toLocked_eq (s : State) : ∃ u : State, s.toLocked = ((u.raiseHzn 0).clearHold 3).trimStart ∧
    u.hzn = { s.hzn with lock := .locked, missRun := 0, goodRun := 0, everLocked := true } := by
  refine ⟨_, rfl, ?_⟩
  dsimp only
  split <;> rfl

/-- LOCKED is entered: the frame number stays, HZN_EVT bit 0 is set, and the horizon's hold cause is clear (R100). -/
theorem State.toLocked_effect (s : State) : s.toLocked.hzn.lock = .locked ∧ s.toLocked.hzn.frame = s.hzn.frame ∧
    BitSet s.toLocked R.HZN_EVT 0 ∧ bitAt (s.toLocked.get R.GEN_HOLD_CAUSE_causes) 3 = false := by
  obtain ⟨u, heq, hu⟩ := s.toLocked_eq
  have hhzn : s.toLocked.hzn = u.hzn := by
    rw [heq, State.trimStart_hzn, (State.clearHold_reports _ 3).hzn, State.raiseHzn_hzn]
  refine ⟨by rw [hhzn, hu], by rw [hhzn, hu], ?_, ?_⟩
  · rw [heq, BitSet, State.trimStart_get _ (by decide), (State.clearHold_reports _ 3).1 R.HZN_EVT (by decide) (by decide)]
    exact u.raiseHzn_bitSet 0 (by decide)
  · rw [heq, State.trimStart_get _ (by decide)]
    exact State.clearHold_bit _ 3 (by decide)

/-- Horizon is not LOCKED: a trim window on frame marks is spoilt, and nothing else changes. -/
theorem State.trimSpoil_eq {s : State} {src : Nat} (h : s.hzn.lock ≠ .locked) (hsrc : s.get R.OSC_STAT_trim_src = src) :
    s.trimSpoil = { s with isl := { s.isl with trimSpoilt := s.isl.trimSpoilt || src == 2 } } := by
  rw [State.trimSpoil, if_pos h, hsrc]

/-- COASTING entered, before its event: the loss recorded, the entry counted, a trim window on frame marks spoilt (R96, R99, R166). -/
def State.coastingBegun (s : State) (loss : Nat) : State :=
  { s with
    regs := (((s.put R.HZN_STAT_last_loss loss).put R.HZN_STAT_coast_frames 0).count R.HZN_ERR1_coast_entries 1).regs,
    hzn := { s.hzn with lock := .coasting, goodRun := 0, missRun := 0 },
    isl := { s.isl with trimSpoilt := s.isl.trimSpoilt || s.get R.OSC_STAT_trim_src == 2 } }

theorem State.coastingBegun_fields (s : State) (loss : Nat) :
    FieldsButPmu [R.HZN_STAT_last_loss, R.HZN_STAT_coast_frames, R.HZN_ERR1_coast_entries, R.HZN_EVT] s (s.coastingBegun loss) :=
  (((FieldsButPmu.rfl' _ s).put _ _ (by decide)).put _ _ (by decide)).put _ _ (by decide)

theorem State.coastingBegun_get (s : State) (loss : Nat) (hloss : loss < 8) :
    (s.coastingBegun loss).get R.HZN_STAT_last_loss = loss ∧ (s.coastingBegun loss).get R.HZN_STAT_coast_frames = 0 ∧
    (s.coastingBegun loss).get R.HZN_ERR1_coast_entries = satAdd R.HZN_ERR1_coast_entries.w (s.get R.HZN_ERR1_coast_entries) 1 := by
  let u := (s.put R.HZN_STAT_last_loss loss).put R.HZN_STAT_coast_frames 0
  have hget : ∀ g, (s.coastingBegun loss).get g = (u.count R.HZN_ERR1_coast_entries 1).get g := fun _ => rfl
  have hother : ∀ g : Fld, g.key ≠ R.HZN_ERR1_coast_entries.key → (u.count R.HZN_ERR1_coast_entries 1).get g = u.get g :=
    fun g hg => State.get_put_other u _ g _ hg
  refine ⟨?_, ?_, ?_⟩
  · rw [hget, hother _ (by decide), State.get_put_other _ _ _ _ (by decide), State.get_put_same]
    exact Nat.mod_eq_of_lt hloss
  · rw [hget, hother _ (by decide), State.get_put_same, Nat.zero_mod]
  · rw [hget, State.get_count_same, State.get_put_other _ _ _ _ (by decide), State.get_put_other _ _ _ _ (by decide)]

theorem State.toCoasting_eq (s : State) (loss : Nat) : s.toCoasting loss = (s.coastingBegun loss).raiseHzn 1 := by
  have hsrc : (s.coastingBegun loss).get R.OSC_STAT_trim_src = s.get R.OSC_STAT_trim_src :=
    s.coastingBegun_fields loss _ (by decide) (by decide)
  exact congrArg (State.raiseHzn · 1) (State.trimSpoil_eq (s := { s.coastingBegun loss with isl := s.isl }) LockState.noConfusion hsrc)

/-- What an entry into COASTING changes. -/
theorem State.toCoasting_effect (s : State) (loss : Nat) (hloss : loss < 8) : ∃ t, s.toCoasting loss = t ∧
    t.hzn = { s.hzn with lock := .coasting, goodRun := 0, missRun := 0 } ∧
    t.get R.HZN_STAT_last_loss = loss ∧ t.get R.HZN_STAT_coast_frames = 0 ∧ BitSet t R.HZN_EVT 1 ∧
    t.get R.HZN_ERR1_coast_entries = satAdd R.HZN_ERR1_coast_entries.w (s.get R.HZN_ERR1_coast_entries) 1 ∧
    t.isl = { s.isl with trimSpoilt := s.isl.trimSpoilt || s.get R.OSC_STAT_trim_src == 2 } ∧
    FieldsButPmu [R.HZN_STAT_last_loss, R.HZN_STAT_coast_frames, R.HZN_ERR1_coast_entries, R.HZN_EVT] s t ∧
    t = { s with regs := t.regs, out := t.out, host := t.host, hzn := t.hzn, isl := t.isl } := by
  obtain ⟨hlast, hframes, hentries⟩ := s.coastingBegun_get loss hloss
  have honly := (s.coastingBegun loss).raiseHzn_only 1
  refine ⟨_, s.toCoasting_eq loss, State.raiseHzn_hzn _ 1, ?_, ?_, State.raiseHzn_bitSet _ 1 (by decide), ?_, honly.isl,
    (s.coastingBegun_fields loss).raiseHzn 1 (by decide), by rw [honly]; rfl⟩
  · rw [State.raiseHzn_get _ _ (by decide) (by decide), hlast]
  · rw [State.raiseHzn_get _ _ (by decide) (by decide), hframes]
  · rw [State.raiseHzn_get _ _ (by decide) (by decide), hentries]

/-- LOST entered, before its event: what was gathered ends, a trim window on frame marks is spoilt, no frame marks go to the island
(R96, R100, R166, R567). -/
def State.lostBegun (s : State) : State :=
  { s with
    hzn := { s.hzn.ended with lock := .lost },
    isl := { s.isl with trimSpoilt := s.isl.trimSpoilt || s.get R.OSC_STAT_trim_src == 2 },
    mtr := s.pulsesStop.mtr }

theorem State.lostBegun_eq (s : State) : (s.setHzn { s.hzn.ended with lock := .lost }).trimSpoil.pulsesStop = s.lostBegun :=
  congrArg State.pulsesStop (State.trimSpoil_eq (s := s.setHzn _) LockState.noConfusion rfl)

/-- What LOST brings with it: a running package takes granted work back and holds for cause 3. -/
def State.lostHeld (w : State) : State := if w.running then w.ungrantAll.raiseHold 3 else w

theorem State.toLost_recorded {s : State} {loss : Nat} (h : s.hzn.lock = .locked ∨ loss = 5) :
    s.toLost loss = ((s.put R.HZN_STAT_last_loss loss).lostBegun.raiseHzn 2).lostHeld := by
  unfold State.toLost
  rw [if_pos h, ← State.lostBegun_eq]
  rfl

theorem State.toLost_unrecorded {s : State} {loss : Nat} (h : ¬(s.hzn.lock = .locked ∨ loss = 5)) :
    s.toLost loss = (s.lostBegun.raiseHzn 2).lostHeld := by
  unfold State.toLost
  rw [if_neg h, ← State.lostBegun_eq]
  rfl

/-- What LOST changes: the receiver with its event, what a trim window and the frame's energy lose, and, where the package runs,
the granted work and the hold that is raised last. -/
theorem State.lostHeld_effect (s : State) : ∃ u : State,
    (s.lostBegun.raiseHzn 2).lostHeld = (if s.running = true then u.raiseHold 3 else u) ∧ u.hzn.lock = .lost ∧
    (∀ i < 7, bitAt (u.get R.HZN_EVT) i = (bitAt (s.get R.HZN_EVT) i || i == 2)) ∧ FieldsButPmu [R.HZN_EVT] s u ∧
    u = { s with regs := u.regs, out := u.out, host := u.host, hzn := u.hzn, descs := u.descs, isl := u.isl, mtr := u.mtr } := by
  have honly := s.lostBegun.raiseHzn_only 2
  have hrun : (s.lostBegun.raiseHzn 2).running = s.running := by
    rw [State.running, State.stopping, State.raiseHzn_pwr]
    rfl
  have hlock : (s.lostBegun.raiseHzn 2).hzn.lock = .lost := by rw [State.raiseHzn_hzn]; rfl
  have hfields : FieldsButPmu [R.HZN_EVT] s (s.lostBegun.raiseHzn 2) :=
    FieldsButPmu.raiseHzn (t := s.lostBegun) (fun _ _ _ => rfl) 2 (by decide)
  rw [State.lostHeld, hrun]
  cases s.running
  · exact ⟨s.lostBegun.raiseHzn 2, (if_neg Bool.false_ne_true).trans (if_neg Bool.false_ne_true).symm, hlock,
      s.lostBegun.raiseHzn_bit 2, hfields, by rw [honly]; rfl⟩
  · exact ⟨(s.lostBegun.raiseHzn 2).ungrantAll, (if_pos rfl).trans (if_pos rfl).symm, hlock,
      s.lostBegun.raiseHzn_bit 2, hfields, by rw [honly]; rfl⟩

end Sys2Proof.Machine
end

section
/-!
PROOFS. The states of the horizon receiver (R92, R96, R97, R100, R110).
-/

namespace Sys2Proof.Machine

/-! ### What the running states and BENCH decide -/

theorem State.atStep_running (s : State) (n : Nat) (h : s.running = true) : s.atStep n = false := by
  cases hp : s.pwr.state <;> simp_all [State.atStep, State.dawning, State.running]

theorem State.horizonDue_running (s : State) (h : s.running = true) (hb : s.isBench = false) : s.horizonDue = true := by
  cases hp : s.pwr.state <;> simp_all [State.horizonDue, State.running, State.isBench]

/-! ### ACQUIRING entered and left -/

/-- ACQUIRING is entered: the mark moves only where an offset kept from before applies at once (R95). -/
theorem State.toAcquiring_effect (s : State) : ∃ t, s.toAcquiring = t ∧
    t.hzn.lock = .acquiring ∧ t.hzn.acqFrom = s.hzn.lock ∧ t.hzn.firstMark = false ∧ t.hzn.frame = s.hzn.frame ∧
    FieldsButPmu [R.HZN_DELAY_offset, R.HZN_EVT] s t ∧ t = { s with regs := t.regs, out := t.out, host := t.host, hzn := t.hzn } := by
  let u := s.setHzn { s.hzn.ended with lock := .acquiring, acqFrom := s.hzn.lock }
  have heq : s.toAcquiring = if u.hzn.target = u.get R.HZN_DELAY_offset ∨ u.isBench = true then u
      else (u.applyOffset u.hzn.target).raiseHzn 3 := rfl
  rw [heq]
  split
  · exact ⟨u, rfl, rfl, rfl, rfl, rfl, fun _ _ _ => rfl, rfl⟩
  · have hfields : FieldsButPmu [R.HZN_DELAY_offset, R.HZN_EVT] s (u.applyOffset u.hzn.target) :=
      (FieldsButPmu.rfl' _ s).put R.HZN_DELAY_offset _ (by decide)
    have hhzn := State.raiseHzn_hzn (u.applyOffset u.hzn.target) 3
    exact ⟨_, rfl, by rw [hhzn]; rfl, by rw [hhzn]; rfl, by rw [hhzn]; rfl, by rw [hhzn]; rfl, hfields.raiseHzn 3 (by decide),
      ((((OnlyReceiver.refl s).setHzn _).put _ _).setHzn _).raiseHzn 3⟩

theorem exec_hznActivity {s : State} (hup : s.controlUp = true) (hrun : s.running = true)
    (hdue : s.hzn.lock = .lost ∨ (s.hzn.lock = .dark ∧ s.get R.HZN_CTRL_rx_en = 1 ∧ s.isBench = false)) :
    exec .hznActivity s = .next s.toAcquiring := by
  obtain ⟨t, ht, -, -, -, -, -, honly⟩ := s.toAcquiring_effect
  have hstep : s.toAcquiring.atStep 12 = false := by
    have hs := s.atStep_running 12 hrun
    rw [ht, honly]
    exact hs
  show execHznActivity s = _
  rcases hdue with hl | ⟨hl, hen, hb⟩
  · simp [execHznActivity, hup, hl, hstep]
  · simp [execHznActivity, hup, hl, hen, hb, s.horizonDue_running hrun hb, hstep]

theorem exec_hznEdgeLoss_locked {s : State} (hup : s.controlUp = true) (hb : s.isBench = false) (hl : s.hzn.lock = .locked) :
    exec .hznEdgeLoss s = .next (s.toCoasting 1) := by
  show execHznEdgeLoss s = _
  simp [execHznEdgeLoss, hup, hb, hl]

/-- The horizon PLL's lock bit cleared. -/
theorem getLsbD_pll5_cleared (x : BitVec 8) : (x &&& ~~~0x20#8).getLsbD 5 = false := by simp

theorem exec_hznPllUnlock_locked {s : State} (hp : s.hznPll = true) (hl : s.hzn.lock = .locked) :
    exec .hznPllUnlock s = .next (State.toCoasting { s with clk := { s.clk with locked := s.clk.locked &&& ~~~0x20#8 } } 2) := by
  show execHznPllUnlock s = _
  simp [execHznPllUnlock, State.hznPllDown, hp, hl]

theorem exec_hznPllLock {s : State} (hup : s.controlUp = true) (hrun : s.running = true) (hb : s.isBench = false)
    (hp : s.hznPll = false) (hl : s.hzn.lock ≠ .dark) :
    exec .hznPllLock s = .next { s with clk := { s.clk with locked := s.clk.locked ||| 0x20#8, started := s.clk.started ||| 0x20#8 } } := by
  have hstep : State.atStep { s with clk := { s.clk with locked := s.clk.locked ||| 0x20#8, started := s.clk.started ||| 0x20#8 } } 13
      = false := s.atStep_running 13 hrun
  show execHznPllLock s = _
  simp [execHznPllLock, State.hznPllUp, hup, hb, hp, hl, hstep]

theorem State.acquireBack_effect (s : State) (hp : s.hznPll = false) : ∃ t, s.acquireBack = t ∧ t.hzn.lock = s.hzn.acqFrom ∧
    t.hzn.firstMark = false ∧ t.hznPll = false ∧ t = { s with hzn := t.hzn, clk := { s.clk with locked := t.clk.locked } } := by
  refine ⟨_, rfl, ?_⟩
  unfold State.acquireBack
  dsimp only
  split
  · exact ⟨rfl, rfl, getLsbD_pll5_cleared _, rfl⟩
  · exact ⟨rfl, rfl, hp, rfl⟩

/-! ### The receiver disabled -/

/-- The registers that a disable writes: rx_en, and the loss where there was a lock. -/
def State.rxRecorded (s : State) : State :=
  if s.hzn.lock = .locked ∨ s.hzn.lock = .coasting then (s.put R.HZN_CTRL_rx_en 0).put R.HZN_STAT_last_loss 6 else s.put R.HZN_CTRL_rx_en 0

theorem State.rxRecorded_locked {s : State} (hl : s.hzn.lock = .locked ∨ s.hzn.lock = .coasting) :
    s.rxRecorded = (s.put R.HZN_CTRL_rx_en 0).put R.HZN_STAT_last_loss 6 := if_pos hl

theorem State.rxRecorded_unlocked {s : State} (hl : ¬(s.hzn.lock = .locked ∨ s.hzn.lock = .coasting)) :
    s.rxRecorded = s.put R.HZN_CTRL_rx_en 0 := if_neg hl

theorem State.rxRecorded_only (s : State) : OnlyRegs s s.rxRecorded := by
  unfold State.rxRecorded
  split <;> rfl

theorem State.rxRecorded_fields (s : State) : FieldsBut [R.HZN_CTRL_rx_en, R.HZN_STAT_last_loss] s s.rxRecorded := by
  have hen := (FieldsBut.refl [R.HZN_CTRL_rx_en, R.HZN_STAT_last_loss] s).put R.HZN_CTRL_rx_en 0 (by decide)
  unfold State.rxRecorded
  split
  · exact hen.put R.HZN_STAT_last_loss 6 (by decide)
  · exact hen

theorem State.rxRecorded_rx_en (s : State) : s.rxRecorded.get R.HZN_CTRL_rx_en = 0 := by
  have hen : (s.put R.HZN_CTRL_rx_en 0).get R.HZN_CTRL_rx_en = 0 := State.get_put_same ..
  unfold State.rxRecorded
  split
  · rwa [State.get_put_other _ _ _ _ (by decide)]
  · exact hen

/-- The receiver forced to DARK, before a running package takes granted work back and holds (R96, R166). -/
def State.rxDark (s : State) : State :=
  { s with
    regs := s.rxRecorded.regs,
    hzn := { s.hzn.ended with lock := .dark },
    clk := { s.clk with locked := s.clk.locked &&& ~~~0x20#8 },
    isl := { s.isl with trimSpoilt := s.isl.trimSpoilt || s.get R.OSC_STAT_trim_src == 2 } }

theorem State.rxDark_eq (s : State) : State.trimSpoil { s.rxRecorded with
    hzn := { s.rxRecorded.hzn.ended with lock := .dark },
    clk := { s.rxRecorded.clk with locked := s.rxRecorded.clk.locked &&& ~~~0x20#8 } } = s.rxDark := by
  refine (State.trimSpoil_eq (src := s.get R.OSC_STAT_trim_src) ?_ ?_).trans ?_
  · exact LockState.noConfusion
  · exact s.rxRecorded_fields _ (by decide)
  · rw [s.rxRecorded_only]; rfl

/-- The hold that follows in a running package that had a lock or had lost it (R100). -/
theorem State.rxDisable_eq {s : State} (hb : s.isBench = false) :
    s.rxDisable = if s.running && (s.hzn.lock == .locked || s.hzn.lock == .coasting || s.hzn.lock == .lost) then
      s.rxDark.ungrantAll.raiseHold 3 else s.rxDark := by
  unfold State.rxDisable
  rw [if_neg (by simp [hb])]
  exact congrArg (fun u : State => if u.running && (s.hzn.lock == .locked || s.hzn.lock == .coasting || s.hzn.lock == .lost) then
    u.ungrantAll.raiseHold 3 else u) s.rxDark_eq

theorem exec_hznRxDisable {s : State} (hup : s.controlUp = true) : exec .hznRxDisable s = .next s.rxDisable := congrArg _ (if_pos hup)

/-- A running package whose receiver is disabled in LOCKED or COASTING (R100). -/
theorem State.rxDisable_held {s : State} (hb : s.isBench = false) (hl : s.hzn.lock = .locked ∨ s.hzn.lock = .coasting) (hrun : s.running = true) :
    ∃ u : State, s.rxDisable = u.raiseHold 3 ∧ u.hzn.lock = .dark ∧ u.hznPll = false ∧ u.get R.HZN_CTRL_rx_en = 0 ∧
      u.get R.HZN_STAT_last_loss = 6 ∧ FieldsBut [R.HZN_CTRL_rx_en, R.HZN_STAT_last_loss] s u ∧
      u = { s with regs := u.regs, hzn := u.hzn, clk := { s.clk with locked := u.clk.locked }, descs := u.descs,
                   isl := { s.isl with trimSpoilt := u.isl.trimSpoilt } } := by
  refine ⟨s.rxDark.ungrantAll, ?_, rfl, getLsbD_pll5_cleared _, s.rxRecorded_rx_en, ?_, s.rxRecorded_fields, rfl⟩
  · rw [State.rxDisable_eq hb, hrun]
    rcases hl with hl | hl <;> rw [hl] <;> rfl
  · show s.rxRecorded.get _ = 6
    rw [State.rxRecorded_locked hl]
    exact State.get_put_same ..

/-- A receiver disabled where it had no lock. -/
theorem State.rxDisable_unheld {s : State} (hb : s.isBench = false) (hl : s.hzn.lock = .dark ∨ s.hzn.lock = .acquiring) :
    ∃ t, s.rxDisable = t ∧ t.hzn.lock = .dark ∧ t.hznPll = false ∧ t.get R.HZN_CTRL_rx_en = 0 ∧ FieldsBut [R.HZN_CTRL_rx_en] s t ∧
      t = { s with regs := t.regs, hzn := t.hzn, clk := { s.clk with locked := t.clk.locked },
                   isl := { s.isl with trimSpoilt := t.isl.trimSpoilt } } := by
  refine ⟨s.rxDark, ?_, rfl, getLsbD_pll5_cleared _, s.rxRecorded_rx_en, ?_, rfl⟩
  · rw [State.rxDisable_eq hb]
    rcases hl with hl | hl <;> rw [hl] <;> simp
  · have hnot : ¬(s.hzn.lock = .locked ∨ s.hzn.lock = .coasting) := by rcases hl with hl | hl <;> simp [hl]
    show FieldsBut _ s s.rxRecorded
    rw [State.rxRecorded_unlocked hnot]
    exact (s.put_writes R.HZN_CTRL_rx_en 0).2

theorem exec_hznRxEnable {s : State} (hup : s.controlUp = true) (hb : s.isBench = false) :
    exec .hznRxEnable s = .next (s.put R.HZN_CTRL_rx_en 1) := by
  show execHznRxEnable s = _
  simp [execHznRxEnable, State.rxEnable, hup, hb]

theorem exec_gapStart {s : State} (n : BitVec 7) (hb : s.isBench = true) :
    exec (.gapStart n) s = .next ((s.put R.HZN_BENCH_gap_frames n.toNat).setHzn { s.hzn with gapLeft := n.toNat }) := by
  have hb' : (s.put R.HZN_BENCH_gap_frames n.toNat).isBench = true := hb
  show execGapStart n s = _
  simp [execGapStart, State.gapStart, hb, hb']

/-- Settles O30: each transition of R96 by what it enters (`toAcquiring_effect`, `toCoasting_effect`, `rxDark`). -/
theorem receiverStates : Obligations.ReceiverStates := by
  unfold Obligations.ReceiverStates
  refine ⟨fun s hup hrun hdue => ?_, fun s hup hb hl => ?_, fun s hp hl => ?_, fun s hup hrun hb hp hl => exec_hznPllLock hup hrun hb hp hl,
    fun s hl hp => ?_, fun s hup hb hl hrun => ?_, fun s hup hb hl => ?_, fun s hup hb => ?_, fun n s hb => ?_⟩
  · obtain ⟨t, ht, hrest⟩ := s.toAcquiring_effect
    exact ⟨t, ht ▸ exec_hznActivity hup hrun hdue, hrest⟩
  · obtain ⟨t, ht, hrest⟩ := s.toCoasting_effect 1 (by decide)
    exact ⟨t, ht ▸ exec_hznEdgeLoss_locked hup hb hl, hrest⟩
  · obtain ⟨t, ht, hhzn, hlast, hframes, hevt, hentries, hisl, hfields, honly⟩ :=
      State.toCoasting_effect { s with clk := { s.clk with locked := s.clk.locked &&& ~~~0x20#8 } } 2 (by decide)
    have hpll : t.hznPll = false := by
      rw [honly]
      exact getLsbD_pll5_cleared _
    exact ⟨t, ht ▸ exec_hznPllUnlock_locked hp hl, hhzn, hpll, hlast, hframes, hevt, hentries, hisl, hfields, by rw [honly]⟩
  · obtain ⟨t, ht, hrest⟩ := s.acquireBack_effect hp
    exact ⟨t, ht ▸ congrArg _ (if_pos ⟨hl, hp⟩), hrest⟩
  · obtain ⟨u, hu, hrest⟩ := State.rxDisable_held hb hl hrun
    exact ⟨u, hu ▸ exec_hznRxDisable hup, hrest⟩
  · obtain ⟨t, ht, hrest⟩ := State.rxDisable_unheld hb hl
    exact ⟨t, ht ▸ exec_hznRxDisable hup, hrest⟩
  · exact ⟨_, exec_hznRxEnable hup hb, s.put_writes _ _, State.get_put_same ..⟩
  · refine ⟨_, exec_gapStart n hb, rfl, ?_, (s.put_writes R.HZN_BENCH_gap_frames n.toNat).2, rfl⟩
    exact (State.get_put_same s _ _).trans (Nat.mod_eq_of_lt n.isLt)

end Sys2Proof.Machine
end

section
/-!
PROOFS. Horizon messages: ASSIGN, DELAY, STATUS, and those rejected (R89–R91, R94, R95, R113).
-/

namespace Sys2Proof.Machine

/-! ### Little-endian numbers -/

theorem ofLE_lt (bs : List Byte) : ofLE bs < 256 ^ bs.length := by
  induction bs with
  | nil => simp [ofLE]
  | cons b bs ih =>
    have hb := b.isLt
    rw [ofLE, List.length_cons, Nat.pow_succ]
    omega

theorem leAt_lt (bs : List Byte) (i n : Nat) : leAt bs i n < 256 ^ n :=
  (ofLE_lt _).trans_le (Nat.pow_le_pow_right (by decide) (List.length_take_le _ _))

theorem bits_lt (n lo w : Nat) : bits n lo w < 2 ^ w := Nat.mod_lt _ (Nat.two_pow_pos w)

/-! ### What reaches a message's meaning (R89, R90) -/

section
variable {s : State} {m : List Byte} {row : Nat → Bool} {take : State → State}
  (hr : s.hznReads = true) (hrow : row (leAt m 0 1) = true) (hbad : s.hzn.msgBad = false)
include hr hrow hbad

theorem State.message_badCrc (hcrc : crc16 (m.take 30) ≠ leAt m 30 2) : s.message m row take = s.count R.HZN_ERR1_msg_crc_errors 1 := by
  simp [State.message, hr, hrow, hbad, hcrc]

theorem State.message_taken (hcrc : crc16 (m.take 30) = leAt m 30 2) : s.message m row take = take s := by
  simp [State.message, hr, hrow, hbad, hcrc]

end

/-! ### ASSIGN (R113) -/

theorem State.assignIn_rejected {s : State} {m : List Byte} (h : bits (leAt m 4 1) 4 3 < bits (leAt m 4 1) 0 3) :
    s.assignIn m = s.count R.HZN_ERR1_msg_rejected 1 := if_pos h

theorem State.assignIn_again {s : State} {m : List Byte} (hset : s.get R.GEN_TOPO_assigned = 1)
    (hid : leAt m 2 2 = s.get R.GEN_MACHINE_machine_id) (hrack : bits (leAt m 4 1) 0 3 = s.get R.GEN_TOPO_rack)
    (hlast : bits (leAt m 4 1) 4 3 = s.get R.GEN_MACHINE_racks_minus_one) (hle : bits (leAt m 4 1) 0 3 ≤ bits (leAt m 4 1) 4 3)
    (hsled : bits (leAt m 5 1) 0 4 = s.hzn.expSled) (hslot : bits (leAt m 5 1) 4 3 = s.hzn.expSlot) : s.assignIn m = s := by
  unfold State.assignIn
  rw [if_neg (Nat.not_lt.2 hle), if_neg (by simp [hset]), if_pos ⟨hid, hrack, hlast, hsled, hslot⟩]

/-- What a first ASSIGN writes, before its event. -/
def State.assignTaken (s : State) (m : List Byte) : State :=
  (s.puts [(R.GEN_TOPO_rack, bits (leAt m 4 1) 0 3), (R.GEN_TOPO_assigned, 1), (R.GEN_MACHINE_machine_id, leAt m 2 2),
    (R.GEN_MACHINE_racks_minus_one, bits (leAt m 4 1) 4 3)]).setHzn
    { s.hzn with expSled := bits (leAt m 5 1) 0 4, expSlot := bits (leAt m 5 1) 4 3 }

/-- The fields that an ASSIGN accepted writes. -/
def assignFields : List Fld :=
  [R.GEN_TOPO_rack, R.GEN_TOPO_assigned, R.GEN_MACHINE_machine_id, R.GEN_MACHINE_racks_minus_one, R.HZN_EVT]

theorem State.assignTaken_fields (s : State) (m : List Byte) : FieldsButPmu assignFields s (s.assignTaken m) :=
  s.puts_fields (by simp [assignFields])

theorem State.assignIn_first {s : State} {m : List Byte} (hset : s.get R.GEN_TOPO_assigned = 0)
    (hle : bits (leAt m 4 1) 0 3 ≤ bits (leAt m 4 1) 4 3) (hsled : bits (leAt m 5 1) 0 4 = s.get R.GEN_TOPO_sled)
    (hslot : bits (leAt m 5 1) 4 3 = s.get R.GEN_TOPO_slot) : s.assignIn m = (s.assignTaken m).raiseHzn 4 := by
  have hget : ∀ g : Fld, ¬ inPmu g → (∀ f ∈ assignFields, g.key ≠ f.key) → ((s.assignTaken m).raiseHzn 4).get g = s.get g :=
    (s.assignTaken_fields m).raiseHzn 4 (by decide)
  have hpos : bits (leAt m 5 1) 0 4 = ((s.assignTaken m).raiseHzn 4).get R.GEN_TOPO_sled ∧
      bits (leAt m 5 1) 4 3 = ((s.assignTaken m).raiseHzn 4).get R.GEN_TOPO_slot := by
    rw [hget _ (by decide) (by decide), hget _ (by decide) (by decide)]
    exact ⟨hsled, hslot⟩
  unfold State.assignIn
  rw [if_neg (Nat.not_lt.2 hle), if_pos hset]
  exact if_pos hpos

theorem State.assignTaken_get (s : State) (m : List Byte) : (s.assignTaken m).get R.GEN_TOPO_rack = bits (leAt m 4 1) 0 3 ∧
    (s.assignTaken m).get R.GEN_TOPO_assigned = 1 ∧ (s.assignTaken m).get R.GEN_MACHINE_machine_id = leAt m 2 2 ∧
    (s.assignTaken m).get R.GEN_MACHINE_racks_minus_one = bits (leAt m 4 1) 4 3 := by
  have hid := leAt_lt m 2 2
  have hrack := bits_lt (leAt m 4 1) 0 3
  have hlast := bits_lt (leAt m 4 1) 4 3
  have hregs : ∀ g, (s.assignTaken m).get g = (s.puts [(R.GEN_TOPO_rack, bits (leAt m 4 1) 0 3), (R.GEN_TOPO_assigned, 1),
      (R.GEN_MACHINE_machine_id, leAt m 2 2), (R.GEN_MACHINE_racks_minus_one, bits (leAt m 4 1) 4 3)]).get g := fun _ => rfl
  simp only [hregs, State.puts_cons, State.puts_nil]
  refine ⟨?_, ?_, ?_, ?_⟩ <;> simp (disch := decide) only [State.get_put_other, State.get_put_same]
  · exact Nat.mod_eq_of_lt hrack
  · rfl
  · exact Nat.mod_eq_of_lt hid
  · exact Nat.mod_eq_of_lt hlast

theorem State.assignIn_effect {s : State} {m : List Byte} (hset : s.get R.GEN_TOPO_assigned = 0)
    (hle : bits (leAt m 4 1) 0 3 ≤ bits (leAt m 4 1) 4 3) (hsled : bits (leAt m 5 1) 0 4 = s.get R.GEN_TOPO_sled)
    (hslot : bits (leAt m 5 1) 4 3 = s.get R.GEN_TOPO_slot) : ∃ t, s.assignIn m = t ∧
    t.get R.GEN_TOPO_rack = bits (leAt m 4 1) 0 3 ∧ t.get R.GEN_TOPO_assigned = 1 ∧
    t.get R.GEN_MACHINE_machine_id = leAt m 2 2 ∧ t.get R.GEN_MACHINE_racks_minus_one = bits (leAt m 4 1) 4 3 ∧
    BitSet t R.HZN_EVT 4 ∧ t.hzn = { s.hzn with expSled := bits (leAt m 5 1) 0 4, expSlot := bits (leAt m 5 1) 4 3 } ∧
    FieldsButPmu assignFields s t ∧ OnlyReceiver s t := by
  obtain ⟨hrack, hassigned, hid, hlast⟩ := s.assignTaken_get m
  refine ⟨_, State.assignIn_first hset hle hsled hslot, ?_, ?_, ?_, ?_, State.raiseHzn_bitSet _ 4 (by decide), State.raiseHzn_hzn _ 4,
    (s.assignTaken_fields m).raiseHzn 4 (by decide), ?_⟩
  · rwa [State.raiseHzn_get _ _ (by decide) (by decide)]
  · rwa [State.raiseHzn_get _ _ (by decide) (by decide)]
  · rwa [State.raiseHzn_get _ _ (by decide) (by decide)]
  · rwa [State.raiseHzn_get _ _ (by decide) (by decide)]
  · exact (((OnlyReceiver.refl s).puts _).setHzn _).raiseHzn 4

/-! ### DELAY (R94, R95) -/

theorem State.delayIn_rejected {s : State} {m : List Byte} (h : 4096 < leAt m 2 2) :
    s.delayIn m = s.count R.HZN_ERR1_msg_rejected 1 := if_pos h

/-- A DELAY applied on receipt, before its event. -/
def State.delayApplied (s : State) (off seq : Nat) : State :=
  let u := (s.put R.HZN_DELAY_seq seq).applyOffset off
  (u.setHzn { u.hzn with target := off }).put R.HZN_STAT_delay_valid 1

theorem State.delayIn_acquiring {s : State} {m : List Byte} (hle : leAt m 2 2 ≤ 4096) (hl : s.hzn.lock = .acquiring) :
    s.delayIn m = (s.delayApplied (leAt m 2 2) (leAt m 4 1)).raiseHzn 3 := by
  unfold State.delayIn
  rw [if_neg (Nat.not_lt.2 hle)]
  exact if_pos hl

theorem State.delayApplied_hzn (s : State) (off seq : Nat) : (s.delayApplied off seq).hzn =
    { s.hzn with target := off, markAt := s.hzn.markAt + offsetTicks (s.get R.HZN_DELAY_offset) - offsetTicks off } := by
  have hold : (s.put R.HZN_DELAY_seq seq).get R.HZN_DELAY_offset = s.get R.HZN_DELAY_offset :=
    State.get_put_other _ _ _ _ (by decide)
  rw [← hold]
  rfl

theorem State.delayIn_slewed {s : State} {m : List Byte} (hle : leAt m 2 2 ≤ 4096) (hl : s.hzn.lock = .locked)
    (hne : leAt m 2 2 ≠ s.hzn.target) (hup : leAt m 2 2 ≤ s.hzn.target + 16) (hdown : s.hzn.target ≤ leAt m 2 2 + 16) :
    s.delayIn m = ((s.put R.HZN_DELAY_seq (leAt m 4 1)).setHzn
      { s.hzn with target := leAt m 2 2, slewFrom := some (leAt m 5 6) }).raiseHzn 3 := by
  have hchange : ((leAt m 2 2 : Int) - s.hzn.target).natAbs ≠ 0 ∧ ((leAt m 2 2 : Int) - s.hzn.target).natAbs ≤ 16 := by omega
  unfold State.delayIn
  rw [if_neg (Nat.not_lt.2 hle)]
  refine (if_neg (by simp [hl])).trans ?_
  exact (if_neg hchange.1).trans (if_pos hchange.2)

theorem State.delayApplied_get (s : State) (off seq : Nat) (hoff : off ≤ 4096) (hseq : seq < 256) :
    (s.delayApplied off seq).get R.HZN_DELAY_offset = off ∧ (s.delayApplied off seq).get R.HZN_DELAY_seq = seq ∧
    (s.delayApplied off seq).get R.HZN_STAT_delay_valid = 1 := by
  have hregs : ∀ g, (s.delayApplied off seq).get g =
      (((s.put R.HZN_DELAY_seq seq).put R.HZN_DELAY_offset off).put R.HZN_STAT_delay_valid 1).get g := fun _ => rfl
  simp only [hregs]
  refine ⟨?_, ?_, ?_⟩ <;> simp (disch := decide) only [State.get_put_other, State.get_put_same]
  · exact Nat.mod_eq_of_lt (by show off < 65536; omega)
  · exact Nat.mod_eq_of_lt hseq
  · rfl

theorem State.delayApplied_fields (s : State) (off seq : Nat) :
    FieldsButPmu [R.HZN_DELAY_offset, R.HZN_DELAY_seq, R.HZN_STAT_delay_valid, R.HZN_EVT] s (s.delayApplied off seq) :=
  (((FieldsButPmu.rfl' _ s).put R.HZN_DELAY_seq seq (by decide)).put R.HZN_DELAY_offset off (by decide)).put
    R.HZN_STAT_delay_valid 1 (by decide)

theorem State.delayIn_acquiring_effect {s : State} {m : List Byte} (hle : leAt m 2 2 ≤ 4096) (hl : s.hzn.lock = .acquiring) :
    ∃ t, s.delayIn m = t ∧ t.get R.HZN_DELAY_offset = leAt m 2 2 ∧ t.get R.HZN_DELAY_seq = leAt m 4 1 ∧
      t.get R.HZN_STAT_delay_valid = 1 ∧ t.hzn.target = leAt m 2 2 ∧
      t.hzn.markAt = s.hzn.markAt + offsetTicks (s.get R.HZN_DELAY_offset) - offsetTicks (leAt m 2 2) ∧ BitSet t R.HZN_EVT 3 ∧
      FieldsButPmu [R.HZN_DELAY_offset, R.HZN_DELAY_seq, R.HZN_STAT_delay_valid, R.HZN_EVT] s t ∧
      t = { s with regs := t.regs, out := t.out, host := t.host,
                   hzn := { s.hzn with target := t.hzn.target, markAt := t.hzn.markAt } } := by
  obtain ⟨hoffset, hseq, hvalid⟩ := s.delayApplied_get (leAt m 2 2) (leAt m 4 1) hle (leAt_lt m 4 1)
  have hhzn := s.delayApplied_hzn (leAt m 2 2) (leAt m 4 1)
  refine ⟨_, State.delayIn_acquiring hle hl, ?_, ?_, ?_, ?_, ?_, State.raiseHzn_bitSet _ 3 (by decide),
    (s.delayApplied_fields _ _).raiseHzn 3 (by decide), ?_⟩
  · rwa [State.raiseHzn_get _ _ (by decide) (by decide)]
  · rwa [State.raiseHzn_get _ _ (by decide) (by decide)]
  · rwa [State.raiseHzn_get _ _ (by decide) (by decide)]
  · rw [State.raiseHzn_hzn, hhzn]
  · rw [State.raiseHzn_hzn, hhzn]
  · have honly : OnlyReceiver s (s.delayApplied (leAt m 2 2) (leAt m 4 1)) :=
      (((((OnlyReceiver.refl s).put _ _).put _ _).setHzn _).setHzn _).put _ _
    refine Eq.trans (honly.raiseHzn 3) ?_
    rw [State.raiseHzn_hzn, hhzn]

theorem State.delayIn_slewed_effect {s : State} {m : List Byte} (hle : leAt m 2 2 ≤ 4096) (hl : s.hzn.lock = .locked)
    (hne : leAt m 2 2 ≠ s.hzn.target) (hup : leAt m 2 2 ≤ s.hzn.target + 16) (hdown : s.hzn.target ≤ leAt m 2 2 + 16) :
    ∃ t, s.delayIn m = t ∧ t.hzn = { s.hzn with target := leAt m 2 2, slewFrom := some (leAt m 5 6) } ∧
      t.get R.HZN_DELAY_seq = leAt m 4 1 ∧ BitSet t R.HZN_EVT 3 ∧ FieldsButPmu [R.HZN_DELAY_seq, R.HZN_EVT] s t ∧
      OnlyReceiver s t := by
  let u := (s.put R.HZN_DELAY_seq (leAt m 4 1)).setHzn { s.hzn with target := leAt m 2 2, slewFrom := some (leAt m 5 6) }
  have hseq : u.get R.HZN_DELAY_seq = leAt m 4 1 := (State.get_put_same s _ _).trans (Nat.mod_eq_of_lt (leAt_lt m 4 1))
  have hfields : FieldsButPmu [R.HZN_DELAY_seq, R.HZN_EVT] s u := (FieldsButPmu.rfl' _ s).put R.HZN_DELAY_seq _ (by decide)
  refine ⟨u.raiseHzn 3, State.delayIn_slewed hle hl hne hup hdown, u.raiseHzn_hzn 3, ?_, u.raiseHzn_bitSet 3 (by decide),
    hfields.raiseHzn 3 (by decide), (((OnlyReceiver.refl s).put _ _).setHzn _).raiseHzn 3⟩
  rwa [State.raiseHzn_get _ _ (by decide) (by decide)]

/-! ### STATUS (R90, R91) -/

theorem State.statusIn_recorded {s : State} {m : List Byte} (h : leAt m 2 1 ≤ 3) :
    s.statusIn m = s.puts [(R.HZN_GEN_gen_state, leAt m 2 1), (R.HZN_GEN_return_seen, leAt m 3 1), (R.HZN_GEN_star_output, leAt m 1 1)] :=
  if_neg (Nat.not_lt.2 h)

theorem State.statusIn_effect {s : State} {m : List Byte} (h : leAt m 2 1 ≤ 3) : ∃ t, s.statusIn m = t ∧
    t.get R.HZN_GEN_gen_state = leAt m 2 1 ∧ t.get R.HZN_GEN_return_seen = leAt m 3 1 % 2 ∧
    t.get R.HZN_GEN_star_output = leAt m 1 1 % 128 ∧
    Writes [R.HZN_GEN_gen_state, R.HZN_GEN_return_seen, R.HZN_GEN_star_output] s t := by
  refine ⟨_, State.statusIn_recorded h, ?_, ?_, ?_, s.puts_writes _⟩ <;>
    simp (disch := decide) only [State.puts_cons, State.puts_nil, State.get_put_other, State.get_put_same]
  · exact Nat.mod_eq_of_lt (Nat.lt_succ_of_le h)
  · rfl
  · rfl

/-! ### The commands -/

theorem exec_assignMessage (msg : Vector Byte 32) (s : State) :
    exec (.assignMessage msg) s = .next (s.message msg.toList (· == 1) (fun u => u.assignIn msg.toList)) := rfl

theorem exec_delayMessage (msg : Vector Byte 32) (s : State) :
    exec (.delayMessage msg) s = .next (s.message msg.toList (· == 2) (fun u => u.delayIn msg.toList)) := rfl

theorem exec_statusMessage (msg : Vector Byte 32) (s : State) :
    exec (.statusMessage msg) s = .next (s.message msg.toList (· == 3) (fun u => u.statusIn msg.toList)) := rfl

theorem exec_unknownMessage (msg : Vector Byte 32) (s : State) : exec (.unknownMessage msg) s =
    .next (s.message msg.toList (fun t => decide (t = 0 ∨ 3 < t)) (fun u => u.count R.HZN_ERR1_msg_rejected 1)) := rfl

/-- Settles O32: a message that passes `State.message` has its type's meaning, which the lemmas above give case by case. -/
theorem horizonMessages : Obligations.HorizonMessages := by
  unfold Obligations.HorizonMessages
  intro msg s hr hbad m
  refine ⟨fun hcrc => ⟨fun ht => ?_, fun ht => ?_, fun ht => ?_⟩, fun hcrc => ?_⟩
  · rw [exec_assignMessage, State.message_badCrc (row := (· == 1)) hr (beq_iff_eq.2 ht) hbad hcrc]
  · rw [exec_delayMessage, State.message_badCrc (row := (· == 2)) hr (beq_iff_eq.2 ht) hbad hcrc]
  · rw [exec_statusMessage, State.message_badCrc (row := (· == 3)) hr (beq_iff_eq.2 ht) hbad hcrc]
  · have hassign : leAt m 0 1 = 1 → exec (.assignMessage msg) s = .next (s.assignIn m) := fun ht => by
      rw [exec_assignMessage, State.message_taken (row := (· == 1)) hr (beq_iff_eq.2 ht) hbad hcrc]
    have hdelay : leAt m 0 1 = 2 → exec (.delayMessage msg) s = .next (s.delayIn m) := fun ht => by
      rw [exec_delayMessage, State.message_taken (row := (· == 2)) hr (beq_iff_eq.2 ht) hbad hcrc]
    refine ⟨fun ht hset hle hsled hslot => ?_, fun ht hset hid hrack hlast hle hsled hslot => ?_, fun ht hlt => ?_,
      fun ht hle hl => ?_, fun ht hle hl hne hup hdown => ?_, fun ht hlt => ?_, fun ht hle => ?_, fun ht => ?_⟩
    · obtain ⟨t, heq, hrest⟩ := State.assignIn_effect hset hle hsled hslot
      exact ⟨t, heq ▸ hassign ht, hrest⟩
    · rw [hassign ht, State.assignIn_again hset hid hrack hlast hle hsled hslot]
    · rw [hassign ht, State.assignIn_rejected hlt]
    · obtain ⟨t, heq, hrest⟩ := State.delayIn_acquiring_effect hle hl
      exact ⟨t, heq ▸ hdelay ht, hrest⟩
    · obtain ⟨t, heq, hrest⟩ := State.delayIn_slewed_effect hle hl hne hup hdown
      exact ⟨t, heq ▸ hdelay ht, hrest⟩
    · rw [hdelay ht, State.delayIn_rejected hlt]
    · obtain ⟨t, heq, hrest⟩ := State.statusIn_effect (s := s) hle
      refine ⟨t, ?_, hrest⟩
      rw [exec_statusMessage, State.message_taken (row := (· == 3)) hr (beq_iff_eq.2 ht) hbad hcrc]
      exact congrArg _ heq
    · rw [exec_unknownMessage, State.message_taken (row := fun t => decide (t = 0 ∨ 3 < t)) hr (decide_eq_true ht) hbad hcrc]

end Sys2Proof.Machine
end

section
/-!
PROOFS. Received marks, superframe numbers, symbol errors, and the local mark (R86, R88, R96, R97, R101, R112, R687).
-/

namespace Sys2Proof.Machine

/-! ### Received marks -/

section
variable {s : State} {dev : Int} {gap : Bool} (hup : s.controlUp = true) (hb : s.isBench = false) (hp : s.hznPll = true)
include hup hb hp

theorem exec_frameMark_acquiring (hl : s.hzn.lock = .acquiring) : exec (.frameMark dev gap) s = .next (s.markAcquiring dev gap) := by
  show execFrameMark dev gap s = _
  simp [execFrameMark, hup, hb, hp, hl]

theorem exec_frameMark_locked (hl : s.hzn.lock = .locked) (hgood : -1 ≤ dev ∧ dev ≤ 1) :
    exec (.frameMark dev gap) s = .next s.seeMark := by
  show execFrameMark dev gap s = _
  simp [execFrameMark, hup, hb, hp, hl, hgood]

theorem exec_frameMark_misplaced (hl : s.hzn.lock = .locked ∨ s.hzn.lock = .coasting) (hbad : ¬(-1 ≤ dev ∧ dev ≤ 1)) :
    exec (.frameMark dev gap) s = .next s.markMisplaced := by
  show execFrameMark dev gap s = _
  rcases hl with hl | hl <;> simp [execFrameMark, hup, hb, hp, hl, hbad]

theorem exec_frameMark_coasting (hl : s.hzn.lock = .coasting) (hgood : -1 ≤ dev ∧ dev ≤ 1) (hseen : s.markIsSeen = false) :
    exec (.frameMark dev gap) s = .next s.markCoasting := by
  show execFrameMark dev gap s = _
  simp [execFrameMark, hup, hb, hp, hl, hgood, hseen]

end

theorem State.markAcquiring_first {s : State} (dev : Int) (gap : Bool) (hfirst : s.hzn.firstMark = false) (hcount : s.hzn.counting = false) :
    s.markAcquiring dev gap = s.setHzn { s.hzn.restart with firstMark := true, counting := true, frame := 0, markAt := s.now } := by
  simp [State.markAcquiring, hfirst, hcount]

/-- The local mark nearest to now is the last one in the first half of the frame, and the coming one after that (R86). -/
theorem State.markComing_iff (s : State) : s.markComing = true ↔ 1024 < s.now - s.hzn.markAt := decide_eq_true_iff

theorem State.markComing_first {s : State} (h : s.now - s.hzn.markAt ≤ 1024) : s.markComing = false := by
  simpa [State.markComing] using h

theorem State.seeMark_first {s : State} (h : s.now - s.hzn.markAt ≤ 1024) : s.seeMark = s.setHzn { s.hzn with markSeen := true } := by
  simp [State.seeMark, State.markComing_first h]

theorem State.seeMark_second {s : State} (h : 1024 < s.now - s.hzn.markAt) : s.seeMark = s.setHzn { s.hzn with nextSeen := true } := by
  simp [State.seeMark, s.markComing_iff.2 h]

theorem State.countMisplaced_again {s : State} (h : s.now - s.hzn.markAt ≤ 1024) (hc : s.hzn.markCounted = true) : s.countMisplaced = s := by
  simp [State.countMisplaced, State.markComing_first h, hc]

theorem State.countMisplaced_once {s : State} (h : s.now - s.hzn.markAt ≤ 1024) (hc : s.hzn.markCounted = false) :
    s.countMisplaced = (s.setHzn { s.hzn with markCounted := true }).count R.HZN_ERR1_missing_marks 1 := by
  simp [State.countMisplaced, State.markComing_first h, hc]

/-- Whether or not the mark had been counted before, only its count and the note of it can change. -/
theorem State.countMisplaced_cases (s : State) : s.countMisplaced = s ∨
    ∃ h : HznSt, h.lock = s.hzn.lock ∧ s.countMisplaced = (s.setHzn h).count R.HZN_ERR1_missing_marks 1 := by
  unfold State.countMisplaced
  cases s.markComing
  case false =>
    cases s.hzn.markCounted
    case false => exact .inr ⟨{ s.hzn with markCounted := true }, rfl, rfl⟩
    case true => exact .inl rfl
  case true =>
    cases s.hzn.nextCounted
    case false => exact .inr ⟨{ s.hzn with nextCounted := true }, rfl, rfl⟩
    case true => exact .inl rfl

theorem State.countMisplaced_effect (s : State) : s.countMisplaced.hzn.lock = s.hzn.lock ∧
    FieldsBut [R.HZN_ERR1_missing_marks] s s.countMisplaced ∧
    s.countMisplaced = { s with regs := s.countMisplaced.regs, hzn := s.countMisplaced.hzn } := by
  rcases s.countMisplaced_cases with h | ⟨x, hx, h⟩ <;> rw [h]
  · exact ⟨rfl, .refl _ s, rfl⟩
  · exact ⟨hx, ((s.setHzn x).count_writes R.HZN_ERR1_missing_marks 1).2, rfl⟩

theorem State.markMisplaced_locked {s : State} (hl : s.hzn.lock = .locked) : s.markMisplaced = s.countMisplaced := by
  simp [State.markMisplaced, hl]

/-- A mark more than a tick off in COASTING: counted if it has not been, and lock is lost (R96). -/
theorem State.markMisplaced_coasting {s : State} (hl : s.hzn.lock = .coasting) : ∃ u : State,
    s.markMisplaced = (if s.running = true then u.raiseHold 3 else u) ∧ u.hzn.lock = .lost ∧
    u.get R.HZN_STAT_last_loss = s.get R.HZN_STAT_last_loss ∧ BitSet u R.HZN_EVT 2 ∧
    FieldsButPmu [R.HZN_ERR1_missing_marks, R.HZN_EVT] s u ∧
    u = { s with regs := u.regs, out := u.out, host := u.host, hzn := u.hzn, descs := u.descs, isl := u.isl, mtr := u.mtr } := by
  obtain ⟨hlock, hcount, honly⟩ := s.countMisplaced_effect
  obtain ⟨u, heq, hlost, hevt, hfields, hrest⟩ := s.countMisplaced.lostHeld_effect
  have hrun : s.countMisplaced.running = s.running := by rw [honly]; rfl
  have hkeep : FieldsButPmu [R.HZN_ERR1_missing_marks, R.HZN_EVT] s u := fun g hp hg =>
    (hfields g hp fun f hf => hg f (List.mem_cons_of_mem _ hf)).trans (hcount g fun f hf => hg f (List.mem_append_left [R.HZN_EVT] hf))
  refine ⟨u, ?_, hlost, hkeep _ (by decide) (by decide), ?_, hkeep, by rw [hrest, honly]⟩
  · rw [← hrun, ← heq, State.markMisplaced, if_pos hl, State.toLost_unrecorded (by simp [hlock, hl])]
  · rw [BitSet, hevt 2 (by decide), BEq.rfl, Bool.or_true]

theorem State.markCoasting_first {s : State} (h : s.now - s.hzn.markAt ≤ 1024) (hrun : s.hzn.goodRun = 0) :
    s.markCoasting = s.setHzn { s.hzn with goodRun := 1, markSeen := true } := by
  have hsee : (s.setHzn { s.hzn with goodRun := s.hzn.goodRun + 1 }).seeMark =
      s.setHzn { s.hzn with goodRun := s.hzn.goodRun + 1, markSeen := true } := State.seeMark_first h
  rw [State.markCoasting, hsee, if_pos (by omega), hrun]

theorem State.markCoasting_second {s : State} (h : s.now - s.hzn.markAt ≤ 1024) (hrun : s.hzn.goodRun = 1) :
    s.markCoasting = (s.setHzn { s.hzn with goodRun := 2, markSeen := true }).toLocked := by
  have hsee : (s.setHzn { s.hzn with goodRun := s.hzn.goodRun + 1 }).seeMark =
      s.setHzn { s.hzn with goodRun := s.hzn.goodRun + 1, markSeen := true } := State.seeMark_first h
  rw [State.markCoasting, hsee, if_neg (by omega), hrun]

/-! ### Superframe numbers -/

section
variable {s : State} {n : BitVec 48} {crc : BitVec 16} (hr : s.hznReads = true)
include hr

theorem exec_superframeNumber_spoilt (hbad : s.hzn.numberBad ≠ 0) :
    exec (.superframeNumber n crc) s = .next (s.setHzn { s.hzn with numberBad := 0 }) := by
  show execSuperframeNumber n crc s = _
  simp [execSuperframeNumber, hr, hbad]

theorem exec_superframeNumber_badCrc (hbad : s.hzn.numberBad = 0) (hcrc : crc16Bits (natBitsMSB 48 n.toNat) ≠ crc.toNat) :
    exec (.superframeNumber n crc) s = .next (s.count R.HZN_ERR0_number_crc_errors 1) := by
  show execSuperframeNumber n crc s = _
  simp [execSuperframeNumber, hr, hbad, hcrc]

theorem exec_superframeNumber_valid (hbad : s.hzn.numberBad = 0) (hcrc : crc16Bits (natBitsMSB 48 n.toNat) = crc.toNat) :
    exec (.superframeNumber n crc) s = .next (s.numberIn n.toNat) := by
  show execSuperframeNumber n crc s = _
  simp [execSuperframeNumber, hr, hbad, hcrc]

end

theorem State.numberIn_named {s : State} {n : Nat} (hl : s.hzn.lock = .locked) (hn : (n + 63) % 2 ^ 48 = s.hzn.frame) : s.numberIn n = s := by
  unfold State.numberIn
  rw [hl]
  exact if_pos hn

theorem State.numberIn_jump {s : State} {n : Nat} (hl : s.hzn.lock = .locked) (hn : (n + 63) % 2 ^ 48 ≠ s.hzn.frame) :
    s.numberIn n = (s.raiseHzn 6).toLost 4 := by
  unfold State.numberIn
  rw [hl]
  exact if_neg hn

/-- A number jump in a running package (R96, R101). -/
theorem State.numberIn_jump_effect {s : State} {n : Nat} (hl : s.hzn.lock = .locked) (hn : (n + 63) % 2 ^ 48 ≠ s.hzn.frame)
    (hrun : s.running = true) : ∃ u : State, s.numberIn n = u.raiseHold 3 ∧ u.hzn.lock = .lost ∧ u.get R.HZN_STAT_last_loss = 4 ∧
    BitSet u R.HZN_EVT 6 ∧ BitSet u R.HZN_EVT 2 ∧ FieldsButPmu [R.HZN_STAT_last_loss, R.HZN_EVT] s u ∧
    u = { s with regs := u.regs, out := u.out, host := u.host, hzn := u.hzn, descs := u.descs, isl := u.isl, mtr := u.mtr } := by
  let w := (s.raiseHzn 6).put R.HZN_STAT_last_loss 4
  obtain ⟨u, heq, hlost, hevt, hfields, honly⟩ := w.lostHeld_effect
  have hw : OnlySignals s w := (s.raiseHzn_only 6).trans (State.put_only _ _ _).signals
  have hwrun : w.running = true := by
    rw [hw]
    exact hrun
  have hwevt : bitAt (w.get R.HZN_EVT) 6 = true := by
    rw [State.get_put_other _ _ _ _ (by decide)]
    exact s.raiseHzn_bitSet 6 (by decide)
  have hwfields : FieldsButPmu [R.HZN_STAT_last_loss, R.HZN_EVT] s w :=
    ((FieldsButPmu.rfl' _ s).raiseHzn 6 (by decide)).put _ _ (by decide)
  refine ⟨u, ?_, hlost, ?_, ?_, ?_, hwfields.trans fun g hp hg => hfields g hp fun f hf => hg f (List.mem_cons_of_mem _ hf), ?_⟩
  · rw [State.numberIn_jump hl hn, State.toLost_recorded (.inl (by rw [State.raiseHzn_hzn, hl])), heq, if_pos hwrun]
  · rw [hfields _ (by decide) (by decide)]
    exact State.get_put_same ..
  · rw [BitSet, hevt 6 (by decide), hwevt, Bool.true_or]
  · rw [BitSet, hevt 2 (by decide), BEq.rfl, Bool.or_true]
  · rw [honly, hw]

theorem State.numberIn_alone {s : State} {n : Nat} (hl : s.hzn.lock = .acquiring) (hnone : s.hzn.number1 = none) :
    s.numberIn n = s.setHzn { s.hzn with number1 := some (n, s.hzn.frame), genFrame := none } := by
  have hnot : s.hzn.follows n = false := by simp [HznSt.follows, hnone]
  unfold State.numberIn
  rw [hl]
  exact if_neg (by simp [hnot])

/-- The number before was 64 less and came 64 frames earlier, both modulo 2^48. -/
theorem HznSt.follows_of {h : HznSt} {n m f : Nat} (hone : h.number1 = some (m, f)) (hm : m < 2 ^ 48) (hf : f < 2 ^ 48)
    (hn : n = (m + 64) % 2 ^ 48) (hframe : h.frame = (f + 64) % 2 ^ 48) : h.follows n = true := by
  have hm' : (n + 2 ^ 48 - 64) % 2 ^ 48 = m := by omega
  have hf' : (h.frame + 2 ^ 48 - 64) % 2 ^ 48 = f := by omega
  simp only [HznSt.follows, hone, hm', hf', BEq.rfl]

theorem State.numberIn_second {s : State} {n m f : Nat} (hl : s.hzn.lock = .acquiring) (hone : s.hzn.number1 = some (m, f))
    (hm : m < 2 ^ 48) (hf : f < 2 ^ 48) (hn : n = (m + 64) % 2 ^ 48) (hframe : s.hzn.frame = (f + 64) % 2 ^ 48) :
    s.numberIn n = (s.setHzn { s.hzn with number1 := some (n, s.hzn.frame), genFrame := some ((n + 63) % 2 ^ 48) }).put
      R.HZN_STAT_number_valid 1 := by
  have hfollows : s.hzn.follows n = true := HznSt.follows_of hone hm hf hn hframe
  unfold State.numberIn
  rw [hl]
  exact if_pos hfollows

/-! ### Symbol errors -/

theorem exec_symbolError_mark {s : State} {tick : BitVec 11} (ht : tick.toNat = 0 ∨ tick.toNat = 2047) :
    exec (.symbolError tick) s = .next s := by
  show execSymbolError tick s = _
  simp [execSymbolError, ht]

/-- A symbol error outside a mark is counted; which of the number and the message it spoils follows from its tick (R112). -/
theorem exec_symbolError_counted {s : State} {tick : BitVec 11} (hr : s.hznReads = true) (h0 : tick.toNat ≠ 0) (h2047 : tick.toNat ≠ 2047) :
    ∃ (k : Nat) (b : Bool), exec (.symbolError tick) s =
      .next ((s.count R.HZN_ERR0_symbol_errors 1).setHzn { s.hzn with numberBad := k, msgBad := b }) ∧
      (tick.toNat = 1 → 0 < k) ∧ (tick.toNat = 3 ∨ (16 ≤ tick.toNat ∧ tick.toNat ≤ 271) → b = true) := by
  refine ⟨_, _, congrArg Host.Outcome.next (if_neg (by simp [hr, h0, h2047])), fun h1 => ?_, fun hmsg => ?_⟩
  · rw [if_pos (.inl h1)]; decide
  · rw [decide_eq_true hmsg, Bool.or_true]

/-! ### The local mark -/

theorem exec_localFrameMark {s : State} (hup : s.controlUp = true) (hc : s.hzn.counting = true) (hnow : s.hzn.markAt + 2048 ≤ s.now) :
    exec .localFrameMark s = .next
      (((s.setHzn { s.hzn with markAt := s.now }).hznMark.countFrame.slewStep.frameEnded s.hzn.frame).markWork) :=
  congrArg Host.Outcome.next (if_neg (by simp [hup, hc, hnow]))

/-- The marks of the frame that begins are those noted for the coming mark. -/
theorem State.hznMark_locked {s : State} (hb : s.isBench = false) (hl : s.hzn.lock = .locked) : s.hznMark = s.setHzn { s.hzn with
    markSeen := s.hzn.nextSeen, nextSeen := false, markCounted := s.hzn.nextCounted, nextCounted := false,
    numberBad := s.hzn.numberBad - 1, msgBad := false } := by
  simp [State.hznMark, hb, hl]

theorem State.countFrame_locked {s : State} (hl : s.hzn.lock = .locked) :
    s.countFrame = s.setHzn { s.hzn with frame := nextFrame s.hzn.frame, genFrame := s.hzn.genFrame.map nextFrame } := by
  have hnone : s.lockFrame = none := if_neg (by simp [hl])
  rw [State.countFrame, hnone]

theorem State.slewStep_none {s : State} (hs : s.hzn.slewFrom = none) : s.slewStep = s := by
  unfold State.slewStep
  rw [hs]
  cases s.hzn.lock <;> rfl

theorem State.frameEnded_charges (s : State) (f : Nat) : ∀ c ∈ (s.frameEnded f).charges, f < c.frame :=
  fun _ hc => by simpa using (List.mem_filter.1 hc).2

/-- The receiver at the local mark of a LOCKED package without a slew: the next frame begins now. -/
theorem State.markBegun_locked {s : State} (hb : s.isBench = false) (hl : s.hzn.lock = .locked) (hs : s.hzn.slewFrom = none) :
    (s.setHzn { s.hzn with markAt := s.now }).hznMark.countFrame.slewStep = s.setHzn { s.hzn with
      markAt := s.now, markSeen := s.hzn.nextSeen, nextSeen := false, markCounted := s.hzn.nextCounted, nextCounted := false,
      numberBad := s.hzn.numberBad - 1, msgBad := false, frame := nextFrame s.hzn.frame, genFrame := s.hzn.genFrame.map nextFrame } := by
  let u := s.setHzn { s.hzn with markAt := s.now }
  have hmark := State.hznMark_locked (s := u) hb hl
  have hframe := State.countFrame_locked (s := u.hznMark) (by rw [hmark]; exact hl)
  have hslew := State.slewStep_none (s := u.hznMark.countFrame) (by rw [hframe, hmark]; exact hs)
  rw [hslew, hframe, hmark]
  rfl

/-! ### The obligation -/

theorem not_good_of_misplaced {dev : Int} (h : dev < -1 ∨ 1 < dev) : ¬(-1 ≤ dev ∧ dev ≤ 1) := by omega

/-- Settles O31: marks, numbers, symbol errors and the local mark each by what they leave of the receiver. -/
theorem marksAndNumbers : Obligations.MarksAndNumbers := by
  unfold Obligations.MarksAndNumbers
  refine ⟨fun dev gap s hup hb hp => ⟨fun hl hfirst hcount => ?_, fun hl hlo hhi => ⟨fun hnear => ?_, fun hfar => ?_⟩,
      fun hl hbad => ⟨fun hnear hc => ?_, fun hnear hc => ?_⟩, fun hl hnear hseen hlo hhi => ⟨fun hrun => ?_, fun hrun => ?_⟩,
      fun hl hbad => ?_⟩,
    fun n crc s hr hbad => exec_superframeNumber_spoilt hr hbad,
    fun n crc s hr hbad => ⟨fun hcrc => ⟨s.count_writes _ 1, exec_superframeNumber_badCrc hr hbad hcrc⟩, fun hcrc =>
      ⟨fun hl hn => ?_, fun hl hn hrun => ?_, fun hl hnone => ?_, fun m f hl hone hm hf hn hframe => ?_⟩⟩,
    fun tick s hr => ⟨exec_symbolError_mark, fun h0 h2047 => ?_⟩, fun s hup hb hc hnow hl hs => ?_⟩
  · rw [exec_frameMark_acquiring hup hb hp hl, State.markAcquiring_first dev gap hfirst hcount]; rfl
  · rw [exec_frameMark_locked hup hb hp hl ⟨hlo, hhi⟩, State.seeMark_first hnear]; rfl
  · rw [exec_frameMark_locked hup hb hp hl ⟨hlo, hhi⟩, State.seeMark_second hfar]; rfl
  · rw [exec_frameMark_misplaced hup hb hp (.inl hl) (not_good_of_misplaced hbad), State.markMisplaced_locked hl,
      State.countMisplaced_again hnear hc]
  · let u := s.setHzn { s.hzn with markCounted := true }
    refine ⟨u.count R.HZN_ERR1_missing_marks 1, ?_, u.get_count_same _ 1, rfl, (u.count_writes _ 1).2, rfl⟩
    rw [exec_frameMark_misplaced hup hb hp (.inl hl) (not_good_of_misplaced hbad), State.markMisplaced_locked hl,
      State.countMisplaced_once hnear hc]
  · have hunseen : s.markIsSeen = false := by simp [State.markIsSeen, State.markComing_first hnear, hseen]
    rw [exec_frameMark_coasting hup hb hp hl ⟨hlo, hhi⟩ hunseen, State.markCoasting_first hnear hrun]; rfl
  · have hunseen : s.markIsSeen = false := by simp [State.markIsSeen, State.markComing_first hnear, hseen]
    obtain ⟨hlock, hframe, hevt, hhold⟩ := (s.setHzn { s.hzn with goodRun := 2, markSeen := true }).toLocked_effect
    exact ⟨_, by rw [exec_frameMark_coasting hup hb hp hl ⟨hlo, hhi⟩ hunseen, State.markCoasting_second hnear hrun],
      hlock, hframe, hevt, hhold⟩
  · obtain ⟨u, heq, hrest⟩ := State.markMisplaced_coasting hl
    exact ⟨u, heq ▸ exec_frameMark_misplaced hup hb hp (.inr hl) (not_good_of_misplaced hbad), hrest⟩
  · rw [exec_superframeNumber_valid hr hbad hcrc, State.numberIn_named hl hn]
  · obtain ⟨u, heq, hrest⟩ := State.numberIn_jump_effect hl hn hrun
    exact ⟨u, heq ▸ exec_superframeNumber_valid hr hbad hcrc, hrest⟩
  · rw [exec_superframeNumber_valid hr hbad hcrc, State.numberIn_alone hl hnone]; rfl
  · refine ⟨_, (exec_superframeNumber_valid hr hbad hcrc).trans (congrArg _ (State.numberIn_second hl hone hm hf hn hframe)),
      State.get_put_same .., State.put_writes _ _ 1, rfl⟩
  · obtain ⟨k, b, heq, hnumber, hmessage⟩ := exec_symbolError_counted hr h0 h2047
    exact ⟨_, heq, s.get_count_same _ 1, (s.count_writes _ 1).2, rfl, hnumber, hmessage⟩
  · refine ⟨_, exec_localFrameMark hup hc hnow, ?_⟩
    rw [State.markBegun_locked hb hl hs]
    exact ⟨rfl, rfl, hl, rfl, rfl, fun _ _ => rfl, State.frameEnded_charges _ _, rfl⟩

end Sys2Proof.Machine
end

section
/-!
PROOFS. Lists of register fields put one after another, and what a power or reset step leaves of the register file (R132).
-/

namespace Sys2Proof.Machine

/-! ### Fields put one after another -/

/-- Fields put in turn into a register file: what `State.puts` does to it. -/
def RegFile.puts (r : RegFile) (l : List (Fld × Nat)) : RegFile := l.foldl (fun r p => r.put p.1 p.2) r

theorem State.puts_regs (s : State) (l : List (Fld × Nat)) : (s.puts l).regs = s.regs.puts l := by
  induction l generalizing s with
  | nil => rfl
  | cons p l ih => exact ih (s.put p.1 p.2)

theorem State.puts_eq (s : State) (l : List (Fld × Nat)) : s.puts l = { s with regs := s.regs.puts l } := by
  rw [s.puts_only, s.puts_regs]

@[simp] theorem State.puts_pwr (s : State) (l : List (Fld × Nat)) : (s.puts l).pwr = s.pwr := by rw [s.puts_eq]

theorem RegFile.get_puts_other (r : RegFile) (l : List (Fld × Nat)) (g : Fld) (h : ∀ f ∈ l.map Prod.fst, g.key ≠ f.key) :
    (r.puts l).get g = r.get g := by
  induction l generalizing r with
  | nil => rfl
  | cons p l ih =>
    obtain ⟨hp, hl⟩ := List.forall_mem_cons.1 h
    exact (ih (r.put p.1 p.2) hl).trans (RegFile.get_put_other r p.1 g p.2 hp)

/-- Of fields with different keys, each reads what was put, cut to its width. -/
theorem RegFile.get_puts_mem (r : RegFile) (l : List (Fld × Nat)) (hl : ((l.map Prod.fst).map Fld.key).Nodup) {p : Fld × Nat}
    (hp : p ∈ l) : (r.puts l).get p.1 = p.2 % 2 ^ p.1.w := by
  induction l generalizing r with
  | nil => simp at hp
  | cons q l ih =>
    obtain ⟨hq, hl⟩ := List.nodup_cons.1 hl
    rcases List.mem_cons.1 hp with rfl | hp
    · have hother : ∀ f ∈ l.map Prod.fst, p.1.key ≠ f.key := fun f hf hk => hq (hk ▸ List.mem_map_of_mem hf)
      exact ((r.put p.1 p.2).get_puts_other l p.1 hother).trans (r.get_put_same p.1 p.2)
    · exact ih (r.put q.1 q.2) hl hp

/-- The fields put are named apart, so that their keys are seen to differ whatever is put. -/
theorem State.get_puts_mem (s : State) {l : List (Fld × Nat)} (fs : List Fld) (hfs : l.map Prod.fst = fs) (hk : (fs.map Fld.key).Nodup)
    {p : Fld × Nat} (hp : p ∈ l) : (s.puts l).get p.1 = p.2 % 2 ^ p.1.w := by
  rw [State.get, State.puts_regs]
  exact s.regs.get_puts_mem l (hfs ▸ hk) hp

theorem State.puts_fieldsBut (s : State) {l : List (Fld × Nat)} {fs : List Fld} (h : ∀ f ∈ l.map Prod.fst, f ∈ fs) :
    FieldsBut fs s (s.puts l) := fun g hg => s.get_puts_other l g fun p hp => hg p.1 (h p.1 (List.mem_map_of_mem hp))

theorem b2n_lt_two (b : Bool) : b2n b < 2 := by cases b <;> decide

/-! ### A reset range -/

theorem RegFile.get_resetRange_rst (r : RegFile) (lo hi : Nat) (g : Fld) (h : r.get g = g.rst) : (r.resetRange lo hi).get g = g.rst := by
  by_cases hg : 32 * lo ≤ g.key ∧ g.key < 32 * hi
  · exact r.get_resetRange_in lo hi g hg
  · exact (r.get_resetRange_out lo hi g hg).trans h

/-- A warm reset resets the TILE, CMD, CTX, SYNC and FAB blocks whole (R132). -/
theorem RegFile.get_warm (r : RegFile) (g : Fld) (hlo : 32 * 0x100000 ≤ g.key) (hhi : g.key < 32 * 0x240000) : r.warm.get g = g.rst := by
  unfold RegFile.warm
  refine RegFile.get_resetRange_rst _ _ _ g (RegFile.get_resetRange_rst _ _ _ g (RegFile.get_resetRange_rst _ _ _ g ?_))
  exact RegFile.get_resetRange_in _ _ _ g ⟨by omega, hhi⟩

/-! ### The control die's registers at a conventional reset -/

/-- Every strap field takes its own former value. -/
theorem RegFile.dieReset_kept (r : RegFile) : r.dieReset false =
    ((r.resetRange 0 0x300000).resetRange 0x1000000 0x2000000).puts (strapFields.map fun f => (f, r.get f)) := by
  rw [RegFile.puts, List.foldl_map]
  rfl

theorem strapFields_puts_fst (r : RegFile) : (strapFields.map fun f => (f, r.get f)).map Prod.fst = strapFields := rfl

theorem strapFields_nodup : (strapFields.map Fld.key).Nodup := by decide

/-- The straps keep what was sampled (R69, R81). -/
theorem RegFile.get_dieReset_strap (r : RegFile) {f : Fld} (hf : f ∈ strapFields) : (r.dieReset false).get f = r.get f % 2 ^ f.w := by
  rw [RegFile.dieReset_kept]
  exact RegFile.get_puts_mem _ _ (strapFields_puts_fst r ▸ strapFields_nodup) (List.mem_map_of_mem (f := fun f => (f, r.get f)) hf)

/-- Every other field of the control die's blocks takes its reset value (R132). -/
theorem RegFile.get_dieReset_die (r : RegFile) (g : Fld) (hg : g.key < 32 * 0x300000) (hs : ∀ f ∈ strapFields, g.key ≠ f.key) :
    (r.dieReset false).get g = g.rst := by
  rw [RegFile.dieReset_kept, RegFile.get_puts_other _ _ g (strapFields_puts_fst r ▸ hs)]
  exact RegFile.get_resetRange_rst _ _ _ g (RegFile.get_resetRange_in _ _ _ g ⟨by omega, hg⟩)

end Sys2Proof.Machine
end

section
/-!
PROOFS. A reset of the control die (R132): what the pump's abandoned runs, the island's records and the reset itself leave.
-/

namespace Sys2Proof.Machine

/-! ### The island's records -/

/-- Everything but the island's records not yet committed is the same. -/
def OnlyRecords (s t : State) : Prop := t = { s with isl := { s.isl with records := t.isl.records } }

theorem State.notePower_only (s : State) (tag : Nat) : OnlyRecords s (s.notePower tag) := rfl

theorem State.islNote_only (s : State) (type tag : Nat) (content : List Byte) : OnlyRecords s (s.islNote type tag content) := by
  unfold State.islNote
  split <;> rfl

theorem State.railFault_only (s : State) (rail mv : Nat) : OnlyRecords s (s.railFault rail mv) := s.islNote_only _ _ _

theorem OnlyRecords.ite {s t : State} {c : Prop} [Decidable c] (h : OnlyRecords s t) : OnlyRecords s (if c then t else s) := by
  split
  · exact h
  · rfl

theorem OnlyRecords.pwr {s t : State} (h : OnlyRecords s t) : t.pwr = s.pwr := by rw [h]
theorem OnlyRecords.hzn {s t : State} (h : OnlyRecords s t) : t.hzn = s.hzn := by rw [h]
theorem OnlyRecords.mem {s t : State} (h : OnlyRecords s t) : t.mem = s.mem := by rw [h]
theorem OnlyRecords.regs {s t : State} (h : OnlyRecords s t) : t.regs = s.regs := by rw [h]
theorem OnlyRecords.islandUp {s t : State} (h : OnlyRecords s t) : t.islandUp = s.islandUp := by rw [h]; rfl

/-! ### What the pump's runs can change -/

/-- Everything but the tiles, the pump's queues and the count of free values used is the same. -/
def OnlyFixing (s t : State) : Prop := t = { s with freeIx := t.freeIx, tiles := t.tiles, fix := t.fix }

theorem OnlyFixing.refl (s : State) : OnlyFixing s s := rfl

theorem OnlyFixing.trans {s t u : State} (h1 : OnlyFixing s t) (h2 : OnlyFixing t u) : OnlyFixing s u := by
  unfold OnlyFixing at *
  rw [h2, h1]

theorem foldl_onlyFixing {α : Type} (f : State → α → State) (h : ∀ u x, OnlyFixing u (f u x)) (l : List α) (s : State) :
    OnlyFixing s (l.foldl f s) := by
  induction l generalizing s with
  | nil => rfl
  | cons x l ih => exact (h s x).trans (ih _)

theorem State.loseSegment_only (s : State) (t row m : Nat) : OnlyFixing s (s.loseSegment t row m) := rfl

theorem State.pumpSegment_only (s : State) (t row m w : Nat) (levels : List Int) (r : PumpRun) :
    OnlyFixing s (s.pumpSegment t row m w levels r) := rfl

theorem State.setFixQueue_only (s : State) (d : Nat) (q : List FixEntry) : OnlyFixing s (s.setFixQueue d q) := rfl

theorem State.refixSpan_only (s : State) (t a b : Nat) : OnlyFixing s (s.refixSpan t a b) :=
  foldl_onlyFixing _ (fun u _ => u.pumpSegment_only t _ _ _ _ _) _ s

theorem State.refixAdvance_only (s : State) (t : Nat) : OnlyFixing s (s.refixAdvance t) := by
  unfold State.refixAdvance
  split
  · rfl
  · refine OnlyFixing.trans (t := { s with freeIx := s.freeIx + 1 }) rfl (OnlyFixing.trans (State.refixSpan_only _ t _ _) rfl)

theorem State.abandonRuns_only (s : State) (d : Nat) : OnlyFixing s (s.abandonRuns d false) := by
  unfold State.abandonRuns
  extract_lets runs lose s1 refs s2 s3
  have h1 : OnlyFixing (s.setFixRuns d []) s1 := by
    refine foldl_onlyFixing _ (fun u r => ?_) _ _
    exact (u.loseSegment_only r.tile r.row r.seg).trans (State.loseSegment_only _ r.tile r.row 8)
  have h2 : OnlyFixing s1 s2 := by
    refine foldl_onlyFixing _ (fun u t => (u.refixAdvance_only t).trans ?_) _ _
    dsimp only
    split
    · split
      · exact State.loseSegment_only ..
      · rfl
    · rfl
  clear_value s1 s2
  exact OnlyFixing.trans (t := s.setFixRuns d []) rfl ((h1.trans h2).trans rfl)

/-- A dusk request drops the queues and the refixes (R333). -/
theorem State.fixDrop_only (s : State) : OnlyFixing s s.fixDrop := by
  unfold State.fixDrop
  extract_lets s1 s2
  have h1 : OnlyFixing s s1 := foldl_onlyFixing _ (fun u x => u.refixAdvance_only (RefixRun.tile x)) _ s
  have h2 : OnlyFixing s1 s2 := foldl_onlyFixing _ (fun u d => u.setFixQueue_only d []) _ s1
  clear_value s2
  exact (h1.trans h2).trans rfl

/-! ### The reset -/

/-- What a reset of the control die leaves of the power state: rails, records and the package's state stay. -/
def PwrSt.dieReset (p : PwrSt) (lost : Bool) : PwrSt :=
  { p with released := false, sampled := p.sampled && !lost, dramLink := 0, arrayLink := 0, dramInit := 0, dusk := none, heldDusk := none,
           warm := false, cxlReset := false, cxlMemClear := false, cxlHalf := 0, stage2 := none, stage2Digest := 0 }

/-- The state in which the pump's runs have been abandoned, before the reset itself. -/
theorem State.pumpAbandoned_only (s : State) : OnlyFixing s ((List.range 4).foldl (fun u d => u.abandonRuns d false) s) :=
  foldl_onlyFixing _ State.abandonRuns_only _ s

/-- What the reset keeps, it keeps of the state in which the pump's runs have been abandoned. -/
theorem State.dieReset_after (s : State) (lost : Bool) : ∃ u, OnlyFixing s u ∧ (s.dieReset lost).pwr = u.pwr.dieReset lost ∧
    (s.dieReset lost).regs = u.regs.dieReset lost ∧ (s.dieReset lost).isl = { u.isl.linkDropped with linkLostAt := none } ∧
    (s.dieReset lost).mem = if lost then [] else u.mem := by
  have h := s.pumpAbandoned_only
  unfold State.dieReset
  generalize (List.range 4).foldl (fun u d => u.abandonRuns d false) s = u at h ⊢
  exact ⟨u, h, rfl, rfl, rfl, rfl⟩

@[simp] theorem State.dieReset_pwr (s : State) (lost : Bool) : (s.dieReset lost).pwr = s.pwr.dieReset lost := by
  obtain ⟨u, hu, hpwr, -⟩ := s.dieReset_after lost
  rw [hpwr, hu]

theorem State.dieReset_regs (s : State) (lost : Bool) : (s.dieReset lost).regs = s.regs.dieReset lost := by
  obtain ⟨u, hu, -, hregs, -⟩ := s.dieReset_after lost
  rw [hregs, hu]

@[simp] theorem State.dieReset_isl (s : State) (lost : Bool) : (s.dieReset lost).isl = { s.isl.linkDropped with linkLostAt := none } := by
  obtain ⟨u, hu, -, -, hisl, -⟩ := s.dieReset_after lost
  rw [hisl, hu]

theorem State.dieReset_mem_kept (s : State) : (s.dieReset false).mem = s.mem := by
  obtain ⟨u, hu, -, -, -, hmem⟩ := s.dieReset_after false
  rw [hmem, hu]
  rfl

theorem State.dieReset_mem_lost (s : State) : (s.dieReset true).mem = [] := rfl

theorem State.dieReset_hzn (s : State) (lost : Bool) : (s.dieReset lost).hzn = HznSt.init := rfl

theorem State.dieReset_descs (s : State) (lost : Bool) : (s.dieReset lost).descs = [] := rfl

end Sys2Proof.Machine
end

section
/-!
PROOFS. The enables fall one after another (R67, R137), DAWN_FAIL (R119, R130), and the immediate stop (R139, R140).
-/

namespace Sys2Proof.Machine

/-! ### The enables -/

/-- The enables after the next one of R137 has fallen. -/
def lowered (e : BitVec 6) : BitVec 6 := e &&& ~~~(nextLowered e)

/-- A rise adds an enable; VCORE's, which keeps the island link open, is up from then on (R67). -/
theorem nextRaised_rises : ∀ e : BitVec 6, e.getLsbD 0 = true → e ≠ BitVec.allOnes 6 →
    e ||| nextRaised e ≠ e ∧ e &&& (e ||| nextRaised e) = e ∧ (e ||| nextRaised e).getLsbD 1 = true := by decide

/-- Everything but rails and enables, and of the island the link and what goes with it, is the same. -/
def OnlyRails (s t : State) : Prop := t = { s with
  pwr := { s.pwr with enables := t.pwr.enables, railGood := t.pwr.railGood, lowering := t.pwr.lowering },
  isl := { s.isl with linkUp := t.isl.linkUp, trimSpoilt := t.isl.trimSpoilt } }

theorem OnlyRails.trans {s t u : State} (h1 : OnlyRails s t) (h2 : OnlyRails t u) : OnlyRails s u := by
  unfold OnlyRails at *
  rw [h2, h1]

theorem State.setEnables_pwr (s : State) (e : BitVec 6) :
    (s.setEnables e).pwr = { s.pwr with enables := e, railGood := s.pwr.railGood &&& e } := rfl

theorem State.setEnables_rails (s : State) (e : BitVec 6) : OnlyRails s (s.setEnables e) := by
  unfold OnlyRails State.setEnables
  split <;> rfl

section
variable {s : State}

theorem State.lowerNext_on (h : lowered s.pwr.enables ≠ 0) : s.lowerNext = s.setEnables (lowered s.pwr.enables) := if_pos h

/-- OFF is entered with the last enable (R117, R137). -/
def State.enteredOff (s : State) : State := { s with pwr := { s.pwr with state := .off, lowering := .none, faultLow := false } }

theorem State.lowerNext_stop (h : lowered s.pwr.enables = 0) (hwhy : s.pwr.lowering = .stop) :
    s.lowerNext = { s.setEnables 0 with regs := s.regs.resetRange 0x1000000 0x2000000 }.enteredOff := by
  have hset : s.setEnables (s.pwr.enables &&& ~~~(nextLowered s.pwr.enables)) = s.setEnables 0 := congrArg s.setEnables h
  unfold State.lowerNext
  simp only [hset, State.setEnables_pwr, hwhy]
  exact if_neg (not_not.2 rfl)

theorem State.lowerNext_dusk (h : lowered s.pwr.enables = 0) (hwhy : s.pwr.lowering = .dusk) :
    s.lowerNext = ((s.setEnables 0).dieReset true).enteredOff := by
  have hset : s.setEnables (s.pwr.enables &&& ~~~(nextLowered s.pwr.enables)) = s.setEnables 0 := congrArg s.setEnables h
  unfold State.lowerNext
  simp only [hset, State.setEnables_pwr, hwhy]
  exact if_neg (not_not.2 rfl)

theorem State.lowerNext_dawnFail (h : lowered s.pwr.enables = 0) (hwhy : s.pwr.lowering = .dawnFail) :
    s.lowerNext = { s.setEnables 0 with pwr := { (s.setEnables 0).pwr with lowering := .none } } := by
  have hset : s.setEnables (s.pwr.enables &&& ~~~(nextLowered s.pwr.enables)) = s.setEnables 0 := congrArg s.setEnables h
  unfold State.lowerNext
  simp only [hset, State.setEnables_pwr, hwhy]
  exact if_neg (not_not.2 rfl)

end

theorem State.beginLowering_on {s : State} (why : Lowering) (h : s.pwr.enables ≠ 0) :
    s.beginLowering why = State.lowerNext { s with pwr := { s.pwr with lowering := why } } := by
  simp only [State.beginLowering, if_neg h]

theorem State.beginLowering_off {s : State} (why : Lowering) (h : s.pwr.enables = 0) :
    s.beginLowering why = { s with pwr := { s.pwr with lowering := .none } } := by
  simp only [State.beginLowering, if_pos h]

/-! ### DAWN_FAIL -/

theorem State.beginLowering_dawnFail (s : State) : OnlyRails s (s.beginLowering .dawnFail) := by
  by_cases h : s.pwr.enables = 0
  · rw [State.beginLowering_off _ h]; rfl
  · let u : State := { s with pwr := { s.pwr with lowering := .dawnFail } }
    rw [State.beginLowering_on _ h]
    refine OnlyRails.trans (t := u) rfl ?_
    by_cases hl : lowered u.pwr.enables = 0
    · rw [State.lowerNext_dawnFail hl rfl]
      exact (u.setEnables_rails 0).trans rfl
    · rw [State.lowerNext_on hl]
      exact u.setEnables_rails _

/-- DAWN_FAIL entered, before the island's record of it. -/
def State.dawnFailed (s : State) (code index : Nat) : State :=
  { s.dieReset true with
    pwr := { s.pwr.dieReset true with state := .dawnFail, faultLow := false, dawnRec := ⟨code, index, s.pwr.attempt, s.vauxMs, true⟩ } }

/-- The record of it: in the latch, owed, or made (R120, R130). -/
def State.dawnFailNoted (s : State) (code index ms : Nat) : State :=
  if code = 1 then { s with isl := { s.isl with rcLatch := true } }
  else if !s.islandUp then { s with isl := { s.isl with dawnOwed := true } }
  else s.islNote 6 (code + 256 * index) (toLE 1 s.pwr.attempt ++ toLE 1 0 ++ toLE 2 ms ++ s.rtcBytes)

theorem State.dawnFailNoted_keeps (s : State) (code index ms : Nat) : (s.dawnFailNoted code index ms).pwr = s.pwr ∧
    (s.dawnFailNoted code index ms).mem = s.mem := by
  unfold State.dawnFailNoted
  split_ifs
  · exact ⟨rfl, rfl⟩
  · exact ⟨rfl, rfl⟩
  · exact ⟨(s.islNote_only _ _ _).pwr, (s.islNote_only _ _ _).mem⟩

theorem State.dawnFail_eq (s : State) (code index : Nat) :
    s.dawnFail code index = ((s.dawnFailed code index).dawnFailNoted code index s.vauxMs).beginLowering .dawnFail := by
  rw [State.dawnFailed, ← s.dieReset_pwr true, show s.pwr.attempt = (s.dieReset true).pwr.attempt by rw [State.dieReset_pwr]; rfl]
  rfl

/-- DAWN_FAIL: the control die is reset, DRAM is lost, the record is made; only the enables' fall comes after. -/
theorem State.dawnFail_effect (s : State) (code index : Nat) : ∃ u : State, OnlyRails u (s.dawnFail code index) ∧
    u.pwr = (s.dawnFailed code index).pwr ∧ u.mem = [] ∧ (code = 1 → u.isl.rcLatch = true) := by
  obtain ⟨hpwr, hmem⟩ := (s.dawnFailed code index).dawnFailNoted_keeps code index s.vauxMs
  refine ⟨_, s.dawnFail_eq code index ▸ State.beginLowering_dawnFail _, hpwr, hmem, fun hcode => ?_⟩
  rw [State.dawnFailNoted, if_pos hcode]

/-- What every DAWN_FAIL shows. -/
theorem State.dawnFail_shows (s : State) (code index : Nat) : (s.dawnFail code index).pwr.state = .dawnFail ∧
    (s.dawnFail code index).pwr.dawnRec = ⟨code, index, s.pwr.attempt, s.vauxMs, true⟩ ∧ (s.dawnFail code index).mem = [] ∧
    (s.dawnFail code index).pwr.released = false := by
  obtain ⟨u, honly, hpwr, hmem, -⟩ := s.dawnFail_effect code index
  rw [honly]
  exact ⟨congrArg PwrSt.state hpwr, congrArg PwrSt.dawnRec hpwr, hmem, congrArg PwrSt.released hpwr⟩

theorem State.dawnFail_latch (s : State) (index : Nat) : (s.dawnFail 1 index).isl.rcLatch = true := by
  obtain ⟨u, honly, -, -, hlatch⟩ := s.dawnFail_effect 1 index
  rw [honly]
  exact hlatch rfl

end Sys2Proof.Machine
end

section
/-!
PROOFS. Phase A of dawn and the conventional reset (R117, R119–R121, R124, R130, R132).
-/

namespace Sys2Proof.Machine

/-! ### A dawn attempt begins (R117, R121, R130) -/

theorem State.dawnBegin_clean (s : State) : s.dawnBegin 0 = { s with
    pwr := { s.pwr with state := .dawn, dawnStep := 0, faultLow := false, restartWanted := false, lowering := .none } } := rfl

theorem exec_vauxInRange_cold {s : State} (hout : s.pwr.vauxIn = false) (hoff : s.pwr.state = .off) (hcold : s.isl.mode = .cold) :
    exec (.vauxInRange 0) s = .next (State.dawnBegin { s with
      pwr := { s.pwr with vauxIn := true, vauxAt := s.now, attempt := 0 },
      isl := { s.isl with warmAt := s.now, mode := .aux, runOn := true } } 0) := by
  show execVauxInRange 0 s = _
  simp [execVauxInRange, hout, hoff, hcold]

theorem exec_rcStartTimeout {s : State} (hdawn : s.dawning = true) (h0 : s.pwr.dawnStep = 0) :
    exec .rcStartTimeout s = .next (s.dawnFail 1 0) := by
  show execRcStartTimeout s = _
  rw [execRcStartTimeout, if_pos ⟨hdawn, h0⟩]

theorem exec_dawnRetry {s : State} (hfail : s.pwr.state = .dawnFail) (hin : s.pwr.vauxIn = true) (hoff : s.pwr.enables = 0)
    (hmore : s.pwr.attempt < 3) : exec (.dawnRetry 0) s = .next (State.dawnBegin { (if s.islandUp then s.notePower 5 else s) with
      pwr := { s.pwr with attempt := s.pwr.attempt + 1 } } 0) := by
  have hnote : (if s.islandUp then s.notePower 5 else s).pwr = s.pwr := (s.notePower_only 5).ite.pwr
  show execDawnRetry 0 s = _
  simp only [execDawnRetry, hfail, hin, hoff, hmore, and_self, if_true, hnote]

theorem exec_duskRestart {s : State} (hoff : s.pwr.state = .off) (hwant : s.pwr.restartWanted = true) (hin : s.pwr.vauxIn = true)
    (hlow : s.pwr.enables = 0) : exec (.duskRestart 0) s = .next (s.dawnBegin 0) := congrArg _ (if_pos ⟨hoff, hwant, hin, hlow⟩)

/-! ### Rails and enables (R67) -/

theorem exec_enVioRise {s : State} (hdawn : s.dawning = true) (h0 : s.pwr.dawnStep = 0) (hoff : s.pwr.enables = 0) :
    exec .enVioRise s = .next { (if s.isl.booted then s.journalLatch else s) with
      pwr := { (if s.isl.booted then s.journalLatch else s).pwr with dawnStep := 1, enables := 0b000001#6 } } :=
  congrArg _ (if_pos ⟨hdawn, h0, hoff⟩)

theorem State.journalLatch_nothing {s : State} (hlatch : s.isl.rcLatch = false) (howed : s.isl.dawnOwed = false) : s.journalLatch = s := by
  simp [State.journalLatch, hlatch, howed]

theorem exec_enableRise {s : State} (hdawn : s.dawning = true) (h1 : s.pwr.dawnStep = 1) (hvio : s.pwr.enables.getLsbD 0 = true)
    (hmore : s.pwr.enables ≠ BitVec.allOnes 6) (hgood : s.pwr.railGood = s.pwr.enables) :
    exec .enableRise s = .next (s.setEnables (s.pwr.enables ||| nextRaised s.pwr.enables)) :=
  congrArg _ (if_pos ⟨hdawn, h1, hvio, hmore, hgood⟩)

theorem State.setEnables_linked (s : State) {e : BitVec 6} (h : e.getLsbD 1 = true) :
    s.setEnables e = { s with pwr := { s.pwr with enables := e, railGood := s.pwr.railGood &&& e } } := by
  simp only [State.setEnables, h, if_true]

theorem exec_railGood_more {s : State} {rail : Fin 6} (hon : s.pwr.enables.getLsbD rail.val = true)
    (h : s.dawning = false ∨ s.pwr.railGood ||| BitVec.twoPow 6 rail.val ≠ BitVec.allOnes 6) : exec (.railGood rail) s =
      .next { s with pwr := { s.pwr with railGood := s.pwr.railGood ||| BitVec.twoPow 6 rail.val } } := by
  refine congrArg Host.Outcome.next ((if_neg (by simp [hon])).trans (if_neg ?_))
  rintro ⟨hdawn, -, hall⟩
  exact h.elim (fun hn => Bool.false_ne_true (hn.symm.trans hdawn)) (· hall)

theorem exec_railGood_last {s : State} {rail : Fin 6} (hon : s.pwr.enables.getLsbD rail.val = true) (hdawn : s.dawning = true)
    (h1 : s.pwr.dawnStep = 1) (hall : s.pwr.railGood ||| BitVec.twoPow 6 rail.val = BitVec.allOnes 6) (hperst : s.pwr.perstLow = true) :
    exec (.railGood rail) s =
      .next { s with pwr := { s.pwr with railGood := s.pwr.railGood ||| BitVec.twoPow 6 rail.val, dawnStep := 2 } } := by
  refine congrArg Host.Outcome.next ((if_neg (by simp [hon])).trans ((if_pos ⟨hdawn, h1, hall⟩).trans (if_neg ?_)))
  exact fun h => Bool.false_ne_true (h.2.2.symm.trans hperst)

/-! ### PERST_N (R121, R124, R132) -/

theorem exec_perstRelease_held {s : State} (b : Straps) (h : s.dawning = false ∨ s.pwr.dawnStep ≠ 2) :
    exec (.perstRelease b) s = .next { s with pwr := { s.pwr with perstLow := false, balls := b } } := by
  refine congrArg Host.Outcome.next (if_neg ?_)
  rintro ⟨hdawn, h2, -⟩
  exact h.elim (fun hn => Bool.false_ne_true (hn.symm.trans hdawn)) (· h2)

/-- The straps as sampled, with the attempt's number. -/
def State.strapPuts (s : State) (b : Straps) : List (Fld × Nat) :=
  [(R.GEN_STRAP_pos_slot, b.posSlot.toNat), (R.GEN_STRAP_pos_sled, b.posSled.toNat), (R.GEN_STRAP_bench_en, b2n b.benchEn),
   (R.GEN_STRAP_sb_mode, b2n b.sbMode), (R.GEN_STRAP_host_bif, b2n b.hostBif), (R.GEN_TOPO_slot, b.posSlot.toNat),
   (R.GEN_TOPO_sled, b.posSled.toNat), (R.GEN_TOPO_bench, b2n (b.benchEn || s.a0)), (R.GEN_STATE_attempt, s.pwr.attempt)]

theorem State.dieRelease_eq (s : State) : s.dieRelease = { s with
    regs := s.regs.puts (s.strapPuts s.pwr.balls),
    pwr := { s.pwr with dawnStep := 3, released := true, sampled := true, releasedAt := s.now },
    clk := { s.clk with started := s.clk.started ||| 0x1F#8 } } := by
  have h := s.puts_eq (s.strapPuts s.pwr.balls)
  unfold State.dieRelease
  unfold State.strapPuts at h
  simp only [h]
  rfl

theorem exec_perstRelease_step2 {s : State} (b : Straps) (hdawn : s.dawning = true) (h2 : s.pwr.dawnStep = 2) :
    exec (.perstRelease b) s = .next { s with
      regs := s.regs.puts (s.strapPuts b),
      pwr := { s.pwr with perstLow := false, balls := b, dawnStep := 3, released := true, sampled := true, releasedAt := s.now },
      clk := { s.clk with started := s.clk.started ||| 0x1F#8 } } := by
  show execPerstRelease b s = _
  rw [execPerstRelease, State.tryRelease, if_pos ⟨hdawn, h2, rfl⟩, State.dieRelease_eq]
  rfl

/-- What a strap put reads: none is cut by its width. -/
theorem State.get_strapPuts (s : State) (b : Straps) {f : Fld} {v : Nat} (h : (f, v) ∈ s.strapPuts b) (hv : v < 2 ^ f.w) :
    (s.regs.puts (s.strapPuts b)).get f = v := by
  rw [← s.puts_regs]
  exact (s.get_puts_mem (strapFields ++ [R.GEN_STATE_attempt]) rfl (by decide) h).trans (Nat.mod_eq_of_lt hv)

theorem State.get_strapPuts_other (s : State) (b : Straps) {g : Fld} (hg : ∀ f ∈ R.GEN_STATE_attempt :: strapFields, g.key ≠ f.key) :
    (s.regs.puts (s.strapPuts b)).get g = s.get g :=
  s.regs.get_puts_other _ g fun f hf => hg f ((show ∀ f ∈ strapFields ++ [R.GEN_STATE_attempt], _ by decide) f hf)

theorem exec_perstAssert_early {s : State} (hrun : s.running = false) (h : s.dawning = false ∨ s.pwr.dawnStep < 3) :
    exec .perstAssert s = .next { s with pwr := { s.pwr with perstLow := true } } := by
  refine congrArg Host.Outcome.next (if_neg ?_)
  rintro (hn | ⟨hdawn, h3⟩)
  · exact Bool.false_ne_true (hrun.symm.trans hn)
  · exact h.elim (fun hn => Bool.false_ne_true (hn.symm.trans hdawn)) (Nat.not_lt.2 h3)

theorem exec_perstAssert_running {s : State} (hrun : s.running = true) :
    exec .perstAssert s = .next (State.conventionalReset { s with pwr := { s.pwr with perstLow := true } }) :=
  congrArg Host.Outcome.next (if_pos (.inl hrun))

/-- The state that a conventional reset finds: the island journals it. -/
def State.resetNoted (s : State) : State := if s.islandUp then s.notePower 5 else s

theorem State.resetNoted_only (s : State) : OnlyRecords s s.resetNoted := (s.notePower_only 5).ite

theorem State.conventionalReset_eq (s : State) : s.conventionalReset = { s.resetNoted.dieReset false with
    pwr := { s.pwr.dieReset false with state := .dawn, dawnStep := 2 } } := by
  have hpwr : (s.resetNoted.dieReset false).pwr = s.pwr.dieReset false := by rw [State.dieReset_pwr, s.resetNoted_only.pwr]
  unfold State.resetNoted at *
  simp only [State.conventionalReset, hpwr]

/-- A conventional reset keeps DRAM, and of the control die's registers those that show the straps (R132). -/
theorem State.conventionalReset_mem (s : State) : s.conventionalReset.mem = s.mem := by
  simp only [State.conventionalReset_eq, State.dieReset_mem_kept, s.resetNoted_only.mem]

theorem State.conventionalReset_pwr (s : State) :
    s.conventionalReset.pwr = { s.pwr.dieReset false with state := .dawn, dawnStep := 2 } := by simp only [State.conventionalReset_eq]

theorem State.conventionalReset_get (s : State) (g : Fld) : s.conventionalReset.get g = (s.regs.dieReset false).get g := by
  simp only [State.conventionalReset_eq, State.get, State.dieReset_regs, s.resetNoted_only.regs]

/-- Settles O36: each command of phase A by the branch its hypotheses select. -/
theorem dawnPhaseA : Obligations.DawnPhaseA := by
  unfold Obligations.DawnPhaseA
  refine ⟨fun s hout hoff hcold => ?_, fun s hdawn h0 => ?_, fun s hdawn h0 hoff => ⟨fun h => ?_, fun hboot => ?_⟩,
    fun s hdawn h1 hvio hmore hgood => ?_, fun rail s hon => ⟨exec_railGood_more hon, exec_railGood_last hon⟩,
    fun b s => exec_perstRelease_held b, fun b s hdawn h2 => ?_, fun s => exec_perstAssert_early, fun s hrun => ?_,
    fun s hfail hin hoff hmore => ?_, fun s hoff hwant hin hlow => ?_⟩
  · exact exec_vauxInRange_cold hout hoff hcold
  · obtain ⟨hstate, hrec, hmem, hrel⟩ := s.dawnFail_shows 1 0
    exact ⟨_, exec_rcStartTimeout hdawn h0, hstate, hrec, s.dawnFail_latch 0, hmem, hrel⟩
  · have hsame : (if s.isl.booted then s.journalLatch else s) = s := by
      rcases h with hboot | ⟨hlatch, howed⟩
      · simp [hboot]
      · rw [State.journalLatch_nothing hlatch howed, ite_self]
    rw [exec_enVioRise hdawn h0 hoff, hsame]
  · rw [exec_enVioRise hdawn h0 hoff, if_pos hboot]
  · obtain ⟨hne, hkeep, hlink⟩ := nextRaised_rises s.pwr.enables hvio hmore
    refine ⟨_, exec_enableRise hdawn h1 hvio hmore hgood, rfl, hne, ?_, ?_⟩
    · rw [State.setEnables_pwr, hgood]
      exact hkeep
    · rw [State.setEnables_linked s hlink]
  · refine ⟨_, exec_perstRelease_step2 b hdawn h2, rfl, rfl, ?_, ?_, ?_, ?_, ?_, fun g hg => s.get_strapPuts_other b hg, rfl⟩
    · exact s.get_strapPuts b (by simp [State.strapPuts]) b.posSlot.isLt
    · exact s.get_strapPuts b (by simp [State.strapPuts]) b.posSled.isLt
    · exact s.get_strapPuts b (by simp [State.strapPuts]) (b2n_lt_two _)
    · exact s.get_strapPuts b (by simp [State.strapPuts]) (b2n_lt_two _)
    · exact s.get_strapPuts b (by simp [State.strapPuts]) (b2n_lt_two _)
  · obtain ⟨u, hu⟩ : ∃ u : State, u = { s with pwr := { s.pwr with perstLow := true } } := ⟨_, rfl⟩
    refine ⟨u.conventionalReset, hu ▸ exec_perstAssert_running hrun, ?_, ?_, ?_, ?_, ?_, ?_, ?_, fun a => ?_, fun f hf => ?_,
      fun g hg hs => ?_⟩
    · rw [State.conventionalReset_pwr]
    · rw [State.conventionalReset_pwr]
    · rw [State.conventionalReset_pwr, hu]; rfl
    · rw [State.conventionalReset_pwr]; rfl
    · rw [State.conventionalReset_pwr, hu]; rfl
    · rw [State.conventionalReset_eq, State.dieReset_hzn]
    · rw [State.conventionalReset_eq, State.dieReset_descs]
    · rw [State.conventionalReset_mem, hu]
    · rw [State.conventionalReset_get, RegFile.get_dieReset_strap _ hf, hu]; rfl
    · rw [State.conventionalReset_get, RegFile.get_dieReset_die _ g hg hs]
  · exact ⟨_, exec_dawnRetry hfail hin hoff hmore, rfl, rfl, rfl, rfl⟩
  · exact ⟨_, exec_duskRestart hoff hwant hin hlow, rfl, rfl, rfl, rfl⟩

end Sys2Proof.Machine
end

section
/-!
PROOFS. Flags that a change of the package's state raises (R495, R497, R512), hold causes raised and cleared (R127, R128), and ports that
are DARK already (R129).
-/

namespace Sys2Proof.Machine

/-! ### Reports -/

theorem Reports.mono {l m : List Fld} {s t : State} (hlm : ∀ f ∈ l, f ∈ m) (h : Reports l s t) : Reports m s t :=
  ⟨fun g hp hg => h.1 g hp fun f hf => hg f (hlm f hf), h.2⟩

theorem Reports.mem {l : List Fld} {s t : State} (h : Reports l s t) : t.mem = s.mem := by rw [h.2]

/-- A field that a report does not reach. -/
theorem Reports.get {l : List Fld} {s t : State} (h : Reports l s t) (g : Fld) (hp : ¬ inPmu g) (hg : ∀ f ∈ l, g.key ≠ f.key) :
    t.get g = s.get g := h.1 g hp hg

/-- A report leaves the ports, the descriptors and the receiver. -/
theorem Reports.fab {l : List Fld} {s t : State} (h : Reports l s t) : t.fab = s.fab := by rw [h.2]

theorem State.flogAdd_pwr (s : State) (source code detail : Nat) (ctx : Option Nat) : (s.flogAdd source code detail ctx).pwr = s.pwr := by
  unfold State.flogAdd
  dsimp only
  split <;> rfl

theorem State.logEvent_pwr (s : State) (log what arg : Nat) : (s.logEvent log what arg).pwr = s.pwr := by
  unfold State.logEvent
  dsimp only
  split
  · exact (s.send_only _).pwr
  · rfl

theorem State.raiseHost_pwr (s : State) (b : Nat) : (s.raiseHost b).pwr = s.pwr := (s.raiseHost_only b).pwr

theorem State.alert_pwr (s : State) (b : Nat) : (s.alert b).pwr = s.pwr := (s.alert_only b).pwr

theorem State.alert_reports (s : State) (b : Nat) {l : List Fld} (hl : R.HOST_SB_ALERT ∈ l) : Reports l s (s.alert b) := by
  unfold State.alert
  split
  · exact .refl l s
  · exact ⟨fun g _ hg => State.get_put_other s _ g _ (hg _ hl), rfl⟩

theorem State.alert_bitSet (s : State) (b : Nat) (hb : b < 5) : BitSet (s.alert b) R.HOST_SB_ALERT b := by
  unfold State.alert
  split
  case isTrue hset => exact hset
  case isFalse =>
    refine (s.setBit_bit R.HOST_SB_ALERT b b hb).trans ?_
    rw [BEq.rfl, Bool.or_true]

theorem State.raiseHost_bitSet (s : State) (b : Nat) (hb : b < 12) : BitSet (s.raiseHost b) R.HOST_EVT b := by
  rw [BitSet, State.raiseHost, State.raise_bit _ _ _ _ _ _ (by decide) hb, BEq.rfl, Bool.or_true]

/-! ### A hold cause raised -/

/-- The fields that a hold cause raised can reach. -/
def raisedFields : List Fld :=
  [R.GEN_HOLD_CAUSE_causes, R.HOST_EVT, R.HOST_SB_ALERT, R.GEN_READY_compute_ready, R.GEN_FLOG_STAT_lost]

/-- A hold cause raised, before the package's state answers to it. -/
def State.holdRaised (s : State) (b : Nat) : State :=
  ((s.setBit R.GEN_HOLD_CAUSE_causes b).holdChanged (s.get R.GEN_HOLD_CAUSE_causes)).alert 1

theorem State.holdChanged_pwr (s : State) (old : Nat) : (s.holdChanged old).pwr = s.pwr := by
  rw [State.holdChanged, State.logEvent_pwr, State.raiseHost_pwr, State.flogAdd_pwr]

theorem State.holdChanged_bitSet (s : State) (old : Nat) : BitSet (s.holdChanged old) R.HOST_EVT 11 := by
  rw [BitSet, State.holdChanged, (State.logEvent_reports _ _ _ _ []).get _ (by decide) (by decide)]
  exact State.raiseHost_bitSet _ 11 (by decide)

theorem State.holdRaised_pwr (s : State) (b : Nat) : (s.holdRaised b).pwr = s.pwr := by
  rw [State.holdRaised, State.alert_pwr, State.holdChanged_pwr, State.setBit_pwr]

theorem State.holdRaised_reports (s : State) (b : Nat) : Reports raisedFields s (s.holdRaised b) :=
  ((s.put_reports _ _ (by decide)).trans ((State.holdChanged_reports _ _).mono (by decide))).trans (State.alert_reports _ 1 (by decide))

/-- The cause, HOST_EVT bit 11 and alert bit 1 are set (R497, R512). -/
theorem State.holdRaised_bits (s : State) (b : Nat) (hb : b < 5) : BitSet (s.holdRaised b) R.GEN_HOLD_CAUSE_causes b ∧
    BitSet (s.holdRaised b) R.HOST_EVT 11 ∧ BitSet (s.holdRaised b) R.HOST_SB_ALERT 1 := by
  have halert : ∀ u : State, Reports [R.HOST_SB_ALERT] u (u.alert 1) := fun u => u.alert_reports 1 (List.mem_singleton_self _)
  refine ⟨?_, ?_, State.alert_bitSet _ 1 (by decide)⟩
  · rw [BitSet, State.holdRaised, (halert _).get _ (by decide) (by decide),
      (State.holdChanged_reports _ _).get _ (by decide) (by decide), State.setBit_bit _ _ _ _ hb, BEq.rfl, Bool.or_true]
  · rw [BitSet, State.holdRaised, (halert _).get _ (by decide) (by decide)]
    exact State.holdChanged_bitSet _ _

section
variable {s : State} {b : Nat}

theorem State.raiseHold_again (h : bitAt (s.get R.GEN_HOLD_CAUSE_causes) b = true) : s.raiseHold b = s := if_pos h

/-- Dawn goes on with a hold cause (R122). -/
theorem State.raiseHold_dawn (h : bitAt (s.get R.GEN_HOLD_CAUSE_causes) b = false) (hstate : s.pwr.state = .dawn) :
    s.raiseHold b = s.holdRaised b := by
  have hkeep : (s.holdRaised b).pwr.state = .dawn := by rw [State.holdRaised_pwr, hstate]
  unfold State.holdRaised at *
  simp only [State.raiseHold, h, Bool.false_eq_true, if_false, hkeep]

theorem State.raiseHold_ready (h : bitAt (s.get R.GEN_HOLD_CAUSE_causes) b = false) (hstate : s.pwr.state = .ready) :
    s.raiseHold b = (s.holdRaised b).enterHeld := by
  have hkeep : (s.holdRaised b).pwr.state = .ready := by rw [State.holdRaised_pwr, hstate]
  unfold State.holdRaised at *
  simp only [State.raiseHold, h, Bool.false_eq_true, if_false, hkeep]

end

/-! ### HELD entered and left -/

/-- Where every port is DARK, none is left to go DARK. -/
theorem State.portsDark_dark {s : State} (h : ∀ n < 12, (s.port n).state = .dark) : s.portsDark = s := by
  unfold State.portsDark
  have hfold : ∀ ns : List Nat, (∀ n ∈ ns, n < 12) → ns.foldl (fun u n => if (u.port n).state = .dark then u else
      let r := u.portDown n 1
      r.2.foldl (fun v x => if x.txn.origin = v.ownPkg ∧ x.txn.kind ≠ 4 then v.answered x.txn 3 n else v) r.1) s = s := by
    intro ns
    induction ns with
    | nil => intro _; rfl
    | cons n ns ih =>
      intro hns
      obtain ⟨hn, hns⟩ := List.forall_mem_cons.1 hns
      rw [List.foldl_cons, if_pos (h n hn), ih hns]
  exact hfold (List.range 12) fun n => List.mem_range.1

theorem State.leaveOvercast_ready {s : State} (h : s.pwr.state = .ready) : s.leaveOvercast = s := if_neg (by simp [h])

/-- HELD entered from READY with DARK ports: admission stops (R127). -/
theorem State.enterHeld_ready {s : State} (h : s.pwr.state = .ready) (hdark : ∀ n < 12, (s.port n).state = .dark) :
    s.enterHeld = { s.put R.GEN_READY_compute_ready 0 with pwr := { s.pwr with state := .held } } := by
  rw [State.enterHeld, State.leaveOvercast_ready h]
  exact State.portsDark_dark hdark

/-- The last hold cause of a HELD package clears (R117, R127). -/
theorem State.clearHold_last {s : State} {b : Nat} (h : bitAt (s.get R.GEN_HOLD_CAUSE_causes) b = true) (hstate : s.pwr.state = .held)
    (hlast : (s.clrBit R.GEN_HOLD_CAUSE_causes b).get R.GEN_HOLD_CAUSE_causes = 0) : s.clearHold b =
      ((s.clrBit R.GEN_HOLD_CAUSE_causes b).holdChanged (s.get R.GEN_HOLD_CAUSE_causes)).enterRunning := by
  let u := (s.clrBit R.GEN_HOLD_CAUSE_causes b).holdChanged (s.get R.GEN_HOLD_CAUSE_causes)
  have hkeep : u.pwr.state = .held := by rw [State.holdChanged_pwr]; exact hstate
  have hnone : u.anyHold = false := by
    rw [State.anyHold, (State.holdChanged_reports _ _).get _ (by decide) (by decide), hlast]
    rfl
  simp only [State.clearHold, h, Bool.not_true, Bool.false_eq_true, if_false, u] at hkeep hnone ⊢
  simp only [hnone, Bool.false_eq_true, if_false, hkeep]

/-- READY entered: the thermal state is not overcast, and admission runs unless a warm reset does. -/
theorem State.enterRunning_ready {s : State} (hcool : 360 ≤ s.get R.THM_LIMIT_p_limit) : s.enterRunning =
    { s.put R.GEN_READY_compute_ready (b2n (!s.pwr.warm)) with pwr := { s.pwr with state := .ready } } := by
  have hlimit : (s.put R.GEN_READY_compute_ready (b2n (!s.pwr.warm))).overcastNow = false := by
    rw [State.overcastNow, State.get_put_other _ _ _ _ (by decide)]
    exact decide_eq_false (Nat.not_lt.2 hcool)
  simp only [State.enterRunning, hlimit, Bool.false_eq_true, if_false]
  rfl

/-- The only cause cleared leaves none. -/
theorem clearBits_self : ∀ b < 5, clearBits (2 ^ b) (2 ^ b) % 2 ^ 5 = 0 := by decide

/-- A hold cause raised in READY with DARK ports, as a whole. -/
theorem State.raiseHold_held {s : State} {b : Nat} (h : bitAt (s.get R.GEN_HOLD_CAUSE_causes) b = false) (hstate : s.pwr.state = .ready)
    (hdark : ∀ n < 12, (s.port n).state = .dark) : s.raiseHold b =
      { (s.holdRaised b).put R.GEN_READY_compute_ready 0 with pwr := { s.pwr with state := .held } } := by
  have hpwr := s.holdRaised_pwr b
  have hports : ∀ n < 12, ((s.holdRaised b).port n).state = .dark := fun n hn => by
    rw [State.port, (s.holdRaised_reports b).fab]
    exact hdark n hn
  rw [State.raiseHold_ready h hstate, State.enterHeld_ready (hpwr ▸ hstate) hports, hpwr]

/-! ### Acknowledgements (R131, R138) -/

/-- The state with the dawn record, or the stop record, marked as acknowledged. -/
def State.dawnAcked (s : State) : State := { s with pwr := { s.pwr with dawnRec := { s.pwr.dawnRec with valid := false } } }
def State.stopAcked (s : State) : State := { s with pwr := { s.pwr with stopRec := { s.pwr.stopRec with valid := false } } }

theorem State.dawnAcked_again {s : State} (h : s.pwr.dawnRec.valid = false) : s.dawnAcked = s := by
  unfold State.dawnAcked
  rw [← h]

theorem State.stopAcked_again {s : State} (h : s.pwr.stopRec.valid = false) : s.stopAcked = s := by
  unfold State.stopAcked
  rw [← h]

/-- An acknowledgement marks the record; a running island notes it. -/
theorem State.ackDawn_only (s : State) : OnlyRecords s.dawnAcked s.ackDawn := by
  unfold State.ackDawn
  split
  case isTrue => exact State.islNote_only ..
  case isFalse h => rw [State.dawnAcked_again (Bool.not_eq_true _ ▸ h)]; rfl

theorem State.ackStop_only (s : State) : OnlyRecords s.stopAcked s.ackStop := by
  unfold State.ackStop
  split
  case isTrue => exact State.islNote_only ..
  case isFalse h => rw [State.stopAcked_again (Bool.not_eq_true _ ▸ h)]; rfl

/-- Without the island no record is made. -/
theorem State.islNote_down {s : State} (h : s.islandUp = false) (type tag : Nat) (content : List Byte) :
    s.islNote type tag content = s := if_neg (by simp [h])

theorem State.ackDawn_down {s : State} (h : s.islandUp = false) : s.ackDawn = s.dawnAcked := by
  unfold State.ackDawn
  split
  case isTrue => exact State.islNote_down (s := s.dawnAcked) h ..
  case isFalse hv => exact (State.dawnAcked_again (Bool.not_eq_true _ ▸ hv)).symm

theorem State.ackStop_down {s : State} (h : s.islandUp = false) : s.ackStop = s.stopAcked := by
  unfold State.ackStop
  split
  case isTrue => exact State.islNote_down (s := s.stopAcked) h ..
  case isFalse hv => exact (State.stopAcked_again (Bool.not_eq_true _ ▸ hv)).symm

theorem exec_pwrAckDawn {s : State} (h : s.controlUp = true) : exec .pwrAckDawn s = .next s.ackDawn := congrArg _ (if_pos h)
theorem exec_pwrAckStop {s : State} (h : s.controlUp = true) : exec .pwrAckStop s = .next s.ackStop := congrArg _ (if_pos h)

/-- Settles O39: a cause raised is `holdRaised` and then HELD; the last one cleared leads to `enterRunning`. -/
theorem holdCauses : Obligations.HoldCauses := by
  unfold Obligations.HoldCauses
  refine ⟨fun b s hstate hclear hdark => ?_, fun b s hstate honly hcool => ?_, fun s hup hisl => ⟨?_, ?_⟩,
    fun s hup => ⟨⟨_, exec_pwrAckDawn hup, ?_, ?_⟩, ⟨_, exec_pwrAckStop hup, ?_, ?_⟩⟩⟩
  · obtain ⟨hcause, hevt, halert⟩ := s.holdRaised_bits b.val b.isLt
    have hreports := s.holdRaised_reports b.val
    have hput : ∀ g : Fld, g.key ≠ R.GEN_READY_compute_ready.key →
        ((s.holdRaised b.val).put R.GEN_READY_compute_ready 0).get g = (s.holdRaised b.val).get g := fun g => State.get_put_other _ _ g 0
    rw [State.raiseHold_held hclear hstate hdark]
    refine ⟨rfl, ?_, ?_, ?_, ?_, ?_, fun a => ?_⟩
    · exact (congrArg (bitAt · b.val) (hput R.GEN_HOLD_CAUSE_causes (by decide))).trans hcause
    · exact (congrArg (bitAt · 11) (hput R.HOST_EVT (by decide))).trans hevt
    · exact (congrArg (bitAt · 1) (hput R.HOST_SB_ALERT (by decide))).trans halert
    · exact State.get_put_same (s.holdRaised b.val) R.GEN_READY_compute_ready 0
    · exact FieldsButPmu.put hreports.1 R.GEN_READY_compute_ready 0 (by decide)
    · exact congrArg (Memory.get · a) hreports.mem
  · have hbit : bitAt (s.get R.GEN_HOLD_CAUSE_causes) b.val = true := by rw [honly, bitAt_two_pow, BEq.rfl]
    have hlast : (s.clrBit R.GEN_HOLD_CAUSE_causes b.val).get R.GEN_HOLD_CAUSE_causes = 0 := by
      rw [State.clrBit_eq, State.get_put_same, honly]
      exact clearBits_self b.val b.isLt
    have hchanged := (s.clrBit R.GEN_HOLD_CAUSE_causes b.val).holdChanged_reports (s.get R.GEN_HOLD_CAUSE_causes)
    have hlimit : 360 ≤ ((s.clrBit R.GEN_HOLD_CAUSE_causes b.val).holdChanged (s.get R.GEN_HOLD_CAUSE_causes)).get R.THM_LIMIT_p_limit := by
      rw [hchanged.get _ (by decide) (by decide), State.clrBit_eq, State.get_put_other _ _ _ _ (by decide)]
      exact hcool
    rw [State.clearHold_last hbit hstate hlast, State.enterRunning_ready hlimit, State.holdChanged_pwr]
    refine ⟨?_, rfl, ?_, fun a => ?_⟩
    · exact (State.get_put_other _ _ R.GEN_HOLD_CAUSE_causes _ (by decide)).trans ((hchanged.get _ (by decide) (by decide)).trans hlast)
    · exact (State.get_put_same _ R.GEN_READY_compute_ready _).trans (Nat.mod_eq_of_lt (b2n_lt_two _))
    · exact congrArg (Memory.get · a) hchanged.mem
  · rw [exec_pwrAckDawn hup, State.ackDawn_down hisl]; rfl
  · rw [exec_pwrAckStop hup, State.ackStop_down hisl]; rfl
  · rw [s.ackDawn_only.pwr]; rfl
  · exact fun a => by rw [s.ackDawn_only.mem]; rfl
  · rw [s.ackStop_only.pwr]; rfl
  · exact fun a => by rw [s.ackStop_only.mem]; rfl

end Sys2Proof.Machine
end

section
/-!
PROOFS. Phase B of dawn, steps 3 to 11 (R119, R122, R125, R126, R234, R365, R528).
-/

namespace Sys2Proof.Machine

/-! ### The tiles of a die whose array link trains (R234, R317, R320) -/

theorem State.tile_setTile_same (s : State) (t : Nat) (x : TileSt) : (s.setTile t x).tile t = x := SMap.get_set_same _ _ _ _

theorem State.tile_setTile_other (s : State) {t u : Nat} (x : TileSt) (h : u ≠ t) : (s.setTile t x).tile u = s.tile u :=
  SMap.get_set_other _ _ _ _ _ h

/-- Everything but the tiles is the same. -/
def OnlyTiles (s t : State) : Prop := t = { s with tiles := t.tiles }

theorem OnlyTiles.trans {s t u : State} (h1 : OnlyTiles s t) (h2 : OnlyTiles t u) : OnlyTiles s u := by
  unfold OnlyTiles at *
  rw [h2, h1]

section
variable (f : Nat → TileSt → TileSt) (lo : Nat)

/-- Tiles `lo + k` changed one after another. -/
def State.eachTile (s : State) (ks : List Nat) : State := ks.foldl (fun u k => u.setTile (lo + k) (f k (u.tile (lo + k)))) s

theorem State.eachTile_only (s : State) (ks : List Nat) : OnlyTiles s (s.eachTile f lo ks) := by
  induction ks generalizing s with
  | nil => rfl
  | cons k ks ih => exact OnlyTiles.trans (t := s.setTile (lo + k) (f k (s.tile (lo + k)))) rfl (ih _)

theorem State.eachTile_other (s : State) (ks : List Nat) (t : Nat) (h : ∀ k ∈ ks, t ≠ lo + k) : (s.eachTile f lo ks).tile t = s.tile t := by
  induction ks generalizing s with
  | nil => rfl
  | cons k ks ih =>
    obtain ⟨hk, hks⟩ := List.forall_mem_cons.1 h
    exact (ih _ hks).trans (s.tile_setTile_other _ hk)

theorem State.eachTile_mem (s : State) (ks : List Nat) (hks : ks.Nodup) {k : Nat} (hk : k ∈ ks) :
    (s.eachTile f lo ks).tile (lo + k) = f k (s.tile (lo + k)) := by
  induction ks generalizing s with
  | nil => simp at hk
  | cons j ks ih =>
    obtain ⟨hj, hks⟩ := List.nodup_cons.1 hks
    have hstep : s.eachTile f lo (j :: ks) = (s.setTile (lo + j) (f j (s.tile (lo + j)))).eachTile f lo ks := rfl
    rw [hstep]
    rcases List.mem_cons.1 hk with rfl | hk
    · have hother : ∀ i ∈ ks, lo + k ≠ lo + i := fun i hi h => hj (Nat.add_left_cancel h ▸ hi)
      rw [State.eachTile_other _ _ _ _ _ hother, State.tile_setTile_same]
    · have hne : k ≠ j := fun h => hj (h ▸ hk)
      rw [ih _ hks hk, State.tile_setTile_other _ _ (by omega)]

end

/-- A map over a sparse map's entries that keeps their keys. -/
theorem SMap.lookup_map {α : Type} (g : Nat × α → Nat × α) (hg : ∀ x, (g x).1 = x.1) (m : SMap α) (k : Nat) :
    SMap.lookup (m.map g) k = (SMap.lookup m k).map (fun v => (g (k, v)).2) := by
  induction m with
  | nil => rfl
  | cons x m ih =>
    obtain ⟨j, v⟩ := x
    have hj : g (j, v) = (j, (g (j, v)).2) := Prod.ext (hg _) rfl
    rw [List.map_cons, hj]
    by_cases h : j = k
    · subst h; simp [SMap.lookup]
    · simp [SMap.lookup, h, ih]

/-- What training does to a listed tile of die `d`. -/
def trainedEntry (d : Nat) (x : Nat × TileSt) : Nat × TileSt :=
  if dieOf x.1 = d then (x.1, { x.2 with badSpares := 0, erasing := x.2.erasing || x.2.dirty, eraseRun := false }) else x

theorem trainedEntry_key (d : Nat) (x : Nat × TileSt) : (trainedEntry d x).1 = x.1 := by
  unfold trainedEntry
  split <;> rfl

theorem State.eraseAtTraining_tile (s : State) (d t : Nat) :
    (s.eraseAtTraining d).tile t = ((SMap.lookup s.tiles t).map (fun v => (trainedEntry d (t, v)).2)).getD TileSt.init := by
  have h := SMap.lookup_map (trainedEntry d) (trainedEntry_key d) s.tiles t
  exact congrArg (Option.getD · TileSt.init) h

theorem State.eraseAtTraining_only (s : State) (d : Nat) : OnlyTiles s (s.eraseAtTraining d) := rfl

/-- Training leaves the faulty mark of every tile. -/
theorem State.eraseAtTraining_faulty (s : State) (d t : Nat) : ((s.eraseAtTraining d).tile t).faulty = (s.tile t).faulty := by
  rw [State.eraseAtTraining_tile, State.tile, SMap.get]
  cases SMap.lookup s.tiles t with
  | none => rfl
  | some v =>
    show (trainedEntry d (t, v)).2.faulty = v.faulty
    unfold trainedEntry
    split <;> rfl

theorem State.eraseAtTraining_other (s : State) {d t : Nat} (h : dieOf t ≠ d) : (s.eraseAtTraining d).tile t = s.tile t := by
  rw [State.eraseAtTraining_tile, State.tile, SMap.get]
  cases SMap.lookup s.tiles t with
  | none => rfl
  | some v => exact congrArg Prod.snd (if_neg h)

/-- A tile when its die trains: marked faulty or not, with contact-sheet trims. -/
def TileSt.marked (faulty : BitVec 64) (k : Nat) (x : TileSt) : TileSt := { x with faulty := faulty.getLsbD k, trims := [] }

/-- The tiles of die `d` after its link has trained. -/
def State.dieTrained (s : State) (d : Nat) (faulty : BitVec 64) : State :=
  (s.eachTile (TileSt.marked faulty) (64 * d) (List.range 64)).eraseAtTraining d

theorem State.dieTrained_only (s : State) (d : Nat) (faulty : BitVec 64) : OnlyTiles s (s.dieTrained d faulty) :=
  (s.eachTile_only _ _ _).trans (State.eraseAtTraining_only _ d)

theorem State.dieTrained_faulty (s : State) (d : Nat) (faulty : BitVec 64) (k : Fin 64) :
    ((s.dieTrained d faulty).tile (64 * d + k.val)).faulty = faulty.getLsbD k.val := by
  rw [State.dieTrained, State.eraseAtTraining_faulty, State.eachTile_mem _ _ _ _ List.nodup_range (List.mem_range.2 k.isLt)]
  rfl

theorem State.dieTrained_other (s : State) {d t : Nat} (faulty : BitVec 64) (h : dieOf t ≠ d) : (s.dieTrained d faulty).tile t = s.tile t := by
  rw [State.dieTrained, State.eraseAtTraining_other _ h]
  refine s.eachTile_other _ _ _ t fun k hk ht => h ?_
  have hlt := List.mem_range.1 hk
  unfold dieOf
  omega

/-! ### The commands -/

section
variable {s : State}

theorem State.atStep_iff {n : Nat} : s.atStep n = true ↔ s.dawning = true ∧ s.pwr.dawnStep = n := by simp [State.atStep]

theorem State.atStep_state {n : Nat} (h : s.atStep n = true) : s.pwr.state = .dawn := by
  have := (State.atStep_iff.1 h).1
  simp only [State.dawning, Bool.and_eq_true, beq_iff_eq] at this
  exact this.1

theorem State.setStep_tile (s : State) (n t : Nat) : (s.setStep n).tile t = s.tile t := rfl

theorem exec_dawnPllsLocked (h : s.atStep 3 = true) (href : s.clk.refPresent = true) : exec .dawnPllsLocked s = .next { s with
    clk := { s.clk with locked := s.clk.locked ||| 0x1F#8, coasting := false, arrayForced := false, selfRefresh := 0 }, thm := ThmSt.init,
    pwr := { s.pwr with dawnStep := 4 } } := by
  show execDawnPllsLocked s = _
  rw [execDawnPllsLocked, if_pos (by rw [h, href]; rfl)]
  rfl

theorem exec_dramLinkTrained (h : s.atStep 5 = true) :
    exec .dramLinkTrained s = .next { s with pwr := { s.pwr with dramLink := 3, dawnStep := 6 } } := congrArg _ (if_pos h)

theorem exec_dramInitDone (h : s.atStep 6 = true) :
    exec .dramInitDone s = .next { s with pwr := { s.pwr with dramInit := 3, dawnStep := 7 } } := congrArg _ (if_pos h)

theorem exec_dataWindowCleared (h : s.atStep 7 = true) : exec .dataWindowCleared s = .next (s.clearWindows.setStep 8) := congrArg _ (if_pos h)

/-- The data and command windows read 0, and every byte above keeps its own (R119 step 7). -/
theorem State.clearWindows_mem (s : State) (a : Nat) :
    Memory.get s.clearWindows.mem a = if a < cmdEnd then 0 else Memory.get s.mem a := by
  by_cases ha : a < cmdEnd
  · have h := SMap.lookup_clearRange_in s.mem 0 cmdEnd a ⟨Nat.zero_le a, ha⟩
    rw [if_pos ha]
    exact congrArg (Option.getD · 0) h
  · have h := SMap.lookup_clearRange_out s.mem 0 cmdEnd a fun h => ha h.2
    rw [if_neg ha]
    exact congrArg (Option.getD · 0) h

theorem State.clearWindows_poison (s : State) : ∀ l ∈ s.clearWindows.poison, cmdEnd ≤ 64 * l :=
  fun _ hl => of_decide_eq_true (List.mem_filter.1 hl).2

/-! #### Step 4: the island's handshake -/

theorem State.mboxKept_none (h : s.isl.kept = []) : s.mboxKept = s := by
  rw [State.mboxKept, h, List.foldl_nil, ← h]

/-- A trim window that starts takes its source, and is whole. -/
theorem State.trimStart_only (s : State) : FieldsBut [R.OSC_STAT_trim_src] s s.trimStart ∧
    s.trimStart = { s with regs := s.trimStart.regs, isl := { s.isl with trimSpoilt := s.trimStart.isl.trimSpoilt } } := by
  refine ⟨fun g hg => s.trimStart_get (hg _ (List.mem_singleton_self _)), ?_⟩
  unfold State.trimStart
  split <;> rfl

/-- The link is up, with no completion kept (R528). -/
theorem State.linkReturn_eq (h : s.isl.kept = []) :
    s.linkReturn = State.trimStart { s with isl := { s.isl with linkUp := true, linkLostAt := none } } := by
  exact congrArg State.trimStart (State.mboxKept_none (s := { s with isl := { s.isl with linkUp := true, linkLostAt := none } }) h)

theorem exec_islandHandshake (h : s.atStep 4 = true) (hisl : s.islandUp = true) (hdown : s.isl.linkUp = false) (hup : s.controlUp = true)
    (hfw : s.isl.fw.isSome = true) (hkept : s.isl.kept = []) : exec .islandHandshake s =
      .next ((s.linkReturn.put R.PWR_DUSK_STAT_overrun (b2n s.pwr.overrunRec)).setStep 5) := by
  have hrun : ((s.linkReturn.put R.PWR_DUSK_STAT_overrun (b2n s.pwr.overrunRec)).setStep 5).isl.fw.isNone = false := by
    show s.linkReturn.isl.fw.isNone = false
    rw [State.linkReturn_eq hkept, (State.trimStart_only _).2]
    simpa using hfw
  show execIslandHandshake s = _
  simp only [execIslandHandshake, hisl, hdown, hup, h, Bool.not_true, Bool.or_self, Bool.false_eq_true, if_false, if_true, hrun]

/-! #### Step 8: stage-2 -/

/-- The state in which stage-2 has been fetched and is checked. -/
def State.stage2Fetched (s : State) : State :=
  { s.flashSeen with pwr := { s.pwr with stage2Digest := Config.sha384 (s.fwBytes 2) } }

theorem exec_stage2Checked_ok {l : Levels} (h : s.atStep 8 = true) (hok : s.stage2Fetched.checkStage2 (s.fwBytes 2) = .ok l) :
    exec .stage2Checked s = .next { s.stage2Fetched with pwr := { s.stage2Fetched.pwr with stage2 := some l, dawnStep := 9 } } := by
  show execStage2Checked s = _
  unfold State.stage2Fetched at *
  simp only [execStage2Checked, h, Bool.not_true, Bool.false_eq_true, if_false, hok]
  rfl

theorem exec_stage2Checked_error {e : LoadErr} (h : s.atStep 8 = true) (herr : s.stage2Fetched.checkStage2 (s.fwBytes 2) = .error e) :
    exec .stage2Checked s = .next ((s.stage2Fetched.authFail 0).setStep 9) := by
  show execStage2Checked s = _
  unfold State.stage2Fetched at *
  simp only [execStage2Checked, h, Bool.not_true, Bool.false_eq_true, if_false, herr]

/-- fw_auth raised in dawn for stage-2, the image of the lowest code (R126). -/
theorem State.authFail_stage2 (hstate : s.pwr.state = .dawn) : BitSet (s.authFail 0) R.GEN_HOLD_CAUSE_causes 1 ∧
    (s.authFail 0).get R.GEN_HOLD_CAUSE_auth_image = 0 ∧ (s.authFail 0).pwr = s.pwr ∧ (s.authFail 0).mem = s.mem := by
  have hnamed : s.authFail 0 = (s.put R.GEN_HOLD_CAUSE_auth_image 0).raiseHold 1 := by
    unfold State.authFail
    simp only [Nat.zero_min, ite_self]
  have himage : (s.put R.GEN_HOLD_CAUSE_auth_image 0).get R.GEN_HOLD_CAUSE_auth_image = 0 := State.get_put_same ..
  rw [hnamed]
  cases hset : bitAt ((s.put R.GEN_HOLD_CAUSE_auth_image 0).get R.GEN_HOLD_CAUSE_causes) 1
  case true =>
    rw [State.raiseHold_again hset]
    exact ⟨hset, himage, rfl, rfl⟩
  case false =>
    have hreports := (s.put R.GEN_HOLD_CAUSE_auth_image 0).holdRaised_reports 1
    rw [State.raiseHold_dawn hset hstate]
    exact ⟨(State.holdRaised_bits _ 1 (by decide)).1, (hreports.get _ (by decide) (by decide)).trans himage,
      State.holdRaised_pwr _ 1, hreports.mem⟩

/-! #### Step 9: the array links -/

/-- The array link of die `d` is trained. -/
def State.arrayLinked (s : State) (d : Nat) : State := { s with pwr := { s.pwr with arrayLink := s.pwr.arrayLink ||| BitVec.twoPow 4 d } }

/-- The link of one more die has trained, and its tiles are marked. -/
def State.dieLinked (s : State) (d : Nat) (faulty : BitVec 64) : State := (s.arrayLinked d).dieTrained d faulty

theorem State.dieLinked_eq (s : State) (d : Nat) (faulty : BitVec 64) : ∃ ts, s.dieLinked d faulty = { s with
    pwr := { s.pwr with arrayLink := s.pwr.arrayLink ||| BitVec.twoPow 4 d }, tiles := ts } := by
  have h := (s.arrayLinked d).dieTrained_only d faulty
  exact ⟨(s.dieLinked d faulty).tiles, h⟩

theorem State.dieLinked_pwr (s : State) (d : Nat) (faulty : BitVec 64) :
    (s.dieLinked d faulty).pwr = { s.pwr with arrayLink := s.pwr.arrayLink ||| BitVec.twoPow 4 d } := by
  obtain ⟨ts, h⟩ := s.dieLinked_eq d faulty
  rw [h]

theorem State.dieLinked_faulty (s : State) (d : Nat) (faulty : BitVec 64) (k : Fin 64) :
    ((s.dieLinked d faulty).tile (64 * d + k.val)).faulty = faulty.getLsbD k.val := (s.arrayLinked d).dieTrained_faulty d faulty k

theorem State.dieLinked_other (s : State) {d t : Nat} (faulty : BitVec 64) (h : dieOf t ≠ d) : (s.dieLinked d faulty).tile t = s.tile t :=
  (s.arrayLinked d).dieTrained_other faulty h

section
variable {die : Fin 4} {faulty : BitVec 64} (h : s.atStep 9 = true) (hdown : s.pwr.arrayLink.getLsbD die.val = false)
include h hdown

theorem exec_arrayLinkTrained_more (hmore : s.pwr.arrayLink ||| BitVec.twoPow 4 die.val ≠ BitVec.allOnes 4) :
    exec (.arrayLinkTrained die faulty) s = .next (s.dieLinked die.val faulty) := by
  have hlink : (s.dieLinked die.val faulty).pwr.arrayLink ≠ BitVec.allOnes 4 := by rw [State.dieLinked_pwr]; exact hmore
  exact congrArg Host.Outcome.next ((if_neg (by rw [h, hdown]; decide)).trans (if_pos hlink))

theorem exec_arrayLinkTrained_last (hlast : s.pwr.arrayLink ||| BitVec.twoPow 4 die.val = BitVec.allOnes 4)
    (hstage2 : s.pwr.stage2.isSome = true) :
    exec (.arrayLinkTrained die faulty) s = .next ((s.dieLinked die.val faulty).setStep 10) := by
  have hlink : (s.dieLinked die.val faulty).pwr.arrayLink = BitVec.allOnes 4 := by rw [State.dieLinked_pwr]; exact hlast
  have hrun : (s.dieLinked die.val faulty).pwr.stage2.isSome = true := by rw [State.dieLinked_pwr]; exact hstage2
  exact congrArg Host.Outcome.next ((if_neg (by rw [h, hdown]; decide)).trans ((if_neg (not_not.2 hlink)).trans (if_pos hrun)))

end

/-! #### Steps 10 and 11: the patch, and the end of phase B -/

/-- What the end of step 11 sets. -/
def State.readyPuts (s : State) : List (Fld × Nat) :=
  [(R.GEN_READY_cfg_ready, 1), (R.GEN_READY_mem_active, 1), (R.GEN_READY_sb_ready, 1), (R.GEN_READY_mbox_ready, 1),
   (R.PWR_DAWN_TIMES_cfg_ms, (s.now - s.pwr.releasedAt) / ticksPerMs)]

/-- The fields it sets. -/
def readyFields : List Fld :=
  [R.GEN_READY_cfg_ready, R.GEN_READY_mem_active, R.GEN_READY_sb_ready, R.GEN_READY_mbox_ready, R.PWR_DAWN_TIMES_cfg_ms]

theorem State.readyPuts_fst : s.readyPuts.map Prod.fst = readyFields := rfl

theorem State.phaseBEnd_lock (hpair : s.firmwarePair = none) (hbench : s.get R.GEN_TOPO_bench = 0) : s.phaseBEnd =
    { s with regs := s.regs.puts s.readyPuts, pwr := { s.pwr with cfgAt := s.now, dawnStep := 12 } } := by
  have hkeep : (s.regs.puts s.readyPuts).get R.GEN_TOPO_bench ≠ 1 := by
    rw [RegFile.get_puts_other _ _ _ (by rw [State.readyPuts_fst]; decide)]
    exact fun h1 => Nat.zero_ne_one (hbench.symm.trans h1)
  have hputs := s.puts_eq s.readyPuts
  unfold State.readyPuts at hputs
  unfold State.phaseBEnd
  rw [hpair]
  simp only [hputs]
  exact (if_neg hkeep).trans rfl

theorem State.flashSeen_only (s : State) : s.flashSeen = { s with freeIx := s.flashSeen.freeIx } := by
  unfold State.flashSeen
  split <;> rfl

/-- The state in which the patch has passed and every sequencer is idle. -/
def State.patchLoaded (s : State) (p : Patch) : State := (({ s with patch := some p } : State).put R.SEQ_PATCH_result 0).flashSeen.seqsIdle

theorem State.patchLoaded_eq (s : State) (p : Patch) : ∃ n, s.patchLoaded p = { s with
    regs := s.regs.put R.SEQ_PATCH_result 0, patch := some p, freeIx := n, seqs := s.seqsIdle.seqs } := by
  have h := State.flashSeen_only (({ s with patch := some p } : State).put R.SEQ_PATCH_result 0)
  unfold State.patchLoaded
  rw [h]
  exact ⟨_, rfl⟩

/-- The image checks of step 11 read only which images run. -/
theorem State.patchLoaded_pair (s : State) (p : Patch) : (s.patchLoaded p).firmwarePair = ({ s with patch := some p } : State).firmwarePair := by
  obtain ⟨n, h⟩ := s.patchLoaded_eq p
  rw [h]
  rfl

/-- A good patch out of BENCH, with no incompatible pair: phase B ends. -/
theorem exec_patchChecked {p : Patch} (h : s.atStep 10 = true) (hfull : s.fwEmpty 3 = false) (hok : s.checkPatch (s.fwBytes 3) = .ok p)
    (hbench : s.get R.GEN_TOPO_bench = 0) (hpair : ({ s with patch := some p } : State).firmwarePair = none) :
    ∃ n, exec .patchChecked s = .next { s with
      regs := (s.regs.put R.SEQ_PATCH_result 0).puts s.readyPuts, patch := some p, freeIx := n, seqs := s.seqsIdle.seqs,
      pwr := { s.pwr with cfgAt := s.now, dawnStep := 12 } } := by
  obtain ⟨n, hn⟩ := s.patchLoaded_eq p
  have hload : (s.patchLoaded p).get R.GEN_TOPO_bench = 0 := by
    rw [hn]
    exact (s.regs.get_put_other R.SEQ_PATCH_result R.GEN_TOPO_bench 0 (by decide)).trans hbench
  have hend := State.phaseBEnd_lock (s.patchLoaded_pair p ▸ hpair) hload
  rw [hn] at hend
  refine ⟨n, ?_⟩
  show execPatchChecked s = _
  simp only [execPatchChecked, h, hfull, Bool.not_true, Bool.false_eq_true, if_false, hok]
  refine congrArg Host.Outcome.next (Eq.trans ?_ hend)
  rw [← hn]
  rfl

/-- The four ready bits, set together (R122). -/
theorem State.get_readyPuts (r : RegFile) (f : Fld) (hf : (f, 1) ∈ s.readyPuts) (hw : f.w = 1) : (r.puts s.readyPuts).get f = 1 := by
  refine (r.get_puts_mem _ (by rw [State.readyPuts_fst]; decide) hf).trans ?_
  show 1 % 2 ^ f.w = 1
  rw [hw]
  rfl

/-! #### A timeout (R119) -/

theorem exec_dawnTimeout {code index : Nat} (hdawn : s.dawning = true) (hcause : s.timeoutCause = some (code, index)) :
    exec .dawnTimeout s = .next (State.dawnFail { s with freeIx := s.freeIx + 1 } code index) := by
  show execDawnTimeout s = _
  simp only [execDawnTimeout, hdawn, Bool.true_eq_false, if_false, hcause]

theorem State.timeoutCause_4 (h : s.pwr.dawnStep = 4) : s.timeoutCause = some (5, 0) := by
  unfold State.timeoutCause
  rw [h]
  rfl

theorem State.timeoutCause_8 (h : s.pwr.dawnStep = 8) : s.timeoutCause = some (9, 0) := by
  unfold State.timeoutCause
  rw [h]
  rfl

end

/-- Settles O37: each event of phase B by what its step leaves. -/
theorem dawnPhaseB : Obligations.DawnPhaseB := by
  unfold Obligations.DawnPhaseB
  refine ⟨fun s h href => exec_dawnPllsLocked h href, fun s h hisl hdown hup hfw hkept => ?_, fun s => exec_dramLinkTrained,
    fun s => exec_dramInitDone, fun s h => ?_, fun s h => ⟨fun l hok => exec_stage2Checked_ok h hok, fun e herr => ?_⟩,
    fun die faulty s h hdown => ⟨fun hmore => ?_, fun hlast hstage2 => ?_⟩, fun p s h hfull hok hbench hpair => ?_, fun s hdawn h => ?_⟩
  · obtain ⟨u, hu⟩ : ∃ u : State, u = { s with isl := { s.isl with linkUp := true, linkLostAt := none } } := ⟨_, rfl⟩
    obtain ⟨hfields, honly⟩ := u.trimStart_only
    have hput := u.trimStart.put_writes R.PWR_DUSK_STAT_overrun (b2n s.pwr.overrunRec)
    refine ⟨_, exec_islandHandshake h hisl hdown hup hfw hkept, ?_⟩
    rw [State.linkReturn_eq hkept, ← hu]
    refine ⟨?_, ?_, ?_, ?_, ?_⟩
    · exact (congrArg State.isl honly).trans (by rw [hu]; rfl)
    · exact congrArg (fun v : State => { v.pwr with dawnStep := 5 }) (honly.trans (by rw [hu]))
    · exact (State.get_put_same ..).trans (Nat.mod_eq_of_lt (b2n_lt_two _))
    · intro g hg
      refine (hput.2 g (by simpa using hg R.PWR_DUSK_STAT_overrun (by decide))).trans ((hfields g (by simpa using hg R.OSC_STAT_trim_src (by decide))).trans ?_)
      rw [hu]
      rfl
    · rw [honly, hu]
      rfl
  · refine ⟨_, exec_dataWindowCleared h, rfl, s.clearWindows_mem, s.clearWindows_poison, rfl⟩
  · obtain ⟨hcause, himage, hpwr, hmem⟩ := State.authFail_stage2 (s := s.stage2Fetched) (State.atStep_state h)
    refine ⟨_, exec_stage2Checked_error h herr, rfl, hcause, himage, ?_, fun a => ?_⟩
    · show (s.stage2Fetched.authFail 0).pwr.stage2 = _
      rw [hpwr]
      rfl
    · refine congrArg (Memory.get · a) (hmem.trans ?_)
      show s.flashSeen.mem = s.mem
      rw [State.flashSeen_only]
  · obtain ⟨ts, hts⟩ := s.dieLinked_eq die.val faulty
    exact ⟨_, exec_arrayLinkTrained_more h hdown hmore, s.dieLinked_pwr _ _, s.dieLinked_faulty _ _, fun u => s.dieLinked_other faulty,
      by rw [hts]⟩
  · obtain ⟨ts, hts⟩ := s.dieLinked_eq die.val faulty
    refine ⟨_, exec_arrayLinkTrained_last h hdown hlast hstage2, ?_, fun k => ?_, ?_⟩
    · rw [State.setStep, s.dieLinked_pwr]
    · rw [State.setStep_tile, State.dieLinked_faulty]
    · rw [hts]; rfl
  · obtain ⟨n, hend⟩ := exec_patchChecked h hfull hok hbench hpair
    have hother : ∀ g : Fld, (∀ f ∈ readyFields, g.key ≠ f.key) → ∀ r : RegFile, (r.puts s.readyPuts).get g = r.get g :=
      fun g hg r => r.get_puts_other _ g (by rwa [State.readyPuts_fst])
    refine ⟨_, hend, rfl, rfl, fun q => ?_, ?_, ?_, ?_, ?_, ?_, fun g hg => ?_, rfl⟩
    · show (s.seqs.map _)[q] = _
      rw [Fin.getElem_fin, Vector.getElem_map]
      rfl
    · exact (hother R.SEQ_PATCH_result (by decide) _).trans (RegFile.get_put_same _ R.SEQ_PATCH_result 0)
    · exact State.get_readyPuts _ R.GEN_READY_cfg_ready (by simp [State.readyPuts]) rfl
    · exact State.get_readyPuts _ R.GEN_READY_mem_active (by simp [State.readyPuts]) rfl
    · exact State.get_readyPuts _ R.GEN_READY_sb_ready (by simp [State.readyPuts]) rfl
    · exact State.get_readyPuts _ R.GEN_READY_mbox_ready (by simp [State.readyPuts]) rfl
    · obtain ⟨hresult, hready⟩ := List.forall_mem_cons.1 hg
      exact (hother g hready _).trans (s.regs.get_put_other _ g 0 hresult)
  · rcases h with h | h
    · obtain ⟨hstate, hrec, hmem, -⟩ := State.dawnFail_shows { s with freeIx := s.freeIx + 1 } 5 0
      exact ⟨_, exec_dawnTimeout hdawn (State.timeoutCause_4 h), hstate, by rw [hrec, if_pos h]; rfl, hmem⟩
    · obtain ⟨hstate, hrec, hmem, -⟩ := State.dawnFail_shows { s with freeIx := s.freeIx + 1 } 9 0
      exact ⟨_, exec_dawnTimeout hdawn (State.timeoutCause_8 h), hstate, by rw [hrec, if_neg (by rw [h]; decide)]; rfl, hmem⟩

end Sys2Proof.Machine
end

section
/-!
PROOFS. Power faults, VAUX loss and the fall of the enables (R79, R80, R137–R140, R142, R143).
-/

namespace Sys2Proof.Machine

/-! ### An immediate stop (R139, R140) -/

theorem State.stopNote_only (s : State) (kind : Nat) (inDusk : Bool) (rail frame : Nat) :
    OnlyRecords { s with pwr := { s.pwr with stopRec := ⟨kind, inDusk, rail, frame, true⟩ } } (s.stopNote kind inDusk rail frame) :=
  State.islNote_only ..

/-- The stop record made and the attributions closed at a frame. -/
def State.stopClosed (s : State) (kind : Nat) (inDusk : Bool) (rail frame : Nat) : State :=
  (s.stopNote kind inDusk rail frame).closeBindings frame

theorem State.stopClosed_pwr (s : State) (kind : Nat) (inDusk : Bool) (rail frame : Nat) :
    (s.stopClosed kind inDusk rail frame).pwr = { s.pwr with stopRec := ⟨kind, inDusk, rail, frame, true⟩ } :=
  (s.stopNote_only kind inDusk rail frame).pwr

/-- Everything but registers, the package's state with its rails and enables, and of the island the link and what goes with it, is the
same. -/
def OnlyStop (s t : State) : Prop := t = { s with
  regs := t.regs,
  pwr := { s.pwr with state := t.pwr.state, restartWanted := t.pwr.restartWanted, faultLow := t.pwr.faultLow, enables := t.pwr.enables,
                      railGood := t.pwr.railGood, lowering := t.pwr.lowering },
  isl := { s.isl with linkUp := t.isl.linkUp, trimSpoilt := t.isl.trimSpoilt } }

theorem OnlyStop.trans {s t u : State} (h1 : OnlyStop s t) (h2 : OnlyStop t u) : OnlyStop s u := by
  unfold OnlyStop at *
  rw [h2, h1]

theorem OnlyRails.stop {s t : State} (h : OnlyRails s t) : OnlyStop s t := by
  unfold OnlyStop
  rw [h]

section
variable {s : State}

/-- The state in which the enables of a stop begin to fall. -/
def State.stopBegun (s : State) : State := { s with pwr := { s.pwr with restartWanted := false, faultLow := true, lowering := .stop } }

theorem State.stopped_falling (h : s.pwr.enables ≠ 0) (hl : lowered s.pwr.enables ≠ 0) :
    s.stopped = s.stopBegun.setEnables (lowered s.pwr.enables) := by
  have hbegin : State.beginLowering { s with pwr := { s.pwr with restartWanted := false, faultLow := true } } .stop =
      s.stopBegun.setEnables (lowered s.pwr.enables) :=
    (State.beginLowering_on .stop (s := { s with pwr := { s.pwr with restartWanted := false, faultLow := true } }) h).trans
      (State.lowerNext_on (s := s.stopBegun) hl)
  simp only [State.stopped, hbegin]
  exact if_neg Lowering.noConfusion

theorem State.stopped_off (h : s.pwr.enables ≠ 0) (hl : lowered s.pwr.enables = 0) :
    s.stopped = { s.stopBegun.setEnables 0 with regs := s.regs.resetRange 0x1000000 0x2000000 }.enteredOff := by
  have hbegin : State.beginLowering { s with pwr := { s.pwr with restartWanted := false, faultLow := true } } .stop =
      { s.stopBegun.setEnables 0 with regs := s.regs.resetRange 0x1000000 0x2000000 }.enteredOff :=
    (State.beginLowering_on .stop (s := { s with pwr := { s.pwr with restartWanted := false, faultLow := true } }) h).trans
      (State.lowerNext_stop (s := s.stopBegun) hl rfl)
  simp only [State.stopped, hbegin]
  exact if_pos rfl

/-- A stop with an enable high: the next one falls; with the last one the package is OFF. -/
theorem State.stopped_effect (h : s.pwr.enables ≠ 0) : OnlyStop s s.stopped ∧ s.stopped.pwr.enables = lowered s.pwr.enables ∧
    (lowered s.pwr.enables ≠ 0 → s.stopped.pwr.lowering = .stop ∧ s.stopped.pwr.state = s.pwr.state ∧ s.stopped.pwr.faultLow = true) ∧
    (lowered s.pwr.enables = 0 → s.stopped.pwr.lowering = .none ∧ s.stopped.pwr.state = .off) := by
  have hbegun : OnlyStop s s.stopBegun := rfl
  by_cases hl : lowered s.pwr.enables = 0
  · rw [State.stopped_off h hl]
    exact ⟨(hbegun.trans (s.stopBegun.setEnables_rails 0).stop).trans rfl, hl.symm, fun hn => absurd hl hn, fun _ => ⟨rfl, rfl⟩⟩
  · rw [State.stopped_falling h hl]
    exact ⟨hbegun.trans (s.stopBegun.setEnables_rails _).stop, rfl, fun _ => ⟨rfl, rfl, rfl⟩, fun hz => absurd hz hl⟩

/-- What a stop in progress or past does not do: run. -/
theorem State.not_running_of_stop (h : s.pwr.lowering = .stop ∨ s.pwr.state = .off) : s.running = false := by
  rcases h with h | h
  · simp [State.running, State.stopping, h]
  · simp [State.running, h]

end

/-- The state that an immediate stop leaves, before its enables fall. -/
def State.stopCut (s : State) (kind rail : Nat) : State :=
  { (s.stopClosed kind false rail s.frame).dieReset true with
    regs := (s.stopClosed kind false rail s.frame).regs.fogLatches.foldl
      (fun (r : RegFile) (e : Nat × Nat) => SMap.insert (SMap.erase r e.1) e.1 e.2) ((s.stopClosed kind false rail s.frame).dieReset true).regs }

theorem State.immediateStop_eq (s : State) (kind rail : Nat) : s.immediateStop kind rail = (s.stopCut kind rail).stopped := rfl

theorem State.stopCut_pwr (s : State) (kind rail : Nat) :
    (s.stopCut kind rail).pwr = { s.pwr with stopRec := ⟨kind, false, rail, s.frame, true⟩ }.dieReset true := by
  simp only [State.stopCut, State.dieReset_pwr, State.stopClosed_pwr]

/-- What an immediate stop leaves. -/
theorem State.immediateStop_effect (s : State) (kind rail : Nat) (h : s.pwr.enables ≠ 0) : ∃ t, s.immediateStop kind rail = t ∧
    t.running = false ∧ t.pwr.enables = lowered s.pwr.enables ∧
    (t.pwr.enables ≠ 0 → t.pwr.lowering = .stop ∧ t.pwr.state = s.pwr.state ∧ t.pwr.faultLow = true) ∧
    (t.pwr.enables = 0 → t.pwr.lowering = .none ∧ t.pwr.state = .off) ∧ t.pwr.stopRec = ⟨kind, false, rail, s.frame, true⟩ ∧
    t.mem = [] ∧ t.pwr.released = false ∧ t.descs = [] ∧ t.hzn = HznSt.init := by
  have hpwr := s.stopCut_pwr kind rail
  have hen : (s.stopCut kind rail).pwr.enables = s.pwr.enables := by rw [hpwr]; rfl
  have hstate : (s.stopCut kind rail).pwr.state = s.pwr.state := by rw [hpwr]; rfl
  have hrec := congrArg PwrSt.stopRec hpwr
  have hrel := congrArg PwrSt.released hpwr
  have hmem : (s.stopCut kind rail).mem = [] := rfl
  have hdescs : (s.stopCut kind rail).descs = [] := rfl
  have hhzn : (s.stopCut kind rail).hzn = HznSt.init := rfl
  rw [State.immediateStop_eq]
  generalize s.stopCut kind rail = w at *
  obtain ⟨honly, hfall, hon, hoff⟩ := State.stopped_effect (s := w) (hen ▸ h)
  rw [hen] at hfall hon hoff
  rw [hstate] at hon
  refine ⟨w.stopped, rfl, State.not_running_of_stop ?_, hfall, fun hne => hon (hfall ▸ hne), fun hz => hoff (hfall ▸ hz), ?_, ?_, ?_, ?_, ?_⟩
  · by_cases hz : lowered s.pwr.enables = 0
    · exact .inr (hoff hz).2
    · exact .inl (hon hz).1
  · exact (congrArg (fun u : State => u.pwr.stopRec) honly).trans hrec
  · exact (congrArg State.mem honly).trans hmem
  · exact (congrArg (fun u : State => u.pwr.released) honly).trans hrel
  · exact (congrArg State.descs honly).trans hdescs
  · exact (congrArg State.hzn honly).trans hhzn

/-! ### A rail lost, or in range unasked -/

section
variable {s : State} {rail : Fin 6} {mv : BitVec 16}

theorem exec_powerFault (hon : s.pwr.enables.getLsbD rail.val = true) (hgood : s.pwr.railGood.getLsbD rail.val = true) :
    exec (.powerFault rail mv) s = .next (s.railLost rail.val mv.toNat) :=
  congrArg Host.Outcome.next (if_neg (by simp only [hon, hgood, Bool.true_eq_false, or_self, not_false_iff]))

/-- The rail no longer counts as good. -/
def State.railBad (s : State) (rail : Nat) : State :=
  { s with pwr := { s.pwr with railGood := s.pwr.railGood &&& ~~~(BitVec.twoPow 6 rail) } }

theorem State.running_state (h : s.running = true) : s.stopping = false ∧ s.pwr.state ≠ .dawn := by
  simp only [State.running, Bool.and_eq_true, Bool.not_eq_true'] at h
  obtain ⟨hstop, hstate⟩ := h
  exact ⟨hstop, fun hdawn => by simp [hdawn] at hstate⟩

theorem State.dawning_state (h : s.dawning = true) : s.pwr.state = .dawn ∧ s.stopping = false := by
  simpa [State.dawning] using h

theorem State.railLost_running (h : s.running = true) (rail mv : Nat) :
    s.railLost rail mv = ((s.railBad rail).railFault rail mv).immediateStop 5 rail := by
  obtain ⟨hstop, hstate⟩ := State.running_state h
  exact (if_neg fun hn => Bool.false_ne_true (hstop.symm.trans hn)).trans ((if_neg hstate).trans (if_pos (Bool.or_eq_true_iff.2 (.inl h))))

theorem State.railLost_dawning (h : s.dawning = true) (rail mv : Nat) : s.railLost rail mv = (s.railBad rail).dawnFail 2 rail := by
  obtain ⟨hstate, hstop⟩ := State.dawning_state h
  exact (if_neg fun hn => Bool.false_ne_true (hstop.symm.trans hn)).trans (if_pos hstate)

theorem exec_railUnexpected_dawning (hin : s.pwr.vauxIn = true) (hoff : s.pwr.enables.getLsbD rail.val = false) (h : s.dawning = true) :
    exec (.railUnexpected rail mv) s = .next (s.dawnFail 3 rail.val) :=
  congrArg Host.Outcome.next ((if_neg (by rw [hin, hoff]; decide)).trans (if_pos h))

theorem exec_railUnexpected_later (hin : s.pwr.vauxIn = true) (hoff : s.pwr.enables.getLsbD rail.val = false) (h : s.dawning = false) :
    exec (.railUnexpected rail mv) s = .next (s.railFault rail.val mv.toNat) :=
  congrArg Host.Outcome.next ((if_neg (by rw [hin, hoff]; decide)).trans (if_neg (by rw [h]; decide)))

theorem exec_railFallTimeout (hin : s.pwr.vauxIn = true) (hoff : s.pwr.enables.getLsbD rail.val = false) (h : s.dawning = false) :
    exec (.railFallTimeout rail mv) s = .next { s.railFault rail.val mv.toNat with
      pwr := { (s.railFault rail.val mv.toNat).pwr with
        faultLow := decide ((s.railFault rail.val mv.toNat).pwr.lowering ≠ .none) || (s.railFault rail.val mv.toNat).pwr.faultLow } } :=
  congrArg Host.Outcome.next (if_neg (by rw [hin, hoff, h]; decide))

end

/-! ### VAUX loss (R142, R517, R522) -/

/-- The stop record of a package that was under way. -/
def State.vauxNoted (s : State) : State := if s.underWay then s.stopClosed 6 (s.pwr.state == .dusk) 0 s.frame else s

theorem State.vauxNoted_running {s : State} (h : s.running = true) : s.vauxNoted = s.stopClosed 6 false 0 s.frame := by
  have hdusk : (s.pwr.state == .dusk) = false := by
    cases hstate : s.pwr.state <;> simp [State.running, hstate] at h <;> rfl
  rw [State.vauxNoted, if_pos (by rw [State.underWay, h, Bool.true_or, Bool.true_or]), hdusk]

/-- The island sees the loss: erases end, and it is journalled. -/
def State.vauxSeen (s : State) : State := if s.islandUp then s.abandonErases.notePower 1 else s

/-- Every enable is gone, and the package is OFF. -/
def State.vauxCut (s : State) : State :=
  let t := s.puts [(R.ISL_CH_STAT_busy 0, 0), (R.ISL_CH_STAT_busy 1, 0)]
  { t with
    tapIsl := TapSt.init,
    pwr := { t.pwr with state := .off, vauxIn := false, attempt := 0, enables := 0, railGood := 0, lowering := .none,
                        restartWanted := false, faultLow := false },
    isl := { t.isl with mboxOrder := [], kept := [], linkLostAt := none,
                        commitDeferred := t.isl.commitDeferred || (t.islandUp && decide (budgetMs t.isl.vhold < 10)) } }

theorem exec_vauxLoss {s : State} (h : s.pwr.vauxIn = true) :
    exec .vauxLoss s = .next (s.vauxNoted.vauxSeen.dieReset true).vauxCut.fallBack := by
  show execVauxLoss s = _
  have hnote : (if s.underWay = true then (s.stopNote 6 (s.pwr.state == PkgState.dusk) 0 s.frame).closeBindings s.frame else s) =
      s.vauxNoted := rfl
  have hseen : (if s.vauxNoted.islandUp = true then s.vauxNoted.abandonErases.notePower 1 else s.vauxNoted) = s.vauxNoted.vauxSeen := rfl
  simp only [execVauxLoss, h, Bool.not_true, Bool.false_eq_true, if_false, hnote, hseen]
  generalize s.vauxNoted.vauxSeen.dieReset true = w
  rfl

theorem foldl_pwr {α : Type} (f : State → α → State) (h : ∀ u x, (f u x).pwr = u.pwr) (l : List α) (s : State) :
    (l.foldl f s).pwr = s.pwr := by
  induction l generalizing s with
  | nil => rfl
  | cons x l ih => exact (ih _).trans (h s x)

theorem State.flsShow_pwr (s : State) : s.flsShow.pwr = s.pwr := by
  unfold State.flsShow
  dsimp only
  split <;> rw [State.puts_pwr, State.put_pwr]

theorem State.flsLast_pwr (s : State) (cmd result : Nat) (bankB : Bool) (sector word : Nat) :
    (s.flsLast cmd result bankB sector word).pwr = s.pwr := s.puts_pwr _

theorem State.abandonErases_pwr (s : State) : s.abandonErases.pwr = s.pwr := by
  unfold State.abandonErases
  extract_lets ops s1 fls s2
  have h1 : s1.pwr = s.pwr := by
    refine foldl_pwr _ (fun u a => ?_) ops s
    split <;> rfl
  have h2 : s2.pwr = s.pwr := h1
  clear_value s2
  clear_value ops
  split
  · rfl
  · cases ops with
    | nil => exact h2
    | cons a ops => rw [State.flsShow_pwr, State.flsLast_pwr, State.put_pwr, h2]

theorem State.vauxSeen_pwr (s : State) : s.vauxSeen.pwr = s.pwr := by
  unfold State.vauxSeen
  split
  · exact ((s.abandonErases.notePower_only 1).pwr).trans s.abandonErases_pwr
  · rfl

theorem State.vauxCut_pwr (s : State) : s.vauxCut.pwr = { s.pwr with
    state := .off, vauxIn := false, attempt := 0, enables := 0, railGood := 0, lowering := .none, restartWanted := false,
    faultLow := false } := rfl

theorem State.vauxCut_mem (s : State) : s.vauxCut.mem = s.mem := rfl

/-- The island falls back to another supply, or loses all; the package's power and memory stay as they are. -/
theorem State.fallBack_keeps (s : State) : s.fallBack.pwr = s.pwr ∧ s.fallBack.mem = s.mem ∧ s.fallBack.isl.mode ≠ .aux := by
  unfold State.fallBack
  split_ifs with hcold
  · exact ⟨rfl, rfl, by rw [hcold]; decide⟩
  · exact ⟨rfl, rfl, IslMode.noConfusion⟩
  · exact ⟨rfl, rfl, IslMode.noConfusion⟩
  · exact ⟨rfl, rfl, IslMode.noConfusion⟩

/-! ### The enables fall (R137, R143) -/

section
variable {s : State}

theorem exec_enableFall_lowering (hon : s.pwr.enables ≠ 0) (hwhy : s.pwr.lowering ≠ .none) : exec .enableFall s = .next s.lowerNext :=
  congrArg Host.Outcome.next ((if_neg hon).trans (if_pos hwhy))

theorem exec_enableFall_overdue (hon : s.pwr.enables ≠ 0) (hnone : s.pwr.lowering = .none) (hlate : s.linkOverdue = true) :
    exec .enableFall s = .next s.islandLowers :=
  congrArg Host.Outcome.next ((if_neg hon).trans ((if_neg (not_not.2 hnone)).trans (if_pos hlate)))

/-- The last enable of a dusk: OFF, with the control die in reset and DRAM lost. -/
theorem State.lowerNext_dusk_pwr (h : lowered s.pwr.enables = 0) (hwhy : s.pwr.lowering = .dusk) : s.lowerNext.pwr =
    { (s.setEnables 0).pwr.dieReset true with state := .off, lowering := .none, faultLow := false } := by
  simp only [State.lowerNext_dusk h hwhy, State.enteredOff, State.dieReset_pwr]

theorem State.lowerNext_dusk_mem (h : lowered s.pwr.enables = 0) (hwhy : s.pwr.lowering = .dusk) : s.lowerNext.mem = [] := by
  simp only [State.lowerNext_dusk h hwhy, State.enteredOff, State.dieReset_mem_lost]

/-- With every enable high the DRAM pair falls first. -/
theorem State.beginLowering_full (why : Lowering) (h : s.pwr.enables = BitVec.allOnes 6) : s.beginLowering why = { s with
    pwr := { s.pwr with lowering := why, enables := 0b001111#6, railGood := s.pwr.railGood &&& 0b001111#6 } } := by
  have hon : s.pwr.enables ≠ 0 := by rw [h]; decide
  have hl : lowered s.pwr.enables = 0b001111#6 := by rw [h]; decide
  rw [State.beginLowering_on why hon, State.lowerNext_on (s := { s with pwr := { s.pwr with lowering := why } }) (by rw [hl]; decide)]
  exact (congrArg _ hl).trans (State.setEnables_linked _ (by decide))

/-- A dusk that goes on with the enables' fall. -/
def State.duskFalls (s : State) (x : Dusk) : State :=
  { s with isl := { s.isl with linkLostAt := none }, pwr := { s.pwr with dusk := some { x with phase := .falling } } }

theorem State.islandLowers_dusk {x : Dusk} (h : s.pwr.dusk = some x) : s.islandLowers = (s.duskFalls x).beginLowering .dusk := by
  simp only [State.islandLowers, h, State.duskFalls]

theorem State.islandLowers_stop (h : s.pwr.dusk = none) : s.islandLowers =
    (State.dieReset { s with isl := { s.isl with linkLostAt := none } } true).beginLowering .stop := by
  simp only [State.islandLowers, h]

end

/-- Settles O38: a lost rail is an immediate stop or a DAWN_FAIL, VAUX loss ends in `vauxCut`, and a fall is one `lowerNext`. -/
theorem powerFaults : Obligations.PowerFaults := by
  unfold Obligations.PowerFaults
  refine ⟨fun rail mv s hon hgood => ⟨fun hrun => ?_, fun hdawn => ?_⟩, fun rail mv s hin hoff =>
      ⟨fun hdawn => ?_, exec_railUnexpected_later hin hoff, fun hdawn => ⟨_, rfl, exec_railFallTimeout hin hoff hdawn⟩⟩,
    fun s hin => ?_, fun s hwhy => ⟨fun hon hl => ?_, fun h1 hstop => ?_, fun h1 hdusk => ?_⟩, fun s hnone hlate hfull => ?_⟩
  · have hne : s.pwr.enables ≠ 0 := fun h => by simp [h] at hon
    have hbad : OnlyRecords (s.railBad rail.val) ((s.railBad rail.val).railFault rail.val mv.toNat) := State.railFault_only ..
    have hpwr := hbad.pwr
    have hhzn := hbad.hzn
    have hen : ((s.railBad rail.val).railFault rail.val mv.toNat).pwr.enables = s.pwr.enables := by rw [hpwr]; rfl
    obtain ⟨t, ht, hidle, hfall, hmore, hlast, hrec, hmem, hrel, hdescs, hreset⟩ :=
      ((s.railBad rail.val).railFault rail.val mv.toNat).immediateStop_effect 5 rail.val (hen ▸ hne)
    refine ⟨t, ?_, hidle, ?_, ?_, hlast, ?_, hmem, hrel, hdescs, hreset⟩
    · rw [exec_powerFault hon hgood, State.railLost_running hrun, ht]
    · rw [hfall, hen]; rfl
    · rw [hpwr] at hmore; exact hmore
    · rw [hrec, State.frame, hhzn]; rfl
  · obtain ⟨hstate, hrec, hmem, -⟩ := (s.railBad rail.val).dawnFail_shows 2 rail.val
    exact ⟨_, (exec_powerFault hon hgood).trans (congrArg _ (State.railLost_dawning hdawn _ _)), hstate, hrec, hmem⟩
  · obtain ⟨hstate, hrec, -⟩ := s.dawnFail_shows 3 rail.val
    exact ⟨_, exec_railUnexpected_dawning hin hoff hdawn, hstate, hrec⟩
  · obtain ⟨hpwr, hmem, hmode⟩ := (s.vauxNoted.vauxSeen.dieReset true).vauxCut.fallBack_keeps
    rw [State.vauxCut_pwr, State.dieReset_pwr, State.vauxSeen_pwr] at hpwr
    refine ⟨_, exec_vauxLoss hin, ?_, ?_, ?_, ?_, ?_, ?_, hmode, fun hrun => ?_⟩
    · rw [hpwr]
    · rw [hpwr]
    · rw [hpwr]
    · rw [hpwr]
    · rw [hmem, State.vauxCut_mem, State.dieReset_mem_lost]
    · rw [hpwr]; rfl
    · have hnote : s.vauxNoted.pwr.stopRec = ⟨6, false, 0, s.hzn.frame, true⟩ := by
        rw [State.vauxNoted_running hrun, State.stopClosed_pwr]
        rfl
      rw [hpwr, ← hnote]
      rfl
  · rw [exec_enableFall_lowering hon hwhy, State.lowerNext_on hl]
    rfl
  · have hon : s.pwr.enables ≠ 0 := by rw [h1]; decide
    have hl : lowered s.pwr.enables = 0 := by rw [h1]; decide
    refine ⟨_, (exec_enableFall_lowering hon hwhy).trans (congrArg _ (State.lowerNext_stop hl hstop)), ?_, fun g hlo hhi => ?_,
      fun g hg => ?_, ?_⟩
    · show { s.pwr with enables := 0, railGood := s.pwr.railGood &&& 0#6, state := .off, lowering := .none, faultLow := false } = _
      rw [BitVec.and_zero]
      rfl
    · exact s.regs.get_resetRange_in _ _ g ⟨hlo, hhi⟩
    · exact s.regs.get_resetRange_out _ _ g (by omega)
    · rfl
  · have hon : s.pwr.enables ≠ 0 := by rw [h1]; decide
    have hl : lowered s.pwr.enables = 0 := by rw [h1]; decide
    have hpwr := State.lowerNext_dusk_pwr hl hdusk
    exact ⟨_, exec_enableFall_lowering hon hwhy, congrArg PwrSt.enables hpwr, congrArg PwrSt.state hpwr, congrArg PwrSt.lowering hpwr,
      State.lowerNext_dusk_mem hl hdusk, congrArg PwrSt.released hpwr⟩
  · have hon : s.pwr.enables ≠ 0 := by rw [hfull]; decide
    refine ⟨_, exec_enableFall_overdue hon hnone hlate, ?_⟩
    cases hdusk : s.pwr.dusk with
    | some x =>
      rw [State.islandLowers_dusk hdusk, State.beginLowering_full .dusk (s := State.duskFalls s x) hfull]
      refine ⟨rfl, rfl, fun y hy => ?_, nofun⟩
      rw [Option.some.inj hy]
      exact ⟨rfl, rfl, fun _ => rfl⟩
    | none =>
      have hpwr := State.dieReset_pwr { s with isl := { s.isl with linkLostAt := none } } true
      have hisl := State.dieReset_isl { s with isl := { s.isl with linkLostAt := none } } true
      have hmem := State.dieReset_mem_lost { s with isl := { s.isl with linkLostAt := none } }
      rw [State.islandLowers_stop hdusk]
      generalize State.dieReset { s with isl := { s.isl with linkLostAt := none } } true = w at hpwr hisl hmem ⊢
      rw [State.beginLowering_full .stop (by rw [hpwr]; exact hfull)]
      refine ⟨rfl, ?_, nofun, fun _ => ⟨rfl, hmem, ?_⟩⟩
      · exact congrArg IslSt.linkLostAt hisl
      · exact congrArg PwrSt.released hpwr

end Sys2Proof.Machine
end

section
/-!
PROOFS. Vectors that pend (R496), warm resets and CXL resets (R132, R133, R499, R501), and dusk (R134–R137, R143).
-/

namespace Sys2Proof.Machine

/-! ### Vectors that pend -/

theorem State.half_setHalf_same (s : State) (h : Fin 2) (x : HalfSt) : (s.setHalf h x).half h = x := Vector.getElem_set_self _

theorem State.half_setHalf_other (s : State) {h k : Fin 2} (x : HalfSt) (hk : k ≠ h) : (s.setHalf h x).half k = s.half k :=
  Vector.getElem_set_ne h.isLt k.isLt fun hv => hk (Fin.ext hv.symm)

/-- Each half is as it was, but for vectors that pend on it. -/
def OnlyPends (s t : State) : Prop := ∀ h : Fin 2, HalfIs h (s.half h) t

theorem OnlyPends.of_host {s t : State} (h : t.host = s.host) : OnlyPends s t := fun k => by
  rw [HalfIs, State.half, State.half, h]

theorem OnlyPends.trans {s t u : State} (h1 : OnlyPends s t) (h2 : OnlyPends t u) : OnlyPends s u := fun h => by
  have h1 := h1 h
  have h2 := h2 h
  unfold HalfIs at *
  rw [h2, h1]

theorem State.sendRaw_pends (s : State) (v : Nat) : OnlyPends s (s.sendRaw v).1 := by
  unfold State.sendRaw
  dsimp only
  split
  · exact .of_host rfl
  · intro h
    by_cases hh : h = s.route v
    · rw [HalfIs, hh, State.half_setHalf_same]
    · rw [HalfIs, State.half_setHalf_other _ _ hh]

theorem OnlyRegs.pends {s t : State} (h : OnlyRegs s t) : OnlyPends s t := .of_host (by rw [h])

theorem State.pmuOverflow_pends (s : State) : OnlyPends s s.pmuOverflow := by
  have hbit : OnlyPends s (s.setBit R.PMU_EVT 0) := (s.setBit_only R.PMU_EVT 0).pends
  unfold State.pmuOverflow
  dsimp only
  split_ifs
  · exact .of_host rfl
  · exact hbit.trans ((State.sendRaw_pends _ _).trans (State.pmuAdd_only _ _ _ _).pends)
  · exact hbit.trans (State.sendRaw_pends _ _)
  · exact hbit

theorem State.pmu_pends (s : State) (code : Nat) (ctx : Option Nat) (inc : Nat) : OnlyPends s (s.pmu code ctx inc) := by
  have hadd : OnlyPends s (s.pmuAdd code ctx inc).1 := (s.pmuAdd_only code ctx inc).pends
  unfold State.pmu
  dsimp only
  split
  · exact hadd.trans (State.pmuOverflow_pends _)
  · exact hadd

theorem State.send_pends (s : State) (v : Nat) : OnlyPends s (s.send v) := by
  unfold State.send
  dsimp only
  split
  · exact (s.sendRaw_pends v).trans (State.pmu_pends _ _ _ _)
  · exact s.sendRaw_pends v

theorem State.raise_pends (s : State) (evt en : Fld) (vec b : Nat) : OnlyPends s (s.raise evt en vec b) := by
  have hbit : OnlyPends s (s.setBit evt b) := (s.setBit_only evt b).pends
  unfold State.raise
  dsimp only
  split_ifs
  · exact .of_host rfl
  · exact hbit.trans (State.send_pends _ _)
  · exact hbit

theorem State.raiseHost_pends (s : State) (b : Nat) : OnlyPends s (s.raiseHost b) := s.raise_pends _ _ _ b

/-! ### Warm reset -/

/-- A command that puts one field. -/
theorem sets_of_put {c : Instr} {f : Fld} {v : Nat} {s : State} (hexec : exec c s = .next (s.put f v)) (hv : v < 2 ^ f.w) :
    Sets c f v s :=
  ⟨_, hexec, s.put_writes f v, (s.get_put_same f v).trans (Nat.mod_eq_of_lt hv)⟩

/-- What a warm reset keeps of the SEQ block (R366). -/
def patchFields : List Fld := [R.SEQ_PATCH_level, R.SEQ_PATCH_result, R.SEQ_PATCH_overlays, R.SEQ_PATCH_loaded]

theorem patchFields_puts_fst (r : RegFile) : (patchFields.map fun f => (f, r.get f)).map Prod.fst = patchFields := rfl

theorem patchFields_key : ∀ f ∈ patchFields, f.key < 32 * 0x100000 := by decide

/-- The registers of some state, reset but for those fields. -/
theorem State.warmStart_regs (s : State) (cxl : Bool) : ∃ u : State,
    (s.warmStart cxl).regs = u.regs.warm.puts (patchFields.map fun f => (f, u.regs.get f)) := by
  unfold State.warmStart
  extract_lets s0 p0 s1 s2 i2 s3 s4
  clear_value s4
  exact ⟨s4, rfl⟩

theorem State.warmStart_get (s : State) (cxl : Bool) (g : Fld) (hlo : 32 * 0x100000 ≤ g.key) (hhi : g.key < 32 * 0x240000) :
    (s.warmStart cxl).get g = g.rst := by
  obtain ⟨u, hu⟩ := s.warmStart_regs cxl
  have hother : ∀ f ∈ patchFields, g.key ≠ f.key := fun f hf hk => absurd (patchFields_key f hf) (by omega)
  rw [State.get, hu, RegFile.get_puts_other _ _ g (patchFields_puts_fst u.regs ▸ hother), RegFile.get_warm _ g hlo hhi]

theorem State.warmStart_seqs (s : State) (cxl : Bool) : ∃ qs : Vector SeqSt 16, (s.warmStart cxl).seqs = qs.map SeqSt.warm := ⟨_, rfl⟩

/-- Every sequencer is stopped, with no routine (R133). -/
theorem State.warmStart_seq (s : State) (cxl : Bool) (q : Fin 16) : ∃ x : SeqSt, (s.warmStart cxl).seqs[q] = x.warm := by
  obtain ⟨qs, hqs⟩ := s.warmStart_seqs cxl
  exact ⟨qs[q], by rw [hqs]; exact Vector.getElem_map ..⟩

theorem SeqSt.warm_mode (q : SeqSt) : q.warm.mode = .idle ∨ q.warm.mode = .halted := by
  unfold SeqSt.warm
  dsimp only
  split
  · exact .inr rfl
  · exact .inl rfl

theorem SeqSt.warm_routine (q : SeqSt) : q.warm.routine = none := rfl

section
variable {s : State} {key : BitVec 16}

theorem exec_warmReset (h : s.controlUp = true) : exec (.warmReset key) s = .next (s.warmRequest key.toNat) := congrArg _ (if_pos h)

theorem State.warmRequest_bad (h : key ≠ 0x5E7A#16) : s.warmRequest key.toNat = s.count R.PWR_STAT_bad_keys 1 :=
  if_pos fun hk => h (BitVec.eq_of_toNat_eq hk)

theorem State.warmRequest_runs (hrun : s.running = true) (hwarm : s.pwr.warm = false) : s.warmRequest 0x5E7A = s.warmStart false :=
  (if_neg (by decide)).trans (if_pos (by rw [hrun, hwarm]; rfl))

theorem State.warmRequest_ignored (h : s.running = false ∨ s.pwr.warm = true) :
    s.warmRequest 0x5E7A = s.put R.PWR_DUSK_STAT_warm_ignored 1 :=
  (if_neg (by decide)).trans (if_neg (by rcases h with h | h <;> simp [h]))

/-! ### A warm reset completes -/

/-- No warm reset is in progress, and no dusk is held. -/
def State.warmOver (s : State) : State := { s with pwr := { s.pwr with warm := false, cxlReset := false, heldDusk := none } }

theorem State.warmDone_free (h : s.pwr.heldDusk = none) : s.warmDone =
    if s.warmOver.working && !s.warmOver.anyHold then s.warmOver.put R.GEN_READY_compute_ready 1 else s.warmOver := by
  simp only [State.warmDone, h, State.warmOver]
  rfl

/-- The package's power, and registers, are all that a warm reset's completion reaches. -/
theorem State.warmDone_only (h : s.pwr.heldDusk = none) :
    Writes [R.GEN_READY_compute_ready] s.warmOver s.warmDone := by
  rw [State.warmDone_free h]
  split
  · exact s.warmOver.put_writes _ _
  · exact ⟨rfl, .refl _ _⟩

theorem State.warmDone_ready (h : s.pwr.heldDusk = none) (hwork : s.working = true) (hhold : s.get R.GEN_HOLD_CAUSE_causes = 0) :
    s.warmDone.get R.GEN_READY_compute_ready = 1 := by
  have hgo : (s.warmOver.working && !s.warmOver.anyHold) = true := by
    have hw : s.warmOver.working = true := hwork
    have hh : s.warmOver.get R.GEN_HOLD_CAUSE_causes = 0 := hhold
    rw [hw, State.anyHold, hh]
    rfl
  rw [State.warmDone_free h, if_pos hgo]
  exact State.get_put_same ..

theorem exec_warmResetDone (hwarm : s.pwr.warm = true) (hcxl : s.pwr.cxlReset = false) : exec .warmResetDone s = .next s.warmDone :=
  congrArg _ (if_pos (by rw [hwarm, hcxl]; rfl))

/-! ### CXL reset -/

/-- The half's CXL Reset Complete and Error bits. -/
def State.resetBits (s : State) (h : Fin 2) (complete error : Bool) : State :=
  s.setHalf h { s.half h with resetComplete := complete, resetError := error }

/-- A CXL reset noted, before the warm reset that it is (R501). -/
def State.cxlBegun (s : State) (h : Fin 2) : State :=
  { s with host := (s.resetBits h false false).sessionsEnd.host, pwr := { s.pwr with cxlMemClear := (s.half h).memClear, cxlHalf := h.val } }

section
variable {h : Fin 2} (hup : (s.half h).up = true) (hprot : (s.half h).protocol ≠ 0) (hcfg : s.get R.GEN_READY_cfg_ready = 1)
include hup hprot hcfg

theorem exec_cxlReset_refused (hno : s.running = false ∨ s.pwr.warm = true) : exec (.cxlReset h) s = .next (s.resetBits h false true) :=
  congrArg Host.Outcome.next ((if_neg (by simp [hup, hprot, hcfg])).trans (if_pos (by rcases hno with hno | hno <;> simp [hno])))

theorem exec_cxlReset_runs (hrun : s.running = true) (hwarm : s.pwr.warm = false) :
    exec (.cxlReset h) s = .next ((s.cxlBegun h).warmStart true) :=
  congrArg Host.Outcome.next ((if_neg (by simp [hup, hprot, hcfg])).trans (if_neg (by simp [hrun, hwarm])))

end

theorem State.cxlBegun_half (s : State) (h k : Fin 2) :
    (s.cxlBegun h).half k = { (s.resetBits h false false).half k with ideKeys := 0, ideActive := 0 } := Vector.getElem_map ..

/-- Where the CXL reset asked for it, the windows are cleared; its half reports completion (R499). -/
def State.cxlEnded (s : State) : State :=
  let u := if s.pwr.cxlMemClear then s.clearWindows else s
  let v := u.setHalf (halfOf s.pwr.cxlHalf) { u.half (halfOf s.pwr.cxlHalf) with resetComplete := true }
  { v with pwr := { v.pwr with cxlMemClear := false } }

theorem exec_cxlResetDone (hwarm : s.pwr.warm = true) (hcxl : s.pwr.cxlReset = true) :
    exec .cxlResetDone s = .next (s.cxlEnded.warmDone.raiseHost 9) :=
  congrArg Host.Outcome.next (if_neg (by simp [hwarm, hcxl]))

theorem State.cxlEnded_pwr (s : State) : s.cxlEnded.pwr = { s.pwr with cxlMemClear := false } := by
  unfold State.cxlEnded
  split <;> rfl

theorem State.cxlEnded_half (s : State) : (s.cxlEnded.half (halfOf s.pwr.cxlHalf)).resetComplete = true :=
  congrArg HalfSt.resetComplete (State.half_setHalf_same _ _ _)

theorem State.cxlEnded_mem_clear (hclear : s.pwr.cxlMemClear = true) : s.cxlEnded.mem = s.clearWindows.mem := by
  rw [State.cxlEnded, if_pos hclear]
  rfl

theorem State.cxlEnded_mem_kept (hkeep : s.pwr.cxlMemClear = false) : s.cxlEnded.mem = s.mem := by
  rw [State.cxlEnded, if_neg (by simp [hkeep])]
  rfl

/-! ### Dusk -/

theorem exec_duskRequest {restart : Bool} (h : s.controlUp = true) :
    exec (.duskRequest key restart) s = .next (s.duskRequest key.toNat restart) := congrArg _ (if_pos h)

theorem State.duskRequest_bad {restart : Bool} (h : key ≠ 0xD05C#16) : s.duskRequest key.toNat restart = s.count R.PWR_STAT_bad_keys 1 :=
  if_pos fun hk => h (BitVec.eq_of_toNat_eq hk)

theorem State.duskRequest_good {restart : Bool} : s.duskRequest 0xD05C restart = s.duskAsk .host restart := if_neg (by decide)

section
variable {source : DuskSource} {restart : Bool}

theorem State.duskAsk_idle (h : s.running = false) : s.duskAsk source restart = s.put R.PWR_DUSK_STAT_ignored 1 :=
  if_pos (by simp [h])

theorem State.duskAsk_accepted (hrun : s.running = true) (hwarm : s.pwr.warm = false) :
    s.duskAsk source restart = s.duskAccept source restart :=
  (if_neg (by simp [hrun])).trans (if_pos (by simp [hwarm]))

theorem State.duskAsk_held (hrun : s.running = true) (hwarm : s.pwr.warm = true) (hnone : s.pwr.heldDusk = none) :
    s.duskAsk source restart = { s with pwr := { s.pwr with heldDusk := some (source, restart) } } :=
  (if_neg (by simp [hrun])).trans ((if_neg (by simp [hwarm])).trans (if_pos (by simp [hnone])))

end

/-- DUSK entered, before the ports and the reports. -/
def State.duskEntered (s : State) (source : DuskSource) (restart : Bool) : State :=
  let u := s.fixDrop.put R.GEN_READY_compute_ready 0
  { u with pwr := { u.pwr with state := .dusk, dusk := some ⟨source, restart, u.frame, false, .quiesce⟩, restartWanted := restart,
                               faultLow := u.pwr.faultLow || source == DuskSource.thermal } }

theorem State.duskEntered_regs (s : State) (source : DuskSource) (restart : Bool) :
    (s.duskEntered source restart).regs = s.fixDrop.regs.put R.GEN_READY_compute_ready 0 := rfl

/-- A dusk reported to the host, the sideband and the logs (R135). -/
def State.duskReported (s : State) (kind : Nat) : State := (((s.alert 0).raiseHost 10).flogAdd 10 kind 0 none).logEvent 0 1 kind

theorem State.imgAbort_idle (h : s.img.load = none) : s.imgAbort = s := by
  simp only [State.imgAbort, State.imgAbortIn, h]

/-- From READY, with no load and with DARK ports, a dusk entered is reported. -/
theorem State.duskAccept_ready {source : DuskSource} {restart : Bool} (hstate : s.pwr.state = .ready) (hload : s.img.load = none)
    (hdark : ∀ n < 12, (s.port n).state = .dark) :
    s.duskAccept source restart = (s.duskEntered source restart).duskReported source.kind := by
  have hports : ∀ n < 12, ((s.duskEntered source restart).port n).state = .dark := fun n hn => by
    have hfab : s.fixDrop.fab = s.fab := by rw [s.fixDrop_only]
    have hport : (s.duskEntered source restart).port n = s.port n := by rw [State.port, State.port, ← hfab]; rfl
    rw [hport]
    exact hdark n hn
  have hdarkened := State.portsDark_dark hports
  unfold State.duskEntered at hdarkened
  simp only [State.duskAccept, State.leaveOvercast_ready hstate, State.imgAbort_idle hload, hdarkened]
  rfl

/-- The fields that the report of a dusk can reach. -/
def duskFields : List Fld := [R.HOST_SB_ALERT, R.HOST_EVT, R.GEN_FLOG_STAT_lost]

theorem State.duskReported_reports (s : State) (kind : Nat) : Reports duskFields s (s.duskReported kind) :=
  (((s.alert_reports 0 (by decide)).trans (State.raiseHost_reports _ 10 (by decide))).trans
    (State.flogAdd_reports _ _ _ _ _ (by decide))).trans (State.logEvent_reports _ _ _ _ _)

theorem State.duskReported_pwr (s : State) (kind : Nat) : (s.duskReported kind).pwr = s.pwr := by
  rw [State.duskReported, State.logEvent_pwr, State.flogAdd_pwr, State.raiseHost_pwr, State.alert_pwr]

theorem State.duskReported_bits (s : State) (kind : Nat) :
    BitSet (s.duskReported kind) R.HOST_EVT 10 ∧ BitSet (s.duskReported kind) R.HOST_SB_ALERT 0 := by
  have hlast : Reports [R.GEN_FLOG_STAT_lost] ((s.alert 0).raiseHost 10) (s.duskReported kind) :=
    (State.flogAdd_reports _ _ _ _ _ (by decide)).trans (State.logEvent_reports _ _ _ _ _)
  have hraise : Reports [R.HOST_EVT] (s.alert 0) ((s.alert 0).raiseHost 10) := State.raiseHost_reports _ 10 (by decide)
  constructor
  · rw [BitSet, hlast.get _ (by decide) (by decide)]
    exact State.raiseHost_bitSet _ 10 (by decide)
  · rw [BitSet, hlast.get _ (by decide) (by decide), hraise.get _ (by decide) (by decide)]
    exact State.alert_bitSet s 0 (by decide)

/-- The island link down, with its pulses stopped. -/
theorem State.linkLost_stop (h : s.isl.linkUp = true) : ({ s with isl := s.isl.linkDropped } : State).pulsesStop =
    { s with isl := { s.isl with linkUp := false, trimSpoilt := true },
             mtr := { s.mtr with openFrame := none, openEnergy := 0, ovhElec := s.mtr.ovhElec + s.mtr.openEnergy } } := by
  rw [IslSt.linkDropped, h, Bool.or_true]
  rfl

theorem exec_islandLinkLoss (h : s.isl.linkUp = true) : exec .islandLinkLoss s = .next s.linkLost := congrArg _ (if_pos h)

/-! ### The end of a dusk -/

/-- The quiesce ended, with or without overrun on record. -/
def State.quiesced (s : State) (x : Dusk) (overrun : Bool) : State :=
  { s.quiesceEnd x with pwr := { (s.quiesceEnd x).pwr with overrunRec := overrun } }

/-- The quiesce hands on to the commit (R136). -/
theorem State.quiesced_dusk (s : State) (x : Dusk) (overrun : Bool) : (s.quiesced x overrun).pwr.dusk = some { x with phase := .commit } :=
  rfl

section
variable {x : Dusk} (hdusk : s.pwr.dusk = some x) (hphase : x.phase = .quiesce)
include hdusk hphase

theorem exec_quiesceDone (hmark : x.markPassed = true) (hidle : s.quiesceBusy = false) :
    exec .quiesceDone s = .next (s.quiesced x false) := by
  show execQuiesceDone s = _
  simp only [execQuiesceDone, hdusk, hphase, hmark, hidle, and_self, if_true]
  rfl

theorem exec_quiesceDeadline (hlate : x.markPassed = false ∨ s.quiesceBusy = true) :
    exec .quiesceDeadline s = .next ((s.abandonWork.put R.PWR_DUSK_STAT_overrun 1).quiesced x true) := by
  have hno : ¬ (x.markPassed && !s.quiesceBusy) = true := by rcases hlate with h | h <;> simp [h]
  show execQuiesceDeadline s = _
  simp only [execQuiesceDeadline, hdusk, if_neg (not_not.2 hphase), if_neg hno]
  rfl

end

/-- Memory service ended, the host's halves down. -/
def State.duskServed (s : State) (x : Dusk) : State :=
  { (s.put R.GEN_READY_mem_active 0).hostIdle with pwr := { s.pwr with dusk := some { x with phase := .falling } } }

theorem exec_duskCommitDone {x : Dusk} (hdusk : s.pwr.dusk = some x) (hphase : x.phase = .commit) (hisl : s.islandUp = false) :
    exec .duskCommitDone s = .next ((s.duskServed x).beginLowering .dusk) := by
  show execDuskCommitDone s = _
  simp only [execDuskCommitDone, hdusk, hisl, Bool.false_and, Bool.false_eq_true, if_false, if_neg (not_not.2 hphase)]
  rfl

theorem State.duskServed_half (s : State) (x : Dusk) (h : Fin 2) : ((s.duskServed x).half h).up = false :=
  congrArg HalfSt.up (Vector.getElem_map ..)

end

/-- Settles O40: a request reaches `warmStart`, `duskAccept` or its mark, and what begins ends by `warmDone` or the quiesce and commit. -/
theorem resetsAndDusk : Obligations.ResetsAndDusk := by
  unfold Obligations.ResetsAndDusk
  refine ⟨fun key s hup => ⟨fun hkey => ?_, fun restart hkey => ?_⟩, fun s hup hrun hwarm => ?_, fun s hup hno => ?_,
    fun s hwarm hcxl hheld => ?_, fun h s hup hprot hcfg => ⟨fun hno => ?_, fun hrun hwarm => ?_⟩, fun s hwarm hcxl hheld => ?_,
    fun restart s hup => ⟨fun hrun => ?_, fun hrun hwarm hheld => ?_, fun hrun hwarm => ?_, fun hrun hstate hwarm hload hdark => ?_⟩,
    fun s hlink => ⟨fun hrun => ?_, fun hrun => ?_⟩, fun x s hdusk hphase => ⟨fun hmark hidle => ?_, fun hlate => ?_⟩,
    fun x s hdusk hphase hisl hfull => ?_⟩
  · rw [exec_warmReset hup, State.warmRequest_bad hkey]
  · rw [exec_duskRequest hup, State.duskRequest_bad hkey]
  · refine ⟨s.warmStart false, (exec_warmReset hup).trans (congrArg _ (State.warmRequest_runs hrun hwarm)), s.warmStart_get false, rfl, rfl,
      rfl, fun q => ?_, fun q => ?_⟩
    · obtain ⟨x, hx⟩ := s.warmStart_seq false q
      rw [hx]
      exact x.warm_mode
    · obtain ⟨x, hx⟩ := s.warmStart_seq false q
      rw [hx]
      exact x.warm_routine
  · exact sets_of_put ((exec_warmReset hup).trans (congrArg _ (State.warmRequest_ignored hno))) (by decide)
  · obtain ⟨honly, hfields⟩ := State.warmDone_only hheld
    refine ⟨_, exec_warmResetDone hwarm hcxl, congrArg State.pwr honly, hfields, State.warmDone_ready hheld, ?_⟩
    rw [honly]
    rfl
  · exact ⟨_, exec_cxlReset_refused hup hprot hcfg hno, rfl, fun k hk => State.half_setHalf_other s _ hk, State.half_setHalf_same s h _⟩
  · have hhalf := s.cxlBegun_half h
    refine ⟨s.cxlBegun h, exec_cxlReset_runs hup hprot hcfg hrun hwarm, rfl, fun k => ?_, ?_, rfl, rfl⟩
    · rw [hhalf k]
      exact ⟨rfl, rfl⟩
    · rw [hhalf h, State.resetBits, State.half_setHalf_same]
  · have hpwr := s.cxlEnded_pwr
    obtain ⟨honly, -⟩ := State.warmDone_only (s := s.cxlEnded) (by rw [hpwr]; exact hheld)
    have hmem : (s.cxlEnded.warmDone.raiseHost 9).mem = s.cxlEnded.mem := by rw [(State.raiseHost_only _ 9).mem, honly]; rfl
    have hhost : s.cxlEnded.warmDone.host = s.cxlEnded.host := by rw [honly]; rfl
    refine ⟨_, exec_cxlResetDone hwarm hcxl, ?_, ?_, ?_, State.raiseHost_bitSet _ 9 (by decide), fun hclear a ha => ?_, fun hkeep a => ?_⟩
    · rw [State.raiseHost_pwr, honly]; rfl
    · rw [State.raiseHost_pwr, honly]; rfl
    · rw [State.raiseHost_pends _ 9 (halfOf s.pwr.cxlHalf), State.half, hhost]
      exact s.cxlEnded_half
    · rw [hmem, State.cxlEnded_mem_clear hclear, State.clearWindows_mem, if_pos ha]
    · rw [hmem, State.cxlEnded_mem_kept hkeep]
  · exact sets_of_put ((exec_duskRequest hup).trans (congrArg _ (State.duskRequest_good.trans (State.duskAsk_idle hrun)))) (by decide)
  · exact (exec_duskRequest hup).trans (congrArg _ (State.duskRequest_good.trans (State.duskAsk_held hrun hwarm hheld)))
  · exact (exec_duskRequest hup).trans (congrArg _ (State.duskRequest_good.trans (State.duskAsk_accepted hrun hwarm)))
  · have hdrop := s.fixDrop_only
    have hpwr := (s.duskEntered .host restart).duskReported_pwr DuskSource.host.kind
    have hreports := (s.duskEntered .host restart).duskReported_reports DuskSource.host.kind
    obtain ⟨hevt, halert⟩ := (s.duskEntered .host restart).duskReported_bits DuskSource.host.kind
    refine ⟨_, (exec_duskRequest hup).trans (congrArg _ (State.duskRequest_good.trans ((State.duskAsk_accepted hrun hwarm).trans
      (State.duskAccept_ready hstate hload hdark)))), ?_, ?_, ?_, ?_, hevt, halert, fun a => ?_, ?_⟩
    · rw [hpwr]; rfl
    · rw [hpwr, State.duskEntered, hdrop]; rfl
    · rw [hpwr]; rfl
    · rw [hreports.get _ (by decide) (by decide), State.get, State.duskEntered_regs]
      exact s.fixDrop.regs.get_put_same R.GEN_READY_compute_ready 0
    · rw [hreports.mem, State.duskEntered, hdrop]; rfl
    · rw [hreports.2, State.duskEntered, hdrop]; rfl
  · rw [exec_islandLinkLoss hlink, State.linkLost, State.linkLost_stop hlink]
    exact congrArg _ (if_neg fun hgo => Bool.false_ne_true (hrun.symm.trans hgo))
  · rw [exec_islandLinkLoss hlink, State.linkLost, State.linkLost_stop hlink]
    exact congrArg _ (if_pos hrun)
  · exact ⟨_, exec_quiesceDone hdusk hphase hmark hidle, State.quiesced_dusk _ x _, rfl⟩
  · exact ⟨_, exec_quiesceDeadline hdusk hphase hlate, State.quiesced_dusk _ x _, rfl⟩
  · have hserved := s.duskServed_half x
    rw [exec_duskCommitDone hdusk hphase hisl, State.beginLowering_full .dusk (s := s.duskServed x) hfull]
    exact ⟨_, rfl, s.get_put_same R.GEN_READY_mem_active 0, hserved, rfl, rfl, rfl, fun a => rfl⟩

end Sys2Proof.Machine
end

section
/-!
PROOFS. Loss and return of HREFCLK and of PLL lock (R145, R151, R153–R155, R170).
-/

namespace Sys2Proof.Machine

/-! ### A clock event (R498, R656) -/

/-- The listed fields may change, and else only what vectors, event counts and log entries change. -/
def Logs (l : List Fld) (s t : State) : Prop :=
  FieldsButPmu l s t ∧ t = { s with regs := t.regs, out := t.out, host := t.host, flog := t.flog, flogSeq := t.flogSeq }

theorem Logs.refl (l : List Fld) (s : State) : Logs l s s := ⟨FieldsButPmu.rfl' l s, rfl⟩

theorem Logs.trans {l : List Fld} {s t u : State} (h1 : Logs l s t) (h2 : Logs l t u) : Logs l s u :=
  ⟨h1.1.trans h2.1, by rw [h2.2, h1.2]⟩

theorem Logs.clk {l : List Fld} {s t : State} (h : Logs l s t) : t.clk = s.clk := by rw [h.2]

theorem Logs.pwr {l : List Fld} {s t : State} (h : Logs l s t) : t.pwr = s.pwr := by rw [h.2]

/-- A report that leaves the package's power state. -/
theorem Reports.logs {l : List Fld} {s t : State} (h : Reports l s t) (hpwr : t.pwr = s.pwr) : Logs l s t :=
  ⟨h.1, by rw [h.2, hpwr]⟩

theorem State.count_logs (s : State) (f : Fld) (n : Nat) {l : List Fld} (hf : f ∈ l) : Logs l s (s.count f n) :=
  ⟨s.put_fields f _ l hf, rfl⟩

theorem State.flogAdd_logs (s : State) (source code detail : Nat) (ctx : Option Nat) {l : List Fld} (hl : R.GEN_FLOG_STAT_lost ∈ l) :
    Logs l s (s.flogAdd source code detail ctx) :=
  (s.flogAdd_reports source code detail ctx hl).logs (s.flogAdd_pwr source code detail ctx)

theorem State.raiseClk_logs (s : State) (b : Nat) {l : List Fld} (hevt : R.CLK_EVT ∈ l) (hlost : R.GEN_FLOG_STAT_lost ∈ l) :
    Logs l s (s.raiseClk b) := by
  unfold State.raiseClk
  split
  · exact .refl l s
  · have hraise : Signals l s (s.raise R.CLK_EVT R.CLK_IRQ_EN (s.get R.HOST_IRQ_MAP0_clk) b) :=
      ⟨s.raise_only _ _ _ b, s.raise_fields _ _ _ b l hevt⟩
    exact (hraise.reports.logs hraise.1.pwr).trans (State.flogAdd_logs _ _ _ _ _ hlost)

theorem State.raiseClk_bitSet (s : State) (b : Nat) (hb : b < 7) : BitSet (s.raiseClk b) R.CLK_EVT b := by
  unfold State.raiseClk
  split
  case isTrue hset => exact hset
  case isFalse =>
    have hlog := (s.raise R.CLK_EVT R.CLK_IRQ_EN (s.get R.HOST_IRQ_MAP0_clk) b).flogAdd_logs 7 b 0 none (List.mem_singleton_self _)
    rw [BitSet, hlog.1 _ (by decide) (by decide), State.raise_bit _ _ _ _ _ _ (by decide) hb, BEq.rfl, Bool.or_true]

theorem State.countEvent_logs (s : State) (f : Fld) (b : Nat) :
    Logs [f, R.CLK_EVT, R.GEN_FLOG_STAT_lost] s ((s.count f 1).raiseClk b) :=
  (s.count_logs f 1 (by simp)).trans (State.raiseClk_logs _ b (by simp) (by simp))

/-- A clock event leaves the counter that moved with it. -/
theorem State.countEvent_get (s : State) (f : Fld) (b : Nat) (hp : ¬ inPmu f)
    (hf : ∀ g ∈ [R.CLK_EVT, R.GEN_FLOG_STAT_lost], f.key ≠ g.key) :
    ((s.count f 1).raiseClk b).get f = satAdd f.w (s.get f) 1 := by
  have hlogs : Logs [R.CLK_EVT, R.GEN_FLOG_STAT_lost] (s.count f 1) ((s.count f 1).raiseClk b) :=
    State.raiseClk_logs _ b (by decide) (by decide)
  rw [hlogs.1 f hp hf, State.get_count_same]

/-- The clocks become `c` and bit `b` of CLK_EVT is set; else only the listed fields and what vectors, event counts and log entries
change. -/
def ClockEvent (l : List Fld) (c : ClkSt) (b : Nat) (s t : State) : Prop :=
  t.clk = c ∧ BitSet t R.CLK_EVT b ∧ FieldsButPmu l s t ∧
    t = { s with regs := t.regs, out := t.out, host := t.host, clk := t.clk, flog := t.flog, flogSeq := t.flogSeq }

/-- New clocks, and then an event raised. -/
theorem State.raiseClk_clockEvent (s : State) (c : ClkSt) (b : Nat) (hb : b < 7) :
    ClockEvent [R.CLK_EVT, R.GEN_FLOG_STAT_lost] c b s (State.raiseClk { s with clk := c } b) := by
  have hlogs : Logs [R.CLK_EVT, R.GEN_FLOG_STAT_lost] { s with clk := c } (State.raiseClk { s with clk := c } b) :=
    State.raiseClk_logs _ b (by decide) (by decide)
  exact ⟨hlogs.clk, State.raiseClk_bitSet _ b hb, hlogs.1, by rw [hlogs.2]⟩

/-! ### HREFCLK -/

/-- The reference absent or present. -/
def State.setRef (s : State) (p : Bool) : State := { s with clk := { s.clk with refPresent := p } }

/-- The loss counted, with its event (R151). -/
def State.refLost (s : State) : State := ((s.setRef false).count R.CLK_CNT_ref_losses 1).raiseClk 0

theorem exec_hrefclkLoss_down {s : State} (hpresent : s.clk.refPresent = true) (hdown : s.controlUp = false) :
    exec .hrefclkLoss s = .next (s.setRef false) := by
  have hdown' : (!(s.setRef false).controlUp) = true := congrArg not hdown
  show execHrefclkLoss s = _
  rw [execHrefclkLoss, hpresent]
  exact congrArg _ ((if_neg Bool.false_ne_true).trans (if_pos hdown'))

/-- PLLs 0 to 4 have lost the reference too, and 5 in BENCH (R151). -/
theorem exec_hrefclkLoss_up {s : State} (hpresent : s.clk.refPresent = true) (hup : s.controlUp = true) (hdawn : s.dawnPastPlls = false) :
    exec .hrefclkLoss s = .next (let w := [0, 1, 2, 3, 4].foldl State.pllDown s.refLost; if w.isBench then w.pllDown 5 else w) := by
  have hup' : (s.setRef false).controlUp = true := hup
  have hdawn' : s.refLost.dawnPastPlls = false := by
    have hpwr : s.refLost.pwr = s.pwr := ((s.setRef false).countEvent_logs R.CLK_CNT_ref_losses 0).pwr
    rw [State.dawnPastPlls, hpwr]
    exact hdawn
  show execHrefclkLoss s = _
  rw [execHrefclkLoss, hpresent]
  refine congrArg _ ((if_neg Bool.false_ne_true).trans ((if_neg ?_).trans (if_neg ?_)))
  · rw [Bool.not_eq_true', Bool.not_eq_false]; exact hup'
  · rw [Bool.not_eq_true]; exact hdawn'

theorem exec_hrefclkRestore {s : State} (habsent : s.clk.refPresent = false) (hup : s.controlUp = true) :
    exec .hrefclkRestore s = .next ((s.setRef true).raiseClk 1) := by
  have hup' : (s.setRef true).controlUp = true := hup
  show execHrefclkRestore s = _
  rw [execHrefclkRestore, habsent]
  exact congrArg _ ((if_neg Bool.false_ne_true).trans (if_pos hup'))

/-! ### The effect of a lost lock (R151–R153) -/

/-- PLL `n`'s lock cleared. -/
def State.pllUnlocked (s : State) (n : Nat) : State := { s with clk := { s.clk with locked := s.clk.locked &&& ~~~(BitVec.twoPow 8 n) } }

theorem exec_pllUnlock {s : State} {pll : Fin 8} (hup : s.controlUp = true) (hdawn : s.dawnPastPlls = false)
    (hlocked : s.clk.locked.getLsbD pll.val = true) (hpll : pll.val ≠ 5) :
    exec (.pllUnlock pll) s = .next ((s.pllUnlocked pll.val).pllEffect pll.val) := by
  show execPllUnlock pll s = _
  simp only [execPllUnlock, State.pllDown, hup, hdawn, hlocked, hpll, Bool.not_true, Bool.or_self, Bool.false_and, Bool.false_eq_true,
    if_false]
  rfl

theorem State.pllEffect_fabric (s : State) {n : Nat} (hn : 5 ≤ n) : s.pllEffect n = (s.raiseClk 5).fabCheck :=
  match n, hn with
  | _ + 5, _ => rfl

/-! The host links (R500). -/

theorem State.flogAdd_host (s : State) (source code detail : Nat) (ctx : Option Nat) :
    (s.flogAdd source code detail ctx).host = s.host := by
  unfold State.flogAdd
  dsimp only
  split <;> rfl

/-- Vectors that pend leave the link's state. -/
theorem OnlyPends.up {s t : State} (h : OnlyPends s t) (k : Fin 2) : (t.half k).up = (s.half k).up := by
  rw [h k]

theorem State.linkDown_logs (s : State) (h : Fin 2) : Logs [R.HOST_EVT, R.GEN_FLOG_STAT_lost] s (s.linkDown h) := by
  unfold State.linkDown
  split
  · have hhot : Logs [R.HOST_EVT, R.GEN_FLOG_STAT_lost] s (s.halfHot h) := ⟨fun _ _ _ => rfl, rfl⟩
    have hevt : Logs [R.HOST_EVT, R.GEN_FLOG_STAT_lost] (s.halfHot h) ((s.halfHot h).raiseHost (2 * h.val)) :=
      (State.raiseHost_reports _ _ (by decide)).logs (State.raiseHost_pwr _ _)
    exact (hhot.trans hevt).trans (State.flogAdd_logs _ _ _ _ _ (by decide))
  · exact .refl _ s

/-- A link that is up leaves its half as after a hot reset, whose link is down. -/
theorem State.linkDown_pends {s : State} {h : Fin 2} (hup : (s.half h).up = true) : OnlyPends (s.halfHot h) (s.linkDown h) := by
  rw [State.linkDown, if_pos hup]
  exact (State.raiseHost_pends _ _).trans (.of_host (State.flogAdd_host _ _ _ _ _))

theorem State.linkDown_same (s : State) (h : Fin 2) : ((s.linkDown h).half h).up = false := by
  cases hup : (s.half h).up
  · rw [State.linkDown, if_neg (by simp [hup]), hup]
  · rw [(State.linkDown_pends hup).up h]
    exact congrArg HalfSt.up (s.half_setHalf_same h (s.half h).hot)

theorem State.linkDown_other (s : State) {h k : Fin 2} (hk : k ≠ h) : ((s.linkDown h).half k).up = (s.half k).up := by
  cases hup : (s.half h).up
  · rw [State.linkDown, if_neg (by simp [hup])]
  · rw [(State.linkDown_pends hup).up k]
    exact congrArg HalfSt.up (s.half_setHalf_other (s.half h).hot hk)

/-! ### The effect of a lock (R154), and an attempt that fails (R170) -/

/-- PLL `n`'s lock set. -/
def State.pllLocked (s : State) (n : Nat) : State := { s with clk := { s.clk with locked := s.clk.locked ||| BitVec.twoPow 8 n } }

theorem exec_pllLock {s : State} {pll : Fin 8} (hup : s.controlUp = true) (hunlocked : s.clk.locked.getLsbD pll.val = false)
    (hstarted : s.clk.started.getLsbD pll.val = true) (href : s.pllRef pll.val = true) (hpll : pll.val ≠ 5) :
    exec (.pllLock pll) s = .next ((s.pllLocked pll.val).pllReturn pll.val) := by
  show execPllLock pll s = _
  simp only [execPllLock, hup, hunlocked, hstarted, href, hpll, Bool.not_true, Bool.or_self, Bool.false_eq_true, if_false]
  rfl

theorem State.pllReturn_idle (s : State) {n : Nat} (hn : 4 ≤ n) : s.pllReturn n = s :=
  match n, hn with
  | _ + 4, _ => rfl

theorem exec_relockAttempt {s : State} {pll : Fin 8} (hup : s.controlUp = true) (hrun : s.running = true)
    (hunlocked : s.clk.locked.getLsbD pll.val = false) (hstarted : s.clk.started.getLsbD pll.val = true)
    (href : s.pllRef pll.val = true) (hbench : pll.val = 5 → s.isBench = true) :
    exec (.relockAttempt pll) s = .next ((s.count R.CLK_CNT_relock_fails 1).raiseClk 4) := by
  have hdawn : (s.pwr.state == .dawn) = false := by simpa using (State.running_state hrun).2
  have hhorizon : (pll.val == 5 && !s.isBench) = false := by
    by_cases h : pll.val = 5
    · simp [hbench h]
    · simp [h]
  show execRelockAttempt pll s = _
  simp only [execRelockAttempt, hup, hdawn, hunlocked, hstarted, href, hhorizon, Bool.not_true, Bool.or_self, Bool.false_eq_true, if_false]

/-- Settles O33: each command reaches its PLL's `pllEffect` or `pllReturn`, or the event `raiseClk` records. -/
theorem clockLosses : Obligations.ClockLosses := by
  unfold Obligations.ClockLosses
  refine ⟨fun s hpresent hdown => exec_hrefclkLoss_down hpresent hdown, fun s hpresent hup hdawn => ?_, fun s habsent hup => ?_,
    fun pll s hup hdawn hlocked => ?_, fun pll s hup hunlocked hstarted href => ?_,
    fun pll s hup hrun hunlocked hstarted href hbench => ?_⟩
  · have hlogs : Logs _ (s.setRef false) s.refLost := State.countEvent_logs _ R.CLK_CNT_ref_losses 0
    exact ⟨s.refLost, exec_hrefclkLoss_up hpresent hup hdawn, hlogs.clk, State.raiseClk_bitSet _ 0 (by decide),
      State.countEvent_get _ _ 0 (by decide) (by decide), hlogs.1, by rw [hlogs.2]; rfl⟩
  · exact ⟨_, exec_hrefclkRestore habsent hup, s.raiseClk_clockEvent _ 1 (by decide)⟩
  · have hexec := exec_pllUnlock hup hdawn hlocked
    refine ⟨?_, ?_, ?_, ?_, ?_, fun hfab => ?_⟩
    · rintro rfl
      exact ⟨_, hexec (by decide), s.raiseClk_clockEvent _ 2 (by decide)⟩
    · rintro rfl
      exact ⟨_, hexec (by decide), s.raiseClk_clockEvent _ 3 (by decide)⟩
    · rintro rfl
      exact hexec (by decide)
    · rintro rfl
      exact hexec (by decide)
    · rintro rfl
      have hlogs := ((s.pllUnlocked 4).linkDown_logs 0).trans (State.linkDown_logs _ 1)
      refine ⟨((s.pllUnlocked 4).linkDown 0).linkDown 1, hexec (by decide), hlogs.clk, ?_, State.linkDown_same _ 1, hlogs.1,
        by rw [hlogs.2]; rfl⟩
      exact (State.linkDown_other _ (by decide)).trans (State.linkDown_same _ 0)
    · refine ⟨_, ?_, s.raiseClk_clockEvent _ 5 (by decide)⟩
      rw [hexec (by omega), State.pllEffect_fabric _ (by omega)]
      rfl
  · have hexec := exec_pllLock hup hunlocked hstarted href
    refine ⟨?_, ?_, ?_, ?_, fun hother => ?_⟩
    · rintro rfl
      exact hexec (by decide)
    · rintro rfl
      exact hexec (by decide)
    · rintro rfl
      exact hexec (by decide)
    · rintro rfl
      exact hexec (by decide)
    · have hge : 4 ≤ pll.val ∧ pll.val ≠ 5 := by
        rcases hother with rfl | h
        · decide
        · omega
      rw [hexec hge.2, State.pllReturn_idle _ hge.1]
      rfl
  · exact ⟨_, exec_relockAttempt hup hrun hunlocked hstarted href hbench, State.raiseClk_bitSet _ 4 (by decide),
      s.countEvent_get _ 4 (by decide) (by decide), s.countEvent_logs R.CLK_CNT_relock_fails 4⟩

end Sys2Proof.Machine
end

section
/-!
PROOFS. Clock gating (R156–R158) and CLKOBS (R161–R163).
-/

namespace Sys2Proof.Machine

/-! ### Gating -/

/-- Outside DAWN a request waits for its mark (R157). -/
theorem State.gateDawn_later {s : State} (h : s.pwr.state ≠ .dawn) : s.gateDawn = s := if_neg fun hd => h hd.1

theorem exec_clkGateRequest {b : Fin 15} {s : State} (hup : s.controlUp = true) : exec (.clkGateRequest b) s = .next (s.gateRequest b.val) :=
  congrArg _ (if_pos hup)

theorem exec_clkUngate {b : Fin 15} {s : State} (hup : s.controlUp = true) : exec (.clkUngate b) s = .next (s.ungate b.val) :=
  congrArg _ (if_pos hup)

theorem exec_clkUngateDone {b : Fin 15} {s : State} (hup : s.controlUp = true) : exec (.clkUngateDone b) s = .next (s.ungateDone b.val) :=
  congrArg _ (if_pos hup)

theorem State.gateRequest_fixed {s : State} {n : Nat} (h : gateable n = false) : s.gateRequest n = s := by
  rw [State.gateRequest, h]; rfl

theorem State.ungate_fixed {s : State} {n : Nat} (h : gateable n = false) : s.ungate n = s := by
  rw [State.ungate, h]; rfl

/-- A request that waits for a frame mark. -/
def State.gateWaits (s : State) (n : Nat) : State :=
  { s.clrBit R.CLK_GATE_en n with clk := { s.clk with gatePending := s.clk.gatePending ||| BitVec.twoPow 15 n } }

theorem State.gateRequest_waits {s : State} {n : Nat} (hdawn : s.pwr.state ≠ .dawn) (hgate : gateable n = true)
    (hungating : s.clk.ungating.getLsbD n = false) (hgated : s.clk.gated.getLsbD n = false) : s.gateRequest n = s.gateWaits n := by
  have hungating' : (s.clrBit R.CLK_GATE_en n).clk.ungating.getLsbD n = false := hungating
  have hgated' : (s.clrBit R.CLK_GATE_en n).clk.gated.getLsbD n = false := hgated
  have hlater : (s.gateWaits n).gateDawn = s.gateWaits n := State.gateDawn_later hdawn
  simp only [State.gateRequest, hgate, hungating', hgated', Bool.not_true, Bool.false_eq_true, if_false]
  exact hlater

/-- The ungating of a block, with what waited for it cancelled. -/
def State.ungateBegun (s : State) (n : Nat) : State :=
  { s.setBit R.CLK_GATE_en n with clk := { s.clk with
      gatePending := s.clk.gatePending &&& ~~~(BitVec.twoPow 15 n), gateAfter := s.clk.gateAfter &&& ~~~(BitVec.twoPow 15 n),
      ungating := if s.clk.gated.getLsbD n then s.clk.ungating ||| BitVec.twoPow 15 n else s.clk.ungating } }

theorem State.ungate_begins {s : State} {n : Nat} (hgate : gateable n = true) : s.ungate n = s.ungateBegun n := by
  rw [State.ungate, hgate]; rfl

/-- The clock of the block runs; a request made meanwhile waits. -/
def State.ungated (s : State) (n : Nat) : State :=
  { s with clk := { s.clk with
      gated := s.clk.gated &&& ~~~(BitVec.twoPow 15 n), ungating := s.clk.ungating &&& ~~~(BitVec.twoPow 15 n),
      gateAfter := s.clk.gateAfter &&& ~~~(BitVec.twoPow 15 n),
      gatePending := s.clk.gatePending ||| (s.clk.gateAfter &&& BitVec.twoPow 15 n) } }

theorem State.ungateDone_ungated {s : State} {n : Nat} (hdawn : s.pwr.state ≠ .dawn) (hungating : s.clk.ungating.getLsbD n = true) :
    s.ungateDone n = s.ungated n := by
  have hlater : (s.ungated n).gateDawn = s.ungated n := State.gateDawn_later hdawn
  rw [State.ungateDone, hungating]
  exact hlater

/-! One bit of a mask of blocks set, cleared, and picked out. -/

theorem getLsbD_or_twoPow_self {w : Nat} (x : BitVec w) {n : Nat} (hn : n < w) : (x ||| BitVec.twoPow w n).getLsbD n = true := by
  simp [hn]

theorem getLsbD_and_not_twoPow_self {w : Nat} (x : BitVec w) (n : Nat) : (x &&& ~~~(BitVec.twoPow w n)).getLsbD n = false := by
  rw [BitVec.getLsbD_and, BitVec.getLsbD_not, BitVec.getLsbD_twoPow]
  simp

theorem getLsbD_and_twoPow_self {w : Nat} (x : BitVec w) {n : Nat} (hn : n < w) : (x &&& BitVec.twoPow w n).getLsbD n = x.getLsbD n := by
  simp [hn]

/-! ### CLKOBS -/

theorem exec_clkobsSelect {v : Word} {s : State} (hup : s.controlUp = true) : exec (.clkobsSelect v) s = .next (s.obsWrite v.toNat) :=
  congrArg _ (if_pos hup)

theorem State.obsWrite_rejected {s : State} {w : Nat} (h : 13 ≤ bits w 0 5 ∨ 200000 * (bits w 16 10 + 1) < obsFreq (bits w 0 5)) :
    s.obsWrite w = s.raiseClk 6 := if_pos h

/-- The fields of CLK_OBS. -/
def obsFields : List Fld := [R.CLK_OBS_src, R.CLK_OBS_en, R.CLK_OBS_div]

/-- What a word writes into them. -/
def obsPuts (w : Nat) : List (Fld × Nat) := [(R.CLK_OBS_src, bits w 0 5), (R.CLK_OBS_en, bits w 5 1), (R.CLK_OBS_div, bits w 16 10)]

/-- The word names another source or divider than CLK_OBS holds. -/
abbrev State.obsChanges (s : State) (w : Nat) : Prop := bits w 0 5 ≠ s.get R.CLK_OBS_src ∨ bits w 16 10 ≠ s.get R.CLK_OBS_div

/-- CLK_OBS written; the output is held low on a change (R163). -/
def State.obsTaken (s : State) (w hold : Nat) : State :=
  { s with regs := s.regs.puts (obsPuts w), clk := { s.clk with obsHold := hold } }

theorem State.obsWrite_changed {s : State} {w : Nat} (hsrc : bits w 0 5 < 13) (hfreq : obsFreq (bits w 0 5) ≤ 200000 * (bits w 16 10 + 1))
    (h : s.obsChanges w) : s.obsWrite w = s.obsTaken w 3 := by
  rw [State.obsWrite, if_neg (by omega), s.puts_eq]
  exact if_pos (decide_eq_true h)

theorem State.obsWrite_same {s : State} {w : Nat} (hsrc : bits w 0 5 < 13) (hfreq : obsFreq (bits w 0 5) ≤ 200000 * (bits w 16 10 + 1))
    (h : ¬ s.obsChanges w) : s.obsWrite w = s.obsTaken w s.clk.obsHold := by
  rw [State.obsWrite, if_neg (by omega), s.puts_eq]
  exact if_neg fun hd => h (of_decide_eq_true hd)

theorem State.obsTaken_get (s : State) (w hold : Nat) {p : Fld × Nat} (hp : p ∈ obsPuts w) :
    (s.obsTaken w hold).get p.1 = p.2 % 2 ^ p.1.w :=
  s.regs.get_puts_mem (obsPuts w) (show (obsFields.map Fld.key).Nodup by decide) hp

/-- The fields of CLK_OBS take their bits of the word. -/
theorem State.obsTaken_fields (s : State) (w hold : Nat) : (s.obsTaken w hold).get R.CLK_OBS_src = bits w 0 5 ∧
    (s.obsTaken w hold).get R.CLK_OBS_en = bits w 5 1 ∧ (s.obsTaken w hold).get R.CLK_OBS_div = bits w 16 10 :=
  ⟨(s.obsTaken_get w hold (List.mem_cons_self ..)).trans (Nat.mod_mod _ _),
    (s.obsTaken_get w hold (p := (R.CLK_OBS_en, bits w 5 1)) (by simp [obsPuts])).trans (Nat.mod_mod _ _),
    (s.obsTaken_get w hold (p := (R.CLK_OBS_div, bits w 16 10)) (by simp [obsPuts])).trans (Nat.mod_mod _ _)⟩

theorem State.obsTaken_fieldsBut (s : State) (w hold : Nat) : FieldsBut obsFields s (s.obsTaken w hold) :=
  fun g hg => s.regs.get_puts_other (obsPuts w) g hg

theorem State.obsTaken_only (s : State) (w hold : Nat) : s.obsTaken w hold =
    { s with regs := (s.obsTaken w hold).regs, clk := { s.clk with obsHold := (s.obsTaken w hold).clk.obsHold } } := rfl

/-- Settles O34: a request in a running package reaches `gateWaits`, `ungateBegun` or `ungated`; a word for CLK_OBS is refused or taken. -/
theorem clockGating : Obligations.ClockGating := by
  unfold Obligations.ClockGating
  refine ⟨fun b s hup hfixed => ⟨?_, ?_⟩, fun b s hup hrun hgate => ⟨fun hungating hgated => ?_, ?_⟩, fun b s hup hrun hungating => ?_,
    fun v s hup => ⟨fun hbad => ?_, fun hsrc hfreq => ?_⟩⟩
  · rw [exec_clkGateRequest hup, State.gateRequest_fixed hfixed]
  · rw [exec_clkUngate hup, State.ungate_fixed hfixed]
  · have hbit : ∀ k : Fin 15, bitAt ((s.gateWaits b).get R.CLK_GATE_en) k = (bitAt (s.get R.CLK_GATE_en) k && !k.val == b.val) :=
      fun k => s.clrBit_bit _ b k k.isLt
    have hwaits : s.gateRequest b = s.gateWaits b :=
      State.gateRequest_waits (State.running_state hrun).2 hgate hungating hgated
    refine ⟨s.gateWaits b, (exec_clkGateRequest hup).trans (congrArg _ hwaits), ?_, rfl, fun k hk => ?_, (s.put_writes _ _).2, rfl⟩
    · rw [hbit b, BEq.rfl, Bool.not_true, Bool.and_false]
    · rw [hbit k, beq_false_of_ne (fun h => hk (Fin.ext h)), Bool.not_false, Bool.and_true]
  · refine ⟨s.ungateBegun b, (exec_clkUngate hup).trans (congrArg _ (State.ungate_begins hgate)), ?_, getLsbD_and_not_twoPow_self _ _,
      getLsbD_and_not_twoPow_self _ _, rfl, fun hgated => ?_, (s.put_writes _ _).2, rfl⟩
    · refine (s.setBit_bit R.CLK_GATE_en b b b.isLt).trans ?_
      rw [BEq.rfl, Bool.or_true]
    · exact (congrArg (BitVec.getLsbD · b.val) (if_pos hgated)).trans (getLsbD_or_twoPow_self _ b.isLt)
  · have hdone : s.ungateDone b = s.ungated b := State.ungateDone_ungated (State.running_state hrun).2 hungating
    refine ⟨s.ungated b, (exec_clkUngateDone hup).trans (congrArg _ hdone), rfl, getLsbD_and_not_twoPow_self _ _,
      getLsbD_and_not_twoPow_self _ _, getLsbD_and_not_twoPow_self _ _, ?_⟩
    exact (BitVec.getLsbD_or ..).trans (congrArg _ (getLsbD_and_twoPow_self _ b.isLt))
  · exact ⟨_, (exec_clkobsSelect hup).trans (congrArg _ (State.obsWrite_rejected hbad)), s.raiseClk_bitSet 6 (by decide),
      s.raiseClk_logs 6 (by decide) (by decide)⟩
  · have htaken : ∃ hold, s.obsWrite v.toNat = s.obsTaken v.toNat hold ∧ (s.obsChanges v.toNat → hold = 3) ∧
        (¬ s.obsChanges v.toNat → hold = s.clk.obsHold) := by
      by_cases h : s.obsChanges v.toNat
      · exact ⟨3, State.obsWrite_changed hsrc hfreq h, fun _ => rfl, fun hn => absurd h hn⟩
      · exact ⟨_, State.obsWrite_same hsrc hfreq h, fun hc => absurd hc h, fun _ => rfl⟩
    obtain ⟨hold, hexec, hchanged, hsame⟩ := htaken
    obtain ⟨hgsrc, hgen, hgdiv⟩ := s.obsTaken_fields v.toNat hold
    exact ⟨_, (exec_clkobsSelect hup).trans (congrArg _ hexec), hgsrc, hgen, hgdiv, s.obsTaken_fieldsBut _ hold, s.obsTaken_only _ hold,
      hchanged, fun h1 h2 => hsame (not_or.2 ⟨not_not.2 h1, not_not.2 h2⟩)⟩

end Sys2Proof.Machine
end

section
/-!
PROOFS. The island's trim windows and its crystal (R164–R168).
-/

namespace Sys2Proof.Machine

/-! ### A window that starts -/

theorem FieldsBut.mono {l m : List Fld} {s t : State} (hlm : ∀ f ∈ l, f ∈ m) (h : FieldsBut l s t) : FieldsBut m s t :=
  fun g hg => h g fun f hf => hg f (hlm f hf)

/-- A window started after register fields alone were written. -/
theorem OnlyRegs.trimStart {s t : State} (h : OnlyRegs s t) :
    t.trimStart = { s with regs := t.trimStart.regs, isl := { s.isl with trimSpoilt := t.trimStart.isl.trimSpoilt } } :=
  t.trimStart_only.2.trans (by rw [h])

theorem FieldsBut.trimStart {l : List Fld} {s t : State} (h : FieldsBut l s t) (hl : R.OSC_STAT_trim_src ∈ l) :
    FieldsBut l s t.trimStart :=
  h.trans (t.trimStart_only.1.mono fun _ hf => List.mem_singleton.1 hf ▸ hl)

/-- A window whose flag is clear already starts in the register file alone. -/
theorem State.trimStart_onlyRegs {s : State} (h : s.isl.trimSpoilt = false) : OnlyRegs s s.trimStart := by
  have hisl : { s.isl with trimSpoilt := false } = s.isl := by rw [← h]
  unfold State.trimStart
  split
  · rw [hisl]; rfl
  · rfl

/-- No window on a crystal that does not run (R165). -/
theorem State.trimSource_stopped {s : State} (h : s.get R.OSC_STAT_xtal_run = 0) : s.trimSource = 0 ∨ s.trimSource = 2 := by
  unfold State.trimSource
  split
  · exact .inr rfl
  · exact .inl (if_neg fun hrun => by omega)

theorem State.trimStart_stopped {s : State} (hrun : s.get R.OSC_STAT_xtal_run = 0) (hnone : s.get R.OSC_STAT_trim_src = 0) :
    s.trimStart.get R.OSC_STAT_trim_src ≠ 1 := by
  unfold State.trimStart
  split
  · have hget : (s.put R.OSC_STAT_trim_src s.trimSource).get R.OSC_STAT_trim_src ≠ 1 := by
      rw [State.get_put_same]
      rcases State.trimSource_stopped hrun with h | h <;> rw [h] <;> decide
    exact hget
  · rw [hnone]; decide

/-! ### A window that is discarded -/

/-- The fields of a window discarded. -/
def dropFields : List Fld := [R.OSC_CNT_discarded, R.OSC_STAT_trim_src]

theorem State.trimDrop_only (s : State) : OnlyRegs s s.trimDrop := rfl

theorem State.trimDrop_writes (s : State) : FieldsBut dropFields s s.trimDrop :=
  ((FieldsBut.refl _ s).put _ _ (by decide)).put _ _ (by decide)

theorem State.trimDrop_discarded (s : State) :
    s.trimDrop.get R.OSC_CNT_discarded = satAdd R.OSC_CNT_discarded.w (s.get R.OSC_CNT_discarded) 1 := by
  rw [State.trimDrop, State.get_put_other _ _ _ _ (by decide), State.get_count_same]

theorem State.trimDrop_src (s : State) : s.trimDrop.get R.OSC_STAT_trim_src = 0 := State.get_put_same _ _ 0

/-- After a window discarded a next one may start at once (R165, R166). -/
def State.trimDropped (s : State) : State := s.trimDrop.trimStart

/-! ### A window that is applied -/

/-- What an applied window of `n` cycles puts. -/
def State.trimPuts (s : State) (n : Nat) : List (Fld × Nat) :=
  let src := s.get R.OSC_STAT_trim_src
  [(R.OSC_TRIM_code, trimNext (s.get R.OSC_TRIM_code) n (trimExpected src)), (R.OSC_LAST_count, n), (R.OSC_LAST_src, src)]

def trimFields : List Fld := [R.OSC_TRIM_code, R.OSC_LAST_count, R.OSC_LAST_src]

/-- The window is recorded and counted, and ends (R166). -/
def State.trimApplied (s : State) (n : Nat) : State :=
  ((s.puts (s.trimPuts n)).count R.OSC_CNT_applied 1).put R.OSC_STAT_trim_src 0

theorem State.trimApplied_only (s : State) (n : Nat) : OnlyRegs s (s.trimApplied n) :=
  OnlyRegs.trans (s.puts_only _) (OnlyRegs.trans (State.count_only _ _ 1) (State.put_only _ _ 0))

theorem State.trimApplied_fieldsBut (s : State) (n : Nat) : FieldsBut
    [R.OSC_TRIM_code, R.OSC_LAST_count, R.OSC_LAST_src, R.OSC_CNT_applied, R.OSC_STAT_trim_src] s (s.trimApplied n) := by
  have hputs : FieldsBut [R.OSC_TRIM_code, R.OSC_LAST_count, R.OSC_LAST_src, R.OSC_CNT_applied, R.OSC_STAT_trim_src] s
      (s.puts (s.trimPuts n)) := s.puts_fieldsBut (show ∀ f ∈ trimFields, _ by decide)
  exact (hputs.put _ _ (by decide)).put _ _ (by decide)

theorem State.trimApplied_puts (s : State) (n : Nat) {f : Fld} {v : Nat} (hp : (f, v) ∈ s.trimPuts n)
    (hcount : f.key ≠ R.OSC_CNT_applied.key) (hsrc : f.key ≠ R.OSC_STAT_trim_src.key) (hv : v < 2 ^ f.w) :
    (s.trimApplied n).get f = v := by
  rw [State.trimApplied, State.get_put_other _ _ _ _ hsrc, State.count_eq, State.get_put_other _ _ _ _ hcount]
  exact (s.get_puts_mem trimFields rfl (by decide) hp).trans (Nat.mod_eq_of_lt hv)

theorem State.trimApplied_applied (s : State) (n : Nat) :
    (s.trimApplied n).get R.OSC_CNT_applied = satAdd R.OSC_CNT_applied.w (s.get R.OSC_CNT_applied) 1 := by
  have hputs : (s.puts (s.trimPuts n)).get R.OSC_CNT_applied = s.get R.OSC_CNT_applied :=
    s.puts_fieldsBut (l := s.trimPuts n) (fs := trimFields) (fun _ hf => hf) _ (by decide)
  rw [State.trimApplied, State.get_put_other _ _ _ _ (by decide), State.get_count_same, hputs]

/-- The trim code is limited to 0 to 511 (R166). -/
theorem trimNext_lt (code count expected : Nat) : trimNext code count expected < 512 := by
  unfold trimNext clampInt
  split_ifs <;> omega

/-! ### The commands -/

section
variable {count : BitVec 24} {failed : Bool} {s : State} (hup : s.islandUp = true) (hon : s.isl.runOn = true)
  (hsrc : s.get R.OSC_STAT_trim_src ≠ 0)
include hup hon hsrc

theorem exec_trimWindowEnd_bad (hbad : s.trimBad (s.get R.OSC_STAT_trim_src) count.toNat failed = true) :
    exec (.trimWindowEnd count failed) s = .next s.trimDropped := by
  show execTrimWindowEnd count failed s = _
  simp only [execTrimWindowEnd, hup, hon, hsrc, hbad, Bool.true_eq_false, or_self, if_false, if_true]
  rfl

theorem exec_trimWindowEnd_good (hgood : s.trimBad (s.get R.OSC_STAT_trim_src) count.toNat failed = false) :
    exec (.trimWindowEnd count failed) s = .next (s.trimApplied count.toNat).trimStart := by
  show execTrimWindowEnd count failed s = _
  simp only [execTrimWindowEnd, hup, hon, hsrc, hgood, Bool.true_eq_false, Bool.false_eq_true, or_self, if_false]
  rfl

end

/-- A window that is applied was not spoilt. -/
theorem State.trimBad_spoilt {s : State} {src n : Nat} {failed : Bool} (h : s.trimBad src n failed = false) : s.isl.trimSpoilt = false := by
  simp only [State.trimBad, Bool.or_eq_false_iff] at h
  obtain ⟨⟨⟨-, hspoilt⟩, -⟩, -⟩ := h
  exact hspoilt

/-- The crystal's failure and whether it runs. -/
def State.setXtal (s : State) (fail run : Nat) : State := s.puts [(R.OSC_STAT_xtal_fail, fail), (R.OSC_STAT_xtal_run, run)]

def xtalFields : List Fld := [R.OSC_STAT_xtal_fail, R.OSC_STAT_xtal_run]

theorem State.setXtal_writes (s : State) (fail run : Nat) : Writes xtalFields s (s.setXtal fail run) :=
  s.puts_writes [(R.OSC_STAT_xtal_fail, fail), (R.OSC_STAT_xtal_run, run)]

theorem State.setXtal_fail (s : State) {fail run : Nat} (h : fail < 2) : (s.setXtal fail run).get R.OSC_STAT_xtal_fail = fail :=
  (s.get_puts_mem xtalFields rfl (by decide) (List.mem_cons_self ..)).trans (Nat.mod_eq_of_lt h)

theorem State.setXtal_run (s : State) {fail run : Nat} (h : run < 2) : (s.setXtal fail run).get R.OSC_STAT_xtal_run = run :=
  (State.get_put_same _ R.OSC_STAT_xtal_run run).trans (Nat.mod_eq_of_lt h)

theorem State.setXtal_src (s : State) (fail run : Nat) : (s.setXtal fail run).get R.OSC_STAT_trim_src = s.get R.OSC_STAT_trim_src :=
  (s.setXtal_writes fail run).2 _ (by decide)

theorem exec_xtalFail_other {s : State} (hmode : s.isl.mode ≠ .cold) (hsrc : s.get R.OSC_STAT_trim_src ≠ 1) :
    exec .xtalFail s = .next (s.setXtal 1 0) := by
  show execXtalFail s = _
  rw [execXtalFail, if_neg hmode]
  exact congrArg _ (if_neg fun h => hsrc ((s.setXtal_src 1 0).symm.trans h))

theorem exec_xtalFail_window {s : State} (hmode : s.isl.mode ≠ .cold) (hsrc : s.get R.OSC_STAT_trim_src = 1) :
    exec .xtalFail s = .next (s.setXtal 1 0).trimDropped := by
  show execXtalFail s = _
  rw [execXtalFail, if_neg hmode]
  exact congrArg _ (if_pos ((s.setXtal_src 1 0).trans hsrc))

theorem exec_xtalRecover {s : State} (hmode : s.isl.mode ≠ .cold) : exec .xtalRecover s = .next (s.setXtal 0 1).trimStart :=
  congrArg _ (if_neg hmode)

/-- Settles O35: a window ends in `trimApplied` or `trimDrop`, and `trimStart` follows it. -/
theorem islandOscillators : Obligations.IslandOscillators := by
  unfold Obligations.IslandOscillators
  refine ⟨fun count failed s hup hon hsrc => ⟨fun hgood hlt => ?_, fun hbad => ?_⟩,
    fun s hmode => ⟨fun hsrc => ?_, fun hsrc => ?_, ?_⟩⟩
  · have honly := s.trimApplied_only count.toNat
    have hspoilt : (s.trimApplied count.toNat).isl.trimSpoilt = false :=
      (congrArg IslSt.trimSpoilt honly.signals.isl).trans (State.trimBad_spoilt hgood)
    refine ⟨_, exec_trimWindowEnd_good hup hon hsrc hgood, honly.trans (State.trimStart_onlyRegs hspoilt), ?_, ?_, ?_, ?_,
      (s.trimApplied_fieldsBut _).trimStart (by decide)⟩
    · rw [State.trimStart_get _ (by decide)]
      exact s.trimApplied_puts _ (by simp [State.trimPuts]) (by decide) (by decide) (trimNext_lt _ _ _)
    · rw [State.trimStart_get _ (by decide)]
      exact s.trimApplied_puts _ (by simp [State.trimPuts]) (by decide) (by decide) count.isLt
    · rw [State.trimStart_get _ (by decide)]
      exact s.trimApplied_puts _ (by simp [State.trimPuts]) (by decide) (by decide) hlt
    · rw [State.trimStart_get _ (by decide), s.trimApplied_applied]
  · refine ⟨s.trimDropped, exec_trimWindowEnd_bad hup hon hsrc hbad, ?_, s.trimDrop_writes.trimStart (by decide), s.trimDrop_only.trimStart⟩
    rw [State.trimDropped, State.trimStart_get _ (by decide), s.trimDrop_discarded]
  · exact ⟨_, exec_xtalFail_other hmode hsrc, s.setXtal_fail (by decide), s.setXtal_run (by decide), s.setXtal_writes 1 0⟩
  · obtain ⟨honly, hfields⟩ := s.setXtal_writes 1 0
    have hdrop := (s.setXtal 1 0).trimDrop_writes
    have hrun : (s.setXtal 1 0).trimDrop.get R.OSC_STAT_xtal_run = 0 := (hdrop _ (by decide)).trans (s.setXtal_run (by decide))
    refine ⟨(s.setXtal 1 0).trimDropped, exec_xtalFail_window hmode hsrc, ?_, ?_, State.trimStart_stopped hrun (State.trimDrop_src _), ?_,
      ((hfields.mono (by decide)).trans (hdrop.mono (by decide))).trimStart (by decide), (honly.trans (State.trimDrop_only _)).trimStart⟩
    · rw [State.trimDropped, State.trimStart_get _ (by decide), hdrop _ (by decide), s.setXtal_fail (by decide)]
    · rw [State.trimDropped, State.trimStart_get _ (by decide), hrun]
    · rw [State.trimDropped, State.trimStart_get _ (by decide), State.trimDrop_discarded, hfields _ (by decide)]
  · obtain ⟨honly, hfields⟩ := s.setXtal_writes 0 1
    refine ⟨_, exec_xtalRecover hmode, ?_, ?_, (hfields.mono (by decide)).trimStart (by decide), honly.trimStart⟩
    · rw [State.trimStart_get _ (by decide), s.setXtal_fail (by decide)]
    · rw [State.trimStart_get _ (by decide), s.setXtal_run (by decide)]

end Sys2Proof.Machine
end

section
/-!
PROOFS. The plate-image loader (R189, R190, R192–R194, R196, R199, R200, R204).
-/

namespace Sys2Proof.Machine

/-! ### A result that is posted (R193) -/

theorem OnlySignals.img {s t : State} (h : OnlySignals s t) : t.img = s.img := by rw [h]
theorem OnlySignals.tiles {s t : State} (h : OnlySignals s t) : t.tiles = s.tiles := by rw [h]

/-- The fields of IMG_RESULT. -/
def imgResultWord : List Fld := [R.IMG_RESULT_code, R.IMG_RESULT_phase, R.IMG_RESULT_section, R.IMG_RESULT_level_mismatch]

/-- The fields a posted result reaches. -/
def imgResultFields : List Fld := imgResultWord ++ [R.IMG_EVT]

/-- What a posted result puts. -/
def imgResultPuts (code phase sect : Nat) (mismatch : Bool) : List (Fld × Nat) :=
  [(R.IMG_RESULT_code, code), (R.IMG_RESULT_phase, phase), (R.IMG_RESULT_section, sect), (R.IMG_RESULT_level_mismatch, b2n mismatch)]

/-- No load runs, and IMG_RESULT reads this. -/
def Posted (t : State) (code phase sect mismatch : Nat) : Prop :=
  t.img.load = none ∧ t.get R.IMG_RESULT_code = code % 256 ∧ t.get R.IMG_RESULT_phase = phase % 16 ∧
    t.get R.IMG_RESULT_section = sect % 256 ∧ t.get R.IMG_RESULT_level_mismatch = mismatch

theorem State.raiseImg_signals (s : State) (b : Nat) {l : List Fld} (hl : R.IMG_EVT ∈ l) : Signals l s (s.raiseImg b) :=
  ⟨s.raise_only _ _ _ b, s.raise_fields _ _ _ b l hl⟩

theorem State.raiseImg_bitSet (s : State) (b : Nat) (hb : b < 4) : BitSet (s.raiseImg b) R.IMG_EVT b := by
  rw [BitSet, State.raiseImg, State.raise_bit _ _ _ _ _ _ (by decide) hb, BEq.rfl, Bool.or_true]

/-- The listed fields and the loader's state may change, and nothing else. -/
def LoaderWrites (l : List Fld) (s t : State) : Prop := t = { s with regs := t.regs, img := t.img } ∧ FieldsBut l s t

theorem LoaderWrites.refl (l : List Fld) (s : State) : LoaderWrites l s s := ⟨rfl, fun _ _ => rfl⟩

theorem Writes.loader {l : List Fld} {s t : State} (h : Writes l s t) : LoaderWrites l s t := by
  obtain ⟨honly, hfields⟩ := h
  exact ⟨by rw [honly], hfields⟩

section
variable (s : State) (code phase sect : Nat) (mismatch : Bool)

theorem State.imgPost_signals :
    Signals imgResultFields { s with img := { s.img with load := none } } (s.imgPost code phase sect mismatch) := by
  have hputs : ∀ p ∈ imgResultPuts code phase sect mismatch, p.1 ∈ imgResultFields := fun p hp =>
    List.mem_append_left [R.IMG_EVT] (List.mem_map_of_mem (f := Prod.fst) hp)
  exact Signals.trans ⟨OnlyRegs.signals (State.puts_only _ _), State.puts_fields _ hputs⟩ (State.raiseImg_signals _ _ (by decide))

theorem State.imgPost_img : (s.imgPost code phase sect mismatch).img = { s.img with load := none } :=
  (s.imgPost_signals code phase sect mismatch).1.img

theorem State.imgPost_resident : (s.imgPost code phase sect mismatch).img.resident = s.img.resident := by rw [State.imgPost_img]

theorem State.imgPost_get (g : Fld) (hp : ¬ inPmu g) (hg : ∀ f ∈ imgResultFields, g.key ≠ f.key) :
    (s.imgPost code phase sect mismatch).get g = s.get g :=
  (s.imgPost_signals code phase sect mismatch).2 g hp hg

theorem State.imgPost_put {f : Fld} {v : Nat} (hmem : (f, v) ∈ imgResultPuts code phase sect mismatch) (hp : ¬ inPmu f)
    (hk : f.key ≠ R.IMG_EVT.key) : (s.imgPost code phase sect mismatch).get f = v % 2 ^ f.w := by
  have hraise := (State.raiseImg_signals (State.puts { s with img := { s.img with load := none } } (imgResultPuts code phase sect mismatch))
    (if code = 0 then 0 else 1) (List.mem_singleton_self _)).2 f hp (by simpa using hk)
  exact hraise.trans (State.get_puts_mem _ imgResultWord rfl (by decide) hmem)

theorem State.imgPost_posted : Posted (s.imgPost code phase sect mismatch) code phase sect (b2n mismatch) := by
  have hput := @State.imgPost_put s code phase sect mismatch
  refine ⟨congrArg ImgSt.load (s.imgPost_img code phase sect mismatch), ?_, ?_, ?_, ?_⟩
  · exact hput (f := R.IMG_RESULT_code) (by simp [imgResultPuts]) (by decide) (by decide)
  · exact hput (f := R.IMG_RESULT_phase) (by simp [imgResultPuts]) (by decide) (by decide)
  · exact hput (f := R.IMG_RESULT_section) (by simp [imgResultPuts]) (by decide) (by decide)
  · exact (hput (f := R.IMG_RESULT_level_mismatch) (by simp [imgResultPuts]) (by decide) (by decide)).trans
      (Nat.mod_eq_of_lt (b2n_lt_two mismatch))

theorem State.imgPost_done : BitSet (s.imgPost 0 phase sect mismatch) R.IMG_EVT 0 := State.raiseImg_bitSet _ 0 (by decide)

theorem State.imgPost_error (h : code ≠ 0) : BitSet (s.imgPost code phase sect mismatch) R.IMG_EVT 1 := by
  rw [State.imgPost, if_neg h]
  exact State.raiseImg_bitSet _ 1 (by decide)

theorem State.imgPost_mem : (s.imgPost code phase sect mismatch).mem = s.mem := (s.imgPost_signals code phase sect mismatch).1.mem

theorem State.imgPost_tile (k : Nat) : (s.imgPost code phase sect mismatch).tile k = s.tile k :=
  congrArg (SMap.get TileSt.init · k) (s.imgPost_signals code phase sect mismatch).1.tiles

end

/-- A result posted after the loader and some fields have changed. -/
theorem LoaderWrites.imgPost {l : List Fld} {s u : State} (h : LoaderWrites l s u) (code phase sect : Nat) (mismatch : Bool) :
    Signals (l ++ imgResultFields) { s with img := (u.imgPost code phase sect mismatch).img } (u.imgPost code phase sect mismatch) := by
  obtain ⟨honly, hfields⟩ := h
  obtain ⟨hsig, hpost⟩ := u.imgPost_signals code phase sect mismatch
  refine ⟨?_, fun g hp hg => ?_⟩
  · rw [OnlySignals, State.imgPost_img]
    rw [OnlySignals] at hsig
    rw [hsig, honly]
  · exact (hpost g hp fun f hf => hg f (List.mem_append_right l hf)).trans (hfields g fun f hf => hg f (List.mem_append_left _ hf))

/-! ### A load that fails (R200, R204) -/

section
variable (s : State)

theorem State.imgRestore_loader (slot : Option Nat) (l : List Fld) : LoaderWrites l s (s.imgRestore slot) := by
  unfold State.imgRestore
  split
  · split
    · exact ⟨rfl, fun _ _ => rfl⟩
    · exact .refl l s
  · exact .refl l s

theorem State.imgRestore_none : s.imgRestore none = s := rfl

theorem State.imgFail_get_errors (e : LoadErr) : (s.imgFail e).get R.IMG_COUNT_errors = satAdd 16 (s.get R.IMG_COUNT_errors) 1 :=
  (State.imgPost_get _ _ _ _ _ _ (by decide) (by decide)).trans (s.get_count_same _ 1)

theorem State.imgFail_resident (e : LoadErr) : (s.imgFail e).img.resident = s.img.resident :=
  State.imgPost_resident _ _ _ _ _

end

/-- A load that fails where only the loader has changed counts its error and posts it. -/
theorem LoaderWrites.imgFail {s u : State} (h : LoaderWrites [] s u) (e : LoadErr) :
    Signals (R.IMG_COUNT_errors :: imgResultFields) { s with img := (u.imgFail e).img } (u.imgFail e) := by
  obtain ⟨honly, hfields⟩ := h
  have hcount : LoaderWrites [R.IMG_COUNT_errors] s (u.count R.IMG_COUNT_errors 1) := by
    refine ⟨?_, fun g hg => ((u.count_writes _ 1).2 g hg).trans (hfields g (by simp))⟩
    rw [State.count_eq, State.put, honly]
  exact hcount.imgPost e.code e.phase e.sect false

/-! ### Starts, unloads and aborts (R189, R199, R200) -/

section
variable {s : State}

theorem exec_imgStart (h : s.blockUp 4 = true) : exec .imgStart s = .next s.imgStart := congrArg _ (if_pos h)

theorem exec_imgUnload (h : s.blockUp 4 = true) : exec .imgUnload s = .next s.imgUnload := congrArg _ (if_pos h)

theorem exec_imgAbort (h : s.blockUp 4 = true) : exec .imgAbort s = .next s.imgAbort := congrArg _ (if_pos h)

theorem State.imgBusyOrDown_iff : s.imgBusyOrDown = true ↔ s.img.load ≠ none ∨ s.running = false := by
  rw [State.imgBusyOrDown, Bool.or_eq_true, Option.isSome_iff_ne_none, Bool.not_eq_true']

theorem State.imgBusyOrDown_free (hload : s.img.load = none) (hrun : s.running = true) : ¬ s.imgBusyOrDown = true := by
  rw [State.imgBusyOrDown, hload, hrun]
  exact Bool.false_ne_true

/-- The load a start opens, and what it copies (R189). -/
def State.openedLoad (s : State) : Load :=
  let src := s.get R.IMG_SRC_LO + 2 ^ 32 * s.get R.IMG_SRC_HI
  let len := s.get R.IMG_LEN_bytes
  { phase := 1, ctx := s.get R.IMG_CTX_context, src := src, len := len,
    bytes := if src + len ≤ dataEnd ∧ len ≤ 4194304 then s.readMem src len else [],
    image := none, slot := none, quiesce := none, pair := none }

/-- The load an unload of a resident image opens (R199). -/
def unloadOf (slot : Nat) (i : ResImage) : Load :=
  { phase := 10, ctx := i.ctx, src := 0, len := 0, bytes := [], image := none, slot := some slot, quiesce := none, pair := none }

/-- The loader with this load. -/
def State.withLoad (s : State) (l : Load) : State := { s with img := { s.img with load := some l } }

theorem State.imgStart_opens (hload : s.img.load = none) (hrun : s.running = true) : s.imgStart = s.withLoad s.openedLoad :=
  if_neg (State.imgBusyOrDown_free hload hrun)

theorem State.imgUnload_absent (hload : s.img.load = none) (hrun : s.running = true)
    (hnone : s.replaceTarget (s.get R.IMG_CTX_context) (s.get R.IMG_ID_LO + 2 ^ 32 * s.get R.IMG_ID_HI) = none) :
    s.imgUnload = s.imgPost 0x15 10 0xFF false := by
  rw [State.imgUnload, if_neg (State.imgBusyOrDown_free hload hrun), hnone]

theorem State.imgUnload_opens {slot : Nat} {i : ResImage} (hload : s.img.load = none) (hrun : s.running = true)
    (hsome : s.replaceTarget (s.get R.IMG_CTX_context) (s.get R.IMG_ID_LO + 2 ^ 32 * s.get R.IMG_ID_HI) = some (slot, i)) :
    s.imgUnload = s.withLoad (unloadOf slot i) := by
  rw [State.imgUnload, if_neg (State.imgBusyOrDown_free hload hrun), hsome]
  rfl

/-- The image an unload names, its conditions as propositions. -/
theorem State.replaceTarget_eq (ctx id : Nat) : s.replaceTarget ctx id = s.img.resident.find? (fun x =>
    decide (x.2.image.id = id ∧ x.2.ctx = ctx ∧ x.2.parked = false ∧ x.2.leaving = false)) := by
  refine congrArg (List.find? · s.img.resident) (funext fun x => Bool.eq_iff_iff.2 ?_)
  simp [and_assoc]

theorem State.imgAbort_early {l : Load} (hload : s.img.load = some l) (h1 : 1 ≤ l.phase) (h8 : l.phase ≤ 8) :
    s.imgAbort = (s.imgRestore l.slot).imgFail ⟨0x1E, l.phase, 0xFF⟩ := by
  simp only [State.imgAbort, State.imgAbortIn, hload, h1, h8, and_self, decide_true, if_true]

theorem State.imgAbort_late {l : Load} (hload : s.img.load = some l) (h9 : 9 ≤ l.phase) : s.imgAbort = s := by
  have hlate : ¬ (1 ≤ l.phase ∧ l.phase ≤ 8) := fun h => absurd h.2 (by omega)
  simp only [State.imgAbort, State.imgAbortIn, hload, hlate, decide_false, Bool.false_eq_true, if_false]

/-! ### The checks (R190) -/

section
variable {l : Load} (hload : s.img.load = some l) (hphase : l.phase < 8)
include hload hphase

theorem exec_imgChecksDone_error {e : LoadErr} (h : s.imgChecks l = .error e) : exec .imgChecksDone s = .next (s.imgFail e) := by
  show execImgChecksDone s = _
  rw [execImgChecksDone, hload]
  refine congrArg _ ((if_neg (Nat.not_le.2 hphase)).trans ?_)
  rw [h]

theorem exec_imgChecksDone_ok {i : PlateImage} {old : Option Nat} {pair : Option (Nat × Nat × Nat × Nat)}
    (h : s.imgChecks l = .ok (i, old, pair)) : exec .imgChecksDone s =
      .next (s.withLoad { l with phase := if i.replacing then 8 else 9, image := some i, slot := old, pair := pair }) := by
  show execImgChecksDone s = _
  rw [execImgChecksDone, hload]
  refine congrArg _ ((if_neg (Nat.not_le.2 hphase)).trans ?_)
  rw [h]
  rfl

end

theorem State.imgChecks_range {l : Load} (h : l.src % 4096 ≠ 0 ∨ dataEnd < l.src + l.len ∨ l.len < 456 ∨ 4194304 < l.len) :
    s.imgChecks l = .error ⟨1, 1, 0xFF⟩ := by
  rw [State.imgChecks, if_pos h]

/-! ### The end of install (R192, R194) -/

/-- IMG_ID takes the image's ID. -/
def State.putImageId (s : State) (i : PlateImage) : State := s.puts [(R.IMG_ID_LO, i.id), (R.IMG_ID_HI, i.id / 2 ^ 32)]

/-- The installed image waits for its mark, its staging cleared. -/
def State.arrives (s : State) (l : Load) : State := { s with img := { s.img with arriving := some { l with bytes := [] } } }

/-- The held image whose pair is recorded, where none was (R194). -/
def State.noteLevelBy (s : State) (id : Nat) : State :=
  if bitAt (s.get R.GEN_HOLD_CAUSE_causes) 0 then s else { s with img := { s.img with levelBy := some id } }

theorem State.putImageId_writes (s : State) (i : PlateImage) : Writes [R.IMG_ID_LO, R.IMG_ID_HI] s (s.putImageId i) := s.puts_writes _

theorem State.putImageId_lo (s : State) (i : PlateImage) : (s.putImageId i).get R.IMG_ID_LO = i.id % 2 ^ 32 :=
  s.get_puts_mem [R.IMG_ID_LO, R.IMG_ID_HI] rfl (by decide) (p := (R.IMG_ID_LO, i.id)) (List.mem_cons_self ..)

theorem State.putImageId_hi (s : State) (i : PlateImage) : (s.putImageId i).get R.IMG_ID_HI = i.id / 2 ^ 32 % 2 ^ 32 :=
  s.get_puts_mem [R.IMG_ID_LO, R.IMG_ID_HI] rfl (by decide) (p := (R.IMG_ID_HI, i.id / 2 ^ 32)) (by simp)

theorem State.arrives_loader (s : State) (i : PlateImage) (l : Load) :
    LoaderWrites [R.IMG_ID_LO, R.IMG_ID_HI] s ((s.putImageId i).arrives l) := ⟨rfl, (s.putImageId_writes i).2⟩

section
variable {l : Load} {i : PlateImage}
variable (hload : s.img.load = some l) (himage : l.image = some i) (hphase : l.phase = 9) (hfree : s.img.arriving = none)
include hload himage hphase hfree

theorem exec_imgInstallDone : exec .imgInstallDone s = .next (
    if s.ctxState l.ctx = 4 then (s.putImageId i).imgPost 0 0 0 l.pair.isSome
    else (l.pair.elim ((s.putImageId i).arrives l) (((s.putImageId i).arrives l).imgHeld i.id)).imgPost 0 0 0 l.pair.isSome) := by
  have hgo : ¬ (l.phase ≠ 9 ∨ s.img.arriving.isSome = true) := by simp [hphase, hfree]
  show execImgInstallDone s = _
  rw [execImgInstallDone, hload]
  cases l with | mk phase ctx src len bytes image slot quiesce pair
  cases himage
  refine congrArg _ ((if_neg hgo).trans ?_)
  cases pair with
  | none => rfl
  | some p => rfl

theorem exec_imgInstallDone_released (hctx : s.ctxState l.ctx = 4) :
    exec .imgInstallDone s = .next ((s.putImageId i).imgPost 0 0 0 l.pair.isSome) :=
  (exec_imgInstallDone hload himage hphase hfree).trans (congrArg _ (if_pos hctx))

theorem exec_imgInstallDone_good (hctx : s.ctxState l.ctx ≠ 4) (hpair : l.pair = none) :
    exec .imgInstallDone s = .next (((s.putImageId i).arrives l).imgPost 0 0 0 false) := by
  rw [exec_imgInstallDone hload himage hphase hfree, if_neg hctx, hpair]
  rfl

theorem exec_imgInstallDone_mismatch {p : Nat × Nat × Nat × Nat} (hctx : s.ctxState l.ctx ≠ 4) (hpair : l.pair = some p) :
    exec .imgInstallDone s =
      .next ((((((s.putImageId i).arrives l).noteLevelBy i.id).raiseLevel p).raiseImg 3).imgPost 0 0 0 true) := by
  rw [exec_imgInstallDone hload himage hphase hfree, if_neg hctx, hpair]
  rfl

end

/-- Noting whose pair is recorded changes that name alone. -/
theorem State.noteLevelBy_eq (s : State) (id : Nat) : s.noteLevelBy id = { s with img :=
    { s.img with levelBy := if bitAt (s.get R.GEN_HOLD_CAUSE_causes) 0 then s.img.levelBy else some id } } := by
  unfold State.noteLevelBy
  split <;> rfl

/-! ### An image that goes (R199) -/

/-- Tiles released one after another. -/
def State.releaseTiles (s : State) (rs : List TileRec) : State := rs.foldl (fun u r => u.releaseTile r.tile) s

/-- A tile nobody owns, waiting for its erasure or in it. -/
def Released (s : State) (k : Nat) : Prop := (s.tile k).owner = none ∧ (s.tile k).erasing = true

theorem State.releaseTiles_only (s : State) (rs : List TileRec) :
    s.releaseTiles rs = { s with fix := (s.releaseTiles rs).fix, tiles := (s.releaseTiles rs).tiles } := by
  induction rs generalizing s with
  | nil => rfl
  | cons r rs ih => exact ih (s.releaseTile r.tile)

theorem State.releaseTile_released (s : State) (k : Nat) : Released (s.releaseTile k) k := by
  rw [Released, State.releaseTile, State.tile_setTile_same]
  exact ⟨rfl, rfl⟩

theorem Released.releaseTile {s : State} {k : Nat} (h : Released s k) (j : Nat) : Released (s.releaseTile j) k := by
  by_cases hk : k = j
  · exact hk ▸ s.releaseTile_released k
  · rw [Released, State.releaseTile, State.tile_setTile_other _ _ hk]
    exact h

theorem Released.releaseTiles {s : State} {k : Nat} (h : Released s k) (rs : List TileRec) : Released (s.releaseTiles rs) k := by
  induction rs generalizing s with
  | nil => exact h
  | cons r rs ih => exact ih (h.releaseTile r.tile)

theorem State.releaseTiles_released (s : State) {rs : List TileRec} {r : TileRec} (hr : r ∈ rs) :
    Released (s.releaseTiles rs) r.tile := by
  induction rs generalizing s with
  | nil => simp at hr
  | cons x rs ih =>
    rcases List.mem_cons.1 hr with rfl | hr
    · exact (s.releaseTile_released r.tile).releaseTiles rs
    · exact ih (s.releaseTile x.tile) hr

theorem State.clearDue_signals (s : State) (p : Nat) : Signals [R.TILE_DUE0, R.TILE_DUE1] s (s.clearDue p) := by
  refine ⟨rfl, State.put_fields _ _ _ _ ?_⟩
  split <;> decide

theorem State.plateAbsent_idle (h : s.descs = []) (ps : List Nat) : s.plateAbsent ps = s := by
  rw [State.plateAbsent, h]
  rfl

/-- The image's tiles released and its slot empty. -/
def State.imageGone (s : State) (slot : Nat) (i : ResImage) : State :=
  { s.releaseTiles (i.image.plates.flatMap Plate.tiles) with
    img := { s.img with resident := SMap.erase s.img.resident slot, unloads := s.img.unloads.filter (fun x => x.1 != slot) } }

/-- With no descriptor to fault, dropping an image clears its plates' due bits and does no more. -/
theorem State.dropImage_gone {slot : Nat} {i : ResImage} (himage : s.resImage slot = some i) (hdescs : s.descs = []) :
    Signals [R.TILE_DUE0, R.TILE_DUE1] (s.imageGone slot i) (s.dropImage slot) := by
  have hgone := s.releaseTiles_only (i.image.plates.flatMap Plate.tiles)
  have hdue := foldl_signals _ State.clearDue State.clearDue_signals (i.image.plates.map Plate.num) (s.imageGone slot i)
  have hnone : ((i.image.plates.map Plate.num).foldl State.clearDue (s.imageGone slot i)).descs = [] := by
    rw [hdue.1]
    show (s.releaseTiles (i.image.plates.flatMap Plate.tiles)).descs = []
    rw [hgone]
    exact hdescs
  have hdrop : s.dropImage slot =
      ((i.image.plates.map Plate.num).foldl State.clearDue (s.imageGone slot i)).plateAbsent (i.image.plates.map Plate.num) := by
    have himg : (s.releaseTiles (i.image.plates.flatMap Plate.tiles)).img = s.img := by rw [hgone]
    simp only [State.dropImage, himage, State.imageGone, ← himg]
    rfl
  rw [hdrop, State.plateAbsent_idle hnone]
  exact hdue

section
variable {slot : Nat} {i : ResImage} (himage : s.resImage slot = some i) (hdescs : s.descs = [])
include himage hdescs

theorem State.dropImage_resident : (s.dropImage slot).img.resident = SMap.erase s.img.resident slot :=
  congrArg ImgSt.resident (State.dropImage_gone himage hdescs).1.img

theorem State.dropImage_mem : (s.dropImage slot).mem = s.mem := by
  rw [(State.dropImage_gone himage hdescs).1.mem, State.imageGone, State.releaseTiles_only]

theorem State.dropImage_released {p : Plate} {r : TileRec} (hp : p ∈ i.image.plates) (hr : r ∈ p.tiles) :
    Released (s.dropImage slot) r.tile := by
  rw [Released, State.tile, (State.dropImage_gone himage hdescs).1.tiles]
  exact s.releaseTiles_released (List.mem_flatMap.2 ⟨p, hp, hr⟩)

end

theorem State.releaseImage_unheld {slot : Nat} {i : ResImage} (himage : s.resImage slot = some i) (hpair : i.pair = none) :
    s.releaseImage slot = s.dropImage slot := by
  simp only [State.releaseImage, himage, hpair, State.levelRecheck, Option.isSome_none, Bool.not_false, if_true]

/-! ### The end of quiesce (R196) -/

section
variable {l : Load} {q slot : Nat}
variable (hload : s.img.load = some l) (hquiesce : l.quiesce = some q) (hslot : l.slot = some slot)
variable (hover : s.imageWorking slot = false ∨ q < s.frame)
include hload hquiesce hslot hover

theorem exec_imgQuiesceDone : exec .imgQuiesceDone s = .next (
    if l.phase = 10 then (s.releaseImage slot).imgPost 0 0 0 false
    else if l.phase = 8 then s.withLoad { l with phase := 9 } else s) := by
  have hgo : ¬ (s.imageWorking slot && decide (s.frame ≤ q)) = true := by
    rw [Bool.and_eq_true, decide_eq_true_eq, not_and_or, Bool.not_eq_true, Nat.not_le]
    exact hover
  show execImgQuiesceDone s = _
  rw [execImgQuiesceDone, hload]
  cases l with | mk phase ctx src len bytes image slot' quiesce pair
  cases hquiesce
  cases hslot
  exact congrArg _ (if_neg hgo)

theorem exec_imgQuiesceDone_replacement (hphase : l.phase = 8) : exec .imgQuiesceDone s = .next (s.withLoad { l with phase := 9 }) := by
  rw [exec_imgQuiesceDone hload hquiesce hslot hover, if_neg (by omega), if_pos hphase]

theorem exec_imgQuiesceDone_unload (hphase : l.phase = 10) :
    exec .imgQuiesceDone s = .next ((s.releaseImage slot).imgPost 0 0 0 false) := by
  rw [exec_imgQuiesceDone hload hquiesce hslot hover, if_pos hphase]

end

end

/-- Settles O49: each command reaches a result posted (`imgPost`, `imgFail`), a load opened or moved on (`withLoad`), or `start_rejected`. -/
theorem imageLoader : Obligations.ImageLoader := by
  unfold Obligations.ImageLoader
  intro result posted
  refine ⟨fun s hup => ⟨fun hbad => ?_, fun hload hrun => ⟨?_, fun hres => ?_, fun slot i hfind => ?_⟩, fun l hload h1 h8 => ?_,
      fun l hload h9 => ?_⟩,
    fun s l hload => ⟨fun e hphase herr hcode => ?_, State.imgChecks_range, fun i old pair hphase hok => ?_,
      fun i hphase himage hfree hctx => ?_, fun i hphase himage hfree hctx hpair => ?_, fun i p hphase himage hfree hctx hpair => ?_,
      fun q slot hquiesce hslot hover => ⟨fun hphase => ?_, fun i hphase hi hdescs hpair => ?_⟩⟩⟩
  · have hbusy := State.imgBusyOrDown_iff.2 hbad
    exact ⟨(exec_imgStart hup).trans (congrArg _ (if_pos hbusy)), (exec_imgUnload hup).trans (congrArg _ (if_pos hbusy))⟩
  · exact ⟨s.openedLoad, (exec_imgStart hup).trans (congrArg _ (State.imgStart_opens hload hrun)), rfl, rfl, rfl, rfl, rfl, rfl, rfl,
      fun hsrc hlen => if_pos ⟨hsrc, hlen⟩⟩
  · have hnone : ∀ ctx id, s.replaceTarget ctx id = none := fun _ _ => by rw [State.replaceTarget, hres]; rfl
    exact ⟨_, (exec_imgUnload hup).trans (congrArg _ (State.imgUnload_absent hload hrun (hnone _ _))), s.imgPost_posted _ _ _ _,
      s.imgPost_error _ _ _ _ (by decide), s.imgPost_resident _ _ _ _,
      (LoaderWrites.refl [] s).imgPost _ _ _ _⟩
  · have hsome := (State.replaceTarget_eq _ _).trans hfind
    exact ⟨unloadOf slot i, (exec_imgUnload hup).trans (congrArg _ (State.imgUnload_opens hload hrun hsome)), rfl, rfl, rfl, rfl⟩
  · have hrestore := s.imgRestore_loader l.slot []
    refine ⟨_, (exec_imgAbort hup).trans (congrArg _ (State.imgAbort_early hload h1 h8)), State.imgPost_posted _ _ _ _ _,
      State.imgPost_error _ _ _ _ _ (Nat.succ_ne_zero _), ?_, hrestore.imgFail _, fun hslot => ?_⟩
    · rw [State.imgFail_get_errors, hrestore.2 _ (by simp)]
    · rw [State.imgFail_resident, hslot, State.imgRestore_none]
  · rw [exec_imgAbort hup, State.imgAbort_late hload h9]
  · exact ⟨s.imgFail e, exec_imgChecksDone_error hload hphase herr, State.imgPost_posted _ _ _ _ _,
      State.imgPost_error _ _ _ _ _ hcode, s.imgFail_get_errors e, s.imgFail_resident e, (LoaderWrites.refl [] s).imgFail e⟩
  · exact exec_imgChecksDone_ok hload hphase hok
  · refine ⟨_, exec_imgInstallDone_released hload himage hphase hfree hctx, State.imgPost_posted _ _ _ _ _, State.imgPost_done _ _ _ _,
      ?_, (s.putImageId_writes i).loader.imgPost _ _ _ _⟩
    rw [State.imgPost_img, State.putImageId, State.puts_eq]
  · refine ⟨_, exec_imgInstallDone_good hload himage hphase hfree hctx hpair, State.imgPost_posted _ _ _ _ _, State.imgPost_done _ _ _ _,
      ?_, State.imgPost_resident _ _ _ _ _, ?_, ?_, (s.arrives_loader i l).imgPost _ _ _ _⟩
    · rw [State.imgPost_img]; rfl
    · exact (State.imgPost_get _ _ _ _ _ _ (by decide) (by decide)).trans (s.putImageId_lo i)
    · exact (State.imgPost_get _ _ _ _ _ _ (by decide) (by decide)).trans (s.putImageId_hi i)
  · have hcauses : ((s.putImageId i).arrives l).get R.GEN_HOLD_CAUSE_causes = s.get R.GEN_HOLD_CAUSE_causes :=
      (s.putImageId_writes i).2 _ (by decide)
    refine ⟨_, exec_imgInstallDone_mismatch hload himage hphase hfree hctx hpair, ?_⟩
    rw [State.noteLevelBy_eq, hcauses]
    exact ⟨rfl, rfl, s.putImageId_lo i, s.putImageId_hi i, (s.putImageId_writes i).2⟩
  · exact exec_imgQuiesceDone_replacement hload hquiesce hslot hover hphase
  · refine ⟨(s.dropImage slot).imgPost 0 0 0 false, ?_, State.imgPost_posted _ _ _ _ _, State.imgPost_done _ _ _ _,
      (State.imgPost_resident _ _ _ _ _).trans (State.dropImage_resident hi hdescs), fun p hp r hr => ?_, fun a => ?_⟩
    · rw [exec_imgQuiesceDone_unload hload hquiesce hslot hover hphase, State.releaseImage_unheld hi hpair]
    · rw [State.imgPost_tile]
      exact State.dropImage_released hi hdescs hp hr
    · rw [State.imgPost_mem, State.dropImage_mem hi hdescs]

end Sys2Proof.Machine
end

section
/-!
PROOFS. What work on one tile reaches: register fields by their keys, and the tile behind its registers (R208, R230).
-/

namespace Sys2Proof.Machine

/-! ### Fields told apart by their keys -/

/-- Every register field outside the PMU block and the keys in `P` reads as before. -/
def KeysBut (P : Nat → Prop) (s t : State) : Prop := ∀ g : Fld, ¬ inPmu g → ¬ P g.key → t.get g = s.get g

/-- The fields with keys in `P` may change, and else only what vectors and event counts change. -/
def Touches (P : Nat → Prop) (s t : State) : Prop := OnlySignals s t ∧ KeysBut P s t

/-- The keys of the words at `lo` up to but excluding `hi` in the map of tile `k` (R230). -/
abbrev mapKeys (k lo hi key : Nat) : Prop :=
  32 * (0x1000000 + 0x10000 * k + lo) ≤ key ∧ key < 32 * (0x1000000 + 0x10000 * k + hi)

theorem mapKeys_not_inPmu {k lo hi : Nat} {g : Fld} (h : mapKeys k lo hi g.key) : ¬ inPmu g := by omega

section
variable {P Q : Nat → Prop} {s t u : State}

theorem KeysBut.trans (h1 : KeysBut P s t) (h2 : KeysBut P t u) : KeysBut P s u := fun g hp hg => (h2 g hp hg).trans (h1 g hp hg)

theorem KeysBut.mono (h : KeysBut P s t) (hPQ : ∀ key, P key → Q key) : KeysBut Q s t := fun g hp hg => h g hp fun hk => hg (hPQ _ hk)

theorem KeysBut.fieldsButTiles {k : Nat} {l : List Fld} (h : KeysBut (fun key => mapKeys k 0 0x10000 key ∨ ∃ f ∈ l, key = f.key) s t) :
    FieldsButTiles [k] l s t := by
  refine fun g hp htile hl => h g hp ?_
  rintro (hk | ⟨f, hf, hkey⟩)
  · exact htile k (List.mem_singleton_self k) (by omega)
  · exact hl f hf hkey

theorem Touches.refl (P : Nat → Prop) (s : State) : Touches P s s := ⟨rfl, fun _ _ _ => rfl⟩

theorem Touches.trans (h1 : Touches P s t) (h2 : Touches P t u) : Touches P s u := ⟨h1.1.trans h2.1, h1.2.trans h2.2⟩

theorem Touches.mono (h : Touches P s t) (hPQ : ∀ key, P key → Q key) : Touches Q s t := ⟨h.1, h.2.mono hPQ⟩

theorem Touches.ite {c : Prop} [Decidable c] (ht : Touches P s t) (hu : Touches P s u) : Touches P s (if c then t else u) := by
  split <;> assumption

theorem Touches.signals {l : List Fld} (h : Touches (fun key => ∃ f ∈ l, key = f.key) s t) : Signals l s t := by
  refine ⟨h.1, fun g hp hl => h.2 g hp ?_⟩
  rintro ⟨f, hf, hkey⟩
  exact hl f hf hkey

theorem Touches.tile (h : Touches P s t) (k : Nat) : t.tile k = s.tile k := by rw [State.tile, h.1.tiles, State.tile]

theorem State.puts_touches (s : State) {l : List (Fld × Nat)} (h : ∀ p ∈ l, P p.1.key) : Touches P s (s.puts l) :=
  ⟨OnlyRegs.signals (s.puts_only l), fun g _ hg => s.get_puts_other l g fun p hp hk => hg (hk ▸ h p hp)⟩

theorem State.put_touches (s : State) (f : Fld) (v : Nat) (h : P f.key) : Touches P s (s.put f v) :=
  s.puts_touches (l := [(f, v)]) (by simpa using h)

theorem State.count_touches (s : State) (f : Fld) (n : Nat) (h : P f.key) : Touches P s (s.count f n) := s.put_touches f _ h

theorem State.setBit_touches (s : State) (f : Fld) (b : Nat) (h : P f.key) : Touches P s (s.setBit f b) := s.put_touches f _ h

theorem State.pmuTile_touches (s : State) (P : Nat → Prop) (k i n : Nat) : Touches P s (s.pmuTile k i n) := by
  refine Touches.ite (.refl P s) ?_
  exact ⟨s.pmu_only _ _ _, fun g hp _ => s.pmu_get _ _ _ hp⟩

theorem State.pmuTile_get (s : State) (k i n : Nat) {g : Fld} (hp : ¬ inPmu g) : (s.pmuTile k i n).get g = s.get g :=
  (s.pmuTile_touches (fun _ => False) k i n).2 g hp id

theorem State.raiseFix_touches (s : State) (b : Nat) (h : P R.TILE_FIX_EVT.key) : Touches P s (s.raiseFix b) := by
  refine ⟨s.raise_only _ _ _ b, fun g hp hg => s.raise_fields _ _ _ b [R.TILE_FIX_EVT] (List.mem_singleton_self _) g hp ?_⟩
  rintro f hf hkey
  rw [List.mem_singleton.1 hf] at hkey
  exact hg (hkey ▸ h)

/-! ### Steps taken for each element of a list -/

variable {α : Type} {f : State → α → State} {xs : List α}

theorem Touches.foldl (hf : ∀ x ∈ xs, ∀ u, Touches P u (f u x)) (s : State) : Touches P s (xs.foldl f s) := by
  induction xs generalizing s with
  | nil => exact .refl P s
  | cons x xs ih =>
    obtain ⟨hx, hxs⟩ := List.forall_mem_cons.1 hf
    exact (hx s).trans (ih hxs _)

/-- Where the elements' keys lie apart, the fields of one element are read as after its own step, taken from a state in which they are as at
the start. -/
theorem foldl_touches_apart {K : α → Nat → Prop} (hf : ∀ x ∈ xs, ∀ u, Touches (K x) u (f u x))
    (hapart : xs.Pairwise fun x y => ∀ key, K x key → ¬ K y key) {x : α} (hx : x ∈ xs) (hpmu : ∀ g : Fld, K x g.key → ¬ inPmu g)
    (s : State) : ∃ u, (∀ g : Fld, K x g.key → u.get g = s.get g) ∧ ∀ g : Fld, K x g.key → (xs.foldl f s).get g = (f u x).get g := by
  induction xs generalizing s with
  | nil => simp at hx
  | cons y xs ih =>
    obtain ⟨hy, hxs⟩ := List.forall_mem_cons.1 hf
    obtain ⟨hfirst, hrest⟩ := List.pairwise_cons.1 hapart
    rcases List.mem_cons.1 hx with rfl | hx
    · have hlater : Touches (fun key => ∃ z ∈ xs, K z key) (f s x) (xs.foldl f (f s x)) :=
        Touches.foldl (fun z hz u => (hxs z hz u).mono fun key hk => ⟨z, hz, hk⟩) _
      refine ⟨s, fun _ _ => rfl, fun g hg => hlater.2 g (hpmu g hg) ?_⟩
      rintro ⟨z, hz, hk⟩
      exact hfirst z hz _ hg hk
    · obtain ⟨u, hu, hread⟩ := ih hxs hrest hx (f s y)
      exact ⟨u, fun g hg => (hu g hg).trans ((hy s).2 g (hpmu g hg) fun hk => hfirst x hx _ hk hg), hread⟩

end

/-! ### Work on one tile -/

/-- Tile `k` and the fields with keys in `P` may change, free values may be used, and else only what vectors and event counts change. -/
def Works (k : Nat) (P : Nat → Prop) (s t : State) : Prop :=
  t = { s with freeIx := t.freeIx, regs := t.regs, out := t.out, host := t.host, tiles := t.tiles } ∧ OtherTiles [k] s t ∧ KeysBut P s t

section
variable {k : Nat} {P Q : Nat → Prop} {s t u : State}

theorem Works.trans (h1 : Works k P s t) (h2 : Works k P t u) : Works k P s u := by
  obtain ⟨heq1, htiles1, hkeys1⟩ := h1
  obtain ⟨heq2, htiles2, hkeys2⟩ := h2
  exact ⟨by rw [heq2, heq1], fun j hj => (htiles2 j hj).trans (htiles1 j hj), hkeys1.trans hkeys2⟩

theorem Works.mono (h : Works k P s t) (hPQ : ∀ key, P key → Q key) : Works k Q s t := ⟨h.1, h.2.1, h.2.2.mono hPQ⟩

theorem Works.mem (h : Works k P s t) : SameMem s t := fun a => by rw [h.1]

theorem Works.refl (k : Nat) (P : Nat → Prop) (s : State) : Works k P s s := ⟨rfl, fun _ _ => rfl, fun _ _ _ => rfl⟩

theorem Works.ite {c : Prop} [Decidable c] (ht : Works k P s t) (hu : Works k P s u) : Works k P s (if c then t else u) := by
  split <;> assumption

theorem Touches.works (h : Touches P s t) (k : Nat) : Works k P s t := ⟨by rw [h.1], fun j _ => h.tile j, h.2⟩

theorem State.setTile_works (s : State) (k : Nat) (x : TileSt) (P : Nat → Prop) : Works k P s (s.setTile k x) :=
  ⟨rfl, fun j hj => s.tile_setTile_other x (by simpa using hj), fun _ _ _ => rfl⟩

theorem State.useFree_works (s : State) (k n : Nat) (P : Nat → Prop) : Works k P s { s with freeIx := n } :=
  ⟨rfl, fun _ _ => rfl, fun _ _ _ => rfl⟩

end

end Sys2Proof.Machine
end

section
/-!
PROOFS. Exposures of a burst that begin, wait for a capacitor, cut the burst, or wait for operands (R208, R210, R211, R217, R230, R232, R254).
-/

namespace Sys2Proof.Machine

/-! ### An exposure begins -/

/-- The keys of TILE_EXP, and those of TILE_AEc. -/
abbrev expKeys (k : Nat) : Nat → Prop := mapKeys k 0x14 0x1C
abbrev aeKeys (k c : Nat) : Nat → Prop := mapKeys k (0x5C00 + 4 * c) (0x5C00 + 4 * c + 4)

theorem State.countExposure_touches (s : State) (k : Nat) : Touches (expKeys k) s (s.countExposure k) :=
  s.puts_touches (by simp [Fld.key, R.TILE_EXP_LO, R.TILE_EXP_HI]; omega)

theorem expLow_apart (k : Nat) : ¬ inPmu (R.TILE_EXP_LO k) ∧ ¬ mapKeys k 0x5C00 0x6400 (R.TILE_EXP_LO k).key := by
  simp only [inPmu, mapKeys, Fld.key, R.TILE_EXP_LO]
  omega

theorem State.countExposure_low (s : State) (k : Nat) (hlow : s.get (R.TILE_EXP_LO k) + 1 < 2 ^ 32)
    (hhigh : s.get (R.TILE_EXP_HI k) < 2 ^ 16) : (s.countExposure k).get (R.TILE_EXP_LO k) = s.get (R.TILE_EXP_LO k) + 1 := by
  have hkey : (R.TILE_EXP_LO k).key ≠ (R.TILE_EXP_HI k).key := by simp [Fld.key, R.TILE_EXP_LO, R.TILE_EXP_HI]
  have hsum : s.get (R.TILE_EXP_LO k) + 2 ^ 32 * s.get (R.TILE_EXP_HI k) + 1 < 2 ^ 48 := by omega
  rw [State.countExposure, satAdd, if_pos hsum, State.puts_cons, State.puts_cons, State.puts_nil, State.get_put_other _ _ _ _ hkey,
    State.get_put_same]
  show _ % 2 ^ 32 = _
  omega

theorem State.takeShifts_touches (s : State) (k : Nat) : Touches (mapKeys k 0x5C00 0x6400) s (s.takeShifts k) := by
  refine Touches.foldl (fun c hc u => Touches.ite (u.puts_touches ?_) (.refl _ u)) s
  have hc : c < 512 := List.mem_range.1 hc
  simp [mapKeys, Fld.key, R.TILE_AE_cur_shift, R.TILE_AE_pending]
  omega

section
variable (s : State) (k : Nat) (b : Burst) (p : Plate) (row : Nat)

/-- The exposure counted, as every begun exposure is (R230). -/
def State.exposureCounted : State := (s.countExposure k).pmuTile k 0 1

/-- The state in which the next exposure integrates. -/
def State.groupBegun : State :=
  if b.started % b.cmd.perGroup = 0 then
    { (s.exposureCounted k).takeShifts k with freeIx := ((s.exposureCounted k).takeShifts k).freeIx + 512 }
  else s.exposureCounted k

/-- What the group of the next exposure runs on, where that exposure is its first (R207, R215, R326). -/
def State.groupLoad : GroupLoad :=
  let u := (s.exposureCounted k).takeShifts k
  ⟨u.groupOperands k b (groupRows p.rowGroup) row (b.cmd.groupAt b.started), (List.range 512).map (fun c => u.get (R.TILE_AE_cur_shift k c)),
    toSigned 16 (u.get (R.TILE_GAIN_y_temp k)), toSigned 16 (u.get (R.TILE_GAIN_g_drift k))⟩

/-- The burst with the operands and shifts its next exposure runs on. -/
def State.groupTaken : Burst :=
  { b with loaded := if b.started % b.cmd.perGroup = 0 then b.loaded ++ [s.groupLoad k b p row] else b.loaded }

theorem State.exposureBegin_eq : s.exposureBegin k b p row = (s.groupBegun k b).integrateNext k (s.groupTaken k b p row) p := by
  unfold State.exposureBegin State.groupBegun State.groupTaken
  split
  · rfl
  · rfl

theorem State.exposureCounted_touches : Touches (expKeys k) s (s.exposureCounted k) :=
  (s.countExposure_touches k).trans (State.pmuTile_touches _ _ _ _ _)

/-- After an exposure is counted, its beginning reaches no field of the tile but the shifts. -/
theorem State.groupBegun_works : Works k (mapKeys k 0x5C00 0x6400) (s.exposureCounted k) (s.groupBegun k b) := by
  refine Works.ite ?_ (.refl ..)
  exact ((State.takeShifts_touches _ k).works k).trans (State.useFree_works _ k _ _)

theorem State.integrateNext_works (P : Nat → Prop) : Works k P s (s.integrateNext k b p) := s.setTile_works k _ P

/-- The capacitor the exposure integrates on holds its charges. -/
theorem State.integrateNext_tile : ∃ charges, (s.integrateNext k b p).tile k =
    { s.tile k with burst := some { b with started := b.started + 1 },
                    caps := (s.tile k).caps.set (Fin.ofNat 2 b.started) (some charges) } :=
  ⟨_, s.tile_setTile_same k _⟩

theorem State.exposureBegin_tile : ∃ charges, (s.exposureBegin k b p row).tile k =
    { (s.groupBegun k b).tile k with
      burst := some { s.groupTaken k b p row with started := b.started + 1 },
      caps := ((s.groupBegun k b).tile k).caps.set (Fin.ofNat 2 b.started) (some charges) } := by
  rw [State.exposureBegin_eq]
  exact State.integrateNext_tile _ k _ p

theorem State.exposureBegin_works : Works k (mapKeys k 0 0x10000) s (s.exposureBegin k b p row) := by
  rw [State.exposureBegin_eq]
  exact (((s.exposureCounted_touches k).works k).mono (by omega)).trans
    (((s.groupBegun_works k b).mono (by omega)).trans (State.integrateNext_works _ k _ p _))

theorem State.exposureBegin_low (hlow : s.get (R.TILE_EXP_LO k) + 1 < 2 ^ 32) (hhigh : s.get (R.TILE_EXP_HI k) < 2 ^ 16) :
    (s.exposureBegin k b p row).get (R.TILE_EXP_LO k) = s.get (R.TILE_EXP_LO k) + 1 := by
  obtain ⟨hpmu, hshifts⟩ := expLow_apart k
  have hafter : Works k (mapKeys k 0x5C00 0x6400) (s.exposureCounted k) (s.exposureBegin k b p row) := by
    rw [State.exposureBegin_eq]
    exact (s.groupBegun_works k b).trans (State.integrateNext_works _ k _ p _)
  calc (s.exposureBegin k b p row).get (R.TILE_EXP_LO k)
      = (s.exposureCounted k).get (R.TILE_EXP_LO k) := hafter.2.2 _ hpmu hshifts
    _ = (s.countExposure k).get (R.TILE_EXP_LO k) := State.pmuTile_get _ _ _ _ hpmu
    _ = s.get (R.TILE_EXP_LO k) + 1 := s.countExposure_low k hlow hhigh

end

/-! ### A burst is cut (R232) -/

/-- The keys a cut reaches on tile `k`: TILE_EVT and TILE_CNT0.slot_overruns. -/
abbrev cutKeys (k : Nat) : Nat → Prop := fun key => key = (R.TILE_CNT0_slot_overruns k).key ∨ key = (R.TILE_EVT k).key

theorem cutKeys_apart {j k key : Nat} (h : j ≠ k) (hj : cutKeys j key) : ¬ cutKeys k key := by
  simp only [cutKeys, Fld.key, R.TILE_CNT0_slot_overruns, R.TILE_EVT] at *
  omega

theorem cutKeys_not_inPmu {k : Nat} {g : Fld} (h : cutKeys k g.key) : ¬ inPmu g := by
  simp only [cutKeys, Fld.key, R.TILE_CNT0_slot_overruns, R.TILE_EVT, inPmu] at *
  omega

theorem State.countCut_touches (s : State) (k : Nat) : Touches (cutKeys k) s (s.countCut k) :=
  ((s.count_touches _ 1 (.inl rfl)).trans (State.setBit_touches _ _ 0 (.inr rfl))).trans (State.pmuTile_touches _ _ _ _ _)

theorem State.countCut_overruns (s : State) (k : Nat) :
    (s.countCut k).get (R.TILE_CNT0_slot_overruns k) = satAdd 16 (s.get (R.TILE_CNT0_slot_overruns k)) 1 := by
  have hkey : (R.TILE_CNT0_slot_overruns k).key ≠ (R.TILE_EVT k).key := by
    simp [Fld.key, R.TILE_CNT0_slot_overruns, R.TILE_EVT]
  rw [State.countCut, State.pmuTile_get _ _ _ _ (cutKeys_not_inPmu (k := k) (.inl rfl)), State.setBit_eq, State.get_put_other _ _ _ _ hkey,
    State.get_count_same]
  rfl

theorem State.countCut_bitSet (s : State) (k : Nat) : BitSet (s.countCut k) (R.TILE_EVT k) 0 := by
  rw [BitSet, State.countCut, State.pmuTile_get _ _ _ _ (cutKeys_not_inPmu (k := k) (.inr rfl)), State.setBit_bit _ _ _ _ (show _ < 6 by decide),
    BEq.rfl, Bool.or_true]

/-- The tiles of a plate with a group not committed. -/
def State.uncommitted (s : State) (p : Plate) : List TileRec :=
  p.tiles.filter (fun r => match (s.tile r.tile).burst with | some d => !d.committed | none => false)

theorem State.mem_uncommitted {s : State} {p : Plate} {q : TileRec} {d : Burst} (hq : q ∈ p.tiles) (hd : (s.tile q.tile).burst = some d)
    (hopen : d.committed = false) : q ∈ s.uncommitted p := by
  rw [State.uncommitted, List.mem_filter, hd]
  exact ⟨hq, by simp [hopen]⟩

/-- Every tile of the plate with a group not committed counts the cut. -/
def State.cutsCounted (s : State) (p : Plate) : State := (s.uncommitted p).foldl (fun u r => u.countCut r.tile) s

/-- A tile with nothing undeveloped has nothing to develop at a cut. -/
theorem State.drainTile_idle {s : State} {k : Nat} (h : ∀ d, (s.tile k).burst = some d → d.started ≤ d.developed) (n : Nat) :
    s.drainTile k n = s := by
  cases n with
  | zero => rfl
  | succ n =>
    unfold State.drainTile
    split
    case h_1 d r hd hr => rw [if_pos (h d hd)]
    case h_2 => rfl

theorem State.burstCut_developed {s : State} (k : Nat) (b : Burst) (p : Plate)
    (h : ∀ q ∈ p.tiles, ∀ d, (s.tile q.tile).burst = some d → d.started ≤ d.developed) :
    s.burstCut k b p = (s.cutsCounted p).burstError k b p := by
  have hdrain : ∀ l : List TileRec, (∀ q ∈ l, q ∈ p.tiles) → l.foldl (fun u r => u.drainTile r.tile 2) s = s := by
    intro l hl
    induction l with
    | nil => rfl
    | cons q l ih =>
      obtain ⟨hq, hl⟩ := List.forall_mem_cons.1 hl
      rw [List.foldl_cons, State.drainTile_idle (h q hq), ih hl]
  unfold State.burstCut
  rw [hdrain p.tiles fun _ hq => hq]
  rfl

theorem State.cutsCounted_signals (s : State) (p : Plate) :
    Signals (p.tiles.flatMap (fun q => [R.TILE_CNT0_slot_overruns q.tile, R.TILE_EVT q.tile])) s (s.cutsCounted p) := by
  refine Touches.signals (Touches.foldl (fun q hq u => (u.countCut_touches q.tile).mono fun key hkey => ?_) s)
  have hmem : q ∈ p.tiles := List.mem_of_mem_filter hq
  rcases hkey with hkey | hkey
  · exact ⟨_, List.mem_flatMap.2 ⟨q, hmem, by simp⟩, hkey⟩
  · exact ⟨_, List.mem_flatMap.2 ⟨q, hmem, by simp⟩, hkey⟩

/-- A tile named once by its plate counts a cut once. -/
theorem State.cutsCounted_counts {s : State} {p : Plate} (hapart : (p.tiles.map TileRec.tile).Nodup) {q : TileRec} (hq : q ∈ s.uncommitted p) :
    (s.cutsCounted p).get (R.TILE_CNT0_slot_overruns q.tile) = satAdd 16 (s.get (R.TILE_CNT0_slot_overruns q.tile)) 1 ∧
      BitSet (s.cutsCounted p) (R.TILE_EVT q.tile) 0 := by
  have hpairs : (s.uncommitted p).Pairwise fun x y => ∀ key, cutKeys x.tile key → ¬ cutKeys y.tile key :=
    ((List.pairwise_map.1 hapart).sublist List.filter_sublist).imp fun hne _ => cutKeys_apart hne
  obtain ⟨u, hu, hread⟩ := foldl_touches_apart (fun x _ v => State.countCut_touches v x.tile) hpairs hq (fun g => cutKeys_not_inPmu) s
  refine ⟨?_, ?_⟩
  · rw [State.cutsCounted, hread _ (.inl rfl), State.countCut_overruns, hu _ (.inl rfl)]
  · rw [BitSet, State.cutsCounted, hread _ (.inr rfl)]
    exact u.countCut_bitSet q.tile

/-! ### Operands that arrive late (R210, R211) -/

theorem State.moveBurst_same {s : State} {k : Nat} {b : Burst} (h : (s.tile k).burst = some b) (wait : Nat) :
    ((s.moveBurst k wait).tile k).burst = some { b with t0 := b.t0 + wait } := by
  rw [State.moveBurst, h]
  exact congrArg TileSt.burst (s.tile_setTile_same k _)

theorem State.moveBurst_other (s : State) {j k : Nat} (h : j ≠ k) (wait : Nat) : (s.moveBurst k wait).tile j = s.tile j := by
  unfold State.moveBurst
  split
  · exact s.tile_setTile_other _ h
  · rfl

theorem State.moveBurst_only (s : State) (k wait : Nat) : OnlyTiles s (s.moveBurst k wait) := by
  unfold State.moveBurst
  split <;> rfl

/-- The bursts of a tile and of its slice partner, where it has one, moved on. -/
def State.moveBursts (s : State) (k : Nat) (partner : Option Nat) (wait : Nat) : State :=
  ([k] ++ partner.toList).foldl (fun u t => u.moveBurst t wait) s

section
variable (s : State) (k : Nat) (partner : Option Nat) (wait : Nat)

theorem State.moveBursts_only : OnlyTiles s (s.moveBursts k partner wait) := by
  cases partner with
  | none => exact s.moveBurst_only k wait
  | some u => exact (s.moveBurst_only k wait).trans (State.moveBurst_only _ u wait)

theorem State.moveBursts_otherTiles : OtherTiles (k :: partner.toList) s (s.moveBursts k partner wait) := by
  intro j hj
  cases partner with
  | none => exact s.moveBurst_other (by simpa using hj) wait
  | some u =>
    obtain ⟨hk, hu⟩ : j ≠ k ∧ j ≠ u := by simpa using hj
    exact (State.moveBurst_other _ hu wait).trans (s.moveBurst_other hk wait)

variable {s k partner}

theorem State.moveBursts_same {b : Burst} (hb : (s.tile k).burst = some b) (hpartner : ∀ u, partner = some u → u ≠ k) :
    ((s.moveBursts k partner wait).tile k).burst = some { b with t0 := b.t0 + wait } := by
  cases partner with
  | none => exact State.moveBurst_same hb wait
  | some u =>
    have hk : (s.moveBursts k (some u) wait).tile k = (s.moveBurst k wait).tile k := State.moveBurst_other _ (hpartner u rfl).symm wait
    rw [hk, State.moveBurst_same hb wait]

theorem State.moveBursts_partner {u : Nat} {d : Burst} (hd : (s.tile u).burst = some d) (hu : u ≠ k) :
    ((s.moveBursts k (some u) wait).tile u).burst = some { d with t0 := d.t0 + wait } :=
  State.moveBurst_same ((congrArg TileSt.burst (s.moveBurst_other hu wait)).trans hd) wait

end

/-- The wait counted and flagged (R211). -/
def State.waitCounted (s : State) (k wait : Nat) : State :=
  ((s.count (R.TILE_CNT1_operand_wait k) wait).setBit (R.TILE_EVT k) 3).pmuTile k 5 (wait * 4 / 5)

theorem State.waitCounted_signals (s : State) (k wait : Nat) : Signals [R.TILE_CNT1_operand_wait k, R.TILE_EVT k] s (s.waitCounted k wait) :=
  Touches.signals (((s.count_touches _ wait ⟨_, by simp, rfl⟩).trans (State.setBit_touches _ _ 3 ⟨_, by simp, rfl⟩)).trans
    (State.pmuTile_touches _ _ _ _ _))

theorem State.waitCounted_wait (s : State) (k wait : Nat) :
    (s.waitCounted k wait).get (R.TILE_CNT1_operand_wait k) = satAdd 32 (s.get (R.TILE_CNT1_operand_wait k)) wait := by
  have hkey : (R.TILE_CNT1_operand_wait k).key ≠ (R.TILE_EVT k).key := by simp [Fld.key, R.TILE_CNT1_operand_wait, R.TILE_EVT]
  have hpmu : ¬ inPmu (R.TILE_CNT1_operand_wait k) := by simp only [inPmu, Fld.key, R.TILE_CNT1_operand_wait]; omega
  rw [State.waitCounted, State.pmuTile_get _ _ _ _ hpmu, State.setBit_eq, State.get_put_other _ _ _ _ hkey, State.get_count_same]
  rfl

theorem State.waitCounted_bitSet (s : State) (k wait : Nat) : BitSet (s.waitCounted k wait) (R.TILE_EVT k) 3 := by
  have hpmu : ¬ inPmu (R.TILE_EVT k) := by simp only [inPmu, Fld.key, R.TILE_EVT]; omega
  rw [BitSet, State.waitCounted, State.pmuTile_get _ _ _ _ hpmu, State.setBit_bit _ _ _ _ (show _ < 6 by decide), BEq.rfl, Bool.or_true]

/-- The late operands' wait counted, and the bursts moved on by it. -/
def State.operandsMoved (s : State) (k : Nat) (partner : Option Nat) (wait : Nat) : State := (s.waitCounted k wait).moveBursts k partner wait

section
variable (s : State) (k : Nat) (partner : Option Nat) (wait : Nat)

theorem State.waitCounted_tile (j : Nat) : (s.waitCounted k wait).tile j = s.tile j := by
  rw [State.tile, (s.waitCounted_signals k wait).1.tiles, State.tile]

theorem State.operandsMoved_get (g : Fld) : (s.operandsMoved k partner wait).get g = (s.waitCounted k wait).get g := by
  rw [State.operandsMoved, State.moveBursts_only]
  rfl

theorem State.operandsMoved_fields :
    FieldsButPmu [R.TILE_CNT1_operand_wait k, R.TILE_EVT k] s (s.operandsMoved k partner wait) := fun g hp hg =>
  (s.operandsMoved_get k partner wait g).trans ((s.waitCounted_signals k wait).2 g hp hg)

theorem State.operandsMoved_otherTiles : OtherTiles (k :: partner.toList) s (s.operandsMoved k partner wait) := fun j hj =>
  (State.moveBursts_otherTiles _ k partner wait j hj).trans (s.waitCounted_tile k wait j)

theorem State.operandsMoved_mem : SameMem s (s.operandsMoved k partner wait) := fun a => by
  rw [State.operandsMoved, State.moveBursts_only]
  exact congrArg (Memory.get · a) (s.waitCounted_signals k wait).1.mem

variable {s k partner}

theorem State.operandsMoved_same {b : Burst} (hb : (s.tile k).burst = some b) (hpartner : ∀ u, partner = some u → u ≠ k) :
    ((s.operandsMoved k partner wait).tile k).burst = some { b with t0 := b.t0 + wait } :=
  State.moveBursts_same wait ((congrArg TileSt.burst (s.waitCounted_tile k wait k)).trans hb) hpartner

theorem State.operandsMoved_partner {u : Nat} {d : Burst} (hd : (s.tile u).burst = some d) (hu : u ≠ k) :
    ((s.operandsMoved k (some u) wait).tile u).burst = some { d with t0 := d.t0 + wait } :=
  State.moveBursts_partner wait ((congrArg TileSt.burst (s.waitCounted_tile k wait u)).trans hd) hu

end

/-! ### What the commands answer -/

section
variable {k : Fin 256} {b : Burst} {r : ResImage × Plate × TileRec} {s : State} (hb : (s.tile k.val).burst = some b)
  (hr : s.tileRec k.val = some r)
include hb hr

theorem exec_operandArrival (hleft : b.started < b.cmd.total) (hfirst : b.started % b.cmd.perGroup = 0)
    (hlate : b.startOf r.2.1.acc16 b.started < 16 * s.horizon) :
    let late := (16 * s.horizon - b.startOf r.2.1.acc16 b.started + periodOf r.2.1.acc16 - 1) / periodOf r.2.1.acc16 * periodOf r.2.1.acc16
    exec (.operandArrival k) s = .next (s.operandsMoved k.val (r.2.1.partner r.2.2) late) := by
  show execOperandArrival k s = _
  rw [execOperandArrival, hb, hr]
  exact congrArg _ (if_neg (by omega))

theorem exec_exposureStart_due (hleft : b.started < b.cmd.total) (hdue : b.startOf r.2.1.acc16 b.started < s.halfNs)
    (hfree : s.tileForced k.val = false) : exec (.exposureStart k) s = .next
      (if b.slotEnd ≤ b.startOf r.2.1.acc16 b.started + windowOf r.2.1.acc16 then s.burstCut k.val b r.2.1
       else if b.developed + 2 ≤ b.started then s else s.exposureBegin k.val b r.2.1 r.2.2.row) := by
  show execExposureStart k s = _
  rw [execExposureStart, hb, hr]
  exact congrArg _ (if_neg (by simp [hfree]; omega))

end

end Sys2Proof.Machine
end

section
/-!
PROOFS. The ends of a tile's windows: the auto-exposure decisions (R253), and the latch of the fog sums with the drift estimates behind it
(R222, R325–R328).
-/

namespace Sys2Proof.Machine

/-! ### One column's auto-exposure decision -/

section
variable (s : State) (k c s0 limit w : Nat)

/-- The decision for one column, before its window is emptied. -/
def State.aeDecided : State :=
  if limit * w < 256 * s.get (R.TILE_AE_win_clips k c) ∧ s.get (R.TILE_AE_cur_shift k c) < 7 then
    ((s.puts [(R.TILE_AE_next_shift k c, s.get (R.TILE_AE_cur_shift k c) + 1), (R.TILE_AE_pending k c, 1)]).count
      (R.TILE_AE_changes k c) 1).pmuTile k 2 1
  else if s.get (R.TILE_AE_win_clips k c) = 0 ∧ s.get (R.TILE_AE_win_peak k c) ≤ 63 ∧ s0 < s.get (R.TILE_AE_cur_shift k c) then
    ((s.puts [(R.TILE_AE_next_shift k c, s.get (R.TILE_AE_cur_shift k c) - 1), (R.TILE_AE_pending k c, 1)]).count
      (R.TILE_AE_changes k c) 1).pmuTile k 3 1
  else s.puts [(R.TILE_AE_next_shift k c, s.get (R.TILE_AE_cur_shift k c)), (R.TILE_AE_pending k c, 0)]

/-- What empties a column's window. -/
def aeEmpty (k c : Nat) : List (Fld × Nat) := [(R.TILE_AE_win_clips k c, 0), (R.TILE_AE_win_peak k c, 0)]

theorem State.aeColumn_eq : s.aeColumn k c s0 limit w = (s.aeDecided k c s0 limit w).puts (aeEmpty k c) := rfl

theorem State.aeDecided_touches : Touches (aeKeys k c) s (s.aeDecided k c s0 limit w) := by
  have hdecision : ∀ next pending, Touches (aeKeys k c) s (s.puts [(R.TILE_AE_next_shift k c, next), (R.TILE_AE_pending k c, pending)]) :=
    fun next pending => s.puts_touches (by simp [Fld.key, R.TILE_AE_next_shift, R.TILE_AE_pending]; omega)
  have hchanges : aeKeys k c (R.TILE_AE_changes k c).key := by simp [Fld.key, R.TILE_AE_changes]; omega
  have hchanged : ∀ u i, Touches (aeKeys k c) u ((u.count (R.TILE_AE_changes k c) 1).pmuTile k i 1) :=
    fun u i => (u.count_touches _ 1 hchanges).trans (State.pmuTile_touches _ _ _ _ _)
  exact .ite ((hdecision _ _).trans (hchanged _ _)) (.ite ((hdecision _ _).trans (hchanged _ _)) (hdecision _ _))

theorem State.aeColumn_touches : Touches (aeKeys k c) s (s.aeColumn k c s0 limit w) :=
  (s.aeDecided_touches k c s0 limit w).trans
    (State.puts_touches _ (by simp [Fld.key, R.TILE_AE_win_clips, R.TILE_AE_win_peak]; omega))

theorem State.aeColumn_emptied :
    (s.aeColumn k c s0 limit w).get (R.TILE_AE_win_clips k c) = 0 ∧ (s.aeColumn k c s0 limit w).get (R.TILE_AE_win_peak k c) = 0 := by
  have hkey : (R.TILE_AE_win_clips k c).key ≠ (R.TILE_AE_win_peak k c).key := by simp [Fld.key, R.TILE_AE_win_clips, R.TILE_AE_win_peak]
  rw [State.aeColumn_eq, aeEmpty, State.puts_cons, State.puts_cons, State.puts_nil, State.get_put_other _ _ _ _ hkey, State.get_put_same,
    State.get_put_same]
  exact ⟨Nat.zero_mod _, Nat.zero_mod _⟩

/-- Emptying a column's window leaves its decision. -/
theorem State.aeColumn_get {g : Fld} (hclips : g.key ≠ (R.TILE_AE_win_clips k c).key) (hpeak : g.key ≠ (R.TILE_AE_win_peak k c).key) :
    (s.aeColumn k c s0 limit w).get g = (s.aeDecided k c s0 limit w).get g :=
  State.get_puts_other _ _ g (by simp [hclips, hpeak])

theorem State.aeColumn_next : (s.aeColumn k c s0 limit w).get (R.TILE_AE_next_shift k c) =
    (s.aeDecided k c s0 limit w).get (R.TILE_AE_next_shift k c) :=
  s.aeColumn_get k c s0 limit w (by simp [Fld.key, R.TILE_AE_next_shift, R.TILE_AE_win_clips])
    (by simp [Fld.key, R.TILE_AE_next_shift, R.TILE_AE_win_peak])

theorem State.aeColumn_pending : (s.aeColumn k c s0 limit w).get (R.TILE_AE_pending k c) =
    (s.aeDecided k c s0 limit w).get (R.TILE_AE_pending k c) :=
  s.aeColumn_get k c s0 limit w (by simp [Fld.key, R.TILE_AE_pending, R.TILE_AE_win_clips])
    (by simp [Fld.key, R.TILE_AE_pending, R.TILE_AE_win_peak])

/-- A column clipped more than its limit, and below shift 7, asks for one more shift. -/
theorem State.aeColumn_clipped (hclips : limit * w < 256 * s.get (R.TILE_AE_win_clips k c)) (hcur : s.get (R.TILE_AE_cur_shift k c) < 7) :
    (s.aeColumn k c s0 limit w).get (R.TILE_AE_next_shift k c) = s.get (R.TILE_AE_cur_shift k c) + 1 ∧
      (s.aeColumn k c s0 limit w).get (R.TILE_AE_pending k c) = 1 := by
  have hkeys : (R.TILE_AE_next_shift k c).key ≠ (R.TILE_AE_pending k c).key ∧ (R.TILE_AE_next_shift k c).key ≠ (R.TILE_AE_changes k c).key ∧
      (R.TILE_AE_pending k c).key ≠ (R.TILE_AE_changes k c).key := by
    simp [Fld.key, R.TILE_AE_next_shift, R.TILE_AE_pending, R.TILE_AE_changes]
  have hpmu : ¬ inPmu (R.TILE_AE_next_shift k c) ∧ ¬ inPmu (R.TILE_AE_pending k c) := by
    simp only [inPmu, Fld.key, R.TILE_AE_next_shift, R.TILE_AE_pending]
    omega
  obtain ⟨hpending, hchanges, hchanges'⟩ := hkeys
  rw [State.aeColumn_next, State.aeColumn_pending, State.aeDecided, if_pos ⟨hclips, hcur⟩, State.pmuTile_get _ _ _ _ hpmu.1,
    State.pmuTile_get _ _ _ _ hpmu.2, State.count_eq, State.get_put_other _ _ _ _ hchanges, State.get_put_other _ _ _ _ hchanges',
    State.puts_cons, State.puts_cons, State.puts_nil, State.get_put_other _ _ _ _ hpending, State.get_put_same, State.get_put_same]
  exact ⟨Nat.mod_eq_of_lt (show _ < 8 by omega), rfl⟩

/-- A column that passes neither test has nothing pending. -/
theorem State.aeColumn_kept (hclips : 256 * s.get (R.TILE_AE_win_clips k c) ≤ limit * w)
    (hlow : s.get (R.TILE_AE_win_clips k c) ≠ 0 ∨ 63 < s.get (R.TILE_AE_win_peak k c) ∨ s.get (R.TILE_AE_cur_shift k c) ≤ s0) :
    (s.aeColumn k c s0 limit w).get (R.TILE_AE_pending k c) = 0 := by
  rw [State.aeColumn_pending, State.aeDecided, if_neg (by omega), if_neg (by omega), State.puts_cons, State.puts_cons, State.puts_nil,
    State.get_put_same]
  rfl

end

/-! ### The end of an auto-exposure window -/

section
variable (s : State) (k : Nat) (p : Plate)

/-- The decisions for all columns. -/
def State.aeColumns : State := (List.range 512).foldl (fun u c => u.aeColumn k c p.adcShift p.clipLimit (2 ^ p.aeWindow)) s

/-- What counts a window and starts the next. -/
def State.aePuts : List (Fld × Nat) := [(R.TILE_AE_WIN_pos k, 0), (R.TILE_AE_WIN_seq k, s.get (R.TILE_AE_WIN_seq k) + 1)]

theorem State.aeWindow_eq : s.aeWindow k p = (s.aeColumns k p).puts ((s.aeColumns k p).aePuts k) := rfl

theorem aeKeys_range {c : Nat} (hc : c ∈ List.range 512) (key : Nat) (h : aeKeys k c key) : mapKeys k 0x5C00 0x6400 key := by
  have hc : c < 512 := List.mem_range.1 hc
  omega

theorem State.aeColumns_touches : Touches (mapKeys k 0x5C00 0x6400) s (s.aeColumns k p) :=
  Touches.foldl (fun c hc u => (u.aeColumn_touches k c _ _ _).mono (aeKeys_range k hc)) s

theorem State.aePuts_touches (u : State) : Touches (mapKeys k 0x5800 0x5804) s (s.puts (u.aePuts k)) :=
  s.puts_touches (by simp [State.aePuts, Fld.key, R.TILE_AE_WIN_pos, R.TILE_AE_WIN_seq]; omega)

theorem State.aeWindow_touches : Touches (mapKeys k 0x5800 0x6400) s (s.aeWindow k p) :=
  ((s.aeColumns_touches k p).mono (by omega)).trans ((State.aePuts_touches _ k _).mono (by omega))

theorem aeSeq_apart : ¬ inPmu (R.TILE_AE_WIN_seq k) ∧ ¬ mapKeys k 0x5C00 0x6400 (R.TILE_AE_WIN_seq k).key := by
  simp only [inPmu, mapKeys, Fld.key, R.TILE_AE_WIN_seq]
  omega

theorem State.aeWindow_counted : (s.aeWindow k p).get (R.TILE_AE_WIN_pos k) = 0 ∧
    (s.aeWindow k p).get (R.TILE_AE_WIN_seq k) = (s.get (R.TILE_AE_WIN_seq k) + 1) % 2 ^ 16 := by
  have hkey : (R.TILE_AE_WIN_pos k).key ≠ (R.TILE_AE_WIN_seq k).key := by simp [Fld.key, R.TILE_AE_WIN_pos, R.TILE_AE_WIN_seq]
  have hseq := (s.aeColumns_touches k p).2 _ (aeSeq_apart k).1 (aeSeq_apart k).2
  rw [State.aeWindow_eq, State.aePuts, State.puts_cons, State.puts_cons, State.puts_nil, State.get_put_other _ _ _ _ hkey, State.get_put_same,
    State.get_put_same, hseq]
  exact ⟨Nat.zero_mod _, rfl⟩

/-- After a window a column's fields are as its own decision leaves them. -/
theorem State.aeWindow_column {c : Nat} (hc : c < 512) : ∃ u : State, (∀ g : Fld, aeKeys k c g.key → u.get g = s.get g) ∧
    ∀ g : Fld, aeKeys k c g.key → (s.aeWindow k p).get g = (u.aeColumn k c p.adcShift p.clipLimit (2 ^ p.aeWindow)).get g := by
  have hpairs : (List.range 512).Pairwise fun i j => ∀ key, aeKeys k i key → ¬ aeKeys k j key :=
    List.pairwise_lt_range.imp (by omega)
  obtain ⟨u, hu, hread⟩ := foldl_touches_apart (fun i _ v => State.aeColumn_touches v k i p.adcShift p.clipLimit (2 ^ p.aeWindow)) hpairs
    (List.mem_range.2 hc) (fun g hg => mapKeys_not_inPmu hg) s
  refine ⟨u, hu, fun g hg => ?_⟩
  exact ((State.aePuts_touches _ k _).2 g (mapKeys_not_inPmu hg) (by omega)).trans (hread g hg)

end

theorem aeKeys_fields (k c : Nat) : aeKeys k c (R.TILE_AE_win_clips k c).key ∧ aeKeys k c (R.TILE_AE_win_peak k c).key ∧
    aeKeys k c (R.TILE_AE_cur_shift k c).key ∧ aeKeys k c (R.TILE_AE_next_shift k c).key ∧ aeKeys k c (R.TILE_AE_pending k c).key := by
  simp only [Fld.key, R.TILE_AE_win_clips, R.TILE_AE_win_peak, R.TILE_AE_cur_shift, R.TILE_AE_next_shift, R.TILE_AE_pending]
  omega

/-! ### A tile that becomes due for refixing (R328) -/

/-- The keys that a latched window reaches: the drift registers of the tile, and the due marks. -/
abbrev driftKeys (k : Nat) : Nat → Prop :=
  fun key => mapKeys k 0xB000 0xC000 key ∨ ∃ f ∈ [R.TILE_DUE0, R.TILE_DUE1, R.TILE_FIX_EVT], key = f.key

theorem State.tileDue_touches (s : State) (k : Nat) : Touches (driftKeys k) s (s.tileDue k) := by
  have hdue : driftKeys k (R.TILE_FIXSTAT_due k).key := .inl (by simp [Fld.key, R.TILE_FIXSTAT_due]; omega)
  unfold State.tileDue
  split
  case h_1 => exact .refl _ s
  case h_2 o _ =>
    refine .ite (.refl _ s) (((s.put_touches _ 1 hdue).trans (.ite ?_ ?_)).trans (State.raiseFix_touches _ 3 ?_))
    · exact State.setBit_touches _ _ _ (.inr ⟨R.TILE_DUE0, by simp, rfl⟩)
    · exact State.setBit_touches _ _ _ (.inr ⟨R.TILE_DUE1, by simp, rfl⟩)
    · exact .inr ⟨R.TILE_FIX_EVT, by simp, rfl⟩

theorem State.driftUpdate_touches (s : State) (k : Nat) (p : Plate) : Touches (driftKeys k) s (s.driftUpdate k p) := by
  have hevt : driftKeys k R.TILE_FIX_EVT.key := .inr ⟨R.TILE_FIX_EVT, by simp, rfl⟩
  have hthin : driftKeys k (R.TILE_FIXCNT1_thin_windows k).key := .inl (by simp [Fld.key, R.TILE_FIXCNT1_thin_windows]; omega)
  have hover : driftKeys k (R.TILE_FIXSTAT_over_budget k).key := .inl (by simp [Fld.key, R.TILE_FIXSTAT_over_budget]; omega)
  have hfault : driftKeys k (R.TILE_FIXSTAT_fog_fault k).key := .inl (by simp [Fld.key, R.TILE_FIXSTAT_fog_fault]; omega)
  unfold State.driftUpdate
  extract_lets resid expect0 curve s1
  have hestimate : Touches (driftKeys k) s s1 := by
    unfold s1
    split
    case h_1 => exact s.count_touches _ 1 hthin
    case h_2 d _ =>
      extract_lets u v off
      have hu : Touches (mapKeys k 0xB000 0xC000) s u := s.puts_touches (by
        simp [Fld.key, R.TILE_DRIFT0_d7, R.TILE_DRIFT0_d4, R.TILE_DRIFT1_d1, R.TILE_DRIFT1_resid, R.TILE_GAIN_g_drift, R.TILE_DRIFT_SEQ_window]
        omega)
      have hv : Touches (driftKeys k) s v := (hu.mono fun _ => Or.inl).trans
        (.ite ((u.put_touches _ 1 hover).trans (State.raiseFix_touches _ 4 hevt)) (.refl _ u))
      exact .ite (hv.trans (v.tileDue_touches k)) hv
  exact .ite ((hestimate.trans (s1.put_touches _ 1 hfault)).trans (State.tileDue_touches _ k)) hestimate

/-! ### The latch of a fog window (R222) -/

/-- The keys of TILE_FOG_RESIDf and TILE_FOG_EXPECTf. -/
abbrev fogKeys (k f : Nat) : Nat → Prop :=
  fun key => mapKeys k (0x40 + 4 * f) (0x44 + 4 * f) key ∨ mapKeys k (0x60 + 4 * f) (0x64 + 4 * f) key

theorem fromSigned_mod (w : Nat) (i : Int) : fromSigned w i % 2 ^ w = fromSigned w i := by
  have hpos : (0 : Int) < 2 ^ w := by positivity
  have hlow : 0 ≤ i % 2 ^ w := Int.emod_nonneg _ hpos.ne'
  have hhigh : i % 2 ^ w < 2 ^ w := Int.emod_lt_of_pos _ hpos
  apply Nat.mod_eq_of_lt
  unfold fromSigned
  zify
  rwa [Int.toNat_of_nonneg hlow]

section
variable (s : State) (k : Nat) (p : Plate)

/-- The sums of one fog column latched. -/
def State.fogPut (x : TileSt) (f : Nat) : State :=
  s.puts [(R.TILE_FOG_RESID k f, fromSigned 32 (x.fogRes.getD f 0)), (R.TILE_FOG_EXPECT k f, x.fogExp.getD f 0)]

def State.fogPutAll : State := (List.range 8).foldl (fun u f => u.fogPut k (s.tile k) f) s

/-- The sums, the window's number and its clips latched. -/
def State.fogLatched : State :=
  (s.fogPutAll k).puts [(R.TILE_FOG_WIN_seq k, (s.fogPutAll k).get (R.TILE_FOG_WIN_seq k) + 1),
    (R.TILE_FOG_WIN_fog_clips k, (s.tile k).fogClips)]

theorem State.fogLatch_eq : s.fogLatch k p =
    ((s.fogLatched k).setTile k ((s.fogLatched k).tile k).clearFog).driftUpdate k p := rfl

theorem State.fogPut_touches (x : TileSt) (f : Nat) : Touches (fogKeys k f) s (s.fogPut k x f) :=
  s.puts_touches (by simp [Fld.key, R.TILE_FOG_RESID, R.TILE_FOG_EXPECT]; omega)

theorem State.fogPutAll_touches : Touches (mapKeys k 0x40 0x80) s (s.fogPutAll k) :=
  Touches.foldl (fun f hf u => (u.fogPut_touches k _ f).mono fun key h => by
    have hf : f < 8 := List.mem_range.1 hf
    omega) s

theorem State.fogWin_touches (u : State) (seq clips : Nat) : Touches (mapKeys k 0x80 0x84) u
    (u.puts [(R.TILE_FOG_WIN_seq k, seq), (R.TILE_FOG_WIN_fog_clips k, clips)]) :=
  u.puts_touches (by simp [Fld.key, R.TILE_FOG_WIN_seq, R.TILE_FOG_WIN_fog_clips]; omega)

theorem State.fogLatched_touches : Touches (mapKeys k 0x40 0x84) s (s.fogLatched k) :=
  ((s.fogPutAll_touches k).mono (by omega)).trans ((State.fogWin_touches k _ _ _).mono (by omega))

/-- What follows the latch leaves the latched words. -/
theorem State.fogLatch_get {g : Fld} (hg : mapKeys k 0x40 0x84 g.key) : (s.fogLatch k p).get g = (s.fogLatched k).get g := by
  refine (State.driftUpdate_touches _ k p).2 g (mapKeys_not_inPmu hg) ?_
  rintro (h | h)
  · omega
  · simp [Fld.key, R.TILE_DUE0, R.TILE_DUE1, R.TILE_FIX_EVT] at h
    simp only [Fld.key] at hg
    omega

theorem State.fogLatch_tile : (s.fogLatch k p).tile k = (s.tile k).clearFog := by
  rw [State.fogLatch_eq, (State.driftUpdate_touches _ k p).tile k, State.tile_setTile_same, (s.fogLatched_touches k).tile k]

/-- The keys that a latch reaches. -/
abbrev latchKeys (k : Nat) : Nat → Prop :=
  fun key => mapKeys k 0 0x10000 key ∨ ∃ f ∈ [R.TILE_DUE0, R.TILE_DUE1, R.TILE_FIX_EVT], key = f.key

theorem State.fogLatch_works : Works k (latchKeys k) s (s.fogLatch k p) :=
  (((s.fogLatched_touches k).works k).mono fun _ h => .inl (by omega)).trans ((State.setTile_works _ k _ _).trans
    (((State.driftUpdate_touches _ k p).works k).mono fun _ h => h.imp_left (by omega)))

theorem State.fogLatch_only : s.fogLatch k p =
    { s with regs := (s.fogLatch k p).regs, out := (s.fogLatch k p).out, host := (s.fogLatch k p).host, tiles := (s.fogLatch k p).tiles } := by
  have hlatched := (s.fogLatched_touches k).1
  have hdrift := (State.driftUpdate_touches ((s.fogLatched k).setTile k ((s.fogLatched k).tile k).clearFog) k p).1
  rw [State.fogLatch_eq, hdrift, State.setTile, hlatched]

theorem fogWin_apart : ¬ inPmu (R.TILE_FOG_WIN_seq k) ∧ ¬ mapKeys k 0x40 0x80 (R.TILE_FOG_WIN_seq k).key := by
  simp only [inPmu, mapKeys, Fld.key, R.TILE_FOG_WIN_seq]
  omega

theorem State.fogLatch_window : (s.fogLatch k p).get (R.TILE_FOG_WIN_seq k) = (s.get (R.TILE_FOG_WIN_seq k) + 1) % 2 ^ 16 ∧
    (s.fogLatch k p).get (R.TILE_FOG_WIN_fog_clips k) = (s.tile k).fogClips % 2 ^ 16 := by
  have hkey : (R.TILE_FOG_WIN_seq k).key ≠ (R.TILE_FOG_WIN_fog_clips k).key := by simp [Fld.key, R.TILE_FOG_WIN_seq, R.TILE_FOG_WIN_fog_clips]
  have hseq := (s.fogPutAll_touches k).2 _ (fogWin_apart k).1 (fogWin_apart k).2
  rw [s.fogLatch_get k p (by simp [Fld.key, R.TILE_FOG_WIN_seq]; omega), s.fogLatch_get k p (by simp [Fld.key, R.TILE_FOG_WIN_fog_clips]; omega),
    State.fogLatched, State.puts_cons, State.puts_cons, State.puts_nil, State.get_put_other _ _ _ _ hkey, State.get_put_same,
    State.get_put_same, hseq]
  exact ⟨rfl, rfl⟩

theorem State.fogLatch_sums {f : Nat} (hf : f < 8) :
    (s.fogLatch k p).get (R.TILE_FOG_RESID k f) = fromSigned 32 ((s.tile k).fogRes.getD f 0) ∧
      (s.fogLatch k p).get (R.TILE_FOG_EXPECT k f) = (s.tile k).fogExp.getD f 0 % 2 ^ 32 := by
  have hkey : (R.TILE_FOG_RESID k f).key ≠ (R.TILE_FOG_EXPECT k f).key := by simp [Fld.key, R.TILE_FOG_RESID, R.TILE_FOG_EXPECT]
  have hresid : mapKeys k (0x40 + 4 * f) (0x44 + 4 * f) (R.TILE_FOG_RESID k f).key := by simp [Fld.key, R.TILE_FOG_RESID]; omega
  have hexpect : mapKeys k (0x60 + 4 * f) (0x64 + 4 * f) (R.TILE_FOG_EXPECT k f).key := by simp [Fld.key, R.TILE_FOG_EXPECT]; omega
  have hpairs : (List.range 8).Pairwise fun i j => ∀ key, fogKeys k i key → ¬ fogKeys k j key :=
    List.pairwise_lt_range.imp_of_mem fun {i j} hi hj hlt key => by
      have hj : j < 8 := List.mem_range.1 hj
      omega
  obtain ⟨u, -, hread⟩ := foldl_touches_apart (fun i _ v => State.fogPut_touches v k (s.tile k) i) hpairs
    (List.mem_range.2 hf) (fun g hg => hg.elim mapKeys_not_inPmu mapKeys_not_inPmu) s
  have hlatched : ∀ g : Fld, fogKeys k f g.key → (s.fogLatch k p).get g = (u.fogPut k (s.tile k) f).get g := fun g hg =>
    (s.fogLatch_get k p (by omega)).trans (((State.fogWin_touches k _ _ _).2 g (hg.elim mapKeys_not_inPmu mapKeys_not_inPmu)
      (by omega)).trans (hread g hg))
  rw [hlatched _ (.inl hresid), hlatched _ (.inr hexpect), State.fogPut, State.puts_cons, State.puts_cons, State.puts_nil,
    State.get_put_other _ _ _ _ hkey, State.get_put_same, State.get_put_same]
  exact ⟨fromSigned_mod 32 _, rfl⟩

end

/-! ### What the commands answer -/

section
variable {k : Fin 256} {r : ResImage × Plate × TileRec} {s : State} (hr : s.tileRec k.val = some r)
include hr

theorem exec_aeWindowEnd (hdue : s.aeDue k.val r.2.1 = true) : exec (.aeWindowEnd k) s = .next (s.aeWindow k.val r.2.1) := by
  show execAeWindowEnd k s = _
  rw [execAeWindowEnd, hr]
  exact congrArg _ (if_pos hdue)

theorem exec_fogWindowLatch (hfull : 65536 ≤ (s.tile k.val).fogCount) : exec (.fogWindowLatch k) s = .next (s.fogLatch k.val r.2.1) := by
  show execFogWindowLatch k s = _
  rw [execFogWindowLatch, hr]
  exact congrArg _ (if_pos hfull)

end

end Sys2Proof.Machine
end

section
/-!
PROOFS. A begun exposure develops (R213, R217, R219, R247, R248, R251), and the statement on bursts.
-/

namespace Sys2Proof.Machine

/-! ### What developing reaches -/

/-- Work on tile `k` up to what a latched window reaches, with its capacitors as they were. -/
def Develops (k : Nat) (s t : State) : Prop := Works k (latchKeys k) s t ∧ (t.tile k).caps = (s.tile k).caps

theorem Develops.trans {k : Nat} {s t u : State} (h1 : Develops k s t) (h2 : Develops k t u) : Develops k s u :=
  ⟨h1.1.trans h2.1, h2.2.trans h1.2⟩

theorem Develops.ite {k : Nat} {s t u : State} {c : Prop} [Decidable c] (ht : Develops k s t) (hu : Develops k s u) :
    Develops k s (if c then t else u) := by
  split <;> assumption

theorem Develops.refl (k : Nat) (s : State) : Develops k s s := ⟨.refl .., rfl⟩

theorem Touches.develops {k : Nat} {s t : State} (h : Touches (mapKeys k 0 0x10000) s t) : Develops k s t :=
  ⟨(h.works k).mono fun _ => Or.inl, congrArg TileSt.caps (h.tile k)⟩

theorem State.setTile_develops (s : State) (k : Nat) (x : TileSt) (h : x.caps = (s.tile k).caps) : Develops k s (s.setTile k x) :=
  ⟨s.setTile_works k x _, (congrArg TileSt.caps (s.tile_setTile_same k x)).trans h⟩

theorem State.setBurst_develops (s : State) (k : Nat) (b : Option Burst) : Develops k s (s.setTile k { s.tile k with burst := b }) :=
  s.setTile_develops k _ rfl

theorem State.aeWindow_develops (s : State) (k : Nat) (p : Plate) : Develops k s (s.aeWindow k p) :=
  ((s.aeWindow_touches k p).mono (by omega)).develops

theorem State.fogLatch_develops (s : State) (k : Nat) (p : Plate) : Develops k s (s.fogLatch k p) :=
  ⟨s.fogLatch_works k p, by rw [State.fogLatch_tile]; rfl⟩

theorem clipField_mem (k : Nat) {ix : Nat} (h : ix < 8192) : mapKeys k 0 0x10000 (clipField k ix).key := by
  unfold clipField
  split
  · simp only [Fld.key, R.TILE_CLIP_even]
    omega
  · simp only [Fld.key, R.TILE_CLIP_odd]
    omega

theorem State.noteCode_touches (s : State) (k : Nat) {g : Nat} (x : (Int × Bool) × Nat) (hg : g < 16) (hx : x.2 < 512) :
    Touches (mapKeys k 0 0x10000) s (s.noteCode k g x) := by
  obtain ⟨hclips, hpeak, -⟩ := aeKeys_fields k x.2
  have hput : ∀ v, Touches (mapKeys k 0 0x10000) s (s.put (R.TILE_AE_win_peak k x.2) v) := fun v => s.put_touches _ v (by omega)
  refine .ite ?_ (hput _)
  exact ((hput _).trans (State.count_touches _ _ 1 (clipField_mem k (by omega)))).trans (State.count_touches _ _ 1 (by omega))

theorem State.noteCodes_develops (s : State) (k : Nat) {g : Nat} (codes : List (Int × Bool)) (hg : g < 16) :
    Develops k s ((codes.take 512).zipIdx.foldl (fun u x => u.noteCode k g x) s) := by
  refine Touches.develops (Touches.foldl (fun x hx u => u.noteCode_touches k x hg ?_) s)
  have hlen : (codes.take 512).length ≤ 512 := List.length_take_le 512 codes
  have hix := List.snd_lt_of_mem_zipIdx hx
  omega

theorem State.fogAdd_develops (s : State) (k fogS : Nat) (codes : List (Int × Bool)) (rows : List Nat) :
    Develops k s (s.fogAdd k fogS codes rows) := by
  have hevt : mapKeys k 0 0x10000 (R.TILE_EVT k).key := by simp [Fld.key, R.TILE_EVT]; omega
  unfold State.fogAdd
  extract_lets x fog e clips res ex s1
  have hsums : Develops k s s1 := s.setTile_develops k _ rfl
  exact .ite hsums (hsums.trans ((s1.setBit_touches _ 2 hevt).trans (State.pmuTile_touches _ _ _ _ _)).develops)

theorem State.commitColumn_touches (s : State) (k : Nat) {bank c : Nat} (acc16 overwrite : Bool) (v : Int) (hbank : bank < 4) (hc : c < 512) :
    Touches (mapKeys k 0 0x10000) s (s.commitColumn k bank c acc16 overwrite v) := by
  have hvalue : mapKeys k 0 0x10000 (R.TILE_BANK_value k bank c).key := by simp only [Fld.key, R.TILE_BANK_value]; omega
  have hflag : mapKeys k 0 0x10000 (R.TILE_BFLAG_limit k c).key := by simp only [Fld.key, R.TILE_BFLAG_limit]; omega
  exact (s.put_touches _ _ hvalue).trans (State.put_touches _ _ _ hflag)

theorem State.commitGroup_develops (s : State) (k : Nat) {b : Burst} (p : Plate) (slice gi : Nat) (psum : List Int) (shifts : List Nat)
    (hbank : b.bank < 4) : Develops k s (s.commitGroup k b p slice gi psum shifts) := by
  refine Touches.develops (Touches.foldl (fun c hc u => ?_) s)
  exact u.commitColumn_touches k _ _ _ hbank (List.mem_range.1 hc)

/-- A plane that is done leaves the burst with no repetition, and its counts as they are. -/
theorem State.planeDone_develops (s : State) (k : Nat) (b : Burst) (p : Plate) (slice plane gi : Nat) (codes : List (Int × Bool))
    (rows shifts : List Nat) (hbank : b.bank < 4) (hgroups : ∀ g ∈ b.cmd.groups, g < 16) :
    Develops k s (s.planeDone k b p slice plane gi codes rows shifts) ∧
      ∃ psum committed, ((s.planeDone k b p slice plane gi codes rows shifts).tile k).burst =
        some { b with reps := [], psum := psum, committed := committed } := by
  have hg : b.cmd.groups.getD gi 0 < 16 := by
    rw [List.getD_eq_getElem?_getD]
    cases hgi : b.cmd.groups[gi]? with
    | none => decide
    | some g => exact hgroups g (List.mem_of_getElem? hgi)
  have hpos : mapKeys k 0 0x10000 (R.TILE_AE_WIN_pos k).key := by simp [Fld.key, R.TILE_AE_WIN_pos]; omega
  unfold State.planeDone
  extract_lets g s0 s1 s2 s3 psum tile3 s4 tile4
  have h0 : Develops k s s0 := .ite (s.aeWindow_develops k p) (.refl k s)
  have h1 : Develops k s s1 := h0.trans (.ite (s0.fogLatch_develops k p) (.refl k s0))
  have h2 : Develops k s s2 := (h1.trans (s1.noteCodes_develops k codes hg)).trans (State.pmuTile_touches _ _ _ _ _).develops
  have h3 : Develops k s s3 := (h2.trans (s2.put_touches _ _ hpos).develops).trans (State.fogAdd_develops _ _ _ _ _)
  have h4 : Develops k s s4 := h3.trans (s3.commitGroup_develops k p slice gi psum shifts hbank)
  split
  · exact ⟨h3.trans (s3.setBurst_develops k _), _, _, congrArg TileSt.burst (s3.tile_setTile_same k _)⟩
  · exact ⟨h4.trans (s4.setBurst_develops k _), _, _, congrArg TileSt.burst (s4.tile_setTile_same k _)⟩

/-! ### The oldest begun exposure -/

section
variable (s : State) (k : Nat) (b : Burst) (p : Plate) (slice : Nat)

/-- The capacitor of the exposure that develops is free; each of its conversions has taken its noise. -/
def State.capFreed : State :=
  { s.setTile k { s.tile k with caps := (s.tile k).caps.set (Fin.ofNat 2 b.developed) none } with freeIx := s.freeIx + 520 }

/-- Its codes. -/
def State.codesDeveloped : List (Int × Bool) :=
  ((s.setTile k { s.tile k with caps := (s.tile k).caps.set (Fin.ofNat 2 b.developed) none }).convert k
    ((s.tile k).caps[(Fin.ofNat 2 b.developed : Fin 2)].getD []) (b.loaded.getD (b.developed / b.cmd.perGroup) GroupLoad.none) p.acc16
    p.curvesLoaded (fogShift p.rowGroup) p.adcCurve).1

/-- The burst with one exposure more developed. -/
def State.burstDeveloped : Burst := { b with developed := b.developed + 1, reps := b.reps ++ [s.codesDeveloped k b p] }

theorem State.capFreed_works (P : Nat → Prop) : Works k P s (s.capFreed k b) := (s.setTile_works k _ P).trans (State.useFree_works _ k _ P)

theorem State.capFreed_tile : (s.capFreed k b).tile k = { s.tile k with caps := (s.tile k).caps.set (Fin.ofNat 2 b.developed) none } :=
  s.tile_setTile_same k _

/-- A repetition that is not its plane's last is kept. -/
theorem State.developNext_repetition (h : b.developed % b.cmd.avg + 1 < b.cmd.avg) : s.developNext k b p slice =
    (s.capFreed k b).setTile k { (s.capFreed k b).tile k with burst := some (s.burstDeveloped k b p) } := if_pos h

/-- A plane's last repetition ends the plane. -/
theorem State.developNext_plane (h : b.cmd.avg ≤ b.developed % b.cmd.avg + 1) : ∃ codes rows shifts, s.developNext k b p slice =
    (s.capFreed k b).planeDone k (s.burstDeveloped k b p) p slice (b.cmd.planeAt b.developed) (b.developed / b.cmd.perGroup) codes rows
      shifts := ⟨_, _, _, if_neg (Nat.not_lt.2 h)⟩

end

theorem exec_exposureDevelop {k : Fin 256} {b : Burst} {r : ResImage × Plate × TileRec} {s : State} (hb : (s.tile k.val).burst = some b)
    (hr : s.tileRec k.val = some r) (hbegun : b.developed < b.started) (hfree : s.tileForced k.val = false)
    (hdue : b.startOf r.2.1.acc16 b.developed + decisionOf r.2.1.acc16 < s.halfNs) :
    exec (.exposureDevelop k) s = .next (s.developNext k.val b r.2.1 r.2.2.slice) := by
  show execExposureDevelop k s = _
  rw [execExposureDevelop, hb, hr]
  exact congrArg _ (if_neg (by simp [hfree]; omega))

/-- What a developed exposure does: it is counted, its capacitor is free, and its codes are kept or have entered their plane. -/
theorem State.developNext_spec (s : State) (k : Nat) (b : Burst) (p : Plate) (slice : Nat) (hbank : b.bank < 4)
    (hgroups : ∀ g ∈ b.cmd.groups, g < 16) :
    Works k (latchKeys k) s (s.developNext k b p slice) ∧ ((s.developNext k b p slice).tile k).caps[(Fin.ofNat 2 b.developed : Fin 2)] = none ∧
      ∃ b', ((s.developNext k b p slice).tile k).burst = some b' ∧ b'.developed = b.developed + 1 ∧ b'.started = b.started ∧
        (b.developed % b.cmd.avg + 1 < b.cmd.avg → b'.reps.length = b.reps.length + 1 ∧ FieldsBut [] s (s.developNext k b p slice)) ∧
        (b.cmd.avg ≤ b.developed % b.cmd.avg + 1 → b'.reps = []) := by
  have hfreed : ((s.capFreed k b).tile k).caps[(Fin.ofNat 2 b.developed : Fin 2)] = none := by
    rw [State.capFreed_tile]
    exact Vector.getElem_set_self ..
  by_cases h : b.developed % b.cmd.avg + 1 < b.cmd.avg
  · rw [s.developNext_repetition k b p slice h]
    refine ⟨(s.capFreed_works k b _).trans (State.setTile_works _ k _ _), ?_, _, congrArg TileSt.burst (State.tile_setTile_same _ k _), rfl, rfl,
      fun _ => ⟨List.length_append, fun _ _ => rfl⟩, fun h' => absurd h (Nat.not_lt.2 h')⟩
    rw [State.tile_setTile_same]
    exact hfreed
  · obtain ⟨codes, rows, shifts, heq⟩ := s.developNext_plane k b p slice (Nat.not_lt.1 h)
    rw [heq]
    obtain ⟨⟨hworks, hcaps⟩, psum, committed, hburst⟩ := State.planeDone_develops (s.capFreed k b) k (s.burstDeveloped k b p) p slice
      (b.cmd.planeAt b.developed) (b.developed / b.cmd.perGroup) codes rows shifts hbank hgroups
    refine ⟨(s.capFreed_works k b _).trans hworks, ?_, _, hburst, rfl, rfl, fun h' => absurd h' h, fun _ => rfl⟩
    rw [hcaps]
    exact hfreed

/-! ### The statement -/

/-- Settles O41: what each of the five commands answers, with the lemmas on what it reaches. -/
theorem tileBursts : Obligations.TileBursts := by
  unfold Obligations.TileBursts
  refine ⟨fun k b r s hb hr => ⟨fun hleft hdue hfree => ?_, fun hleft hfirst hlate hpartner => ?_, fun hbegun hfree hdue hbank hgroups => ?_⟩,
    fun k r s hr => ⟨fun hdue => ?_, fun hfull => ?_⟩⟩
  · have hexec := exec_exposureStart_due hb hr hleft hdue hfree
    refine ⟨fun hslot hcap => ?_, fun hslot hcap => ?_, fun hslot hapart hidle => ?_⟩
    · rw [if_neg (Nat.not_le.2 hslot), if_neg (Nat.not_le.2 hcap)] at hexec
      have hworks := s.exposureBegin_works k.val b r.2.1 r.2.2.row
      obtain ⟨charges, htile⟩ := s.exposureBegin_tile k.val b r.2.1 r.2.2.row
      refine ⟨_, _, hexec, congrArg TileSt.burst htile, rfl, rfl, rfl, rfl, ?_, fun h => if_neg h, fun h => ?_,
        s.exposureBegin_low k.val b r.2.1 r.2.2.row, hworks.2.1, (hworks.2.2.mono fun _ => Or.inl).fieldsButTiles, hworks.mem⟩
      · rw [htile]
        exact congrArg Option.isSome (Vector.getElem_set_self ..)
      · exact (congrArg List.length (if_pos h)).trans List.length_append
    · rw [hexec, if_neg (Nat.not_le.2 hslot), if_pos hcap]
    · rw [if_pos hslot, State.burstCut_developed k.val b r.2.1 hidle] at hexec
      exact ⟨s.cutsCounted r.2.1, hexec, fun q hq d hd hopen => State.cutsCounted_counts hapart (State.mem_uncommitted hq hd hopen),
        s.cutsCounted_signals r.2.1⟩
  · intro period late
    refine ⟨_, exec_operandArrival hb hr hleft hfirst hlate, State.operandsMoved_same late hb hpartner, fun u d hu hd => ?_, ?_, ?_,
      s.operandsMoved_otherTiles _ _ late, s.operandsMoved_fields _ _ late, s.operandsMoved_mem _ _ late⟩
    · rw [hu]
      exact State.operandsMoved_partner late hd (hpartner u hu)
    · exact (s.operandsMoved_get _ _ late _).trans (s.waitCounted_wait k.val late)
    · rw [BitSet, State.operandsMoved_get]
      exact s.waitCounted_bitSet k.val late
  · obtain ⟨hworks, hcap, b', hburst, hdeveloped, hstarted, hkept, hplane⟩ := s.developNext_spec k.val b r.2.1 r.2.2.slice hbank hgroups
    exact ⟨_, b', exec_exposureDevelop hb hr hbegun hfree hdue, hburst, hdeveloped, hstarted, hcap, hworks.2.1, hworks.2.2.fieldsButTiles,
      hworks.mem, hkept, hplane⟩
  · obtain ⟨honly, hkeys⟩ := s.aeWindow_touches k.val r.2.1
    obtain ⟨hpos, hseq⟩ := s.aeWindow_counted k.val r.2.1
    refine ⟨_, exec_aeWindowEnd hr hdue, honly, (hkeys.mono fun _ h => .inl (by omega)).fieldsButTiles, hpos, hseq, fun c => ?_⟩
    obtain ⟨u, hu, hread⟩ := s.aeWindow_column k.val r.2.1 c.isLt
    obtain ⟨hclips, hpeak, hcur, hnext, hpending⟩ := aeKeys_fields k.val c.val
    obtain ⟨hnoclips, hnopeak⟩ := u.aeColumn_emptied k.val c.val r.2.1.adcShift r.2.1.clipLimit (2 ^ r.2.1.aeWindow)
    rw [hread _ hclips, hread _ hpeak, hread _ hnext, hread _ hpending, ← hu _ hclips, ← hu _ hpeak, ← hu _ hcur]
    exact ⟨hnoclips, hnopeak, u.aeColumn_clipped k.val c.val _ _ _, u.aeColumn_kept k.val c.val _ _ _⟩
  · obtain ⟨hseq, hclips⟩ := s.fogLatch_window k.val r.2.1
    have hworks := s.fogLatch_works k.val r.2.1
    exact ⟨_, exec_fogWindowLatch hr hfull, hseq, hclips, fun f => s.fogLatch_sums k.val r.2.1 f.isLt, s.fogLatch_tile k.val r.2.1, hworks.2.1,
      hworks.2.2.fieldsButTiles, s.fogLatch_only k.val r.2.1⟩

end Sys2Proof.Machine
end

section
/-!
PROOFS. The TILE window (R224, R230, R235) and the test exposure (R231, R236).
-/

namespace Sys2Proof.Machine

/-! ### The address after an access (R230) -/

theorem State.tileStep_writes (s : State) : Writes [R.TILE_ADDR_addr] s s.tileStep := by
  unfold State.tileStep
  split
  · exact s.put_writes _ _
  · exact ⟨rfl, .refl _ s⟩

theorem State.tileStep_still {s : State} (h : s.get R.TILE_ADDR_autoinc = 0) : s.tileStep = s := if_neg (by omega)

theorem State.tileStep_moves {s : State} (h : s.get R.TILE_ADDR_autoinc = 1) :
    s.tileStep.get R.TILE_ADDR_addr = (s.get R.TILE_ADDR_addr + 1) % 2 ^ 14 := by
  rw [State.tileStep, if_pos h, State.get_put_same]
  rfl

/-! ### Reads of TILE_DATA -/

section
variable {s : State} (hup : s.blockUp 6 = true)
include hup

theorem exec_tileDataRead_reached (hreach : s.tileUnreachable (s.get R.TILE_SEL_tile) = false)
    (hlow : 4 * s.get R.TILE_ADDR_addr ≠ 0x14) (hhigh : 4 * s.get R.TILE_ADDR_addr ≠ 0x18) :
    exec .tileDataRead s = .next (s.tileStep.emit (.word 0 (s.tileWord (s.get R.TILE_SEL_tile) (4 * s.get R.TILE_ADDR_addr)))) := by
  show execTileDataRead s = _
  rw [execTileDataRead, if_pos hup, State.tileDataRead, if_neg (by simp [hreach]), if_neg hlow, if_neg hhigh]

theorem exec_tileDataRead_unreachable (hreach : s.tileUnreachable (s.get R.TILE_SEL_tile) = true) :
    exec .tileDataRead s = .next ((s.put R.TILE_STAT_timeout 1).tileStep.emit (.word 0 0)) := by
  show execTileDataRead s = _
  rw [execTileDataRead, if_pos hup, State.tileDataRead, if_pos hreach]

theorem exec_tileDataWrite (v : Word) : exec (.tileDataWrite v) s = .next (s.tileDataWrite v.toNat) := congrArg _ (if_pos hup)

theorem exec_tileTestStart (v : Word) : exec (.tileTestStart v) s = .next (s.tileTest v.toNat) := congrArg _ (if_pos hup)

end

/-! ### Writes of TILE_DATA -/

theorem bitAt_toNat {w : Nat} (v : BitVec w) (i : Nat) : bitAt v.toNat i = v.getLsbD i := bitAt_eq_testBit v.toNat i

section
variable (s : State) (k c v : Nat)

/-- The trims of one column replaced. -/
def State.setTrim : State := s.setTile k { s.tile k with trims := SMap.insert (SMap.erase (s.tile k).trims c) c v }

theorem State.setTrim_same : (s.setTrim k c v).trimWord k c = v := by
  rw [State.trimWord, State.setTrim, State.tile_setTile_same, SMap.lookup_insert_same _ _ _ (SMap.lookup_erase_same _ c)]

theorem State.setTrim_other {d : Nat} (h : d ≠ c) : (s.setTrim k c v).trimWord k d = s.trimWord k d := by
  rw [State.trimWord, State.setTrim, State.tile_setTile_same, SMap.lookup_insert_other _ _ _ _ h, SMap.lookup_erase_other _ _ _ h,
    State.trimWord]

end

section
variable {s : State} {k a : Nat} (hk : k = s.get R.TILE_SEL_tile) (ha : a = 4 * s.get R.TILE_ADDR_addr) (w : Nat)
  (hreach : s.tileUnreachable k = false) (hinc : s.get R.TILE_ADDR_autoinc = 0)
include hk ha hreach hinc

/-- A write of 1s to TILE_EVT clears those bits. -/
theorem State.tileDataWrite_evt (hevt : a = 8) :
    s.tileDataWrite w = s.put (R.TILE_EVT k) (clearBits (s.get (R.TILE_EVT k)) (bits w 0 6)) := by
  subst hk
  have hkey : R.TILE_ADDR_autoinc.key ≠ (R.TILE_EVT (s.get R.TILE_SEL_tile)).key := by simp only [Fld.key, R.TILE_ADDR_autoinc, R.TILE_EVT]; omega
  rw [State.tileDataWrite, if_neg (by simp [hreach]), if_pos (by omega), State.tileStep_still ((s.get_put_other _ _ _ hkey).trans hinc)]

/-- A write of a trim goes to its column. -/
theorem State.tileDataWrite_trim {c : Nat} (hc : c < 520) (htrim : a = 0x1000 + 4 * c) (howner : (s.tile k).owner = none)
    (herasing : (s.tile k).erasing = false) : s.tileDataWrite w = s.setTrim k c (bits w 0 14 + 2 ^ 16 * bits w 16 14) := by
  subst hk
  have hcol : (4 * s.get R.TILE_ADDR_addr - 0x1000) / 4 = c := by omega
  have hwrite : s.trimWrite (s.get R.TILE_SEL_tile) c w = s.setTrim (s.get R.TILE_SEL_tile) c (bits w 0 14 + 2 ^ 16 * bits w 16 14) :=
    if_neg (by simp [howner, herasing])
  have hstill : (s.setTrim (s.get R.TILE_SEL_tile) c (bits w 0 14 + 2 ^ 16 * bits w 16 14)).get R.TILE_ADDR_autoinc = 0 := hinc
  rw [State.tileDataWrite, if_neg (by simp [hreach]), if_neg (by omega), if_neg (by omega), if_pos (by omega), hcol, hwrite,
    State.tileStep_still hstill]

/-- A write of a register that takes none is denied (R224, R235). -/
theorem State.tileDataWrite_denied (hdenied : a < 8 ∨ (0x20 ≤ a ∧ a < 0x1000) ∨ 0x2000 ≤ a) :
    s.tileDataWrite w = s.put R.TILE_STAT_denied 1 := by
  subst hk
  have hstill : (s.put R.TILE_STAT_denied 1).get R.TILE_ADDR_autoinc = 0 := (s.get_put_other _ _ _ (by decide)).trans hinc
  rw [State.tileDataWrite, if_neg (by simp [hreach]), if_neg (by omega), if_neg (by omega), if_neg (by omega), State.tileStep_still hstill]

end

/-! ### TILE_TEST (R231, R236) -/

/-- What a write of TILE_TEST puts. -/
def testPuts (w : Nat) : List (Fld × Nat) :=
  [(R.TILE_TEST_group, bits w 0 4), (R.TILE_TEST_row_group, bits w 4 2), (R.TILE_TEST_acc_mode, bits w 6 1),
    (R.TILE_TEST_adc_shift, bits w 7 3), (R.TILE_TEST_avg, bits w 10 2)]

/-- The fields of TILE_TEST that keep a value. -/
def testFields : List Fld := [R.TILE_TEST_group, R.TILE_TEST_row_group, R.TILE_TEST_acc_mode, R.TILE_TEST_adc_shift, R.TILE_TEST_avg]

/-- The test exposure a word asks for. -/
def State.testOf (s : State) (w : Nat) : TileTest :=
  ⟨s.get R.TILE_SEL_tile, bits w 0 4, bits w 4 2, bitAt w 6, bits w 7 3, 2 ^ bits w 10 2,
    (List.range 4).foldl (fun a k => a + 2 ^ (32 * k) * s.get (R.TILE_TEST_ROWS k)) 0⟩

/-- A test exposure begun. -/
def State.testBegun (s : State) (x : TileTest) : State := { s.put R.TILE_STAT_test_busy 1 with fix := { s.fix with test := some x } }

/-- TILE_TEST's fields taken from a word. -/
def State.testTaken (s : State) (w : Nat) : State := s.puts (testPuts w)

theorem State.testBegun_busy (s : State) (x : TileTest) : (s.testBegun x).get R.TILE_STAT_test_busy = 1 :=
  s.get_put_same R.TILE_STAT_test_busy 1

theorem State.testBegun_fieldsBut (s : State) (x : TileTest) : FieldsBut [R.TILE_STAT_test_busy] s (s.testBegun x) :=
  (s.put_writes R.TILE_STAT_test_busy 1).2

theorem State.tileTest_eq (s : State) (w : Nat) : s.tileTest w = if !bitAt w 12 then s.testTaken w
    else if (s.testTaken w).testRefused (bits w 4 2) (bits w 10 2) (bits w 0 4) then (s.testTaken w).put R.TILE_STAT_test_refused 1
    else (s.testTaken w).testBegun ((s.testTaken w).testOf w) := rfl

theorem State.testTaken_get (s : State) (w : Nat) {f : Fld} {lo : Nat} (h : (f, bits w lo f.w) ∈ testPuts w) :
    (s.testTaken w).get f = bits w lo f.w :=
  (s.get_puts_mem testFields rfl (by decide) h).trans (Nat.mod_mod _ _)

theorem State.testTaken_fields (s : State) (w : Nat) : (s.testTaken w).get R.TILE_TEST_group = bits w 0 4 ∧
    (s.testTaken w).get R.TILE_TEST_row_group = bits w 4 2 ∧ (s.testTaken w).get R.TILE_TEST_acc_mode = bits w 6 1 ∧
    (s.testTaken w).get R.TILE_TEST_adc_shift = bits w 7 3 ∧ (s.testTaken w).get R.TILE_TEST_avg = bits w 10 2 :=
  ⟨s.testTaken_get w (by simp [testPuts, R.TILE_TEST_group]), s.testTaken_get w (by simp [testPuts, R.TILE_TEST_row_group]),
    s.testTaken_get w (by simp [testPuts, R.TILE_TEST_acc_mode]), s.testTaken_get w (by simp [testPuts, R.TILE_TEST_adc_shift]),
    s.testTaken_get w (by simp [testPuts, R.TILE_TEST_avg])⟩

theorem State.testTaken_writes (s : State) (w : Nat) : Writes testFields s (s.testTaken w) := s.puts_writes (testPuts w)

/-- Whether a test exposure is refused does not hang on the fields of TILE_TEST. -/
theorem State.testTaken_refused (s : State) (w rg avg group : Nat) : (s.testTaken w).testRefused rg avg group = s.testRefused rg avg group := by
  obtain ⟨honly, hfields⟩ := s.testTaken_writes w
  have hsel : (s.testTaken w).get R.TILE_SEL_tile = s.get R.TILE_SEL_tile := hfields _ (by decide)
  have hbias : (s.testTaken w).get R.THM_STAT_bias_fault = s.get R.THM_STAT_bias_fault := hfields _ (by decide)
  simp only [State.testRefused, State.tileUnreachable, State.tileForced, State.linkTrained, State.isBench, State.stopping, State.tile, hsel, hbias]
  rw [honly]

/-! ### The codes of a test exposure -/

theorem foldl_onlyRegs {α : Type} (f : State → α → State) (h : ∀ u x, OnlyRegs u (f u x)) (l : List α) (s : State) :
    OnlyRegs s (l.foldl f s) := by
  induction l generalizing s with
  | nil => exact .rfl' s
  | cons x l ih => exact (h s x).trans (ih _)

section
variable (s : State) (k : Nat) (codes : List (Int × Bool))

/-- Codes and clip flags stored in TILE_TEST_CODEc. -/
def State.codesStored : State := codes.zipIdx.foldl
  (fun u p => u.puts [(R.TILE_TEST_CODE_code k p.2, fromSigned 8 p.1.1), (R.TILE_TEST_CODE_clip k p.2, b2n p.1.2)]) s

theorem State.codesStored_only : OnlyRegs s (s.codesStored k codes) := foldl_onlyRegs _ (fun u _ => u.puts_only _) _ s

theorem State.codesStored_touches (hlen : codes.length = 520) : Touches (mapKeys k 0x2000 0x2820) s (s.codesStored k codes) := by
  refine Touches.foldl (fun p hp u => u.puts_touches ?_) s
  have hix : p.2 < 520 := hlen ▸ List.snd_lt_of_mem_zipIdx hp
  simp [Fld.key, R.TILE_TEST_CODE_code, R.TILE_TEST_CODE_clip]
  omega

end

theorem averageAll_length (reps : List (List (Int × Bool))) : (averageAll reps).length = 520 := by simp [averageAll]

/-- The repetitions of a test exposure use free values and change nothing else. -/
theorem State.testRuns_state (s : State) (x : TileTest) (rows : List Nat) (m : Nat) :
    (s.testRuns x rows m).2 = { s with freeIx := (s.testRuns x rows m).2.freeIx } := by
  induction m generalizing s with
  | zero => rfl
  | succ m ih => exact ih { s with freeIx := s.freeIx + 520 }

/-- The repetitions of a test exposure of its active rows (R231). -/
def State.testRun (s : State) (x : TileTest) : List (List (Int × Bool)) × State :=
  s.testRuns x (activeRows (groupRows x.rowGroup) x.group ((List.range (groupRows x.rowGroup)).map (bitAt x.rows))) x.avg

/-- The averaged codes of a test exposure stored. -/
def State.testStored (s : State) (x : TileTest) : State := (s.testRun x).2.codesStored x.tile (averageAll (s.testRun x).1)

/-- The end of a test exposure. -/
def State.testEnded (s : State) (k : Nat) : State :=
  { (s.setBit (R.TILE_EVT k) 4).put R.TILE_STAT_test_busy 0 with fix := { s.fix with test := none } }

theorem exec_tileTestDone {x : TileTest} {s : State} (htest : s.fix.test = some x) (hup : s.blockUp 6 = true) :
    exec .tileTestDone s = .next ((s.testStored x).testEnded x.tile) := by
  show execTileTestDone s = _
  simp only [execTileTestDone, htest, hup, Bool.not_true, Bool.false_eq_true, if_false, State.testEnded, State.testStored, State.codesStored,
    State.testRun]

theorem State.testStored_only (s : State) (x : TileTest) :
    s.testStored x = { s with regs := (s.testStored x).regs, freeIx := (s.testStored x).freeIx } := by
  rw [State.testStored, State.codesStored_only, State.testRun, State.testRuns_state]

theorem State.testStored_keys (s : State) (x : TileTest) : KeysBut (mapKeys x.tile 0x2000 0x2820) s (s.testStored x) := by
  have hrun : KeysBut (mapKeys x.tile 0x2000 0x2820) s (s.testRun x).2 := fun g _ _ => by rw [State.testRun, State.testRuns_state]; rfl
  exact hrun.trans (State.codesStored_touches _ _ _ (averageAll_length _)).2

theorem State.testEnded_keys (s : State) (k : Nat) :
    KeysBut (fun key => mapKeys k 0 0x10000 key ∨ ∃ f ∈ [R.TILE_STAT_test_busy], key = f.key) s (s.testEnded k) := by
  have hevt : mapKeys k 0 0x10000 (R.TILE_EVT k).key := by simp [Fld.key, R.TILE_EVT]; omega
  have hbit := s.setBit_touches (P := fun key => mapKeys k 0 0x10000 key ∨ ∃ f ∈ [R.TILE_STAT_test_busy], key = f.key) _ 4 (.inl hevt)
  exact (hbit.trans (State.put_touches _ R.TILE_STAT_test_busy 0 (.inr ⟨_, by simp, rfl⟩))).2

theorem State.testEnded_only {s u : State} (h : u = { s with regs := u.regs, freeIx := u.freeIx }) (k : Nat) :
    (u.testEnded k).fix = { s.fix with test := none } ∧ u.testEnded k =
      { s with regs := (u.testEnded k).regs, fix := (u.testEnded k).fix, freeIx := (u.testEnded k).freeIx } := by
  refine ⟨?_, ?_⟩ <;> rw [h] <;> rfl

theorem State.testEnded_busy (s : State) (k : Nat) : (s.testEnded k).get R.TILE_STAT_test_busy = 0 :=
  (s.setBit (R.TILE_EVT k) 4).get_put_same R.TILE_STAT_test_busy 0

theorem State.testEnded_bitSet (s : State) (k : Nat) : BitSet (s.testEnded k) (R.TILE_EVT k) 4 := by
  have hkey : (R.TILE_EVT k).key ≠ R.TILE_STAT_test_busy.key := by simp only [Fld.key, R.TILE_EVT, R.TILE_STAT_test_busy]; omega
  have hget : (s.testEnded k).get (R.TILE_EVT k) = (s.setBit (R.TILE_EVT k) 4).get (R.TILE_EVT k) := State.get_put_other _ _ _ 0 hkey
  rw [BitSet, hget, State.setBit_bit _ _ _ _ (show 4 < 6 by decide), BEq.rfl, Bool.or_true]

/-! ### The statement -/

/-- Settles O42: each access by its branch of the window, and the write of TILE_TEST by what its word asks for. -/
theorem tileAccesses : Obligations.TileAccesses := by
  unfold Obligations.TileAccesses
  refine ⟨fun s hup => ?_, fun v s hup => ?_, fun x s htest hup => ?_⟩
  · intro k a
    refine ⟨fun hreach hlow hhigh => ?_, fun hreach => ?_,
      fun v hreach hinc => ⟨fun hevt => ?_, fun c htrim howner herasing => ?_, fun hdenied => ?_⟩⟩
    · obtain ⟨honly, hfields⟩ := s.tileStep_writes
      refine ⟨_, exec_tileDataRead_reached hup hreach hlow hhigh, ?_, hfields, ?_, fun h => ?_, State.tileStep_moves⟩
      · rw [honly]; rfl
      · rw [honly]; rfl
      · rw [State.tileStep_still h]; rfl
    · obtain ⟨honly, hfields⟩ := (s.put R.TILE_STAT_timeout 1).tileStep_writes
      refine ⟨_, exec_tileDataRead_unreachable hup hreach, ?_, ?_, ?_, ?_⟩
      · rw [honly]; rfl
      · exact (hfields _ (by decide)).trans (s.get_put_same _ _)
      · exact ((s.put_writes R.TILE_STAT_timeout 1).2.mono (by simp)).trans (hfields.mono (by simp))
      · rw [honly]; rfl
    · refine ⟨_, (exec_tileDataWrite hup v).trans (congrArg _ (State.tileDataWrite_evt rfl rfl _ hreach hinc hevt)), s.put_writes _ _,
        fun i => ?_⟩
      have hi : i.val < (R.TILE_EVT k).w := i.isLt
      rw [State.get_put_same, bitAt_mod_two_pow _ _ _ hi, bitAt_clearBits, bitAt_bits _ _ _ _ i.isLt, Nat.zero_add, bitAt_toNat]
    · refine ⟨s.setTrim k c.val _, (exec_tileDataWrite hup v).trans (congrArg _ (State.tileDataWrite_trim rfl rfl _ hreach hinc c.isLt htrim howner
        herasing)), s.setTrim_same k c.val _, fun d hd => s.setTrim_other k c.val _ hd, (s.setTile_works k _ fun _ => False).2.1, rfl⟩
    · exact ⟨_, (exec_tileDataWrite hup v).trans (congrArg _ (State.tileDataWrite_denied rfl rfl _ hreach hinc hdenied)), s.put_writes _ _,
        s.get_put_same _ _⟩
  · have hexec := exec_tileTestStart hup v
    obtain ⟨honly, hfields⟩ := s.testTaken_writes v.toNat
    obtain ⟨hgroup, hrows, hacc, hshift, havg⟩ := s.testTaken_fields v.toNat
    rw [State.tileTest_eq, State.testTaken_refused, bitAt_toNat] at hexec
    refine ⟨s.testTaken v.toNat, hgroup, hrows, hacc, hshift, havg, ⟨honly, hfields⟩, fun hstart => ?_, fun hstart hrefused => ?_,
      fun hstart hrefused => ?_⟩
    · rw [hexec, hstart]; rfl
    · rw [hexec, hstart, hrefused]; rfl
    · have hbegun : exec (.tileTestStart v) s = .next ((s.testTaken v.toNat).testBegun ((s.testTaken v.toNat).testOf v.toNat)) := by
        rw [hexec, hstart, hrefused]; rfl
      exact ⟨_, (s.testTaken v.toNat).testOf v.toNat, hbegun, rfl, hfields _ (by decide), rfl, rfl, State.testBegun_busy _ _,
        State.testBegun_fieldsBut _ _, by rw [honly]; rfl⟩
  · obtain ⟨hfix, honly⟩ := State.testEnded_only (s.testStored_only x) x.tile
    exact ⟨_, exec_tileTestDone htest hup, hfix, State.testEnded_busy _ _, State.testEnded_bitSet _ _,
      (((s.testStored_keys x).mono fun _ _ => .inl (by omega)).trans (State.testEnded_keys _ _)).fieldsButTiles, honly⟩

end Sys2Proof.Machine
end

section
/-!
PROOFS. A write of INT4 codes to the weight window (R245, R303, R305).
-/

namespace Sys2Proof.Machine

/-! ### A weight write's count leaves what decides the write -/

theorem State.pmu_tileRec (s : State) (code : Nat) (ctx : Option Nat) (inc t : Nat) : (s.pmu code ctx inc).tileRec t = s.tileRec t := by
  simp only [State.tileRec, State.tile, State.resImage, (s.pmu_only code ctx inc).tiles, (s.pmu_only code ctx inc).img]

theorem State.pmu_tileWritable (s : State) (code : Nat) (ctx : Option Nat) (inc t : Nat) :
    (s.pmu code ctx inc).tileWritable t = s.tileWritable t := by
  have hbias := s.pmu_get code ctx inc (g := R.THM_STAT_bias_fault) (by decide)
  simp only [State.tileWritable, State.tile, State.linkTrained, State.tileForced, (s.pmu_only code ctx inc).tiles,
    (s.pmu_only code ctx inc).pwr, (s.pmu_only code ctx inc).clk, hbias]

theorem State.pmu_memoryOnly (s : State) (code : Nat) (ctx : Option Nat) (inc : Nat) : (s.pmu code ctx inc).memoryOnly = s.memoryOnly := by
  have hcauses := s.pmu_get code ctx inc (g := R.GEN_HOLD_CAUSE_causes) (by decide)
  have hauth := s.pmu_get code ctx inc (g := R.GEN_HOLD_CAUSE_auth_image) (by decide)
  simp only [State.memoryOnly, State.isBench, State.stopping, (s.pmu_only code ctx inc).pwr, hcauses, hauth]

theorem State.pmu_fixQueue (s : State) (code : Nat) (ctx : Option Nat) (inc d : Nat) : (s.pmu code ctx inc).fixQueue d = s.fixQueue d := by
  rw [s.pmu_only code ctx inc]; rfl

theorem State.pmu_claimed (s : State) (code : Nat) (ctx : Option Nat) (inc : Nat) (h : Fin 2) (hpa : Nat) :
    (s.pmu code ctx inc).claimed h hpa = s.claimed h hpa := by
  rw [State.claimed, State.claimed, State.pmu_inCxlReset, s.pmu_pends code ctx inc h]; rfl

theorem State.pmu_heldWrites (s : State) (code : Nat) (ctx : Option Nat) (inc : Nat) (h : Fin 2) :
    ((s.pmu code ctx inc).half h).heldWrites = (s.half h).heldWrites := by
  rw [s.pmu_pends code ctx inc h]

/-! ### Target levels stored -/

/-- The DRAM address of the target that a change (tile, column, level) names in a row. -/
def changeAt (row : Nat) (x : Nat × Nat × Int) : Nat := shadowAt x.1 row x.2.1

/-- The changes (tile, column, level) stored as targets of a row, in order. -/
def State.setTargets (s : State) (row : Nat) (l : List (Nat × Nat × Int)) : State :=
  l.foldl (fun u x => u.setTarget x.1 row x.2.1 x.2.2) s

theorem State.target_of_get {s u : State} {t row col : Nat}
    (h : Memory.get u.mem (shadowAt t row col) = Memory.get s.mem (shadowAt t row col)) : u.target t row col = s.target t row col := by
  rw [State.target, h, State.target]

theorem State.setTargets_snoc (s : State) (row : Nat) (l : List (Nat × Nat × Int)) (x : Nat × Nat × Int) :
    s.setTargets row (l ++ [x]) = (s.setTargets row l).setTarget x.1 row x.2.1 x.2.2 := List.foldl_append

/-- A signed level of a byte is read back from it. -/
theorem toSigned_fromSigned_byte {l : Int} (hlo : -128 ≤ l) (hhi : l < 128) : toSigned 8 (BitVec.ofNat 8 (fromSigned 8 l)).toNat = l := by
  simp only [toSigned, fromSigned, BitVec.toNat_ofNat]
  omega

theorem State.get_setTargets_other (s : State) {row b : Nat} {l : List (Nat × Nat × Int)} (h : ∀ x ∈ l, changeAt row x ≠ b) :
    Memory.get (s.setTargets row l).mem b = Memory.get s.mem b := by
  induction l using List.reverseRecOn with
  | nil => rfl
  | append_singleton l x ih =>
    rw [State.setTargets_snoc]
    exact (Memory.get_set_other _ _ _ _ (h x (by simp)).symm).trans (ih fun y hy => h y (by simp [hy]))

/-- Where all changes of one target agree on its level, that level is stored. -/
theorem State.get_setTargets_mem (s : State) {row : Nat} {l : List (Nat × Nat × Int)} {x : Nat × Nat × Int} (hx : x ∈ l)
    (hagree : ∀ y ∈ l, changeAt row y = changeAt row x → y.2.2 = x.2.2) :
    Memory.get (s.setTargets row l).mem (changeAt row x) = BitVec.ofNat 8 (fromSigned 8 x.2.2) := by
  induction l using List.reverseRecOn with
  | nil => cases hx
  | append_singleton l y ih =>
    rw [State.setTargets_snoc]
    by_cases hat : changeAt row y = changeAt row x
    · rw [← hat, ← hagree y (by simp) hat]
      exact Memory.get_set_same _ _ _
    · have hxl : x ∈ l := (List.mem_append.1 hx).resolve_right fun h => hat (by rw [List.mem_singleton.1 h])
      exact (Memory.get_set_other _ _ _ _ (Ne.symm hat)).trans (ih hxl fun z hz => hagree z (by simp [hz]))

/-- Of a write's changes, those that move their target: the others ask for the level it has. -/
def State.moved (s : State) (row : Nat) (l : List (Nat × Nat × Int)) : List (Nat × Nat × Int) :=
  l.filter (fun x => s.target x.1 row x.2.1 != x.2.2)

/-- Storing only the changes that move their target leaves every change's level as its target. -/
theorem State.target_setTargets_moved (s : State) {row : Nat} {l : List (Nat × Nat × Int)} {x : Nat × Nat × Int} (hx : x ∈ l)
    (hagree : ∀ y ∈ l, changeAt row y = changeAt row x → y.2.2 = x.2.2) (hlo : -128 ≤ x.2.2) (hhi : x.2.2 < 128) :
    (s.setTargets row (s.moved row l)).target x.1 row x.2.1 = x.2.2 := by
  by_cases hmoves : s.target x.1 row x.2.1 = x.2.2
  · have hnone : ∀ y ∈ s.moved row l, changeAt row y ≠ changeAt row x := by
      intro y hy hat
      obtain ⟨hyl, hne⟩ := List.mem_filter.1 hy
      have hsame : s.target y.1 row y.2.1 = s.target x.1 row x.2.1 := by
        unfold changeAt at hat
        rw [State.target, hat, State.target]
      simp [hsame, hmoves, hagree y hyl hat] at hne
    exact (State.target_of_get (s.get_setTargets_other hnone)).trans hmoves
  · have hstored := s.get_setTargets_mem (l := s.moved row l) (List.mem_filter.2 ⟨hx, by simpa using hmoves⟩)
      fun y hy => hagree y (List.mem_filter.1 hy).1
    unfold changeAt at hstored
    rw [State.target, hstored, toSigned_fromSigned_byte hlo hhi]

/-! ### The changes an INT4 write asks for -/

/-- The level of the code in byte `i` of a line. -/
def int4LevelAt (data : List Byte) (i : Nat) : Int := (int4Level ((data.getD i 0).toNat % 16)).1

/-- The change that byte `i` asks for, if it is enabled. -/
def int4Change (t col : Nat) (data : List Byte) (be i : Nat) : List (Nat × Nat × Int) :=
  if bitAt be i then [(t, col + i, int4LevelAt data i)] else []

/-- The changes a line written with these enables asks for. -/
def int4Changes (t col : Nat) (data : List Byte) (be : Nat) : List (Nat × Nat × Int) :=
  (List.range 64).flatMap (int4Change t col data be)

theorem mem_int4Changes {t col : Nat} {data : List Byte} {be : Nat} {x : Nat × Nat × Int} :
    x ∈ int4Changes t col data be ↔ ∃ i < 64, bitAt be i = true ∧ x = (t, col + i, int4LevelAt data i) := by
  simp [int4Changes, int4Change]

/-- A fold that appends to its first component appends what each element gives. -/
theorem foldl_fst_append {α β γ : Type} {f : List α × β → γ → List α × β} {g : γ → List α} (hf : ∀ acc x, (f acc x).1 = acc.1 ++ g x)
    (l : List γ) (acc : List α × β) : (l.foldl f acc).1 = acc.1 ++ l.flatMap g := by
  induction l generalizing acc with
  | nil => simp
  | cons x l ih => rw [List.foldl_cons, ih, hf, List.flatMap_cons, List.append_assoc]

theorem fixChanges_int4 {p : Plate} (hp : p.int8 = false) (t col : Nat) (partner : Option Nat) (data : List Byte) (be : Nat) :
    (fixChanges p t partner col data be).1 = int4Changes t col data be := by
  refine foldl_fst_append (g := int4Change t col data be) (fun acc i => ?_) (List.range 64) ([], 0)
  by_cases hi : bitAt be i = true <;> simp [int4Change, hi, hp, int4LevelAt]

/-- A code's level (R245), which lies well within a byte. -/
theorem int4Level_eq (n : Nat) : let l := (int4Level (n % 16)).1
    l = (if n % 16 = 8 then -7 else toSigned 4 (n % 16)) ∧ -128 ≤ l ∧ l < 128 := by
  have hcodes : ∀ c < 16, let l := (int4Level c).1; l = (if c = 8 then -7 else toSigned 4 c) ∧ -128 ≤ l ∧ l < 128 := by decide
  exact hcodes _ (Nat.mod_lt _ (by decide))

theorem changeAt_int4 (t row col i : Nat) (l : Int) : changeAt row (t, col + i, l) = shadowAt t row col + i := (Nat.add_assoc ..).symm

/-- The changes of a line lie in the 64 bytes of its targets, one for each enabled byte. -/
theorem int4Changes_stored (s : State) (t row col : Nat) (data : List Byte) (be : Nat) :
    let u := s.setTargets row (s.moved row (int4Changes t col data be))
    SameMemBut (shadowAt t row col) 64 s u ∧
      ∀ i < 64, u.target t row (col + i) = if bitAt be i then int4LevelAt data i else s.target t row (col + i) := by
  refine ⟨fun b hb => s.get_setTargets_other fun x hx => ?_, fun i hi => ?_⟩
  · obtain ⟨i, hi, -, rfl⟩ := mem_int4Changes.1 (List.mem_filter.1 hx).1
    rw [changeAt_int4]
    omega
  · by_cases hbe : bitAt be i = true
    · rw [if_pos hbe]
      obtain ⟨-, hlo, hhi⟩ := int4Level_eq (data.getD i 0).toNat
      refine s.target_setTargets_moved (x := (t, col + i, int4LevelAt data i)) (mem_int4Changes.2 ⟨i, hi, hbe, rfl⟩) (fun y hy hat => ?_)
        hlo hhi
      obtain ⟨j, -, -, rfl⟩ := mem_int4Changes.1 hy
      rw [changeAt_int4, changeAt_int4] at hat
      rw [Nat.add_left_cancel hat]
    · rw [if_neg hbe]
      refine State.target_of_get (s.get_setTargets_other fun x hx hat => ?_)
      obtain ⟨j, -, hj, rfl⟩ := mem_int4Changes.1 (List.mem_filter.1 hx).1
      have hat := hat.trans (changeAt_int4 t row col i 0)
      rw [changeAt_int4] at hat
      exact hbe (Nat.add_left_cancel hat ▸ hj)

/-! ### The window's write on an INT4 plate -/

theorem State.refixSpan_fix (s : State) (t a b : Nat) : (s.refixSpan t a b).fix = s.fix :=
  List.foldlRecOn (motive := fun u : State => u.fix = s.fix) _ _ rfl fun _ hu _ _ => hu

theorem State.refixAdvance_queue (s : State) (t : Nat) : (s.refixAdvance t).fix.queue = s.fix.queue := by
  unfold State.refixAdvance
  split
  · rfl
  · dsimp only
    rw [State.refixSpan_fix]

theorem State.disturb_only (s : State) (t : Nat) : OnlyTiles s (s.disturb t) := by
  unfold State.disturb
  split
  · split <;> rfl
  · rfl

/-- Before a write's targets change, the tiles it changes may have their refix advanced or their cells disturbed: the targets and the
fix queues stay. -/
theorem State.disturbed_keeps (s : State) (ts : List Nat) :
    let u := ts.foldl State.disturb (ts.foldl State.refixAdvance s)
    u.mem = s.mem ∧ u.fix.queue = s.fix.queue := by
  refine List.foldlRecOn (motive := fun u : State => u.mem = s.mem ∧ u.fix.queue = s.fix.queue) ts State.disturb
    (List.foldlRecOn (motive := fun u : State => u.mem = s.mem ∧ u.fix.queue = s.fix.queue) ts State.refixAdvance ⟨rfl, rfl⟩ ?_) ?_
  · intro u ⟨hmem, hqueue⟩ t _
    exact ⟨by rw [u.refixAdvance_only t]; exact hmem, (u.refixAdvance_queue t).trans hqueue⟩
  · intro u hu t _
    rw [u.disturb_only t]
    exact hu

theorem State.setTargets_mem_congr {s t : State} (h : t.mem = s.mem) (row : Nat) (l : List (Nat × Nat × Int)) :
    (t.setTargets row l).mem = (s.setTargets row l).mem := by
  induction l using List.reverseRecOn with
  | nil => exact h
  | append_singleton l x ih =>
    rw [State.setTargets_snoc, State.setTargets_snoc]
    exact congrArg (Memory.set · _ _) ih

/-- An entry for one tile at most finds room in a queue that is not full. -/
theorem State.queueRoom_of_one {s : State} {t : Nat} {ts : List Nat} (hroom : (s.fixQueue (dieOf t)).length < 1024)
    (hts : ts.Sublist [t]) : s.queueRoom ts = true := by
  refine List.all_eq_true.2 fun u hu => decide_eq_true ?_
  have hone : (ts.filter (fun v => dieOf v == dieOf u)).length ≤ 1 := (List.length_filter_le ..).trans hts.length_le
  rw [List.mem_singleton.1 (hts.subset hu)] at *
  omega

/-- A write of codes to a writable tile of an INT4 plate goes through, and stores the changes that move their target. -/
theorem State.windowWrite_int4 {s : State} {a : Nat} {data : List Byte} {be : Nat} {w : WindowLine} {r : ResImage × Plate × TileRec}
    (hw : WindowLine.ofDpa a = w) (honly : s.memoryOnly = false) (hregion : w.region = 0) (hwritable : s.tileWritable w.tile = true)
    (hrec : s.tileRec w.tile = some r) (hint4 : r.2.1.int8 = false) (hroom : (s.fixQueue (dieOf w.tile)).length < 1024) :
    ∃ u, s.windowWrite a data be = some u ∧
      u.mem = (s.setTargets w.row (s.moved w.row (int4Changes w.tile w.col data be))).mem := by
  have hpartner : r.2.1.partner r.2.2 = none := by simp [Plate.partner, hint4]
  unfold State.windowWrite
  rw [hw]
  extract_lets w'
  rw [if_neg (show ¬(w'.region = 2 ∨ s.memoryOnly = true) by simp [w', hregion, honly]),
    if_neg (show ¬(w'.region = 1 ∨ s.tileWritable w'.tile = false) by simp [w', hregion, hwritable]),
    show s.tileRec w'.tile = some r from hrec]
  dsimp -zeta only
  extract_lets partner c moved changed s0 needed s1 s2
  rw [if_neg (by simp [hint4])]
  have hchanged : changed.Sublist [w.tile] := by
    have h : changed.Sublist ([w.tile] ++ partner.toList) := List.filter_sublist
    simpa [partner, hpartner] using h
  obtain ⟨hmem, hqueue⟩ := s.disturbed_keeps changed
  have hneeded : s0.queueRoom needed = true :=
    State.queueRoom_of_one (by rw [State.fixQueue, hqueue]; exact hroom) (List.filter_sublist.trans hchanged)
  rw [if_neg (by simp [hneeded])]
  refine ⟨_, rfl, ?_⟩
  have hmoved : moved = s.moved w.row (int4Changes w.tile w.col data be) := by rw [← fixChanges_int4 hint4]; rfl
  have hs1 : s1.mem = (s.setTargets w.row moved).mem := State.setTargets_mem_congr hmem w.row moved
  have hs2 : OnlyFixing s1 s2 := foldl_onlyFixing _ (fun u t => u.setFixQueue_only _ _) _ _
  rw [← hmoved, ← hs1]
  split
  · rw [hs2]
  · rw [(State.pmu_only _ _ _ _).mem, State.count_mem, hs2]

/-! ### WEIGHT_WRITE -/

/-- A claimed write behind no held one goes on at once where memory takes it. -/
theorem exec_weightWrite_taken {half : Fin 2} {hpa : BitVec 52} {data : Line} {be : BitVec 64} {s u : State} {a : Nat}
    (hserves : s.memServes half = true) (hheld : (s.half half).heldWrites = []) (hclaimed : s.claimed half hpa.toNat = some a)
    (hwrite : (s.pmu (0xE1 + 2 * half.val) none 1).memWrite ⟨a, data.toList, be.toNat, false⟩ = some u) :
    exec (.weightWrite half hpa data be) s = .next u := by
  show execWeightWrite half hpa data be s = _
  simp only [execWeightWrite, hserves, if_true, State.memWriteOrHold, State.pmu_claimed, hclaimed, State.pmu_heldWrites, hheld,
    List.isEmpty_nil, Bool.not_true, Bool.false_eq_true, if_false, hwrite]

theorem State.memWrite_window {s : State} {a : Nat} (ha : weightBase ≤ a) (hawake : s.clk.selfRefresh = 0) (data : List Byte) (be : Nat) :
    s.memWrite ⟨a, data, be, false⟩ = s.windowWrite a data be := by
  have hlow : ¬ a < weightBase := Nat.not_lt.2 ha
  simp only [State.memWrite, State.writeAsleep, if_neg hlow, hawake, bne_self_eq_false, Bool.false_eq_true, if_false]

/-- Settles O56: the write reaches `State.windowWrite`, which stores the changes that move their target (`windowWrite_int4`), and these
leave each enabled byte's level as its target (`int4Changes_stored`). -/
theorem int4CodesBecomeLevels : Obligations.Int4CodesBecomeLevels := by
  unfold Obligations.Int4CodesBecomeLevels
  intro half hpa data be s a r w hserves hheld hclaimed ha honly hawake hregion hwritable hrec hint4 hroom
  let s1 := s.pmu (0xE1 + 2 * half.val) none 1
  obtain ⟨u, hu, hmem⟩ := State.windowWrite_int4 (s := s1) (data := data.toList) (be := be.toNat) (a := a) (w := w) rfl
    ((s.pmu_memoryOnly _ _ _).trans honly) hregion ((s.pmu_tileWritable _ _ _ _).trans hwritable) ((s.pmu_tileRec _ _ _ _).trans hrec)
    hint4 ((congrArg List.length (s.pmu_fixQueue _ _ _ _)).trans_lt hroom)
  have hexec := exec_weightWrite_taken hserves hheld hclaimed
    ((State.memWrite_window ha ((congrArg _ (s.pmu_only _ _ _).clk).trans hawake) _ _).trans hu)
  obtain ⟨hother, htarget⟩ := int4Changes_stored s1 w.tile w.row w.col data.toList be.toNat
  have hmem1 : s1.mem = s.mem := (s.pmu_only _ _ _).mem
  refine ⟨u, hexec, fun b hb => ?_, fun i => ?_⟩
  · rw [hmem, hother b hb, hmem1]
  · rw [State.target_of_get (congrArg (Memory.get · _) hmem), htarget i.val i.isLt, bitAt_toNat,
      State.target_of_get (congrArg (Memory.get · _) hmem1), int4LevelAt, (int4Level_eq _).1]
    have hbyte : data.toList.getD i.val 0 = data[i] := by simp
    rw [hbyte]
    cases be.getLsbD i.val <;> simp

end Sys2Proof.Machine
end

section
/-!
PROOFS. Chain adds and slice merges (R275, R276): a tile's bank added into the bank of the tile that receives it.
-/

namespace Sys2Proof.Machine

/-! ### One column -/

/-- The keys of one column's bank value and limit flags in tile `u`'s bank `ubank`, and of its value in the bank of tile `k` that is added. -/
abbrev addKeys (k bank u ubank c : Nat) : Nat → Prop := fun key =>
  key = (R.TILE_BANK_value u ubank c).key ∨ key = (R.TILE_BFLAG_limit u c).key ∨ key = (R.TILE_BANK_value k bank c).key

theorem bankStore_mod (acc16 : Bool) (v : Int) : (bankStore acc16 v).1 % 2 ^ 32 = (bankStore acc16 v).1 := by
  unfold bankStore
  split <;> exact fromSigned_mod 32 _

theorem bankValue_ne_limit {u ubank c : Nat} (hub : ubank < 4) : (R.TILE_BANK_value u ubank c).key ≠ (R.TILE_BFLAG_limit u c).key := by
  simp only [Fld.key, R.TILE_BANK_value, R.TILE_BFLAG_limit]
  omega

section
variable {k bank u ubank c : Nat}

theorem addKeys_not_inPmu (g : Fld) (h : addKeys k bank u ubank c g.key) : ¬ inPmu g := by
  simp only [addKeys, Fld.key, R.TILE_BANK_value, R.TILE_BFLAG_limit, inPmu] at *
  omega

/-- Columns lie apart, whichever tiles and banks they are of. -/
theorem addKeys_apart {d : Nat} (hcd : c < d) (hd : d < 512) (key : Nat) (h : addKeys k bank u ubank c key) : ¬ addKeys k bank u ubank d key := by
  simp only [addKeys, Fld.key, R.TILE_BANK_value, R.TILE_BFLAG_limit] at *
  omega

theorem State.addColumn_touches (s : State) (k bank u ubank c : Nat) (acc16 : Bool) :
    Touches (addKeys k bank u ubank c) s (s.addColumn k bank u ubank c acc16) := by
  have hcommit (v : Int) : Touches (addKeys k bank u ubank c) s (s.commitColumn u ubank c acc16 false v) :=
    (s.put_touches _ _ (.inl rfl)).trans (State.put_touches _ _ _ (.inr (.inl rfl)))
  exact .ite ((hcommit _).trans (State.setBit_touches _ _ _ (.inr (.inl rfl)))) (hcommit _)

theorem State.addColumn_value (s : State) (k bank u : Nat) {ubank c : Nat} (acc16 : Bool) (hub : ubank < 4) :
    (s.addColumn k bank u ubank c acc16).get (R.TILE_BANK_value u ubank c) = (bankStore acc16
      (toSigned 32 (s.get (R.TILE_BANK_value u ubank c)) + toSigned 32 (s.get (R.TILE_BANK_value k bank c)))).1 := by
  have hne := bankValue_ne_limit (u := u) (c := c) hub
  have hcommit (v : Int) : (s.commitColumn u ubank c acc16 false v).get (R.TILE_BANK_value u ubank c) =
      (bankStore acc16 (toSigned 32 (s.get (R.TILE_BANK_value u ubank c)) + v)).1 := by
    rw [State.commitColumn, State.get_put_other _ _ _ _ hne, State.get_put_same]
    exact bankStore_mod acc16 _
  unfold State.addColumn
  split
  · rw [State.setBit_eq, State.get_put_other _ _ _ _ hne, hcommit]
  · exact hcommit _

end

/-! ### The whole bank -/

/-- Tile `k`'s bank added into tile `u`'s, column by column. -/
def State.bankAdded (s : State) (k bank u ubank : Nat) (acc16 : Bool) : State :=
  (List.range 512).foldl (fun v c => v.addColumn k bank u ubank c acc16) s

section
variable (s : State) {k bank u ubank : Nat} (acc16 : Bool)

theorem State.bankAdded_touches (hb : bank < 4) (hub : ubank < 4) : Touches (fun key => mapKeys k 0x8000 0xA800 key ∨ mapKeys u 0x8000 0xA800 key) s
    (s.bankAdded k bank u ubank acc16) := by
  refine Touches.foldl (fun c hc v => (v.addColumn_touches k bank u ubank c acc16).mono fun key hkey => ?_) s
  have hc : c < 512 := List.mem_range.1 hc
  simp only [addKeys, Fld.key, R.TILE_BANK_value, R.TILE_BFLAG_limit] at hkey
  omega

/-- Each column of the receiving bank holds the stored sum of both. -/
theorem State.bankAdded_value (hub : ubank < 4) {c : Nat} (hc : c < 512) :
    (s.bankAdded k bank u ubank acc16).get (R.TILE_BANK_value u ubank c) = (bankStore acc16
      (toSigned 32 (s.get (R.TILE_BANK_value u ubank c)) + toSigned 32 (s.get (R.TILE_BANK_value k bank c)))).1 := by
  have hapart : (List.range 512).Pairwise fun x y => ∀ key, addKeys k bank u ubank x key → ¬ addKeys k bank u ubank y key :=
    List.pairwise_lt_range.imp_of_mem fun _ hy hxy => addKeys_apart hxy (List.mem_range.1 hy)
  obtain ⟨v, hv, hread⟩ := foldl_touches_apart (fun x _ w => w.addColumn_touches k bank u ubank x acc16) hapart (List.mem_range.2 hc)
    addKeys_not_inPmu s
  rw [State.bankAdded, hread _ (.inl rfl), v.addColumn_value k bank u acc16 hub, hv _ (.inl rfl), hv _ (.inr (.inr rfl))]

end

/-! ### The move counted, and the bursts -/

/-- The words of the chain counters lie above those of every tile's banks. -/
theorem chainKeys_apart {j k u key : Nat} (h : mapKeys j 0xA808 0xA80C key) : ¬ (mapKeys k 0x8000 0xA800 key ∨ mapKeys u 0x8000 0xA800 key) := by
  omega

theorem chainOut_key (k : Nat) : mapKeys k 0xA808 0xA80C (R.TILE_CHAIN_adds_out k).key := by
  simp only [mapKeys, Fld.key, R.TILE_CHAIN_adds_out]
  omega

theorem chainIn_key (u : Nat) : mapKeys u 0xA808 0xA80C (R.TILE_CHAIN_adds_in u).key := by
  simp only [mapKeys, Fld.key, R.TILE_CHAIN_adds_in]
  omega

/-- The chain add counted at both tiles. -/
def State.chainCounted (s : State) (k u : Nat) : State :=
  ((s.count (R.TILE_CHAIN_adds_out k) 1).count (R.TILE_CHAIN_adds_in u) 1).pmuTile k 7 1

/-- The sender has sent, and the receiver has one inbound add more. -/
def State.burstsMarked (s : State) (k u : Nat) (b d : Burst) : State :=
  (s.setTile k { s.tile k with burst := some { b with sent := true } }).setTile u
    { s.tile u with burst := some { d with inbound := d.inbound + 1 } }

section
variable (s : State) (k u : Nat)

theorem State.chainCounted_touches : Touches (fun key => mapKeys k 0xA808 0xA80C key ∨ mapKeys u 0xA808 0xA80C key) s (s.chainCounted k u) := by
  exact ((s.count_touches _ 1 (.inl (chainOut_key k))).trans (State.count_touches _ _ 1 (.inr (chainIn_key u)))).trans
    (State.pmuTile_touches _ _ _ _ _)

theorem State.chainCounted_counts :
    (s.chainCounted k u).get (R.TILE_CHAIN_adds_out k) = satAdd 16 (s.get (R.TILE_CHAIN_adds_out k)) 1 ∧
      (s.chainCounted k u).get (R.TILE_CHAIN_adds_in u) = satAdd 16 (s.get (R.TILE_CHAIN_adds_in u)) 1 := by
  have hne : (R.TILE_CHAIN_adds_out k).key ≠ (R.TILE_CHAIN_adds_in u).key := by
    simp only [Fld.key, R.TILE_CHAIN_adds_out, R.TILE_CHAIN_adds_in]
    omega
  refine ⟨?_, ?_⟩
  · rw [State.chainCounted, State.pmuTile_get _ _ _ _ (mapKeys_not_inPmu (chainOut_key k)), State.count_eq _ (R.TILE_CHAIN_adds_in u),
      State.get_put_other _ _ _ _ hne, State.get_count_same]
    rfl
  · rw [State.chainCounted, State.pmuTile_get _ _ _ _ (mapKeys_not_inPmu (chainIn_key u)), State.get_count_same, State.count_eq,
      State.get_put_other _ _ _ _ hne.symm]
    rfl

variable (b d : Burst)

theorem State.burstsMarked_get (g : Fld) : (s.burstsMarked k u b d).get g = s.get g := rfl

theorem State.burstsMarked_mem : (s.burstsMarked k u b d).mem = s.mem := rfl

theorem State.burstsMarked_sender (hku : k ≠ u) : ((s.burstsMarked k u b d).tile k).burst = some { b with sent := true } := by
  rw [State.burstsMarked, State.tile_setTile_other _ _ hku, State.tile_setTile_same]

theorem State.burstsMarked_receiver : ((s.burstsMarked k u b d).tile u).burst = some { d with inbound := d.inbound + 1 } :=
  congrArg TileSt.burst (State.tile_setTile_same _ u _)

theorem State.burstsMarked_otherTiles : OtherTiles [k, u] s (s.burstsMarked k u b d) := by
  intro j hj
  obtain ⟨hjk, hju⟩ : j ≠ k ∧ j ≠ u := by simpa using hj
  rw [State.burstsMarked, State.tile_setTile_other _ _ hju, State.tile_setTile_other _ _ hjk]

end

/-! ### The command -/

/-- What a chain add or slice merge of bank `b.bank` of tile `k` into bank `d.bank` of tile `u` makes. -/
def State.chainMoved (s : State) (k u : Nat) (b d : Burst) (acc16 : Bool) : State :=
  ((s.bankAdded k b.bank u d.bank acc16).chainCounted k u).burstsMarked k u b d

theorem State.chainMove_ready {s : State} {k u : Nat} {b d : Burst} {r : ResImage × Plate × TileRec} (hb : (s.tile k).burst = some b)
    (hr : s.tileRec k = some r) (hready : b.ready r.2.1 k = true) (hsent : b.sent = false) (hout : r.2.1.outbound r.2.2 = some u)
    (hd : (s.tile u).burst = some d) : s.chainMove k r.2.2.reduceTo.isNone = s.chainMoved k u b d r.2.1.acc16 := by
  have hgo : (!b.ready r.2.1 k || b.sent || (r.2.2.reduceTo.isNone != r.2.2.reduceTo.isNone)) = false := by simp [hready, hsent]
  simp only [State.chainMove, hb, hr, hgo, hout, hd, Bool.false_eq_true, if_false]
  rfl

theorem exec_chainMove (k : Fin 256) (merge : Bool) (s : State) :
    exec (if merge then .sliceMerge k else .chainAdd k) s = .next (s.chainMove k.val merge) := by
  cases merge <;> rfl

section
variable (s : State) {k u : Nat} {b d : Burst} (acc16 : Bool) (hb : b.bank < 4) (hd : d.bank < 4)
include hb hd

theorem State.chainMoved_touches : Touches (fun key => mapKeys k 0x8000 0xA80C key ∨ mapKeys u 0x8000 0xA80C key) s
    ((s.bankAdded k b.bank u d.bank acc16).chainCounted k u) :=
  ((s.bankAdded_touches acc16 hb hd).mono (by omega)).trans ((State.chainCounted_touches _ k u).mono (by omega))

theorem State.chainMoved_mem : SameMem s (s.chainMoved k u b d acc16) := fun a => by
  rw [State.chainMoved, State.burstsMarked_mem, (s.chainMoved_touches acc16 hb hd).1.mem]

theorem State.chainMoved_otherTiles : OtherTiles [k, u] s (s.chainMoved k u b d acc16) := fun j hj => by
  rw [State.chainMoved, State.burstsMarked_otherTiles _ k u b d j hj, (s.chainMoved_touches acc16 hb hd).tile j]

theorem State.chainMoved_fields : FieldsButTiles [k, u] [] s (s.chainMoved k u b d acc16) := by
  intro g hp htiles _
  rw [State.chainMoved, State.burstsMarked_get]
  refine (s.chainMoved_touches acc16 hb hd).2 g hp ?_
  rintro (hk | hu)
  · exact htiles k (by simp) (by omega)
  · exact htiles u (by simp) (by omega)

theorem State.chainMoved_counts :
    (s.chainMoved k u b d acc16).get (R.TILE_CHAIN_adds_out k) = satAdd 16 (s.get (R.TILE_CHAIN_adds_out k)) 1 ∧
      (s.chainMoved k u b d acc16).get (R.TILE_CHAIN_adds_in u) = satAdd 16 (s.get (R.TILE_CHAIN_adds_in u)) 1 := by
  have hadded := (s.bankAdded_touches (k := k) (u := u) acc16 hb hd).2
  have hout := hadded _ (mapKeys_not_inPmu (chainOut_key k)) (chainKeys_apart (chainOut_key k))
  have hin := hadded _ (mapKeys_not_inPmu (chainIn_key u)) (chainKeys_apart (chainIn_key u))
  rw [State.chainMoved, State.burstsMarked_get, State.burstsMarked_get, ← hout, ← hin]
  exact State.chainCounted_counts _ k u

end

theorem State.chainMoved_value (s : State) {k u : Nat} {b d : Burst} (acc16 : Bool) (hd : d.bank < 4) {c : Nat} (hc : c < 512) :
    (s.chainMoved k u b d acc16).get (R.TILE_BANK_value u d.bank c) = (bankStore acc16
      (toSigned 32 (s.get (R.TILE_BANK_value u d.bank c)) + toSigned 32 (s.get (R.TILE_BANK_value k b.bank c)))).1 := by
  have hkey : mapKeys u 0x8000 0xA800 (R.TILE_BANK_value u d.bank c).key := by
    simp only [mapKeys, Fld.key, R.TILE_BANK_value]
    omega
  have hcounted := (State.chainCounted_touches (s.bankAdded k b.bank u d.bank acc16) k u).2 _ (mapKeys_not_inPmu hkey) (by omega)
  rw [State.chainMoved, State.burstsMarked_get, hcounted, s.bankAdded_value acc16 hd hc]

end Sys2Proof.Machine
end

section
/-!
PROOFS. The compensated add at a DRAM controller (R285), and output runs: an INT8 run's codes (R278, R281), and a run's waits for banks
(R295).
-/

namespace Sys2Proof.Machine

/-! ### Little-endian bytes written and read -/

@[simp] theorem toLE_length (n v : Nat) : (toLE n v).length = n := by
  induction n generalizing v with
  | zero => rfl
  | succ n ih => rw [toLE, List.length_cons, ih]

theorem ofLE_toLE (n v : Nat) : ofLE (toLE n v) = v % 256 ^ n := by
  induction n generalizing v with
  | zero => rw [toLE, ofLE, Nat.pow_zero, Nat.mod_one]
  | succ n ih =>
    rw [toLE, ofLE, ih, BitVec.toNat_ofNat, Nat.pow_succ' (m := 256), Nat.mod_mul]

theorem Memory.read_write (m : List Host.Cell) (a : Nat) (bs : List Byte) : Memory.read (Memory.write m a bs) a bs.length = bs := by
  refine List.ext_getElem (by simp [Memory.read]) fun i _ hi => ?_
  simp only [Memory.read, List.getElem_map, List.getElem_range]
  exact Memory.get_write_inside bs m a i hi

theorem State.readNum_write (s : State) (a n v : Nat) : (s.writeMem a (toLE n v)).readNum a n = v % 256 ^ n := by
  have hread := Memory.read_write s.mem a (toLE n v)
  rw [toLE_length] at hread
  rw [State.readNum, State.readMem, State.writeMem, hread, ofLE_toLE]

theorem State.readNum_congr {s t : State} (h : t.mem = s.mem) (a n : Nat) : t.readNum a n = s.readNum a n := by
  rw [State.readNum, State.readMem, h, State.readNum, State.readMem]

/-! ### The compensated add -/

theorem exec_compAdd {addr : BitVec 40} {s : State} (w : Word64) (hup : s.controlUp = true) (ha : addr.toNat / 8 * 8 < cmdEnd) :
    exec (.compAdd addr w) s = .next (s.handOver ⟨true, addr.toNat / 8 * 8, toLE 8 w.toNat⟩) :=
  congrArg _ (if_pos (by simp [hup, ha]))

theorem State.handOver_asleep {s : State} {w : DueWrite} (h : s.asleep w.addr = true) :
    s.handOver w = { s with dueWrites := s.dueWrites ++ [w] } := if_pos h

theorem State.handOver_awake {s : State} {w : DueWrite} (h : s.asleep w.addr = false) : s.handOver w = s.applyWrite w :=
  if_neg (by simp [h])

theorem exec_compAdd_awake {addr : BitVec 40} {s : State} (w : Word64) (hup : s.controlUp = true) (ha : addr.toNat / 8 * 8 < cmdEnd)
    (hawake : s.asleep (addr.toNat / 8 * 8) = false) : exec (.compAdd addr w) s = .next (s.addComp (addr.toNat / 8 * 8) w.toNat) := by
  have hword : ofLE (toLE 8 w.toNat) = w.toNat := (ofLE_toLE 8 _).trans (Nat.mod_eq_of_lt w.isLt)
  rw [exec_compAdd w hup ha, State.handOver_awake hawake, State.applyWrite, if_pos rfl, hword]

section
variable (s : State) (a : Nat)

theorem State.countFlush_mem (flushed : Bool) : (s.countFlush a flushed).mem = s.mem := by
  cases flushed <;> rfl

theorem State.countFlush_get (flushed : Bool) (g : Fld) : (s.countFlush a flushed).get g = s.get g := by
  cases flushed <;> rfl

theorem State.addComp_mem (w : Nat) : (s.addComp a w).mem = (s.writeMem a (toLE 8 (compAdd (s.readNum a 8) w).1)).mem := by
  rw [State.addComp, State.countFlush_mem, State.pmuLine, (State.pmu_only _ _ _ _).mem]

theorem State.addComp_readNum (w : Nat) : (s.addComp a w).readNum a 8 = (compAdd (s.readNum a 8) w).1 % 2 ^ 64 := by
  rw [State.readNum_congr (s.addComp_mem a w), State.readNum_write]
  rfl

theorem State.addComp_sameMemBut (w : Nat) : SameMemBut a 8 s (s.addComp a w) := by
  intro b hb
  rw [State.addComp_mem]
  exact Memory.get_write_outside _ s.mem a b (by rwa [toLE_length])

theorem State.addComp_fields (w : Nat) : FieldsButPmu [] s (s.addComp a w) := by
  intro g hp _
  rw [State.addComp, State.countFlush_get, State.pmuLine, State.pmu_get _ _ _ _ hp, State.writeMem_get]

end

/-! ### One channel of an unfused INT8 run with nearest rounding -/

theorem State.pmu_touches (s : State) (P : Nat → Prop) (code : Nat) (ctx : Option Nat) (inc : Nat) : Touches P s (s.pmu code ctx inc) :=
  ⟨s.pmu_only _ _ _, fun _ hp _ => s.pmu_get _ _ _ hp⟩

theorem State.pmuLines_touches (s : State) (P : Nat → Prop) (i a n : Nat) : Touches P s (s.pmuLines i a n) :=
  .ite (.refl P s) (Touches.foldl (fun _ _ u => u.pmu_touches P _ _ _) s)

/-- The run stores one INT8 code for each channel, rounded to nearest, with nothing fused (R281). -/
structure OutRun.PlainInt8 (r : OutRun) : Prop where
  fuse : r.cmd.fuse = 0
  result : r.cmd.result = 0
  nearest : r.cmd.stochastic = false

/-- The byte channel `j` is stored as, from its chain end `x`. -/
def State.int8Byte (s : State) (r : OutRun) (x : TileRec) (j : Nat) : Byte :=
  BitVec.ofNat 8 (int8Code .nearest (s.channelY r x j) r.cmd.zOut 0).1

/-- The keys of TILE_OUTCNT0.clamps of every tile. -/
abbrev clampKeys : Nat → Prop := fun key => ∃ k, key = (R.TILE_OUTCNT0_clamps k).key

theorem State.channelY_congr {s t : State} (h : KeysBut clampKeys s t) (r : OutRun) (x : TileRec) (j : Nat) :
    t.channelY r x j = s.channelY r x j := by
  have hbank : r.bankAt x < 4 := Nat.mod_lt _ (by decide)
  have hcol : j % 512 < 512 := Nat.mod_lt _ (by decide)
  have hvalue : t.get (R.TILE_BANK_value x.tile (r.bankAt x) (j % 512)) = s.get (R.TILE_BANK_value x.tile (r.bankAt x) (j % 512)) := by
    refine h _ ?_ ?_
    · simp only [inPmu, Fld.key, R.TILE_BANK_value]; omega
    · rintro ⟨k, hk⟩
      simp only [Fld.key, R.TILE_BANK_value, R.TILE_OUTCNT0_clamps] at hk
      omega
  have hshift : t.get (R.TILE_OSHIFT_shift x.tile (j % 512)) = s.get (R.TILE_OSHIFT_shift x.tile (j % 512)) := by
    refine h _ ?_ ?_
    · simp only [inPmu, Fld.key, R.TILE_OSHIFT_shift]; omega
    · rintro ⟨k, hk⟩
      simp only [Fld.key, R.TILE_OSHIFT_shift, R.TILE_OUTCNT0_clamps] at hk
      omega
  rw [State.channelY, hvalue, hshift, State.channelY]

section
variable {r : OutRun} (hr : r.PlainInt8)
include hr

theorem OutRun.PlainInt8.elemBytes : r.cmd.elemBytes = 1 := if_pos hr.result

theorem State.channelBad_unfused (s : State) (j : Nat) : s.channelBad r j = false := by simp [State.channelBad, hr.fuse]

/-- An awake stack takes the channel's byte; a clamp is counted. -/
theorem State.deliverChannel_int8 {s : State} {j : Nat} (p : Plate) (x : TileRec) (hawake : s.asleep (r.dst + (j - r.cmd.chFirst)) = false) :
    Touches clampKeys (s.writeMem (r.dst + (j - r.cmd.chFirst)) [s.int8Byte r x j]) (s.deliverChannel r p x j).1 := by
  have hhand (c : Nat) := State.handOver_awake (w := ⟨false, r.dst + (j - r.cmd.chFirst), toLE 1 c⟩) hawake
  simp only [State.deliverChannel, hr.elemBytes, hr.result, hr.nearest, State.drawLfsr, State.channelFused, hr.fuse, fuse, Nat.mul_one,
    Bool.false_and, Bool.false_eq_true, if_false, if_true, hhand]
  split
  · exact (State.count_touches _ _ 1 ⟨_, rfl⟩).trans (State.pmu_touches _ _ _ _ _)
  · exact .refl _ _

end

/-! ### The channels of a run -/

/-- The first `n` channels of a run are stored from `r.dst` on, as `s` has them. -/
structure Stored (s : State) (r : OutRun) (p : Plate) (n : Nat) (t : State) : Prop where
  clk : t.clk = s.clk
  outRuns : t.outRuns = s.outRuns
  keys : KeysBut clampKeys s t
  outside : SameMemBut r.dst n s t
  inside : ∀ i y, i < n → p.channelTile (r.cmd.chFirst + i) = some y → Memory.get t.mem (r.dst + i) = s.int8Byte r y (r.cmd.chFirst + i)

/-- One channel taken from a state in which those before it are delivered, with the flags gathered. -/
def State.deliverStep (r : OutRun) (p : Plate) (acc : State × Nat) (j : Nat) : State × Nat :=
  match p.channelTile j with
  | some x => let y := acc.1.deliverChannel r p x j; (y.1, orBits acc.2 y.2)
  | none => acc

section
variable {s t u : State} {r : OutRun} {p : Plate} {n : Nat}

theorem Stored.touches (h : Stored s r p n t) (hu : Touches clampKeys t u) : Stored s r p n u where
  clk := hu.1.clk.trans h.clk
  outRuns := (congrArg State.outRuns hu.1).trans h.outRuns
  keys := h.keys.trans hu.2
  outside b hb := by rw [hu.1.mem, h.outside b hb]
  inside i y hi hy := by rw [hu.1.mem, h.inside i y hi hy]

theorem Stored.write (h : Stored s r p n t) {y : TileRec} (hy : p.channelTile (r.cmd.chFirst + n) = some y) :
    Stored s r p (n + 1) (t.writeMem (r.dst + n) [t.int8Byte r y (r.cmd.chFirst + n)]) where
  clk := h.clk
  outRuns := h.outRuns
  keys := h.keys
  outside b hb := (Memory.get_write_outside _ _ _ _ (by rw [List.length_singleton]; omega)).trans (h.outside b (by omega))
  inside i z hi hz := by
    rcases Nat.lt_succ_iff_lt_or_eq.1 hi with hi | rfl
    · exact (Memory.get_write_outside _ _ _ _ (by omega)).trans (h.inside i z hi hz)
    · obtain rfl : y = z := Option.some.inj (hy.symm.trans hz)
      refine (Memory.get_write_inside _ t.mem (r.dst + i) 0 (by simp)).trans ?_
      rw [List.getElem_singleton, State.int8Byte, State.channelY_congr h.keys, State.int8Byte]

theorem Stored.skip (h : Stored s r p n t) (hnone : p.channelTile (r.cmd.chFirst + n) = none) : Stored s r p (n + 1) t where
  clk := h.clk
  outRuns := h.outRuns
  keys := h.keys
  outside b hb := h.outside b (by omega)
  inside i z hi hz := by
    rcases Nat.lt_succ_iff_lt_or_eq.1 hi with hi | rfl
    · exact h.inside i z hi hz
    · rw [hnone] at hz
      cases hz

theorem Stored.step (hr : r.PlainInt8) {acc : State × Nat} (h : Stored s r p n acc.1) (hawake : s.asleep (r.dst + n) = false) :
    Stored s r p (n + 1) (State.deliverStep r p acc (r.cmd.chFirst + n)).1 := by
  have hoff : r.cmd.chFirst + n - r.cmd.chFirst = n := Nat.add_sub_cancel_left ..
  unfold State.deliverStep
  split
  case h_1 y hy =>
    have hlater : acc.1.asleep (r.dst + (r.cmd.chFirst + n - r.cmd.chFirst)) = false := by
      rw [hoff, State.asleep, h.clk]
      exact hawake
    have htouch := State.deliverChannel_int8 hr p y hlater
    rw [hoff] at htouch
    exact (h.write hy).touches htouch
  case h_2 hnone => exact h.skip hnone

/-- The run's channels in turn, all of them to stacks that are awake. -/
theorem Stored.channels (hr : r.PlainInt8) (hawake : ∀ i, i < n → s.asleep (r.dst + i) = false) :
    Stored s r p n (((List.range n).map fun i => r.cmd.chFirst + i).foldl (State.deliverStep r p) (s, 0)).1 := by
  induction n with
  | zero => exact ⟨rfl, rfl, fun _ _ _ => rfl, fun _ _ => rfl, fun _ _ hi => absurd hi (Nat.not_lt_zero _)⟩
  | succ n ih =>
    rw [List.range_succ, List.map_append, List.foldl_append]
    exact (ih fun i hi => hawake i (by omega)).step hr (hawake n (by omega))

theorem State.channel_awake (hr : r.PlainInt8) (h : s.runAsleep r = false) {i : Nat} (hi : i < r.cmd.chCount) : s.asleep (r.dst + i) = false := by
  have hmem : r.cmd.chFirst + i ∈ r.cmd.channels := List.mem_map_of_mem (List.mem_range.2 hi)
  have hchannel := List.any_eq_false.1 h _ hmem
  simpa [State.fuseAsleep, OutRun.dstOf, hr.fuse, hr.result, hr.elemBytes] using hchannel

theorem State.deliverRun_stored (hr : r.PlainInt8) (hawake : s.runAsleep r = false) (whole : Bool) :
    Stored s r p r.cmd.chCount (s.deliverRun r p r.cmd.channels whole).1 := by
  have hgood : r.cmd.channels.filter (fun j => !s.channelBad r j) = r.cmd.channels :=
    List.filter_eq_self.2 fun j _ => by rw [State.channelBad_unfused hr, Bool.not_false]
  have hstored : Stored s r p r.cmd.chCount (r.cmd.channels.foldl (State.deliverStep r p) (s, 0)).1 :=
    Stored.channels hr fun i hi => State.channel_awake hr hawake hi
  refine hstored.touches ?_
  have h2 : ¬ r.cmd.result = 2 := by simp [hr.result]
  have h5 : ¬ r.cmd.result = 5 := by simp [hr.result]
  simp only [State.deliverRun, hgood, if_neg h2, if_neg h5]
  refine .ite ?_ ?_
  · exact ((State.pmu_touches _ _ _ _ _).trans (State.pmuLines_touches _ _ _ _ _)).trans (State.pmu_touches _ _ _ _ _)
  · exact (State.pmu_touches _ _ _ _ _).trans (State.pmuLines_touches _ _ _ _ _)

end

/-! ### The end of a run -/

section
variable (s : State) (r : OutRun)

theorem State.gatherFlags_keeps (desc : Option (Nat × Nat)) (flags : Nat) :
    (s.gatherFlags desc flags).mem = s.mem ∧ (s.gatherFlags desc flags).outRuns = s.outRuns := by
  unfold State.gatherFlags
  split
  · exact ⟨rfl, rfl⟩
  · split <;> exact ⟨rfl, rfl⟩

theorem State.outputEnded_keeps (limit : Bool) : (s.outputEnded r limit).mem = s.mem ∧ (s.outputEnded r limit).outRuns = s.outRuns := by
  unfold State.outputEnded
  dsimp only
  split <;> exact ⟨rfl, rfl⟩

variable {s r}

theorem exec_outputRunDone {k : Fin 64} {x : Nat × ResImage × Plate} (hfind : s.outRuns.find? (fun q => q.cmd.plate == k.val) = some r)
    (hx : s.plateOf k.val = some x) (hawake : s.runAsleep r = false) : exec (.outputRunDone k) s = .next (s.outputRunDone r x.2.2) := by
  show execOutputRunDone k s = _
  simp only [execOutputRunDone, hfind, hx, hawake, Bool.false_eq_true, if_false]

theorem State.noteBad_unfused (hr : r.PlainInt8) (js : List Nat) : s.noteBad r js = s := by
  have hnone : js.find? (s.channelBad r) = none := List.find?_eq_none.2 fun j _ => by simp [State.channelBad_unfused hr]
  rw [State.noteBad, hnone]

/-- What an unfused INT8 run that waits for no bank leaves of the runs and of memory. -/
theorem State.outputRunDone_int8 {p : Plate} (hr : r.PlainInt8) (hfree : s.busyEnds r p = []) (hawake : s.runAsleep r = false) :
    ∃ t, Stored { s with outRuns := s.outRuns.erase r } r p r.cmd.chCount t ∧ (s.outputRunDone r p).outRuns = t.outRuns ∧
      (s.outputRunDone r p).mem = t.mem := by
  refine ⟨_, State.deliverRun_stored (s := { s with outRuns := s.outRuns.erase r }) hr hawake true, ?_⟩
  simp only [State.outputRunDone, hfree, State.noteBad_unfused hr]
  generalize State.deliverRun _ r p r.cmd.channels true = d
  obtain ⟨hgmem, hgruns⟩ := d.1.gatherFlags_keeps r.desc d.2
  obtain ⟨hemem, heruns⟩ := (d.1.gatherFlags r.desc d.2).outputEnded_keeps r (bitAt d.2 0)
  exact ⟨heruns.trans hgruns, hemem.trans hgmem⟩

end

/-! ### A run that waits for banks (R295) -/

/-- The keys a wait reaches at chain end `k`. -/
abbrev hazardKeys (k : Nat) : Nat → Prop := fun key => key = (R.TILE_OUTCNT1_hazard_waits k).key ∨ key = (R.TILE_EVT k).key

theorem hazardKeys_apart {j k key : Nat} (h : j ≠ k) (hj : hazardKeys j key) : ¬ hazardKeys k key := by
  simp only [hazardKeys, Fld.key, R.TILE_OUTCNT1_hazard_waits, R.TILE_EVT] at *
  omega

theorem hazardKeys_not_inPmu {k : Nat} (g : Fld) (h : hazardKeys k g.key) : ¬ inPmu g := by
  simp only [hazardKeys, Fld.key, R.TILE_OUTCNT1_hazard_waits, R.TILE_EVT, inPmu] at *
  omega

theorem nodup_eraseDups (l : List Nat) : l.eraseDups.Nodup := by
  induction hn : l.length using Nat.strong_induction_on generalizing l with
  | _ n ih =>
    cases l with
    | nil => simp
    | cons a l =>
      have hshort : (l.filter fun b => !b == a).length < n := hn ▸ Nat.lt_succ_of_le (List.length_filter_le ..)
      rw [List.eraseDups_cons, List.nodup_cons]
      exact ⟨by simp [List.mem_eraseDups], ih _ hshort _ rfl⟩

section
variable (s : State) (r : OutRun) (k : Nat)

theorem State.countWait_touches : Touches (hazardKeys k) s (s.countWait r k) :=
  ((s.count_touches _ 1 (.inl rfl)).trans (State.setBit_touches _ _ 5 (.inr rfl))).trans (State.pmu_touches _ _ _ _ _)

theorem State.countWait_waits :
    (s.countWait r k).get (R.TILE_OUTCNT1_hazard_waits k) = satAdd 16 (s.get (R.TILE_OUTCNT1_hazard_waits k)) 1 := by
  have hkey : (R.TILE_OUTCNT1_hazard_waits k).key ≠ (R.TILE_EVT k).key := by
    simp only [Fld.key, R.TILE_OUTCNT1_hazard_waits, R.TILE_EVT]
    omega
  rw [State.countWait, State.pmu_get _ _ _ _ (hazardKeys_not_inPmu (k := k) _ (.inl rfl)), State.setBit_eq, State.get_put_other _ _ _ _ hkey,
    State.get_count_same]
  rfl

theorem State.countWait_bitSet : BitSet (s.countWait r k) (R.TILE_EVT k) 5 := by
  rw [BitSet, State.countWait, State.pmu_get _ _ _ _ (hazardKeys_not_inPmu (k := k) _ (.inr rfl)),
    State.setBit_bit _ _ _ _ (show 5 < 6 by decide), BEq.rfl, Bool.or_true]

end

/-- The waits of a run at chain ends it has not waited for before. -/
def State.waitsCounted (s : State) (r : OutRun) (ks : List Nat) : State := ks.foldl (fun u k => u.countWait r k) s

/-- The chain ends a run waits for the first time. -/
def State.freshEnds (s : State) (r : OutRun) (p : Plate) : List Nat := (s.busyEnds r p).filter fun k => !r.waited.contains k

section
variable (s : State) (r : OutRun) (p : Plate)

theorem State.freshEnds_nodup : (s.freshEnds r p).Nodup := (nodup_eraseDups _).filter _

theorem State.waitsCounted_touches (ks : List Nat) : Touches (fun key => ∃ k ∈ ks, hazardKeys k key) s (s.waitsCounted r ks) :=
  Touches.foldl (fun k hk u => (u.countWait_touches r k).mono fun _ hkey => ⟨k, hk, hkey⟩) s

/-- A chain end that is listed counts its wait once. -/
theorem State.waitsCounted_counts {ks : List Nat} (hks : ks.Nodup) {k : Nat} (hk : k ∈ ks) :
    (s.waitsCounted r ks).get (R.TILE_OUTCNT1_hazard_waits k) = satAdd 16 (s.get (R.TILE_OUTCNT1_hazard_waits k)) 1 ∧
      BitSet (s.waitsCounted r ks) (R.TILE_EVT k) 5 := by
  obtain ⟨u, hu, hread⟩ := foldl_touches_apart (fun x _ v => State.countWait_touches v r x) (hks.imp fun hne _ => hazardKeys_apart hne) hk
    hazardKeys_not_inPmu s
  refine ⟨?_, ?_⟩
  · rw [State.waitsCounted, hread _ (.inl rfl), State.countWait_waits, hu _ (.inl rfl)]
  · rw [BitSet, State.waitsCounted, hread _ (.inr rfl)]
    exact u.countWait_bitSet r k

/-- A chain end that is not listed counts nothing. -/
theorem State.waitsCounted_other {ks : List Nat} {k : Nat} (hk : k ∉ ks) :
    (s.waitsCounted r ks).get (R.TILE_OUTCNT1_hazard_waits k) = s.get (R.TILE_OUTCNT1_hazard_waits k) := by
  refine (s.waitsCounted_touches r ks).2 _ (hazardKeys_not_inPmu (k := k) _ (.inl rfl)) ?_
  rintro ⟨j, hj, hkey⟩
  exact hazardKeys_apart (fun h : j = k => hk (h ▸ hj)) hkey (.inl rfl)

/-- The waits counted and kept with the run. -/
def State.runWaits : State :=
  let u := s.waitsCounted r (s.freshEnds r p)
  { u with outRuns := u.outRuns.map (fun x => if x = r then { r with waited := r.waited ++ s.freshEnds r p } else x) }

theorem State.runWaits_only : OnlySignals { s with outRuns := (s.runWaits r p).outRuns } (s.runWaits r p) := by
  have honly := (s.waitsCounted_touches r (s.freshEnds r p)).1
  unfold OnlySignals State.runWaits at *
  dsimp only
  rw [honly]

theorem State.runWaits_length : (s.runWaits r p).outRuns.length = s.outRuns.length := by
  rw [State.runWaits, List.length_map, (s.waitsCounted_touches r _).1]

theorem State.runWaits_get (g : Fld) : (s.runWaits r p).get g = (s.waitsCounted r (s.freshEnds r p)).get g := rfl

theorem State.runWaits_fields :
    FieldsButPmu ((s.busyEnds r p).flatMap fun k => [R.TILE_OUTCNT1_hazard_waits k, R.TILE_EVT k]) s (s.runWaits r p) := by
  refine fun g hp hg => (s.waitsCounted_touches r (s.freshEnds r p)).2 g hp ?_
  rintro ⟨k, hk, hkey⟩
  have hbusy : k ∈ s.busyEnds r p := List.mem_of_mem_filter hk
  rcases hkey with hkey | hkey
  · exact hg _ (List.mem_flatMap.2 ⟨k, hbusy, by simp⟩) hkey
  · exact hg _ (List.mem_flatMap.2 ⟨k, hbusy, by simp⟩) hkey

variable {s r p}

theorem State.outputRunDone_busy (h : s.busyEnds r p ≠ []) : s.outputRunDone r p = s.runWaits r p := by
  unfold State.outputRunDone
  split
  · contradiction
  · rfl

theorem State.runWaits_again {k : Nat} (hk : k ∈ r.waited) :
    (s.runWaits r p).get (R.TILE_OUTCNT1_hazard_waits k) = s.get (R.TILE_OUTCNT1_hazard_waits k) :=
  s.waitsCounted_other r (by simp [State.freshEnds, hk])

theorem State.runWaits_first {k : Nat} (hbusy : k ∈ s.busyEnds r p) (hk : k ∉ r.waited) :
    (s.runWaits r p).get (R.TILE_OUTCNT1_hazard_waits k) = satAdd 16 (s.get (R.TILE_OUTCNT1_hazard_waits k)) 1 ∧
      BitSet (s.runWaits r p) (R.TILE_EVT k) 5 :=
  s.waitsCounted_counts r (s.freshEnds_nodup r p) (by simp [State.freshEnds, hbusy, hk])

end

/-! ### The statement -/

/-- Settles O43: a chain move is `chainMoved`, a compensated add `addComp`, and the end of an output run is `Stored` or `runWaits`. -/
theorem chainsAndOutputRuns : Obligations.ChainsAndOutputRuns := by
  unfold Obligations.ChainsAndOutputRuns
  refine ⟨fun k u merge b d r s hb hr hready hsent hmerge houtbound huk hd hbank hbank' => ?_,
    fun addr w s hup ha => ⟨fun hawake => ?_, fun hasleep => ?_⟩,
    fun k r x s hfind hx hawake => ⟨fun hfree hfuse hresult hnearest => ?_, fun hbusy => ?_⟩⟩
  · subst hmerge
    have hne : k.val ≠ u.val := fun h => huk (Fin.ext h).symm
    obtain ⟨hout, hin⟩ := s.chainMoved_counts (k := k.val) (u := u.val) r.2.1.acc16 hbank hbank'
    refine ⟨s.chainMoved k.val u.val b d r.2.1.acc16, ?_, State.burstsMarked_sender _ _ _ b d hne, State.burstsMarked_receiver _ _ _ b d,
      s.chainMoved_otherTiles _ hbank hbank', s.chainMoved_mem _ hbank hbank', s.chainMoved_fields _ hbank hbank', hout, hin,
      fun c => s.chainMoved_value _ hbank' c.isLt⟩
    rw [exec_chainMove, State.chainMove_ready hb hr hready hsent houtbound hd]
  · exact ⟨_, exec_compAdd_awake w hup ha hawake, s.addComp_sameMemBut _ _, s.addComp_readNum _ _, s.addComp_fields _ _⟩
  · rw [exec_compAdd w hup ha, State.handOver_asleep hasleep]
  · obtain ⟨t, hstored, hruns, hmem⟩ := State.outputRunDone_int8 ⟨hfuse, hresult, hnearest⟩ hfree hawake
    refine ⟨_, exec_outputRunDone hfind hx hawake, hruns.trans hstored.outRuns, fun b hb => ?_, fun i y hi hy => ?_⟩
    · rw [hmem, hstored.outside b hb]
    · rw [hmem, hstored.inside i y hi hy]
      rfl
  · have hexec := exec_outputRunDone hfind hx hawake
    rw [State.outputRunDone_busy hbusy] at hexec
    exact ⟨_, hexec, s.runWaits_only r x.2.2, s.runWaits_length r x.2.2, s.runWaits_fields r x.2.2,
      fun j hj => ⟨State.runWaits_again, State.runWaits_first hj⟩⟩

end Sys2Proof.Machine
end

section
/-!
PROOFS. Cells that the pump leaves inside their windows (R309–R312), and what a pumped segment leaves of its tile.
-/

namespace Sys2Proof.Machine

/-! ### A cell and a pair after a verified run -/

theorem CellTarget.landed_holds (c : CellTarget) (ix : Nat) : c.holds (c.landed ix) = true := by
  unfold CellTarget.holds CellTarget.landed
  extract_lets m
  have hfree : Config.free ix % (2 * m + 1) < 2 * m + 1 := Nat.mod_lt _ (Nat.succ_pos _)
  rw [decide_eq_true_eq]
  calc _ ≤ m * tempScale c.yTemp := Nat.mul_le_mul_right _ (by omega)
    _ ≤ c.window * 2 ^ 20 := Nat.div_mul_le_self ..

theorem pumpCell_holds (c : CellTarget) (ix : Nat) {r : PumpRun} (hr : r.verified = true) (g : Nat) : c.holds (pumpCell c ix r g) = true := by
  unfold pumpCell
  split
  case isTrue hin => exact hin
  case isFalse =>
    extract_lets h
    split
    case isTrue => exact c.landed_holds _
    case isFalse hin => simpa [hr] using hin

/-- Both cells of a pair lie in the windows of a level. -/
def CellPair.holds (p : CellPair) (w : Nat) (y l : Int) : Bool :=
  (CellTarget.mk (nominalPlus l) w y).holds p.plus && (CellTarget.mk (nominalMinus l) w y).holds p.minus

theorem pumpPair_holds (w : Nat) (y l : Int) (ix now : Nat) {r : PumpRun} (hr : r.verified = true) (p : CellPair) :
    (pumpPair w y l ix now r p).holds w y l = true := by
  have hplus := pumpCell_holds ⟨nominalPlus l, w, y⟩ ix hr p.plus
  have hminus := pumpCell_holds ⟨nominalMinus l, w, y⟩ (ix + 128) hr p.minus
  unfold pumpPair
  extract_lets a b
  split
  case isTrue hsame =>
    obtain ⟨ha, hb⟩ := hsame
    rw [CellPair.holds, ← ha, ← hb, hplus, hminus, Bool.and_self]
  case isFalse => rw [CellPair.holds, hplus, hminus, Bool.and_self]

theorem pumpPair_fixedAt (w : Nat) (y l : Int) (ix now : Nat) (r : PumpRun) (p : CellPair) : (pumpPair w y l ix now r p).fixedAt = now := by
  unfold pumpPair
  extract_lets
  split <;> rfl

/-- A pair has not fallen at the instant it was fixed (R325). -/
theorem CellPair.at_fixed {p : CellPair} {now : Nat} (h : p.fixedAt = now) (t key : Nat) : p.at t key now = p := by
  subst h
  simp only [CellPair.at, Nat.sub_self, fallen, Nat.sub_zero]

/-! ### Pairs set in a tile -/

/-- The cells with keys in `K` may change, and nothing else of the tile. -/
def CellsBut (K : Nat → Prop) (x y : TileSt) : Prop :=
  y = { x with cells := y.cells } ∧ ∀ key, ¬ K key → SMap.lookup y.cells key = SMap.lookup x.cells key

theorem CellsBut.trans {K : Nat → Prop} {x y z : TileSt} (h1 : CellsBut K x y) (h2 : CellsBut K y z) : CellsBut K x z := by
  obtain ⟨heq1, hcells1⟩ := h1
  obtain ⟨heq2, hcells2⟩ := h2
  exact ⟨by rw [heq2, heq1], fun key hk => (hcells2 key hk).trans (hcells1 key hk)⟩

theorem CellsBut.mono {K L : Nat → Prop} {x y : TileSt} (h : CellsBut K x y) (hKL : ∀ key, K key → L key) : CellsBut L x y :=
  ⟨h.1, fun key hk => h.2 key fun hK => hk (hKL key hK)⟩

theorem CellsBut.pair {K : Nat → Prop} {x y : TileSt} (h : CellsBut K x y) (t now : Nat) {row col : Nat} (hK : ¬ K (cellKey row col)) :
    y.pair t now row col = x.pair t now row col := by
  unfold TileSt.pair
  rw [h.2 _ hK, h.1]
  rfl

/-- Pairs of row `row` set, those of a list of levels with their places from column `c` on. -/
def TileSt.setPairs (x : TileSt) (row c : Nat) (f : Int × Nat → CellPair) (ls : List (Int × Nat)) : TileSt :=
  ls.foldl (fun y l => y.setPair row (c + l.2) (f l)) x

section
variable (x : TileSt) (row c : Nat) (f : Int × Nat → CellPair)

theorem TileSt.setPairs_cellsBut (ls : List (Int × Nat)) : CellsBut (fun key => ∃ l ∈ ls, key = cellKey row (c + l.2)) x (x.setPairs row c f ls) := by
  induction ls generalizing x with
  | nil => exact ⟨rfl, fun _ _ => rfl⟩
  | cons l ls ih =>
    refine .trans (y := x.setPair row (c + l.2) (f l)) ⟨rfl, fun key hk => ?_⟩ ((ih _).mono ?_)
    · have hne : key ≠ cellKey row (c + l.2) := fun h => hk ⟨l, List.mem_cons_self, h⟩
      exact (SMap.lookup_insert_other _ _ _ _ hne).trans (SMap.lookup_erase_other _ _ _ hne)
    · rintro key ⟨l', hl', hkey⟩
      exact ⟨l', List.mem_cons_of_mem _ hl', hkey⟩

theorem TileSt.setPairs_lookup {ls : List (Int × Nat)} (hls : (ls.map Prod.snd).Nodup) {l : Int × Nat} (hl : l ∈ ls) :
    SMap.lookup (x.setPairs row c f ls).cells (cellKey row (c + l.2)) = some (f l) := by
  induction ls generalizing x with
  | nil => cases hl
  | cons j ls ih =>
    obtain ⟨hj, hls⟩ := List.nodup_cons.1 hls
    rcases List.mem_cons.1 hl with rfl | hl
    · refine ((TileSt.setPairs_cellsBut _ row c f ls).2 _ ?_).trans (SMap.lookup_insert_same _ _ _ (SMap.lookup_erase_same _ _))
      rintro ⟨l', hl', hkey⟩
      have heq : l'.2 = l.2 := by unfold cellKey at hkey; omega
      exact hj (heq ▸ List.mem_map_of_mem hl')
    · exact ih _ hls hl

end

/-! ### A segment after the pump's run -/

/-- The keys of `n` pairs of a row, from the first of segment `m` on. -/
abbrev segKeys (row m n key : Nat) : Prop := ∃ i < n, key = cellKey row (segCol m + i)

section
variable (s : State) (t row m w : Nat) (levels : List Int) (r : PumpRun)

theorem State.pumpSegment_tile : (s.pumpSegment t row m w levels r).tile t = (s.tile t).setPairs row (segCol m)
    (fun l => pumpPair w (s.tempOf t) l.1 (s.freeIx + 256 * l.2) s.now r (s.pairAt t row (segCol m + l.2))) levels.zipIdx :=
  State.tile_setTile_same _ t _

theorem State.pumpSegment_cellsBut :
    CellsBut (segKeys row m levels.length) (s.tile t) ((s.pumpSegment t row m w levels r).tile t) := by
  rw [State.pumpSegment_tile]
  refine (TileSt.setPairs_cellsBut _ row (segCol m) _ _).mono ?_
  rintro key ⟨l, hl, hkey⟩
  exact ⟨l.2, List.snd_lt_of_mem_zipIdx hl, hkey⟩

theorem State.pumpSegment_works (P : Nat → Prop) : Works t P s (s.pumpSegment t row m w levels r) :=
  (s.setTile_works t _ P).trans (State.useFree_works _ t _ P)

/-- A pair outside the segment stays as it is. -/
theorem State.pumpSegment_pair_other {row' col' : Nat} (h : ¬ segKeys row m levels.length (cellKey row' col')) :
    (s.pumpSegment t row m w levels r).pairAt t row' col' = s.pairAt t row' col' :=
  (s.pumpSegment_cellsBut t row m w levels r).pair t s.now h

/-- A verified run leaves every pair of the segment in the windows of its level. -/
theorem State.pumpSegment_holds (hr : r.verified = true) {i : Nat} {l : Int} (hl : levels[i]? = some l) :
    ((s.pumpSegment t row m w levels r).pairAt t row (segCol m + i)).holds w (s.tempOf t) l = true := by
  have hnodup : (levels.zipIdx.map Prod.snd).Nodup := by
    rw [List.zipIdx_map_snd]
    exact List.nodup_range'
  have hmem : (l, i) ∈ levels.zipIdx := List.mem_zipIdx_iff_getElem?.2 hl
  rw [State.pairAt, State.pumpSegment_tile, TileSt.pair, TileSt.setPairs_lookup _ row (segCol m) _ hnodup hmem]
  refine (congrArg (CellPair.holds · w (s.tempOf t) l) (CellPair.at_fixed ?_ t _)).trans (pumpPair_holds _ _ _ _ _ hr _)
  exact pumpPair_fixedAt ..

end

/-! ### Segments inside their windows -/

theorem State.segTargets_length (s : State) (t row m : Nat) : (s.segTargets t row m).length = segWidth m := by
  unfold State.segTargets segWidth
  split <;> simp

theorem State.segTargets_congr {s u : State} (h : u.mem = s.mem) (t row m : Nat) : u.segTargets t row m = s.segTargets t row m := by
  simp only [State.segTargets, State.target, h]

theorem State.segHolds_iff (s : State) (t row m w : Nat) : s.segHolds t row m w = true ↔
    ∀ i l, (s.segTargets t row m)[i]? = some l → (s.pairAt t row (segCol m + i)).holds w (s.tempOf t) l = true := by
  show (s.segTargets t row m).zipIdx.all (fun l => (s.pairAt t row (segCol m + l.2)).holds w (s.tempOf t) l.1) = true ↔ _
  rw [List.all_eq_true]
  exact ⟨fun h i l hl => h (l, i) (List.mem_zipIdx_iff_getElem?.2 hl), fun h l hl => h l.2 l.1 (List.mem_zipIdx_iff_getElem?.1 hl)⟩

/-- Whether a segment is in its windows hangs on its targets, y_T and its pairs alone. -/
theorem State.segHolds_congr {s u : State} {t row m : Nat} (hmem : u.mem = s.mem)
    (htemp : u.get (R.TILE_GAIN_y_temp t) = s.get (R.TILE_GAIN_y_temp t))
    (hpairs : ∀ i < segWidth m, u.pairAt t row (segCol m + i) = s.pairAt t row (segCol m + i)) (w : Nat) :
    u.segHolds t row m w = s.segHolds t row m w := by
  rw [Bool.eq_iff_iff, State.segHolds_iff, State.segHolds_iff, State.segTargets_congr hmem, State.tempOf, htemp, ← State.tempOf]
  refine forall_congr' fun i => forall_congr' fun l => imp_congr_right fun hl => ?_
  rw [hpairs i (by rw [← s.segTargets_length t row m]; exact (List.getElem?_eq_some_iff.1 hl).1)]

theorem cellKey_inj {row row' col col' : Nat} (hcol : col < 520) (hcol' : col' < 520) (h : cellKey row col = cellKey row' col') :
    row = row' ∧ col = col' := by
  unfold cellKey at h
  omega

/-- The columns of segment `m` lie below 520, and name it. -/
theorem segCol_bound {m i : Nat} (hm : m < 9) (hi : i < segWidth m) : segCol m + i < 520 ∧ (segCol m + i) / 64 = m := by
  unfold segCol
  unfold segWidth at hi
  split at hi <;> omega

/-- Two segments of a tile have no pair in common. -/
theorem segKeys_apart {row m row' m' i : Nat} (hm : m < 9) (hm' : m' < 9) (hne : row ≠ row' ∨ m ≠ m') (hi : i < segWidth m) :
    ¬ segKeys row' m' (segWidth m') (cellKey row (segCol m + i)) := by
  rintro ⟨j, hj, hkey⟩
  obtain ⟨hcol, hseg⟩ := segCol_bound hm hi
  obtain ⟨hcol', hseg'⟩ := segCol_bound hm' hj
  obtain ⟨hrow, heq⟩ := cellKey_inj hcol hcol' hkey
  exact hne.elim (· hrow) (· (by rw [← hseg, heq, hseg']))

/-- A run on another segment leaves a segment as it is. -/
theorem State.pumpSegment_segHolds_other (s : State) {t row m row' m' : Nat} (hm : m < 9) (hm' : m' < 9) (hne : row ≠ row' ∨ m ≠ m')
    {levels : List Int} (hlen : levels.length = segWidth m') (w w' : Nat) (r : PumpRun) :
    (s.pumpSegment t row' m' w' levels r).segHolds t row m w = s.segHolds t row m w := by
  have hpairs : ∀ i < segWidth m,
      (s.pumpSegment t row' m' w' levels r).pairAt t row (segCol m + i) = s.pairAt t row (segCol m + i) := fun i hi =>
    s.pumpSegment_pair_other t row' m' w' levels r (hlen ▸ segKeys_apart hm hm' hne hi)
  exact State.segHolds_congr (s := s) (u := s.pumpSegment t row' m' w' levels r) rfl rfl hpairs w

/-- A refix leaves every segment it has passed inside the refix window (R332). -/
theorem State.refixSpan_holds (s : State) (t a b : Nat) {n : Nat} (ha : a ≤ n) (hb : n < b) :
    (s.refixSpan t a b).segHolds t (n / 9) (n % 9) refixWindow = true := by
  induction b with
  | zero => cases hb
  | succ b ih =>
    have hstep : s.refixSpan t a (b + 1) = (s.refixSpan t a b).pumpSegment t (b / 9) (b % 9) refixWindow
        ((s.refixSpan t a b).segTargets t (b / 9) (b % 9)) ⟨0, 32, true⟩ := by
      rw [State.refixSpan, List.range_succ, List.drop_append_of_le_length (by simpa using by omega), List.foldl_concat]
      rfl
    rw [hstep]
    rcases Nat.lt_succ_iff_lt_or_eq.1 hb with hlt | rfl
    · rw [← ih hlt]
      exact State.pumpSegment_segHolds_other _ (Nat.mod_lt _ (by decide)) (Nat.mod_lt _ (by decide)) (by omega)
        (State.segTargets_length ..) _ _ _
    · rw [State.segHolds_iff]
      exact fun i l hl => State.pumpSegment_holds _ t _ _ _ _ _ rfl hl

theorem State.refixSpan_works (s : State) (t a b : Nat) (P : Nat → Prop) : Works t P s (s.refixSpan t a b) :=
  List.foldlRecOn (motive := fun u : State => Works t P s u) _ _ (.refl t P s) fun u hu _ _ => hu.trans (u.pumpSegment_works t _ _ _ _ _ P)

end Sys2Proof.Machine
end

section
/-!
PROOFS. Segments that the pump starts and ends (R311, R313, R317, R318), and the erasure of a tile (R320).
-/

namespace Sys2Proof.Machine

/-! ### Queues and runs of a die -/

theorem State.fixRuns_setFixRuns (s : State) (d : Nat) (l : List FixRun) : (s.setFixRuns d l).fixRuns d = l := Vector.getElem_set_self _

theorem State.fixQueue_setFixQueue (s : State) (d : Nat) (l : List FixEntry) : (s.setFixQueue d l).fixQueue d = l :=
  Vector.getElem_set_self _

/-! ### SEGMENT_START -/

/-- The entry has left the queue, and its segment runs toward the targets of now. -/
def State.segmentBegun (s : State) (d : Nat) (e : FixEntry) : State :=
  (s.setFixQueue d ((s.fixQueue d).erase e)).setFixRuns d (s.fixRuns d ++ [⟨e.tile, e.row, e.seg, s.segTargets e.tile e.row e.seg⟩])

theorem exec_segmentStart {d : Fin 4} {e : FixEntry} {s : State} (hroom : s.pumpUsed d.val < s.pumpLimit)
    (he : (s.fixQueue d.val).find? (s.startable d.val) = some e) : exec (.segmentStart d) s = .next
      (if s.segHolds e.tile e.row e.seg fixWindow then s.segmentBegun d.val e else (s.segmentBegun d.val e).markDirty e.tile) := by
  show execSegmentStart d s = _
  simp only [execSegmentStart, if_neg (Nat.not_le.2 hroom), he]
  rfl

theorem State.segmentBegun_fixQueue (s : State) (d : Nat) (e : FixEntry) : (s.segmentBegun d e).fixQueue d = (s.fixQueue d).erase e :=
  s.fixQueue_setFixQueue d _

theorem State.segmentBegun_fixRuns (s : State) (d : Nat) (e : FixEntry) : (s.segmentBegun d e).fixRuns d =
    s.fixRuns d ++ [⟨e.tile, e.row, e.seg, s.segTargets e.tile e.row e.seg⟩] :=
  State.fixRuns_setFixRuns _ d _

theorem State.markDirty_otherTiles (s : State) (t : Nat) : OtherTiles [t] s (s.markDirty t) :=
  fun _ hk => s.tile_setTile_other _ (by simpa using hk)

/-! ### What ends with a segment -/

theorem yTemp_not_inPmu (t : Nat) : ¬ inPmu (R.TILE_GAIN_y_temp t) := by
  simp only [inPmu, Fld.key, R.TILE_GAIN_y_temp]
  omega

theorem Touches.pairAt {P : Nat → Prop} {s u : State} (h : Touches P s u) (t row col : Nat) : u.pairAt t row col = s.pairAt t row col := by
  rw [State.pairAt, h.tile t, h.1, State.pairAt]

theorem KeysBut.fields {l : List Fld} {s t : State} (h : KeysBut (fun key => ∃ f ∈ l, key = f.key) s t) : FieldsButPmu l s t := by
  refine fun g hp hl => h g hp ?_
  rintro ⟨f, hf, hkey⟩
  exact hl f hf hkey

theorem State.noteDrained_touches (s : State) {P : Nat → Prop} (h : P R.TILE_FIX_EVT.key) : Touches P s s.noteDrained :=
  .ite (s.raiseFix_touches 0 h) (.refl P s)

theorem State.noteTileDrained_works (s : State) (t : Nat) {P : Nat → Prop} (h : P (R.TILE_AGE_hours t).key) :
    Works t P s (s.noteTileDrained t) :=
  .ite (.refl t P s) ((s.setTile_works t _ P).trans ((State.put_touches _ _ 0 h).works t))

theorem State.noteTileDrained_pairAt (s : State) (t row col : Nat) : (s.noteTileDrained t).pairAt t row col = s.pairAt t row col := by
  unfold State.noteTileDrained
  split
  · rfl
  · have htile : ((s.setTile t { s.tile t with ageAt := some s.fix.coreTicks }).put (R.TILE_AGE_hours t) 0).tile t =
        { s.tile t with ageAt := some s.fix.coreTicks } := State.tile_setTile_same _ t _
    rw [State.pairAt, htile]
    rfl

section
variable (s : State) (t row w : Nat) {P : Nat → Prop}

theorem State.failSegments_works (ms : List Nat) (targets : Nat → List Int) : Works t P s (s.failSegments t row w ms targets) :=
  List.foldlRecOn (motive := fun u : State => Works t P s u) _ _ (s.useFree_works t _ P)
    fun u hu _ _ => hu.trans (u.pumpSegment_works t _ _ _ _ _ P)

theorem State.remapRow_works (bad : BitVec 8) (targets : Nat → List Int) (h : P R.TILE_FIX_EVT.key) :
    Works t P s (s.remapRow t row w bad targets).1 := by
  unfold State.remapRow
  extract_lets x losses
  split
  case isTrue => exact .refl t P s
  case isFalse =>
    split
    case h_1 k _ =>
      extract_lets s1 s2
      have hpumped : Works t P s1 s2 := List.foldlRecOn (motive := fun u : State => Works t P s1 u) _ _ (.refl t P s1)
        fun u hu _ _ => hu.trans (u.pumpSegment_works t _ _ _ _ _ P)
      exact ((s.setTile_works t _ P).trans hpumped).trans (((s2.raiseFix_touches 1 h).trans (State.pmu_touches _ P _ _ _)).works t)
    case h_2 => exact s.setTile_works t _ P

theorem State.rowFailed_works (bad : BitVec 8) (hevt : P R.TILE_FIX_EVT.key) (hspares : P (R.TILE_FIXSTAT_spares_exhausted t).key)
    (hover : P (R.TILE_FIXSTAT_over_budget t).key) : Works t P s (s.rowFailed t row w bad) := by
  have hremap := s.remapRow_works t row w bad (s.segTargets t row) hevt
  refine .ite hremap (hremap.trans (((State.puts_touches _ ?_).trans (State.raiseFix_touches _ 2 hevt)).works t))
  simpa using ⟨hspares, hover⟩

end

/-! ### SEGMENT_DONE -/

/-- The segment has left the runs, and its failed attempts and iterations are counted. -/
def State.segmentCounted (s : State) (d : Nat) (r : FixRun) (retries iterations : Nat) : State :=
  ((((s.setFixRuns d ((s.fixRuns d).erase r)).count (R.TILE_FIXCNT0_seg_retries r.tile) retries).pmu 0x62 (s.tileCtx r.tile) retries).pmu
    0x60 (s.tileCtx r.tile) 1).pmu 0x61 (s.tileCtx r.tile) iterations

/-- The targets that segment `m` of the run's row is pumped to. -/
def State.runTargets (s : State) (r : FixRun) (m : Nat) : List Int := if m = r.seg then r.targets else s.segTargets r.tile r.row m

/-- The run's segment and segment 8 of its row have verified. -/
def State.segmentPumped (s u : State) (r : FixRun) (run : PumpRun) : State :=
  (u.pumpSegment r.tile r.row r.seg fixWindow r.targets run).pumpSegment r.tile r.row 8 fixWindow (s.runTargets r 8) run

/-- One of the two has failed. -/
def State.segmentFailed (s u : State) (r : FixRun) (bad : BitVec 8) : State :=
  (u.failSegments r.tile r.row fixWindow [r.seg, 8] (s.runTargets r)).rowFailed r.tile r.row fixWindow bad

section
variable {s : State} {d : Nat} {r : FixRun} {attempts : Nat} (iterations : Nat) (bad : BitVec 8)

theorem State.segmentEnd_verified (h : attempts < 3) : s.segmentEnd d r attempts iterations true bad =
    ((s.segmentPumped (s.segmentCounted d r attempts iterations) r ⟨attempts, min 32 (iterations - 32 * attempts), true⟩).noteTileDrained
      r.tile).noteDrained := by
  simp only [State.segmentEnd, h, decide_true, Bool.and_self, if_true, List.foldl_cons, List.foldl_nil]
  rfl

theorem State.segmentEnd_failed : s.segmentEnd d r attempts iterations false bad =
    ((s.segmentFailed (s.segmentCounted d r 3 iterations) r bad).noteTileDrained r.tile).noteDrained := rfl

end

section
variable (s u : State) (d : Nat) (r : FixRun) {P : Nat → Prop}

theorem State.segmentCounted_touches (retries iterations : Nat) (h : P (R.TILE_FIXCNT0_seg_retries r.tile).key) :
    Touches P (s.setFixRuns d ((s.fixRuns d).erase r)) (s.segmentCounted d r retries iterations) :=
  (((State.count_touches _ _ _ h).trans (State.pmu_touches _ P _ _ _)).trans (State.pmu_touches _ P _ _ _)).trans
    (State.pmu_touches _ P _ _ _)

theorem retries_not_inPmu (t : Nat) : ¬ inPmu (R.TILE_FIXCNT0_seg_retries t) := by
  simp only [inPmu, Fld.key, R.TILE_FIXCNT0_seg_retries]
  omega

theorem State.segmentCounted_retries (retries iterations : Nat) :
    (s.segmentCounted d r retries iterations).get (R.TILE_FIXCNT0_seg_retries r.tile) =
      satAdd 16 (s.get (R.TILE_FIXCNT0_seg_retries r.tile)) retries := by
  have hp := retries_not_inPmu r.tile
  rw [State.segmentCounted, State.pmu_get _ _ _ _ hp, State.pmu_get _ _ _ _ hp, State.pmu_get _ _ _ _ hp]
  exact State.get_count_same _ _ _

theorem State.segmentPumped_works (run : PumpRun) : Works r.tile P u (s.segmentPumped u r run) :=
  (u.pumpSegment_works _ _ _ _ _ _ P).trans (State.pumpSegment_works _ _ _ _ _ _ _ P)

theorem State.segmentFailed_works (bad : BitVec 8) (hevt : P R.TILE_FIX_EVT.key)
    (hspares : P (R.TILE_FIXSTAT_spares_exhausted r.tile).key) (hover : P (R.TILE_FIXSTAT_over_budget r.tile).key) :
    Works r.tile P u (s.segmentFailed u r bad) :=
  (u.failSegments_works _ _ _ _ _).trans (State.rowFailed_works _ _ _ _ bad hevt hspares hover)

/-- The run's segment has landed on its targets, whatever segment 8 of its row does after it. -/
theorem State.segmentPumped_holds {run : PumpRun} (hrun : run.verified = true) (hseg : r.seg < 8) (hlen : r.targets.length ≤ 64)
    {i : Nat} {l : Int} (hl : r.targets[i]? = some l) :
    ((s.segmentPumped u r run).pairAt r.tile r.row (segCol r.seg + i)).holds fixWindow (u.tempOf r.tile) l = true := by
  have hi : i < segWidth r.seg := by
    have hlt := (List.getElem?_eq_some_iff.1 hl).1
    rw [segWidth, if_pos hseg]
    omega
  have hfog : (s.runTargets r 8).length = segWidth 8 := by
    rw [State.runTargets, if_neg (by omega), State.segTargets_length]
  rw [State.segmentPumped, State.pumpSegment_pair_other]
  · exact u.pumpSegment_holds _ _ _ _ _ _ hrun hl
  · rw [hfog]
    exact segKeys_apart (by omega) (by omega) (.inr (by omega)) hi

end

/-- The keys of the listed fields. -/
abbrev keysOf (l : List Fld) (key : Nat) : Prop := ∃ f ∈ l, key = f.key

/-- The fields of the tile, but for its failed attempts, that the end of a segment can reach. -/
def segmentMarks (t : Nat) : List Fld :=
  [R.TILE_FIXSTAT_spares_exhausted t, R.TILE_FIXSTAT_over_budget t, R.TILE_AGE_hours t, R.TILE_FIX_EVT]

theorem segmentMarks_apart (t : Nat) : ¬ keysOf (segmentMarks t) (R.TILE_FIXCNT0_seg_retries t).key := by
  simp [segmentMarks, Fld.key, R.TILE_FIXCNT0_seg_retries, R.TILE_FIXSTAT_spares_exhausted, R.TILE_FIXSTAT_over_budget, R.TILE_AGE_hours,
    R.TILE_FIX_EVT]
  omega

/-- What follows the pumping of a segment: the notes of what has drained. -/
def State.segmentOver (u : State) (t : Nat) : State := (u.noteTileDrained t).noteDrained

section
variable {s u : State} {d : Nat} {r : FixRun} {n iterations : Nat} {P : Nat → Prop}

theorem State.segmentOver_works (u : State) (t : Nat) (hage : P (R.TILE_AGE_hours t).key) (hevt : P R.TILE_FIX_EVT.key) :
    Works t P u (u.segmentOver t) :=
  (u.noteTileDrained_works t hage).trans ((State.noteDrained_touches _ hevt).works t)

theorem State.segmentOver_pairAt (u : State) (t row col : Nat) : (u.segmentOver t).pairAt t row col = u.pairAt t row col :=
  ((State.noteDrained_touches (P := fun _ => True) _ trivial).pairAt t row col).trans (u.noteTileDrained_pairAt t row col)

/-- Where the pump reached the tile and its marks alone, the run has left the runs and its failed attempts are counted. -/
theorem State.segmentOver_effect {rest : List FixRun} (hruns : s.fixRuns d = r :: rest)
    (hu : Works r.tile (keysOf (segmentMarks r.tile)) (s.segmentCounted d r n iterations) u) :
    (u.segmentOver r.tile).fixRuns d = rest ∧ OtherTiles [r.tile] s (u.segmentOver r.tile) ∧ SameMem s (u.segmentOver r.tile) ∧
      (u.segmentOver r.tile).get (R.TILE_FIXCNT0_seg_retries r.tile) = satAdd 16 (s.get (R.TILE_FIXCNT0_seg_retries r.tile)) n := by
  have hover : Works r.tile (keysOf (segmentMarks r.tile)) (s.segmentCounted d r n iterations) (u.segmentOver r.tile) :=
    hu.trans (u.segmentOver_works r.tile ⟨_, by simp [segmentMarks], rfl⟩ ⟨_, by simp [segmentMarks], rfl⟩)
  have hcounted := s.segmentCounted_touches d r (P := fun _ => True) n iterations trivial
  refine ⟨?_, fun k hk => (hover.2.1 k hk).trans (hcounted.tile k), fun a => ?_, ?_⟩
  · have hfix : (u.segmentOver r.tile).fix = (s.setFixRuns d ((s.fixRuns d).erase r)).fix := by rw [hover.1, hcounted.1]
    rw [State.fixRuns, hfix, ← State.fixRuns, State.fixRuns_setFixRuns, hruns, List.erase_cons_head]
  · rw [hover.mem a, hcounted.1.mem]
    rfl
  · rw [hover.2.2 _ (retries_not_inPmu _) (segmentMarks_apart _), State.segmentCounted_retries]

end

theorem exec_segmentDone {d : Fin 4} {r : FixRun} {rest : List FixRun} {s : State} (hruns : s.fixRuns d.val = r :: rest) (attempts : BitVec 2)
    (iterations : BitVec 7) (verified : Bool) (bad : BitVec 8) : exec (.segmentDone d attempts iterations verified bad) s =
      .next (s.segmentEnd d.val r attempts.toNat iterations.toNat verified bad) := by
  show execSegmentDone d attempts iterations verified bad s = _
  rw [execSegmentDone, hruns]

section
variable {s : State} {d : Nat} {r : FixRun} {rest : List FixRun} (hruns : s.fixRuns d = r :: rest) {attempts : Nat} (iterations : Nat)
  (bad : BitVec 8)

/-- A verified segment (R311, R312). -/
theorem State.segmentEnd_verified_fields (h : attempts < 3) :
    FieldsButPmu [R.TILE_FIXCNT0_seg_retries r.tile, R.TILE_AGE_hours r.tile, R.TILE_FIX_EVT] s
      (s.segmentEnd d r attempts iterations true bad) := by
  rw [State.segmentEnd_verified iterations bad h]
  have hcounted := s.segmentCounted_touches d r (P := keysOf [R.TILE_FIXCNT0_seg_retries r.tile, R.TILE_AGE_hours r.tile, R.TILE_FIX_EVT])
    attempts iterations ⟨_, List.mem_cons_self, rfl⟩
  exact (hcounted.2.trans ((State.segmentPumped_works s _ r _).trans
    (State.segmentOver_works _ r.tile ⟨_, by simp, rfl⟩ ⟨_, by simp, rfl⟩)).2.2).fields

theorem State.segmentEnd_verified_holds (h : attempts < 3) (hseg : r.seg < 8) (hlen : r.targets.length ≤ 64) {i : Nat} {l : Int}
    (hl : r.targets[i]? = some l) : ((s.segmentEnd d r attempts iterations true bad).pairAt r.tile r.row (64 * r.seg + i)).holds fixWindow
      (s.tempOf r.tile) l = true := by
  rw [State.segmentEnd_verified iterations bad h, ← State.segmentOver, State.segmentOver_pairAt]
  have htemp : (s.segmentCounted d r attempts iterations).tempOf r.tile = s.tempOf r.tile := by
    rw [State.tempOf, (s.segmentCounted_touches d r attempts iterations (P := keysOf [R.TILE_FIXCNT0_seg_retries r.tile])
      ⟨_, List.mem_cons_self, rfl⟩).2]
    · rfl
    · exact yTemp_not_inPmu r.tile
    · simp [Fld.key, R.TILE_GAIN_y_temp, R.TILE_FIXCNT0_seg_retries]
  rw [← htemp]
  exact s.segmentPumped_holds _ r rfl hseg hlen hl

include hruns

theorem State.segmentEnd_verified_effect (h : attempts < 3) :
    let t := s.segmentEnd d r attempts iterations true bad
    t.fixRuns d = rest ∧ OtherTiles [r.tile] s t ∧ SameMem s t ∧
      t.get (R.TILE_FIXCNT0_seg_retries r.tile) = satAdd 16 (s.get (R.TILE_FIXCNT0_seg_retries r.tile)) attempts := by
  rw [State.segmentEnd_verified iterations bad h]
  exact State.segmentOver_effect hruns (s.segmentPumped_works _ r _)

/-- A segment that failed counts three failed attempts, whatever becomes of its row (R317, R318). -/
theorem State.segmentEnd_failed_effect :
    let t := s.segmentEnd d r attempts iterations false bad
    t.fixRuns d = rest ∧ OtherTiles [r.tile] s t ∧ SameMem s t ∧
      t.get (R.TILE_FIXCNT0_seg_retries r.tile) = satAdd 16 (s.get (R.TILE_FIXCNT0_seg_retries r.tile)) 3 := by
  rw [State.segmentEnd_failed iterations bad]
  exact State.segmentOver_effect hruns (s.segmentFailed_works _ r bad ⟨_, by simp [segmentMarks], rfl⟩ ⟨_, by simp [segmentMarks], rfl⟩
    ⟨_, by simp [segmentMarks], rfl⟩)

end

/-! ### TILE_ERASE_DONE without a failed pair -/

/-- The tile erased, and its event counted. -/
def State.erasedClean (s : State) (t : Nat) : State := ((s.eraseTile t false).raiseFix 9).pmu 0x64 none 1

theorem exec_tileEraseDone_clean {k : Fin 256} {s : State} (hmay : s.eraseMay k.val = true) (hup : s.blockUp 6 = true)
    (hslot : (s.tile k.val).eraseRun = true ∨ s.pumpUsed (dieOf k.val) < s.pumpLimit) :
    exec (.tileEraseDone k 0 [] 0) s = .next (s.erasedClean k.val) := by
  have hroom : (!(s.tile k.val).eraseRun && decide (s.pumpLimit ≤ s.pumpUsed (dieOf k.val))) = false := by
    rcases hslot with hrun | hfree
    · simp [hrun]
    · simp [Nat.not_le.2 hfree]
  show execTileEraseDone k 0 [] 0 s = _
  simp only [execTileEraseDone, hmay, hup, hroom, Bool.not_true, Bool.or_self, Bool.false_eq_true, if_false, if_true, List.foldl_nil]
  rfl

section
variable (s : State) (k : Nat)

theorem State.erasedClean_touches {P : Nat → Prop} (h : P R.TILE_FIX_EVT.key) : Touches P (s.eraseTile k false) (s.erasedClean k) :=
  (State.raiseFix_touches _ 9 h).trans (State.pmu_touches _ P _ _ _)

theorem State.eraseTile_same : (s.eraseTile k false).tile k = { s.tile k with
    erasing := false, eraseRun := false, dirty := false, blanks := (s.tile k).blanks + 1, blank := .erased, unfixed := false, hold := [],
    cells := (s.tile k).cells.filter (fun c => decide (512 ≤ c.1 % 520)) } :=
  State.tile_setTile_same _ k _

theorem State.eraseTile_other : OtherTiles [k] s (s.eraseTile k false) := fun _ hj =>
  State.tile_setTile_other (s.clearShadow k) _ (by simpa using hj)

/-- The shadow of a tile is a range of 0x40000 bytes (R304), which the erasure clears. -/
theorem State.eraseTile_get (a : Nat) : Memory.get (s.eraseTile k false).mem a =
    if shadowAt k 0 0 ≤ a ∧ a < shadowAt k 0 0 + 0x40000 then 0 else Memory.get s.mem a := by
  have hend : shadowAt (k + 1) 0 0 = shadowAt k 0 0 + 0x40000 := by
    unfold shadowAt
    omega
  show SMap.get 0 (SMap.clearRange s.mem (shadowAt k 0 0) (shadowAt (k + 1) 0 0)) a = _
  rw [hend]
  split
  case isTrue h => rw [SMap.get, SMap.lookup_clearRange_in _ _ _ _ h]; rfl
  case isFalse h => rw [SMap.get, SMap.lookup_clearRange_out _ _ _ _ h]; rfl

end

theorem State.raiseFix_bitSet (s : State) {b : Nat} (hb : b < 11) : BitSet (s.raiseFix b) R.TILE_FIX_EVT b := by
  rw [BitSet, State.raiseFix, State.raise_bit _ _ _ _ _ _ (by decide) hb, BEq.rfl, Bool.or_true]

theorem State.erasedClean_bitSet (s : State) (k : Nat) : BitSet (s.erasedClean k) R.TILE_FIX_EVT 9 := by
  rw [BitSet, State.erasedClean, State.pmu_get _ _ _ _ (by decide)]
  exact State.raiseFix_bitSet _ (by decide)

end Sys2Proof.Machine
end

section
/-!
PROOFS. Refix requests and the end of a tile's refix (R331, R332), the tiles' ages (R328, R329), and the statement on fixing.
-/

namespace Sys2Proof.Machine

/-! ### TILE_REFIX_REQ -/

section
variable {v : Word} {s : State} (hup : s.blockUp 6 = true) (hgo : v.getLsbD 7 = true)
include hup hgo

theorem exec_tileRefixReq_refused (h : s.plateOf (bits v.toNat 0 6) = none ∨ s.refixing (bits v.toNat 0 6) = true) :
    exec (.tileRefixReq v) s = .next (s.raiseFix 10) := by
  show execTileRefixReq v s = _
  rw [execTileRefixReq, if_pos hup, State.refixRequest, bitAt_toNat, hgo, if_neg (by simp)]
  rcases h with hnone | hbusy
  · rw [hnone]
  · cases s.plateOf (bits v.toNat 0 6) with
    | none => rfl
    | some x => exact congrArg _ (if_pos hbusy)

theorem exec_tileRefixReq_queued {x : Nat × ResImage × Plate} (hx : s.plateOf (bits v.toNat 0 6) = some x)
    (hfree : s.refixing (bits v.toNat 0 6) = false) (hall : v.getLsbD 6 = false) (htiles : x.2.2.tiles ≠ []) :
    exec (.tileRefixReq v) s = .next { s with fix := { s.fix with
      refixes := s.fix.refixes ++ [⟨bits v.toNat 0 6, x.2.2.tiles.map TileRec.tile, []⟩] } } := by
  have hsome : (x.2.2.tiles.map TileRec.tile).isEmpty = false := by simpa using htiles
  show execTileRefixReq v s = _
  rw [execTileRefixReq, if_pos hup, State.refixRequest, bitAt_toNat, hgo, if_neg (by simp), hx]
  simp only [hfree, bitAt_toNat, hall, Bool.false_eq_true, if_false, State.queueRefix, hsome]

end

/-! ### REFIX_DONE -/

/-- A tile whose refix has ended: its refix counted, its fog sums and its age anew. -/
def TileSt.refixEnded (x : TileSt) (ticks : Nat) : TileSt :=
  { x.clearFog with refixed := true, unfixed := false, refixes := min 65535 (x.refixes + 1), ageAt := some ticks }

/-- The fields of a tile that the end of its refix puts to 0. -/
def refixFields (k : Nat) : List Fld :=
  [R.TILE_GAIN_g_drift k, R.TILE_AGE_hours k, R.TILE_FIXSTAT_due k, R.TILE_FIXSTAT_over_budget k, R.TILE_FIXSTAT_fog_fault k]

/-- The segments left are verified, and the tile's refix has ended. -/
def State.refixVerified (s : State) (k pos : Nat) : State :=
  (s.refixSpan k pos segCount).setTile k (((s.refixSpan k pos segCount).tile k).refixEnded s.fix.coreTicks)

/-- The end of a refix with no failed row, before the tile leaves its plate's refix. -/
def State.refixCleared (s : State) (k pos : Nat) : State :=
  let u := (((s.refixVerified k pos).puts ((refixFields k).map fun f => (f, 0))).raiseFix 5)
  u.pmu 0x65 (u.tileCtx k) 1

/-- The end of a refix with no failed row. -/
def State.refixOver (s : State) (k pos : Nat) (p : Plate) : State := ((s.refixCleared k pos).refixRemove k).noteDue p

theorem exec_refixDone_clean {k : Fin 256} {x : RefixRun} {r : ResImage × Plate × TileRec} {s : State} (hrun : s.refixRun k.val = some x)
    (hrec : s.tileRec k.val = some r) : exec (.refixDone k []) s = .next (s.refixOver k.val x.pos r.2.1) := by
  have hticks : (s.refixSpan k.val x.pos segCount).fix.coreTicks = s.fix.coreTicks := by rw [State.refixSpan_fix]
  show execRefixDone k [] s = _
  rw [execRefixDone, hrun, hrec]
  dsimp only
  rw [State.refixTile]
  simp only [hticks, List.foldl_nil]
  rfl

section
variable (s : State) (k pos : Nat) (p : Plate)

/-- The keys of the fields that the end of a refix can reach. -/
abbrev refixKeys (k : Nat) : Nat → Prop := keysOf (refixFields k ++ [R.TILE_FIX_EVT, R.TILE_DUE0, R.TILE_DUE1])

theorem State.noteDue_touches : Touches (keysOf [R.TILE_DUE0, R.TILE_DUE1]) s (s.noteDue p) := by
  unfold State.noteDue
  extract_lets f
  have hf : keysOf [R.TILE_DUE0, R.TILE_DUE1] f.key := by
    unfold f
    split <;> exact ⟨_, by simp, rfl⟩
  exact .ite (s.setBit_touches f _ hf) (s.put_touches f _ hf)

theorem State.refixVerified_pairAt (row col : Nat) : (s.refixVerified k pos).pairAt k row col = (s.refixSpan k pos segCount).pairAt k row col := by
  rw [State.pairAt, State.refixVerified, State.tile_setTile_same]
  rfl

theorem State.refixVerified_works (P : Nat → Prop) : Works k P s (s.refixVerified k pos) :=
  (s.refixSpan_works k pos segCount P).trans (State.setTile_works _ k _ P)

theorem State.refixCleared_touches : Touches (refixKeys k) (s.refixVerified k pos) (s.refixCleared k pos) := by
  refine ((State.puts_touches _ fun f hf => ?_).trans (State.raiseFix_touches _ 5 ⟨R.TILE_FIX_EVT, by simp, rfl⟩)).trans
    (State.pmu_touches _ _ _ _ _)
  obtain ⟨g, hg, rfl⟩ := List.mem_map.1 hf
  exact ⟨g, List.mem_append_left _ hg, rfl⟩

theorem State.refixOver_touches : Touches (refixKeys k) ((s.refixCleared k pos).refixRemove k) (s.refixOver k pos p) :=
  (State.noteDue_touches _ p).mono fun _ ⟨f, hf, hkey⟩ => ⟨f, List.mem_append_right _ (List.mem_cons_of_mem _ hf), hkey⟩

/-- The tile has left its plate's refix (R332). -/
theorem State.refixRemove_pending : (s.refixRemove k).refixPending k = false := by
  simp only [State.refixPending, State.refixRemove, List.any_eq_false, List.mem_filter, List.mem_map]
  rintro r ⟨⟨r', -, rfl⟩, -⟩
  simp

theorem State.refixOver_pending : (s.refixOver k pos p).refixPending k = false := by
  rw [State.refixPending, (s.refixOver_touches k pos p).1]
  exact State.refixRemove_pending _ k

theorem State.refixOver_tile (j : Nat) : (s.refixOver k pos p).tile j = (s.refixVerified k pos).tile j :=
  ((s.refixOver_touches k pos p).tile j).trans ((s.refixCleared_touches k pos).tile j)

theorem State.refixOver_otherTiles : OtherTiles [k] s (s.refixOver k pos p) := fun j hj =>
  (s.refixOver_tile k pos p j).trans ((s.refixVerified_works k pos (fun _ => False)).2.1 j hj)

theorem State.refixOver_mem : (s.refixOver k pos p).mem = s.mem := by
  rw [(s.refixOver_touches k pos p).1.mem]
  show (s.refixCleared k pos).mem = s.mem
  rw [(s.refixCleared_touches k pos).1.mem, (s.refixVerified_works k pos (fun _ => False)).1]

theorem State.refixOver_keys : KeysBut (refixKeys k) s (s.refixOver k pos p) :=
  (s.refixVerified_works k pos _).2.2.trans ((s.refixCleared_touches k pos).2.trans (s.refixOver_touches k pos p).2)

theorem State.refixOver_holds {n : Nat} (ha : pos ≤ n) (hb : n < segCount) :
    (s.refixOver k pos p).segHolds k (n / 9) (n % 9) refixWindow = true := by
  have hspan : Works k (fun _ => False) s (s.refixSpan k pos segCount) := s.refixSpan_works k pos segCount _
  have htemp : (s.refixOver k pos p).get (R.TILE_GAIN_y_temp k) = (s.refixSpan k pos segCount).get (R.TILE_GAIN_y_temp k) := by
    refine (s.refixOver_keys k pos p _ (yTemp_not_inPmu k) ?_).trans (hspan.2.2 _ (yTemp_not_inPmu k) id).symm
    simp [refixFields, Fld.key, R.TILE_GAIN_y_temp, R.TILE_GAIN_g_drift, R.TILE_AGE_hours, R.TILE_FIXSTAT_due, R.TILE_FIXSTAT_over_budget,
      R.TILE_FIXSTAT_fog_fault, R.TILE_FIX_EVT, R.TILE_DUE0, R.TILE_DUE1]
    omega
  have hpairs : ∀ i < segWidth (n % 9), (s.refixOver k pos p).pairAt k (n / 9) (segCol (n % 9) + i) =
      (s.refixSpan k pos segCount).pairAt k (n / 9) (segCol (n % 9) + i) := fun i _ =>
    ((s.refixOver_touches k pos p).pairAt k _ _).trans (((s.refixCleared_touches k pos).pairAt k _ _).trans (s.refixVerified_pairAt k pos _ _))
  rw [State.segHolds_congr ((s.refixOver_mem k pos p).trans (by rw [hspan.1])) htemp hpairs]
  exact s.refixSpan_holds k pos segCount ha hb

/-- The refix leaves of the tile all but its cells and what its end sets. -/
theorem State.refixOver_ended : ∃ x, CellsBut (fun _ => True) (s.tile k) x ∧ (s.refixOver k pos p).tile k = x.refixEnded s.fix.coreTicks := by
  refine ⟨(s.refixSpan k pos segCount).tile k, ?_, (s.refixOver_tile k pos p k).trans (State.tile_setTile_same _ k _)⟩
  refine List.foldlRecOn (motive := fun u : State => CellsBut (fun _ => True) (s.tile k) (u.tile k)) _ _ ⟨rfl, fun _ h => absurd trivial h⟩
    fun u hu _ _ => hu.trans ((u.pumpSegment_cellsBut k _ _ _ _ _).mono fun _ _ => trivial)

theorem State.refixOver_cleared {f : Fld} (hf : f ∈ refixFields k) : (s.refixOver k pos p).get f = 0 := by
  have hkeys : ((refixFields k).map Fld.key).Nodup := by
    simp [refixFields, Fld.key, R.TILE_GAIN_g_drift, R.TILE_AGE_hours, R.TILE_FIXSTAT_due, R.TILE_FIXSTAT_over_budget, R.TILE_FIXSTAT_fog_fault]
    omega
  have hlow : 32 * 0x1000000 ≤ f.key := by
    revert f
    simp [refixFields, Fld.key, R.TILE_GAIN_g_drift, R.TILE_AGE_hours, R.TILE_FIXSTAT_due, R.TILE_FIXSTAT_over_budget, R.TILE_FIXSTAT_fog_fault]
    omega
  have hpmu : ¬ inPmu f := by
    unfold inPmu
    omega
  have hdue : (s.refixOver k pos p).get f = (s.refixCleared k pos).get f := by
    refine (State.noteDue_touches _ p).2 f hpmu ?_
    simp [Fld.key, R.TILE_DUE0, R.TILE_DUE1] at hlow ⊢
    omega
  have hevt : ∀ u : State, (u.raiseFix 5).get f = u.get f := fun u => by
    refine (u.raiseFix_touches (P := (· = R.TILE_FIX_EVT.key)) 5 rfl).2 f hpmu ?_
    simp [Fld.key, R.TILE_FIX_EVT] at hlow ⊢
    omega
  rw [hdue, State.refixCleared, State.pmu_get _ _ _ _ hpmu, hevt]
  refine (State.get_puts_mem _ (refixFields k) ?_ hkeys (p := (f, 0)) (List.mem_map.2 ⟨f, hf, rfl⟩)).trans (Nat.zero_mod _)
  exact (List.map_map ..).trans (List.map_id _)

theorem State.refixOver_bitSet : BitSet (s.refixOver k pos p) R.TILE_FIX_EVT 5 := by
  rw [BitSet, State.refixOver, (State.noteDue_touches _ p).2 _ (by decide) (by decide)]
  show BitSet (s.refixCleared k pos) R.TILE_FIX_EVT 5
  rw [BitSet, State.refixCleared, State.pmu_get _ _ _ _ (by decide)]
  exact State.raiseFix_bitSet _ (by decide)

end

/-! ### A sparse map's entry -/

/-- In canonical form a listed key stands in one entry. -/
theorem SMap.eq_append_of_lookup {α : Type} [DecidableEq α] {d : α} {m : SMap α} (hwf : SMap.wf d m = true) {k : Nat} {v : α}
    (h : SMap.lookup m k = some v) : ∃ l₁ l₂, m = l₁ ++ (k, v) :: l₂ ∧ (∀ x ∈ l₁, x.1 ≠ k) ∧ ∀ x ∈ l₂, x.1 ≠ k := by
  induction m with
  | nil => simp [SMap.lookup] at h
  | cons y m ih =>
    obtain ⟨j, u⟩ := y
    obtain ⟨-, hm, habove⟩ := (SMap.wf_cons d j u m).1 hwf
    by_cases hj : j = k
    · subst hj
      obtain rfl : u = v := by simpa [SMap.lookup] using h
      exact ⟨[], m, rfl, by simp, fun x hx hk => by have := habove x hx; omega⟩
    · obtain ⟨l₁, l₂, rfl, h₁, h₂⟩ := ih hm (by simpa [SMap.lookup, hj] using h)
      exact ⟨(j, u) :: l₁, l₂, rfl, List.forall_mem_cons.2 ⟨hj, h₁⟩, h₂⟩

/-- A tile that is not as after reset is listed. -/
theorem State.lookup_tile {s : State} {k : Nat} (h : (s.tile k).owner ≠ none) : SMap.lookup s.tiles k = some (s.tile k) := by
  unfold State.tile SMap.get at *
  cases hk : SMap.lookup s.tiles k with
  | some x => rfl
  | none => exact absurd (by rw [hk]; rfl) h

/-! ### TILE_AGE_HOUR -/

/-- A tile an hour older, due where it has passed the age limit. -/
def State.growOlder (u : State) (t : Nat) : State :=
  let v := u.count (R.TILE_AGE_hours t) 1
  if v.get R.TILE_REFIX_CFG_max_age < v.get (R.TILE_AGE_hours t) then v.tileDue t else v

/-- The turn of one listed tile, VCORE having been in range for `ticks`. -/
def State.ageTile (ticks : Nat) (u : State) (x : Nat × TileSt) : State :=
  match x.2.owner, x.2.ageAt with
  | some _, some a => if hourTicks * (u.get (R.TILE_AGE_hours x.1) + 1) ≤ ticks - a then u.growOlder x.1 else u
  | _, _ => u

theorem exec_tileAgeHour {s : State} (hrail : s.pwr.railGood.getLsbD 1 = true) :
    exec .tileAgeHour s = .next (s.tiles.foldl (State.ageTile s.fix.coreTicks) s) := by
  show execTileAgeHour s = _
  rw [execTileAgeHour, hrail, if_neg (by simp)]
  rfl

/-- The keys of the fields that a tile's turn can reach. -/
abbrev ageKeys (k : Nat) : Nat → Prop := keysOf [R.TILE_AGE_hours k, R.TILE_FIXSTAT_due k, R.TILE_DUE0, R.TILE_DUE1, R.TILE_FIX_EVT]

/-- What makes a tile due sets its due mark, its plate's and the event. -/
theorem State.tileDue_marks (s : State) (k : Nat) :
    Touches (keysOf [R.TILE_FIXSTAT_due k, R.TILE_DUE0, R.TILE_DUE1, R.TILE_FIX_EVT]) s (s.tileDue k) := by
  unfold State.tileDue
  split
  case h_1 => exact .refl _ s
  case h_2 o _ =>
    refine .ite (.refl _ s) (((s.put_touches _ 1 ⟨_, List.mem_cons_self, rfl⟩).trans (.ite ?_ ?_)).trans (State.raiseFix_touches _ 3 ?_))
    · exact State.setBit_touches _ _ _ ⟨R.TILE_DUE0, by simp, rfl⟩
    · exact State.setBit_touches _ _ _ ⟨R.TILE_DUE1, by simp, rfl⟩
    · exact ⟨R.TILE_FIX_EVT, by simp, rfl⟩

section
variable (u : State) (k ticks : Nat)

theorem State.growOlder_touches : Touches (ageKeys k) u (u.growOlder k) := by
  have hcount : Touches (ageKeys k) u (u.count (R.TILE_AGE_hours k) 1) := u.count_touches _ 1 ⟨_, List.mem_cons_self, rfl⟩
  exact .ite (hcount.trans ((State.tileDue_marks _ k).mono fun _ ⟨f, hf, hkey⟩ => ⟨f, List.mem_cons_of_mem _ hf, hkey⟩)) hcount

theorem hours_not_inPmu : ¬ inPmu (R.TILE_AGE_hours k) := by
  simp only [inPmu, Fld.key, R.TILE_AGE_hours]
  omega

theorem State.growOlder_hours : (u.growOlder k).get (R.TILE_AGE_hours k) = satAdd 16 (u.get (R.TILE_AGE_hours k)) 1 := by
  unfold State.growOlder
  extract_lets v
  have hv : v.get (R.TILE_AGE_hours k) = satAdd 16 (u.get (R.TILE_AGE_hours k)) 1 := State.get_count_same ..
  split
  · refine ((v.tileDue_marks k).2 _ (hours_not_inPmu k) ?_).trans hv
    simp [Fld.key, R.TILE_AGE_hours, R.TILE_FIXSTAT_due, R.TILE_DUE0, R.TILE_DUE1, R.TILE_FIX_EVT]
    omega
  · exact hv

theorem State.ageTile_touches (x : Nat × TileSt) : Touches (ageKeys x.1) u (u.ageTile ticks x) := by
  unfold State.ageTile
  split
  · exact .ite (u.growOlder_touches x.1) (.refl _ u)
  · exact .refl _ u

/-- A tile's turn leaves the age of every other tile. -/
theorem ageKeys_apart {j k : Nat} (h : j ≠ k) : ¬ ageKeys j (R.TILE_AGE_hours k).key := by
  simp [Fld.key, R.TILE_AGE_hours, R.TILE_FIXSTAT_due, R.TILE_DUE0, R.TILE_DUE1, R.TILE_FIX_EVT]
  omega

theorem State.ageTiles_hours_other {l : List (Nat × TileSt)} (h : ∀ x ∈ l, x.1 ≠ k) :
    (l.foldl (State.ageTile ticks) u).get (R.TILE_AGE_hours k) = u.get (R.TILE_AGE_hours k) := by
  have hother : Touches (· ≠ (R.TILE_AGE_hours k).key) u (l.foldl (State.ageTile ticks) u) := by
    refine Touches.foldl (fun x hx v => (v.ageTile_touches ticks x).mono ?_) u
    rintro key hkey rfl
    exact ageKeys_apart (h x hx) hkey
  exact hother.2 _ (hours_not_inPmu k) (· rfl)

theorem State.ageTiles_only (l : List (Nat × TileSt)) : OnlySignals u (l.foldl (State.ageTile ticks) u) :=
  (Touches.foldl (P := fun _ => True) (fun x _ v => (v.ageTile_touches ticks x).mono fun _ _ => trivial) u).1

end

/-- Each owned tile with a reference fix has one turn, which counts the hour if it has passed (R329). -/
theorem State.ageTiles_hours {s : State} (hwf : SMap.wf TileSt.init s.tiles = true) {k a : Nat} {o : Nat × Nat} (ticks : Nat)
    (howner : (s.tile k).owner = some o) (hage : (s.tile k).ageAt = some a) :
    (s.tiles.foldl (State.ageTile ticks) s).get (R.TILE_AGE_hours k) =
      if hourTicks * (s.get (R.TILE_AGE_hours k) + 1) ≤ ticks - a then satAdd 16 (s.get (R.TILE_AGE_hours k)) 1
      else s.get (R.TILE_AGE_hours k) := by
  obtain ⟨l₁, l₂, hsplit, h₁, h₂⟩ := SMap.eq_append_of_lookup hwf (State.lookup_tile (s := s) (k := k) (by simp [howner]))
  rw [hsplit, List.foldl_append, List.foldl_cons, State.ageTiles_hours_other _ k ticks h₂]
  have hbefore := s.ageTiles_hours_other k ticks h₁
  generalize l₁.foldl (State.ageTile ticks) s = u at hbefore ⊢
  rw [← hbefore]
  simp only [State.ageTile, howner, hage]
  split
  · exact u.growOlder_hours k
  · rfl

/-! ### The statement -/

/-- Settles O44: a segment begins by `segmentBegun` and ends by `segmentEnd`; `erasedClean`, a queued or refused request, `refixOver` and the
tiles' turns `ageTile` are the rest. -/
theorem fixingSteps : Obligations.FixingSteps := by
  unfold Obligations.FixingSteps
  refine ⟨fun d e s hroom he => ?_, fun d r rest attempts iterations bad s hruns => ⟨fun hattempts => ?_, ?_⟩,
    fun k s hmay hup hslot => ?_, fun v s hup hgo => ⟨fun hrefused => ?_, fun x hx hfree hall htiles => ?_⟩, fun k x r s hrun hrec => ?_,
    fun k o a s hrail hwf howner hage => ?_⟩
  · refine ⟨_, ⟨e.tile, e.row, e.seg, s.segTargets e.tile e.row e.seg⟩, exec_segmentStart hroom he, ?_⟩
    cases s.segHolds e.tile e.row e.seg fixWindow with
    | true => exact ⟨s.segmentBegun_fixRuns d.val e, rfl, rfl, rfl, fun hseg => if_pos hseg, s.segmentBegun_fixQueue d.val e, fun _ _ => rfl,
        rfl, fun _ => rfl, nofun⟩
    | false => exact ⟨s.segmentBegun_fixRuns d.val e, rfl, rfl, rfl, fun hseg => if_pos hseg, s.segmentBegun_fixQueue d.val e,
        (s.segmentBegun d.val e).markDirty_otherTiles e.tile, rfl, nofun, fun _ => State.tile_setTile_same _ e.tile _⟩
  · obtain ⟨hrest, htiles, hmem, hretries⟩ := State.segmentEnd_verified_effect hruns iterations.toNat bad hattempts
    exact ⟨_, exec_segmentDone hruns attempts iterations true bad, hrest,
      fun hseg hlen i l hl => Bool.and_eq_true_iff.1 (State.segmentEnd_verified_holds _ bad hattempts hseg hlen hl),
      htiles, hmem, hretries, State.segmentEnd_verified_fields _ bad hattempts⟩
  · exact ⟨_, exec_segmentDone hruns attempts iterations false bad, State.segmentEnd_failed_effect hruns iterations.toNat bad⟩
  · have hevt : Touches (keysOf [R.TILE_FIX_EVT]) (s.eraseTile k.val false) (s.erasedClean k.val) :=
      s.erasedClean_touches k.val ⟨_, List.mem_cons_self, rfl⟩
    have hget : ∀ a, Memory.get (s.erasedClean k.val).mem a = _ := fun a =>
      (congrArg (Memory.get · a) hevt.1.mem).trans (s.eraseTile_get k.val a)
    refine ⟨_, exec_tileEraseDone_clean hmay hup hslot, (hevt.tile k.val).trans (s.eraseTile_same k.val),
      fun j hj => (hevt.tile j).trans (s.eraseTile_other k.val j hj), s.erasedClean_bitSet k.val, hevt.2.fields, fun a ha => ?_,
      fun a hlo hhi => (hget a).trans (if_pos ⟨hlo, hhi⟩)⟩
    exact (hget a).trans (if_neg (by omega))
  · exact ⟨_, exec_tileRefixReq_refused hup hgo hrefused, s.raiseFix_bitSet (by decide),
      (s.raiseFix_touches 10 ⟨_, List.mem_cons_self, rfl⟩).signals⟩
  · exact exec_tileRefixReq_queued hup hgo hx hfree hall htiles
  · obtain ⟨y, ⟨hcells, -⟩, htile⟩ := s.refixOver_ended k.val x.pos r.2.1
    refine ⟨_, exec_refixDone_clean hrun hrec, s.refixOver_pending _ _ _, s.refixOver_otherTiles _ _ _,
      fun a => congrArg (Memory.get · a) (s.refixOver_mem _ _ _), fun n => s.refixOver_holds _ _ _, ?_, ?_, ?_, ?_, ?_, ?_, ?_, ?_,
      s.refixOver_bitSet _ _ _⟩
    · rw [htile]; rfl
    · rw [htile]; rfl
    · rw [htile, hcells]; rfl
    · rw [htile]; rfl
    all_goals exact s.refixOver_cleared _ _ _ (by simp [refixFields])
  · have honly := s.ageTiles_only s.fix.coreTicks s.tiles
    have hhours := State.ageTiles_hours hwf s.fix.coreTicks howner hage
    exact ⟨_, exec_tileAgeHour hrail, honly.tiles, fun b => congrArg (Memory.get · b) honly.mem, fun h => hhours.trans (if_pos h),
      fun h => hhours.trans (if_neg (Nat.not_le.2 h))⟩

end Sys2Proof.Machine
end

section
/-!
PROOFS. Requests to the weight window that store nothing: unclaimed, held and dropped writes (R303, R305, R489, R501), and reads (R306–R308).
-/

namespace Sys2Proof.Machine

/-! ### Counters and messages under an event that is counted -/

theorem State.setHalf_signals (s : State) (h : Fin 2) (x : HalfSt) (l : List Fld) : Signals l s (s.setHalf h x) := ⟨rfl, fun _ _ _ => rfl⟩

theorem State.count_signals (s : State) (f : Fld) (n : Nat) {l : List Fld} (h : f ∈ l) : Signals l s (s.count f n) :=
  (s.count_touches f n ⟨f, h, rfl⟩).signals

theorem State.raiseFix_signals (s : State) (b : Nat) {l : List Fld} (h : R.TILE_FIX_EVT ∈ l) : Signals l s (s.raiseFix b) :=
  (s.raiseFix_touches b ⟨_, h, rfl⟩).signals

theorem State.raiseHost_signals (s : State) (b : Nat) {l : List Fld} (h : R.HOST_EVT ∈ l) : Signals l s (s.raiseHost b) :=
  ⟨s.raiseHost_only b, s.raise_fields _ _ _ b l h⟩

/-- A message emitted stays emitted when an event is counted. -/
theorem State.pmu_out {s : State} {o : Out} (h : o ∈ s.out) (code : Nat) (ctx : Option Nat) (inc : Nat) : o ∈ (s.pmu code ctx inc).out := by
  have hregs : ∀ {u v : State}, OnlyRegs u v → o ∈ u.out → o ∈ v.out := fun huv hu => by rw [huv]; exact hu
  have hsend : ∀ (u : State) (v : Nat), o ∈ u.out → o ∈ (u.sendRaw v).1.out := fun u v hu => by
    unfold State.sendRaw
    dsimp only
    split
    · exact List.mem_cons_of_mem _ hu
    · exact hu
  have hadd : o ∈ (s.pmuAdd code ctx inc).1.out := hregs (s.pmuAdd_only code ctx inc) h
  unfold State.pmu
  dsimp only
  split
  · unfold State.pmuOverflow
    dsimp only
    split_ifs
    · exact hadd
    · exact hregs (State.pmuAdd_only _ _ _ _) (hsend _ _ hadd)
    · exact hsend _ _ hadd
    · exact hadd
  · exact hadd

/-! ### Requests that no range claims (R489, R501) -/

theorem State.claimed_reset {s : State} (h : s.inCxlReset = true) (half : Fin 2) (hpa : Nat) : s.claimed half hpa = none := if_pos h

section
variable {half : Fin 2} {hpa : BitVec 52} {s : State} (hserves : s.memServes half = true)

theorem exec_weightWrite_off (h : s.memServes half = false) (data : Line) (be : BitVec 64) :
    exec (.weightWrite half hpa data be) s = .next s := by
  show execWeightWrite half hpa data be s = _
  rw [execWeightWrite, h, if_neg (by simp)]

theorem exec_weightRead_off (h : s.memServes half = false) : exec (.weightRead half hpa) s = .next s := by
  show execWeightRead half hpa s = _
  rw [execWeightRead, h, if_neg (by simp)]

include hserves

theorem exec_weightWrite_unclaimed (hclaimed : s.claimed half hpa.toNat = none) (data : Line) (be : BitVec 64) :
    exec (.weightWrite half hpa data be) s = .next ((s.pmu (0xE1 + 2 * half.val) none 1).unclaimedReq true) := by
  show execWeightWrite half hpa data be s = _
  simp only [execWeightWrite, hserves, if_true, State.memWriteOrHold, State.pmu_claimed, hclaimed]

theorem exec_weightRead_unclaimed (hclaimed : s.claimed half hpa.toNat = none) : exec (.weightRead half hpa) s =
    .next (((s.pmu (0xE0 + 2 * half.val) none 1).unclaimedReq false).emit (.line half.val zeroBytes true)) := by
  show execWeightRead half hpa s = _
  simp only [execWeightRead, hserves, if_true, State.pmu_claimed, hclaimed]

theorem exec_weightRead_claimed {a : Nat} (hclaimed : s.claimed half hpa.toNat = some a) (ha : weightBase ≤ a) :
    exec (.weightRead half hpa) s = .next ((s.pmu (0xE0 + 2 * half.val) none 1).windowRead half a) := by
  show execWeightRead half hpa s = _
  simp only [execWeightRead, hserves, if_true, State.pmu_claimed, hclaimed, if_pos ha]

end

section
variable {s : State} (code : Nat)

/-- An unclaimed request, after its own event, counts and raises its bit. -/
theorem State.unclaimedReq_counted (h : s.inCxlReset = false) (write : Bool) :
    let t := (s.pmu code none 1).unclaimedReq write
    t.get R.HOST_CNT1_unclaimed = satAdd R.HOST_CNT1_unclaimed.w (s.get R.HOST_CNT1_unclaimed) 1 ∧ BitSet t R.HOST_EVT 5 ∧
      Signals [R.HOST_CNT1_unclaimed, R.HOST_EVT] s t := by
  rw [State.unclaimedReq, if_neg (by simp [h])]
  refine ⟨?_, ?_, ((s.pmu_signals _ _ _ _).trans (State.count_signals _ _ 1 (by simp))).trans
    ((State.raiseHost_signals _ 5 (by simp)).trans (State.pmu_signals _ _ _ _ _))⟩
  · rw [State.pmu_get _ _ _ _ (by decide), (State.raiseHost_signals _ 5 (List.mem_singleton_self _)).2 _ (by decide) (by decide),
      State.get_count_same, s.pmu_get _ _ _ (by decide)]
  · rw [BitSet, State.pmu_get _ _ _ _ (by decide)]
    exact State.raiseHost_bitSet _ 5 (by decide)

/-- In a CXL reset a dropped write is counted, a read is not. -/
theorem State.unclaimedReq_write_reset (h : s.inCxlReset = true) :
    let t := (s.pmu code none 1).unclaimedReq true
    t.get R.HOST_CNT1_unclaimed = satAdd R.HOST_CNT1_unclaimed.w (s.get R.HOST_CNT1_unclaimed) 1 ∧ Signals [R.HOST_CNT1_unclaimed] s t := by
  rw [State.unclaimedReq, if_pos ((s.pmu_inCxlReset _ _ _).trans h), if_pos rfl]
  refine ⟨?_, (s.pmu_signals _ _ _ _).trans (State.count_signals _ _ 1 (by simp))⟩
  rw [State.get_count_same, s.pmu_get _ _ _ (by decide)]

theorem State.unclaimedReq_read_reset (h : s.inCxlReset = true) : (s.pmu code none 1).unclaimedReq false = s.pmu code none 1 := by
  rw [State.unclaimedReq, if_pos ((s.pmu_inCxlReset _ _ _).trans h), if_neg (by simp)]

end

/-! ### Writes that are held, and go on (R305) -/

/-- The state in which one more write is held on a half. -/
def State.holdWrite (s : State) (h : Fin 2) (w : HeldWrite) : State :=
  s.setHalf h { s.half h with heldWrites := (s.half h).heldWrites ++ [w] }

theorem exec_weightWrite_held {half : Fin 2} {hpa : BitVec 52} {data : Line} {be : BitVec 64} {s : State} {a : Nat}
    (hserves : s.memServes half = true) (hclaimed : s.claimed half hpa.toNat = some a)
    (hwait : (s.half half).heldWrites ≠ [] ∨ (s.pmu (0xE1 + 2 * half.val) none 1).memWrite ⟨a, data.toList, be.toNat, false⟩ = none) :
    exec (.weightWrite half hpa data be) s =
      .next ((s.pmu (0xE1 + 2 * half.val) none 1).holdWrite half ⟨a, data.toList, be.toNat, false⟩) := by
  show execWeightWrite half hpa data be s = _
  simp only [execWeightWrite, hserves, if_true, State.memWriteOrHold, State.pmu_claimed, hclaimed, State.pmu_heldWrites, State.holdWrite]
  by_cases hheld : (s.half half).heldWrites = []
  · simp only [hheld, List.isEmpty_nil, Bool.not_true, Bool.false_eq_true, if_false, hwait.resolve_left (· hheld), List.nil_append]
  · rw [if_pos (by simpa using hheld)]

theorem State.holdWrite_effect (s : State) (code : Nat) (h : Fin 2) (w : HeldWrite) :
    let t := (s.pmu code none 1).holdWrite h w
    (t.half h).heldWrites = (s.half h).heldWrites ++ [w] ∧ SameMem s t ∧ Signals [] s t := by
  refine ⟨?_, fun a => congrArg (Memory.get · a) (s.pmu_only code none 1).mem, (s.pmu_signals _ _ _ _).trans (State.setHalf_signals _ _ _ _)⟩
  rw [State.holdWrite, State.half_setHalf_same, State.pmu_heldWrites]

/-- A write to the window waits while memory is in self-refresh (R151). -/
theorem State.memWrite_asleep {s : State} {w : HeldWrite} (ha : weightBase ≤ w.addr) (h : s.clk.selfRefresh ≠ 0) : s.memWrite w = none := by
  have hlow : ¬ w.addr < weightBase := Nat.not_lt.2 ha
  rw [State.memWrite, if_pos]
  rw [State.writeAsleep, if_neg hlow]
  simpa using h

theorem State.setHalf_self (s : State) (h : Fin 2) : s.setHalf h (s.half h) = s := by
  have hself : s.host.halves.set h (s.half h) = s.host.halves := Vector.set_getElem_self _
  rw [State.setHalf, hself]

section
variable {half : Fin 2} {s : State}

theorem exec_weightWriteRelease_off (h : s.controlUp = false) : exec (.weightWriteRelease half) s = .next s := by
  show execWeightWriteRelease half s = _
  rw [execWeightWriteRelease, h, if_neg (by simp)]

variable (hup : s.controlUp = true)
include hup

theorem exec_weightWriteRelease_last {w : HeldWrite} {t : State} (hheld : (s.half half).heldWrites = [w]) (hwrite : s.memWrite w = some t) :
    exec (.weightWriteRelease half) s = .next (t.setHalf half { t.half half with heldWrites := [] }) := by
  show execWeightWriteRelease half s = _
  rw [execWeightWriteRelease, if_pos hup, hheld, State.releaseHeld, hwrite]
  rfl

theorem exec_weightWriteRelease_waits {w : HeldWrite} {rest : List HeldWrite} (hheld : (s.half half).heldWrites = w :: rest)
    (hwrite : s.memWrite w = none) : exec (.weightWriteRelease half) s = .next s := by
  show execWeightWriteRelease half s = _
  rw [execWeightWriteRelease, if_pos hup, hheld, State.releaseHeld, hwrite, ← hheld]
  exact congrArg _ (s.setHalf_self half)

end

/-! ### Writes that are dropped (R303) -/

section
variable {s : State} {a : Nat} (data : List Byte) (be : Nat)

theorem State.windowWrite_ignored (h : (WindowLine.ofDpa a).region = 2 ∨ s.memoryOnly = true) : s.windowWrite a data be = some s := by
  rw [State.windowWrite, if_pos h]

theorem State.windowWrite_dropped {w : WindowLine} (hw : WindowLine.ofDpa a = w) (hregion : w.region ≠ 2) (honly : s.memoryOnly = false)
    (hdrop : w.region = 1 ∨ s.tileWritable w.tile = false ∨ ∃ r, s.tileRec w.tile = some r ∧ r.2.1.int8 = true ∧ r.2.2.slice = 1) :
    s.windowWrite a data be = some s.dropWrite := by
  subst hw
  rw [State.windowWrite, if_neg (by simp [hregion, honly])]
  by_cases hclosed : (WindowLine.ofDpa a).region = 1 ∨ s.tileWritable (WindowLine.ofDpa a).tile = false
  · rw [if_pos hclosed]
  · obtain ⟨hopen, hwritable⟩ := not_or.1 hclosed
    obtain ⟨r, hr, hint8, hslice⟩ := (hdrop.resolve_left hopen).resolve_left hwritable
    rw [if_neg hclosed, hr]
    dsimp only
    rw [if_pos (by simp [hint8, hslice])]

theorem State.dropWrite_effect (s : State) (code : Nat) :
    let t := (s.pmu code none 1).dropWrite
    BitSet t R.TILE_FIX_EVT 8 ∧
      t.get R.TILE_FIX_CNT_dropped_writes = satAdd R.TILE_FIX_CNT_dropped_writes.w (s.get R.TILE_FIX_CNT_dropped_writes) 1 ∧
      Signals [R.TILE_FIX_CNT_dropped_writes, R.TILE_FIX_EVT] s t := by
  refine ⟨State.raiseFix_bitSet _ (by decide), ?_,
    ((s.pmu_signals _ _ _ _).trans (State.count_signals _ _ 1 (by simp))).trans (State.raiseFix_signals _ 8 (by simp))⟩
  rw [State.dropWrite, (State.raiseFix_signals _ 8 (List.mem_singleton_self _)).2 _ (by decide) (by decide), State.get_count_same,
    s.pmu_get _ _ _ (by decide)]

end

/-! ### Reads (R306–R308) -/

section
variable {s u : State} (h : OnlySignals s u)
include h

theorem OnlySignals.fix : u.fix = s.fix := by rw [h]

theorem OnlySignals.tileRec (t : Nat) : u.tileRec t = s.tileRec t := by
  simp only [State.tileRec, State.tile, State.resImage, h.tiles, h.img]

theorem OnlySignals.pairAt (t row col : Nat) : u.pairAt t row col = s.pairAt t row col := by
  have hnow : u.now = s.now := by rw [h]
  simp only [State.pairAt, State.tile, h.tiles, hnow]

theorem OnlySignals.readKind (w : WindowLine) : u.readKind w = s.readKind w := by
  have htile : u.tile = s.tile := funext fun t => by rw [State.tile, h.tiles, State.tile]
  have hseg : u.segPending = s.segPending := by
    funext t row seg
    simp only [State.segPending, State.fixQueue, State.fixRuns, h.fix]
  have hrefix : u.refixPending = s.refixPending := funext fun t => by rw [State.refixPending, h.fix, State.refixPending]
  rw [State.readKind, State.readKind, htile, hseg, hrefix, h.tileRec]

theorem OnlySignals.sensedLine (w : WindowLine) : u.sensedLine w = s.sensedLine w := by
  have hcode : u.sensedCode w = s.sensedCode w := by
    funext i
    simp only [State.sensedCode, h.tileRec, h.pairAt]
  simp only [State.sensedLine, hcode, h.pairAt]

end

section
variable {s : State} {half : Fin 2} {a : Nat} {w : WindowLine} (hw : WindowLine.ofDpa a = w)
include hw

theorem State.windowRead_zero (h : s.memoryOnly = true ∨ s.readKind w = .zero) :
    s.windowRead half a = s.emit (.line half.val zeroBytes false) := by
  unfold State.windowRead
  rw [hw]
  rcases h with honly | hkind
  · exact if_pos honly
  · simp only [hkind, ite_self]

theorem State.windowRead_marker (honly : s.memoryOnly = false) (h : s.readKind w = .marker) :
    s.windowRead half a = s.emit (.line half.val w.markers false) := by
  unfold State.windowRead
  rw [hw]
  simp only [honly, Bool.false_eq_true, if_false, h]

theorem State.windowRead_sense (honly : s.memoryOnly = false) (h : s.readKind w = .sense) :
    s.windowRead half a = s.setHalf half { s.half half with heldReads := (s.half half).heldReads ++ [(a, s.frame)] } := by
  unfold State.windowRead
  rw [hw]
  simp only [honly, Bool.false_eq_true, if_false, h]

end

section
variable {s : State} {half : Fin 2}

/-- How a waiting read is answered; a line that is sensed is counted (R306–R308). -/
def State.answerRead (s : State) (half : Fin 2) (w : WindowLine) : ReadKind → State
  | .zero => s.emit (.line half.val zeroBytes false)
  | .marker => s.emit (.line half.val w.markers false)
  | .sense => (s.emit (.line half.val (s.sensedLine w) false)).pmu 0x68 none 1

/-- The line of that answer. -/
def State.answerLine (s : State) (w : WindowLine) : ReadKind → List Byte
  | .zero => zeroBytes
  | .marker => w.markers
  | .sense => s.sensedLine w

theorem OnlySignals.answerLine {s u : State} (h : OnlySignals s u) (w : WindowLine) (kind : ReadKind) :
    u.answerLine w kind = s.answerLine w kind := by
  cases kind with
  | zero => rfl
  | marker => rfl
  | sense => exact h.sensedLine w

theorem State.answerRead_effect (s : State) (half : Fin 2) (w : WindowLine) (kind : ReadKind) :
    .line half.val (s.answerLine w kind) false ∈ (s.answerRead half w kind).out ∧
      ((s.answerRead half w kind).half half).heldReads = (s.half half).heldReads ∧ Signals [] s (s.answerRead half w kind) := by
  have hemit : ∀ line, .line half.val line false ∈ (s.emit (.line half.val line false)).out := fun _ => List.mem_cons_self
  cases kind with
  | zero => exact ⟨hemit _, rfl, s.emit_signals _ _⟩
  | marker => exact ⟨hemit _, rfl, s.emit_signals _ _⟩
  | sense =>
    refine ⟨State.pmu_out (hemit _) _ _ _, ?_, (s.emit_signals _ _).trans (State.pmu_signals _ _ _ _ _)⟩
    rw [State.answerRead, State.pmu_pends]
    rfl

theorem exec_weightReadSense_none (h : ∀ r ∈ (s.half half).heldReads, s.plateQuiet (WindowLine.ofDpa r.1).tile = false) :
    exec (.weightReadSense half) s = .next s := by
  have hnone : (s.half half).heldReads.find? (fun r => s.plateQuiet (WindowLine.ofDpa r.1).tile) = none :=
    List.find?_eq_none.2 fun r hr => by simp [h r hr]
  show execWeightReadSense half s = _
  rw [execWeightReadSense, hnone]

/-- The reads of a half that wait. -/
def State.setReads (s : State) (half : Fin 2) (rest : List (Nat × Nat)) : State := s.setHalf half { s.half half with heldReads := rest }

variable {r : Nat × Nat} {rest : List (Nat × Nat)} (hheld : (s.half half).heldReads = r :: rest)
include hheld

section
variable {w : WindowLine} (hw : WindowLine.ofDpa r.1 = w) (hquiet : s.plateQuiet w.tile = true)
include hw hquiet

/-- The decoding of addresses is kept opaque here: the kernel would otherwise count down from the window's base. -/
theorem exec_weightReadSense_first : exec (.weightReadSense half) s = .next ((s.setReads half rest).answerRead half w (s.readKind w)) := by
  have hkind := OnlySignals.readKind (u := s.setReads half rest) (s := s) rfl w
  obtain ⟨ofDpa, hdpa⟩ : ∃ f, f = WindowLine.ofDpa := ⟨_, rfl⟩
  show execWeightReadSense half s = _
  rw [execWeightReadSense, ← hdpa]
  rw [← hdpa] at hw
  have hfind : (s.half half).heldReads.find? (fun r => s.plateQuiet (ofDpa r.1).tile) = some r := by
    rw [hheld]
    exact List.find?_cons_of_pos (by rwa [hw])
  rw [hfind, hheld, ← hkind]
  dsimp only
  rw [hw, List.erase_cons_head, State.setReads]
  generalize State.readKind _ _ = kind
  cases kind <;> rfl

/-- The oldest waiting read answered once its plate is quiet. -/
theorem exec_weightReadSense_answers : ∃ t, exec (.weightReadSense half) s = .next t ∧
    .line half.val (s.answerLine w (s.readKind w)) false ∈ t.out ∧ (t.half half).heldReads = rest ∧ Signals [] s t := by
  have hset : Signals [] s (s.setReads half rest) := s.setHalf_signals half _ _
  obtain ⟨hout, hreads, hsignals⟩ := (s.setReads half rest).answerRead_effect half w (s.readKind w)
  refine ⟨_, exec_weightReadSense_first hheld hw hquiet, ?_, hreads.trans ?_, hset.trans hsignals⟩
  · rwa [hset.1.answerLine] at hout
  · rw [State.setReads, State.half_setHalf_same]

end

theorem exec_weightReadStale_young (h : s.frame < r.2 + 2) : exec (.weightReadStale half) s = .next s := by
  show execWeightReadStale half s = _
  rw [execWeightReadStale, hheld]
  exact congrArg _ (if_neg (Nat.not_le.2 h))

/-- A read that has waited 2 frames is answered with markers, and counted. -/
theorem exec_weightReadStale_old (h : r.2 + 2 ≤ s.frame) : exec (.weightReadStale half) s =
    .next ((((s.setReads half rest).count R.TILE_FIX_CNT_stale_reads 1).pmu 0x69 none 1).emit
      (.line half.val (WindowLine.ofDpa r.1).markers false)) := by
  show execWeightReadStale half s = _
  rw [execWeightReadStale, hheld]
  exact congrArg _ (if_pos h)

end

theorem exec_weightReadStale_empty {s : State} {half : Fin 2} (h : (s.half half).heldReads = []) :
    exec (.weightReadStale half) s = .next s := by
  show execWeightReadStale half s = _
  rw [execWeightReadStale, h]

theorem State.readStale_effect (s : State) (half : Fin 2) (rest : List (Nat × Nat)) (line : List Byte) :
    let t := (((s.setReads half rest).count R.TILE_FIX_CNT_stale_reads 1).pmu 0x69 none 1).emit (.line half.val line false)
    (t.half half).heldReads = rest ∧
      t.get R.TILE_FIX_CNT_stale_reads = satAdd R.TILE_FIX_CNT_stale_reads.w (s.get R.TILE_FIX_CNT_stale_reads) 1 ∧
      t.out.head? = some (.line half.val line false) ∧ Signals [R.TILE_FIX_CNT_stale_reads] s t := by
  have hset : Signals [R.TILE_FIX_CNT_stale_reads] s (s.setReads half rest) := s.setHalf_signals half _ _
  refine ⟨?_, ?_, rfl, (hset.trans (State.count_signals _ _ 1 (by simp))).trans ((State.pmu_signals _ _ _ _ _).trans (State.emit_signals _ _ _))⟩
  · show ((State.pmu _ 0x69 none 1).half half).heldReads = rest
    rw [State.pmu_pends]
    show ((s.setReads half rest).half half).heldReads = rest
    rw [State.setReads, State.half_setHalf_same]
  · rw [State.emit_get, State.pmu_get _ _ _ _ (by decide), State.get_count_same]
    rfl

end Sys2Proof.Machine
end

section
/-!
PROOFS. Writes of codes to the weight window: what a write that is taken does to targets, queues, refixes and tiles (R201, R245, R246, R303,
R305), and the statement on the window.
-/

namespace Sys2Proof.Machine

/-! ### A write that is taken -/

/-- Of a tile and its partner, those that a change moves. -/
def tilesMoved (t : Nat) (partner : Option Nat) (moved : List (Nat × Nat × Int)) : List Nat :=
  ([t] ++ partner.toList).filter (fun t => moved.any (fun x => x.1 == t))

/-- The refixes of the changed tiles have advanced, and the cells of a plate in quiesce are disturbed. -/
def State.writeReady (s : State) (ts : List Nat) : State := ts.foldl State.disturb (ts.foldl State.refixAdvance s)

/-- An entry for a segment of each of the tiles at the end of its die's queue. -/
def State.entriesQueued (s : State) (row seg : Nat) (ts : List Nat) : State :=
  ts.foldl (fun u t => u.setFixQueue (dieOf t) (u.fixQueue (dieOf t) ++ [⟨t, row, seg⟩])) s

/-- The entries that a write to the tiles needs, its plates being ready for it. -/
def State.writeNeeds (s : State) (w : WindowLine) (ts : List Nat) : List Nat := (s.writeReady ts).entriesNeeded w.row (w.col / 64) ts

/-- The moved targets of the tiles stored, and their segments queued. -/
def State.stored (s : State) (w : WindowLine) (moved : List (Nat × Nat × Int)) (ts : List Nat) : State :=
  ((s.writeReady ts).setTargets w.row moved).entriesQueued w.row (w.col / 64) (s.writeNeeds w ts)

/-- Codes that the write adjusted are counted (R245, R246). -/
def State.codesCounted (s : State) (t ctx n : Nat) : State :=
  if n = 0 then s else (s.count (R.TILE_FIXCNT0_adj_codes t) n).pmu 0x6A (some ctx) n

section
variable {s : State} {a : Nat} {w : WindowLine} {r : ResImage × Plate × TileRec} {data : List Byte} {be : Nat}
  (hw : WindowLine.ofDpa a = w) (honly : s.memoryOnly = false) (hregion : w.region = 0)
  (hwritable : s.tileWritable w.tile = true)
  (hrec : s.tileRec w.tile = some r)
include hw honly hregion hwritable hrec

/-- A write that its tile takes, with room for the entries it needs, goes through. -/
theorem State.windowWrite_taken {partner : Option Nat} {c : List (Nat × Nat × Int) × Nat} {ts : List Nat} (hpartner : r.2.1.partner r.2.2 = partner)
    (hopen : (r.2.1.int8 && (r.2.2.slice == 1 || !(partner.all s.tileWritable))) = false)
    (hc : fixChanges r.2.1 w.tile partner w.col data be = c) (hts : tilesMoved w.tile partner (s.moved w.row c.1) = ts)
    (hroom : (s.writeReady ts).queueRoom (s.writeNeeds w ts) = true) :
    s.windowWrite a data be = some ((s.stored w (s.moved w.row c.1) ts).codesCounted w.tile r.1.ctx c.2) := by
  unfold State.windowWrite
  rw [hw]
  extract_lets w'
  rw [if_neg (show ¬(w'.region = 2 ∨ s.memoryOnly = true) by simp [w', hregion, honly]),
    if_neg (show ¬(w'.region = 1 ∨ s.tileWritable w'.tile = false) by simp [w', hregion, hwritable]),
    show s.tileRec w'.tile = some r from hrec]
  subst hpartner hc hts
  dsimp -zeta only
  extract_lets partner c moved changed s0 needed s1 s2
  have hroom' : s0.queueRoom needed = true := hroom
  rw [if_neg (by simp [partner, hopen]), hroom', if_neg (by simp)]
  rfl

end

/-! ### What the storing leaves -/

/-- Everything but memory, the tiles, the pump's queues and the count of free values used is the same. -/
def OnlyWindow (s t : State) : Prop := t = { s with mem := t.mem, freeIx := t.freeIx, tiles := t.tiles, fix := t.fix }

theorem OnlyWindow.trans {s t u : State} (h1 : OnlyWindow s t) (h2 : OnlyWindow t u) : OnlyWindow s u := by
  unfold OnlyWindow at *
  rw [h2, h1]

theorem OnlyFixing.window {s t : State} (h : OnlyFixing s t) : OnlyWindow s t := by
  rw [h]
  rfl

/-- What a write stores between two events that signal. -/
theorem Signals.around {l : List Fld} {s s1 v t : State} (h1 : Signals l s s1) (hv : OnlyWindow s1 v) (h2 : Signals l v t) :
    Signals l { s with mem := t.mem, freeIx := t.freeIx, tiles := t.tiles, fix := t.fix } t := by
  obtain ⟨honly1, hfields1⟩ := h1
  obtain ⟨honly2, hfields2⟩ := h2
  have hget : ∀ g, v.get g = s1.get g := fun g => by rw [hv]; rfl
  refine ⟨?_, fun g hp hg => (hfields2 g hp hg).trans ((hget g).trans (hfields1 g hp hg))⟩
  rw [OnlySignals, honly2, hv, honly1]

section
variable (s : State) (t row seg : Nat)

theorem State.setTargets_only (l : List (Nat × Nat × Int)) : s.setTargets row l = { s with mem := (s.setTargets row l).mem } := by
  induction l using List.reverseRecOn with
  | nil => rfl
  | append_singleton l x ih =>
    rw [State.setTargets_snoc]
    generalize s.setTargets row l = u at ih ⊢
    rw [ih]
    rfl

theorem State.entriesQueued_only (ts : List Nat) :
    s.entriesQueued row seg ts = { s with fix := { s.fix with queue := (s.entriesQueued row seg ts).fix.queue } } := by
  induction ts generalizing s with
  | nil => rfl
  | cons t ts ih => exact (ih _).trans rfl

theorem State.writeReady_only (ts : List Nat) : OnlyFixing s (s.writeReady ts) :=
  (foldl_onlyFixing _ State.refixAdvance_only ts s).trans (foldl_onlyFixing _ (fun u t => by rw [u.disturb_only t]; rfl) ts _)

theorem State.codesCounted_signals (ctx n : Nat) : Signals [R.TILE_FIXCNT0_adj_codes t] s (s.codesCounted t ctx n) := by
  unfold State.codesCounted
  split
  · exact .refl _ s
  · exact (s.count_signals _ n (by simp)).trans (State.pmu_signals _ _ _ _ _)

end

section
variable (s : State) (w : WindowLine) (moved : List (Nat × Nat × Int)) (ts : List Nat)

theorem State.stored_only : OnlyWindow s (s.stored w moved ts) := by
  have hready : OnlyWindow s (s.writeReady ts) := (s.writeReady_only ts).window
  refine hready.trans ?_
  rw [State.stored, State.entriesQueued_only, State.setTargets_only]
  rfl

theorem State.stored_mem : (s.stored w moved ts).mem = (s.setTargets w.row moved).mem := by
  rw [State.stored, State.entriesQueued_only]
  exact State.setTargets_mem_congr (by rw [s.writeReady_only ts]) _ _

theorem State.stored_freeIx : (s.stored w moved ts).freeIx = (s.writeReady ts).freeIx := by
  rw [State.stored, State.entriesQueued_only, State.setTargets_only]

theorem State.stored_tiles : (s.stored w moved ts).tiles = (s.writeReady ts).tiles := by
  rw [State.stored, State.entriesQueued_only, State.setTargets_only]

theorem State.stored_fix : (s.stored w moved ts).fix =
    { (s.writeReady ts).fix with queue := ((s.writeReady ts).entriesQueued w.row (w.col / 64) (s.writeNeeds w ts)).fix.queue } := by
  have hqueue : ∀ u v : State, u.fix = v.fix → ∀ l,
      (u.entriesQueued w.row (w.col / 64) l).fix = (v.entriesQueued w.row (w.col / 64) l).fix := by
    intro u v huv l
    induction l generalizing u v with
    | nil => exact huv
    | cons t l ih => exact ih _ _ (by simp only [State.setFixQueue, State.fixQueue, huv])
  rw [State.stored, hqueue _ (s.writeReady ts) (by rw [State.setTargets_only]), State.entriesQueued_only]

end

/-- The targets after a write that is counted. -/
theorem State.stored_target (s : State) (w : WindowLine) (moved : List (Nat × Nat × Int)) (ts : List Nat) (t ctx n k row col : Nat) :
    ((s.stored w moved ts).codesCounted t ctx n).target k row col = (s.setTargets w.row moved).target k row col :=
  State.target_of_get (congrArg (Memory.get · _) ((State.codesCounted_signals _ t ctx n).1.mem.trans (s.stored_mem w moved ts)))

/-! ### A refix that goes on while its tile is written (R332, R333) -/

/-- A tile's running refix moved on to a position. -/
def RefixRun.movedTo (t pos : Nat) (y : RefixRun) : RefixRun := if y.tile = t then { y with pos := pos } else y

theorem RefixRun.movedTo_tile (t pos : Nat) (y : RefixRun) : (y.movedTo t pos).tile = y.tile := by
  unfold RefixRun.movedTo
  split <;> rfl

/-- The run found after a move is the run found before it, moved. -/
theorem findSome_movedTo (t pos : Nat) (rs : List Refix) :
    (rs.map fun r => { r with running := r.running.map (RefixRun.movedTo t pos) }).findSome? (fun r => r.running.find? (fun x => x.tile == t)) =
      (rs.findSome? fun r => r.running.find? (fun x => x.tile == t)).map (RefixRun.movedTo t pos) := by
  simp only [List.findSome?_map, List.map_findSome?, Function.comp_def, List.find?_map, RefixRun.movedTo_tile]

section
variable (s : State) (t : Nat)

theorem State.refixAdvance_running : (s.refixAdvance t).fix.running = s.fix.running := by
  unfold State.refixAdvance
  split
  · rfl
  · dsimp only
    rw [State.refixSpan_fix]

theorem State.refixAdvance_otherTiles : OtherTiles [t] s (s.refixAdvance t) := by
  unfold State.refixAdvance
  split
  · exact fun _ _ => rfl
  · exact (State.refixSpan_works { s with freeIx := s.freeIx + 1 } t _ _ (fun _ => False)).2.1

end

theorem State.refixAdvance_none {s : State} {t : Nat} (h : s.refixRun t = none) : s.refixAdvance t = s := by
  rw [State.refixAdvance, h]

/-- The running refix of the tile has come no less far, and no further than its last segment. -/
theorem State.refixAdvance_run {s : State} {t : Nat} {y : RefixRun} (hy : s.refixRun t = some y) (hpos : y.pos ≤ segCount) :
    ∃ y', (s.refixAdvance t).refixRun t = some y' ∧ y.pos ≤ y'.pos ∧ y'.pos ≤ segCount := by
  have hfree : Config.free s.freeIx % (segCount - y.pos + 1) < segCount - y.pos + 1 := Nat.mod_lt _ (Nat.succ_pos _)
  refine ⟨y.movedTo t (y.pos + Config.free s.freeIx % (segCount - y.pos + 1)), ?_, ?_⟩
  · rw [State.refixAdvance, hy]
    refine (findSome_movedTo t _ _).trans ?_
    rw [State.refixSpan_fix]
    exact congrArg (Option.map _) hy
  · unfold RefixRun.movedTo
    split
    · exact ⟨Nat.le_add_right _ _, by dsimp only; omega⟩
    · exact ⟨le_rfl, hpos⟩

/-! ### A tile whose cells a write disturbs (R201) -/

section
variable {s : State} {t : Nat} {r : ResImage × Plate × TileRec} (hrec : s.tileRec t = some r)
include hrec

theorem State.disturb_settled (h : r.1.leaving = false) : s.disturb t = s := by
  rw [State.disturb, hrec]
  simp only [h, Bool.false_eq_true, if_false]

theorem State.disturb_leaving (h : r.1.leaving = true) :
    ((s.disturb t).tile t).cells = [] ∧ ((s.disturb t).tile t).blank = .unknown ∧ ((s.disturb t).tile t).unfixed = true := by
  rw [State.disturb, hrec]
  simp only [h, if_true, State.tile_setTile_same, and_self]

end

theorem State.disturb_otherTiles (s : State) (t : Nat) : OtherTiles [t] s (s.disturb t) := by
  intro k hk
  unfold State.disturb
  split
  · split
    · exact s.tile_setTile_other _ (by simpa using hk)
    · rfl
  · rfl

/-! ### A write that changes targets of one tile -/

section
variable (s : State) (w : WindowLine) (moved : List (Nat × Nat × Int))

/-- An entry of the written segment is queued. -/
def State.segQueued : Bool :=
  (s.fixQueue (dieOf w.tile)).any (fun e => e.tile == w.tile && e.row == w.row && e.seg == w.col / 64)

theorem OnlyTiles.fix {s t : State} (h : OnlyTiles s t) : t.fix = s.fix := by rw [h]

theorem OnlyTiles.freeIx {s t : State} (h : OnlyTiles s t) : t.freeIx = s.freeIx := by rw [h]

/-- One entry, unless one is queued or the refix, advanced, has yet to reach the segment. -/
theorem State.writeNeeds_one : s.writeNeeds w [w.tile] =
    if (s.segQueued w || (s.refixAdvance w.tile).refixAhead w.tile w.row (w.col / 64)) = true then [] else [w.tile] := by
  have hfix : (s.writeReady [w.tile]).fix = (s.refixAdvance w.tile).fix := ((s.refixAdvance w.tile).disturb_only w.tile).fix
  have hqueue : (s.writeReady [w.tile]).fixQueue (dieOf w.tile) = s.fixQueue (dieOf w.tile) := by
    rw [State.fixQueue, hfix, s.refixAdvance_queue, State.fixQueue]
  have hahead : (s.writeReady [w.tile]).refixAhead w.tile w.row (w.col / 64) = (s.refixAdvance w.tile).refixAhead w.tile w.row (w.col / 64) := by
    simp only [State.refixAhead, State.refixRun, hfix]
  rw [State.writeNeeds, State.entriesNeeded, List.filter_singleton, hqueue, hahead, ← State.segQueued, ← Bool.not_or]
  cases s.segQueued w || (s.refixAdvance w.tile).refixAhead w.tile w.row (w.col / 64) <;> rfl

theorem State.stored_one_fixQueue : (s.stored w moved [w.tile]).fixQueue (dieOf w.tile) =
    if (s.segQueued w || (s.refixAdvance w.tile).refixAhead w.tile w.row (w.col / 64)) = true then s.fixQueue (dieOf w.tile)
    else s.fixQueue (dieOf w.tile) ++ [⟨w.tile, w.row, w.col / 64⟩] := by
  have hready : (s.writeReady [w.tile]).fixQueue (dieOf w.tile) = s.fixQueue (dieOf w.tile) :=
    congrArg (·[die4 (dieOf w.tile)]) (s.disturbed_keeps [w.tile]).2
  rw [State.fixQueue, State.stored_fix, s.writeNeeds_one w]
  split
  · exact hready
  · exact (State.fixQueue_setFixQueue _ _ _).trans (congrArg (· ++ _) hready)

theorem State.stored_one_runs : (s.stored w moved [w.tile]).fix.running = s.fix.running ∧
    (s.stored w moved [w.tile]).fix.refixes = (s.refixAdvance w.tile).fix.refixes := by
  have hfix : (s.writeReady [w.tile]).fix = (s.refixAdvance w.tile).fix := ((s.refixAdvance w.tile).disturb_only w.tile).fix
  rw [State.stored_fix, hfix]
  exact ⟨s.refixAdvance_running w.tile, rfl⟩

theorem State.stored_one_tile (k : Nat) : (s.stored w moved [w.tile]).tile k = ((s.refixAdvance w.tile).disturb w.tile).tile k := by
  rw [State.tile, State.stored_tiles]
  rfl

theorem State.stored_one_otherTiles : OtherTiles [w.tile] s (s.stored w moved [w.tile]) := fun k hk =>
  (s.stored_one_tile w moved k).trans ((State.disturb_otherTiles _ _ k hk).trans (s.refixAdvance_otherTiles _ k hk))

end

end Sys2Proof.Machine
end

section
/-!
PROOFS. Writes of INT4 and INT8 codes that their tile takes (R245, R246, R303, R305), and the statement on the weight window.
-/

namespace Sys2Proof.Machine

/-! ### WEIGHT_WRITE to a tile that takes it -/

/-- A claimed request for a line of codes whose tile takes new targets, with nothing in the way. -/
structure WriteTaken (s : State) (half : Fin 2) (hpa : BitVec 52) (w : WindowLine) (r : ResImage × Plate × TileRec) (a : Nat) : Prop where
  serves : s.memServes half = true
  unheld : (s.half half).heldWrites = []
  claimed : s.claimed half hpa.toNat = some a
  base : weightBase ≤ a
  awake : s.clk.selfRefresh = 0
  dpa : WindowLine.ofDpa a = w
  codes : w.region = 0
  full : s.memoryOnly = false
  writable : s.tileWritable w.tile = true
  record : s.tileRec w.tile = some r

/-- The write counted as a host event, before anything else (R650). -/
def State.writeSeen (s : State) (half : Fin 2) : State := s.pmu (0xE1 + 2 * half.val) none 1

theorem State.writeSeen_signals (s : State) (half : Fin 2) (l : List Fld) : Signals l s (s.writeSeen half) := s.pmu_signals _ _ _ l

theorem State.writeSeen_mem (s : State) (half : Fin 2) : (s.writeSeen half).mem = s.mem := (s.pmu_only _ _ _).mem

theorem State.writeSeen_fix (s : State) (half : Fin 2) : (s.writeSeen half).fix = s.fix := (s.pmu_only _ _ _).fix

theorem State.writeSeen_tile (s : State) (half : Fin 2) (k : Nat) : (s.writeSeen half).tile k = s.tile k := by
  rw [State.tile, (s.writeSeen_signals half []).1.tiles, State.tile]

theorem State.writeReady_fixQueue (s : State) (ts : List Nat) (d : Nat) : (s.writeReady ts).fixQueue d = s.fixQueue d :=
  congrArg (·[die4 d]) (s.disturbed_keeps ts).2

/-- Entries for tiles of different dies find room in queues that are not full. -/
theorem State.queueRoom_of_nodup {s : State} {ts : List Nat} (hdies : (ts.map dieOf).Nodup)
    (hroom : ∀ t ∈ ts, (s.fixQueue (dieOf t)).length < 1024) : s.queueRoom ts = true := by
  refine List.all_eq_true.2 fun t ht => decide_eq_true ?_
  have hone : (ts.filter (fun u => dieOf u == dieOf t)).length ≤ 1 := by
    have hcount := List.nodup_iff_count_le_one.1 hdies (dieOf t)
    rwa [List.count, List.countP_map, List.countP_eq_length_filter] at hcount
  have hlen := hroom t ht
  omega

section
variable {s : State} {half : Fin 2} {hpa : BitVec 52} {w : WindowLine} {r : ResImage × Plate × TileRec} {a : Nat}
  (h : WriteTaken s half hpa w r a) (data : Line) (be : BitVec 64)
include h

theorem WriteTaken.exec {partner : Option Nat} {c : List (Nat × Nat × Int) × Nat} {ts : List Nat} (hpartner : r.2.1.partner r.2.2 = partner)
    (hopen : (r.2.1.int8 && (r.2.2.slice == 1 || !(partner.all s.tileWritable))) = false)
    (hc : fixChanges r.2.1 w.tile partner w.col data.toList be.toNat = c)
    (hts : tilesMoved w.tile partner ((s.writeSeen half).moved w.row c.1) = ts) (hdies : (ts.map dieOf).Nodup)
    (hroom : ∀ t ∈ ts, (s.fixQueue (dieOf t)).length < 1024) : Machine.exec (.weightWrite half hpa data be) s =
      .next (((s.writeSeen half).stored w ((s.writeSeen half).moved w.row c.1) ts).codesCounted w.tile r.1.ctx c.2) := by
  have hwritable : (s.writeSeen half).tileWritable = s.tileWritable := funext fun t => s.pmu_tileWritable _ _ _ t
  have hneeds : ((s.writeSeen half).writeNeeds w ts).Sublist ts := List.filter_sublist
  have hfits : ((s.writeSeen half).writeReady ts).queueRoom ((s.writeSeen half).writeNeeds w ts) = true := by
    refine State.queueRoom_of_nodup (hdies.sublist (hneeds.map dieOf)) fun t ht => ?_
    rw [State.writeReady_fixQueue, State.fixQueue, State.writeSeen_fix]
    exact hroom t (hneeds.subset ht)
  have hwrite := State.windowWrite_taken h.dpa ((s.pmu_memoryOnly _ _ _).trans h.full) h.codes (hwritable ▸ h.writable)
    ((s.pmu_tileRec _ _ _ _).trans h.record) hpartner (hwritable ▸ hopen) hc hts hfits
  exact exec_weightWrite_taken h.serves h.unheld h.claimed
    ((State.memWrite_window h.base ((congrArg _ (s.writeSeen_signals half []).1.clk).trans h.awake) _ _).trans hwrite)

end

/-! ### Codes of an INT4 plate -/

/-- The moved changes of a write of INT4 codes. -/
def State.int4Moved (s : State) (w : WindowLine) (data : Line) (be : BitVec 64) : List (Nat × Nat × Int) :=
  s.moved w.row (int4Changes w.tile w.col data.toList be.toNat)

theorem State.moved_congr {s u : State} (h : u.mem = s.mem) (row : Nat) (l : List (Nat × Nat × Int)) : u.moved row l = s.moved row l := by
  simp only [State.moved, State.target, h]

theorem State.mem_int4Moved {s : State} {w : WindowLine} {data : Line} {be : BitVec 64} {x : Nat × Nat × Int} : x ∈ s.int4Moved w data be ↔
    ∃ i : Fin 64, be.getLsbD i.val = true ∧ s.target w.tile w.row (w.col + i.val) ≠ (int4Level (data[i].toNat % 16)).1 ∧
      x = (w.tile, w.col + i.val, (int4Level (data[i].toNat % 16)).1) := by
  have hlevel : ∀ i : Fin 64, int4LevelAt data.toList i.val = (int4Level (data[i].toNat % 16)).1 := fun i => by simp [int4LevelAt]
  rw [State.int4Moved, State.moved, List.mem_filter, mem_int4Changes]
  constructor
  · rintro ⟨⟨i, hi, hbe, rfl⟩, hne⟩
    rw [bitAt_toNat] at hbe
    have hlevel := hlevel ⟨i, hi⟩
    dsimp only at hne hlevel
    rw [hlevel] at hne ⊢
    exact ⟨⟨i, hi⟩, hbe, by simpa using hne, rfl⟩
  · rintro ⟨i, hbe, hne, rfl⟩
    exact ⟨⟨i.val, i.isLt, by rwa [bitAt_toNat], by rw [hlevel i]⟩, by simpa using hne⟩

/-- A write of INT4 codes changes targets of its own tile alone. -/
theorem tilesMoved_int4 (s : State) (w : WindowLine) (data : Line) (be : BitVec 64) :
    tilesMoved w.tile none (s.int4Moved w data be) = if s.int4Moved w data be = [] then [] else [w.tile] := by
  have hany : (s.int4Moved w data be).any (fun x => x.1 == w.tile) = !(s.int4Moved w data be).isEmpty := by
    have hall : ∀ x ∈ s.int4Moved w data be, x.1 = w.tile := fun x hx => by
      obtain ⟨i, -, -, rfl⟩ := State.mem_int4Moved.1 hx
      rfl
    cases hm : s.int4Moved w data be with
    | nil => rfl
    | cons x l => simp [hall x (by simp [hm])]
  rw [tilesMoved, Option.toList_none, List.append_nil, List.filter_singleton, hany]
  cases hm : s.int4Moved w data be <;> simp

section
variable {s : State} {half : Fin 2} {hpa : BitVec 52} {w : WindowLine} {r : ResImage × Plate × TileRec} {a : Nat}
  (h : WriteTaken s half hpa w r a) (data : Line) (be : BitVec 64) (hint4 : r.2.1.int8 = false)
  (hroom : (s.fixQueue (dieOf w.tile)).length < 1024)
include h hint4 hroom

theorem WriteTaken.exec_int4 : ∃ n, Machine.exec (.weightWrite half hpa data be) s =
    .next (((s.writeSeen half).stored w (s.int4Moved w data be) (if s.int4Moved w data be = [] then [] else [w.tile])).codesCounted
      w.tile r.1.ctx n) := by
  have hpartner : r.2.1.partner r.2.2 = none := by simp [Plate.partner, hint4]
  have hmoved : (s.writeSeen half).moved w.row (fixChanges r.2.1 w.tile none w.col data.toList be.toNat).1 = s.int4Moved w data be := by
    rw [fixChanges_int4 hint4, State.moved_congr (s.writeSeen_mem half), State.int4Moved]
  have htiles := tilesMoved_int4 s w data be
  have hexec := h.exec data be hpartner (by simp [hint4]) rfl ((congrArg _ hmoved).trans htiles) (by split <;> simp) (by
    split
    · simp
    · simpa using hroom)
  rw [hmoved] at hexec
  exact ⟨_, hexec⟩

/-- A write that asks for the targets that are there stores nothing. -/
theorem WriteTaken.exec_int4_same
    (hsame : ∀ i : Fin 64, be.getLsbD i.val = true → s.target w.tile w.row (w.col + i.val) = (int4Level (data[i].toNat % 16)).1) :
    ∃ t, Machine.exec (.weightWrite half hpa data be) s = .next t ∧ SameMem s t ∧ Signals [R.TILE_FIXCNT0_adj_codes w.tile] s t := by
  have hnone : s.int4Moved w data be = [] := by
    refine List.eq_nil_iff_forall_not_mem.2 fun x hx => ?_
    obtain ⟨i, hbe, hne, -⟩ := State.mem_int4Moved.1 hx
    exact hne (hsame i hbe)
  obtain ⟨n, hexec⟩ := h.exec_int4 data be hint4 hroom
  rw [hnone, if_pos rfl] at hexec
  have hsignals := (s.writeSeen_signals half _).trans ((s.writeSeen half).codesCounted_signals w.tile r.1.ctx n)
  exact ⟨_, hexec, fun b => congrArg (Memory.get · b) hsignals.1.mem, hsignals⟩

/-- A write that changes a target stores what it moves, and queues the segment. -/
theorem WriteTaken.exec_int4_moved
    (hmoves : ∃ i : Fin 64, be.getLsbD i.val = true ∧ s.target w.tile w.row (w.col + i.val) ≠ (int4Level (data[i].toNat % 16)).1) :
    ∃ n, Machine.exec (.weightWrite half hpa data be) s =
      .next (((s.writeSeen half).stored w (s.int4Moved w data be) [w.tile]).codesCounted w.tile r.1.ctx n) := by
  obtain ⟨i, hbe, hne⟩ := hmoves
  have hsome : s.int4Moved w data be ≠ [] := List.ne_nil_of_mem (State.mem_int4Moved.2 ⟨i, hbe, hne, rfl⟩)
  obtain ⟨n, hexec⟩ := h.exec_int4 data be hint4 hroom
  rw [if_neg hsome] at hexec
  exact ⟨n, hexec⟩

end

section
variable (s : State) (half : Fin 2) (w : WindowLine) (moved : List (Nat × Nat × Int)) (ctx n : Nat)

/-- Moved targets of one tile stored by a write, and the codes it adjusted counted. -/
def State.storedCounted : State := ((s.writeSeen half).stored w moved [w.tile]).codesCounted w.tile ctx n

theorem State.storedCounted_signals : Signals [R.TILE_FIXCNT0_adj_codes w.tile]
    { s with mem := (s.storedCounted half w moved ctx n).mem, freeIx := (s.storedCounted half w moved ctx n).freeIx,
             tiles := (s.storedCounted half w moved ctx n).tiles, fix := (s.storedCounted half w moved ctx n).fix }
    (s.storedCounted half w moved ctx n) :=
  (s.writeSeen_signals half _).around (State.stored_only _ w moved _) (State.codesCounted_signals _ w.tile ctx n)

theorem State.storedCounted_only : OnlySignals ((s.writeSeen half).stored w moved [w.tile]) (s.storedCounted half w moved ctx n) :=
  (State.codesCounted_signals _ w.tile ctx n).1

theorem State.storedCounted_tile (k : Nat) :
    (s.storedCounted half w moved ctx n).tile k = (((s.writeSeen half).refixAdvance w.tile).disturb w.tile).tile k := by
  rw [State.tile, (s.storedCounted_only half w moved ctx n).tiles]
  exact State.stored_one_tile _ w moved k

theorem State.storedCounted_otherTiles : OtherTiles [w.tile] s (s.storedCounted half w moved ctx n) := by
  intro k hk
  rw [State.tile, (s.storedCounted_only half w moved ctx n).tiles]
  exact (State.stored_one_otherTiles _ w moved k hk).trans (s.writeSeen_tile half k)

theorem State.storedCounted_fixQueue : (s.storedCounted half w moved ctx n).fixQueue (dieOf w.tile) =
    if (s.segQueued w || ((s.writeSeen half).refixAdvance w.tile).refixAhead w.tile w.row (w.col / 64)) = true then s.fixQueue (dieOf w.tile)
    else s.fixQueue (dieOf w.tile) ++ [⟨w.tile, w.row, w.col / 64⟩] := by
  have hqueue : (s.writeSeen half).fixQueue (dieOf w.tile) = s.fixQueue (dieOf w.tile) := s.pmu_fixQueue _ _ _ _
  have hqueued : (s.writeSeen half).segQueued w = s.segQueued w := by rw [State.segQueued, hqueue, State.segQueued]
  rw [← hqueue, ← hqueued, State.fixQueue, (s.storedCounted_only half w moved ctx n).fix]
  exact State.stored_one_fixQueue _ w moved

theorem State.storedCounted_runs : (s.storedCounted half w moved ctx n).fix.running = s.fix.running ∧
    (s.storedCounted half w moved ctx n).fix.refixes = ((s.writeSeen half).refixAdvance w.tile).fix.refixes := by
  obtain ⟨hrunning, hrefixes⟩ := (s.writeSeen half).stored_one_runs w moved
  rw [(s.storedCounted_only half w moved ctx n).fix]
  exact ⟨hrunning.trans (congrArg FixSt.running (s.writeSeen_fix half)), hrefixes⟩

theorem State.storedCounted_freeIx : (s.storedCounted half w moved ctx n).freeIx = ((s.writeSeen half).refixAdvance w.tile).freeIx := by
  rw [(s.storedCounted_only half w moved ctx n).freeIx, State.stored_freeIx]
  exact (State.disturb_only _ w.tile).freeIx

end

section
variable {s : State} (half : Fin 2) {w : WindowLine} (moved : List (Nat × Nat × Int)) (ctx n : Nat)

/-- With no refix running on the tile, an entry is queued unless one is, and the refixes and free values stay. -/
theorem State.storedCounted_idle (hidle : s.refixRun w.tile = none) :
    (s.storedCounted half w moved ctx n).fixQueue (dieOf w.tile) =
        (if s.segQueued w = true then s.fixQueue (dieOf w.tile) else s.fixQueue (dieOf w.tile) ++ [⟨w.tile, w.row, w.col / 64⟩]) ∧
      (s.storedCounted half w moved ctx n).fix.refixes = s.fix.refixes ∧ (s.storedCounted half w moved ctx n).freeIx = s.freeIx ∧
      ∀ k, (s.storedCounted half w moved ctx n).tile k = ((s.writeSeen half).disturb w.tile).tile k := by
  have hrun : (s.writeSeen half).refixRun w.tile = none := by rw [State.refixRun, s.writeSeen_fix half]; exact hidle
  have hstill := State.refixAdvance_none hrun
  have hahead : (s.writeSeen half).refixAhead w.tile w.row (w.col / 64) = false := by rw [State.refixAhead, hrun]
  refine ⟨?_, ?_, ?_, fun k => ?_⟩
  · rw [State.storedCounted_fixQueue, hstill, hahead, Bool.or_false]
  · rw [(s.storedCounted_runs half w moved ctx n).2, hstill, s.writeSeen_fix half]
  · rw [State.storedCounted_freeIx, hstill]
    exact (s.writeSeen_signals half []).1.freeIx
  · rw [State.storedCounted_tile, hstill]

/-- With a refix running on the tile, it has advanced, and an entry is queued unless one is or the segment still lies before it. -/
theorem State.storedCounted_refixing {y : RefixRun} (hy : s.refixRun w.tile = some y) (hpos : y.pos ≤ segCount) :
    ∃ y', (s.storedCounted half w moved ctx n).refixRun w.tile = some y' ∧ y.pos ≤ y'.pos ∧ y'.pos ≤ segCount ∧
      (s.storedCounted half w moved ctx n).fixQueue (dieOf w.tile) =
        if s.segQueued w = true ∨ y'.pos ≤ 9 * w.row + w.col / 64 then s.fixQueue (dieOf w.tile)
        else s.fixQueue (dieOf w.tile) ++ [⟨w.tile, w.row, w.col / 64⟩] := by
  have hrun : (s.writeSeen half).refixRun w.tile = some y := by rw [State.refixRun, s.writeSeen_fix half]; exact hy
  obtain ⟨y', hy', hlo, hhi⟩ := State.refixAdvance_run hrun hpos
  refine ⟨y', ?_, hlo, hhi, ?_⟩
  · rw [State.refixRun, (s.storedCounted_runs half w moved ctx n).2]
    exact hy'
  · rw [State.storedCounted_fixQueue, State.refixAhead, hy']
    simp only [Bool.or_eq_true, decide_eq_true_eq]

end

/-! ### Codes of an INT8 plate (R246) -/

theorem int8Slices_byte (b : Byte) : let x := int8Slices b.toNat
    (-128 ≤ x.1 ∧ x.1 < 128) ∧ -128 ≤ x.2.1 ∧ x.2.1 < 128 := by
  have hcodes : ∀ c < 256, let x := int8Slices c; (-128 ≤ x.1 ∧ x.1 < 128) ∧ -128 ≤ x.2.1 ∧ x.2.1 < 128 := by decide +kernel
  exact hcodes _ b.isLt

/-- The two changes that byte `i` asks for, if it is enabled: the low slice's on the tile, the high slice's on its partner. -/
def int8Change (t u col : Nat) (data : List Byte) (be i : Nat) : List (Nat × Nat × Int) :=
  if bitAt be i then
    [(t, col + i, (int8Slices (data.getD i 0).toNat).2.1), (u, col + i, (int8Slices (data.getD i 0).toNat).1)]
  else []

/-- The changes a line written with these enables asks for. -/
def int8Changes (t u col : Nat) (data : List Byte) (be : Nat) : List (Nat × Nat × Int) :=
  (List.range 64).flatMap (int8Change t u col data be)

theorem mem_int8Changes {t u col : Nat} {data : List Byte} {be : Nat} {x : Nat × Nat × Int} : x ∈ int8Changes t u col data be ↔
    ∃ i < 64, bitAt be i = true ∧ (x = (t, col + i, (int8Slices (data.getD i 0).toNat).2.1) ∨
      x = (u, col + i, (int8Slices (data.getD i 0).toNat).1)) := by
  simp [int8Changes, int8Change]

theorem fixChanges_int8 {p : Plate} (hp : p.int8 = true) (t u col : Nat) (data : List Byte) (be : Nat) :
    (fixChanges p t (some u) col data be).1 = int8Changes t u col data be := by
  refine foldl_fst_append (g := int8Change t u col data be) (fun acc i => ?_) (List.range 64) ([], 0)
  by_cases hi : bitAt be i = true <;> simp [int8Change, hi, hp]

/-- Targets of different tiles or columns have different addresses. -/
theorem changeAt_inj {row : Nat} {x y : Nat × Nat × Int} (hx : x.2.1 < 0x40000) (hy : y.2.1 < 0x40000) (h : changeAt row x = changeAt row y) :
    x.1 = y.1 ∧ x.2.1 = y.2.1 := by
  unfold changeAt shadowAt at h
  omega

theorem WindowLine.ofDpa_col (a : Nat) : (WindowLine.ofDpa a).col < 512 := by
  unfold WindowLine.ofDpa
  extract_lets o r
  split_ifs
  · exact Nat.mod_lt _ (by decide)
  · exact Nat.mod_lt _ (by decide)
  · exact (by decide : (0 : Nat) < 512)

/-- The changes of a line agree on the level of each target, and leave it there. -/
theorem int8Changes_stored (s : State) {t u col : Nat} (row : Nat) (htu : t ≠ u) (hcol : col < 512) (data : List Byte) (be : Nat)
    {x : Nat × Nat × Int} (hx : x ∈ int8Changes t u col data be) :
    (s.setTargets row (s.moved row (int8Changes t u col data be))).target x.1 row x.2.1 = x.2.2 := by
  obtain ⟨i, hi, -, hxi⟩ := mem_int8Changes.1 hx
  have hbytes := int8Slices_byte (data.getD i 0)
  refine s.target_setTargets_moved hx (fun y hy hat => ?_) ?_ ?_
  · obtain ⟨j, hj, -, hyj⟩ := mem_int8Changes.1 hy
    have hcols : x.2.1 < 0x40000 ∧ y.2.1 < 0x40000 := by
      rcases hxi with rfl | rfl <;> rcases hyj with rfl | rfl <;> dsimp only <;> omega
    obtain ⟨htile, hcol⟩ := changeAt_inj hcols.2 hcols.1 hat
    rcases hxi with rfl | rfl <;> rcases hyj with rfl | rfl
    · rw [Nat.add_left_cancel hcol]
    · exact absurd htile.symm htu
    · exact absurd htile htu
    · rw [Nat.add_left_cancel hcol]
  · rcases hxi with rfl | rfl
    · exact hbytes.2.1
    · exact hbytes.1.1
  · rcases hxi with rfl | rfl
    · exact hbytes.2.2
    · exact hbytes.1.2

section
variable {s : State} {half : Fin 2} {hpa : BitVec 52} {w : WindowLine} {r : ResImage × Plate × TileRec} {a u : Nat}
  (h : WriteTaken s half hpa w r a) (data : Line) (be : BitVec 64) (hint8 : r.2.1.int8 = true) (hslice : r.2.2.slice = 0)
  (hpartner : r.2.1.partner r.2.2 = some u) (hne : u ≠ w.tile) (hwritable : s.tileWritable u = true) (hdies : dieOf u ≠ dieOf w.tile)
  (hroom : (s.fixQueue (dieOf w.tile)).length < 1024) (hroom' : (s.fixQueue (dieOf u)).length < 1024)
include h hint8 hslice hpartner hne hwritable hdies hroom hroom'

theorem WriteTaken.exec_int8 : ∃ t, Machine.exec (.weightWrite half hpa data be) s = .next t ∧ ∀ i : Fin 64, be.getLsbD i.val = true →
    t.target w.tile w.row (w.col + i.val) = (int8Slices data[i].toNat).2.1 ∧
      t.target u w.row (w.col + i.val) = (int8Slices data[i].toNat).1 := by
  let s1 := s.writeSeen half
  let l := int8Changes w.tile u w.col data.toList be.toNat
  have htiles : (tilesMoved w.tile (some u) (s1.moved w.row (fixChanges r.2.1 w.tile (some u) w.col data.toList be.toNat).1)).Sublist
      [w.tile, u] := List.filter_sublist
  have hboth : ([w.tile, u].map dieOf).Nodup := by simpa using hdies.symm
  have hexec := h.exec data be hpartner (by simp [hslice, hwritable]) rfl rfl (hboth.sublist (htiles.map dieOf)) fun t ht => by
    rcases List.mem_pair.1 (htiles.subset ht) with rfl | rfl
    · exact hroom
    · exact hroom'
  have hl : (fixChanges r.2.1 w.tile (some u) w.col data.toList be.toNat).1 = l := fixChanges_int8 hint8 ..
  refine ⟨_, hexec, fun i hbe => ?_⟩
  have hbyte : data.toList.getD i.val 0 = data[i] := by simp
  have hbit : bitAt be.toNat i.val = true := (bitAt_toNat _ _).trans hbe
  have hstored : ∀ x ∈ l, (s1.setTargets w.row (s1.moved w.row l)).target x.1 w.row x.2.1 = x.2.2 := fun x hx =>
    int8Changes_stored s1 w.row hne.symm (h.dpa ▸ WindowLine.ofDpa_col a) _ _ hx
  have hlow := hstored _ (mem_int8Changes.2 ⟨i.val, i.isLt, hbit, .inl rfl⟩)
  have hhigh := hstored _ (mem_int8Changes.2 ⟨i.val, i.isLt, hbit, .inr rfl⟩)
  rw [hbyte] at hlow hhigh
  rw [State.stored_target, State.stored_target, hl]
  exact ⟨hlow, hhigh⟩

end

/-! ### The statement -/

section
variable {s : State} {half : Fin 2} {hpa : BitVec 52} {w : WindowLine} {r : ResImage × Plate × TileRec} {a : Nat}
  (h : WriteTaken s half hpa w r a) (data : Line) (be : BitVec 64) (hint4 : r.2.1.int8 = false)
  (hroom : (s.fixQueue (dieOf w.tile)).length < 1024)
  (hmoves : ∃ i : Fin 64, be.getLsbD i.val = true ∧ s.target w.tile w.row (w.col + i.val) ≠ (int4Level (data[i].toNat % 16)).1)
include h hint4 hroom hmoves

/-- A write that changes a target of a tile with no refix running. -/
theorem WriteTaken.moved_idle (hidle : s.refixRun w.tile = none) : ∃ t, Machine.exec (.weightWrite half hpa data be) s = .next t ∧
    t.fixQueue (dieOf w.tile) =
      (if s.segQueued w then s.fixQueue (dieOf w.tile) else s.fixQueue (dieOf w.tile) ++ [⟨w.tile, w.row, w.col / 64⟩]) ∧
    t.fix.running = s.fix.running ∧ t.fix.refixes = s.fix.refixes ∧ OtherTiles [w.tile] s t ∧
    (r.1.leaving = false → t.tile w.tile = s.tile w.tile) ∧
    (r.1.leaving = true → (t.tile w.tile).cells = [] ∧ (t.tile w.tile).blank = .unknown ∧ (t.tile w.tile).unfixed = true) ∧
    Signals [R.TILE_FIXCNT0_adj_codes w.tile] { s with mem := t.mem, fix := t.fix, tiles := t.tiles } t := by
  obtain ⟨n, hexec⟩ := h.exec_int4_moved data be hint4 hroom hmoves
  obtain ⟨hqueue, hrefixes, hfree, htile⟩ := State.storedCounted_idle half (s.int4Moved w data be) r.1.ctx n hidle
  have hsignals := s.storedCounted_signals half w (s.int4Moved w data be) r.1.ctx n
  have hrec : (s.writeSeen half).tileRec w.tile = some r := (s.pmu_tileRec _ _ _ _).trans h.record
  rw [hfree] at hsignals
  refine ⟨_, hexec, hqueue, (s.storedCounted_runs half w _ _ n).1, hrefixes, s.storedCounted_otherTiles half w _ _ n, fun hstays => ?_,
    fun hleaves => ?_, hsignals⟩
  · exact (htile w.tile).trans ((congrArg (State.tile · w.tile) (State.disturb_settled hrec hstays)).trans (s.writeSeen_tile half w.tile))
  · exact (htile w.tile).symm ▸ State.disturb_leaving hrec hleaves

/-- A write that changes a target of a tile whose refix runs. -/
theorem WriteTaken.moved_refixing {y : RefixRun} (hy : s.refixRun w.tile = some y) (hpos : y.pos ≤ segCount) :
    ∃ t y', Machine.exec (.weightWrite half hpa data be) s = .next t ∧ t.refixRun w.tile = some y' ∧ y.pos ≤ y'.pos ∧ y'.pos ≤ segCount ∧
      t.fixQueue (dieOf w.tile) = (if s.segQueued w = true ∨ y'.pos ≤ 9 * w.row + w.col / 64 then s.fixQueue (dieOf w.tile)
        else s.fixQueue (dieOf w.tile) ++ [⟨w.tile, w.row, w.col / 64⟩]) ∧
      t.fix.running = s.fix.running ∧ OtherTiles [w.tile] s t ∧
      Signals [R.TILE_FIXCNT0_adj_codes w.tile] { s with mem := t.mem, fix := t.fix, tiles := t.tiles, freeIx := t.freeIx } t := by
  obtain ⟨n, hexec⟩ := h.exec_int4_moved data be hint4 hroom hmoves
  obtain ⟨y', hrun, hlo, hhi, hqueue⟩ := State.storedCounted_refixing half (s.int4Moved w data be) r.1.ctx n hy hpos
  exact ⟨_, y', hexec, hrun, hlo, hhi, hqueue, (s.storedCounted_runs half w _ _ n).1, s.storedCounted_otherTiles half w _ _ n,
    s.storedCounted_signals half w _ _ n⟩

end

section
variable {s : State} {half : Fin 2} {hpa : BitVec 52} {a : Nat} (hserves : s.memServes half = true)
  (hclaimed : s.claimed half hpa.toNat = some a) (ha : weightBase ≤ a)
include hserves hclaimed ha

/-- A write that nothing holds back ends as the window's write does. -/
theorem exec_weightWrite_window {u : State} (hunheld : (s.half half).heldWrites = []) (hawake : s.clk.selfRefresh = 0) {data : Line}
    {be : BitVec 64} (hu : (s.writeSeen half).windowWrite a data.toList be.toNat = some u) : exec (.weightWrite half hpa data be) s = .next u :=
  exec_weightWrite_taken hserves hunheld hclaimed
    ((State.memWrite_window ha ((congrArg _ (s.writeSeen_signals half []).1.clk).trans hawake) _ _).trans hu)

/-- A write behind a held one, or with memory in self-refresh, is held. -/
theorem exec_weightWrite_holds (data : Line) (be : BitVec 64) (hwait : (s.half half).heldWrites ≠ [] ∨ s.clk.selfRefresh ≠ 0) :
    ∃ t, exec (.weightWrite half hpa data be) s = .next t ∧
      (t.half half).heldWrites = (s.half half).heldWrites ++ [⟨a, data.toList, be.toNat, false⟩] ∧ SameMem s t ∧ Signals [] s t :=
  ⟨_, exec_weightWrite_held hserves hclaimed (hwait.imp_right fun hasleep => State.memWrite_asleep ha
    (by rwa [show (s.pmu _ none 1).clk = s.clk from (s.writeSeen_signals half []).1.clk])), s.holdWrite_effect _ half _⟩

/-- A read that is answered at once. -/
theorem exec_weightRead_answers {line : List Byte}
    (hread : (s.pmu (0xE0 + 2 * half.val) none 1).windowRead half a = (s.pmu (0xE0 + 2 * half.val) none 1).emit (.line half.val line false)) :
    ∃ t, exec (.weightRead half hpa) s = .next t ∧ t.out.head? = some (.line half.val line false) ∧ Signals [] s t :=
  ⟨_, (exec_weightRead_claimed hserves hclaimed ha).trans (congrArg _ hread), rfl, (s.pmu_signals _ _ _ _).trans (State.emit_signals _ _ _)⟩

/-- A read that waits for a gap. -/
theorem exec_weightRead_waits {w : WindowLine} (hw : WindowLine.ofDpa a = w) (honly : s.memoryOnly = false) (hsense : s.readKind w = .sense) :
    ∃ t, exec (.weightRead half hpa) s = .next t ∧ (t.half half).heldReads = (s.half half).heldReads ++ [(a, s.frame)] ∧ Signals [] s t := by
  have hseen := s.pmu_signals (0xE0 + 2 * half.val) none 1 []
  have hread := State.windowRead_sense (half := half) hw ((s.pmu_memoryOnly _ _ _).trans honly) ((hseen.1.readKind _).trans hsense)
  refine ⟨_, (exec_weightRead_claimed hserves hclaimed ha).trans (congrArg _ hread), ?_, hseen.trans (State.setHalf_signals _ _ _ _)⟩
  have hframe : (s.pmu (0xE0 + 2 * half.val) none 1).frame = s.frame := congrArg HznSt.frame hseen.1.hzn
  rw [State.half_setHalf_same, hframe, s.pmu_pends]

end

/-- Settles O57: each request by what holds it back or drops it, and a write that goes through by what `State.stored` leaves. -/
theorem weightWindow : Obligations.WeightWindow := by
  unfold Obligations.WeightWindow
  intro half hpa data be s x write read
  refine ⟨fun hoff => ⟨exec_weightWrite_off hoff data be, exec_weightRead_off hoff⟩, fun hserves hclaimed hreset => ⟨?_, ?_⟩,
    fun hserves hreset => ⟨?_, ?_⟩, fun a hserves hclaimed ha => ?_, exec_weightWriteRelease_off,
    fun w t hup hheld hwrite => exec_weightWriteRelease_last hup hheld hwrite,
    fun w rest hup hheld hwrite => exec_weightWriteRelease_waits hup hheld hwrite, exec_weightReadSense_none,
    fun r rest hheld hquiet => ?_, fun r rest hheld => ⟨exec_weightReadStale_young hheld, fun hold => ?_⟩, exec_weightReadStale_empty⟩
  · exact ⟨_, exec_weightWrite_unclaimed hserves hclaimed data be, State.unclaimedReq_counted _ hreset true⟩
  · obtain ⟨hcount, hbit, hsignals⟩ := State.unclaimedReq_counted (0xE0 + 2 * half.val) hreset false
    exact ⟨_, exec_weightRead_unclaimed hserves hclaimed, hcount, hbit, rfl, hsignals.trans (State.emit_signals _ _ _)⟩
  · exact ⟨_, exec_weightWrite_unclaimed hserves (State.claimed_reset hreset half _) data be, State.unclaimedReq_write_reset _ hreset⟩
  · have hexec := exec_weightRead_unclaimed hserves (State.claimed_reset hreset half hpa.toNat)
    rw [State.unclaimedReq_read_reset _ hreset] at hexec
    exact ⟨_, hexec, rfl, (s.pmu_signals _ _ _ _).trans (State.emit_signals _ _ _)⟩
  · obtain ⟨w, hw⟩ : ∃ w, WindowLine.ofDpa a = w := ⟨_, rfl⟩
    rw [hw]
    intro w' held
    refine ⟨fun hbehind => exec_weightWrite_holds hserves hclaimed ha data be (.inl hbehind), fun hunheld hasleep => ?_,
      fun hunheld hawake => ⟨fun hignored => ?_, fun hregion honly hdrop => ?_, fun r hregion honly hwritable hrec => ?_,
        fun r u hregion honly hwritable hrec hint8 hslice hpartner hne hwritable' hdies hroom hroom' => ?_⟩,
      fun hzero => ?_, fun honly hmarker => ?_, exec_weightRead_waits hserves hclaimed ha hw⟩
    · have hheld := exec_weightWrite_holds hserves hclaimed ha data be (.inr hasleep)
      rwa [show (s.half half).heldWrites = [] from hunheld] at hheld
    · exact ⟨_, exec_weightWrite_window hserves hclaimed ha hunheld hawake
        (State.windowWrite_ignored _ _ (hw ▸ hignored.imp_right ((s.pmu_memoryOnly _ _ _).trans ·))), s.writeSeen_signals half []⟩
    · refine ⟨_, exec_weightWrite_window hserves hclaimed ha hunheld hawake
        (State.windowWrite_dropped _ _ hw hregion ((s.pmu_memoryOnly _ _ _).trans honly) (hdrop.imp_right (Or.imp ?_ ?_))), s.dropWrite_effect _⟩
      · exact ((s.pmu_tileWritable _ _ _ _).trans ·)
      · exact fun ⟨r, hr, hhigh⟩ => ⟨r, (s.pmu_tileRec _ _ _ _).trans hr, hhigh⟩
    · intro d hroom level entry queued
      have htaken : WriteTaken s half hpa w r a := ⟨hserves, hunheld, hclaimed, ha, hawake, hw, hregion, honly, hwritable, hrec⟩
      exact ⟨fun hint4 hmoves => ⟨htaken.moved_idle data be hint4 hroom hmoves, fun y => htaken.moved_refixing data be hint4 hroom hmoves⟩,
        fun hint4 hsame => htaken.exec_int4_same data be hint4 hroom hsame⟩
    · have htaken : WriteTaken s half hpa w r a := ⟨hserves, hunheld, hclaimed, ha, hawake, hw, hregion, honly, hwritable, hrec⟩
      exact htaken.exec_int8 data be hint8 hslice hpartner hne hwritable' hdies hroom hroom'
    · refine exec_weightRead_answers hserves hclaimed ha (State.windowRead_zero hw (hzero.imp ((s.pmu_memoryOnly _ _ _).trans ·) ?_))
      exact ((s.pmu_only _ _ _).readKind w).trans
    · exact exec_weightRead_answers hserves hclaimed ha (State.windowRead_marker hw ((s.pmu_memoryOnly _ _ _).trans honly)
        (((s.pmu_only _ _ _).readKind w).trans hmarker))
  · obtain ⟨w, hw⟩ : ∃ w, WindowLine.ofDpa r.1 = w := ⟨_, rfl⟩
    rw [hw] at hquiet ⊢
    intro w' answers
    obtain ⟨t, hexec, hout, hreads, hsignals⟩ := exec_weightReadSense_answers hheld hw hquiet
    have hanswers : ∀ line, s.answerLine w (s.readKind w) = line → answers line := fun line hline =>
      ⟨t, hexec, hline ▸ hout, hreads, hsignals⟩
    refine ⟨fun hkind => hanswers _ ?_, fun hkind => hanswers _ ?_, fun hkind hregion => hanswers _ ?_, fun hkind hregion => hanswers _ ?_⟩
    · rw [hkind]; rfl
    · rw [hkind]; rfl
    · rw [hkind]; exact if_pos hregion
    · rw [hkind]; exact if_neg (by rw [hregion]; decide)
  · exact ⟨_, exec_weightReadStale_old hheld hold, s.readStale_effect half rest _⟩

end Sys2Proof.Machine
end

section
/-!
PROOFS. One sequencer's registers (R337): what is read after they are replaced, and the frame of a step that one sequencer takes.
-/

namespace Sys2Proof.Machine

/-! ### Registers of one sequencer -/

theorem seq16_val (q : Fin 16) : seq16 q.val = q := Fin.ofNat_val_eq_self q

@[simp] theorem State.seq_setSeq_same (s : State) (q : Nat) (x : SeqSt) : (s.setSeq q x).seq q = x := Vector.getElem_set_self ..

theorem State.setSeq_other (s : State) (q : Nat) (x : SeqSt) {k : Fin 16} (hk : k ≠ seq16 q) : (s.setSeq q x).seqs[k] = s.seqs[k] :=
  Vector.getElem_set_ne (seq16 q).isLt k.isLt fun h => hk (Fin.ext h.symm)

theorem State.setSeq_otherSeqs (s : State) (q : Fin 16) (x : SeqSt) : OtherSeqs q s (s.setSeq q.val x) := fun _ hk =>
  s.setSeq_other q.val x ((seq16_val q).symm ▸ hk)

theorem OnlySignals.seqs {s t : State} (h : OnlySignals s t) : t.seqs = s.seqs := by rw [h]
theorem OnlySignals.outRuns {s t : State} (h : OnlySignals s t) : t.outRuns = s.outRuns := by rw [h]
theorem OnlySignals.fab {s t : State} (h : OnlySignals s t) : t.fab = s.fab := by rw [h]
theorem OnlySignals.poison {s t : State} (h : OnlySignals s t) : t.poison = s.poison := by rw [h]
theorem OnlySignals.dispatched {s t : State} (h : OnlySignals s t) : t.dispatched = s.dispatched := by rw [h]

theorem OnlySignals.seq {s t : State} (h : OnlySignals s t) (q : Nat) : t.seq q = s.seq q := by rw [State.seq, h.seqs, State.seq]

theorem State.seq_congr {s t : State} (h : t.seqs = s.seqs) (q : Nat) : t.seq q = s.seq q := by rw [State.seq, h, State.seq]

/-! ### A step of one sequencer -/

/-- Sequencer `q` and the listed fields may change, device memory does not. -/
structure SeqStep (q : Fin 16) (l : List Fld) (s t : State) : Prop where
  others : OtherSeqs q s t
  mem : SameMem s t
  fields : FieldsButPmu l s t

section
variable {q : Fin 16} {l : List Fld} {s t u : State}

theorem SeqStep.trans (h1 : SeqStep q l s t) (h2 : SeqStep q l t u) : SeqStep q l s u where
  others k hk := (h2.others k hk).trans (h1.others k hk)
  mem a := (h2.mem a).trans (h1.mem a)
  fields := h1.fields.trans h2.fields

theorem Signals.seqStep (h : Signals l s t) (q : Fin 16) : SeqStep q l s t where
  others _ _ := by rw [h.1.seqs]
  mem _ := by rw [h.1.mem]
  fields := h.2

/-- A step that reaches neither sequencers nor memory nor register fields. -/
theorem SeqStep.of_eq (q : Fin 16) (l : List Fld) (hseqs : t.seqs = s.seqs) (hmem : t.mem = s.mem) (hregs : t.regs = s.regs) :
    SeqStep q l s t where
  others _ _ := by rw [hseqs]
  mem _ := by rw [hmem]
  fields _ _ _ := by rw [State.get, hregs, State.get]

theorem State.setSeq_step (s : State) (q : Fin 16) (l : List Fld) (x : SeqSt) : SeqStep q l s (s.setSeq q.val x) :=
  ⟨s.setSeq_otherSeqs q x, fun _ => rfl, fun _ _ _ => rfl⟩

end

end Sys2Proof.Machine
end

section
/-!
PROOFS. Micro-words (R342–R347, R359): what each code makes of its sequencer's registers, and the statement on micro-words.
-/

namespace Sys2Proof.Machine

/-! ### What each code makes of the registers (R343, R344, R345) -/

section
variable {x : SeqSt} {m : MicroWord}

theorem SeqSt.act_next (hcode : m.code = 0 ∨ m.code = 16 ∨ m.code = 17) (hpc : x.pc ≠ 16383) :
    x.act m = .ok { x with pc := x.pc + 1 } := by
  rcases hcode with hcode | hcode | hcode <;> simp [SeqSt.act, hcode, hpc]

theorem SeqSt.act_ldc (hcode : m.code = 1) (hpc : x.pc ≠ 16383) :
    x.act m = .ok { x with c := x.c.set (fin2 m.flag15) (bits m.op 0 15), pc := x.pc + 1 } := by
  simp [SeqSt.act, hcode, hpc]

theorem SeqSt.act_lda (hcode : m.code = 2) (hpc : x.pc ≠ 16383) :
    x.act m = .ok { x with a := x.a.set (fin4 (bits m.op 14 2)) ((x.a[fin4 0] + bits m.op 0 14) % 2 ^ 32), pc := x.pc + 1 } := by
  simp only [SeqSt.act, hcode, hpc, if_false]

theorem SeqSt.act_adda (hcode : m.code = 3) (hpc : x.pc ≠ 16383) :
    x.act m = .ok { x with
      a := x.a.set (fin4 (bits m.op 14 2)) (fromSigned 32 ((x.a[fin4 (bits m.op 14 2)] : Int) + toSigned 14 (bits m.op 0 14))),
      pc := x.pc + 1 } := by
  simp only [SeqSt.act, hcode, hpc, if_false]

theorem SeqSt.act_jmp (hcode : m.code = 4) : x.act m = .ok { x with pc := m.target } := by simp only [SeqSt.act, hcode]

theorem SeqSt.act_jsr (hcode : m.code = 5) (hpc : x.pc ≠ 16383) (hroom : x.stack.length < 4) :
    x.act m = .ok { x with pc := m.target, stack := (x.pc + 1) :: x.stack } := by
  simp only [SeqSt.act, hcode, hpc, if_false, if_neg (Nat.not_le.2 hroom)]

theorem SeqSt.act_rts (hcode : m.code = 6) {p : Nat} {rest : List Nat} (hstack : x.stack = p :: rest) :
    x.act m = .ok { x with pc := p, stack := rest } := by
  simp only [SeqSt.act, hcode, hstack]

theorem SeqSt.act_loop (hcode : m.code = 7) (hpc : x.pc ≠ 16383) :
    x.act m = .ok { x with
      c := x.c.set (fin2 m.flag14) (x.c[fin2 m.flag14] - 1), pc := if x.c[fin2 m.flag14] - 1 ≠ 0 then m.target else x.pc + 1 } := by
  simp only [SeqSt.act, hcode, hpc, if_false]
  split_ifs <;> rfl

theorem SeqSt.act_bcond (hlo : 8 ≤ m.code) (hhi : m.code ≤ 13) (hpc : x.pc ≠ 16383) :
    x.act m = .ok { x with pc := if x.cond m.code != m.flag15 then m.target else x.pc + 1 } := by
  have hact : x.act m = if x.cond m.code != m.flag15 then .ok { x with pc := m.target } else .ok { x with pc := x.pc + 1 } := by
    have hcode : m.code = 8 ∨ m.code = 9 ∨ m.code = 10 ∨ m.code = 11 ∨ m.code = 12 ∨ m.code = 13 := by omega
    rcases hcode with hcode | hcode | hcode | hcode | hcode | hcode <;> simp only [SeqSt.act, hcode, hpc, if_false]
  rw [hact]
  split_ifs <;> rfl

end

/-! ### A word at the address of a running routine -/

/-- What a micro-word of good parity does, whatever its code (R341–R347). -/
def State.wordRuns (s : State) (q : Nat) (r : Routine) (m : MicroWord) : State :=
  if !m.operandOk then s.machineCheck q .code 0
  else if m.code = 18 then
    match s.nanoFetch r m with
    | .error c => s.machineCheck q c.1 c.2
    | .ok _ =>
      if (s.seq q).outstanding.isEmpty then (s.pmu 0x26 (some r.ctx) 1).routineEnd q else s.setSeq q { s.seq q with mode := .waiting }
  else match (s.seq q).act m with
    | .error c => s.machineCheck q c 0
    | .ok x' => match s.nanoOf r x' m with
      | .error c => s.machineCheck q c.1 c.2
      | .ok nano => s.microRun q r m x' nano

section
variable {s : State} {q : Fin 16} {r : Routine} {m : MicroWord} (h : Fetched s q r m)
include h

theorem Fetched.unissued : (s.seq q.val).issue = none := by
  obtain ⟨-, -, -, hissue, -⟩ := h
  exact hissue

/-- The word at the address runs, in a row that names its code. -/
theorem Fetched.microStep {row : Nat → Bool} (hrow : row m.code = true) : s.microStep q.val row = s.wordRuns q.val r m := by
  obtain ⟨hup, hchecked, hmode, hissue, hroutine, w, hword, hparity, rfl⟩ := h
  simp only [State.microStep, hup, hchecked, hmode, hissue, hroutine, hword, hrow, hparity, State.wordRuns]
  rfl

/-- An acceptable word without a nano-word whose action passes, of any code but END. -/
theorem Fetched.runs {row : Nat → Bool} (hrow : row m.code = true) (hok : m.operandOk = true) (hptr : m.nanoPtr = 0) (hcode : m.code ≠ 18)
    {y : SeqSt} (hact : (s.seq q.val).act m = .ok y) : s.microStep q.val row = s.microRun q.val r m y none := by
  have hnano : s.nanoOf r y m = .ok none := if_pos hptr
  rw [h.microStep hrow]
  simp only [State.wordRuns, hok, Bool.not_true, Bool.false_eq_true, if_false, hcode, hact, hnano]

/-- A code that neither waits nor ends replaces the registers as its action says. -/
theorem Fetched.becomes {c : Instr} {row : Nat → Bool} (hexec : exec c s = .next (s.microStep q.val row)) (hrow : row m.code = true)
    (hok : m.operandOk = true) (hptr : m.nanoPtr = 0) (hcode : m.code ≤ 13) {y : SeqSt} (hact : (s.seq q.val).act m = .ok y)
    (hissue : y.issue = none) : Becomes c q r { y with cmdPc := (s.seq q.val).pc } s := by
  have h17 : m.code ≠ 17 := by omega
  have h16 : m.code ≠ 16 := by omega
  rw [Becomes, hexec, h.runs hrow hok hptr (by omega) hact]
  simp only [State.microRun, h16, h17, ← hissue, decide_false, Bool.false_and, Bool.false_eq_true, if_false]

section
variable (hok : m.operandOk = true) (hptr : m.nanoPtr = 0) (hpc : (s.seq q.val).pc ≠ 16383)
include hok hptr hpc

theorem Fetched.wait (hcode : m.code = 16) :
    exec (.wait q) s = .next (s.microRun q.val r m { s.seq q.val with pc := (s.seq q.val).pc + 1 } none) :=
  congrArg Host.Outcome.next
    (h.runs (row := (· == 16)) (beq_iff_eq.2 hcode) hok hptr (by omega) (SeqSt.act_next (.inr (.inl hcode)) hpc))

/-- A WAIT for a tick to come holds its sequencer. -/
theorem Fetched.wait_holds (hcode : m.code = 16) (hlater : s.horizon < r.at (bits m.op 0 11)) : Becomes (.wait q) q r
    { s.seq q.val with mode := .waiting, waitTick := some (bits m.op 0 11), cmdPc := (s.seq q.val).pc } s := by
  rw [Becomes, h.wait hok hptr hpc hcode]
  simp only [State.microRun, if_pos hcode, if_neg (Nat.not_le.2 hlater), ite_self, ← h.unissued]

/-- A WAIT whose tick has begun counts a late fire and holds nothing (R359). -/
theorem Fetched.wait_late (hcode : m.code = 16) (hinside : r.at (bits m.op 0 11) < r.spanEnd) (hbegun : r.at (bits m.op 0 11) ≤ s.horizon) :
    exec (.wait q) s = .next (((s.pmu 0x26 (some r.ctx) 1).setSeq q.val
      { s.seq q.val with pc := (s.seq q.val).pc + 1, cmdPc := (s.seq q.val).pc }).lateFire q.val) := by
  rw [h.wait hok hptr hpc hcode]
  simp only [State.microRun, if_pos hcode, if_neg (Nat.not_le.2 hinside), if_pos hbegun, ← h.unissued]

/-- WAITD goes on where nothing is outstanding, and waits otherwise. -/
theorem Fetched.waitd (hcode : m.code = 17) :
    exec (.waitd q) s = .next (if (s.seq q.val).outstanding = []
      then (s.pmu 0x26 (some r.ctx) 1).setSeq q.val { s.seq q.val with pc := (s.seq q.val).pc + 1, cmdPc := (s.seq q.val).pc }
      else s.setSeq q.val { s.seq q.val with mode := .waiting }) := by
  have hruns := h.runs (row := (· == 17)) (beq_iff_eq.2 hcode) hok hptr (by omega) (SeqSt.act_next (.inr (.inr hcode)) hpc)
  refine congrArg Host.Outcome.next (hruns.trans ?_)
  simp only [State.microRun, hcode, ← h.unissued]
  by_cases hout : (s.seq q.val).outstanding = [] <;> simp [hout]

end

/-- An END without a nano-word ends the routine where nothing is outstanding, and waits otherwise. -/
theorem Fetched.seqEnd (hok : m.operandOk = true) (hptr : m.nanoPtr = 0) (hcode : m.code = 18) :
    exec (.seqEnd q) s = .next (if (s.seq q.val).outstanding = [] then (s.pmu 0x26 (some r.ctx) 1).routineEnd q.val
      else s.setSeq q.val { s.seq q.val with mode := .waiting }) := by
  have hfetch : s.nanoFetch r m = .ok 0 := by
    have hword : s.nanoWord r m.nanoPtr = some 0 := if_pos hptr
    rw [State.nanoFetch, hword]
    rfl
  refine congrArg _ ((h.microStep (row := (· == 18)) (beq_iff_eq.2 hcode)).trans ?_)
  simp only [State.wordRuns, hok, Bool.not_true, Bool.false_eq_true, if_false, if_pos hcode, hfetch]
  by_cases hout : (s.seq q.val).outstanding = [] <;> simp [hout]

/-- A WAIT that holds goes on when its tick comes (R359). -/
theorem Fetched.waitFire (hpc : (s.seq q.val).pc ≠ 16383) {w : Nat} (hnow : s.horizon = r.at w) (hinside : r.at w < r.spanEnd)
    (htimed : (s.seq q.val).issueTimed = false) :
    let u := s.setSeq q.val { s.seq q.val with mode := .waiting, waitTick := some w }
    exec (.waitFire q) u = .next (u.setSeq q.val { s.seq q.val with pc := (s.seq q.val).pc + 1, waitTick := none }) := by
  intro u
  obtain ⟨hup, hchecked, hmode, hissue, hroutine, -⟩ := h
  have hseq : u.seq q.val = { s.seq q.val with mode := .waiting, waitTick := some w } := s.seq_setSeq_same ..
  have hup' : u.blockUp 5 = true := hup
  have hat : u.horizon = r.at w := hnow
  show execWaitFire q u = _
  simp [execWaitFire, hseq, hroutine, hup', hchecked, htimed, hat, Nat.not_le.2 hinside, hpc, hissue, hmode]

end

/-- Settles O45: each code by its action on the registers, `Fetched.becomes` for those that neither wait nor end. -/
theorem microWords : Obligations.MicroWords := by
  unfold Obligations.MicroWords
  intro q r m s h hok hptr hlast x j
  have hpc : x.pc ≠ 16383 := Nat.ne_of_lt hlast
  have hissue : x.issue = none := h.unissued
  have hbecomes {c : Instr} {n : Nat} {y : SeqSt} (hcode : m.code = n) (hn : n ≤ 13)
      (hexec : exec c s = .next (s.microStep q.val (· == n))) (hact : x.act m = .ok y) (hy : y.issue = none) :=
    h.becomes hexec (beq_iff_eq.2 hcode) hok hptr (hcode ▸ hn) hact hy
  refine ⟨fun hcode => ?_, fun hcode => ?_, fun hcode => ?_, fun hcode => ?_, fun hcode => ?_, fun hcode hroom => ?_,
    fun p rest hcode hstack => ?_, fun hcode => ?_, fun hlo hhi => ?_, h.wait_holds hok hptr hpc, h.wait_late hok hptr hpc,
    fun hcode hnone => ?_, fun hcode hsome => ?_, fun hcode hnone => ?_, fun hcode hsome => ?_, fun w u hu hnow hinside htimed => ?_⟩
  · exact hbecomes hcode (by decide) rfl (SeqSt.act_next (.inl hcode) hpc) hissue
  · exact hbecomes hcode (by decide) rfl (SeqSt.act_ldc hcode hpc) hissue
  · exact hbecomes hcode (by decide) rfl (SeqSt.act_lda hcode hpc) hissue
  · exact hbecomes hcode (by decide) rfl (SeqSt.act_adda hcode hpc) hissue
  · exact hbecomes hcode (by decide) rfl (SeqSt.act_jmp hcode) hissue
  · exact hbecomes hcode (by decide) rfl (SeqSt.act_jsr hcode hpc hroom) hissue
  · exact hbecomes hcode (by decide) rfl (SeqSt.act_rts hcode hstack) hissue
  · exact hbecomes hcode (by decide) rfl (SeqSt.act_loop hcode hpc) hissue
  · exact h.becomes rfl (decide_eq_true ⟨hlo, hhi⟩) hok hptr hhi (SeqSt.act_bcond hlo hhi hpc) hissue
  · exact (h.waitd hok hptr hpc hcode).trans (congrArg _ (if_pos hnone))
  · exact (h.waitd hok hptr hpc hcode).trans (congrArg _ (if_neg hsome))
  · exact (h.seqEnd hok hptr hcode).trans (congrArg _ (if_pos hnone))
  · exact (h.seqEnd hok hptr hcode).trans (congrArg _ (if_neg hsome))
  · exact hu ▸ h.waitFire hpc hnow hinside htimed

end Sys2Proof.Machine
end

section
/-!
PROOFS. Machine checks (R343, R348, R367–R369): the words that make one, what the record of one keeps, and the record cleared.
-/

namespace Sys2Proof.Machine

/-! ### Words that make a check -/

theorem MicroWord.operandOk_reserved {m : MicroWord} (h : reservedCode m.code = true) : m.operandOk = false := by
  unfold MicroWord.operandOk
  split <;> simp_all [reservedCode]

section
variable {s : State} {r : Routine} {m : MicroWord} {n : Nat} (hword : s.nanoWord r m.nanoPtr = some n)
include hword

theorem State.nanoFetch_kind (hparity : nanoSyndrome n = 0) (hkind : 8 ≤ bits n 0 4) : s.nanoFetch r m = .error (.kind, 0) := by
  have hlow : bits (n % 2 ^ 192) 0 4 = bits n 0 4 := by simp only [bits]; omega
  have hsub : substituted (n % 2 ^ 192) m = .error .kind := if_pos (hlow ▸ hkind)
  simp only [State.nanoFetch, hword, hparity, hsub, ne_eq, not_true_eq_false, if_false]

theorem State.nanoFetch_parity (hparity : nanoSyndrome n ≠ 0) : s.nanoFetch r m = .error (.nanoParity, nanoSyndrome n) := by
  simp [State.nanoFetch, hword, hparity]

end

theorem State.nanoOf_error {s : State} {r : Routine} {m : MicroWord} {c : McCause × Nat} (hptr : m.nanoPtr ≠ 0)
    (hfetch : s.nanoFetch r m = .error c) (x : SeqSt) : s.nanoOf r x m = .error c := by
  simp [State.nanoOf, hptr, hfetch]

/-- An acceptable word whose action passes makes the check that the fetch of its nano-word finds (R340). -/
theorem State.wordRuns_fetchFails {s : State} {q : Nat} {r : Routine} {m : MicroWord} {c : McCause × Nat} (hok : m.operandOk = true)
    (hptr : m.nanoPtr ≠ 0) (hact : m.code = 18 ∨ ∃ y, (s.seq q).act m = .ok y) (hfetch : s.nanoFetch r m = .error c) :
    s.wordRuns q r m = s.machineCheck q c.1 c.2 := by
  by_cases hend : m.code = 18
  · simp [State.wordRuns, hok, hend, hfetch]
  · obtain ⟨y, hy⟩ := hact.resolve_left hend
    simp [State.wordRuns, hok, hend, hy, State.nanoOf_error hptr hfetch]

section
variable {s : State} {q : Fin 16} {r : Routine} {m : MicroWord} (h : Fetched s q r m)
include h

theorem Fetched.reservedCode (hcode : reservedCode m.code = true) : exec (.reservedCode q) s = .next (s.machineCheck q.val .code 0) := by
  refine congrArg _ ((h.microStep hcode).trans ?_)
  rw [State.wordRuns, MicroWord.operandOk_reserved hcode]
  rfl

theorem Fetched.reservedNanoKind (hok : m.operandOk = true) (hptr : m.nanoPtr ≠ 0)
    (hact : m.code = 18 ∨ ∃ y, (s.seq q.val).act m = .ok y) {n : Nat} (hword : s.nanoWord r m.nanoPtr = some n)
    (hparity : nanoSyndrome n = 0) (hkind : 8 ≤ bits n 0 4) :
    exec (.reservedNanoKind q) s = .next (s.machineCheck q.val .kind 0) := by
  have hreserved : s.nanoReserved q.val = true := by
    obtain ⟨-, -, -, -, hroutine, w, hmicro, -, rfl⟩ := h
    simp [State.nanoReserved, hroutine, hmicro, hword, hkind]
  show Host.Outcome.next (if s.nanoReserved q.val then s.microStep q.val (fun _ => true) else s) = _
  rw [if_pos hreserved, h.microStep rfl, State.wordRuns_fetchFails hok hptr hact (State.nanoFetch_kind hword hparity hkind)]

theorem Fetched.nanoParity (hcode : m.code = 0) (hptr : m.nanoPtr ≠ 0) (hpc : (s.seq q.val).pc ≠ 16383) {n : Nat}
    (hword : s.nanoWord r m.nanoPtr = some n) (hparity : nanoSyndrome n ≠ 0) :
    exec (.next q) s = .next (s.machineCheck q.val .nanoParity (nanoSyndrome n)) := by
  have hok : m.operandOk = true := by simp [MicroWord.operandOk, hcode, Machine.reservedCode]
  have hact : m.code = 18 ∨ ∃ y, (s.seq q.val).act m = .ok y := .inr ⟨_, SeqSt.act_next (.inl hcode) hpc⟩
  show Host.Outcome.next (s.microStep q.val (· == 0)) = _
  rw [h.microStep (row := (· == 0)) (beq_iff_eq.2 hcode), State.wordRuns_fetchFails hok hptr hact (State.nanoFetch_parity hword hparity)]

end

/-- A NEXT of bad parity. -/
theorem exec_next_microParity {s : State} {q : Fin 16} {r : Routine} {w : Nat} (hup : s.blockUp 5 = true)
    (hchecked : (s.seq q.val).checked = false) (hmode : (s.seq q.val).mode = .running) (hissue : (s.seq q.val).issue = none)
    (hroutine : (s.seq q.val).routine = some r) (hword : s.microWord r (s.seq q.val).pc = some w)
    (hcode : (MicroWord.ofNat w).code = 0) (hparity : microSyndrome w ≠ 0) :
    exec (.next q) s = .next (s.machineCheck q.val .microParity (microSyndrome w)) := by
  show Host.Outcome.next (s.microStep q.val (· == 0)) = _
  simp [State.microStep, hup, hchecked, hmode, hissue, hroutine, hword, hcode, hparity]

/-! ### What a check leaves (R368) -/

theorem State.raiseSeq_signals (s : State) (q b : Nat) {l : List Fld} (h : R.SEQ_EVT q ∈ l) : Signals l s (s.raiseSeq q b) :=
  ⟨s.raise_only _ _ _ b, s.raise_fields _ _ _ b l h⟩

theorem seqEvt_not_inPmu (q : Fin 16) : ¬ inPmu (R.SEQ_EVT q.val) := by
  simp only [inPmu, Fld.key, R.SEQ_EVT]
  omega

theorem State.raiseSeq_bitSet (s : State) (q : Fin 16) {b : Nat} (hb : b < 4) : BitSet (s.raiseSeq q.val b) (R.SEQ_EVT q.val) b := by
  rw [BitSet, State.raiseSeq, State.raise_bit _ _ _ _ _ _ (seqEvt_not_inPmu q) hb, BEq.rfl, Bool.or_true]

theorem Reports.seqs {l : List Fld} {s t : State} (h : Reports l s t) : t.seqs = s.seqs := by rw [h.2]

@[simp] theorem State.routineOver_get (s : State) (q : Nat) (mode : SeqMode) (g : Fld) : (s.routineOver q mode).get g = s.get g := rfl
@[simp] theorem State.routineOver_mem (s : State) (q : Nat) (mode : SeqMode) : (s.routineOver q mode).mem = s.mem := rfl

/-- The fields of a sequencer's record. -/
def mcFields (q : Nat) : List Fld :=
  [R.SEQ_MC0_valid q, R.SEQ_MC0_cause q, R.SEQ_MC0_micro_pc q, R.SEQ_MC1_entry q, R.SEQ_MC1_dyn q, R.SEQ_MC1_context q,
    R.SEQ_MC1_syndrome q, R.SEQ_MC2_frame_lo q, R.SEQ_MC3_frame_hi q, R.SEQ_MC3_tick q]

theorem mcFields_nodup : ∀ q : Fin 16, ((mcFields q.val).map Fld.key).Nodup := by decide +kernel

theorem mcFields_apart : ∀ q : Fin 16, ∀ f ∈ mcFields q.val,
    ¬ inPmu f ∧ f.key ≠ R.GEN_FLOG_STAT_lost.key ∧ f.key ≠ (R.SEQ_EVT q.val).key := by decide +kernel

/-- What the record of a check of routine `r` holds. -/
def State.mcRecord (s : State) (q : Nat) (r : Routine) (c : McCause) (syndrome : Nat) : List (Fld × Nat) :=
  [(R.SEQ_MC0_valid q, 1), (R.SEQ_MC0_cause q, c.num), (R.SEQ_MC0_micro_pc q, (s.seq q).pc),
    (R.SEQ_MC1_entry q, if r.dyn then 0 else r.index), (R.SEQ_MC1_dyn q, b2n r.dyn), (R.SEQ_MC1_context q, r.ctx),
    (R.SEQ_MC1_syndrome q, syndrome), (R.SEQ_MC2_frame_lo q, s.frame), (R.SEQ_MC3_frame_hi q, s.frame / 2 ^ 32),
    (R.SEQ_MC3_tick q, s.tick)]

/-- The record written and copied to the fault log. -/
def State.mcRecorded (s : State) (q : Nat) (r : Routine) (c : McCause) (syndrome : Nat) : State :=
  ((s.puts (s.mcRecord q r c syndrome)).flogAdd 1 (c.num + 16 * q) (s.seq q).pc (some r.ctx)).pmu 0x22 (some r.ctx) 1

section
variable {s : State} {q : Fin 16} {r : Routine} (c : McCause) (syndrome : Nat)

theorem State.mcRecorded_reports :
    Reports [R.GEN_FLOG_STAT_lost] (s.puts (s.mcRecord q.val r c syndrome)) (s.mcRecorded q.val r c syndrome) :=
  (State.flogAdd_reports _ _ _ _ _ (List.mem_singleton_self _)).trans (State.pmu_signals _ _ _ _ _).reports

theorem State.mcRecorded_seqs : (s.mcRecorded q.val r c syndrome).seqs = s.seqs :=
  (State.mcRecorded_reports c syndrome).seqs.trans (by rw [State.puts_eq])

theorem State.mcRecorded_mem : (s.mcRecorded q.val r c syndrome).mem = s.mem :=
  (State.mcRecorded_reports c syndrome).mem.trans (by rw [State.puts_eq])

/-- On a free record, a routine that nothing delays and no descriptor waits for ends at its check. -/
theorem State.machineCheck_ends (hroutine : (s.seq q.val).routine = some r) (hdesc : r.desc = none)
    (hout : (s.seq q.val).outstanding = []) (hfree : s.get (R.SEQ_MC0_valid q.val) = 0) :
    s.machineCheck q.val c syndrome = ((s.mcRecorded q.val r c syndrome).routineOver q.val .fault).raiseSeq q.val 0 := by
  have hnone : (s.mcRecorded q.val r c syndrome).seqDesc q.val = none := by
    rw [State.seqDesc, State.seq_congr (State.mcRecorded_seqs c syndrome), hroutine]
    exact hdesc
  have hfinish : s.machineCheck q.val c syndrome = (s.mcRecorded q.val r c syndrome).mcFinish q.val c.num := by
    simp only [State.machineCheck, hroutine, hout, hfree, if_true, List.isEmpty_nil]
    rfl
  rw [hfinish, State.mcFinish, hnone]
  rfl

/-- The record keeps what was put. -/
theorem State.mcRecorded_get {p : Fld × Nat} (hp : p ∈ s.mcRecord q.val r c syndrome) :
    (((s.mcRecorded q.val r c syndrome).routineOver q.val .fault).raiseSeq q.val 0).get p.1 = p.2 % 2 ^ p.1.w := by
  have hfield : p.1 ∈ mcFields q.val := List.mem_map_of_mem (f := Prod.fst) hp
  obtain ⟨hpmu, hlost, hevt⟩ := mcFields_apart q p.1 hfield
  have hraise := (State.raiseSeq_signals ((s.mcRecorded q.val r c syndrome).routineOver q.val .fault) q.val 0
    (List.mem_singleton_self _)).2 p.1 hpmu (by simpa using hevt)
  have hreport := (State.mcRecorded_reports c syndrome (s := s) (q := q) (r := r)).get p.1 hpmu (by simpa using hlost)
  rw [hraise, State.routineOver_get, hreport]
  exact State.get_puts_mem _ (mcFields q.val) rfl (mcFields_nodup q) hp

end

/-! ### The record cleared (R369) -/

theorem State.setRegWord_zero (s : State) (off : Nat) : s.setRegWord off 0 = s.zero (fieldsAt off) := by
  unfold State.setRegWord State.zero
  induction fieldsAt off generalizing s with
  | nil => rfl
  | cons f l ih =>
    have hbits : bits 0 f.lo f.w = 0 := by simp [bits]
    rw [List.foldl_cons, hbits, ih]
    rfl

/-- The fields of the words that SEQ_MC_CLEAR clears. -/
def mcWords (q : Nat) : List Fld :=
  fieldsAt (0x80010 + 0x4000 * q) ++ (fieldsAt (0x80014 + 0x4000 * q) ++ (fieldsAt (0x80018 + 0x4000 * q) ++ fieldsAt (0x8001C + 0x4000 * q)))

theorem mcWords_rst : ∀ q : Fin 16, ∀ f ∈ mcWords q.val, f.rst = 0 := by decide +kernel

theorem mcWords_mem : ∀ q : Fin 16, R.SEQ_MC0_valid q.val ∈ mcWords q.val ∧ R.SEQ_MC0_cause q.val ∈ mcWords q.val ∧
    R.SEQ_MC2_frame_lo q.val ∈ mcWords q.val := by decide +kernel

theorem State.zero_append (s : State) (l m : List Fld) : s.zero (l ++ m) = (s.zero l).zero m := by
  rw [State.zero, List.map_append, State.puts_append, State.zero, State.zero]

theorem State.zero_seqs (s : State) (l : List Fld) : (s.zero l).seqs = s.seqs := by rw [State.zero, State.puts_eq]

theorem State.mcClear_eq (s : State) (q : Nat) : s.mcClear q =
    if (s.seq q).mode = .fault then (s.zero (mcWords q)).setSeq q { s.seq q with mode := .idle } else s.zero (mcWords q) := by
  have hwords : [0x80014, 0x80018, 0x8001C].foldl (fun u o => u.setRegWord (o + 0x4000 * q) 0) (s.setRegWord (0x80010 + 0x4000 * q) 0) =
      s.zero (mcWords q) := by
    simp only [List.foldl_cons, List.foldl_nil, State.setRegWord_zero, mcWords, State.zero_append]
  rw [State.mcClear]
  simp only [hwords, State.seq_congr (s.zero_seqs (mcWords q))]

/-- SEQ_MC_CLEAR puts the record to 0 and ends FAULT, and does nothing else. -/
theorem exec_seqMcClear (s : State) (q : Fin 16) (hup : s.blockUp 5 = true) : ∃ t, exec (.seqMcClear q) s = .next t ∧
    (∀ f ∈ mcWords q.val, t.get f = 0) ∧ OtherSeqs q s t ∧ ((s.seq q.val).mode = .fault → (t.seq q.val).mode = .idle) ∧
    ((s.seq q.val).mode ≠ .fault → t.seqs = s.seqs) ∧ t = { s with regs := t.regs, seqs := t.seqs } := by
  have hexec : exec (.seqMcClear q) s = .next (s.mcClear q.val) := congrArg _ (if_pos hup)
  have hzero : s.zero (mcWords q.val) = { s with regs := (s.zero (mcWords q.val)).regs } := (s.zero_writes _).1
  have hseqs := s.zero_seqs (mcWords q.val)
  have hget := s.get_zero (mcWords q.val) (mcWords_rst q)
  refine ⟨_, hexec, ?_⟩
  rw [State.mcClear_eq]
  split
  case isTrue hfault =>
    refine ⟨hget, fun k hk => ?_, fun _ => by rw [State.seq_setSeq_same], fun hmode => absurd hfault hmode, ?_⟩
    · rw [State.setSeq_otherSeqs _ q _ k hk, hseqs]
    · rw [State.setSeq, hzero]
  case isFalse hmode => exact ⟨hget, fun k _ => by rw [hseqs], fun hfault => absurd hfault hmode, fun _ => hseqs, by rw [hzero]⟩

/-- Settles O46: a check ends its routine with the record of `State.mcRecord`, and its words read 0 when it is cleared. -/
theorem machineChecks : Obligations.MachineChecks := by
  unfold Obligations.MachineChecks
  refine ⟨fun q r m s h => ⟨h.reservedCode, fun n hok hptr hact hword => h.reservedNanoKind hok hptr hact hword,
      fun n hcode hptr hpc hword => h.nanoParity hcode hptr hpc hword⟩,
    fun q r w s => exec_next_microParity, fun q r c syndrome s hroutine hdesc hout hfree => ?_, fun q s hup => ?_⟩
  · rw [State.machineCheck_ends c syndrome hroutine hdesc hout hfree]
    intro t
    have hraise : OnlySignals ((s.mcRecorded q.val r c syndrome).routineOver q.val .fault) t :=
      (State.raiseSeq_signals _ _ _ (List.mem_singleton_self _)).1
    have hget {f : Fld} {v : Nat} (hf : (f, v) ∈ s.mcRecord q.val r c syndrome) := State.mcRecorded_get c syndrome hf
    have hcause : c.num % 16 = c.num := by cases c <;> rfl
    refine ⟨hget (f := R.SEQ_MC0_valid q.val) (v := 1) ?_, (hget (f := R.SEQ_MC0_cause q.val) (v := c.num) ?_).trans hcause,
      hget (f := R.SEQ_MC0_micro_pc q.val) (v := (s.seq q.val).pc) ?_, hget (f := R.SEQ_MC1_context q.val) (v := r.ctx) ?_,
      State.raiseSeq_bitSet _ q (by decide), ?_, ?_, fun k hk => ?_, fun a => ?_⟩
    iterate 4 simp [State.mcRecord]
    · rw [hraise.seq, State.routineOver, State.seq_setSeq_same]
    · rw [hraise.seq, State.routineOver, State.seq_setSeq_same]
    · show t.seqs[k] = s.seqs[k]
      rw [hraise.seqs, State.routineOver, State.setSeq_otherSeqs _ q _ k hk, State.mcRecorded_seqs]
    · rw [hraise.mem, State.routineOver_mem, State.mcRecorded_mem]
  · obtain ⟨t, hexec, hzero, hrest⟩ := exec_seqMcClear s q hup
    obtain ⟨hvalid, hcause, hframe⟩ := mcWords_mem q
    exact ⟨t, hexec, hzero _ hvalid, hzero _ hcause, hzero _ hframe, hrest⟩

end Sys2Proof.Machine
end

section
/-!
PROOFS. Commands that leave the latch (R354): what becomes of their sequencer, of the tiles of a plate (R350, R351), and of the port an
FSEND uses (R461, R463).
-/

namespace Sys2Proof.Machine

/-! ### A command leaves the latch -/

/-- A sequencer's registers after a command has left the latch; one that runs on is outstanding. -/
def SeqSt.issued (x : SeqSt) (kind : Option OutKind) : SeqSt :=
  { x with issue := none, issueTimed := false, waitTick := none,
           outstanding := x.outstanding ++ (kind.map (fun k => (⟨k, false⟩ : OutCmd))).toList }

theorem State.issued_signals (s : State) (q : Nat) (kind : Option OutKind) (l : List Fld) :
    Signals l (s.setSeq q ((s.seq q).issued kind)) (s.issued q kind) := State.pmu_signals _ _ _ _ _

theorem State.issued_seq (s : State) (q : Nat) (kind : Option OutKind) : (s.issued q kind).seq q = (s.seq q).issued kind := by
  rw [(s.issued_signals q kind []).1.seq, State.seq_setSeq_same]

theorem State.issued_step (s : State) (q : Fin 16) (kind : Option OutKind) (l : List Fld) : SeqStep q l s (s.issued q.val kind) :=
  (s.setSeq_step q l _).trans ((s.issued_signals q.val kind l).seqStep q)

@[simp] theorem State.issued_tile (s : State) (q : Nat) (kind : Option OutKind) (k : Nat) : (s.issued q kind).tile k = s.tile k :=
  congrArg (SMap.get TileSt.init · k) (s.issued_signals q kind []).1.tiles

theorem State.issued_fab (s : State) (q : Nat) (kind : Option OutKind) : (s.issued q kind).fab = s.fab := (s.issued_signals q kind []).1.fab

theorem State.pmuLines_signals (s : State) (i a n : Nat) (l : List Fld) : Signals l s (s.pmuLines i a n) :=
  .ite (.refl l s) (foldl_signals l _ (fun u _ => u.pmu_signals _ _ _ l) _ s)

/-- Sequencer `q` has issued a command and made it outstanding where it runs on; the listed fields and what the command reaches outside
sequencers and memory may differ. -/
structure Issued (q : Fin 16) (kind : Option OutKind) (l : List Fld) (s t : State) : Prop extends SeqStep q l s t where
  seq : t.seq q.val = (s.seq q.val).issued kind

section
variable {q : Fin 16} {kind : Option OutKind} {l : List Fld} {s t u : State}

/-- The command leaves after a step that left the sequencers. -/
theorem SeqStep.issued (h : SeqStep q l s u) (hseqs : u.seqs = s.seqs) (kind : Option OutKind) : Issued q kind l s (u.issued q.val kind) where
  toSeqStep := h.trans (u.issued_step q kind l)
  seq := by rw [State.issued_seq, State.seq_congr hseqs]

/-- A step that leaves the sequencers comes after. -/
theorem Issued.before (h : Issued q kind l s t) (hstep : SeqStep q l t u) (hseqs : u.seqs = t.seqs) : Issued q kind l s u where
  toSeqStep := h.toSeqStep.trans hstep
  seq := (State.seq_congr hseqs q.val).trans h.seq

theorem Issued.signals (h : Issued q kind l s t) (hsignals : Signals l t u) : Issued q kind l s u :=
  h.before (hsignals.seqStep q) hsignals.1.seqs

theorem Issued.issue (h : Issued q kind l s t) : (t.seq q.val).issue = none := by rw [h.seq, SeqSt.issued]

theorem Issued.outstanding {k : OutKind} (h : Issued q (some k) l s t) :
    (t.seq q.val).outstanding = (s.seq q.val).outstanding ++ [⟨k, false⟩] := by
  rw [h.seq, SeqSt.issued]
  rfl

end

/-! ### Work on every tile of a plate -/

section
variable (f : TileRec → TileSt → TileSt)

/-- The tiles of the records changed one after another. -/
def State.eachRecord (s : State) (xs : List TileRec) : State := xs.foldl (fun u x => u.setTile x.tile (f x (u.tile x.tile))) s

theorem State.eachRecord_only (s : State) (xs : List TileRec) : OnlyTiles s (s.eachRecord f xs) := by
  induction xs generalizing s with
  | nil => rfl
  | cons x xs ih => exact OnlyTiles.trans (t := s.setTile x.tile (f x (s.tile x.tile))) rfl (ih _)

theorem State.eachRecord_other (s : State) (xs : List TileRec) : OtherTiles (xs.map TileRec.tile) s (s.eachRecord f xs) := by
  induction xs generalizing s with
  | nil => exact fun _ _ => rfl
  | cons x xs ih =>
    intro k hk
    obtain ⟨hx, hxs⟩ := List.ne_and_not_mem_of_not_mem_cons hk
    exact (ih _ k hxs).trans (s.tile_setTile_other _ hx)

/-- What every change makes true holds of every tile named. -/
theorem State.eachRecord_mem {P : TileSt → Prop} (hP : ∀ x y, P (f x y)) (s : State) {xs : List TileRec} {k : Nat}
    (hk : k ∈ xs.map TileRec.tile) : P ((s.eachRecord f xs).tile k) := by
  induction xs generalizing s with
  | nil => simp at hk
  | cons x xs ih =>
    by_cases hlater : k ∈ xs.map TileRec.tile
    · exact ih _ hlater
    · obtain rfl : k = x.tile := (List.mem_cons.1 hk).resolve_right hlater
      have hlast : (s.eachRecord f (x :: xs)).tile x.tile = f x (s.tile x.tile) :=
        (State.eachRecord_other f _ xs _ hlater).trans (s.tile_setTile_same _ _)
      exact hlast ▸ hP x _

/-- Tiles named once each are changed from what they were. -/
theorem State.eachRecord_apart (s : State) {xs : List TileRec} (hxs : (xs.map TileRec.tile).Nodup) {x : TileRec} (hx : x ∈ xs) :
    (s.eachRecord f xs).tile x.tile = f x (s.tile x.tile) := by
  induction xs generalizing s with
  | nil => simp at hx
  | cons y xs ih =>
    obtain ⟨hy, hrest⟩ := List.nodup_cons.1 hxs
    rcases List.mem_cons.1 hx with rfl | hx
    · exact (State.eachRecord_other f _ xs _ hy).trans (s.tile_setTile_same _ _)
    · have hne : x.tile ≠ y.tile := fun h => hy (h ▸ List.mem_map_of_mem hx)
      exact (ih _ hrest hx).trans (congrArg (f x) (s.tile_setTile_other _ hne))

end

/-- A command that works on the tiles of a plate leaves the latch. -/
theorem State.eachRecord_issued (s : State) (f : TileRec → TileSt → TileSt) (xs : List TileRec) (q : Fin 16) (kind : Option OutKind)
    (l : List Fld) : Issued q kind l s ((s.eachRecord f xs).issued q.val kind) := by
  have honly := s.eachRecord_only f xs
  exact (SeqStep.of_eq q l (by rw [honly]) (by rw [honly]) (by rw [honly])).issued (by rw [honly]) kind

/-! ### EXPOSE (R208, R350) -/

/-- The burst that an EXPOSE begins on a tile. -/
def State.burstBegun (s : State) (q : Nat) (r : Routine) (e : ExposeCmd) (p : Plate) (x : TileRec) : Burst :=
  { q := q, plate := p.num, cmd := e, base := (s.seq q).addr e.srcReg, bank := (x.bank + e.bankOff) % 4, endFrame := r.frame,
    endTick := r.endTick, started := 0, developed := 0, t0 := 16 * s.startTick q r, loaded := [], reps := [], psum := [],
    committed := false, inbound := 0, sent := false }

theorem State.beginBurst_eq (s : State) (q : Nat) (r : Routine) (e : ExposeCmd) (p : Plate) :
    s.beginBurst q r e p = s.eachRecord (fun x y => { y with burst := some (s.burstBegun q r e p x) }) p.tiles := rfl

/-- The state after an EXPOSE that its tiles take. -/
def State.exposed (s : State) (q : Nat) (r : Routine) (e : ExposeCmd) (p : Plate) : State :=
  (s.eachRecord (fun x y => { y with burst := some (s.burstBegun q r e p x) }) p.tiles).issued q (some (.expose e.plate))

/-- A burst of this command of routine `r` on sequencer `q`, with no exposure begun. -/
def BurstAtStart (q : Nat) (r : Routine) (e : ExposeCmd) (burst : Option Burst) : Prop :=
  ∃ b, burst = some b ∧ b.cmd = e ∧ b.started = 0 ∧ b.developed = 0 ∧ b.q = q ∧ b.endFrame = r.frame ∧ b.endTick = r.endTick

/-- A burst begins on every tile of the plate. -/
theorem State.exposed_effect (s : State) (q : Fin 16) (r : Routine) (e : ExposeCmd) (p : Plate) :
    Issued q (some (.expose e.plate)) [] s (s.exposed q.val r e p) ∧
      (∀ x ∈ p.tiles, BurstAtStart q.val r e ((s.exposed q.val r e p).tile x.tile).burst) ∧
      OtherTiles (p.tiles.map TileRec.tile) s (s.exposed q.val r e p) := by
  refine ⟨State.eachRecord_issued s _ p.tiles q _ [], fun x hx => ?_, fun k hk => ?_⟩
  · rw [State.exposed, State.issued_tile]
    exact State.eachRecord_mem _ (P := fun y => BurstAtStart q.val r e y.burst) (fun _ _ => ⟨_, rfl, rfl, rfl, rfl, rfl, rfl, rfl⟩) s
      (List.mem_map_of_mem hx)
  · rw [State.exposed, State.issued_tile]
    exact State.eachRecord_other _ s _ k hk

section
variable {s : State} {q : Fin 16} {r : Routine} {e : ExposeCmd} {p : Nat × ResImage × Plate}

/-- An EXPOSE that its tiles take. -/
theorem exec_expose (h : s.latched q.val = some (r, .expose e)) (hfree : s.mustHold q.val (some e.plate) = false)
    (hp : s.plateOf e.plate = some p) (hserves : s.serves q.val e.plate = true) (hfixing : s.fix.fixing.getLsbD e.plate = false)
    (hable : ∀ x ∈ p.2.2.tiles, s.tileForced x.tile = false ∧ (s.tile x.tile).faulty = false) (hpast : s.clk.forcedEnd ≤ r.at 0) :
    exec (.expose q) s = .next (s.exposed q.val r e p.2.2) := by
  have hnone : p.2.2.tiles.find? (fun x => s.tileForced x.tile || (s.tile x.tile).faulty || decide (r.at 0 < s.clk.forcedEnd)) = none :=
    List.find?_eq_none.2 fun x hx => by
      obtain ⟨hforced, hfaulty⟩ := hable x hx
      simp [hforced, hfaulty, hpast]
  show execExpose q s = _
  simp only [execExpose, h, hfree, State.issueExpose, hp, hserves, hfixing, hnone, Bool.not_true, Bool.false_eq_true, if_false,
    State.beginBurst_eq, State.exposed]

end

/-! ### LOAD (R351) -/

/-- Bytes put into a holding buffer from position `a` on. -/
def holdFilled (m : SMap Nat) (a : Nat) (bs : List Byte) : SMap Nat := bs.zipIdx.foldl (fun m b => SMap.set 0 m (a + b.2) b.1.toNat) m

theorem holdFilled_concat (m : SMap Nat) (a : Nat) (bs : List Byte) (b : Byte) :
    holdFilled m a (bs ++ [b]) = SMap.set 0 (holdFilled m a bs) (a + bs.length) b.toNat := by
  simp [holdFilled, List.zipIdx_append]

/-- Bytes put into a holding buffer are read back. -/
theorem holdFilled_get (m : SMap Nat) (a : Nat) (bs : List Byte) {i : Nat} {b : Byte} (hb : bs[i]? = some b) :
    SMap.get 0 (holdFilled m a bs) (a + i) = b.toNat := by
  induction bs using List.reverseRecOn with
  | nil => simp at hb
  | append_singleton bs c ih =>
    rw [holdFilled_concat]
    by_cases hi : i < bs.length
    · rw [SMap.get_set_other _ _ _ _ _ (by omega)]
      exact ih (by rwa [List.getElem?_append_left hi] at hb)
    · obtain rfl : i = bs.length := by
        have hlt := (List.getElem?_eq_some_iff.1 hb).1
        rw [List.length_append, List.length_singleton] at hlt
        omega
      obtain rfl : c = b := by simpa using hb
      exact SMap.get_set_same _ _ _ _

/-- A tile with `lines` lines of memory in its holding buffer, from the address its record gives. -/
def State.heldLines (s : State) (base : TileRec → Nat) (line lines : Nat) (x : TileRec) (y : TileSt) : TileSt :=
  { y with hold := holdFilled y.hold (64 * line) (s.readMem (base x) (64 * lines)) }

theorem State.heldLines_get (s : State) (base : TileRec → Nat) (line lines : Nat) (x : TileRec) (y : TileSt) {i : Nat}
    (hi : i < 64 * lines) :
    SMap.get 0 (s.heldLines base line lines x y).hold (64 * line + i) = (Memory.get s.mem (base x + i)).toNat :=
  holdFilled_get _ _ _ (by simp [State.readMem, Memory.read, hi])

theorem State.fillHolds_eq (s : State) (base : TileRec → Nat) (line lines : Nat) (xs : List TileRec) :
    xs.foldl (fun u x => u.fillHold x.tile (base x) line lines) s = s.eachRecord (s.heldLines base line lines) xs := by
  suffices h : ∀ u : State, u.mem = s.mem →
      xs.foldl (fun u x => u.fillHold x.tile (base x) line lines) u = u.eachRecord (s.heldLines base line lines) xs from h s rfl
  induction xs with
  | nil => exact fun _ _ => rfl
  | cons x xs ih =>
    intro u hmem
    have hfill : u.fillHold x.tile (base x) line lines = u.setTile x.tile (s.heldLines base line lines x (u.tile x.tile)) := by
      rw [State.fillHold, State.heldLines, State.readMem, hmem, State.readMem]
      rfl
    rw [List.foldl_cons, hfill]
    exact ih (u.setTile x.tile _) hmem

/-- A command that reads memory with no poisoned line fails nothing. -/
theorem State.issued_unfailed {s : State} (h : s.poison = []) (q : Nat) (kind : Option OutKind) (desc : Option (Nat × Nat)) (a n : Nat) :
    ((s.issued q kind).pmuLines 0 a n).noteDataError desc a n = (s.issued q kind).pmuLines 0 a n := by
  have hclean : ((s.issued q kind).pmuLines 0 a n).poison = [] :=
    (State.pmuLines_signals _ _ _ _ []).1.poison.trans ((s.issued_signals q kind []).1.poison.trans h)
  rw [State.noteDataError, hclean]
  rfl

section
variable {s : State} {q : Fin 16} {r : Routine}

/-- The state after a LOAD: the buffers of the plate's tiles are filled, each row from its own lines, and the lines counted. -/
def State.loaded (s : State) (q : Nat) (p : Plate) (a line lines : Nat) : State :=
  ((s.eachRecord (s.heldLines (fun x => a + x.row * 64 * lines) line lines) p.tiles).issued q (some .load)).pmuLines 0 a
    (64 * lines * p.rowCount)

theorem State.loaded_effect (s : State) (q : Fin 16) (p : Plate) (a line lines : Nat) (hapart : (p.tiles.map TileRec.tile).Nodup) :
    Issued q (some .load) [] s (s.loaded q.val p a line lines) ∧ OtherTiles (p.tiles.map TileRec.tile) s (s.loaded q.val p a line lines) ∧
      ∀ x ∈ p.tiles, ∀ i, i < 64 * lines → SMap.get 0 ((s.loaded q.val p a line lines).tile x.tile).hold (64 * line + i) =
        (Memory.get s.mem (a + x.row * 64 * lines + i)).toNat := by
  have htile (k : Nat) : (s.loaded q.val p a line lines).tile k =
      (s.eachRecord (s.heldLines (fun x => a + x.row * 64 * lines) line lines) p.tiles).tile k :=
    (congrArg (SMap.get TileSt.init · k) (State.pmuLines_signals _ _ _ _ []).1.tiles).trans (State.issued_tile _ _ _ _)
  refine ⟨(State.eachRecord_issued s _ p.tiles q _ []).signals (State.pmuLines_signals _ _ _ _ []), fun k hk => ?_, fun x hx i hi => ?_⟩
  · rw [htile]
    exact State.eachRecord_other _ s _ k hk
  · rw [htile, State.eachRecord_apart _ s hapart hx]
    exact s.heldLines_get _ line lines x _ hi

/-- A LOAD from lines that are not poisoned. -/
theorem exec_load {plate reg line lines : Nat} {p : Nat × ResImage × Plate} (h : s.latched q.val = some (r, .load plate reg line lines))
    (hfree : s.mustHold q.val none = false) (hp : s.plateOf plate = some p) (hpoison : s.poison = []) :
    exec (.load q) s = .next (s.loaded q.val p.2.2 ((s.seq q.val).addr reg) line lines) := by
  have hclean (f : TileRec → TileSt → TileSt) : (s.eachRecord f p.2.2.tiles).poison = [] := by rw [s.eachRecord_only f]; exact hpoison
  show execLoad q s = _
  simp only [execLoad, h, hfree, hp, Bool.false_eq_true, if_false, State.fillHolds_eq, State.issued_unfailed (hclean _),
    State.loaded]

end

/-! ### FSEND (R461, R463) -/

section
variable (s : State) (n : Nat)

@[simp] theorem State.port_setPort_same (p : PortSt) : (s.setPort n p).port n = p := Vector.getElem_set_self ..

/-- Transactions join their port's queue, and nothing else changes. -/
theorem State.enqueueAll_effect (ts : List Txn) :
    s.enqueueAll n ts = { s with fab := { s.fab with ports := (s.enqueueAll n ts).fab.ports } } ∧
      ((s.enqueueAll n ts).port n).queue.length = (s.port n).queue.length + ts.length := by
  induction ts generalizing s with
  | nil => exact ⟨rfl, rfl⟩
  | cons t ts ih =>
    obtain ⟨honly, hlength⟩ := ih (s.enqueue n t none)
    refine ⟨honly, hlength.trans ?_⟩
    rw [State.enqueue, State.port_setPort_same, List.length_append, List.length_cons, List.length_cons, List.length_nil]
    omega

/-- An FSEND opens one transfer and queues its lines. -/
theorem State.sendLines_effect (base length dst addr : Nat) (r : Routine) (q : Nat) :
    s.sendLines n base length dst addr r q = { s with fab := (s.sendLines n base length dst addr r q).fab } ∧
      ((s.sendLines n base length dst addr r q).port n).queue.length = (s.port n).queue.length + length ∧
      ∃ x, (s.sendLines n base length dst addr r q).fab.transfers = s.fab.transfers ++ [x] ∧ x.port = n ∧ x.count = length := by
  obtain ⟨ts, hts, hsend⟩ : ∃ ts : List Txn, ts.length = length ∧
      s.sendLines n base length dst addr r q = (s.newTransfer (r.owner q) q n length false).2.enqueueAll n ts :=
    ⟨_, (List.length_map _).trans List.length_range, rfl⟩
  obtain ⟨honly, hqueue⟩ := State.enqueueAll_effect (s.newTransfer (r.owner q) q n length false).2 n ts
  rw [hsend]
  refine ⟨?_, hqueue.trans (congrArg _ hts), _, congrArg (fun u : State => u.fab.transfers) honly, rfl, rfl⟩
  rw [honly]
  rfl

end

/-- The state after an FSEND from `a` on: its transfer has begun, its lines are queued and counted. -/
def State.fsent (s : State) (q : Nat) (r : Routine) (port a length dst addr : Nat) : State :=
  ((s.sendLines port a length dst addr r q).issued q (some (.fsend s.fab.nextId))).pmuLines 0 a (64 * length)

theorem State.fsent_effect (s : State) (q : Fin 16) (r : Routine) (port a length dst addr : Nat) :
    Issued q (some (.fsend s.fab.nextId)) [] s (s.fsent q.val r port a length dst addr) ∧
      ((s.fsent q.val r port a length dst addr).port port).queue.length = (s.port port).queue.length + length ∧
      ∃ x, (s.fsent q.val r port a length dst addr).fab.transfers = s.fab.transfers ++ [x] ∧ x.port = port ∧ x.count = length := by
  obtain ⟨honly, hsent⟩ := s.sendLines_effect port a length dst addr r q.val
  have hseqs : (s.sendLines port a length dst addr r q.val).seqs = s.seqs := by rw [honly]
  have hissued := ((SeqStep.of_eq q [] hseqs (by rw [honly]) (by rw [honly])).issued hseqs (some (.fsend s.fab.nextId))).signals
    (State.pmuLines_signals _ 0 a (64 * length) [])
  have hfab : (s.fsent q.val r port a length dst addr).fab = (s.sendLines port a length dst addr r q.val).fab :=
    (State.pmuLines_signals _ _ _ _ []).1.fab.trans (State.issued_fab _ _ _)
  refine ⟨hissued, ?_⟩
  rw [State.port, hfab]
  exact hsent

section
variable {s : State} {q : Fin 16} {r : Routine} {port reg length dst addr : Nat} {f : Bool}

/-- An FSEND whose transfer can begin, from lines that are not poisoned. -/
theorem exec_fsend (h : s.latched q.val = some (r, .fsend port reg length dst addr f)) (hfree : s.mustHold q.val none = false)
    (hgood : s.sendFault port dst = none) (hroom : s.transfersFull = false) (hpoison : s.poison = []) :
    exec (.fsend q) s = .next (s.fsent q.val r port ((s.seq q.val).addr reg) length dst addr) := by
  have hclean : (s.sendLines port ((s.seq q.val).addr reg) length dst addr r q.val).poison = [] := by
    rw [(s.sendLines_effect port _ length dst addr r q.val).1]
    exact hpoison
  show execFsend q s = _
  simp only [execFsend, h, hfree, hgood, hroom, Bool.false_eq_true, if_false, State.issued_unfailed hclean,
    State.fsent]

end

end Sys2Proof.Machine
end

section
/-!
PROOFS. Commands that leave the latch for the output stage, the fabric's receiver, the vector units and the sync objects (R352, R353, R433,
R462), and the statement on nano commands.
-/

namespace Sys2Proof.Machine

/-! ### OUTPUT (R352) -/

/-- The run that an OUTPUT adds. -/
def State.runBegun (s : State) (q : Nat) (r : Routine) (o : OutputCmd) : OutRun :=
  ⟨q, r.ctx, r.desc, o, (s.seq q).addr o.dstReg, (s.seq q).addr o.fuseReg, !r.dyn, []⟩

/-- Seeding reaches a descriptor and the channels' registers alone. -/
theorem State.seedRoutine_only (s : State) (r : Routine) (o : OutputCmd) :
    s.seedRoutine r o = { s with descs := (s.seedRoutine r o).descs, img := (s.seedRoutine r o).img } := by
  unfold State.seedRoutine
  split
  · split <;> rfl
  · rfl

section
variable {s : State} {q : Fin 16} {r : Routine} {o : OutputCmd}

theorem exec_output (h : s.latched q.val = some (r, .output o)) (hfree : s.mustHold q.val (some o.plate) = false) (hlocal : o.result ≠ 5) :
    exec (.output q) s =
      let begun := ((s.issued q.val (some (.output o.plate))).seedRoutine r o).pmu 0x50 (some r.ctx) 1
      .next { begun with outRuns := begun.outRuns ++ [s.runBegun q.val r o] } := by
  show execOutput q s = _
  simp only [execOutput, h, hfree, hlocal, Bool.false_eq_true, if_false, false_and]
  rfl

theorem State.output_effect (s : State) (q : Fin 16) (r : Routine) (o : OutputCmd) :
    let begun := ((s.issued q.val (some (.output o.plate))).seedRoutine r o).pmu 0x50 (some r.ctx) 1
    Issued q (some (.output o.plate)) [] s begun ∧ begun.outRuns = s.outRuns := by
  have hseed := (s.issued q.val (some (.output o.plate))).seedRoutine_only r o
  have hissued := (SeqStep.of_eq (s := s) q [] rfl rfl rfl).issued rfl (some (.output o.plate))
  refine ⟨(hissued.before (.of_eq q [] ?_ ?_ ?_) ?_).signals (State.pmu_signals _ _ _ _ _), ?_⟩
  · rw [hseed]
  · rw [hseed]
  · rw [hseed]
  · rw [hseed]
  · rw [(State.pmu_only _ _ _ _).outRuns, hseed, (s.issued_signals _ _ []).1.outRuns]
    rfl

end

/-! ### FRECV, VECTOR, SYNC and NOP (R348, R353, R433, R462) -/

section
variable {s : State} {q : Fin 16} {r : Routine}

theorem exec_frecv {port reg length : Nat} (h : s.latched q.val = some (r, .frecv port reg length)) (hfree : s.mustHold q.val none = false) :
    exec (.frecv q) s = .next (s.issued q.val
      (some (.frecv port ((s.seq q.val).addr reg) ((s.seq q.val).addr reg + 64 * length) length))) := by
  show execFrecv q s = _
  simp only [execFrecv, h, hfree, Bool.false_eq_true, if_false]

theorem exec_vector {unit reg : Nat} {f : Bool} (h : s.latched q.val = some (r, .vector unit reg f)) (hfree : s.mustHold q.val none = false)
    (hpoison : s.poison = []) :
    let v := s.vectorRun (s.vectorProgram r (s.seq q.val) reg f) r.ctx
    exec (.vector q) s = .next ((v.1.issued q.val (some .vector)).gatherFlags r.desc v.2) := by
  have hclean (ts : List TensorD) : ts.find? s.tensorPoisoned = none :=
    List.find?_eq_none.2 fun t _ => by simp [State.tensorPoisoned, State.poisoned, hpoison]
  show execVector q s = _
  simp only [execVector, h, hfree, hclean, Bool.false_eq_true, if_false]

theorem exec_syncNanoSignal {obj value dst : Nat} (h : s.latched q.val = some (r, .sync 0 obj value false dst))
    (hfree : s.mustHold q.val none = false) : exec (.syncNanoSignal q) s = .next ((s.signal obj value).issued q.val none) := by
  show execSyncNanoSignal q s = _
  simp only [execSyncNanoSignal, h, hfree, Bool.false_eq_true, if_false]

theorem exec_syncNanoTest {obj value dst : Nat} {remote : Bool} (h : s.latched q.val = some (r, .sync 1 obj value remote dst))
    (hfree : s.mustHold q.val none = false) :
    exec (.syncNanoTest q) s =
      .next ((s.setSeq q.val { s.seq q.val with syncFlag := s.waitHolds obj value }).issued q.val none) := by
  show execSyncNanoTest q s = _
  simp only [execSyncNanoTest, h, hfree, Bool.false_eq_true, if_false]

theorem exec_nop (h : s.latched q.val = some (r, .nop)) :
    exec (.nop q) s = .next (s.setSeq q.val { s.seq q.val with issue := none, issueTimed := false, waitTick := none }) := by
  show execNop q s = _
  simp only [execNop, h]

end

theorem syncVal_not_inPmu {obj : Nat} (h : obj < 4096) : ¬ inPmu (R.SYNC_VAL_value obj) := by
  simp only [inPmu, Fld.key, R.SYNC_VAL_value]
  omega

/-- A local SYNC signal adds to its object. -/
theorem State.signal_issued (s : State) (q : Fin 16) (kind : Option OutKind) {obj : Nat} (value : Nat) (hobj : obj < 4096) :
    ((s.signal obj value).issued q.val kind).syncVal obj = (s.syncVal obj + value) % 65536 ∧
      Issued q kind [R.SYNC_VAL_value obj] s ((s.signal obj value).issued q.val kind) := by
  refine ⟨?_, ?_⟩
  · have hget := ((s.signal obj value).issued_signals q.val kind []).2 (R.SYNC_VAL_value obj) (syncVal_not_inPmu hobj) (by simp)
    exact hget.trans (s.get_put_same (R.SYNC_VAL_value obj) _)
  · have hstep : Signals [R.SYNC_VAL_value obj] s (s.signal obj value) :=
      ⟨(s.put_only _ _).signals, s.put_fields _ _ _ (List.mem_singleton_self _)⟩
    exact (hstep.seqStep q).issued rfl kind

/-- A SYNC test sets its sequencer's flag. -/
theorem State.test_issued (s : State) (q : Fin 16) (obj value : Nat) :
    let t := (s.setSeq q.val { s.seq q.val with syncFlag := s.waitHolds obj value }).issued q.val none
    SeqStep q [] s t ∧ t.seq q.val = { s.seq q.val with syncFlag := s.waitHolds obj value }.issued none :=
  ⟨(s.setSeq_step q [] _).trans (State.issued_step _ q none []), by rw [State.issued_seq, State.seq_setSeq_same]⟩

/-- Settles O47: each command by what it leaves of its sequencer (`Issued`) and what it starts outside it. -/
theorem nanoCommands : Obligations.NanoCommands := by
  unfold Obligations.NanoCommands
  intro q r s
  refine ⟨fun e p h hfree hp hserves hfixing hable hpast => ?_, fun plate reg line lines p h hfree hp hpoison hnodup => ?_,
    fun o h hfree hlocal => ?_, fun port reg length dst addr f h hfree hgood hroom hpoison => ?_, fun port reg length => exec_frecv,
    fun unit reg f => exec_vector, fun obj value dst h hfree hobj => ?_, fun obj value rem dst h hfree => ?_, exec_nop⟩
  · obtain ⟨hissued, hbegun, hothers⟩ := s.exposed_effect q r e p.2.2
    exact ⟨_, exec_expose h hfree hp hserves hfixing hable hpast, hissued.outstanding, hissued.issue, hissued.others, hissued.mem,
      hissued.fields, hbegun, hothers⟩
  · obtain ⟨hissued, hothers, hheld⟩ := s.loaded_effect q p.2.2 ((s.seq q.val).addr reg) line lines hnodup
    exact ⟨_, exec_load h hfree hp hpoison, hissued.outstanding, hissued.issue, hissued.others, hissued.mem, hissued.fields, hothers,
      hheld⟩
  · obtain ⟨hissued, hruns⟩ := s.output_effect q r o
    exact ⟨_, exec_output h hfree hlocal, hissued.outstanding, hissued.issue, hissued.others, hissued.mem, hissued.fields, _,
      congrArg (· ++ _) hruns, rfl, rfl, rfl⟩
  · obtain ⟨hissued, hqueue, x, htransfers, hport, hcount⟩ := s.fsent_effect q r port ((s.seq q.val).addr reg) length dst addr
    refine ⟨_, x, exec_fsend h hfree hgood hroom hpoison, htransfers, hport, hcount, hqueue, ?_, hissued.issue, hissued.others,
      hissued.mem, hissued.fields⟩
    rw [hissued.outstanding, List.length_append, List.length_singleton]
  · obtain ⟨hval, hissued⟩ := s.signal_issued q none value hobj
    exact ⟨_, exec_syncNanoSignal h hfree, hval, hissued.fields, hissued.issue, hissued.others, hissued.mem⟩
  · obtain ⟨hstep, hseq⟩ := s.test_issued q obj value
    exact ⟨_, exec_syncNanoTest h hfree, by rw [hseq, SeqSt.issued], hstep.fields, by rw [hseq, SeqSt.issued], hstep.others, hstep.mem⟩

end Sys2Proof.Machine
end

section
/-!
PROOFS. Routines that begin and end: static and dynamic dispatch (R355, R356, R358), commands that have ended (R354), and the end of a span
(R357).
-/

namespace Sys2Proof.Machine

/-! ### A dispatch loads its sequencer (R355) -/

theorem OnlySignals.horizon {s t : State} (h : OnlySignals s t) : t.horizon = s.horizon := by
  rw [h]
  rfl

/-- The registers of a sequencer that a dispatch has loaded. -/
def SeqSt.atEntry (pc a0 : Nat) (r : Routine) : SeqSt :=
  { SeqSt.init with mode := .running, pc := pc, a := (Vector.replicate 4 0).set 0 (a0 % 2 ^ 32), routine := some r }

/-- The state after a dispatch of either kind: the sequencer loaded, its span charged, the dispatch counted. -/
def State.begun (s : State) (q pc a0 : Nat) (r : Routine) (code : Nat) : State :=
  ((s.load q pc a0 r).chargeSpan r).pmu code (some r.ctx) 1

section
variable (s : State) (q : Fin 16) (pc a0 : Nat) (r : Routine) (code : Nat)

theorem State.begun_signals : ∃ u : State, OnlyCharges (s.setSeq q.val (.atEntry pc a0 r)) u ∧
    Signals [] u (s.begun q.val pc a0 r code) :=
  ⟨_, State.addCharge_only _ _ _ _, State.pmu_signals _ _ _ _ _⟩

theorem State.begun_effect : SeqStep q [] s (s.begun q.val pc a0 r code) ∧ (s.begun q.val pc a0 r code).seq q.val = .atEntry pc a0 r ∧
    (s.begun q.val pc a0 r code).tiles = s.tiles ∧ (s.begun q.val pc a0 r code).dispatched = s.dispatched ∧
    (s.begun q.val pc a0 r code).horizon = s.horizon := by
  obtain ⟨u, hcharge, hsignals⟩ := s.begun_signals q pc a0 r code
  have hload : SeqStep q [] s u :=
    (s.setSeq_step q [] (.atEntry pc a0 r)).trans (.of_eq q [] (by rw [hcharge]) (by rw [hcharge]) (by rw [hcharge]))
  refine ⟨hload.trans (hsignals.seqStep q), ?_, ?_, ?_, ?_⟩
  · rw [hsignals.1.seq, hcharge]
    exact s.seq_setSeq_same q.val _
  · rw [hsignals.1.tiles, hcharge]
    rfl
  · rw [hsignals.1.dispatched, hcharge]
    rfl
  · rw [hsignals.1.horizon, hcharge]
    rfl

end

/-! ### Static dispatch (R355, R356) -/

/-- The routine of a static entry dispatched for frame `f`. -/
def State.staticRoutine (s : State) (index slot : Nat) (i : ResImage) (e : SlotEntry) (f : Nat) : Routine :=
  { image := some slot, ctx := i.ctx, dyn := false, index := index, kind := e.kind, resource := e.resource, frame := f,
    startTick := e.startTick, endTick := e.endTick, desc := (s.scheduleOf i f).map (fun d => (d.ctx, d.slot)), record := none }

/-- The state with an entry's dispatch for frame `f` noted (R687). -/
def State.noted (s : State) (q : Nat) (e : Nat × SlotEntry) (f : Nat) : State :=
  { s with dispatched := ⟨q, e.1, e.2, f⟩ :: s.dispatched }

theorem exec_staticDispatch {s : State} {q : Fin 16} {index : BitVec 12} {e : Nat × SlotEntry} {i : ResImage} (hup : s.blockUp 5 = true)
    (he : (s.slotTable q.val)[index.toNat]? = some e) (hi : s.resImage e.1 = some i) (hdue : s.entryDue q.val e = true)
    (hfirst : ∀ x ∈ (s.slotTable q.val).take index.toNat, s.entryDue q.val x = false) (hquiet : s.quiesceDue e.1 = false)
    (hskip : s.skipReason q.val i e.2 = none) :
    let f := (s.horizon + 8) / 2048
    exec (.staticDispatch q index) s =
      .next ((s.noted q.val e f).begun q.val e.2.entry (i.param / 64) (s.staticRoutine index.toNat e.1 i e.2 f) 0x20) := by
  have hearlier : ((s.slotTable q.val).take index.toNat).any (s.entryDue q.val) = false := by simpa using hfirst
  show execStaticDispatch q index s = _
  simp only [execStaticDispatch, he, hi, hup, hdue, hearlier, State.staticDispatch, hquiet, hskip, Bool.not_false, Bool.and_self,
    Bool.false_and, Bool.false_eq_true, if_true, if_false]
  rfl

/-- An entry noted for the frame 8 ticks on has had its turn. -/
theorem State.entryDue_noted {s : State} {q : Nat} {e : Nat × SlotEntry} (h : ⟨q, e.1, e.2, (s.horizon + 8) / 2048⟩ ∈ s.dispatched) :
    s.entryDue q e = false := by
  unfold State.entryDue
  split
  · rfl
  · simp [h]

/-! ### Dynamic dispatch (R358) -/

/-- The routine of a granted claim. -/
def State.claimRoutine (s : State) (d : CmdDesc) (f unit : Nat) (cl : Claim) : Routine :=
  { image := s.claimImage d.desc, ctx := d.ctx, dyn := true, index := 0, kind := cl.kind,
    resource := if cl.kind = 4 then unit else cl.res.num, frame := f, startTick := d.home.getD 0 + cl.off,
    endTick := d.home.getD 0 + cl.off + cl.span, desc := some (d.ctx, d.slot), record := some d.desc }

section
variable {s : State} {c : Fin 64} {d : CmdDesc} {f unit : Nat} {seqs : List Nat} {cl : Claim}

/-- A claim that nothing stops begins on its sequencer, after a step on its descriptor and its plate's channels. -/
theorem exec_dynamicDispatch (hclaim : s.dueClaim c.val = some (d, f, unit, seqs, cl)) (hup : s.blockUp 5 = true) (hdusk : s.pwr.dusk = none)
    (hcoast : s.clk.coasting = false) (hworking : s.working = true) (hbench : s.isBench = false)
    (hquiet : ∀ x, s.plateOf d.desc.plate = some x → s.quiesceDue x.1 = false)
    (hfixing : cl.kind = 1 → s.fix.fixing.getLsbD d.desc.plate = false) (hidle : (s.seq (seqs.headD 0)).mode = .idle) :
    ∃ u : State, u = { s with descs := u.descs, img := u.img } ∧ exec (.dynamicDispatch c) s =
      .next (u.begun (seqs.headD 0) cl.entry cl.a0 (s.claimRoutine d f unit cl) 0x21) := by
  have hmark : (s.plateOf d.desc.plate).any (fun x => s.quiesceDue x.1) = false := by
    cases hplate : s.plateOf d.desc.plate with
    | none => rfl
    | some x => exact hquiet x hplate
  have hready : (cl.kind == 1 && s.fix.fixing.getLsbD d.desc.plate) = false := by
    by_cases hkind : cl.kind = 1
    · rw [hfixing hkind, Bool.and_false]
    · rw [beq_false_of_ne hkind, Bool.false_and]
  let d1 : CmdDesc := { d with phase := .granted f unit seqs.tail, dispatched := d.dispatched + 1, running := d.running + 1 }
  refine ⟨(if d.dispatched = 0 ∧ usesPlate d.desc.opcode ∧ d.desc.roundsStochastic = true then s.seedPlate d.desc.plate else s).setDesc d1,
    by split <;> rfl, ?_⟩
  show execDynamicDispatch c s = _
  simp only [execDynamicDispatch, hclaim, hup, State.dynamicDispatch, hmark, hdusk, hcoast, hworking, hbench, hready, hidle, Bool.and_false,
    Option.isSome_none, Bool.not_true, Bool.or_self, Bool.false_and, Bool.false_eq_true, if_true, if_false, ne_eq, not_true_eq_false]
  rfl

end

end Sys2Proof.Machine
end

section
/-!
PROOFS. Commands that have ended (R354), the end of a span (R357), arming (R360, R361), halting (R371), and the statement on the runs of
sequencers.
-/

namespace Sys2Proof.Machine

/-! ### Commands that have ended, and the span's end (R354, R357) -/

section
variable {s : State} {q : Fin 16}

theorem exec_seqCommandDone {i : Fin 4} {o : OutCmd} (ho : (s.seq q.val).outstanding[i.val]? = some o) (hover : s.commandOver o = true)
    (hkind : ∀ p, o.kind ≠ .expose p) (hchecked : (s.seq q.val).checked = false) (hmode : (s.seq q.val).mode = .running) :
    exec (.seqCommandDone q i) s =
      .next (s.setSeq q.val { s.seq q.val with outstanding := (s.seq q.val).outstanding.eraseIdx i.val }) := by
  have hone : s.commandDone q.val i.val =
      s.setSeq q.val { s.seq q.val with outstanding := (s.seq q.val).outstanding.eraseIdx i.val } := by
    obtain ⟨kind, ended⟩ := o
    cases kind with
    | expose p => exact absurd rfl (hkind p)
    | _ => simp [State.commandDone, ho, hover, hchecked, hmode]
  exact congrArg Host.Outcome.next hone

/-- A span's end, counted and flagged. -/
def State.overrun (s : State) (q : Nat) : State :=
  ((s.count (R.SEQ_CNT1_overruns q) 1).raiseSeq q 2).pmu 0x23 (s.seqCtx q) 1

theorem exec_spanEnd {r : Routine} (hroutine : (s.seq q.val).routine = some r) (hend : r.spanEnd ≤ s.horizon)
    (hchecked : (s.seq q.val).checked = false) (hruns : s.outRuns = []) :
    exec (.spanEnd q) s = .next ((s.overrun q.val).routineCut q.val 5 q.val) := by
  show execSpanEnd q s = _
  simp only [execSpanEnd, hroutine, hend, State.spanCut, hruns, hchecked, List.filter_nil, List.foldl_nil, List.isEmpty_nil,
    Bool.false_eq_true, if_true, if_false]
  rfl

theorem overruns_apart : ∀ q : Fin 16, ¬ inPmu (R.SEQ_CNT1_overruns q.val) ∧
    (R.SEQ_CNT1_overruns q.val).key ≠ (R.SEQ_EVT q.val).key := by
  decide

theorem State.overrun_effect (s : State) (q : Fin 16) :
    (s.overrun q.val).get (R.SEQ_CNT1_overruns q.val) = satAdd 16 (s.get (R.SEQ_CNT1_overruns q.val)) 1 ∧
      BitSet (s.overrun q.val) (R.SEQ_EVT q.val) 2 ∧ Signals [R.SEQ_CNT1_overruns q.val, R.SEQ_EVT q.val] s (s.overrun q.val) := by
  obtain ⟨hpmu, hevt⟩ := overruns_apart q
  refine ⟨?_, ?_, ?_⟩
  · have hraise := (State.raiseSeq_signals (s.count (R.SEQ_CNT1_overruns q.val) 1) q.val 2 (List.mem_singleton_self _)).2 _ hpmu
      (by simpa using hevt)
    rw [State.overrun, State.pmu_get _ _ _ _ hpmu, hraise, State.get_count_same]
    rfl
  · have hset := (s.count (R.SEQ_CNT1_overruns q.val) 1).raiseSeq_bitSet q (b := 2) (by decide)
    rwa [BitSet, State.overrun, State.pmu_get _ _ _ _ (seqEvt_not_inPmu q)]
  · exact (s.count_signals _ 1 (by simp)).trans ((State.raiseSeq_signals _ q.val 2 (by simp)).trans (State.pmu_signals _ _ _ _ _))

end

/-! ### Arming (R360, R361) -/

/-- The fields that an arm or a disarm writes. -/
def armFields : List Fld := [R.SEQ_ARM_CTRL_slot, R.SEQ_ARM_STAT_result]

section
variable {s : State} {slot : Nat}

theorem exec_seqArm {slot : Fin 64} (hup : s.blockUp 5 = true) : exec (.seqArm slot) s = .next (s.armWrite slot.val true false) :=
  congrArg _ (if_pos hup)

theorem exec_seqDisarm {slot : Fin 64} (hup : s.blockUp 5 = true) : exec (.seqDisarm slot) s = .next (s.armWrite slot.val false true) :=
  congrArg _ (if_pos hup)

theorem State.resImage_setResImage (s : State) (slot : Nat) (i : ResImage) : (s.setResImage slot i).resImage slot = some i :=
  SMap.lookup_insert_same _ _ _ (SMap.lookup_erase_same _ _)

theorem State.armResult_lt (s : State) (slot : Nat) : s.armResult slot < 8 := by
  unfold State.armResult
  dsimp only
  split
  · decide
  · split_ifs <;> decide

/-- Only a resident image takes an arm. -/
theorem State.armResult_resident (h : s.armResult slot = 0) : ∃ i, s.resImage slot = some i := by
  cases hi : s.resImage slot with
  | some i => exact ⟨i, rfl⟩
  | none => simp [State.armResult, hi] at h

/-- The state with the slot written and a result recorded. -/
def State.armNoted (s : State) (slot v : Nat) : State := (s.put R.SEQ_ARM_CTRL_slot slot).put R.SEQ_ARM_STAT_result v

theorem State.armNoted_writes (s : State) (slot v : Nat) : Writes armFields s (s.armNoted slot v) :=
  s.puts_writes [(R.SEQ_ARM_CTRL_slot, slot), (R.SEQ_ARM_STAT_result, v)]

theorem State.armNoted_result (s : State) (slot : Nat) {v : Nat} (hv : v < 8) : (s.armNoted slot v).get R.SEQ_ARM_STAT_result = v :=
  (State.get_put_same _ _ _).trans (Nat.mod_eq_of_lt hv)

theorem State.setResImage_fields {l : List Fld} {s t : State} (h : FieldsBut l s t) (slot : Nat) (i : ResImage) :
    FieldsBut l s (t.setResImage slot i) := h.trans fun _ _ => rfl

/-- An arm that is refused records why. -/
theorem State.armWrite_refused (h : (s.put R.SEQ_ARM_CTRL_slot slot).armResult slot ≠ 0) : s.armWrite slot true false =
    s.armNoted slot ((s.put R.SEQ_ARM_CTRL_slot slot).armResult slot) := by
  simp only [State.armWrite, Bool.and_false, Bool.false_eq_true, if_false, if_true, h]
  split <;> rfl

theorem State.armWrite_taken {i : ResImage} (hi : s.resImage slot = some i) (h : (s.put R.SEQ_ARM_CTRL_slot slot).armResult slot = 0) :
    s.armWrite slot true false = (s.armNoted slot 0).setResImage slot { i with
      armed := true, disarming := false, epoch := s.get R.SEQ_ARM_EPOCH_LO + 2 ^ 32 * s.get R.SEQ_ARM_EPOCH_HI,
      param := s.get R.SEQ_ARM_PARAM_LO + 2 ^ 32 * s.get R.SEQ_ARM_PARAM_HI } := by
  have hi' : ((s.put R.SEQ_ARM_CTRL_slot slot).put R.SEQ_ARM_STAT_result 0).resImage slot = some i := hi
  have hget (g : Fld) (hg : ∀ f ∈ armFields, g.key ≠ f.key) :
      ((s.put R.SEQ_ARM_CTRL_slot slot).put R.SEQ_ARM_STAT_result 0).get g = s.get g := (s.armNoted_writes slot 0).2 g hg
  simp only [State.armWrite, Bool.and_false, Bool.false_eq_true, if_false, if_true, h, hi', hget R.SEQ_ARM_EPOCH_LO (by decide),
    hget R.SEQ_ARM_EPOCH_HI (by decide), hget R.SEQ_ARM_PARAM_LO (by decide), hget R.SEQ_ARM_PARAM_HI (by decide),
    State.armNoted]

theorem State.disarmWrite_taken {i : ResImage} (hi : s.resImage slot = some i) (hleaving : i.leaving = false) (hparked : i.parked = false)
    (harmed : i.armed = true) : s.armWrite slot false true =
      (s.armNoted slot 0).setResImage slot { i with disarming := true } := by
  have hi' : (s.put R.SEQ_ARM_CTRL_slot slot).resImage slot = some i := hi
  simp [State.armWrite, hi', hleaving, hparked, harmed, State.armNoted]

end

/-! ### Halting (R371) -/

theorem exec_seqHalt {s : State} {q : Fin 16} (hup : s.blockUp 5 = true) :
    exec (.seqHalt q) s = .next (s.seqCtrl q.val true false false) := congrArg _ (if_pos hup)

theorem exec_seqRun {s : State} {q : Fin 16} (hup : s.blockUp 5 = true) :
    exec (.seqRun q) s = .next (s.seqCtrl q.val false true false) := congrArg _ (if_pos hup)

/-- An armed image has an entry on the sequencer. -/
def State.entryArmed (s : State) (q : Nat) : Bool := s.img.resident.any (fun i => i.2.isArmed && !(i.2.image.entriesOn q).isEmpty)

theorem State.running_notDawn {s : State} (h : s.running = true) : s.pwr.state ≠ .dawn := fun hd => by simp [State.running, hd] at h

section
variable {s : State} {q : Nat}

theorem State.seqCtrl_halts (hrunning : s.running = true) (hidle : (s.seq q).mode = .idle) (hfree : s.entryArmed q = false) :
    s.seqCtrl q true false false = s.setSeq q { s.seq q with mode := .halted } := by
  have hdawn : (s.setSeq q { s.seq q with mode := .halted }).pwr.state ≠ .dawn := State.running_notDawn hrunning
  have hbusy : s.img.resident.any (fun i => i.2.isArmed && !(i.2.image.entriesOn q).isEmpty) = false := hfree
  simp only [State.seqCtrl, Bool.and_false, Bool.false_eq_true, if_false, if_true, hidle, hbusy, and_self, State.gateDawn_later hdawn]

theorem State.seqCtrl_refuses (h : (s.seq q).mode ≠ .idle ∨ s.entryArmed q = true) :
    s.seqCtrl q true false false = s.put (R.SEQ_STAT_halt_refused q) 1 := by
  have hnot : ¬ ((s.seq q).mode = .idle ∧ s.img.resident.any (fun i => i.2.isArmed && !(i.2.image.entriesOn q).isEmpty) = false) :=
    fun hand => h.elim (· hand.1) fun harmed => absurd (harmed.symm.trans hand.2) (by decide)
  simp only [State.seqCtrl, Bool.and_false, Bool.false_eq_true, if_false, if_true, if_neg hnot]

theorem State.seqCtrl_runs (hrunning : s.running = true) (hstage : s.pwr.stage2.isSome = true) (hhalted : (s.seq q).mode = .halted) :
    s.seqCtrl q false true false = s.setSeq q { s.seq q with mode := .idle } := by
  have hreleased : s.seqsReleased = true := by simp [State.seqsReleased, hstage, State.running_notDawn hrunning]
  simp only [State.seqCtrl, Bool.false_and, Bool.false_eq_true, if_false, if_true, hhalted, hreleased, and_self]

/-- Where dawn step 10 was skipped no sequencer runs. -/
theorem State.seqCtrl_unreleased (hstage : s.pwr.stage2 = none) : s.seqCtrl q false true false = s := by
  have hreleased : s.seqsReleased = false := by simp [State.seqsReleased, hstage]
  simp only [State.seqCtrl, Bool.false_and, Bool.false_eq_true, if_false, if_true, hreleased, and_false]

end

/-- Settles O48: dispatches end in `State.begun`, a span's end in a cut, an arm or disarm in its image, and halts in `State.seqCtrl`. -/
theorem sequencerRuns : Obligations.SequencerRuns := by
  unfold Obligations.SequencerRuns
  refine ⟨fun q index e i s hup he hi hdue hfirst hquiet hskip => ?_,
    fun c d f unit seqs cl s hclaim hup hdusk hcoast hworking hbench hquiet hfixing hq hidle => ?_,
    fun q i o s => exec_seqCommandDone, fun q r s hroutine hend hchecked hruns => ?_, fun slot s hup => ⟨fun hresult => ?_, fun hresult => ?_,
      fun i hi hleaving hparked harmed => ?_⟩, fun q s hup hrunning => ⟨fun hidle hfree => ?_, fun hbusy => ?_, fun hstage => ?_,
      fun hstage hhalted => ?_⟩⟩
  · have hexec := exec_staticDispatch hup he hi hdue hfirst hquiet hskip
    let r := s.staticRoutine index.toNat e.1 i e.2 ((s.horizon + 8) / 2048)
    obtain ⟨hstep, hseq, htiles, hdispatched, hhorizon⟩ :=
      (s.noted q.val e ((s.horizon + 8) / 2048)).begun_effect q e.2.entry (i.param / 64) r 0x20
    refine ⟨_, r, hexec, ?_, ?_, ?_, ?_, rfl, rfl, rfl, rfl, rfl, ?_, hstep.others, hstep.mem, hstep.fields, htiles⟩
    iterate 4 rw [hseq]; rfl
    refine State.entryDue_noted ?_
    rw [hhorizon, hdispatched]
    exact List.mem_cons_self ..
  · obtain ⟨u, hu, hexec⟩ := exec_dynamicDispatch hclaim hup hdusk hcoast hworking hbench hquiet hfixing hidle
    obtain ⟨hstep, hseq, htiles, -⟩ := u.begun_effect ⟨seqs.headD 0, hq⟩ cl.entry cl.a0 (s.claimRoutine d f unit cl) 0x21
    have hall : SeqStep ⟨seqs.headD 0, hq⟩ [] s u := .of_eq _ [] (by rw [hu]) (by rw [hu]) (by rw [hu])
    have htaken := hall.trans hstep
    exact ⟨_, s.claimRoutine d f unit cl, hexec, congrArg SeqSt.mode hseq, congrArg SeqSt.pc hseq, congrArg SeqSt.routine hseq, rfl, rfl, rfl,
      fun k hk => htaken.others k fun h => hk (congrArg Fin.val h), htaken.mem, htaken.fields, htiles.trans (by rw [hu])⟩
  · exact ⟨s.overrun q.val, exec_spanEnd hroutine hend hchecked hruns, s.overrun_effect q⟩
  · exact ⟨_, (exec_seqArm hup).trans (congrArg _ (State.armWrite_refused hresult)), s.armNoted_result _ (State.armResult_lt _ _),
      s.armNoted_writes slot.val _⟩
  · obtain ⟨i, hi⟩ := State.armResult_resident hresult
    exact ⟨_, _, (exec_seqArm hup).trans (congrArg _ (State.armWrite_taken (s := s) hi hresult)),
      State.armNoted_result s slot.val (v := 0) (by decide), State.resImage_setResImage _ _ _, rfl, rfl, rfl,
      State.setResImage_fields (s.armNoted_writes slot.val 0).2 _ _⟩
  · exact ⟨_, (exec_seqDisarm hup).trans (congrArg _ (State.disarmWrite_taken hi hleaving hparked harmed)),
      State.armNoted_result s slot.val (v := 0) (by decide), State.resImage_setResImage _ _ _,
      State.setResImage_fields (s.armNoted_writes slot.val 0).2 _ _⟩
  · exact (exec_seqHalt hup).trans (congrArg _ (State.seqCtrl_halts hrunning hidle hfree))
  · exact sets_of_put ((exec_seqHalt hup).trans (congrArg _ (State.seqCtrl_refuses hbusy))) (Nat.one_lt_two_pow Nat.one_ne_zero)
  · exact (exec_seqRun hup).trans (congrArg _ (State.seqCtrl_unreleased hstage))
  · exact (exec_seqRun hup).trans (congrArg _ (State.seqCtrl_runs hrunning hstage hhalted))

end Sys2Proof.Machine
end

section
/-!
PROOFS. Accepting descriptors (R378, R386, R389, R390, R397): what the next submitted descriptor of a ring becomes, and the rows that name
its opcode.
-/

namespace Sys2Proof.Machine

/-! ### A ring behind its registers -/

theorem OnlySignals.rings {s t : State} (h : OnlySignals s t) : t.rings = s.rings := by rw [h]
theorem OnlySignals.descs {s t : State} (h : OnlySignals s t) : t.descs = s.descs := by rw [h]

@[simp] theorem State.ring_setRing (s : State) (c : Nat) (r : RingSt) : (s.setRing c r).ring c = r := SMap.get_set_same _ _ _ _

@[simp] theorem State.get_setRing (s : State) (c : Nat) (r : RingSt) (f : Fld) : (s.setRing c r).get f = s.get f := rfl

theorem State.ring_congr {s t : State} (h : t.rings = s.rings) (c : Nat) : t.ring c = s.ring c := by rw [State.ring, h, State.ring]

/-- A field of the ring registers of a context. -/
abbrev inRing (c : Nat) (g : Fld) : Prop := 32 * (0x180000 + 0x400 * c) ≤ g.key ∧ g.key < 32 * (0x180400 + 0x400 * c)

theorem not_inPmu_of_inRing {c : Nat} (hc : c < 64) {g : Fld} (h : inRing c g) : ¬ inPmu g := by omega

/-- The ring registers that the command processor reads or writes by itself. -/
def ringRegs (c : Nat) : List Fld :=
  [R.CMD_SQ_BASE_LO c, R.CMD_SQ_BASE_HI c, R.CMD_CQ_BASE_LO c, R.CMD_CQ_BASE_HI c, R.CMD_RING_CFG_sq_log2 c, R.CMD_RING_CFG_cq_log2 c,
    R.CMD_RING_CFG_vector c, R.CMD_RING_CTRL_en c, R.CMD_SQ_PTR_head c, R.CMD_SQ_PTR_tail c, R.CMD_CQ_PTR_head c, R.CMD_CQ_PTR_tail c,
    R.CMD_CQ_PTR_phase c, R.CMD_RING_EVT c, R.CMD_RING_CNT_accepted c, R.CMD_RING_CNT_faulted_at_accept c]

theorem inRing_ringRegs {c : Nat} : ∀ f ∈ ringRegs c, inRing c f := by
  simp only [ringRegs, List.forall_mem_cons, List.not_mem_nil, false_imp_iff, implies_true, and_true, inRing, Fld.key, R.CMD_SQ_BASE_LO,
    R.CMD_SQ_BASE_HI, R.CMD_CQ_BASE_LO, R.CMD_CQ_BASE_HI, R.CMD_RING_CFG_sq_log2, R.CMD_RING_CFG_cq_log2, R.CMD_RING_CFG_vector,
    R.CMD_RING_CTRL_en, R.CMD_SQ_PTR_head, R.CMD_SQ_PTR_tail, R.CMD_CQ_PTR_head, R.CMD_CQ_PTR_tail, R.CMD_CQ_PTR_phase, R.CMD_RING_EVT,
    R.CMD_RING_CNT_accepted, R.CMD_RING_CNT_faulted_at_accept]
  omega

theorem ringRegs_not_inPmu {c : Nat} (hc : c < 64) : ∀ f ∈ ringRegs c, ¬ inPmu f :=
  fun f hf => not_inPmu_of_inRing hc (inRing_ringRegs f hf)

theorem accepted_not_inPmu {c : Nat} (hc : c < 64) : ¬ inPmu (R.CMD_RING_CNT_accepted c) := ringRegs_not_inPmu hc _ (by simp [ringRegs])

theorem faulted_not_inPmu {c : Nat} (hc : c < 64) : ¬ inPmu (R.CMD_RING_CNT_faulted_at_accept c) :=
  ringRegs_not_inPmu hc _ (by simp [ringRegs])

/-! ### The next descriptor of a ring -/

section
variable (s : State) (c : Nat)

/-- What acceptance answers for the descriptor in a submission slot (R378). -/
def State.slotBreach (n : Nat) : Option (Nat × Nat) :=
  (s.slotDesc c n).accept (s.readMem (cmdBase + s.sqBase c + 256 * n) 256) (s.acceptEnv c (s.slotDesc c n))

/-- The command processor's copy of a descriptor in a submission slot. -/
def State.slotCopy (n : Nat) (arrival : Nat × Nat) : CmdDesc where
  ctx := c
  slot := n
  addr := cmdBase + s.sqBase c + 256 * n
  desc := s.slotDesc c n
  arrival := arrival
  accepted := (s.frame, s.tick)
  home := none
  defers := 0
  considered := false
  phase := .waiting
  granted := 0
  firstPass := false
  dispatched := 0
  running := 0
  flags := 0
  failed := none
  seeded := []
  signalled := false

/-- The descriptor submitted next. -/
abbrev State.nextSlot : Desc := s.slotDesc c (s.ring c).nextAccept

/-- The command processor's copy of it. -/
abbrev State.nextDesc : CmdDesc := s.slotCopy c (s.ring c).nextAccept (s.ring c).arrival

/-- The copy as it joins the list: a SCHEDULE has the first frame it owns (R389). -/
def State.nextListed : CmdDesc :=
  if (s.nextDesc c).desc.opcode = 4 then { s.nextDesc c with granted := (s.nextDesc c).owned.1 } else s.nextDesc c

/-- The ring has moved on by one slot, which is counted. -/
def State.slotTaken : State :=
  let g := s.ring c
  ((s.setRing c { g with nextAccept := (g.nextAccept + 1) % s.sqSize c }).count (R.CMD_RING_CNT_accepted c) 1).pmu 0x10 (some c) 1

/-- The descriptor taken is counted as one that failed acceptance. -/
def State.slotFaulted : State := ((s.slotTaken c).count (R.CMD_RING_CNT_faulted_at_accept c) 1).pmu 0x11 (some c) 1

/-- The descriptor taken is in the command processor's list. -/
def State.slotListed : State := { s.slotTaken c with descs := s.descs ++ [s.nextListed c] }

/-- The ring has a submitted descriptor, which the row names. -/
def State.NextIs (row : Nat → Bool) : Prop :=
  s.blockUp 7 = true ∧ s.ringOn c = true ∧ (s.ring c).nextAccept ≠ s.get (R.CMD_SQ_PTR_tail c) ∧ row (s.nextSlot c).opcode = true

/-- What every descriptor accepted starts with. -/
def State.Fresh (y : CmdDesc) : Prop :=
  y.ctx = c ∧ y.slot = (s.ring c).nextAccept ∧ y.desc = s.nextSlot c ∧ y.phase = .waiting ∧ y.arrival = (s.ring c).arrival ∧
    y.accepted = (s.frame, s.tick) ∧ y.home = none ∧ y.defers = 0 ∧ y.considered = false ∧ y.failed = none ∧ y.signalled = false

/-- One slot has been taken and counted, and else only the listed fields, the list and what event counts change may differ. -/
def State.Taken (l : List Fld) (t : State) : Prop :=
  t.ring c = { s.ring c with nextAccept := ((s.ring c).nextAccept + 1) % s.sqSize c } ∧
    t.get (R.CMD_RING_CNT_accepted c) = satAdd 16 (s.get (R.CMD_RING_CNT_accepted c)) 1 ∧ SameMem s t ∧
    Signals (R.CMD_RING_CNT_accepted c :: l) { s with descs := t.descs, rings := t.rings } t

end

section
variable {s : State} {c : Nat} {row : Nat → Bool}

theorem State.nextDesc_fresh : s.Fresh c (s.nextDesc c) := ⟨rfl, rfl, rfl, rfl, rfl, rfl, rfl, rfl, rfl, rfl, rfl⟩

theorem State.Fresh.withGranted {y : CmdDesc} (h : s.Fresh c y) (f : Nat) : s.Fresh c { y with granted := f } := h

theorem State.nextListed_fresh : s.Fresh c (s.nextListed c) := by
  by_cases h : (s.nextDesc c).desc.opcode = 4
  · rw [State.nextListed, if_pos h]
    exact State.nextDesc_fresh.withGranted _
  · rw [State.nextListed, if_neg h]
    exact State.nextDesc_fresh

theorem State.nextListed_plain (h : (s.nextSlot c).opcode = 0x20) : s.nextListed c = s.nextDesc c :=
  if_neg fun h4 => absurd (h.symm.trans h4) (by decide)

/-- The list of descriptors may be replaced in a state in which a slot has been taken. -/
theorem State.Taken.withDescs {l : List Fld} {t : State} (h : s.Taken c l t) (ds : List CmdDesc) : s.Taken c l { t with descs := ds } := by
  obtain ⟨hring, hcount, hmem, honly, hfields⟩ := h
  refine ⟨hring, hcount, hmem, ?_, hfields⟩
  rw [OnlySignals] at honly ⊢
  conv_lhs => rw [honly]

theorem State.slotTaken_signals (s : State) (c : Nat) : Signals [R.CMD_RING_CNT_accepted c]
    (s.setRing c { s.ring c with nextAccept := ((s.ring c).nextAccept + 1) % s.sqSize c }) (s.slotTaken c) :=
  (State.count_signals _ _ 1 (List.mem_singleton_self _)).trans (State.pmu_signals _ _ _ _ _)

theorem State.slotTaken_taken (hc : c < 64) : s.Taken c [] (s.slotTaken c) := by
  have hsignals := s.slotTaken_signals c
  refine ⟨(State.ring_congr hsignals.1.rings c).trans (s.ring_setRing c _), ?_, fun a => congrArg (Memory.get · a) hsignals.1.mem, ?_⟩
  · rw [State.slotTaken, State.pmu_get _ _ _ _ (accepted_not_inPmu hc), State.get_count_same]
    rfl
  · rw [hsignals.1.descs, hsignals.1.rings]
    exact hsignals

theorem State.slotListed_taken (hc : c < 64) : s.Taken c [] (s.slotListed c) := (State.slotTaken_taken hc).withDescs _

theorem State.slotFaulted_signals (s : State) (c : Nat) : Signals [R.CMD_RING_CNT_faulted_at_accept c] (s.slotTaken c) (s.slotFaulted c) :=
  (State.count_signals _ _ 1 (List.mem_singleton_self _)).trans (State.pmu_signals _ _ _ _ _)

theorem State.slotFaulted_descs : (s.slotFaulted c).descs = s.descs :=
  (s.slotFaulted_signals c).1.descs.trans (s.slotTaken_signals c).1.descs

theorem accepted_key_ne_faulted (c : Nat) : (R.CMD_RING_CNT_accepted c).key ≠ (R.CMD_RING_CNT_faulted_at_accept c).key := by
  simp only [Fld.key, R.CMD_RING_CNT_accepted, R.CMD_RING_CNT_faulted_at_accept]
  omega

theorem Signals.mono {l m : List Fld} {s t : State} (hlm : ∀ f ∈ l, f ∈ m) (h : Signals l s t) : Signals m s t :=
  ⟨h.1, fun g hp hg => h.2 g hp fun f hf => hg f (hlm f hf)⟩

theorem State.slotFaulted_taken (hc : c < 64) : s.Taken c [R.CMD_RING_CNT_faulted_at_accept c] (s.slotFaulted c) := by
  obtain ⟨hring, hcount, hmem, htaken⟩ := State.slotTaken_taken (s := s) hc
  have hsignals := s.slotFaulted_signals c
  refine ⟨(State.ring_congr hsignals.1.rings c).trans hring, ?_, fun a => (congrArg (Memory.get · a) hsignals.1.mem).trans (hmem a), ?_⟩
  · refine (hsignals.2 _ (accepted_not_inPmu hc) ?_).trans hcount
    simpa using accepted_key_ne_faulted c
  · rw [hsignals.1.descs, hsignals.1.rings]
    exact (htaken.mono (by simp)).trans (hsignals.mono (by simp))

theorem State.slotFaulted_counted (hc : c < 64) : (s.slotFaulted c).get (R.CMD_RING_CNT_faulted_at_accept c) =
    satAdd 16 (s.get (R.CMD_RING_CNT_faulted_at_accept c)) 1 := by
  have hp := faulted_not_inPmu hc
  have hbefore := (s.slotTaken_signals c).2 _ hp (by simpa using (accepted_key_ne_faulted c).symm)
  rw [State.slotFaulted, State.pmu_get _ _ _ _ hp, State.get_count_same, hbefore]
  rfl

/-! ### What acceptance does with it -/

theorem State.acceptNext_closed (h : s.blockUp 7 = false ∨ s.ringOn c = false ∨ (s.ring c).nextAccept = s.get (R.CMD_SQ_PTR_tail c) ∨
    row (s.nextSlot c).opcode = false) : s.acceptNext c row = s := if_pos h

theorem State.acceptNext_open (h : s.NextIs c row) : s.acceptNext c row =
    (s.setRing c { s.ring c with nextAccept := ((s.ring c).nextAccept + 1) % s.sqSize c }).acceptSlot c (s.ring c).nextAccept
      (s.ring c).arrival := by
  obtain ⟨hup, hon, hmore, hrow⟩ := h
  exact if_neg (by simp [hup, hon, hmore, hrow])

theorem State.acceptSlot_faults {n : Nat} {f : Nat × Nat} (hf : s.slotBreach c n = some f) (arrival : Nat × Nat) :
    s.acceptSlot c n arrival = ((((s.count (R.CMD_RING_CNT_accepted c) 1).pmu 0x10 (some c) 1).count (R.CMD_RING_CNT_faulted_at_accept c)
      1).pmu 0x11 (some c) 1).finish (s.slotCopy c n arrival) (.faulted f.1 f.2) := by
  unfold State.acceptSlot
  extract_lets addr d x s1
  rw [show d.accept _ _ = some f from hf]
  rfl

/-- One that fails completes FAULTED (R397). -/
theorem State.acceptNext_faults (h : s.NextIs c row) {code detail : Nat}
    (hf : s.slotBreach c (s.ring c).nextAccept = some (code, detail)) :
    s.acceptNext c row = (s.slotFaulted c).finish (s.nextDesc c) (.faulted code detail) := by
  rw [State.acceptNext_open h]
  exact State.acceptSlot_faults (s := s.setRing c _) hf _

theorem State.acceptSlot_passes {n : Nat} (hpass : s.slotBreach c n = none) (arrival : Nat × Nat) :
    s.acceptSlot c n arrival =
      let s1 := (s.count (R.CMD_RING_CNT_accepted c) 1).pmu 0x10 (some c) 1
      let x := s.slotCopy c n arrival
      let y := if x.desc.opcode = 4 then { x with granted := x.owned.1 } else x
      let s2 := { s1 with descs := s1.descs ++ [y] }
      if x.desc.opcode = 0x20 then s2.syncServe y else s2 := by
  unfold State.acceptSlot
  extract_lets addr d x s1
  rw [show d.accept _ _ = none from hpass]
  rfl

/-- One that passes joins the list, where a SYNC is looked at once. -/
theorem State.acceptNext_passes (h : s.NextIs c row) (hpass : s.slotBreach c (s.ring c).nextAccept = none) : s.acceptNext c row =
    if (s.nextDesc c).desc.opcode = 0x20 then (s.slotListed c).syncServe (s.nextListed c) else s.slotListed c := by
  have hdescs : (s.slotTaken c).descs = s.descs := (s.slotTaken_signals c).1.descs
  rw [State.acceptNext_open h, State.slotListed, ← hdescs]
  exact State.acceptSlot_passes (s := s.setRing c _) hpass _

theorem State.acceptNext_joins (h : s.NextIs c row) (hpass : s.slotBreach c (s.ring c).nextAccept = none)
    (hsync : (s.nextSlot c).opcode ≠ 0x20) :
    s.acceptNext c row = s.slotListed c := (State.acceptNext_passes h hpass).trans (if_neg hsync)

/-- Objects read as before where a slot has been taken. -/
theorem State.Taken.waitHolds {t : State} (h : s.Taken c [] t) (hc : c < 64) {o : Nat} (ho : o < 65536) (w : Nat) :
    t.waitHolds o w = s.waitHolds o w := by
  obtain ⟨-, -, -, -, hfields⟩ := h
  have hval : t.syncVal o = s.syncVal o := by
    refine hfields (R.SYNC_VAL_value o) ?_ ?_
    · simp only [inPmu, Fld.key, R.SYNC_VAL_value]
      omega
    · have hkey : (R.SYNC_VAL_value o).key ≠ (R.CMD_RING_CNT_accepted c).key := by
        simp only [Fld.key, R.SYNC_VAL_value, R.CMD_RING_CNT_accepted]
        omega
      simpa using hkey
  rw [State.waitHolds, hval, State.waitHolds]

theorem State.Taken.only {l : List Fld} {t : State} (h : s.Taken c l t) :
    OnlySignals { s with descs := t.descs, rings := t.rings } t := by
  obtain ⟨-, -, -, honly, -⟩ := h
  exact honly

theorem State.slotDesc_waitObj_lt (s : State) (c n : Nat) : (s.slotDesc c n).waitObj < 65536 := leAt_lt _ _ 2

/-! ### SYNC (R390) -/

theorem State.syncServe_waits {d : CmdDesc} (hwaits : d.desc.waits = true) (hno : s.waitHolds d.desc.waitObj d.desc.waitValue = false) :
    s.syncServe d = s := if_neg (by simp [hwaits, hno])

theorem State.syncServe_holds {d : CmdDesc} (h : d.desc.waits = false ∨ s.waitHolds d.desc.waitObj d.desc.waitValue = true) :
    s.syncServe d = s.settle { d with granted := s.frame } :=
  if_pos (by rcases h with h | h <;> simp [h])

/-- Work that has ended, with no transfer open and no remote signal to send, completes its descriptor. -/
theorem State.settle_finishes {d : CmdDesc} (htransfers : s.descTransfers d.ctx d.slot = false) (hfailed : d.failed = none)
    (hsignal : d.desc.signals = false ∨ d.desc.signalsRemote = false) : s.settle d = s.finish d d.success := by
  rw [State.settle, htransfers, if_neg Bool.false_ne_true, hfailed]
  exact if_neg (by rcases hsignal with h | h <;> simp [h])

theorem CmdDesc.success_sync {d : CmdDesc} (h : d.desc.opcode = 0x20) : d.success = .served := if_pos (.inl h)

theorem State.syncServe_served {d : CmdDesc} (hsync : d.desc.opcode = 0x20)
    (hholds : d.desc.waits = false ∨ s.waitHolds d.desc.waitObj d.desc.waitValue = true)
    (htransfers : s.descTransfers d.ctx d.slot = false) (hfailed : d.failed = none)
    (hsignal : d.desc.signals = false ∨ d.desc.signalsRemote = false) :
    s.syncServe d = s.finish { d with granted := s.frame } .served := by
  rw [State.syncServe_holds hholds, ← CmdDesc.success_sync (d := { d with granted := s.frame }) hsync]
  exact State.settle_finishes htransfers hfailed hsignal

theorem State.syncReady_holds {y : CmdDesc} (h : s.syncReady c = some y) :
    y.desc.opcode = 0x20 ∧ (y.desc.waits = false ∨ s.waitHolds y.desc.waitObj y.desc.waitValue = true) := by
  have hy := List.find?_some h
  simp only [Bool.and_eq_true, Bool.or_eq_true, Bool.not_eq_true', beq_iff_eq] at hy
  obtain ⟨⟨⟨-, hsync⟩, -⟩, hholds⟩ := hy
  exact ⟨hsync, hholds⟩

theorem exec_descSync_next {ctx : Fin 64} (h : s.syncReady ctx.val = none) :
    exec (.descSync ctx) s = .next (s.acceptNext ctx.val (· == 0x20)) := by
  show execDescSync ctx s = _
  rw [execDescSync, h]

theorem exec_descSync_ready {ctx : Fin 64} {y : CmdDesc} (h : s.syncReady ctx.val = some y) (hup : s.blockUp 7 = true) :
    exec (.descSync ctx) s = .next (s.syncServe y) := by
  show execDescSync ctx s = _
  rw [execDescSync, h]
  exact congrArg _ (if_pos hup)

/-- A SYNC that must wait only joins the list. -/
theorem State.acceptNext_sync_waits (hc : c < 64) (h : s.NextIs c row) (hpass : s.slotBreach c (s.ring c).nextAccept = none)
    (hsync : (s.nextSlot c).opcode = 0x20) (hwaits : (s.nextSlot c).waits = true)
    (hno : s.waitHolds (s.nextSlot c).waitObj (s.nextSlot c).waitValue = false) : s.acceptNext c row = s.slotListed c := by
  rw [State.acceptNext_passes h hpass, State.nextListed_plain hsync]
  refine (if_pos hsync).trans (State.syncServe_waits hwaits ?_)
  exact ((State.slotListed_taken hc).waitHolds hc (s.slotDesc_waitObj_lt c _) _).trans hno

/-- A SYNC that waits for nothing is served at once. -/
theorem State.acceptNext_sync_served (hc : c < 64) (h : s.NextIs c row) (hpass : s.slotBreach c (s.ring c).nextAccept = none)
    (hsync : (s.nextSlot c).opcode = 0x20)
    (hholds : (s.nextSlot c).waits = false ∨ s.waitHolds (s.nextSlot c).waitObj (s.nextSlot c).waitValue = true)
    (hremote : (s.nextSlot c).signalsRemote = false) (htransfers : s.descTransfers c (s.ring c).nextAccept = false) :
    s.acceptNext c row = (s.slotListed c).finish { s.nextDesc c with granted := s.frame } .served := by
  have htaken := State.slotListed_taken (s := s) hc
  have hframe : (s.slotListed c).frame = s.frame := congrArg HznSt.frame htaken.only.hzn
  rw [State.acceptNext_passes h hpass, State.nextListed_plain hsync, ← hframe]
  refine (if_pos hsync).trans (State.syncServe_served hsync (hholds.imp_right fun hval => ?_) ?_ rfl (.inr hremote))
  · exact (htaken.waitHolds hc (s.slotDesc_waitObj_lt c _) _).trans hval
  · rw [State.descTransfers, htaken.only.fab]
    exact htransfers

/-! ### Reserved opcodes (R386) -/

theorem firstFail_none {l : List (Nat × Bool)} (h : ∀ x ∈ l, x.2 = true) : firstFail l = none := by
  induction l with
  | nil => rfl
  | cons x l ih =>
    obtain ⟨hx, hl⟩ := List.forall_mem_cons.1 h
    exact (if_pos hx).trans (ih hl)

theorem Desc.formatBreach_reserved {d : Desc} (h : knownOpcode d.opcode = false) (e : AcceptEnv) : d.formatBreach e = none := by
  simp only [knownOpcode, List.contains_eq_mem, List.mem_cons, List.not_mem_nil, or_false, decide_eq_false_iff_not, not_or] at h
  obtain ⟨h1, h2, h3, -, h8, h10, h11, h12, h13, h14, h15, h16, -⟩ := h
  have hvector : ¬(0x11 ≤ d.opcode ∧ d.opcode ≤ 0x15) := by omega
  simp only [Desc.formatBreach, if_neg h1, if_neg h2, if_neg h3, if_neg h8, if_neg h10, if_neg hvector, if_neg h16]

/-- A descriptor of no operator whose tensors pass is FAULTED 0x0D with its opcode. -/
theorem Desc.accept_reserved {d : Desc} (h : knownOpcode d.opcode = false) (hok : ∀ i, i < 4 → (d.tensor i).ok = true) (b : List Byte)
    (e : AcceptEnv) : d.accept b e = some (0x0D, d.opcode) := by
  have hplate : usesPlate d.opcode = false := by
    simp only [knownOpcode, List.contains_eq_mem, List.mem_cons, List.not_mem_nil, or_false, decide_eq_false_iff_not, not_or] at h
    simp only [usesPlate, Bool.or_eq_false_iff, decide_eq_false_iff_not, beq_eq_false_iff_ne]
    omega
  have hschedule : (d.opcode == 4) = false := by
    rw [beq_eq_false_iff_ne]
    rintro h4
    rw [h4] at h
    exact absurd h (by decide)
  have htensors : firstFail ((List.range 4).map fun i => (i, (d.tensor i).ok)) = none :=
    firstFail_none (by simpa using hok)
  simp [Desc.accept, hplate, hschedule, htensors, Desc.formatBreach_reserved h, h]

/-! ### The statement -/

/-- The rows that take a descriptor of one operator, SYNC apart, with its opcode (R386). -/
def operatorRows (c : Fin 64) : List (Instr × Nat) :=
  [(.descExpose c, 1), (.descOutput c, 2), (.matvec c, 3), (.schedule c, 4), (.send c, 8), (.copy c, 0x10), (.convert c, 0x11),
    (.eltwise c, 0x12), (.activate c, 0x13), (.softmax c, 0x14), (.norm c, 0x15), (.digitalMatvec c, 0x16), (.routine c, 0x7F)]

theorem exec_operatorRow (ctx : Fin 64) (s : State) :
    ∀ x ∈ operatorRows ctx, x.2 ≠ 0x20 ∧ exec x.1 s = .next (s.acceptNext ctx.val (· == x.2)) := by
  intro x hx
  fin_cases hx <;> exact ⟨Nat.ne_of_beq_eq_false rfl, rfl⟩

end

/-- Settles O50: a descriptor taken from its ring is counted, and joins the list, completes FAULTED or, as a SYNC, is served. -/
theorem descriptorsAccepted : Obligations.DescriptorsAccepted := by
  unfold Obligations.DescriptorsAccepted
  intro c s n d env copied rows fresh taken joins faults
  have joins_of : ∀ {cmd}, exec cmd s = .next (s.slotListed c.val) → joins cmd := fun h =>
    ⟨_, _, h, rfl, State.nextListed_fresh, State.slotListed_taken c.isLt⟩
  have faults_of : ∀ {cmd row code detail}, s.NextIs c.val row → s.slotBreach c.val n = some (code, detail) →
      exec cmd s = .next (s.acceptNext c.val row) → faults cmd code detail := fun hnext hfails h =>
    ⟨s.slotFaulted c.val, s.nextDesc c.val, by rw [h, State.acceptNext_faults hnext hfails], State.nextDesc_fresh, State.slotFaulted_descs,
      State.slotFaulted_taken c.isLt, State.slotFaulted_counted c.isLt⟩
  refine ⟨fun x hx hclosed => ?_, fun hup hon hmore => ⟨fun x hx hop => ?_, fun hunknown hok => ?_, fun hop hready => ?_⟩, ?_⟩
  · rw [(exec_operatorRow c s x hx).2, State.acceptNext_closed]
    simpa using hclosed
  · obtain ⟨hsync, hexec⟩ := exec_operatorRow c s x hx
    have hnext : s.NextIs c.val (· == x.2) := ⟨hup, hon, hmore, beq_iff_eq.2 hop⟩
    refine ⟨fun hpass => joins_of (hexec.trans (congrArg _ (State.acceptNext_joins hnext hpass ?_))), fun code detail hfails =>
      faults_of hnext hfails hexec⟩
    exact fun h => hsync (hop.symm.trans h)
  · have hnext : s.NextIs c.val (fun o => !knownOpcode o) := ⟨hup, hon, hmore, congrArg not hunknown⟩
    exact faults_of hnext (Desc.accept_reserved hunknown hok _ _) rfl
  · have hnext : s.NextIs c.val (· == 0x20) := ⟨hup, hon, hmore, beq_iff_eq.2 hop⟩
    have hexec := exec_descSync_next hready
    refine ⟨fun hpass hwaits hno => joins_of (hexec.trans (congrArg _ (State.acceptNext_sync_waits c.isLt hnext hpass hop hwaits hno))),
      fun hpass hholds hremote htransfers => ?_, fun code detail hfails => faults_of hnext hfails hexec⟩
    refine ⟨s.slotListed c.val, { s.nextDesc c.val with granted := s.frame }, ?_, State.nextDesc_fresh.withGranted _, rfl,
      List.length_append, State.slotListed_taken c.isLt⟩
    rw [hexec, State.acceptNext_sync_served c.isLt hnext hpass hop hholds hremote htransfers]
  · intro y hup hready htransfers hfailed hsignal
    obtain ⟨hsync, hholds⟩ := State.syncReady_holds hready
    exact (exec_descSync_ready hready hup).trans (congrArg _ (State.syncServe_served hsync hholds htransfers hfailed hsignal))

end Sys2Proof.Machine
end

section
/-!
PROOFS. Completion rings (R379–R381, R394): a record written at the tail, posted or held, and a descriptor that completes.
-/

namespace Sys2Proof.Machine

/-! ### A record written (R380) -/

section
variable (s : State) (c : Nat) (r : Record)

/-- The device address of the entry that the next record takes. -/
def State.cqEntry : Nat := cmdBase + s.cqBase c + 32 * s.get (R.CMD_CQ_PTR_tail c)

/-- The record's bytes at its entry. -/
def State.recordStored : State := s.writeMem (s.cqEntry c) (r.bytes (s.get (R.CMD_CQ_PTR_phase c)))

/-- The record is stored, the tail and on a wrap the phase have moved on, and its interrupt is sent. -/
def State.recordWritten : State :=
  let next := (s.get (R.CMD_CQ_PTR_tail c) + 1) % s.cqSize c
  let s1 := (s.recordStored c r).put (R.CMD_CQ_PTR_tail c) next
  let s2 := if r.irq then s1.send (s1.get (R.CMD_RING_CFG_vector c)) else s1
  if next = 0 then s2.put (R.CMD_CQ_PTR_phase c) (1 - s2.get (R.CMD_CQ_PTR_phase c)) else s2

/-- The submission head once the slot's record is posted, and the posted slots that it has not passed (R379). -/
def State.headPast (slot : Nat) : Nat × List Nat :=
  advanceHead (s.sqSize c) (s.get (R.CMD_SQ_PTR_tail c)) (s.sqSize c) (s.get (R.CMD_SQ_PTR_head c)) ((s.ring c).posted ++ [slot])

end

/-- The completion ring's pointer fields that a record moves. -/
def cqFields (c : Nat) : List Fld := [R.CMD_CQ_PTR_tail c, R.CMD_CQ_PTR_phase c]

/-- What the submission head is moved by. -/
def sqFields (c : Nat) : List Fld := [R.CMD_SQ_PTR_head c, R.CMD_SQ_PTR_tail c, R.CMD_RING_CFG_sq_log2 c]

theorem sqFields_key_ne {c : Nat} : ∀ f ∈ sqFields c, ∀ g ∈ cqFields c, f.key ≠ g.key := by
  simp only [sqFields, cqFields, List.forall_mem_cons, List.not_mem_nil, false_imp_iff, implies_true, and_true, Fld.key, R.CMD_SQ_PTR_head,
    R.CMD_SQ_PTR_tail, R.CMD_RING_CFG_sq_log2, R.CMD_CQ_PTR_tail, R.CMD_CQ_PTR_phase]
  omega

theorem sqFields_not_inPmu {c : Nat} (hc : c < 64) : ∀ f ∈ sqFields c, ¬ inPmu f :=
  fun f hf => ringRegs_not_inPmu hc f (by revert f; simp [sqFields, ringRegs])

theorem cqTail_not_inPmu {c : Nat} (hc : c < 64) : ¬ inPmu (R.CMD_CQ_PTR_tail c) := ringRegs_not_inPmu hc _ (by simp [ringRegs])

theorem cqTail_key_ne_phase (c : Nat) : (R.CMD_CQ_PTR_tail c).key ≠ (R.CMD_CQ_PTR_phase c).key := by
  simp only [Fld.key, R.CMD_CQ_PTR_tail, R.CMD_CQ_PTR_phase]
  omega

@[simp] theorem Record.bytes_length (r : Record) (phase : Nat) : (r.bytes phase).length = 32 := by simp [Record.bytes]

section
variable {s : State} {c : Nat} {r : Record}

theorem State.recordStored_mem (s : State) (c : Nat) (r : Record) :
    (s.recordStored c r).mem = Memory.write s.mem (s.cqEntry c) (r.bytes (s.get (R.CMD_CQ_PTR_phase c))) := by
  rw [State.recordStored, State.writeMem]

@[simp] theorem State.recordStored_get (s : State) (c : Nat) (r : Record) (f : Fld) : (s.recordStored c r).get f = s.get f := by
  rw [State.recordStored, State.writeMem_get]

@[simp] theorem State.recordStored_rings (s : State) (c : Nat) (r : Record) : (s.recordStored c r).rings = s.rings := by
  rw [State.recordStored, State.writeMem_rings]

@[simp] theorem State.recordStored_descs (s : State) (c : Nat) (r : Record) : (s.recordStored c r).descs = s.descs := by
  rw [State.recordStored, State.writeMem_descs]

theorem State.put_signals (s : State) {f : Fld} (v : Nat) {l : List Fld} (hf : f ∈ l) : Signals l s (s.put f v) :=
  ⟨(s.put_only f v).signals, s.put_fields f v l hf⟩

theorem State.send_signals (s : State) (v : Nat) (l : List Fld) : Signals l s (s.send v) := ⟨s.send_only v, s.send_fields v l⟩

theorem State.recordWritten_signals (s : State) (c : Nat) (r : Record) :
    Signals (cqFields c) (s.recordStored c r) (s.recordWritten c r) := by
  unfold State.recordWritten
  extract_lets next s1 s2
  have h1 : Signals (cqFields c) (s.recordStored c r) s1 := State.put_signals _ _ (by simp [cqFields])
  have h2 : Signals (cqFields c) (s.recordStored c r) s2 := Signals.ite (h1.trans (s1.send_signals _ _)) h1
  exact Signals.ite (h2.trans (State.put_signals _ _ (by simp [cqFields]))) h2

theorem State.recordWritten_get (hc : c < 64) {f : Fld} (hf : f ∈ sqFields c) : (s.recordWritten c r).get f = s.get f := by
  rw [(s.recordWritten_signals c r).2 f (sqFields_not_inPmu hc f hf) (sqFields_key_ne f hf), State.recordStored_get]

theorem State.recordWritten_tail (hc : c < 64) :
    (s.recordWritten c r).get (R.CMD_CQ_PTR_tail c) = (s.get (R.CMD_CQ_PTR_tail c) + 1) % s.cqSize c % 4096 := by
  unfold State.recordWritten
  extract_lets next s1 s2
  have hp : ¬ inPmu (R.CMD_CQ_PTR_tail c) := cqTail_not_inPmu hc
  have h1 : s1.get (R.CMD_CQ_PTR_tail c) = next % 4096 := State.get_put_same _ _ _
  have h2 : s2.get (R.CMD_CQ_PTR_tail c) = next % 4096 := by
    refine Eq.trans ?_ h1
    simp only [s2]
    split
    · exact s1.send_get _ hp
    · rfl
  split
  · exact (State.get_put_other _ _ _ _ (cqTail_key_ne_phase c)).trans h2
  · exact h2

theorem State.recordWritten_ring : (s.recordWritten c r).ring c = s.ring c := by
  rw [State.ring_congr (s.recordWritten_signals c r).1.rings, State.ring_congr (s.recordStored_rings c r)]

/-! ### A record posted (R379, R380) -/

theorem State.headPast_recordWritten (hc : c < 64) (slot : Nat) : (s.recordWritten c r).headPast c slot = s.headPast c slot := by
  simp only [State.headPast, State.sqSize, State.recordWritten_ring]
  rw [State.recordWritten_get hc (f := R.CMD_SQ_PTR_head c) (by simp [sqFields]),
    State.recordWritten_get hc (f := R.CMD_SQ_PTR_tail c) (by simp [sqFields]),
    State.recordWritten_get hc (f := R.CMD_RING_CFG_sq_log2 c) (by simp [sqFields])]

theorem State.postNow_eq (hc : c < 64) : s.postNow c r =
    ((s.recordWritten c r).setRing c { s.ring c with posted := (s.headPast c r.slot).2 }).put (R.CMD_SQ_PTR_head c)
      (s.headPast c r.slot).1 := by
  rw [← State.headPast_recordWritten (r := r) hc r.slot, ← State.recordWritten_ring (s := s) (r := r)]
  rfl

theorem State.postNow_mem (hc : c < 64) :
    (s.postNow c r).mem = Memory.write s.mem (s.cqEntry c) (r.bytes (s.get (R.CMD_CQ_PTR_phase c))) := by
  have hmem : (s.postNow c r).mem = (s.recordWritten c r).mem := by rw [State.postNow_eq hc]; rfl
  rw [hmem, (s.recordWritten_signals c r).1.mem, State.recordStored_mem]

theorem State.postNow_descs (hc : c < 64) : (s.postNow c r).descs = s.descs := by
  have hdescs : (s.postNow c r).descs = (s.recordWritten c r).descs := by rw [State.postNow_eq hc]; rfl
  rw [hdescs, (s.recordWritten_signals c r).1.descs, State.recordStored_descs]

theorem State.postNow_ring (hc : c < 64) : (s.postNow c r).ring c = { s.ring c with posted := (s.headPast c r.slot).2 } := by
  rw [State.postNow_eq hc]
  exact State.ring_setRing _ c _

theorem State.postNow_head (hc : c < 64) : (s.postNow c r).get (R.CMD_SQ_PTR_head c) = (s.headPast c r.slot).1 % 4096 := by
  rw [State.postNow_eq hc]
  exact State.get_put_same _ _ _

theorem State.postNow_get (hc : c < 64) {g : Fld} (hg : g.key ≠ (R.CMD_SQ_PTR_head c).key) :
    (s.postNow c r).get g = (s.recordWritten c r).get g := by
  rw [State.postNow_eq hc]
  exact State.get_put_other _ _ g _ hg

theorem State.postNow_tail (hc : c < 64) :
    (s.postNow c r).get (R.CMD_CQ_PTR_tail c) = (s.get (R.CMD_CQ_PTR_tail c) + 1) % s.cqSize c % 4096 :=
  (State.postNow_get hc (sqFields_key_ne (c := c) _ (by simp [sqFields]) _ (by simp [cqFields])).symm).trans (State.recordWritten_tail hc)

/-- The record stands at its entry. -/
theorem State.postNow_readMem (hc : c < 64) : (s.postNow c r).readMem (s.cqEntry c) 32 = r.bytes (s.get (R.CMD_CQ_PTR_phase c)) := by
  have hread := Memory.read_write s.mem (s.cqEntry c) (r.bytes (s.get (R.CMD_CQ_PTR_phase c)))
  rw [Record.bytes_length] at hread
  rw [State.readMem, State.postNow_mem hc, hread]

theorem State.postNow_sameMemBut (hc : c < 64) : SameMemBut (s.cqEntry c) 32 s (s.postNow c r) := fun b hb => by
  rw [State.postNow_mem hc]
  exact Memory.get_write_outside _ s.mem _ b (by rwa [Record.bytes_length])

theorem advanceHead_once {size tail fuel head : Nat} (hmore : head ≠ tail) (hfuel : 0 < fuel) :
    advanceHead size tail fuel head [head] = ((head + 1) % size, []) := by
  obtain ⟨fuel, rfl⟩ := Nat.exists_eq_succ_of_ne_zero hfuel.ne'
  have hnone : [head].filter (· != head) = [] := by simp
  rw [advanceHead, if_pos ⟨hmore, by simp⟩, hnone]
  cases fuel with
  | zero => rfl
  | succ fuel => simp [advanceHead]

/-- The head passes its slot when that slot's record is posted and none waits to be passed. -/
theorem State.headPast_head (hposted : (s.ring c).posted = []) {slot : Nat} (hslot : slot = s.get (R.CMD_SQ_PTR_head c))
    (hmore : slot ≠ s.get (R.CMD_SQ_PTR_tail c)) : (s.headPast c slot).1 = (slot + 1) % s.sqSize c := by
  have hsize : 0 < s.sqSize c := Nat.two_pow_pos _
  rw [State.headPast, hposted, ← hslot, List.nil_append, advanceHead_once hmore hsize]

end

/-! ### A record posted or held (R381) -/

/-- The record's outcome is counted, and a failure logged. -/
def State.outcomeCounted (s : State) (r : Record) : State :=
  let s1 := (s.count (r.status.outcome r.ctx) 1).pmu r.status.pmuCode (some r.ctx) 1
  match r.status with | .faulted code detail => s1.flogAdd 2 code detail (some r.ctx) | _ => s1

/-- The record waits for a free entry. -/
def State.recordHeld (s : State) (r : Record) : State :=
  (s.setRing r.ctx { s.ring r.ctx with waiting := (s.ring r.ctx).waiting ++ [r] }).raiseRing r.ctx 2

theorem Status.outcome_key (st : Status) (c : Nat) :
    32 * (0x1A0048 + 0x400 * c) ≤ (st.outcome c).key ∧ (st.outcome c).key < 32 * (0x1A0050 + 0x400 * c) := by
  cases st <;> simp only [Status.outcome, Fld.key, R.CTX_OUTCOME0_served, R.CTX_OUTCOME0_deferred, R.CTX_OUTCOME1_refused,
    R.CTX_OUTCOME1_faulted] <;> omega

theorem Status.outcome_not_inPmu (st : Status) {c : Nat} (hc : c < 64) : ¬ inPmu (st.outcome c) := by
  have hkey := st.outcome_key c
  omega

/-- The outcome registers lie apart from every ring's. -/
theorem Status.outcome_key_ne {st : Status} {c k : Nat} {g : Fld} (hc : c < 64) (hg : inRing c g) : g.key ≠ (st.outcome k).key := by
  have hkey := st.outcome_key k
  omega

section
variable {s : State} {c b : Nat} {r : Record}

theorem State.raiseRing_signals (s : State) (c b : Nat) : Signals [R.CMD_RING_EVT c] s (s.raiseRing c b) := by
  unfold State.raiseRing
  extract_lets s1
  have h1 : Signals [R.CMD_RING_EVT c] s s1 := ⟨s.setBit_only _ b, s.put_fields _ _ _ (List.mem_singleton_self _)⟩
  exact Signals.ite (.refl _ s) (Signals.ite (h1.trans ⟨s1.send_only _, s1.send_fields _ _⟩) h1)

theorem State.raiseRing_bitSet (s : State) (hc : c < 64) (hb : b < 3) : BitSet (s.raiseRing c b) (R.CMD_RING_EVT c) b := by
  rw [BitSet, State.raiseRing]
  split
  case isTrue hset => exact hset
  case isFalse =>
    have hbit : bitAt ((s.setBit (R.CMD_RING_EVT c) b).get (R.CMD_RING_EVT c)) b = true := by
      rw [State.setBit_bit _ _ _ _ hb, BEq.rfl, Bool.or_true]
    dsimp only
    split
    · rwa [State.send_get _ _ (ringRegs_not_inPmu hc _ (by simp [ringRegs]))]
    · exact hbit

theorem State.outcomeCounted_reports (s : State) (r : Record) :
    Reports [r.status.outcome r.ctx, R.GEN_FLOG_STAT_lost] s (s.outcomeCounted r) := by
  have h1 : Reports [r.status.outcome r.ctx, R.GEN_FLOG_STAT_lost] s
      ((s.count (r.status.outcome r.ctx) 1).pmu r.status.pmuCode (some r.ctx) 1) :=
    ((s.count_signals _ 1 (List.mem_cons_self ..)).trans (State.pmu_signals _ _ _ _ _)).reports
  unfold State.outcomeCounted
  dsimp only
  split
  · exact h1.trans (State.flogAdd_reports _ _ _ _ _ (by simp))
  · exact h1

theorem State.outcomeCounted_outcome (hc : r.ctx < 64) : (s.outcomeCounted r).get (r.status.outcome r.ctx) =
    satAdd (r.status.outcome r.ctx).w (s.get (r.status.outcome r.ctx)) 1 := by
  have hp := r.status.outcome_not_inPmu hc
  have h1 : ((s.count (r.status.outcome r.ctx) 1).pmu r.status.pmuCode (some r.ctx) 1).get (r.status.outcome r.ctx) =
      satAdd (r.status.outcome r.ctx).w (s.get (r.status.outcome r.ctx)) 1 := by
    rw [State.pmu_get _ _ _ _ hp, State.get_count_same]
  have hkey : (r.status.outcome r.ctx).key ≠ R.GEN_FLOG_STAT_lost.key := by
    have hkey := r.status.outcome_key r.ctx
    simp only [Fld.key, R.GEN_FLOG_STAT_lost] at hkey ⊢
    omega
  unfold State.outcomeCounted
  dsimp only
  split
  · refine Eq.trans ?_ h1
    exact (State.flogAdd_reports _ _ _ _ _ (List.mem_singleton_self _)).1 _ hp (by simpa using hkey)
  · exact h1

/-- The ring of a context stands in both states as it does in one. -/
def SameRing (c : Nat) (s t : State) : Prop := t.ring c = s.ring c ∧ ∀ g : Fld, inRing c g → t.get g = s.get g

theorem SameRing.get {t : State} (h : SameRing c s t) {f : Fld} (hf : f ∈ ringRegs c) : t.get f = s.get f := h.2 f (inRing_ringRegs f hf)

theorem SameRing.sqSize {t : State} (h : SameRing c s t) : t.sqSize c = s.sqSize c := by
  rw [State.sqSize, h.get (by simp [ringRegs]), State.sqSize]

theorem SameRing.cqSize {t : State} (h : SameRing c s t) : t.cqSize c = s.cqSize c := by
  rw [State.cqSize, h.get (by simp [ringRegs]), State.cqSize]

theorem SameRing.cqEntry {t : State} (h : SameRing c s t) : t.cqEntry c = s.cqEntry c := by
  simp only [State.cqEntry, State.cqBase, h.get (f := R.CMD_CQ_BASE_LO c) (by simp [ringRegs]),
    h.get (f := R.CMD_CQ_BASE_HI c) (by simp [ringRegs]), h.get (f := R.CMD_CQ_PTR_tail c) (by simp [ringRegs])]

theorem SameRing.cqFree {t : State} (h : SameRing c s t) : t.cqFree c = s.cqFree c := by
  simp only [State.cqFree, h.cqSize, h.get (f := R.CMD_CQ_PTR_tail c) (by simp [ringRegs]),
    h.get (f := R.CMD_CQ_PTR_head c) (by simp [ringRegs])]

theorem State.outcomeCounted_sameRing (hc : c < 64) : SameRing c s (s.outcomeCounted r) := by
  obtain ⟨hfields, honly⟩ := s.outcomeCounted_reports r
  refine ⟨State.ring_congr (by rw [honly]) c, fun g hg => hfields g (not_inPmu_of_inRing hc hg) ?_⟩
  have hlost : g.key ≠ R.GEN_FLOG_STAT_lost.key := by
    have hlog : R.GEN_FLOG_STAT_lost.key = 8208 := rfl
    omega
  simpa using ⟨Status.outcome_key_ne hc hg, hlost⟩

theorem State.outcomeCounted_mem : (s.outcomeCounted r).mem = s.mem := by rw [(s.outcomeCounted_reports r).2]

theorem State.outcomeCounted_descs : (s.outcomeCounted r).descs = s.descs := by rw [(s.outcomeCounted_reports r).2]

theorem State.post_eq (s : State) (r : Record) : s.post r =
    if ((s.outcomeCounted r).ring r.ctx).waiting.isEmpty && (s.outcomeCounted r).cqFree r.ctx then (s.outcomeCounted r).postNow r.ctx r
    else (s.outcomeCounted r).recordHeld r := rfl

theorem State.post_posts (hc : r.ctx < 64) (hwaiting : (s.ring r.ctx).waiting = []) (hfree : s.cqFree r.ctx = true) :
    s.post r = (s.outcomeCounted r).postNow r.ctx r := by
  have hring := State.outcomeCounted_sameRing (s := s) (r := r) hc
  rw [State.post_eq, hring.1, hring.cqFree, hwaiting, hfree]
  rfl

theorem State.post_holds (hc : r.ctx < 64) (h : (s.ring r.ctx).waiting ≠ [] ∨ s.cqFree r.ctx = false) :
    s.post r = (s.outcomeCounted r).recordHeld r := by
  have hring := State.outcomeCounted_sameRing (s := s) (r := r) hc
  rw [State.post_eq, hring.1, hring.cqFree]
  exact if_neg (by rcases h with h | h <;> simp [h])

theorem State.post_cases (s : State) (r : Record) :
    ((s.ring r.ctx).waiting = [] ∧ s.cqFree r.ctx = true) ∨ ((s.ring r.ctx).waiting ≠ [] ∨ s.cqFree r.ctx = false) := by
  by_cases hwaiting : (s.ring r.ctx).waiting = []
  · cases hfree : s.cqFree r.ctx <;> simp [hwaiting]
  · exact .inr (.inl hwaiting)

theorem State.recordHeld_signals (s : State) (r : Record) : Signals [R.CMD_RING_EVT r.ctx]
    (s.setRing r.ctx { s.ring r.ctx with waiting := (s.ring r.ctx).waiting ++ [r] }) (s.recordHeld r) := State.raiseRing_signals _ _ 2

theorem State.recordHeld_waiting (s : State) (r : Record) : ((s.recordHeld r).ring r.ctx).waiting = (s.ring r.ctx).waiting ++ [r] := by
  rw [State.ring_congr (s.recordHeld_signals r).1.rings, State.ring_setRing]

theorem State.post_descs (hc : r.ctx < 64) : (s.post r).descs = s.descs := by
  refine Eq.trans ?_ (s.outcomeCounted_descs (r := r))
  rcases s.post_cases r with ⟨hwaiting, hfree⟩ | h
  · rw [State.post_posts hc hwaiting hfree, State.postNow_descs hc]
  · rw [State.post_holds hc h]
    exact (State.recordHeld_signals _ r).1.descs

/-- Posted or held, a record counts its outcome. -/
theorem State.post_outcome (hc : r.ctx < 64) : (s.post r).get (r.status.outcome r.ctx) =
    satAdd (r.status.outcome r.ctx).w (s.get (r.status.outcome r.ctx)) 1 := by
  have hp := r.status.outcome_not_inPmu hc
  have hne : ∀ f ∈ ringRegs r.ctx, (r.status.outcome r.ctx).key ≠ f.key := fun f hf =>
    (Status.outcome_key_ne hc (inRing_ringRegs f hf)).symm
  refine Eq.trans ?_ (State.outcomeCounted_outcome hc)
  rcases s.post_cases r with ⟨hwaiting, hfree⟩ | h
  · rw [State.post_posts hc hwaiting hfree, State.postNow_get hc (hne _ (by simp [ringRegs]))]
    rw [(State.recordWritten_signals _ _ r).2 _ hp fun f hf => hne f (by revert f; simp [cqFields, ringRegs]), State.recordStored_get]
  · rw [State.post_holds hc h]
    exact (State.recordHeld_signals _ r).2 _ hp fun f hf => hne f (by rw [List.mem_singleton.1 hf]; simp [ringRegs])

/-- A record posted where none waits and an entry is free (R380). -/
theorem State.post_posted (hc : r.ctx < 64) (hwaiting : (s.ring r.ctx).waiting = []) (hfree : s.cqFree r.ctx = true) :
    (s.post r).readMem (s.cqEntry r.ctx) 32 = r.bytes (s.get (R.CMD_CQ_PTR_phase r.ctx)) ∧
      SameMemBut (s.cqEntry r.ctx) 32 s (s.post r) ∧
      (s.post r).get (R.CMD_CQ_PTR_tail r.ctx) = (s.get (R.CMD_CQ_PTR_tail r.ctx) + 1) % s.cqSize r.ctx % 4096 := by
  have hring := State.outcomeCounted_sameRing (s := s) (r := r) hc
  rw [State.post_posts hc hwaiting hfree, ← hring.cqEntry, ← hring.cqSize, ← hring.get (f := R.CMD_CQ_PTR_phase r.ctx) (by simp [ringRegs]),
    ← hring.get (f := R.CMD_CQ_PTR_tail r.ctx) (by simp [ringRegs])]
  exact ⟨State.postNow_readMem hc, fun b hb => (State.postNow_sameMemBut hc b hb).trans (by rw [State.outcomeCounted_mem]),
    State.postNow_tail hc⟩

/-- The submission head passes the slot whose record is posted, where no earlier one is unposted (R379). -/
theorem State.post_head (hc : r.ctx < 64) (hwaiting : (s.ring r.ctx).waiting = []) (hfree : s.cqFree r.ctx = true)
    (hposted : (s.ring r.ctx).posted = []) (hslot : r.slot = s.get (R.CMD_SQ_PTR_head r.ctx))
    (hmore : r.slot ≠ s.get (R.CMD_SQ_PTR_tail r.ctx)) :
    (s.post r).get (R.CMD_SQ_PTR_head r.ctx) = (r.slot + 1) % s.sqSize r.ctx % 4096 := by
  have hring := State.outcomeCounted_sameRing (s := s) (r := r) hc
  rw [State.post_posts hc hwaiting hfree, State.postNow_head hc, ← hring.sqSize, State.headPast_head]
  · rw [hring.1, hposted]
  · rw [hslot, hring.get (by simp [ringRegs])]
  · rwa [hring.get (by simp [ringRegs])]

/-- A record held back: it waits behind those held before it, and cq_full is set (R381). -/
theorem State.post_held (hc : r.ctx < 64) (h : (s.ring r.ctx).waiting ≠ [] ∨ s.cqFree r.ctx = false) :
    ((s.post r).ring r.ctx).waiting = (s.ring r.ctx).waiting ++ [r] ∧ BitSet (s.post r) (R.CMD_RING_EVT r.ctx) 2 ∧ SameMem s (s.post r) := by
  have hring := State.outcomeCounted_sameRing (s := s) (r := r) hc
  rw [State.post_holds hc h]
  refine ⟨?_, State.raiseRing_bitSet _ hc (by decide), fun a => ?_⟩
  · rw [State.recordHeld_waiting, hring.1]
  · rw [(State.recordHeld_signals _ r).1.mem]
    exact congrArg (Memory.get · a) State.outcomeCounted_mem

/-! ### A descriptor that completes (R379, R390) -/

theorem State.finish_eq {d : CmdDesc} (hsignals : d.desc.signals = false) (st : Status) :
    s.finish d st = (s.detach d.ctx d.slot).post (s.recordFor d st) := by
  unfold State.finish
  extract_lets s1 ok s2
  have hs2 : s2 = s1 := if_neg (by simp [hsignals])
  rw [hs2]

theorem State.detach_descs (s : State) (c slot : Nat) :
    (s.detach c slot).descs = s.descs.filter fun d => !(d.ctx == c && d.slot == slot) := rfl

section
variable {d : CmdDesc} {st : Status} (hc : d.ctx < 64) (hsignals : d.desc.signals = false)
include hc hsignals

/-- It leaves the list. -/
theorem State.finish_leaves : ∀ x ∈ (s.finish d st).descs, x.ctx = d.ctx → x.slot ≠ d.slot := by
  rw [State.finish_eq hsignals, State.post_descs (r := s.recordFor d st) hc, State.detach_descs]
  intro x hx hctx hslot
  simp [hctx, hslot] at hx

theorem State.finish_outcome : (s.finish d st).get (st.outcome d.ctx) =
    satAdd (st.outcome d.ctx).w (s.get (st.outcome d.ctx)) 1 := by
  rw [State.finish_eq hsignals]
  exact State.post_outcome (s := s.detach d.ctx d.slot) (r := s.recordFor d st) hc

/-- Its record is posted where none waits and an entry is free. -/
theorem State.finish_posted (hwaiting : (s.ring d.ctx).waiting = []) (hfree : s.cqFree d.ctx = true) :
    (s.finish d st).readMem (s.cqEntry d.ctx) 32 = (s.recordFor d st).bytes (s.get (R.CMD_CQ_PTR_phase d.ctx)) ∧
      SameMemBut (s.cqEntry d.ctx) 32 s (s.finish d st) ∧
      (s.finish d st).get (R.CMD_CQ_PTR_tail d.ctx) = (s.get (R.CMD_CQ_PTR_tail d.ctx) + 1) % s.cqSize d.ctx % 4096 := by
  rw [State.finish_eq hsignals]
  exact State.post_posted (s := s.detach d.ctx d.slot) (r := s.recordFor d st) hc hwaiting hfree

theorem State.finish_head (hwaiting : (s.ring d.ctx).waiting = []) (hfree : s.cqFree d.ctx = true)
    (hposted : (s.ring d.ctx).posted = []) (hslot : d.slot = s.get (R.CMD_SQ_PTR_head d.ctx))
    (hmore : d.slot ≠ s.get (R.CMD_SQ_PTR_tail d.ctx)) :
    (s.finish d st).get (R.CMD_SQ_PTR_head d.ctx) = (d.slot + 1) % s.sqSize d.ctx % 4096 := by
  rw [State.finish_eq hsignals]
  exact State.post_head (s := s.detach d.ctx d.slot) (r := s.recordFor d st) hc hwaiting hfree hposted hslot hmore

/-- Its record is held back where another waits or no entry is free. -/
theorem State.finish_held (h : (s.ring d.ctx).waiting ≠ [] ∨ s.cqFree d.ctx = false) :
    ((s.finish d st).ring d.ctx).waiting = (s.ring d.ctx).waiting ++ [s.recordFor d st] ∧
      BitSet (s.finish d st) (R.CMD_RING_EVT d.ctx) 2 ∧ SameMem s (s.finish d st) := by
  rw [State.finish_eq hsignals]
  exact State.post_held (s := s.detach d.ctx d.slot) (r := s.recordFor d st) hc h

end

/-! ### A record that a doorbell lets in (R381) -/

theorem State.postWaiting_one (hwaiting : (s.ring c).waiting = [r]) (hfree : s.cqFree c = true) :
    s.postWaiting c 1 = (s.setRing c { s.ring c with waiting := [] }).postNow c r := by
  simp only [State.postWaiting, hwaiting, hfree, if_true]

end

end Sys2Proof.Machine
end

section
/-!
PROOFS. The admission pass (R414–R421): its rulings over no descriptor and over one, and descriptors it leaves past their deadline.
-/

namespace Sys2Proof.Machine

/-! ### Rulings -/

section
variable {f plim dramAll charge : Nat} {occ : List Busy} {c : Cand}

theorem ruling_none : ruling f occ charge plim dramAll [] = ([], false) := rfl

/-- The occupancy with a claim placed from a frame's mark on. -/
def Busy.placed (r : ClaimRes) (q span : Nat) (occ : List Busy) : List Busy := ⟨some r, q, 0, span⟩ :: occ

theorem place_single {k : Claim} {seqs : List Nat} {r : ClaimRes} {q : Nat} (hoff : k.off = 0) (hspan : k.span ≤ 2048)
    (hres : pickRes occ k.res 0 k.span = some r) (hseq : pickSeq occ seqs 0 k.span = some q) :
    place occ seqs 0 [k] = some (Busy.placed r q k.span occ) := by
  simp only [place, hoff, Nat.zero_add, if_neg (show ¬ 2048 < k.span by omega), hres, hseq]
  rfl

/-- A descriptor placed at a frame's mark has its home there. -/
theorem homeFrom_zero {occ' : List Busy} (hplace : place occ c.seqs 0 c.claims = some occ') (fuel : Nat) :
    homeFrom occ c (fuel + 1) 0 = some 0 := by
  rw [homeFrom, hplace]
  rfl

/-- What a descriptor that no pass has considered must meet to pass the first loop of R418, in a frame with no static charge. -/
structure Cand.Fits (c : Cand) (f plim dramAll : Nat) : Prop where
  seqs : c.seqs ≠ []
  inFrame : c.power ≤ 300 * 20480
  inLimit : c.power ≤ (plim - 60) * 20480
  inDram : c.dram ≤ dramAll
  inTime : f ≤ c.deadline

theorem firstLoop_single {leftP : Int} {leftD : Nat} {t : Nat} (hhome : homeFrom occ c 2048 0 = some t) (hnone : c.home = none)
    (hfits : c.Fits f plim dramAll) (hP : (c.power : Int) ≤ leftP) (hD : c.dram ≤ leftD) :
    firstLoop f occ plim dramAll [c] leftP leftD = ([], [{ c with home := some t }]) := by
  obtain ⟨hseqs, hframe, -, hdram, htime⟩ := hfits
  have hfresh : ¬(c.fresh = true ∧ (300 * 2048 * 10 < c.power ∨ dramAll < c.dram ∨ c.deadline < f)) := by omega
  have hserved : ¬(c.seqs.isEmpty = true ∧ c.claims ≠ []) := by simp [hseqs]
  simp only [firstLoop, hnone, Option.isNone_none, if_true, hhome, if_neg hserved, if_neg hfresh, Option.isNone_some, Bool.false_eq_true,
    if_false, if_neg (Int.not_lt.2 hP), if_neg (Nat.not_lt.2 hD)]

theorem secondLoop_single {t q span u : Nat} (hhome : c.home = some t)
    (hplace : place occ c.seqs t c.claims = some (Busy.placed (.unit (some u)) q span occ)) :
    secondLoop f [c] occ = [⟨c.ix, some t, false, .grant u [q]⟩] := by
  have hmine : (Busy.placed (.unit (some u)) q span occ).take ((Busy.placed (.unit (some u)) q span occ).length - occ.length) =
      [⟨some (.unit (some u)), q, 0, span⟩] := by
    simp [Busy.placed]
  simp only [secondLoop, hhome, hplace, hmine]
  rfl

/-- A lone descriptor that fits is granted the lowest home, with the unit and the sequencer of its claim (R415, R418). -/
theorem ruling_single {q span u : Nat} (hnone : c.home = none) (hfits : c.Fits f plim dramAll)
    (hplace : place occ c.seqs 0 c.claims = some (Busy.placed (.unit (some u)) q span occ)) :
    ruling f occ 0 plim dramAll [c] = ([⟨c.ix, some 0, false, .grant u [q]⟩], false) := by
  have hfirst : firstLoop f occ plim dramAll [c] (((plim - 60) * 2048 * 10 : Nat) - ((0 : Nat) : Int)) dramAll =
      ([], [{ c with home := some 0 }]) := by
    refine firstLoop_single (homeFrom_zero hplace 2047) hnone hfits ?_ hfits.inDram
    have hlimit := hfits.inLimit
    omega
  have hsecond : secondLoop f [{ c with home := some 0 }] occ = [⟨c.ix, some 0, false, .grant u [q]⟩] := secondLoop_single rfl hplace
  simp only [ruling, sortBy, insertBy, List.take_succ_cons, List.take_nil, List.drop_succ_cons, List.drop_nil, List.filter_nil, hfirst,
    hsecond]
  rfl

end

/-! ### A vector descriptor's claim (R386, R388) -/

section
variable {d : Desc}

theorem not_usesPlate_of_isVectorOp {o : Nat} (h : isVectorOp o = true) : usesPlate o = false := by
  simp only [isVectorOp, decide_eq_true_eq] at h
  simp only [usesPlate, Bool.or_eq_false_iff, decide_eq_false_iff_not, beq_eq_false_iff_ne]
  omega

theorem Desc.claims_vector (hvector : isVectorOp d.opcode = true) (hunit : d.unit ≤ 3) (a : Nat) :
    d.claims a = [⟨4, .unit (some d.unit), 0, d.span, 0x20, a / 64⟩] := by
  have hrange : 0x10 ≤ d.opcode ∧ d.opcode ≤ 0x16 := by simpa [isVectorOp] using hvector
  have hnamed : unitOf d.unit = some d.unit := if_neg (by omega)
  simp only [Desc.claims, if_neg (show d.opcode ≠ 1 by omega), if_neg (show d.opcode ≠ 2 by omega),
    if_neg (show d.opcode ≠ 3 by omega), if_neg (show d.opcode ≠ 8 by omega), hvector, if_true, hnamed]

end

/-- What stands in the way of placing in a frame without static work: the sequencer number that is never free. -/
def idleBusy : List Busy := [⟨none, noSeq, 0, 2048⟩]

theorem pickRes_idle (u lo hi : Nat) : pickRes idleBusy (.unit (some u)) lo hi = some (.unit (some u)) := rfl

theorem pickSeq_idle {q : Nat} (hq : q < 16) (rest : List Nat) (lo hi : Nat) : pickSeq idleBusy (q :: rest) lo hi = some q := by
  have hfree : (noSeq != q) = true := by
    simp only [noSeq, bne_iff_ne]
    omega
  simp [pickSeq, idleBusy, hfree]

/-! ### The pass -/

section
variable {s : State} {f : Nat} {d : CmdDesc}

theorem State.staticBusy_idle (h : s.staticIn f = []) (hbefore : s.staticIn (f - 1) = []) (hafter : s.staticIn (f + 1) = []) :
    s.staticBusy f = [] := by simp [State.staticBusy, h, hbefore, hafter]

theorem State.staticCharge_idle (h : s.staticIn f = []) : s.staticCharge f = 0 := by simp [State.staticCharge, h]

theorem State.plateHeld_vector (h : isVectorOp d.desc.opcode = true) : s.plateHeld d = false := by
  simp [State.plateHeld, not_usesPlate_of_isVectorOp h]

theorem State.pass_none (h : s.staticIn f = []) (hnone : s.descs = []) : s.pass f = { s with passFrame := f } := by
  simp [State.pass, hnone, State.staticCharge_idle h, ruling_none, State.refuseLate]

/-- The pass with one eligible descriptor, which holds no plate back, does with it what is ruled for it. -/
theorem State.pass_single {r : Ruling} (h : s.staticIn f = []) (hbefore : s.staticIn (f - 1) = []) (hafter : s.staticIn (f + 1) = [])
    (hdescs : s.descs = [d]) (heligible : s.eligible f d = true) (hheld : s.plateHeld d = false) (hix : r.ix = 0)
    (hruling : ruling f idleBusy 0 s.pLimit (65536 * s.get R.CTX_BUDGET_dram) [s.candOf 0 d] = ([r], false)) :
    s.pass f = { s.rule f d r with passFrame := f } := by
  have hbusy : s.staticBusy f ++ [⟨none, noSeq, 0, 2048⟩] = idleBusy := by rw [State.staticBusy_idle h hbefore hafter]; rfl
  unfold State.pass
  simp [hdescs, State.staticCharge_idle h, hbusy, heligible, hheld, hruling, hix, State.refuseLate]

/-- A grant marks the only descriptor of the list. -/
theorem State.rule_grant (hdescs : s.descs = [d]) (ix t u : Nat) (seqs : List Nat) : s.rule f d ⟨ix, some t, false, .grant u seqs⟩ =
    { s with descs := [{ d with home := some t, considered := true, phase := .granted f u seqs, granted := f,
                                firstPass := !d.considered }] } := by
  simp [State.rule, State.setDesc, hdescs]

/-- What a lone vector descriptor must meet to be granted at once, in a frame with no static work. -/
structure State.LoneVector (s : State) (f : Nat) (d : CmdDesc) (q : Nat) (rest : List Nat) : Prop where
  descs : s.descs = [d]
  eligible : s.eligible f d = true
  vector : isVectorOp d.desc.opcode = true
  unit : d.desc.unit ≤ 3
  homeless : d.home = none
  serving : s.serving d = q :: rest
  seq : q < 16
  span : d.desc.span ≤ 2048
  deadline : f ≤ d.desc.deadline
  inLimit : 220 * d.desc.span ≤ (s.pLimit - 60) * 20480
  inFrame : 220 * d.desc.span ≤ 300 * 20480
  inDram : d.desc.dramCharge ≤ 65536 * s.get R.CTX_BUDGET_dram

theorem powerOf_vector (r : ClaimRes) (off span entry a0 tiles : Nat) (acc16 : Bool) :
    powerOf [⟨4, r, off, span, entry, a0⟩] tiles acc16 = 220 * span := by simp [powerOf, rateOf]

section
variable {q : Nat} {rest : List Nat} (h : s.LoneVector f d q rest)
include h

theorem State.LoneVector.claims : (s.candOf 0 d).claims = [⟨4, .unit (some d.desc.unit), 0, d.desc.span, 0x20, d.addr / 64⟩] :=
  Desc.claims_vector h.vector h.unit d.addr

theorem State.LoneVector.power : (s.candOf 0 d).power = 220 * d.desc.span := by
  rw [← powerOf_vector (.unit (some d.desc.unit)) 0 d.desc.span 0x20 (d.addr / 64)]
  exact congrArg (powerOf · _ _) h.claims

theorem State.LoneVector.fits : (s.candOf 0 d).Fits f s.pLimit (65536 * s.get R.CTX_BUDGET_dram) where
  seqs := ne_of_eq_of_ne h.serving (List.cons_ne_nil q rest)
  inFrame := h.power.trans_le h.inFrame
  inLimit := h.power.trans_le h.inLimit
  inDram := h.inDram
  inTime := h.deadline

/-- It is placed from the frame's mark on, on its unit and the first sequencer that serves it. -/
theorem State.LoneVector.place : place idleBusy (s.candOf 0 d).seqs 0 (s.candOf 0 d).claims =
    some (Busy.placed (.unit (some d.desc.unit)) q d.desc.span idleBusy) := by
  rw [h.claims, show (s.candOf 0 d).seqs = q :: rest from h.serving]
  exact place_single rfl h.span (pickRes_idle _ _ _) (pickSeq_idle h.seq rest _ _)

theorem State.LoneVector.pass (hstatic : s.staticIn f = []) (hbefore : s.staticIn (f - 1) = []) (hafter : s.staticIn (f + 1) = []) :
    s.pass f = { s with passFrame := f, descs := [{ d with home := some 0, considered := true, phase := .granted f d.desc.unit [q],
                                                           granted := f, firstPass := !d.considered }] } := by
  rw [State.pass_single hstatic hbefore hafter h.descs h.eligible (State.plateHeld_vector h.vector) rfl
    (ruling_single h.homeless h.fits h.place), State.rule_grant h.descs]

end

/-! ### Deadlines (R421) -/

theorem State.refuseLate_early {ds : List CmdDesc} (h : ∀ d ∈ ds, f < d.desc.deadline) (ran : Bool) : s.refuseLate f ran ds = s := by
  induction ds with
  | nil => rfl
  | cons d ds ih =>
    obtain ⟨hd, hds⟩ := List.forall_mem_cons.1 h
    rw [State.refuseLate, List.foldl_cons, if_neg (Nat.not_le.2 hd)]
    exact ih hds

theorem State.refuseLate_single (h : d.desc.deadline ≤ f) (ran : Bool) :
    s.refuseLate f ran [d] = s.finish d (.refused (s.refusalCause ran d)) := if_pos h

/-- With no pass, what keeps a descriptor from its frame is HELD, unless a dusk for heat does and its wait holds. -/
theorem State.refusalCause_held (h : (∀ x, s.pwr.dusk = some x → x.source ≠ .thermal) ∨ s.waitOk d = false) :
    s.refusalCause false d = .held := by
  unfold State.refusalCause
  extract_lets thermalDusk
  refine if_pos ?_
  rcases h with h | h
  · have hnot : thermalDusk = false := by
      simp only [thermalDusk]
      split
      · next x hx => exact decide_eq_false (h x hx)
      · rfl
    simp [hnot]
  · simp [h]

theorem State.refusalCause_thermal {x : Dusk} (hdusk : s.pwr.dusk = some x) (hsource : x.source = .thermal) (hwait : s.waitOk d = true) :
    s.refusalCause false d = .thermal := by
  simp [State.refusalCause, hdusk, hsource, hwait]

/-! ### The commands -/

theorem exec_admissionPass_runs (hruns : s.passRuns = true) (htick : s.tick = 1024) (hfirst : s.passFrame ≠ s.frame + 1) :
    exec .admissionPass s = .next (s.pass (s.frame + 1)) := congrArg _ (if_pos (by simp [hruns, htick, hfirst]))

theorem exec_admissionPass_idle (h : s.passRuns = false ∨ s.tick ≠ 1024 ∨ s.passFrame = s.frame + 1) :
    exec .admissionPass s = .next s := congrArg _ (if_neg (by rcases h with h | h | h <;> simp [h]))

theorem exec_deadlineRefusal (hup : s.controlUp = true) (hcounting : s.hzn.counting = true) (htick : s.tick = 1536)
    (hfirst : s.passFrame ≠ s.frame + 1) (hnone : s.passRuns = false) : exec .deadlineRefusal s =
    .next (s.refuseLate (s.frame + 1) false (s.descs.filter (State.passHandles (s.frame + 1)))) :=
  congrArg _ (if_pos (by simp [hup, hcounting, htick, hfirst, hnone]))

end

end Sys2Proof.Machine
end

section
/-!
PROOFS. Rings enabled and disabled, and doorbells (R374–R376, R381); with completion records and passes, the statement on rings and passes.
-/

namespace Sys2Proof.Machine

section
variable {s : State} {c : Nat}

/-! ### Rings enabled and disabled (R375) -/

/-- What enabling rings puts in their registers. -/
def enablePuts (c : Nat) : List (Fld × Nat) :=
  [(R.CMD_RING_CTRL_en c, 1), (R.CMD_SQ_PTR_head c, 0), (R.CMD_SQ_PTR_tail c, 0), (R.CMD_CQ_PTR_head c, 0), (R.CMD_CQ_PTR_tail c, 0),
    (R.CMD_CQ_PTR_phase c, 1), (R.CMD_RING_CNT_accepted c, 0), (R.CMD_RING_CNT_faulted_at_accept c, 0)]

/-- The rings of a context, enabled and empty. -/
def State.ringEnabled (s : State) (c : Nat) : State := (s.setRing c RingSt.none).puts (enablePuts c)

theorem State.ringEnable_on (hon : s.ringOn c = true) : s.ringEnable c = s := if_pos hon

theorem State.ringEnable_good (hoff : s.ringOn c = false) (hresident : s.ctxResident c = true) (hok : s.ringsOk c = true) :
    s.ringEnable c = s.ringEnabled c := by
  rw [State.ringEnable, hoff, hresident, hok]
  rfl

theorem State.ringEnable_bad (hoff : s.ringOn c = false) (h : s.ctxResident c = false ∨ s.ringsOk c = false) :
    s.ringEnable c = s.raiseRing c 1 := by
  rw [State.ringEnable, hoff, if_neg Bool.false_ne_true, if_neg (by rcases h with h | h <;> simp [h])]

theorem enablePuts_nodup (c : Nat) : (((enablePuts c).map Prod.fst).map Fld.key).Nodup := by
  simp only [enablePuts, List.map_cons, List.map_nil, List.nodup_cons, List.mem_cons, List.not_mem_nil, or_false, not_or, List.nodup_nil,
    not_false_eq_true, and_true, Fld.key, R.CMD_RING_CTRL_en, R.CMD_SQ_PTR_head, R.CMD_SQ_PTR_tail, R.CMD_CQ_PTR_head, R.CMD_CQ_PTR_tail,
    R.CMD_CQ_PTR_phase, R.CMD_RING_CNT_accepted, R.CMD_RING_CNT_faulted_at_accept]
  omega

theorem State.ringEnabled_get {p : Fld × Nat} (hp : p ∈ enablePuts c) : (s.ringEnabled c).get p.1 = p.2 % 2 ^ p.1.w :=
  State.get_puts_mem _ _ rfl (enablePuts_nodup c) hp

theorem State.ringEnabled_rings : (s.ringEnabled c).rings = (s.setRing c RingSt.none).rings := by
  rw [State.ringEnabled, State.puts_only]

theorem State.ringEnabled_writes :
    Writes ((enablePuts c).map Prod.fst) { s with rings := (s.ringEnabled c).rings } (s.ringEnabled c) := by
  rw [State.ringEnabled_rings]
  exact (s.setRing c RingSt.none).puts_writes (enablePuts c)

theorem State.ringDisable_off (hoff : s.ringOn c = false) : s.ringDisable c = s := by
  rw [State.ringDisable, hoff]
  rfl

theorem State.ringDisable_free (hon : s.ringOn c = true) (hfree : ∀ d ∈ s.descs, d.ctx ≠ c) :
    s.ringDisable c = s.put (R.CMD_RING_CTRL_en c) 0 := by
  rw [State.ringDisable, hon, if_neg (by decide), if_neg (by simpa using hfree)]

theorem State.ringDisable_busy (hon : s.ringOn c = true) {d : CmdDesc} (hd : d ∈ s.descs) (hctx : d.ctx = c) :
    s.ringDisable c = s.raiseRing c 1 := by
  have hbusy : s.descs.any (fun d => d.ctx == c) = true := List.any_eq_true.2 ⟨d, hd, beq_iff_eq.2 hctx⟩
  rw [State.ringDisable, hon, if_neg (by decide), if_pos hbusy]

/-! ### Submission doorbells (R376) -/

/-- The tail is one that a doorbell may move to. -/
def State.DoorbellGood (s : State) (c tail : Nat) : Prop :=
  let size := s.sqSize c
  let old := s.get (R.CMD_SQ_PTR_tail c)
  let n := (tail + size - old) % size
  let held := (old + size - s.get (R.CMD_SQ_PTR_head c)) % size
  s.ctxState c = 1 ∧ s.ringOn c = true ∧ tail < size ∧ 1 ≤ n ∧ n ≤ 64 ∧ n + held ≤ size - 1 ∧ (s.ring c).nextAccept = old

/-- The tail has moved, and its arrival is stamped. -/
def State.tailMoved (s : State) (c tail : Nat) : State :=
  ((s.put (R.CMD_SQ_PTR_tail c) tail).setRing c { s.ring c with arrival := (s.frame, s.tick) }).pmu 0xE6 (some c) 1

theorem State.doorbell_good {tail : Nat} (h : s.DoorbellGood c tail) : s.doorbell c tail = s.tailMoved c tail := by
  obtain ⟨hactive, hon, htail, hsome, hfew, hroom, hnext⟩ := h
  refine if_neg ?_
  rintro (h | h | h | h | h | h | h)
  · exact h hactive
  · exact absurd (h.symm.trans hon) (by decide)
  · exact absurd htail (Nat.not_lt.2 h)
  · exact absurd hsome (by rw [h]; decide)
  · exact absurd hfew (Nat.not_le.2 h)
  · exact absurd hroom (Nat.not_le.2 h)
  · exact h hnext

theorem State.doorbell_bad {tail : Nat} (h : ¬ s.DoorbellGood c tail) : s.doorbell c tail = s.raiseRing c 0 := by
  refine if_pos (by_contra fun hno => h ?_)
  simp only [not_or, not_not, Bool.not_eq_false, Nat.not_le, Nat.not_lt, ne_eq] at hno
  obtain ⟨hactive, hon, htail, hsome, hfew, hroom, hnext⟩ := hno
  exact ⟨hactive, hon, htail, Nat.one_le_iff_ne_zero.2 hsome, hfew, hroom, hnext⟩

theorem State.tailMoved_signals (tail : Nat) : Signals [R.CMD_SQ_PTR_tail c]
    ((s.put (R.CMD_SQ_PTR_tail c) tail).setRing c { s.ring c with arrival := (s.frame, s.tick) }) (s.tailMoved c tail) :=
  State.pmu_signals _ _ _ _ _

theorem State.tailMoved_get (hc : c < 64) (tail : Nat) : (s.tailMoved c tail).get (R.CMD_SQ_PTR_tail c) = tail % 4096 := by
  rw [State.tailMoved, State.pmu_get _ _ _ _ (ringRegs_not_inPmu hc _ (by simp [ringRegs])), State.get_setRing]
  exact State.get_put_same _ _ _

theorem State.tailMoved_ring (tail : Nat) : (s.tailMoved c tail).ring c = { s.ring c with arrival := (s.frame, s.tick) } :=
  (State.ring_congr (State.tailMoved_signals tail).1.rings c).trans (State.ring_setRing _ c _)

theorem State.tailMoved_only (tail : Nat) :
    Signals [R.CMD_SQ_PTR_tail c] { s with rings := (s.tailMoved c tail).rings } (s.tailMoved c tail) := by
  have hsignals := State.tailMoved_signals (s := s) (c := c) tail
  rw [hsignals.1.rings]
  exact (State.put_signals (s.setRing c _) tail (List.mem_singleton_self _)).trans hsignals

/-! ### Completion doorbells (R381) -/

theorem State.cqDoorbell_ignored {head : Nat} (h : s.ringOn c = false ∨ s.cqSize c ≤ head) : s.cqDoorbell c head = s := by
  refine if_neg ?_
  rintro ⟨hon, hhead⟩
  rcases h with h | h
  · exact absurd (h.symm.trans hon) (by decide)
  · omega

theorem State.cqDoorbell_none {head : Nat} (hon : s.ringOn c = true) (hhead : head < s.cqSize c) (hwaiting : (s.ring c).waiting = []) :
    s.cqDoorbell c head = s.put (R.CMD_CQ_PTR_head c) head := by
  rw [State.cqDoorbell, if_pos ⟨hon, hhead⟩, hwaiting]
  rfl

/-- The head has moved, and no record waits. -/
def State.cqHeadMoved (s : State) (c head : Nat) : State := (s.put (R.CMD_CQ_PTR_head c) head).setRing c { s.ring c with waiting := [] }

theorem State.cqHeadMoved_get {head : Nat} {f : Fld} (hf : f.key ≠ (R.CMD_CQ_PTR_head c).key) : (s.cqHeadMoved c head).get f = s.get f :=
  State.get_put_other s _ f head hf

theorem cqHead_key_ne (c : Nat) : ∀ f ∈ [R.CMD_CQ_BASE_LO c, R.CMD_CQ_BASE_HI c, R.CMD_RING_CFG_cq_log2 c, R.CMD_CQ_PTR_tail c,
    R.CMD_CQ_PTR_phase c], f.key ≠ (R.CMD_CQ_PTR_head c).key := by
  simp only [List.forall_mem_cons, List.not_mem_nil, false_imp_iff, implies_true, and_true, Fld.key, R.CMD_CQ_BASE_LO, R.CMD_CQ_BASE_HI,
    R.CMD_RING_CFG_cq_log2, R.CMD_CQ_PTR_tail, R.CMD_CQ_PTR_phase, R.CMD_CQ_PTR_head]
  omega

theorem State.cqHeadMoved_entry (head : Nat) : (s.cqHeadMoved c head).cqEntry c = s.cqEntry c := by
  have hkeys := cqHead_key_ne c
  simp only [State.cqEntry, State.cqBase, State.cqHeadMoved_get (hkeys (R.CMD_CQ_BASE_LO c) (by simp)),
    State.cqHeadMoved_get (hkeys (R.CMD_CQ_BASE_HI c) (by simp)), State.cqHeadMoved_get (hkeys (R.CMD_CQ_PTR_tail c) (by simp))]

/-- One record held back enters the entry that the head frees. -/
theorem State.cqDoorbell_one {head : Nat} {r : Record} (hon : s.ringOn c = true) (hhead : head < s.cqSize c) (hfits : head < 4096)
    (hwaiting : (s.ring c).waiting = [r]) (hfree : (s.get (R.CMD_CQ_PTR_tail c) + 1) % s.cqSize c ≠ head) :
    s.cqDoorbell c head = (s.cqHeadMoved c head).postNow c r := by
  have hkeys := cqHead_key_ne c
  have htail : (s.put (R.CMD_CQ_PTR_head c) head).get (R.CMD_CQ_PTR_tail c) = s.get (R.CMD_CQ_PTR_tail c) :=
    State.get_put_other s _ _ head (hkeys _ (by simp))
  have hsize : (s.put (R.CMD_CQ_PTR_head c) head).cqSize c = s.cqSize c :=
    congrArg (2 ^ ·) (State.get_put_other s _ _ head (hkeys _ (by simp)))
  have hnew : (s.put (R.CMD_CQ_PTR_head c) head).get (R.CMD_CQ_PTR_head c) = head :=
    (State.get_put_same s _ head).trans (Nat.mod_eq_of_lt hfits)
  have hcqFree : (s.put (R.CMD_CQ_PTR_head c) head).cqFree c = true := by
    rw [State.cqFree, htail, hsize, hnew]
    exact bne_iff_ne.2 hfree
  rw [State.cqDoorbell, if_pos ⟨hon, hhead⟩, hwaiting]
  exact State.postWaiting_one (s := s.put (R.CMD_CQ_PTR_head c) head) hwaiting hcqFree

/-- That record stands at the tail, and no other byte differs. -/
theorem State.cqHeadMoved_posts (hc : c < 64) (head : Nat) (r : Record) :
    let t := (s.cqHeadMoved c head).postNow c r
    (t.ring c).waiting = [] ∧ t.readMem (s.cqEntry c) 32 = r.bytes (s.get (R.CMD_CQ_PTR_phase c)) ∧ SameMemBut (s.cqEntry c) 32 s t := by
  rw [← State.cqHeadMoved_entry head, ← State.cqHeadMoved_get (head := head) (cqHead_key_ne c (R.CMD_CQ_PTR_phase c) (by simp))]
  refine ⟨?_, State.postNow_readMem hc, State.postNow_sameMemBut hc⟩
  rw [State.postNow_ring hc, State.cqHeadMoved, State.ring_setRing]

/-! ### The commands -/

variable {ctx : Fin 64}

theorem exec_ringEnable (hup : s.blockUp 7 = true) : exec (.ringEnable ctx) s = .next (s.ringEnable ctx.val) := congrArg _ (if_pos hup)

theorem exec_ringDisable (hup : s.blockUp 7 = true) : exec (.ringDisable ctx) s = .next (s.ringDisable ctx.val) := congrArg _ (if_pos hup)

theorem exec_sqDoorbell {tail : BitVec 12} (hup : s.blockUp 7 = true) :
    exec (.sqDoorbell ctx tail) s = .next (s.doorbell ctx.val tail.toNat) := congrArg _ (if_pos hup)

theorem exec_cqDoorbell {head : BitVec 12} (hup : s.blockUp 7 = true) :
    exec (.cqDoorbell ctx head) s = .next (s.cqDoorbell ctx.val head.toNat) := congrArg _ (if_pos hup)

end

/-- Settles O51: rings and doorbells by command, a completion by `State.post_cases`, and a pass by its rulings. -/
theorem ringsAndPasses : Obligations.RingsAndPasses := by
  unfold Obligations.RingsAndPasses
  refine ⟨fun c s hup => ⟨fun hon => ?_, fun hoff hresident hok => ?_, fun hoff hbad => ?_, fun hoff => ?_, fun hon hfree => ?_,
      fun d hd hon hctx => ?_, fun tail => ⟨fun hbad => ?_, fun hgood => ?_⟩, fun head => ⟨fun hoff => ?_, fun hon hhead hwaiting => ?_,
      fun r hon hhead hwaiting hfree => ?_⟩⟩, fun s d st hc hsignals => ?_,
    fun s => ⟨fun hruns htick hfirst hstatic => ⟨fun hnone => ?_, ?_⟩, exec_admissionPass_idle, fun hup hcounting htick hfirst hnone =>
      ⟨fun hearly => ?_, fun d hdescs hhandled hlate => ⟨fun hheld => ?_, fun x hdusk hsource hwait => ?_⟩⟩⟩⟩
  · rw [exec_ringEnable hup, State.ringEnable_on hon]
  · have hread := fun {p : Fld × Nat} (hp : p ∈ enablePuts c.val) => State.ringEnabled_get (s := s) hp
    refine ⟨_, (exec_ringEnable hup).trans (congrArg _ (State.ringEnable_good hoff hresident hok)),
      hread (p := (R.CMD_RING_CTRL_en c.val, 1)) (by simp [enablePuts]),
      hread (p := (R.CMD_CQ_PTR_phase c.val, 1)) (by simp [enablePuts]), ?_, ?_,
      State.ringEnabled_writes⟩
    · intro f hf
      exact (hread (p := (f, 0)) (by revert f; simp [enablePuts])).trans (Nat.zero_mod _)
    · exact (State.ring_congr State.ringEnabled_rings c.val).trans (s.ring_setRing c.val _)
  · rw [exec_ringEnable hup, State.ringEnable_bad hoff hbad]
  · rw [exec_ringDisable hup, State.ringDisable_off hoff]
  · exact sets_of_put ((exec_ringDisable hup).trans (congrArg _ (State.ringDisable_free hon hfree))) (Nat.two_pow_pos _)
  · rw [exec_ringDisable hup, State.ringDisable_busy hon hd hctx]
  · rw [exec_sqDoorbell hup, State.doorbell_bad hbad]
  · exact ⟨_, (exec_sqDoorbell hup).trans (congrArg _ (State.doorbell_good hgood)),
      (State.tailMoved_get c.isLt _).trans (Nat.mod_eq_of_lt tail.isLt), State.tailMoved_ring _, State.tailMoved_only _⟩
  · rw [exec_cqDoorbell hup, State.cqDoorbell_ignored hoff]
  · exact sets_of_put ((exec_cqDoorbell hup).trans (congrArg _ (State.cqDoorbell_none hon hhead hwaiting))) head.isLt
  · exact ⟨_, (exec_cqDoorbell hup).trans (congrArg _ (State.cqDoorbell_one hon hhead head.isLt hwaiting hfree)),
      State.cqHeadMoved_posts c.isLt _ r⟩
  · refine ⟨State.finish_outcome hc hsignals, State.finish_leaves hc hsignals, fun hwaiting hfree => ?_, State.finish_held hc hsignals⟩
    obtain ⟨hread, hmem, htail⟩ := State.finish_posted (st := st) hc hsignals hwaiting hfree
    exact ⟨hread, hmem, htail, State.finish_head hc hsignals hwaiting hfree⟩
  · rw [exec_admissionPass_runs hruns htick hfirst, State.pass_none hstatic hnone]
  · intro d q rest hbefore hafter hdescs heligible hvector hunit hhome hnew hserving hq _ hspan hdeadline hlimit hframe hdram y
    have hlone : s.LoneVector (s.frame + 1) d q rest :=
      ⟨hdescs, heligible, hvector, hunit, hhome, hserving, hq, hspan, hdeadline, hlimit, hframe, hdram⟩
    rw [exec_admissionPass_runs hruns htick hfirst, hlone.pass hstatic hbefore hafter, hnew]
    rfl
  · rw [exec_deadlineRefusal hup hcounting htick hfirst hnone, State.refuseLate_early]
    intro d hd
    obtain ⟨hmem, hhandled⟩ := List.mem_filter.1 hd
    exact hearly d hmem hhandled
  · rw [exec_deadlineRefusal hup hcounting htick hfirst hnone, hdescs, List.filter_cons_of_pos hhandled, List.filter_nil,
      State.refuseLate_single hlate, State.refusalCause_held hheld]
  · rw [exec_deadlineRefusal hup hcounting htick hfirst hnone, hdescs, List.filter_cons_of_pos hhandled, List.filter_nil,
      State.refuseLate_single hlate, State.refusalCause_thermal hdusk hsource hwait]

end Sys2Proof.Machine
end

section
/-!
PROOFS. Transactions, flit headers and flit messages read back as they were built (R451–R453).
-/

namespace Sys2Proof.Machine

/-! ### A transaction's header and its bytes (R453) -/

/-- Every field fits its width. -/
def Txn.Fits (t : Txn) : Prop :=
  t.kind < 16 ∧ t.info < 256 ∧ t.dst < 1024 ∧ t.origin < 1024 ∧ t.tenant < 1024 ∧ t.hops < 16 ∧ t.job < 65536 ∧ t.xfer < 65536 ∧
    t.arg < 2 ^ 32 ∧ t.data.length = 64

/-- The number in the 16 header bytes. -/
def Txn.headNum (t : Txn) : Nat :=
  t.kind + 2 ^ 4 * b2n t.sched + 2 ^ 5 * b2n t.last + 2 ^ 6 * b2n t.detoured + 2 ^ 8 * t.info + 2 ^ 16 * t.dst +
    2 ^ 26 * t.origin + 2 ^ 36 * t.tenant + 2 ^ 46 * t.hops + 2 ^ 64 * t.job + 2 ^ 80 * t.xfer + 2 ^ 96 * t.arg

theorem Txn.bytes_eq (t : Txn) : t.bytes = toLE 16 t.headNum ++ t.data := rfl

/-- A bit of a number that holds `b` there. -/
theorem bitAt_of_b2n {n i : Nat} {b : Bool} (h : n / 2 ^ i % 2 = b2n b) : bitAt n i = b := by
  rw [bitAt, h]
  cases b <;> rfl

variable {t : Txn}

theorem Txn.Fits.headNum_lt (h : t.Fits) : t.headNum < 256 ^ 16 := by
  obtain ⟨hkind, hinfo, hdst, horigin, htenant, hhops, hjob, hxfer, harg, -⟩ := h
  have := b2n_lt_two t.sched
  have := b2n_lt_two t.last
  have := b2n_lt_two t.detoured
  unfold Txn.headNum
  omega

/-- The fields of the header number. -/
theorem Txn.Fits.headNum_fields (h : t.Fits) :
    bits t.headNum 0 4 = t.kind ∧ bitAt t.headNum 4 = t.sched ∧ bitAt t.headNum 5 = t.last ∧ bitAt t.headNum 6 = t.detoured ∧
    bitAt t.headNum 7 = false ∧ bits t.headNum 8 8 = t.info ∧ bits t.headNum 16 10 = t.dst ∧ bits t.headNum 26 10 = t.origin ∧
    bits t.headNum 36 10 = t.tenant ∧ bits t.headNum 46 4 = t.hops ∧ bits t.headNum 50 14 = 0 ∧ bits t.headNum 64 16 = t.job ∧
    bits t.headNum 80 16 = t.xfer ∧ bits t.headNum 96 32 = t.arg := by
  obtain ⟨hkind, hinfo, hdst, horigin, htenant, hhops, hjob, hxfer, harg, -⟩ := h
  have hsched := b2n_lt_two t.sched
  have hlast := b2n_lt_two t.last
  have hdetoured := b2n_lt_two t.detoured
  unfold Txn.headNum bits
  refine ⟨?_, bitAt_of_b2n ?_, bitAt_of_b2n ?_, bitAt_of_b2n ?_, bitAt_of_b2n (b := false) ?_, ?_, ?_, ?_, ?_, ?_, ?_, ?_, ?_, ?_⟩
  all_goals
    try rw [show b2n false = 0 from rfl]
    omega

theorem leAt_toLE_append (n v : Nat) (l : List Byte) : leAt (toLE n v ++ l) 0 n = v % 256 ^ n := by
  rw [leAt, List.drop_zero, List.take_left' (toLE_length n v), ofLE_toLE]

theorem Txn.Fits.leAt_bytes (h : t.Fits) : leAt t.bytes 0 16 = t.headNum := by
  rw [Txn.bytes_eq, leAt_toLE_append, Nat.mod_eq_of_lt h.headNum_lt]

theorem Txn.Fits.bytes_length (h : t.Fits) : t.bytes.length = 80 := by
  obtain ⟨-, -, -, -, -, -, -, -, -, hdata⟩ := h
  rw [Txn.bytes_eq, List.length_append, toLE_length, hdata]

theorem Txn.Fits.ofBytes_bytes (h : t.Fits) : Txn.ofBytes t.bytes = t := by
  obtain ⟨hkind, hsched, hlast, hdetoured, -, hinfo, hdst, horigin, htenant, hhops, -, hjob, hxfer, harg⟩ := h.headNum_fields
  have hdata : (t.bytes.drop 16).take 64 = t.data := by
    obtain ⟨-, -, -, -, -, -, -, -, -, hlen⟩ := h
    rw [Txn.bytes_eq, List.drop_left' (toLE_length _ _), List.take_of_length_le (by omega)]
  simp only [Txn.ofBytes, h.leAt_bytes, hkind, hsched, hlast, hdetoured, hinfo, hdst, horigin, htenant, hhops, hjob, hxfer, harg, hdata]

/-- What a type allows its fields (R453). -/
theorem Txn.Fits.not_malformed (h : t.Fits)
    (htype : t.kind = 1 ∨ t.kind = 2 ∨ (t.kind = 3 ∧ t.arg < 2 ^ 28 ∧ t.data = zeroLine) ∨ (t.kind = 4 ∧ t.sched = false ∧ t.data = zeroLine))
    (hinfo : t.info = 0 ∨ t.kind = 2 ∨ t.kind = 4) : malformed t.bytes = false := by
  obtain ⟨-, -, -, -, hbit, -, -, -, -, -, hgap, -, -, -⟩ := h.headNum_fields
  have hzero : ∀ x ∈ zeroLine, x = 0#8 := fun _ hx => List.eq_of_mem_replicate hx
  unfold malformed
  dsimp only
  rw [h.ofBytes_bytes, h.leAt_bytes, hbit, hgap]
  rcases htype with hk | hk | ⟨hk, harg, hdata⟩ | ⟨hk, hsched, hdata⟩
  · simpa [hk] using hinfo
  · simp [hk]
  · have htop : bits t.arg 28 4 = 0 := by rw [bits]; omega
    simpa [hk, htop, hdata] using ⟨by simpa [hk] using hinfo, hzero⟩
  · simpa [hk, hsched, hdata] using hzero

/-! ### A flit's header (R452) -/

/-- Every field fits its width, and each of the three slots has a kind. -/
def FlitHead.Fits (h : FlitHead) : Prop :=
  h.seq < 65536 ∧ h.ack < 65536 ∧ h.pool < 4 ∧ h.hopClass < 16 ∧ h.credits < 1024 ∧ h.kinds.length = 3 ∧ ∀ k ∈ h.kinds, k < 4

variable {f : FlitHead}

theorem FlitHead.Fits.kinds_eq (h : f.Fits) : ∃ a b c, f.kinds = [a, b, c] ∧ a < 4 ∧ b < 4 ∧ c < 4 := by
  obtain ⟨-, -, -, -, -, hlen, hkinds⟩ := h
  obtain ⟨a, b, c, heq⟩ := List.length_eq_three.1 hlen
  exact ⟨a, b, c, heq, by simpa [heq] using hkinds⟩

theorem FlitHead.Fits.toNat_lt (h : f.Fits) : f.toNat < 2 ^ 96 := by
  obtain ⟨a, b, c, hk, ha, hb, hc⟩ := h.kinds_eq
  obtain ⟨hseq, hack, hpool, hhop, hcredits, -, -⟩ := h
  have := b2n_lt_two f.nak
  have := b2n_lt_two f.idle
  have := b2n_lt_two f.reserved
  simp only [FlitHead.toNat, hk, List.getD_cons_zero, List.getD_cons_succ]
  omega

theorem FlitHead.Fits.ofNat_toNat (h : f.Fits) : FlitHead.ofNat f.toNat = f := by
  obtain ⟨a, b, c, hk, ha, hb, hc⟩ := h.kinds_eq
  obtain ⟨hseq, hack, hpool, hhop, hcredits, -, -⟩ := h
  have hnak := b2n_lt_two f.nak
  have hidle := b2n_lt_two f.idle
  have hreserved := b2n_lt_two f.reserved
  have hidle1 : (b2n f.idle == 1) = f.idle := by cases f.idle <;> rfl
  obtain ⟨seq, ack, nak, idle, pool, reserved, hopClass, credits, kinds⟩ := f
  simp only at hk hseq hack hpool hhop hcredits hnak hidle hreserved hidle1
  subst hk
  simp only [FlitHead.ofNat, FlitHead.toNat, List.getD_cons_zero, List.getD_cons_succ, FlitHead.mk.injEq, List.cons.injEq, and_true, bits]
  refine ⟨?_, ?_, bitAt_of_b2n ?_, ?_, ?_, bitAt_of_b2n ?_, ?_, ?_, ?_, ?_, ?_⟩
  case refine_4 => exact (congrArg (· == 1) (by omega)).trans hidle1
  all_goals omega

/-! ### A flit's message (R451) -/

theorem crc32Bit_lt {r : Nat} (b : Bool) (h : r < 2 ^ 32) : crc32Bit r b < 2 ^ 32 := by
  have hhalf : r / 2 < 2 ^ 32 := by omega
  unfold crc32Bit
  split
  · exact Nat.xor_lt_two_pow hhalf (by decide)
  · exact hhalf

theorem crc32_lt (bs : List Byte) : crc32 bs < 2 ^ 32 := by
  refine Nat.xor_lt_two_pow ?_ (by decide)
  exact List.foldlRecOn (motive := fun r => r < 2 ^ 32) _ crc32Bit (by decide) fun _ h b _ => crc32Bit_lt b h

/-- The 80 bytes that slot `i` of a message holds. -/
def slotBytes (ts : List Txn) (i : Nat) : List Byte :=
  match ts[i]? with
  | some t => t.bytes
  | none => List.replicate 80 0

/-- What the CRC-32 of a message covers. -/
def flitBody (h : FlitHead) (ts : List Txn) : List Byte := toLE 12 h.toNat ++ slotBytes ts 0 ++ slotBytes ts 1 ++ slotBytes ts 2

theorem flitMessage_eq (h : FlitHead) (ts : List Txn) : flitMessage h ts = flitBody h ts ++ toLE 4 (crc32 (flitBody h ts)) := rfl

theorem slotBytes_some {ts : List Txn} {i : Nat} (hi : ts[i]? = some t) : slotBytes ts i = t.bytes := by
  rw [slotBytes, hi]

variable {ts : List Txn}

theorem slotBytes_length (hts : ∀ t ∈ ts, t.Fits) (i : Nat) : (slotBytes ts i).length = 80 := by
  unfold slotBytes
  split
  case h_1 t ht => exact (hts t (List.mem_of_getElem? ht)).bytes_length
  case h_2 => exact List.length_replicate

theorem flitBody_length (hts : ∀ t ∈ ts, t.Fits) (h : FlitHead) : (flitBody h ts).length = 252 := by
  simp [flitBody, slotBytes_length hts]

theorem flitMessage_length (hts : ∀ t ∈ ts, t.Fits) (h : FlitHead) : (flitMessage h ts).length = 256 := by
  simp [flitMessage_eq, flitBody_length hts]

theorem flitGood_flitMessage (hts : ∀ t ∈ ts, t.Fits) (h : FlitHead) : flitGood (flitMessage h ts) = true := by
  have hlen := flitBody_length hts h
  have hcrc := crc32_lt (flitBody h ts)
  have hread : leAt (flitMessage h ts) 252 4 = crc32 (flitBody h ts) := by
    rw [flitMessage_eq, leAt, List.drop_left' hlen, List.take_of_length_le (by simp), ofLE_toLE]
    omega
  rw [flitGood, hread, flitMessage_eq, List.take_left' hlen, beq_self_eq_true]

theorem leAt_flitMessage (hf : f.Fits) (ts : List Txn) : leAt (flitMessage f ts) 0 12 = f.toNat := by
  have hlt := hf.toNat_lt
  simp only [flitMessage_eq, flitBody, List.append_assoc, leAt_toLE_append]
  omega

/-- What lies at a slot's place is the slot. -/
theorem flitSlot_append {a x b : List Byte} {i : Nat} (ha : a.length = 12 + 80 * i) (hx : x.length = 80) :
    flitSlot (a ++ (x ++ b)) i = x := by
  rw [flitSlot, List.drop_left' ha, List.take_left' hx]

theorem flitSlot_flitMessage (hts : ∀ t ∈ ts, t.Fits) (h : FlitHead) {i : Nat} (hi : i < 3) :
    flitSlot (flitMessage h ts) i = slotBytes ts i := by
  have hlen := slotBytes_length hts
  rw [flitMessage_eq, flitBody]
  generalize toLE 4 _ = tail
  match i, hi with
  | 0, _ =>
    rw [List.append_assoc, List.append_assoc, List.append_assoc]
    exact flitSlot_append (toLE_length _ _) (hlen 0)
  | 1, _ =>
    rw [List.append_assoc, List.append_assoc]
    exact flitSlot_append (by simp [hlen]) (hlen 1)
  | 2, _ =>
    rw [List.append_assoc]
    exact flitSlot_append (by simp [hlen]) (hlen 2)

/-- Settles O55: the packed numbers give their fields back by the place of each, and a message's parts lie at fixed offsets because
every transaction has 80 bytes. -/
theorem flitsReadBack : Obligations.FlitsReadBack := by
  unfold Obligations.FlitsReadBack
  intro fits headFits
  refine ⟨fun t ht => ?_, fun h hh => ?_, fun h ts hh hlen hts => ?_⟩
  · have hfits : t.Fits := ht
    exact ⟨hfits.bytes_length, hfits.ofBytes_bytes, hfits.not_malformed⟩
  · have hfits : h.Fits := hh
    exact ⟨hfits.ofNat_toNat, hfits.toNat_lt⟩
  · have hfits : h.Fits := hh
    have hall : ∀ t ∈ ts, t.Fits := hts
    refine ⟨flitMessage_length hall h, flitGood_flitMessage hall h, ?_, fun i t ht => ?_⟩
    · rw [leAt_flitMessage hfits, hfits.ofNat_toNat]
    · have hi : i < ts.length := (List.getElem?_eq_some_iff.1 ht).1
      have hslot := (flitSlot_flitMessage hall h (Nat.lt_of_lt_of_le hi hlen)).trans (slotBytes_some ht)
      exact ⟨hslot, hslot ▸ (hall t (List.mem_of_getElem? ht)).ofBytes_bytes⟩

end Sys2Proof.Machine
end

section
/-!
PROOFS. The queue, and the state after reset (R494, logs 1, 2).
-/

namespace Sys2Proof.Machine

/-- Settles O1: `step` is a match on the queue. -/
theorem stepRunsFront : Obligations.StepRunsFront := by
  unfold Obligations.StepRunsFront
  intro c rest s hpending
  rw [step, hpending]

/-- The register file lists no field after reset. -/
theorem State.reset_get (f : Fld) : State.reset.get f = f.rst := rfl

/-- Settles O3: the file lists no field, and a field not listed holds its reset value. -/
theorem resetRegisters : Obligations.ResetRegisters := by
  unfold Obligations.ResetRegisters
  exact ⟨State.reset_get, rfl, rfl, rfl, rfl, rfl, State.reset_get _, State.reset_get _, State.reset_get _, State.reset_get _⟩

/-- Settles O6. -/
theorem resetMemoryCanonical : Obligations.ResetMemoryCanonical := Memory.reset_wf

end Sys2Proof.Machine
end

section
/-!
PROOFS. Synchronisation objects and their timers (R431, R433, R435).
-/

namespace Sys2Proof.Machine

section
variable {s t : State}

/-- Who owns an object is told by the CTX block and the saved contexts (R433). -/
theorem State.syncOwned_congr (hget : ∀ g : Fld, g.key < 32 * 0x1C0000 → t.get g = s.get g) (hsaved : t.saved = s.saved) (o : Nat) :
    t.syncOwned o = s.syncOwned o := by
  have hslot : ∀ c ∈ List.range 64, (t.ctxState c != 0 && t.inRangeOf c o) = (s.ctxState c != 0 && s.inRangeOf c o) := by
    intro c hc
    have hlt : c < 64 := List.mem_range.1 hc
    have hstate := hget (R.CTX_STAT_state c) (by simp only [Fld.key, R.CTX_STAT_state]; omega)
    have hbase := hget (R.CTX_SYNC_base c) (by simp only [Fld.key, R.CTX_SYNC_base]; omega)
    have hcount := hget (R.CTX_SYNC_count c) (by simp only [Fld.key, R.CTX_SYNC_count]; omega)
    have hrange : t.syncRange c = s.syncRange c := by rw [State.syncRange, hbase, hcount, State.syncRange]
    rw [State.ctxState, hstate, State.inRangeOf, hrange, State.ctxState, State.inRangeOf]
  have hany : (List.range 64).any (fun c => t.ctxState c != 0 && t.inRangeOf c o) =
      (List.range 64).any (fun c => s.ctxState c != 0 && s.inRangeOf c o) := by
    rw [Bool.eq_iff_iff, List.any_eq_true, List.any_eq_true]
    exact exists_congr fun c => and_congr_right fun hc => by rw [hslot c hc]
  rw [State.syncOwned, State.syncOwned, hany, hsaved]

variable {obj : BitVec 12} {value : BitVec 16} (hup : s.blockUp 9 = true)
include hup

theorem exec_syncSignal (hown : s.syncOwned obj.toNat = true) :
    exec (.syncSignal obj value) s = .next (s.put (R.SYNC_VAL_value obj.toNat) (s.syncVal obj.toNat + value.toNat)) :=
  congrArg _ (if_pos (by rw [hup, hown]; rfl))

theorem exec_syncValWrite (hown : s.syncOwned obj.toNat = true) :
    exec (.syncValWrite obj value) s = .next (s.put (R.SYNC_VAL_value obj.toNat) value.toNat) :=
  congrArg _ (if_pos (by rw [hup, hown]; rfl))

theorem exec_syncTimerArm (k : Fin 16) :
    exec (.syncTimerArm k obj value) s = .next (s.timerArm k.val obj.toNat value.toNat) := congrArg _ (if_pos hup)

theorem exec_syncTimerFire {k : Fin 16} (hen : s.get (R.SYNC_TMR_CFG_en k.val) = 1) (hcounting : s.hzn.counting = true)
    (hdue : s.timerAt k.val ≤ s.horizon) : exec (.syncTimerFire k) s = .next (s.timerFire k.val) :=
  congrArg _ (if_pos (by simp [hup, hen, hcounting, hdue]))

end

/-! ### Timers -/

section
variable {s : State} {k o v : Nat}

/-- A timer's object and value, and its enable. -/
def armPuts (k o v : Nat) : List (Fld × Nat) :=
  [(R.SYNC_TMR_CFG_object k, o), (R.SYNC_TMR_CFG_value k, v), (R.SYNC_TMR_CFG_en k, 1)]

theorem armFields_nodup (k : Nat) :
    ([R.SYNC_TMR_CFG_object k, R.SYNC_TMR_CFG_value k, R.SYNC_TMR_CFG_en k].map Fld.key).Nodup := by
  simp [Fld.key, R.SYNC_TMR_CFG_object, R.SYNC_TMR_CFG_value, R.SYNC_TMR_CFG_en]

/-- A timer's instant lies in other registers than its object and value. -/
theorem State.timerAt_puts (s : State) (k o v : Nat) :
    (s.puts [(R.SYNC_TMR_CFG_object k, o), (R.SYNC_TMR_CFG_value k, v)]).timerAt k = s.timerAt k := by
  have hother : ∀ g : Fld, g.off = 0x1C4014 + 0x10 * k ∨ g.off = 0x1C4018 + 0x10 * k → g.lo < 32 →
      (s.puts [(R.SYNC_TMR_CFG_object k, o), (R.SYNC_TMR_CFG_value k, v)]).get g = s.get g := by
    intro g hoff hlo
    refine s.get_puts_other _ g ?_
    simp only [List.forall_mem_cons, List.not_mem_nil, false_imp_iff, implies_true, and_true, Fld.key, R.SYNC_TMR_CFG_object,
      R.SYNC_TMR_CFG_value]
    omega
  rw [State.timerAt, State.timerAt, hother (R.SYNC_TMR_LO_frame k) (.inl rfl) (by decide : (0 : Nat) < 32),
    hother (R.SYNC_TMR_HI_frame k) (.inr rfl) (by decide : (0 : Nat) < 32),
    hother (R.SYNC_TMR_HI_tick k) (.inr rfl) (by decide : (16 : Nat) < 32)]

/-- A timer of an owned object whose instant has not passed is armed (R435). -/
theorem State.timerArm_armed (hown : s.syncOwned o = true) (hdue : s.hzn.counting = false ∨ s.horizon ≤ s.timerAt k) :
    s.timerArm k o v = s.puts (armPuts k o v) := by
  have hown1 : (s.puts [(R.SYNC_TMR_CFG_object k, o), (R.SYNC_TMR_CFG_value k, v)]).syncOwned o = true := by
    rw [State.syncOwned_congr (s := s) (fun g hg => s.get_puts_other _ g ?_) rfl o, hown]
    simp only [List.forall_mem_cons, List.not_mem_nil, false_imp_iff, implies_true, and_true, Fld.key, R.SYNC_TMR_CFG_object,
      R.SYNC_TMR_CFG_value] at hg ⊢
    omega
  unfold State.timerArm
  dsimp only
  rw [hown1, State.timerAt_puts, Bool.not_true, if_neg Bool.false_ne_true]
  refine if_neg fun h => ?_
  obtain ⟨hcounting, hlt⟩ := Bool.and_eq_true_iff.1 h
  rcases hdue with hno | hle
  · exact absurd hcounting (by rw [show (s.puts _).hzn = s.hzn from rfl, hno]; exact Bool.false_ne_true)
  · exact absurd (of_decide_eq_true hlt) (Nat.not_lt.2 hle)

/-- A timer that fires puts its object, its enable and the event bit. -/
theorem State.timerFire_writes (s : State) (k : Nat) (hobj : s.get (R.SYNC_TMR_CFG_object k) = o) :
    Writes [R.SYNC_VAL_value o, R.SYNC_TMR_CFG_en k, R.SYNC_EVT] s (s.timerFire k) := by
  refine ⟨rfl, ?_⟩
  unfold State.timerFire
  rw [hobj]
  exact (((FieldsBut.refl _ s).put _ _ (by simp)).put _ _ (by simp)).put _ _ (by simp)

theorem State.timerFire_gets (s : State) (hk : k < 16) (ho : o < 4096) (hobj : s.get (R.SYNC_TMR_CFG_object k) = o) :
    (s.timerFire k).get (R.SYNC_VAL_value o) = (s.syncVal o + s.get (R.SYNC_TMR_CFG_value k)) % 65536 ∧
    (s.timerFire k).get (R.SYNC_TMR_CFG_en k) = 0 ∧ BitSet (s.timerFire k) R.SYNC_EVT 0 := by
  unfold State.timerFire
  rw [hobj]
  refine ⟨?_, ?_, ?_⟩
  · rw [State.setBit_eq, State.get_put_other, State.get_put_other]
    · exact State.get_put_same ..
    · simp only [Fld.key, R.SYNC_VAL_value, R.SYNC_TMR_CFG_en]
      omega
    · simp only [Fld.key, R.SYNC_VAL_value, R.SYNC_EVT]
      omega
  · rw [State.setBit_eq, State.get_put_other]
    · exact (State.get_put_same ..).trans (Nat.zero_mod _)
    · simp only [Fld.key, R.SYNC_EVT, R.SYNC_TMR_CFG_en]
      omega
  · rw [BitSet, State.setBit_bit _ _ _ _ (by decide), BEq.rfl, Bool.or_true]

end

/-- Settles O8: each command puts the fields it names, and who owns an object does not hang on a timer's registers. -/
theorem syncObjects : Obligations.SyncObjects := by
  unfold Obligations.SyncObjects
  refine ⟨fun obj value s hup hown => ?_, fun obj value s hup hown => ?_, fun k obj value s hup hown hdue => ?_,
    fun k obj s hup hen hobj hcounting hdue => ?_⟩
  · exact ⟨_, exec_syncSignal hup hown, s.put_writes _ _, s.get_put_same _ _⟩
  · exact sets_of_put (exec_syncValWrite hup hown) value.isLt
  · have hget : ∀ p ∈ armPuts k.val obj.toNat value.toNat, (s.puts (armPuts k.val obj.toNat value.toNat)).get p.1 = p.2 % 2 ^ p.1.w :=
      fun p hp => s.get_puts_mem [R.SYNC_TMR_CFG_object k.val, R.SYNC_TMR_CFG_value k.val, R.SYNC_TMR_CFG_en k.val] rfl (armFields_nodup k.val) hp
    refine ⟨_, (exec_syncTimerArm hup k).trans (congrArg _ (State.timerArm_armed hown hdue)), s.puts_writes _, ?_, ?_, ?_⟩
    · exact (hget _ (List.mem_cons_self ..)).trans (Nat.mod_eq_of_lt obj.isLt)
    · exact (hget (R.SYNC_TMR_CFG_value k.val, _) (by simp [armPuts])).trans (Nat.mod_eq_of_lt value.isLt)
    · exact hget (R.SYNC_TMR_CFG_en k.val, 1) (by simp [armPuts])
  · exact ⟨_, exec_syncTimerFire hup hen hcounting hdue, s.timerFire_writes _ hobj, s.timerFire_gets k.isLt obj.isLt hobj⟩

end Sys2Proof.Machine
end

section
/-!
PROOFS. The CXL mailbox of a half (R495, log 87).
-/

namespace Sys2Proof.Machine

section
variable {s : State} {h : Fin 2}

/-- A mailbox command of a half whose mailbox answers: what it runs, and its reply. -/
theorem State.mailbox_answers (hm : s.cxlMbox h = true) (run : State → Nat × List Nat × State) :
    s.mailbox h run = (run s).2.2.emit (.mailbox h.val (run s).1 (run s).2.1) := if_pos hm

/-- A mailbox command that only reports. -/
theorem emits_of_mailbox {c : Instr} {run : State → Nat × List Nat × State} {code : Nat} {payload : List Nat} (hm : s.cxlMbox h = true)
    (hexec : exec c s = .next (s.mailbox h run)) (hrun : run s = (code, payload, s)) : Emits c (.mailbox h.val code payload) s := by
  rw [Emits, hexec, State.mailbox_answers hm, hrun]

/-- A mailbox command that replaces its half's registers. -/
theorem mailbox_setsHalf {c : Instr} {run : State → Nat × List Nat × State} {x : HalfSt} (hm : s.cxlMbox h = true)
    (hexec : exec c s = .next (s.mailbox h run)) (hrun : run s = (0, [], s.setHalf h x)) :
    ∃ t, exec c s = .next t ∧ OnlyHost s t ∧ OtherHalf h s t ∧ t.out = .mailbox h.val 0 [] :: s.out ∧ t.half h = x := by
  refine ⟨(s.setHalf h x).emit (.mailbox h.val 0 []), ?_, rfl, fun k hk => s.half_setHalf_other x hk, rfl, s.half_setHalf_same h x⟩
  rw [hexec, State.mailbox_answers hm, hrun]

end

/-- Settles O9: each of these runs nothing and replies. -/
theorem mailboxReports : Obligations.MailboxReports := by
  unfold Obligations.MailboxReports
  intro h s hm
  refine ⟨emits_of_mailbox hm rfl rfl, fun log => emits_of_mailbox hm rfl rfl, emits_of_mailbox hm rfl rfl, emits_of_mailbox hm rfl rfl,
    emits_of_mailbox hm rfl rfl, emits_of_mailbox hm rfl rfl, emits_of_mailbox hm rfl rfl, emits_of_mailbox hm rfl rfl,
    emits_of_mailbox hm rfl rfl, fun addr lines => emits_of_mailbox hm rfl rfl, fun opcode hop => ?_⟩
  exact emits_of_mailbox hm (congrArg _ (if_neg (by simpa using hop))) rfl

/-- Four bytes for each opcode. -/
theorem State.effectsLog_length (s : State) : s.effectsLog.length = 4 * mailboxOpcodes.length := by
  simp [State.effectsLog, mailboxOpcodes]

/-- Settles O10: three commands replace the half, and GET_LOG takes a part of a log that is long enough. -/
theorem mailboxChanges : Obligations.MailboxChanges := by
  unfold Obligations.MailboxChanges
  intro h s hm
  refine ⟨fun log hs => mailbox_setsHalf hm rfl rfl, fun policy => mailbox_setsHalf hm rfl rfl, fun ns => mailbox_setsHalf hm rfl rfl,
    fun start length hfit => ⟨((s.effectsLog.drop start.toNat).take length.toNat).map BitVec.toNat, ?_, ?_⟩⟩
  · have hin : (!true || decide (4 * mailboxOpcodes.length < start.toNat + length.toNat)) = false := by simpa using hfit
    show Host.Outcome.next (s.mailbox h _) = _
    rw [State.mailbox_answers hm, if_neg (by rw [hin]; exact Bool.false_ne_true)]
  · rw [List.length_map, List.length_take, List.length_drop, State.effectsLog_length]
    omega

end Sys2Proof.Machine
end

section
/-!
PROOFS. A half's DOE mailbox: discovery, the CDAT, SPDM responses (R492, R503, R504), secure sessions and IDE keys (R503, R505).
-/

namespace Sys2Proof.Machine

section
variable {s : State} {h : Fin 2} (hup : (s.half h).up = true) (hcfg : s.get R.GEN_READY_cfg_ready = 1)
include hup hcfg

theorem State.doeServes_up : s.doeServes h = true := by
  rw [State.doeServes, hup, hcfg]
  rfl

/-- A request that needs the negotiation, after it. -/
theorem State.spdm_runs (hneg : (s.half h).negotiated = true) (run : State → State) : s.spdm h run = run s := by
  rw [State.spdm, State.doeServes_up hup hcfg, Bool.not_true, if_neg Bool.false_ne_true, if_pos hneg]

/-- An SPDM request that only reports. -/
theorem emits_of_spdm (hneg : (s.half h).negotiated = true) {c : Instr} {run : State → State} {o : Out}
    (hexec : exec c s = .next (s.spdm h run)) (hrun : run s = s.emit o) : Emits c o s := by
  rw [Emits, hexec, State.spdm_runs hup hcfg hneg, hrun]

theorem exec_spdmNegotiate_good :
    exec (.spdmNegotiate h 0x12 true) s =
      .next ((s.setHalf h { s.half h with negotiated := true }).emit (.doe h.val "ALGORITHMS" [0x12])) := by
  refine congrArg Host.Outcome.next ((if_neg ?_).trans (if_pos ⟨rfl, rfl⟩))
  rw [State.doeServes_up hup hcfg]
  exact Bool.false_ne_true

end

/-- Settles O11: every response is emitted and nothing else happens. -/
theorem spdmResponses : Obligations.SpdmResponses := by
  unfold Obligations.SpdmResponses
  intro h s hup hcfg
  have hserves := State.doeServes_up hup hcfg
  refine ⟨fun i => congrArg _ (if_pos hserves), congrArg _ (if_pos hserves),
    ⟨_, exec_spdmNegotiate_good hup hcfg, rfl, fun k hk => s.half_setHalf_other _ hk, s.half_setHalf_same h _, rfl⟩, fun hneg => ⟨?_, ?_, ?_, ?_, ?_⟩⟩
  · exact emits_of_spdm hup hcfg hneg rfl rfl
  · intro start length hlt
    exact emits_of_spdm hup hcfg hneg rfl (if_neg (by simpa using hlt))
  · intro nonce
    exact emits_of_spdm hup hcfg hneg rfl (if_neg (by simp))
  · intro nonce
    exact emits_of_spdm hup hcfg hneg rfl rfl
  · intro i nonce h0 hall
    refine emits_of_spdm hup hcfg hneg rfl ?_
    dsimp only
    split
    case h_1 hz => exact absurd hz h0
    case h_2 hz => exact absurd hz hall
    case h_3 => rfl

/-! ### Sessions -/

section
variable {s : State} {h : Fin 2} {id : Nat} {x : Session} (hx : s.session h id = some x)
include hx

/-- A session found is one of the half with the identifier. -/
theorem State.session_found : (x.half == h.val && x.id == id) = true :=
  List.find?_some (p := fun x : Session => x.half == h.val && x.id == id) hx

theorem State.session_dropped : (s.dropSession x).session h id = none := by
  obtain ⟨hhalf, hid⟩ := Bool.and_eq_true_iff.1 (State.session_found hx)
  refine List.find?_eq_none.2 fun y hy => ?_
  obtain ⟨-, hkept⟩ := List.mem_filter.1 hy
  rw [← eq_of_beq hhalf, ← eq_of_beq hid]
  simpa [imp_iff_not_or] using hkept

/-- The session found is the one that has been replaced. -/
theorem State.session_set {y : Session} (hhalf : y.half = x.half) (hid : y.id = x.id) : (s.setSession y).session h id = some y := by
  have hfound := State.session_found hx
  obtain ⟨hxh, hxi⟩ := Bool.and_eq_true_iff.1 hfound
  have hy : (y.half == h.val && y.id == id) = true := by rw [hhalf, hid]; exact hfound
  have hyh : y.half = h.val := hhalf.trans (eq_of_beq hxh)
  have hyi : y.id = id := hid.trans (eq_of_beq hxi)
  have hcongr : (fun z : Session => z.half == h.val && z.id == id) ∘ (fun z => if z.half == y.half && z.id == y.id then y else z) =
      fun z => z.half == h.val && z.id == id := by
    funext z
    rw [Function.comp, hyh, hyi]
    split
    case isTrue hz => rw [hy, hz]
    case isFalse => rfl
  show (s.host.sessions.map _).find? _ = _
  rw [List.find?_map, hcongr, show s.host.sessions.find? _ = some x from hx, Option.map_some, hyh, hyi, if_pos hfound]

theorem State.inSession_runs (hup : (s.half h).up = true) (hcfg : s.get R.GEN_READY_cfg_ready = 1) (hneg : (s.half h).negotiated = true)
    (hdone : x.complete = true) (run : State → Session → State) : s.inSession h id run = run s x := by
  simp only [State.inSession, State.spdm_runs hup hcfg hneg, hx, hdone, if_true]

end

/-- Settles O12: the first session that matches is the one a command replaces or drops. -/
theorem spdmSessions : Obligations.SpdmSessions := by
  unfold Obligations.SpdmSessions
  intro h s hup hcfg hneg
  have hspdm := State.spdm_runs hup hcfg hneg
  refine ⟨fun exchange hlt => ?_, fun id x hx => ⟨⟨_, ?_, rfl⟩, ⟨(s.dropSession x).spdmError h "ERROR DecryptError", ?_, rfl, ?_⟩,
    fun hdone => ?_⟩⟩
  · refine ⟨_, congrArg Host.Outcome.next ((hspdm _).trans (if_neg (Nat.not_le.2 hlt))), rfl, rfl, rfl⟩
  · refine congrArg Host.Outcome.next ((hspdm _).trans ?_)
    rw [hx]
    rfl
  · refine congrArg Host.Outcome.next ((hspdm _).trans ?_)
    rw [hx]
    rfl
  · exact State.session_dropped hx
  · have hruns := State.inSession_runs hx hup hcfg hneg hdone
    refine ⟨⟨_, congrArg Host.Outcome.next (hruns _), rfl, rfl, State.session_set hx rfl rfl⟩,
      ⟨_, congrArg Host.Outcome.next (hruns _), rfl, rfl, State.session_dropped hx⟩, fun mem key hprot => ?_, fun mem hkeys => ?_⟩
    · exact ⟨_, congrArg Host.Outcome.next ((hruns _).trans (if_pos hprot)), rfl, fun k hk => s.half_setHalf_other _ hk,
        s.half_setHalf_same h _, rfl⟩
    · exact ⟨_, congrArg Host.Outcome.next ((hruns _).trans (if_neg hkeys)), rfl, fun k hk => s.half_setHalf_other _ hk,
        s.half_setHalf_same h _⟩

end Sys2Proof.Machine
end

section
/-!
PROOFS. Links of the halves (R479, R480, R483, R499, R500, R507): what vectors that pend or leave reach, and what a link's loss resets.
-/

namespace Sys2Proof.Machine

/-! ### Vectors leave the sessions -/

theorem OnlyRegs.sessions {s t : State} (h : OnlyRegs s t) : t.host.sessions = s.host.sessions := by rw [h]

theorem State.sendRaw_sessions (s : State) (v : Nat) : (s.sendRaw v).1.host.sessions = s.host.sessions := by
  unfold State.sendRaw
  dsimp only
  split <;> rfl

theorem State.pmuOverflow_sessions (s : State) : s.pmuOverflow.host.sessions = s.host.sessions := by
  unfold State.pmuOverflow
  dsimp only
  split_ifs
  · rfl
  · exact (State.pmuAdd_only _ _ _ _).sessions.trans (State.sendRaw_sessions _ _)
  · exact State.sendRaw_sessions _ _
  · rfl

theorem State.pmu_sessions (s : State) (code : Nat) (ctx : Option Nat) (inc : Nat) :
    (s.pmu code ctx inc).host.sessions = s.host.sessions := by
  have hadd := (s.pmuAdd_only code ctx inc).sessions
  unfold State.pmu
  dsimp only
  split
  · exact (State.pmuOverflow_sessions _).trans hadd
  · exact hadd

theorem State.send_sessions (s : State) (v : Nat) : (s.send v).host.sessions = s.host.sessions := by
  unfold State.send
  dsimp only
  split
  · exact (State.pmu_sessions _ _ _ _).trans (s.sendRaw_sessions v)
  · exact s.sendRaw_sessions v

theorem State.raise_sessions (s : State) (evt en : Fld) (vec b : Nat) : (s.raise evt en vec b).host.sessions = s.host.sessions := by
  unfold State.raise
  dsimp only
  split_ifs
  · rfl
  · exact State.send_sessions _ _
  · rfl

theorem State.raiseHost_sessions (s : State) (b : Nat) : (s.raiseHost b).host.sessions = s.host.sessions := s.raise_sessions _ _ _ b

/-! ### Pending vectors that leave (R496) -/

/-- Nothing but what vectors change, and no session. -/
def Vectors (s t : State) : Prop := Signals [] s t ∧ OnlyPends s t ∧ t.host.sessions = s.host.sessions

theorem Vectors.refl (s : State) : Vectors s s := ⟨.refl [] s, .of_host rfl, rfl⟩

theorem Vectors.trans {s t u : State} (h1 : Vectors s t) (h2 : Vectors t u) : Vectors s u :=
  ⟨h1.1.trans h2.1, h1.2.1.trans h2.2.1, h2.2.2.trans h1.2.2⟩

theorem State.pmu_vectors (s : State) (code : Nat) (ctx : Option Nat) (inc : Nat) : Vectors s (s.pmu code ctx inc) :=
  ⟨s.pmu_signals code ctx inc [], s.pmu_pends code ctx inc, s.pmu_sessions code ctx inc⟩

theorem State.emit_vectors (s : State) (o : Out) : Vectors s (s.emit o) := ⟨s.emit_signals o [], .of_host rfl, rfl⟩

theorem State.setPba_vectors (s : State) (h : Fin 2) (p : BitVec 64) : Vectors s (s.setHalf h { s.half h with pba := p }) := by
  refine ⟨s.setHalf_signals h _ [], fun k => ?_, rfl⟩
  by_cases hk : k = h
  · rw [HalfIs, hk, State.half_setHalf_same]
  · rw [HalfIs, State.half_setHalf_other _ _ hk]

theorem State.flushPba_vectors (s : State) (h : Fin 2) : Vectors s (s.flushPba h) := by
  unfold State.flushPba
  refine List.foldlRecOn (motive := fun t => Vectors s t) _ _ (Vectors.refl s) fun t ht v _ => ?_
  dsimp only
  split
  · exact ht.trans (((t.setPba_vectors h _).trans (State.emit_vectors _ _)).trans (State.pmu_vectors _ _ _ _))
  · exact ht

/-- A half as it was, up to pending vectors, after more vectors. -/
theorem HalfIs.pends {h : Fin 2} {x : HalfSt} {t u : State} (ht : HalfIs h x t) (hu : OnlyPends t u) : HalfIs h x u := by
  have h2 := hu h
  unfold HalfIs at *
  rw [h2, ht]

theorem OthersPend.pends {h : Fin 2} {s t u : State} (ht : OthersPend h s t) (hu : OnlyPends t u) : OthersPend h s u :=
  fun k hk => (ht k hk).pends hu

theorem State.setHalf_is (s : State) (h : Fin 2) (x : HalfSt) : HalfIs h x (s.setHalf h x) := by
  rw [HalfIs, State.half_setHalf_same]

theorem State.setHalf_others (s : State) (h : Fin 2) (x : HalfSt) : OthersPend h s (s.setHalf h x) := fun k hk => by
  rw [HalfIs, State.half_setHalf_other _ _ hk]

/-! ### Link up -/

section
variable {s : State} {h : Fin 2}

/-- The half with its link up. -/
def HalfSt.linked (x : HalfSt) (rate width protocol : Nat) : HalfSt :=
  { x with up := true, rate := rate, width := width, protocol := protocol }

theorem exec_hostLinkUp {rate : BitVec 2} {width : BitVec 5} {protocol : BitVec 2} (hphy : s.hostPhy = true) (hdown : (s.half h).up = false)
    (hsplit : h.val = 0 ∨ s.get R.GEN_STRAP_host_bif = 1)
    (hok : linkOk (s.get R.GEN_STRAP_host_bif == 1) rate.toNat width.toNat protocol.toNat = true) :
    exec (.hostLinkUp h rate width protocol) s =
      .next (((s.setHalf h ((s.half h).linked rate.toNat width.toNat protocol.toNat)).raiseHost (2 * h.val + 1)).flushPba h) :=
  congrArg Host.Outcome.next (if_neg (by rcases hsplit with hz | hbif <;> simp_all))

theorem exec_hostLinkUp_up {rate : BitVec 2} {width : BitVec 5} {protocol : BitVec 2} (hup : (s.half h).up = true) :
    exec (.hostLinkUp h rate width protocol) s = .next s := congrArg Host.Outcome.next (if_pos (by simp [hup]))

/-! ### Link down, hot reset, IDE failure -/

theorem State.halfHot_half (s : State) (h : Fin 2) : (s.halfHot h).half h = { HalfSt.init with heldWrites := (s.half h).heldWrites } :=
  s.half_setHalf_same h (s.half h).hot

theorem State.halfHot_others (s : State) (h : Fin 2) : OtherHalf h s (s.halfHot h) := fun _ hk => s.half_setHalf_other _ hk

theorem State.halfHot_sessions (s : State) (h : Fin 2) :
    (s.halfHot h).host.sessions = s.host.sessions.filter (fun x => x.half != h.val) := rfl

theorem State.linkDown_down (hdown : (s.half h).up = false) : s.linkDown h = s := if_neg (by simp [hdown])

theorem State.linkDown_up (hup : (s.half h).up = true) :
    s.linkDown h = ((s.halfHot h).raiseHost (2 * h.val)).flogAdd 8 h.val 0 none := if_pos hup

/-- A log entry reaches the log alone, and the count of lost entries. -/
theorem State.flogAdd_effect (s : State) (source code detail : Nat) (ctx : Option Nat) :
    (s.flogAdd source code detail ctx).flogSeq = (s.flogSeq + 1) % 65536 ∧ (s.flogAdd source code detail ctx).host = s.host ∧
    Writes [R.GEN_FLOG_STAT_lost] { s with flog := (s.flogAdd source code detail ctx).flog, flogSeq := (s.flogSeq + 1) % 65536 }
      (s.flogAdd source code detail ctx) := by
  unfold State.flogAdd
  dsimp only
  split
  · exact ⟨rfl, rfl, rfl, fun _ _ => rfl⟩
  · exact ⟨rfl, rfl, State.count_writes _ _ _⟩

theorem FieldsBut.pmu {l : List Fld} {s t : State} (h : FieldsBut l s t) : FieldsButPmu l s t := fun g _ hg => h g hg

theorem Writes.signals {l : List Fld} {s t : State} (h : Writes l s t) : Signals l s t := ⟨OnlyRegs.signals h.1, h.2.pmu⟩

/-- The fault log takes no part in what signals change. -/
theorem Signals.withFlog {l : List Fld} {s t : State} (h : Signals l s t) (log : List Nat) (seq : Nat) :
    Signals l { s with flog := log, flogSeq := seq } { t with flog := log, flogSeq := seq } := by
  obtain ⟨honly, hget⟩ := h
  exact ⟨by rw [honly]; rfl, hget⟩

/-- The link of a half that is up goes down (R500). -/
theorem State.linkDown_effect (hup : (s.half h).up = true) :
    let t := s.linkDown h
    BitSet t R.HOST_EVT (2 * h.val) ∧ HalfIs h { HalfSt.init with heldWrites := (s.half h).heldWrites } t ∧ OthersPend h s t ∧
      t.host.sessions = s.host.sessions.filter (fun x => x.half != h.val) ∧ t.flogSeq = (s.flogSeq + 1) % 65536 ∧
      Signals [R.HOST_EVT, R.GEN_FLOG_STAT_lost] { s with flog := t.flog, flogSeq := t.flogSeq } t := by
  have hpends := (s.halfHot h).raiseHost_pends (2 * h.val)
  have honly := (s.halfHot h).raiseHost_signals (2 * h.val) (l := [R.HOST_EVT, R.GEN_FLOG_STAT_lost]) (by simp)
  have hbit := (s.halfHot h).raiseHost_bitSet (2 * h.val) (by omega)
  have hsessions := (s.halfHot h).raiseHost_sessions (2 * h.val)
  have hseq : ((s.halfHot h).raiseHost (2 * h.val)).flogSeq = s.flogSeq := by rw [honly.1]; rfl
  obtain ⟨hflog, hhost, hwrites⟩ := ((s.halfHot h).raiseHost (2 * h.val)).flogAdd_effect 8 h.val 0 none
  have hcold : Signals [R.HOST_EVT, R.GEN_FLOG_STAT_lost] s (s.halfHot h) := ⟨rfl, fun _ _ _ => rfl⟩
  have hlast : OnlyPends ((s.halfHot h).raiseHost (2 * h.val)) (s.linkDown h) := .of_host (by rw [State.linkDown_up hup, hhost])
  dsimp only
  refine ⟨?_, ?_, ?_, ?_, ?_, ?_⟩
  · rw [BitSet, State.linkDown_up hup, hwrites.2 R.HOST_EVT (by decide)]
    exact hbit
  · refine HalfIs.pends (HalfIs.pends ?_ hpends) hlast
    rw [HalfIs, State.halfHot_half]
  · refine OthersPend.pends (OthersPend.pends (fun k hk => ?_) hpends) hlast
    rw [HalfIs, State.halfHot_others s h k hk]
  · rw [State.linkDown_up hup, hhost, hsessions, State.halfHot_sessions]
  · rw [State.linkDown_up hup, hflog, hseq]
  · rw [State.linkDown_up hup]
    have hbefore := (hcold.trans honly).withFlog (((s.halfHot h).raiseHost (2 * h.val)).flogAdd 8 h.val 0 none).flog
      ((((s.halfHot h).raiseHost (2 * h.val)).flogSeq + 1) % 65536)
    rw [hflog]
    exact hbefore.trans (hwrites.signals.mono (by simp))

theorem exec_ideFail (hup : (s.half h).up = true) (hide : (s.half h).ideActive ≠ 0) :
    exec (.ideFail h) s = .next ((s.raiseHost 6).linkDown h) := congrArg Host.Outcome.next (if_pos (by simpa [hup] using hide))

/-- An integrity failure raises its own bit, and takes the link down (R507). -/
theorem State.ideFailed_effect (hup : (s.half h).up = true) :
    let t := (s.raiseHost 6).linkDown h
    BitSet t R.HOST_EVT 6 ∧ BitSet t R.HOST_EVT (2 * h.val) ∧ HalfIs h { HalfSt.init with heldWrites := (s.half h).heldWrites } t ∧
      OthersPend h s t ∧ t.host.sessions = s.host.sessions.filter (fun x => x.half != h.val) ∧
      Signals [R.HOST_EVT, R.GEN_FLOG_STAT_lost] { s with flog := t.flog, flogSeq := t.flogSeq } t := by
  have hpends := s.raiseHost_pends 6
  have hhalf := hpends h
  have hup' : ((s.raiseHost 6).half h).up = true := by rw [hhalf]; exact hup
  have hheld : ((s.raiseHost 6).half h).heldWrites = (s.half h).heldWrites := by rw [hhalf]
  have hsig := s.raiseHost_signals 6 (l := [R.HOST_EVT, R.GEN_FLOG_STAT_lost]) (by simp)
  obtain ⟨hbit, his, hothers, hsessions, -, hsignals⟩ := State.linkDown_effect hup'
  dsimp only
  refine ⟨?_, hbit, hheld ▸ his, fun k hk => ?_, ?_, ?_⟩
  · have hsix := s.raiseHost_bitSet 6 (by decide)
    obtain ⟨-, -, hwrites⟩ := (((s.raiseHost 6).halfHot h).raiseHost (2 * h.val)).flogAdd_effect 8 h.val 0 none
    rw [BitSet, State.linkDown_up hup', hwrites.2 R.HOST_EVT (by decide)]
    refine (State.raise_bit _ _ _ _ _ 6 (by decide) (by decide)).trans ?_
    rw [show bitAt (((s.raiseHost 6).halfHot h).get R.HOST_EVT) 6 = true from hsix, Bool.true_or]
  · have h1 := hpends k
    have h2 := hothers k hk
    unfold HalfIs at *
    rw [h2, h1]
  · rw [hsessions, State.raiseHost_sessions]
  · exact (hsig.withFlog _ _).trans hsignals

theorem exec_powerStateChange {d3 : Bool} (hup : (s.half h).up = true) (hcfg : s.get R.GEN_READY_cfg_ready = 1) :
    exec (.powerStateChange h d3) s = .next ((s.setHalf h { s.half h with d3 := d3 }).flushPba h) :=
  congrArg Host.Outcome.next (if_pos (by simp [hup, hcfg]))

end

/-- Settles O13: `linkDown` and `halfHot` reset the half; `raiseHost` and `flushPba` reach the halves' pending vectors alone. -/
theorem hostLinks : Obligations.HostLinks := by
  unfold Obligations.HostLinks
  refine ⟨fun h rate width protocol s hphy hdown hsplit hok => ?_, fun h s hup => ⟨_, rfl, State.linkDown_effect hup⟩,
    fun h s hup hide => ⟨_, exec_ideFail hup hide, State.ideFailed_effect hup⟩,
    fun h s hup => ⟨s.halfHot h, congrArg Host.Outcome.next (if_pos hup), rfl, s.halfHot_others h, s.halfHot_half h, s.halfHot_sessions h⟩,
    fun h s hup hcfg => congrArg Host.Outcome.next (if_pos (by simp [hup, hcfg])), fun h d3 s hup hcfg => ?_,
    fun h d3 s hdown => ⟨congrArg _ (State.linkDown_down hdown), congrArg _ (if_neg (by simp [hdown])), congrArg _ (if_neg (by simp [hdown])),
      congrArg _ (if_neg (by simp [hdown])), congrArg _ (if_neg (by simp [hdown]))⟩,
    fun h rate width protocol s hup => exec_hostLinkUp_up hup⟩
  · let u := s.setHalf h ((s.half h).linked rate.toNat width.toNat protocol.toNat)
    obtain ⟨hsig, hpends, hsessions⟩ := (u.raiseHost (2 * h.val + 1)).flushPba_vectors h
    have hpends := (u.raiseHost_pends (2 * h.val + 1)).trans hpends
    refine ⟨_, exec_hostLinkUp hphy hdown hsplit hok, ?_, ?_, ?_, ?_, ?_⟩
    · exact ((s.setHalf_signals h _ _).trans (u.raiseHost_signals _ (by simp))).trans (hsig.mono (by simp))
    · rw [BitSet, hsig.2 R.HOST_EVT (by decide) (by simp)]
      exact u.raiseHost_bitSet _ (by omega)
    · exact (s.setHalf_is h _).pends hpends
    · exact (s.setHalf_others h _).pends hpends
    · exact hsessions.trans (u.raiseHost_sessions _)
  · obtain ⟨hsig, hpends, hsessions⟩ := (s.setHalf h { s.half h with d3 := d3 }).flushPba_vectors h
    exact ⟨_, exec_powerStateChange hup hcfg, (s.setHalf_signals h _ []).trans hsig, (s.setHalf_is h _).pends hpends,
      (s.setHalf_others h _).pends hpends, hsessions⟩

end Sys2Proof.Machine
end

section
/-!
PROOFS. CXL.mem reads and writes of device memory (R489–R491, R501).
-/

namespace Sys2Proof.Machine

/-! ### Lines of DRAM -/

section
variable {s : State} {h : Fin 2} {hpa a : Nat}

/-- A claimed line below the weight window lies below the reserved DRAM, and is aligned (R486, R489). -/
theorem State.claimed_dram (hclaimed : s.claimed h hpa = some a) (ha : a < weightBase) : a < cmdEnd ∧ a % 64 = 0 := by
  unfold State.claimed at hclaimed
  split at hclaimed
  · cases hclaimed
  split at hclaimed
  · cases hclaimed
  case h_2 b _ =>
    split at hclaimed
    · cases hclaimed
    case isFalse hout =>
      obtain rfl := Option.some.inj hclaimed
      unfold weightBase at ha hout
      unfold cmdEnd at hout ⊢
      omega

theorem State.claimed_notReset (hclaimed : s.claimed h hpa = some a) : s.inCxlReset = false := by
  cases hreset : s.inCxlReset
  · rfl
  · rw [State.claimed_reset hreset] at hclaimed
    cases hclaimed

theorem State.pmu_readMem (s : State) (code : Nat) (ctx : Option Nat) (inc a n : Nat) : (s.pmu code ctx inc).readMem a n = s.readMem a n := by
  rw [State.readMem, (s.pmu_only code ctx inc).mem]; rfl

theorem State.pmu_poisoned (s : State) (code : Nat) (ctx : Option Nat) (inc a n : Nat) :
    (s.pmu code ctx inc).poisoned a n = s.poisoned a n := by
  rw [State.poisoned, (s.pmu_only code ctx inc).poison]; rfl

/-- A good line that is not poisoned is answered as it is stored. -/
theorem State.memReadLine_good (hpoison : s.poisoned a 64 = false) :
    Signals [] s (s.memReadLine h a 0) ∧ (s.memReadLine h a 0).out.head? = some (.line h.val (s.readMem a 64) false) := by
  have hread : (((s.pmuLine 0 a 1).pmuLine 7 a 1).readMem a 64) = s.readMem a 64 := (State.pmu_readMem ..).trans (State.pmu_readMem ..)
  have hgood : ((s.pmuLine 0 a 1).pmuLine 7 a 1).poisoned a 64 = false :=
    ((State.pmu_poisoned ..).trans (State.pmu_poisoned ..)).trans hpoison
  have hline : s.memReadLine h a 0 = ((s.pmuLine 0 a 1).pmuLine 7 a 1).emit (.line h.val (s.readMem a 64) false) := by
    simp [State.memReadLine, hread, hgood]
  rw [hline]
  exact ⟨((s.pmu_signals _ _ _ _).trans (State.pmu_signals _ _ _ _ _)).trans (State.emit_signals _ _ _), rfl⟩

/-- Bytes of a line stored one by one where their enables are set. -/
theorem Memory.get_enabled (m : List Host.Cell) (a be : Nat) (data : List Byte) (n c : Nat) :
    Memory.get ((List.range n).foldl (fun m i => if bitAt be i then Memory.set m (a + i) (data.getD i 0) else m) m) c =
      if a ≤ c ∧ c < a + n ∧ bitAt be (c - a) = true then data.getD (c - a) 0 else Memory.get m c := by
  induction n with
  | zero => rw [if_neg (by omega)]; rfl
  | succ n ih =>
    rw [List.range_succ, List.foldl_append, List.foldl_cons, List.foldl_nil]
    by_cases hc : c = a + n
    · subst hc
      rw [Nat.add_sub_cancel_left]
      split
      case isTrue hbit => rw [Memory.get_set_same, if_pos ⟨by omega, by omega, hbit⟩]
      case isFalse hbit => rw [ih, if_neg (by omega), if_neg fun hall => hbit hall.2.2]
    · have hlt : c < a + (n + 1) ↔ c < a + n := by omega
      simp only [hlt]
      split
      · rw [Memory.get_set_other _ _ _ _ hc, ih]
      · exact ih

/-- What a write with byte enables leaves of memory, whole line or not. -/
theorem State.writeEnabled_get (s : State) (a : Nat) (data : Line) (be : BitVec 64) (c : Nat) :
    Memory.get (s.writeEnabled a data.toList be.toNat).mem c =
      if a ≤ c ∧ c < a + 64 ∧ bitAt be.toNat (c - a) = true then data.toList.getD (c - a) 0 else Memory.get s.mem c := by
  have hlen : data.toList.length = 64 := Vector.length_toList
  unfold State.writeEnabled
  split
  case isFalse => exact Memory.get_enabled s.mem a be.toNat data.toList 64 c
  case isTrue hall =>
    have hones : be.toNat = 2 ^ 64 - 1 := by rwa [Nat.mod_eq_of_lt be.isLt] at hall
    by_cases hc : a ≤ c ∧ c < a + 64
    · have hbit : bitAt be.toNat (c - a) = true := by
        rw [bitAt_eq_testBit, hones, Nat.testBit_two_pow_sub_one]
        simp only [decide_eq_true_eq]
        omega
      obtain ⟨i, rfl⟩ := Nat.exists_eq_add_of_le hc.1
      have hi : i < data.toList.length := by omega
      rw [if_pos ⟨hc.1, hc.2, hbit⟩, Nat.add_sub_cancel_left]
      refine (Memory.get_write_inside data.toList s.mem a i hi).trans ?_
      rw [List.getD_eq_getElem _ _ hi]
    · rw [if_neg fun hin => hc ⟨hin.1, hin.2.1⟩]
      exact Memory.get_write_outside data.toList s.mem a c (by omega)

theorem State.writeEnabled_only (s : State) (a : Nat) (data : List Byte) (be : Nat) :
    s.writeEnabled a data be = { s with mem := (s.writeEnabled a data be).mem, poison := (s.writeEnabled a data be).poison } := by
  unfold State.writeEnabled
  split <;> rfl

/-- A claimed write where the CMD block's clock runs, or below the command window (R159). -/
theorem State.dramWrite_open (hopen : s.clk.gated.getLsbD 7 = false ∨ a < cmdBase) (data : List Byte) (be : Nat) :
    s.dramWrite a data be false = ((s.writeEnabled a data be).pmuLine 1 a 1).pmuLine 7 a 1 := by
  refine (if_neg ?_).trans (if_neg Bool.false_ne_true)
  rintro ⟨hgated, hbase, -⟩
  rcases hopen with hclock | hlow
  · exact absurd hgated (by rw [hclock]; exact Bool.false_ne_true)
  · omega

theorem State.dramWrite_gated (hgated : s.clk.gated.getLsbD 7 = true) (hlo : cmdBase ≤ a) (hhi : a < cmdEnd) (data : List Byte) (be : Nat) :
    s.dramWrite a data be false = s := if_pos ⟨hgated, hlo, hhi⟩

end

/-! ### Requests -/

section
variable {s : State} {h : Fin 2} {hpa : BitVec 52} {a : Nat} (hserves : s.memServes h = true)
include hserves

theorem exec_cxlMemRead_dram (hclaimed : s.claimed h hpa.toNat = some a) (ha : a < weightBase) (hawake : s.clk.selfRefresh = 0)
    (ecc : BitVec 2) :
    exec (.cxlMemRead h hpa ecc) s = .next ((s.pmu (0xE0 + 2 * h.val) none 1).memReadLine h a ecc.toNat) := by
  have hclk : ∀ i, (s.pmu (0xE0 + 2 * h.val) none 1).clk.selfRefresh.getLsbD i = false := fun i => by
    rw [(s.pmu_only _ _ _).clk, hawake]
    exact BitVec.getLsbD_zero
  show execCxlMemRead h hpa ecc s = _
  simp only [execCxlMemRead, hserves, Bool.not_true, Bool.false_eq_true, if_false, State.pmu_claimed, hclaimed, Nat.not_le.2 ha, hclk]

theorem exec_cxlMemRead_unclaimed (hclaimed : s.claimed h hpa.toNat = none) (ecc : BitVec 2) :
    exec (.cxlMemRead h hpa ecc) s =
      .next (((s.pmu (0xE0 + 2 * h.val) none 1).unclaimedReq false).emit (.line h.val zeroBytes true)) := by
  show execCxlMemRead h hpa ecc s = _
  simp only [execCxlMemRead, hserves, Bool.not_true, Bool.false_eq_true, if_false, State.pmu_claimed, hclaimed]

theorem exec_cxlMemWrite_unclaimed (hclaimed : s.claimed h hpa.toNat = none) (data : Line) (be : BitVec 64) (poison : Bool) :
    exec (.cxlMemWrite h hpa data be poison) s = .next ((s.pmu (0xE1 + 2 * h.val) none 1).unclaimedReq true) := by
  show execCxlMemWrite h hpa data be poison s = _
  simp only [execCxlMemWrite, hserves, if_true, State.memWriteOrHold, State.pmu_claimed, hclaimed]

theorem exec_cxlMemWrite_dram (hclaimed : s.claimed h hpa.toNat = some a) (ha : a < weightBase) (hawake : s.clk.selfRefresh = 0)
    (hheld : (s.half h).heldWrites = []) (data : Line) (be : BitVec 64) :
    exec (.cxlMemWrite h hpa data be false) s =
      .next ((s.pmu (0xE1 + 2 * h.val) none 1).dramWrite a data.toList be.toNat false) := by
  have hclk : ∀ i, (s.pmu (0xE1 + 2 * h.val) none 1).clk.selfRefresh.getLsbD i = false := fun i => by
    rw [(s.pmu_only _ _ _).clk, hawake]
    exact BitVec.getLsbD_zero
  show execCxlMemWrite h hpa data be false s = _
  simp only [execCxlMemWrite, hserves, if_true, State.memWriteOrHold, State.pmu_claimed, hclaimed, State.pmu_heldWrites, hheld,
    List.isEmpty_nil, Bool.not_true, Bool.false_eq_true, if_false, State.memWrite, State.writeAsleep, ha, hclk]

end

/-! ### A write that is stored -/

/-- A write's bytes in memory: seen, stored, and its line counted. -/
def State.lineStored (s : State) (code a : Nat) (data : Line) (be : BitVec 64) : State :=
  (((s.pmu code none 1).writeEnabled a data.toList be.toNat).pmuLine 1 a 1).pmuLine 7 a 1

section
variable (s : State) (code a : Nat) (data : Line) (be : BitVec 64)

theorem State.lineStored_mem : (s.lineStored code a data be).mem = (s.writeEnabled a data.toList be.toNat).mem := by
  rw [State.lineStored, State.pmuLine, State.pmuLine, (State.pmu_only _ _ _ _).mem, (State.pmu_only _ _ _ _).mem, State.writeEnabled,
    State.writeEnabled]
  split
  · rw [State.writeMem, (s.pmu_only _ _ _).mem]; rfl
  · rw [(s.pmu_only _ _ _).mem]

theorem State.lineStored_poison : (s.lineStored code a data be).poison = (s.writeEnabled a data.toList be.toNat).poison := by
  rw [State.lineStored, State.pmuLine, State.pmuLine, (State.pmu_only _ _ _ _).poison, (State.pmu_only _ _ _ _).poison, State.writeEnabled,
    State.writeEnabled]
  split
  · rw [State.writeMem, (s.pmu_only _ _ _).poison]; rfl
  · exact (s.pmu_only _ _ _).poison

/-- Memory takes no part in what signals change. -/
theorem Signals.withMem {l : List Fld} {s t : State} (h : Signals l s t) (m : List Host.Cell) (p : List Nat) :
    Signals l { s with mem := m, poison := p } { t with mem := m, poison := p } := by
  obtain ⟨honly, hget⟩ := h
  exact ⟨by rw [honly]; rfl, hget⟩

theorem State.lineStored_vectors :
    Vectors { s with mem := (s.lineStored code a data be).mem, poison := (s.lineStored code a data be).poison }
      (s.lineStored code a data be) := by
  have hstore := (s.pmu code none 1).writeEnabled_only a data.toList be.toNat
  obtain ⟨hseen, hpends, hsessions⟩ := s.pmu_vectors code none 1
  have hlines := (((s.pmu code none 1).writeEnabled a data.toList be.toNat).pmu_vectors (0x70 + 8 * stackOf a + 1) none 1).trans
    (State.pmu_vectors _ (0x70 + 8 * stackOf a + 7) none 1)
  have hmem : (s.lineStored code a data be).mem = ((s.pmu code none 1).writeEnabled a data.toList be.toNat).mem := hlines.1.1.mem
  have hpoison : (s.lineStored code a data be).poison = ((s.pmu code none 1).writeEnabled a data.toList be.toNat).poison :=
    hlines.1.1.poison
  rw [hmem, hpoison]
  refine Vectors.trans (t := (s.pmu code none 1).writeEnabled a data.toList be.toNat) ?_ hlines
  rw [hstore]
  exact ⟨hseen.withMem _ _, hpends, hsessions⟩

end

/-- Settles O15: a claimed line of DRAM is read and stored where it lies, and an unclaimed request is only counted. -/
theorem cxlMemAccesses : Obligations.CxlMemAccesses := by
  unfold Obligations.CxlMemAccesses
  refine ⟨fun h hpa a s hserves hclaimed ha hawake hpoison => ?_, fun h hpa ecc s hserves hreset hclaimed => ?_,
    fun h hpa a data be s hserves hclaimed ha hawake hheld => ⟨fun hopen => ?_, fun hgated hbase => ?_⟩,
    fun h hpa ecc data be s hserves hreset => ⟨?_, ?_⟩⟩
  · have hread := State.memReadLine_good (s := s.pmu (0xE0 + 2 * h.val) none 1) (h := h) ((s.pmu_poisoned _ _ _ a 64).trans hpoison)
    rw [State.pmu_readMem] at hread
    exact ⟨_, exec_cxlMemRead_dram hserves hclaimed ha hawake 0, (s.pmu_signals _ _ _ _).trans hread.1, hread.2⟩
  · obtain ⟨hcount, hbit, hsig⟩ := State.unclaimedReq_counted (s := s) (0xE0 + 2 * h.val) hreset false
    exact ⟨_, exec_cxlMemRead_unclaimed hserves hclaimed ecc, (hsig.mono (by simp)).trans (State.emit_signals _ _ _), hbit, hcount, rfl⟩
  · have hopen' : (s.pmu (0xE1 + 2 * h.val) none 1).clk.gated.getLsbD 7 = false ∨ a < cmdBase := by rwa [(s.pmu_only _ _ _).clk]
    have hexec := (exec_cxlMemWrite_dram hserves hclaimed ha hawake hheld data be).trans
      (congrArg Host.Outcome.next (State.dramWrite_open hopen' data.toList be.toNat))
    have hget : ∀ c, Memory.get (s.lineStored (0xE1 + 2 * h.val) a data be).mem c = _ := fun c => by
      rw [s.lineStored_mem, s.writeEnabled_get]
    refine ⟨s.lineStored (0xE1 + 2 * h.val) a data be, hexec, fun b hb => ?_, fun i => ?_, (s.lineStored_vectors _ a data be).1⟩
    · rw [hget, if_neg fun hin => by omega]
    · have hbit : bitAt be.toNat i.val = be.getLsbD i.val := bitAt_eq_testBit _ _
      have hi : i.val < data.toList.length := by rw [Vector.length_toList]; exact i.isLt
      have hin : (a ≤ a + i.val ∧ a + i.val < a + 64 ∧ bitAt be.toNat (a + i.val - a) = true) ↔ be.getLsbD i.val = true := by
        rw [Nat.add_sub_cancel_left, hbit]
        exact ⟨fun hall => hall.2.2, fun hset => ⟨Nat.le_add_right .., Nat.add_lt_add_left i.isLt a, hset⟩⟩
      refine (hget _).trans (if_congr hin ?_ rfl)
      rw [Nat.add_sub_cancel_left, List.getD_eq_getElem _ _ hi, Vector.getElem_toList]
      rfl
  · have hgated' : (s.pmu (0xE1 + 2 * h.val) none 1).clk.gated.getLsbD 7 = true := by rwa [(s.pmu_only _ _ _).clk]
    exact ⟨_, (exec_cxlMemWrite_dram hserves hclaimed ha hawake hheld data be).trans (congrArg Host.Outcome.next
      (State.dramWrite_gated hgated' hbase (State.claimed_dram hclaimed ha).1 _ _)), s.pmu_signals _ _ _ _⟩
  · refine ⟨_, exec_cxlMemRead_unclaimed hserves (State.claimed_reset hreset h _) ecc, ?_, rfl⟩
    rw [State.unclaimedReq_read_reset _ hreset]
    exact (s.pmu_signals _ _ _ _).trans (State.emit_signals _ _ _)
  · obtain ⟨hcount, hsig⟩ := State.unclaimedReq_write_reset (s := s) (0xE1 + 2 * h.val) hreset
    exact ⟨_, exec_cxlMemWrite_unclaimed hserves (State.claimed_reset hreset h _) data be false, hsig, hcount⟩

/-! ### Written and read back -/

section
variable {s t : State} {h : Fin 2} (hv : Vectors s t)
include hv

/-- Vectors leave what serves and claims a request. -/
theorem Vectors.memServes : t.memServes h = s.memServes h := by
  obtain ⟨⟨honly, hget⟩, hpends, -⟩ := hv
  have hactive : t.get R.GEN_READY_mem_active = s.get R.GEN_READY_mem_active := hget _ (by decide) (by simp)
  rw [State.memServes, hpends h, hactive]
  rfl

theorem Vectors.claimed (hpa : Nat) : t.claimed h hpa = s.claimed h hpa := by
  obtain ⟨⟨honly, -⟩, hpends, -⟩ := hv
  have hreset : t.inCxlReset = s.inCxlReset := by rw [State.inCxlReset, honly.pwr]; rfl
  rw [State.claimed, hreset, hpends h]
  rfl

end

/-- A whole line written is no longer poisoned (R491). -/
theorem State.writeMem_clean (s : State) {a : Nat} (ha : a % 64 = 0) {bs : List Byte} (hlen : bs.length = 64) :
    (s.writeMem a bs).poisoned a 64 = false := by
  rw [State.poisoned, List.any_eq_false]
  intro l hl
  obtain ⟨-, hout⟩ := List.mem_filter.1 hl
  simp only [hlen, Bool.not_eq_true', decide_eq_false_iff_not, decide_eq_true_eq] at hout ⊢
  omega

theorem State.writeEnabled_whole (s : State) (a : Nat) (bs : List Byte) :
    s.writeEnabled a bs (BitVec.allOnes 64).toNat = s.writeMem a bs := if_pos (by decide)

/-- Settles O16: the line stored is the line read, and a whole line is clean. -/
theorem cxlMemReadAfterWrite : Obligations.CxlMemReadAfterWrite := by
  unfold Obligations.CxlMemReadAfterWrite
  intro h hpa a data s hserves hclaimed ha hawake hheld hopen
  have hopen' : (s.pmu (0xE1 + 2 * h.val) none 1).clk.gated.getLsbD 7 = false ∨ a < cmdBase := by rwa [(s.pmu_only _ _ _).clk]
  have hlen : data.toList.length = 64 := Vector.length_toList
  let t := s.lineStored (0xE1 + 2 * h.val) a data (BitVec.allOnes 64)
  have hv := s.lineStored_vectors (0xE1 + 2 * h.val) a data (BitVec.allOnes 64)
  have hmem : t.mem = (s.writeMem a data.toList).mem := by
    rw [← State.writeEnabled_whole]
    exact s.lineStored_mem _ a data _
  have hclean : t.poisoned a 64 = false := by
    rw [State.poisoned, s.lineStored_poison, State.writeEnabled_whole]
    exact s.writeMem_clean (State.claimed_dram hclaimed ha).2 hlen
  have hread : t.readMem a 64 = data.toList := by
    rw [State.readMem, hmem]
    exact (congrArg (Memory.read _ a) hlen.symm).trans (Memory.read_write s.mem a data.toList)
  have hgood := State.memReadLine_good (s := t.pmu (0xE0 + 2 * h.val) none 1) (h := h) ((t.pmu_poisoned _ _ _ a 64).trans hclean)
  rw [State.pmu_readMem, hread] at hgood
  refine ⟨t, _, (exec_cxlMemWrite_dram hserves hclaimed ha hawake hheld data _).trans
    (congrArg Host.Outcome.next (State.dramWrite_open hopen' data.toList _)), exec_cxlMemRead_dram ?_ ?_ ha ?_ 0, hgood.2⟩
  · exact hv.memServes.trans hserves
  · exact (hv.claimed _).trans hclaimed
  · rw [hv.1.1.clk]
    exact hawake

end Sys2Proof.Machine
end

section
/-!
PROOFS. Vectors and event counts leave what BAR0 reads as, the PMU block apart (R14, R494).
-/

namespace Sys2Proof.Machine

section
variable {s t : State}

/-- Outside the PMU block the fields are the same, and so is everything but what is emitted and the halves' pending vectors. -/
def SameView (s t : State) : Prop := OnlySignals s t ∧ (∀ g : Fld, ¬ inPmu g → t.get g = s.get g) ∧ OnlyPends s t

theorem Vectors.sameView (h : Vectors s t) : SameView s t := ⟨h.1.1, fun g hg => h.1.2 g hg (by simp), h.2.1⟩

theorem bitsOf_congr {n : Nat} {p q : Nat → Bool} (h : ∀ i < n, p i = q i) : bitsOf n p = bitsOf n q := by
  unfold bitsOf
  refine congrArg List.sum (List.map_congr_left fun i hi => ?_)
  rw [h i (List.mem_range.1 hi)]

/-- A field whose register lies below the PMU block. -/
theorem not_inPmu_of_lt {g : Fld} (hoff : g.off < 0x2A0000) (hlo : g.lo < 32) : ¬ inPmu g := by
  unfold inPmu Fld.key
  omega

theorem barBlock_fab {off : Nat} (h : barBlock off = 10) : off < 0x240000 := by
  by_contra hno
  have hge : 11 ≤ barBlock off := by
    unfold barBlock
    repeat rw [if_neg (by omega)]
    split_ifs <;> decide
  omega

theorem barBlock_not_pmu {off : Nat} (h : barBlock off ≠ 13) : off < 0x2A0000 ∨ 0x300000 ≤ off := by
  by_contra hno
  refine h ?_
  unfold barBlock
  repeat rw [if_neg (by omega)]
  exact if_pos (by omega)

theorem SMap.lookup_set_same {α : Type} [DecidableEq α] (d : α) (m : SMap α) (k : Nat) (v : α) :
    SMap.lookup (SMap.set d m k v) k = if v = d then none else some v := by
  unfold SMap.set
  split
  · exact SMap.lookup_erase_same m k
  · exact SMap.lookup_insert_same _ k v (SMap.lookup_erase_same m k)

/-- The same fields put into two register files: what reads the same before reads the same after. -/
theorem State.puts_get_congr {s t : State} {g : Fld} (hg : t.get g = s.get g) (l : List (Fld × Nat)) :
    (t.puts l).get g = (s.puts l).get g := by
  induction l generalizing s t with
  | nil => exact hg
  | cons p l ih =>
    refine ih (s := s.put p.1 p.2) (t := t.put p.1 p.2) ?_
    by_cases hk : g.key = p.1.key
    · simp only [State.get, State.put_regs, RegFile.get, RegFile.put, hk, SMap.lookup_set_same]
    · rw [State.get_put_other _ _ _ _ hk, State.get_put_other _ _ _ _ hk, hg]

variable (h : SameView s t)
include h

theorem SameView.low (g : Fld) (hoff : g.off < 0x2A0000 := by decide) (hlo : g.lo < 32 := by decide) : t.get g = s.get g :=
  h.2.1 g (not_inPmu_of_lt hoff hlo)

theorem SameView.liveGen (off : Nat) : t.liveGen off = s.liveGen off := by
  have hsel := h.low R.GEN_FLOG_SEL_index
  obtain ⟨honly, -, -⟩ := h
  unfold State.liveGen
  rw [hsel, honly]

theorem SameView.livePwr (off : Nat) : t.livePwr off = s.livePwr off := by
  rw [h.1]; rfl

theorem SameView.liveClk (off : Nat) : t.liveClk off = s.liveClk off := by
  rw [h.1]; rfl

theorem SameView.liveHzn (off : Nat) : t.liveHzn off = s.liveHzn off := by
  rw [h.1]; rfl

theorem SameView.liveImg (off : Nat) : t.liveImg off = s.liveImg off := by
  have hsel := h.low R.IMG_SEL_slot
  unfold State.liveImg State.liveRes
  rw [hsel, h.1]
  rfl

theorem SameView.liveTile (off : Nat) : t.liveTile off = s.liveTile off := by
  have hlimit := h.low R.THM_LIMIT_p_limit
  have hpump : t.pumpLimit = s.pumpLimit := by rw [State.pumpLimit, hlimit, h.1.pwr, State.pumpLimit]
  unfold State.liveTile
  rw [hpump, h.1]

theorem SameView.liveSeq (off : Nat) : t.liveSeq off = s.liveSeq off := by
  have hrom : t.romShown = s.romShown := by
    unfold State.romShown
    rw [h.low R.SEQ_ROM_ADDR_addr, h.low R.SEQ_ROM_ADDR_lane, h.low R.SEQ_ROM_ADDR_nano]
  have hmc : bitsOf 16 (fun q => t.get (R.SEQ_MC0_valid q) == 1) = bitsOf 16 (fun q => s.get (R.SEQ_MC0_valid q) == 1) :=
    bitsOf_congr fun q hq => by
      rw [h.low (R.SEQ_MC0_valid q) (by simp only [R.SEQ_MC0_valid]; omega) (by simp only [R.SEQ_MC0_valid]; omega)]
  unfold State.liveSeq
  rw [hrom, hmc, h.1]
  rfl

theorem SameView.liveCmd (off : Nat) : t.liveCmd off = s.liveCmd off := by
  have hevt : ∀ c < 64, (t.get (R.CMD_RING_EVT c) != 0) = (s.get (R.CMD_RING_EVT c) != 0) := fun c hc => by
    rw [h.low (R.CMD_RING_EVT c) (by simp only [R.CMD_RING_EVT]; omega) (by simp only [R.CMD_RING_EVT]; omega)]
  have hlo := bitsOf_congr fun c (hc : c < 32) => hevt c (by omega)
  have hhi := bitsOf_congr fun c (hc : c < 32) => hevt (c + 32) (by omega)
  unfold State.liveCmd
  rw [hlo, hhi, h.1]
  rfl

theorem SameView.liveCtx (off : Nat) : t.liveCtx off = s.liveCtx off := by
  have hstate : ∀ c < 64, (t.ctxState c == 1) = (s.ctxState c == 1) := fun c hc => by
    rw [State.ctxState, h.low (R.CTX_STAT_state c) (by simp only [R.CTX_STAT_state]; omega) (by simp only [R.CTX_STAT_state]; omega)]
    rfl
  have hlo := bitsOf_congr fun c (hc : c < 32) => hstate c (by omega)
  have hhi := bitsOf_congr fun c (hc : c < 32) => hstate (c + 32) (by omega)
  unfold State.liveCtx
  rw [hlo, hhi, h.low R.THM_LIMIT_p_limit]

theorem SameView.ownPkg : t.ownPkg = s.ownPkg := by
  rw [State.ownPkg, h.low R.GEN_TOPO_rack, h.low R.GEN_TOPO_sled, h.low R.GEN_TOPO_slot, State.ownPkg]

theorem SameView.destInMachine (pkg : Nat) : t.destInMachine pkg = s.destInMachine pkg := by
  rw [State.destInMachine, State.racks, h.low R.GEN_MACHINE_racks_minus_one, h.low R.FAB_CFG_sled_count, State.destInMachine, State.racks]

theorem SameView.blockUp (n : Nat) : t.blockUp n = s.blockUp n :=
  State.blockUp_congr h.1.pwr h.1.clk (h.low _) (h.low _) n

theorem SameView.portWhy {n : Nat} (hn : n < 0x400) (up : Bool) : t.portWhy n up = s.portWhy n up := by
  have hen : t.get (R.FAB_PORT_CTRL_en n) = s.get (R.FAB_PORT_CTRL_en n) :=
    h.low _ (by simp only [R.FAB_PORT_CTRL_en]; omega) (by simp only [R.FAB_PORT_CTRL_en]; omega)
  have hpeer : t.peerInMachine n = s.peerInMachine n := by
    rw [State.peerInMachine, h.ownPkg, h.destInMachine, State.peerInMachine]
  have hpll : t.portPll n = s.portPll n := by rw [h.1]; rfl
  unfold State.portWhy
  rw [hen, hpeer, hpll, h.blockUp, h.low R.GEN_TOPO_assigned, h.1.pwr, h.1.hzn]

theorem SameView.liveFab {off : Nat} (hoff : off < 0x240000) : t.liveFab off = s.liveFab off := by
  have hactive : t.activePorts = s.activePorts := by rw [h.1]; rfl
  have hroute : t.routeShown = s.routeShown := by
    unfold State.routeShown
    dsimp only
    rw [h.low R.FAB_ROUTE_Q_dst, h.ownPkg, h.destInMachine, hactive]
  have hport : t.livePort ((off - 0x201000) / 0x100) = s.livePort ((off - 0x201000) / 0x100) := by
    unfold State.livePort
    rw [h.portWhy (by omega), h.1]
    rfl
  unfold State.liveFab
  rw [hactive, hroute, hport, h.1]

theorem SameView.liveHost (off : Nat) : t.liveHost off = s.liveHost off := by
  have hhalf := h.2.2 (halfOf ((off - 0x270000) / 4))
  unfold HalfIs at hhalf
  unfold State.liveHost
  dsimp only
  rw [hhalf, h.low R.HOST_SB_ALERT_EN, h.low R.GEN_STRAP_pos_slot, h.low R.GEN_STRAP_sb_mode]

theorem SameView.liveIsl (off : Nat) : t.liveIsl off = s.liveIsl off := by
  rw [h.1]; rfl

theorem SameView.liveAt (off : Nat) : t.liveAt off = s.liveAt off := by
  unfold State.liveAt
  rw [h.liveGen, h.livePwr, h.liveClk, h.liveHzn, h.liveImg, h.liveSeq, h.liveTile, h.liveCmd, h.liveCtx, h.liveHost, h.liveIsl]
  split
  case h_10 hblock => exact h.liveFab (barBlock_fab hblock)
  all_goals rfl

/-- A register outside the PMU block reads the same. -/
theorem SameView.barWord {off : Nat} (hoff : barBlock off ≠ 13) : t.barWord off = s.barWord off := by
  have hout := barBlock_not_pmu hoff
  unfold State.barWord State.regWord
  rw [h.liveAt]
  refine congrArg List.sum (List.map_congr_left fun f hf => ?_)
  obtain ⟨hfoff, hlo⟩ := lieAt_fieldsAt off f hf
  rw [State.puts_get_congr (h.2.1 f ?_)]
  unfold inPmu Fld.key
  omega

end

end Sys2Proof.Machine
end

section
/-!
PROOFS. The sideband (R508 to R513, R515).
-/

namespace Sys2Proof.Machine

section
variable {s : State}

/-- A command that is counted and then answered changes nothing but what an event count changes. -/
theorem State.sbCounted_reply (s : State) (o : Out) : Signals [] s (s.sbCounted.emit o) :=
  (s.pmu_signals _ none 1 []).trans (State.emit_signals _ o [])

theorem State.identity_length (s : State) : s.identity.length = 24 := by
  simp [State.identity, toLE_length]

theorem exec_sbIdentity (hup : s.sbUp = true) : exec .sbIdentity s = .next (s.sbCounted.sbReply s.identity) :=
  congrArg Host.Outcome.next (if_pos hup)

theorem exec_sbRead {off : Word} (hup : s.sbUp = true) (hready : s.sbReady = true) :
    exec (.sbRead off) s = .next (s.sbCounted.sbReadAt off.toNat) :=
  congrArg Host.Outcome.next ((if_neg (by simp [hup])).trans (if_neg (by simp [hready])))

theorem exec_sbRead_nack {off : Word} (hup : s.sbUp = true) (hready : s.sbReady = false) : exec (.sbRead off) s = .next s.sbNack :=
  congrArg Host.Outcome.next ((if_neg (by simp [hup])).trans (if_pos (by simp [hready])))

theorem exec_sbLastStatus (hup : s.sbUp = true) (hready : s.sbReady = true) :
    exec .sbLastStatus s = .next (s.sbCounted.sbReply [BitVec.ofNat 8 s.host.sbStatus]) :=
  congrArg Host.Outcome.next ((if_neg (by simp [hup])).trans (if_neg (by simp [hready])))

theorem exec_sbLastStatus_nack (hup : s.sbUp = true) (hready : s.sbReady = false) : exec .sbLastStatus s = .next s.sbNack :=
  congrArg Host.Outcome.next ((if_neg (by simp [hup])).trans (if_pos (by simp [hready])))

theorem exec_sbWrite {off v : Word} (hup : s.sbUp = true) (hready : s.sbReady = true) :
    exec (.sbWrite off v true) s = .next (s.sbCounted.sbWriteAt off.toNat v.toNat) :=
  congrArg Host.Outcome.next ((if_neg (by simp [hup])).trans ((if_neg (by simp [hready])).trans (if_neg (by simp))))

theorem exec_sbWrite_nack {off v : Word} {pec : Bool} (hup : s.sbUp = true) (hready : s.sbReady = false) :
    exec (.sbWrite off v pec) s = .next s.sbNack :=
  congrArg Host.Outcome.next ((if_neg (by simp [hup])).trans (if_pos (by simp [hready])))

theorem exec_sbWrite_badPec {off v : Word} (hup : s.sbUp = true) (hready : s.sbReady = true) (hbus : s.sbI3c = false) :
    exec (.sbWrite off v false) s = .next ((s.count R.HOST_SB_CNT_pec_errors 1).raiseHost 8).sbNack :=
  congrArg Host.Outcome.next ((if_neg (by simp [hup])).trans ((if_neg (by simp [hready])).trans (if_pos (by simp [hbus]))))

theorem sbMisaligned_aligned {off : Nat} (hoff : off % 4 = 0) (hlt : off < 0x400000) : sbMisaligned off = false := by
  simp only [sbMisaligned, hoff, bne_self_eq_false, Bool.false_or, decide_eq_false_iff_not]
  omega

/-- A register that is no half of a captured pair reads as it is, and the read captures nothing. -/
theorem State.regRead_single (s : State) (k off : Nat) (h : pairLow off = false) (hlow : pairLow (off - 4) = false) :
    s.regRead k off = (s.barWord off, s) := by
  rw [State.regRead, if_neg (by simp [h]), if_neg (by simp [hlow])]

/-- A read of BAR0 outside the tile window and the HOST block's areas is a read of a register. -/
theorem State.barRead_reg (s : State) (k : Nat) (half : Option (Fin 2)) {off : Nat} (hup : s.blockUp (barBlock off) = true)
    (hwindow : off ≠ 0x100008) (harea : ¬ (0x240000 ≤ off ∧ off < 0x270000)) : s.barRead k half off = s.regRead k off := by
  simp [State.barRead, hup, hwindow, harea]

theorem State.sbReadAt_reg {off : Nat} (hoff : off % 4 = 0) (hlt : off < 0x400000) (htile : barBlock off ≠ 6) (hpair : pairLow off = false)
    (hpair' : pairLow (off - 4) = false) (harea : off < 0x240000 ∨ 0x270000 ≤ off) (hup : s.blockUp (barBlock off) = true) :
    s.sbReadAt off = s.sbReply (0 :: toLE 4 (s.barWord off)) := by
  have hwindow : off ≠ 0x100008 := fun h => htile (by rw [h]; decide)
  have hread := s.barRead_reg 2 none hup hwindow (by omega)
  rw [s.regRead_single 2 off hpair hpair'] at hread
  rw [State.sbReadAt, sbMisaligned_aligned hoff hlt, if_neg Bool.false_ne_true, if_neg htile, hread]

/-- Settles O21. -/
theorem sidebandAnswers : Obligations.SidebandAnswers := by
  unfold Obligations.SidebandAnswers
  refine ⟨fun s hup => ?_, fun off s hup hready hoff hlt htile hpair hpair' harea hblock hpmu => ?_, fun s hup hready => ?_,
    fun off s hup hready => ⟨exec_sbRead_nack hup hready, exec_sbLastStatus_nack hup hready, fun v pec => exec_sbWrite_nack hup hready⟩,
    fun code s hup hcode => ?_, fun off v s hup hready hbus => ?_⟩
  · exact ⟨_, exec_sbIdentity hup, s.sbCounted_reply _, s.identity, rfl, s.identity_length, rfl⟩
  · have hread : s.sbCounted.sbReadAt off.toNat = s.sbCounted.sbReply (0 :: toLE 4 (s.barWord off.toNat)) := by
      have hview := (s.pmu_vectors 0xEA none 1).sameView
      rw [State.sbCounted, State.sbReadAt_reg hoff hlt htile hpair hpair' harea ((hview.blockUp _).trans hblock), hview.barWord hpmu]
    exact ⟨_, (exec_sbRead hup hready).trans (congrArg Host.Outcome.next hread), s.sbCounted_reply _, rfl⟩
  · exact ⟨_, exec_sbLastStatus hup hready, s.sbCounted_reply _, rfl⟩
  · exact congrArg Host.Outcome.next (if_pos (by simpa [hup] using hcode))
  · refine ⟨_, exec_sbWrite_badPec hup hready hbus, ?_, State.raiseHost_bitSet _ 8 (by decide), ?_, rfl⟩
    · exact ((s.count_signals _ 1 (by simp)).trans (State.raiseHost_signals _ 8 (by simp))).trans (State.emit_signals _ _ _)
    · have hraise : ∀ u : State, (u.raiseHost 8).get R.HOST_SB_CNT_pec_errors = u.get R.HOST_SB_CNT_pec_errors := fun u =>
        (State.raiseHost_signals u 8 (List.mem_singleton_self _)).2 _ (by decide) (by decide)
      refine (hraise _).trans ((s.get_count_same _ 1).trans ?_)
      unfold satAdd
      rw [show R.HOST_SB_CNT_pec_errors.w = 16 from rfl]
      split_ifs <;> omega

/-! ### Writes and alerts (R511, R512) -/

theorem State.sbDenied_effect (s : State) (n : Nat) : Signals [R.HOST_SB_CNT_denied, R.HOST_EVT] s (s.sbDenied.sbStatusSet n) ∧
    BitSet (s.sbDenied.sbStatusSet n) R.HOST_EVT 7 ∧
    (s.sbDenied.sbStatusSet n).get R.HOST_SB_CNT_denied = satAdd R.HOST_SB_CNT_denied.w (s.get R.HOST_SB_CNT_denied) 1 := by
  have hraise := State.raiseHost_signals (s.count R.HOST_SB_CNT_denied 1) 7 (List.mem_singleton_self _)
  have hdenied : Signals [R.HOST_SB_CNT_denied, R.HOST_EVT] s s.sbDenied :=
    (s.count_signals _ 1 (by simp)).trans (hraise.mono (by simp))
  refine ⟨⟨?_, hdenied.2⟩, State.raiseHost_bitSet _ 7 (by decide), ?_⟩
  · have honly := hdenied.1
    unfold OnlySignals at honly ⊢
    rw [State.sbStatusSet, honly]
  · exact (hraise.2 _ (by decide) (by decide)).trans (s.get_count_same _ 1)

theorem Signals.sbStatus {l : List Fld} {s t : State} (h : Signals l s t) (n : Nat) : Signals l s (t.sbStatusSet n) := by
  obtain ⟨honly, hget⟩ := h
  refine ⟨?_, hget⟩
  unfold OnlySignals at honly ⊢
  rw [State.sbStatusSet, honly]

theorem State.sbWriteAt_misaligned {off : Nat} (hoff : off % 4 ≠ 0 ∨ 0x400000 ≤ off) (w : Nat) :
    s.sbWriteAt off w = s.sbStatusSet 2 := if_pos (by simpa [sbMisaligned] using hoff)

theorem State.sbWriteAt_denied {off : Nat} (hoff : off % 4 = 0) (hlt : off < 0x400000) (hno : sbWritable off = false) (w : Nat) :
    s.sbWriteAt off w = s.sbDenied.sbStatusSet 1 := by
  rw [State.sbWriteAt, sbMisaligned_aligned hoff hlt, if_neg Bool.false_ne_true, if_pos (by simp [hno])]

theorem State.sbWriteAt_open {off : Nat} (hoff : off % 4 = 0) (hlt : off < 0x400000) (hok : sbWritable off = true) (w : Nat) :
    s.sbWriteAt off w = (s.barWrite none off w).sbStatusSet 0 := by
  rw [State.sbWriteAt, sbMisaligned_aligned hoff hlt, if_neg Bool.false_ne_true, if_neg (by simp [hok])]

theorem exec_alertResponse (hup : s.sbUp = true) (hbus : s.sbI3c = false) (halert : s.alertLow = true) :
    exec .alertResponse s = .next
      { s.sbReply [BitVec.ofNat 8 s.sbAddress] with host := { s.host with alertReleased := true } } :=
  congrArg Host.Outcome.next (if_pos (by simp [hup, hbus, halert]))

/-- A write of `HOST_SB_ALERT` clears the bits written 1. -/
theorem State.barWrite_alert (w : Nat) (hup : s.blockUp 11 = true) :
    Signals [R.HOST_SB_ALERT] s (s.barWrite none 0x270030 w) ∧ ∀ n : Fin 5,
      bitAt ((s.barWrite none 0x270030 w).get R.HOST_SB_ALERT) n.val = (bitAt (s.get R.HOST_SB_ALERT) n.val && !bitAt w n.val) := by
  have hplain : 0x270030 ∈ plainRegs := by decide
  have hfields : fieldsAt 0x270030 = [R.HOST_SB_ALERT] := by decide +kernel
  have hwrite : s.barWrite none 0x270030 w = s.accWrite 0x270030 w false := (if_pos hup).trans (s.blockWrite_plain none w _ hplain)
  have htakes := s.accWrite_takes 0x270030 w false (plainRegs_nodup _ hplain)
  have hsig := s.accWrite_signals 0x270030 w false
  rw [hfields] at htakes hsig
  rw [hwrite]
  refine ⟨hsig, fun n => ?_⟩
  have hbit := (htakes _ (List.mem_singleton_self _)).2.1 rfl n.val n.isLt
  rwa [show R.HOST_SB_ALERT.lo = 0 from rfl, Nat.zero_add] at hbit

end

/-- Settles O22. -/
theorem sidebandWrites : Obligations.SidebandWrites := by
  unfold Obligations.SidebandWrites
  refine ⟨fun off v s hup hready hoff => ?_, fun off v s hup hready hoff hlt hpwr hthm hisl hal hen => ?_, fun v s hup hready hblock => ?_,
    fun s hup hbus halert => ?_, fun _ => rfl⟩
  · refine ⟨_, (exec_sbWrite hup hready).trans (congrArg Host.Outcome.next (State.sbWriteAt_misaligned hoff _)), rfl, ?_⟩
    exact (s.pmu_signals _ none 1 []).sbStatus 2
  · have hno : sbWritable off.toNat = false := by simp [sbWritable, hpwr, hthm, hisl, hal, hen]
    obtain ⟨hsig, hevt, hcount⟩ := s.sbCounted.sbDenied_effect 1
    refine ⟨_, (exec_sbWrite hup hready).trans (congrArg Host.Outcome.next (State.sbWriteAt_denied hoff hlt hno _)), rfl,
      (s.pmu_signals _ none 1 _).trans hsig, hevt, hcount.trans ?_⟩
    rw [State.sbCounted, s.pmu_get _ _ _ (by decide)]
  · have hcounted := s.pmu_signals 0xEA none 1 [R.HOST_SB_ALERT]
    have hview := (s.pmu_vectors 0xEA none 1).sameView
    obtain ⟨hsig, hbits⟩ := State.barWrite_alert (s := s.sbCounted) v.toNat ((hview.blockUp 11).trans hblock)
    refine ⟨_, (exec_sbWrite hup hready).trans (congrArg Host.Outcome.next (State.sbWriteAt_open (by decide) (by decide) (by decide) _)),
      rfl, (hcounted.trans hsig).sbStatus 0, fun n => (hbits n).trans ?_⟩
    rw [State.sbCounted, s.pmu_get _ _ _ (by decide)]
  · refine ⟨_, exec_alertResponse hup hbus halert, rfl, rfl, ?_, rfl⟩
    simp [State.alertLow]

/-! ### I3C (R513) -/

section
variable {s : State} (hup : s.sbUp = true) (hmode : s.sbI3c = true)
include hup hmode

theorem State.i3cUp_of : s.i3cUp = true := Bool.and_eq_true_iff.2 ⟨hup, hmode⟩

theorem exec_setdasa {static dyn : BitVec 7} (hstatic : static.toNat = s.sbAddress) (hfree : s.dynTaken = false) :
    exec (.setdasa static dyn) s = .next (s.setDyn dyn.toNat) :=
  congrArg Host.Outcome.next (if_pos (by simp [State.i3cUp_of hup hmode, hstatic, hfree]))

theorem exec_entdaa {dyn : BitVec 7} (hfree : s.dynTaken = false) :
    exec (.entdaa dyn) s = .next ((s.sbReply (s.pidBytes ++ [0, 0])).setDyn dyn.toNat) :=
  congrArg Host.Outcome.next (if_pos (by simp [State.i3cUp_of hup hmode, hfree]))

theorem exec_rstdaa : exec .rstdaa s = .next (s.puts [(R.HOST_SB_STAT_dyn_addr, 0), (R.HOST_SB_STAT_dyn_valid, 0)]) :=
  congrArg Host.Outcome.next (if_pos (State.i3cUp_of hup hmode))

end

/-- The dynamic address, and that it is valid. -/
theorem State.setDyn_effect (s : State) (addr valid : Nat) (haddr : addr < 2 ^ 7) (hvalid : valid < 2) :
    let t := s.puts [(R.HOST_SB_STAT_dyn_addr, addr), (R.HOST_SB_STAT_dyn_valid, valid)]
    Writes [R.HOST_SB_STAT_dyn_addr, R.HOST_SB_STAT_dyn_valid] s t ∧ t.get R.HOST_SB_STAT_dyn_addr = addr ∧
      t.get R.HOST_SB_STAT_dyn_valid = valid := by
  have hget : ∀ p ∈ [(R.HOST_SB_STAT_dyn_addr, addr), (R.HOST_SB_STAT_dyn_valid, valid)],
      (s.puts [(R.HOST_SB_STAT_dyn_addr, addr), (R.HOST_SB_STAT_dyn_valid, valid)]).get p.1 = p.2 % 2 ^ p.1.w :=
    fun p hp => s.get_puts_mem [R.HOST_SB_STAT_dyn_addr, R.HOST_SB_STAT_dyn_valid] rfl (by decide) hp
  exact ⟨s.puts_writes _, (hget _ List.mem_cons_self).trans (Nat.mod_eq_of_lt haddr),
    (hget _ (List.mem_cons_of_mem _ List.mem_cons_self)).trans (Nat.mod_eq_of_lt hvalid)⟩

theorem State.pidBytes_slot (s : State) (hslot : s.sbSlot < 8) :
    s.pidBytes = [0x05, 0x4E, 0x48, 0x01, BitVec.ofNat 8 (16 * s.sbSlot), 0x00] := by
  unfold State.pidBytes State.pid
  generalize s.sbSlot = k at hslot
  decide +revert

/-- Settles O23. -/
theorem i3cTarget : Obligations.I3cTarget := by
  unfold Obligations.I3cTarget
  intro s hup hmode
  have hi3c := State.i3cUp_of hup hmode
  refine ⟨fun dyn hdyn => ?_, ⟨_, exec_rstdaa hup hmode, s.setDyn_effect 0 0 (by decide) (by decide)⟩,
    congrArg Host.Outcome.next (if_pos hi3c), s.pidBytes_slot, congrArg Host.Outcome.next (if_pos hi3c),
    congrArg Host.Outcome.next (if_pos hi3c), ⟨_, toLE_length 2 _, congrArg Host.Outcome.next (if_pos hi3c)⟩,
    ⟨_, toLE_length 2 _, congrArg Host.Outcome.next (if_pos hi3c)⟩, ⟨_, toLE_length 2 _, congrArg Host.Outcome.next (if_pos hi3c)⟩⟩
  have hfree : s.dynTaken = false := by simp [State.dynTaken, hdyn]
  refine ⟨?_, ?_⟩
  · by_cases hslot : s.sbSlot < 8
    · have hstatic : (BitVec.ofNat 7 s.sbAddress).toNat = s.sbAddress := by
        rw [BitVec.toNat_ofNat, State.sbAddress]
        omega
      exact ⟨_, exec_setdasa hup hmode hstatic hfree, fun _ => s.setDyn_effect dyn.toNat 1 dyn.isLt (by decide)⟩
    · exact ⟨_, rfl, fun h => absurd h hslot⟩
  · obtain ⟨hwrites, haddr, hvalid⟩ := (s.sbReply (s.pidBytes ++ [0, 0])).setDyn_effect dyn.toNat 1 dyn.isLt (by decide)
    exact ⟨_, exec_entdaa hup hmode hfree, haddr, hvalid, rfl, hwrites.2, rfl⟩

end Sys2Proof.Machine
end

section
/-!
PROOFS. Writes of interrupt enables (R496 to R498).
-/

namespace Sys2Proof.Machine

section
variable {s t : State}

/-- Which registers hold enables does not depend on the state. -/
theorem State.isEnable_congr (s t : State) (off : Nat) : t.isEnable off = s.isEnable off := by
  have hsome : (t.enableAt off 0).isSome = (s.enableAt off 0).isSome := by
    unfold State.enableAt
    split
    case h_11 => split <;> rfl
    all_goals rfl
  rw [State.isEnable, hsome, State.isEnable]

/-- An enable register has no behaviour but its own. -/
theorem State.blockWrite_enable (half : Option (Fin 2)) {off : Nat} (w : Nat) (h : s.isEnable off = true) :
    s.blockWrite half off w = s.plainWrite off w := by
  unfold State.isEnable State.enableAt at h
  rcases Bool.or_eq_true_iff.1 h with hhost | h
  · rw [beq_iff_eq.1 hhost]; rfl
  split at h
  case h_11 =>
    obtain ⟨hlo, hhi, hoff⟩ : 0x80000 ≤ off ∧ off < 0xC0000 ∧ off % 0x4000 = 0x2C := by
      by_contra hno
      rw [if_neg hno] at h
      cases h
    have hblock : barBlock off = 5 := by
      unfold barBlock
      repeat rw [if_neg (by omega)]
      exact if_pos (by omega)
    unfold State.blockWrite
    rw [hblock]
    show s.seqWrite off w = _
    unfold State.seqWrite
    dsimp only
    repeat rw [if_neg (by omega)]
  all_goals rfl

/-- The keys of a register's fields. -/
abbrev wordKeys (off key : Nat) : Prop := 32 * off ≤ key ∧ key < 32 * off + 32

theorem State.accWrite_touches (s : State) (off w : Nat) (lk : Bool) : Touches (wordKeys off) s (s.accWrite off w lk) :=
  ⟨(s.accWrite_signals off w lk).1, fun g _ hg => s.get_accWrite_outside off w lk g hg⟩

theorem State.accWrite_host (s : State) (off w : Nat) (lk : Bool) : (s.accWrite off w lk).host = s.host := by
  rw [State.accWrite, State.writeFields_only]

theorem State.send_touches (s : State) (P : Nat → Prop) (v : Nat) : Touches P s (s.send v) :=
  ⟨s.send_only v, fun _ hp _ => s.send_get v hp⟩

theorem State.enableWrite_touches (s : State) (off w events vec : Nat) : Touches (wordKeys off) s (s.enableWrite off w events vec) :=
  .ite (s.accWrite_touches off w false) ((s.accWrite_touches off w false).trans (State.send_touches _ _ _))

theorem State.hostEnable_touches (s : State) (w : Nat) : Touches (wordKeys 0x27000C) s (s.hostEnable w) := by
  have hacc := s.accWrite_touches 0x27000C w false
  have hlow := Touches.ite (c := Nat.land w (s.get R.HOST_EVT) % 2 ^ 10 = 0) hacc
    (hacc.trans (State.send_touches _ _ ((s.accWrite 0x27000C w false).get R.HOST_IRQ_MAP2_host)))
  exact .ite hlow (hlow.trans (State.send_touches _ _ _))

theorem State.plainWrite_touches (s : State) (off w : Nat) : Touches (wordKeys off) s (s.plainWrite off w) := by
  unfold State.plainWrite
  split
  · next hoff => rw [hoff]; exact s.hostEnable_touches w
  · split
    · exact s.enableWrite_touches _ _ _ _
    · exact s.accWrite_touches _ _ _

/-- A vector that its half can send is sent (R496). -/
theorem State.send_sent {v : Nat} (h : (s.half (s.route v)).canSend v = true) : Out.msix (s.route v).val v ∈ (s.send v).out := by
  have hraw : s.sendRaw v = (s.emit (.msix (s.route v).val v), true) := if_pos h
  rw [State.send, hraw]
  exact State.pmu_out List.mem_cons_self _ _ _

/-- Where a vector goes, and whether it can, are told by the routes and the halves. -/
theorem State.canSend_congr (hlo : t.get R.HOST_VEC_ROUTE_LO = s.get R.HOST_VEC_ROUTE_LO)
    (hhi : t.get R.HOST_VEC_ROUTE_HI = s.get R.HOST_VEC_ROUTE_HI) (hpends : OnlyPends s t) (v : Nat) :
    t.route v = s.route v ∧ (t.half (s.route v)).canSend v = (s.half (s.route v)).canSend v := by
  refine ⟨by rw [State.route, hlo, hhi, State.route], ?_⟩
  rw [hpends (s.route v)]
  rfl

theorem exec_eventEnableWrite {h : Fin 2} {off : BitVec 22} (v : Word) (hserves : s.barServes h = true) (hreset : s.inCxlReset = false)
    (hoff : off.toNat % 4 = 0) (henable : s.isEnable off.toNat = true) (hup : s.blockUp (barBlock off.toNat) = true) :
    exec (.eventEnableWrite h off v) s = .next ((s.pmu 0xE5 none 1).plainWrite off.toNat v.toNat) := by
  have haligned : 4 * (off.toNat / 4) = off.toNat := by omega
  have hwrite : s.hostBarWrite h off.toNat v.toNat = (s.pmu 0xE5 none 1).plainWrite off.toNat v.toNat :=
    (s.hostBarWrite_open h _ _ (.inl hreset) hup).trans (State.blockWrite_enable _ _ ((State.isEnable_congr s _ _).trans henable))
  show execEventEnableWrite h off v s = _
  simp only [execEventEnableWrite, haligned, hserves, henable, Bool.and_self, if_true, hwrite]

end

theorem State.hznEnable_signals (s : State) (w : Nat) : Signals [R.HZN_IRQ_EN] s (s.accWrite 0x30020 w false) ∧
    (s.accWrite 0x30020 w false).get R.HZN_IRQ_EN = bits w 0 7 := by
  have hfields : fieldsAt 0x30020 = [R.HZN_IRQ_EN] := by decide +kernel
  have hsig := s.accWrite_signals 0x30020 w false
  have htakes := s.accWrite_takes 0x30020 w false (by decide +kernel)
  rw [hfields] at hsig htakes
  exact ⟨hsig, (htakes _ (List.mem_singleton_self _)).1 rfl⟩

/-- Settles O28. -/
theorem enableWrites : Obligations.EnableWrites := by
  unfold Obligations.EnableWrites
  refine ⟨fun h off v s hserves hreset hoff henable hup => ?_, fun h v s hserves hreset hup => ?_⟩
  · obtain ⟨honly, hget⟩ := (s.pmu_touches (wordKeys off.toNat) 0xE5 none 1).trans (State.plainWrite_touches _ _ v.toNat)
    exact ⟨_, exec_eventEnableWrite v hserves hreset hoff henable hup, honly, hget⟩
  · let u := s.pmu 0xE5 none 1
    obtain ⟨hacc, htakes⟩ := u.hznEnable_signals v.toNat
    have hsig : Signals [R.HZN_IRQ_EN] s (u.accWrite 0x30020 v.toNat false) := (s.pmu_signals _ none 1 _).trans hacc
    have hevt : u.get R.HZN_EVT = s.get R.HZN_EVT := s.pmu_get _ _ _ (by decide)
    have hmap : u.get R.HOST_IRQ_MAP0_hzn = s.get R.HOST_IRQ_MAP0_hzn := s.pmu_get _ _ _ (by decide)
    have hwrite : u.plainWrite 0x30020 v.toNat = u.enableWrite 0x30020 v.toNat (s.get R.HZN_EVT) (s.get R.HOST_IRQ_MAP0_hzn) := by
      rw [← hevt, ← hmap]
      rfl
    have henable : s.isEnable 0x30020 = true := rfl
    have hexec := exec_eventEnableWrite (off := 0x30020#22) v hserves hreset (by decide) henable hup
    refine ⟨_, hexec.trans (congrArg Host.Outcome.next hwrite), ?_, ?_, ?_⟩
    · unfold State.enableWrite
      dsimp only
      split
      · exact hsig
      · exact hsig.trans (State.send_signals _ _ _)
    · unfold State.enableWrite
      dsimp only
      split
      · exact htakes
      · exact (State.send_get _ _ (by decide)).trans htakes
    · intro hset hcan
      have hpends : OnlyPends s (u.accWrite 0x30020 v.toNat false) :=
        (s.pmu_pends _ none 1).trans (.of_host (u.accWrite_host _ _ _))
      obtain ⟨hroute, hsend⟩ := State.canSend_congr (hsig.2 R.HOST_VEC_ROUTE_LO (by decide) (by decide))
        (hsig.2 R.HOST_VEC_ROUTE_HI (by decide) (by decide)) hpends (s.get R.HOST_IRQ_MAP0_hzn)
      rw [State.enableWrite, if_neg hset, ← hroute]
      exact State.send_sent (by rw [hroute, hsend, hcan])

end Sys2Proof.Machine
end

section
/-!
PROOFS. The TAPs: instructions and permitted debug accesses (R657 to R663).
-/

namespace Sys2Proof.Machine

/-! ### Instructions (R657 to R660) -/

section
variable (s t : State) (island : Bool)

/-- Only the named TAP is another; what is emitted is `out`. -/
def TapOnly (s t : State) (island : Bool) (out : List Out) : Prop :=
  t = { s with out := out, tapIsl := t.tapIsl, tapCtl := t.tapCtl } ∧ t.tap (!island) = s.tap (!island)

theorem State.setTap_only (x : TapSt) (o : Out) :
    TapOnly s ((s.setTap island x).emit o) island (o :: s.out) ∧ ((s.setTap island x).emit o).tap island = x := by
  cases island <;> exact ⟨⟨rfl, rfl⟩, rfl⟩

theorem State.tapLoad_only (code : Nat) (refused : Bool) (o : Out) :
    TapOnly s ((s.tapLoad island code refused).emit o) island (o :: s.out) ∧
      ((s.tapLoad island code refused).emit o).tap island = ⟨code, refused, 0, false, false⟩ := s.setTap_only island _ o

/-- Only the named TAP is another, and one free value is used for what is emitted. -/
def TapFree (s t : State) (island : Bool) : Prop :=
  t = { s with out := .tap island (Config.free s.freeIx) :: s.out, freeIx := s.freeIx + 1, tapIsl := t.tapIsl, tapCtl := t.tapCtl } ∧
    t.tap (!island) = s.tap (!island)

variable {s island}

theorem State.tapOne_up (hup : s.tapUp island = true) (code : Nat) :
    s.tapOne island code = (s.tapLoad island code false).emit (.tap island 0) := if_pos hup

theorem State.tapOne_out (hup : s.tapUp island = false) (code : Nat) : s.tapOne island code = s.emit (.tap island 0) :=
  if_neg (by simp [hup])

theorem State.tapBoundary_up (hup : s.tapUp island = true) (code : Nat) :
    TapFree s (s.tapBoundary island code) island ∧ (s.tapBoundary island code).tap island = ⟨code, false, 0, false, false⟩ := by
  rw [State.tapBoundary, if_pos hup]
  cases island <;> exact ⟨⟨rfl, rfl⟩, rfl⟩

theorem State.tapBoundary_out (hup : s.tapUp island = false) (code : Nat) : s.tapBoundary island code = s.emit (.tap island 0) :=
  if_neg (by simp [hup])

theorem exec_idcode (hup : s.tapUp island = true) :
    exec (.idcode island) s = .next ((s.tapLoad island 1 false).emit (.tap island (s.idcode island))) :=
  congrArg Host.Outcome.next (if_pos hup)

theorem exec_idcode_out (hup : s.tapUp island = false) : exec (.idcode island) s = .next (s.emit (.tap island 0)) :=
  congrArg Host.Outcome.next (if_neg (by simp [hup]))

/-- The instructions that R660 may refuse are not refused on an absent TAP, nor where they are allowed. -/
theorem State.scan_taken (h : s.tapUp island = false ∨ s.scanAllowed island = true) : ¬ (s.tapUp island && !s.scanAllowed island) = true := by
  rcases h with h | h <;> simp [h]

theorem exec_extest (h : s.tapUp island = false ∨ s.scanAllowed island = true) :
    exec (.extest island) s = .next (s.tapBoundary island 3) := congrArg Host.Outcome.next (if_neg (State.scan_taken h))

theorem exec_clamp (h : s.tapUp island = false ∨ s.scanAllowed island = true) :
    exec (.clamp island) s = .next (s.tapOne island 4) := congrArg Host.Outcome.next (if_neg (State.scan_taken h))

theorem exec_highz (h : s.tapUp island = false ∨ s.scanAllowed island = true) :
    exec (.highz island) s = .next (s.tapOne island 5) := congrArg Host.Outcome.next (if_neg (State.scan_taken h))

theorem State.idcode_rev (h : s.a0 = false) : s.idcode island = if island then 0x14808BC7 else 0x14801BC7 := by
  rw [State.idcode, h]
  cases island <;> rfl

theorem State.idcode_a0 (h : s.a0 = true) : s.idcode island = if island then 0x04808BC7 else 0x04801BC7 := by
  rw [State.idcode, h]
  cases island <;> rfl

end

/-- Settles O24. -/
theorem tapInstructions : Obligations.TapInstructions := by
  unfold Obligations.TapInstructions
  refine ⟨fun s => ⟨_, rfl, rfl⟩, fun island s hdown => ?_, fun island s hup => ⟨?_, ?_, ?_, fun hallowed => ⟨?_, ?_, ?_⟩⟩⟩
  · exact ⟨congrArg Host.Outcome.next (State.tapOne_out hdown _), exec_idcode_out hdown,
      congrArg Host.Outcome.next (State.tapBoundary_out hdown _),
      (exec_extest (.inl hdown)).trans (congrArg Host.Outcome.next (State.tapBoundary_out hdown _)),
      (exec_clamp (.inl hdown)).trans (congrArg Host.Outcome.next (State.tapOne_out hdown _)),
      (exec_highz (.inl hdown)).trans (congrArg Host.Outcome.next (State.tapOne_out hdown _))⟩
  · obtain ⟨⟨honly, hother⟩, htap⟩ := s.tapLoad_only island (bypassCode island) false (.tap island 0)
    exact ⟨_, congrArg Host.Outcome.next (State.tapOne_up hup _), honly, congrArg TapSt.instr htap, hother⟩
  · obtain ⟨⟨honly, hother⟩, htap⟩ := s.tapLoad_only island 1 false (.tap island (s.idcode island))
    have hout : ((s.tapLoad island 1 false).emit (.tap island (s.idcode island))).out = .tap island (s.idcode island) :: s.out := by
      rw [honly]
    refine ⟨_, exec_idcode hup, ?_, congrArg TapSt.instr htap, hother, fun h => ?_, fun h => ?_⟩
    · rw [hout]; exact honly
    · rw [hout, State.idcode_rev h]
    · rw [hout, State.idcode_a0 h]
  · obtain ⟨⟨honly, hother⟩, htap⟩ := State.tapBoundary_up hup 2
    exact ⟨_, rfl, congrArg TapSt.instr htap, hother, honly⟩
  · obtain ⟨⟨honly, hother⟩, htap⟩ := State.tapBoundary_up hup 3
    exact ⟨_, exec_extest (.inr hallowed), congrArg TapSt.instr htap, congrArg TapSt.refused htap, honly, hother⟩
  · obtain ⟨⟨honly, hother⟩, htap⟩ := s.tapLoad_only island 4 false (.tap island 0)
    exact ⟨_, (exec_clamp (.inr hallowed)).trans (congrArg Host.Outcome.next (State.tapOne_up hup _)), honly,
      congrArg TapSt.instr htap, congrArg TapSt.refused htap, hother⟩
  · obtain ⟨⟨honly, hother⟩, htap⟩ := s.tapLoad_only island 5 false (.tap island 0)
    exact ⟨_, (exec_highz (.inr hallowed)).trans (congrArg Host.Outcome.next (State.tapOne_up hup _)), honly,
      congrArg TapSt.instr htap, congrArg TapSt.refused htap, hother⟩

/-! ### Debug accesses (R661, R662) -/

section
variable {s : State}

theorem exec_dbgRead {off : BitVec 22} (hup : s.tapUp false = true) (hpowered : s.powered = true) (hlevel : s.fls.protLevel ≤ 1) :
    exec (.dbgRead off) s = .next (s.dbgReadAt off.toNat) :=
  congrArg Host.Outcome.next ((if_neg (by simp [hup])).trans (if_neg (by simp [State.dbgPermits, hpowered, hlevel])))

/-- BENCH is a running state. -/
theorem State.powered_bench (h : s.isBench = true) : s.powered = true := by
  obtain ⟨hstate, hgo⟩ := Bool.and_eq_true_iff.1 h
  have hrunning : s.running = true := by
    unfold State.running
    rw [hgo, eq_of_beq hstate]
    rfl
  rw [State.powered, hrunning, Bool.true_or]

theorem exec_dbgWrite {off : BitVec 22} (v : Word) (hup : s.tapUp false = true) (hbench : s.isBench = true) (hlevel : s.fls.protLevel = 0) :
    exec (.dbgWrite off v) s = .next (s.dbgWriteAt off.toNat v.toNat) :=
  congrArg Host.Outcome.next ((if_neg (by simp [hup])).trans
    (if_neg (by simp [State.dbgPermits, State.powered_bench hbench, hbench, hlevel])))

/-- A register's word fits in 32 bits' result of a debug access. -/
theorem State.dbgReadAt_reg {off : Nat} (hoff : off % 4 = 0) (htile : barBlock off ≠ 6) (hpair : pairLow off = false)
    (hpair' : pairLow (off - 4) = false) (harea : off < 0x240000 ∨ 0x270000 ≤ off) (hup : s.blockUp (barBlock off) = true) :
    s.dbgReadAt off = s.dbgResult 0x40 (s.barWord off) false := by
  have hwindow : off ≠ 0x100008 := fun h => htile (by rw [h]; decide)
  have hread := s.barRead_reg 4 none hup hwindow (by omega)
  rw [s.regRead_single 4 off hpair hpair'] at hread
  rw [State.dbgReadAt, if_neg htile, if_neg (by simpa using hoff), hread]

theorem State.dbgReadAt_tile {off : Nat} (htile : barBlock off = 6) : s.dbgReadAt off = s.dbgOpen 0x40 true := if_pos htile

theorem State.dbgWriteAt_closed {off : Nat} (h : sbWritable (4 * (off / 4)) = false) (w : Nat) : s.dbgWriteAt off w = s.dbgOpen 0x41 true :=
  if_pos (by simp [h])

/-- A write of THM_CTRL with the lock bit alone sets the lock. -/
theorem State.barWrite_thmLock (half : Option (Fin 2)) (hup : s.blockUp 12 = true) : s.barWrite half 0x280068 1 = s.put R.THM_CTRL_lock 1 :=
  if_pos hup

end

/-- Settles O26. -/
theorem debugAccesses : Obligations.DebugAccesses := by
  unfold Obligations.DebugAccesses
  refine ⟨fun off s hup hpowered hlevel hoff htile hpair hpair' harea hblock => ?_, fun off s hup hpowered hlevel htile => ?_,
    fun off v s hup hbench hlevel hclosed => ?_, fun s hup hbench hlevel hblock => ?_⟩
  · exact ⟨_, (exec_dbgRead hup hpowered hlevel).trans
      (congrArg Host.Outcome.next (State.dbgReadAt_reg hoff htile hpair hpair' harea hblock)), rfl, rfl, rfl⟩
  · exact ⟨_, (exec_dbgRead hup hpowered hlevel).trans (congrArg Host.Outcome.next (State.dbgReadAt_tile htile)), rfl, rfl, rfl⟩
  · exact ⟨_, (exec_dbgWrite v hup hbench hlevel).trans (congrArg Host.Outcome.next (State.dbgWriteAt_closed hclosed _)), rfl, rfl, rfl⟩
  · have hwrite : s.dbgWriteAt 0x280068 1 = (s.put R.THM_CTRL_lock 1).dbgOpen 0x41 false :=
      congrArg (fun u => State.dbgOpen u 0x41 false) (State.barWrite_thmLock none hblock)
    exact ⟨_, (exec_dbgWrite 1 hup hbench hlevel).trans (congrArg Host.Outcome.next hwrite), s.get_put_same R.THM_CTRL_lock 1,
      (s.put_writes R.THM_CTRL_lock 1).2, rfl⟩

end Sys2Proof.Machine
end

section
/-!
PROOFS. Thermal thresholds, pairs and the lock (R628, R629).
-/

namespace Sys2Proof.Machine

section
variable {s : State} {v : Nat} (hlock : s.get R.THM_CTRL_lock = 0)
include hlock

theorem State.thmThrWrite_accepted {rate : Bool} (hok : thmAccepts rate v = true) :
    (s.thmThrWrite rate v).regs = (s.accWrite (if rate then 0x280064 else 0x280060) v false).regs ∧
    s.thmThrWrite rate v = { s with regs := (s.thmThrWrite rate v).regs, thm := { s.thm with dies := (s.thmThrWrite rate v).thm.dies } } ∧
    ∀ d ∈ (s.thmThrWrite rate v).thm.dies.toList, d.upWarn = 0 ∧ d.upOver = 0 ∧ d.upShut = 0 ∧ d.downRun = 0 ∧ d.rateUp = 0 ∧
      d.rateDown = 0 ∧ d.rateFast = 0 := by
  have honly := State.writeFields_only (fieldsAt (if rate then 0x280064 else 0x280060)) false v s
  rw [State.thmThrWrite, if_neg (by simp [hlock]), if_neg (by simp [hok]), State.accWrite, honly]
  refine ⟨rfl, rfl, fun d hd => ?_⟩
  obtain ⟨x, -, hx⟩ := List.mem_map.1 (Vector.toList_map ▸ hd)
  rw [← hx]
  exact ⟨rfl, rfl, rfl, rfl, rfl, rfl, rfl⟩

theorem State.thmPairWrite_open (k : Nat) :
    (s.thmPairWrite k v).regs = (s.accWrite (0x280080 + 4 * k) v false).regs ∧
    s.thmPairWrite k v = { s with regs := (s.thmPairWrite k v).regs, thm := { s.thm with dies := (s.thmPairWrite k v).thm.dies } } ∧
    ∀ d ∈ (s.thmPairWrite k v).thm.dies.toList, d.suspectRun = 0 ∧ d.clearRun = 0 := by
  have honly := State.writeFields_only (fieldsAt (0x280080 + 4 * k)) false v s
  rw [State.thmPairWrite, if_neg (by simp [hlock]), State.accWrite, honly]
  refine ⟨rfl, rfl, fun d hd => ?_⟩
  obtain ⟨x, -, hx⟩ := List.mem_map.1 (Vector.toList_map ▸ hd)
  rw [← hx]
  exact ⟨rfl, rfl⟩

end

/-- What the access codes leave in a register whose fields are all RW. -/
theorem State.get_accWrite_rw (s : State) {off : Nat} (v : Nat) {fs : List Fld} (hfields : fieldsAt off = fs) (hk : (fs.map Fld.key).Nodup)
    (hrw : ∀ f ∈ fs, f.acc = .RW ∨ f.acc = .RWL) : 
    (∀ f ∈ fs, (s.accWrite off v false).get f = bits v f.lo f.w) ∧ FieldsBut fs s (s.accWrite off v false) := by
  subst hfields
  refine ⟨fun f hf => ?_, fun g hg => State.get_writeFields_other _ false v s g hg⟩
  rw [State.accWrite, State.get_writeFields_mem _ false v s hk f hf, Fld.written]
  rcases hrw f hf with h | h <;> simp [h, bits]

/-- The same registers, the same fields. -/
theorem State.get_of_regs {t u : State} (h : t.regs = u.regs) (f : Fld) : t.get f = u.get f := by rw [State.get, h, State.get]

theorem fieldsAt_thmPair (k : Fin 9) : fieldsAt (0x280080 + 4 * k.val) = [R.THM_PAIR_offset0 k.val, R.THM_PAIR_slope k.val] := by
  revert k
  decide +kernel

/-- Settles O19. -/
theorem thermalConfiguration : Obligations.ThermalConfiguration := by
  unfold Obligations.ThermalConfiguration
  refine ⟨fun v s hup hlock hok => ?_, fun v s hup hlock hok => ?_, fun k v s hup hlock => ?_, fun s hup => ?_⟩
  · have hfields : fieldsAt 0x280060 = [R.THM_THR_warning, R.THM_THR_overcast, R.THM_THR_shutdown, R.THM_THR_hyst] := by decide +kernel
    obtain ⟨hregs, honly, hdies⟩ := State.thmThrWrite_accepted hlock hok
    obtain ⟨htakes, hbut⟩ := s.get_accWrite_rw v.toNat hfields (by decide) (by decide)
    have hget := State.get_of_regs hregs
    simp only [List.forall_mem_cons] at htakes
    obtain ⟨hwarn, hover, hshut, hhyst, -⟩ := htakes
    exact ⟨_, congrArg Host.Outcome.next (if_pos hup), (hget _).trans hwarn, (hget _).trans hover, (hget _).trans hshut,
      (hget _).trans hhyst, fun g hg => (hget g).trans (hbut g hg), honly, hdies⟩
  · have hfields : fieldsAt 0x280064 = [R.THM_RATE_limit, R.THM_RATE_imm_margin] := by decide +kernel
    obtain ⟨hregs, honly, hdies⟩ := State.thmThrWrite_accepted hlock hok
    obtain ⟨htakes, hbut⟩ := s.get_accWrite_rw v.toNat hfields (by decide) (by decide)
    have hget := State.get_of_regs hregs
    simp only [List.forall_mem_cons] at htakes
    obtain ⟨hlimit, hmargin, -⟩ := htakes
    exact ⟨_, congrArg Host.Outcome.next (if_pos hup), (hget _).trans hlimit, (hget _).trans hmargin,
      fun g hg => (hget g).trans (hbut g hg), honly, hdies⟩
  · obtain ⟨hregs, honly, hdies⟩ := State.thmPairWrite_open (v := v.toNat) hlock k.val
    obtain ⟨htakes, hbut⟩ := s.get_accWrite_rw v.toNat (fieldsAt_thmPair k) (by simp [Fld.key, R.THM_PAIR_offset0, R.THM_PAIR_slope])
      (by simp [R.THM_PAIR_offset0, R.THM_PAIR_slope])
    have hget := State.get_of_regs hregs
    simp only [List.forall_mem_cons] at htakes
    obtain ⟨hoffset, hslope, -⟩ := htakes
    exact ⟨_, congrArg Host.Outcome.next (if_pos hup), (hget _).trans hoffset, (hget _).trans hslope,
      fun g hg => (hget g).trans (hbut g hg), honly, hdies⟩
  · exact ⟨_, congrArg Host.Outcome.next (if_pos hup), s.put_writes _ _, s.get_put_same R.THM_CTRL_lock 1⟩

end Sys2Proof.Machine
end

section
/-!
PROOFS. Event counters, their triggers and the fault log's clear (R646, R648, R651, R653, R654).
-/

namespace Sys2Proof.Machine

/-! ### Fields put one after the other -/

section
variable {s : State} {l m : List (Fld × Nat)}

/-- A field put once, or always as the same, holds what was put. -/
theorem State.get_puts_agree (s : State) {p : Fld × Nat} (hp : p ∈ l) (hsame : ∀ q ∈ l, q.1.key = p.1.key → q = p) :
    (s.puts l).get p.1 = p.2 % 2 ^ p.1.w := by
  induction l generalizing s with
  | nil => cases hp
  | cons q l ih =>
    obtain ⟨hq, hl⟩ := List.forall_mem_cons.1 hsame
    by_cases hlater : p ∈ l
    · exact ih (s.put q.1 q.2) hlater hl
    · have hhere : q = p := ((List.mem_cons.1 hp).resolve_right hlater).symm
      have hother : ∀ r ∈ l, p.1.key ≠ r.1.key := fun r hr hk => hlater (hl r hr hk.symm ▸ hr)
      subst hhere
      exact ((s.put q.1 q.2).get_puts_other l q.1 hother).trans (s.get_put_same q.1 q.2)

theorem Writes.mono {l m : List Fld} {s t : State} (h : Writes l s t) (hlm : ∀ f ∈ l, f ∈ m) : Writes m s t := ⟨h.1, h.2.mono hlm⟩

/-- Steps that each put fields of a kind put them all, where such fields do not change what a step puts. -/
theorem foldl_puts {f : State → Nat → State} {puts : Nat → List (Fld × Nat)} {kind : Fld → Prop} {ns : List Nat}
    (hkind : ∀ n, ∀ p ∈ puts n, kind p.1)
    (hf : ∀ n ∈ ns, ∀ m, (∀ p ∈ m, kind p.1) → f (s.puts m) n = (s.puts m).puts (puts n)) : ns.foldl f s = s.puts (ns.flatMap puts) := by
  have hgen : ∀ m : List (Fld × Nat), (∀ p ∈ m, kind p.1) → ns.foldl f (s.puts m) = s.puts (m ++ ns.flatMap puts) := by
    induction ns with
    | nil => intro m _; rw [List.flatMap_nil, List.append_nil]; rfl
    | cons n ns ih =>
      intro m hm
      obtain ⟨hn, hns⟩ := List.forall_mem_cons.1 hf
      rw [List.foldl_cons, hn m hm, ← State.puts_append, List.flatMap_cons, ← List.append_assoc]
      exact ih hns _ fun p hp => (List.mem_append.1 hp).elim (hm p) (hkind n p)
  exact hgen [] (by simp)

end

/-! ### Counters of a mask (R648) -/

section
variable (s : State) (mask : Nat)

theorem exec_pmuStart {mask : Word} {s : State} (hup : s.blockUp 13 = true) : exec (.pmuStart mask) s = .next (s.pmuStart mask.toNat) :=
  congrArg Host.Outcome.next (if_pos hup)

theorem State.pmuStart_bit (n : Fin 32) :
    bitAt ((s.pmuStart mask).get R.PMU_RUN) n.val = (bitAt (s.get R.PMU_RUN) n.val || bitAt mask n.val) := by
  rw [State.pmuStart, State.get_put_same, bitAt_mod_two_pow _ _ _ (show n.val < R.PMU_RUN.w from n.isLt)]
  simp only [bitAt_eq_testBit]
  exact Nat.testBit_or _ _ _

theorem State.pmuStop_running {s : State} (h : s.pwr.state ≠ .dawn) :
    s.pmuStop mask = s.put R.PMU_RUN (clearBits (s.get R.PMU_RUN) mask) := State.gateDawn_later h

theorem State.pmuStop_bit (n : Fin 32) : bitAt ((s.put R.PMU_RUN (clearBits (s.get R.PMU_RUN) mask)).get R.PMU_RUN) n.val =
    (bitAt (s.get R.PMU_RUN) n.val && !bitAt mask n.val) := by
  rw [State.get_put_same, bitAt_mod_two_pow _ _ _ (show n.val < R.PMU_RUN.w from n.isLt), bitAt_clearBits]

/-- What a counter of the mask puts. -/
def maskPuts (mask : Nat) (puts : Nat → List (Fld × Nat)) (n : Nat) : List (Fld × Nat) := if bitAt mask n then puts n else []

/-- The counters of a mask put their fields. -/
theorem State.pmuEach_puts {f : State → Nat → State} {puts : Nat → List (Fld × Nat)} {kind : Fld → Prop}
    (hkind : ∀ n, ∀ p ∈ puts n, kind p.1)
    (hf : ∀ n < 32, ∀ m, (∀ p ∈ m, kind p.1) → f (s.puts m) n = (s.puts m).puts (puts n)) :
    s.pmuEach mask f = s.puts ((List.range 32).flatMap (maskPuts mask puts)) := by
  refine foldl_puts (kind := kind) (fun n p hp => ?_) fun n hn m hm => ?_
  · unfold maskPuts at hp
    split at hp
    · exact hkind n p hp
    · cases hp
  · unfold maskPuts
    split
    · exact hf n (List.mem_range.1 hn) m hm
    · rfl

theorem mem_maskPuts {mask n : Nat} {puts : Nat → List (Fld × Nat)} {p : Fld × Nat} :
    p ∈ maskPuts mask puts n ↔ bitAt mask n = true ∧ p ∈ puts n := by
  unfold maskPuts
  split <;> simp_all

/-- A pair of registers of each of 32 counters, 8 bytes apart. -/
def pairPuts (lo hi : Nat → Fld) (vlo vhi : Nat → Nat) (n : Nat) : List (Fld × Nat) := [(lo n, vlo n), (hi n, vhi n)]

variable {mask} {lo hi : Nat → Fld} {vlo vhi : Nat → Nat}

/-- The counters of the mask take their values, and the others keep theirs. -/
theorem State.get_pairPuts (hlo : ∀ n m, (lo n).key = (lo m).key → n = m) (hhi : ∀ n m, (hi n).key = (hi m).key → n = m)
    (hne : ∀ n m, (lo n).key ≠ (hi m).key) (n : Fin 32) :
    let t := s.puts ((List.range 32).flatMap (maskPuts mask (pairPuts lo hi vlo vhi)))
    (bitAt mask n.val = true → t.get (lo n.val) = vlo n.val % 2 ^ (lo n.val).w ∧ t.get (hi n.val) = vhi n.val % 2 ^ (hi n.val).w) ∧
    (bitAt mask n.val = false → t.get (lo n.val) = s.get (lo n.val) ∧ t.get (hi n.val) = s.get (hi n.val)) := by
  have hmem : ∀ p, p ∈ (List.range 32).flatMap (maskPuts mask (pairPuts lo hi vlo vhi)) ↔
      ∃ m < 32, bitAt mask m = true ∧ (p = (lo m, vlo m) ∨ p = (hi m, vhi m)) := by
    simp [mem_maskPuts, pairPuts]
  refine ⟨fun hbit => ⟨?_, ?_⟩, fun hbit => ⟨?_, ?_⟩⟩
  · refine s.get_puts_agree (p := (lo n, vlo n)) ((hmem _).2 ⟨n, n.isLt, hbit, .inl rfl⟩) fun q hq hk => ?_
    obtain ⟨m, -, -, rfl | rfl⟩ := (hmem q).1 hq
    · rw [hlo _ _ hk]
    · exact absurd hk.symm (hne _ _)
  · refine s.get_puts_agree (p := (hi n, vhi n)) ((hmem _).2 ⟨n, n.isLt, hbit, .inr rfl⟩) fun q hq hk => ?_
    obtain ⟨m, -, -, rfl | rfl⟩ := (hmem q).1 hq
    · exact absurd hk (hne _ _)
    · rw [hhi _ _ hk]
  · refine s.get_puts_other _ _ fun q hq hk => ?_
    obtain ⟨m, -, hset, rfl | rfl⟩ := (hmem q).1 hq
    · exact absurd hset (by rw [← hlo _ _ hk, hbit]; exact Bool.false_ne_true)
    · exact hne _ _ hk
  · refine s.get_puts_other _ _ fun q hq hk => ?_
    obtain ⟨m, -, hset, rfl | rfl⟩ := (hmem q).1 hq
    · exact hne _ _ hk.symm
    · exact absurd hset (by rw [← hhi _ _ hk, hbit]; exact Bool.false_ne_true)

theorem State.pairPuts_writes :
    Writes ((List.range 32).flatMap fun n => [lo n, hi n]) s (s.puts ((List.range 32).flatMap (maskPuts mask (pairPuts lo hi vlo vhi)))) := by
  refine (s.puts_writes _).mono fun f hf => ?_
  obtain ⟨p, hp, rfl⟩ := List.mem_map.1 hf
  obtain ⟨n, hn, hp⟩ := List.mem_flatMap.1 hp
  obtain ⟨-, hp⟩ := mem_maskPuts.1 hp
  refine List.mem_flatMap.2 ⟨n, hn, ?_⟩
  rcases List.mem_pair.1 hp with rfl | rfl <;> simp

/-- A snapshot puts the counters' values. -/
theorem State.pmuSnap_puts : s.pmuSnap mask =
    s.puts ((List.range 32).flatMap (maskPuts mask (pairPuts R.PMU_SNAP_LO R.PMU_SNAP_HI
      (fun n => s.get (R.PMU_CNT_LO n)) (fun n => s.get (R.PMU_CNT_HI n))))) := by
  refine s.pmuEach_puts _ (kind := fun f => 0x2A0400 ≤ f.off) (fun n p hp => ?_) fun n hn m hm => ?_
  · rcases List.mem_pair.1 hp with rfl | rfl <;> simp only [R.PMU_SNAP_LO, R.PMU_SNAP_HI] <;> omega
  · have hlo : (s.puts m).get (R.PMU_CNT_LO n) = s.get (R.PMU_CNT_LO n) :=
      s.get_puts_other m _ fun p hp hk => by have := hm p hp; simp only [Fld.key, R.PMU_CNT_LO] at hk; omega
    have hhi : (s.puts m).get (R.PMU_CNT_HI n) = s.get (R.PMU_CNT_HI n) :=
      s.get_puts_other m _ fun p hp hk => by have := hm p hp; simp only [Fld.key, R.PMU_CNT_HI] at hk; omega
    rw [hlo, hhi]
    rfl

theorem State.pmuZero_puts : s.pmuZero mask =
    s.puts ((List.range 32).flatMap (maskPuts mask (pairPuts R.PMU_CNT_LO R.PMU_CNT_HI (fun _ => 0) (fun _ => 0)))) :=
  s.pmuEach_puts _ (kind := fun _ => True) (fun _ _ _ => trivial) fun _ _ _ _ => rfl

end

theorem cnt_apart : (∀ n m, (R.PMU_CNT_LO n).key = (R.PMU_CNT_LO m).key → n = m) ∧
    (∀ n m, (R.PMU_CNT_HI n).key = (R.PMU_CNT_HI m).key → n = m) ∧ ∀ n m, (R.PMU_CNT_LO n).key ≠ (R.PMU_CNT_HI m).key := by
  simp only [Fld.key, R.PMU_CNT_LO, R.PMU_CNT_HI]
  refine ⟨fun n m h => ?_, fun n m h => ?_, fun n m => ?_⟩ <;> omega

theorem snap_apart : (∀ n m, (R.PMU_SNAP_LO n).key = (R.PMU_SNAP_LO m).key → n = m) ∧
    (∀ n m, (R.PMU_SNAP_HI n).key = (R.PMU_SNAP_HI m).key → n = m) ∧ ∀ n m, (R.PMU_SNAP_LO n).key ≠ (R.PMU_SNAP_HI m).key := by
  simp only [Fld.key, R.PMU_SNAP_LO, R.PMU_SNAP_HI]
  refine ⟨fun n m h => ?_, fun n m h => ?_, fun n m => ?_⟩ <;> omega

/-! ### Configuration and counters written (R646) -/

section
variable {s : State} {n v : Nat}

theorem State.pmuCfg_taken (hrun : bitAt (s.get R.PMU_RUN) n = false) (hnamed : s.pmuNamed n = false)
    (hknown : eventKnown (bits v 0 8) = true) (hfilter : bitAt v 8 = false ∨ eventFilters (bits v 0 8) = true) :
    s.pmuCfg n v = s.puts [(R.PMU_CFG_event n, bits v 0 8), (R.PMU_CFG_ctx_en n, bits v 8 1), (R.PMU_CFG_ctx n, bits v 9 6)] :=
  if_neg (by rcases hfilter with h | h <;> simp [hrun, hnamed, hknown, h])

theorem State.pmuCnt_low (hrun : bitAt (s.get R.PMU_RUN) n = false) : s.pmuCnt n false v = s.put (R.PMU_CNT_LO n) v :=
  if_neg (by simp [hrun])

theorem State.pmuCnt_high (hrun : bitAt (s.get R.PMU_RUN) n = false) : s.pmuCnt n true v = s.put (R.PMU_CNT_HI n) v :=
  if_neg (by simp [hrun])

end

/-- Settles O17. -/
theorem pmuCounters : Obligations.PmuCounters := by
  unfold Obligations.PmuCounters
  refine ⟨fun mask s hup => ?_, fun mask s hup hstate => ?_, fun mask s hup => ?_, fun mask s hup => ?_,
    fun n v s hup hrun hnamed hknown hfilter => ?_, fun n v s hup hrun => ⟨?_, ?_⟩⟩
  · exact ⟨_, exec_pmuStart hup, s.put_writes _ _, s.pmuStart_bit _⟩
  · exact ⟨_, congrArg Host.Outcome.next ((if_pos hup).trans (State.pmuStop_running _ hstate)), s.put_writes _ _, s.pmuStop_bit _⟩
  · obtain ⟨hlo, hhi, hne⟩ := snap_apart
    exact ⟨_, congrArg Host.Outcome.next ((if_pos hup).trans s.pmuSnap_puts), s.pairPuts_writes, s.get_pairPuts hlo hhi hne⟩
  · obtain ⟨hlo, hhi, hne⟩ := cnt_apart
    refine ⟨_, congrArg Host.Outcome.next ((if_pos hup).trans s.pmuZero_puts), s.pairPuts_writes, fun n => ?_⟩
    obtain ⟨hset, hclear⟩ := s.get_pairPuts (mask := mask.toNat) (vlo := fun _ => 0) (vhi := fun _ => 0) hlo hhi hne n
    split
    · next hbit =>
      obtain ⟨hl, hh⟩ := hset hbit
      rw [State.pmuCount, hl, hh]
      rfl
    · next hbit =>
      obtain ⟨hl, hh⟩ := hclear (by simpa using hbit)
      rw [State.pmuCount, hl, hh, State.pmuCount]
  · have hget : ∀ p ∈ [(R.PMU_CFG_event n.val, bits v.toNat 0 8), (R.PMU_CFG_ctx_en n.val, bits v.toNat 8 1),
        (R.PMU_CFG_ctx n.val, bits v.toNat 9 6)], (s.puts _).get p.1 = p.2 % 2 ^ p.1.w := fun p hp =>
      s.get_puts_mem [R.PMU_CFG_event n.val, R.PMU_CFG_ctx_en n.val, R.PMU_CFG_ctx n.val] rfl
        (by simp [Fld.key, R.PMU_CFG_event, R.PMU_CFG_ctx_en, R.PMU_CFG_ctx]) hp
    simp only [List.forall_mem_cons] at hget
    obtain ⟨hevent, hen, hctx, -⟩ := hget
    exact ⟨_, congrArg Host.Outcome.next ((if_pos hup).trans (State.pmuCfg_taken hrun hnamed hknown hfilter)), s.puts_writes _,
      hevent.trans (Nat.mod_eq_of_lt (bits_lt _ _ _)), hen.trans (Nat.mod_eq_of_lt (bits_lt _ _ _)),
      hctx.trans (Nat.mod_eq_of_lt (bits_lt _ _ _))⟩
  · exact ⟨_, congrArg Host.Outcome.next ((if_pos hup).trans (State.pmuCnt_low hrun)), s.put_writes _ _,
      (s.get_put_same _ _).trans (Nat.mod_eq_of_lt v.isLt)⟩
  · exact ⟨_, congrArg Host.Outcome.next ((if_pos hup).trans (State.pmuCnt_high hrun)), s.put_writes _ _, s.get_put_same _ _⟩

/-! ### What a counted event leaves in the PMU block -/

/-- Fields that an event's count changes: the counters and their overflow bits. -/
def countFields : List Fld := (List.range 32).flatMap (fun n => [R.PMU_CNT_LO n, R.PMU_CNT_HI n]) ++ [R.PMU_OVF]

theorem cnt_mem_countFields {n : Nat} (hn : n < 32) : R.PMU_CNT_LO n ∈ countFields ∧ R.PMU_CNT_HI n ∈ countFields :=
  ⟨List.mem_append_left _ (List.mem_flatMap.2 ⟨n, List.mem_range.2 hn, by simp⟩),
   List.mem_append_left _ (List.mem_flatMap.2 ⟨n, List.mem_range.2 hn, by simp⟩)⟩

section
variable (s : State)

theorem State.pmuBump_but {n : Nat} (inc : Nat) (hn : n < 32) : FieldsBut countFields s (s.pmuBump n inc).1 := by
  obtain ⟨hlo, hhi⟩ := cnt_mem_countFields hn
  have hset : ∀ v, FieldsBut countFields s (s.setPmuCount n v) := fun v => ((FieldsBut.refl _ s).put _ v hlo).put _ _ hhi
  unfold State.pmuBump
  dsimp only
  split
  · exact hset _
  · exact (hset _).put _ _ (by simp [countFields])

theorem State.pmuAdd_but (code : Nat) (ctx : Option Nat) (inc : Nat) : FieldsBut countFields s (s.pmuAdd code ctx inc).1 := by
  unfold State.pmuAdd
  split
  · exact .refl _ s
  · refine List.foldlRecOn (motive := fun p : State × Bool => FieldsBut countFields s p.1) _ _ (FieldsBut.refl _ s) fun p hp n hn => ?_
    split
    · exact hp.trans (p.1.pmuBump_but inc (List.mem_range.1 hn))
    · exact hp

theorem State.sendRaw_regs (v : Nat) : (s.sendRaw v).1.regs = s.regs := by
  unfold State.sendRaw
  dsimp only
  split <;> rfl

theorem State.pmuOverflow_but : FieldsBut countFields (s.setBit R.PMU_EVT 0) s.pmuOverflow ∨ s.pmuOverflow = s := by
  unfold State.pmuOverflow
  split
  · exact .inr rfl
  · have hraw : ∀ v, FieldsBut countFields (s.setBit R.PMU_EVT 0) ((s.setBit R.PMU_EVT 0).sendRaw v).1 := fun v g _ =>
      State.get_of_regs (State.sendRaw_regs _ v) g
    refine .inl ?_
    dsimp only
    split
    · split
      · exact (hraw _).trans (State.pmuAdd_but _ _ _ _)
      · exact hraw _
    · exact .refl _ _

/-- A counted event leaves the set-up of the PMU block. -/
theorem State.pmu_but (code : Nat) (ctx : Option Nat) (inc : Nat) : FieldsBut (R.PMU_EVT :: countFields) s (s.pmu code ctx inc) := by
  have hadd := (s.pmuAdd_but code ctx inc).mono fun f hf => List.mem_cons_of_mem R.PMU_EVT hf
  unfold State.pmu
  dsimp only
  split
  · rcases State.pmuOverflow_but (s.pmuAdd code ctx inc).1 with h | h
    · exact (hadd.put _ _ List.mem_cons_self).trans (h.mono fun f hf => List.mem_cons_of_mem _ hf)
    · rwa [h]
  · exact hadd

/-- Of the PMU's events a counted event may set the overflow alone. -/
theorem State.pmu_evt (code : Nat) (ctx : Option Nat) (inc : Nat) {b : Nat} (hb : b < 4) (h : BitSet s R.PMU_EVT b) :
    BitSet (s.pmu code ctx inc) R.PMU_EVT b := by
  have hapart : ∀ f ∈ countFields, R.PMU_EVT.key ≠ f.key := by decide
  have hadd : BitSet (s.pmuAdd code ctx inc).1 R.PMU_EVT b := by rw [BitSet, s.pmuAdd_but code ctx inc _ hapart]; exact h
  unfold State.pmu
  dsimp only
  split
  · rcases State.pmuOverflow_but (s.pmuAdd code ctx inc).1 with hover | hover
    · rw [BitSet, hover _ hapart, State.setBit_bit _ _ _ _ hb, hadd, Bool.true_or]
    · rwa [hover]
  · exact hadd

theorem State.send_but (v : Nat) : FieldsBut (R.PMU_EVT :: countFields) s (s.send v) := by
  have hraw : FieldsBut (R.PMU_EVT :: countFields) s (s.sendRaw v).1 := fun g _ => State.get_of_regs (s.sendRaw_regs v) g
  unfold State.send
  dsimp only
  split
  · exact hraw.trans (State.pmu_but _ _ _ _)
  · exact hraw

theorem State.send_evt (v : Nat) {b : Nat} (hb : b < 4) (h : BitSet s R.PMU_EVT b) : BitSet (s.send v) R.PMU_EVT b := by
  have hraw : BitSet (s.sendRaw v).1 R.PMU_EVT b := by rw [BitSet, State.get_of_regs (s.sendRaw_regs v)]; exact h
  unfold State.send
  dsimp only
  split
  · exact State.pmu_evt _ _ _ _ hb hraw
  · exact hraw

/-- Raising an event of the PMU block sets its bit, and leaves the set-up of the block. -/
theorem State.raisePmu_effect {b : Nat} (hb : b < 4) :
    BitSet (s.raisePmu b) R.PMU_EVT b ∧ FieldsBut (R.PMU_EVT :: countFields) s (s.raisePmu b) := by
  unfold State.raisePmu State.raise
  split
  · next hset => exact ⟨hset, .refl _ s⟩
  · have hbit : BitSet (s.setBit R.PMU_EVT b) R.PMU_EVT b := by rw [BitSet, s.setBit_bit _ _ _ hb, BEq.rfl, Bool.or_true]
    have hbut : FieldsBut (R.PMU_EVT :: countFields) s (s.setBit R.PMU_EVT b) := (FieldsBut.refl _ s).put _ _ List.mem_cons_self
    dsimp only
    split
    · exact ⟨State.send_evt _ _ hb hbit, hbut.trans (State.send_but _ _)⟩
    · exact ⟨hbit, hbut⟩

end

/-! ### Triggers (R651, R652) -/

section
variable {s : State} {k : Fin 4}

/-- A trigger's instant lies in other registers than its configuration. -/
theorem State.trigAt_puts (s : State) (k a b : Nat) :
    (s.puts [(R.PMU_TRIG_CFG_action k, a), (R.PMU_TRIG_CFG_armed k, b)]).trigAt k = s.trigAt k := by
  have hother : ∀ g : Fld, g.off = 0x2A0048 + 0x10 * k ∨ g.off = 0x2A004C + 0x10 * k → g.lo < 32 →
      (s.puts [(R.PMU_TRIG_CFG_action k, a), (R.PMU_TRIG_CFG_armed k, b)]).get g = s.get g := by
    intro g hoff hlo
    refine s.get_puts_other _ g ?_
    simp only [List.forall_mem_cons, List.not_mem_nil, false_imp_iff, implies_true, and_true, Fld.key, R.PMU_TRIG_CFG_action,
      R.PMU_TRIG_CFG_armed]
    omega
  rw [State.trigAt, State.trigAt, hother (R.PMU_TRIG_LO_frame k) (.inl rfl) (by decide : (0 : Nat) < 32),
    hother (R.PMU_TRIG_HI_frame k) (.inr rfl) (by decide : (0 : Nat) < 32),
    hother (R.PMU_TRIG_HI_tick k) (.inr rfl) (by decide : (16 : Nat) < 32)]

theorem State.get_trigPuts (s : State) (k a b : Nat) :
    let t := s.puts [(R.PMU_TRIG_CFG_action k, a), (R.PMU_TRIG_CFG_armed k, b)]
    t.get (R.PMU_TRIG_CFG_action k) = a % 2 ^ 2 ∧ t.get (R.PMU_TRIG_CFG_armed k) = b % 2 := by
  have hget : ∀ p ∈ [(R.PMU_TRIG_CFG_action k, a), (R.PMU_TRIG_CFG_armed k, b)], (s.puts _).get p.1 = p.2 % 2 ^ p.1.w := fun p hp =>
    s.get_puts_mem [R.PMU_TRIG_CFG_action k, R.PMU_TRIG_CFG_armed k] rfl (by simp [Fld.key, R.PMU_TRIG_CFG_action, R.PMU_TRIG_CFG_armed]) hp
  exact ⟨hget _ List.mem_cons_self, hget _ (List.mem_cons_of_mem _ List.mem_cons_self)⟩

theorem State.trigWrite_armed {action : Nat} (haction : action ≠ 0) (hdue : s.hzn.counting = false ∨ s.horizon ≤ s.trigAt k.val) :
    s.trigWrite k.val action true = s.puts [(R.PMU_TRIG_CFG_action k.val, action), (R.PMU_TRIG_CFG_armed k.val, 1)] := by
  have hen : b2n (true && action != 0) = 1 := by simp [haction, b2n]
  have harmed := (s.get_trigPuts k.val action 1).2
  unfold State.trigWrite
  rw [hen]
  dsimp only
  rw [harmed, State.trigAt_puts]
  refine (if_neg (by decide)).trans (if_neg fun ⟨hcounting, hlt⟩ => ?_)
  rcases hdue with hno | hle
  · exact Bool.false_ne_true (hno.symm.trans hcounting)
  · exact absurd hlt (Nat.not_lt.2 hle)

/-- A start trigger starts the counters of its mask, clears armed and raises its event. -/
theorem State.trigAct_start (haction : s.get (R.PMU_TRIG_CFG_action k.val) = 1) :
    s.trigAct k.val = ((s.put (R.PMU_TRIG_CFG_armed k.val) 0).pmuStart (s.get (R.PMU_TRIG_MASK k.val))).raisePmu 1 := by
  have hkeep : (s.put (R.PMU_TRIG_CFG_armed k.val) 0).get (R.PMU_TRIG_CFG_action k.val) = 1 := by
    rw [State.get_put_other _ _ _ _ (by simp [Fld.key, R.PMU_TRIG_CFG_action, R.PMU_TRIG_CFG_armed]), haction]
  rw [State.trigAct, hkeep]
  rfl

theorem trig_not_counted : ∀ k : Fin 4, ∀ f ∈ R.PMU_EVT :: countFields, (R.PMU_TRIG_CFG_armed k.val).key ≠ f.key := by decide

theorem State.trigAct_start_effect (s : State) (k : Fin 4) (mask : Nat) :
    let t := ((s.put (R.PMU_TRIG_CFG_armed k.val) 0).pmuStart mask).raisePmu 1
    Signals [] s t ∧ t.get (R.PMU_TRIG_CFG_armed k.val) = 0 ∧ BitSet t R.PMU_EVT 1 ∧
      ∀ n : Fin 32, bitAt (t.get R.PMU_RUN) n.val = (bitAt (s.get R.PMU_RUN) n.val || bitAt mask n.val) := by
  let u := (s.put (R.PMU_TRIG_CFG_armed k.val) 0).pmuStart mask
  obtain ⟨hbit, hbut⟩ := u.raisePmu_effect (b := 1) (by decide)
  have harmed : inPmu (R.PMU_TRIG_CFG_armed k.val) := by
    simp only [inPmu, Fld.key, R.PMU_TRIG_CFG_armed]
    omega
  have hu : Signals [] s u := ⟨rfl, (s.put_pmu_fields _ 0 [] harmed).trans (State.put_pmu_fields _ R.PMU_RUN _ [] (by decide))⟩
  have hraise : Signals [] u (u.raisePmu 1) := by
    refine ⟨u.raise_only _ _ _ 1, fun g hp _ => hbut g fun f hf hk => hp ?_⟩
    have hall : ∀ f ∈ R.PMU_EVT :: countFields, inPmu f := by decide
    have := hall f hf
    unfold inPmu at *
    omega
  refine ⟨hu.trans hraise, (hbut _ (trig_not_counted k)).trans ?_, hbit, fun n => ?_⟩
  · exact (State.get_put_other _ _ _ _ (by simp only [Fld.key, R.PMU_TRIG_CFG_armed, R.PMU_RUN]; omega)).trans (s.get_put_same _ 0)
  · rw [hbut R.PMU_RUN (by decide), State.pmuStart_bit]
    rw [State.get_put_other _ _ _ _ (by simp only [Fld.key, R.PMU_TRIG_CFG_armed, R.PMU_RUN]; omega)]

end

/-! ### Overflow (R653) -/

/-- A counter carried past its 48 bits keeps the low ones and sets its overflow bit; the flag tells its interrupt enable. -/
theorem State.pmuBump_carry (s : State) (n : Fin 32) {inc : Nat} (hcarry : 2 ^ 48 ≤ s.pmuCount n.val + inc) :
    (s.pmuBump n.val inc).2 = bitAt (s.get R.PMU_OVF_IRQ_EN) n.val ∧
    Writes [R.PMU_CNT_LO n.val, R.PMU_CNT_HI n.val, R.PMU_OVF] s (s.pmuBump n.val inc).1 ∧
    (s.pmuBump n.val inc).1.pmuCount n.val = (s.pmuCount n.val + inc) % 2 ^ 48 ∧ BitSet (s.pmuBump n.val inc).1 R.PMU_OVF n.val := by
  have hbump : s.pmuBump n.val inc =
      ((s.setPmuCount n.val ((s.pmuCount n.val + inc) % 2 ^ 48)).setBit R.PMU_OVF n.val, bitAt (s.get R.PMU_OVF_IRQ_EN) n.val) :=
    if_neg (Nat.not_lt.2 hcarry)
  rw [hbump]
  refine ⟨rfl, ⟨rfl, ?_⟩, ?_, ?_⟩
  · exact (((FieldsBut.refl _ s).put _ _ (by simp)).put _ _ (by simp)).put _ _ (by simp)
  · obtain ⟨-, -, hne⟩ := cnt_apart
    rw [State.pmuCount, State.setBit_eq, State.get_put_other _ _ _ _ (by simp only [Fld.key, R.PMU_CNT_LO, R.PMU_OVF]; omega),
      State.get_put_other _ _ _ _ (by simp only [Fld.key, R.PMU_CNT_HI, R.PMU_OVF]; omega), State.setPmuCount,
      State.get_put_other _ _ _ _ (hne _ _), State.get_put_same, State.get_put_same,
      show (R.PMU_CNT_LO n.val).w = 32 from rfl, show (R.PMU_CNT_HI n.val).w = 16 from rfl]
    omega
  · rw [BitSet, State.setBit_bit _ _ _ _ (show n.val < R.PMU_OVF.w from n.isLt), BEq.rfl, Bool.or_true]

/-- Settles O18. -/
theorem pmuTriggersAndOverflow : Obligations.PmuTriggersAndOverflow := by
  unfold Obligations.PmuTriggersAndOverflow
  refine ⟨fun k action s hup haction hdue => ?_, fun k s hup hcounting hdue haction => ?_, fun k s hno => ?_,
    fun n inc s hup hrun hinc hcarry hirq => ?_, fun s hup => congrArg Host.Outcome.next (if_pos hup)⟩
  · have hne : action.toNat ≠ 0 := fun h => haction (BitVec.eq_of_toNat_eq h)
    obtain ⟨haction', harmed⟩ := s.get_trigPuts k.val action.toNat 1
    exact ⟨_, congrArg Host.Outcome.next ((if_pos hup).trans (State.trigWrite_armed hne hdue)), s.puts_writes _,
      haction'.trans (Nat.mod_eq_of_lt action.isLt), harmed⟩
  · have hfires : s.trigDue.foldl State.trigAct s = s.trigAct k.val := by rw [hdue]; rfl
    exact ⟨_, congrArg Host.Outcome.next ((if_pos (by simp [hup, hcounting, hdue])).trans (hfires.trans (State.trigAct_start haction))),
      s.trigAct_start_effect k _⟩
  · exact congrArg Host.Outcome.next (if_neg (by rcases hno with h | h <;> rw [h] <;> simp))
  · obtain ⟨hflag, hwrites, hcount, hovf⟩ := s.pmuBump_carry n hcarry
    refine ⟨_, congrArg Host.Outcome.next ((if_pos (by rw [hup, hrun, decide_eq_true hinc, decide_eq_true hcarry]; rfl)).trans (if_neg ?_)), hwrites, hcount, hovf⟩
    rw [hflag, hirq]
    exact Bool.false_ne_true

end Sys2Proof.Machine
end

section
/-!
PROOFS. Every command answers a next state.
-/

namespace Sys2Proof.Machine

/-- Settles O4: every arm of `exec` is a next state, whatever its guards say. -/
theorem everyCommandAnswers : Obligations.EveryCommandAnswers := by
  unfold Obligations.EveryCommandAnswers
  intro c s
  cases c <;> exact ⟨_, rfl⟩

end Sys2Proof.Machine
end

section
/-!
PROOFS. What leaves device memory as it is: every operation of the model on the state that neither stores bytes nor clears a window.

An equation that holds by unfolding is proved by `(rfl)`: without the brackets `dsimp` and `simp` would use it too, and the kernel would
compare the two states by unfolding both, down to the folds in them.
-/

namespace Sys2Proof.Machine

@[simp] theorem State.mem_ite (c : Prop) [Decidable c] (s t : State) : (if c then s else t).mem = if c then s.mem else t.mem :=
  apply_ite State.mem c s t

theorem State.mem_foldl {α : Type} {f : State → α → State} (hf : ∀ u x, (f u x).mem = u.mem) (l : List α) (s : State) :
    (l.foldl f s).mem = s.mem := by
  induction l generalizing s with
  | nil => rfl
  | cons x l ih => exact (ih _).trans (hf s x)

/-! ### Machine/Ops.lean -/

@[simp] theorem State.put_sameMem (s : State) (f : Fld) (v : Nat) : (s.put f v).mem = s.mem := (rfl)

@[simp] theorem State.count_sameMem (s : State) (f : Fld) (n : Nat) : (s.count f n).mem = s.mem := (rfl)

@[simp] theorem State.setBit_sameMem (s : State) (f : Fld) (b : Nat) : (s.setBit f b).mem = s.mem := (rfl)

@[simp] theorem State.clrBit_sameMem (s : State) (f : Fld) (b : Nat) : (s.clrBit f b).mem = s.mem := (rfl)

@[simp] theorem State.setRegWord_sameMem (s : State) (off w : Nat) : (s.setRegWord off w).mem = s.mem :=
  State.mem_foldl (f := fun t f => t.put f (bits w f.lo f.w)) (fun _ _ => rfl) _ _

@[simp] theorem State.puts_sameMem (s : State) (l : List (Fld × Nat)) : (s.puts l).mem = s.mem := by
  unfold State.puts
  exact State.mem_foldl (fun u (p : Fld × Nat) => u.put_sameMem p.1 p.2) _ _

@[simp] theorem State.emit_sameMem (s : State) (o : Out) : (s.emit o).mem = s.mem := (rfl)

@[simp] theorem State.free_sameMem (s : State) : s.free.2.mem = s.mem := (rfl)

@[simp] theorem State.capture_sameMem (s : State) (accessor off v : Nat) : (s.capture accessor off v).mem = s.mem := (rfl)

@[simp] theorem State.pulsesStop_sameMem (s : State) : s.pulsesStop.mem = s.mem := (rfl)

@[simp] theorem State.setHalf_sameMem (s : State) (h : Fin 2) (x : HalfSt) : (s.setHalf h x).mem = s.mem := (rfl)

@[simp] theorem State.sendRaw_sameMem (s : State) (v : Nat) : (s.sendRaw v).1.mem = s.mem := by
  unfold State.sendRaw
  dsimp only
  split <;> simp

@[simp] theorem State.setPmuCount_sameMem (s : State) (n v : Nat) : (s.setPmuCount n v).mem = s.mem := (rfl)

@[simp] theorem State.pmuBump_sameMem (s : State) (n inc : Nat) : (s.pmuBump n inc).1.mem = s.mem := by
  unfold State.pmuBump
  dsimp only
  split <;> simp

@[simp] theorem State.pmuAdd_sameMem (s : State) (code : Nat) (ctx : Option Nat) (inc : Nat) :
    (s.pmuAdd code ctx inc).1.mem = s.mem := by rw [s.pmuAdd_only code ctx inc]

@[simp] theorem State.pmuOverflow_sameMem (s : State) : s.pmuOverflow.mem = s.mem := by simp [State.pmuOverflow]

@[simp] theorem State.pmu_sameMem (s : State) (code : Nat) (ctx : Option Nat) (inc : Nat) : (s.pmu code ctx inc).mem = s.mem := by
  simp [State.pmu]

@[simp] theorem State.send_sameMem (s : State) (v : Nat) : (s.send v).mem = s.mem := by simp [State.send]

@[simp] theorem State.flushPba_sameMem (s : State) (h : Fin 2) : (s.flushPba h).mem = s.mem := by simp [State.flushPba, State.mem_foldl]

@[simp] theorem State.addCharge_sameMem (s : State) (slot frame : Nat) (amount : Int) :
    (s.addCharge slot frame amount).mem = s.mem := by simp [State.addCharge]

/-! ### Machine/Flags.lean -/

@[simp] theorem State.raise_sameMem (s : State) (evt en : Fld) (vec b : Nat) : (s.raise evt en vec b).mem = s.mem := by simp [State.raise]

@[simp] theorem State.raiseHzn_sameMem (s : State) (b : Nat) : (s.raiseHzn b).mem = s.mem := by simp [State.raiseHzn]

@[simp] theorem State.raiseImg_sameMem (s : State) (b : Nat) : (s.raiseImg b).mem = s.mem := by simp [State.raiseImg]

@[simp] theorem State.raiseSeq_sameMem (s : State) (q b : Nat) : (s.raiseSeq q b).mem = s.mem := by simp [State.raiseSeq]

@[simp] theorem State.raiseFix_sameMem (s : State) (b : Nat) : (s.raiseFix b).mem = s.mem := by simp [State.raiseFix]

@[simp] theorem State.raiseFab_sameMem (s : State) (b : Nat) : (s.raiseFab b).mem = s.mem := by simp [State.raiseFab]

@[simp] theorem State.raiseThm_sameMem (s : State) (b : Nat) : (s.raiseThm b).mem = s.mem := by simp [State.raiseThm]

@[simp] theorem State.raisePmu_sameMem (s : State) (b : Nat) : (s.raisePmu b).mem = s.mem := by simp [State.raisePmu]

@[simp] theorem State.raiseIsl_sameMem (s : State) (b : Nat) : (s.raiseIsl b).mem = s.mem := by simp [State.raiseIsl]

@[simp] theorem State.raiseCtx_sameMem (s : State) (b : Nat) : (s.raiseCtx b).mem = s.mem := by simp [State.raiseCtx]

@[simp] theorem State.raiseHost_sameMem (s : State) (b : Nat) : (s.raiseHost b).mem = s.mem := by simp [State.raiseHost]

@[simp] theorem State.raiseRing_sameMem (s : State) (c b : Nat) : (s.raiseRing c b).mem = s.mem := by simp [State.raiseRing]

@[simp] theorem State.flogAdd_sameMem (s : State) (source code detail : Nat) (ctx : Option Nat) :
    (s.flogAdd source code detail ctx).mem = s.mem := by simp [State.flogAdd]

@[simp] theorem State.raiseClk_sameMem (s : State) (b : Nat) : (s.raiseClk b).mem = s.mem := by simp [State.raiseClk]

@[simp] theorem State.alert_sameMem (s : State) (b : Nat) : (s.alert b).mem = s.mem := by simp [State.alert]

@[simp] theorem State.logEvent_sameMem (s : State) (log what arg : Nat) : (s.logEvent log what arg).mem = s.mem := by simp [State.logEvent]

/-! ### Machine/Gate.lean -/

@[simp] theorem State.gateTake_sameMem (s : State) : s.gateTake.mem = s.mem := by simp [State.gateTake]

@[simp] theorem State.gateMark_sameMem (s : State) : s.gateMark.mem = s.mem := by simp [State.gateMark]

@[simp] theorem State.gateDawn_sameMem (s : State) : s.gateDawn.mem = s.mem := by simp [State.gateDawn]

@[simp] theorem State.gateRequest_sameMem (s : State) (n : Nat) : (s.gateRequest n).mem = s.mem := by
  unfold State.gateRequest
  dsimp only
  split_ifs <;> simp

@[simp] theorem State.ungate_sameMem (s : State) (n : Nat) : (s.ungate n).mem = s.mem := by simp [State.ungate]

@[simp] theorem State.ungateDone_sameMem (s : State) (n : Nat) : (s.ungateDone n).mem = s.mem := by simp [State.ungateDone]

/-! ### Machine/HostMem.lean -/

@[simp] theorem State.pmuLine_sameMem (s : State) (i a n : Nat) : (s.pmuLine i a n).mem = s.mem := by simp [State.pmuLine]

@[simp] theorem State.pmuLines_sameMem (s : State) (i a n : Nat) : (s.pmuLines i a n).mem = s.mem := by
  simp [State.pmuLines, State.mem_foldl]

@[simp] theorem State.unclaimedReq_sameMem (s : State) (write : Bool) : (s.unclaimedReq write).mem = s.mem := by simp [State.unclaimedReq]

@[simp] theorem State.poisonLine_sameMem (s : State) (a : Nat) : (s.poisonLine a).mem = s.mem := (rfl)

@[simp] theorem State.poisonRead_sameMem (s : State) : s.poisonRead.mem = s.mem := by simp [State.poisonRead]

@[simp] theorem State.memReadLine_sameMem (s : State) (h : Fin 2) (a ecc : Nat) : (s.memReadLine h a ecc).mem = s.mem := by
  simp [State.memReadLine]

/-! ### Machine/Sync.lean -/

@[simp] theorem State.signal_sameMem (s : State) (o v : Nat) : (s.signal o v).mem = s.mem := (rfl)

@[simp] theorem State.syncClear_sameMem (s : State) (base count : Nat) : (s.syncClear base count).mem = s.mem := (rfl)

@[simp] theorem State.remoteSignal_sameMem (s : State) (pair : Nat × Nat) (o v : Nat) : (s.remoteSignal pair o v).1.mem = s.mem := by
  unfold State.remoteSignal
  split_ifs <;> simp

@[simp] theorem State.timerFire_sameMem (s : State) (k : Nat) : (s.timerFire k).mem = s.mem := (rfl)

@[simp] theorem State.timerArm_sameMem (s : State) (k o v : Nat) : (s.timerArm k o v).mem = s.mem := by simp [State.timerArm]

@[simp] theorem State.syncClrCounts_sameMem (s : State) : s.syncClrCounts.mem = s.mem := by simp [State.syncClrCounts]

/-! ### Machine/Port.lean -/

@[simp] theorem State.setPort_sameMem (s : State) (n : Nat) (p : PortSt) : (s.setPort n p).mem = s.mem := (rfl)

@[simp] theorem State.enqueue_sameMem (s : State) (n : Nat) (t : Txn) (held : Option (Nat × Nat)) :
    (s.enqueue n t held).mem = s.mem := (rfl)

@[simp] theorem State.enqueueAll_sameMem (s : State) (n : Nat) (ts : List Txn) : (s.enqueueAll n ts).mem = s.mem :=
  State.mem_foldl (fun u x => u.enqueue_sameMem n x none) _ _

@[simp] theorem State.newTransfer_sameMem (s : State) (owner : XferOwner) (seq port count : Nat) (isSignal : Bool) :
    (s.newTransfer owner seq port count isSignal).2.mem = s.mem := (rfl)

/-! ### Machine/Complete.lean -/

@[simp] theorem State.setRing_sameMem (s : State) (c : Nat) (r : RingSt) : (s.setRing c r).mem = s.mem := (rfl)

@[simp] theorem State.setDesc_sameMem (s : State) (d : CmdDesc) : (s.setDesc d).mem = s.mem := by simp [State.setDesc]

@[simp] theorem State.detach_sameMem (s : State) (c slot : Nat) : (s.detach c slot).mem = s.mem := by simp [State.detach]

@[simp] theorem State.gatherFlags_sameMem (s : State) (desc : Option (Nat × Nat)) (flags : Nat) :
    (s.gatherFlags desc flags).mem = s.mem := by
  unfold State.gatherFlags
  repeat' split
  all_goals simp

@[simp] theorem State.noteXferFailed_sameMem (s : State) (t : Transfer) : (s.noteXferFailed t).mem = s.mem := by simp [State.noteXferFailed]

/-! ### Machine/SeqBase.lean -/

@[simp] theorem State.setResImage_sameMem (s : State) (i : Nat) (r : ResImage) : (s.setResImage i r).mem = s.mem := (rfl)

@[simp] theorem State.setSeq_sameMem (s : State) (q : Nat) (x : SeqSt) : (s.setSeq q x).mem = s.mem := (rfl)

@[simp] theorem State.routineOver_sameMem (s : State) (q : Nat) (mode : SeqMode) : (s.routineOver q mode).mem = s.mem := (rfl)

@[simp] theorem State.chargeSpan_sameMem (s : State) (r : Routine) : (s.chargeSpan r).mem = s.mem := by simp [State.chargeSpan]

@[simp] theorem State.unchargeCut_sameMem (s : State) (q : Nat) : (s.unchargeCut q).mem = s.mem := by
  unfold State.unchargeCut
  split <;> simp

@[simp] theorem State.routineStop_sameMem (s : State) (q : Nat) : (s.routineStop q).mem = s.mem := by simp [State.routineStop]

/-! ### Machine/Tiles.lean -/

@[simp] theorem State.setTile_sameMem (s : State) (t : Nat) (x : TileSt) : (s.setTile t x).mem = s.mem := (rfl)

@[simp] theorem State.pmuTile_sameMem (s : State) (t i n : Nat) : (s.pmuTile t i n).mem = s.mem := by simp [State.pmuTile]

@[simp] theorem State.convert_sameMem (s : State) (t : Nat) (charges : List Int) (ld : GroupLoad) (acc16 curves : Bool) (fogS : Nat)
    (curve : List (Int × Int)) : (s.convert t charges ld acc16 curves fogS curve).2.mem = s.mem := (rfl)

@[simp] theorem State.dropBurst_sameMem (s : State) (t : Nat) : (s.dropBurst t).mem = s.mem := (rfl)

@[simp] theorem State.dropPlateBursts_sameMem (s : State) (p : Plate) : (s.dropPlateBursts p).mem = s.mem :=
  State.mem_foldl (f := fun u (r : TileRec) => u.dropBurst r.tile) (fun u r => u.dropBurst_sameMem r.tile) _ _

@[simp] theorem State.countExposure_sameMem (s : State) (t : Nat) : (s.countExposure t).mem = s.mem := by simp [State.countExposure]

@[simp] theorem State.takeShifts_sameMem (s : State) (t : Nat) : (s.takeShifts t).mem = s.mem := by simp [State.takeShifts, State.mem_foldl]

@[simp] theorem State.noteCode_sameMem (s : State) (t g : Nat) (x : (Int × Bool) × Nat) : (s.noteCode t g x).mem = s.mem := by
  simp [State.noteCode]

@[simp] theorem State.aeColumn_sameMem (s : State) (t c s0 limit w : Nat) : (s.aeColumn t c s0 limit w).mem = s.mem := by
  simp [State.aeColumn]

@[simp] theorem State.aeWindow_sameMem (s : State) (t : Nat) (p : Plate) : (s.aeWindow t p).mem = s.mem := by
  rw [State.aeWindow, State.puts_sameMem]
  exact State.mem_foldl (fun u c => u.aeColumn_sameMem t c _ _ _) _ _

@[simp] theorem State.tileDue_sameMem (s : State) (t : Nat) : (s.tileDue t).mem = s.mem := by
  unfold State.tileDue
  split <;> simp

@[simp] theorem State.driftUpdate_sameMem (s : State) (t : Nat) (p : Plate) : (s.driftUpdate t p).mem = s.mem := by
  unfold State.driftUpdate
  dsimp only
  split <;> simp

@[simp] theorem State.fogLatch_sameMem (s : State) (t : Nat) (p : Plate) : (s.fogLatch t p).mem = s.mem := by
  rw [State.fogLatch, State.driftUpdate_sameMem, State.setTile_sameMem, State.puts_sameMem]
  exact State.mem_foldl (fun u f => u.puts_sameMem _) _ _

@[simp] theorem State.fogAdd_sameMem (s : State) (t fogS : Nat) (codes : List (Int × Bool)) (rows : List Nat) :
    (s.fogAdd t fogS codes rows).mem = s.mem := by simp [State.fogAdd]

@[simp] theorem State.commitColumn_sameMem (s : State) (t bank c : Nat) (acc16 overwrite : Bool) (v : Int) :
    (s.commitColumn t bank c acc16 overwrite v).mem = s.mem := by simp [State.commitColumn]

@[simp] theorem State.commitGroup_sameMem (s : State) (t : Nat) (b : Burst) (p : Plate) (slice gi : Nat) (psum : List Int)
    (shifts : List Nat) : (s.commitGroup t b p slice gi psum shifts).mem = s.mem := by simp [State.commitGroup, State.mem_foldl]

@[simp] theorem State.planeDone_sameMem (s : State) (t : Nat) (b : Burst) (p : Plate) (slice plane gi : Nat) (codes : List (Int × Bool))
    (rows : List Nat) (shifts : List Nat) : (s.planeDone t b p slice plane gi codes rows shifts).mem = s.mem := by
  unfold State.planeDone
  dsimp only
  split <;> simp [State.mem_foldl]

@[simp] theorem State.developNext_sameMem (s : State) (t : Nat) (b0 : Burst) (p : Plate) (slice : Nat) :
    (s.developNext t b0 p slice).mem = s.mem := by simp [State.developNext]

@[simp] theorem State.drainTile_sameMem (s : State) (t n : Nat) : (s.drainTile t n).mem = s.mem := by
  induction n generalizing s with
  | zero => rfl
  | succ n ih =>
    unfold State.drainTile
    split
    · split
      · rfl
      · exact (ih _).trans (s.developNext_sameMem _ _ _ _)
    · rfl

@[simp] theorem State.countCut_sameMem (s : State) (t : Nat) : (s.countCut t).mem = s.mem := by simp [State.countCut]

@[simp] theorem State.integrateNext_sameMem (s : State) (t : Nat) (b : Burst) (p : Plate) : (s.integrateNext t b p).mem = s.mem := (rfl)

@[simp] theorem State.exposureBegin_sameMem (s : State) (t : Nat) (b : Burst) (p : Plate) (row : Nat) :
    (s.exposureBegin t b p row).mem = s.mem := by simp [State.exposureBegin]

@[simp] theorem State.moveBurst_sameMem (s : State) (t wait : Nat) : (s.moveBurst t wait).mem = s.mem := by
  unfold State.moveBurst
  split <;> simp

@[simp] theorem State.addColumn_sameMem (s : State) (t bank u ubank c : Nat) (acc16 : Bool) :
    (s.addColumn t bank u ubank c acc16).mem = s.mem := by simp [State.addColumn]

@[simp] theorem State.chainMove_sameMem (s : State) (t : Nat) (merge : Bool) : (s.chainMove t merge).mem = s.mem := by
  unfold State.chainMove
  split
  · split
    · rfl
    · split
      · rfl
      · split
        · rfl
        · rw [State.setTile_sameMem, State.setTile_sameMem, State.pmuTile_sameMem, State.count_sameMem, State.count_sameMem]
          exact State.mem_foldl (fun u c => u.addColumn_sameMem _ _ _ _ c _) _ _
  · rfl

@[simp] theorem State.tileStep_sameMem (s : State) : s.tileStep.mem = s.mem := by simp [State.tileStep]

@[simp] theorem State.tileDataRead_sameMem (s : State) : s.tileDataRead.2.mem = s.mem := by
  unfold State.tileDataRead
  dsimp only
  split_ifs <;> simp

@[simp] theorem State.trimWrite_sameMem (s : State) (t c w : Nat) : (s.trimWrite t c w).mem = s.mem := by simp [State.trimWrite]

@[simp] theorem State.tileDataWrite_sameMem (s : State) (w : Nat) : (s.tileDataWrite w).mem = s.mem := by simp [State.tileDataWrite]

@[simp] theorem State.tileTest_sameMem (s : State) (w : Nat) : (s.tileTest w).mem = s.mem := by
  unfold State.tileTest
  dsimp only
  split_ifs <;> simp

@[simp] theorem State.testRuns_sameMem (s : State) (x : TileTest) (rows : List Nat) (n : Nat) :
    (s.testRuns x rows n).2.mem = s.mem := by
  induction n generalizing s with
  | zero => rfl
  | succ n ih => exact (ih _).trans (State.convert_sameMem _ _ _ _ _ _ _ _)

@[simp] theorem State.testAbandon_sameMem (s : State) : s.testAbandon.mem = s.mem := by
  unfold State.testAbandon
  split <;> simp

/-! ### Machine/Fix.lean -/

@[simp] theorem State.setFixQueue_sameMem (s : State) (d : Nat) (q : List FixEntry) : (s.setFixQueue d q).mem = s.mem := (rfl)

@[simp] theorem State.setFixRuns_sameMem (s : State) (d : Nat) (r : List FixRun) : (s.setFixRuns d r).mem = s.mem := (rfl)

@[simp] theorem State.noteDrained_sameMem (s : State) : s.noteDrained.mem = s.mem := by simp [State.noteDrained]

@[simp] theorem State.noteTileDrained_sameMem (s : State) (t : Nat) : (s.noteTileDrained t).mem = s.mem := by simp [State.noteTileDrained]

@[simp] theorem State.pumpSegment_sameMem (s : State) (t row m w : Nat) (levels : List Int) (r : PumpRun) :
    (s.pumpSegment t row m w levels r).mem = s.mem := by simp [State.pumpSegment]

@[simp] theorem State.loseSegment_sameMem (s : State) (t row m : Nat) : (s.loseSegment t row m).mem = s.mem := by simp [State.loseSegment]

@[simp] theorem State.refixSpan_sameMem (s : State) (t a b : Nat) : (s.refixSpan t a b).mem = s.mem := by
  simp [State.refixSpan, State.mem_foldl]

@[simp] theorem State.refixAdvance_sameMem (s : State) (t : Nat) : (s.refixAdvance t).mem = s.mem := by
  unfold State.refixAdvance
  split <;> simp

@[simp] theorem State.dropWrite_sameMem (s : State) : s.dropWrite.mem = s.mem := by simp [State.dropWrite]

@[simp] theorem State.disturb_sameMem (s : State) (t : Nat) : (s.disturb t).mem = s.mem := by
  unfold State.disturb
  split <;> simp

@[simp] theorem State.windowRead_sameMem (s : State) (h : Fin 2) (a : Nat) : (s.windowRead h a).mem = s.mem := by
  by_cases honly : s.memoryOnly = true
  · rw [State.windowRead_zero rfl (.inl honly), State.emit_mem]
  · have hmore : s.memoryOnly = false := by simpa using honly
    cases hkind : s.readKind (WindowLine.ofDpa a) with
    | zero => rw [State.windowRead_zero rfl (.inr hkind), State.emit_mem]
    | marker => rw [State.windowRead_marker rfl hmore hkind, State.emit_mem]
    | sense => rw [State.windowRead_sense rfl hmore hkind, State.setHalf_mem]

@[simp] theorem State.markDirty_sameMem (s : State) (t : Nat) : (s.markDirty t).mem = s.mem := (rfl)

@[simp] theorem State.remapRow_sameMem (s : State) (t row w : Nat) (bad : BitVec 8) (targets : Nat → List Int) :
    (s.remapRow t row w bad targets).1.mem = s.mem := by
  unfold State.remapRow
  dsimp only
  repeat' split
  all_goals simp [State.mem_foldl]

@[simp] theorem State.rowFailed_sameMem (s : State) (t row w : Nat) (bad : BitVec 8) : (s.rowFailed t row w bad).mem = s.mem := by
  simp [State.rowFailed]

@[simp] theorem State.failSegments_sameMem (s : State) (t row w : Nat) (ms : List Nat) (targets : Nat → List Int) :
    (s.failSegments t row w ms targets).mem = s.mem := by simp [State.failSegments, State.mem_foldl]

@[simp] theorem State.refixRemove_sameMem (s : State) (t : Nat) : (s.refixRemove t).mem = s.mem := (rfl)

@[simp] theorem State.fixDiscard_sameMem (s : State) (t : Nat) : (s.fixDiscard t).mem = s.mem := (rfl)

@[simp] theorem State.releaseTile_sameMem (s : State) (t : Nat) : (s.releaseTile t).mem = s.mem := (rfl)

@[simp] theorem State.eraseAtTraining_sameMem (s : State) (d : Nat) : (s.eraseAtTraining d).mem = s.mem := by simp [State.eraseAtTraining]

@[simp] theorem State.abandonRuns_sameMem (s : State) (d : Nat) (again : Bool) : (s.abandonRuns d again).mem = s.mem := by
  unfold State.abandonRuns
  have hlose : ∀ (l : List FixRun) (u : State),
      (l.foldl (fun v r => (v.loseSegment r.tile r.row r.seg).loseSegment r.tile r.row 8) u).mem = u.mem :=
    State.mem_foldl fun u r => by simp
  have hrefix : ∀ (l : List Nat) (u : State), (l.foldl (fun v t => match (v.refixAdvance t).refixRun t with
      | some x => if x.pos < segCount then (v.refixAdvance t).loseSegment t (x.pos / 9) (x.pos % 9) else v.refixAdvance t
      | none => v.refixAdvance t) u).mem = u.mem :=
    State.mem_foldl fun u t => by split <;> simp
  dsimp only
  split
  · exact (State.setFixQueue_sameMem _ _ _).trans ((hrefix _ _).trans ((hlose _ _).trans (s.setFixRuns_sameMem d [])))
  · exact (hrefix _ _).trans ((hlose _ _).trans (s.setFixRuns_sameMem d []))

@[simp] theorem State.fixDrop_sameMem (s : State) : s.fixDrop.mem = s.mem := by
  unfold State.fixDrop
  exact (State.mem_foldl (fun u d => u.setFixQueue_sameMem d []) _ _).trans
    (State.mem_foldl (fun u (x : RefixRun) => u.refixAdvance_sameMem x.tile) _ _)

@[simp] theorem State.fixQuiesce_sameMem (s : State) : s.fixQuiesce.mem = s.mem := by simp [State.fixQuiesce, State.mem_foldl]

@[simp] theorem State.noteDue_sameMem (s : State) (p : Plate) : (s.noteDue p).mem = s.mem := by simp [State.noteDue]

@[simp] theorem State.queueRefix_sameMem (s : State) (p : Nat) (tiles : List Nat) : (s.queueRefix p tiles).mem = s.mem := by
  simp [State.queueRefix]

@[simp] theorem State.refixRequest_sameMem (s : State) (w : Nat) : (s.refixRequest w).mem = s.mem := by
  unfold State.refixRequest
  repeat' split
  all_goals simp

@[simp] theorem State.refixBegin_sameMem (s : State) (t : Nat) : (s.refixBegin t).mem = s.mem := by simp [State.refixBegin]

@[simp] theorem State.pumpFill_sameMem (s : State) (d : Nat) : (s.pumpFill d).mem = s.mem := by simp [State.pumpFill, State.mem_foldl]

@[simp] theorem State.pumpFillAll_sameMem (s : State) : s.pumpFillAll.mem = s.mem := by simp [State.pumpFillAll, State.mem_foldl]

@[simp] theorem State.refixTile_sameMem (s : State) (t pos : Nat) (rows : List RefixRow) : (s.refixTile t pos rows).mem = s.mem := by
  simp [State.refixTile, State.mem_foldl]

@[simp] theorem State.fixMarkPlate_sameMem (s : State) (i : ResImage) (p : Plate) : (s.fixMarkPlate i p).mem = s.mem := by
  simp [State.fixMarkPlate]

@[simp] theorem State.fixMark_sameMem (s : State) : s.fixMark.mem = s.mem := by simp [State.fixMark, State.mem_foldl]

/-! ### Machine/Output.lean -/

@[simp] theorem State.countFlush_sameMem (s : State) (a : Nat) (flushed : Bool) : (s.countFlush a flushed).mem = s.mem := by
  simp [State.countFlush]

@[simp] theorem State.setLfsr_sameMem (s : State) (p : Plate) (j v : Nat) : (s.setLfsr p j v).mem = s.mem := (rfl)

@[simp] theorem State.seedPlate_sameMem (s : State) (p : Nat) : (s.seedPlate p).mem = s.mem := (rfl)

@[simp] theorem State.drawLfsr_sameMem (s : State) (p : Plate) (r : OutRun) (j : Nat) : (s.drawLfsr p r j).2.mem = s.mem := by
  unfold State.drawLfsr
  split <;> simp

@[simp] theorem State.sendAdds_sameMem (s : State) (r : OutRun) (p : Plate) (js : List Nat) : (s.sendAdds r p js).mem = s.mem := by
  simp [State.sendAdds]

@[simp] theorem State.outputEnded_sameMem (s : State) (r : OutRun) (limit : Bool) : (s.outputEnded r limit).mem = s.mem := by
  unfold State.outputEnded
  dsimp only
  split <;> simp

@[simp] theorem State.countWait_sameMem (s : State) (r : OutRun) (t : Nat) : (s.countWait r t).mem = s.mem := by simp [State.countWait]

/-! ### Machine/Issue.lean -/

@[simp] theorem State.issued_sameMem (s : State) (q : Nat) (kind : Option OutKind) : (s.issued q kind).mem = s.mem := by simp [State.issued]

@[simp] theorem State.hold_sameMem (s : State) (q : Nat) : (s.hold q).mem = s.mem := by simp [State.hold]

@[simp] theorem State.beginBurst_sameMem (s : State) (q : Nat) (r : Routine) (e : ExposeCmd) (p : Plate) :
    (s.beginBurst q r e p).mem = s.mem := by
  unfold State.beginBurst
  exact State.mem_foldl (fun u x => u.setTile_sameMem _ _) _ _

@[simp] theorem State.fillHold_sameMem (s : State) (t base line lines : Nat) : (s.fillHold t base line lines).mem = s.mem := by
  simp [State.fillHold]

@[simp] theorem State.seedRoutine_sameMem (s : State) (r : Routine) (o : OutputCmd) : (s.seedRoutine r o).mem = s.mem := by
  unfold State.seedRoutine
  split <;> simp

@[simp] theorem State.sendLines_sameMem (s : State) (port base length dst addr : Nat) (r : Routine) (q : Nat) :
    (s.sendLines port base length dst addr r q).mem = s.mem := by simp [State.sendLines]

/-! ### Machine/Seq.lean -/

@[simp] theorem State.lateFire_sameMem (s : State) (q : Nat) : (s.lateFire q).mem = s.mem := by simp [State.lateFire]

@[simp] theorem State.microRun_sameMem (s : State) (q : Nat) (r : Routine) (m : MicroWord) (x' : SeqSt) (nano : Option NanoCmd) :
    (s.microRun q r m x' nano).mem = s.mem := by simp [State.microRun]

@[simp] theorem State.load_sameMem (s : State) (q pc a0 : Nat) (r : Routine) : (s.load q pc a0 r).mem = s.mem := (rfl)

@[simp] theorem State.armWrite_sameMem (s : State) (slot : Nat) (arm disarm : Bool) : (s.armWrite slot arm disarm).mem = s.mem := by
  unfold State.armWrite
  dsimp only
  repeat' split
  all_goals simp

@[simp] theorem State.disarmMark_sameMem (s : State) : s.disarmMark.mem = s.mem := by simp [State.disarmMark]

@[simp] theorem State.mcClear_sameMem (s : State) (q : Nat) : (s.mcClear q).mem = s.mem := by
  unfold State.mcClear
  dsimp only
  split <;> simp

/-! ### Machine/Dark.lean -/

@[simp] theorem State.freeSlot_sameMem (s : State) (held : Option (Nat × Nat)) : (s.freeSlot held).mem = s.mem := by
  unfold State.freeSlot
  split <;> simp

@[simp] theorem State.dropHop_sameMem (s : State) : s.dropHop.mem = s.mem := by simp [State.dropHop]

@[simp] theorem State.forwardResp_sameMem (s : State) (t : Txn) (held : Option (Nat × Nat)) : (s.forwardResp t held).mem = s.mem := by
  unfold State.forwardResp
  split <;> simp

@[simp] theorem State.frecvLine_sameMem (s : State) (port a : Nat) : (s.frecvLine port a).mem = s.mem := by simp [State.frecvLine]

@[simp] theorem State.portDown_sameMem (s : State) (n cause : Nat) : (s.portDown n cause).1.mem = s.mem := by
  unfold State.portDown
  dsimp only
  split <;> simp

@[simp] theorem State.enterRunning_sameMem (s : State) : s.enterRunning.mem = s.mem := by simp [State.enterRunning]

@[simp] theorem State.leaveOvercast_sameMem (s : State) : s.leaveOvercast.mem = s.mem := by simp [State.leaveOvercast]

@[simp] theorem State.holdChanged_sameMem (s : State) (old : Nat) : (s.holdChanged old).mem = s.mem := by simp [State.holdChanged]

@[simp] theorem State.clearHold_sameMem (s : State) (b : Nat) : (s.clearHold b).mem = s.mem := by
  unfold State.clearHold
  dsimp only
  repeat' split
  all_goals simp

/-! ### Machine/Fabric.lean -/

@[simp] theorem State.portStart_sameMem (s : State) (n : Nat) : (s.portStart n).mem = s.mem := (rfl)

@[simp] theorem State.recordPeer_sameMem (s : State) (n : Nat) (b : TrainBlock) (polarity now : Nat) :
    (s.recordPeer n b polarity now).mem = s.mem := s.puts_sameMem _

@[simp] theorem State.sendTraining_sameMem (s : State) (n : Nat) (b : TrainBlock) (agreed faster : Bool) (now : Nat) :
    (s.sendTraining n b agreed faster now).mem = s.mem := (rfl)

@[simp] theorem State.portEnable_sameMem (s : State) (n : Nat) : (s.portEnable n).mem = s.mem := by simp [State.portEnable]

@[simp] theorem State.portMark_sameMem (s : State) (n : Nat) : (s.portMark n).mem = s.mem := by
  unfold State.portMark
  dsimp only
  repeat' split
  all_goals simp

@[simp] theorem State.fabMark_sameMem (s : State) : s.fabMark.mem = s.mem := by simp [State.fabMark, State.mem_foldl]

@[simp] theorem State.noteLeft_sameMem (s : State) (t : Txn) : (s.noteLeft t).mem = s.mem := by simp [State.noteLeft]

@[simp] theorem State.sendData_sameMem (s : State) (n seq : Nat) (ts : List Txn) : (s.sendData n seq ts).mem = s.mem := by
  simp [State.sendData]

@[simp] theorem State.flitOut_sameMem (s : State) (n : Nat) : (s.flitOut n).mem = s.mem := by
  unfold State.flitOut
  dsimp only
  repeat' split
  all_goals simp [State.mem_foldl]

@[simp] theorem State.owesNak_sameMem (s : State) (n : Nat) : (s.owesNak n).mem = s.mem := (rfl)

@[simp] theorem State.takeSlot_sameMem (s : State) (n : Nat) (kind hops : Nat) : (s.takeSlot n kind hops).2.mem = s.mem := by
  simp [State.takeSlot]

@[simp] theorem State.fabClrCounts_sameMem (s : State) : s.fabClrCounts.mem = s.mem := by simp [State.fabClrCounts]

/-! ### Machine/Pmu.lean -/

@[simp] theorem State.pmuStart_sameMem (s : State) (mask : Nat) : (s.pmuStart mask).mem = s.mem := (rfl)

@[simp] theorem State.pmuStop_sameMem (s : State) (mask : Nat) : (s.pmuStop mask).mem = s.mem := by simp [State.pmuStop]

theorem State.pmuEach_sameMem (s : State) (mask : Nat) {f : State → Nat → State} (hf : ∀ u n, (f u n).mem = u.mem) :
    (s.pmuEach mask f).mem = s.mem := by
  unfold State.pmuEach
  exact State.mem_foldl (fun u n => by split; exacts [hf u n, rfl]) _ _

@[simp] theorem State.pmuSnap_sameMem (s : State) (mask : Nat) : (s.pmuSnap mask).mem = s.mem :=
  s.pmuEach_sameMem mask fun u _ => u.puts_sameMem _

@[simp] theorem State.pmuZero_sameMem (s : State) (mask : Nat) : (s.pmuZero mask).mem = s.mem :=
  s.pmuEach_sameMem mask fun u n => u.setPmuCount_sameMem n 0

@[simp] theorem State.pmuCfg_sameMem (s : State) (n v : Nat) : (s.pmuCfg n v).mem = s.mem := by simp [State.pmuCfg]

@[simp] theorem State.pmuCnt_sameMem (s : State) (n : Nat) (high : Bool) (v : Nat) : (s.pmuCnt n high v).mem = s.mem := by
  simp [State.pmuCnt]

@[simp] theorem State.trigAct_sameMem (s : State) (k : Nat) : (s.trigAct k).mem = s.mem := by
  unfold State.trigAct
  dsimp only
  split <;> simp

@[simp] theorem State.trigWrite_sameMem (s : State) (k action : Nat) (arm : Bool) : (s.trigWrite k action arm).mem = s.mem := by
  unfold State.trigWrite
  dsimp only
  split_ifs <;> simp

@[simp] theorem State.trigSet_sameMem (s : State) (k off v : Nat) : (s.trigSet k off v).mem = s.mem := by simp [State.trigSet]

@[simp] theorem State.flogClear_sameMem (s : State) : s.flogClear.mem = s.mem := (rfl)

/-! ### Machine/Flash.lean -/

@[simp] theorem State.flashRead_sameMem (s : State) (ix : Nat) : (s.flashRead ix).2.mem = s.mem := by
  unfold State.flashRead
  split <;> simp

@[simp] theorem State.flashSet_sameMem (s : State) (ix v : Nat) : (s.flashSet ix v).mem = s.mem := (rfl)

@[simp] theorem State.flashBytes_sameMem (s : State) (ix : Nat) (bs : List Byte) : (s.flashBytes ix bs).mem = s.mem :=
  State.mem_foldl (fun u _ => u.flashSet_sameMem _ _) _ _

@[simp] theorem State.flashSeen_sameMem (s : State) : s.flashSeen.mem = s.mem := by simp [State.flashSeen]

@[simp] theorem State.sectorErased_sameMem (s : State) (bankB : Bool) (sector : Nat) : (s.sectorErased bankB sector).mem = s.mem := (rfl)

@[simp] theorem State.sectorTorn_sameMem (s : State) (bankB : Bool) (sector : Nat) : (s.sectorTorn bankB sector).mem = s.mem := (rfl)

@[simp] theorem State.flsLast_sameMem (s : State) (cmd result : Nat) (bankB : Bool) (sector word : Nat) :
    (s.flsLast cmd result bankB sector word).mem = s.mem := by simp [State.flsLast]

@[simp] theorem State.eraseRefused_sameMem (s : State) (cmd : Nat) (bankB : Bool) (sector : Nat) :
    (s.eraseRefused cmd bankB sector).mem = s.mem := by simp [State.eraseRefused]

@[simp] theorem State.flsShow_sameMem (s : State) : s.flsShow.mem = s.mem := by
  unfold State.flsShow
  split <;> simp

@[simp] theorem State.logPut_sameMem (s : State) (type : Nat) (bankB : Bool) (sector : Nat) :
    (s.logPut type bankB sector).mem = s.mem := by simp [State.logPut]

@[simp] theorem State.logSwitch_sameMem (s : State) : s.logSwitch.mem = s.mem := by
  unfold State.logSwitch
  split
  · simp
  · rfl

@[simp] theorem State.logAppend_sameMem (s : State) (type : Nat) (bankB : Bool) (sector : Nat) :
    (s.logAppend type bankB sector).mem = s.mem := by simp [State.logAppend]

@[simp] theorem State.logBegin_sameMem (s : State) (bankB : Bool) (sector : Nat) : (s.logBegin bankB sector).mem = s.mem := by
  simp [State.logBegin]

@[simp] theorem State.logDone_sameMem (s : State) (bankB : Bool) (sector : Nat) : (s.logDone bankB sector).mem = s.mem := by
  simp [State.logDone]

@[simp] theorem State.record_sameMem (s : State) (r : JRecord) : (s.record r).mem = s.mem := (rfl)

@[simp] theorem State.note_sameMem (s : State) (type tag : Nat) (content : List Byte) : (s.note type tag content).mem = s.mem := (rfl)

@[simp] theorem State.notePower_sameMem (s : State) (tag : Nat) : (s.notePower tag).mem = s.mem := (rfl)

@[simp] theorem State.ringErased_sameMem (s : State) (sector : Nat) : (s.ringErased sector).mem = s.mem := by simp [State.ringErased]

@[simp] theorem State.eraseVerified_sameMem (s : State) (bankB : Bool) (sector : Nat) : (s.eraseVerified bankB sector).mem = s.mem := by
  simp [State.eraseVerified]

@[simp] theorem State.eraseNow_sameMem (s : State) (bankB : Bool) (sector : Nat) : (s.eraseNow bankB sector).mem = s.mem := by
  simp [State.eraseNow]

@[simp] theorem State.flashProgram_sameMem (s : State) (ix v : Nat) (bad : Bool) : (s.flashProgram ix v bad).2.mem = s.mem := by
  unfold State.flashProgram
  dsimp only
  split_ifs <;> simp

@[simp] theorem State.eraseStart_sameMem (s : State) (bankB : Bool) (sector : Nat) : (s.eraseStart bankB sector).mem = s.mem := by
  simp [State.eraseStart]

@[simp] theorem State.eraseFailed_sameMem (s : State) (bankB : Bool) (sector : Nat) : (s.eraseFailed bankB sector).mem = s.mem := by
  simp [State.eraseFailed]

theorem State.setAside_sameMem (s : State) {t : State} (ht : s.setAside = some t) : t.mem = s.mem := by
  unfold State.setAside at ht
  split at ht
  · simp_all
  · split at ht
    · cases ht
    · simp at ht
      simp [← ht]

@[simp] theorem State.resumeInner_sameMem (s : State) : s.resumeInner.mem = s.mem := by
  unfold State.resumeInner
  split <;> simp

theorem State.meanwhile_sameMem (s : State) (work : State → State) (hwork : ∀ t, (work t).mem = t.mem) :
    (s.meanwhile work).mem = s.mem := by
  unfold State.meanwhile
  split
  · rfl
  · next t ht =>
    have haside := s.setAside_sameMem ht
    split
    · exact (State.resumeInner_sameMem _).trans ((hwork t).trans haside)
    · exact (hwork t).trans haside

@[simp] theorem State.abandonErases_sameMem (s : State) : s.abandonErases.mem = s.mem := by
  unfold State.abandonErases
  dsimp only
  repeat' split
  all_goals simp [State.mem_foldl]

@[simp] theorem State.recoverErases_sameMem (s : State) : s.recoverErases.mem = s.mem := by
  unfold State.recoverErases
  split <;> simp [State.mem_foldl]

@[simp] theorem State.option_sameMem (s : State) (level : Nat) : (s.option level).mem = s.mem := by
  unfold State.option
  dsimp only
  split
  · rw [State.flsLast_sameMem, State.put_sameMem, State.flashSet_sameMem]
  · rw [State.flsLast_sameMem, State.put_sameMem]

@[simp] theorem State.protRequest_sameMem (s : State) (level key : Nat) : (s.protRequest level key).mem = s.mem := by
  have hwork := s.meanwhile_sameMem (fun t => t.option level) fun t => t.option_sameMem level
  simp [State.protRequest, hwork]

@[simp] theorem State.eccReport_sameMem (s : State) (bankB : Bool) (sector corrected bad : Nat) :
    (s.eccReport bankB sector corrected bad).mem = s.mem := by simp [State.eccReport]

@[simp] theorem State.hostRead_sameMem (s : State) (addr : Nat) : (s.hostRead addr).mem = s.mem := by
  unfold State.hostRead
  dsimp only
  split_ifs <;> simp

@[simp] theorem State.flsClear_sameMem (s : State) : s.flsClear.mem = s.mem := by simp [State.flsClear]

/-! ### Machine/Loader.lean -/

@[simp] theorem State.levelRecheck_sameMem (s : State) (id : Nat) (held : Bool) : (s.levelRecheck id held).mem = s.mem := by
  unfold State.levelRecheck
  repeat' split
  all_goals simp

@[simp] theorem State.imgPost_sameMem (s : State) (code phase sect : Nat) (mismatch : Bool) :
    (s.imgPost code phase sect mismatch).mem = s.mem := by simp [State.imgPost]

@[simp] theorem State.imgFail_sameMem (s : State) (e : LoadErr) : (s.imgFail e).mem = s.mem := by simp [State.imgFail]

@[simp] theorem State.imgRestore_sameMem (s : State) (slot : Option Nat) : (s.imgRestore slot).mem = s.mem := by
  unfold State.imgRestore
  split <;> simp

@[simp] theorem State.imgAbortIn_sameMem (s : State) (p : Nat → Bool) : (s.imgAbortIn p).mem = s.mem := by
  unfold State.imgAbortIn
  split <;> simp

@[simp] theorem State.imgAbort_sameMem (s : State) : s.imgAbort.mem = s.mem := by simp [State.imgAbort]

@[simp] theorem State.imgStart_sameMem (s : State) : s.imgStart.mem = s.mem := by simp [State.imgStart]

@[simp] theorem State.imgUnload_sameMem (s : State) : s.imgUnload.mem = s.mem := by
  unfold State.imgUnload
  repeat' split
  all_goals simp

@[simp] theorem State.imgCtrl_sameMem (s : State) (start unload abort : Bool) : (s.imgCtrl start unload abort).mem = s.mem := by
  simp [State.imgCtrl]

@[simp] theorem State.imgTick_sameMem (s : State) : s.imgTick.mem = s.mem := by
  unfold State.imgTick
  split <;> simp

@[simp] theorem State.ungrant_sameMem (s : State) (plates : List Nat) : (s.ungrant plates).mem = s.mem := by simp [State.ungrant]

@[simp] theorem State.clearDue_sameMem (s : State) (p : Nat) : (s.clearDue p).mem = s.mem := by simp [State.clearDue]

/-! ### Machine/Cmd.lean -/

@[simp] theorem State.ringEnable_sameMem (s : State) (c : Nat) : (s.ringEnable c).mem = s.mem := by simp [State.ringEnable]

@[simp] theorem State.ringDisable_sameMem (s : State) (c : Nat) : (s.ringDisable c).mem = s.mem := by simp [State.ringDisable]

@[simp] theorem State.doorbell_sameMem (s : State) (c t : Nat) : (s.doorbell c t).mem = s.mem := by simp [State.doorbell]

/-! ### Machine/Ctx.lean -/

@[simp] theorem State.ctxEnd_sameMem (s : State) (op c result : Nat) : (s.ctxEnd op c result).mem = s.mem := by simp [State.ctxEnd]

@[simp] theorem State.ctxBegin_sameMem (s : State) (op c : Nat) : (s.ctxBegin op c).mem = s.mem := by simp [State.ctxBegin]

@[simp] theorem State.bindingMsg_sameMem (s : State) (isOpen : Bool) (c frame : Nat) : (s.bindingMsg isOpen c frame).mem = s.mem := (rfl)

@[simp] theorem State.ctxCountersClear_sameMem (s : State) (c : Nat) : (s.ctxCountersClear c).mem = s.mem := by
  simp [State.ctxCountersClear]

@[simp] theorem State.disarmCtx_sameMem (s : State) (c : Nat) : (s.disarmCtx c).mem = s.mem := by simp [State.disarmCtx]

@[simp] theorem State.dropLoads_sameMem (s : State) (c : Nat) : (s.dropLoads c).mem = s.mem := by
  unfold State.dropLoads
  dsimp only
  repeat' split
  all_goals simp

@[simp] theorem State.timersOff_sameMem (s : State) (c : Nat) : (s.timersOff c).mem = s.mem := by simp [State.timersOff, State.mem_foldl]

@[simp] theorem State.ringsOff_sameMem (s : State) (c : Nat) : (s.ringsOff c).mem = s.mem := (rfl)

@[simp] theorem State.ungrantCtx_sameMem (s : State) (c : Nat) : (s.ungrantCtx c).mem = s.mem := by simp [State.ungrantCtx]

@[simp] theorem State.ctxMove_sameMem (s : State) (c a : Nat) (write : Bool) (n : Nat) : (s.ctxMove c a write n).mem = s.mem := by
  simp [State.ctxMove, State.mem_foldl]

/-- A tile's registers scrambled from a list of offsets. -/
def State.scrambled (s : State) (all : List Nat) : State :=
  { all.zipIdx.foldl (fun u x => u.setRegWord x.1 (Config.free (s.freeIx + x.2))) s with freeIx := s.freeIx + all.length }

theorem State.scrambled_sameMem (s : State) (all : List Nat) : (s.scrambled all).mem = s.mem :=
  State.mem_foldl (fun u (x : Nat × Nat) => u.setRegWord_sameMem x.1 (Config.free (s.freeIx + x.2))) _ _

theorem State.scrambleTile_eq (s : State) (t : Nat) : ∃ all, s.scrambleTile t = s.scrambled all := ⟨_, rfl⟩

@[simp] theorem State.scrambleTile_sameMem (s : State) (t : Nat) : (s.scrambleTile t).mem = s.mem := by
  obtain ⟨all, hall⟩ := s.scrambleTile_eq t
  rw [hall, s.scrambled_sameMem]

/-- Register words from `base` on, taken from a record's bytes at `pos`. -/
def State.putWords (s : State) (b : List Byte) (base pos n : Nat) : State :=
  (List.range n).foldl (fun u k => u.setRegWord (base + 4 * k) (leAt b (pos + 4 * k) 4)) s

theorem State.putWords_sameMem (s : State) (b : List Byte) (base pos n : Nat) : (s.putWords b base pos n).mem = s.mem :=
  State.mem_foldl (fun u _ => u.setRegWord_sameMem _ _) _ s

/-- The limits of a tile, taken from a record. -/
def State.putLimits (s : State) (t : Nat) (b : List Byte) : State :=
  (List.range 512).foldl (fun u c => u.put (R.TILE_BFLAG_limit t c) (leAt b (0x2000 + c) 1)) s

theorem State.putLimits_sameMem (s : State) (t : Nat) (b : List Byte) : (s.putLimits t b).mem = s.mem :=
  State.mem_foldl (fun u _ => u.put_mem _ _) _ s

/-- Free words in the second half of a tile's last array. -/
def State.putFree (s : State) (t ix : Nat) : State :=
  (List.range 2048).foldl (fun u k => u.setRegWord (tileBase t + 0xC000 + 4 * (2048 + k)) (Config.free (ix + k))) s

theorem State.putFree_sameMem (s : State) (t ix : Nat) : (s.putFree t ix).mem = s.mem :=
  State.mem_foldl (fun u _ => u.setRegWord_sameMem _ _) _ s

theorem State.tileWriteBack_eq (s : State) (t : Nat) (b : List Byte) :
    s.tileWriteBack t b = { ((((((s.putWords b (tileBase t + 0x8000) 0 2048).putLimits t b).putWords b (tileBase t + 0x5C00) 0x2200
      512).putWords b (tileBase t + 0x5800) 0x2A00 1).putWords b (tileBase t + 0xA800) 0x2A04 3).putWords b (tileBase t + 0xC000)
      0x3000 2048).putFree t s.freeIx with freeIx := s.freeIx + 2048 } := rfl

@[simp] theorem State.tileWriteBack_sameMem (s : State) (t : Nat) (b : List Byte) : (s.tileWriteBack t b).mem = s.mem := by
  have hix : ∀ (u : State) n, { u with freeIx := n }.mem = u.mem := fun _ _ => rfl
  rw [State.tileWriteBack_eq, hix]
  simp only [State.putFree_sameMem, State.putWords_sameMem, State.putLimits_sameMem]

/-! ### Machine/Journal.lean -/

@[simp] theorem State.closeSector_sameMem (s : State) : s.closeSector.mem = s.mem := by simp [State.closeSector]

theorem State.openNext_sameMem (s : State) {t : State} (ht : s.openNext = some t) : t.mem = s.mem := by
  unfold State.openNext at ht
  dsimp only at ht
  split at ht
  · cases ht
  · simp only [Option.some.injEq] at ht
    simp [← ht]

@[simp] theorem State.writeBlock_sameMem (s : State) (bs : List Byte) : (s.writeBlock bs).mem = s.mem := by
  unfold State.writeBlock
  rw [State.count_sameMem, State.put_sameMem, State.flsLast_sameMem]
  exact s.flashBytes_sameMem _ _

@[simp] theorem State.badCommit_sameMem (s : State) (block : List Byte) : (s.badCommit block).mem = s.mem := by simp [State.badCommit]

theorem State.roomFor_sameMem (s : State) (block : List Byte) {t : State} (ht : s.roomFor block = some t) : t.mem = s.mem := by
  unfold State.roomFor at ht
  split at ht
  · simpa using State.openNext_sameMem _ ht
  · simp_all

theorem State.commitOne_sameMem (s : State) (kind : Nat) (recs : List Byte) (bad : Bool) {t : State}
    (ht : s.commitOne kind recs bad = some t) : t.mem = s.mem := by
  unfold State.commitOne at ht
  split at ht
  · cases ht
  · next u hu =>
    have hroom := State.roomFor_sameMem _ _ hu
    split at ht
    · split at ht
      · cases ht
      · next v hv =>
        have hopen := State.openNext_sameMem _ hv
        simp only [Option.some.injEq] at ht
        simp_all [← ht]
    · simp only [Option.some.injEq] at ht
      simp_all [← ht]

theorem State.commitMany_sameMem (s : State) (cs : List (Nat × List Byte)) (bad : Bool) {t : State} (ht : s.commitMany cs bad = some t) :
    t.mem = s.mem := by
  induction cs generalizing s bad with
  | nil => rw [← Option.some.inj ht]
  | cons c cs ih =>
    unfold State.commitMany at ht
    split at ht
    · cases ht
    · next u hu => exact (ih u false ht).trans (s.commitOne_sameMem _ _ _ hu)

@[simp] theorem State.markCommitted_sameMem (s : State) : s.markCommitted.mem = s.mem := by simp [State.markCommitted]

@[simp] theorem State.holdCommit_sameMem (s : State) : s.holdCommit.mem = s.mem := by simp [State.holdCommit]

@[simp] theorem State.writePending_sameMem (s : State) (bad : Bool) : (s.writePending bad).mem = s.mem := by
  unfold State.writePending
  split
  · simp
  · split
    · simp
    · next u hu => simpa using State.commitMany_sameMem _ _ _ hu

@[simp] theorem State.commitPending_sameMem (s : State) (bad : Bool) : (s.commitPending bad).mem = s.mem := by
  have hwork := s.meanwhile_sameMem (fun t => t.writePending bad) fun t => t.writePending_sameMem bad
  simp [State.commitPending, hwork]

@[simp] theorem State.journalFirst_sameMem (s : State) : s.journalFirst.mem = s.mem := by simp [State.journalFirst]

theorem State.checkpointed_sameMem (s : State) {t : State} (ht : s.checkpointed = some t) : t.mem = s.mem := by
  unfold State.checkpointed at ht
  dsimp only at ht
  split at ht
  · cases ht
  · next u hu =>
    have hmany := State.commitMany_sameMem _ _ _ hu
    rw [← Option.some.inj ht]
    simpa using hmany

@[simp] theorem State.checkpoint_sameMem (s : State) : s.checkpoint.mem = s.mem := by
  unfold State.checkpoint
  split
  · next u hu => exact s.checkpointed_sameMem hu
  · exact s.commitPending_sameMem false

@[simp] theorem State.eraseAhead_sameMem (s : State) : s.eraseAhead.mem = s.mem := by
  unfold State.eraseAhead
  dsimp only
  split_ifs
  · rfl
  · simp
  · split
    · next u hu => simpa using s.checkpointed_sameMem hu
    · simp
  · simp

@[simp] theorem State.applyRecord_sameMem (s : State) (r : JRecord) : (s.applyRecord r).mem = s.mem := by
  unfold State.applyRecord
  split <;> simp

@[simp] theorem State.applyCommit_sameMem (s : State) (c : FoundCommit) : (s.applyCommit c).mem = s.mem := by
  simp [State.applyCommit, State.mem_foldl]

@[simp] theorem State.readLog_sameMem (s : State) : s.readLog.mem = s.mem := by simp [State.readLog]

@[simp] theorem State.placeHead_sameMem (s : State) (cs : List FoundCommit) : (s.placeHead cs).mem = s.mem := by
  unfold State.placeHead
  split <;> simp

@[simp] theorem State.rebuild_sameMem (s : State) : s.rebuild.mem = s.mem := by simp [State.rebuild, State.mem_foldl]

/-! ### Machine/Metering.lean -/

@[simp] theorem State.calStart_sameMem (s : State) (temperature : Bool) : (s.calStart temperature).mem = s.mem := (rfl)

@[simp] theorem State.calWrite_sameMem (s : State) (off value : Nat) : (s.calWrite off value).mem = s.mem := by simp [State.calWrite]

@[simp] theorem State.calLock_sameMem (s : State) : s.calLock.mem = s.mem := by simp [State.calLock]

@[simp] theorem State.mtrEvent_sameMem (s : State) (b : Nat) (onset : Bool) : (s.mtrEvent b onset).mem = s.mem := by simp [State.mtrEvent]

@[simp] theorem State.setChan_sameMem (s : State) (n : Fin 2) (c : ChanSt) : (s.setChan n c).mem = s.mem := (rfl)

@[simp] theorem State.transit_sameMem (s : State) (n : Fin 2) (stop : Option Int) : (s.transit n stop).mem = s.mem := by
  simp [State.transit]

@[simp] theorem State.swapEnd_sameMem (s : State) (n : Fin 2) : (s.swapEnd n).mem = s.mem := by
  unfold State.swapEnd
  dsimp only
  split <;> simp

@[simp] theorem State.setSensor_sameMem (s : State) (n : Fin 4) (x : SensorSt) : (s.setSensor n x).mem = s.mem := (rfl)

@[simp] theorem State.sensorRead_sameMem (s : State) (n : Fin 4) (r : Rtd) : (s.sensorRead n r).mem = s.mem := by simp [State.sensorRead]

@[simp] theorem State.crossed_sameMem (s : State) (n : Fin 2) : (s.crossed n).mem = s.mem := by simp [State.crossed]

@[simp] theorem State.loopCycle_sameMem (s : State) (n : Fin 2) : (s.loopCycle n).2.mem = s.mem := by simp [State.loopCycle]

@[simp] theorem State.railSample_sameMem (s : State) (r : Fin 4) (x : RailSample) : (s.railSample r x).2.mem = s.mem := by
  unfold State.railSample
  dsimp only
  split <;> simp

@[simp] theorem State.give_sameMem (s : State) (account nj : Nat) (heat : Bool) : (s.give account nj heat).mem = s.mem := by
  simp [State.give]

@[simp] theorem State.closeFrame_sameMem (s : State) : s.closeFrame.mem = s.mem := by
  unfold State.closeFrame
  split <;> simp

@[simp] theorem State.bind_sameMem (s : State) (isOpen : Bool) (slot tenant : Nat) (bench : Bool) (frame : Nat) :
    (s.bind isOpen slot tenant bench frame).mem = s.mem := by simp [State.bind]

@[simp] theorem State.addShare_sameMem (s : State) (cycle account nj : Nat) : (s.addShare cycle account nj).mem = s.mem := (rfl)

@[simp] theorem State.splitFrames_sameMem (s : State) (es : List FrameE) (n : Nat) (charges : List (Nat × Nat)) (frame : Nat) :
    (s.splitFrames es n charges frame).mem = s.mem := by
  have hshare : ∀ (l : List FrameE) (acc : Nat) (e : FrameE → Nat) (u : State),
      (l.foldl (fun v x => v.addShare x.cycle acc (e x)) u).mem = u.mem :=
    fun l acc e u => State.mem_foldl (fun v x => v.addShare_sameMem _ _ _) l u
  unfold State.splitFrames
  refine (hshare _ _ _ _).trans ((State.give_sameMem _ _ _ _).trans (State.mem_foldl (fun u p => ?_) _ _))
  exact (hshare _ _ _ _).trans (State.give_sameMem _ _ _ _)

@[simp] theorem State.splitCycle_sameMem (s : State) (c : CycleQ) : (s.splitCycle c).mem = s.mem := by
  simp [State.splitCycle, State.mem_foldl]

@[simp] theorem State.splitAll_sameMem (s : State) : s.splitAll.mem = s.mem := by simp [State.splitAll, State.mem_foldl]

@[simp] theorem State.intervalEnd_sameMem (s : State) (short : Bool) : (s.intervalEnd short).mem = s.mem := by simp [State.intervalEnd]

@[simp] theorem State.rtcSet_sameMem (s : State) (v : Nat) : (s.rtcSet v).mem = s.mem := by simp [State.rtcSet]

@[simp] theorem State.mtrClear_sameMem (s : State) : s.mtrClear.mem = s.mem := by simp [State.mtrClear]

/-! ### Machine/IslView.lean -/

@[simp] theorem State.islRead_sameMem (s : State) (off : Nat) : (s.islRead off).2.mem = s.mem := by
  unfold State.islRead
  split_ifs <;> simp

/-! ### Machine/MBus.lean -/

@[simp] theorem State.mbusRate_sameMem (s : State) (rate : Fin 3) : (s.mbusRate rate).mem = s.mem := by simp [State.mbusRate]

@[simp] theorem State.mbusAnswer_sameMem (s : State) (a : Nat) (bs : List Byte) : (s.mbusAnswer a bs).mem = s.mem := by
  simp [State.mbusAnswer]

@[simp] theorem State.mbusRestart_sameMem (s : State) : s.mbusRestart.mem = s.mem := (rfl)

@[simp] theorem State.sendNew_sameMem (s : State) (a : Nat) (set : List (List Byte)) (ix : Nat) (fcb : Bool) :
    (s.sendNew a set ix fcb).mem = s.mem := by simp [State.sendNew]

@[simp] theorem State.setPrimary_sameMem (s : State) (v : Nat) : (s.setPrimary v).mem = s.mem := by simp [State.setPrimary]

/-! ### Machine/Operands.lean -/

@[simp] theorem State.writeField_sameMem (locked : Bool) (w : Nat) (s : State) (f : Fld) : (s.writeField locked w f).mem = s.mem := (rfl)

@[simp] theorem State.accWrite_sameMem (s : State) (off w : Nat) (locked : Bool) : (s.accWrite off w locked).mem = s.mem :=
  State.mem_foldl (f := State.writeField locked w) (fun _ _ => rfl) _ _

/-! ### Machine/Island.lean -/

@[simp] theorem State.supplySampled_sameMem (s : State) (vbat vhold mah : Nat) : (s.supplySampled vbat vhold mah).mem = s.mem := by
  unfold State.supplySampled
  dsimp only
  split_ifs <;> simp

@[simp] theorem State.islandCold_sameMem (s : State) : s.islandCold.mem = s.mem := (rfl)

@[simp] theorem State.journalLatch_sameMem (s : State) : s.journalLatch.mem = s.mem := by simp [State.journalLatch]

@[simp] theorem State.trimStart_sameMem (s : State) : s.trimStart.mem = s.mem := by simp [State.trimStart]

@[simp] theorem State.trimDrop_sameMem (s : State) : s.trimDrop.mem = s.mem := (rfl)

@[simp] theorem State.trimControl_sameMem (s : State) (v : Nat) : (s.trimControl v).mem = s.mem := by simp [State.trimControl]

@[simp] theorem State.xtalStart_sameMem (s : State) : s.xtalStart.mem = s.mem := by simp [State.xtalStart]

@[simp] theorem State.gapNote_sameMem (s : State) : s.gapNote.mem = s.mem := by
  unfold State.gapNote
  split <;> simp

@[simp] theorem State.bootFinish_sameMem (s : State) : s.bootFinish.mem = s.mem := by simp [State.bootFinish]

@[simp] theorem State.recover_sameMem (s : State) : s.recover.mem = s.mem := by simp [State.recover]

@[simp] theorem State.mboxDone_sameMem (s : State) (k : Fin 2) : (s.mboxDone k).mem = s.mem := by simp [State.mboxDone]

@[simp] theorem State.mboxRespond_sameMem (s : State) (k : Fin 2) (status : Nat) (data : List Byte) :
    (s.mboxRespond k status data).mem = s.mem := by
  unfold State.mboxRespond
  rw [State.put_sameMem]
  exact State.mem_foldl (fun u w => u.put_sameMem _ _) _ _

@[simp] theorem State.mboxEnd_sameMem (s : State) (k : Fin 2) (status : Nat) (data : List Byte) :
    (s.mboxEnd k status data).mem = s.mem := by simp [State.mboxEnd]

@[simp] theorem State.mboxKept_sameMem (s : State) : s.mboxKept.mem = s.mem := by simp [State.mboxKept, State.mem_foldl]

@[simp] theorem State.mboxGo_sameMem (s : State) (k : Fin 2) : (s.mboxGo k).mem = s.mem := by
  unfold State.mboxGo
  dsimp only
  split_ifs <;> simp

theorem State.mboxServe_sameMem (s : State) (k : Fin 2) (code : Nat) (lenOk : Nat → Bool)
    {body : List Byte → State → Nat × List Byte × State} (hbody : ∀ b u, (body b u).2.2.mem = u.mem) :
    (s.mboxServe k code lenOk body).mem = s.mem := by
  unfold State.mboxServe
  split_ifs
  · rfl
  · simp
  · simp
  · exact (State.mboxEnd_sameMem _ _ _ _).trans (hbody _ s)

@[simp] theorem State.islWrite_sameMem (s : State) (off v : Nat) : (s.islWrite off v).mem = s.mem := by
  unfold State.islWrite
  split <;> simp

@[simp] theorem State.fwErase_sameMem (s : State) (target : Nat) (ns : List Nat) : (s.fwErase target ns).1.mem = s.mem := by
  induction ns generalizing s with
  | nil => rfl
  | cons n ns ih =>
    unfold State.fwErase
    dsimp only
    split_ifs
    · exact ih s
    · simp
    · exact (ih _).trans (by simp)

@[simp] theorem State.fwProgram_sameMem (s : State) (ws : List (Nat × Nat)) : (s.fwProgram ws).1.mem = s.mem := by
  induction ws generalizing s with
  | nil => rfl
  | cons w ws ih =>
    unfold State.fwProgram
    dsimp only
    split_ifs
    · exact ih s
    · exact (ih _).trans (s.flashProgram_sameMem _ _ _)
    · exact s.flashProgram_sameMem _ _ _

@[simp] theorem State.islClear_sameMem (s : State) : s.islClear.mem = s.mem := by simp [State.islClear]

/-! ### Machine/Power.lean -/

@[simp] theorem State.closeBindings_sameMem (s : State) (f : Nat) : (s.closeBindings f).mem = s.mem := by simp [State.closeBindings]

@[simp] theorem State.islNote_sameMem (s : State) (type tag : Nat) (content : List Byte) :
    (s.islNote type tag content).mem = s.mem := by simp [State.islNote]

@[simp] theorem State.railFault_sameMem (s : State) (rail mv : Nat) : (s.railFault rail mv).mem = s.mem := by simp [State.railFault]

@[simp] theorem State.stopNote_sameMem (s : State) (kind : Nat) (inDusk : Bool) (rail frame : Nat) :
    (s.stopNote kind inDusk rail frame).mem = s.mem := by simp [State.stopNote]

@[simp] theorem State.setEnables_sameMem (s : State) (e : BitVec 6) : (s.setEnables e).mem = s.mem := by simp [State.setEnables]

@[simp] theorem State.dieRelease_sameMem (s : State) : s.dieRelease.mem = s.mem := by simp [State.dieRelease]

@[simp] theorem State.tryRelease_sameMem (s : State) : s.tryRelease.mem = s.mem := by simp [State.tryRelease]

@[simp] theorem State.setStep_sameMem (s : State) (n : Nat) : (s.setStep n).mem = s.mem := (rfl)

@[simp] theorem State.linkReturn_sameMem (s : State) : s.linkReturn.mem = s.mem := by simp [State.linkReturn]

@[simp] theorem State.enterBench_sameMem (s : State) : s.enterBench.mem = s.mem := (rfl)

@[simp] theorem State.dawnAlert_sameMem (s : State) : s.dawnAlert.mem = s.mem := by simp [State.dawnAlert]

@[simp] theorem State.seqsIdle_sameMem (s : State) : s.seqsIdle.mem = s.mem := (rfl)

@[simp] theorem State.fallBack_sameMem (s : State) : s.fallBack.mem = s.mem := by simp [State.fallBack]

@[simp] theorem State.abandonWork_sameMem (s : State) : s.abandonWork.mem = s.mem := by simp [State.abandonWork, State.mem_foldl]

@[simp] theorem State.hostIdle_sameMem (s : State) : s.hostIdle.mem = s.mem := (rfl)

@[simp] theorem State.ackDawn_sameMem (s : State) : s.ackDawn.mem = s.mem := by simp [State.ackDawn]

@[simp] theorem State.ackStop_sameMem (s : State) : s.ackStop.mem = s.mem := by simp [State.ackStop]

/-! ### Machine/Horizon.lean -/

@[simp] theorem State.setHzn_sameMem (s : State) (x : HznSt) : (s.setHzn x).mem = s.mem := (rfl)

@[simp] theorem State.applyOffset_sameMem (s : State) (new : Nat) : (s.applyOffset new).mem = s.mem := (rfl)

@[simp] theorem State.ungrantAll_sameMem (s : State) : s.ungrantAll.mem = s.mem := by simp [State.ungrantAll]

@[simp] theorem State.trimSpoil_sameMem (s : State) : s.trimSpoil.mem = s.mem := by simp [State.trimSpoil]

@[simp] theorem State.toCoasting_sameMem (s : State) (loss : Nat) : (s.toCoasting loss).mem = s.mem := by simp [State.toCoasting]

@[simp] theorem State.toLocked_sameMem (s : State) : s.toLocked.mem = s.mem := by simp [State.toLocked]

@[simp] theorem State.toAcquiring_sameMem (s : State) : s.toAcquiring.mem = s.mem := by simp [State.toAcquiring]

@[simp] theorem State.acquireBack_sameMem (s : State) : s.acquireBack.mem = s.mem := by simp [State.acquireBack]

@[simp] theorem State.hznPllUp_sameMem (s : State) : s.hznPllUp.mem = s.mem := by simp [State.hznPllUp]

@[simp] theorem State.hznPllDown_sameMem (s : State) : s.hznPllDown.mem = s.mem := by
  unfold State.hznPllDown
  dsimp only
  repeat' split
  all_goals simp

@[simp] theorem State.rxEnable_sameMem (s : State) : s.rxEnable.mem = s.mem := by simp [State.rxEnable]

@[simp] theorem State.hznClear_sameMem (s : State) : s.hznClear.mem = s.mem := by simp [State.hznClear]

@[simp] theorem State.gapStart_sameMem (s : State) (n : Nat) : (s.gapStart n).mem = s.mem := by simp [State.gapStart]

@[simp] theorem State.seeMark_sameMem (s : State) : s.seeMark.mem = s.mem := by simp [State.seeMark]

@[simp] theorem State.countMisplaced_sameMem (s : State) : s.countMisplaced.mem = s.mem := by simp [State.countMisplaced]

@[simp] theorem State.markAcquiring_sameMem (s : State) (dev : Int) (gap : Bool) : (s.markAcquiring dev gap).mem = s.mem := by
  simp [State.markAcquiring]

@[simp] theorem State.markCoasting_sameMem (s : State) : s.markCoasting.mem = s.mem := by simp [State.markCoasting]

@[simp] theorem State.statusIn_sameMem (s : State) (m : List Byte) : (s.statusIn m).mem = s.mem := by simp [State.statusIn]

@[simp] theorem State.judgeLocked_sameMem (s : State) (good counted : Bool) (loss : Nat) :
    (s.judgeLocked good counted loss).mem = s.mem := by simp [State.judgeLocked]

@[simp] theorem State.slewStep_sameMem (s : State) : s.slewStep.mem = s.mem := by
  unfold State.slewStep
  split <;> simp

@[simp] theorem State.firePassed_sameMem (s : State) : s.firePassed.mem = s.mem := by simp [State.firePassed, State.mem_foldl]

@[simp] theorem State.frameEnded_sameMem (s : State) (f : Nat) : (s.frameEnded f).mem = s.mem := (rfl)

@[simp] theorem State.pmuMark_sameMem (s : State) : s.pmuMark.mem = s.mem := by simp [State.pmuMark]

@[simp] theorem State.duskMark_sameMem (s : State) : s.duskMark.mem = s.mem := by
  unfold State.duskMark
  split <;> simp

/-! ### Machine/HostLink.lean -/

@[simp] theorem State.halfHot_sameMem (s : State) (h : Fin 2) : (s.halfHot h).mem = s.mem := (rfl)

@[simp] theorem State.linkDown_sameMem (s : State) (h : Fin 2) : (s.linkDown h).mem = s.mem := by simp [State.linkDown]

/-! ### Machine/Clocks.lean -/

@[simp] theorem State.tearChain_sameMem (s : State) (t : Nat) (b : Burst) : (s.tearChain t b).mem = s.mem := by
  unfold State.tearChain
  split
  · rfl
  · split
    · rfl
    · split
      · rfl
      · exact State.mem_foldl (fun u c => u.free.2.put_sameMem _ _) _ _

@[simp] theorem State.forceTile_sameMem (s : State) (t : Nat) (b : Burst) : (s.forceTile t b).mem = s.mem := by simp [State.forceTile]

@[simp] theorem State.obsWrite_sameMem (s : State) (w : Nat) : (s.obsWrite w).mem = s.mem := by simp [State.obsWrite]

@[simp] theorem State.clkClear_sameMem (s : State) : s.clkClear.mem = s.mem := by simp [State.clkClear]

/-! ### Machine/Restart.lean -/

@[simp] theorem State.massErased_sameMem (s : State) : s.massErased.mem = s.mem :=
  (State.mem_foldl (fun u n => u.sectorErased_sameMem true n) _ _).trans (State.mem_foldl (fun u n => u.sectorErased_sameMem false n) _ _)

@[simp] theorem State.flashFresh_sameMem (s : State) : s.flashFresh.mem = s.mem := by simp [State.flashFresh]

@[simp] theorem State.meterCleared_sameMem (s : State) : s.meterCleared.mem = s.mem := by simp [State.meterCleared]

/-! ### Machine/HostPort.lean -/

@[simp] theorem State.sessionsEnd_sameMem (s : State) : s.sessionsEnd.mem = s.mem := (rfl)

@[simp] theorem State.hostClear_sameMem (s : State) : s.hostClear.mem = s.mem := by simp [State.hostClear]

/-! ### Machine/Spdm.lean -/

@[simp] theorem State.doe_sameMem (s : State) (h : Fin 2) (what : String) (payload : List Byte) :
    (s.doe h what payload).mem = s.mem := (rfl)

@[simp] theorem State.spdmError_sameMem (s : State) (h : Fin 2) (why : String) : (s.spdmError h why).mem = s.mem := (rfl)

@[simp] theorem State.setSession_sameMem (s : State) (y : Session) : (s.setSession y).mem = s.mem := by simp [State.setSession]

@[simp] theorem State.dropSession_sameMem (s : State) (y : Session) : (s.dropSession y).mem = s.mem := (rfl)

/-! ### Machine/Thermal.lean -/

@[simp] theorem State.setThmDie_sameMem (s : State) (d : Nat) (x : DieSt) : (s.setThmDie d x).mem = s.mem := by simp [State.setThmDie]

@[simp] theorem State.suspectCounts_sameMem (s : State) (raw : Nat → Option Int) (dis : Nat → Bool) :
    (s.suspectCounts raw dis).mem = s.mem := by simp [State.suspectCounts]

@[simp] theorem State.suspectMark_sameMem (s : State) (raw : Nat → Option Int) (d : Nat) : (s.suspectMark raw d).1.mem = s.mem := by
  unfold State.suspectMark
  dsimp only
  split_ifs <;> simp

@[simp] theorem State.xcheckShow_sameMem (s : State) : s.xcheckShow.1.mem = s.mem := by
  unfold State.xcheckShow
  split_ifs <;> simp

@[simp] theorem State.suspectRound_sameMem (s : State) (raw : Nat → Option Int) (dis : Nat → Bool) :
    (s.suspectRound raw dis).1.mem = s.mem := by
  have hmark : ∀ (l : List Nat) (p : State × List (Nat × Nat)),
      (l.foldl (fun u d => ((u.1.suspectMark raw d).1, u.2 ++ (u.1.suspectMark raw d).2)) p).1.mem = p.1.mem := by
    intro l
    induction l with
    | nil => exact fun _ => rfl
    | cons d l ih => exact fun p => (ih _).trans (p.1.suspectMark_sameMem raw d)
  unfold State.suspectRound
  exact (State.xcheckShow_sameMem _).trans ((hmark _ _).trans (s.suspectCounts_sameMem raw dis))

@[simp] theorem State.dieCounts_sameMem (s : State) (d : Nat) (t : Int) (kept : Option Int) : (s.dieCounts d t kept).mem = s.mem := by
  unfold State.dieCounts
  dsimp only
  split <;> simp

@[simp] theorem State.dieLevel_sameMem (s : State) (d : Nat) : (s.dieLevel d).mem = s.mem := by simp [State.dieLevel]

@[simp] theorem State.pkgLevel_sameMem (s : State) (old new : Nat) (t : Nat → Int) (rose : Nat → List Nat) :
    (s.pkgLevel old new t rose).1.mem = s.mem := by
  unfold State.pkgLevel
  split <;> simp

@[simp] theorem State.setLimit_sameMem (s : State) (n : Nat) : (s.setLimit n).mem = s.mem := by
  unfold State.setLimit
  dsimp only
  split <;> simp

@[simp] theorem State.thmRecord_sameMem (t : Nat → Int) (s : State) (r : Nat × Nat) : (s.thmRecord t r).mem = s.mem := by
  simp [State.thmRecord]

@[simp] theorem State.thmShow_sameMem (s : State) (raw : Nat → Option Int) (t : Nat → Int) : (s.thmShow raw t).mem = s.mem := by
  unfold State.thmShow
  rw [State.puts_sameMem]
  exact State.mem_foldl (fun u d => u.puts_sameMem _) _ _

@[simp] theorem State.tempcoTile_sameMem (t : Nat → Int) (s : State) (x : Nat × TileSt) : (s.tempcoTile t x).mem = s.mem := by
  unfold State.tempcoTile
  split <;> simp

@[simp] theorem State.thmPmu_sameMem (s : State) : s.thmPmu.mem = s.mem := by simp [State.thmPmu]

@[simp] theorem State.thmThrWrite_sameMem (s : State) (rate : Bool) (v : Nat) : (s.thmThrWrite rate v).mem = s.mem := by
  simp [State.thmThrWrite]

@[simp] theorem State.thmPairWrite_sameMem (s : State) (k v : Nat) : (s.thmPairWrite k v).mem = s.mem := by simp [State.thmPairWrite]

@[simp] theorem State.thmClear_sameMem (s : State) : s.thmClear.mem = s.mem := by simp [State.thmClear]

/-! ### Machine/View.lean -/

@[simp] theorem State.regRead_sameMem (s : State) (accessor off : Nat) : (s.regRead accessor off).2.mem = s.mem := by
  unfold State.regRead
  split_ifs <;> simp

@[simp] theorem State.hostArea_sameMem (s : State) (half : Option (Fin 2)) (off : Nat) : (s.hostArea half off).2.mem = s.mem := by
  unfold State.hostArea
  repeat' split
  all_goals simp

@[simp] theorem State.barRead_sameMem (s : State) (accessor : Nat) (half : Option (Fin 2)) (off : Nat) :
    (s.barRead accessor half off).2.mem = s.mem := by
  unfold State.barRead
  split_ifs <;> simp

@[simp] theorem State.hostBarRead_sameMem (s : State) (h : Fin 2) (off : Nat) : (s.hostBarRead h off).2.mem = s.mem := by
  unfold State.hostBarRead
  split <;> simp

/-! ### Machine/RegWrite.lean -/

@[simp] theorem State.enableWrite_sameMem (s : State) (off w events vec : Nat) : (s.enableWrite off w events vec).mem = s.mem := by
  simp [State.enableWrite]

@[simp] theorem State.hostEnable_sameMem (s : State) (w : Nat) : (s.hostEnable w).mem = s.mem := by simp [State.hostEnable]

@[simp] theorem State.plainWrite_sameMem (s : State) (off w : Nat) : (s.plainWrite off w).mem = s.mem := by
  unfold State.plainWrite
  repeat' split
  all_goals simp

@[simp] theorem State.clkWrite_sameMem (s : State) (off w : Nat) : (s.clkWrite off w).mem = s.mem := by
  unfold State.clkWrite
  split <;> simp [State.mem_foldl]

@[simp] theorem State.tileWrite_sameMem (s : State) (off w : Nat) : (s.tileWrite off w).mem = s.mem := by
  unfold State.tileWrite
  split <;> simp

@[simp] theorem State.syncWrite_sameMem (s : State) (off w : Nat) : (s.syncWrite off w).mem = s.mem := by simp [State.syncWrite]

@[simp] theorem State.msixWrite_sameMem (s : State) (h : Fin 2) (w v : Nat) : (s.msixWrite h w v).mem = s.mem := by simp [State.msixWrite]

@[simp] theorem State.hostWrite_sameMem (s : State) (half : Option (Fin 2)) (off w : Nat) : (s.hostWrite half off w).mem = s.mem := by
  unfold State.hostWrite
  repeat' split
  all_goals simp

@[simp] theorem State.thmWrite_sameMem (s : State) (off w : Nat) : (s.thmWrite off w).mem = s.mem := by
  unfold State.thmWrite
  split <;> simp

@[simp] theorem State.pmuWrite_sameMem (s : State) (off w : Nat) : (s.pmuWrite off w).mem = s.mem := by
  unfold State.pmuWrite
  split <;> simp

@[simp] theorem State.islBarWrite_sameMem (s : State) (off w : Nat) : (s.islBarWrite off w).mem = s.mem := by simp [State.islBarWrite]

@[simp] theorem State.regScramble_sameMem (s : State) (off : Nat) : (s.regScramble off).mem = s.mem := by simp [State.regScramble]

@[simp] theorem State.narrowWrite_sameMem (s : State) (h : Fin 2) (off : Nat) : (s.narrowWrite h off).mem = s.mem := by
  simp [State.narrowWrite]

/-! ### Machine/Sideband.lean -/

@[simp] theorem State.sbReply_sameMem (s : State) (bytes : List Byte) : (s.sbReply bytes).mem = s.mem := (rfl)

@[simp] theorem State.sbNack_sameMem (s : State) : s.sbNack.mem = s.mem := (rfl)

@[simp] theorem State.sbCounted_sameMem (s : State) : s.sbCounted.mem = s.mem := by simp [State.sbCounted]

@[simp] theorem State.sbDenied_sameMem (s : State) : s.sbDenied.mem = s.mem := by simp [State.sbDenied]

@[simp] theorem State.sbReadError_sameMem (s : State) (status : Nat) : (s.sbReadError status).mem = s.mem := (rfl)

@[simp] theorem State.sbReadAt_sameMem (s : State) (off : Nat) : (s.sbReadAt off).mem = s.mem := by simp [State.sbReadAt]

@[simp] theorem State.sbStatusSet_sameMem (s : State) (status : Nat) : (s.sbStatusSet status).mem = s.mem := (rfl)

@[simp] theorem State.setDyn_sameMem (s : State) (addr : Nat) : (s.setDyn addr).mem = s.mem := (rfl)

@[simp] theorem State.sbFree_sameMem (s : State) : s.sbFree.mem = s.mem := (rfl)

/-! ### Machine/Debug.lean -/

@[simp] theorem State.setTap_sameMem (s : State) (island : Bool) (x : TapSt) : (s.setTap island x).mem = s.mem := by simp [State.setTap]

@[simp] theorem State.tapLoad_sameMem (s : State) (island : Bool) (code : Nat) (refused : Bool) :
    (s.tapLoad island code refused).mem = s.mem := by simp [State.tapLoad]

@[simp] theorem State.tapRefuse_sameMem (s : State) (island : Bool) (code : Nat) : (s.tapRefuse island code).mem = s.mem := by
  simp [State.tapRefuse]

@[simp] theorem State.tapOne_sameMem (s : State) (island : Bool) (code : Nat) : (s.tapOne island code).mem = s.mem := by simp [State.tapOne]

@[simp] theorem State.tapBoundary_sameMem (s : State) (island : Bool) (code : Nat) : (s.tapBoundary island code).mem = s.mem := by
  simp [State.tapBoundary]

@[simp] theorem State.dbgResult_sameMem (s : State) (code data : Nat) (denied : Bool) : (s.dbgResult code data denied).mem = s.mem := by
  simp [State.dbgResult]

@[simp] theorem State.dbgOpen_sameMem (s : State) (code : Nat) (denied : Bool) : (s.dbgOpen code denied).mem = s.mem := by
  simp [State.dbgOpen]

@[simp] theorem State.dbgReadAt_sameMem (s : State) (off : Nat) : (s.dbgReadAt off).mem = s.mem := by simp [State.dbgReadAt]

/-! ### Machine/Idle.lean -/

@[simp] theorem State.pmuWaiting_sameMem (s : State) : s.pmuWaiting.mem = s.mem := by
  unfold State.pmuWaiting
  exact State.mem_foldl (fun u x => by split <;> simp) _ _

@[simp] theorem State.pmuAsleep_sameMem (s : State) : s.pmuAsleep.mem = s.mem := by simp [State.pmuAsleep]

@[simp] theorem State.pmuHeld_sameMem (s : State) (cycles : Nat) : (s.pmuHeld cycles).mem = s.mem := by
  simp [State.pmuHeld, State.mem_foldl]

@[simp] theorem State.pmuHostHeld_sameMem (s : State) (cycles : Nat) : (s.pmuHostHeld cycles).mem = s.mem := by simp [State.pmuHostHeld]

@[simp] theorem State.pmuVector_sameMem (s : State) (cycles : Nat) : (s.pmuVector cycles).mem = s.mem := by
  unfold State.pmuVector
  exact State.mem_foldl (fun u x => by split <;> simp) _ _

@[simp] theorem State.pmuTime_sameMem (s : State) (cycles : Nat) : (s.pmuTime cycles).mem = s.mem := by simp [State.pmuTime]

@[simp] theorem State.chargeFixing_sameMem (s : State) : s.chargeFixing.mem = s.mem := by simp [State.chargeFixing, State.mem_foldl]

@[simp] theorem State.pumpTick_sameMem (s : State) : s.pumpTick.mem = s.mem := by simp [State.pumpTick]

end Sys2Proof.Machine
end

section
/-!
PROOFS. What keeps device memory in canonical form: the operations that store bytes or clear windows, and those built on them.
-/

namespace Sys2Proof.Machine

@[simp] theorem Memory.wf_ite (c : Prop) [Decidable c] (m n : List Host.Cell) :
    Memory.wf (if c then m else n) = if c then Memory.wf m else Memory.wf n := apply_ite Memory.wf c m n

theorem State.wf_foldl {α : Type} {f : State → α → State}
    (hf : ∀ u x, Memory.wf u.mem = true → Memory.wf (f u x).mem = true) (l : List α) (s : State)
    (h : Memory.wf s.mem = true) : Memory.wf (l.foldl f s).mem = true :=
  List.foldlRecOn (motive := fun u => Memory.wf u.mem = true) l f h fun u hu x _ => hf u x hu

/-! ### Machine/Ops.lean -/

@[simp] theorem State.writeMem_keepsWf (s : State) (a : Nat) (bs : List Byte) (h : Memory.wf s.mem = true) :
    Memory.wf (s.writeMem a bs).mem = true := s.writeMem_wf a bs h

@[simp] theorem State.clearWindows_keepsWf (s : State) (h : Memory.wf s.mem = true) : Memory.wf s.clearWindows.mem = true :=
  s.clearWindows_wf h

/-! ### Machine/HostMem.lean -/

@[simp] theorem State.writeEnabled_wf (s : State) (a : Nat) (data : List Byte) (be : Nat) (h : Memory.wf s.mem = true) :
    Memory.wf (s.writeEnabled a data be).mem = true := by
  unfold State.writeEnabled
  split
  · simp [h]
  · refine List.foldlRecOn (motive := fun m => Memory.wf m = true) _ _ h fun m hm i _ => ?_
    split
    · exact Memory.wf_set _ _ _ hm
    · exact hm

@[simp] theorem State.dramWrite_wf (s : State) (a : Nat) (data : List Byte) (be : Nat) (poison : Bool) (h : Memory.wf s.mem = true) :
    Memory.wf (s.dramWrite a data be poison).mem = true := by simp [State.dramWrite, h]

/-! ### Machine/Complete.lean -/

@[simp] theorem State.postNow_wf (s : State) (c : Nat) (r : Record) (h : Memory.wf s.mem = true) :
    Memory.wf (s.postNow c r).mem = true := by simp [State.postNow, h]

@[simp] theorem State.post_wf (s : State) (r : Record) (h : Memory.wf s.mem = true) : Memory.wf (s.post r).mem = true := by
  unfold State.post
  split <;> simp [h]

@[simp] theorem State.postWaiting_wf (s : State) (c n : Nat) (h : Memory.wf s.mem = true) :
    Memory.wf (s.postWaiting c n).mem = true := by
  induction n generalizing s with
  | zero => exact h
  | succ n ih =>
    unfold State.postWaiting
    split
    · exact h
    · split
      · exact ih _ (by simp [h])
      · exact h

@[simp] theorem State.finish_wf (s : State) (d : CmdDesc) (st : Status) (h : Memory.wf s.mem = true) :
    Memory.wf (s.finish d st).mem = true := by
  unfold State.finish
  split <;> simp [h]

@[simp] theorem State.sendSignal_wf (s : State) (d : CmdDesc) (h : Memory.wf s.mem = true) : Memory.wf (s.sendSignal d).mem = true := by
  unfold State.sendSignal
  dsimp only
  repeat' split
  all_goals simp [h]

@[simp] theorem State.settle_wf (s : State) (d : CmdDesc) (h : Memory.wf s.mem = true) : Memory.wf (s.settle d).mem = true := by
  unfold State.settle
  repeat' split
  all_goals simp [h]

@[simp] theorem State.failDesc_wf (s : State) (desc : Option (Nat × Nat)) (code detail : Nat) (h : Memory.wf s.mem = true) :
    Memory.wf (s.failDesc desc code detail).mem = true := by
  unfold State.failDesc
  repeat' split
  all_goals simp [h]

@[simp] theorem State.markFailed_wf (s : State) (desc : Option (Nat × Nat)) (code detail : Nat) (h : Memory.wf s.mem = true) :
    Memory.wf (s.markFailed desc code detail).mem = true := by
  unfold State.markFailed
  repeat' split
  all_goals simp [h]

@[simp] theorem State.claimEnded_wf (s : State) (desc : Option (Nat × Nat)) (claims : Nat) (h : Memory.wf s.mem = true) :
    Memory.wf (s.claimEnded desc claims).mem = true := by
  unfold State.claimEnded
  repeat' split
  all_goals simp [h]

@[simp] theorem State.resumeSignal_wf (s : State) (h : Memory.wf s.mem = true) : Memory.wf s.resumeSignal.mem = true := by
  unfold State.resumeSignal
  split <;> simp [h]

@[simp] theorem State.resolve_wf (s : State) (t : Transfer) (status port : Nat) (h : Memory.wf s.mem = true) :
    Memory.wf (s.resolve t status port).mem = true := by simp [State.resolve, h]

@[simp] theorem State.takeResp_wf (s : State) (r : Txn) (h : Memory.wf s.mem = true) : Memory.wf (s.takeResp r).mem = true := by
  unfold State.takeResp
  split <;> simp [h]

/-! ### Machine/SeqBase.lean -/

@[simp] theorem State.routineEnd_wf (s : State) (q : Nat) (h : Memory.wf s.mem = true) : Memory.wf (s.routineEnd q).mem = true := by
  simp [State.routineEnd, h]

@[simp] theorem State.routineCut_wf (s : State) (q code detail : Nat) (h : Memory.wf s.mem = true) :
    Memory.wf (s.routineCut q code detail).mem = true := by simp [State.routineCut, h]

@[simp] theorem State.mcFinish_wf (s : State) (q cause : Nat) (h : Memory.wf s.mem = true) :
    Memory.wf (s.mcFinish q cause).mem = true := by simp [State.mcFinish, h]

@[simp] theorem State.machineCheck_wf (s : State) (q : Nat) (c : McCause) (syndrome : Nat) (h : Memory.wf s.mem = true) :
    Memory.wf (s.machineCheck q c syndrome).mem = true := by simp [State.machineCheck, h]

/-! ### Machine/Tiles.lean -/

@[simp] theorem State.burstEnd_wf (s : State) (b : Burst) (p : Plate) (code detail : Nat) (h : Memory.wf s.mem = true) :
    Memory.wf (s.burstEnd b p code detail).mem = true := by
  unfold State.burstEnd
  dsimp only
  split <;> simp [h]

@[simp] theorem State.burstError_wf (s : State) (t : Nat) (b : Burst) (p : Plate) (h : Memory.wf s.mem = true) :
    Memory.wf (s.burstError t b p).mem = true := by simp [State.burstError, h]

@[simp] theorem State.burstCut_wf (s : State) (t : Nat) (b : Burst) (p : Plate) (h : Memory.wf s.mem = true) :
    Memory.wf (s.burstCut t b p).mem = true := by simp +contextual [State.burstCut, State.mem_foldl, h]

/-! ### Machine/Fix.lean -/

@[simp] theorem State.setTarget_wf (s : State) (t row col : Nat) (l : Int) (h : Memory.wf s.mem = true) :
    Memory.wf (s.setTarget t row col l).mem = true := Memory.wf_set _ _ _ h

@[simp] theorem State.clearShadow_wf (s : State) (t : Nat) (h : Memory.wf s.mem = true) : Memory.wf (s.clearShadow t).mem = true :=
  Memory.wf_clearRange _ _ _ h

theorem State.windowWrite_wf (s : State) (a : Nat) (data : List Byte) (be : Nat) {t : State} (ht : s.windowWrite a data be = some t)
    (h : Memory.wf s.mem = true) : Memory.wf t.mem = true := by
  unfold State.windowWrite at ht
  extract_lets w at ht
  split_ifs at ht
  · cases Option.some.inj ht
    exact h
  · cases Option.some.inj ht
    simp [h]
  · split at ht
    · cases Option.some.inj ht
      simp [h]
    · extract_lets partner c moved changed s0 needed s1 s2 at ht
      have h0 : Memory.wf s0.mem = true :=
        State.wf_foldl (fun u x hu => by simp [hu]) _ _ (State.wf_foldl (fun u x hu => by simp [hu]) _ _ h)
      have h1 : Memory.wf s1.mem = true := State.wf_foldl (fun u x hu => u.setTarget_wf _ _ _ _ hu) _ _ h0
      have h2 : Memory.wf s2.mem = true := State.wf_foldl (fun u x hu => by simp [hu]) _ _ h1
      clear_value s2
      split_ifs at ht
      · cases Option.some.inj ht
        simp [h]
      · cases Option.some.inj ht
        exact h2
      · cases Option.some.inj ht
        simp [h2]

theorem State.memWrite_wf (s : State) (w : HeldWrite) {t : State} (ht : s.memWrite w = some t) (h : Memory.wf s.mem = true) :
    Memory.wf t.mem = true := by
  unfold State.memWrite at ht
  split_ifs at ht
  · cases Option.some.inj ht
    simp [h]
  · cases Option.some.inj ht
    simp [h]
  · exact s.windowWrite_wf _ _ _ ht h

@[simp] theorem State.memWriteOrHold_wf (s : State) (half : Fin 2) (hpa : Nat) (data : List Byte) (be : Nat) (poison : Bool)
    (h : Memory.wf s.mem = true) : Memory.wf (s.memWriteOrHold half hpa data be poison).mem = true := by
  unfold State.memWriteOrHold
  dsimp only
  split
  · simp [h]
  · split
    · simp [h]
    · split
      · next t ht => exact State.memWrite_wf _ _ ht (by simp [h])
      · simp [h]

@[simp] theorem State.releaseHeld_wf (s : State) (x : Fin 2) (ws : List HeldWrite) (h : Memory.wf s.mem = true) :
    Memory.wf (s.releaseHeld x ws).mem = true := by
  induction ws generalizing s with
  | nil => simpa [State.releaseHeld] using h
  | cons w ws ih =>
    unfold State.releaseHeld
    split
    · next t ht => exact ih t (s.memWrite_wf w ht h)
    · simp [h]

@[simp] theorem State.segmentEnd_wf (s : State) (d : Nat) (r : FixRun) (attempts iterations : Nat) (verified : Bool) (bad : BitVec 8)
    (h : Memory.wf s.mem = true) : Memory.wf (s.segmentEnd d r attempts iterations verified bad).mem = true := by simp [State.segmentEnd, h]

@[simp] theorem State.eraseTile_wf (s : State) (t : Nat) (bad : Bool) (h : Memory.wf s.mem = true) :
    Memory.wf (s.eraseTile t bad).mem = true := by simp [State.eraseTile, h]

/-! ### Machine/Output.lean -/

@[simp] theorem State.addComp_wf (s : State) (a w : Nat) (h : Memory.wf s.mem = true) : Memory.wf (s.addComp a w).mem = true := by
  simp [State.addComp, h]

@[simp] theorem State.applyWrite_wf (s : State) (w : DueWrite) (h : Memory.wf s.mem = true) :
    Memory.wf (s.applyWrite w).mem = true := by simp [State.applyWrite, h]

@[simp] theorem State.handOver_wf (s : State) (w : DueWrite) (h : Memory.wf s.mem = true) : Memory.wf (s.handOver w).mem = true := by
  simp [State.handOver, h]

@[simp] theorem State.applyDue_wf (s : State) (h : Memory.wf s.mem = true) : Memory.wf s.applyDue.mem = true := by
  unfold State.applyDue
  exact State.wf_foldl (fun u x hu => by simp [hu]) _ _ h

@[simp] theorem State.deliverChannel_wf (s : State) (r : OutRun) (p : Plate) (x : TileRec) (j : Nat) (h : Memory.wf s.mem = true) :
    Memory.wf (s.deliverChannel r p x j).1.mem = true := by
  unfold State.deliverChannel
  dsimp only
  split_ifs <;> simp [h]

@[simp] theorem State.deliverRun_wf (s : State) (r : OutRun) (p : Plate) (js : List Nat) (whole : Bool) (h : Memory.wf s.mem = true) :
    Memory.wf (s.deliverRun r p js whole).1.mem = true := by
  have hchannels : ∀ (l : List Nat) (acc : State × Nat), Memory.wf acc.1.mem = true →
      Memory.wf (l.foldl (fun acc j => match p.channelTile j with
        | some x => let y := acc.1.deliverChannel r p x j; (y.1, orBits acc.2 y.2)
        | none => acc) acc).1.mem = true := by
    intro l acc hacc
    refine List.foldlRecOn (motive := fun q : State × Nat => Memory.wf q.1.mem = true) l _ hacc fun q hq j _ => ?_
    split
    · exact State.deliverChannel_wf _ _ _ _ _ hq
    · exact hq
  unfold State.deliverRun
  extract_lets limit good cands d s1
  have hd : Memory.wf d.1.mem = true := by
    simp only [d]
    split_ifs
    · exact h
    · simp [h]
    · simp [h]
    · exact hchannels _ _ h
  have h1 : Memory.wf s1.mem = true := by simp [s1, hd]
  split
  · simp [h1]
  · exact h1

@[simp] theorem State.noteBad_wf (s : State) (r : OutRun) (js : List Nat) (h : Memory.wf s.mem = true) :
    Memory.wf (s.noteBad r js).mem = true := by
  unfold State.noteBad
  split <;> simp [h]

@[simp] theorem State.outputRunDone_wf (s : State) (r : OutRun) (p : Plate) (h : Memory.wf s.mem = true) :
    Memory.wf (s.outputRunDone r p).mem = true := by
  unfold State.outputRunDone
  split <;> simp +contextual [State.mem_foldl, h]

@[simp] theorem State.outputCut_wf (s : State) (r : OutRun) (p : Plate) (h : Memory.wf s.mem = true) :
    Memory.wf (s.outputCut r p).mem = true := by
  unfold State.outputCut
  extract_lets dieOfCh free lanes done js left s1 s2 d
  have h2 : Memory.wf s2.mem = true := State.wf_foldl (fun u t hu => by simp [hu]) _ _ h
  have hd : Memory.wf d.1.mem = true := State.deliverRun_wf _ _ _ _ _ h2
  clear_value d
  simp [hd]

/-! ### Machine/Vector.lean -/

@[simp] theorem State.storeElem_wf (s : State) (t : TensorD) (i0 i1 i2 w : Nat) (h : Memory.wf s.mem = true) :
    Memory.wf (s.storeElem t i0 i1 i2 w).mem = true := by simp [State.storeElem, h]

@[simp] theorem State.vectorRow_wf (s : State) (d : Desc) (i1 i2 : Nat) (h : Memory.wf s.mem = true) :
    Memory.wf (s.vectorRow d i1 i2).1.mem = true := by
  unfold State.vectorRow
  extract_lets t0 t1 t2 v0 v2 rowNaN rowInf top divisor
  refine List.foldlRecOn (motive := fun q : State × Nat => Memory.wf q.1.mem = true) _ _ h fun q hq i _ => ?_
  exact State.storeElem_wf _ _ _ _ _ _ hq

@[simp] theorem State.vectorCopy_wf (s : State) (t0 t1 : TensorD) (h : Memory.wf s.mem = true) :
    Memory.wf (s.vectorCopy t0 t1).mem = true := by simp +contextual [State.vectorCopy, State.wf_foldl, h]

@[simp] theorem State.digitalMatvec_wf (s : State) (d : Desc) (ctx : Nat) (h : Memory.wf s.mem = true) :
    Memory.wf (s.digitalMatvec d ctx).1.mem = true := by
  unfold State.digitalMatvec
  refine List.foldlRecOn (motive := fun q : State × Nat => Memory.wf q.1.mem = true) _ _ h fun q hq j _ => ?_
  refine List.foldlRecOn (motive := fun x : State × Nat × Nat => Memory.wf x.1.mem = true) _ _ hq fun x hx b _ => ?_
  exact State.storeElem_wf _ _ _ _ _ _ hx

@[simp] theorem State.vectorRun_wf (s : State) (d : Desc) (ctx : Nat) (h : Memory.wf s.mem = true) :
    Memory.wf (s.vectorRun d ctx).1.mem = true := by
  have hrows : ∀ (l : List (Nat × Nat)) (acc : State × Nat), Memory.wf acc.1.mem = true →
      Memory.wf (l.foldl (fun acc i => let x := acc.1.vectorRow d i.1 i.2; (x.1, orBits acc.2 x.2)) acc).1.mem = true :=
    fun l acc hacc => List.foldlRecOn (motive := fun q : State × Nat => Memory.wf q.1.mem = true) l _ hacc
      fun q hq i _ => q.1.vectorRow_wf d i.1 i.2 hq
  unfold State.vectorRun
  extract_lets t0 r s1
  have hr : Memory.wf r.1.mem = true := by
    simp only [r]
    split_ifs
    · exact s.vectorCopy_wf _ _ h
    · exact s.digitalMatvec_wf d ctx h
    · exact hrows _ _ h
  have h1 : Memory.wf s1.mem = true := by simp [s1, hr]
  split
  · simp [h1]
  · exact h1

/-! ### Machine/Issue.lean -/

@[simp] theorem State.foreignCheck_wf (s : State) (q : Nat) (h : Memory.wf s.mem = true) : Memory.wf (s.foreignCheck q).mem = true := by
  simp [State.foreignCheck, h]

@[simp] theorem State.issueExpose_wf (s : State) (q : Nat) (r : Routine) (e : ExposeCmd) (h : Memory.wf s.mem = true) :
    Memory.wf (s.issueExpose q r e).mem = true := by
  unfold State.issueExpose
  split
  · exact s.foreignCheck_wf q h
  · split_ifs
    · exact State.foreignCheck_wf _ q (State.wf_foldl (fun u x hu => by simp [hu]) _ _ h)
    · exact h
    · split
      · exact s.routineCut_wf q _ _ h
      · simp [h]

@[simp] theorem State.noteDataError_wf (s : State) (desc : Option (Nat × Nat)) (a n : Nat) (h : Memory.wf s.mem = true) :
    Memory.wf (s.noteDataError desc a n).mem = true := by
  unfold State.noteDataError
  split <;> simp [h]

@[simp] theorem State.syncRemote_wf (s : State) (q : Nat) (r : Routine) (obj value dst : Nat) (h : Memory.wf s.mem = true) :
    Memory.wf (s.syncRemote q r obj value dst).mem = true := by
  unfold State.syncRemote
  repeat' split
  all_goals simp [h]

/-! ### Machine/Seq.lean -/

@[simp] theorem State.microStep_wf (s : State) (q : Nat) (row : Nat → Bool) (h : Memory.wf s.mem = true) :
    Memory.wf (s.microStep q row).mem = true := by
  unfold State.microStep
  dsimp only
  repeat' split
  all_goals simp [h]

@[simp] theorem State.commandDone_wf (s : State) (q i : Nat) (h : Memory.wf s.mem = true) :
    Memory.wf (s.commandDone q i).mem = true := by
  unfold State.commandDone
  repeat' split
  all_goals simp [h]

@[simp] theorem State.spanCut_wf (s : State) (q : Nat) (h : Memory.wf s.mem = true) : Memory.wf (s.spanCut q).mem = true := by
  unfold State.spanCut
  extract_lets x runs s1 s2
  have h1 : Memory.wf s1.mem = true := State.wf_foldl (fun u r hu => by split <;> simp [hu]) _ _ h
  split
  · exact s1.mcFinish_wf q _ h1
  · exact State.routineCut_wf _ q _ _ (by simp [s2, h1])

@[simp] theorem State.staticDispatch_wf (s : State) (q index slot : Nat) (i : ResImage) (e : SlotEntry) (f : Nat)
    (h : Memory.wf s.mem = true) : Memory.wf (s.staticDispatch q index slot i e f).mem = true := by
  unfold State.staticDispatch
  split <;> simp [h]

@[simp] theorem State.dynamicDispatch_wf (s : State) (d : CmdDesc) (f unit : Nat) (seqs : List Nat) (cl : Claim)
    (h : Memory.wf s.mem = true) : Memory.wf (s.dynamicDispatch d f unit seqs cl).mem = true := by simp [State.dynamicDispatch, h]

@[simp] theorem State.seqCtrl_wf (s : State) (q : Nat) (halt run clr : Bool) (h : Memory.wf s.mem = true) :
    Memory.wf (s.seqCtrl q halt run clr).mem = true := by simp [State.seqCtrl, h]

/-! ### Machine/Dark.lean -/

@[simp] theorem State.answer_wf (s : State) (t : Txn) (status port n : Nat) (h : Memory.wf s.mem = true) :
    Memory.wf (s.answer t status port n).mem = true := by simp [State.answer, h]

@[simp] theorem State.flushTally_wf (s : State) (x : Tally) (h : Memory.wf s.mem = true) : Memory.wf (s.flushTally x).mem = true := by
  simp [State.flushTally, h]

@[simp] theorem State.answered_wf (s : State) (t : Txn) (status port : Nat) (h : Memory.wf s.mem = true) :
    Memory.wf (s.answered t status port).mem = true := by
  unfold State.answered
  dsimp only
  repeat' split
  all_goals simp [h]

@[simp] theorem State.lineSeen_wf (s : State) (port : Nat) (t : Txn) (h : Memory.wf s.mem = true) :
    Memory.wf (s.lineSeen port t).mem = true := by simp [State.lineSeen, h]

@[simp] theorem State.lineHanded_wf (s : State) (port : Nat) (t : Txn) (h : Memory.wf s.mem = true) :
    Memory.wf (s.lineHanded port t).mem = true := by simp [State.lineHanded, h]

@[simp] theorem State.linesSeen_wf (s : State) (h : Memory.wf s.mem = true) : Memory.wf s.linesSeen.mem = true := by
  unfold State.linesSeen
  exact State.wf_foldl (fun u x hu => by simp [hu]) _ _ h

@[simp] theorem State.caddLine_wf (s : State) (t : Txn) (h : Memory.wf s.mem = true) : Memory.wf (s.caddLine t).mem = true := by
  unfold State.caddLine
  exact State.wf_foldl (fun u x hu => by simp [hu]) _ _ h

@[simp] theorem State.jobDrop_wf (s : State) (t : Txn) (h : Memory.wf s.mem = true) : Memory.wf (s.jobDrop t).mem = true := by
  simp [State.jobDrop, h]

@[simp] theorem State.deliver_wf (s : State) (port : Nat) (t : Txn) (h : Memory.wf s.mem = true) :
    Memory.wf (s.deliver port t).mem = true := by
  unfold State.deliver
  dsimp only
  repeat' split
  all_goals simp [h]

@[simp] theorem State.forward_wf (s : State) (t : Txn) (held : Option (Nat × Nat)) (h : Memory.wf s.mem = true) :
    Memory.wf (s.forward t held).mem = true := by
  unfold State.forward
  repeat' split
  all_goals simp [h]

@[simp] theorem State.arrive_wf (s : State) (port : Nat) (t : Txn) (held : Option (Nat × Nat)) (h : Memory.wf s.mem = true) :
    Memory.wf (s.arrive port t held).mem = true := by simp [State.arrive, h]

@[simp] theorem State.arriveBytes_wf (s : State) (port : Nat) (b : List Byte) (held : Option (Nat × Nat)) (h : Memory.wf s.mem = true) :
    Memory.wf (s.arriveBytes port b held).mem = true := by simp [State.arriveBytes, h]

@[simp] theorem State.rehome_wf (s : State) (n : Nat) (x : QTxn) (h : Memory.wf s.mem = true) :
    Memory.wf (s.rehome n x).mem = true := by simp [State.rehome, h]

@[simp] theorem State.portDark_wf (s : State) (n cause : Nat) (h : Memory.wf s.mem = true) :
    Memory.wf (s.portDark n cause).mem = true := by simp +contextual [State.portDark, State.wf_foldl, h]

@[simp] theorem State.portsDark_wf (s : State) (h : Memory.wf s.mem = true) : Memory.wf s.portsDark.mem = true := by
  unfold State.portsDark
  refine State.wf_foldl (fun u n hu => ?_) _ _ h
  split
  · exact hu
  · exact State.wf_foldl (fun v x hv => by split <;> simp [hv]) _ _ (by simp [hu])

@[simp] theorem State.enterHeld_wf (s : State) (h : Memory.wf s.mem = true) : Memory.wf s.enterHeld.mem = true := by
  simp [State.enterHeld, h]

@[simp] theorem State.raiseHold_wf (s : State) (b : Nat) (h : Memory.wf s.mem = true) : Memory.wf (s.raiseHold b).mem = true := by
  unfold State.raiseHold
  dsimp only
  repeat' split
  all_goals simp [h]

@[simp] theorem State.raiseLevel_wf (s : State) (pair : Nat × Nat × Nat × Nat) (h : Memory.wf s.mem = true) :
    Memory.wf (s.raiseLevel pair).mem = true := by simp [State.raiseLevel, h]

/-! ### Machine/Fabric.lean -/

@[simp] theorem State.fabCheck_wf (s : State) (h : Memory.wf s.mem = true) : Memory.wf s.fabCheck.mem = true := by
  unfold State.fabCheck
  refine State.wf_foldl (fun u n hu => ?_) _ _ h
  split
  · exact hu
  · split
    · exact u.portDark_wf n _ hu
    · exact hu

@[simp] theorem State.portFail_wf (s : State) (n cause : Nat) (h : Memory.wf s.mem = true) :
    Memory.wf (s.portFail n cause).mem = true := by simp [State.portFail, h]

@[simp] theorem State.trainingBlock_wf (s : State) (n : Nat) (lanes : List TrainBlock) (polarity now : Nat)
    (h : Memory.wf s.mem = true) : Memory.wf (s.trainingBlock n lanes polarity now).mem = true := by
  unfold State.trainingBlock
  dsimp only
  repeat' split
  all_goals simp [h]

@[simp] theorem State.portRetrain_wf (s : State) (n : Nat) (h : Memory.wf s.mem = true) : Memory.wf (s.portRetrain n).mem = true := by
  unfold State.portRetrain
  extract_lets q p s1
  have h1 : Memory.wf s1.mem = true := by simp [s1, h]
  split
  · split
    · simp [h1]
    · exact s1.portDark_wf n _ h1
  · exact State.wf_foldl (fun u x hu => u.rehome_wf n x hu) _ _ (by simp [h1])

@[simp] theorem State.portDisable_wf (s : State) (n : Nat) (h : Memory.wf s.mem = true) : Memory.wf (s.portDisable n).mem = true := by
  simp [State.portDisable, h]

@[simp] theorem State.portRetraining_wf (s : State) (n : Nat) (h : Memory.wf s.mem = true) :
    Memory.wf (s.portRetraining n).mem = true := by simp [State.portRetraining, h]

@[simp] theorem State.nakIn_wf (s : State) (n ack : Nat) (h : Memory.wf s.mem = true) : Memory.wf (s.nakIn n ack).mem = true := by
  simp [State.nakIn, h]

@[simp] theorem State.slotsIn_wf (s : State) (n : Nat) (m : List Byte) (kinds : List Nat) (h : Memory.wf s.mem = true) :
    Memory.wf (s.slotsIn n m kinds).mem = true := by
  unfold State.slotsIn
  exact State.wf_foldl (fun u x hu => by simp [hu]) _ _ h

@[simp] theorem State.flitIn_wf (s : State) (n : Nat) (corrected : Option Nat) (m : List Byte) (h : Memory.wf s.mem = true) :
    Memory.wf (s.flitIn n corrected m).mem = true := by
  unfold State.flitIn
  split <;> simp [h]

@[simp] theorem State.txnIn_wf (s : State) (n kind : Nat) (b : List Byte) (h : Memory.wf s.mem = true) :
    Memory.wf (s.txnIn n kind b).mem = true := by simp [State.txnIn, h]

/-! ### Machine/Loader.lean -/

@[simp] theorem State.plateAbsent_wf (s : State) (plates : List Nat) (h : Memory.wf s.mem = true) :
    Memory.wf (s.plateAbsent plates).mem = true := by
  unfold State.plateAbsent
  exact State.wf_foldl (fun u x hu => by simp [hu]) _ _ h

@[simp] theorem State.quiesceImage_wf (s : State) (slot : Nat) (h : Memory.wf s.mem = true) :
    Memory.wf (s.quiesceImage slot).mem = true := by
  unfold State.quiesceImage
  split <;> simp +contextual [State.wf_foldl, h]

@[simp] theorem State.dropImage_wf (s : State) (slot : Nat) (h : Memory.wf s.mem = true) : Memory.wf (s.dropImage slot).mem = true := by
  unfold State.dropImage
  split <;> simp +contextual [State.mem_foldl, h]

@[simp] theorem State.releaseImage_wf (s : State) (slot : Nat) (h : Memory.wf s.mem = true) :
    Memory.wf (s.releaseImage slot).mem = true := by
  unfold State.releaseImage
  split <;> simp [h]

@[simp] theorem State.ownTile_wf (s : State) (slot : Nat) (i : PlateImage) (p : Plate) (t : Nat) (kept : Bool)
    (h : Memory.wf s.mem = true) : Memory.wf (s.ownTile slot i p t kept).mem = true := by simp [State.ownTile, h]

@[simp] theorem State.imgResident_wf (s : State) (l : Load) (i : PlateImage) (h : Memory.wf s.mem = true) :
    Memory.wf (s.imgResident l i).mem = true := by
  unfold State.imgResident
  extract_lets slot old oldTiles keeps oldPlates s1 x s2 s3 s4 s5 s6
  have h1 : Memory.wf s1.mem = true := State.wf_foldl (fun u x hu => by simp [hu]) _ _ h
  have h3 : Memory.wf s3.mem = true := by simpa [s3, s2] using h1
  have h4 : Memory.wf s4.mem = true := by
    refine State.wf_foldl (fun u p hu => ?_) _ _ (State.wf_foldl (fun u n hu => by simp [hu]) _ _ h3)
    rw [State.seedPlate_sameMem]
    exact State.wf_foldl (fun v r hv => v.ownTile_wf _ _ _ _ _ hv) _ _ hu
  have h5 : Memory.wf s5.mem = true := State.wf_foldl (fun u p hu => by simp [hu]) _ _ h4
  have h6 : Memory.wf s6.mem = true := s5.plateAbsent_wf _ h5
  cases hold : old with
  | none => simpa [hold] using h6
  | some o => simpa [hold] using h6

@[simp] theorem State.imgHeld_wf (s : State) (id : Nat) (p : Nat × Nat × Nat × Nat) (h : Memory.wf s.mem = true) :
    Memory.wf (s.imgHeld id p).mem = true := by simp [State.imgHeld, h]

@[simp] theorem State.imgMark_wf (s : State) (h : Memory.wf s.mem = true) : Memory.wf s.imgMark.mem = true := by
  unfold State.imgMark
  extract_lets s1 x s2 fresh y s4
  have h1 : Memory.wf s1.mem = true := by
    simp only [s1]
    split
    · split
      · exact s.imgResident_wf _ _ h
      · exact h
    · exact h
  have h2 : Memory.wf s2.mem = true := by
    simp only [s2]
    split
    · split
      · exact State.quiesceImage_wf _ _ h1
      · exact h1
    · exact h1
  exact State.wf_foldl (fun u x hu => u.quiesceImage_wf x hu) _ _ h2

/-! ### Machine/Cmd.lean -/

@[simp] theorem State.cqDoorbell_wf (s : State) (c half : Nat) (h : Memory.wf s.mem = true) :
    Memory.wf (s.cqDoorbell c half).mem = true := by
  unfold State.cqDoorbell
  split
  · exact State.postWaiting_wf _ c _ (by simp [h])
  · exact h

@[simp] theorem State.syncServe_wf (s : State) (d : CmdDesc) (h : Memory.wf s.mem = true) : Memory.wf (s.syncServe d).mem = true := by
  simp [State.syncServe, h]

@[simp] theorem State.acceptSlot_wf (s : State) (c slot : Nat) (arrival : Nat × Nat) (h : Memory.wf s.mem = true) :
    Memory.wf (s.acceptSlot c slot arrival).mem = true := by
  unfold State.acceptSlot
  dsimp only
  split <;> simp [h]

@[simp] theorem State.acceptNext_wf (s : State) (c : Nat) (row : Nat → Bool) (h : Memory.wf s.mem = true) :
    Memory.wf (s.acceptNext c row).mem = true := by simp [State.acceptNext, h]

@[simp] theorem State.rule_wf (s : State) (f : Nat) (d : CmdDesc) (r : Ruling) (h : Memory.wf s.mem = true) :
    Memory.wf (s.rule f d r).mem = true := by
  unfold State.rule
  dsimp only
  split <;> simp [h]

@[simp] theorem State.refuseLate_wf (s : State) (f : Nat) (ran : Bool) (ds : List CmdDesc) (h : Memory.wf s.mem = true) :
    Memory.wf (s.refuseLate f ran ds).mem = true := by
  unfold State.refuseLate
  exact State.wf_foldl (fun u x hu => by simp [hu]) _ _ h

@[simp] theorem State.pass_wf (s : State) (f : Nat) (h : Memory.wf s.mem = true) : Memory.wf (s.pass f).mem = true := by
  unfold State.pass
  extract_lets all el held cands busy charge plim out tooMuch s1 s2 s3 waits s4 rest
  have h1 : Memory.wf s1.mem = true := by simp [s1, h]
  have h2 : Memory.wf s2.mem = true := by simp [s2, h1]
  have h3 : Memory.wf s3.mem = true := by simp [s3, h2]
  have h4 : Memory.wf s4.mem = true := State.wf_foldl (fun u r hu => by split <;> simp [hu]) _ _ h3
  exact s4.refuseLate_wf _ _ _ h4

@[simp] theorem State.scheduleMark_wf (s : State) (h : Memory.wf s.mem = true) : Memory.wf s.scheduleMark.mem = true := by
  unfold State.scheduleMark
  extract_lets s1
  have h1 : Memory.wf s1.mem = true := State.wf_foldl (fun u d hu => u.settle_wf d hu) _ _ h
  refine State.wf_foldl (fun u d hu => State.wf_foldl (fun v x hv => ?_) _ _ hu) _ _ h1
  split
  · exact State.wf_foldl (fun w p hw => by simp [hw]) _ _ hv
  · exact hv

/-! ### Machine/Ctx.lean -/

@[simp] theorem State.ctxOp_wf (s : State) (op c : Nat) (checks : List (Bool × Nat)) {run : State → State}
    (hrun : Memory.wf (run s).mem = true) (h : Memory.wf s.mem = true) : Memory.wf (s.ctxOp op c checks run).mem = true := by
  unfold State.ctxOp
  dsimp only
  split_ifs
  · simp [h]
  · exact hrun
  · simp [h]

@[simp] theorem State.ctxCreate_wf (s : State) (c : Nat) (h : Memory.wf s.mem = true) : Memory.wf (s.ctxCreate c).mem = true := by
  simp [State.ctxCreate, h]

@[simp] theorem State.abortDescs_wf (s : State) (c detail : Nat) (h : Memory.wf s.mem = true) :
    Memory.wf (s.abortDescs c detail).mem = true := by
  unfold State.abortDescs
  exact State.wf_foldl (fun u x hu => by split <;> simp [hu]) _ _ h

@[simp] theorem State.ctxAbort_wf (s : State) (c : Nat) (h : Memory.wf s.mem = true) : Memory.wf (s.ctxAbort c).mem = true := by
  simp [State.ctxAbort, h]

@[simp] theorem State.ctxRelease_wf (s : State) (c : Nat) (h : Memory.wf s.mem = true) : Memory.wf (s.ctxRelease c).mem = true := by
  have hunload : ∀ (u : State) (l : List (Nat × Option Nat)), Memory.wf u.mem = true →
      Memory.wf ({ u with img := { u.img with unloads := l } } : State).mem = true := fun _ _ hu => hu
  unfold State.ctxRelease
  refine s.ctxOp_wf 4 c _ (hunload _ _ ?_) h
  rw [State.dropLoads_sameMem, State.disarmCtx_sameMem]
  refine State.abortDescs_wf _ _ _ ?_
  rwa [State.put_sameMem, State.ctxBegin_sameMem]

@[simp] theorem State.ctxReleased_wf (s : State) (c : Nat) (h : Memory.wf s.mem = true) : Memory.wf (s.ctxReleased c).mem = true := by
  simp +contextual [State.ctxReleased, State.wf_foldl, h]

@[simp] theorem State.ctxSave_wf (s : State) (c : Nat) (h : Memory.wf s.mem = true) : Memory.wf (s.ctxSave c).mem = true := by
  unfold State.ctxSave
  refine s.ctxOp_wf 2 c _ ?_ h
  rw [State.ungrantCtx_sameMem, State.put_sameMem, State.ctxBegin_sameMem]
  exact h

@[simp] theorem State.ctxSaved_wf (s : State) (c : Nat) (h : Memory.wf s.mem = true) : Memory.wf (s.ctxSaved c).mem = true := by
  unfold State.ctxSaved
  extract_lets a own tiles body n s1 s2 s3 s4 kept
  have h1 : Memory.wf s1.mem = true := by simp [s1, h]
  have h2 : Memory.wf s2.mem = true := by simp [s2, h1]
  have h3 : Memory.wf s3.mem = true := by simp [s3, h2]
  exact State.wf_foldl (fun u t hu => by simp [hu]) _ _ h3

@[simp] theorem State.ctxRestored_wf (s : State) (c : Nat) (h : Memory.wf s.mem = true) : Memory.wf (s.ctxRestored c).mem = true := by
  have hbacks : ∀ (l : List (Nat × Nat)) (acc : List Byte) (u : State), Memory.wf u.mem = true →
      Memory.wf (l.foldl (fun v t => v.tileWriteBack t.1 (acc.drop (64 + 20480 * t.2))) u).mem = true :=
    fun l acc u hu => State.wf_foldl (fun v t hv => by rwa [State.tileWriteBack_sameMem]) l u hu
  unfold State.ctxRestored
  extract_lets a b x own tiles acc on s1 s2 s3 y ring s4 s5 z
  have h1 : Memory.wf s1.mem = true := by
    rwa [State.ctxCountersClear_sameMem, State.put_sameMem, State.puts_sameMem, State.ctxBegin_sameMem]
  have h2 : Memory.wf s2.mem = true := hbacks _ _ _ h1
  have h3 : Memory.wf s3.mem = true := by
    rw [State.ctxMove_sameMem]
    exact State.writeMem_wf _ _ _ h2
  have h4 : Memory.wf s4.mem = true := by
    simp only [s4, State.mem_ite, State.put_sameMem, State.setRing_sameMem, ite_self]
    exact h3
  have h5 : Memory.wf s5.mem = true := by rwa [State.bindingMsg_sameMem]
  clear_value s5
  exact h5

@[simp] theorem State.ctxRestore_wf (s : State) (c : Nat) (h : Memory.wf s.mem = true) : Memory.wf (s.ctxRestore c).mem = true := by
  simp [State.ctxRestore, h]

@[simp] theorem State.ctxDiscard_wf (s : State) (c : Nat) (h : Memory.wf s.mem = true) : Memory.wf (s.ctxDiscard c).mem = true := by
  unfold State.ctxDiscard
  dsimp only
  split
  · exact s.ctxOp_wf 6 c _ h h
  · refine s.ctxOp_wf 6 c _ ?_ h
    rw [State.ctxEnd_sameMem, State.syncClear_sameMem]
    exact State.wf_foldl (fun u x hu => u.releaseImage_wf x hu) _ _ h

@[simp] theorem State.ctxOpWrite_wf (s : State) (op c : Nat) (h : Memory.wf s.mem = true) :
    Memory.wf (s.ctxOpWrite op c).mem = true := by
  unfold State.ctxOpWrite
  split <;> simp [h]

@[simp] theorem State.ctxMark_wf (s : State) (h : Memory.wf s.mem = true) : Memory.wf s.ctxMark.mem = true := by
  unfold State.ctxMark
  extract_lets s1
  have h1 : Memory.wf s1.mem = true := State.wf_foldl (fun u c hu => by simp [hu]) _ _ h
  exact State.wf_foldl (fun u x hu => State.wf_foldl (fun v slot hv => by simp [hv]) _ _ (by simp [hu])) _ _ h1

@[simp] theorem State.ctxWarmReset_wf (s : State) (h : Memory.wf s.mem = true) : Memory.wf s.ctxWarmReset.mem = true := by
  have hsound : ∀ (v : State) (c : Nat), Sound v → Sound (v.abortDescs c 0) := fun v c hv => v.abortDescs_wf c 0 hv
  have habort : ∀ (l : List Nat) (u : State), Sound u → Sound (l.foldl (fun v c => v.abortDescs c 0) u) := fun l u hu =>
    List.foldlRecOn (motive := Sound) l _ hu fun v hv c _ => hsound v c hv
  have hdrop : ∀ (l : List Nat) (u : State), Memory.wf u.mem = true → Memory.wf (l.foldl State.dropImage u).mem = true :=
    State.wf_foldl State.dropImage_wf
  have hbind : ∀ (l : List Nat) (u : State), Memory.wf u.mem = true →
      Memory.wf (l.foldl (fun v c => v.bindingMsg false c v.frame) u).mem = true :=
    State.wf_foldl fun v c hv => by rwa [State.bindingMsg_sameMem]
  have hempty : ∀ u : State, Memory.wf u.mem = true →
      Memory.wf ({ u with saved := [], freeing := [], restoring := [], rings := [], descs := [] } : State).mem = true := fun _ hu => hu
  unfold State.ctxWarmReset
  exact hempty _ (hbind _ _ (hdrop _ _ (habort _ _ h)))

/-! ### Machine/Power.lean -/

@[simp] theorem State.dieReset_wf (s : State) (powerLost : Bool) (h : Memory.wf s.mem = true) :
    Memory.wf (s.dieReset powerLost).mem = true := by
  have h1 : Memory.wf (((List.range 4).foldl (fun u d => u.abandonRuns d false) s).pulsesStop).mem = true := by simp [State.mem_foldl, h]
  unfold State.dieReset
  generalize ((List.range 4).foldl (fun u d => u.abandonRuns d false) s).pulsesStop = s1 at h1 ⊢
  have hmem : Memory.wf (if powerLost = true then [] else s1.mem) = true := by
    split
    · rfl
    · exact h1
  exact hmem

@[simp] theorem State.lowerNext_wf (s : State) (h : Memory.wf s.mem = true) : Memory.wf s.lowerNext.mem = true := by
  unfold State.lowerNext
  dsimp only
  repeat' split
  all_goals simp [h]

@[simp] theorem State.beginLowering_wf (s : State) (why : Lowering) (h : Memory.wf s.mem = true) :
    Memory.wf (s.beginLowering why).mem = true := by simp [State.beginLowering, h]

@[simp] theorem State.islandLowers_wf (s : State) (h : Memory.wf s.mem = true) : Memory.wf s.islandLowers.mem = true := by
  unfold State.islandLowers
  dsimp only
  split <;> simp [h]

@[simp] theorem State.dawnFail_wf (s : State) (code index : Nat) (h : Memory.wf s.mem = true) :
    Memory.wf (s.dawnFail code index).mem = true := by simp [State.dawnFail, h]

@[simp] theorem State.dawnBegin_wf (s : State) (unexpected : BitVec 6) (h : Memory.wf s.mem = true) :
    Memory.wf (s.dawnBegin unexpected).mem = true := by
  unfold State.dawnBegin
  split <;> simp [h]

@[simp] theorem State.conventionalReset_wf (s : State) (h : Memory.wf s.mem = true) : Memory.wf s.conventionalReset.mem = true := by
  simp [State.conventionalReset, h]

@[simp] theorem State.authFail_wf (s : State) (image : Nat) (h : Memory.wf s.mem = true) : Memory.wf (s.authFail image).mem = true := by
  simp [State.authFail, h]

@[simp] theorem State.phaseBEnd_wf (s : State) (h : Memory.wf s.mem = true) : Memory.wf s.phaseBEnd.mem = true := by
  unfold State.phaseBEnd
  dsimp only
  repeat' split
  all_goals simp [h]

@[simp] theorem State.dawnComplete_wf (s : State) (h : Memory.wf s.mem = true) : Memory.wf s.dawnComplete.mem = true := by
  unfold State.dawnComplete
  dsimp only
  split <;> simp [h]

@[simp] theorem State.stopped_wf (s : State) (h : Memory.wf s.mem = true) : Memory.wf s.stopped.mem = true := by simp [State.stopped, h]

@[simp] theorem State.immediateStop_wf (s : State) (kind rail : Nat) (h : Memory.wf s.mem = true) :
    Memory.wf (s.immediateStop kind rail).mem = true := by simp [State.immediateStop, h]

@[simp] theorem State.railLost_wf (s : State) (rail mv : Nat) (h : Memory.wf s.mem = true) :
    Memory.wf (s.railLost rail mv).mem = true := by simp [State.railLost, h]

/-- What a warm start resets once contexts, pulses and ports are down (R133). -/
def State.warmed (s : State) : State :=
  let kept := [R.SEQ_PATCH_level, R.SEQ_PATCH_result, R.SEQ_PATCH_overlays, R.SEQ_PATCH_loaded].map (fun f => (f, s.get f))
  let s1 : State := { s with
    regs := s.regs.warm, seqs := s.seqs.map SeqSt.warm, outRuns := [], coreFrac := 0, dispatched := [],
    fab := { FabSt.init with nextId := s.fab.nextId }, tiles := s.tiles.map (fun (x : Nat × TileSt) => (x.1, x.2.warm)),
    fix := { FixSt.init with coreTicks := s.fix.coreTicks }, dueWrites := [],
    clk := { s.clk with gated := 0, gatePending := 0, ungating := 0, gateAfter := 0 } }
  { s1 with regs := kept.foldl (fun r p => r.put p.1 p.2) s1.regs }

theorem State.warmed_wf (s : State) (h : Memory.wf s.mem = true) : Memory.wf s.warmed.mem = true := h

@[simp] theorem State.warmStart_wf (s : State) (cxl : Bool) (h : Memory.wf s.mem = true) : Memory.wf (s.warmStart cxl).mem = true := by
  have hnone : ∀ u : State, Memory.wf u.mem = true →
      Memory.wf ({ u with img := { u.img with load := none, arriving := none } } : State).mem = true := fun _ hu => hu
  have hwarm : ∀ u : State, Memory.wf u.mem = true →
      Memory.wf ({ u with pwr := { u.pwr with warm := true, cxlReset := cxl } } : State).mem = true := fun _ hu => hu
  unfold State.warmStart
  refine State.warmed_wf _ (State.portsDark_wf _ ?_)
  rw [State.fixQuiesce_sameMem]
  refine State.ctxWarmReset_wf _ (hnone _ ?_)
  rw [State.imgAbortIn_sameMem]
  refine hwarm _ ?_
  rwa [State.put_sameMem, State.flogAdd_sameMem]

@[simp] theorem State.warmRequest_wf (s : State) (key : Nat) (h : Memory.wf s.mem = true) :
    Memory.wf (s.warmRequest key).mem = true := by simp [State.warmRequest, h]

@[simp] theorem State.duskAccept_wf (s : State) (source : DuskSource) (restart : Bool) (h : Memory.wf s.mem = true) :
    Memory.wf (s.duskAccept source restart).mem = true := by simp [State.duskAccept, h]

@[simp] theorem State.duskAsk_wf (s : State) (source : DuskSource) (restart : Bool) (h : Memory.wf s.mem = true) :
    Memory.wf (s.duskAsk source restart).mem = true := by simp [State.duskAsk, h]

@[simp] theorem State.duskRequest_wf (s : State) (key : Nat) (restart : Bool) (h : Memory.wf s.mem = true) :
    Memory.wf (s.duskRequest key restart).mem = true := by simp [State.duskRequest, h]

@[simp] theorem State.warmDone_wf (s : State) (h : Memory.wf s.mem = true) : Memory.wf s.warmDone.mem = true := by
  unfold State.warmDone
  split <;> simp [h]

@[simp] theorem State.quiesceEnd_wf (s : State) (x : Dusk) (h : Memory.wf s.mem = true) : Memory.wf (s.quiesceEnd x).mem = true := by
  unfold State.quiesceEnd
  extract_lets cause s1 s2 s2'
  have h1 : Memory.wf s1.mem = true := State.wf_foldl (fun u d hu => by split <;> simp [hu]) _ _ h
  have h2 : Memory.wf s2.mem = true := by simp [s2, h1]
  have h2' : Memory.wf s2'.mem = true := by simp [s2', h2]
  exact h2'

@[simp] theorem State.linkLost_wf (s : State) (h : Memory.wf s.mem = true) : Memory.wf s.linkLost.mem = true := by simp [State.linkLost, h]

/-! ### Machine/Horizon.lean -/

@[simp] theorem State.toLost_wf (s : State) (loss : Nat) (h : Memory.wf s.mem = true) : Memory.wf (s.toLost loss).mem = true := by
  simp [State.toLost, h]

@[simp] theorem State.rxDisable_wf (s : State) (h : Memory.wf s.mem = true) : Memory.wf s.rxDisable.mem = true := by
  simp [State.rxDisable, h]

@[simp] theorem State.markMisplaced_wf (s : State) (h : Memory.wf s.mem = true) : Memory.wf s.markMisplaced.mem = true := by
  simp [State.markMisplaced, h]

@[simp] theorem State.numberIn_wf (s : State) (n : Nat) (h : Memory.wf s.mem = true) : Memory.wf (s.numberIn n).mem = true := by
  unfold State.numberIn
  split <;> simp [h]

@[simp] theorem State.assignIn_wf (s : State) (m : List Byte) (h : Memory.wf s.mem = true) : Memory.wf (s.assignIn m).mem = true := by
  unfold State.assignIn
  dsimp only
  split_ifs <;> simp [h]

@[simp] theorem State.delayRunning_wf (s : State) (off apply : Nat) (h : Memory.wf s.mem = true) :
    Memory.wf (s.delayRunning off apply).mem = true := by simp [State.delayRunning, h]

@[simp] theorem State.delayIn_wf (s : State) (m : List Byte) (h : Memory.wf s.mem = true) : Memory.wf (s.delayIn m).mem = true := by
  unfold State.delayIn
  dsimp only
  split_ifs <;> simp [h]

@[simp] theorem State.judgeCoasting_wf (s : State) (good counted : Bool) (h : Memory.wf s.mem = true) :
    Memory.wf (s.judgeCoasting good counted).mem = true := by simp [State.judgeCoasting, h]

@[simp] theorem State.judgeBench_wf (s : State) (h : Memory.wf s.mem = true) : Memory.wf s.judgeBench.mem = true := by
  unfold State.judgeBench
  split <;> simp [h]

@[simp] theorem State.hznJudge_wf (s : State) (h : Memory.wf s.mem = true) : Memory.wf s.hznJudge.mem = true := by
  unfold State.hznJudge
  dsimp only
  repeat' split
  all_goals simp [h]

@[simp] theorem State.hznMark_wf (s : State) (h : Memory.wf s.mem = true) : Memory.wf s.hznMark.mem = true := by simp [State.hznMark, h]

@[simp] theorem State.passOver_wf (s : State) (a b : Nat) (h : Memory.wf s.mem = true) : Memory.wf (s.passOver a b).mem = true := by
  unfold State.passOver
  refine State.wf_foldl (fun u d hu => ?_) _ _ h
  dsimp only
  split_ifs
  · simp [hu]
  · exact hu
  · split
    · split <;> simp [hu]
    · exact hu

@[simp] theorem State.admitFrom_wf (s : State) (f : Nat) (h : Memory.wf s.mem = true) : Memory.wf (s.admitFrom f).mem = true := by
  simp [State.admitFrom, h]

@[simp] theorem State.renumber_wf (s : State) (f : Nat) (h : Memory.wf s.mem = true) : Memory.wf (s.renumber f).mem = true := by
  simp [State.renumber, h]

@[simp] theorem State.lockNow_wf (s : State) (f : Nat) (h : Memory.wf s.mem = true) : Memory.wf (s.lockNow f).mem = true := by
  simp [State.lockNow, h]

@[simp] theorem State.countFrame_wf (s : State) (h : Memory.wf s.mem = true) : Memory.wf s.countFrame.mem = true := by
  unfold State.countFrame
  split <;> simp [h]

@[simp] theorem State.markWork_wf (s : State) (h : Memory.wf s.mem = true) : Memory.wf s.markWork.mem = true := by
  unfold State.markWork
  rw [State.pmuMark_sameMem, State.duskMark_sameMem, State.gateMark_sameMem, State.fixMark_sameMem, State.fabMark_sameMem]
  refine State.ctxMark_wf _ (State.imgMark_wf _ (State.scheduleMark_wf _ ?_))
  rwa [State.disarmMark_sameMem]

/-! ### Machine/Clocks.lean -/

@[simp] theorem State.forceBurst_wf (s : State) (t : Nat) (h : Memory.wf s.mem = true) : Memory.wf (s.forceBurst t).mem = true := by
  unfold State.forceBurst
  split <;> simp [h]

@[simp] theorem State.forceDies_wf (s : State) (dies : List Nat) (h : Memory.wf s.mem = true) :
    Memory.wf (s.forceDies dies).mem = true := by
  unfold State.forceDies
  dsimp only
  split <;> simp +contextual [State.wf_foldl, State.mem_foldl, h]

@[simp] theorem State.forceArray_wf (s : State) (h : Memory.wf s.mem = true) : Memory.wf s.forceArray.mem = true := by
  simp [State.forceArray, h]

@[simp] theorem State.pllEffect_wf (s : State) (n : Nat) (h : Memory.wf s.mem = true) : Memory.wf (s.pllEffect n).mem = true := by
  unfold State.pllEffect
  split <;> simp [h]

@[simp] theorem State.pllDown_wf (s : State) (n : Nat) (h : Memory.wf s.mem = true) : Memory.wf (s.pllDown n).mem = true := by
  simp [State.pllDown, h]

@[simp] theorem State.unpark_wf (s : State) (half : Fin 2) (h : Memory.wf s.mem = true) : Memory.wf (s.unpark half).mem = true := by
  unfold State.unpark
  extract_lets all asleep s1
  exact State.releaseHeld_wf _ _ _ (State.wf_foldl (fun u r hu => by simp [hu]) _ _ (by simp [h]))

@[simp] theorem State.pllReturn_wf (s : State) (n : Nat) (h : Memory.wf s.mem = true) : Memory.wf (s.pllReturn n).mem = true := by
  have hdue : ∀ u : State, Memory.wf u.mem = true →
      Memory.wf ((u.applyDue.linesSeen.unpark 0).unpark 1).mem = true :=
    fun u hu => State.unpark_wf _ _ (State.unpark_wf _ _ (State.linesSeen_wf _ (State.applyDue_wf _ hu)))
  unfold State.pllReturn
  split
  · exact h
  · exact h
  · exact hdue _ h
  · exact hdue _ h
  · exact h

/-! ### Machine/Restart.lean -/

@[simp] theorem State.islandRestart_wf (s : State) (h : Memory.wf s.mem = true) : Memory.wf s.islandRestart.mem = true := by
  simp [State.islandRestart, h]

/-! ### Machine/HostPort.lean -/

@[simp] theorem State.mailbox_wf (s : State) (x : Fin 2) {run : State → Nat × List Nat × State} (hrun : Memory.wf (run s).2.2.mem = true)
    (h : Memory.wf s.mem = true) : Memory.wf (s.mailbox x run).mem = true := by
  unfold State.mailbox
  split
  · exact hrun
  · exact h

/-! ### Machine/Spdm.lean -/

@[simp] theorem State.spdm_wf (s : State) (x : Fin 2) {run : State → State} (hrun : Memory.wf (run s).mem = true)
    (h : Memory.wf s.mem = true) : Memory.wf (s.spdm x run).mem = true := by
  unfold State.spdm
  split_ifs
  · exact h
  · exact hrun
  · simp [h]

@[simp] theorem State.inSession_wf (s : State) (x : Fin 2) (id : Nat) {run : State → Session → State}
    (hrun : ∀ y, Memory.wf (run s y).mem = true) (h : Memory.wf s.mem = true) : Memory.wf (s.inSession x id run).mem = true := by
  refine s.spdm_wf x ?_ h
  split
  · next y _ =>
    split
    · exact hrun y
    · simp [h]
  · simp [h]

/-! ### Machine/Thermal.lean -/

@[simp] theorem State.biasCheck_wf (s : State) (i : Fin 4) (good : Bool) (h : Memory.wf s.mem = true) :
    Memory.wf (s.biasCheck i good).1.mem = true := by
  unfold State.biasCheck
  dsimp only
  repeat' split
  all_goals simp [h]

@[simp] theorem State.biasRound_wf (s : State) (ok : BitVec 4) (h : Memory.wf s.mem = true) :
    Memory.wf (s.biasRound ok).1.mem = true := by
  unfold State.biasRound
  exact List.foldlRecOn (motive := fun q : State × List (Nat × Nat) => Memory.wf q.1.mem = true) _ _ h
    fun q hq i _ => State.biasCheck_wf _ _ _ hq

@[simp] theorem State.stepRound_wf (s : State) (old new : Nat) (t : Nat → Int) (h : Memory.wf s.mem = true) :
    Memory.wf (s.stepRound old new t).mem = true := by simp [State.stepRound, h]

@[simp] theorem State.shutdown_wf (s : State) (die : Nat) (t : Nat → Int) (fast : Nat → Bool) (h : Memory.wf s.mem = true) :
    Memory.wf (s.shutdown die t fast).mem = true := by simp [State.shutdown, h]

@[simp] theorem State.shutRound_wf (s : State) (new : Nat) (t : Nat → Int) (fast : Nat → Bool) (rose : List Nat)
    (h : Memory.wf s.mem = true) : Memory.wf (s.shutRound new t fast rose).mem = true := by
  unfold State.shutRound
  split <;> simp [h]

@[simp] theorem State.thmEvaluate_wf (s : State) (raw : Nat → Option Int) (recs : List (Nat × Nat)) (h : Memory.wf s.mem = true) :
    Memory.wf (s.thmEvaluate raw recs).mem = true := by
  unfold State.thmEvaluate
  extract_lets P s0 su s1 temps t s2 fasts olds s3 rose old new lv s4 s5 s6
  have h1 : Memory.wf s1.mem = true := by simp [s1, su, s0, h]
  have h2 : Memory.wf s2.mem = true := State.wf_foldl (fun u d hu => by simp [hu]) _ _ h1
  have h3 : Memory.wf s3.mem = true := State.wf_foldl (fun u d hu => by simp [hu]) _ _ h2
  have hlv : Memory.wf lv.1.mem = true := by simp [lv, h3]
  have h4 : Memory.wf s4.mem = true := State.stepRound_wf _ _ _ _ (by simp [hlv])
  have h5 : Memory.wf s5.mem = true := by
    rw [State.thmPmu_sameMem]
    exact State.wf_foldl (fun u x hu => by simp [hu]) _ _ h4
  have h6 : Memory.wf s6.mem = true := State.wf_foldl (fun u x hu => by simp [hu]) _ _ h5
  exact s6.shutRound_wf _ _ _ _ h6

/-! ### Machine/RegWrite.lean -/

@[simp] theorem State.pwrWrite_wf (s : State) (off w : Nat) (h : Memory.wf s.mem = true) : Memory.wf (s.pwrWrite off w).mem = true := by
  unfold State.pwrWrite
  split <;> simp [h]

@[simp] theorem State.hznWrite_wf (s : State) (off w : Nat) (h : Memory.wf s.mem = true) : Memory.wf (s.hznWrite off w).mem = true := by
  unfold State.hznWrite
  split <;> simp [h]

@[simp] theorem State.seqWrite_wf (s : State) (off w : Nat) (h : Memory.wf s.mem = true) : Memory.wf (s.seqWrite off w).mem = true := by
  simp [State.seqWrite, h]

@[simp] theorem State.cmdWrite_wf (s : State) (off w : Nat) (h : Memory.wf s.mem = true) : Memory.wf (s.cmdWrite off w).mem = true := by
  simp [State.cmdWrite, h]

@[simp] theorem State.ctxWrite_wf (s : State) (off w : Nat) (h : Memory.wf s.mem = true) : Memory.wf (s.ctxWrite off w).mem = true := by
  simp [State.ctxWrite, h]

@[simp] theorem State.portCtrl_wf (s : State) (n w : Nat) (h : Memory.wf s.mem = true) : Memory.wf (s.portCtrl n w).mem = true := by
  simp [State.portCtrl, h]

@[simp] theorem State.fabWrite_wf (s : State) (off w : Nat) (h : Memory.wf s.mem = true) : Memory.wf (s.fabWrite off w).mem = true := by
  unfold State.fabWrite
  split <;> simp [h]

@[simp] theorem State.blockWrite_wf (s : State) (half : Option (Fin 2)) (off w : Nat) (h : Memory.wf s.mem = true) :
    Memory.wf (s.blockWrite half off w).mem = true := by
  unfold State.blockWrite
  split <;> simp [h]

@[simp] theorem State.barWrite_wf (s : State) (half : Option (Fin 2)) (off w : Nat) (h : Memory.wf s.mem = true) :
    Memory.wf (s.barWrite half off w).mem = true := by simp [State.barWrite, h]

@[simp] theorem State.hostBarWrite_wf (s : State) (half : Fin 2) (off w : Nat) (h : Memory.wf s.mem = true) :
    Memory.wf (s.hostBarWrite half off w).mem = true := by simp [State.hostBarWrite, h]

/-! ### Machine/Sideband.lean -/

@[simp] theorem State.sbWriteAt_wf (s : State) (off w : Nat) (h : Memory.wf s.mem = true) :
    Memory.wf (s.sbWriteAt off w).mem = true := by simp [State.sbWriteAt, h]

/-! ### Machine/Debug.lean -/

@[simp] theorem State.dbgWriteAt_wf (s : State) (off w : Nat) (h : Memory.wf s.mem = true) :
    Memory.wf (s.dbgWriteAt off w).mem = true := by simp [State.dbgWriteAt, h]

/-! ### Machine/Idle.lean -/

@[simp] theorem State.idleTick_wf (s : State) (h : Memory.wf s.mem = true) : Memory.wf s.idleTick.mem = true := by simp [State.idleTick, h]

end Sys2Proof.Machine
end

section
/-!
PROOFS. Every instruction leaves device memory in canonical form.
-/

namespace Sys2Proof.Machine

/-- The outcome is a next state whose device memory is in canonical form. -/
def LeavesCanonical (o : Host.Outcome State Fault Refusal) : Prop := ∃ t, o = .next t ∧ Memory.wf t.mem = true

@[simp] theorem leavesCanonical_next (t : State) : LeavesCanonical (.next t) ↔ Memory.wf t.mem = true :=
  ⟨fun ⟨_, ht, h⟩ => Host.Outcome.next.inj ht ▸ h, fun h => ⟨t, rfl, h⟩⟩

/-! ### Machine/Sync.lean -/

@[simp] theorem execSyncSignal_canonical (obj : BitVec 12) (value : BitVec 16) (s : State) (h : Memory.wf s.mem = true) :
    LeavesCanonical (execSyncSignal obj value s) := by simp [execSyncSignal, h]

@[simp] theorem execSyncValWrite_canonical (obj : BitVec 12) (value : BitVec 16) (s : State) (h : Memory.wf s.mem = true) :
    LeavesCanonical (execSyncValWrite obj value s) := by simp [execSyncValWrite, h]

@[simp] theorem execSyncTimerArm_canonical (timer : Fin 16) (obj : BitVec 12) (value : BitVec 16) (s : State)
    (h : Memory.wf s.mem = true) : LeavesCanonical (execSyncTimerArm timer obj value s) := by simp [execSyncTimerArm, h]

@[simp] theorem execSyncTimerFire_canonical (timer : Fin 16) (s : State) (h : Memory.wf s.mem = true) :
    LeavesCanonical (execSyncTimerFire timer s) := by simp [execSyncTimerFire, h]

@[simp] theorem execSyncClrCounts_canonical (s : State) (h : Memory.wf s.mem = true) : LeavesCanonical (execSyncClrCounts s) := by
  simp [execSyncClrCounts, h]

/-! ### Machine/Tiles.lean -/

@[simp] theorem execAeWindowEnd_canonical (tile : Fin 256) (s : State) (h : Memory.wf s.mem = true) :
    LeavesCanonical (execAeWindowEnd tile s) := by
  rw [execAeWindowEnd, leavesCanonical_next]
  split <;> simp [h]

@[simp] theorem execFogWindowLatch_canonical (tile : Fin 256) (s : State) (h : Memory.wf s.mem = true) :
    LeavesCanonical (execFogWindowLatch tile s) := by
  rw [execFogWindowLatch, leavesCanonical_next]
  split <;> simp [h]

@[simp] theorem execExposureDevelop_canonical (tile : Fin 256) (s : State) (h : Memory.wf s.mem = true) :
    LeavesCanonical (execExposureDevelop tile s) := by
  rw [execExposureDevelop, leavesCanonical_next]
  split <;> simp [h]

@[simp] theorem execExposureStart_canonical (tile : Fin 256) (s : State) (h : Memory.wf s.mem = true) :
    LeavesCanonical (execExposureStart tile s) := by
  rw [execExposureStart, leavesCanonical_next]
  split <;> simp [h]

@[simp] theorem execOperandArrival_canonical (tile : Fin 256) (s : State) (h : Memory.wf s.mem = true) :
    LeavesCanonical (execOperandArrival tile s) := by
  simp only [execOperandArrival, leavesCanonical_next]
  split
  · split_ifs
    · exact h
    · exact State.wf_foldl (fun u t hu => by rwa [State.moveBurst_sameMem]) _ _ (by simp [h])
  · exact h

@[simp] theorem execChainAdd_canonical (tile : Fin 256) (s : State) (h : Memory.wf s.mem = true) :
    LeavesCanonical (execChainAdd tile s) := by simp [execChainAdd, h]

@[simp] theorem execSliceMerge_canonical (tile : Fin 256) (s : State) (h : Memory.wf s.mem = true) :
    LeavesCanonical (execSliceMerge tile s) := by simp [execSliceMerge, h]

@[simp] theorem execTileDataRead_canonical (s : State) (h : Memory.wf s.mem = true) : LeavesCanonical (execTileDataRead s) := by
  simp [execTileDataRead, h]

@[simp] theorem execTileDataWrite_canonical (value : Word) (s : State) (h : Memory.wf s.mem = true) :
    LeavesCanonical (execTileDataWrite value s) := by simp [execTileDataWrite, h]

@[simp] theorem execTileTestStart_canonical (value : Word) (s : State) (h : Memory.wf s.mem = true) :
    LeavesCanonical (execTileTestStart value s) := by simp [execTileTestStart, h]

@[simp] theorem execTileTestDone_canonical (s : State) (h : Memory.wf s.mem = true) : LeavesCanonical (execTileTestDone s) := by
  have hcodes : ∀ (u : State) x (l : List ((Int × Bool) × Nat)), Memory.wf u.mem = true → Memory.wf (l.foldl (fun v p =>
      v.puts [(R.TILE_TEST_CODE_code x p.2, fromSigned 8 p.1.1), (R.TILE_TEST_CODE_clip x p.2, b2n p.1.2)]) u).mem = true :=
    fun u x l hu => State.wf_foldl (fun v p hv => by rwa [State.puts_sameMem]) l u hu
  have hdone : ∀ (u : State) t x, Memory.wf u.mem = true →
      Memory.wf ({ (u.setBit (R.TILE_EVT t) 4).put R.TILE_STAT_test_busy 0 with fix := x } : State).mem = true :=
    fun _ _ _ hu => hu
  simp only [execTileTestDone, leavesCanonical_next]
  split
  · exact h
  · split_ifs
    · exact h
    · refine hdone _ _ _ (hcodes _ _ _ ?_)
      rwa [State.testRuns_sameMem]

/-! ### Machine/Fix.lean -/

@[simp] theorem execWeightWrite_canonical (half : Fin 2) (hpa : BitVec 52) (data : Line) (be : BitVec 64) (s : State)
    (h : Memory.wf s.mem = true) : LeavesCanonical (execWeightWrite half hpa data be s) := by simp [execWeightWrite, h]

@[simp] theorem execWeightWriteRelease_canonical (half : Fin 2) (s : State) (h : Memory.wf s.mem = true) :
    LeavesCanonical (execWeightWriteRelease half s) := by simp [execWeightWriteRelease, h]

@[simp] theorem execWeightRead_canonical (half : Fin 2) (hpa : BitVec 52) (s : State) (h : Memory.wf s.mem = true) :
    LeavesCanonical (execWeightRead half hpa s) := by
  simp only [execWeightRead, leavesCanonical_next]
  repeat' split
  all_goals simp [h]

@[simp] theorem execWeightReadSense_canonical (half : Fin 2) (s : State) (h : Memory.wf s.mem = true) :
    LeavesCanonical (execWeightReadSense half s) := by
  -- Kept opaque: the kernel would count down from the window's base.
  obtain ⟨lineOf, hline⟩ : ∃ f, f = WindowLine.ofDpa := ⟨_, rfl⟩
  rw [execWeightReadSense, ← hline, leavesCanonical_next]
  split
  · exact h
  · dsimp only
    split
    · exact h
    · exact h
    · rw [State.pmu_sameMem]
      exact h

@[simp] theorem execWeightReadStale_canonical (half : Fin 2) (s : State) (h : Memory.wf s.mem = true) :
    LeavesCanonical (execWeightReadStale half s) := by
  rw [execWeightReadStale, leavesCanonical_next]
  split <;> simp [h]

@[simp] theorem execSegmentStart_canonical (die : Fin 4) (s : State) (h : Memory.wf s.mem = true) :
    LeavesCanonical (execSegmentStart die s) := by
  simp only [execSegmentStart, leavesCanonical_next]
  repeat' split
  all_goals simp [h]

@[simp] theorem execSegmentDone_canonical (die : Fin 4) (attempts : BitVec 2) (iterations : BitVec 7) (verified : Bool)
    (badSpares : BitVec 8) (s : State) (h : Memory.wf s.mem = true) :
    LeavesCanonical (execSegmentDone die attempts iterations verified badSpares s) := by
  rw [execSegmentDone, leavesCanonical_next]
  split <;> simp [h]

@[simp] theorem execTileEraseDone_canonical (tile : Fin 256) (fails : BitVec 8) (stuck : List (Fin 512)) (badSpares : BitVec 8)
    (s : State) (h : Memory.wf s.mem = true) : LeavesCanonical (execTileEraseDone tile fails stuck badSpares s) := by
  simp only [execTileEraseDone, leavesCanonical_next]
  split_ifs
  · exact h
  all_goals
    rw [State.pmu_sameMem, State.raiseFix_sameMem]
    refine State.wf_foldl (fun u row hu => ?_) _ _ (by simp [h])
    split <;> simp [hu]

@[simp] theorem execTileRefixReq_canonical (value : Word) (s : State) (h : Memory.wf s.mem = true) :
    LeavesCanonical (execTileRefixReq value s) := by simp [execTileRefixReq, h]

@[simp] theorem execRefixDone_canonical (tile : Fin 256) (rows : List RefixRow) (s : State) (h : Memory.wf s.mem = true) :
    LeavesCanonical (execRefixDone tile rows s) := by
  rw [execRefixDone, leavesCanonical_next]
  split <;> simp [h]

@[simp] theorem execTileAgeHour_canonical (s : State) (h : Memory.wf s.mem = true) : LeavesCanonical (execTileAgeHour s) := by
  simp only [execTileAgeHour, leavesCanonical_next]
  split
  · exact h
  · refine State.wf_foldl (fun u x hu => ?_) _ _ h
    split
    · split_ifs <;> simp [hu]
    · exact hu

/-! ### Machine/Output.lean -/

@[simp] theorem execCompAdd_canonical (addr : BitVec 40) (word : Word64) (s : State) (h : Memory.wf s.mem = true) :
    LeavesCanonical (execCompAdd addr word s) := by simp [execCompAdd, h]

@[simp] theorem execOutputRunDone_canonical (plate : Fin 64) (s : State) (h : Memory.wf s.mem = true) :
    LeavesCanonical (execOutputRunDone plate s) := by
  rw [execOutputRunDone, leavesCanonical_next]
  split <;> simp [h]

/-! ### Machine/Issue.lean -/

@[simp] theorem execExpose_canonical (q : Fin 16) (s : State) (h : Memory.wf s.mem = true) : LeavesCanonical (execExpose q s) := by
  rw [execExpose, leavesCanonical_next]
  split <;> simp [h]

@[simp] theorem execLoad_canonical (q : Fin 16) (s : State) (h : Memory.wf s.mem = true) : LeavesCanonical (execLoad q s) := by
  simp only [execLoad, leavesCanonical_next]
  split
  · split_ifs
    · simp [h]
    · split
      · simp [h]
      · refine State.noteDataError_wf _ _ _ _ ?_
        rw [State.pmuLines_sameMem, State.issued_sameMem]
        exact State.wf_foldl (fun u x hu => by rwa [State.fillHold_sameMem]) _ _ h
  · exact h

@[simp] theorem execOutput_canonical (q : Fin 16) (s : State) (h : Memory.wf s.mem = true) : LeavesCanonical (execOutput q s) := by
  rw [execOutput, leavesCanonical_next]
  split <;> simp [h]

@[simp] theorem execFsend_canonical (q : Fin 16) (s : State) (h : Memory.wf s.mem = true) : LeavesCanonical (execFsend q s) := by
  simp only [execFsend, leavesCanonical_next]
  repeat' split
  all_goals simp [h]

@[simp] theorem execFrecv_canonical (q : Fin 16) (s : State) (h : Memory.wf s.mem = true) : LeavesCanonical (execFrecv q s) := by
  rw [execFrecv, leavesCanonical_next]
  split <;> simp [h]

@[simp] theorem execVector_canonical (q : Fin 16) (s : State) (h : Memory.wf s.mem = true) : LeavesCanonical (execVector q s) := by
  simp only [execVector, leavesCanonical_next]
  repeat' split
  all_goals simp [h]

@[simp] theorem execSyncNanoSignal_canonical (q : Fin 16) (s : State) (h : Memory.wf s.mem = true) :
    LeavesCanonical (execSyncNanoSignal q s) := by
  rw [execSyncNanoSignal, leavesCanonical_next]
  split <;> simp [h]

@[simp] theorem execSyncNanoTest_canonical (q : Fin 16) (s : State) (h : Memory.wf s.mem = true) :
    LeavesCanonical (execSyncNanoTest q s) := by
  rw [execSyncNanoTest, leavesCanonical_next]
  split <;> simp [h]

@[simp] theorem execNop_canonical (q : Fin 16) (s : State) (h : Memory.wf s.mem = true) : LeavesCanonical (execNop q s) := by
  rw [execNop, leavesCanonical_next]
  split <;> simp [h]

/-! ### Machine/Seq.lean -/

@[simp] theorem execNext_canonical (q : Fin 16) (s : State) (h : Memory.wf s.mem = true) : LeavesCanonical (execNext q s) := by
  simp [execNext, h]

@[simp] theorem execLdc_canonical (q : Fin 16) (s : State) (h : Memory.wf s.mem = true) : LeavesCanonical (execLdc q s) := by
  simp [execLdc, h]

@[simp] theorem execLda_canonical (q : Fin 16) (s : State) (h : Memory.wf s.mem = true) : LeavesCanonical (execLda q s) := by
  simp [execLda, h]

@[simp] theorem execAdda_canonical (q : Fin 16) (s : State) (h : Memory.wf s.mem = true) : LeavesCanonical (execAdda q s) := by
  simp [execAdda, h]

@[simp] theorem execJmp_canonical (q : Fin 16) (s : State) (h : Memory.wf s.mem = true) : LeavesCanonical (execJmp q s) := by
  simp [execJmp, h]

@[simp] theorem execJsr_canonical (q : Fin 16) (s : State) (h : Memory.wf s.mem = true) : LeavesCanonical (execJsr q s) := by
  simp [execJsr, h]

@[simp] theorem execRts_canonical (q : Fin 16) (s : State) (h : Memory.wf s.mem = true) : LeavesCanonical (execRts q s) := by
  simp [execRts, h]

@[simp] theorem execLoop_canonical (q : Fin 16) (s : State) (h : Memory.wf s.mem = true) : LeavesCanonical (execLoop q s) := by
  simp [execLoop, h]

@[simp] theorem execBcond_canonical (q : Fin 16) (s : State) (h : Memory.wf s.mem = true) : LeavesCanonical (execBcond q s) := by
  simp [execBcond, h]

@[simp] theorem execWait_canonical (q : Fin 16) (s : State) (h : Memory.wf s.mem = true) : LeavesCanonical (execWait q s) := by
  simp [execWait, h]

@[simp] theorem execWaitd_canonical (q : Fin 16) (s : State) (h : Memory.wf s.mem = true) : LeavesCanonical (execWaitd q s) := by
  simp [execWaitd, h]

@[simp] theorem execSeqEnd_canonical (q : Fin 16) (s : State) (h : Memory.wf s.mem = true) : LeavesCanonical (execSeqEnd q s) := by
  simp [execSeqEnd, h]

@[simp] theorem execReservedCode_canonical (q : Fin 16) (s : State) (h : Memory.wf s.mem = true) :
    LeavesCanonical (execReservedCode q s) := by simp [execReservedCode, h]

@[simp] theorem execReservedNanoKind_canonical (q : Fin 16) (s : State) (h : Memory.wf s.mem = true) :
    LeavesCanonical (execReservedNanoKind q s) := by simp [execReservedNanoKind, h]

@[simp] theorem execWaitFire_canonical (q : Fin 16) (s : State) (h : Memory.wf s.mem = true) : LeavesCanonical (execWaitFire q s) := by
  rw [execWaitFire, leavesCanonical_next]
  split <;> simp [h]

@[simp] theorem execSeqCommandDone_canonical (q : Fin 16) (index : Fin 4) (s : State) (h : Memory.wf s.mem = true) :
    LeavesCanonical (execSeqCommandDone q index s) := by simp [execSeqCommandDone, h]

@[simp] theorem execSpanEnd_canonical (q : Fin 16) (s : State) (h : Memory.wf s.mem = true) : LeavesCanonical (execSpanEnd q s) := by
  rw [execSpanEnd, leavesCanonical_next]
  split <;> simp [h]

@[simp] theorem execStaticDispatch_canonical (q : Fin 16) (index : BitVec 12) (s : State) (h : Memory.wf s.mem = true) :
    LeavesCanonical (execStaticDispatch q index s) := by
  simp only [execStaticDispatch, leavesCanonical_next]
  repeat' split
  all_goals simp [h]

@[simp] theorem execDynamicDispatch_canonical (ctx : Fin 64) (s : State) (h : Memory.wf s.mem = true) :
    LeavesCanonical (execDynamicDispatch ctx s) := by
  rw [execDynamicDispatch, leavesCanonical_next]
  split <;> simp [h]

@[simp] theorem execSeqArm_canonical (slot : Fin 64) (s : State) (h : Memory.wf s.mem = true) :
    LeavesCanonical (execSeqArm slot s) := by simp [execSeqArm, h]

@[simp] theorem execSeqDisarm_canonical (slot : Fin 64) (s : State) (h : Memory.wf s.mem = true) :
    LeavesCanonical (execSeqDisarm slot s) := by simp [execSeqDisarm, h]

@[simp] theorem execSeqHalt_canonical (q : Fin 16) (s : State) (h : Memory.wf s.mem = true) : LeavesCanonical (execSeqHalt q s) := by
  simp [execSeqHalt, h]

@[simp] theorem execSeqRun_canonical (q : Fin 16) (s : State) (h : Memory.wf s.mem = true) : LeavesCanonical (execSeqRun q s) := by
  simp [execSeqRun, h]

@[simp] theorem execSeqClrCounts_canonical (q : Fin 16) (s : State) (h : Memory.wf s.mem = true) :
    LeavesCanonical (execSeqClrCounts q s) := by simp [execSeqClrCounts, h]

@[simp] theorem execSeqMcClear_canonical (q : Fin 16) (s : State) (h : Memory.wf s.mem = true) :
    LeavesCanonical (execSeqMcClear q s) := by simp [execSeqMcClear, h]

/-! ### Machine/Fabric.lean -/

@[simp] theorem execPortDetect_canonical (port : Fin 12) (s : State) (h : Memory.wf s.mem = true) :
    LeavesCanonical (execPortDetect port s) := by simp [execPortDetect, h]

@[simp] theorem execTrainingRetry_canonical (port : Fin 12) (s : State) (h : Memory.wf s.mem = true) :
    LeavesCanonical (execTrainingRetry port s) := by simp [execTrainingRetry, h]

@[simp] theorem execLaneSignal_canonical (port : Fin 12) (s : State) (h : Memory.wf s.mem = true) :
    LeavesCanonical (execLaneSignal port s) := by simp [execLaneSignal, h]

@[simp] theorem execEqualiseDone_canonical (port : Fin 12) (s : State) (h : Memory.wf s.mem = true) :
    LeavesCanonical (execEqualiseDone port s) := by simp [execEqualiseDone, h]

@[simp] theorem execTrainingBlock_canonical (port : Fin 12) (lanes : Vector (Vector Byte 64) 4) (polarity : BitVec 4) (now : Word)
    (s : State) (h : Memory.wf s.mem = true) : LeavesCanonical (execTrainingBlock port lanes polarity now s) := by
  simp [execTrainingBlock, h]

@[simp] theorem execGen2EqTimeout_canonical (port : Fin 12) (s : State) (h : Memory.wf s.mem = true) :
    LeavesCanonical (execGen2EqTimeout port s) := by simp [execGen2EqTimeout, h]

@[simp] theorem execTrainingTimeout_canonical (port : Fin 12) (s : State) (h : Memory.wf s.mem = true) :
    LeavesCanonical (execTrainingTimeout port s) := by
  rw [execTrainingTimeout, leavesCanonical_next]
  split <;> simp [h]

@[simp] theorem execFabPortRetrain_canonical (port : Fin 12) (s : State) (h : Memory.wf s.mem = true) :
    LeavesCanonical (execFabPortRetrain port s) := by simp [execFabPortRetrain, h]

@[simp] theorem execFabPortDisable_canonical (port : Fin 12) (s : State) (h : Memory.wf s.mem = true) :
    LeavesCanonical (execFabPortDisable port s) := by simp [execFabPortDisable, h]

@[simp] theorem execFabPortEnable_canonical (port : Fin 12) (s : State) (h : Memory.wf s.mem = true) :
    LeavesCanonical (execFabPortEnable port s) := by simp [execFabPortEnable, h]

@[simp] theorem execLossOfSignal_canonical (port : Fin 12) (s : State) (h : Memory.wf s.mem = true) :
    LeavesCanonical (execLossOfSignal port s) := by
  rw [execLossOfSignal, leavesCanonical_next]
  split <;> simp [h]

@[simp] theorem execRetrain_canonical (port : Fin 12) (s : State) (h : Memory.wf s.mem = true) :
    LeavesCanonical (execRetrain port s) := by simp [execRetrain, h]

@[simp] theorem execRetrainTimeout_canonical (port : Fin 12) (s : State) (h : Memory.wf s.mem = true) :
    LeavesCanonical (execRetrainTimeout port s) := by simp [execRetrainTimeout, h]

@[simp] theorem execFlitTransmit_canonical (port : Fin 12) (s : State) (h : Memory.wf s.mem = true) :
    LeavesCanonical (execFlitTransmit port s) := by simp [execFlitTransmit, h]

@[simp] theorem execFlitReceive_canonical (port : Fin 12) (corrected : Option (Fin 9)) (message : Vector Byte 256) (s : State)
    (h : Memory.wf s.mem = true) : LeavesCanonical (execFlitReceive port corrected message s) := by simp [execFlitReceive, h]

@[simp] theorem execFabricWrite_canonical (port : Fin 12) (txn : Vector Byte 80) (s : State) (h : Memory.wf s.mem = true) :
    LeavesCanonical (execFabricWrite port txn s) := by simp [execFabricWrite, h]

@[simp] theorem execCadd_canonical (port : Fin 12) (txn : Vector Byte 80) (s : State) (h : Memory.wf s.mem = true) :
    LeavesCanonical (execCadd port txn s) := by simp [execCadd, h]

@[simp] theorem execSignal_canonical (port : Fin 12) (txn : Vector Byte 80) (s : State) (h : Memory.wf s.mem = true) :
    LeavesCanonical (execSignal port txn s) := by simp [execSignal, h]

@[simp] theorem execResp_canonical (port : Fin 12) (txn : Vector Byte 80) (s : State) (h : Memory.wf s.mem = true) :
    LeavesCanonical (execResp port txn s) := by simp [execResp, h]

@[simp] theorem execRespTallyFlush_canonical (origin : BitVec 10) (xfer : BitVec 16) (s : State) (h : Memory.wf s.mem = true) :
    LeavesCanonical (execRespTallyFlush origin xfer s) := by
  rw [execRespTallyFlush, leavesCanonical_next]
  split <;> simp [h]

@[simp] theorem execTransferTimeout_canonical (xfer : BitVec 16) (s : State) (h : Memory.wf s.mem = true) :
    LeavesCanonical (execTransferTimeout xfer s) := by
  rw [execTransferTimeout, leavesCanonical_next]
  split <;> simp [h]

@[simp] theorem execFabClrCounts_canonical (s : State) (h : Memory.wf s.mem = true) : LeavesCanonical (execFabClrCounts s) := by
  simp [execFabClrCounts, h]

/-! ### Machine/Pmu.lean -/

@[simp] theorem execPmuStart_canonical (mask : Word) (s : State) (h : Memory.wf s.mem = true) :
    LeavesCanonical (execPmuStart mask s) := by simp [execPmuStart, h]

@[simp] theorem execPmuStop_canonical (mask : Word) (s : State) (h : Memory.wf s.mem = true) :
    LeavesCanonical (execPmuStop mask s) := by simp [execPmuStop, h]

@[simp] theorem execPmuSnap_canonical (mask : Word) (s : State) (h : Memory.wf s.mem = true) :
    LeavesCanonical (execPmuSnap mask s) := by simp [execPmuSnap, h]

@[simp] theorem execPmuClr_canonical (mask : Word) (s : State) (h : Memory.wf s.mem = true) : LeavesCanonical (execPmuClr mask s) := by
  simp [execPmuClr, h]

@[simp] theorem execPmuCfgWrite_canonical (counter : Fin 32) (value : Word) (s : State) (h : Memory.wf s.mem = true) :
    LeavesCanonical (execPmuCfgWrite counter value s) := by simp [execPmuCfgWrite, h]

@[simp] theorem execPmuCntWrite_canonical (counter : Fin 32) (high : Bool) (value : Word) (s : State) (h : Memory.wf s.mem = true) :
    LeavesCanonical (execPmuCntWrite counter high value s) := by simp [execPmuCntWrite, h]

@[simp] theorem execPmuTriggerArm_canonical (trigger : Fin 4) (action : BitVec 2) (s : State) (h : Memory.wf s.mem = true) :
    LeavesCanonical (execPmuTriggerArm trigger action s) := by simp [execPmuTriggerArm, h]

@[simp] theorem execPmuTriggerFire_canonical (trigger : Fin 4) (s : State) (h : Memory.wf s.mem = true) :
    LeavesCanonical (execPmuTriggerFire trigger s) := by
  simp only [execPmuTriggerFire, leavesCanonical_next]
  split
  · exact State.wf_foldl (fun u k hu => by rwa [State.trigAct_sameMem]) _ _ h
  · exact h

@[simp] theorem execPmuOverflow_canonical (counter : Fin 32) (inc : BitVec 16) (s : State) (h : Memory.wf s.mem = true) :
    LeavesCanonical (execPmuOverflow counter inc s) := by simp [execPmuOverflow, h]

@[simp] theorem execFlogClear_canonical (s : State) (h : Memory.wf s.mem = true) : LeavesCanonical (execFlogClear s) := by
  simp [execFlogClear, h]

/-! ### Machine/Flash.lean -/

@[simp] theorem execProgram_canonical (word : BitVec 17) (value : Word64) (readbackBad : Bool) (s : State) (h : Memory.wf s.mem = true) :
    LeavesCanonical (execProgram word value readbackBad s) := by simp [execProgram, h]

@[simp] theorem execErase_canonical (bank : Bool) (sector : BitVec 8) (s : State) (h : Memory.wf s.mem = true) :
    LeavesCanonical (execErase bank sector s) := by simp [execErase, h]

@[simp] theorem execEraseDone_canonical (blank : Bool) (s : State) (h : Memory.wf s.mem = true) :
    LeavesCanonical (execEraseDone blank s) := by
  rw [execEraseDone, leavesCanonical_next]
  split <;> simp [h]

@[simp] theorem execSuspend_canonical (s : State) (h : Memory.wf s.mem = true) : LeavesCanonical (execSuspend s) := by
  simp only [execSuspend, leavesCanonical_next]
  split
  · exact h
  · split
    · simp [h]
    · next t ht =>
      rwa [State.flsLast_sameMem, s.setAside_sameMem ht]

@[simp] theorem execResume_canonical (s : State) (h : Memory.wf s.mem = true) : LeavesCanonical (execResume s) := by simp [execResume, h]

@[simp] theorem execBlankCheck_canonical (bank : Bool) (sector : BitVec 8) (s : State) (h : Memory.wf s.mem = true) :
    LeavesCanonical (execBlankCheck bank sector s) := by simp [execBlankCheck, h]

@[simp] theorem execOption_canonical (level : BitVec 2) (s : State) (h : Memory.wf s.mem = true) :
    LeavesCanonical (execOption level s) := by simp [execOption, h]

@[simp] theorem execProtRaise_canonical (level : BitVec 2) (key : BitVec 16) (s : State) (h : Memory.wf s.mem = true) :
    LeavesCanonical (execProtRaise level key s) := by simp [execProtRaise, h]

@[simp] theorem execProtLower_canonical (key : BitVec 16) (s : State) (h : Memory.wf s.mem = true) :
    LeavesCanonical (execProtLower key s) := by simp [execProtLower, h]

@[simp] theorem execFlsHostRead_canonical (addr : BitVec 20) (s : State) (h : Memory.wf s.mem = true) :
    LeavesCanonical (execFlsHostRead addr s) := by simp [execFlsHostRead, h]

@[simp] theorem execPatrol_canonical (hits : List PatrolHit) (s : State) (h : Memory.wf s.mem = true) :
    LeavesCanonical (execPatrol hits s) := by
  simp only [execPatrol, leavesCanonical_next]
  split
  · exact h
  · refine State.wf_foldl (fun u x hu => ?_) _ _ h
    split <;> simp [hu]

@[simp] theorem execFlsClrCounts_canonical (s : State) (h : Memory.wf s.mem = true) : LeavesCanonical (execFlsClrCounts s) := by
  simp [execFlsClrCounts, h]

/-! ### Machine/Loader.lean -/

@[simp] theorem execImgStart_canonical (s : State) (h : Memory.wf s.mem = true) : LeavesCanonical (execImgStart s) := by
  simp [execImgStart, h]

@[simp] theorem execImgChecksDone_canonical (s : State) (h : Memory.wf s.mem = true) : LeavesCanonical (execImgChecksDone s) := by
  simp only [execImgChecksDone, leavesCanonical_next]
  repeat' split
  all_goals simp [h]

@[simp] theorem execImgUnload_canonical (s : State) (h : Memory.wf s.mem = true) : LeavesCanonical (execImgUnload s) := by
  simp [execImgUnload, h]

@[simp] theorem execImgAbort_canonical (s : State) (h : Memory.wf s.mem = true) : LeavesCanonical (execImgAbort s) := by
  simp [execImgAbort, h]

@[simp] theorem execImgInstallDone_canonical (s : State) (h : Memory.wf s.mem = true) : LeavesCanonical (execImgInstallDone s) := by
  simp only [execImgInstallDone, leavesCanonical_next]
  repeat' split
  all_goals simp [h]

@[simp] theorem execImgQuiesceDone_canonical (s : State) (h : Memory.wf s.mem = true) : LeavesCanonical (execImgQuiesceDone s) := by
  simp only [execImgQuiesceDone, leavesCanonical_next]
  repeat' split
  all_goals simp [h]

/-! ### Machine/Cmd.lean -/

@[simp] theorem execRingEnable_canonical (ctx : Fin 64) (s : State) (h : Memory.wf s.mem = true) :
    LeavesCanonical (execRingEnable ctx s) := by simp [execRingEnable, h]

@[simp] theorem execRingDisable_canonical (ctx : Fin 64) (s : State) (h : Memory.wf s.mem = true) :
    LeavesCanonical (execRingDisable ctx s) := by simp [execRingDisable, h]

@[simp] theorem execSqDoorbell_canonical (ctx : Fin 64) (tail : BitVec 12) (s : State) (h : Memory.wf s.mem = true) :
    LeavesCanonical (execSqDoorbell ctx tail s) := by simp [execSqDoorbell, h]

@[simp] theorem execCqDoorbell_canonical (ctx : Fin 64) (head : BitVec 12) (s : State) (h : Memory.wf s.mem = true) :
    LeavesCanonical (execCqDoorbell ctx head s) := by simp [execCqDoorbell, h]

@[simp] theorem execDescExpose_canonical (ctx : Fin 64) (s : State) (h : Memory.wf s.mem = true) :
    LeavesCanonical (execDescExpose ctx s) := by simp [execDescExpose, h]

@[simp] theorem execDescOutput_canonical (ctx : Fin 64) (s : State) (h : Memory.wf s.mem = true) :
    LeavesCanonical (execDescOutput ctx s) := by simp [execDescOutput, h]

@[simp] theorem execMatvec_canonical (ctx : Fin 64) (s : State) (h : Memory.wf s.mem = true) : LeavesCanonical (execMatvec ctx s) := by
  simp [execMatvec, h]

@[simp] theorem execSchedule_canonical (ctx : Fin 64) (s : State) (h : Memory.wf s.mem = true) :
    LeavesCanonical (execSchedule ctx s) := by simp [execSchedule, h]

@[simp] theorem execSend_canonical (ctx : Fin 64) (s : State) (h : Memory.wf s.mem = true) : LeavesCanonical (execSend ctx s) := by
  simp [execSend, h]

@[simp] theorem execCopy_canonical (ctx : Fin 64) (s : State) (h : Memory.wf s.mem = true) : LeavesCanonical (execCopy ctx s) := by
  simp [execCopy, h]

@[simp] theorem execConvert_canonical (ctx : Fin 64) (s : State) (h : Memory.wf s.mem = true) :
    LeavesCanonical (execConvert ctx s) := by simp [execConvert, h]

@[simp] theorem execEltwise_canonical (ctx : Fin 64) (s : State) (h : Memory.wf s.mem = true) :
    LeavesCanonical (execEltwise ctx s) := by simp [execEltwise, h]

@[simp] theorem execActivate_canonical (ctx : Fin 64) (s : State) (h : Memory.wf s.mem = true) :
    LeavesCanonical (execActivate ctx s) := by simp [execActivate, h]

@[simp] theorem execSoftmax_canonical (ctx : Fin 64) (s : State) (h : Memory.wf s.mem = true) :
    LeavesCanonical (execSoftmax ctx s) := by simp [execSoftmax, h]

@[simp] theorem execNorm_canonical (ctx : Fin 64) (s : State) (h : Memory.wf s.mem = true) : LeavesCanonical (execNorm ctx s) := by
  simp [execNorm, h]

@[simp] theorem execDigitalMatvec_canonical (ctx : Fin 64) (s : State) (h : Memory.wf s.mem = true) :
    LeavesCanonical (execDigitalMatvec ctx s) := by simp [execDigitalMatvec, h]

@[simp] theorem execRoutine_canonical (ctx : Fin 64) (s : State) (h : Memory.wf s.mem = true) :
    LeavesCanonical (execRoutine ctx s) := by simp [execRoutine, h]

@[simp] theorem execDescReservedOpcode_canonical (ctx : Fin 64) (s : State) (h : Memory.wf s.mem = true) :
    LeavesCanonical (execDescReservedOpcode ctx s) := by simp [execDescReservedOpcode, h]

@[simp] theorem execDescSync_canonical (ctx : Fin 64) (s : State) (h : Memory.wf s.mem = true) :
    LeavesCanonical (execDescSync ctx s) := by
  rw [execDescSync, leavesCanonical_next]
  split <;> simp [h]

@[simp] theorem execAdmissionPass_canonical (s : State) (h : Memory.wf s.mem = true) : LeavesCanonical (execAdmissionPass s) := by
  simp [execAdmissionPass, h]

@[simp] theorem execDeadlineRefusal_canonical (s : State) (h : Memory.wf s.mem = true) : LeavesCanonical (execDeadlineRefusal s) := by
  simp [execDeadlineRefusal, h]

/-! ### Machine/Ctx.lean -/

@[simp] theorem execCreate_canonical (ctx : Fin 64) (s : State) (h : Memory.wf s.mem = true) : LeavesCanonical (execCreate ctx s) := by
  simp [execCreate, h]

@[simp] theorem execAbort_canonical (ctx : Fin 64) (s : State) (h : Memory.wf s.mem = true) : LeavesCanonical (execAbort ctx s) := by
  simp [execAbort, h]

@[simp] theorem execRelease_canonical (ctx : Fin 64) (s : State) (h : Memory.wf s.mem = true) :
    LeavesCanonical (execRelease ctx s) := by simp [execRelease, h]

@[simp] theorem execReleaseDrained_canonical (ctx : Fin 64) (s : State) (h : Memory.wf s.mem = true) :
    LeavesCanonical (execReleaseDrained ctx s) := by simp [execReleaseDrained, h]

@[simp] theorem execSave_canonical (ctx : Fin 64) (s : State) (h : Memory.wf s.mem = true) : LeavesCanonical (execSave ctx s) := by
  simp [execSave, h]

@[simp] theorem execSaveQuiesced_canonical (ctx : Fin 64) (s : State) (h : Memory.wf s.mem = true) :
    LeavesCanonical (execSaveQuiesced ctx s) := by simp [execSaveQuiesced, h]

@[simp] theorem execRestore_canonical (ctx : Fin 64) (s : State) (h : Memory.wf s.mem = true) :
    LeavesCanonical (execRestore ctx s) := by simp [execRestore, h]

@[simp] theorem execDiscard_canonical (s : State) (h : Memory.wf s.mem = true) : LeavesCanonical (execDiscard s) := by simp [execDiscard, h]

@[simp] theorem execCtxReservedOp_canonical (op : BitVec 3) (ctx : Fin 64) (s : State) (h : Memory.wf s.mem = true) :
    LeavesCanonical (execCtxReservedOp op ctx s) := by simp [execCtxReservedOp, h]

/-! ### Machine/Journal.lean -/

@[simp] theorem execEraseAhead_canonical (s : State) (h : Memory.wf s.mem = true) : LeavesCanonical (execEraseAhead s) := by
  simp [execEraseAhead, h]

@[simp] theorem execJournalCommit_canonical (readbackBad : Bool) (s : State) (h : Memory.wf s.mem = true) :
    LeavesCanonical (execJournalCommit readbackBad s) := by simp [execJournalCommit, h]

/-! ### Machine/Metering.lean -/

@[simp] theorem execCalWrite_canonical (off : BitVec 12) (value : Word) (s : State) (h : Memory.wf s.mem = true) :
    LeavesCanonical (execCalWrite off value s) := by simp [execCalWrite, h]

@[simp] theorem execCalLock_canonical (s : State) (h : Memory.wf s.mem = true) : LeavesCanonical (execCalLock s) := by simp [execCalLock, h]

@[simp] theorem execFlowMeasurement_canonical (chan : Fin 2) (down up : Option Int) (s : State) (h : Memory.wf s.mem = true) :
    LeavesCanonical (execFlowMeasurement chan down up s) := by
  simp only [execFlowMeasurement, leavesCanonical_next]
  repeat' split
  all_goals simp [h]

@[simp] theorem execSwapBlockEnd_canonical (chan : Fin 2) (s : State) (h : Memory.wf s.mem = true) :
    LeavesCanonical (execSwapBlockEnd chan s) := by simp [execSwapBlockEnd, h]

@[simp] theorem execTempCycleEnd_canonical (sensors : Vector Rtd 4) (s : State) (h : Memory.wf s.mem = true) :
    LeavesCanonical (execTempCycleEnd sensors s) := by simp [execTempCycleEnd, h]

@[simp] theorem execFlowCycleEnd_canonical (s : State) (h : Memory.wf s.mem = true) : LeavesCanonical (execFlowCycleEnd s) := by
  simp [execFlowCycleEnd, h]

@[simp] theorem execRailSample_canonical (rails : Vector RailSample 4) (s : State) (h : Memory.wf s.mem = true) :
    LeavesCanonical (execRailSample rails s) := by
  simp only [execRailSample, leavesCanonical_next]
  repeat' split
  all_goals simp [h]

@[simp] theorem execIslandFrameMark_canonical (frame : BitVec 48) (s : State) (h : Memory.wf s.mem = true) :
    LeavesCanonical (execIslandFrameMark frame s) := by simp [execIslandFrameMark, h]

@[simp] theorem execBindingMessage_canonical (isOpen : Bool) (ctx : Fin 64) (tenant : BitVec 10) (_job : BitVec 16) (bench : Bool)
    (frame : BitVec 48) (s : State) (h : Memory.wf s.mem = true) :
    LeavesCanonical (execBindingMessage isOpen ctx tenant _job bench frame s) := by simp [execBindingMessage, h]

@[simp] theorem execContextMark_canonical (frame : BitVec 48) (frames : BitVec 9) (charges : List (Fin 64 × BitVec 24)) (s : State)
    (h : Memory.wf s.mem = true) : LeavesCanonical (execContextMark frame frames charges s) := by simp [execContextMark, h]

@[simp] theorem execMarkExpiry_canonical (s : State) (h : Memory.wf s.mem = true) : LeavesCanonical (execMarkExpiry s) := by
  simp only [execMarkExpiry, leavesCanonical_next]
  repeat' split
  all_goals simp [h]

@[simp] theorem execHeatSplit_canonical (s : State) (h : Memory.wf s.mem = true) : LeavesCanonical (execHeatSplit s) := by
  simp only [execHeatSplit, leavesCanonical_next]
  repeat' split
  all_goals simp [h]

@[simp] theorem execIntervalEnd_canonical (s : State) (h : Memory.wf s.mem = true) : LeavesCanonical (execIntervalEnd s) := by
  simp [execIntervalEnd, h]

@[simp] theorem execRtcSet_canonical (value : Word) (s : State) (h : Memory.wf s.mem = true) :
    LeavesCanonical (execRtcSet value s) := by simp [execRtcSet, h]

@[simp] theorem execRtcSecond_canonical (s : State) (h : Memory.wf s.mem = true) : LeavesCanonical (execRtcSecond s) := by
  simp [execRtcSecond, h]

@[simp] theorem execStandbyWake_canonical (_reason : Fin 3) (s : State) (h : Memory.wf s.mem = true) :
    LeavesCanonical (execStandbyWake _reason s) := by simp [execStandbyWake, h]

@[simp] theorem execMtrClrCounts_canonical (s : State) (h : Memory.wf s.mem = true) : LeavesCanonical (execMtrClrCounts s) := by
  simp [execMtrClrCounts, h]

/-! ### Machine/MBus.lean -/

@[simp] theorem execSndNke_canonical (rate : Fin 3) (addr : Byte) (s : State) (h : Memory.wf s.mem = true) :
    LeavesCanonical (execSndNke rate addr s) := by simp [execSndNke, h]

@[simp] theorem execReqUd2_canonical (rate : Fin 3) (addr : Byte) (fcb : Bool) (s : State) (h : Memory.wf s.mem = true) :
    LeavesCanonical (execReqUd2 rate addr fcb s) := by
  simp only [execReqUd2, leavesCanonical_next]
  repeat' split
  all_goals simp [h]

@[simp] theorem execReqUd1_canonical (rate : Fin 3) (addr : Byte) (s : State) (h : Memory.wf s.mem = true) :
    LeavesCanonical (execReqUd1 rate addr s) := by simp [execReqUd1, h]

@[simp] theorem execApplicationReset_canonical (rate : Fin 3) (addr : Byte) (s : State) (h : Memory.wf s.mem = true) :
    LeavesCanonical (execApplicationReset rate addr s) := by simp [execApplicationReset, h]

@[simp] theorem execSetPrimaryAddress_canonical (rate : Fin 3) (addr : Byte) (value : Byte) (s : State) (h : Memory.wf s.mem = true) :
    LeavesCanonical (execSetPrimaryAddress rate addr value s) := by simp [execSetPrimaryAddress, h]

@[simp] theorem execSelection_canonical (rate : Fin 3) (secondary : Vector Byte 8) (s : State) (h : Memory.wf s.mem = true) :
    LeavesCanonical (execSelection rate secondary s) := by simp [execSelection, h]

@[simp] theorem execSetBaudRate_canonical (rate : Fin 3) (addr : Byte) (ci : Byte) (s : State) (h : Memory.wf s.mem = true) :
    LeavesCanonical (execSetBaudRate rate addr ci s) := by simp [execSetBaudRate, h]

@[simp] theorem execMbusFrameDiscard_canonical (s : State) (h : Memory.wf s.mem = true) : LeavesCanonical (execMbusFrameDiscard s) := by
  simp [execMbusFrameDiscard, h]

/-! ### Machine/Island.lean -/

@[simp] theorem execBattLow_canonical (s : State) (h : Memory.wf s.mem = true) : LeavesCanonical (execBattLow s) := by simp [execBattLow, h]

@[simp] theorem execBattNewCell_canonical (s : State) (h : Memory.wf s.mem = true) : LeavesCanonical (execBattNewCell s) := by
  simp [execBattNewCell, h]

@[simp] theorem execVholdExhausted_canonical (s : State) (h : Memory.wf s.mem = true) : LeavesCanonical (execVholdExhausted s) := by
  simp [execVholdExhausted, h]

@[simp] theorem execIslandBoot_canonical (s : State) (h : Memory.wf s.mem = true) : LeavesCanonical (execIslandBoot s) := by
  simp [execIslandBoot, h]

@[simp] theorem execBudgetSample_canonical (vbat : BitVec 16) (vhold : BitVec 16) (mah : BitVec 8) (s : State)
    (h : Memory.wf s.mem = true) : LeavesCanonical (execBudgetSample vbat vhold mah s) := by simp [execBudgetSample, h]

@[simp] theorem execMboxUnknownCommand_canonical (ch : Fin 2) (s : State) (h : Memory.wf s.mem = true) :
    LeavesCanonical (execMboxUnknownCommand ch s) := by simp [execMboxUnknownCommand, h]

@[simp] theorem execGetInfo_canonical (ch : Fin 2) (s : State) (h : Memory.wf s.mem = true) : LeavesCanonical (execGetInfo ch s) := by
  rw [execGetInfo, leavesCanonical_next, State.mboxServe_sameMem]
  · exact h
  · intro b u
    rfl

@[simp] theorem execRegRead_canonical (ch : Fin 2) (s : State) (h : Memory.wf s.mem = true) : LeavesCanonical (execRegRead ch s) := by
  rw [execRegRead, leavesCanonical_next, State.mboxServe_sameMem]
  · exact h
  · intro b u
    split <;> simp

@[simp] theorem execRegWrite_canonical (ch : Fin 2) (s : State) (h : Memory.wf s.mem = true) : LeavesCanonical (execRegWrite ch s) := by
  rw [execRegWrite, leavesCanonical_next, State.mboxServe_sameMem]
  · exact h
  · intro b u
    split <;> simp

@[simp] theorem execFwWrite_canonical (ch : Fin 2) (s : State) (h : Memory.wf s.mem = true) : LeavesCanonical (execFwWrite ch s) := by
  have hsess : ∀ (u : State) x y, ({ u with isl := { u.isl with sessions := x, copySeq := y } } : State).mem = u.mem := fun _ _ _ => rfl
  rw [execFwWrite, leavesCanonical_next]
  split
  · exact h
  · rw [State.mboxServe_sameMem]
    · exact h
    · intro b u
      dsimp only
      split_ifs
      · exact u.journalFirst_sameMem
      all_goals
        simp only [State.fwErase_sameMem, State.fwProgram_sameMem]
        exact (hsess _ _ _).trans u.journalFirst_sameMem

@[simp] theorem execFwCommit_canonical (ch : Fin 2) (s : State) (h : Memory.wf s.mem = true) : LeavesCanonical (execFwCommit ch s) := by
  rw [execFwCommit, leavesCanonical_next, State.mboxServe_sameMem]
  · exact h
  · intro b u
    dsimp only
    split_ifs
    · rfl
    · rfl
    · split
      · exact State.flashSeen_sameMem _
      · exact State.flashSeen_sameMem _

@[simp] theorem execSealAdvance_canonical (ch : Fin 2) (s : State) (h : Memory.wf s.mem = true) :
    LeavesCanonical (execSealAdvance ch s) := by
  rw [execSealAdvance, leavesCanonical_next, State.mboxServe_sameMem]
  · exact h
  · intro b u
    dsimp only
    split_ifs
    · rfl
    · rfl
    · rfl
    · split <;> rfl

@[simp] theorem execRevoke_canonical (ch : Fin 2) (s : State) (h : Memory.wf s.mem = true) : LeavesCanonical (execRevoke ch s) := by
  rw [execRevoke, leavesCanonical_next, State.mboxServe_sameMem]
  · exact h
  · intro b u
    dsimp only
    split_ifs
    · rfl
    · split <;> rfl
    · rfl
    · split <;> rfl

@[simp] theorem execProvision_canonical (ch : Fin 2) (s : State) (h : Memory.wf s.mem = true) :
    LeavesCanonical (execProvision ch s) := by
  rw [execProvision, leavesCanonical_next, State.mboxServe_sameMem]
  · exact h
  · intro b u
    dsimp only
    split_ifs <;> rfl

@[simp] theorem execIslClrCounts_canonical (s : State) (h : Memory.wf s.mem = true) : LeavesCanonical (execIslClrCounts s) := by
  simp [execIslClrCounts, h]

/-! ### Machine/Power.lean -/

@[simp] theorem execEnableFall_canonical (s : State) (h : Memory.wf s.mem = true) : LeavesCanonical (execEnableFall s) := by
  simp [execEnableFall, h]

@[simp] theorem execRailFallTimeout_canonical (rail : Fin 6) (mv : BitVec 16) (s : State) (h : Memory.wf s.mem = true) :
    LeavesCanonical (execRailFallTimeout rail mv s) := by simp [execRailFallTimeout, h]

@[simp] theorem execVauxInRange_canonical (unexpected : BitVec 6) (s : State) (h : Memory.wf s.mem = true) :
    LeavesCanonical (execVauxInRange unexpected s) := by simp [execVauxInRange, h]

@[simp] theorem execRcStartTimeout_canonical (s : State) (h : Memory.wf s.mem = true) : LeavesCanonical (execRcStartTimeout s) := by
  simp [execRcStartTimeout, h]

@[simp] theorem execEnVioRise_canonical (s : State) (h : Memory.wf s.mem = true) : LeavesCanonical (execEnVioRise s) := by
  simp [execEnVioRise, h]

@[simp] theorem execEnableRise_canonical (s : State) (h : Memory.wf s.mem = true) : LeavesCanonical (execEnableRise s) := by
  simp [execEnableRise, h]

@[simp] theorem execRailGood_canonical (rail : Fin 6) (s : State) (h : Memory.wf s.mem = true) :
    LeavesCanonical (execRailGood rail s) := by simp [execRailGood, h]

@[simp] theorem execRailUnexpected_canonical (rail : Fin 6) (mv : BitVec 16) (s : State) (h : Memory.wf s.mem = true) :
    LeavesCanonical (execRailUnexpected rail mv s) := by simp [execRailUnexpected, h]

@[simp] theorem execPerstRelease_canonical (balls : Straps) (s : State) (h : Memory.wf s.mem = true) :
    LeavesCanonical (execPerstRelease balls s) := by simp [execPerstRelease, h]

@[simp] theorem execPerstAssert_canonical (s : State) (h : Memory.wf s.mem = true) : LeavesCanonical (execPerstAssert s) := by
  simp [execPerstAssert, h]

@[simp] theorem execDawnPllsLocked_canonical (s : State) (h : Memory.wf s.mem = true) : LeavesCanonical (execDawnPllsLocked s) := by
  simp [execDawnPllsLocked, h]

@[simp] theorem execIslandHandshake_canonical (s : State) (h : Memory.wf s.mem = true) : LeavesCanonical (execIslandHandshake s) := by
  simp [execIslandHandshake, h]

@[simp] theorem execDramLinkTrained_canonical (s : State) (h : Memory.wf s.mem = true) : LeavesCanonical (execDramLinkTrained s) := by
  simp [execDramLinkTrained, h]

@[simp] theorem execDramInitDone_canonical (s : State) (h : Memory.wf s.mem = true) : LeavesCanonical (execDramInitDone s) := by
  simp [execDramInitDone, h]

@[simp] theorem execDataWindowCleared_canonical (s : State) (h : Memory.wf s.mem = true) :
    LeavesCanonical (execDataWindowCleared s) := by simp [execDataWindowCleared, h]

@[simp] theorem execStage2Checked_canonical (s : State) (h : Memory.wf s.mem = true) : LeavesCanonical (execStage2Checked s) := by
  simp only [execStage2Checked, leavesCanonical_next]
  repeat' split
  all_goals simp [h]

@[simp] theorem execArrayLinkTrained_canonical (die : Fin 4) (faulty : BitVec 64) (s : State) (h : Memory.wf s.mem = true) :
    LeavesCanonical (execArrayLinkTrained die faulty s) := by
  have hlink : ∀ (u : State) x, Memory.wf u.mem = true →
      Memory.wf ({ u with pwr := { u.pwr with arrayLink := x } } : State).mem = true := fun _ _ hu => hu
  have htiles : ∀ (l : List Nat) (u : State), Memory.wf u.mem = true → Memory.wf (l.foldl (fun v k =>
      let t := 64 * die.val + k
      v.setTile t { v.tile t with faulty := faulty.getLsbD k, trims := [] }) u).mem = true :=
    fun l u hu => State.wf_foldl (fun v k hv => by rwa [State.setTile_sameMem]) l u hu
  have hall := hlink s (s.pwr.arrayLink ||| BitVec.twoPow 4 die.val) h
  have herase : ∀ u : State, Memory.wf u.mem = true → Memory.wf (u.eraseAtTraining die.val).mem = true :=
    fun u hu => by rwa [State.eraseAtTraining_sameMem]
  simp only [execArrayLinkTrained, leavesCanonical_next]
  split_ifs
  · exact h
  · exact herase _ (htiles _ _ hall)
  · rw [State.setStep_sameMem]
    exact herase _ (htiles _ _ hall)
  · exact State.phaseBEnd_wf _ (herase _ (htiles _ _ hall))

@[simp] theorem execPatchChecked_canonical (s : State) (h : Memory.wf s.mem = true) : LeavesCanonical (execPatchChecked s) := by
  simp only [execPatchChecked, leavesCanonical_next]
  repeat' split
  all_goals simp [h]

@[simp] theorem execDawnTimeout_canonical (s : State) (h : Memory.wf s.mem = true) : LeavesCanonical (execDawnTimeout s) := by
  simp only [execDawnTimeout, leavesCanonical_next]
  repeat' split
  all_goals simp [h]

@[simp] theorem execDawnRetry_canonical (unexpected : BitVec 6) (s : State) (h : Memory.wf s.mem = true) :
    LeavesCanonical (execDawnRetry unexpected s) := by simp [execDawnRetry, h]

@[simp] theorem execDuskRestart_canonical (unexpected : BitVec 6) (s : State) (h : Memory.wf s.mem = true) :
    LeavesCanonical (execDuskRestart unexpected s) := by simp [execDuskRestart, h]

@[simp] theorem execPowerFault_canonical (rail : Fin 6) (mv : BitVec 16) (s : State) (h : Memory.wf s.mem = true) :
    LeavesCanonical (execPowerFault rail mv s) := by simp [execPowerFault, h]

@[simp] theorem execVauxLoss_canonical (s : State) (h : Memory.wf s.mem = true) : LeavesCanonical (execVauxLoss s) := by
  simp [execVauxLoss, h]

@[simp] theorem execWarmReset_canonical (key : BitVec 16) (s : State) (h : Memory.wf s.mem = true) :
    LeavesCanonical (execWarmReset key s) := by simp [execWarmReset, h]

@[simp] theorem execDuskRequest_canonical (key : BitVec 16) (restart : Bool) (s : State) (h : Memory.wf s.mem = true) :
    LeavesCanonical (execDuskRequest key restart s) := by simp [execDuskRequest, h]

@[simp] theorem execWarmResetDone_canonical (s : State) (h : Memory.wf s.mem = true) : LeavesCanonical (execWarmResetDone s) := by
  simp [execWarmResetDone, h]

@[simp] theorem execQuiesceDone_canonical (s : State) (h : Memory.wf s.mem = true) : LeavesCanonical (execQuiesceDone s) := by
  rw [execQuiesceDone, leavesCanonical_next]
  split <;> simp [h]

@[simp] theorem execQuiesceDeadline_canonical (s : State) (h : Memory.wf s.mem = true) : LeavesCanonical (execQuiesceDeadline s) := by
  rw [execQuiesceDeadline, leavesCanonical_next]
  split <;> simp [h]

@[simp] theorem execDuskCommitDone_canonical (s : State) (h : Memory.wf s.mem = true) : LeavesCanonical (execDuskCommitDone s) := by
  rw [execDuskCommitDone, leavesCanonical_next]
  split <;> simp [h]

@[simp] theorem execIslandLinkLoss_canonical (s : State) (h : Memory.wf s.mem = true) : LeavesCanonical (execIslandLinkLoss s) := by
  simp [execIslandLinkLoss, h]

@[simp] theorem execPwrAckDawn_canonical (s : State) (h : Memory.wf s.mem = true) : LeavesCanonical (execPwrAckDawn s) := by
  simp [execPwrAckDawn, h]

@[simp] theorem execPwrAckStop_canonical (s : State) (h : Memory.wf s.mem = true) : LeavesCanonical (execPwrAckStop s) := by
  simp [execPwrAckStop, h]

/-! ### Machine/Horizon.lean -/

@[simp] theorem execHznActivity_canonical (s : State) (h : Memory.wf s.mem = true) : LeavesCanonical (execHznActivity s) := by
  simp [execHznActivity, h]

@[simp] theorem execHznEdgeLoss_canonical (s : State) (h : Memory.wf s.mem = true) : LeavesCanonical (execHznEdgeLoss s) := by
  simp only [execHznEdgeLoss, leavesCanonical_next]
  repeat' split
  all_goals simp [h]

@[simp] theorem execHznPllLock_canonical (s : State) (h : Memory.wf s.mem = true) : LeavesCanonical (execHznPllLock s) := by
  simp [execHznPllLock, h]

@[simp] theorem execHznPllUnlock_canonical (s : State) (h : Memory.wf s.mem = true) : LeavesCanonical (execHznPllUnlock s) := by
  simp [execHznPllUnlock, h]

@[simp] theorem execAcquireTimeout_canonical (s : State) (h : Memory.wf s.mem = true) : LeavesCanonical (execAcquireTimeout s) := by
  simp [execAcquireTimeout, h]

@[simp] theorem execHznRxDisable_canonical (s : State) (h : Memory.wf s.mem = true) : LeavesCanonical (execHznRxDisable s) := by
  simp [execHznRxDisable, h]

@[simp] theorem execHznRxEnable_canonical (s : State) (h : Memory.wf s.mem = true) : LeavesCanonical (execHznRxEnable s) := by
  simp [execHznRxEnable, h]

@[simp] theorem execHznClrCounts_canonical (s : State) (h : Memory.wf s.mem = true) : LeavesCanonical (execHznClrCounts s) := by
  simp [execHznClrCounts, h]

@[simp] theorem execGapStart_canonical (frames : BitVec 7) (s : State) (h : Memory.wf s.mem = true) :
    LeavesCanonical (execGapStart frames s) := by simp [execGapStart, h]

@[simp] theorem execFrameMark_canonical (dev : Int) (gap : Bool) (s : State) (h : Memory.wf s.mem = true) :
    LeavesCanonical (execFrameMark dev gap s) := by
  simp only [execFrameMark, leavesCanonical_next]
  repeat' split
  all_goals simp [h]

@[simp] theorem execSuperframeNumber_canonical (number : BitVec 48) (crc : BitVec 16) (s : State) (h : Memory.wf s.mem = true) :
    LeavesCanonical (execSuperframeNumber number crc s) := by simp [execSuperframeNumber, h]

theorem State.message_wf (s : State) (m : List Byte) (row : Nat → Bool) {take : State → State}
    (htake : Memory.wf (take s).mem = true) (h : Memory.wf s.mem = true) : Memory.wf (s.message m row take).mem = true := by
  unfold State.message
  split_ifs
  · exact h
  · rwa [State.setHzn_sameMem]
  · rwa [State.count_sameMem]
  · exact htake

@[simp] theorem execAssignMessage_canonical (msg : Vector Byte 32) (s : State) (h : Memory.wf s.mem = true) :
    LeavesCanonical (execAssignMessage msg s) := by
  rw [execAssignMessage, leavesCanonical_next]
  exact s.message_wf _ _ (s.assignIn_wf _ h) h

@[simp] theorem execDelayMessage_canonical (msg : Vector Byte 32) (s : State) (h : Memory.wf s.mem = true) :
    LeavesCanonical (execDelayMessage msg s) := by
  rw [execDelayMessage, leavesCanonical_next]
  exact s.message_wf _ _ (s.delayIn_wf _ h) h

@[simp] theorem execStatusMessage_canonical (msg : Vector Byte 32) (s : State) (h : Memory.wf s.mem = true) :
    LeavesCanonical (execStatusMessage msg s) := by
  rw [execStatusMessage, leavesCanonical_next]
  exact s.message_wf _ _ (by rwa [State.statusIn_sameMem]) h

@[simp] theorem execUnknownMessage_canonical (msg : Vector Byte 32) (s : State) (h : Memory.wf s.mem = true) :
    LeavesCanonical (execUnknownMessage msg s) := by
  rw [execUnknownMessage, leavesCanonical_next]
  exact s.message_wf _ _ (by rwa [State.count_sameMem]) h

@[simp] theorem execSymbolError_canonical (tick : BitVec 11) (s : State) (h : Memory.wf s.mem = true) :
    LeavesCanonical (execSymbolError tick s) := by simp [execSymbolError, h]

@[simp] theorem execLocalFrameMark_canonical (s : State) (h : Memory.wf s.mem = true) : LeavesCanonical (execLocalFrameMark s) := by
  simp only [execLocalFrameMark, leavesCanonical_next]
  split
  · exact h
  · refine State.markWork_wf _ ?_
    rw [State.frameEnded_sameMem, State.slewStep_sameMem]
    refine State.countFrame_wf _ (State.hznMark_wf _ ?_)
    rwa [State.setHzn_sameMem]

/-! ### Machine/Clocks.lean -/

@[simp] theorem execHrefclkLoss_canonical (s : State) (h : Memory.wf s.mem = true) : LeavesCanonical (execHrefclkLoss s) := by
  have href : ∀ u : State, Memory.wf u.mem = true →
      Memory.wf ({ u with clk := { u.clk with refPresent := false } } : State).mem = true := fun _ hu => hu
  have hdown : ∀ (l : List Nat) (u : State), Memory.wf u.mem = true → Memory.wf (l.foldl State.pllDown u).mem = true :=
    fun l u hu => State.wf_foldl (fun v n hv => v.pllDown_wf n hv) l u hu
  have hloss : ∀ u : State, Memory.wf u.mem = true → Memory.wf ((u.count R.CLK_CNT_ref_losses 1).raiseClk 0).mem = true :=
    fun u hu => by rwa [State.raiseClk_sameMem, State.count_sameMem]
  simp only [execHrefclkLoss, leavesCanonical_next]
  split_ifs
  · exact h
  · exact href s h
  · exact State.dawnFail_wf _ _ _ (hloss _ (href s h))
  · exact State.pllDown_wf _ _ (hdown _ _ (hloss _ (href s h)))
  · exact hdown _ _ (hloss _ (href s h))

@[simp] theorem execHrefclkRestore_canonical (s : State) (h : Memory.wf s.mem = true) : LeavesCanonical (execHrefclkRestore s) := by
  simp [execHrefclkRestore, h]

@[simp] theorem execPllUnlock_canonical (pll : Fin 8) (s : State) (h : Memory.wf s.mem = true) :
    LeavesCanonical (execPllUnlock pll s) := by simp [execPllUnlock, h]

@[simp] theorem execPllLock_canonical (pll : Fin 8) (s : State) (h : Memory.wf s.mem = true) : LeavesCanonical (execPllLock pll s) := by
  simp [execPllLock, h]

@[simp] theorem execRelockAttempt_canonical (pll : Fin 8) (s : State) (h : Memory.wf s.mem = true) :
    LeavesCanonical (execRelockAttempt pll s) := by simp [execRelockAttempt, h]

@[simp] theorem execClkGateRequest_canonical (blk : Fin 15) (s : State) (h : Memory.wf s.mem = true) :
    LeavesCanonical (execClkGateRequest blk s) := by simp [execClkGateRequest, h]

@[simp] theorem execClkUngate_canonical (blk : Fin 15) (s : State) (h : Memory.wf s.mem = true) :
    LeavesCanonical (execClkUngate blk s) := by simp [execClkUngate, h]

@[simp] theorem execClkUngateDone_canonical (blk : Fin 15) (s : State) (h : Memory.wf s.mem = true) :
    LeavesCanonical (execClkUngateDone blk s) := by simp [execClkUngateDone, h]

@[simp] theorem execClkobsSelect_canonical (value : Word) (s : State) (h : Memory.wf s.mem = true) :
    LeavesCanonical (execClkobsSelect value s) := by simp [execClkobsSelect, h]

@[simp] theorem execClkClrCounts_canonical (s : State) (h : Memory.wf s.mem = true) : LeavesCanonical (execClkClrCounts s) := by
  simp [execClkClrCounts, h]

@[simp] theorem execTrimWindowEnd_canonical (count : BitVec 24) (srcFailed : Bool) (s : State) (h : Memory.wf s.mem = true) :
    LeavesCanonical (execTrimWindowEnd count srcFailed s) := by simp [execTrimWindowEnd, h]

@[simp] theorem execXtalFail_canonical (s : State) (h : Memory.wf s.mem = true) : LeavesCanonical (execXtalFail s) := by
  simp only [execXtalFail, leavesCanonical_next]
  split_ifs <;> simp [h]

@[simp] theorem execXtalRecover_canonical (s : State) (h : Memory.wf s.mem = true) : LeavesCanonical (execXtalRecover s) := by
  simp [execXtalRecover, h]

/-! ### Machine/Restart.lean -/

@[simp] theorem execFwActivate_canonical (ch : Fin 2) (s : State) (h : Memory.wf s.mem = true) :
    LeavesCanonical (execFwActivate ch s) := by
  have ht : (s.mboxServe ch 0x12 (fun n => n == 0) (fun _ t => (0, [], t.commitPending false))).mem = s.mem :=
    State.mboxServe_sameMem _ _ _ _ fun _ u => u.commitPending_sameMem false
  simp only [execFwActivate, leavesCanonical_next]
  split
  · exact State.islandRestart_wf _ (by rwa [ht])
  · rwa [ht]

@[simp] theorem execMassErase_canonical (s : State) (h : Memory.wf s.mem = true) : LeavesCanonical (execMassErase s) := by
  simp [execMassErase, h]

/-! ### Machine/HostPort.lean -/

@[simp] theorem execHostLinkUp_canonical (half : Fin 2) (rate : BitVec 2) (width : BitVec 5) (protocol : BitVec 2) (s : State)
    (h : Memory.wf s.mem = true) : LeavesCanonical (execHostLinkUp half rate width protocol s) := by simp [execHostLinkUp, h]

@[simp] theorem execHostLinkDown_canonical (half : Fin 2) (s : State) (h : Memory.wf s.mem = true) :
    LeavesCanonical (execHostLinkDown half s) := by simp [execHostLinkDown, h]

@[simp] theorem execHotReset_canonical (half : Fin 2) (s : State) (h : Memory.wf s.mem = true) :
    LeavesCanonical (execHotReset half s) := by simp [execHotReset, h]

@[simp] theorem execIdeFail_canonical (half : Fin 2) (s : State) (h : Memory.wf s.mem = true) :
    LeavesCanonical (execIdeFail half s) := by simp [execIdeFail, h]

@[simp] theorem execFlr_canonical (half : Fin 2) (s : State) (h : Memory.wf s.mem = true) : LeavesCanonical (execFlr half s) := by
  simp [execFlr, h]

@[simp] theorem execCxlReset_canonical (half : Fin 2) (s : State) (h : Memory.wf s.mem = true) :
    LeavesCanonical (execCxlReset half s) := by simp [execCxlReset, h]

@[simp] theorem execCxlResetDone_canonical (s : State) (h : Memory.wf s.mem = true) : LeavesCanonical (execCxlResetDone s) := by
  simp [execCxlResetDone, h]

@[simp] theorem execPowerStateChange_canonical (half : Fin 2) (d3 : Bool) (s : State) (h : Memory.wf s.mem = true) :
    LeavesCanonical (execPowerStateChange half d3 s) := by simp [execPowerStateChange, h]

@[simp] theorem execConfigRequest_canonical (half : Fin 2) (req : CfgReq) (s : State) (h : Memory.wf s.mem = true) :
    LeavesCanonical (execConfigRequest half req s) := by simp [execConfigRequest, h]

@[simp] theorem execHdmCommit_canonical (half : Fin 2) (dec : Fin 4) (base size skip : BitVec 52) (ways : BitVec 4) (s : State)
    (h : Memory.wf s.mem = true) : LeavesCanonical (execHdmCommit half dec base size skip ways s) := by simp [execHdmCommit, h]

@[simp] theorem execCxlMemRead_canonical (half : Fin 2) (hpa : BitVec 52) (ecc : BitVec 2) (s : State) (h : Memory.wf s.mem = true) :
    LeavesCanonical (execCxlMemRead half hpa ecc s) := by
  simp only [execCxlMemRead, leavesCanonical_next]
  repeat' split
  all_goals simp [h]

@[simp] theorem execCxlMemWrite_canonical (half : Fin 2) (hpa : BitVec 52) (data : Line) (be : BitVec 64) (poison : Bool) (s : State)
    (h : Memory.wf s.mem = true) : LeavesCanonical (execCxlMemWrite half hpa data be poison s) := by simp [execCxlMemWrite, h]

@[simp] theorem execIdentify_canonical (half : Fin 2) (s : State) (h : Memory.wf s.mem = true) :
    LeavesCanonical (execIdentify half s) := by simp [execIdentify, h]

@[simp] theorem execGetEventRecords_canonical (half : Fin 2) (log : Fin 4) (s : State) (h : Memory.wf s.mem = true) :
    LeavesCanonical (execGetEventRecords half log s) := by simp [execGetEventRecords, h]

@[simp] theorem execClearEventRecords_canonical (half : Fin 2) (log : Fin 4) (handles : List (BitVec 16)) (s : State)
    (h : Memory.wf s.mem = true) : LeavesCanonical (execClearEventRecords half log handles s) := by simp [execClearEventRecords, h]

@[simp] theorem execGetEventInterruptPolicy_canonical (half : Fin 2) (s : State) (h : Memory.wf s.mem = true) :
    LeavesCanonical (execGetEventInterruptPolicy half s) := by simp [execGetEventInterruptPolicy, h]

@[simp] theorem execSetEventInterruptPolicy_canonical (half : Fin 2) (policy : Vector Byte 4) (s : State) (h : Memory.wf s.mem = true) :
    LeavesCanonical (execSetEventInterruptPolicy half policy s) := by simp [execSetEventInterruptPolicy, h]

@[simp] theorem execGetFwInfo_canonical (half : Fin 2) (s : State) (h : Memory.wf s.mem = true) :
    LeavesCanonical (execGetFwInfo half s) := by simp [execGetFwInfo, h]

@[simp] theorem execGetTimestamp_canonical (half : Fin 2) (s : State) (h : Memory.wf s.mem = true) :
    LeavesCanonical (execGetTimestamp half s) := by simp [execGetTimestamp, h]

@[simp] theorem execSetTimestamp_canonical (half : Fin 2) (ns : Word64) (s : State) (h : Memory.wf s.mem = true) :
    LeavesCanonical (execSetTimestamp half ns s) := by simp [execSetTimestamp, h]

@[simp] theorem execGetSupportedLogs_canonical (half : Fin 2) (s : State) (h : Memory.wf s.mem = true) :
    LeavesCanonical (execGetSupportedLogs half s) := by simp [execGetSupportedLogs, h]

@[simp] theorem execGetLog_canonical (half : Fin 2) (cel : Bool) (start length : BitVec 16) (s : State) (h : Memory.wf s.mem = true) :
    LeavesCanonical (execGetLog half cel start length s) := by
  rw [execGetLog, leavesCanonical_next]
  split <;> simp [h]

@[simp] theorem execIdentifyMemoryDevice_canonical (half : Fin 2) (s : State) (h : Memory.wf s.mem = true) :
    LeavesCanonical (execIdentifyMemoryDevice half s) := by simp [execIdentifyMemoryDevice, h]

@[simp] theorem execGetPartitionInfo_canonical (half : Fin 2) (s : State) (h : Memory.wf s.mem = true) :
    LeavesCanonical (execGetPartitionInfo half s) := by simp [execGetPartitionInfo, h]

@[simp] theorem execGetHealthInfo_canonical (half : Fin 2) (s : State) (h : Memory.wf s.mem = true) :
    LeavesCanonical (execGetHealthInfo half s) := by simp [execGetHealthInfo, h]

@[simp] theorem execGetPoisonList_canonical (half : Fin 2) (addr : BitVec 40) (lines : BitVec 32) (s : State)
    (h : Memory.wf s.mem = true) : LeavesCanonical (execGetPoisonList half addr lines s) := by simp [execGetPoisonList, h]

@[simp] theorem execCxlMboxUnsupported_canonical (half : Fin 2) (opcode : BitVec 16) (s : State) (h : Memory.wf s.mem = true) :
    LeavesCanonical (execCxlMboxUnsupported half opcode s) := by simp [execCxlMboxUnsupported, h]

@[simp] theorem execMsixVectorUnmask_canonical (half : Fin 2) (vector : Fin 64) (s : State) (h : Memory.wf s.mem = true) :
    LeavesCanonical (execMsixVectorUnmask half vector s) := by simp [execMsixVectorUnmask, h]

@[simp] theorem execHostReq_canonical (s : State) (h : Memory.wf s.mem = true) : LeavesCanonical (execHostReq s) := by simp [execHostReq, h]

@[simp] theorem execHostClrCounts_canonical (s : State) (h : Memory.wf s.mem = true) : LeavesCanonical (execHostClrCounts s) := by
  simp [execHostClrCounts, h]

/-! ### Machine/Spdm.lean -/

@[simp] theorem execDoeDiscovery_canonical (half : Fin 2) (index : Byte) (s : State) (h : Memory.wf s.mem = true) :
    LeavesCanonical (execDoeDiscovery half index s) := by simp [execDoeDiscovery, h]

@[simp] theorem execCdatRead_canonical (half : Fin 2) (s : State) (h : Memory.wf s.mem = true) :
    LeavesCanonical (execCdatRead half s) := by simp [execCdatRead, h]

@[simp] theorem execSpdmNegotiate_canonical (half : Fin 2) (version : BitVec 8) (algorithms : Bool) (s : State)
    (h : Memory.wf s.mem = true) : LeavesCanonical (execSpdmNegotiate half version algorithms s) := by simp [execSpdmNegotiate, h]

@[simp] theorem execGetDigests_canonical (half : Fin 2) (s : State) (h : Memory.wf s.mem = true) :
    LeavesCanonical (execGetDigests half s) := by simp [execGetDigests, h]

@[simp] theorem execGetCertificate_canonical (half : Fin 2) (slot : BitVec 4) (start length : BitVec 16) (s : State)
    (h : Memory.wf s.mem = true) : LeavesCanonical (execGetCertificate half slot start length s) := by simp [execGetCertificate, h]

@[simp] theorem execChallenge_canonical (half : Fin 2) (slot : BitVec 4) (nonce : Vector Byte 32) (s : State)
    (h : Memory.wf s.mem = true) : LeavesCanonical (execChallenge half slot nonce s) := by simp [execChallenge, h]

@[simp] theorem execGetMeasurements_canonical (half : Fin 2) (index : BitVec 8) (nonce : Vector Byte 32) (s : State)
    (h : Memory.wf s.mem = true) : LeavesCanonical (execGetMeasurements half index nonce s) := by simp [execGetMeasurements, h]

@[simp] theorem execKeyExchange_canonical (half : Fin 2) (exchange : List Byte) (s : State) (h : Memory.wf s.mem = true) :
    LeavesCanonical (execKeyExchange half exchange s) := by simp [execKeyExchange, h]

@[simp] theorem execFinish_canonical (half : Fin 2) (session : BitVec 16) (verified : Bool) (s : State) (h : Memory.wf s.mem = true) :
    LeavesCanonical (execFinish half session verified s) := by
  rw [execFinish, leavesCanonical_next]
  refine s.spdm_wf half ?_ h
  split
  · simp [h]
  · split <;> simp [h]

@[simp] theorem execKeyUpdate_canonical (half : Fin 2) (session : BitVec 16) (s : State) (h : Memory.wf s.mem = true) :
    LeavesCanonical (execKeyUpdate half session s) := by simp [execKeyUpdate, h]

@[simp] theorem execEndSession_canonical (half : Fin 2) (session : BitVec 16) (s : State) (h : Memory.wf s.mem = true) :
    LeavesCanonical (execEndSession half session s) := by simp [execEndSession, h]

@[simp] theorem execKeyProg_canonical (half : Fin 2) (session : BitVec 16) (mem : Bool) (_key : BitVec 256) (s : State)
    (h : Memory.wf s.mem = true) : LeavesCanonical (execKeyProg half session mem _key s) := by simp [execKeyProg, h]

@[simp] theorem execKSetGo_canonical (half : Fin 2) (session : BitVec 16) (mem : Bool) (s : State) (h : Memory.wf s.mem = true) :
    LeavesCanonical (execKSetGo half session mem s) := by simp [execKSetGo, h]

/-! ### Machine/Thermal.lean -/

@[simp] theorem execHousekeepingRound_canonical (diodes : Vector (Option Int) 8) (biasOk : BitVec 4) (railGood : BitVec 6) (s : State)
    (h : Memory.wf s.mem = true) : LeavesCanonical (execHousekeepingRound diodes biasOk railGood s) := by
  simp only [execHousekeepingRound, leavesCanonical_next]
  repeat' split
  all_goals simp [h]

@[simp] theorem execThmThrWrite_canonical (rate : Bool) (value : Word) (s : State) (h : Memory.wf s.mem = true) :
    LeavesCanonical (execThmThrWrite rate value s) := by simp [execThmThrWrite, h]

@[simp] theorem execThmPairWrite_canonical (pair : Fin 9) (value : Word) (s : State) (h : Memory.wf s.mem = true) :
    LeavesCanonical (execThmPairWrite pair value s) := by simp [execThmPairWrite, h]

@[simp] theorem execThmLock_canonical (s : State) (h : Memory.wf s.mem = true) : LeavesCanonical (execThmLock s) := by simp [execThmLock, h]

@[simp] theorem execThmClrCounts_canonical (s : State) (h : Memory.wf s.mem = true) : LeavesCanonical (execThmClrCounts s) := by
  simp [execThmClrCounts, h]

/-! ### Machine/View.lean -/

@[simp] theorem execLoWordRead_canonical (half : Fin 2) (off : BitVec 22) (s : State) (h : Memory.wf s.mem = true) :
    LeavesCanonical (execLoWordRead half off s) := by simp [execLoWordRead, h]

/-! ### Machine/RegWrite.lean -/

@[simp] theorem execRegisterWrite_canonical (half : Fin 2) (off : BitVec 22) (value : Word) (s : State) (h : Memory.wf s.mem = true) :
    LeavesCanonical (execRegisterWrite half off value s) := by simp [execRegisterWrite, h]

@[simp] theorem execEventEnableWrite_canonical (half : Fin 2) (off : BitVec 22) (value : Word) (s : State) (h : Memory.wf s.mem = true) :
    LeavesCanonical (execEventEnableWrite half off value s) := by simp [execEventEnableWrite, h]

@[simp] theorem execMisalignedAccess_canonical (half : Fin 2) (off : BitVec 22) (write : Bool) (s : State) (h : Memory.wf s.mem = true) :
    LeavesCanonical (execMisalignedAccess half off write s) := by simp [execMisalignedAccess, h]

/-! ### Machine/Sideband.lean -/

@[simp] theorem execSbIdentity_canonical (s : State) (h : Memory.wf s.mem = true) : LeavesCanonical (execSbIdentity s) := by
  simp [execSbIdentity, h]

@[simp] theorem execSbRead_canonical (off : Word) (s : State) (h : Memory.wf s.mem = true) : LeavesCanonical (execSbRead off s) := by
  simp [execSbRead, h]

@[simp] theorem execSbWrite_canonical (off : Word) (value : Word) (pecOk : Bool) (s : State) (h : Memory.wf s.mem = true) :
    LeavesCanonical (execSbWrite off value pecOk s) := by simp [execSbWrite, h]

@[simp] theorem execSbLastStatus_canonical (s : State) (h : Memory.wf s.mem = true) : LeavesCanonical (execSbLastStatus s) := by
  simp [execSbLastStatus, h]

@[simp] theorem execSbUnknownCommand_canonical (code : Byte) (s : State) (h : Memory.wf s.mem = true) :
    LeavesCanonical (execSbUnknownCommand code s) := by simp [execSbUnknownCommand, h]

@[simp] theorem execAlertResponse_canonical (s : State) (h : Memory.wf s.mem = true) : LeavesCanonical (execAlertResponse s) := by
  simp [execAlertResponse, h]

@[simp] theorem execSbSclTimeout_canonical (s : State) (h : Memory.wf s.mem = true) : LeavesCanonical (execSbSclTimeout s) := by
  simp [execSbSclTimeout, h]

@[simp] theorem execSetdasa_canonical (static : BitVec 7) (dyn : BitVec 7) (s : State) (h : Memory.wf s.mem = true) :
    LeavesCanonical (execSetdasa static dyn s) := by simp [execSetdasa, h]

@[simp] theorem execEntdaa_canonical (dyn : BitVec 7) (s : State) (h : Memory.wf s.mem = true) :
    LeavesCanonical (execEntdaa dyn s) := by simp [execEntdaa, h]

@[simp] theorem execRstdaa_canonical (s : State) (h : Memory.wf s.mem = true) : LeavesCanonical (execRstdaa s) := by simp [execRstdaa, h]

@[simp] theorem execGetpid_canonical (s : State) (h : Memory.wf s.mem = true) : LeavesCanonical (execGetpid s) := by simp [execGetpid, h]

@[simp] theorem execGetbcr_canonical (s : State) (h : Memory.wf s.mem = true) : LeavesCanonical (execGetbcr s) := by simp [execGetbcr, h]

@[simp] theorem execGetdcr_canonical (s : State) (h : Memory.wf s.mem = true) : LeavesCanonical (execGetdcr s) := by simp [execGetdcr, h]

@[simp] theorem execGetstatus_canonical (s : State) (h : Memory.wf s.mem = true) : LeavesCanonical (execGetstatus s) := by
  simp [execGetstatus, h]

@[simp] theorem execGetmwl_canonical (s : State) (h : Memory.wf s.mem = true) : LeavesCanonical (execGetmwl s) := by simp [execGetmwl, h]

@[simp] theorem execGetmrl_canonical (s : State) (h : Memory.wf s.mem = true) : LeavesCanonical (execGetmrl s) := by simp [execGetmrl, h]

/-! ### Machine/Debug.lean -/

@[simp] theorem execTapReset_canonical (s : State) (h : Memory.wf s.mem = true) : LeavesCanonical (execTapReset s) := by
  simp [execTapReset, h]

@[simp] theorem execBypass_canonical (island : Bool) (s : State) (h : Memory.wf s.mem = true) :
    LeavesCanonical (execBypass island s) := by simp [execBypass, h]

@[simp] theorem execIdcode_canonical (island : Bool) (s : State) (h : Memory.wf s.mem = true) :
    LeavesCanonical (execIdcode island s) := by simp [execIdcode, h]

@[simp] theorem execSamplePreload_canonical (island : Bool) (s : State) (h : Memory.wf s.mem = true) :
    LeavesCanonical (execSamplePreload island s) := by simp [execSamplePreload, h]

@[simp] theorem execExtest_canonical (island : Bool) (s : State) (h : Memory.wf s.mem = true) :
    LeavesCanonical (execExtest island s) := by simp [execExtest, h]

@[simp] theorem execClamp_canonical (island : Bool) (s : State) (h : Memory.wf s.mem = true) :
    LeavesCanonical (execClamp island s) := by simp [execClamp, h]

@[simp] theorem execHighz_canonical (island : Bool) (s : State) (h : Memory.wf s.mem = true) :
    LeavesCanonical (execHighz island s) := by simp [execHighz, h]

@[simp] theorem execDbgRead_canonical (off : BitVec 22) (s : State) (h : Memory.wf s.mem = true) :
    LeavesCanonical (execDbgRead off s) := by simp [execDbgRead, h]

@[simp] theorem execDbgWrite_canonical (off : BitVec 22) (value : Word) (s : State) (h : Memory.wf s.mem = true) :
    LeavesCanonical (execDbgWrite off value s) := by simp [execDbgWrite, h]

/-! ### Every step -/

theorem exec_leavesCanonical (c : Instr) (s : State) (h : Memory.wf s.mem = true) : LeavesCanonical (exec c s) := by
  cases c <;> simp [exec, h]

theorem step_leavesCanonical (s : State) (h : Memory.wf s.mem = true) : LeavesCanonical (step s) := by
  unfold step
  split
  · exact (leavesCanonical_next _).2 (s.idleTick_wf h)
  · exact exec_leavesCanonical _ _ h

/-- Settles O5: an idle tick and every instruction leave device memory in canonical form. -/
theorem stepKeepsMemoryCanonical : Obligations.StepKeepsMemoryCanonical := by
  unfold Obligations.StepKeepsMemoryCanonical
  intro s t hs ht
  obtain ⟨u, hu, hwf⟩ := step_leavesCanonical s hs
  rw [hu] at ht
  exact Host.Outcome.next.inj ht ▸ hwf

end Sys2Proof.Machine
end

section
/-!
PROOFS. Context operations: a saved context whose objects are not objects.
-/

namespace Sys2Proof.Machine

/-- READY, with a saved context whose one "object" stands where event counter 0 does (spec/13 R406 has 4,096 objects; a saved context of the
model states any range), and counter 0 counting the vectors that the CTX block sends. -/
def discardMeetsCounter : State :=
  let half : HalfSt := { HalfSt.init with up := true, msixEnable := true, vecMask := 0 }
  { State.reset with
    pwr := { PwrSt.init with released := true, state := .ready },
    host := { State.reset.host with halves := #v[half, half] },
    saved := [⟨0, 0, 0x38080, 1, []⟩],
    regs := [(R.CTX_IRQ_EN_en.key, 1), (R.PMU_RUN.key, 1), ((R.PMU_CFG_event 0).key, 0xE7)] }

theorem discardMeetsCounter_up : discardMeetsCounter.blockUp 8 = true := by decide

theorem discardMeetsCounter_counts : (discardMeetsCounter.ctxDiscard 0).get (R.SYNC_VAL_value (0x38080 + 0)) = 1 := by decide +kernel

/-- Refutes O52: DISCARD leaves the objects of the saved context at 0 before it raises its event; where the range a saved context states
reaches beyond the 4,096 objects to an event counter, the vector of that event is counted there after. -/
theorem not_contextOperations : ¬ Obligations.ContextOperations := by
  unfold Obligations.ContextOperations
  intro h
  obtain ⟨-, hops, -⟩ := h 0 discardMeetsCounter discardMeetsCounter_up
  obtain ⟨-, -, -, -, -, -, -, -, -, -, -, hdiscard⟩ := hops rfl
  obtain ⟨t, ht, -, -, hobjects, -⟩ := hdiscard ⟨0, 0, 0x38080, 1, []⟩ rfl rfl rfl
  have hexec : exec .discard discardMeetsCounter = .next (discardMeetsCounter.ctxDiscard 0) :=
    congrArg Host.Outcome.next (if_pos discardMeetsCounter_up)
  have ht' : discardMeetsCounter.ctxDiscard 0 = t := Host.Outcome.next.inj (hexec.symm.trans ht)
  have hzero := hobjects 0 Nat.one_pos
  rw [← ht', discardMeetsCounter_counts] at hzero
  exact Nat.one_ne_zero hzero

end Sys2Proof.Machine
end

section
/-!
PROOFS. Fabric ports (R444–R450, R458, R475): a port set, a port that goes DARK, an attempt that begins or fails, and the blocks of training.
-/

namespace Sys2Proof.Machine

/-! ### A port set -/

/-- Ports other than `n` are as they were. -/
def OtherPorts (n : Fin 12) (s t : State) : Prop := ∀ j : Fin 12, j ≠ n → t.fab.ports[j] = s.fab.ports[j]

theorem OtherPorts.of_fab {n : Fin 12} {s t u : State} (h : OtherPorts n s t) (hfab : u.fab = t.fab) : OtherPorts n s u := by
  unfold OtherPorts
  rwa [hfab]

theorem OtherPorts.trans {n : Fin 12} {s t u : State} (h1 : OtherPorts n s t) (h2 : OtherPorts n t u) : OtherPorts n s u :=
  fun j hj => (h2 j hj).trans (h1 j hj)

theorem port12_val (n : Fin 12) : port12 n.val = n := Fin.ext (Nat.mod_eq_of_lt n.isLt)

theorem State.setPort_others (s : State) (n : Fin 12) (p : PortSt) : OtherPorts n s (s.setPort n.val p) := fun j hj =>
  Vector.getElem_set_ne (port12 n.val).isLt j.isLt fun h => hj (Fin.ext (by rw [← h, port12_val]))

theorem State.port_congr {s t : State} (hfab : t.fab = s.fab) (k : Nat) : t.port k = s.port k := by rw [State.port, hfab, State.port]

theorem State.setPort_writes (s : State) (n : Nat) (p : PortSt) (l : List Fld) : Writes l { s with fab := (s.setPort n p).fab } (s.setPort n p) :=
  ⟨rfl, fun _ _ => rfl⟩

theorem State.setPort_get (s : State) (n : Nat) (p : PortSt) (g : Fld) : (s.setPort n p).get g = s.get g := rfl

theorem State.setPort_out (s : State) (n : Nat) (p : PortSt) : (s.setPort n p).out = s.out := rfl

/-- A port set in a state that differs by its registers, what it has emitted and the free values it has used. -/
theorem State.setPort_only {s t : State} {i : Nat} (h : t = { s with regs := t.regs, out := t.out, freeIx := i }) (n : Nat) (p : PortSt) :
    t.setPort n p = { s with regs := (t.setPort n p).regs, fab := (t.setPort n p).fab, out := (t.setPort n p).out, freeIx := i } := by
  rw [h]
  rfl

/-- The fabric's state takes no part in what writes and signals change. -/
theorem Writes.withFab {l : List Fld} {s t : State} (h : Writes l s t) (f : FabSt) : Writes l { s with fab := f } { t with fab := f } :=
  ⟨by rw [h.1]; rfl, h.2⟩

theorem Signals.withFab {l : List Fld} {s t : State} (h : Signals l s t) (f : FabSt) : Signals l { s with fab := f } { t with fab := f } :=
  ⟨by rw [h.1]; rfl, h.2⟩

theorem Writes.trans {l : List Fld} {s t u : State} (h1 : Writes l s t) (h2 : Writes l t u) : Writes l s u :=
  ⟨by have h := h2.1; have h' := h1.1; unfold OnlyRegs at *; rw [h, h'], h1.2.trans h2.2⟩

theorem OnlyRegs.fab {s t : State} (h : OnlyRegs s t) : t.fab = s.fab := by rw [h]

/-- A port set after register writes. -/
theorem Writes.setPort {l : List Fld} {s t : State} {f : FabSt} (h : Writes l { s with fab := f } t) (n : Nat) (p : PortSt) :
    Writes l { s with fab := (t.setPort n p).fab } (t.setPort n p) := h.withFab (t.setPort n p).fab

theorem Writes.into {l : List Fld} {s t u : State} (h1 : Writes l { s with fab := t.fab } t) (h2 : Writes l t u) :
    Writes l { s with fab := u.fab } u := by
  rw [h2.1.fab]
  exact h1.trans h2

/-! ### Events of the fabric -/

theorem State.raiseFab_signals (s : State) (b : Nat) {l : List Fld} (h : R.FAB_EVT ∈ l) : Signals l s (s.raiseFab b) :=
  ⟨s.raise_only _ _ _ b, s.raise_fields _ _ _ b l h⟩

theorem State.raiseFab_bitSet (s : State) (b : Nat) (hb : b < 9) : BitSet (s.raiseFab b) R.FAB_EVT b := by
  rw [BitSet, State.raiseFab, State.raise_bit _ _ _ _ _ _ (by decide) hb, BEq.rfl, Bool.or_true]

theorem State.send_out {s : State} {o : Out} (h : o ∈ s.out) (v : Nat) : o ∈ (s.send v).out := by
  have hraw : o ∈ (s.sendRaw v).1.out := by
    unfold State.sendRaw
    dsimp only
    split
    · exact List.mem_cons_of_mem _ h
    · exact h
  unfold State.send
  dsimp only
  split
  · exact State.pmu_out hraw _ _ _
  · exact hraw

/-- A message emitted stays emitted when an event is raised. -/
theorem State.raise_out {s : State} {o : Out} (h : o ∈ s.out) (evt en : Fld) (vec b : Nat) : o ∈ (s.raise evt en vec b).out := by
  unfold State.raise
  split
  · exact h
  · have hset : o ∈ (s.setBit evt b).out := by rw [State.setBit_eq]; exact h
    dsimp only
    split
    · exact State.send_out hset vec
    · exact hset

theorem State.raiseFab_out {s : State} {o : Out} (h : o ∈ s.out) (b : Nat) : o ∈ (s.raiseFab b).out := State.raise_out h _ _ _ b

theorem State.flogAdd_out (s : State) (source code detail : Nat) (ctx : Option Nat) : (s.flogAdd source code detail ctx).out = s.out := by
  obtain ⟨-, -, hwrites⟩ := s.flogAdd_effect source code detail ctx
  rw [hwrites.1]

theorem State.flogAdd_fab (s : State) (source code detail : Nat) (ctx : Option Nat) : (s.flogAdd source code detail ctx).fab = s.fab := by
  obtain ⟨-, -, hwrites⟩ := s.flogAdd_effect source code detail ctx
  rw [hwrites.1]

/-! ### A port that goes DARK (R444, R450, R475) -/

/-- What a port holds when it goes DARK. -/
def PortSt.holds (p : PortSt) : List QTxn := p.retry.flatMap (fun f => f.slots.map (fun t => (⟨t, none⟩ : QTxn))) ++ p.queue

/-- What a DARK port held goes on. -/
def State.rehomeAll (s : State) (n : Nat) (l : List QTxn) : State := l.foldl (fun v x => v.rehome n x) s

/-- Port `n` is DARK, and its event and log entry are made. -/
def State.downed (s : State) (n cause : Nat) : State :=
  ((s.setPort n { (s.port n).dark cause with downAt := s.now }).raiseFab 1).flogAdd 4 cause n none

section
variable {s : State} {n : Nat}

theorem State.portDark_up (h : (s.port n).state ≠ .dark) (cause : Nat) :
    s.portDark n cause = (s.downed n cause).rehomeAll n (s.port n).holds := by
  have hdown : s.portDown n cause = (s.downed n cause, (s.port n).holds) := if_neg h
  rw [State.portDark, hdown]
  rfl

theorem State.portDark_dark (h : (s.port n).state = .dark) (cause : Nat) :
    s.portDark n cause = s.setPort n { s.port n with cause := cause } := by
  have hdown : s.portDown n cause = (s.setPort n { s.port n with cause := cause }, []) := if_pos h
  rw [State.portDark, hdown]
  rfl

end

theorem State.downed_fab (s : State) (n cause : Nat) :
    (s.downed n cause).fab = (s.setPort n { (s.port n).dark cause with downAt := s.now }).fab := by
  rw [State.downed, State.flogAdd_fab, (State.raiseFab_signals _ 1 (List.mem_singleton_self _)).1.fab]

theorem State.downed_port (s : State) (n cause : Nat) : (s.downed n cause).port n = { (s.port n).dark cause with downAt := s.now } := by
  rw [State.port_congr (s.downed_fab n cause), State.port_setPort_same]

theorem State.downed_others (s : State) (n : Fin 12) (cause : Nat) : OtherPorts n s (s.downed n.val cause) :=
  (s.setPort_others n _).of_fab (s.downed_fab n.val cause)

theorem State.downed_bitSet (s : State) (n cause : Nat) : BitSet (s.downed n cause) R.FAB_EVT 1 := by
  obtain ⟨-, -, hwrites⟩ := ((s.setPort n { (s.port n).dark cause with downAt := s.now }).raiseFab 1).flogAdd_effect 4 cause n none
  rw [BitSet, State.downed, hwrites.2 R.FAB_EVT (by decide)]
  exact State.raiseFab_bitSet _ 1 (by decide)

theorem State.downed_out {s : State} {o : Out} (h : o ∈ s.out) (n cause : Nat) : o ∈ (s.downed n cause).out := by
  rw [State.downed, State.flogAdd_out]
  exact State.raiseFab_out (s := s.setPort n _) h 1

theorem State.downed_signals (s : State) (n cause : Nat) {l : List Fld} (hevt : R.FAB_EVT ∈ l) (hlost : R.GEN_FLOG_STAT_lost ∈ l) :
    let t := s.downed n cause
    Signals l { s with fab := t.fab, flog := t.flog, flogSeq := t.flogSeq } t := by
  obtain ⟨hseq, -, hwrites⟩ := ((s.setPort n { (s.port n).dark cause with downAt := s.now }).raiseFab 1).flogAdd_effect 4 cause n none
  have hraise := (s.setPort n { (s.port n).dark cause with downAt := s.now }).raiseFab_signals 1 hevt
  dsimp only
  rw [s.downed_fab n cause]
  have hbefore := hraise.withFlog (s.downed n cause).flog (s.downed n cause).flogSeq
  refine hbefore.trans ?_
  rw [show (s.downed n cause).flogSeq = _ from hseq]
  exact hwrites.signals.mono (by simpa using hlost)

/-! ### An attempt (R449) -/

/-- A port whose attempt begins. -/
def PortSt.started (p : PortSt) : PortSt := { PortSt.init with state := .detect, cause := 0, fails := p.fails, retrains := p.retrains }

theorem State.portStart_effect (s : State) (n : Fin 12) :
    let k := n.val
    let t := s.portStart k
    t.port k = (s.port k).started ∧ OtherPorts n s t ∧ t.get (R.FAB_PORT_STAT_gen2_failed k) = 0 ∧
      t.get (R.FAB_PORT_TRAIN_attempts k) = satAdd 16 (s.get (R.FAB_PORT_TRAIN_attempts k)) 1 ∧
      Writes [R.FAB_PORT_STAT_gen2_failed k, R.FAB_PORT_TRAIN_attempts k] { s with fab := t.fab } t := by
  have hne : (R.FAB_PORT_TRAIN_attempts n.val).key ≠ (R.FAB_PORT_STAT_gen2_failed n.val).key := by
    simp only [Fld.key, R.FAB_PORT_TRAIN_attempts, R.FAB_PORT_STAT_gen2_failed]
    omega
  refine ⟨s.port_setPort_same _ _, s.setPort_others n _, ?_, ?_, rfl, ?_⟩
  · exact (State.get_put_other _ _ _ _ hne.symm).trans (State.get_put_same ..)
  · refine (State.get_count_same ..).trans ?_
    rw [State.get_put_other _ _ _ _ hne]
    rfl
  · exact (FieldsBut.put (.refl _ _) _ _ (by simp)).put _ _ (by simp)

/-- An attempt of a port that holds nothing has failed. -/
theorem State.portFail_effect {s : State} {n : Fin 12} (hstate : (s.port n.val).state ≠ .dark) (hempty : (s.port n.val).holds = []) {cause : Nat}
    (hcause : cause < 16) :
    let k := n.val
    let p := s.port k
    let t := s.portFail k cause
    t.port k = { p.dark cause with fails := p.fails + 1, downAt := s.now } ∧ t.get (R.FAB_PORT_TRAIN_last_fail k) = cause ∧
      BitSet t R.FAB_EVT 1 ∧ OtherPorts n s t ∧ (∀ o ∈ s.out, o ∈ t.out) ∧
      Signals [R.FAB_PORT_TRAIN_last_fail k, R.FAB_EVT, R.GEN_FLOG_STAT_lost]
        { s with fab := t.fab, flog := t.flog, flogSeq := t.flogSeq } t := by
  have hdark : s.portDark n.val cause = s.downed n.val cause := by rw [State.portDark_up hstate, hempty]; rfl
  have hkey : R.FAB_EVT.key ≠ (R.FAB_PORT_TRAIN_last_fail n.val).key := by
    simp only [Fld.key, R.FAB_EVT, R.FAB_PORT_TRAIN_last_fail]
    omega
  unfold State.portFail
  dsimp only
  rw [hdark]
  have hport : ((s.downed n.val cause).put (R.FAB_PORT_TRAIN_last_fail n.val) cause).port n.val =
    { (s.port n.val).dark cause with downAt := s.now } := s.downed_port n.val cause
  refine ⟨?_, ?_, ?_, ?_, fun o ho => State.downed_out ho _ _, ?_⟩
  · rw [State.port_setPort_same, hport]
    rfl
  · exact (State.get_put_same ..).trans (Nat.mod_eq_of_lt hcause)
  · exact (congrArg (bitAt · 1) (State.get_put_other _ _ _ _ hkey)).trans (s.downed_bitSet n.val cause)
  · exact (s.downed_others n cause).trans (State.setPort_others _ n _)
  · have hdown := s.downed_signals n.val cause
      (l := [R.FAB_PORT_TRAIN_last_fail n.val, R.FAB_EVT, R.GEN_FLOG_STAT_lost]) (by simp) (by simp)
    have hput := ((s.downed n.val cause).put_writes (R.FAB_PORT_TRAIN_last_fail n.val) cause).signals.mono
      (m := [R.FAB_PORT_TRAIN_last_fail n.val, R.FAB_EVT, R.GEN_FLOG_STAT_lost]) (by simp)
    exact (hdown.trans hput).withFab _

/-! ### Commands of a port in a state that takes them -/

section
variable {s : State} {n : Fin 12}

theorem exec_portDetect (hdark : (s.port n.val).state = .dark) (hcause : failedCause (s.port n.val).cause = false)
    (hwhy : s.portWhy n.val false = none) : exec (.portDetect n) s = .next (s.portStart n.val) :=
  congrArg Host.Outcome.next (if_pos ⟨hdark, hcause, hwhy⟩)

theorem exec_trainingRetry (hdark : (s.port n.val).state = .dark) (hcause : failedCause (s.port n.val).cause = true)
    (hdue : (s.port n.val).downAt + (s.port n.val).retryMs * ticksPerMs ≤ s.now)
    (hwhy : s.portWhy n.val false = none) : exec (.trainingRetry n) s = .next (s.portStart n.val) :=
  congrArg Host.Outcome.next (if_pos ⟨hdark, hcause, hdue, hwhy⟩)

theorem exec_portDetect_not (h : (s.port n.val).state ≠ .dark ∨ s.portWhy n.val false ≠ none) : exec (.portDetect n) s = .next s :=
  congrArg Host.Outcome.next (if_neg fun ⟨hdark, _, hwhy⟩ => h.elim (· hdark) (· hwhy))

theorem exec_trainingRetry_not (h : (s.port n.val).state ≠ .dark ∨ s.portWhy n.val false ≠ none) : exec (.trainingRetry n) s = .next s :=
  congrArg Host.Outcome.next (if_neg fun ⟨hdark, _, _, hwhy⟩ => h.elim (· hdark) (· hwhy))

theorem exec_trainingRetry_early (h : s.now < (s.port n.val).downAt + (s.port n.val).retryMs * ticksPerMs) :
    exec (.trainingRetry n) s = .next s :=
  congrArg Host.Outcome.next (if_neg fun ⟨_, _, hdue, _⟩ => Nat.not_le.2 h hdue)

theorem exec_trainingTimeout_detect (h : (s.port n.val).state = .detect) : exec (.trainingTimeout n) s = .next (s.portFail n.val 3) := by
  show execTrainingTimeout n s = _
  rw [execTrainingTimeout, h]

theorem exec_trainingTimeout_later (h : (s.port n.val).state = .equalise ∨ (s.port n.val).state = .negotiate) :
    exec (.trainingTimeout n) s = .next (s.portFail n.val 8) := by
  show execTrainingTimeout n s = _
  rcases h with h | h <;> rw [execTrainingTimeout, h]

theorem exec_trainingTimeout_not (h : (s.port n.val).state = .dark ∨ (s.port n.val).state = .active ∨ (s.port n.val).state = .retrain) :
    exec (.trainingTimeout n) s = .next s := by
  show execTrainingTimeout n s = _
  rcases h with h | h | h <;> rw [execTrainingTimeout, h]

theorem exec_lossOfSignal (hdark : (s.port n.val).state ≠ .dark) (hdetect : (s.port n.val).state ≠ .detect) :
    exec (.lossOfSignal n) s = .next (s.portDark n.val 3) := by
  show execLossOfSignal n s = _
  unfold execLossOfSignal
  split
  · exact absurd ‹_› hdark
  · exact absurd ‹_› hdetect
  · rfl

theorem exec_lossOfSignal_not (h : (s.port n.val).state = .dark ∨ (s.port n.val).state = .detect) : exec (.lossOfSignal n) s = .next s := by
  show execLossOfSignal n s = _
  rcases h with h | h <;> rw [execLossOfSignal, h]

end

/-! ### Blocks of training (R446–R448) -/

/-- The peer's values that a block gives. -/
def peerPuts (n : Nat) (b : TrainBlock) (polarity now : Nat) : List (Fld × Nat) :=
  [(R.FAB_PORT_PEER_pkg n, b.pkg), (R.FAB_PORT_PEER_port n, b.port), (R.FAB_PORT_PEER_gen2 n, bits b.flags 0 1),
    (R.FAB_PORT_PEER_valid n, 1), (R.FAB_PORT_PEER_level n, b.level), (R.FAB_PORT_PEER_RANGE_min n, b.rangeMin),
    (R.FAB_PORT_PEER_RANGE_max n, b.rangeMax), (R.FAB_PORT_STAT_polarity n, polarity),
    (R.FAB_PORT_FLIGHT_ns n, ((now + 2 ^ 32 - b.echo) % 2 ^ 32 - b.turnaround) / 2)]

/-- The registers that keep them. -/
def peerFields (n : Nat) : List Fld :=
  [R.FAB_PORT_PEER_pkg n, R.FAB_PORT_PEER_port n, R.FAB_PORT_PEER_gen2 n, R.FAB_PORT_PEER_valid n, R.FAB_PORT_PEER_level n,
    R.FAB_PORT_PEER_RANGE_min n, R.FAB_PORT_PEER_RANGE_max n, R.FAB_PORT_STAT_polarity n, R.FAB_PORT_FLIGHT_ns n]

theorem peerFields_nodup (n : Nat) : ((peerFields n).map Fld.key).Nodup := by
  simp [peerFields, Fld.key, R.FAB_PORT_PEER_pkg, R.FAB_PORT_PEER_port, R.FAB_PORT_PEER_gen2, R.FAB_PORT_PEER_valid, R.FAB_PORT_PEER_level,
    R.FAB_PORT_PEER_RANGE_min, R.FAB_PORT_PEER_RANGE_max, R.FAB_PORT_STAT_polarity, R.FAB_PORT_FLIGHT_ns]
  omega

/-- No register of the peer's values has a key between 32 × 0x201008 + 0x100 n and the port's counters, but for the polarity. -/
theorem peerFields_key {n : Nat} {f : Fld} (hf : f ∈ peerFields n) :
    f.key = 32 * (0x201004 + 0x100 * n) + 9 ∨ (32 * (0x201008 + 0x100 * n) ≤ f.key ∧ f.key < 32 * (0x201014 + 0x100 * n)) := by
  revert f
  simp only [peerFields, List.forall_mem_cons, List.not_mem_nil, false_imp_iff, implies_true, and_true, Fld.key, R.FAB_PORT_PEER_pkg,
    R.FAB_PORT_PEER_port, R.FAB_PORT_PEER_gen2, R.FAB_PORT_PEER_valid, R.FAB_PORT_PEER_level, R.FAB_PORT_PEER_RANGE_min,
    R.FAB_PORT_PEER_RANGE_max, R.FAB_PORT_STAT_polarity, R.FAB_PORT_FLIGHT_ns, true_or, true_and]
  omega

section
variable (s : State) (n : Nat) (b : TrainBlock) (polarity now : Nat)

theorem State.recordPeer_eq : s.recordPeer n b polarity now = s.puts (peerPuts n b polarity now) := rfl

theorem State.recordPeer_fields : FieldsBut (peerFields n) s (s.recordPeer n b polarity now) := (s.puts_writes (peerPuts n b polarity now)).2

theorem State.recordPeer_get {p : Fld × Nat} (hp : p ∈ peerPuts n b polarity now) :
    (s.recordPeer n b polarity now).get p.1 = p.2 % 2 ^ p.1.w := s.get_puts_mem (peerFields n) rfl (peerFields_nodup n) hp

/-- The registers that a block sent reads are not the peer's. -/
theorem State.recordPeer_same {g : Fld} (hg : g.key < 32 * 0x201000 ∨ g.key = (R.FAB_PORT_CTRL_gen_max n).key ∨
    g.key = (R.FAB_PORT_STAT_gen2_failed n).key) : (s.recordPeer n b polarity now).get g = s.get g := by
  refine s.recordPeer_fields n b polarity now g fun f hf => ?_
  have hkey := peerFields_key hf
  simp only [Fld.key, R.FAB_PORT_CTRL_gen_max, R.FAB_PORT_STAT_gen2_failed] at hg hkey ⊢
  omega

/-- The block a port sends in answer, as its registers and the next free value give it (R446, R448). -/
def State.blockSent (faster ready : Bool) : Out :=
  .training n (TrainBlock.bytes ⟨true, 0,
    b2n (s.get (R.FAB_PORT_CTRL_gen_max n) == 1 && s.get (R.FAB_PORT_STAT_gen2_failed n) == 0) + 2 * b2n faster +
      4 * b2n (faster && bitAt b.flags 1) + 8 * b2n ready,
    2, 2, 3, s.get R.GEN_MACHINE_machine_id, s.ownPkg, n, now, b.stamp, s.free.1 % 65536⟩)

/-- A port that has recorded its peer and sent its block. -/
def State.blockAnswered (faster ready : Bool) : State :=
  { s.recordPeer n b polarity now with freeIx := s.freeIx + 1, out := s.blockSent n b now faster ready :: s.out }

theorem State.recordPeer_ownPkg : (s.recordPeer n b polarity now).ownPkg = s.ownPkg := by
  unfold State.ownPkg
  rw [s.recordPeer_same n b polarity now (g := R.GEN_TOPO_rack) (.inl (by decide)),
    s.recordPeer_same n b polarity now (g := R.GEN_TOPO_sled) (.inl (by decide)),
    s.recordPeer_same n b polarity now (g := R.GEN_TOPO_slot) (.inl (by decide))]

theorem State.sendTraining_eq (agreed faster : Bool) :
    (s.recordPeer n b polarity now).sendTraining n b agreed faster now = s.blockAnswered n b polarity now faster (agreed && !faster) := by
  have key : ∀ u : State, OnlyRegs s u → u.ownPkg = s.ownPkg → u.get R.GEN_MACHINE_machine_id = s.get R.GEN_MACHINE_machine_id →
      u.get (R.FAB_PORT_CTRL_gen_max n) = s.get (R.FAB_PORT_CTRL_gen_max n) →
      u.get (R.FAB_PORT_STAT_gen2_failed n) = s.get (R.FAB_PORT_STAT_gen2_failed n) → u.sendTraining n b agreed faster now =
      { u with freeIx := s.freeIx + 1, out := s.blockSent n b now faster (agreed && !faster) :: s.out } := by
    intro u honly hown hmachine hmax hfailed
    have hfree : u.freeIx = s.freeIx := by rw [honly]
    have hout : u.out = s.out := by rw [honly]
    simp only [State.sendTraining, State.blockSent, State.free, State.emit, hown, hmachine, hmax, hfailed, hfree, hout]
  exact key _ (s.puts_only (peerPuts n b polarity now)) (s.recordPeer_ownPkg n b polarity now)
    (s.recordPeer_same n b polarity now (.inl (by decide))) (s.recordPeer_same n b polarity now (.inr (.inl rfl)))
    (s.recordPeer_same n b polarity now (.inr (.inr rfl)))

theorem State.blockAnswered_eq (faster ready : Bool) :
    s.blockAnswered n b polarity now faster ready =
      { s with regs := (s.recordPeer n b polarity now).regs, out := s.blockSent n b now faster ready :: s.out, freeIx := s.freeIx + 1 } := by
  have key : ∀ (u : State) (i : Nat) (o : List Out), OnlyRegs s u →
      { u with freeIx := i, out := o } = { s with regs := u.regs, out := o, freeIx := i } := fun u i o h => by rw [h]
  exact key (s.recordPeer n b polarity now) _ _ (s.puts_only (peerPuts n b polarity now))

theorem State.blockAnswered_fab (faster ready : Bool) : (s.blockAnswered n b polarity now faster ready).fab = s.fab := by
  rw [s.blockAnswered_eq]

theorem State.blockAnswered_now (faster ready : Bool) : (s.blockAnswered n b polarity now faster ready).now = s.now := by
  rw [s.blockAnswered_eq]

theorem State.blockAnswered_out (faster ready : Bool) :
    (s.blockAnswered n b polarity now faster ready).out = s.blockSent n b now faster ready :: s.out := by rw [s.blockAnswered_eq]

theorem State.blockAnswered_get (faster ready : Bool) (g : Fld) :
    (s.blockAnswered n b polarity now faster ready).get g = (s.recordPeer n b polarity now).get g := by
  rw [s.blockAnswered_eq, State.get, State.get]

theorem State.blockAnswered_port (faster ready : Bool) : (s.blockAnswered n b polarity now faster ready).port n = s.port n :=
  State.port_congr (s.blockAnswered_fab n b polarity now faster ready) n

/-- A block that is not good, or for a port that does not negotiate, is nothing. -/
theorem State.trainingBlock_not (lanes : List TrainBlock)
    (h : lanes.all TrainBlock.good = false ∨ ((s.port n).state ≠ .negotiate ∧ (s.port n).state ≠ .retrain)) :
    s.trainingBlock n lanes polarity now = s := by
  refine if_pos ?_
  rcases h with hbad | ⟨hnegotiate, hretrain⟩
  · simp [hbad]
  · simp [hnegotiate, hretrain]

section
variable {s n b polarity now} {lanes : List TrainBlock} (hgood : lanes.all TrainBlock.good = true)
  (hstate : (s.port n).state = .negotiate ∨ (s.port n).state = .retrain) (hb : lanes.headD (TrainBlock.ofBytes []) = b)
include hgood hstate hb

/-- A block whose checks fail is answered, and the attempt has failed. -/
theorem State.trainingBlock_failed {c : Nat} (hcause : negotiateCause lanes (s.get R.GEN_MACHINE_machine_id) s.ownPkg n = some c) :
    s.trainingBlock n lanes polarity now = (s.blockAnswered n b polarity now (s.wantsGen2 n b) false).portFail n c := by
  unfold State.trainingBlock
  dsimp only
  rw [if_neg (by rcases hstate with h | h <;> simp [hgood, h]), hb, hcause]
  dsimp only
  rw [State.sendTraining_eq]
  rfl

/-- A block whose checks pass switches the port to generation 2, or makes it ready. -/
theorem State.trainingBlock_passed (hcause : negotiateCause lanes (s.get R.GEN_MACHINE_machine_id) s.ownPkg n = none) :
    s.trainingBlock n lanes polarity now =
      (s.blockAnswered n b polarity now (s.wantsGen2 n b) (!s.wantsGen2 n b)).setPort n
        (if s.wantsGen2 n b then { s.port n with switching := bitAt b.flags 2 } else { s.port n with ready := bitAt b.flags 3 }) := by
  unfold State.trainingBlock
  dsimp only
  rw [if_neg (by rcases hstate with h | h <;> simp [hgood, h]), hb, hcause]
  dsimp only
  rw [State.sendTraining_eq, State.blockAnswered_port, Option.isNone_none, Bool.true_and]
  split <;> rfl

end

theorem State.wantsGen2_iff : s.wantsGen2 n b = true ↔ ((s.port n).gen2 = false ∧ (s.port n).state = .negotiate ∧ bitAt b.flags 0 = true ∧
    s.get (R.FAB_PORT_CTRL_gen_max n) = 1 ∧ s.get (R.FAB_PORT_STAT_gen2_failed n) = 0) := by
  simp [State.wantsGen2, and_assoc]

/-- The peer's values as their registers keep them. -/
def peerKept : List (Fld × Nat) :=
  [(R.FAB_PORT_PEER_pkg n, b.pkg % 1024), (R.FAB_PORT_PEER_port n, b.port % 16), (R.FAB_PORT_PEER_gen2 n, b.flags % 2),
    (R.FAB_PORT_PEER_valid n, 1), (R.FAB_PORT_PEER_level n, b.level % 65536), (R.FAB_PORT_PEER_RANGE_min n, b.rangeMin % 65536),
    (R.FAB_PORT_PEER_RANGE_max n, b.rangeMax % 65536), (R.FAB_PORT_STAT_polarity n, polarity),
    (R.FAB_PORT_FLIGHT_ns n, ((now + 2 ^ 32 - b.echo) % 2 ^ 32 - b.turnaround) / 2 % 65536)]

theorem State.recordPeer_kept (hpolarity : polarity < 16) :
    ∀ v ∈ peerKept n b polarity now, (s.recordPeer n b polarity now).get v.1 = v.2 := by
  have hget := fun p hp => s.recordPeer_get n b polarity now (p := p) hp
  simp only [peerPuts, List.forall_mem_cons, List.not_mem_nil, false_imp_iff, implies_true, and_true] at hget
  obtain ⟨hpkg, hport, hgen2, hvalid, hlevel, hmin, hmax, hpol, hflight⟩ := hget
  simp only [peerKept, List.forall_mem_cons, List.not_mem_nil, false_imp_iff, implies_true, and_true]
  refine ⟨hpkg, hport, hgen2.trans ?_, hvalid, hlevel, hmin, hmax, hpol.trans (Nat.mod_eq_of_lt hpolarity), hflight⟩
  rw [bits, Nat.pow_zero, Nat.div_one]
  exact Nat.mod_mod _ _

end

/-! ### What the statement says of a command -/

section
variable {s : State} {n : Fin 12}

theorem State.portStart_begins :
    ∃ t, s.portStart n.val = t ∧ t.port n.val = (s.port n.val).started ∧ OtherPorts n s t ∧
      (∀ v ∈ [(R.FAB_PORT_STAT_gen2_failed n.val, 0), (R.FAB_PORT_TRAIN_attempts n.val, satAdd 16 (s.get (R.FAB_PORT_TRAIN_attempts n.val)) 1)],
        t.get v.1 = v.2) ∧
      Writes [R.FAB_PORT_STAT_gen2_failed n.val, R.FAB_PORT_TRAIN_attempts n.val] { s with fab := t.fab } t := by
  obtain ⟨hport, hothers, hgen2, hattempts, hwrites⟩ := s.portStart_effect n
  exact ⟨_, rfl, hport, hothers, List.forall_mem_cons.2 ⟨hgen2, List.forall_mem_singleton.2 hattempts⟩, hwrites⟩

/-- A port that is not DARK goes DARK after `w`, which has at most put registers to 0 and set the port. -/
theorem State.portDark_effect {w : State} {l : List Fld} (hw : Writes l { s with fab := w.fab } w) (hothers : OtherPorts n s w)
    (hstate : (w.port n.val).state ≠ .dark) (hholds : (w.port n.val).holds = (s.port n.val).holds)
    (hl : ∀ f ∈ l, w.get f = 0 ∧ ¬ inPmu f ∧ f.key ≠ R.FAB_EVT.key ∧ f.key ≠ R.GEN_FLOG_STAT_lost.key) (cause : Nat) :
    ∃ u, w.portDark n.val cause = u.rehomeAll n.val (s.port n.val).holds ∧ u.port n.val = { (w.port n.val).dark cause with downAt := s.now } ∧
      (∀ f ∈ l, u.get f = 0) ∧ BitSet u R.FAB_EVT 1 ∧ OtherPorts n s u ∧
      Signals (R.FAB_EVT :: R.GEN_FLOG_STAT_lost :: l) { s with fab := u.fab, flog := u.flog, flogSeq := u.flogSeq } u := by
  have hnow : w.now = s.now := by rw [hw.1]
  have hdown := w.downed_signals n.val cause (l := [R.FAB_EVT, R.GEN_FLOG_STAT_lost]) (by simp) (by simp)
  refine ⟨w.downed n.val cause, ?_, ?_, fun f hf => ?_, w.downed_bitSet n.val cause, hothers.trans (w.downed_others n cause), ?_⟩
  · rw [State.portDark_up hstate, hholds]
  · rw [State.downed_port, hnow]
  · obtain ⟨hzero, hpmu, hevt, hlost⟩ := hl f hf
    exact (hdown.2 f hpmu (by simpa using ⟨hevt, hlost⟩)).trans hzero
  · refine Signals.trans ?_ (hdown.mono (by simp))
    have hbefore := ((hw.withFab (w.downed n.val cause).fab).signals.withFlog (w.downed n.val cause).flog (w.downed n.val cause).flogSeq)
    exact hbefore.mono (fun f hf => List.mem_cons_of_mem _ (List.mem_cons_of_mem _ hf))

/-- FAB_PORTn_CTRL.en lies outside what an event reaches. -/
theorem portEnable_apart (n : Fin 12) : ¬ inPmu (R.FAB_PORT_CTRL_en n.val) ∧ (R.FAB_PORT_CTRL_en n.val).key ≠ R.FAB_EVT.key ∧
    (R.FAB_PORT_CTRL_en n.val).key ≠ R.GEN_FLOG_STAT_lost.key := by
  simp only [inPmu, Fld.key, R.FAB_PORT_CTRL_en, R.FAB_EVT, R.GEN_FLOG_STAT_lost]
  omega

theorem exec_fabPortDisable (hup : s.blockUp 10 = true) :
    exec (.fabPortDisable n) s = .next ((s.put (R.FAB_PORT_CTRL_en n.val) 0).portDark n.val 11) := congrArg Host.Outcome.next (if_pos hup)

theorem exec_fabPortEnable (hup : s.blockUp 10 = true) : exec (.fabPortEnable n) s = .next (s.portEnable n.val) :=
  congrArg Host.Outcome.next (if_pos hup)

theorem State.portEnable_effect :
    let t := s.portEnable n.val
    let p := s.port n.val
    t.port n.val = { p with cause := if p.cause = 11 then 1 else p.cause } ∧ OtherPorts n s t ∧ t.get (R.FAB_PORT_CTRL_en n.val) = 1 ∧
      Writes [R.FAB_PORT_CTRL_en n.val] { s with fab := t.fab } t := by
  have hput := s.put_writes (R.FAB_PORT_CTRL_en n.val) 1
  have hone : (s.put (R.FAB_PORT_CTRL_en n.val) 1).get (R.FAB_PORT_CTRL_en n.val) = 1 := State.get_put_same ..
  have hport : (s.put (R.FAB_PORT_CTRL_en n.val) 1).port n.val = s.port n.val := rfl
  unfold State.portEnable
  dsimp only
  rw [hport]
  split
  · refine ⟨State.port_setPort_same _ _ _, State.setPort_others _ n _, hone, ?_⟩
    exact Writes.setPort (f := s.fab) hput n.val _
  · exact ⟨rfl, fun _ _ => rfl, hone, hput⟩

theorem exec_fabPortRetrain (hup : s.blockUp 10 = true) : exec (.fabPortRetrain n) s = .next (s.portRetrain n.val) :=
  congrArg Host.Outcome.next (if_pos hup)

/-- A port whose count of failed attempts starts afresh. -/
def State.failsCleared (s : State) (n : Nat) : State := s.setPort n { s.port n with fails := 0 }

theorem State.failsCleared_port (s : State) (n : Nat) : (s.failsCleared n).port n = { s.port n with fails := 0 } := s.port_setPort_same n _

theorem State.failsCleared_why (s : State) (n : Nat) : (s.failsCleared n).portWhy n false = s.portWhy n false := rfl

theorem State.portRetrain_start (h : s.portWhy n.val false = none) :
    s.portRetrain n.val = ((s.failsCleared n.val).portStart n.val).rehomeAll n.val (s.port n.val).holds := by
  show (match (s.failsCleared n.val).portWhy n.val false with | some c => _ | none => _) = _
  rw [State.failsCleared_why, h]
  rfl

theorem State.portRetrain_not {c : Nat} (h : s.portWhy n.val false = some c) :
    s.portRetrain n.val = if (s.port n.val).state = .dark then s.setPort n.val { s.port n.val with fails := 0, cause := c }
      else (s.failsCleared n.val).portDark n.val c := by
  have hset : ∀ p : PortSt, (s.failsCleared n.val).setPort n.val p = s.setPort n.val p := fun p => by
    unfold State.failsCleared State.setPort
    simp
  show (match (s.failsCleared n.val).portWhy n.val false with | some c => _ | none => _) = _
  rw [State.failsCleared_why, h]
  show (if (s.port n.val).state = .dark then (s.failsCleared n.val).setPort n.val _ else _) = _
  rw [hset]
  rfl

/-! ### Retraining (R458) -/

/-- A port in RETRAIN. -/
def PortSt.retraining (p : PortSt) (recent : List Nat) (now : Nat) : PortSt :=
  { p with state := .retrain, ready := false, retrains := recent ++ [now], nakRun := 0 }

/-- RETRAIN entered, counted and its event raised. -/
def State.retrained (s : State) (n : Nat) (recent : List Nat) : State :=
  ((s.setPort n ((s.port n).retraining recent s.now)).count (R.FAB_PORT_CNT0_retrains n) 1).raiseFab 2

theorem exec_retrain (h : (s.port n.val).state = .active) :
    let recent := (s.port n.val).retrains.filter (fun t => decide (s.now < t + 1000 * ticksPerMs))
    exec (.retrain n) s = .next (if recent.length < 2 then s.retrained n.val recent else (s.retrained n.val recent).portDark n.val 9) := by
  have hactive : s.portActive n.val = true := by simp [State.portActive, h]
  intro recent
  refine congrArg Host.Outcome.next ((if_pos hactive).trans ?_)
  by_cases hfew : recent.length < 2
  · rw [if_pos hfew]
    exact if_neg (Nat.not_le.2 hfew)
  · rw [if_neg hfew]
    exact if_pos (Nat.not_lt.1 hfew)

theorem exec_retrain_not (h : (s.port n.val).state ≠ .active) : exec (.retrain n) s = .next s :=
  congrArg Host.Outcome.next (if_neg (by simp [State.portActive, h]))

theorem State.retrained_effect (recent : List Nat) :
    let t := s.retrained n.val recent
    t.port n.val = (s.port n.val).retraining recent s.now ∧ OtherPorts n s t ∧
      t.get (R.FAB_PORT_CNT0_retrains n.val) = satAdd 16 (s.get (R.FAB_PORT_CNT0_retrains n.val)) 1 ∧ BitSet t R.FAB_EVT 2 ∧
      Signals [R.FAB_PORT_CNT0_retrains n.val, R.FAB_EVT] { s with fab := t.fab } t := by
  have hraise := ((s.setPort n.val ((s.port n.val).retraining recent s.now)).count (R.FAB_PORT_CNT0_retrains n.val) 1).raiseFab_signals 2
    (List.mem_singleton_self R.FAB_EVT)
  have hfab : (s.retrained n.val recent).fab = (s.setPort n.val ((s.port n.val).retraining recent s.now)).fab := hraise.1.fab
  have hkey : ¬ inPmu (R.FAB_PORT_CNT0_retrains n.val) ∧ (R.FAB_PORT_CNT0_retrains n.val).key ≠ R.FAB_EVT.key := by
    simp only [inPmu, Fld.key, R.FAB_PORT_CNT0_retrains, R.FAB_EVT]
    omega
  refine ⟨?_, (s.setPort_others n _).of_fab hfab, ?_, State.raiseFab_bitSet _ 2 (by decide), ?_⟩
  · rw [State.port_congr hfab, State.port_setPort_same]
  · exact (hraise.2 _ hkey.1 (by simpa using hkey.2)).trans (State.get_count_same ..)
  · rw [hfab]
    exact ((State.count_writes _ _ 1).signals.mono (by simp)).trans (hraise.mono (by simp))

end

section
variable {s : State} {n : Fin 12} {lanes : Vector (Vector Byte 64) 4} {polarity : BitVec 4} {now : Word}

theorem headD_lanes (d : TrainBlock) : (lanes.toList.map (fun l => TrainBlock.ofBytes l.toList)).headD d = TrainBlock.ofBytes lanes[0].toList := by
  obtain ⟨⟨l⟩, hl⟩ := lanes
  match l, hl with
  | a :: _, _ => rfl

theorem negotiateCause_lt {lanes : List TrainBlock} {machine pkg port c : Nat} (h : negotiateCause lanes machine pkg port = some c) : c < 16 := by
  unfold negotiateCause at h
  dsimp only at h
  split_ifs at h <;> · cases h; decide

theorem exec_trainingBlock (lanes : Vector (Vector Byte 64) 4) (polarity : BitVec 4) (now : Word) :
    exec (.trainingBlock n lanes polarity now) s =
      .next (s.trainingBlock n.val (lanes.toList.map (fun l => TrainBlock.ofBytes l.toList)) polarity.toNat now.toNat) := rfl

/-- A block that changes the port at most, when it has been answered. -/
theorem State.blockAnswered_effect (b : TrainBlock) (faster ready : Bool) (q : PortSt) :
    let t := (s.blockAnswered n.val b polarity.toNat now.toNat faster ready).setPort n.val q
    t.port n.val = q ∧ OtherPorts n s t ∧ (∀ v ∈ peerKept n.val b polarity.toNat now.toNat, t.get v.1 = v.2) ∧
      t.out = s.blockSent n.val b now.toNat faster ready :: s.out ∧ FieldsBut ((peerKept n.val b polarity.toNat now.toNat).map Prod.fst) s t ∧
      t = { s with regs := t.regs, fab := t.fab, out := t.out, freeIx := s.freeIx + 1 } := by
  have hget (g : Fld) : ((s.blockAnswered n.val b polarity.toNat now.toNat faster ready).setPort n.val q).get g =
      (s.recordPeer n.val b polarity.toNat now.toNat).get g :=
    (State.setPort_get _ _ _ g).trans (s.blockAnswered_get n.val b _ _ faster ready g)
  refine ⟨State.port_setPort_same _ _ _, ?_, fun v hv => ?_, (State.setPort_out _ _ _).trans (s.blockAnswered_out n.val b polarity.toNat _ faster ready), fun g hg => ?_, ?_⟩
  · have hfab := s.blockAnswered_fab n.val b polarity.toNat now.toNat faster ready
    exact (OtherPorts.of_fab (s := s) (t := s) (fun _ _ => rfl) hfab).trans (State.setPort_others _ n q)
  · rw [hget]
    exact s.recordPeer_kept n.val b polarity.toNat now.toNat polarity.isLt v hv
  · rw [hget]
    exact s.recordPeer_fields n.val b polarity.toNat now.toNat g hg
  · refine State.setPort_only ?_ n.val q
    rw [s.blockAnswered_eq n.val b polarity.toNat now.toNat faster ready]

/-- The peer's registers are none that a failed attempt reaches. -/
theorem peerFields_apart {f : Fld} (hf : f ∈ peerFields n.val) :
    ¬ inPmu f ∧ ∀ g ∈ [R.FAB_PORT_TRAIN_last_fail n.val, R.FAB_EVT, R.GEN_FLOG_STAT_lost], f.key ≠ g.key := by
  have hkey := peerFields_key hf
  simp only [inPmu, List.forall_mem_cons, List.not_mem_nil, false_imp_iff, implies_true, and_true, Fld.key, R.FAB_PORT_TRAIN_last_fail, R.FAB_EVT,
    R.GEN_FLOG_STAT_lost] at hkey ⊢
  omega

/-- An attempt that fails after `x`, which has put registers of the peer and used free values. -/
theorem State.portFail_after {x : State} {i : Nat} (hx : Signals (peerFields n.val) { s with freeIx := i } x) (hstate : (s.port n.val).state ≠ .dark)
    (hempty : (s.port n.val).holds = []) {c : Nat} (hc : c < 16) :
    let p := s.port n.val
    let t := x.portFail n.val c
    t.port n.val = { p.dark c with fails := p.fails + 1, downAt := s.now } ∧ t.get (R.FAB_PORT_TRAIN_last_fail n.val) = c ∧
      BitSet t R.FAB_EVT 1 ∧ OtherPorts n s t ∧ (∀ f ∈ peerFields n.val, t.get f = x.get f) ∧ (∀ o ∈ x.out, o ∈ t.out) ∧
      Signals (R.FAB_PORT_TRAIN_last_fail n.val :: R.FAB_EVT :: R.GEN_FLOG_STAT_lost :: peerFields n.val)
        { s with fab := t.fab, flog := t.flog, flogSeq := t.flogSeq, freeIx := i } t := by
  have hfab : x.fab = s.fab := hx.1.fab
  have hport := State.port_congr hfab n.val
  have hnow : x.now = s.now := by rw [hx.1]
  obtain ⟨hto, hlast, hbit, hothers, hout, hsignals⟩ := State.portFail_effect (s := x) (n := n) (hport ▸ hstate) (hport ▸ hempty) hc
  rw [hport, hnow] at hto
  refine ⟨hto, hlast, hbit, ?_, fun f hf => ?_, hout, ?_⟩
  · exact (OtherPorts.of_fab (s := s) (t := s) (fun _ _ => rfl) hfab).trans hothers
  · obtain ⟨hpmu, hkeys⟩ := peerFields_apart hf
    exact hsignals.2 f hpmu hkeys
  · have hbefore := (hx.withFab (x.portFail n.val c).fab).withFlog (x.portFail n.val c).flog (x.portFail n.val c).flogSeq
    refine (hbefore.mono fun f hf => ?_).trans (hsignals.mono (by simp))
    exact List.mem_cons_of_mem _ (List.mem_cons_of_mem _ (List.mem_cons_of_mem _ hf))

theorem State.blockAnswered_signals (b : TrainBlock) (faster ready : Bool) :
    Signals (peerFields n.val) { s with freeIx := s.freeIx + 1 } (s.blockAnswered n.val b polarity.toNat now.toNat faster ready) := by
  refine ⟨?_, fun g _ hg => (s.blockAnswered_get n.val b _ _ faster ready g).trans (s.recordPeer_fields n.val b _ _ g hg)⟩
  rw [s.blockAnswered_eq]
  rfl

/-- A block whose checks fail, for a port that holds nothing: the peer is recorded, the block sent, and the attempt has failed. -/
theorem State.blockRefused_effect {t : State} (b : TrainBlock) (faster : Bool) (hstate : (s.port n.val).state ≠ .dark)
    (hempty : (s.port n.val).holds = []) {c : Nat} (hc : c < 16)
    (ht : (s.blockAnswered n.val b polarity.toNat now.toNat faster false).portFail n.val c = t) :
    let p := s.port n.val
    t.port n.val = { p.dark c with fails := p.fails + 1, downAt := s.now } ∧ t.get (R.FAB_PORT_TRAIN_last_fail n.val) = c ∧
      BitSet t R.FAB_EVT 1 ∧ OtherPorts n s t ∧ (∀ v ∈ peerKept n.val b polarity.toNat now.toNat, t.get v.1 = v.2) ∧
      s.blockSent n.val b now.toNat faster false ∈ t.out ∧
      Signals (R.FAB_PORT_TRAIN_last_fail n.val :: R.FAB_EVT :: R.GEN_FLOG_STAT_lost :: (peerKept n.val b polarity.toNat now.toNat).map Prod.fst)
        { s with fab := t.fab, flog := t.flog, flogSeq := t.flogSeq, freeIx := s.freeIx + 1 } t := by
  obtain ⟨hto, hlast, hbit, hothers, hpeer, hout, hsignals⟩ :=
    State.portFail_after (s.blockAnswered_signals (n := n) (polarity := polarity) (now := now) b faster false) hstate hempty hc
  rw [ht] at hto hlast hbit hothers hpeer hout hsignals
  refine ⟨hto, hlast, hbit, hothers, fun v hv => ?_, hout _ ?_, hsignals⟩
  · refine (hpeer v.1 (List.mem_map_of_mem hv)).trans ((s.blockAnswered_get n.val b _ _ faster false v.1).trans ?_)
    exact s.recordPeer_kept n.val b polarity.toNat now.toNat polarity.isLt v hv
  · rw [s.blockAnswered_out]
    exact List.mem_cons_self ..

end

/-- Settles O53: each command by what it leaves of its port; what a port held goes on from the state in which it is DARK or starts again. -/
theorem portTraining : Obligations.PortTraining := by
  unfold Obligations.PortTraining
  intro n s k p others into begins fails rehomed goesDark
  have hto : ∀ (cmd : Instr) (q : PortSt), exec cmd s = .next (s.setPort k q) → into cmd [] q [] := fun cmd q h =>
    ⟨_, h, s.port_setPort_same k q, s.setPort_others n q, by simp, s.setPort_writes k q []⟩
  have hfails : ∀ (cmd : Instr) (c : Nat), c < 16 → p.state ≠ .dark → p.holds = [] → exec cmd s = .next (s.portFail k c) → fails cmd [] c := by
    intro cmd c hc hstate hempty h
    obtain ⟨hport, hlast, hbit, hothers, -, hsignals⟩ := State.portFail_effect hstate hempty hc
    exact ⟨_, h, hport, hlast, hbit, hothers, hsignals⟩
  have hdark : ∀ (cmd : Instr) (c : Nat), p.state ≠ .dark → exec cmd s = .next (s.portDark k c) → goesDark cmd [] p c := by
    intro cmd c hstate h
    obtain ⟨u, hu, heffect⟩ := State.portDark_effect (s := s) (n := n) (w := s) (l := []) ⟨rfl, .refl [] s⟩ (fun _ _ => rfl) hstate rfl (by simp) c
    exact ⟨u, h.trans (congrArg _ hu), heffect⟩
  refine ⟨?_, ?_, ?_, ?_, ?_, ?_, ?_, ?_, ?_, ?_, ?_, ?_, ?_, ?_, ?_, ?_, ?_, ?_, ?_, ?_⟩
  · intro hstate hcause hwhy
    obtain ⟨t, ht, heffect⟩ := State.portStart_begins (s := s) (n := n)
    exact ⟨t, (exec_portDetect hstate hcause hwhy).trans (congrArg _ ht), heffect⟩
  · intro hstate hcause hwhy hdue
    obtain ⟨t, ht, heffect⟩ := State.portStart_begins (s := s) (n := n)
    exact ⟨t, (exec_trainingRetry hstate hcause hdue hwhy).trans (congrArg _ ht), heffect⟩
  · exact fun h => ⟨exec_portDetect_not h, exec_trainingRetry_not h⟩
  · exact exec_trainingRetry_early
  · exact fun h => hto _ _ (congrArg Host.Outcome.next (if_pos h))
  · exact fun h => congrArg Host.Outcome.next (if_neg h)
  · exact fun h hno => hto _ _ (congrArg Host.Outcome.next (if_pos ⟨h, hno⟩))
  · exact fun h => congrArg Host.Outcome.next (if_neg fun ⟨hstate, hno⟩ => h.elim (· hstate) fun hyes => Bool.noConfusion (hno.symm.trans hyes))
  · intro hstate hgen2
    have hwrites := (s.setPort_writes k { p with switching := true } [R.FAB_PORT_STAT_gen2_failed k]).into
      (State.put_writes _ (R.FAB_PORT_STAT_gen2_failed k) 1)
    refine ⟨_, congrArg Host.Outcome.next (if_pos ⟨hstate, hgen2⟩), s.port_setPort_same k _, s.setPort_others n _, ?_, hwrites⟩
    exact List.forall_mem_singleton.2 (State.get_put_same ..)
  · exact fun h => congrArg Host.Outcome.next (if_neg fun ⟨hstate, hyes⟩ => h.elim (· hstate) fun hno => Bool.noConfusion (hno.symm.trans hyes))
  · intro hqueue hretry
    have hempty : p.holds = [] := by simp [PortSt.holds, hqueue, hretry]
    refine ⟨fun h => hfails _ 3 (by decide) (by rw [h]; decide) hempty (exec_trainingTimeout_detect h), fun h => ?_⟩
    exact hfails _ 8 (by decide) (by rcases h with h | h <;> rw [h] <;> decide) hempty (exec_trainingTimeout_later h)
  · exact exec_trainingTimeout_not
  · intro lanes polarity now blocks b cause peer faster sent answers
    have hb : blocks.headD (TrainBlock.ofBytes []) = b := headD_lanes _
    refine ⟨fun h => (exec_trainingBlock lanes polarity now).trans (congrArg _ (s.trainingBlock_not k _ _ blocks h)), fun hgood hstate => ?_⟩
    have hnotDark : p.state ≠ .dark := by rcases hstate with h | h <;> rw [h] <;> decide
    refine ⟨fun c hc hqueue hretry => ?_, fun hc hfaster => ?_, fun hc hfaster => ?_⟩
    · have hempty : p.holds = [] := by simp [PortSt.holds, p, hqueue, hretry]
      exact ⟨_, congrArg Host.Outcome.next (State.trainingBlock_failed hgood hstate hb hc),
        State.blockRefused_effect b _ hnotDark hempty (negotiateCause_lt hc) rfl⟩
    · have hwants : s.wantsGen2 k b = true := (s.wantsGen2_iff k b).2 hfaster
      have h := State.trainingBlock_passed (polarity := polarity.toNat) (now := now.toNat) hgood hstate hb hc
      rw [hwants] at h
      exact ⟨_, congrArg Host.Outcome.next h, State.blockAnswered_effect b true false _⟩
    · have hwants : s.wantsGen2 k b = false := Bool.eq_false_iff.2 fun h => hfaster ((s.wantsGen2_iff k b).1 h)
      have h := State.trainingBlock_passed (polarity := polarity.toNat) (now := now.toNat) hgood hstate hb hc
      rw [hwants] at h
      exact ⟨_, congrArg Host.Outcome.next h, State.blockAnswered_effect b false true _⟩
  · intro hup
    refine ⟨fun hstate => ?_, fun hstate => ?_, ?_, fun hwhy => ?_, fun c hwhy hstate => ?_, fun c hwhy hstate => ?_⟩
    · have hput := s.put_writes (R.FAB_PORT_CTRL_en k) 0
      obtain ⟨u, hu, heffect⟩ := State.portDark_effect (s := s) (n := n) (w := s.put (R.FAB_PORT_CTRL_en k) 0) (l := [R.FAB_PORT_CTRL_en k])
        hput (fun _ _ => rfl) hstate rfl (List.forall_mem_singleton.2 ⟨State.get_put_same .., portEnable_apart n⟩) 11
      exact ⟨u, (exec_fabPortDisable hup).trans (congrArg _ hu), heffect⟩
    · have hput := s.put_writes (R.FAB_PORT_CTRL_en k) 0
      refine ⟨_, (exec_fabPortDisable hup).trans (congrArg _ (State.portDark_dark (s := s.put (R.FAB_PORT_CTRL_en k) 0) hstate 11)), State.port_setPort_same _ _ _,
        State.setPort_others _ n _, List.forall_mem_singleton.2 (s.get_put_same (R.FAB_PORT_CTRL_en k) 0), ?_⟩
      exact Writes.setPort (f := s.fab) hput k _
    · obtain ⟨hport, hothers, hone, hwrites⟩ := State.portEnable_effect (s := s) (n := n)
      exact ⟨_, exec_fabPortEnable hup, hport, hothers, List.forall_mem_singleton.2 hone, hwrites⟩
    · obtain ⟨hport, hothers, hgen2, hattempts, hwrites⟩ := (s.failsCleared k).portStart_effect n
      refine ⟨_, (exec_fabPortRetrain hup).trans (congrArg _ (State.portRetrain_start hwhy)), ?_,
        (s.setPort_others n _).trans hothers, hgen2, hattempts, hwrites⟩
      rw [hport, State.failsCleared_port]
      rfl
    · have hport := s.failsCleared_port k
      obtain ⟨u, hu, hto, heffect⟩ := State.portDark_effect (s := s) (n := n) (w := s.failsCleared k) (l := []) (s.setPort_writes k _ [])
        (s.setPort_others n _) (by rw [hport]; exact hstate) (by rw [hport]; rfl) (by simp) c
      rw [hport] at hto
      exact ⟨u, (exec_fabPortRetrain hup).trans (congrArg _ (((State.portRetrain_not hwhy).trans (if_neg hstate)).trans hu)), hto, heffect⟩
    · exact ⟨_, (exec_fabPortRetrain hup).trans (congrArg _ ((State.portRetrain_not hwhy).trans (if_pos hstate))), s.port_setPort_same k _,
        s.setPort_others n _, by simp, s.setPort_writes k _ _⟩
  · exact fun hstate hdetect => hdark _ 3 hstate (exec_lossOfSignal hstate hdetect)
  · exact exec_lossOfSignal_not
  · exact fun h => hdark _ 9 (by simp [h]) (congrArg Host.Outcome.next (if_pos h))
  · exact fun h => congrArg Host.Outcome.next (if_neg h)
  · exact exec_retrain_not
  · intro h recent
    exact ⟨_, exec_retrain h, State.retrained_effect recent⟩

end Sys2Proof.Machine
end

section
/-!
PROOFS. What the flash commands are made of (R586–R592, R604, R605): FLS_LAST and FLS_STAT, words and sectors, and the erase log.
-/

namespace Sys2Proof.Machine

/-! ### How a command ends (R589) -/

/-- FLS_LAST. -/
def lastFields : List Fld := [R.FLS_LAST_cmd, R.FLS_LAST_result, R.FLS_LAST_bank, R.FLS_LAST_sector, R.FLS_LAST_word]

/-- FLS_STAT's picture of the active operation. -/
def statusFields : List Fld := [R.FLS_STAT_busy, R.FLS_STAT_op, R.FLS_STAT_bank, R.FLS_STAT_sector, R.FLS_STAT_suspend_depth]

/-- FLS_LAST tells of this command, with this result at this place. -/
def LastIs (t : State) (cmd result : Nat) (bankB : Bool) (sector word : Nat) : Prop :=
  t.get R.FLS_LAST_cmd = cmd ∧ t.get R.FLS_LAST_result = result ∧ t.get R.FLS_LAST_bank = b2n bankB ∧
    t.get R.FLS_LAST_sector = sector % 256 ∧ t.get R.FLS_LAST_word = word % 256

theorem LastIs.of_get {s t : State} {cmd result : Nat} {bankB : Bool} {sector word : Nat} (h : LastIs s cmd result bankB sector word)
    (hget : ∀ f ∈ lastFields, t.get f = s.get f) : LastIs t cmd result bankB sector word := by
  simp only [lastFields, List.forall_mem_cons, List.not_mem_nil, false_imp_iff, implies_true, and_true] at hget
  obtain ⟨hcmd, hresult, hbank, hsector, hword⟩ := hget
  unfold LastIs
  rwa [hcmd, hresult, hbank, hsector, hword]

theorem State.flsLast_writes (s : State) (cmd result : Nat) (bankB : Bool) (sector word : Nat) :
    Writes lastFields s (s.flsLast cmd result bankB sector word) := s.puts_writes _

theorem State.flsLast_is (s : State) {cmd result : Nat} (hcmd : cmd < 16) (hresult : result < 16) (bankB : Bool) (sector word : Nat) :
    LastIs (s.flsLast cmd result bankB sector word) cmd result bankB sector word := by
  have hget := fun p hp => s.get_puts_mem lastFields (l := [(R.FLS_LAST_cmd, cmd), (R.FLS_LAST_result, result), (R.FLS_LAST_bank, b2n bankB),
    (R.FLS_LAST_sector, sector), (R.FLS_LAST_word, word)]) rfl (by decide) (p := p) hp
  simp only [List.forall_mem_cons, List.not_mem_nil, false_imp_iff, implies_true, and_true] at hget
  obtain ⟨h1, h2, h3, h4, h5⟩ := hget
  exact ⟨h1.trans (Nat.mod_eq_of_lt hcmd), h2.trans (Nat.mod_eq_of_lt hresult), h3.trans (Nat.mod_eq_of_lt (b2n_lt_two bankB)), h4, h5⟩

/-- Fields of one bit outside FLS_LAST, each listed once. -/
def areFlags (l : List Fld) : Bool := l.all (fun f => f.w == 1 && f.rst == 0 && !(lastFields.map Fld.key).contains f.key) && decide ((l.map Fld.key).Nodup)

/-- Flags set. -/
def State.flagged (s : State) (l : List Fld) : State := s.puts (l.map (·, 1))

/-- A command that ends: its flags are set, and FLS_LAST tells of it. -/
theorem State.ended_effect (s : State) {l : List Fld} (hl : areFlags l = true) {cmd result : Nat} (hcmd : cmd < 16) (hresult : result < 16)
    (bankB : Bool) (sector word : Nat) :
    let t := (s.flagged l).flsLast cmd result bankB sector word
    (∀ f ∈ l, t.get f = 1) ∧ LastIs t cmd result bankB sector word ∧ Writes (l ++ lastFields) s t := by
  obtain ⟨hall, hnodup⟩ := Bool.and_eq_true_iff.1 hl
  rw [List.all_eq_true] at hall
  have hfst : (l.map (·, 1)).map Prod.fst = l := by simp [Function.comp_def]
  refine ⟨fun f hf => ?_, State.flsLast_is _ hcmd hresult bankB sector word, ?_⟩
  · obtain ⟨hw, hkey⟩ := Bool.and_eq_true_iff.1 (hall f hf)
    obtain ⟨hw, -⟩ := Bool.and_eq_true_iff.1 hw
    have hput : (s.flagged l).get f = 1 % 2 ^ f.w :=
      s.get_puts_mem l hfst (of_decide_eq_true hnodup) (p := (f, 1)) (List.mem_map.2 ⟨f, hf, rfl⟩)
    rw [beq_iff_eq.1 hw] at hput
    refine ((State.flsLast_writes _ _ _ _ _ _).2 f fun g hg hk => ?_).trans hput
    rw [Bool.not_eq_true', Bool.eq_false_iff, Ne, List.contains_iff_mem] at hkey
    exact hkey (List.mem_map.2 ⟨g, hg, hk.symm⟩)
  · have hflags : Writes l s (s.flagged l) := by
      have h := s.puts_writes (l.map (·, 1))
      rwa [hfst] at h
    have hlast := (s.flagged l).flsLast_writes cmd result bankB sector word
    exact Writes.trans ⟨hflags.1, fun g hg => hflags.2 g fun f hf => hg f (List.mem_append_left _ hf)⟩
      ⟨hlast.1, fun g hg => hlast.2 g fun f hf => hg f (List.mem_append_right _ hf)⟩

/-- An erase refused for want of energy (R521). -/
theorem State.eraseRefused_effect (s : State) {cmd : Nat} (hcmd : cmd < 16) (bankB : Bool) (sector : Nat) :
    let t := s.eraseRefused cmd bankB sector
    t.get R.FLS_STAT_busy_energy = 1 ∧ t.get R.BATT_BUDGET_refusals = satAdd 16 (s.get R.BATT_BUDGET_refusals) 1 ∧
      LastIs t cmd 2 bankB sector 0 ∧ Writes (R.FLS_STAT_busy_energy :: R.BATT_BUDGET_refusals :: lastFields) s t := by
  obtain ⟨hflag, hlast, hwrites⟩ := (s.count R.BATT_BUDGET_refusals 1).ended_effect (l := [R.FLS_STAT_busy_energy]) (by decide) hcmd
    (show 2 < 16 by decide) bankB sector 0
  refine ⟨hflag _ (List.mem_singleton_self _), (hwrites.2 R.BATT_BUDGET_refusals (by decide)).trans (State.get_count_same ..), hlast, ?_⟩
  exact ((s.count_writes R.BATT_BUDGET_refusals 1).mono (by simp)).trans (hwrites.mono (by simp +contextual))

theorem State.flsShow_idle {s : State} (h : s.fls.active = none) : s.flsShow =
    (s.put R.FLS_STAT_suspend_depth s.fls.suspended.length).puts
      [(R.FLS_STAT_busy, 0), (R.FLS_STAT_op, 0), (R.FLS_STAT_bank, 0), (R.FLS_STAT_sector, 0)] := by
  unfold State.flsShow
  rw [h]

theorem State.flsShow_active {s : State} {a : FlashOp} (h : s.fls.active = some a) : s.flsShow =
    (s.put R.FLS_STAT_suspend_depth s.fls.suspended.length).puts
      [(R.FLS_STAT_busy, 1), (R.FLS_STAT_op, a.op), (R.FLS_STAT_bank, b2n a.bankB), (R.FLS_STAT_sector, a.sector)] := by
  unfold State.flsShow
  rw [h]

theorem State.flsShow_writes (s : State) : Writes statusFields s s.flsShow := by
  have hdepth := (s.put_writes R.FLS_STAT_suspend_depth s.fls.suspended.length).mono (m := statusFields) (by simp [statusFields])
  cases h : s.fls.active with
  | none =>
    rw [State.flsShow_idle h]
    exact hdepth.trans ((State.puts_writes _ _).mono (by simp [statusFields]))
  | some a =>
    rw [State.flsShow_active h]
    exact hdepth.trans ((State.puts_writes _ _).mono (by simp [statusFields]))

theorem State.flsShow_fls (s : State) : s.flsShow.fls = s.fls := by rw [s.flsShow_writes.1]

theorem State.flsShow_busy_idle {s : State} (h : s.fls.active = none) : s.flsShow.get R.FLS_STAT_busy = 0 := by
  rw [State.flsShow_idle h]
  exact State.get_puts_mem _ [R.FLS_STAT_busy, R.FLS_STAT_op, R.FLS_STAT_bank, R.FLS_STAT_sector] rfl (by decide) (p := (R.FLS_STAT_busy, 0))
    (List.mem_cons_self ..)

theorem State.flsShow_op {s : State} {a : FlashOp} (h : s.fls.active = some a) (hop : a.op < 4) :
    s.flsShow.get R.FLS_STAT_busy = 1 ∧ s.flsShow.get R.FLS_STAT_op = a.op := by
  have hget := fun p hp => (s.put R.FLS_STAT_suspend_depth s.fls.suspended.length).get_puts_mem
    [R.FLS_STAT_busy, R.FLS_STAT_op, R.FLS_STAT_bank, R.FLS_STAT_sector]
    (l := [(R.FLS_STAT_busy, 1), (R.FLS_STAT_op, a.op), (R.FLS_STAT_bank, b2n a.bankB), (R.FLS_STAT_sector, a.sector)])
    rfl (by decide) (p := p) hp
  rw [State.flsShow_active h]
  exact ⟨hget (R.FLS_STAT_busy, 1) (by simp), (hget (R.FLS_STAT_op, a.op) (by simp)).trans (Nat.mod_eq_of_lt hop)⟩

theorem LastIs.flsShow {s : State} {cmd result : Nat} {bankB : Bool} {sector word : Nat} (h : LastIs s cmd result bankB sector word) :
    LastIs s.flsShow cmd result bankB sector word := h.of_get fun f hf => s.flsShow_writes.2 f (by revert f; decide)

/-! ### Words and sectors -/

/-- Everything but the flash is the same. -/
def OnlyFls (s t : State) : Prop := t = { s with fls := t.fls }

theorem OnlyFls.trans {s t u : State} (h1 : OnlyFls s t) (h2 : OnlyFls t u) : OnlyFls s u := by unfold OnlyFls at *; rw [h2, h1]

theorem OnlyFls.regs {s t : State} (h : OnlyFls s t) : t.regs = s.regs := by rw [h]

/-- Everything of the flash but its words, the words left unpredictable and the log's place is the same. -/
def OnlyWords (f g : FlsSt) : Prop :=
  g = { f with words := g.words, torn := g.torn, logSector := g.logSector, logWord := g.logWord, logSeq := g.logSeq, logGen := g.logGen }

theorem OnlyWords.trans {f g h : FlsSt} (h1 : OnlyWords f g) (h2 : OnlyWords g h) : OnlyWords f h := by unfold OnlyWords at *; rw [h2, h1]

theorem OnlyWords.active {f g : FlsSt} (h : OnlyWords f g) : g.active = f.active := by rw [h]

/-- Only words of the flash, and what goes with them. -/
def FlashWords (s t : State) : Prop := OnlyFls s t ∧ OnlyWords s.fls t.fls

theorem FlashWords.refl (s : State) : FlashWords s s := ⟨rfl, rfl⟩

theorem FlashWords.trans {s t u : State} (h1 : FlashWords s t) (h2 : FlashWords t u) : FlashWords s u := ⟨h1.1.trans h2.1, h1.2.trans h2.2⟩

theorem FlashWords.get {s t : State} (h : FlashWords s t) (g : Fld) : t.get g = s.get g := by rw [State.get, h.1.regs, State.get]

section
variable (s : State)

theorem State.flashSet_same (ix v : Nat) : (s.flashSet ix v).fls.word ix = v := SMap.get_set_same ..

theorem State.flashSet_other {ix k : Nat} (v : Nat) (h : k ≠ ix) : (s.flashSet ix v).fls.word k = s.fls.word k := SMap.get_set_other _ _ _ _ _ h

theorem State.flashSet_flash (ix v : Nat) : FlashWords s (s.flashSet ix v) := ⟨rfl, rfl⟩

theorem State.sectorErased_in (bankB : Bool) (sector : Nat) {k : Nat} (h : sectorWord bankB sector ≤ k ∧ k < sectorWord bankB sector + 256) :
    (s.sectorErased bankB sector).fls.word k = blankWord := by
  show SMap.get blankWord (SMap.clearRange _ _ _) k = _
  rw [SMap.get, SMap.lookup_clearRange_in _ _ _ _ h]
  rfl

theorem State.sectorErased_out (bankB : Bool) (sector : Nat) {k : Nat} (h : ¬ (sectorWord bankB sector ≤ k ∧ k < sectorWord bankB sector + 256)) :
    (s.sectorErased bankB sector).fls.word k = s.fls.word k := by
  show SMap.get blankWord (SMap.clearRange _ _ _) k = _
  rw [SMap.get, SMap.lookup_clearRange_out _ _ _ _ h]
  rfl

theorem State.sectorErased_flash (bankB : Bool) (sector : Nat) : FlashWords s (s.sectorErased bankB sector) := ⟨rfl, rfl⟩

theorem State.sectorErased_logSector (bankB : Bool) (sector : Nat) : (s.sectorErased bankB sector).fls.logSector = s.fls.logSector := rfl

theorem State.sectorErased_logWord (bankB : Bool) (sector : Nat) : (s.sectorErased bankB sector).fls.logWord = s.fls.logWord := rfl

/-! ### The erase log (R604, R605) -/

/-- The next word of the active log sector. -/
def State.logPlace : Nat := sectorWord true s.fls.logSector + s.fls.logWord

theorem State.logPut_full {type sector : Nat} {bankB : Bool} (h : 256 ≤ s.fls.logWord) : s.logPut type bankB sector = s := if_pos h

theorem State.logPut_flash (type : Nat) (bankB : Bool) (sector : Nat) : FlashWords s (s.logPut type bankB sector) := by
  unfold State.logPut
  split
  · exact .refl s
  · exact ⟨rfl, rfl⟩

theorem State.logPut_at {type sector : Nat} {bankB : Bool} (h : s.fls.logWord < 256) :
    (s.logPut type bankB sector).fls.word s.logPlace = logEntry type bankB sector s.fls.logSeq := by
  rw [State.logPut, if_neg (Nat.not_le.2 h)]
  exact s.flashSet_same _ _

theorem State.logPut_other {type sector k : Nat} {bankB : Bool} (h : s.fls.logWord < 256 → k ≠ s.logPlace) :
    (s.logPut type bankB sector).fls.word k = s.fls.word k := by
  unfold State.logPut
  split
  · rfl
  · exact s.flashSet_other _ (h (by omega))

theorem State.logPut_sector (type : Nat) (bankB : Bool) (sector : Nat) : (s.logPut type bankB sector).fls.logSector = s.fls.logSector := by
  unfold State.logPut
  split <;> rfl

theorem State.logPut_word_le (type : Nat) (bankB : Bool) (sector : Nat) : s.fls.logWord ≤ (s.logPut type bankB sector).fls.logWord := by
  unfold State.logPut
  split
  · exact Nat.le_refl _
  · exact Nat.le_succ _

theorem State.logPut_word_next {type sector : Nat} {bankB : Bool} (h : s.fls.logWord < 256) :
    (s.logPut type bankB sector).fls.logWord = s.fls.logWord + 1 := by
  rw [State.logPut, if_neg (Nat.not_le.2 h)]

/-- The log sector that a switch goes to. -/
def State.logOther : Nat := 1 - s.fls.logSector

/-- The other log sector erased, between its BEGIN and DONE. -/
def State.logMoved : State := ((s.logPut 0x42 true s.logOther).sectorErased true s.logOther).logPut 0x44 true s.logOther

/-- The log goes on in another sector, from its second word. -/
def State.logAt (other gen : Nat) : State := { s with fls := { s.fls with logSector := other, logWord := 1, logGen := gen } }

theorem State.logAt_flash (other gen : Nat) : FlashWords s (s.logAt other gen) := ⟨rfl, rfl⟩

theorem State.logAt_word (other gen k : Nat) : (s.logAt other gen).fls.word k = s.fls.word k := rfl

/-- A log sector opened by its first word. -/
def State.logOpened (other : Nat) : State :=
  (s.flashSet (sectorWord true other) (logEntry 0x48 false 0 (s.fls.logGen + 1))).logAt other (s.fls.logGen + 1)

theorem State.logSwitch_eq : s.logSwitch = if 253 < s.fls.logWord ∧ s.eraseAllowed = true then s.logMoved.logOpened s.logOther else s := rfl

theorem State.logOpened_flash (other : Nat) : FlashWords s (s.logOpened other) := (s.flashSet_flash _ _).trans (State.logAt_flash _ _ _)

theorem State.logOpened_other {other k : Nat} (h : k ≠ sectorWord true other) : (s.logOpened other).fls.word k = s.fls.word k := by
  rw [State.logOpened, State.logAt_word]
  exact s.flashSet_other _ h

theorem State.logMoved_flash : FlashWords s s.logMoved :=
  ((s.logPut_flash _ _ _).trans (State.sectorErased_flash _ _ _)).trans (State.logPut_flash _ _ _ _)

/-- A switch writes the log sector it leaves from its next word on, and the other sector. -/
theorem State.logSwitch_other {k : Nat} (hbehind : s.logPlace ≤ k → sectorWord true s.fls.logSector + 256 ≤ k)
    (hapart : ¬ (sectorWord true s.logOther ≤ k ∧ k < sectorWord true s.logOther + 256)) : s.logSwitch.fls.word k = s.fls.word k := by
  rw [State.logSwitch_eq]
  split
  case isFalse => rfl
  case isTrue hfull =>
    have hmiss : ∀ u : State, u.fls.logSector = s.fls.logSector → s.fls.logWord ≤ u.fls.logWord → u.fls.logWord < 256 → k ≠ u.logPlace := by
      intro u hsector hword hlt
      unfold State.logPlace at *
      rw [hsector]
      omega
    have hsector : ((s.logPut 0x42 true s.logOther).sectorErased true s.logOther).fls.logSector = s.fls.logSector := by
      rw [State.sectorErased_logSector, State.logPut_sector]
    have hword : s.fls.logWord ≤ ((s.logPut 0x42 true s.logOther).sectorErased true s.logOther).fls.logWord := by
      rw [State.sectorErased_logWord]
      exact s.logPut_word_le _ _ _
    refine (s.logMoved.logOpened_other fun hk => hapart ?_).trans ?_
    · rw [hk]
      exact ⟨Nat.le_refl _, Nat.lt_add_of_pos_right (by decide)⟩
    · rw [State.logMoved, State.logPut_other _ (hmiss _ hsector hword), State.sectorErased_out _ _ _ hapart,
        State.logPut_other _ (hmiss s rfl (Nat.le_refl _))]

theorem State.logSwitch_flash : FlashWords s s.logSwitch := by
  rw [State.logSwitch_eq]
  split
  · exact s.logMoved_flash.trans (State.logOpened_flash _ _)
  · exact .refl s

theorem State.logAppend_flash (type : Nat) (bankB : Bool) (sector : Nat) : FlashWords s (s.logAppend type bankB sector) :=
  (s.logPut_flash type bankB sector).trans (State.logSwitch_flash _)

theorem State.logBegin_flash (bankB : Bool) (sector : Nat) : FlashWords s (s.logBegin bankB sector) :=
  s.logSwitch_flash.trans (State.logAppend_flash _ _ _ _)

/-- An entry appended is kept: the switch that may follow goes on behind it and to the other sector. -/
theorem State.logAppend_at {type sector : Nat} {bankB : Bool} (h : s.fls.logWord < 256) :
    (s.logAppend type bankB sector).fls.word s.logPlace = logEntry type bankB sector s.fls.logSeq := by
  refine (State.logSwitch_other _ ?_ ?_).trans (s.logPut_at h)
  · unfold State.logPlace
    rw [s.logPut_sector, s.logPut_word_next h]
    omega
  · unfold State.logOther State.logPlace sectorWord
    rw [s.logPut_sector]
    simp only [b2n, if_true]
    omega

/-- A word outside both log sectors is none of the log's. -/
theorem State.logAppend_apart {type sector k : Nat} {bankB : Bool} (hlog : s.fls.logSector < 2) (hk : k < 65536 ∨ 66048 ≤ k) :
    (s.logAppend type bankB sector).fls.word k = s.fls.word k := by
  have hplace : s.fls.logWord < 256 → k ≠ s.logPlace := by
    unfold State.logPlace sectorWord
    simp only [b2n, if_true]
    omega
  refine (State.logSwitch_other _ ?_ ?_).trans (s.logPut_other hplace)
  · unfold State.logPlace sectorWord
    rw [s.logPut_sector]
    simp only [b2n, if_true]
    omega
  · unfold State.logOther sectorWord
    rw [s.logPut_sector]
    simp only [b2n, if_true]
    omega

/-- A BEGIN while the active log sector has room (R605). -/
theorem State.logBegin_at {bankB : Bool} {sector : Nat} (h : s.fls.logWord ≤ 253) :
    (s.logBegin bankB sector).fls.word s.logPlace = logEntry 0x42 bankB sector s.fls.logSeq := by
  have hroom : s.logSwitch = s := if_neg fun hfull => absurd hfull.1 (Nat.not_lt.2 h)
  rw [State.logBegin, hroom]
  exact s.logAppend_at (by omega)

end

end Sys2Proof.Machine
end

section
/-!
PROOFS. The flash's commands (R589–R603): how each ends, the words it leaves, and the operation it begins, ends or sets aside.
-/

namespace Sys2Proof.Machine

/-- The command only sets a flag and says why in FLS_LAST. -/
def Refuses (s : State) (i : Instr) (flag : Fld) (cmd result : Nat) (bankB : Bool) (sector word : Nat) : Prop :=
  ∃ t, exec i s = .next t ∧ t.get flag = 1 ∧ LastIs t cmd result bankB sector word ∧ Writes (flag :: lastFields) s t

theorem refuses_of_exec {s : State} {i : Instr} {flag : Fld} {cmd result : Nat} {bankB : Bool} {sector word : Nat}
    (h : exec i s = .next ((s.flagged [flag]).flsLast cmd result bankB sector word)) (hflag : areFlags [flag] = true) (hcmd : cmd < 16)
    (hresult : result < 16) : Refuses s i flag cmd result bankB sector word := by
  obtain ⟨hset, hlast, hwrites⟩ := s.ended_effect hflag hcmd hresult bankB sector word
  exact ⟨_, h, hset flag (List.mem_singleton_self _), hlast, hwrites⟩

/-- The command is refused for want of energy. -/
def NoEnergy (s : State) (i : Instr) (cmd : Nat) (bankB : Bool) (sector : Nat) : Prop :=
  ∃ t, exec i s = .next t ∧ t.get R.FLS_STAT_busy_energy = 1 ∧ t.get R.BATT_BUDGET_refusals = satAdd 16 (s.get R.BATT_BUDGET_refusals) 1 ∧
    LastIs t cmd 2 bankB sector 0 ∧ Writes (R.FLS_STAT_busy_energy :: R.BATT_BUDGET_refusals :: lastFields) s t

theorem noEnergy_of_exec {s : State} {i : Instr} {cmd : Nat} {bankB : Bool} {sector : Nat} (h : exec i s = .next (s.eraseRefused cmd bankB sector))
    (hcmd : cmd < 16) : NoEnergy s i cmd bankB sector := ⟨_, h, s.eraseRefused_effect hcmd bankB sector⟩

/-! ### PROGRAM (R590) -/

/-- The bank and sector of a word. -/
def inBankB (ix : Nat) : Bool := decide (65536 ≤ ix)
def sectorOf (ix : Nat) : Nat := ix % 65536 / 256

/-- The state in which PROGRAM ends, after `u`. -/
def State.programEnded (u : State) (ix : Nat) (l : List Fld) (result : Nat) : State :=
  (u.flagged l).flsLast 1 result (inBankB ix) (sectorOf ix) (ix % 256)

/-- The word is in a sector of an erase that is suspended, or to be made again (R606). -/
def State.cutAt (s : State) (ix : Nat) : Bool :=
  s.fls.suspended.any (fun a => a.op == 2 && a.bankB == inBankB ix && a.sector == sectorOf ix) ||
    s.fls.unmatched.contains (inBankB ix, sectorOf ix)

theorem exec_program_not {s : State} {w : BitVec 17} {v : Word64} {bad : Bool} (h : s.fls.active ≠ none ∨ s.programAllowed = false) :
    exec (.program w v bad) s = .next s := by
  refine congrArg Host.Outcome.next (if_pos ?_)
  rcases h with h | h
  · rw [Option.isSome_iff_ne_none.2 h, Bool.true_or]
  · rw [h, Bool.not_false, Bool.or_true]

theorem exec_program {s : State} {w : BitVec 17} {v : Word64} {bad : Bool} (hidle : s.fls.active = none) (hallowed : s.programAllowed = true) :
    exec (.program w v bad) s = .next (s.flashProgram w.toNat v.toNat bad).2 :=
  congrArg Host.Outcome.next (if_neg (by rw [hidle, hallowed]; decide))

section
variable {s : State} {ix v : Nat} {bad : Bool}

theorem State.flashProgram_range (h : outOfRange (inBankB ix) (sectorOf ix) = true) :
    (s.flashProgram ix v bad).2 = s.programEnded ix [R.FLS_STAT_range] 9 := congrArg Prod.snd (if_pos h)

variable (hrange : outOfRange (inBankB ix) (sectorOf ix) = false)
include hrange

theorem State.flashProgram_cut (h : s.cutAt ix = true) : (s.flashProgram ix v bad).2 = s.programEnded ix [R.FLS_STAT_target_erasing] 6 := by
  have hopen : s.flashProgram ix v bad = (6, s.programEnded ix [R.FLS_STAT_target_erasing] 6) := by
    refine (if_neg (Bool.eq_false_iff.1 hrange)).trans ?_
    by_cases hsuspended : s.fls.suspended.any (fun a => a.op == 2 && a.bankB == inBankB ix && a.sector == sectorOf ix) = true
    · exact if_pos hsuspended
    · have hunmatched : s.fls.unmatched.contains (inBankB ix, sectorOf ix) = true := by
        rw [State.cutAt, Bool.eq_false_iff.2 hsuspended, Bool.false_or] at h
        exact h
      exact (if_neg hsuspended).trans (if_pos hunmatched)
  rw [hopen]

variable (hcut : s.cutAt ix = false)
include hcut

/-- What PROGRAM does in a sector it may program. -/
theorem State.flashProgram_open : (s.flashProgram ix v bad).2 =
    if s.fls.isTorn ix then
      if s.free.1 % 2 ^ 64 ≠ blankWord then s.free.2.programEnded ix [R.FLS_STAT_not_blank] 1
      else if v = blankWord then s.free.2.programEnded ix [R.FLS_STAT_range] 9
      else if bad = true ∨ (s.free.2.flashSet ix v).free.1 % 2 ^ 64 ≠ v then
        (s.free.2.flashSet ix v).free.2.programEnded ix [R.FLS_STAT_verify_fail] 3
      else (s.free.2.flashSet ix v).free.2.programEnded ix [] 0
    else if s.fls.word ix ≠ blankWord then s.programEnded ix [R.FLS_STAT_not_blank] 1
    else if v = blankWord then s.programEnded ix [R.FLS_STAT_range] 9
    else if bad then (s.flashSet ix v).programEnded ix [R.FLS_STAT_verify_fail] 3 else (s.flashSet ix v).programEnded ix [] 0 := by
  obtain ⟨hsuspended, hunmatched⟩ := Bool.or_eq_false_iff.1 hcut
  refine (congrArg Prod.snd ((if_neg (Bool.eq_false_iff.1 hrange)).trans ((if_neg (Bool.eq_false_iff.1 hsuspended)).trans
    (if_neg (Bool.eq_false_iff.1 hunmatched))))).trans ?_
  simp only [apply_ite Prod.snd]
  rfl

end

theorem OnlyRegs.fls {s t : State} (h : OnlyRegs s t) : t.fls = s.fls := by rw [h]

theorem State.programEnded_effect (u : State) (ix : Nat) {l : List Fld} (hl : areFlags l = true) {result : Nat} (hresult : result < 16) :
    let t := u.programEnded ix l result
    (∀ f ∈ l, t.get f = 1) ∧ LastIs t 1 result (inBankB ix) (sectorOf ix) ix ∧ t.fls = u.fls ∧ Writes (l ++ lastFields) u t := by
  obtain ⟨hset, ⟨h1, h2, h3, h4, h5⟩, hwrites⟩ := u.ended_effect hl (show 1 < 16 by decide) hresult (inBankB ix) (sectorOf ix) (ix % 256)
  refine ⟨hset, ⟨h1, h2, h3, h4, h5.trans (Nat.mod_mod _ _)⟩, ?_, hwrites⟩
  exact OnlyRegs.fls hwrites.1

/-- A refusal of PROGRAM. -/
theorem refuses_program {s : State} {i : Instr} {flag : Fld} {ix result : Nat} (h : exec i s = .next (s.programEnded ix [flag] result))
    (hflag : areFlags [flag] = true) (hresult : result < 16) : Refuses s i flag 1 result (inBankB ix) (sectorOf ix) ix := by
  obtain ⟨hset, hlast, -, hwrites⟩ := s.programEnded_effect ix hflag hresult
  exact ⟨_, h, hset flag (List.mem_singleton_self _), hlast, hwrites⟩

/-- PROGRAM has put at most its word, and used `used` free values. -/
def ProgramEnds (s : State) (i : Instr) (ix used : Nat) (flag : List Fld) (result : Nat) (word : Option Nat) : Prop :=
  ∃ t, exec i s = .next t ∧ (∀ f ∈ flag, t.get f = 1) ∧ LastIs t 1 result (inBankB ix) (sectorOf ix) ix ∧
    (∀ k, k ≠ ix → t.fls.word k = s.fls.word k) ∧ (∀ x, word = some x → t.fls.word ix = x) ∧ (word = none → t.fls = s.fls) ∧
    Writes (flag ++ lastFields) { s with fls := { s.fls with words := t.fls.words }, freeIx := s.freeIx + used } t

theorem programEnds_of_exec {s u : State} {i : Instr} {ix used : Nat} {flag : List Fld} {result : Nat} {word : Option Nat}
    (h : exec i s = .next (u.programEnded ix flag result)) (hflag : areFlags flag = true) (hresult : result < 16)
    (hu : u = { s with fls := { s.fls with words := u.fls.words }, freeIx := s.freeIx + used })
    (hother : ∀ k, k ≠ ix → u.fls.word k = s.fls.word k) (hsome : ∀ x, word = some x → u.fls.word ix = x) (hnone : word = none → u.fls = s.fls) :
    ProgramEnds s i ix used flag result word := by
  obtain ⟨hset, hlast, hfls, hwrites⟩ := u.programEnded_effect ix hflag hresult
  refine ⟨_, h, hset, hlast, ?_⟩
  rw [hfls, ← hu]
  exact ⟨hother, hsome, hnone, hwrites⟩

/-- A word programmed after one free value has been used. -/
theorem State.free_flashSet (s : State) (ix v : Nat) : (s.free.2.flashSet ix v).free.2 =
    { s with fls := { s.fls with words := SMap.set blankWord s.fls.words ix v }, freeIx := s.freeIx + 2 } := rfl

section
variable {s : State} {i : Instr} {ix v : Nat} {flag : List Fld} {result : Nat}

/-- PROGRAM of an unpredictable word that ends before it writes. -/
theorem programEnds_read (h : exec i s = .next (s.free.2.programEnded ix flag result)) (hflag : areFlags flag = true) (hresult : result < 16) :
    ProgramEnds s i ix 1 flag result none :=
  programEnds_of_exec h hflag hresult rfl (fun _ _ => rfl) (fun _ hx => absurd hx (by simp)) fun _ => rfl

/-- PROGRAM of an unpredictable word that writes it. -/
theorem programEnds_written (h : exec i s = .next ((s.free.2.flashSet ix v).free.2.programEnded ix flag result)) (hflag : areFlags flag = true)
    (hresult : result < 16) : ProgramEnds s i ix 2 flag result (some v) := by
  refine programEnds_of_exec h hflag hresult rfl (fun k hk => s.flashSet_other v hk) (fun x hx => ?_) fun hx => absurd hx (by simp)
  rw [← Option.some.inj hx]
  exact s.flashSet_same ix v

/-- PROGRAM of a blank word. -/
theorem program_blank (h : exec i s = .next ((s.flashSet ix v).programEnded ix flag result)) (hflag : areFlags flag = true) (hresult : result < 16) :
    ∃ t, exec i s = .next t ∧ t.fls.word ix = v ∧ (∀ k, k ≠ ix → t.fls.word k = s.fls.word k) ∧
      LastIs t 1 result (inBankB ix) (sectorOf ix) ix ∧ (∀ f ∈ flag, t.get f = 1) ∧
      Writes (flag ++ lastFields) { s with fls := { s.fls with words := t.fls.words } } t := by
  obtain ⟨hset, hlast, hfls, hwrites⟩ := (s.flashSet ix v).programEnded_effect ix hflag hresult
  refine ⟨_, h, ?_⟩
  rw [hfls]
  exact ⟨s.flashSet_same ix v, fun k hk => s.flashSet_other v hk, hlast, hset, hwrites⟩

end

section
variable {s : State} {ix v : Nat} {bad : Bool} (hrange : outOfRange (inBankB ix) (sectorOf ix) = false) (hcut : s.cutAt ix = false)
include hrange hcut

theorem State.flashProgram_torn_full (htorn : s.fls.isTorn ix = true) (hfound : s.free.1 % 2 ^ 64 ≠ blankWord) :
    (s.flashProgram ix v bad).2 = s.free.2.programEnded ix [R.FLS_STAT_not_blank] 1 := by
  rw [State.flashProgram_open hrange hcut, if_pos htorn, if_pos hfound]

theorem State.flashProgram_torn_ones (htorn : s.fls.isTorn ix = true) (hfound : s.free.1 % 2 ^ 64 = blankWord) (hv : v = blankWord) :
    (s.flashProgram ix v bad).2 = s.free.2.programEnded ix [R.FLS_STAT_range] 9 := by
  rw [State.flashProgram_open hrange hcut, if_pos htorn, if_neg (not_not.2 hfound), if_pos hv]

theorem State.flashProgram_torn_bad (htorn : s.fls.isTorn ix = true) (hfound : s.free.1 % 2 ^ 64 = blankWord) (hv : v ≠ blankWord)
    (hbad : bad = true ∨ s.free.2.free.1 % 2 ^ 64 ≠ v) :
    (s.flashProgram ix v bad).2 = (s.free.2.flashSet ix v).free.2.programEnded ix [R.FLS_STAT_verify_fail] 3 := by
  rw [State.flashProgram_open hrange hcut, if_pos htorn, if_neg (not_not.2 hfound), if_neg hv]
  exact if_pos hbad

theorem State.flashProgram_torn_good (htorn : s.fls.isTorn ix = true) (hfound : s.free.1 % 2 ^ 64 = blankWord) (hv : v ≠ blankWord)
    (hgood : bad = false) (hback : s.free.2.free.1 % 2 ^ 64 = v) :
    (s.flashProgram ix v bad).2 = (s.free.2.flashSet ix v).free.2.programEnded ix [] 0 := by
  rw [State.flashProgram_open hrange hcut, if_pos htorn, if_neg (not_not.2 hfound), if_neg hv]
  exact if_neg fun h => h.elim (by simp [hgood]) (· hback)

variable (htorn : s.fls.isTorn ix = false)
include htorn

theorem State.flashProgram_full (hword : s.fls.word ix ≠ blankWord) :
    (s.flashProgram ix v bad).2 = s.programEnded ix [R.FLS_STAT_not_blank] 1 := by
  rw [State.flashProgram_open hrange hcut, if_neg (Bool.eq_false_iff.1 htorn), if_pos hword]

theorem State.flashProgram_ones (hword : s.fls.word ix = blankWord) (hv : v = blankWord) :
    (s.flashProgram ix v bad).2 = s.programEnded ix [R.FLS_STAT_range] 9 := by
  rw [State.flashProgram_open hrange hcut, if_neg (Bool.eq_false_iff.1 htorn), if_neg (not_not.2 hword), if_pos hv]

theorem State.flashProgram_blank (hword : s.fls.word ix = blankWord) (hv : v ≠ blankWord) :
    (s.flashProgram ix v bad).2 =
      (s.flashSet ix v).programEnded ix (if bad then [R.FLS_STAT_verify_fail] else []) (if bad then 3 else 0) := by
  rw [State.flashProgram_open hrange hcut, if_neg (Bool.eq_false_iff.1 htorn), if_neg (not_not.2 hword), if_neg hv]
  cases bad <;> rfl

end

/-! ### ERASE and BLANK_CHECK (R589, R591, R605) -/

/-- An erase begins: its BEGIN is logged and it is the active operation. -/
def EraseBegins (s : State) (i : Instr) (bankB : Bool) (sector : Nat) : Prop :=
  ∃ t, exec i s = .next t ∧ t.fls.active = some ⟨2, bankB, sector, 0, 0, 0⟩ ∧ t.get R.FLS_STAT_busy = 1 ∧ t.get R.FLS_STAT_op = 2 ∧
    (s.fls.logWord ≤ 253 → t.fls.word s.logPlace = logEntry 0x42 bankB sector s.fls.logSeq) ∧
    Writes statusFields { s with fls := t.fls } t

/-- The state in which an erase is active, its BEGIN logged. -/
def State.eraseLogged (s : State) (bankB : Bool) (sector : Nat) : State :=
  { s.logBegin bankB sector with fls := { (s.logBegin bankB sector).fls with active := some ⟨2, bankB, sector, 0, 0, 0⟩ } }

theorem State.eraseLogged_only (s : State) (bankB : Bool) (sector : Nat) : OnlyFls s (s.eraseLogged bankB sector) :=
  (s.logBegin_flash bankB sector).1.trans rfl

theorem eraseBegins_of_exec {s : State} {i : Instr} {bankB : Bool} {sector : Nat} (h : exec i s = .next (s.eraseLogged bankB sector).flsShow) :
    EraseBegins s i bankB sector := by
  have hactive : (s.eraseLogged bankB sector).fls.active = some ⟨2, bankB, sector, 0, 0, 0⟩ := rfl
  have hfls := (s.eraseLogged bankB sector).flsShow_fls
  obtain ⟨hbusy, hop⟩ := State.flsShow_op hactive (show 2 < 4 by decide)
  refine ⟨_, h, ?_, hbusy, hop, fun hroom => ?_, ?_⟩
  · rw [hfls, hactive]
  · rw [hfls]
    exact s.logBegin_at hroom
  · rw [hfls, ← s.eraseLogged_only bankB sector]
    exact State.flsShow_writes _

section
variable {s : State} {bankB : Bool} {sector : Nat}

theorem State.eraseStart_range (h : outOfRange bankB sector = true) :
    s.eraseStart bankB sector = (s.flagged [R.FLS_STAT_range]).flsLast 2 9 bankB sector 0 := if_pos h

variable (hrange : outOfRange bankB sector = false)
include hrange

theorem State.eraseStart_erasing (h : s.fls.suspended.any (fun a => a.op == 2) = true) :
    s.eraseStart bankB sector = (s.flagged [R.FLS_STAT_suspend_refused]).flsLast 2 7 bankB sector 0 :=
  (if_neg (Bool.eq_false_iff.1 hrange)).trans (if_pos h)

variable (hnone : s.fls.suspended.any (fun a => a.op == 2) = false)
include hnone

theorem State.eraseStart_refused (h : s.eraseAllowed = false) : s.eraseStart bankB sector = s.eraseRefused 2 bankB sector :=
  (if_neg (Bool.eq_false_iff.1 hrange)).trans ((if_neg (Bool.eq_false_iff.1 hnone)).trans (if_pos (by rw [h]; rfl)))

theorem State.eraseStart_begins (h : s.eraseAllowed = true) : s.eraseStart bankB sector = (s.eraseLogged bankB sector).flsShow :=
  (if_neg (Bool.eq_false_iff.1 hrange)).trans ((if_neg (Bool.eq_false_iff.1 hnone)).trans (if_neg (by rw [h]; decide)))

end

section
variable {s : State} {bank : Bool} {sec : BitVec 8}

theorem exec_erase_busy (h : s.fls.active ≠ none) : exec (.erase bank sec) s = .next s :=
  congrArg Host.Outcome.next (if_pos (Option.isSome_iff_ne_none.2 h))

theorem exec_erase (h : s.fls.active = none) : exec (.erase bank sec) s = .next (s.eraseStart bank sec.toNat) :=
  congrArg Host.Outcome.next (if_neg (by rw [h]; decide))

theorem exec_blankCheck_busy (h : s.fls.active ≠ none) : exec (.blankCheck bank sec) s = .next s :=
  congrArg Host.Outcome.next (if_pos (Option.isSome_iff_ne_none.2 h))

/-- A word of the sector that is neither blank nor unpredictable. -/
def State.wordFound (s : State) (bank : Bool) (n : Nat) : Prop :=
  ∃ i : Fin 256, s.fls.word (sectorWord bank n + i.val) ≠ blankWord ∧ s.fls.isTorn (sectorWord bank n + i.val) = false

theorem State.wordFound_iff (s : State) (bank : Bool) (n : Nat) :
    (List.range 256).any (fun i => s.fls.word (sectorWord bank n + i) != blankWord && !s.fls.isTorn (sectorWord bank n + i)) = true ↔
      s.wordFound bank n := by
  rw [List.any_eq_true]
  constructor
  · rintro ⟨i, hi, h⟩
    obtain ⟨hword, htorn⟩ := Bool.and_eq_true_iff.1 h
    exact ⟨⟨i, List.mem_range.1 hi⟩, bne_iff_ne.1 hword, by simpa using htorn⟩
  · rintro ⟨i, hword, htorn⟩
    exact ⟨i.val, List.mem_range.2 i.isLt, Bool.and_eq_true_iff.2 ⟨bne_iff_ne.2 hword, by simpa using htorn⟩⟩

variable (hidle : s.fls.active = none)
include hidle

theorem exec_blankCheck_blank (h : s.fls.sectorBlank bank sec.toNat = true) :
    exec (.blankCheck bank sec) s = .next (s.flsLast 5 0 bank sec.toNat 0) :=
  congrArg Host.Outcome.next ((if_neg (by rw [hidle]; decide)).trans (if_pos h))

variable (hnot : s.fls.sectorBlank bank sec.toNat = false)
include hnot

theorem exec_blankCheck_found (h : s.wordFound bank sec.toNat) : exec (.blankCheck bank sec) s = .next (s.flsLast 5 1 bank sec.toNat 0) :=
  congrArg Host.Outcome.next ((if_neg (by rw [hidle]; decide)).trans ((if_neg (Bool.eq_false_iff.1 hnot)).trans
    (if_pos ((s.wordFound_iff bank _).2 h))))

theorem exec_blankCheck_free (h : ¬ s.wordFound bank sec.toNat) :
    exec (.blankCheck bank sec) s = .next (s.free.2.flsLast 5 (s.free.1 % 2) bank sec.toNat 0) :=
  congrArg Host.Outcome.next ((if_neg (by rw [hidle]; decide)).trans ((if_neg (Bool.eq_false_iff.1 hnot)).trans
    (if_neg fun hany => h ((s.wordFound_iff bank _).1 hany))))

end

end Sys2Proof.Machine
end

section
/-!
PROOFS. How an erase ends, and operations set aside and resumed (R591, R596, R597); protection and mass erase (R600–R603).
-/

namespace Sys2Proof.Machine

/-! ### An erase ends (R591, R605) -/

theorem State.flsLast_fls (s : State) (cmd result : Nat) (bankB : Bool) (sector word : Nat) :
    (s.flsLast cmd result bankB sector word).fls = s.fls := OnlyRegs.fls (s.flsLast_writes cmd result bankB sector word).1

theorem State.ringErased_fls (s : State) (sector : Nat) : (s.ringErased sector).fls = s.fls := by
  unfold State.ringErased
  dsimp only
  split <;> rfl

/-- An erase verified blank has its sector blank and its DONE logged; what else it does of the flash is its books on failures. -/
theorem State.eraseVerified_fls (s : State) (bankB : Bool) (sector : Nat) :
    (∀ k, (s.eraseVerified bankB sector).fls.word k = ((s.sectorErased bankB sector).logDone bankB sector).fls.word k) ∧
      (s.eraseVerified bankB sector).fls.active = s.fls.active := by
  have hdone := ((s.sectorErased_flash bankB sector).trans (State.logAppend_flash _ 0x44 bankB sector)).2.active
  unfold State.eraseVerified
  dsimp only
  split_ifs <;> simp only [State.ringErased_fls, State.count_fls] <;> exact ⟨fun _ => rfl, hdone⟩

theorem State.eraseVerified_blank {s : State} {bankB : Bool} {sector : Nat} (hsector : sector < 256) (hlog : s.fls.logSector < 2)
    (hapart : bankB = false ∨ 2 ≤ sector) {i : Nat} (hi : i < 256) :
    (s.eraseVerified bankB sector).fls.word (sectorWord bankB sector + i) = blankWord := by
  rw [(s.eraseVerified_fls bankB sector).1, State.logDone, State.logAppend_apart (s.sectorErased bankB sector) hlog, s.sectorErased_in bankB sector (by omega)]
  unfold sectorWord
  rcases hapart with h | h
  · rw [h]
    simp only [b2n, Bool.false_eq_true, if_false]
    omega
  · cases bankB <;> simp only [b2n, Bool.false_eq_true, if_false, if_true] <;> omega

theorem State.eraseVerified_logged {s : State} {bankB : Bool} {sector : Nat} (hroom : s.fls.logWord < 256) :
    (s.eraseVerified bankB sector).fls.word s.logPlace = logEntry 0x44 bankB sector s.fls.logSeq := by
  rw [(s.eraseVerified_fls bankB sector).1]
  exact State.logAppend_at (s.sectorErased bankB sector) hroom

/-- An erase that failed leaves every word of its sector unpredictable. -/
theorem State.eraseFailed_fls (s : State) (bankB : Bool) (sector : Nat) :
    (s.eraseFailed bankB sector).fls.torn = (s.sectorTorn bankB sector).fls.torn ∧ (s.eraseFailed bankB sector).fls.active = s.fls.active := by
  unfold State.eraseFailed
  dsimp only
  split_ifs <;> exact ⟨rfl, rfl⟩

theorem State.eraseFailed_flag (s : State) (bankB : Bool) (sector : Nat) : (s.eraseFailed bankB sector).get R.FLS_STAT_erase_fail = 1 := by
  have hput : ((s.sectorTorn bankB sector).put R.FLS_STAT_erase_fail 1).get R.FLS_STAT_erase_fail = 1 := State.get_put_same ..
  unfold State.eraseFailed
  dsimp only
  split_ifs
  · exact (State.get_put_other _ _ _ _ (by decide)).trans hput
  · exact hput
  · exact hput

theorem FlsSt.isTorn_of_mem {f : FlsSt} {lo hi ix : Nat} (h : (lo, hi) ∈ f.torn) (hix : lo ≤ ix ∧ ix < hi) : f.isTorn ix = true :=
  Bool.or_eq_true_iff.2 (.inl (List.any_eq_true.2 ⟨(lo, hi), h, decide_eq_true hix⟩))

/-- The operation is no longer active. -/
def State.opEnded (s : State) : State := { s with fls := { s.fls with active := none } }

theorem exec_eraseDone {s : State} {a : FlashOp} (h : s.fls.active = some a) (hop : a.op = 2) (blank : Bool) :
    exec (.eraseDone blank) s = .next
      (((if blank then s.opEnded.eraseVerified a.bankB a.sector else s.opEnded.eraseFailed a.bankB a.sector).flsLast 2 (if blank then 0 else 4)
        a.bankB a.sector 0).flsShow) := by
  show execEraseDone blank s = _
  rw [execEraseDone, h]
  exact congrArg Host.Outcome.next (if_pos hop)

theorem exec_eraseDone_not {s : State} (h : ∀ a, s.fls.active = some a → a.op ≠ 2) (blank : Bool) : exec (.eraseDone blank) s = .next s := by
  show execEraseDone blank s = _
  unfold execEraseDone
  split
  · exact congrArg Host.Outcome.next (if_neg (h _ ‹_›))
  · rfl

/-- The end of an erase: no operation is active, FLS_LAST tells of it, and FLS_STAT shows the flash idle. -/
theorem State.eraseEnded_effect {u : State} (hactive : u.fls.active = none) {result : Nat} (hresult : result < 16) (bankB : Bool) (sector : Nat) :
    let t := (u.flsLast 2 result bankB sector 0).flsShow
    t.fls = u.fls ∧ LastIs t 2 result bankB sector 0 ∧ t.get R.FLS_STAT_busy = 0 ∧
      ∀ g : Fld, (∀ f ∈ lastFields ++ statusFields, g.key ≠ f.key) → t.get g = u.get g := by
  have hlast := u.flsLast_writes 2 result bankB sector 0
  have hfls := u.flsLast_fls 2 result bankB sector 0
  refine ⟨(State.flsShow_fls _).trans hfls, (u.flsLast_is (by decide) hresult bankB sector 0).flsShow,
    State.flsShow_busy_idle (by rw [hfls, hactive]), fun g hg => ?_⟩
  exact ((State.flsShow_writes _).2 g fun f hf => hg f (List.mem_append_right _ hf)).trans
    (hlast.2 g fun f hf => hg f (List.mem_append_left _ hf))

/-! ### SUSPEND and RESUME (R596, R597) -/

section
variable {s : State} {a : FlashOp}

/-- The active operation has been set aside. -/
def State.asideSet (s : State) (a : FlashOp) : State :=
  { s with fls := { s.fls with active := none, suspended := { a with suspends := a.suspends + 1 } :: s.fls.suspended } }

theorem State.setAside_idle (h : s.fls.active = none) : s.setAside = some s := by
  rw [State.setAside, h]

theorem State.setAside_none (h : s.fls.active = some a) (hno : 2 ≤ s.fls.suspended.length ∨ 64 ≤ a.suspends ∨ a.op = 3) : s.setAside = none := by
  rw [State.setAside, h]
  exact if_pos hno

theorem State.setAside_some (h : s.fls.active = some a) (hdepth : s.fls.suspended.length < 2) (hcount : a.suspends < 64) (hop : a.op ≠ 3) :
    s.setAside = some ((s.asideSet a).count R.FLS_CNT2_suspends 1).flsShow := by
  rw [State.setAside, h]
  exact if_neg (by omega)

theorem exec_suspend_idle (h : s.fls.active = none) : exec .suspend s = .next s := by
  show execSuspend s = _
  rw [execSuspend, h]

theorem exec_suspend_refused (h : s.fls.active = some a) (hno : 2 ≤ s.fls.suspended.length ∨ 64 ≤ a.suspends ∨ a.op = 3) :
    exec .suspend s = .next ((s.flagged [R.FLS_STAT_suspend_refused]).flsLast 3 7 a.bankB a.sector a.word) := by
  show execSuspend s = _
  rw [execSuspend, h]
  dsimp only
  rw [State.setAside_none h hno]
  rfl

theorem exec_suspend (h : s.fls.active = some a) (hdepth : s.fls.suspended.length < 2) (hcount : a.suspends < 64) (hop : a.op ≠ 3) :
    exec .suspend s = .next (((s.asideSet a).count R.FLS_CNT2_suspends 1).flsShow.flsLast 3 0 a.bankB a.sector a.word) := by
  show execSuspend s = _
  rw [execSuspend, h]
  dsimp only
  rw [State.setAside_some h hdepth hcount hop]

theorem State.suspended_effect (s : State) (a : FlashOp) :
    let t := ((s.asideSet a).count R.FLS_CNT2_suspends 1).flsShow.flsLast 3 0 a.bankB a.sector a.word
    t.fls = { s.fls with active := none, suspended := { a with suspends := a.suspends + 1 } :: s.fls.suspended } ∧
      t.get R.FLS_CNT2_suspends = satAdd 16 (s.get R.FLS_CNT2_suspends) 1 ∧ LastIs t 3 0 a.bankB a.sector a.word ∧
      t.get R.FLS_STAT_busy = 0 ∧ Writes (R.FLS_CNT2_suspends :: statusFields ++ lastFields) { s with fls := t.fls } t := by
  have hcount := (s.asideSet a).count_writes R.FLS_CNT2_suspends 1
  have hidle : ((s.asideSet a).count R.FLS_CNT2_suspends 1).fls.active = none := by rw [State.count_fls]; rfl
  have hshow := State.flsShow_writes ((s.asideSet a).count R.FLS_CNT2_suspends 1)
  have hlast := State.flsLast_writes ((s.asideSet a).count R.FLS_CNT2_suspends 1).flsShow 3 0 a.bankB a.sector a.word
  have hfls : (((s.asideSet a).count R.FLS_CNT2_suspends 1).flsShow.flsLast 3 0 a.bankB a.sector a.word).fls = (s.asideSet a).fls := by
    rw [State.flsLast_fls, State.flsShow_fls, State.count_fls]
  refine ⟨hfls, ?_, State.flsLast_is _ (by decide) (by decide) _ _ _, ?_, ?_⟩
  · exact (hlast.2 _ (by decide)).trans ((hshow.2 _ (by decide)).trans (State.get_count_same ..))
  · exact (hlast.2 _ (by decide)).trans (State.flsShow_busy_idle hidle)
  · rw [hfls]
    exact ((hcount.mono (by simp)).trans (hshow.mono (by simp +contextual))).trans (hlast.mono (by simp +contextual))

theorem exec_resume_not (h : s.fls.active ≠ none ∨ s.fls.suspended = []) : exec .resume s = .next s := by
  refine congrArg Host.Outcome.next ?_
  unfold State.resumeInner
  split
  case h_1 hactive hsuspended =>
    rcases h with h | h
    · exact absurd hactive h
    · rw [hsuspended] at h
      exact absurd h (by simp)
  case h_2 => rfl

variable {rest : List FlashOp}

theorem State.resumeInner_eq (hactive : s.fls.active = none) (hsuspended : s.fls.suspended = a :: rest) :
    s.resumeInner = if a.op = 2 ∧ s.get R.BATT_BUDGET_ms < 10 + s.free.1 % 5 then s.free.2.eraseRefused 4 a.bankB a.sector
      else (({ s.free.2 with fls := { s.fls with active := some a, suspended := rest } } : State).flsLast 4 0 a.bankB a.sector a.word).flsShow := by
  unfold State.resumeInner
  rw [hactive, hsuspended]
  rfl

theorem exec_resume_refused (hactive : s.fls.active = none) (hsuspended : s.fls.suspended = a :: rest) (hop : a.op = 2)
    (hms : s.get R.BATT_BUDGET_ms < 10) : ∃ t, exec .resume s = .next t ∧ t.fls = s.fls ∧ LastIs t 4 2 a.bankB a.sector 0 ∧
      t.get R.FLS_STAT_busy_energy = 1 := by
  obtain ⟨henergy, -, hlast, hwrites⟩ := s.free.2.eraseRefused_effect (show 4 < 16 by decide) a.bankB a.sector
  refine ⟨_, congrArg Host.Outcome.next ((State.resumeInner_eq hactive hsuspended).trans (if_pos ⟨hop, by omega⟩)), ?_, hlast, henergy⟩
  exact (OnlyRegs.fls hwrites.1 : _ = s.free.2.fls)

theorem exec_resume (hactive : s.fls.active = none) (hsuspended : s.fls.suspended = a :: rest) (hmay : a.op ≠ 2 ∨ 14 ≤ s.get R.BATT_BUDGET_ms) :
    ∃ t, exec .resume s = .next t ∧ t.fls = { s.fls with active := some a, suspended := rest } ∧ LastIs t 4 0 a.bankB a.sector a.word ∧
      t.get R.FLS_STAT_busy = 1 ∧ Writes (statusFields ++ lastFields) { s with fls := t.fls, freeIx := s.freeIx + 1 } t := by
  have hmod : s.free.1 % 5 < 5 := Nat.mod_lt _ (by decide)
  have hnot : ¬ (a.op = 2 ∧ s.get R.BATT_BUDGET_ms < 10 + s.free.1 % 5) := fun ⟨hop, hlt⟩ => by
    rcases hmay with h | h
    · exact h hop
    · omega
  obtain ⟨u, hu⟩ : ∃ u : State, u = { s.free.2 with fls := { s.fls with active := some a, suspended := rest } } := ⟨_, rfl⟩
  have hfls : (u.flsLast 4 0 a.bankB a.sector a.word).fls = { s.fls with active := some a, suspended := rest } := by rw [State.flsLast_fls, hu]
  have hbusy : (u.flsLast 4 0 a.bankB a.sector a.word).flsShow.get R.FLS_STAT_busy = 1 := by
    rw [State.flsShow_active (a := a) (by rw [hfls])]
    exact State.get_puts_mem _ [R.FLS_STAT_busy, R.FLS_STAT_op, R.FLS_STAT_bank, R.FLS_STAT_sector] rfl (by decide) (p := (R.FLS_STAT_busy, 1))
      (List.mem_cons_self ..)
  have hto : exec .resume s = .next (u.flsLast 4 0 a.bankB a.sector a.word).flsShow := by
    rw [hu]
    exact congrArg Host.Outcome.next ((State.resumeInner_eq hactive hsuspended).trans (if_neg hnot))
  refine ⟨_, hto, (State.flsShow_fls _).trans hfls, (State.flsLast_is _ (by decide) (by decide) _ _ _).flsShow, hbusy, ?_⟩
  have hbase : { s with fls := (u.flsLast 4 0 a.bankB a.sector a.word).flsShow.fls, freeIx := s.freeIx + 1 } = u := by
    rw [State.flsShow_fls, hfls, hu]
    rfl
  rw [hbase]
  exact ((u.flsLast_writes 4 0 a.bankB a.sector a.word).mono (by simp +contextual)).trans ((State.flsShow_writes _).mono (by simp +contextual))

end

theorem State.flashSet_only (s : State) (ix v : Nat) :
    s.flashSet ix v = { s with fls := { s.fls with words := (s.flashSet ix v).fls.words } } := rfl

/-! ### OPTION and the protection level (R600–R602) -/

section
variable {s : State} {n : Nat}

/-- A protection word of level `n`. -/
def State.protWritten (s : State) (n : Nat) : State :=
  ((s.flashSet (sectorWord true 2 + s.fls.protWords) (protWord n (s.fls.protWords + 1))).put R.FLS_PROT_level n).flsLast 7 0 true 2 s.fls.protWords

theorem State.option_raises (hlevel : s.fls.protLevel < n) (hn : n ≤ 2) (hroom : s.fls.protWords < 256) : s.option n = s.protWritten n :=
  if_pos ⟨hlevel, hn, hroom⟩

theorem State.option_refuses (h : n ≤ s.fls.protLevel ∨ n = 3 ∨ 256 ≤ s.fls.protWords) :
    s.option n = (s.flagged [R.FLS_STAT_protected]).flsLast 7 5 true 2 s.fls.protWords := if_neg (by omega)

theorem State.protWritten_effect (s : State) {n : Nat} (hn : n ≤ 2) :
    let t := s.protWritten n
    t.get R.FLS_PROT_level = n ∧ LastIs t 7 0 true 2 s.fls.protWords ∧
      t.fls.word (sectorWord true 2 + s.fls.protWords) = protWord n (s.fls.protWords + 1) ∧
      Writes (R.FLS_PROT_level :: lastFields) { s with fls := { s.fls with words := t.fls.words } } t := by
  obtain ⟨u, hu⟩ : ∃ u : State, u = s.flashSet (sectorWord true 2 + s.fls.protWords) (protWord n (s.fls.protWords + 1)) := ⟨_, rfl⟩
  have hword := s.flashSet_same (sectorWord true 2 + s.fls.protWords) (protWord n (s.fls.protWords + 1))
  have honly : u = { s with fls := { s.fls with words := u.fls.words } } := by rw [hu]; exact s.flashSet_only _ _
  have hlast := (u.put R.FLS_PROT_level n).flsLast_writes 7 0 true 2 s.fls.protWords
  have hfls : ((u.put R.FLS_PROT_level n).flsLast 7 0 true 2 s.fls.protWords).fls = u.fls := State.flsLast_fls _ _ _ _ _ _
  rw [← hu] at hword
  dsimp only
  rw [State.protWritten, ← hu]
  refine ⟨?_, State.flsLast_is _ (by decide) (by decide) _ _ _, ?_, ?_⟩
  · exact (hlast.2 _ (by decide)).trans ((State.get_put_same ..).trans (Nat.mod_eq_of_lt (by show n < 4; omega)))
  · rw [hfls]
    exact hword
  · rw [hfls, ← honly]
    exact ((u.put_writes R.FLS_PROT_level n).mono (by simp)).trans (hlast.mono (by simp +contextual))

/-- A protection word raises the level, or PROTECTED says why not. -/
def OptionRaises (s : State) (i : Instr) (n : Nat) : Prop :=
  (s.fls.protLevel < n → n ≤ 2 → s.fls.protWords < 256 → ∃ t, exec i s = .next t ∧
    t.get R.FLS_PROT_level = n ∧ LastIs t 7 0 true 2 s.fls.protWords ∧
    t.fls.word (sectorWord true 2 + s.fls.protWords) = protWord n (s.fls.protWords + 1) ∧
    Writes (R.FLS_PROT_level :: lastFields) { s with fls := { s.fls with words := t.fls.words } } t) ∧
  (n ≤ s.fls.protLevel ∨ n = 3 ∨ 256 ≤ s.fls.protWords → Refuses s i R.FLS_STAT_protected 7 5 true 2 s.fls.protWords)

theorem optionRaises_of_exec {i : Instr} (h : exec i s = .next (s.option n)) : OptionRaises s i n :=
  ⟨fun hlevel hn hroom => ⟨_, h.trans (congrArg _ (State.option_raises hlevel hn hroom)), s.protWritten_effect hn⟩, fun hno =>
    refuses_of_exec (h.trans (congrArg _ (State.option_refuses hno))) (by decide) (by decide) (by decide)⟩

theorem exec_option_not {level : BitVec 2} (h : s.fls.active ≠ none ∨ s.programAllowed = false) : exec (.option level) s = .next s := by
  refine congrArg Host.Outcome.next (if_pos ?_)
  rcases h with h | h
  · rw [Option.isSome_iff_ne_none.2 h, Bool.true_or]
  · rw [h, Bool.not_false, Bool.or_true]

theorem exec_option {level : BitVec 2} (hidle : s.fls.active = none) (hallowed : s.programAllowed = true) :
    exec (.option level) s = .next (s.option level.toNat) := congrArg Host.Outcome.next (if_neg (by rw [hidle, hallowed]; decide))

variable {key : Nat}

/-- The request that starts a mass erase. -/
def State.lowers (s : State) (level key : Nat) : Prop :=
  key = 0xF1A5 ∧ level = 0 ∧ s.fls.protLevel = 1 ∧ s.isBench = true ∧ s.pwr.vauxIn = true

theorem State.protRequest_refused (hlevel : n < s.fls.protLevel) (hno : ¬ s.lowers n key) :
    s.protRequest n key = (s.flagged [R.FLS_STAT_protected]).flsLast 6 5 false 0 0 := (if_pos hlevel).trans (if_neg hno)

/-- The mass erase is due. -/
def State.massBegun (s : State) : State :=
  let u := s.abandonErases.logSwitch.logAppend 0x4D false 0
  { u with fls := { u.fls with massPart := some 0, active := some ⟨3, false, 0, 0, 0, 0⟩ } }

theorem State.protRequest_lowers (h : s.lowers n key) : s.protRequest n key = s.massBegun.flsShow := by
  have hlevel : n < s.fls.protLevel := by
    obtain ⟨-, hzero, hone, -, -⟩ := h
    omega
  exact (if_pos hlevel).trans (if_pos h)

theorem State.massBegun_effect (s : State) : s.massBegun.flsShow.fls.massPart = some 0 ∧
    s.massBegun.flsShow.fls.active = some ⟨3, false, 0, 0, 0, 0⟩ ∧ s.massBegun.flsShow.get R.FLS_STAT_busy = 1 ∧
    s.massBegun.flsShow.get R.FLS_STAT_op = 3 := by
  rw [State.flsShow_fls]
  exact ⟨rfl, rfl, State.flsShow_op (a := ⟨3, false, 0, 0, 0, 0⟩) rfl (by decide)⟩

variable (hlevel : s.fls.protLevel ≤ n)
include hlevel

theorem State.protRequest_key (hkey : key ≠ 0xF1A5) : s.protRequest n key = s := (if_neg (Nat.not_lt.2 hlevel)).trans (if_pos hkey)

theorem State.protRequest_raises (hkey : key = 0xF1A5) : s.protRequest n key = s.meanwhile (fun t => t.option n) :=
  (if_neg (Nat.not_lt.2 hlevel)).trans (if_neg (not_not.2 hkey))

end

theorem State.meanwhile_idle {s : State} (h : s.fls.active = none) (work : State → State) : s.meanwhile work = work s := by
  rw [State.meanwhile, State.setAside_idle h, h]
  rfl

theorem State.meanwhile_none {s : State} (h : s.setAside = none) (work : State → State) : s.meanwhile work = s := by
  rw [State.meanwhile, h]

theorem State.meanwhile_some {s t : State} (hactive : s.fls.active ≠ none) (h : s.setAside = some t) (work : State → State) :
    s.meanwhile work = (work t).resumeInner := by
  rw [State.meanwhile, h]
  exact if_pos (Option.isSome_iff_ne_none.2 hactive)

end Sys2Proof.Machine
end

section
/-!
PROOFS. Mass erase (R602), host reads and corrections (R593–R595, R599), the erase ahead of the ring (R607), and the housekeeping round
(R619, R620, R626).
-/

namespace Sys2Proof.Machine

/-! ### MASS_ERASE (R602) -/

/-- A word in an erased sector is blank, whatever is erased before and after. -/
theorem State.sectorErased_blank (s : State) (bankB : Bool) (n : Nat) {k : Nat} (h : s.fls.word k = blankWord) :
    (s.sectorErased bankB n).fls.word k = blankWord := by
  by_cases hin : sectorWord bankB n ≤ k ∧ k < sectorWord bankB n + 256
  · exact s.sectorErased_in bankB n hin
  · rw [s.sectorErased_out bankB n hin, h]

theorem State.sectorsErased_blank (bankB : Bool) (l : List Nat) (s : State) {k : Nat}
    (h : s.fls.word k = blankWord ∨ ∃ n ∈ l, sectorWord bankB n ≤ k ∧ k < sectorWord bankB n + 256) :
    (l.foldl (fun t n => t.sectorErased bankB n) s).fls.word k = blankWord := by
  induction l generalizing s with
  | nil => exact h.elim id fun ⟨n, hn, _⟩ => absurd hn (by simp)
  | cons n l ih =>
    refine ih _ ?_
    rcases h with h | ⟨m, hm, hin⟩
    · exact .inl (s.sectorErased_blank bankB n h)
    · rcases List.mem_cons.1 hm with rfl | hm
      · exact .inl (s.sectorErased_in bankB m hin)
      · exact .inr ⟨m, hm, hin⟩

theorem State.massErased_bankA (s : State) {i : Nat} (hi : i < 49152) : s.massErased.fls.word i = blankWord := by
  refine State.sectorsErased_blank true _ _ (.inl (State.sectorsErased_blank false _ s (.inr ⟨i / 256, List.mem_range.2 (by omega), ?_⟩)))
  unfold sectorWord
  simp only [b2n, Bool.false_eq_true, if_false]
  omega

theorem State.massErased_bankB (s : State) {i : Nat} (hi : i < 65536) : s.massErased.fls.word (65536 + i) = blankWord := by
  refine State.sectorsErased_blank true _ _ (.inr ⟨i / 256, List.mem_range.2 (by omega), ?_⟩)
  unfold sectorWord
  simp only [b2n, if_true]
  omega

theorem State.puts_fls (s : State) (l : List (Fld × Nat)) : (s.puts l).fls = s.fls := OnlyRegs.fls (s.puts_only l)

theorem State.puts_mtr (s : State) (l : List (Fld × Nat)) : (s.puts l).mtr = s.mtr := by rw [s.puts_only l]

theorem State.flashFresh_fls (s : State) : s.flashFresh.fls.words = s.fls.words ∧ s.flashFresh.fls.massPart = none ∧
    s.flashFresh.fls.active = none := by
  unfold State.flashFresh
  dsimp only
  rw [State.puts_fls]
  exact ⟨rfl, rfl, rfl⟩

/-- A field that the fresh flash puts. -/
theorem State.flashFresh_level (s : State) : s.flashFresh.get R.FLS_PROT_level = 0 := by
  unfold State.flashFresh
  dsimp only
  exact State.get_puts_mem _ [R.FLS_PROT_level, R.FLS_RING_head, R.FLS_RING_tail, R.FLS_RING_erased_ahead, R.FLS_JRNL_last_commit,
    R.FLS_CKPT_first_commit] rfl (by decide) (p := (R.FLS_PROT_level, 0)) (List.mem_cons_self ..)

theorem State.meterCleared_fls (s : State) : s.meterCleared.fls = s.fls := by
  unfold State.meterCleared
  dsimp only
  rw [State.puts_fls]

theorem State.meterCleared_elec (s : State) : s.meterCleared.mtr.elec = 0 := by
  unfold State.meterCleared
  dsimp only
  rw [State.puts_mtr]

theorem State.meterCleared_lock (s : State) : s.meterCleared.get R.MTR_CAL_LOCK_lock = 0 := by
  unfold State.meterCleared
  dsimp only
  exact State.get_puts_mem _ [R.MTR_CAL_LOCK_lock, R.MTR_INTERVAL, R.MTR_CH_ERRT 0, R.MTR_CH_ERRT 1] rfl (by decide)
    (p := (R.MTR_CAL_LOCK_lock, 0)) (List.mem_cons_self ..)

theorem RegFile.get_resetRanges_out (g : Fld) (hg : 32 * 0x420000 ≤ g.key) (l : List Nat) (hl : ∀ o ∈ l, o < 0x10000 - 4) (r : RegFile) :
    (l.foldl (fun (r : RegFile) o => r.resetRange (0x410000 + o) (0x410004 + o)) r).get g = r.get g := by
  induction l generalizing r with
  | nil => rfl
  | cons o l ih =>
    have ho := hl o (List.mem_cons_self ..)
    exact (ih (fun p hp => hl p (List.mem_cons_of_mem _ hp)) _).trans (r.get_resetRange_out _ _ g (by omega))

/-- The meters' registers are not the flash's. -/
theorem State.meterCleared_level (s : State) : s.meterCleared.get R.FLS_PROT_level = s.get R.FLS_PROT_level := by
  have hputs (u : State) : (u.puts [(R.MTR_CAL_LOCK_lock, 0), (R.MTR_INTERVAL, 0), (R.MTR_CH_ERRT 0, 0), (R.MTR_CH_ERRT 1, 0)]).get
      R.FLS_PROT_level = u.get R.FLS_PROT_level := u.get_puts_other _ _ (by decide)
  unfold State.meterCleared
  dsimp only
  rw [hputs]
  rw [State.get, RegFile.get_resetRanges_out R.FLS_PROT_level (by decide) calOffsets (by decide), State.get]

section
variable {s : State}

/-- The state from which the island restarts after a mass erase. -/
def State.massDone (s : State) : State := (s.massErased.flashFresh.meterCleared.flsLast 6 0 false 0 0).flsShow

theorem exec_massErase_not (h : s.islandUp = false ∨ s.fls.massPart = none) : exec .massErase s = .next s := by
  refine congrArg Host.Outcome.next (if_pos ?_)
  rcases h with h | h <;> simp [h]

theorem exec_massErase_refused (hup : s.islandUp = true) (hpart : s.fls.massPart ≠ none) (h : s.eraseAllowed = false) :
    exec .massErase s = .next (s.eraseRefused 6 false 0) :=
  congrArg Host.Outcome.next ((if_neg (by simp [hup, hpart])).trans (if_pos (by simp [h])))

theorem exec_massErase (hup : s.islandUp = true) (hpart : s.fls.massPart ≠ none) (h : s.eraseAllowed = true) :
    exec .massErase s = .next s.massDone.islandRestart :=
  congrArg Host.Outcome.next ((if_neg (by simp [hup, hpart])).trans (if_neg (by simp [h])))

theorem State.massDone_effect (s : State) :
    let u := s.massDone
    LastIs u 6 0 false 0 0 ∧ u.fls.massPart = none ∧ u.fls.active = none ∧ (∀ i, i < 49152 → u.fls.word i = blankWord) ∧
      (∀ i, i < 65536 → u.fls.word (65536 + i) = blankWord) ∧ u.get R.FLS_PROT_level = 0 ∧ u.get R.MTR_CAL_LOCK_lock = 0 ∧ u.mtr.elec = 0 := by
  obtain ⟨x, hx⟩ : ∃ x : State, x = s.massErased.flashFresh.meterCleared := ⟨_, rfl⟩
  have hlast := x.flsLast_writes 6 0 false 0 0
  have hshow := (x.flsLast 6 0 false 0 0).flsShow_writes
  have hfls : (x.flsLast 6 0 false 0 0).flsShow.fls = s.massErased.flashFresh.fls := by
    rw [State.flsShow_fls, State.flsLast_fls, hx, State.meterCleared_fls]
  have hget {g : Fld} (hg : ∀ f ∈ statusFields ++ lastFields, g.key ≠ f.key) : (x.flsLast 6 0 false 0 0).flsShow.get g = x.get g :=
    (hshow.2 g fun f hf => hg f (List.mem_append_left _ hf)).trans (hlast.2 g fun f hf => hg f (List.mem_append_right _ hf))
  obtain ⟨hwords, hpart, hactive⟩ := s.massErased.flashFresh_fls
  have hword (k : Nat) : s.massErased.flashFresh.fls.word k = s.massErased.fls.word k := by rw [FlsSt.word, hwords, FlsSt.word]
  dsimp only
  rw [State.massDone, ← hx, hfls]
  refine ⟨(x.flsLast_is (by decide) (by decide) _ _ _).flsShow, hpart, hactive, fun i hi => ?_, fun i hi => ?_, ?_, ?_, ?_⟩
  · rw [hword, s.massErased_bankA hi]
  · rw [hword, s.massErased_bankB hi]
  · rw [hget (by decide), hx, State.meterCleared_level, State.flashFresh_level]
  · rw [hget (by decide), hx, State.meterCleared_lock]
  · have hmtr : (x.flsLast 6 0 false 0 0).flsShow.mtr = x.mtr := by rw [hshow.1, hlast.1]
    rw [hmtr, hx, State.meterCleared_elec]

end

/-! ### Host reads (R599, R600) -/

/-- What a host read shows. -/
def shownFields : List Fld :=
  [R.FLS_HADDR_addr, R.FLS_HDATA_LO, R.FLS_HDATA_HI, R.FLS_HSTAT_valid, R.FLS_HSTAT_retry, R.FLS_HSTAT_denied, R.FLS_HSTAT_corrected,
    R.FLS_HSTAT_uncorrectable]

/-- A host read has begun: nothing of it is shown yet but its address. -/
def State.readBegun (s : State) (addr : Nat) : State :=
  s.puts [(R.FLS_HADDR_addr, addr), (R.FLS_HDATA_LO, 0), (R.FLS_HDATA_HI, 0), (R.FLS_HSTAT_valid, 0), (R.FLS_HSTAT_retry, 0),
    (R.FLS_HSTAT_denied, 0), (R.FLS_HSTAT_corrected, 0), (R.FLS_HSTAT_uncorrectable, 0)]

theorem State.readBegun_writes (s : State) (addr : Nat) : Writes shownFields s (s.readBegun addr) := s.puts_writes _

theorem State.readBegun_get (s : State) {addr : Nat} (haddr : addr < 2 ^ 20) : (s.readBegun addr).get R.FLS_HADDR_addr = addr ∧
    ∀ f ∈ shownFields.tail, (s.readBegun addr).get f = 0 := by
  have hget := fun p hp => s.get_puts_mem shownFields (l := [(R.FLS_HADDR_addr, addr), (R.FLS_HDATA_LO, 0), (R.FLS_HDATA_HI, 0),
    (R.FLS_HSTAT_valid, 0), (R.FLS_HSTAT_retry, 0), (R.FLS_HSTAT_denied, 0), (R.FLS_HSTAT_corrected, 0), (R.FLS_HSTAT_uncorrectable, 0)])
    rfl (by decide) (p := p) hp
  refine ⟨(hget (R.FLS_HADDR_addr, addr) (List.mem_cons_self ..)).trans (Nat.mod_eq_of_lt haddr), fun f hf => ?_⟩
  refine (hget (f, 0) (List.mem_cons_of_mem _ ?_)).trans (Nat.zero_mod _)
  revert f
  decide

/-- A host read that shows this. -/
def HostReads (s : State) (addr : BitVec 20) (data valid retry denied : Nat) : Prop :=
  ∃ t, exec (.flsHostRead addr) s = .next t ∧ t.get R.FLS_HADDR_addr = addr.toNat ∧ t.get R.FLS_HDATA_LO = data % 2 ^ 32 ∧
    t.get R.FLS_HDATA_HI = data / 2 ^ 32 % 2 ^ 32 ∧ t.get R.FLS_HSTAT_valid = valid ∧ t.get R.FLS_HSTAT_retry = retry ∧
    t.get R.FLS_HSTAT_denied = denied ∧ Writes shownFields s t

section
variable {s : State} {addr : BitVec 20}

theorem hostReads_begun (h : s.hostRead addr.toNat = s.readBegun addr.toNat) : HostReads s addr 0 0 0 0 := by
  obtain ⟨haddr, hzero⟩ := s.readBegun_get (addr := addr.toNat) addr.isLt
  exact ⟨_, congrArg Host.Outcome.next h, haddr, hzero _ (by decide), hzero _ (by decide), hzero _ (by decide), hzero _ (by decide),
    hzero _ (by decide), s.readBegun_writes _⟩

/-- A read that ends in one bit: to be tried again, or denied. -/
theorem hostReads_flag {f : Fld} (hf : f = R.FLS_HSTAT_retry ∨ f = R.FLS_HSTAT_denied)
    (h : s.hostRead addr.toNat = (s.readBegun addr.toNat).put f 1) :
    HostReads s addr 0 0 (b2n (f.key == R.FLS_HSTAT_retry.key)) (b2n (f.key == R.FLS_HSTAT_denied.key)) := by
  obtain ⟨haddr, hzero⟩ := s.readBegun_get (addr := addr.toNat) addr.isLt
  have hwrites := (s.readBegun_writes addr.toNat).trans
    (((s.readBegun addr.toNat).put_writes f 1).mono (m := shownFields) (by rcases hf with rfl | rfl <;> decide))
  have hone : ((s.readBegun addr.toNat).put f 1).get f = 1 := by
    refine (State.get_put_same ..).trans ?_
    rcases hf with rfl | rfl <;> decide
  have hother {g : Fld} (hg : g.key ≠ f.key) : ((s.readBegun addr.toNat).put f 1).get g = (s.readBegun addr.toNat).get g :=
    State.get_put_other _ _ _ _ hg
  rcases hf with rfl | rfl
  · exact ⟨_, congrArg Host.Outcome.next h, (hother (by decide)).trans haddr, (hother (by decide)).trans (hzero _ (by decide)),
      (hother (by decide)).trans (hzero _ (by decide)), (hother (by decide)).trans (hzero _ (by decide)), hone,
      (hother (by decide)).trans (hzero _ (by decide)), hwrites⟩
  · exact ⟨_, congrArg Host.Outcome.next h, (hother (by decide)).trans haddr, (hother (by decide)).trans (hzero _ (by decide)),
      (hother (by decide)).trans (hzero _ (by decide)), (hother (by decide)).trans (hzero _ (by decide)),
      (hother (by decide)).trans (hzero _ (by decide)), hone, hwrites⟩

/-- A read that answers. -/
theorem hostReads_data {data : Nat} (h : s.hostRead addr.toNat =
      (s.readBegun addr.toNat).puts [(R.FLS_HDATA_LO, data), (R.FLS_HDATA_HI, data / 2 ^ 32), (R.FLS_HSTAT_valid, 1)]) :
    HostReads s addr data 1 0 0 := by
  obtain ⟨haddr, hzero⟩ := s.readBegun_get (addr := addr.toNat) addr.isLt
  have hget := fun p hp => (s.readBegun addr.toNat).get_puts_mem [R.FLS_HDATA_LO, R.FLS_HDATA_HI, R.FLS_HSTAT_valid]
    (l := [(R.FLS_HDATA_LO, data), (R.FLS_HDATA_HI, data / 2 ^ 32), (R.FLS_HSTAT_valid, 1)]) rfl (by decide) (p := p) hp
  simp only [List.forall_mem_cons, List.not_mem_nil, false_imp_iff, implies_true, and_true] at hget
  obtain ⟨hlo, hhi, hvalid⟩ := hget
  have hputs := (s.readBegun addr.toNat).puts_writes [(R.FLS_HDATA_LO, data), (R.FLS_HDATA_HI, data / 2 ^ 32), (R.FLS_HSTAT_valid, 1)]
  have hother {g : Fld} (hg : ∀ f ∈ [R.FLS_HDATA_LO, R.FLS_HDATA_HI, R.FLS_HSTAT_valid], g.key ≠ f.key) := hputs.2 g hg
  exact ⟨_, congrArg Host.Outcome.next h, (hother (by decide)).trans haddr, hlo, hhi, hvalid, (hother (by decide)).trans (hzero _ (by decide)),
    (hother (by decide)).trans (hzero _ (by decide)), (s.readBegun_writes _).trans (hputs.mono (m := shownFields) (by simp [shownFields]))⟩

/-- The flash is at work where the read would go (R599). -/
def State.readBusy (s : State) (ix : Nat) : Bool :=
  (match s.fls.active with | some a => a.op == 3 || a.bankB == inBankB ix | none => false) ||
    s.fls.suspended.any (fun a => a.bankB == inBankB ix && a.sector == sectorOf ix)

theorem State.readBegun_fls (s : State) (addr : Nat) : (s.readBegun addr).fls = s.fls := State.puts_fls _ _

theorem State.hostRead_misaligned (h : addr.toNat % 8 ≠ 0) : s.hostRead addr.toNat = s.readBegun addr.toNat := if_pos h

theorem State.hostRead_open (hopen : inBankB (addr.toNat / 8) = true ∨ s.fls.protLevel = 0) :
    ¬ ((!inBankB (addr.toNat / 8)) = true ∧ 1 ≤ s.fls.protLevel) := by
  rintro ⟨hbank, hlevel⟩
  rcases hopen with h | h
  · rw [h] at hbank
    exact absurd hbank (by decide)
  · omega

variable (haligned : addr.toNat % 8 = 0)
include haligned

theorem State.hostRead_denied (hbank : inBankB (addr.toNat / 8) = false) (hlevel : 1 ≤ s.fls.protLevel) :
    s.hostRead addr.toNat = (s.readBegun addr.toNat).put R.FLS_HSTAT_denied 1 :=
  (if_neg (not_not.2 haligned)).trans (if_pos ⟨by rw [show decide (65536 ≤ addr.toNat / 8) = false from hbank]; rfl, hlevel⟩)

variable (hopen : inBankB (addr.toNat / 8) = true ∨ s.fls.protLevel = 0)
include hopen

theorem State.hostRead_busy (hbusy : s.readBusy (addr.toNat / 8) = true) :
    s.hostRead addr.toNat = (s.readBegun addr.toNat).put R.FLS_HSTAT_retry 1 :=
  (if_neg (not_not.2 haligned)).trans ((if_neg (State.hostRead_open hopen)).trans (if_pos hbusy))

theorem State.hostRead_word (hbusy : s.readBusy (addr.toNat / 8) = false) (htorn : s.fls.isTorn (addr.toNat / 8) = false) :
    s.hostRead addr.toNat = (s.readBegun addr.toNat).puts [(R.FLS_HDATA_LO, s.fls.word (addr.toNat / 8)),
      (R.FLS_HDATA_HI, s.fls.word (addr.toNat / 8) / 2 ^ 32), (R.FLS_HSTAT_valid, 1)] := by
  refine (if_neg (not_not.2 haligned)).trans ((if_neg (State.hostRead_open hopen)).trans
    ((if_neg (Bool.eq_false_iff.1 hbusy)).trans ?_))
  have htorn' : (s.readBegun addr.toNat).fls.isTorn (addr.toNat / 8) = false := by rw [State.readBegun_fls, htorn]
  have hread : (s.readBegun addr.toNat).flashRead (addr.toNat / 8) = (s.fls.word (addr.toNat / 8), s.readBegun addr.toNat) := by
    rw [State.flashRead, if_neg (Bool.eq_false_iff.1 htorn'), State.readBegun_fls]
  refine (if_neg (Bool.eq_false_iff.1 htorn')).trans ?_
  have key : ∀ p : Nat × State, p = (s.fls.word (addr.toNat / 8), s.readBegun addr.toNat) →
      p.2.puts [(R.FLS_HDATA_LO, p.1), (R.FLS_HDATA_HI, p.1 / 2 ^ 32), (R.FLS_HSTAT_valid, 1)] =
        (s.readBegun addr.toNat).puts [(R.FLS_HDATA_LO, s.fls.word (addr.toNat / 8)), (R.FLS_HDATA_HI, s.fls.word (addr.toNat / 8) / 2 ^ 32),
          (R.FLS_HSTAT_valid, 1)] := by
    rintro _ rfl
    rfl
  exact key _ hread

end

/-! ### PATROL (R593–R595) -/

/-- The counters of corrections after a line read. -/
def State.eccCounted (s : State) (corrected bad : Nat) : State := (s.count R.FLS_ECC_CNT_corrected corrected).count R.FLS_ECC_CNT_uncorrectable bad

/-- A line with many corrections is shown. -/
def State.eccWarned (s : State) (bankB : Bool) (sector corrected : Nat) : State :=
  if s.get R.FLS_ECC_CFG_warn ≤ corrected then
    s.puts [(R.FLS_STAT_ecc_warn, 1), (R.FLS_ECC_LAST_sector, sector), (R.FLS_ECC_LAST_bank, b2n bankB), (R.FLS_ECC_LAST_count, corrected)]
  else s

/-- A line with an uncorrectable word is flagged. -/
def State.eccFlagged (s : State) (bad : Nat) : State := if 0 < bad then s.put R.FLS_STAT_ecc_fail 1 else s

theorem State.eccReport_eq (s : State) (bankB : Bool) (sector corrected bad : Nat) : s.eccReport bankB sector corrected bad =
    let t := ((s.eccCounted corrected bad).eccWarned bankB sector corrected).eccFlagged bad
    if ((s.eccCounted corrected bad).get R.FLS_ECC_CFG_warn ≤ corrected ∨ 0 < bad) ∧ bankB = true ∧ 3 ≤ sector then
      { t with fls := { t.fls with checkpointDue := true } }
    else t := rfl

/-- The registers a report of corrections reaches. -/
def eccFields : List Fld :=
  [R.FLS_ECC_CNT_corrected, R.FLS_ECC_CNT_uncorrectable, R.FLS_STAT_ecc_warn, R.FLS_STAT_ecc_fail, R.FLS_ECC_LAST_sector, R.FLS_ECC_LAST_bank,
    R.FLS_ECC_LAST_count]

section
variable (s : State) (bankB : Bool) (sector corrected bad : Nat)

theorem State.eccCounted_writes : Writes [R.FLS_ECC_CNT_corrected, R.FLS_ECC_CNT_uncorrectable] s (s.eccCounted corrected bad) :=
  ((s.count_writes _ _).mono (by simp)).trans ((State.count_writes _ _ _).mono (by simp))

theorem State.eccCounted_gets : (s.eccCounted corrected bad).get R.FLS_ECC_CNT_corrected = satAdd 16 (s.get R.FLS_ECC_CNT_corrected) corrected ∧
    (s.eccCounted corrected bad).get R.FLS_ECC_CNT_uncorrectable = satAdd 16 (s.get R.FLS_ECC_CNT_uncorrectable) bad := by
  refine ⟨?_, ?_⟩
  · exact ((State.count_writes _ _ _).2 _ (by decide)).trans (State.get_count_same ..)
  · exact (State.get_count_same ..).trans (congrArg (satAdd 16 · bad) ((s.count_writes _ _).2 _ (by decide)))

theorem State.eccWarned_writes : Writes [R.FLS_STAT_ecc_warn, R.FLS_ECC_LAST_sector, R.FLS_ECC_LAST_bank, R.FLS_ECC_LAST_count] s
    (s.eccWarned bankB sector corrected) := by
  unfold State.eccWarned
  split
  · exact s.puts_writes _
  · exact ⟨rfl, .refl _ s⟩

theorem State.eccWarned_gets (h : s.get R.FLS_ECC_CFG_warn ≤ corrected) (hsector : sector < 256) (hcorrected : corrected < 16) :
    (s.eccWarned bankB sector corrected).get R.FLS_STAT_ecc_warn = 1 ∧ (s.eccWarned bankB sector corrected).get R.FLS_ECC_LAST_sector = sector ∧
      (s.eccWarned bankB sector corrected).get R.FLS_ECC_LAST_count = corrected := by
  have hget := fun p hp => s.get_puts_mem [R.FLS_STAT_ecc_warn, R.FLS_ECC_LAST_sector, R.FLS_ECC_LAST_bank, R.FLS_ECC_LAST_count]
    (l := [(R.FLS_STAT_ecc_warn, 1), (R.FLS_ECC_LAST_sector, sector), (R.FLS_ECC_LAST_bank, b2n bankB), (R.FLS_ECC_LAST_count, corrected)])
    rfl (by decide) (p := p) hp
  simp only [List.forall_mem_cons, List.not_mem_nil, false_imp_iff, implies_true, and_true] at hget
  obtain ⟨hwarn, hlast, -, hcount⟩ := hget
  rw [State.eccWarned, if_pos h]
  exact ⟨hwarn, hlast.trans (Nat.mod_eq_of_lt hsector), hcount.trans (Nat.mod_eq_of_lt hcorrected)⟩

theorem State.eccFlagged_writes : Writes [R.FLS_STAT_ecc_fail] s (s.eccFlagged bad) := by
  unfold State.eccFlagged
  split
  · exact s.put_writes _ _
  · exact ⟨rfl, .refl _ s⟩

theorem State.eccFlagged_get (h : 0 < bad) : (s.eccFlagged bad).get R.FLS_STAT_ecc_fail = 1 := by
  rw [State.eccFlagged, if_pos h]
  exact State.get_put_same ..

end

/-- A line read with corrections (R593, R595). -/
theorem State.eccReport_effect (s : State) (bankB : Bool) {sector corrected bad : Nat} (hsector : sector < 256) (hcorrected : corrected ≤ 8) :
    let t := s.eccReport bankB sector corrected bad
    t.get R.FLS_ECC_CNT_corrected = satAdd 16 (s.get R.FLS_ECC_CNT_corrected) corrected ∧
      t.get R.FLS_ECC_CNT_uncorrectable = satAdd 16 (s.get R.FLS_ECC_CNT_uncorrectable) bad ∧
      (s.get R.FLS_ECC_CFG_warn ≤ corrected → t.get R.FLS_STAT_ecc_warn = 1 ∧ t.get R.FLS_ECC_LAST_sector = sector ∧
        t.get R.FLS_ECC_LAST_count = corrected) ∧ (0 < bad → t.get R.FLS_STAT_ecc_fail = 1) ∧
      (0 < bad → bankB = true → 3 ≤ sector → t.fls.checkpointDue = true) ∧
      Writes eccFields { s with fls := { s.fls with checkpointDue := t.fls.checkpointDue } } t := by
  obtain ⟨u, hu⟩ : ∃ u, u = s.eccCounted corrected bad := ⟨_, rfl⟩
  obtain ⟨v, hv⟩ : ∃ v, v = u.eccWarned bankB sector corrected := ⟨_, rfl⟩
  obtain ⟨w, hw⟩ : ∃ w, w = v.eccFlagged bad := ⟨_, rfl⟩
  have h1 : Writes _ s u := hu ▸ s.eccCounted_writes corrected bad
  have h2 : Writes _ u v := hv ▸ u.eccWarned_writes bankB sector corrected
  have h3 : Writes _ v w := hw ▸ v.eccFlagged_writes bad
  obtain ⟨hcount, hbad⟩ : u.get _ = _ ∧ u.get _ = _ := hu ▸ s.eccCounted_gets corrected bad
  have hwarn : u.get R.FLS_ECC_CFG_warn = s.get R.FLS_ECC_CFG_warn := h1.2 _ (by decide)
  have hall : Writes eccFields s w := ((h1.mono (by simp [eccFields])).trans (h2.mono (by simp [eccFields]))).trans (h3.mono (by simp [eccFields]))
  have hgets : w.get R.FLS_ECC_CNT_corrected = satAdd 16 (s.get R.FLS_ECC_CNT_corrected) corrected ∧
      w.get R.FLS_ECC_CNT_uncorrectable = satAdd 16 (s.get R.FLS_ECC_CNT_uncorrectable) bad ∧
      (s.get R.FLS_ECC_CFG_warn ≤ corrected → w.get R.FLS_STAT_ecc_warn = 1 ∧ w.get R.FLS_ECC_LAST_sector = sector ∧
        w.get R.FLS_ECC_LAST_count = corrected) ∧ (0 < bad → w.get R.FLS_STAT_ecc_fail = 1) := by
    refine ⟨((h3.2 _ (by decide)).trans (h2.2 _ (by decide))).trans hcount, ((h3.2 _ (by decide)).trans (h2.2 _ (by decide))).trans hbad,
      fun hle => ?_, fun hpos => hw ▸ v.eccFlagged_get bad hpos⟩
    obtain ⟨ha, hb, hc⟩ : v.get _ = _ ∧ v.get _ = _ ∧ v.get _ = _ :=
      hv ▸ u.eccWarned_gets bankB sector corrected (hwarn.trans_le hle) hsector (by omega)
    exact ⟨(h3.2 _ (by decide)).trans ha, (h3.2 _ (by decide)).trans hb, (h3.2 _ (by decide)).trans hc⟩
  have heq : s.eccReport bankB sector corrected bad = if (u.get R.FLS_ECC_CFG_warn ≤ corrected ∨ 0 < bad) ∧ bankB = true ∧ 3 ≤ sector then
      { w with fls := { w.fls with checkpointDue := true } } else w := by rw [hw, hv, hu]; exact s.eccReport_eq bankB sector corrected bad
  obtain ⟨hg1, hg2, hg3, hg4⟩ := hgets
  have hfls : w.fls = s.fls := OnlyRegs.fls hall.1
  have hregs : w = { s with regs := w.regs } := hall.1
  dsimp only
  rw [heq]
  split
  case isTrue h =>
    refine ⟨hg1, hg2, hg3, hg4, fun _ _ _ => rfl, ?_, hall.2⟩
    show _ = _
    rw [hregs]
  case isFalse h =>
    refine ⟨hg1, hg2, hg3, hg4, fun hpos hbank hsec => absurd ⟨.inr hpos, hbank, hsec⟩ h, ?_, hall.2⟩
    rw [hfls]
    exact hall.1

section
variable {s : State}

theorem exec_patrol_not (h : s.isl.mode ≠ .aux ∨ s.fls.active ≠ none) (hits : List PatrolHit) : exec (.patrol hits) s = .next s := by
  refine congrArg Host.Outcome.next (if_pos ?_)
  rcases h with h | h
  · rw [bne_iff_ne.2 h, Bool.true_or]
  · rw [Option.isSome_iff_ne_none.2 h, Bool.or_true]

theorem exec_patrol_one {h : PatrolHit} (hmode : s.isl.mode = .aux) (hidle : s.fls.active = none) :
    exec (.patrol [h]) s = .next (if s.patrolled h.bankB h.sector.toNat then
      s.eccReport h.bankB h.sector.toNat (min 8 h.corrected) (min 8 h.uncorrectable) else s) :=
  congrArg Host.Outcome.next (if_neg (by rw [hmode, hidle]; decide))

theorem exec_patrol_skipped {h : PatrolHit} (hskip : s.patrolled h.bankB h.sector.toNat = false) : exec (.patrol [h]) s = .next s := by
  by_cases hnot : s.isl.mode ≠ .aux ∨ s.fls.active ≠ none
  · exact exec_patrol_not hnot _
  · obtain ⟨hmode, hidle⟩ := not_or.1 hnot
    rw [exec_patrol_one (not_not.1 hmode) (not_not.1 hidle), if_neg (Bool.eq_false_iff.1 hskip)]

/-! ### ERASE_AHEAD (R607) -/

theorem exec_eraseAhead_not (h : s.isl.mode ≠ .aux ∨ s.isl.rebuilt = false ∨ s.fls.active ≠ none ∨ s.fls.suspended ≠ []) :
    exec .eraseAhead s = .next s := by
  refine congrArg Host.Outcome.next (if_pos ?_)
  rcases h with h | h | h | h
  · simp [h]
  · simp [h]
  · simp [Option.isSome_iff_ne_none.2 h]
  · simp [h]

variable (hmode : s.isl.mode = .aux) (hbuilt : s.isl.rebuilt = true) (hidle : s.fls.active = none) (hnone : s.fls.suspended = [])
include hmode hbuilt hidle hnone

theorem exec_eraseAhead : exec .eraseAhead s = .next s.journalFirst.eraseAhead :=
  congrArg Host.Outcome.next (if_neg (by rw [hmode, hbuilt, hidle, hnone]; decide))

omit hbuilt hidle hnone in
theorem State.journalFirst_due (hdue : s.isl.commitDeferred = true ∨ s.fls.held = true) (hfw : s.isl.fw ≠ none) :
    s.journalFirst = s.commitPending false := if_pos ⟨hmode, Option.isSome_iff_ne_none.2 hfw, hdue⟩

omit hmode hbuilt hidle hnone in
theorem State.journalFirst_not (hdeferred : s.isl.commitDeferred = false) (hheld : s.fls.held = false) : s.journalFirst = s :=
  if_neg fun ⟨_, _, h⟩ => by simp [hdeferred, hheld] at h

variable (hdeferred : s.isl.commitDeferred = false) (hheld : s.fls.held = false)
include hdeferred hheld

theorem exec_eraseAhead_full (h : 4 ≤ s.get R.FLS_RING_erased_ahead) : exec .eraseAhead s = .next s := by
  rw [exec_eraseAhead hmode hbuilt hidle hnone, State.journalFirst_not hdeferred hheld]
  exact congrArg Host.Outcome.next (if_pos h)

theorem exec_eraseAhead_refused (h : s.get R.FLS_RING_erased_ahead < 4) (hno : s.eraseAllowed = false) :
    exec .eraseAhead s = .next (s.eraseRefused 2 true (s.ringAfter (s.get R.FLS_RING_erased_ahead + 1) (s.get R.FLS_RING_head))) := by
  rw [exec_eraseAhead hmode hbuilt hidle hnone, State.journalFirst_not hdeferred hheld]
  exact congrArg Host.Outcome.next ((if_neg (Nat.not_le.2 h)).trans (if_pos (by rw [hno]; rfl)))

theorem exec_eraseAhead_begins (h : s.get R.FLS_RING_erased_ahead < 4) (hmay : s.eraseAllowed = true)
    (htail : s.ringAfter (s.get R.FLS_RING_erased_ahead + 1) (s.get R.FLS_RING_head) ≠ s.get R.FLS_RING_tail) :
    exec .eraseAhead s = .next
      (s.eraseLogged true (s.ringAfter (s.get R.FLS_RING_erased_ahead + 1) (s.get R.FLS_RING_head))).flsShow := by
  rw [exec_eraseAhead hmode hbuilt hidle hnone, State.journalFirst_not hdeferred hheld]
  refine congrArg Host.Outcome.next ((if_neg (Nat.not_le.2 h)).trans ((if_neg (by rw [hmay]; decide)).trans ((if_neg htail).trans ?_)))
  exact State.eraseStart_begins rfl (by rw [hnone]; rfl) hmay

end

/-! ### The housekeeping round (R619, R620) -/

/-- A good check of a die's bias generator, where no fault of it stands. -/
def State.biasSeen (s : State) (i : Fin 4) : State :=
  { s with thm := { s.thm with biasBad := s.thm.biasBad.set i 0, biasGood := s.thm.biasGood.set i (s.thm.biasGood[i] + 1) } }

theorem State.biasCheck_good {s : State} (h : s.get R.THM_STAT_bias_fault = 0) (i : Fin 4) : s.biasCheck i true = (s.biasSeen i, []) := by
  have hbit : ¬ bitAt (s.get R.THM_STAT_bias_fault) i.val = true := by simp [h, bitAt]
  refine (if_neg hbit).trans (if_neg ?_)
  show ¬ 2 ≤ (s.thm.biasBad.set i.val 0 i.isLt)[i.val]
  rw [Vector.getElem_set_self]
  decide

theorem goodBias (i : Fin 4) : (15 : BitVec 4).getLsbD i.val = true := by revert i; decide

/-- A round of good checks. -/
def State.biasesSeen (s : State) : State := [(0 : Fin 4), 1, 2, 3].foldl State.biasSeen s

theorem State.biasSeen_fault (s : State) (i : Fin 4) : (s.biasSeen i).get R.THM_STAT_bias_fault = s.get R.THM_STAT_bias_fault := rfl

theorem State.biasRound_good {s : State} (h : s.get R.THM_STAT_bias_fault = 0) : s.biasRound 15 = (s.biasesSeen, []) := by
  unfold State.biasRound State.biasesSeen
  generalize [(0 : Fin 4), 1, 2, 3] = l
  induction l generalizing s with
  | nil => rfl
  | cons i l ih =>
    have hstep : s.biasCheck i ((15 : BitVec 4).getLsbD i.val) = (s.biasSeen i, []) := by rw [goodBias, State.biasCheck_good h]
    rw [List.foldl_cons, List.foldl_cons, ← ih (s := s.biasSeen i) ((s.biasSeen_fault i).trans h), hstep]
    rfl

theorem State.biasSeen_only (s : State) (i : Fin 4) : s.biasSeen i = { s with thm := (s.biasSeen i).thm } := rfl

theorem State.biasSeen_thm (s : State) (i : Fin 4) : (s.biasSeen i).thm.rounds = s.thm.rounds ∧ (s.biasSeen i).thm.dies = s.thm.dies ∧
    (s.biasSeen i).thm.biasBad = s.thm.biasBad.set i 0 := ⟨rfl, rfl, rfl⟩

theorem State.biasSeens_only (l : List (Fin 4)) (s : State) : l.foldl State.biasSeen s = { s with thm := (l.foldl State.biasSeen s).thm } ∧
    (l.foldl State.biasSeen s).thm.rounds = s.thm.rounds ∧ (l.foldl State.biasSeen s).thm.dies = s.thm.dies := by
  induction l generalizing s with
  | nil => exact ⟨rfl, rfl, rfl⟩
  | cons i l ih =>
    obtain ⟨honly, hrounds, hdies⟩ := ih (s.biasSeen i)
    rw [List.foldl_cons]
    exact ⟨honly, hrounds, hdies⟩

theorem biasesCleared (v : Vector Nat 4) : (((v.set 0 0).set 1 0).set 2 0).set 3 0 = Vector.replicate 4 0 := by
  ext i hi
  simp only [Vector.getElem_replicate, Vector.getElem_set]
  split_ifs <;> omega

theorem State.biasesSeen_effect (s : State) : s.biasesSeen = { s with thm := s.biasesSeen.thm } ∧ s.biasesSeen.thm.rounds = s.thm.rounds ∧
    s.biasesSeen.thm.biasBad = Vector.replicate 4 0 ∧ s.biasesSeen.thm.dies = s.thm.dies := by
  obtain ⟨honly, hrounds, hdies⟩ := State.biasSeens_only [(0 : Fin 4), 1, 2, 3] s
  refine ⟨honly, hrounds, ?_, hdies⟩
  rw [← biasesCleared s.thm.biasBad]
  simp only [State.biasesSeen, List.foldl_cons, List.foldl_nil, (State.biasSeen_thm _ _).2.2]
  rfl

/-- One more round. -/
def State.roundBegun (s : State) : State := { s with thm := { s.thm with rounds := s.thm.rounds + 1 } }

/-- A rail that was good and enabled is good no more. -/
def State.railGone (s : State) (rails : BitVec 6) (n : Nat) : Bool := s.pwr.railGood.getLsbD n && s.pwr.enables.getLsbD n && !rails.getLsbD n

section
variable {s : State} {diodes : Vector (Option Int) 8} {rails : BitVec 6}

theorem exec_housekeepingRound_not {bias : BitVec 4} (h : s.scanning = false) : exec (.housekeepingRound diodes bias rails) s = .next s :=
  congrArg Host.Outcome.next (if_pos (by rw [h]; rfl))

/-- A round in which every bias generator is good and none was faulty. -/
theorem exec_housekeepingRound_good (h : s.scanning = true) (hbias : s.get R.THM_STAT_bias_fault = 0) :
    exec (.housekeepingRound diodes 15 rails) s = .next (match (List.range 6).find? (s.railGone rails) with
      | some n => State.railLost s.roundBegun.biasesSeen.free.2 n (s.roundBegun.biasesSeen.free.1 % 2 ^ 16)
      | none => s.roundBegun.biasesSeen.thmEvaluate (fun d => ((List.range 8).map (s.thmRaw diodes)).getD d none) []) := by
  have hround := State.biasRound_good (s := s.roundBegun) hbias
  obtain ⟨honly, -⟩ := s.roundBegun.biasesSeen_effect
  have hpwr : s.roundBegun.biasesSeen.pwr = s.pwr := by rw [honly]; rfl
  show execHousekeepingRound diodes 15 rails s = _
  unfold execHousekeepingRound
  rw [if_neg (by rw [h]; decide)]
  dsimp only
  rw [show State.biasRound { s with thm := { s.thm with rounds := s.thm.rounds + 1 } } 15 = _ from hround]
  dsimp only
  rw [hpwr]
  generalize s.roundBegun.biasesSeen = u
  cases hlost : (List.range 6).find? (s.railGone rails) with
  | none =>
    rw [show (List.range 6).find? (fun n => s.pwr.railGood.getLsbD n && s.pwr.enables.getLsbD n && !rails.getLsbD n) = _ from hlost]
  | some n =>
    rw [show (List.range 6).find? (fun n => s.pwr.railGood.getLsbD n && s.pwr.enables.getLsbD n && !rails.getLsbD n) = _ from hlost]

theorem State.raws_getD (s : State) (diodes : Vector (Option Int) 8) {d : Nat} (hd : d < 8) :
    ((List.range 8).map (s.thmRaw diodes)).getD d none = s.thmRaw diodes d := by
  simp [List.getD, hd]

end

/-! ### The level of a die (R626) -/

/-- The level that a die's counts ask for. -/
def DieSt.asked (x : DieSt) : Nat := if 4 ≤ x.upShut then 3 else if 4 ≤ x.upOver ∨ 4 ≤ x.rateUp then 2 else if 4 ≤ x.upWarn then 1 else 0

theorem DieSt.level_eq (x : DieSt) (old : Nat) : x.level old = if old < x.asked then x.asked
    else if (old = 1 ∨ old = 2) ∧ 16 ≤ x.downRun ∧ (old = 1 ∨ x.rateCaused = false ∨ 16 ≤ x.rateDown) then old - 1 else old := rfl

theorem DieSt.asked_shut {x : DieSt} (h : 4 ≤ x.upShut) : x.asked = 3 := if_pos h

theorem DieSt.asked_over {x : DieSt} (h : x.upShut < 4) (hover : 4 ≤ x.upOver ∨ 4 ≤ x.rateUp) : x.asked = 2 :=
  (if_neg (Nat.not_le.2 h)).trans (if_pos hover)

theorem DieSt.asked_low {x : DieSt} (h : x.upShut < 4) (hover : x.upOver < 4) (hrate : x.rateUp < 4) : x.asked = if 4 ≤ x.upWarn then 1 else 0 :=
  (if_neg (Nat.not_le.2 h)).trans (if_neg (by omega))

theorem DieSt.level_rises {x : DieSt} {old : Nat} (h : old < x.asked) : x.level old = x.asked := if_pos h

theorem DieSt.level_falls {x : DieSt} {old : Nat} (h : x.asked ≤ old) (hdown : 16 ≤ x.downRun)
    (hrate : old = 1 ∨ old = 2 ∧ (x.rateCaused = false ∨ 16 ≤ x.rateDown)) : x.level old = old - 1 := by
  rw [DieSt.level_eq, if_neg (Nat.not_lt.2 h)]
  refine if_pos ?_
  rcases hrate with h1 | ⟨h2, hrate⟩
  · exact ⟨.inl h1, hdown, .inl h1⟩
  · exact ⟨.inr h2, hdown, .inr hrate⟩

theorem DieSt.level_stays {x : DieSt} {old : Nat} (h : x.asked ≤ old) (hdown : x.downRun < 16) : x.level old = old := by
  rw [DieSt.level_eq, if_neg (Nat.not_lt.2 h)]
  exact if_neg fun hall => Nat.not_le.2 hdown hall.2.1

theorem DieSt.level_rules (x : DieSt) (old : Nat) (hold : old ≤ 3) :
    (4 ≤ x.upShut → x.level old = 3) ∧ (x.upShut < 4 → 4 ≤ x.upOver ∨ 4 ≤ x.rateUp → old < 2 → x.level old = 2) ∧
      (x.upShut < 4 → x.upOver < 4 → x.rateUp < 4 → (4 ≤ x.upWarn → old = 0 → x.level old = 1) ∧
        (16 ≤ x.downRun → old = 1 → x.upWarn < 4 → x.level old = 0) ∧
        (16 ≤ x.downRun → old = 2 → x.rateCaused = false ∨ 16 ≤ x.rateDown → x.level old = 1) ∧
        (x.downRun < 16 → 2 ≤ old → x.level old = old)) := by
  refine ⟨fun h => ?_, fun h hover hlt => ?_, fun h hover hrate => ?_⟩
  · have hasked := DieSt.asked_shut h
    rcases Nat.lt_or_eq_of_le hold with hlt | rfl
    · exact (DieSt.level_rises (by omega)).trans hasked
    · rw [DieSt.level_eq, hasked]
      rfl
  · have hasked := DieSt.asked_over h hover
    exact (DieSt.level_rises (by omega)).trans hasked
  · have hasked := DieSt.asked_low h hover hrate
    have hle : x.asked ≤ 1 := by rw [hasked]; split <;> omega
    refine ⟨fun hwarn h0 => ?_, fun hdown h1 hwarn => ?_, fun hdown h2 hcaused => ?_, fun hdown h2 => ?_⟩
    · rw [if_pos hwarn] at hasked
      exact (DieSt.level_rises (by omega)).trans hasked
    · rw [DieSt.level_falls (by omega) hdown (.inl h1), h1]
    · rw [DieSt.level_falls (by omega) hdown (.inr ⟨h2, hcaused⟩), h2]
    · exact DieSt.level_stays (by omega) hdown

end Sys2Proof.Machine
end

section
/-!
PROOFS. The statement on the record flash and the housekeeping round.
-/

namespace Sys2Proof.Machine

section
variable {s : State}

/-- PROGRAM, clause by clause (R590). -/
theorem program_clauses (w : BitVec 17) (v : Word64) (bad : Bool) (hidle : s.fls.active = none) (hallowed : s.programAllowed = true) :
    let ix := w.toNat
    let cmd := Instr.program w v bad
    (outOfRange (inBankB ix) (sectorOf ix) = true → Refuses s cmd R.FLS_STAT_range 1 9 (inBankB ix) (sectorOf ix) ix) ∧
    (outOfRange (inBankB ix) (sectorOf ix) = false → s.cutAt ix = true →
      Refuses s cmd R.FLS_STAT_target_erasing 1 6 (inBankB ix) (sectorOf ix) ix) ∧
    (outOfRange (inBankB ix) (sectorOf ix) = false → s.cutAt ix = false →
      (s.fls.isTorn ix = true →
        let found := s.free.1 % 2 ^ 64
        let back := s.free.2.free.1 % 2 ^ 64
        (found ≠ blankWord → ProgramEnds s cmd ix 1 [R.FLS_STAT_not_blank] 1 none) ∧
        (found = blankWord → v.toNat = blankWord → ProgramEnds s cmd ix 1 [R.FLS_STAT_range] 9 none) ∧
        (found = blankWord → v.toNat ≠ blankWord → bad = true ∨ back ≠ v.toNat → ProgramEnds s cmd ix 2 [R.FLS_STAT_verify_fail] 3 (some v.toNat)) ∧
        (found = blankWord → v.toNat ≠ blankWord → bad = false → back = v.toNat → ProgramEnds s cmd ix 2 [] 0 (some v.toNat))) ∧
      (s.fls.isTorn ix = false → s.fls.word ix ≠ blankWord → Refuses s cmd R.FLS_STAT_not_blank 1 1 (inBankB ix) (sectorOf ix) ix) ∧
      (s.fls.word ix = blankWord → s.fls.isTorn ix = false →
        (v.toNat = blankWord → Refuses s cmd R.FLS_STAT_range 1 9 (inBankB ix) (sectorOf ix) ix) ∧
        (v.toNat ≠ blankWord → ∃ t, exec cmd s = .next t ∧ t.fls.word ix = v.toNat ∧ (∀ k, k ≠ ix → t.fls.word k = s.fls.word k) ∧
          LastIs t 1 (if bad then 3 else 0) (inBankB ix) (sectorOf ix) ix ∧ (bad = true → t.get R.FLS_STAT_verify_fail = 1) ∧
          Writes (if bad then R.FLS_STAT_verify_fail :: lastFields else lastFields) { s with fls := { s.fls with words := t.fls.words } } t))) := by
  have hexec := exec_program (w := w) (v := v) (bad := bad) hidle hallowed
  refine ⟨fun hrange => ?_, fun hrange hcut => ?_, fun hrange hcut => ⟨fun htorn => ⟨fun hfound => ?_, fun hfound hv => ?_, fun hfound hv hbad => ?_,
    fun hfound hv hgood hback => ?_⟩, fun htorn hword => ?_, fun hword htorn => ⟨fun hv => ?_, fun hv => ?_⟩⟩⟩
  · exact refuses_program (hexec.trans (congrArg _ (State.flashProgram_range hrange))) (by decide) (by decide)
  · exact refuses_program (hexec.trans (congrArg _ (State.flashProgram_cut hrange hcut))) (by decide) (by decide)
  · exact programEnds_read (hexec.trans (congrArg _ (State.flashProgram_torn_full hrange hcut htorn hfound))) (by decide) (by decide)
  · exact programEnds_read (hexec.trans (congrArg _ (State.flashProgram_torn_ones hrange hcut htorn hfound hv))) (by decide) (by decide)
  · exact programEnds_written (hexec.trans (congrArg _ (State.flashProgram_torn_bad hrange hcut htorn hfound hv hbad))) (by decide) (by decide)
  · exact programEnds_written (hexec.trans (congrArg _ (State.flashProgram_torn_good hrange hcut htorn hfound hv hgood hback))) (by decide) (by decide)
  · exact refuses_program (hexec.trans (congrArg _ (State.flashProgram_full hrange hcut htorn hword))) (by decide) (by decide)
  · exact refuses_program (hexec.trans (congrArg _ (State.flashProgram_ones hrange hcut htorn hword hv))) (by decide) (by decide)
  · have h := hexec.trans (congrArg _ (State.flashProgram_blank hrange hcut htorn hword hv))
    cases bad with
    | true =>
      obtain ⟨t, ht, hat, hother, hlast, hset, hwrites⟩ := program_blank h (by decide) (by decide)
      exact ⟨t, ht, hat, hother, hlast, fun _ => hset _ (List.mem_singleton_self _), hwrites⟩
    | false =>
      obtain ⟨t, ht, hat, hother, hlast, -, hwrites⟩ := program_blank h (by decide) (by decide)
      exact ⟨t, ht, hat, hother, hlast, fun hbad => absurd hbad (by decide), hwrites⟩

/-- ERASE, clause by clause (R591). -/
theorem erase_clauses (bank : Bool) (sec : BitVec 8) (hidle : s.fls.active = none) :
    let n := sec.toNat
    let cmd := Instr.erase bank sec
    let erasing := s.fls.suspended.any (fun a => a.op == 2)
    (outOfRange bank n = true → Refuses s cmd R.FLS_STAT_range 2 9 bank n 0) ∧
    (outOfRange bank n = false → erasing = true → Refuses s cmd R.FLS_STAT_suspend_refused 2 7 bank n 0) ∧
    (outOfRange bank n = false → erasing = false → s.eraseAllowed = false → NoEnergy s cmd 2 bank n) ∧
    (outOfRange bank n = false → erasing = false → s.eraseAllowed = true → EraseBegins s cmd bank n) := by
  have hexec := exec_erase (bank := bank) (sec := sec) hidle
  refine ⟨fun hrange => ?_, fun hrange herasing => ?_, fun hrange hnone hno => ?_, fun hrange hnone hmay => ?_⟩
  · exact refuses_of_exec (hexec.trans (congrArg _ (State.eraseStart_range hrange))) (by decide) (by decide) (by decide)
  · exact refuses_of_exec (hexec.trans (congrArg _ (State.eraseStart_erasing hrange herasing))) (by decide) (by decide) (by decide)
  · exact noEnergy_of_exec (hexec.trans (congrArg _ (State.eraseStart_refused hrange hnone hno))) (by decide)
  · exact eraseBegins_of_exec (hexec.trans (congrArg _ (State.eraseStart_begins hrange hnone hmay)))

/-- BLANK_CHECK, clause by clause (R589). -/
theorem blankCheck_clauses (bank : Bool) (sec : BitVec 8) (hidle : s.fls.active = none) :
    let n := sec.toNat
    let answers := fun (result used : Nat) => ∃ t, exec (.blankCheck bank sec) s = .next t ∧ LastIs t 5 result bank n 0 ∧
      Writes lastFields { s with freeIx := s.freeIx + used } t
    (s.fls.sectorBlank bank n = true → answers 0 0) ∧ (s.fls.sectorBlank bank n = false → s.wordFound bank n → answers 1 0) ∧
      (s.fls.sectorBlank bank n = false → ¬ s.wordFound bank n → answers (s.free.1 % 2) 1) := by
  refine ⟨fun h => ?_, fun h hfound => ?_, fun h hfound => ?_⟩
  · exact ⟨_, exec_blankCheck_blank hidle h, s.flsLast_is (by decide) (by decide) _ _ _, s.flsLast_writes _ _ _ _ _⟩
  · exact ⟨_, exec_blankCheck_found hidle h hfound, s.flsLast_is (by decide) (by decide) _ _ _, s.flsLast_writes _ _ _ _ _⟩
  · exact ⟨_, exec_blankCheck_free hidle h hfound,
      State.flsLast_is _ (by decide) (Nat.lt_of_lt_of_le (Nat.mod_lt _ (by decide)) (by decide)) _ _ _, State.flsLast_writes _ _ _ _ _ _⟩

/-- ERASE_DONE of an active erase (R591, R605). -/
theorem eraseDone_clauses {a : FlashOp} (hactive : s.fls.active = some a) (hop : a.op = 2) :
    (a.sector < 256 → s.fls.logSector < 2 → s.fls.logWord < 256 → a.bankB = false ∨ 2 ≤ a.sector →
      ∃ t, exec (.eraseDone true) s = .next t ∧ t.fls.active = none ∧ LastIs t 2 0 a.bankB a.sector 0 ∧ t.get R.FLS_STAT_busy = 0 ∧
      (∀ i, i < 256 → t.fls.word (sectorWord a.bankB a.sector + i) = blankWord) ∧
      t.fls.word (sectorWord true s.fls.logSector + s.fls.logWord) = logEntry 0x44 a.bankB a.sector s.fls.logSeq) ∧
    (∃ t, exec (.eraseDone false) s = .next t ∧ t.fls.active = none ∧ LastIs t 2 4 a.bankB a.sector 0 ∧ t.get R.FLS_STAT_erase_fail = 1 ∧
      (∀ i, i < 256 → t.fls.isTorn (sectorWord a.bankB a.sector + i) = true)) := by
  refine ⟨fun hsector hlog hroom hapart => ?_, ?_⟩
  · have hnone : (s.opEnded.eraseVerified a.bankB a.sector).fls.active = none := (s.opEnded.eraseVerified_fls a.bankB a.sector).2
    obtain ⟨hfls, hlast, hbusy, -⟩ := State.eraseEnded_effect hnone (show 0 < 16 by decide) a.bankB a.sector
    refine ⟨_, exec_eraseDone hactive hop true, (congrArg FlsSt.active hfls).trans hnone, hlast, hbusy, fun i hi => ?_, ?_⟩
    · refine (congrArg (FlsSt.word · _) hfls).trans ?_
      exact State.eraseVerified_blank (s := s.opEnded) hsector hlog hapart hi
    · refine (congrArg (FlsSt.word · _) hfls).trans ?_
      exact State.eraseVerified_logged (s := s.opEnded) hroom
  · obtain ⟨htorn, hnone⟩ := s.opEnded.eraseFailed_fls a.bankB a.sector
    obtain ⟨hfls, hlast, -, hget⟩ := State.eraseEnded_effect (u := s.opEnded.eraseFailed a.bankB a.sector) hnone (show 4 < 16 by decide) a.bankB a.sector
    refine ⟨_, exec_eraseDone hactive hop false, (congrArg FlsSt.active hfls).trans hnone, hlast,
      (hget _ (by decide)).trans (s.opEnded.eraseFailed_flag _ _), fun i hi => ?_⟩
    refine (congrArg (FlsSt.isTorn · _) hfls).trans (FlsSt.isTorn_of_mem (lo := sectorWord a.bankB a.sector) (hi := sectorWord a.bankB a.sector + 256)
      ?_ (by omega))
    rw [htorn]
    exact List.mem_cons_self ..

/-- A request for a protection level, with its key (R601, R602). -/
theorem protRequest_clauses {i : Instr} {n key : Nat} (hexec : exec i s = .next (s.protRequest n key)) :
    (n < s.fls.protLevel → ¬ s.lowers n key → Refuses s i R.FLS_STAT_protected 6 5 false 0 0) ∧
    (s.lowers n key → ∃ t, exec i s = .next t ∧ t.fls.massPart = some 0 ∧ t.fls.active = some ⟨3, false, 0, 0, 0, 0⟩ ∧
      t.get R.FLS_STAT_busy = 1 ∧ t.get R.FLS_STAT_op = 3) ∧
    (s.fls.protLevel ≤ n → key ≠ 0xF1A5 → exec i s = .next s) ∧
    (s.fls.protLevel ≤ n → key = 0xF1A5 → (s.fls.active = none → OptionRaises s i n) ∧ (s.setAside = none → exec i s = .next s) ∧
      (∀ t, s.fls.active ≠ none → s.setAside = some t → exec i s = .next (t.option n).resumeInner)) := by
  refine ⟨fun hlevel hno => ?_, fun hlowers => ?_, fun hlevel hkey => ?_, fun hlevel hkey => ?_⟩
  · exact refuses_of_exec (hexec.trans (congrArg _ (State.protRequest_refused hlevel hno))) (by decide) (by decide) (by decide)
  · exact ⟨_, hexec.trans (congrArg _ (State.protRequest_lowers hlowers)), s.massBegun_effect⟩
  · exact hexec.trans (congrArg _ (State.protRequest_key hlevel hkey))
  · rw [State.protRequest_raises hlevel hkey] at hexec
    refine ⟨fun hidle => ?_, fun hnone => ?_, fun t hactive haside => ?_⟩
    · exact optionRaises_of_exec (hexec.trans (congrArg _ (State.meanwhile_idle hidle _)))
    · exact hexec.trans (congrArg _ (State.meanwhile_none hnone _))
    · exact hexec.trans (congrArg _ (State.meanwhile_some hactive haside _))

/-- A patrol of one line (R593–R595). -/
theorem patrol_clauses (h : PatrolHit) (hmode : s.isl.mode = .aux) (hidle : s.fls.active = none) (hcorrected : h.corrected ≤ 8)
    (hbad : h.uncorrectable ≤ 8) (hseen : s.patrolled h.bankB h.sector.toNat = true) : ∃ t, exec (.patrol [h]) s = .next t ∧
      t.get R.FLS_ECC_CNT_corrected = satAdd 16 (s.get R.FLS_ECC_CNT_corrected) h.corrected ∧
      t.get R.FLS_ECC_CNT_uncorrectable = satAdd 16 (s.get R.FLS_ECC_CNT_uncorrectable) h.uncorrectable ∧
      (s.get R.FLS_ECC_CFG_warn ≤ h.corrected → t.get R.FLS_STAT_ecc_warn = 1 ∧ t.get R.FLS_ECC_LAST_sector = h.sector.toNat ∧
        t.get R.FLS_ECC_LAST_count = h.corrected) ∧ (0 < h.uncorrectable → t.get R.FLS_STAT_ecc_fail = 1) ∧
      (0 < h.uncorrectable → h.bankB = true → 3 ≤ h.sector.toNat → t.fls.checkpointDue = true) ∧
      Writes eccFields { s with fls := { s.fls with checkpointDue := t.fls.checkpointDue } } t := by
  have hexec := exec_patrol_one (h := h) hmode hidle
  rw [if_pos hseen, Nat.min_eq_right hcorrected, Nat.min_eq_right hbad] at hexec
  exact ⟨_, hexec, s.eccReport_effect h.bankB h.sector.isLt hcorrected⟩

/-- A round in which every bias generator is good (R619, R620). -/
theorem housekeeping_clauses (diodes : Vector (Option Int) 8) (rails : BitVec 6) (hscan : s.scanning = true)
    (hbias : s.get R.THM_STAT_bias_fault = 0) :
    let cmd := Instr.housekeepingRound diodes 15 rails
    ((∀ n, n < 6 → s.railGone rails n = false) → ∃ (u : State) (raw : Nat → Option Int), exec cmd s = .next (u.thmEvaluate raw []) ∧
      (∀ d, d < 8 → raw d = s.thmRaw diodes d) ∧ u = { s with thm := u.thm } ∧ u.thm.rounds = s.thm.rounds + 1 ∧
      u.thm.biasBad = Vector.replicate 4 0 ∧ u.thm.dies = s.thm.dies) ∧
    (∀ n, n < 6 → s.railGone rails n = true → (∀ m, m < n → s.railGone rails m = false) →
      ∃ (u : State) (mv : Nat), exec cmd s = .next (u.railLost n mv) ∧
      mv < 65536 ∧ u = { s with thm := u.thm, freeIx := s.freeIx + 1 } ∧ u.thm.rounds = s.thm.rounds + 1) := by
  have hexec := exec_housekeepingRound_good (diodes := diodes) (rails := rails) hscan hbias
  obtain ⟨honly, hrounds, hbad, hdies⟩ := s.roundBegun.biasesSeen_effect
  refine ⟨fun hall => ?_, fun n hn hgone hfirst => ?_⟩
  · have hnone : (List.range 6).find? (s.railGone rails) = none :=
      List.find?_eq_none.2 fun n hn => by rw [hall n (List.mem_range.1 hn)]; decide
    rw [hnone] at hexec
    exact ⟨_, _, hexec, fun d hd => s.raws_getD diodes hd, honly, hrounds, hbad, hdies⟩
  · have hsome : (List.range 6).find? (s.railGone rails) = some n :=
      List.find?_range_eq_some.2 ⟨hgone, List.mem_range.2 hn, fun m hm => by rw [hfirst m hm]; rfl⟩
    rw [hsome] at hexec
    refine ⟨_, _, hexec, Nat.mod_lt _ (by decide), ?_, hrounds⟩
    have key : ∀ u : State, u = { s.roundBegun with thm := u.thm } → u.free.2 = { s with thm := u.free.2.thm, freeIx := s.freeIx + 1 } := by
      intro u hu
      have hfree : u.freeIx = s.freeIx := by rw [hu]; rfl
      rw [State.free, hfree, hu]
      rfl
    exact key _ honly

end

/-- Settles O60: the flash's commands by how they end, and the housekeeping round by what it finds. -/
theorem flashAndHousekeeping : Obligations.FlashAndHousekeeping := by
  unfold Obligations.FlashAndHousekeeping
  intro s status last lastIs refuses noEnergy erasing begins
  refine ⟨?_, ?_, ?_, ?_, ?_, ?_, ?_, ?_, ?_, ?_, ?_, ?_, ?_, ?_, ?_, ?_, ?_, ?_, ?_, ?_⟩
  · exact fun w v bad => ⟨exec_program_not, fun hidle hallowed => program_clauses w v bad hidle hallowed⟩
  · intro bank sec
    refine ⟨fun h => ⟨exec_erase_busy h, exec_blankCheck_busy h⟩, fun hidle => ?_⟩
    obtain ⟨h1, h2, h3, h4⟩ := erase_clauses bank sec hidle
    exact ⟨h1, h2, h3, h4, blankCheck_clauses bank sec hidle⟩
  · exact fun blank h => exec_eraseDone_not h blank
  · exact fun a hactive hop => eraseDone_clauses hactive hop
  · exact exec_suspend_idle
  · exact fun a hactive => ⟨fun hno => refuses_of_exec (exec_suspend_refused hactive hno) (by decide) (by decide) (by decide),
      fun hdepth hcount hop => ⟨_, exec_suspend hactive hdepth hcount hop, s.suspended_effect a⟩⟩
  · exact exec_resume_not
  · exact fun a rest hactive hsuspended => ⟨fun hop hms => exec_resume_refused hactive hsuspended hop hms,
      fun hmay => exec_resume hactive hsuspended hmay⟩
  · intro level raise
    refine ⟨exec_option_not, fun hidle hallowed => optionRaises_of_exec (exec_option hidle hallowed), fun key => ?_⟩
    refine List.forall_mem_cons.2 ⟨protRequest_clauses rfl, List.forall_mem_singleton.2 (protRequest_clauses rfl)⟩
  · exact exec_massErase_not
  · exact fun hup hpart => ⟨fun hno => noEnergy_of_exec (exec_massErase_refused hup hpart hno) (by decide),
      fun hmay => ⟨_, exec_massErase hup hpart hmay, s.massDone_effect⟩⟩
  · intro addr ix bankB busy shown reads
    refine ⟨fun h => hostReads_begun (State.hostRead_misaligned h), fun haligned hbank hlevel => ?_, fun haligned hopen => ⟨fun hbusy => ?_,
      fun hbusy htorn => ?_⟩⟩
    · exact hostReads_flag (.inr rfl) (State.hostRead_denied haligned hbank hlevel)
    · exact hostReads_flag (.inl rfl) (State.hostRead_busy haligned hopen hbusy)
    · exact hostReads_data (State.hostRead_word haligned hopen hbusy htorn)
  · exact fun hits h => exec_patrol_not h hits
  · exact fun h hmode hidle hcorrected hbad hseen => patrol_clauses h hmode hidle hcorrected hbad hseen
  · exact fun h hskip => exec_patrol_skipped hskip
  · exact exec_eraseAhead_not
  · intro hmode hbuilt hidle hnone hdue hfw
    rw [exec_eraseAhead hmode hbuilt hidle hnone, State.journalFirst_due hmode hdue hfw]
  · intro hmode hbuilt hidle hnone hdeferred hheld target
    exact ⟨exec_eraseAhead_full hmode hbuilt hidle hnone hdeferred hheld,
      fun h hno => noEnergy_of_exec (exec_eraseAhead_refused hmode hbuilt hidle hnone hdeferred hheld h hno) (by decide),
      fun h hmay htail => eraseBegins_of_exec (exec_eraseAhead_begins hmode hbuilt hidle hnone hdeferred hheld h hmay htail)⟩
  · intro diodes bias rails cmd lost
    refine ⟨exec_housekeepingRound_not, fun hscan hbias hfault => ?_⟩
    have hcmd : bias = 15 := hbias
    subst hcmd
    exact housekeeping_clauses diodes rails hscan hfault
  · exact DieSt.level_rules

end Sys2Proof.Machine
end

section
/-!
PROOFS. The M-Bus slave (R541–R546, R578): the rate of a frame, its answer and its count, and the telegrams.
-/

namespace Sys2Proof.Machine

/-! ### Answers -/

/-- The command is answered with `bs`, but for address 255, and counted; else it reaches the fields of `l` and the island's state. -/
def Answers (s : State) (rate : Fin 3) (cmd : Instr) (dst : Nat) (bs : List Byte) (l : List Fld) (t : State) : Prop :=
  exec cmd s = .next t ∧ t.get R.MBUS_STAT_rate = rate.val ∧ t.out = (if dst = 255 then s.out else .mbus bs :: s.out) ∧
    t.get R.MBUS_CNT_answered = (if dst = 255 then s.get R.MBUS_CNT_answered else satAdd 16 (s.get R.MBUS_CNT_answered) 1) ∧
    Writes (R.MBUS_STAT_rate :: R.MBUS_CNT_answered :: l) { s with out := t.out, isl := t.isl } t

/-- The frame's rate is kept (R541). -/
def State.rated (s : State) (rate : Fin 3) : State := s.put R.MBUS_STAT_rate rate.val

section
variable {s : State} {rate : Fin 3}

theorem State.mbusRate_up (hup : s.islandUp = true) : s.mbusRate rate = s.rated rate := if_pos hup

theorem State.mbusRate_down (hup : s.islandUp = false) : s.mbusRate rate = s := if_neg (Bool.eq_false_iff.1 hup)

theorem State.rated_get : (s.rated rate).get R.MBUS_STAT_rate = rate.val := by
  have hlt := rate.isLt
  exact (State.get_put_same ..).trans (Nat.mod_eq_of_lt (by show rate.val < 4; omega))

theorem State.rated_other {g : Fld} (hg : g.key ≠ R.MBUS_STAT_rate.key) : (s.rated rate).get g = s.get g := State.get_put_other _ _ _ _ hg

theorem State.rated_takes (a : Nat) : (s.rated rate).mbusTakes a = s.mbusTakes a := by
  unfold State.mbusTakes
  rw [State.rated_other (by decide), State.rated_other (by decide)]
  rfl

/-- A frame not for this slave leaves its rate. -/
theorem State.rated_sets {cmd : Instr} (h : exec cmd s = .next (s.rated rate)) : Sets cmd R.MBUS_STAT_rate rate.val s :=
  ⟨_, h, s.put_writes _ _, State.rated_get⟩

end

section
variable {u : State} {dst : Nat} {bs : List Byte}

theorem State.mbusAnswer_broadcast (h : dst = 255) : u.mbusAnswer dst bs = u := if_pos h

theorem State.mbusAnswer_single (h : dst ≠ 255) : u.mbusAnswer dst bs = (u.count R.MBUS_CNT_answered 1).emit (.mbus bs) := if_neg h

theorem State.mbusAnswer_effect (u : State) (dst : Nat) (bs : List Byte) :
    let t := u.mbusAnswer dst bs
    t.isl = u.isl ∧ t.out = (if dst = 255 then u.out else .mbus bs :: u.out) ∧
      t.get R.MBUS_CNT_answered = (if dst = 255 then u.get R.MBUS_CNT_answered else satAdd 16 (u.get R.MBUS_CNT_answered) 1) ∧
      Writes [R.MBUS_CNT_answered] { u with out := t.out } t := by
  by_cases h : dst = 255
  · rw [State.mbusAnswer_broadcast h, if_pos h, if_pos h]
    exact ⟨rfl, rfl, rfl, rfl, .refl _ u⟩
  · have hcount := u.count_writes R.MBUS_CNT_answered 1
    have hget : (u.count R.MBUS_CNT_answered 1).get R.MBUS_CNT_answered = satAdd 16 (u.get R.MBUS_CNT_answered) 1 := State.get_count_same ..
    have hisl : (u.count R.MBUS_CNT_answered 1).isl = u.isl := by rw [hcount.1]
    have hout : (u.count R.MBUS_CNT_answered 1).out = u.out := by rw [hcount.1]
    rw [State.mbusAnswer_single h, if_neg h, if_neg h]
    refine ⟨hisl, congrArg (_ :: ·) hout, hget, ?_, hcount.2⟩
    show State.emit _ _ = _
    rw [State.emit, hcount.1]

end

section
variable {s u : State} {rate : Fin 3} {cmd : Instr} {dst : Nat} {bs : List Byte} {l : List Fld}

/-- An answer sent from `u`, which has at most kept the rate, put fields of `l` and changed the island's state. -/
theorem answers_of_exec (h : exec cmd s = .next (u.mbusAnswer dst bs)) (hrate : u.get R.MBUS_STAT_rate = rate.val)
    (hcount : u.get R.MBUS_CNT_answered = s.get R.MBUS_CNT_answered) (hu : Writes (R.MBUS_STAT_rate :: l) { s with isl := u.isl } u) :
    Answers s rate cmd dst bs l (u.mbusAnswer dst bs) ∧ (u.mbusAnswer dst bs).isl = u.isl := by
  obtain ⟨hisl, hout, hanswered, hwrites⟩ := u.mbusAnswer_effect dst bs
  have houtu : u.out = s.out := by rw [hu.1]
  refine ⟨⟨h, (hwrites.2 _ (by decide)).trans hrate, ?_, ?_, ?_⟩, hisl⟩
  · rw [hout, houtu]
  · rw [hanswered, hcount]
  · have hbase : Writes (R.MBUS_STAT_rate :: R.MBUS_CNT_answered :: l)
        { s with out := (u.mbusAnswer dst bs).out, isl := u.isl } { u with out := (u.mbusAnswer dst bs).out } :=
      ⟨by rw [hu.1]; rfl, fun g hg => hu.2 g fun f hf => hg f (by rcases List.mem_cons.1 hf with rfl | hf <;> simp [*])⟩
    rw [hisl]
    exact hbase.trans (hwrites.mono (by simp))

/-- An answered command that goes on to put a field. -/
theorem Answers.put {t : State} (h : Answers s rate cmd dst bs l t) {f : Fld} {v : Nat} (hf : f ∈ l) (hrate : f.key ≠ R.MBUS_STAT_rate.key)
    (hcount : f.key ≠ R.MBUS_CNT_answered.key) {cmd' : Instr} (hexec : exec cmd' s = .next (t.put f v)) :
    Answers s rate cmd' dst bs l (t.put f v) := by
  obtain ⟨-, hr, hout, hanswered, hwrites⟩ := h
  refine ⟨hexec, (State.get_put_other _ _ _ _ hrate.symm).trans hr, hout, (State.get_put_other _ _ _ _ hcount.symm).trans hanswered, ?_⟩
  exact hwrites.trans ((t.put_writes f v).mono (by simp [hf]))

end

/-! ### Frames that change the slave alone -/

section
variable {s : State} {rate : Fin 3} {addr : Byte}

theorem State.islandUp_of_takes (h : s.mbusTakes addr.toNat = true) : s.islandUp = true := (Bool.and_eq_true_iff.1 h).1

theorem exec_reqUd1 (h : s.mbusTakes addr.toNat = true) : exec (.reqUd1 rate addr) s = .next ((s.rated rate).mbusAnswer addr.toNat ackByte) := by
  show execReqUd1 rate addr s = _
  rw [execReqUd1, State.mbusRate_up (State.islandUp_of_takes h)]
  exact congrArg Host.Outcome.next (if_pos ((State.rated_takes _).trans h))

theorem exec_applicationReset (h : s.mbusTakes addr.toNat = true) :
    exec (.applicationReset rate addr) s = .next ((s.rated rate).mbusRestart.mbusAnswer addr.toNat ackByte) := by
  show execApplicationReset rate addr s = _
  rw [execApplicationReset, State.mbusRate_up (State.islandUp_of_takes h)]
  exact congrArg Host.Outcome.next (if_pos ((State.rated_takes _).trans h))

theorem exec_sndNke (h : s.mbusTakes addr.toNat = true) : exec (.sndNke rate addr) s = .next
    (if addr.toNat = 253 then ((s.rated rate).mbusRestart.mbusAnswer addr.toNat ackByte).put R.MBUS_STAT_selected 0
      else (s.rated rate).mbusRestart.mbusAnswer addr.toNat ackByte) := by
  show execSndNke rate addr s = _
  rw [execSndNke, State.mbusRate_up (State.islandUp_of_takes h)]
  exact congrArg Host.Outcome.next (if_pos ((State.rated_takes _).trans h))

theorem exec_setBaudRate {ci : Byte} (h : s.mbusTakes addr.toNat = true) (hfw : s.isl.fw ≠ none) (hlo : 0xB8 ≤ ci.toNat) (hhi : ci.toNat ≤ 0xBF) :
    exec (.setBaudRate rate addr ci) s = .next ((s.rated rate).mbusAnswer addr.toNat ackByte) := by
  show execSetBaudRate rate addr ci s = _
  rw [execSetBaudRate, State.mbusRate_up (State.islandUp_of_takes h)]
  refine congrArg Host.Outcome.next (if_pos ?_)
  rw [State.rated_takes, h]
  simp [State.rated, State.put, Option.isSome_iff_ne_none.2 hfw, hlo, hhi]

theorem exec_setPrimaryAddress {value : Byte} (h : s.mbusTakes addr.toNat = true) (hfw : s.isl.fw ≠ none) (hle : value.toNat ≤ 250) :
    exec (.setPrimaryAddress rate addr value) s = .next (((s.rated rate).mbusAnswer addr.toNat ackByte).setPrimary value.toNat) := by
  show execSetPrimaryAddress rate addr value s = _
  rw [execSetPrimaryAddress, State.mbusRate_up (State.islandUp_of_takes h)]
  refine congrArg Host.Outcome.next (if_pos ?_)
  rw [State.rated_takes, h]
  simp [State.rated, State.put, Option.isSome_iff_ne_none.2 hfw, hle]

theorem exec_setPrimaryAddress_not {value : Byte} (h : s.mbusTakes addr.toNat = true) (hno : s.isl.fw = none ∨ 250 < value.toNat) :
    exec (.setPrimaryAddress rate addr value) s = .next (s.rated rate) := by
  show execSetPrimaryAddress rate addr value s = _
  rw [execSetPrimaryAddress, State.mbusRate_up (State.islandUp_of_takes h)]
  refine congrArg Host.Outcome.next (if_neg ?_)
  rcases hno with hfw | hlt
  · simp [State.rated, State.put, hfw]
  · simp [hlt]

/-- Frames to another address. -/
theorem exec_mbus_not (hup : s.islandUp = true) (h : s.mbusTakes addr.toNat = false) (value ci : Byte) (fcb : Bool) :
    exec (.sndNke rate addr) s = .next (s.rated rate) ∧ exec (.reqUd1 rate addr) s = .next (s.rated rate) ∧
      exec (.reqUd2 rate addr fcb) s = .next (s.rated rate) ∧ exec (.applicationReset rate addr) s = .next (s.rated rate) ∧
      exec (.setPrimaryAddress rate addr value) s = .next (s.rated rate) ∧ exec (.setBaudRate rate addr ci) s = .next (s.rated rate) := by
  have hnot := (State.rated_takes (s := s) (rate := rate) addr.toNat).trans h
  have hrate := State.mbusRate_up (rate := rate) hup
  refine ⟨?_, ?_, ?_, ?_, ?_, ?_⟩
  · show execSndNke rate addr s = _
    rw [execSndNke, hrate]
    exact congrArg Host.Outcome.next (if_neg (Bool.eq_false_iff.1 hnot))
  · show execReqUd1 rate addr s = _
    rw [execReqUd1, hrate]
    exact congrArg Host.Outcome.next (if_neg (Bool.eq_false_iff.1 hnot))
  · show execReqUd2 rate addr fcb s = _
    rw [execReqUd2, hrate]
    exact congrArg Host.Outcome.next (if_pos (by rw [hnot]; rfl))
  · show execApplicationReset rate addr s = _
    rw [execApplicationReset, hrate]
    exact congrArg Host.Outcome.next (if_neg (Bool.eq_false_iff.1 hnot))
  · show execSetPrimaryAddress rate addr value s = _
    rw [execSetPrimaryAddress, hrate]
    exact congrArg Host.Outcome.next (if_neg (by rw [hnot]; simp))
  · show execSetBaudRate rate addr ci s = _
    rw [execSetBaudRate, hrate]
    exact congrArg Host.Outcome.next (if_neg (by rw [hnot]; simp))

/-- Without the island's power no frame arrives. -/
theorem exec_mbus_down (hup : s.islandUp = false) (value ci : Byte) (fcb : Bool) (sec : Vector Byte 8) :
    (∀ cmd ∈ [Instr.sndNke rate addr, .reqUd1 rate addr, .reqUd2 rate addr fcb, .applicationReset rate addr,
      .setPrimaryAddress rate addr value, .selection rate sec, .setBaudRate rate addr ci], exec cmd s = .next s) ∧
      exec .mbusFrameDiscard s = .next s := by
  have hnot (a : Nat) : s.mbusTakes a = false := by rw [State.mbusTakes, hup, Bool.false_and]
  have hrate := State.mbusRate_down (rate := rate) hup
  refine ⟨?_, congrArg Host.Outcome.next (if_neg (Bool.eq_false_iff.1 hup))⟩
  simp only [List.forall_mem_cons, List.not_mem_nil, false_imp_iff, implies_true, and_true]
  refine ⟨?_, ?_, ?_, ?_, ?_, ?_, ?_⟩
  · show execSndNke rate addr s = _
    rw [execSndNke, hrate]
    exact congrArg Host.Outcome.next (if_neg (Bool.eq_false_iff.1 (hnot _)))
  · show execReqUd1 rate addr s = _
    rw [execReqUd1, hrate]
    exact congrArg Host.Outcome.next (if_neg (Bool.eq_false_iff.1 (hnot _)))
  · show execReqUd2 rate addr fcb s = _
    rw [execReqUd2, hrate]
    exact congrArg Host.Outcome.next (if_pos (by rw [hnot]; rfl))
  · show execApplicationReset rate addr s = _
    rw [execApplicationReset, hrate]
    exact congrArg Host.Outcome.next (if_neg (Bool.eq_false_iff.1 (hnot _)))
  · show execSetPrimaryAddress rate addr value s = _
    rw [execSetPrimaryAddress, hrate]
    exact congrArg Host.Outcome.next (if_neg (by rw [hnot]; simp))
  · show execSelection rate sec s = _
    rw [execSelection, hrate]
    exact congrArg Host.Outcome.next (if_pos (by rw [hup]; rfl))
  · show execSetBaudRate rate addr ci s = _
    rw [execSetBaudRate, hrate]
    exact congrArg Host.Outcome.next (if_neg (by rw [hnot]; simp))

end

/-! ### Selection (R544) -/

section
variable {s : State} {rate : Fin 3} {sec : Vector Byte 8}

theorem exec_selection_matched (hup : s.islandUp = true) (h : s.secondaryMatches sec.toList = true) :
    exec (.selection rate sec) s = .next (((s.rated rate).put R.MBUS_STAT_selected 1).mbusAnswer 253 ackByte) := by
  show execSelection rate sec s = _
  rw [execSelection, State.mbusRate_up hup]
  exact congrArg Host.Outcome.next ((if_neg (by rw [show (s.rated rate).islandUp = true from hup]; decide)).trans (if_pos h))

theorem exec_selection_other (hup : s.islandUp = true) (h : s.secondaryMatches sec.toList = false) :
    exec (.selection rate sec) s = .next ((s.rated rate).put R.MBUS_STAT_selected 0) := by
  show execSelection rate sec s = _
  rw [execSelection, State.mbusRate_up hup]
  exact congrArg Host.Outcome.next ((if_neg (by rw [show (s.rated rate).islandUp = true from hup]; decide)).trans
    (if_neg (Bool.eq_false_iff.1 h)))

end

/-! ### Telegrams (R578–R583) -/

section
variable {s : State} {rate : Fin 3} {addr : Byte}

theorem State.rated_rspUd (access : Nat) (telegram : List Byte) : (s.rated rate).rspUd access telegram = s.rspUd access telegram := by
  unfold State.rspUd
  rw [State.rated_other (by decide)]
  rfl

/-- No telegram tells of the rate. -/
theorem State.rated_telegramSet : (s.rated rate).telegramSet = s.telegramSet := by
  have hget : ∀ g ∈ [R.MTR_RTC, R.MTR_STAT_time_unknown, R.MTR_EVT_ACT, R.OSC_STAT_xtal_fail, R.MTR_CAL_LOCK_lock, R.MTR_INTERVAL,
      R.MTR_CH_FLOW 0, R.MTR_CH_FLOW 1, R.MTR_PWR_heat, R.MTR_PWR_elec], (s.rated rate).get g = s.get g :=
    fun g hg => State.rated_other (by revert g; decide)
  simp only [List.forall_mem_cons, List.not_mem_nil, false_imp_iff, implies_true, and_true] at hget
  obtain ⟨h1, h2, h3, h4, h5, h6, h7, h8, h9, h10⟩ := hget
  have hevt (n : Nat) : (s.rated rate).evtActive n = s.evtActive n := by simp only [State.evtActive, h3]
  have htemp (n : Fin 4) : (s.rated rate).mbusTemp n = s.mbusTemp n := by
    simp only [State.mbusTemp, hevt]
    rfl
  have hstatus : (s.rated rate).mbusStatus = s.mbusStatus := by
    simp only [State.mbusStatus, h3, h5]
    rfl
  have hdate : (s.rated rate).dateRecord = s.dateRecord := by simp only [State.dateRecord, h1, h2]
  have herrors : (s.rated rate).errorFlags = s.errorFlags := by
    simp only [State.errorFlags, h2, h3, h4, h5]
    rfl
  have hblock (n m : Nat) : (s.rated rate).statusBlock n m = s.statusBlock n m := by
    simp only [State.statusBlock, h6]
    rfl
  have hmtr : (s.rated rate).mtr = s.mtr := rfl
  have hfirst (n m : Nat) : (s.rated rate).telegram1 n m = s.telegram1 n m := by
    unfold State.telegram1
    rw [hmtr, hdate, htemp, htemp, htemp, htemp, herrors, hblock, h7, h8, h9, h10]
  have htenant (n : Nat) (last : Bool) (ts : List Nat) : (s.rated rate).tenantTelegram n last ts = s.tenantTelegram n last ts := by
    simp only [State.tenantTelegram, hdate]
    rfl
  have htenants : (s.rated rate).mbusTenants = s.mbusTenants := rfl
  simp only [State.telegramSet, hstatus, hfirst, htenant, htenants]

variable {fcb : Bool} (htakes : s.mbusTakes addr.toNat = true)
include htakes

theorem exec_reqUd2_broadcast (h : addr = 255) : exec (.reqUd2 rate addr fcb) s = .next (s.rated rate) := by
  show execReqUd2 rate addr fcb s = _
  rw [execReqUd2, State.mbusRate_up (State.islandUp_of_takes htakes)]
  exact congrArg Host.Outcome.next (if_pos (by rw [h]; simp))

variable (haddr : addr ≠ 255)
include haddr

/-- What a request for this slave alone comes to. -/
theorem exec_reqUd2 : exec (.reqUd2 rate addr fcb) s = .next
    (if s.isl.fw.isNone then (s.rated rate).mbusAnswer addr.toNat (s.rspUd 0 romTelegram)
    else match s.isl.lastFcb with
      | none => (s.rated rate).sendNew addr.toNat s.telegramSet 0 fcb
      | some b =>
        if b = fcb then (s.rated rate).mbusAnswer addr.toNat (s.rspUd s.isl.accessNo (s.isl.telegrams.getD s.isl.telIndex []))
        else if s.isl.telIndex + 1 < s.isl.telegrams.length then (s.rated rate).sendNew addr.toNat s.isl.telegrams (s.isl.telIndex + 1) fcb
        else (s.rated rate).sendNew addr.toNat s.telegramSet 0 fcb) := by
  have hnot : ¬ (!(s.rated rate).mbusTakes addr.toNat || addr.toNat == 255) = true := by
    have hne : addr.toNat ≠ 255 := fun h => haddr (BitVec.eq_of_toNat_eq h)
    rw [State.rated_takes, htakes]
    simp [hne]
  show execReqUd2 rate addr fcb s = _
  rw [execReqUd2, State.mbusRate_up (State.islandUp_of_takes htakes)]
  rw [if_neg hnot, State.rated_rspUd, State.rated_telegramSet, State.rated_rspUd]
  rfl

end

/-! ### The slave's frames -/

section
variable {s : State} {rate : Fin 3} {addr : Byte} {cmd : Instr} {dst : Nat} {bs : List Byte} {l : List Fld}

/-- The rate alone has been kept. -/
theorem State.rated_writes (s : State) (rate : Fin 3) (l : List Fld) : Writes (R.MBUS_STAT_rate :: l) s (s.rated rate) :=
  (s.put_writes R.MBUS_STAT_rate rate.val).mono (by simp)

theorem answers_rated (h : exec cmd s = .next ((s.rated rate).mbusAnswer dst bs)) : ∃ t, Answers s rate cmd dst bs l t ∧ t.isl = s.isl :=
  ⟨_, answers_of_exec (u := s.rated rate) h State.rated_get (State.rated_other (by decide)) (s.rated_writes rate l)⟩

/-- The rate kept, and the island's state changed. -/
theorem answers_rated_with {i : IslSt} (h : exec cmd s = .next (State.mbusAnswer { s.rated rate with isl := i } dst bs)) :
    Answers s rate cmd dst bs l (State.mbusAnswer { s.rated rate with isl := i } dst bs) ∧
      (State.mbusAnswer { s.rated rate with isl := i } dst bs).isl = i :=
  answers_of_exec (u := { s.rated rate with isl := i }) h State.rated_get (State.rated_other (by decide))
    ⟨rfl, fun g hg => (s.rated_writes rate l).2 g hg⟩

end

/-- What is written does not depend on the island's state. -/
theorem Writes.withIsl {s u : State} {l : List Fld} (h : Writes l s u) (i : IslSt) : Writes l { s with isl := i } { u with isl := i } :=
  ⟨by rw [h.1]; rfl, h.2⟩

section
variable {s : State} {rate : Fin 3} {addr value ci : Byte} {fcb : Bool} (h : s.mbusTakes addr.toNat = true)
include h

theorem applicationReset_answers (l : List Fld) : ∃ t, Answers s rate (.applicationReset rate addr) addr.toNat ackByte l t ∧
    t.isl = { s.isl with telegrams := [], telIndex := 0, lastFcb := none } ∧ exec (.applicationReset rate addr) s = .next t :=
  have hans := answers_rated_with (l := l) (exec_applicationReset (rate := rate) h)
  ⟨_, hans.1, hans.2, exec_applicationReset h⟩

theorem sndNke_answers : ∃ t, Answers s rate (.sndNke rate addr) addr.toNat ackByte [R.MBUS_STAT_selected] t ∧
    t.isl = { s.isl with telegrams := [], telIndex := 0, lastFcb := none } ∧
    t.get R.MBUS_STAT_selected = if addr = 253 then 0 else s.get R.MBUS_STAT_selected := by
  have hexec := exec_sndNke (rate := rate) h
  by_cases haddr : addr = 253
  · rw [if_pos (by rw [haddr]; rfl)] at hexec
    have hans := answers_rated_with (l := [R.MBUS_STAT_selected]) (exec_applicationReset (rate := rate) h)
    refine ⟨_, hans.1.put (by simp) (by decide) (by decide) hexec, hans.2, ?_⟩
    rw [if_pos haddr]
    exact State.get_put_same ..
  · rw [if_neg (show ¬ addr.toNat = 253 from fun hn => haddr (BitVec.eq_of_toNat_eq hn))] at hexec
    have hans := answers_rated_with (l := [R.MBUS_STAT_selected]) hexec
    refine ⟨_, hans.1, hans.2, ?_⟩
    rw [if_neg haddr]
    exact ((State.mbusAnswer_effect _ _ _).2.2.2.2 _ (by decide)).trans (State.rated_other (by decide))

theorem setPrimaryAddress_answers (hfw : s.isl.fw ≠ none) (hle : value.toNat ≤ 250) :
    ∃ t, Answers s rate (.setPrimaryAddress rate addr value) addr.toNat ackByte [R.MBUS_CFG_primary] t ∧
      t.get R.MBUS_CFG_primary = value.toNat ∧ (value.toNat = s.get R.MBUS_CFG_primary → t.isl = s.isl) ∧
      (value.toNat ≠ s.get R.MBUS_CFG_primary → t.isl.records.length = s.isl.records.length + 1) := by
  have hexec := exec_setPrimaryAddress (rate := rate) h hfw hle
  obtain ⟨hans, hisl⟩ := answers_of_exec (l := [R.MBUS_CFG_primary]) (exec_reqUd1 (rate := rate) h) State.rated_get
    (State.rated_other (by decide)) (s.rated_writes rate _)
  have hprimary : ((s.rated rate).mbusAnswer addr.toNat ackByte).get R.MBUS_CFG_primary = s.get R.MBUS_CFG_primary :=
    ((State.mbusAnswer_effect _ _ _).2.2.2.2 _ (by decide)).trans (State.rated_other (by decide))
  obtain ⟨u, hu⟩ : ∃ u, u = (s.rated rate).mbusAnswer addr.toNat ackByte := ⟨_, rfl⟩
  rw [← hu] at hexec hans hisl hprimary
  by_cases hsame : value.toNat = s.get R.MBUS_CFG_primary
  · rw [State.setPrimary, if_pos (.inr (hsame.trans hprimary.symm))] at hexec
    exact ⟨u, ⟨hexec, hans.2⟩, hprimary.trans hsame.symm, fun _ => hisl, fun hne => absurd hsame hne⟩
  · rw [State.setPrimary, if_neg (by rw [hprimary]; omega)] at hexec
    obtain ⟨-, hr, hout, hcount, hwrites⟩ := hans
    have hval : (u.put R.MBUS_CFG_primary value.toNat).get R.MBUS_CFG_primary = value.toNat :=
      (State.get_put_same ..).trans (Nat.mod_eq_of_lt (by show value.toNat < 256; omega))
    have hputs := hwrites.trans ((u.put_writes R.MBUS_CFG_primary value.toNat).mono (by simp))
    refine ⟨_, ⟨hexec, (State.get_put_other _ _ _ _ (by decide)).trans hr, hout, (State.get_put_other _ _ _ _ (by decide)).trans hcount, ?_⟩,
      hval, fun he => absurd he hsame, fun _ => ?_⟩
    · exact hputs.withIsl _
    · rw [State.note, State.record, State.put, List.length_append, hisl]
      rfl

omit h in
theorem State.rspUd_withIsl {u : State} {i : IslSt} (hfw : i.fw = u.isl.fw) (access : Nat) (telegram : List Byte) :
    State.rspUd { u with isl := i } access telegram = u.rspUd access telegram := by
  simp only [State.rspUd, hfw]
  rfl

omit h in
/-- A new telegram is sent and kept as the last one. -/
theorem sendNew_answers {set : List (List Byte)} {ix : Nat}
    (hexec : exec (.reqUd2 rate addr fcb) s = .next ((s.rated rate).sendNew addr.toNat set ix fcb)) :
    let n := (s.isl.accessNo + 1) % 256
    ∃ t, Answers s rate (.reqUd2 rate addr fcb) addr.toNat (s.rspUd n (set.getD ix [])) [] t ∧
      t.isl = { s.isl with telegrams := set, telIndex := ix, lastFcb := some fcb, accessNo := n } := by
  have hrsp := (State.rspUd_withIsl (u := s.rated rate) (i := { (s.rated rate).isl with
    telegrams := set, telIndex := ix, lastFcb := some fcb, accessNo := (s.isl.accessNo + 1) % 256 }) rfl
    ((s.isl.accessNo + 1) % 256) (set.getD ix [])).trans (State.rated_rspUd ..)
  refine ⟨_, answers_rated_with (hexec.trans (congrArg Host.Outcome.next ?_))⟩
  exact congrArg (State.mbusAnswer _ addr.toNat) hrsp

theorem reqUd2_answers (haddr : addr ≠ 255) :
    (s.isl.fw = none → ∃ t, Answers s rate (.reqUd2 rate addr fcb) addr.toNat (s.rspUd 0 romTelegram) [] t ∧ t.isl = s.isl) ∧
    (s.isl.fw ≠ none → s.isl.lastFcb = some fcb → ∃ t, Answers s rate (.reqUd2 rate addr fcb) addr.toNat
      (s.rspUd s.isl.accessNo (s.isl.telegrams.getD s.isl.telIndex [])) [] t ∧ t.isl = s.isl) ∧
    (s.isl.fw ≠ none → s.isl.lastFcb ≠ some fcb →
      let on := s.isl.lastFcb ≠ none ∧ s.isl.telIndex + 1 < s.isl.telegrams.length
      let set := if on then s.isl.telegrams else s.telegramSet
      let ix := if on then s.isl.telIndex + 1 else 0
      let n := (s.isl.accessNo + 1) % 256
      ∃ t, Answers s rate (.reqUd2 rate addr fcb) addr.toNat (s.rspUd n (set.getD ix [])) [] t ∧
        t.isl = { s.isl with telegrams := set, telIndex := ix, lastFcb := some fcb, accessNo := n }) := by
  have hexec := exec_reqUd2 (rate := rate) (fcb := fcb) h haddr
  refine ⟨fun hfw => ?_, fun hfw hlast => ?_, fun hfw hlast => ?_⟩
  · rw [hfw] at hexec
    exact answers_rated hexec
  · rw [if_neg (by simpa using hfw), hlast] at hexec
    exact answers_rated (hexec.trans (congrArg _ (if_pos rfl)))
  · rw [if_neg (by simpa using hfw)] at hexec
    dsimp only
    split_ifs with hon
    · obtain ⟨b, hb⟩ := Option.ne_none_iff_exists'.1 hon.1
      rw [hb] at hexec hlast
      exact sendNew_answers (hexec.trans (congrArg _ ((if_neg fun e => hlast (congrArg some e)).trans (if_pos hon.2))))
    · refine sendNew_answers (hexec.trans (congrArg _ ?_))
      cases hcase : s.isl.lastFcb with
      | none => rfl
      | some b =>
        rw [hcase] at hlast hon
        exact (if_neg fun e => hlast (congrArg some e)).trans (if_neg fun hlt => hon ⟨by simp, hlt⟩)

end

/-! ### The frames in every state -/

section
variable {s : State} {rate : Fin 3} {addr value ci : Byte} {fcb : Bool} {sec : Vector Byte 8}

theorem mbusFrameDiscard_counts (hup : s.islandUp = true) :
    Sets .mbusFrameDiscard R.MBUS_CNT_discarded (satAdd 16 (s.get R.MBUS_CNT_discarded) 1) s :=
  ⟨_, congrArg Host.Outcome.next (if_pos hup), s.count_writes _ _, State.get_count_same ..⟩

theorem mbus_others_silent (hup : s.islandUp = true) (h : s.mbusTakes addr.toNat = false) :
    Sets (.sndNke rate addr) R.MBUS_STAT_rate rate.val s ∧ Sets (.reqUd1 rate addr) R.MBUS_STAT_rate rate.val s ∧
      Sets (.reqUd2 rate addr fcb) R.MBUS_STAT_rate rate.val s ∧ Sets (.applicationReset rate addr) R.MBUS_STAT_rate rate.val s ∧
      Sets (.setPrimaryAddress rate addr value) R.MBUS_STAT_rate rate.val s ∧ Sets (.setBaudRate rate addr ci) R.MBUS_STAT_rate rate.val s := by
  obtain ⟨h1, h2, h3, h4, h5, h6⟩ := exec_mbus_not (rate := rate) hup h value ci fcb
  exact ⟨State.rated_sets h1, State.rated_sets h2, State.rated_sets h3, State.rated_sets h4, State.rated_sets h5, State.rated_sets h6⟩

theorem selection_answers (hup : s.islandUp = true) (h : s.secondaryMatches sec.toList = true) :
    ∃ t, Answers s rate (.selection rate sec) 253 ackByte [R.MBUS_STAT_selected] t ∧ t.isl = s.isl ∧ t.get R.MBUS_STAT_selected = 1 := by
  obtain ⟨hans, hisl⟩ := answers_of_exec (rate := rate) (l := [R.MBUS_STAT_selected]) (exec_selection_matched (rate := rate) hup h)
    ((State.get_put_other _ _ _ _ (by decide)).trans State.rated_get)
    ((State.get_put_other _ _ _ _ (by decide)).trans (State.rated_other (by decide)))
    ((s.rated_writes rate _).trans ((State.put_writes _ _ _).mono (by simp)))
  have hselected : ((s.rated rate).put R.MBUS_STAT_selected 1).get R.MBUS_STAT_selected = 1 := State.get_put_same ..
  exact ⟨_, hans, hisl, ((State.mbusAnswer_effect _ _ _).2.2.2.2 _ (by decide)).trans hselected⟩

theorem selection_deselects (hup : s.islandUp = true) (h : s.secondaryMatches sec.toList = false) :
    ∃ t, exec (.selection rate sec) s = .next t ∧ t.get R.MBUS_STAT_selected = 0 ∧ t.get R.MBUS_STAT_rate = rate.val ∧
      Writes [R.MBUS_STAT_rate, R.MBUS_STAT_selected] s t :=
  ⟨_, exec_selection_other hup h, State.get_put_same .., (State.get_put_other _ _ _ _ (by decide)).trans State.rated_get,
    (s.rated_writes rate _).trans ((State.put_writes _ _ _).mono (by simp))⟩

end

end Sys2Proof.Machine
end

section
/-!
PROOFS. The host mailbox (R531–R540): whose command is served, how one ends, and the commands that read, write and secure.
-/

namespace Sys2Proof.Machine

/-! ### The end of a command (R532, R535, R547) -/

theorem State.raiseIsl_signals (s : State) (b : Nat) {l : List Fld} (h : R.ISL_EVT ∈ l) : Signals l s (s.raiseIsl b) :=
  ⟨s.raise_only _ _ _ b, s.raise_fields _ _ _ b l h⟩

theorem State.raiseIsl_bitSet (s : State) (b : Nat) (hb : b < R.ISL_EVT.w) : BitSet (s.raiseIsl b) R.ISL_EVT b := by
  rw [BitSet, State.raiseIsl, State.raise_bit _ _ _ _ _ _ (by decide) hb, BEq.rfl, Bool.or_true]

/-- The registers of a response, with what they hold. -/
def responsePuts (k : Fin 2) (bs : List Byte) (status : Nat) : List (Fld × Nat) :=
  (List.range 64).map (fun w => (R.ISL_CH_RSP k.val w, leAt bs (4 * w) 4)) ++ [(R.ISL_CH_STAT_status k.val, status)]

def responseFields (k : Fin 2) : List Fld := (List.range 64).map (R.ISL_CH_RSP k.val) ++ [R.ISL_CH_STAT_status k.val]

theorem responsePuts_fields (k : Fin 2) (bs : List Byte) (status : Nat) : (responsePuts k bs status).map Prod.fst = responseFields k := by
  simp [responsePuts, responseFields]

theorem responseFields_nodup (k : Fin 2) : ((responseFields k).map Fld.key).Nodup := by
  revert k
  decide

/-- The fields that a completion sets. -/
def doneFields (k : Fin 2) : List Fld :=
  [R.ISL_CH_STAT_busy k.val, R.ISL_CH_STAT_done k.val, R.ISL_CH_STAT_status k.val, R.ISL_EVT] ++ (List.range 64).map (R.ISL_CH_RSP k.val)

theorem responseFields_done (k : Fin 2) : ∀ f ∈ responseFields k, f ∈ doneFields k := by
  intro f hf
  rcases List.mem_append.1 hf with h | h
  · exact List.mem_append_right _ h
  · exact List.mem_append_left _ (List.mem_cons_of_mem _ (List.mem_cons_of_mem _ (List.mem_cons.2 (.inl (List.mem_singleton.1 h)))))

theorem responseFields_apart (k : Fin 2) : ∀ g ∈ [R.ISL_CH_STAT_busy k.val, R.ISL_CH_STAT_done k.val, R.ISL_EVT], ∀ f ∈ responseFields k,
    f.key ≠ g.key := by
  revert k
  decide

section
variable (s : State) (k : Fin 2) (status : Nat) (data : List Byte)

/-- The bytes of the response of R532. -/
def State.responseBytes : List Byte :=
  (s.mboxReq k).take 2 ++ toLE 2 data.length ++ ((s.mboxReq k).drop 4).take 4 ++ toLE 1 status ++ List.replicate 7 0 ++ data

theorem State.mboxRespond_eq : s.mboxRespond k status data = s.puts (responsePuts k (s.responseBytes k status data) status) := by
  rw [responsePuts, State.puts_append, State.puts, State.puts, List.foldl_map]
  rfl

theorem State.mboxRespond_writes : Writes (responseFields k) s (s.mboxRespond k status data) := by
  rw [State.mboxRespond_eq, ← responsePuts_fields k (s.responseBytes k status data) status]
  exact s.puts_writes _

theorem State.mboxRespond_status : (s.mboxRespond k status data).get (R.ISL_CH_STAT_status k.val) = status % 256 := by
  rw [State.mboxRespond_eq]
  exact s.get_puts_mem _ (responsePuts_fields k _ status) (responseFields_nodup k)
    (p := (R.ISL_CH_STAT_status k.val, status)) (List.mem_append_right _ (List.mem_singleton_self _))

theorem State.mboxRespond_word {w : Nat} (hw : w < 64) :
    (s.mboxRespond k status data).get (R.ISL_CH_RSP k.val w) = leAt (s.responseBytes k status data) (4 * w) 4 := by
  rw [State.mboxRespond_eq]
  have hmem : (R.ISL_CH_RSP k.val w, leAt (s.responseBytes k status data) (4 * w) 4) ∈
      responsePuts k (s.responseBytes k status data) status :=
    List.mem_append_left _ (List.mem_map.2 ⟨w, List.mem_range.2 hw, rfl⟩)
  rw [s.get_puts_mem _ (responsePuts_fields k _ status) (responseFields_nodup k) hmem]
  exact Nat.mod_eq_of_lt (leAt_lt _ _ 4)

end

/-- A completion shows. -/
theorem State.mboxDone_effect (s : State) (k : Fin 2) :
    let t := s.mboxDone k
    t.get (R.ISL_CH_STAT_busy k.val) = 0 ∧ t.get (R.ISL_CH_STAT_done k.val) = 1 ∧ BitSet t R.ISL_EVT k.val ∧
      Signals [R.ISL_CH_STAT_busy k.val, R.ISL_CH_STAT_done k.val, R.ISL_EVT] s t ∧
      (∀ f ∈ responseFields k, t.get f = s.get f) := by
  have hkeys : (R.ISL_CH_STAT_busy k.val).key ≠ (R.ISL_CH_STAT_done k.val).key ∧ (R.ISL_CH_STAT_busy k.val).key ≠ R.ISL_EVT.key ∧
      (R.ISL_CH_STAT_done k.val).key ≠ R.ISL_EVT.key ∧ k.val < R.ISL_EVT.w := by
    revert k
    decide
  have hpmu : ∀ f ∈ R.ISL_CH_STAT_busy k.val :: R.ISL_CH_STAT_done k.val :: responseFields k, ¬ inPmu f := by
    revert k
    decide
  obtain ⟨hbd, hbe, hde, hk⟩ := hkeys
  obtain ⟨u, hu⟩ : ∃ u, u = (s.put (R.ISL_CH_STAT_busy k.val) 0).put (R.ISL_CH_STAT_done k.val) 1 := ⟨_, rfl⟩
  have hbusy : u.get (R.ISL_CH_STAT_busy k.val) = 0 := by
    rw [hu, State.get_put_other _ _ _ _ hbd]
    exact State.get_put_same ..
  have hdone : u.get (R.ISL_CH_STAT_done k.val) = 1 := by
    rw [hu]
    exact State.get_put_same ..
  have hwrites : Writes [R.ISL_CH_STAT_busy k.val, R.ISL_CH_STAT_done k.val] s u := by
    rw [hu]
    exact ((s.put_writes _ _).mono (by simp)).trans ((State.put_writes _ _ _).mono (by simp))
  have hraise := u.raiseIsl_signals k.val (List.mem_singleton_self R.ISL_EVT)
  have ht : s.mboxDone k = u.raiseIsl k.val := by rw [hu]; rfl
  have hkept {f : Fld} (hf : f ∈ R.ISL_CH_STAT_busy k.val :: R.ISL_CH_STAT_done k.val :: responseFields k) (hne : f.key ≠ R.ISL_EVT.key) :
      (u.raiseIsl k.val).get f = u.get f := hraise.2 f (hpmu f hf) (by simpa using hne)
  intro t
  rw [show t = u.raiseIsl k.val from ht]
  refine ⟨(hkept (by simp) hbe).trans hbusy, (hkept (by simp) hde).trans hdone, u.raiseIsl_bitSet k.val hk,
    (hwrites.signals.mono (by simp)).trans (hraise.mono (by simp)), fun f hf => ?_⟩
  have hapart (g) (hg) := responseFields_apart k g hg f hf
  exact (hkept (by simp [hf]) (hapart _ (by simp))).trans
    (hwrites.2 f (by simpa using ⟨hapart _ (by simp), hapart _ (by simp)⟩))

theorem Signals.withIsl {s u : State} {l : List Fld} (h : Signals l s u) (i : IslSt) : Signals l { s with isl := i } { u with isl := i } :=
  ⟨by rw [h.1]; rfl, h.2⟩

/-- A command ends: what every end of a command shows. -/
theorem State.mboxEnd_effect (s : State) (k : Fin 2) (status : Nat) (data : List Byte) :
    let t := s.mboxEnd k status data
    t.get (R.ISL_CH_STAT_status k.val) = status % 256 ∧
      (∀ w, w < 64 → t.get (R.ISL_CH_RSP k.val w) = leAt (s.responseBytes k status data) (4 * w) 4) ∧
      (s.isl.linkUp = true → t.get (R.ISL_CH_STAT_busy k.val) = 0 ∧ t.get (R.ISL_CH_STAT_done k.val) = 1 ∧ BitSet t R.ISL_EVT k.val ∧
        t.isl = { s.isl with mboxOrder := s.isl.mboxOrder.filter (fun c => c != k.val) }) ∧
      (s.isl.linkUp = false → t.isl = { s.isl with mboxOrder := s.isl.mboxOrder.filter (fun c => c != k.val), kept := s.isl.kept ++ [k.val] }) ∧
      Signals (doneFields k) { s with isl := t.isl } t := by
  obtain ⟨u, hu⟩ : ∃ u, u = ({ s with isl := { s.isl with mboxOrder := s.isl.mboxOrder.filter (fun c => c != k.val) } } : State) := ⟨_, rfl⟩
  have hisl : u.isl = { s.isl with mboxOrder := s.isl.mboxOrder.filter (fun c => c != k.val) } := by rw [hu]
  have hbytes : u.responseBytes k status data = s.responseBytes k status data := by rw [hu]; rfl
  have hwrites := u.mboxRespond_writes k status data
  have hstatus := u.mboxRespond_status k status data
  have hwords := fun w hw => u.mboxRespond_word k status data (w := w) hw
  rw [hbytes] at hwords
  obtain ⟨v, hv⟩ : ∃ v, v = u.mboxRespond k status data := ⟨_, rfl⟩
  rw [← hv] at hwrites hstatus hwords
  have hvisl : v.isl = u.isl := by rw [hwrites.1]
  have hend : s.mboxEnd k status data = if v.isl.linkUp then v.mboxDone k else { v with isl := { v.isl with kept := v.isl.kept ++ [k.val] } } := by
    rw [hv, hu]
    rfl
  have hsignals : Signals (doneFields k) u v := (hwrites.mono (responseFields_done k)).signals
  have hresponse (w : Nat) (hw : w < 64) : R.ISL_CH_RSP k.val w ∈ responseFields k :=
    List.mem_append_left _ (List.mem_map.2 ⟨w, List.mem_range.2 hw, rfl⟩)
  have hlink : v.isl.linkUp = s.isl.linkUp := by rw [hvisl, hisl]
  intro t
  rw [show t = _ from hend, hlink]
  cases hup : s.isl.linkUp with
  | true =>
    obtain ⟨hbusy, hdone, hbit, hsig, hkept⟩ := v.mboxDone_effect k
    have htisl : (v.mboxDone k).isl = u.isl := by rw [hsig.1.isl, hvisl]
    refine ⟨(hkept _ (by simp [responseFields])).trans hstatus, fun w hw => (hkept _ (hresponse w hw)).trans (hwords w hw),
      fun _ => ⟨hbusy, hdone, hbit, htisl.trans hisl⟩, fun h => absurd h (by decide), ?_⟩
    have hall := hsignals.trans (hsig.mono (by simp [doneFields]))
    rw [hu] at hall
    show Signals _ { s with isl := (v.mboxDone k).isl } (v.mboxDone k)
    rw [htisl, hisl]
    exact hall
  | false =>
    refine ⟨hstatus, hwords, fun h => absurd h (by decide), fun _ => ?_, ?_⟩
    · show ({ v.isl with kept := v.isl.kept ++ [k.val] } : IslSt) = _
      rw [hvisl, hisl]
    · have hall := hsignals.withIsl { v.isl with kept := v.isl.kept ++ [k.val] }
      rw [hu] at hall
      exact hall

end Sys2Proof.Machine
end

section
/-!
PROOFS. The mailbox commands (R527, R531–R540): what is served, and what each command answers.
-/

namespace Sys2Proof.Machine

/-! ### What is served (R527, R531, R533) -/

/-- Channel `k` is next, and the flash is idle. -/
def State.MboxTurn (s : State) (k : Fin 2) : Prop := s.islandUp = true ∧ s.mboxNext = some k.val ∧ s.fls.active = none

/-- A command ends with a status, data and a state. -/
def Ends (k : Fin 2) (s : State) (cmd : Instr) (status : Nat) (data : List Byte) (u : State) : Prop :=
  exec cmd s = .next (u.mboxEnd k status data)

section
variable {s : State} {k : Fin 2} {code : Nat} {lenOk : Nat → Bool} {body : List Byte → State → Nat × List Byte × State}

theorem State.mboxServe_other (h : s.islandUp = false ∨ s.mboxNext ≠ some k.val ∨ s.mboxCmd k ≠ code) : s.mboxServe k code lenOk body = s :=
  if_pos (by rcases h with h | h | h <;> simp [h])

theorem State.mboxServe_turn (hturn : s.MboxTurn k) (hcmd : s.mboxCmd k = code) : s.mboxServe k code lenOk body =
    if s.isl.fw.isNone && !romServes code then s.mboxEnd k 2 []
    else if !lenOk (s.mboxLen k) then s.mboxEnd k 3 []
    else (body (s.mboxArgs k) s).2.2.mboxEnd k (body (s.mboxArgs k) s).1 (body (s.mboxArgs k) s).2.1 := by
  obtain ⟨hup, hnext, -⟩ := hturn
  exact if_neg (by simp [hup, hnext, hcmd])

theorem State.mboxServe_badCmd (hturn : s.MboxTurn k) (hcmd : s.mboxCmd k = code) (hfw : s.isl.fw = none) (hrom : romServes code = false) :
    s.mboxServe k code lenOk body = s.mboxEnd k 2 [] :=
  (State.mboxServe_turn hturn hcmd).trans (if_pos (by simp [hfw, hrom]))

theorem State.mboxServe_body (hturn : s.MboxTurn k) (hcmd : s.mboxCmd k = code) (hserves : s.isl.fw ≠ none ∨ romServes code = true)
    (hlen : lenOk (s.mboxLen k) = true) {status : Nat} {data : List Byte} {u : State} (hbody : body (s.mboxArgs k) s = (status, data, u)) :
    s.mboxServe k code lenOk body = u.mboxEnd k status data := by
  have hgo : ¬ (s.isl.fw.isNone && !romServes code) = true := by rcases hserves with h | h <;> simp [h]
  rw [State.mboxServe_turn hturn hcmd, if_neg hgo, if_neg (by simp [hlen]), hbody]

theorem State.mboxServe_badLen (hturn : s.MboxTurn k) (hcmd : s.mboxCmd k = code) (hserves : s.isl.fw ≠ none ∨ romServes code = true)
    (hlen : lenOk (s.mboxLen k) = false) : s.mboxServe k code lenOk body = s.mboxEnd k 3 [] := by
  have hgo : ¬ (s.isl.fw.isNone && !romServes code) = true := by rcases hserves with h | h <;> simp [h]
  rw [State.mboxServe_turn hturn hcmd, if_neg hgo, if_pos (by simp [hlen])]

/-- What every served command answers before its own result. -/
def RefusesFirst (k : Fin 2) (s : State) (cmd : Instr) (code : Nat) (lenOk : Nat → Bool) : Prop :=
  (s.islandUp = false ∨ s.mboxNext ≠ some k.val ∨ s.mboxCmd k ≠ code → exec cmd s = .next s) ∧
    (s.islandUp = true ∧ s.mboxNext = some k.val ∧ s.fls.active = none → (code = 0x10 → s.fls.suspended = []) → s.mboxCmd k = code →
      (s.isl.fw = none → romServes code = false → Ends k s cmd 2 [] s) ∧
      (s.isl.fw ≠ none ∨ romServes code = true → lenOk (s.mboxLen k) = false → Ends k s cmd 3 [] s))

theorem refusesFirst_of_serve {cmd : Instr} (hexec : exec cmd s = .next (s.mboxServe k code lenOk body)) : RefusesFirst k s cmd code lenOk :=
  ⟨fun h => hexec.trans (congrArg _ (State.mboxServe_other h)), fun hturn _ hcmd =>
    ⟨fun hfw hrom => hexec.trans (congrArg _ (State.mboxServe_badCmd hturn hcmd hfw hrom)),
      fun hserves hlen => hexec.trans (congrArg _ (State.mboxServe_badLen hturn hcmd hserves hlen))⟩⟩

theorem fwWrite_busy (h : s.fls.active ≠ none ∨ s.fls.suspended ≠ []) : exec (.fwWrite k) s = .next s :=
  congrArg Host.Outcome.next (if_pos (by rcases h with h | h <;> simp [h, Option.isSome_iff_ne_none.2]))

/-- What FW_WRITE does once it is served, with the flash idle. -/
theorem exec_fwWrite (hactive : s.fls.active = none) (hsuspended : s.fls.suspended = []) : ∃ body, exec (.fwWrite k) s = .next
    (s.mboxServe k 0x10 (fun n => decide (9 ≤ n ∧ n ≤ 240)) body) :=
  ⟨_, congrArg Host.Outcome.next (if_neg (by simp [hactive, hsuspended]))⟩

theorem fwWrite_refusesFirst : RefusesFirst k s (.fwWrite k) 0x10 (fun n => decide (9 ≤ n ∧ n ≤ 240)) := by
  by_cases hbusy : s.fls.active ≠ none ∨ s.fls.suspended ≠ []
  · refine ⟨fun _ => fwWrite_busy hbusy, fun ⟨_, _, hactive⟩ hsuspended _ => ?_⟩
    rcases hbusy with h | h
    · exact absurd hactive h
    · exact absurd (hsuspended rfl) h
  · obtain ⟨hactive, hsuspended⟩ : s.fls.active = none ∧ s.fls.suspended = [] := by simpa using hbusy
    obtain ⟨body, hexec⟩ := exec_fwWrite (k := k) hactive hsuspended
    exact refusesFirst_of_serve hexec

theorem mboxUnknownCommand_ends (hturn : s.MboxTurn k)
    (h : knownCommand (s.mboxCmd k) = false ∨ (s.isl.fw = none ∧ romServes (s.mboxCmd k) = false)) :
    Ends k s (.mboxUnknownCommand k) 2 [] s := by
  obtain ⟨hup, hnext, -⟩ := hturn
  refine congrArg Host.Outcome.next (if_neg ?_)
  rcases h with h | ⟨hfw, hrom⟩
  · simp [hup, hnext, h]
  · simp [hup, hnext, hfw, hrom]

end

/-! ### Information and registers (R530, R537) -/

section
variable {s : State} {k : Fin 2} {n : Nat}

/-- The command of `code` with `n` bytes of arguments is served, with firmware running. -/
def State.Served (s : State) (k : Fin 2) (code n : Nat) : Prop :=
  s.MboxTurn k ∧ s.mboxCmd k = code ∧ s.mboxLen k = n ∧ s.isl.fw ≠ none

/-- A served command of a good length ends as its body says. -/
theorem State.Served.ends {code : Nat} (h : s.Served k code n) {cmd : Instr} {lenOk : Nat → Bool}
    {body : List Byte → State → Nat × List Byte × State} (hexec : exec cmd s = .next (s.mboxServe k code lenOk body)) (hlen : lenOk n = true)
    {status : Nat} {data : List Byte} {u : State} (hbody : body (s.mboxArgs k) s = (status, data, u)) : Ends k s cmd status data u := by
  obtain ⟨hturn, hcmd, hn, hfw⟩ := h
  exact hexec.trans (congrArg _ (State.mboxServe_body hturn hcmd (.inl hfw) (by rw [hn, hlen]) hbody))

theorem getInfo_ends (hturn : s.MboxTurn k) (hcmd : s.mboxCmd k = 0x01) (hlen : s.mboxLen k = 0) : Ends k s (.getInfo k) 0 s.islInfo s :=
  congrArg Host.Outcome.next (State.mboxServe_body hturn hcmd (.inr rfl) (by rw [hlen]; rfl) rfl)

theorem regRead_ends (h : s.Served k 0x02 8) :
    (islOffset (leAt (s.mboxArgs k) 0 4) (leAt (s.mboxArgs k) 4 4) = none → Ends k s (.regRead k) 4 [] s) ∧
    (∀ o, islOffset (leAt (s.mboxArgs k) 0 4) (leAt (s.mboxArgs k) 4 4) = some o →
      Ends k s (.regRead k) 0 (toLE 4 (s.islRead o).1) (s.islRead o).2) := by
  refine ⟨fun ho => h.ends rfl rfl ?_, fun o ho => h.ends rfl rfl ?_⟩
  · dsimp only
    rw [ho]
  · dsimp only
    rw [ho]

theorem regWrite_ends (h : s.Served k 0x03 12) :
    (islOffset (leAt (s.mboxArgs k) 0 4) (leAt (s.mboxArgs k) 4 4) = none → Ends k s (.regWrite k) 4 [] s) ∧
    (∀ o, islOffset (leAt (s.mboxArgs k) 0 4) (leAt (s.mboxArgs k) 4 4) = some o →
      Ends k s (.regWrite k) 0 [] (s.islWrite o (leAt (s.mboxArgs k) 8 4))) := by
  refine ⟨fun ho => h.ends rfl rfl ?_, fun o ho => h.ends rfl rfl ?_⟩
  · rw [ho]
  · rw [ho]

end

/-! ### Areas checked, and the restart (R529, R534, R547) -/

section
variable {s : State} {k : Fin 2}

theorem State.flashSeen_withIsl (i : IslSt) : State.flashSeen { s with isl := i } = { s.flashSeen with isl := i } := by
  unfold State.flashSeen
  dsimp only
  split_ifs <;> rfl

/-- FW_COMMIT (R534). -/
theorem fwCommit_ends (hturn : s.MboxTurn k) (hcmd : s.mboxCmd k = 0x11) (hlen : s.mboxLen k = 8) :
    let a := s.mboxArgs k
    let target := leAt a 0 1
    let area := s.targetArea target
    (2 < target ∨ leAt a 1 3 ≠ 0 → Ends k s (.fwCommit k) 4 [] s) ∧
    (target ≤ 2 → leAt a 1 3 = 0 → (fwArea area).2 < leAt a 4 4 → ∃ u, Ends k s (.fwCommit k) 4 [] u ∧ u = { s with isl := u.isl }) ∧
    (target ≤ 2 → leAt a 1 3 = 0 → leAt a 4 4 ≤ (fwArea area).2 →
      (∀ e, s.fwCheck target (s.flashTake (256 * (fwArea area).1) (leAt a 4 4)) = .error e → ∃ u, Ends k s (.fwCommit k) 7 (toLE 1 e.code) u ∧
        u.isl.areaOk = s.isl.areaOk &&& ~~~(BitVec.twoPow 4 area) ∧ u = { s.flashSeen with isl := u.isl }) ∧
      (∀ id, s.fwCheck target (s.flashTake (256 * (fwArea area).1) (leAt a 4 4)) = .ok id → ∃ u, Ends k s (.fwCommit k) 0 [] u ∧
        u.isl.areaOk = s.isl.areaOk ||| BitVec.twoPow 4 area ∧ u = { s.flashSeen with isl := u.isl })) := by
  have hends {status : Nat} {data : List Byte} {u : State} (hbody : _ = (status, data, u)) : Ends k s (.fwCommit k) status data u :=
    congrArg Host.Outcome.next (State.mboxServe_body hturn hcmd (.inr rfl) (by rw [hlen]; rfl) hbody)
  refine ⟨fun hbad => hends (if_pos hbad), fun htarget hzero hlong => ⟨_, hends ((if_neg (by omega)).trans (if_pos hlong)), rfl⟩,
    fun htarget hzero hfits => ⟨fun e he => ?_, fun id hid => ?_⟩⟩
  · refine ⟨_, hends ((if_neg (by omega)).trans ((if_neg (by omega)).trans (by rw [he]))), ?_, ?_⟩
    · rfl
    · rw [State.flashSeen_withIsl]
  · refine ⟨_, hends ((if_neg (by omega)).trans ((if_neg (by omega)).trans (by rw [hid]))), ?_, ?_⟩
    · rfl
    · rw [State.flashSeen_withIsl]

/-- FW_ACTIVATE (R529, R547). -/
theorem fwActivate_restarts (hturn : s.MboxTurn k) (hcmd : s.mboxCmd k = 0x12) (hlen : s.mboxLen k = 0) :
    ∃ u v : State, exec (.fwActivate k) s = .next u.linkLost ∧ v = (s.commitPending false).mboxEnd k 0 [] ∧ u = { v with isl := u.isl } ∧
      u.isl.booted = false ∧ u.isl.fw = none ∧ u.isl.mboxOrder = [] := by
  have hserve := State.mboxServe_body (lenOk := fun n => n == 0) (body := fun _ t => (0, [], t.commitPending false)) hturn hcmd (.inr rfl)
    (by rw [hlen]; rfl) rfl
  obtain ⟨hup, hnext, -⟩ := hturn
  have hserved : (s.islandUp && s.mboxNext == some k.val && s.mboxCmd k == 0x12 && s.mboxLen k == 0) = true := by simp [hup, hnext, hcmd, hlen]
  refine ⟨_, _, congrArg Host.Outcome.next ((if_pos hserved).trans (congrArg State.islandRestart hserve)), rfl, rfl, rfl, rfl, rfl⟩

end

/-! ### Seals, revocation and provisioning (R536, R538, R540) -/

section
variable {s : State} {k : Fin 2}

/-- A value above a slot's seal becomes its seal. -/
theorem IslSt.seal_cons {i : IslSt} {slot : Fin 4} {v : Nat} (h : i.seal slot < v) :
    IslSt.seal { i with seals := i.seals.set slot (v :: i.seals[slot]) } slot = v := by
  have hlt : i.seals[slot].foldl max 0 < v := h
  show ((i.seals.set slot (v :: i.seals[slot]))[slot]).foldl max 0 = v
  rw [Fin.getElem_fin, Vector.getElem_set_self, List.foldl_cons, Nat.max_comm, List.foldl_assoc, Nat.max_eq_left hlt.le]

/-- SEAL_ADVANCE (R540). -/
theorem sealAdvance_ends (h : s.Served k 0x20 201) :
    let a := s.mboxArgs k
    let slot := leAt a 0 1
    let value := leAt a 4 4
    let seals := s.isl.seals[slot4 slot]
    let good := slot ≤ 3 ∧ leAt a 1 3 = 0 ∧ s.isl.seal (slot4 slot) < value
    (¬ good → Ends k s (.sealAdvance k) 4 [] s) ∧ (good → s.isl.signRev.getLsbD slot = true → Ends k s (.sealAdvance k) 5 [] s) ∧
    (good → s.isl.signRev.getLsbD slot = false → 64 ≤ seals.length → Ends k s (.sealAdvance k) 8 [] s) ∧
    (good → s.isl.signRev.getLsbD slot = false → seals.length < 64 →
      let check := s.signedBy 0x20 (a.take 8) ((a.drop 8).take 97) (a.drop 105) (fun n => n == slot)
      (∀ e, check = some e → Ends k s (.sealAdvance k) 7 (toLE 1 e) s) ∧
      (check = none → ∃ u, Ends k s (.sealAdvance k) 0 [] u ∧ u.isl.seal (slot4 slot) = value ∧
        u = { s with isl := { s.isl with seals := u.isl.seals } })) := by
  have hends {status : Nat} {data : List Byte} {u : State} (hbody : _ = (status, data, u)) : Ends k s (.sealAdvance k) status data u :=
    h.ends rfl rfl hbody
  refine ⟨fun hbad => hends (if_pos ?_), fun ⟨hslot, hzero, hseal⟩ hrev => hends ((if_neg ?_).trans (if_pos hrev)),
    fun ⟨hslot, hzero, hseal⟩ hrev hfull => hends ((if_neg ?_).trans ((if_neg (by rw [hrev]; decide)).trans (if_pos hfull))),
    fun ⟨hslot, hzero, hseal⟩ hrev hroom => ⟨fun e he => ?_, fun hok => ⟨_, hends ((if_neg ?_).trans ((if_neg (by rw [hrev]; decide)).trans
      ((if_neg (by omega)).trans (by rw [hok])))), IslSt.seal_cons hseal, rfl⟩⟩⟩
  · omega
  · omega
  · omega
  · exact hends ((if_neg (by omega)).trans ((if_neg (by rw [hrev]; decide)).trans ((if_neg (by omega)).trans (by rw [he]))))
  · omega

/-- REVOKE (R536, R538). -/
theorem revoke_ends (h : s.Served k 0x21 197) :
    let a := s.mboxArgs k
    let kind := leAt a 0 1
    let slot := leAt a 1 1
    let good := kind ≤ 1 ∧ leAt a 2 2 = 0 ∧ slot < (if kind = 0 then 8 else 4)
    let check := s.signedBy 0x21 (a.take 4) ((a.drop 4).take 97) (a.drop 101) (fun n => kind == 0 || n != slot)
    (¬ good → Ends k s (.revoke k) 4 [] s) ∧ (∀ e, good → check = some e → Ends k s (.revoke k) 7 (toLE 1 e) s) ∧
    (good → check = none → ∃ u, Ends k s (.revoke k) 0 [] u ∧
      (kind = 0 → u = { s with isl := { s.isl with keyRev := s.isl.keyRev ||| BitVec.twoPow 8 slot } }) ∧
      (kind = 1 → u = { s with isl := { s.isl with signRev := s.isl.signRev ||| BitVec.twoPow 4 slot } })) := by
  have hends {status : Nat} {data : List Byte} {u : State} (hbody : _ = (status, data, u)) : Ends k s (.revoke k) status data u :=
    h.ends rfl rfl hbody
  refine ⟨fun hbad => hends (if_pos ?_), fun e ⟨hkind, hzero, hslot⟩ he => hends ((if_neg ?_).trans (by rw [he])),
    fun ⟨hkind, hzero, hslot⟩ hok => ⟨_, hends ((if_neg ?_).trans (by rw [hok])), fun h0 => ?_, fun h1 => ?_⟩⟩
  · omega
  · omega
  · omega
  · rw [if_pos h0]
  · rw [if_neg (by omega)]

/-- The arguments are as long as the request says. -/
theorem State.mboxArgs_length {n : Nat} (hlen : s.mboxLen k = n) (hn : n ≤ 248) : (s.mboxArgs k).length = n := by
  have hreq : (s.mboxReq k).length = 256 := by
    rw [State.mboxReq, List.length_flatMap, List.map_congr_left (g := fun _ => 4) fun w _ => toLE_length ..]
    rfl
  rw [State.mboxArgs, hlen, List.length_take, List.length_drop, hreq]
  omega

/-- PROVISION (R536). -/
theorem provision_ends {n : Nat} (hn : n = 36 ∨ n = 52) (h : s.Served k 0x22 n) :
    let a := s.mboxArgs k
    let kind := leAt a 0 1
    let slot := leAt a 1 1
    let good := kind ≤ 1 ∧ leAt a 2 2 = 0 ∧ slot < (if kind = 0 then 8 else 4)
    let may := s.isBench = true ∧ s.fls.protLevel = 0 ∧ (if kind = 0 then s.isl.keyProv.getLsbD slot else s.isl.signProv.getLsbD slot) = false
    (¬ good → Ends k s (.provision k) 4 [] s) ∧
    (good → n ≠ (if kind = 0 then 36 else 52) → Ends k s (.provision k) 3 [] s) ∧
    (good → n = (if kind = 0 then 36 else 52) → ¬ may → Ends k s (.provision k) 5 [] s) ∧
    (good → n = (if kind = 0 then 36 else 52) → may → ∃ u, Ends k s (.provision k) 0 [] u ∧ u = { s with isl := u.isl } ∧
      (kind = 0 → u.isl.keyProv.getLsbD slot = true ∧ SMap.get 0 u.isl.keys slot = ofLE (a.drop 4) ∧ u.isl.signers = s.isl.signers) ∧
      (kind = 1 → u.isl.signProv.getLsbD slot = true ∧ SMap.get 0 u.isl.signers slot = ofLE (a.drop 4) ∧ u.isl.keys = s.isl.keys)) := by
  have hlength := State.mboxArgs_length (s := s) (k := k) (n := n) h.2.2.1 (by omega)
  have hends {status : Nat} {data : List Byte} {u : State} (hbody : _ = (status, data, u)) : Ends k s (.provision k) status data u :=
    h.ends rfl (by rcases hn with rfl | rfl <;> rfl) hbody
  refine ⟨fun hbad => hends (if_pos ?_), fun ⟨hkind, hzero, hslot⟩ hlen => hends ((if_neg ?_).trans (if_pos ?_)),
    fun ⟨hkind, hzero, hslot⟩ hlen hmay => hends ((if_neg ?_).trans ((if_neg ?_).trans (if_pos ?_))),
    fun ⟨hkind, hzero, hslot⟩ hlen ⟨hbench, hlevel, hfree⟩ => ⟨_, hends ((if_neg ?_).trans ((if_neg ?_).trans (if_neg ?_))), rfl,
      fun h0 => ?_, fun h1 => ?_⟩⟩
  · omega
  · omega
  · rw [hlength]
    exact hlen
  · omega
  · rw [hlength]
    exact not_not.2 hlen
  · by_contra hgo
    exact hmay (by simpa [and_assoc] using hgo)
  · omega
  · rw [hlength]
    exact not_not.2 hlen
  · simp [hbench, hlevel, hfree]
  · rw [if_pos h0] at hslot ⊢
    refine ⟨by simp [hslot], ?_, rfl⟩
    show (SMap.lookup (SMap.insert (SMap.erase s.isl.keys _) _ _) _).getD 0 = _
    rw [SMap.lookup_insert_same _ _ _ (SMap.lookup_erase_same ..)]
    rfl
  · have h0 : ¬ leAt (s.mboxArgs k) 0 1 = 0 := by omega
    rw [if_neg h0] at hslot ⊢
    exact ⟨by simp [hslot], SMap.get_set_same .., rfl⟩

end

end Sys2Proof.Machine
end

section
/-!
PROOFS. FW_WRITE (R534): what a commit leaves as it was, a sector erased once a session, and a word programmed.
-/

namespace Sys2Proof.Machine

/-! ### What a commit leaves as it was -/

/-- What a firmware write rests on: the firmware and its sessions, the budget, and the state of the flash but for its words. -/
structure FwKept (s t : State) : Prop where
  fw : t.isl.fw = s.isl.fw
  sessions : t.isl.sessions = s.isl.sessions
  budget : t.get R.BATT_BUDGET_ms = s.get R.BATT_BUDGET_ms
  active : t.fls.active = s.fls.active
  suspended : t.fls.suspended = s.fls.suspended
  torn : t.fls.torn = s.fls.torn

theorem FwKept.refl (s : State) : FwKept s s := ⟨rfl, rfl, rfl, rfl, rfl, rfl⟩

theorem FwKept.trans {s t u : State} (h1 : FwKept s t) (h2 : FwKept t u) : FwKept s u :=
  ⟨h2.fw.trans h1.fw, h2.sessions.trans h1.sessions, h2.budget.trans h1.budget, h2.active.trans h1.active, h2.suspended.trans h1.suspended,
    h2.torn.trans h1.torn⟩

/-- Registers other than the budget. -/
theorem Writes.fwKept {s t : State} {l : List Fld} (h : Writes l s t) (hl : ∀ f ∈ l, R.BATT_BUDGET_ms.key ≠ f.key) : FwKept s t :=
  have hisl : t.isl = s.isl := by rw [h.1]
  have hfls : t.fls = s.fls := by rw [h.1]
  ⟨by rw [hisl], by rw [hisl], h.2 _ hl, by rw [hfls], by rw [hfls], by rw [hfls]⟩

theorem foldl_fwKept {α : Type} {f : State → α → State} (h : ∀ u x, FwKept u (f u x)) (l : List α) (s : State) : FwKept s (l.foldl f s) := by
  induction l generalizing s with
  | nil => exact .refl s
  | cons x l ih => exact (h s x).trans (ih _)

/-- A head that moves on in the ring. -/
theorem FwKept.opened {s t : State} (h : FwKept s t) (line first seq : Nat) :
    FwKept s { t with fls := { t.fls with headLine := line, headFirst := first, sectorSeq := seq } } :=
  h.trans ⟨rfl, rfl, rfl, rfl, rfl, rfl⟩

section
variable (s : State)

theorem State.puts_fwKept {l : List (Fld × Nat)} (fs : List Fld) (hfs : l.map Prod.fst = fs) (h : ∀ f ∈ fs, R.BATT_BUDGET_ms.key ≠ f.key) :
    FwKept s (s.puts l) := (s.puts_writes l).fwKept (by rwa [hfs])

theorem State.flashSet_fwKept (ix v : Nat) : FwKept s (s.flashSet ix v) := ⟨rfl, rfl, rfl, rfl, rfl, rfl⟩

theorem State.flashBytes_fwKept (ix : Nat) (bs : List Byte) : FwKept s (s.flashBytes ix bs) :=
  foldl_fwKept (fun u i => u.flashSet_fwKept (ix + i) _) _ s

theorem State.closeSector_fwKept : FwKept s s.closeSector := by
  unfold State.closeSector
  dsimp only
  split
  · exact .refl s
  · exact s.flashBytes_fwKept _ _

theorem State.openNext_fwKept {s t : State} (h : s.openNext = some t) : FwKept s t := by
  unfold State.openNext at h
  dsimp only at h
  split at h
  · cases h
  · obtain ⟨u, hu⟩ : ∃ u, u = s.puts [(R.FLS_RING_head, s.ringNext (s.get R.FLS_RING_head)),
      (R.FLS_RING_erased_ahead, s.get R.FLS_RING_erased_ahead - 1)] := ⟨_, rfl⟩
    have hputs : FwKept s u := hu ▸ s.puts_fwKept [R.FLS_RING_head, R.FLS_RING_erased_ahead] rfl (by decide)
    have hwear (a b : Nat) : FwKept s ((u.put R.FLS_WEAR_rotations a).put R.FLS_WEAR_endurance_warn b) :=
      hputs.trans (((u.put_writes R.FLS_WEAR_rotations a).fwKept (by decide)).trans ((State.put_writes _ _ _).fwKept (by decide)))
    rw [← hu] at h
    rw [← Option.some.inj h]
    split
    · exact (hwear _ _).opened _ _ _
    · exact hputs.opened _ _ _

theorem State.writeBlock_fwKept (bs : List Byte) : FwKept s (s.writeBlock bs) := by
  obtain ⟨u, hu⟩ : ∃ u, u = s.flashBytes (ringLine (s.get R.FLS_RING_head) s.fls.headLine) bs := ⟨_, rfl⟩
  have hbytes : FwKept s u := hu ▸ s.flashBytes_fwKept _ _
  unfold State.writeBlock
  rw [← hu]
  exact ((hbytes.opened _ u.fls.headFirst u.fls.sectorSeq).trans ((State.flsLast_writes _ _ _ _ _ _).fwKept (by decide))).trans
    (((State.put_writes _ _ _).fwKept (by decide)).trans ((State.count_writes _ _ _).fwKept (by decide)))

theorem State.roomFor_fwKept {s t : State} {block : List Byte} (h : s.roomFor block = some t) : FwKept s t := by
  unfold State.roomFor at h
  split at h
  · exact s.closeSector_fwKept.trans (State.openNext_fwKept h)
  · obtain rfl := Option.some.inj h
    exact .refl s

theorem State.commitOne_fwKept {s t : State} {kind : Nat} {recs : List Byte} (h : s.commitOne kind recs false = some t) : FwKept s t := by
  unfold State.commitOne at h
  split at h
  case h_1 => cases h
  case h_2 u hu =>
    obtain rfl := Option.some.inj h
    exact (State.roomFor_fwKept hu).trans (u.writeBlock_fwKept _)

theorem State.commitMany_fwKept {s t : State} {l : List (Nat × List Byte)} (h : s.commitMany l false = some t) : FwKept s t := by
  induction l generalizing s with
  | nil =>
    obtain rfl := Option.some.inj h
    exact .refl s
  | cons x l ih =>
    unfold State.commitMany at h
    split at h
    case h_1 => cases h
    case h_2 u hu => exact (State.commitOne_fwKept hu).trans (ih h)

theorem State.holdCommit_fwKept : FwKept s s.holdCommit := by
  unfold State.holdCommit
  dsimp only
  split
  · exact ⟨rfl, rfl, rfl, rfl, rfl, rfl⟩
  · exact ((s.count_writes R.FLS_CNT2_deferred 1).fwKept (by decide)).trans ⟨rfl, rfl, rfl, rfl, rfl, rfl⟩

theorem State.writePending_fwKept : FwKept s (s.writePending false) := by
  unfold State.writePending
  split
  · exact s.holdCommit_fwKept
  · split
    case h_1 => exact s.holdCommit_fwKept
    case h_2 t ht => exact (State.commitMany_fwKept ht).trans ⟨rfl, rfl, rfl, rfl, rfl, rfl⟩

theorem State.commitPending_fwKept (h : s.fls.active = none) : FwKept s (s.commitPending false) := by
  unfold State.commitPending
  split_ifs
  · exact .refl s
  · exact ⟨rfl, rfl, rfl, rfl, rfl, rfl⟩
  · exact .refl s
  · rw [State.meanwhile_idle h]
    exact s.writePending_fwKept

theorem State.journalFirst_fwKept (h : s.fls.active = none) : FwKept s s.journalFirst := by
  unfold State.journalFirst
  split
  · exact s.commitPending_fwKept h
  · exact .refl s

end

/-! ### An erase within a command (R591, R605) -/

section
variable {s : State} {n k : Nat}

/-- The log stands in bank B. -/
theorem State.logAppend_bankA (s : State) (type : Nat) (bankB : Bool) (sector : Nat) (hk : k < 65536) :
    (s.logAppend type bankB sector).fls.word k = s.fls.word k := by
  have hout (m : Nat) : 65536 ≤ sectorWord true m := by
    unfold sectorWord
    simp only [b2n, if_true]
    omega
  have hlog := hout s.fls.logSector
  have hplace (u : State) : ¬ u.logPlace ≤ k := by
    have := hout u.fls.logSector
    unfold State.logPlace
    omega
  have hother := hout (s.logPut type bankB sector).logOther
  refine (State.logSwitch_other _ (fun h => absurd h (hplace _)) (by omega)).trans (s.logPut_other fun _ h => hplace s (by omega))

theorem State.eraseVerified_bankA (s : State) (hk : sectorWord false n ≤ k ∧ k < sectorWord false n + 256) (hbank : k < 65536) :
    (s.eraseVerified false n).fls.word k = blankWord := by
  rw [(s.eraseVerified_fls false n).1, State.logDone, State.logAppend_bankA _ _ _ _ hbank, s.sectorErased_in false n hk]

theorem State.logPut_torn (s : State) (type : Nat) (bankB : Bool) (sector : Nat) : (s.logPut type bankB sector).fls.torn = s.fls.torn := by
  unfold State.logPut
  split <;> rfl

theorem State.sectorErased_torn (h : s.fls.torn = []) (bankB : Bool) (sector : Nat) : (s.sectorErased bankB sector).fls.torn = [] := by
  show List.filter _ s.fls.torn = []
  rw [h]
  rfl

theorem State.logOpened_torn (u : State) (other : Nat) : (u.logOpened other).fls.torn = u.fls.torn := by
  have hat (v : State) (other gen : Nat) : (v.logAt other gen).fls.torn = v.fls.torn := rfl
  have hset (v : State) (ix w : Nat) : (v.flashSet ix w).fls.torn = v.fls.torn := rfl
  rw [State.logOpened, hat, hset]

theorem State.logSwitch_torn (h : s.fls.torn = []) : s.logSwitch.fls.torn = [] := by
  rw [State.logSwitch_eq]
  split
  · rw [State.logOpened_torn, State.logMoved, State.logPut_torn]
    exact State.sectorErased_torn ((s.logPut_torn _ _ _).trans h) _ _
  · exact h

theorem State.logAppend_torn (h : s.fls.torn = []) (type : Nat) (bankB : Bool) (sector : Nat) : (s.logAppend type bankB sector).fls.torn = [] :=
  State.logSwitch_torn ((s.logPut_torn _ _ _).trans h)

/-- A sector of bank A that has verified blank. -/
theorem State.eraseVerified_bankA_effect (s : State) (n : Nat) :
    let v := (s.sectorErased false n).logDone false n
    let t := s.eraseVerified false n
    t.fls = { v.fls with unmatched := v.fls.unmatched.filter (fun u => u != (false, n)) } ∧ t.isl = v.isl := by
  unfold State.eraseVerified
  dsimp only
  simp only [Bool.false_eq_true, if_false]
  split
  · exact ⟨State.count_fls .., by rw [(State.count_writes _ _ _).1]⟩
  · exact ⟨rfl, rfl⟩

/-- A sector of bank A erased within a command: blank, nothing of the flash unpredictable, and no erase of it still due. -/
theorem State.eraseNow_effect (s : State) (n : Nat) :
    let t := s.eraseNow false n
    t.fls.active = s.fls.active ∧ t.fls.suspended = s.fls.suspended ∧ t.isl = s.isl ∧ t.fls.unmatched.contains (false, n) = false ∧
      (s.fls.torn = [] → t.fls.torn = []) ∧
      (∀ k, sectorWord false n ≤ k → k < sectorWord false n + 256 → k < 65536 → t.fls.word k = blankWord) := by
  obtain ⟨u, hu⟩ : ∃ u, u = s.logBegin false n := ⟨_, rfl⟩
  have hbegin : FlashWords s u := hu ▸ s.logBegin_flash false n
  obtain ⟨hfls, hisl⟩ := u.eraseVerified_bankA_effect n
  have hdone : FlashWords s ((u.sectorErased false n).logDone false n) :=
    hbegin.trans ((u.sectorErased_flash false n).trans (State.logAppend_flash _ _ _ _))
  have ht : s.eraseNow false n = u.eraseVerified false n := by rw [hu]; rfl
  intro t
  rw [show t = u.eraseVerified false n from ht, hfls, hisl]
  refine ⟨hdone.2.active, by rw [hdone.2], by rw [hdone.1], ?_, fun htorn => ?_, fun k hlo hhi hk => ?_⟩
  · simp [List.contains_eq_mem]
  · have hlog : u.fls.torn = [] := hu ▸ State.logAppend_torn (State.logSwitch_torn htorn) _ _ _
    exact State.logAppend_torn (State.sectorErased_torn hlog _ _) _ _ _
  · exact (congrArg (FlsSt.word · k) hfls).symm.trans (u.eraseVerified_bankA ⟨hlo, hhi⟩ hk)

end

/-! ### A word programmed (R590) -/

section
variable {s u : State} {ix v : Nat}

theorem FlsSt.isTorn_idle {f : FlsSt} (hactive : f.active = none) (hsuspended : f.suspended = []) (htorn : f.torn = []) (ix : Nat) :
    f.isTorn ix = false := by
  rw [FlsSt.isTorn, FlsSt.erasing, hactive, hsuspended, htorn]
  rfl

/-- A blank word of an idle flash takes its value. -/
theorem State.flashProgram_takes (hrange : outOfRange (inBankB ix) (sectorOf ix) = false) (hsuspended : s.fls.suspended = [])
    (hunmatched : s.fls.unmatched.contains (inBankB ix, sectorOf ix) = false) (htorn : s.fls.isTorn ix = false)
    (hblank : s.fls.word ix = blankWord) (hv : v ≠ blankWord) :
    s.flashProgram ix v false = (0, (s.flashSet ix v).flsLast 1 0 (inBankB ix) (sectorOf ix) (ix % 256)) :=
  (if_neg (Bool.eq_false_iff.1 hrange)).trans ((if_neg (by rw [hsuspended]; simp)).trans ((if_neg (Bool.eq_false_iff.1 hunmatched)).trans
    ((if_neg (Bool.eq_false_iff.1 htorn)).trans ((if_neg (not_not.2 hblank)).trans ((if_neg hv).trans (if_neg (by decide)))))))

theorem State.fwProgram_one (hprogram : s.flashProgram ix v false = (0, u)) (hv : v ≠ blankWord) : s.fwProgram [(ix, v)] = (u, false) := by
  rw [State.fwProgram, if_neg (fun h => hv h.1), hprogram]
  rfl

end

/-! ### FW_WRITE (R534) -/

section
variable {s : State} {target n : Nat}

theorem getD_mapIdx_sessions (v : Vector (Option (List Nat)) 3) (f : Nat → Option (List Nat) → Option (List Nat)) {i : Nat} (hi : i ≤ 2) :
    (v.mapIdx f).toList.getD i none = f i (v.toList.getD i none) := by
  have hlt : i < 3 := by omega
  simp [List.getD, hlt]

/-- The sectors of a target's session that have been erased. -/
def State.sessionOf (s : State) (target : Nat) : List Nat := (s.isl.sessions.toList.getD target none).getD []

/-- A write session that has erased one sector. -/
def State.keepSession (s : State) (target n : Nat) : State :=
  { s with isl := { s.isl with sessions := s.isl.sessions.mapIdx (fun i x => if i = target then some [n] else x) } }

theorem State.keepSession_fls : (s.keepSession target n).fls = s.fls := rfl

theorem State.keepSession_session (htarget : target ≤ 2) : (s.keepSession target n).isl.sessions.toList.getD target none = some [n] :=
  (getD_mapIdx_sessions _ _ htarget).trans (if_pos rfl)

/-- A sector erased for a write session. -/
def State.fwErased (s : State) (target n : Nat) : State := ((s.eraseNow false n).flsLast 2 0 false n 0).keepSession target n

theorem State.fwErase_refused (hnew : s.sessionOf target = []) (h : s.eraseAllowed = false) :
    s.fwErase target [n] = (s.eraseRefused 2 false n, true) := by
  have hdone : (s.isl.sessions.toList.getD target none).getD [] = [] := hnew
  rw [State.fwErase, hdone]
  exact (if_neg (by simp)).trans (if_pos (by rw [h]; rfl))

theorem State.fwErase_erases (hnew : s.sessionOf target = []) (h : s.eraseAllowed = true) : s.fwErase target [n] = (s.fwErased target n, false) := by
  have hdone : (s.isl.sessions.toList.getD target none).getD [] = [] := hnew
  rw [State.fwErase, hdone]
  exact (if_neg (by simp)).trans (if_neg (by rw [h]; decide))

theorem State.fwErased_fls : (s.fwErased target n).fls = (s.eraseNow false n).fls := by
  rw [State.fwErased, State.keepSession_fls, State.flsLast_fls]

/-- A session begins where none runs, and the sequence number of the copy that goes is kept (R534). -/
def State.fwOpened (t : State) (target area : Nat) : State :=
  let old := if area < 2 ∧ (t.isl.copySeq.toList.getD area none).isNone then (t.bootCopy area).map (fun p => p.1) else none
  { t with isl := { t.isl with
    sessions := t.isl.sessions.mapIdx (fun i (x : Option (List Nat)) => if i = target then some (x.getD []) else x),
    copySeq := t.isl.copySeq.mapIdx (fun i x => if i = area then (match x with | some q => some q | none => old) else x) } }

theorem State.fwOpened_session {area : Nat} (htarget : target ≤ 2) : (s.fwOpened target area).sessionOf target = s.sessionOf target := by
  have hget := getD_mapIdx_sessions s.isl.sessions (fun i (x : Option (List Nat)) => if i = target then some (x.getD []) else x) htarget
  rw [if_pos rfl] at hget
  have hdone := congrArg (Option.getD · []) hget
  exact hdone

theorem fwArea_le (m : Nat) : 2048 * (fwArea m).1 + (fwArea m).2 ≤ 2048 * 192 := by
  unfold fwArea
  split <;> decide

/-- Eight bytes at a word's place are one word. -/
theorem fwWords_word {base off : Nat} {bs : List Byte} (hoff : off % 8 = 0) (hlen : bs.length = 8) : fwWords base off bs = [(base + off / 8, ofLE bs)] := by
  have htake : bs.take 8 = bs := List.take_of_length_le hlen.le
  rw [fwWords, hoff]
  simp [hlen, htake]

/-- Where a word of an area stands. -/
theorem fwWord_place {first len off : Nat} (hbound : 2048 * first + len ≤ 2048 * 192) (hfits : off + 8 ≤ len) :
    let ix := 256 * first + off / 8
    let n := first + off / 2048
    inBankB ix = false ∧ sectorOf ix = n ∧ outOfRange false n = false ∧ sectorWord false n ≤ ix ∧ ix < sectorWord false n + 256 ∧ ix < 65536 := by
  have hsector : sectorWord false (first + off / 2048) = 256 * (first + off / 2048) := by
    rw [sectorWord]
    simp only [b2n, Bool.false_eq_true, if_false]
    omega
  refine ⟨decide_eq_false (by omega), ?_, ?_, ?_, ?_, by omega⟩
  · show (256 * first + off / 8) % 65536 / 256 = first + off / 2048
    omega
  · exact Bool.and_eq_false_iff.2 (.inr (decide_eq_false (by omega)))
  · omega
  · omega

variable {k : Fin 2}

/-- FW_WRITE of 8 bytes (R534). -/
theorem fwWrite_ends (h : s.Served k 0x10 16) (hsuspended : s.fls.suspended = []) :
    let a := s.mboxArgs k
    let j := s.journalFirst
    let target := leAt a 0 1
    let off := leAt a 4 4
    let area := fwArea (s.targetArea target)
    let n := area.1 + off / 2048
    (2 < target ∨ leAt a 1 3 ≠ 0 ∨ area.2 < off + 8 → Ends k s (.fwWrite k) 4 [] j) ∧
    (target ≤ 2 → leAt a 1 3 = 0 → off + 8 ≤ area.2 → off % 8 = 0 → ofLE (a.drop 8) ≠ blankWord →
      (s.sessionOf target = [] → s.eraseAllowed = false →
        ∃ u, Ends k s (.fwWrite k) 6 [] u ∧ u.fls = j.fls ∧ u.get R.FLS_LAST_result = 2) ∧
      (s.sessionOf target = [] → s.eraseAllowed = true → s.fls.torn = [] →
        ∃ u, Ends k s (.fwWrite k) 0 [] u ∧ u.fls.word (256 * area.1 + off / 8) = ofLE (a.drop 8) ∧
          (u.isl.sessions.toList.getD target none) = some [n])) := by
  intro a j target off area n
  have hturn := h.1
  have hidle : ¬ (s.fls.active.isSome || !s.fls.suspended.isEmpty) = true := by simp [hturn.2.2, hsuspended]
  have hends {status : Nat} {data : List Byte} {u : State} (hbody : _ = (status, data, u)) : Ends k s (.fwWrite k) status data u :=
    congrArg Host.Outcome.next ((if_neg hidle).trans (State.mboxServe_body hturn h.2.1 (.inl h.2.2.2) (by rw [h.2.2.1]; rfl) hbody))
  have hkept : FwKept s j := s.journalFirst_fwKept hturn.2.2
  have harea : j.targetArea target = s.targetArea target := by
    unfold State.targetArea
    rw [hkept.fw]
  have hlen : (a.drop 8).length = 8 := by
    rw [List.length_drop, State.mboxArgs_length h.2.2.1 (by decide)]
  refine ⟨fun hbad => hends (if_pos ?_), fun htarget hzero hfits hoff hword => ?_⟩
  · rw [hlen, harea]
    exact hbad
  have hargs : ¬ (2 < target ∨ leAt a 1 3 ≠ 0 ∨ (fwArea (j.targetArea target)).2 < off + (a.drop 8).length) := by
    rw [hlen, harea]
    show ¬ (2 < target ∨ leAt a 1 3 ≠ 0 ∨ area.2 < off + 8)
    omega
  have hsectors : (List.range ((fwArea (j.targetArea target)).1 + (off + (a.drop 8).length - 1) / 2048 + 1 -
      ((fwArea (j.targetArea target)).1 + off / 2048))).map (fun i => (fwArea (j.targetArea target)).1 + off / 2048 + i) = [n] := by
    have hone : (fwArea (j.targetArea target)).1 + (off + (a.drop 8).length - 1) / 2048 + 1 - ((fwArea (j.targetArea target)).1 + off / 2048) = 1 := by
      rw [hlen]
      omega
    rw [hone, harea]
    rfl
  obtain ⟨t, ht⟩ : ∃ t, t = j.fwOpened target (j.targetArea target) := ⟨_, rfl⟩
  have hfls : t.fls = j.fls := by rw [ht]; rfl
  have hallowed : t.eraseAllowed = s.eraseAllowed := by
    have hbudget : t.get R.BATT_BUDGET_ms = s.get R.BATT_BUDGET_ms := (by rw [ht]; rfl : t.get R.BATT_BUDGET_ms = j.get R.BATT_BUDGET_ms).trans hkept.budget
    rw [State.eraseAllowed, hbudget, State.eraseAllowed]
  have hsession : t.sessionOf target = s.sessionOf target := by
    rw [ht, State.fwOpened_session htarget, State.sessionOf, hkept.sessions, State.sessionOf]
  refine ⟨fun hnew henergy => ?_, fun hnew henergy htorn => ?_⟩
  · have herase := State.fwErase_refused (n := n) (hsession.trans hnew) (hallowed.trans henergy)
    rw [← hsectors, ht] at herase
    refine ⟨_, hends ((if_neg hargs).trans ((if_pos (congrArg Prod.snd herase)).trans (congrArg (fun x => (6, [], x)) (congrArg Prod.fst herase)))), ?_, ?_⟩
    · rw [← ht]
      exact (OnlyRegs.fls (t.eraseRefused_effect (by decide) false n).2.2.2.1).trans hfls
    · exact (State.eraseRefused_effect _ (by decide) false n).2.2.1.2.1
  · have herase := State.fwErase_erases (n := n) (hsession.trans hnew) (hallowed.trans henergy)
    obtain ⟨hactive, hsusp, hisl, hunmatched, hflat, hblank⟩ := t.eraseNow_effect n
    obtain ⟨e, he⟩ : ∃ e, e = t.fwErased target n := ⟨_, rfl⟩
    have hefls : e.fls = (t.eraseNow false n).fls := he ▸ State.fwErased_fls
    have hwords : fwWords (256 * (fwArea (j.targetArea target)).1) off (a.drop 8) = [(256 * area.1 + off / 8, ofLE (a.drop 8))] := by
      rw [fwWords_word hoff hlen, harea]
    obtain ⟨hbank, hsector, hrange, hlo, hhi, hbankA⟩ := fwWord_place (fwArea_le (s.targetArea target)) hfits
    obtain ⟨p, hp⟩ : ∃ p, p = (e.flashSet (256 * area.1 + off / 8) (ofLE (a.drop 8))).flsLast 1 0 (inBankB (256 * area.1 + off / 8))
      (sectorOf (256 * area.1 + off / 8)) ((256 * area.1 + off / 8) % 256) := ⟨_, rfl⟩
    have hpfls : p.fls.word (256 * area.1 + off / 8) = ofLE (a.drop 8) := by
      rw [hp, State.flsLast_fls]
      exact e.flashSet_same _ _
    have hpisl : p.isl.sessions.toList.getD target none = some [n] := by
      rw [hp, (State.flsLast_writes _ _ _ _ _ _).1]
      show e.isl.sessions.toList.getD target none = some [n]
      rw [he]
      exact State.keepSession_session htarget
    have hprogram : e.flashProgram (256 * area.1 + off / 8) (ofLE (a.drop 8)) false = (0, p) := hp ▸ State.flashProgram_takes
      (by rw [hbank, hsector, hrange]) (by rw [hefls, hsusp, hfls, hkept.suspended, hsuspended]) (by rw [hbank, hsector, hefls, hunmatched])
      (FlsSt.isTorn_idle (by rw [hefls, hactive, hfls, hkept.active, hturn.2.2]) (by rw [hefls, hsusp, hfls, hkept.suspended, hsuspended])
        (by rw [hefls]; exact hflat (by rw [hfls, hkept.torn, htorn])) _)
      (by rw [hefls]; exact hblank _ hlo hhi hbankA) hword
    have hwrite := State.fwProgram_one hprogram hword
    rw [← hwords, he, ← show (t.fwErase target [n]).1 = t.fwErased target n from congrArg Prod.fst herase, ← hsectors, ht] at hwrite
    rw [← hsectors, ht] at herase
    exact ⟨p, hends ((if_neg hargs).trans ((if_neg fun hrefused => Bool.false_ne_true ((congrArg Prod.snd herase).symm.trans hrefused)).trans
      (congrArg (fun q => (if q.2 = true then 9 else 0, [], q.1)) hwrite))), hpfls, hpisl⟩

end

end Sys2Proof.Machine
end

section
/-!
PROOFS. The island's supplies and boot (R517–R527, R548): what a sample sets, what COLD loses, and what a boot leaves of its choice.
-/

namespace Sys2Proof.Machine

/-! ### What a recovery leaves of the island's choice (R606, R613) -/

theorem Writes.isl {s t : State} {l : List Fld} (h : Writes l s t) : t.isl = s.isl := by rw [h.1]

theorem OnlyFls.isl {s t : State} (h : OnlyFls s t) : t.isl = s.isl := by rw [h]

theorem foldl_isl {α : Type} {f : State → α → State} (h : ∀ u x, (f u x).isl = u.isl) (l : List α) (s : State) : (l.foldl f s).isl = s.isl := by
  induction l generalizing s with
  | nil => rfl
  | cons x l ih => rw [List.foldl_cons, ih, h]

theorem State.isl_ite (c : Prop) [Decidable c] (s t : State) : (if c then s else t).isl = if c then s.isl else t.isl := apply_ite State.isl c s t

section
variable (s : State)

@[simp] theorem State.puts_keepsIsl (l : List (Fld × Nat)) : (s.puts l).isl = s.isl := (s.puts_writes l).isl

@[simp] theorem State.setRegWord_keepsIsl (off w : Nat) : (s.setRegWord off w).isl = s.isl :=
  foldl_isl (f := fun t f => t.put f (bits w f.lo f.w)) (fun _ _ => (rfl)) _ s

@[simp] theorem State.flashSet_keepsIsl (ix v : Nat) : (s.flashSet ix v).isl = s.isl := (rfl)

@[simp] theorem State.flashBytes_keepsIsl (ix : Nat) (bs : List Byte) : (s.flashBytes ix bs).isl = s.isl := by
  simp [State.flashBytes, foldl_isl]

@[simp] theorem State.closeSector_keepsIsl : s.closeSector.isl = s.isl := by simp [State.closeSector, State.isl_ite]

@[simp] theorem State.ringErased_keepsIsl (n : Nat) : (s.ringErased n).isl = s.isl := by simp [State.ringErased, State.isl_ite]

@[simp] theorem State.logDone_keepsIsl (bankB : Bool) (n : Nat) : (s.logDone bankB n).isl = s.isl := (s.logAppend_flash _ _ _).1.isl

@[simp] theorem State.sectorErased_keepsIsl (bankB : Bool) (n : Nat) : (s.sectorErased bankB n).isl = s.isl := (rfl)

theorem State.eraseVerified_keepsIsl (bankB : Bool) (n : Nat) : (s.eraseVerified bankB n).isl = s.isl := by
  simp [State.eraseVerified, State.isl_ite]

@[simp] theorem State.eraseNow_keepsIsl (bankB : Bool) (n : Nat) : (s.eraseNow bankB n).isl = s.isl :=
  ((s.logBegin bankB n).eraseVerified_keepsIsl bankB n).trans (s.logBegin_flash bankB n).1.isl

@[simp] theorem State.eraseRefused_keepsIsl (cmd : Nat) (bankB : Bool) (n : Nat) : (s.eraseRefused cmd bankB n).isl = s.isl := by
  simp [State.eraseRefused, State.flsLast]

theorem State.recoverErases_keepsIsl : s.recoverErases.isl = s.isl := by
  unfold State.recoverErases
  split <;> simp [State.isl_ite, foldl_isl]

theorem State.readLog_keepsIsl : s.readLog.isl = s.isl := by simp [State.readLog, State.isl_ite]

@[simp] theorem State.applyRecord_keepsIsl (r : JRecord) : (s.applyRecord r).isl = s.isl := by
  unfold State.applyRecord
  split <;> simp [State.isl_ite]

@[simp] theorem State.applyCommit_keepsIsl (c : FoundCommit) : (s.applyCommit c).isl = s.isl := by simp [State.applyCommit, foldl_isl]

@[simp] theorem State.placeHead_keepsIsl (cs : List FoundCommit) : (s.placeHead cs).isl = s.isl := by
  unfold State.placeHead
  split <;> simp [State.isl_ite]

theorem State.rebuild_isl : s.rebuild.isl = { s.isl with rebuilt := true } := by simp [State.rebuild, foldl_isl]

end

/-- The island's choice of firmware, and what a boot has set with it. -/
structure BootKept (s t : State) : Prop where
  booted : t.isl.booted = s.isl.booted
  fw : t.isl.fw = s.isl.fw
  order : t.isl.mboxOrder = s.isl.mboxOrder
  sessions : t.isl.sessions = s.isl.sessions
  mode : t.isl.mode = s.isl.mode

theorem BootKept.of_isl {s t : State} (h : t.isl = s.isl) : BootKept s t := ⟨by rw [h], by rw [h], by rw [h], by rw [h], by rw [h]⟩

theorem BootKept.trans {s t u : State} (h1 : BootKept s t) (h2 : BootKept t u) : BootKept s u :=
  ⟨h2.booted.trans h1.booted, h2.fw.trans h1.fw, h2.order.trans h1.order, h2.sessions.trans h1.sessions, h2.mode.trans h1.mode⟩

section
variable (s : State)

theorem State.rebuild_bootKept : BootKept s s.rebuild := by
  have h := s.rebuild_isl
  exact ⟨by rw [h], by rw [h], by rw [h], by rw [h], by rw [h]⟩

theorem State.notePower_bootKept (tag : Nat) : BootKept s (s.notePower tag) := ⟨rfl, rfl, rfl, rfl, rfl⟩

theorem State.journalLatch_bootKept : BootKept s s.journalLatch := by
  unfold State.journalLatch
  split
  · exact ⟨rfl, rfl, rfl, rfl, rfl⟩
  · exact .of_isl rfl

theorem State.gapNote_bootKept : BootKept s s.gapNote := by
  unfold State.gapNote
  split
  · exact .of_isl rfl
  · exact ⟨rfl, rfl, rfl, rfl, rfl⟩

theorem State.trimStart_bootKept : BootKept s s.trimStart := by
  unfold State.trimStart
  split
  · exact ⟨rfl, rfl, rfl, rfl, rfl⟩
  · exact .of_isl rfl

theorem State.xtalStart_bootKept : BootKept s s.xtalStart := by
  unfold State.xtalStart
  split
  · exact (BootKept.of_isl (s.put_writes R.OSC_STAT_xtal_run 1).isl).trans (State.trimStart_bootKept _)
  · exact s.trimStart_bootKept

theorem State.bootKept_ite {u v : State} (c : Prop) [Decidable c] (hu : BootKept s u) (hv : BootKept s v) : BootKept s (if c then u else v) := by
  split
  · exact hu
  · exact hv

/-- A loss of time that came before is journalled. -/
theorem State.timeNoted_bootKept :
    BootKept s (if s.isl.timeLost then { s.notePower 3 with isl := { (s.notePower 3).isl with timeLost := false } } else s) :=
  s.bootKept_ite _ ⟨rfl, rfl, rfl, rfl, rfl⟩ (.of_isl rfl)

/-- The journal is rebuilt, and the protection level read. -/
def State.bootRebuilt : State :=
  let s1 := if s.isl.rebuilt || s.isl.fw.isNone then s else s.rebuild
  s1.put R.FLS_PROT_level s1.fls.protLevel

theorem State.bootRebuilt_bootKept : BootKept s s.bootRebuilt :=
  (s.bootKept_ite (s.isl.rebuilt || s.isl.fw.isNone) (.of_isl rfl) s.rebuild_bootKept).trans (.of_isl (State.put_isl ..))

theorem State.bootFinish_bootKept : BootKept s s.bootFinish := by
  have hrest (u : State) (hu : BootKept s u) (c d : Bool) (r : DawnRecord) :
      let v := if c then { u with pwr := { u.pwr with dawnRec := r } } else u
      let w := if d then v.put R.MBUS_CFG_primary v.journalAddress else v
      let x := w.journalLatch.gapNote
      BootKept s (if x.isl.timeLost then { x.notePower 3 with isl := { (x.notePower 3).isl with timeLost := false } } else x) := by
    intro v w x
    have hv : BootKept s v := s.bootKept_ite _ (hu.trans (.of_isl rfl)) hu
    have hw : BootKept s w := s.bootKept_ite _ (hv.trans (.of_isl (State.put_isl ..))) hv
    exact (hw.trans (w.journalLatch_bootKept.trans (State.gapNote_bootKept _))).trans x.timeNoted_bootKept
  unfold State.bootFinish
  split
  · exact .of_isl rfl
  · exact hrest s.bootRebuilt s.bootRebuilt_bootKept (s.isl.rcLatch || s.isl.dawnOwed) s.isl.fw.isNone s.pwr.dawnRec

theorem State.recover_bootKept : BootKept s s.recover := (BootKept.of_isl s.recoverErases_keepsIsl).trans (State.bootFinish_bootKept _)

end

/-! ### Supplies (R517, R519, R520, R524, R548) -/

section
variable {s : State}

/-- In COLD nothing is sampled and nothing boots. -/
theorem supplies_cold (h : s.isl.mode = .cold) : (∀ a b c, exec (.budgetSample a b c) s = .next s) ∧ exec .battLow s = .next s ∧
    exec .battNewCell s = .next s ∧ exec .vholdExhausted s = .next s ∧ exec .islandBoot s = .next s :=
  ⟨fun _ _ _ => congrArg Host.Outcome.next (if_pos h), congrArg Host.Outcome.next (if_pos h), congrArg Host.Outcome.next (if_pos h),
    congrArg Host.Outcome.next (if_pos (by simp [h])), congrArg Host.Outcome.next (if_pos (by simp [h]))⟩

/-- A battery-low condition keeps its instant. -/
theorem State.lowNoted_eq (v : State) : ∃ n, (if v.battCondition then { v with isl := { v.isl with lowAt := v.now } } else v) =
    { v with isl := { v.isl with lowAt := n } } := by
  split
  · exact ⟨v.now, rfl⟩
  · exact ⟨v.isl.lowAt, rfl⟩

/-- What BUDGET_SAMPLE measures (R520, R524). -/
theorem State.supplySampled_effect (s : State) (vbat vhold mah : Nat) :
    let t := s.supplySampled vbat vhold mah
    let left := s.isl.mode = .hold ∧ vhold < 2400 ∧ 2500 ≤ vbat
    t.get R.BATT_CAP_used_mah = satAdd 16 (s.get R.BATT_CAP_used_mah) mah ∧ t.get R.BATT_BUDGET_ms = budgetMs vhold % 65536 ∧
      t.isl.vbat = vbat ∧ t.isl.vhold = vhold ∧
      (left → t.isl.mode = .standby ∧ t.isl.runOn = false) ∧ (¬ left → t.isl.mode = s.isl.mode ∧ t.isl.runOn = s.isl.runOn) ∧
      Writes [R.BATT_CAP_used_mah, R.BATT_BUDGET_ms] { s with isl := t.isl } t := by
  obtain ⟨u, hu⟩ : ∃ u, u = (s.count R.BATT_CAP_used_mah mah).put R.BATT_BUDGET_ms (budgetMs vhold) := ⟨_, rfl⟩
  have hused : u.get R.BATT_CAP_used_mah = satAdd 16 (s.get R.BATT_CAP_used_mah) mah := by
    rw [hu, State.get_put_other _ _ _ _ (by decide)]
    exact State.get_count_same ..
  have hbudget : u.get R.BATT_BUDGET_ms = budgetMs vhold % 65536 := by
    rw [hu]
    exact State.get_put_same ..
  have hwrites : Writes [R.BATT_CAP_used_mah, R.BATT_BUDGET_ms] s u :=
    hu ▸ ((s.count_writes R.BATT_CAP_used_mah mah).mono (by simp)).trans ((State.put_writes _ _ _).mono (by simp))
  have hisl : u.isl = s.isl := hwrites.isl
  obtain ⟨left, hleft⟩ : ∃ left, left = decide (u.isl.mode = IslMode.hold ∧ vhold < 2400 ∧ 2500 ≤ vbat) := ⟨_, rfl⟩
  have ht : ∃ n, s.supplySampled vbat vhold mah = { u with isl := { u.isl with
      vbat := vbat, vhold := vhold, mode := if left then IslMode.standby else u.isl.mode, runOn := u.isl.runOn && !left, lowAt := n } } := by
    unfold State.supplySampled
    rw [← hu]
    dsimp only
    rw [← hleft]
    exact State.lowNoted_eq _
  obtain ⟨n, ht⟩ := ht
  rw [hisl] at ht hleft
  intro t
  rw [show t = _ from ht]
  refine ⟨hused, hbudget, rfl, rfl, fun hdue => ?_, fun hnot => ?_, hwrites.withIsl _⟩
  · rw [hleft, decide_eq_true hdue]
    exact ⟨rfl, Bool.and_false _⟩
  · rw [hleft, decide_eq_false hnot]
    exact ⟨rfl, Bool.and_true _⟩

theorem budgetSample_samples (hmode : s.isl.mode ≠ .cold) (vbat vhold : BitVec 16) (mah : BitVec 8) : ∃ t : State,
    let due := t.fls.recoverDue = true ∧ t.islandUp = true ∧ t.eraseAllowed = true ∧ t.fls.active = none ∧ t.fls.suspended = []
    let left := s.isl.mode = .hold ∧ vhold.toNat < 2400 ∧ 2500 ≤ vbat.toNat
    (due → exec (.budgetSample vbat vhold mah) s = .next t.recover) ∧ (¬ due → exec (.budgetSample vbat vhold mah) s = .next t) ∧
    t.get R.BATT_CAP_used_mah = satAdd 16 (s.get R.BATT_CAP_used_mah) mah.toNat ∧ t.get R.BATT_BUDGET_ms = budgetMs vhold.toNat % 65536 ∧
    t.isl.vbat = vbat.toNat ∧ t.isl.vhold = vhold.toNat ∧
    (left → t.isl.mode = .standby ∧ t.isl.runOn = false) ∧ (¬ left → t.isl.mode = s.isl.mode ∧ t.isl.runOn = s.isl.runOn) ∧
    Writes [R.BATT_CAP_used_mah, R.BATT_BUDGET_ms] { s with isl := t.isl } t := by
  have heffect := s.supplySampled_effect vbat.toNat vhold.toNat mah.toNat
  have hexec : exec (.budgetSample vbat vhold mah) s = _ := congrArg Host.Outcome.next (if_neg hmode)
  obtain ⟨t, ht⟩ : ∃ t, t = s.supplySampled vbat.toNat vhold.toNat mah.toNat := ⟨_, rfl⟩
  rw [← ht] at heffect hexec
  refine ⟨t, fun hdue => hexec.trans (congrArg _ (if_pos ?_)), fun hnot => hexec.trans (congrArg _ (if_neg fun hdue => hnot ?_)), heffect⟩
  · obtain ⟨hdue, hup, hallowed, hactive, hsuspended⟩ := hdue
    simp [hdue, hup, hallowed, hactive, hsuspended]
  · simpa [and_assoc] using hdue

theorem battLow_sets (hmode : s.isl.mode ≠ .cold) (hlow : s.battCondition = true) :
    ∃ t, exec .battLow s = .next t ∧ t.isl = { s.isl with battLow := true, lowAt := s.now } ∧
      (s.isl.battLow = false → s.isl.linkUp = true → BitSet t R.ISL_EVT 2) ∧ Signals [R.ISL_EVT] { s with isl := t.isl } t := by
  obtain ⟨u, hu⟩ : ∃ u, u = ({ s with isl := { s.isl with battLow := true, lowAt := s.now } } : State) := ⟨_, rfl⟩
  have hexec : exec .battLow s = .next (if s.isl.battLow || !s.isl.linkUp then u else u.raiseIsl 2) :=
    hu ▸ congrArg Host.Outcome.next ((if_neg hmode).trans (if_pos hlow))
  have hisl : u.isl = { s.isl with battLow := true, lowAt := s.now } := by rw [hu]
  split at hexec
  case isTrue hno =>
    refine ⟨u, hexec, hisl, fun hlow hlink => ?_, ?_⟩
    · rw [hlow, hlink] at hno
      exact absurd hno (by decide)
    · rw [hu]
      exact Signals.refl _ _
  case isFalse =>
    have hraise := u.raiseIsl_signals 2 (List.mem_singleton_self R.ISL_EVT)
    refine ⟨_, hexec, hraise.1.isl.trans hisl, fun _ _ => u.raiseIsl_bitSet 2 (by decide), ?_⟩
    rw [hraise.1.isl, hu] at *
    exact hraise

theorem battLow_clears (hmode : s.isl.mode ≠ .cold) (hok : s.battCondition = false) :
    (s.isl.lowAt + 10000 * ticksPerMs ≤ s.now → exec .battLow s = .next { s with isl := { s.isl with battLow := false } }) ∧
      (s.now < s.isl.lowAt + 10000 * ticksPerMs → exec .battLow s = .next s) :=
  ⟨fun h => congrArg Host.Outcome.next (((if_neg hmode).trans (if_neg (Bool.eq_false_iff.1 hok))).trans (if_pos h)),
    fun h => congrArg Host.Outcome.next (((if_neg hmode).trans (if_neg (Bool.eq_false_iff.1 hok))).trans (if_neg (Nat.not_le.2 h)))⟩

theorem battNewCell_resets (hmode : s.isl.mode ≠ .cold) : Sets .battNewCell R.BATT_CAP_used_mah 0 s :=
  sets_of_put (congrArg Host.Outcome.next (if_neg hmode)) (by decide)

theorem vholdExhausted_not (h : s.pwr.vauxIn = true ∨ 2500 ≤ s.isl.vbat) : exec .vholdExhausted s = .next s :=
  congrArg Host.Outcome.next (if_pos (by rcases h with h | h <;> simp [h]))

theorem vholdExhausted_cold (hmode : s.isl.mode ≠ .cold) (hvaux : s.pwr.vauxIn = false) (hvbat : s.isl.vbat < 2500) :
    ∃ t, exec .vholdExhausted s = .next t ∧ t.isl.mode = .cold ∧ t.isl.booted = false ∧ t.isl.linkUp = false ∧ t.isl.fw = none ∧
      t.isl.timeLost = true ∧ t.fls.words = s.fls.words ∧ t.isl.keys = s.isl.keys ∧ SameMem s t :=
  ⟨s.islandCold, congrArg Host.Outcome.next (if_neg (by simp [hvaux, hmode, hvbat])), rfl, rfl, rfl, rfl, rfl, rfl, rfl,
    fun _ => by rw [State.islandCold_sameMem]⟩

/-! ### Boot (R526, R527) -/

theorem islandBoot_not (h : s.isl.booted = true) : exec .islandBoot s = .next s := congrArg Host.Outcome.next (if_pos (by simp [h]))

theorem islandBoot_boots (hmode : s.isl.mode ≠ .cold) (h : s.isl.booted = false) :
    ∃ t, exec .islandBoot s = .next t ∧ t.isl.booted = true ∧ t.isl.fw = s.bootChoice ∧ t.isl.mboxOrder = [] ∧
      t.isl.sessions = Vector.replicate 3 none ∧ t.isl.mode = s.isl.mode ∧ SameMem s t := by
  obtain ⟨i, hi⟩ : ∃ i : IslSt, i = { s.isl with
      fw := s.bootChoice, booted := true, sessions := Vector.replicate 3 none, mboxOrder := [], kept := [] } := ⟨_, rfl⟩
  obtain ⟨u, hu⟩ : ∃ u, u = ({ s.flashSeen with isl := i } : State) := ⟨_, rfl⟩
  have hexec : exec .islandBoot s = .next u.readLog.recover.xtalStart := hu ▸ hi ▸ congrArg Host.Outcome.next (if_neg (by simp [hmode, h]))
  have hkept : BootKept u u.readLog.recover.xtalStart :=
    ((BootKept.of_isl u.readLog_keepsIsl).trans (State.recover_bootKept _)).trans (State.xtalStart_bootKept _)
  have hmem : u.mem = s.mem := by
    rw [hu]
    exact State.flashSeen_sameMem s
  refine ⟨_, hexec, hkept.booted.trans (by rw [hu, hi]), hkept.fw.trans (by rw [hu, hi]), hkept.order.trans (by rw [hu, hi]),
    hkept.sessions.trans (by rw [hu, hi]), hkept.mode.trans (by rw [hu, hi]), fun a => ?_⟩
  rw [State.xtalStart_sameMem, State.recover_sameMem, State.readLog_sameMem, hmem]

end

/-! ### The journal's commit (R522, R523, R609) -/

section
variable {s : State} {bad : Bool}

/-- A commit that writes nothing: deferred where it is too late, and HOLD is left for STANDBY. -/
def State.commitEnded (s : State) : State :=
  let hold := decide (s.isl.mode = .hold)
  { s with isl := { s.isl with
    commitDeferred := s.isl.commitDeferred || s.commitTooLate, mode := (if hold then .standby else s.isl.mode), runOn := s.isl.runOn && !hold } }

/-- A commit that comes too late is deferred. -/
def State.lateNoted (s : State) : State := if s.commitTooLate then { s with isl := { s.isl with commitDeferred := true } } else s

/-- HOLD is left for STANDBY. -/
def State.holdLeft (s : State) : State := if s.isl.mode = .hold then { s with isl := { s.isl with mode := .standby, runOn := false } } else s

theorem State.lateNoted_eq : s.lateNoted = { s with isl := { s.isl with commitDeferred := s.isl.commitDeferred || s.commitTooLate } } := by
  unfold State.lateNoted
  split
  case isTrue h => rw [h, Bool.or_true]
  case isFalse h => rw [Bool.eq_false_iff.2 h, Bool.or_false]

theorem State.lateNoted_isl : s.lateNoted.isl = { s.isl with commitDeferred := s.isl.commitDeferred || s.commitTooLate } := by
  rw [State.lateNoted_eq]

theorem State.holdLeft_lateNoted : s.lateNoted.holdLeft = s.commitEnded := by
  rw [State.lateNoted_eq, State.holdLeft, State.commitEnded]
  by_cases hold : s.isl.mode = .hold
  · rw [if_pos hold, decide_eq_true hold, Bool.not_true, Bool.and_false]
    rfl
  · rw [if_neg hold, decide_eq_false hold, Bool.not_false, Bool.and_true]
    rfl

/-- What JOURNAL_COMMIT does after the commit itself. -/
def State.committed (s1 : State) : State :=
  State.holdLeft (if s1.isl.mode = .aux ∧ s1.isl.fw.isSome ∧ s1.isl.rebuilt ∧ s1.fls.active.isNone ∧
      (s1.fls.checkpointDue ∨ s1.fls.ckptInterval + 96 ≤ s1.get R.MTR_INTERVAL) then s1.checkpoint else s1)

theorem exec_journalCommit (hup : s.islandUp = true) : exec (.journalCommit bad) s = .next (State.committed
    (if s.lateNoted.isl.fw.isNone || (s.lateNoted.isl.commitDeferred && s.lateNoted.isl.mode != .aux) then s.lateNoted
      else s.lateNoted.commitPending bad)) :=
  congrArg Host.Outcome.next (if_neg (by rw [hup]; decide))

theorem State.committed_noCheckpoint (h : s.isl.mode ≠ .aux ∨ s.isl.fw = none ∨
    (s.fls.checkpointDue = false ∧ s.get R.MTR_INTERVAL < s.fls.ckptInterval + 96)) : s.committed = s.holdLeft := by
  refine congrArg State.holdLeft (if_neg ?_)
  rintro ⟨hmode, hfw, -, -, hdue⟩
  rcases h with h | h | ⟨hnot, hlt⟩
  · exact h hmode
  · rw [h] at hfw
    exact absurd hfw (by decide)
  · rcases hdue with hdue | hle
    · rw [hnot] at hdue
      exact absurd hdue (by decide)
    · omega

/-- Where nothing is committed. -/
theorem journalCommit_ended (hup : s.islandUp = true) (hnot : s.isl.mode ≠ .aux ∨ s.isl.fw = none)
    (hsame : (s.lateNoted.isl.fw.isNone || (s.lateNoted.isl.commitDeferred && s.lateNoted.isl.mode != .aux)) = false →
      s.lateNoted.commitPending bad = s.lateNoted) : exec (.journalCommit bad) s = .next s.commitEnded := by
  have hisl := s.lateNoted_isl
  have hstays : (if s.lateNoted.isl.fw.isNone || (s.lateNoted.isl.commitDeferred && s.lateNoted.isl.mode != .aux) then s.lateNoted
      else s.lateNoted.commitPending bad) = s.lateNoted := by
    split
    case isTrue => rfl
    case isFalse h => exact hsame (Bool.eq_false_iff.2 h)
  rw [exec_journalCommit hup, hstays, State.committed_noCheckpoint (by rw [hisl]; exact hnot.imp id .inl), State.holdLeft_lateNoted]

theorem journalCommit_rom (hup : s.islandUp = true) (hfw : s.isl.fw = none) : exec (.journalCommit bad) s = .next s.commitEnded :=
  journalCommit_ended hup (.inr hfw) fun h => by simp [State.lateNoted_isl, hfw] at h

theorem journalCommit_deferred (hup : s.islandUp = true) (hmode : s.isl.mode ≠ .aux) (hdue : s.isl.commitDeferred = true ∨ s.commitTooLate = true) :
    exec (.journalCommit bad) s = .next s.commitEnded :=
  journalCommit_ended hup (.inl hmode) fun h => by rcases hdue with hdue | hdue <;> simp [State.lateNoted_isl, hmode, hdue] at h

theorem State.commitPending_nothing (hnone : s.pendingRecords = [] ∨ s.isl.rebuilt = false) (hmode : s.isl.mode ≠ .aux) : s.commitPending bad = s := by
  rcases hnone with h | h <;> simp [State.commitPending, h, hmode]

theorem journalCommit_nothing (hup : s.islandUp = true) (hnone : s.pendingRecords = [] ∨ s.isl.rebuilt = false) (hmode : s.isl.mode ≠ .aux) :
    exec (.journalCommit bad) s = .next s.commitEnded :=
  journalCommit_ended hup (.inl hmode) fun _ => State.commitPending_nothing (by rw [State.lateNoted_eq]; exact hnone)
    (by rw [State.lateNoted_isl]; exact hmode)

theorem State.commitBlock_length (kind : Nat) (recs : List Byte) : (s.commitBlock kind recs).length = 32 + recs.length := by
  unfold State.commitBlock State.rtcBytes State.frameBytes
  simp only [List.length_append, toLE_length]

/-- One chunk that fits the open sector is one block there. -/
theorem State.commitMany_one {c : List Byte} (hfits : s.fls.headLine + (32 + c.length + 63) / 64 ≤ 32) :
    s.commitMany [(0, c)] false = some (s.writeBlock (s.commitBlock 0 c)) := by
  have hroom : s.roomFor (s.commitBlock 0 c) = some s := if_neg (by rw [State.commitBlock_length]; omega)
  rw [State.commitMany, State.commitOne, hroom]
  rfl

theorem State.flashBytes_flash (s : State) (ix : Nat) (bs : List Byte) : FlashWords s (s.flashBytes ix bs) := by
  unfold State.flashBytes
  generalize List.range ((bs.length + 7) / 8) = l
  induction l generalizing s with
  | nil => exact .refl s
  | cons i l ih => exact (s.flashSet_flash _ _).trans (ih _)

/-- A block written at the head. -/
theorem State.writeBlock_effect (s : State) (bs : List Byte) :
    let t := s.writeBlock bs
    t.get R.FLS_JRNL_last_commit = (s.get R.FLS_JRNL_last_commit + 1) % 2 ^ R.FLS_JRNL_last_commit.w ∧
      t.get R.FLS_CNT_commits = satAdd R.FLS_CNT_commits.w (s.get R.FLS_CNT_commits) 1 ∧
      t.fls.headLine = s.fls.headLine + (bs.length + 63) / 64 ∧ t.fls.checkpointDue = s.fls.checkpointDue ∧
      t.fls.ckptInterval = s.fls.ckptInterval ∧
      Writes (R.FLS_JRNL_last_commit :: R.FLS_CNT_commits :: lastFields) { s with fls := t.fls } t := by
  obtain ⟨u, hu⟩ : ∃ u, u = s.flashBytes (ringLine (s.get R.FLS_RING_head) s.fls.headLine) bs := ⟨_, rfl⟩
  have hbytes : FlashWords s u := hu ▸ s.flashBytes_flash _ _
  obtain ⟨v, hv⟩ : ∃ v : State, v = { u with fls := { u.fls with headLine := s.fls.headLine + (bs.length + 63) / 64 } } := ⟨_, rfl⟩
  obtain ⟨w, hw⟩ : ∃ w, w = v.flsLast 1 0 true (s.get R.FLS_RING_head) (8 * s.fls.headLine + 3) := ⟨_, rfl⟩
  have ht : s.writeBlock bs = (w.put R.FLS_JRNL_last_commit (s.get R.FLS_JRNL_last_commit + 1)).count R.FLS_CNT_commits 1 := by
    rw [hw, hv, hu]
    rfl
  have hvs : v = { s with fls := v.fls } := by
    rw [hv, hbytes.1]
  have hlast : Writes lastFields v w := hw ▸ State.flsLast_writes _ _ _ _ _ _
  have hwfls : w.fls = v.fls := hlast.1.fls
  have hcommits : w.get R.FLS_CNT_commits = s.get R.FLS_CNT_commits := by
    rw [hlast.2 _ (by decide), hvs]
    rfl
  intro t
  rw [show t = _ from ht]
  have hfls : ((w.put R.FLS_JRNL_last_commit (s.get R.FLS_JRNL_last_commit + 1)).count R.FLS_CNT_commits 1).fls = v.fls := by
    rw [State.count_fls, State.put_fls, hwfls]
  rw [hfls]
  refine ⟨?_, ?_, by rw [hv], ?_, ?_, ?_⟩
  · exact ((State.count_writes _ _ _).2 _ (by decide)).trans (State.get_put_same ..)
  · rw [State.get_count_same, State.get_put_other _ _ _ _ (by decide), hcommits]
  · rw [hv, hbytes.2]
  · rw [hv, hbytes.2]
  · rw [← hvs]
    exact (hlast.mono fun f hf => by simp [hf]).trans (((State.put_writes _ _ _).mono (by simp)).trans ((State.count_writes _ _ _).mono (by simp)))

theorem Writes.withIslMtrFls {s u : State} {l : List Fld} (h : Writes l { s with fls := u.fls } u) (i : IslSt) (m : MtrSt) (f : FlsSt) :
    Writes l { s with isl := i, mtr := m, fls := f } { u with isl := i, mtr := m, fls := f } := ⟨by rw [h.1]; rfl, h.2⟩

/-- What a commit of one chunk in AUX writes. -/
theorem journalCommit_chunk (hup : s.islandUp = true) (hfw : s.isl.fw ≠ none) {c : List Byte} (hchunk : chunkRecords s.pendingRecords = [c])
    (hmode : s.isl.mode = .aux) (hrebuilt : s.isl.rebuilt = true) (hactive : s.fls.active = none) (hckpt : s.fls.checkpointDue = false)
    (hinterval : s.get R.MTR_INTERVAL < s.fls.ckptInterval + 96) (hfits : s.fls.headLine + (32 + c.length + 63) / 64 ≤ 32) :
    ∃ t, exec (.journalCommit false) s = .next t ∧ t.isl.records = [] ∧ t.isl.commitDeferred = false ∧ t.mtr.committed = s.mtr.totals ∧
      t.get R.FLS_JRNL_last_commit = (s.get R.FLS_JRNL_last_commit + 1) % 2 ^ R.FLS_JRNL_last_commit.w ∧
      t.get R.FLS_CNT_commits = satAdd R.FLS_CNT_commits.w (s.get R.FLS_CNT_commits) 1 ∧
      t.fls.headLine = s.fls.headLine + (32 + c.length + 63) / 64 ∧
      Writes [R.FLS_JRNL_last_commit, R.FLS_CNT_commits, R.FLS_LAST_cmd, R.FLS_LAST_result, R.FLS_LAST_bank, R.FLS_LAST_sector, R.FLS_LAST_word]
        { s with isl := t.isl, mtr := t.mtr, fls := t.fls } t := by
  have hlate : s.lateNoted = s := if_neg (by simp [State.commitTooLate, hmode])
  have hpending : s.pendingRecords.isEmpty = false := by
    cases h : s.pendingRecords with
    | nil => rw [h] at hchunk; cases hchunk
    | cons r rs => rfl
  obtain ⟨hcommit, hcount, hline, hdue, hckptInterval, hwrites⟩ := s.writeBlock_effect (s.commitBlock 0 c)
  obtain ⟨u, hu⟩ : ∃ u, u = s.writeBlock (s.commitBlock 0 c) := ⟨_, rfl⟩
  rw [← hu] at hcommit hcount hline hdue hckptInterval hwrites
  rw [State.commitBlock_length] at hline
  have hmtr : u.mtr = s.mtr := by rw [hwrites.1]
  have hisl : u.isl = s.isl := by rw [hwrites.1]
  obtain ⟨t, ht⟩ : ∃ t, t = State.markCommitted { u with isl := { u.isl with commitDeferred := false } } := ⟨_, rfl⟩
  have hpend : s.commitPending false = t := by
    rw [State.commitPending, hrebuilt, hpending, State.meanwhile_idle hactive, State.writePending, State.programAllowed, hmode, hchunk, List.map_cons,
      List.map_nil, State.commitMany_one hfits, ht, hu]
    rfl
  have hinter : t.get R.MTR_INTERVAL = s.get R.MTR_INTERVAL := by
    rw [ht]
    exact hwrites.2 _ (by decide)
  have hexec : exec (.journalCommit false) s = .next t := by
    have hgo : ¬ (s.isl.fw.isNone || (s.isl.commitDeferred && s.isl.mode != .aux)) = true := by simp [hfw, hmode]
    rw [exec_journalCommit hup, hlate, if_neg hgo, hpend, State.committed_noCheckpoint, State.holdLeft, if_neg]
    · rw [ht]
      show ¬ u.isl.mode = _
      rw [hisl, hmode]
      decide
    · refine .inr (.inr ⟨?_, ?_⟩)
      · rw [ht]
        exact hdue.trans hckpt
      · rw [hinter, ht]
        exact hinterval.trans_eq (congrArg (· + 96) hckptInterval).symm
  refine ⟨t, hexec, by rw [ht]; rfl, by rw [ht]; rfl, ?_, ?_, ?_, ?_, ?_⟩
  · rw [ht]
    exact congrArg MtrSt.totals hmtr
  · rw [ht]
    exact hcommit
  · rw [ht]
    exact hcount
  · rw [ht]
    exact hline
  · rw [ht]
    exact hwrites.withIslMtrFls _ _ _

end

/-- Settles O58. The island's supplies, boot and commit; the mailbox's turn, the end of a command and each command's body; the M-Bus slave's
frames, with the rate, the answer and its count said once. -/
theorem islandMailboxAndMeterBus : Obligations.IslandMailboxAndMeterBus := by
  refine ⟨fun s => ⟨supplies_cold, fun hmode => ⟨budgetSample_samples hmode, battLow_sets hmode, battLow_clears hmode, battNewCell_resets hmode,
    vholdExhausted_not, vholdExhausted_cold hmode, islandBoot_not, islandBoot_boots hmode⟩, fun bad => ⟨?_, journalCommit_rom,
    journalCommit_deferred, fun hup hfw => ⟨journalCommit_nothing hup, ?_⟩⟩⟩, fun k s => ⟨fun status data => s.mboxEnd_effect k status data, ?_,
    fwWrite_busy, mboxUnknownCommand_ends, getInfo_ends, regRead_ends, regWrite_ends, fwWrite_ends, fwCommit_ends, fwActivate_restarts,
    sealAdvance_ends, revoke_ends, fun n hn h => provision_ends hn h⟩, fun rate addr value ci fcb sec s => ⟨fun hdown =>
    exec_mbus_down hdown value ci fcb sec, fun hup => ⟨mbusFrameDiscard_counts hup, mbus_others_silent hup, selection_answers hup,
    selection_deselects hup⟩, fun h => ⟨sndNke_answers h, ?_, ?_, ?_, setPrimaryAddress_answers h, fun hno =>
    State.rated_sets (exec_setPrimaryAddress_not h hno), fun h255 => State.rated_sets (exec_reqUd2_broadcast h h255), fun hne =>
    reqUd2_answers h hne⟩⟩⟩
  · exact fun hdown => congrArg Host.Outcome.next (if_pos (by rw [hdown]; rfl))
  · rintro c hchunk hmode hrebuilt hactive rfl hckpt hinterval hfits
    exact journalCommit_chunk hup hfw hchunk hmode hrebuilt hactive hckpt hinterval hfits
  · intro x hx
    have hrow : RefusesFirst k s x.1 x.2.1 x.2.2 := by
      revert x
      simp only [List.forall_mem_cons, List.not_mem_nil, false_imp_iff, implies_true, and_true]
      exact ⟨refusesFirst_of_serve rfl, refusesFirst_of_serve rfl, refusesFirst_of_serve rfl, fwWrite_refusesFirst, refusesFirst_of_serve rfl,
        refusesFirst_of_serve rfl, refusesFirst_of_serve rfl, refusesFirst_of_serve rfl⟩
    exact hrow
  · exact answers_rated (exec_reqUd1 h)
  · obtain ⟨t, hans, hisl, -⟩ := applicationReset_answers (rate := rate) h []
    exact ⟨t, hans, hisl⟩
  · exact fun hfw hlo hhi => answers_rated (exec_setBaudRate h hfw hlo hhi)

end Sys2Proof.Machine
end

section
/-!
PROOFS. Metering (R563–R585), first part: calibration writes and the lock, the clock, and what a metering event writes.
-/

namespace Sys2Proof.Machine

/-! ### What metering writes -/

/-- The listed fields, and records not yet committed. -/
def Notes (l : List Fld) (s t : State) : Prop :=
  t = { s with regs := t.regs, isl := { s.isl with records := t.isl.records } } ∧ FieldsBut l s t

section
variable {s t u : State} {l m : List Fld}

theorem Notes.refl (l : List Fld) (s : State) : Notes l s s := ⟨rfl, fun _ _ => rfl⟩

theorem Notes.trans (h1 : Notes l s t) (h2 : Notes l t u) : Notes l s u :=
  ⟨by rw [h2.1, h1.1], fun g hg => (h2.2 g hg).trans (h1.2 g hg)⟩

theorem Notes.mono (h : Notes l s t) (hlm : ∀ f ∈ l, f ∈ m) : Notes m s t := ⟨h.1, fun g hg => h.2 g fun f hf => hg f (hlm f hf)⟩

theorem Writes.notes (h : Writes l s t) : Notes l s t := ⟨by rw [h.1], h.2⟩

theorem Notes.mtr (h : Notes l s t) : t.mtr = s.mtr := by rw [h.1]

theorem Notes.mode (h : Notes l s t) : t.isl.mode = s.isl.mode := by rw [h.1]

/-- A calibration value does not change with other fields. -/
theorem State.cal_congr {f : Fld} (hpending : t.mtr.calPending = s.mtr.calPending) (hget : t.get f = s.get f) : t.cal f = s.cal f := by
  rw [State.cal, State.cal, hpending, hget]

theorem Notes.cal (h : Notes l s t) {f : Fld} (hf : ∀ g ∈ l, f.key ≠ g.key) : t.cal f = s.cal f :=
  State.cal_congr (by rw [h.mtr]) (h.2 f hf)

theorem State.record_notes (s : State) (r : JRecord) : Notes l s (s.record r) := ⟨rfl, fun _ _ => rfl⟩

/-- An event's onset or clear writes its two registers, and a record. -/
theorem State.mtrEvent_notes (s : State) (b : Nat) (onset : Bool) : Notes [R.MTR_EVT, R.MTR_EVT_ACT] s (s.mtrEvent b onset) := by
  unfold State.mtrEvent
  split
  · exact .refl _ s
  · dsimp only
    refine Notes.trans ?_ (State.record_notes _ _)
    have hevt : Writes [R.MTR_EVT, R.MTR_EVT_ACT] s (s.setBit R.MTR_EVT b) := (s.put_writes _ _).mono (by simp)
    split
    · exact (hevt.trans ((State.put_writes _ _ _).mono (by simp))).notes
    · exact (hevt.trans ((State.put_writes _ _ _).mono (by simp))).notes

/-- An event that may be noted. -/
theorem Notes.ite (c : Prop) [Decidable c] (ht : Notes l s t) (hu : Notes l s u) : Notes l s (if c then t else u) := by
  split
  · exact ht
  · exact hu

end

/-! ### Metering off, and STANDBY -/

section
variable {s : State}

theorem unmetered (h : s.metering = false) :
    (∀ c d u, exec (.flowMeasurement c d u) s = .next s) ∧ (∀ c, exec (.swapBlockEnd c) s = .next s) ∧ exec .flowCycleEnd s = .next s ∧
    (∀ v, exec (.tempCycleEnd v) s = .next s) ∧ (∀ v, exec (.railSample v) s = .next s) ∧
    (∀ a b c d e f, exec (.bindingMessage a b c d e f) s = .next s) ∧ (∀ f, exec (.islandFrameMark f) s = .next s) ∧
    (∀ f n l, exec (.contextMark f n l) s = .next s) ∧ exec .markExpiry s = .next s ∧ exec .heatSplit s = .next s ∧
    exec .intervalEnd s = .next s ∧ (∀ v, exec (.rtcSet v) s = .next s) := by
  have hnot : (!s.metering) = true := by rw [h]; rfl
  have hor (b : Bool) : (!s.metering || b) = true := by rw [h]; rfl
  exact ⟨fun _ _ _ => congrArg Host.Outcome.next (if_pos (hor _)), fun _ => congrArg Host.Outcome.next (if_neg (by simp [h])),
    congrArg Host.Outcome.next (if_pos hnot), fun _ => congrArg Host.Outcome.next (if_pos hnot), fun _ => congrArg Host.Outcome.next (if_pos (hor _)),
    fun _ _ _ _ _ _ => congrArg Host.Outcome.next (if_pos (hor _)), fun _ => congrArg Host.Outcome.next (if_pos (hor _)),
    fun _ _ _ => congrArg Host.Outcome.next (if_pos (hor _)), congrArg Host.Outcome.next (if_pos hnot), congrArg Host.Outcome.next (if_pos hnot),
    congrArg Host.Outcome.next (if_neg (by simp [h])), fun _ => congrArg Host.Outcome.next (if_pos hnot)⟩

/-- What the link carries is ignored while it is isolated (R54). -/
theorem unlinked (h : s.linkOpen = false) : (∀ a b c d e f, exec (.bindingMessage a b c d e f) s = .next s) ∧
    (∀ f, exec (.islandFrameMark f) s = .next s) ∧ (∀ f n l, exec (.contextMark f n l) s = .next s) := by
  have hor : (!s.metering || !s.linkOpen) = true := by rw [h]; exact Bool.or_true _
  exact ⟨fun _ _ _ _ _ _ => congrArg Host.Outcome.next (if_pos hor), fun _ => congrArg Host.Outcome.next (if_pos hor),
    fun _ _ _ => congrArg Host.Outcome.next (if_pos hor)⟩

end

/-! ### Calibration (R575) -/

section
variable {s : State}

/-- The fields of a calibration register are apart from each other and from the count of writes. -/
def calFieldsApart (off : Nat) : Bool :=
  decide (((fieldsAt (0x410000 + off)).map Fld.key).Nodup) && (fieldsAt (0x410000 + off)).all (fun f => f.key != R.MTR_CAL_CNT.key)

theorem calOffsets_apart : ∀ off ∈ calOffsets, calFieldsApart off = true := by decide

/-- A register word is its fields put in turn. -/
theorem State.setRegWord_puts (s : State) (off w : Nat) : s.setRegWord off w = s.puts ((fieldsAt off).map fun f => (f, bits w f.lo f.w)) := by
  rw [State.setRegWord, State.puts, List.foldl_map]

/-- CAL_LOCK sets (R575, R610). -/
theorem calLock_sets (h : s.get R.MTR_CAL_LOCK_lock = 0) : ∃ t, exec .calLock s = .next t ∧ t.get R.MTR_CAL_LOCK_lock = 1 ∧
    t.get R.MTR_CAL_CNT = satAdd R.MTR_CAL_CNT.w (s.get R.MTR_CAL_CNT) 1 ∧ t.isl.records.length = s.isl.records.length + 1 ∧
    Writes [R.MTR_CAL_LOCK_lock, R.MTR_CAL_CNT] { s with isl := t.isl } t := by
  obtain ⟨u, hu⟩ : ∃ u, u = (s.put R.MTR_CAL_LOCK_lock 1).count R.MTR_CAL_CNT 1 := ⟨_, rfl⟩
  have hwrites : Writes [R.MTR_CAL_LOCK_lock, R.MTR_CAL_CNT] s u :=
    hu ▸ ((s.put_writes _ _).mono (by simp)).trans ((State.count_writes _ _ _).mono (by simp))
  have hlock : u.get R.MTR_CAL_LOCK_lock = 1 := by
    rw [hu, (State.count_writes _ _ _).2 _ (by decide)]
    exact State.get_put_same ..
  have hcount : u.get R.MTR_CAL_CNT = satAdd R.MTR_CAL_CNT.w (s.get R.MTR_CAL_CNT) 1 := by
    rw [hu, State.get_count_same, State.get_put_other _ _ _ _ (by decide)]
  have hexec : exec .calLock s = .next (u.record (s.calRecord 0x1C 0 1)) := hu ▸ congrArg Host.Outcome.next (if_neg (by rw [h]; decide))
  refine ⟨_, hexec, hlock, hcount, ?_, hwrites.withIsl _⟩
  show (u.isl.records ++ _).length = _
  rw [List.length_append, hwrites.isl]
  rfl

theorem calWrite_not {off : BitVec 12} (h : off.toNat ∉ calOffsets) (v : Word) : exec (.calWrite off v) s = .next s :=
  congrArg Host.Outcome.next (if_pos (by simp [h]))

/-- A register's fields take their bits of a word. -/
theorem State.setRegWord_get (s : State) {off w : Nat} (hapart : ((fieldsAt off).map Fld.key).Nodup) {f : Fld} (hf : f ∈ fieldsAt off) :
    (s.setRegWord off w).get f = bits w f.lo f.w := by
  rw [State.setRegWord_puts]
  refine (s.get_puts_mem (fieldsAt off) (by simp [Function.comp_def]) hapart (p := (f, bits w f.lo f.w)) (List.mem_map.2 ⟨f, hf, rfl⟩)).trans ?_
  exact Nat.mod_eq_of_lt (bits_lt ..)

theorem State.setRegWord_writes (s : State) (off w : Nat) : Writes (fieldsAt off) s (s.setRegWord off w) := by
  have h := s.puts_writes ((fieldsAt off).map fun f => (f, bits w f.lo f.w))
  rw [← State.setRegWord_puts, List.map_map] at h
  exact h.mono (by simp [Function.comp_def])

/-- A calibration register written takes its fields, and is counted (R575). -/
def State.calPut (s : State) (off w : Nat) : State := (s.setRegWord (0x410000 + off) w).count R.MTR_CAL_CNT 1

theorem State.calPut_effect (s : State) {off : Nat} (w : Nat) (hoff : off ∈ calOffsets) :
    let l := fieldsAt (0x410000 + off)
    (∀ f ∈ l, (s.calPut off w).get f = bits w f.lo f.w) ∧
      (s.calPut off w).get R.MTR_CAL_CNT = satAdd R.MTR_CAL_CNT.w (s.get R.MTR_CAL_CNT) 1 ∧ Writes (R.MTR_CAL_CNT :: l) s (s.calPut off w) := by
  obtain ⟨hnodup, hcount⟩ := Bool.and_eq_true_iff.1 (calOffsets_apart off hoff)
  have hapart : ∀ f ∈ fieldsAt (0x410000 + off), f.key ≠ R.MTR_CAL_CNT.key := fun f hf => by simpa using List.all_eq_true.1 hcount f hf
  have hset := s.setRegWord_writes (0x410000 + off) w
  have hcounted := (s.setRegWord (0x410000 + off) w).count_writes R.MTR_CAL_CNT 1
  refine ⟨fun f hf => ?_, ?_, (hset.mono fun f hf => List.mem_cons_of_mem _ hf).trans (hcounted.mono (by simp))⟩
  · refine (hcounted.2 f (by simpa using hapart f hf)).trans ?_
    exact s.setRegWord_get (of_decide_eq_true hnodup) hf
  · rw [State.calPut, State.get_count_same, hset.2 _ fun f hf => (hapart f hf).symm]

/-- A write of a flow channel's K takes its offset estimate away. -/
theorem calWrite_writes (hlock : s.get R.MTR_CAL_LOCK_lock = 0) (off : BitVec 12) (v : Word) (hoff : off.toNat ∈ calOffsets)
    (hnot : off.toNat ≠ 0x1C) :
    let l := fieldsAt (0x410000 + off.toNat)
    ∃ t, exec (.calWrite off v) s = .next t ∧ (∀ f ∈ l, t.get f = bits v.toNat f.lo f.w) ∧
      t.get R.MTR_CAL_CNT = satAdd R.MTR_CAL_CNT.w (s.get R.MTR_CAL_CNT) 1 ∧ t.isl.records.length = s.isl.records.length + 1 ∧
      (∀ n : Fin 2, t.chan n = { s.chan n with estimated := (s.chan n).estimated && off.toNat != 0x24 + 0x20 * n.val }) ∧
      Writes (R.MTR_CAL_CNT :: l) { s with isl := t.isl, mtr := t.mtr } t := by
  obtain ⟨hfields, hcount, hwrites⟩ := s.calPut_effect v.toNat hoff
  obtain ⟨u, hu⟩ : ∃ u, u = s.calPut off.toNat v.toNat := ⟨_, rfl⟩
  rw [← hu] at hfields hcount hwrites
  have hunest (c : ChanSt) (n : Nat) : (if off.toNat = 0x24 + 0x20 * n then { c with estimated := false } else c) =
      { c with estimated := c.estimated && off.toNat != 0x24 + 0x20 * n } := by
    split
    case isTrue h => rw [h, bne_self_eq_false, Bool.and_false]
    case isFalse h => rw [bne_iff_ne.2 h, Bool.and_true]
  obtain ⟨r, hr⟩ : ∃ r, r = u.calRecord off.toNat (s.regWord (0x410000 + off.toNat)) (u.regWord (0x410000 + off.toNat)) := ⟨_, rfl⟩
  have hexec : ∃ pend, exec (.calWrite off v) s = .next { u.record r with mtr := { u.mtr with
      calPending := pend,
      chans := #v[if off.toNat = 0x24 + 0x20 * 0 then { u.mtr.chans[0] with estimated := false } else u.mtr.chans[0],
        if off.toNat = 0x24 + 0x20 * 1 then { u.mtr.chans[1] with estimated := false } else u.mtr.chans[1]] } } := by
    rw [hr, hu]
    exact ⟨_, congrArg Host.Outcome.next (if_neg (by simp [hoff, hnot, hlock]))⟩
  obtain ⟨pend, hexec⟩ := hexec
  have hmtr : u.mtr = s.mtr := by rw [hwrites.1]
  refine ⟨_, hexec, hfields, hcount, ?_, fun n => ?_, ?_⟩
  · show (u.isl.records ++ _).length = _
    rw [List.length_append, hwrites.isl]
    rfl
  · rw [hmtr, hunest, hunest]
    match n with
    | 0 => rfl
    | 1 => rfl
  · exact ⟨by rw [hwrites.1]; rfl, hwrites.2⟩

end

/-! ### The clock (R571) -/

section
variable {s : State}

theorem rtcSecond_cold (h : s.isl.mode = .cold) : exec .rtcSecond s = .next s := congrArg Host.Outcome.next (if_pos h)

/-- A second counted without horizon time to compare it with. -/
theorem rtcSecond_counts (hmode : s.isl.mode ≠ .cold)
    (h : s.metering = false ∨ s.linkOpen = false ∨ s.hzn.lock ≠ .locked ∨ s.cal R.MTR_EPOCH = 0) :
    Sets .rtcSecond R.MTR_RTC ((s.get R.MTR_RTC + 1) % 2 ^ 32) s := by
  obtain ⟨u, hu⟩ : ∃ u, u = s.put R.MTR_RTC (s.get R.MTR_RTC + 1) := ⟨_, rfl⟩
  have hwrites : Writes [R.MTR_RTC] s u := hu ▸ s.put_writes _ _
  have hcal : u.cal R.MTR_EPOCH = s.cal R.MTR_EPOCH := hwrites.notes.cal (by decide)
  have hmetering : u.metering = s.metering := by rw [hu]; rfl
  have hlink : u.linkOpen = s.linkOpen := by rw [hu]; rfl
  have hlock : u.hzn = s.hzn := by rw [hu]; rfl
  have hnot (b : Bool) : ¬ (u.metering && u.linkOpen && u.hzn.lock == .locked && u.cal R.MTR_EPOCH != 0 && b) = true := by
    rw [hcal, hmetering, hlink, hlock]
    rcases h with h | h | h | h <;> simp [h]
  exact ⟨u, hu ▸ congrArg Host.Outcome.next ((if_neg hmode).trans (if_neg (hu ▸ hnot _))), hwrites, hu ▸ State.get_put_same ..⟩

end

end Sys2Proof.Machine
end

section
/-!
PROOFS. Metering, second part: transits and blocks of measurements (R552–R555).
-/

namespace Sys2Proof.Machine

/-! ### A channel's state -/

section
variable (s : State) (n : Fin 2) (c : ChanSt)

@[simp] theorem State.chan_setChan_same : (s.setChan n c).chan n = c := Vector.getElem_set_self _

theorem State.chan_setChan_other {k : Fin 2} (h : k ≠ n) : (s.setChan n c).chan k = s.chan k :=
  Vector.getElem_set_ne n.isLt k.isLt fun e => h (Fin.ext e.symm)

@[simp] theorem State.setChan_setChan (d : ChanSt) : (s.setChan n c).setChan n d = s.setChan n d := by
  show ({ s with mtr := { s.mtr with chans := (s.mtr.chans.set n c).set n d } } : State) = _
  rw [Vector.set_set]
  rfl

theorem State.setChan_mtr : s.setChan n c = { s with mtr := { s.mtr with chans := (s.setChan n c).mtr.chans } } := rfl

theorem State.transitOk_setChan (k : Nat) (stop : Option Int) : (s.setChan n c).transitOk k stop = s.transitOk k stop := rfl

end

/-- What is written does not depend on what has been measured. -/
theorem Writes.withMtr {s t : State} {l : List Fld} (h : Writes l s t) (m : MtrSt) : Writes l { s with mtr := m } { t with mtr := m } :=
  ⟨by rw [h.1]; rfl, h.2⟩

/-! ### Transits (R553) -/

section
variable {s : State} {n : Fin 2}

theorem State.transit_valid {stop : Option Int} (h : s.transitOk n.val stop = true) : s.transit n stop = s.setChan n { s.chan n with invalidRun := 0 } :=
  if_pos h

/-- A missing echo before the sixteenth in a row. -/
theorem State.transit_missing (h : (s.chan n).invalidRun + 1 < 16) : s.transit n none =
    (s.setChan n { s.chan n with invalidRun := (s.chan n).invalidRun + 1, validRun := 0 }).count (R.MTR_CH_CNT_invalid n.val) 1 := by
  unfold State.transit
  dsimp only
  rw [if_neg (by simp [State.transitOk]), if_neg (by omega)]

theorem State.count_setChan (s : State) (f : Fld) (k : Nat) (c : ChanSt) : (s.count f k).setChan n c = (s.setChan n c).count f k := rfl

theorem State.chan_count (s : State) (f : Fld) (k : Nat) : (s.count f k).chan n = s.chan n := rfl

end

/-! ### FLOW_MEASUREMENT (R552–R555) -/

section
variable {s : State} {n : Fin 2}

theorem flowMeasurement_off (h : s.cal (R.MTR_CH_K n.val) = 0) (d u : Option Int) : exec (.flowMeasurement n d u) s = .next s :=
  congrArg Host.Outcome.next (if_pos (by rw [h]; exact Bool.or_true _))

variable (hmetering : s.metering = true) (hon : s.cal (R.MTR_CH_K n.val) ≠ 0)
variable (hroom : (s.chan n).swapped = false ∨ (s.chan n).blockCount < 64)
include hmetering hon hroom

theorem flowMeasurement_valid {d u : Int} (hd : s.transitOk n.val (some d) = true) (hu : s.transitOk n.val (some u) = true)
    (hrun : (s.chan n).validRun + 1 < 8) :
    let c := { s.chan n with invalidRun := 0 }
    ∃ t, exec (.flowMeasurement n (some d) (some u)) s = .next t ∧ (∀ k, k ≠ n → t.chan k = s.chan k) ∧
      t.chan n = { c.measured true (u - d) with cycle := c.cycle ++ [(c.swapped, u, d)], validRun := c.validRun + 1 } ∧
      t = { s with mtr := { s.mtr with chans := t.mtr.chans } } := by
  intro c
  have hs0 : (if (s.chan n).swapped && decide (64 ≤ (s.chan n).blockCount) then s.swapEnd n else s) = s :=
    if_neg (by rcases hroom with h | h <;> simp [h])
  have hs1 : (s.transit n (some d)).transit n (some u) = s.setChan n c := by
    rw [State.transit_valid hd, State.transit_valid (by rw [State.transitOk_setChan]; exact hu), State.chan_setChan_same, State.setChan_setChan]
  obtain ⟨c1, hc1⟩ : ∃ c1 : ChanSt, c1 = { c.measured true (u - d) with cycle := c.cycle ++ [(c.swapped, u, d)], validRun := c.validRun + 1 } := ⟨_, rfl⟩
  have hexec : exec (.flowMeasurement n (some d) (some u)) s = .next (s.setChan n c1) := by
    show execFlowMeasurement n (some d) (some u) s = _
    rw [execFlowMeasurement, if_neg (by simp [hmetering, hon]), hs0]
    dsimp only
    rw [hs1, hd, hu, State.chan_setChan_same, State.setChan_setChan]
    exact congrArg Host.Outcome.next ((if_pos rfl).trans ((if_neg (Nat.not_le.2 hrun)).trans (by rw [hc1])))
  exact ⟨_, hexec, fun k hk => s.chan_setChan_other n c1 hk, (s.chan_setChan_same n c1).trans hc1, s.setChan_mtr n c1⟩

theorem flowMeasurement_missing (hrun : (s.chan n).invalidRun + 2 < 16) :
    let c := { s.chan n with invalidRun := (s.chan n).invalidRun + 2, validRun := 0 }
    ∃ t, exec (.flowMeasurement n none none) s = .next t ∧ t.chan n = c.measured false 0 ∧ (∀ k, k ≠ n → t.chan k = s.chan k) ∧
      t.get (R.MTR_CH_CNT_invalid n.val) = satAdd 16 (s.get (R.MTR_CH_CNT_invalid n.val)) 2 ∧
      Writes [R.MTR_CH_CNT_invalid n.val] { s with mtr := t.mtr } t := by
  intro c
  have hs0 : (if (s.chan n).swapped && decide (64 ≤ (s.chan n).blockCount) then s.swapEnd n else s) = s :=
    if_neg (by rcases hroom with h | h <;> simp [h])
  obtain ⟨u, hu⟩ : ∃ u, u = (s.count (R.MTR_CH_CNT_invalid n.val) 1).count (R.MTR_CH_CNT_invalid n.val) 1 := ⟨_, rfl⟩
  have hs1 : (s.transit n none).transit n none = u.setChan n c := by
    obtain ⟨v, hv⟩ : ∃ v, v = s.transit n none := ⟨_, rfl⟩
    have hfirst := hv.trans (State.transit_missing (by omega))
    have hchan : v.chan n = { s.chan n with invalidRun := (s.chan n).invalidRun + 1, validRun := 0 } := by
      rw [hfirst, State.chan_count, State.chan_setChan_same]
    rw [← hv, State.transit_missing (by rw [hchan]; exact hrun), hchan, hfirst, State.count_setChan, State.setChan_setChan, hu]
    rfl
  have hexec : exec (.flowMeasurement n none none) s = .next (u.setChan n (c.measured false 0)) := by
    show execFlowMeasurement n none none s = _
    rw [execFlowMeasurement, if_neg (by simp [hmetering, hon]), hs0]
    dsimp only
    rw [hs1, State.chan_setChan_same, State.setChan_setChan]
  have hcount : u.get (R.MTR_CH_CNT_invalid n.val) = satAdd 16 (s.get (R.MTR_CH_CNT_invalid n.val)) 2 := by
    rw [hu, State.get_count_same, State.get_count_same]
    show satAdd 16 (satAdd 16 _ 1) 1 = _
    unfold satAdd
    split_ifs <;> omega
  have hwrites : Writes [R.MTR_CH_CNT_invalid n.val] s u := hu ▸ (s.count_writes _ _).trans (State.count_writes _ _ _)
  have hchan : u.chan = s.chan := by rw [hu]; rfl
  refine ⟨_, hexec, State.chan_setChan_same .., fun k hk => ?_, hcount, ?_⟩
  · rw [State.chan_setChan_other _ _ _ hk, hchan]
  · exact hwrites.withMtr _

end

/-! ### SWAP_BLOCK_END (R554) -/

section
variable {s : State} {n : Fin 2}

/-- A block's sums start afresh, in a normal block. -/
def ChanSt.fresh (c : ChanSt) : ChanSt := { c with swapped := false, blockCount := 0, blockValid := 0, blockSum := 0 }

theorem swapBlockEnd_early (h : (s.chan n).swapped = false ∨ (s.chan n).blockCount < 64) : exec (.swapBlockEnd n) s = .next s :=
  congrArg Host.Outcome.next (if_neg (by rcases h with h | h <;> simp [h]))

variable (hmetering : s.metering = true) (hswapped : (s.chan n).swapped = true) (hfull : 64 ≤ (s.chan n).blockCount)
include hmetering hswapped hfull

theorem exec_swapBlockEnd : exec (.swapBlockEnd n) s = .next (s.swapEnd n) := congrArg Host.Outcome.next (if_pos (by simp [hmetering, hswapped, hfull]))

theorem swapBlockEnd_unused (h : (s.chan n).normalMean = none ∨ (s.chan n).blockValid < 32) :
    exec (.swapBlockEnd n) s = .next (s.setChan n (s.chan n).fresh) := by
  refine (exec_swapBlockEnd hmetering hswapped hfull).trans (congrArg _ ?_)
  unfold State.swapEnd
  dsimp only
  split
  case h_1 dn hmean => exact if_pos (h.resolve_left (by rw [hmean]; simp))
  case h_2 => rfl

omit hmetering hswapped hfull in
/-- The first estimate within the limits. -/
theorem State.swapEnd_near {dn o : Rat} (hmean : (s.chan n).normalMean = some dn) (hvalid : 32 ≤ (s.chan n).blockValid)
    (ho : (dn - ((s.chan n).blockSum : Rat) / (s.chan n).blockValid) / 2 = o) (hle : o ≤ 200) (hge : -200 ≤ o)
    (hest : (s.chan n).estimated = false) (hclear : (s.chan n).offsetClear + 1 < 4) (hevt : s.evtActive (14 + n.val) = false) :
    s.swapEnd n = (s.setChan n { (s.chan n).fresh with
      offset := o, estimated := true, offsetRun := 0, offsetClear := (s.chan n).offsetClear + 1 }).put
        (R.MTR_CH_OFS_EST n.val) (fromSigned 16 (roundRat (10 * o))) := by
  have hfar : decide (200 < o ∨ o < -200) = false := decide_eq_false (by rintro (h | h) <;> linarith)
  unfold State.swapEnd
  dsimp only
  split
  case h_2 hnone => rw [hmean] at hnone; cases hnone
  case h_1 dn' hmean' =>
    obtain rfl : dn = dn' := Option.some.inj (hmean.symm.trans hmean')
    rw [if_neg (by omega : ¬ (s.chan n).blockValid < 32), ho, hfar, hest]
    simp only [Bool.false_eq_true, false_and, if_false, Bool.not_false, true_and, Nat.not_le.2 hclear]
    have hquiet (d : ChanSt) : ¬ (s.setChan n d).evtActive (14 + n.val) = true := Bool.eq_false_iff.1 hevt
    rw [if_neg (hquiet _), State.chan_setChan_same, State.setChan_setChan]
    rfl

/-- The first offset estimate, made from a good pair of blocks. -/
theorem swapBlockEnd_estimates {dn : Rat} (hmean : (s.chan n).normalMean = some dn) (hvalid : 32 ≤ (s.chan n).blockValid) :
    let c := s.chan n
    let o : Rat := (dn - (c.blockSum : Rat) / c.blockValid) / 2
    o ≤ 200 → -200 ≤ o → c.estimated = false → c.offsetClear + 1 < 4 → s.evtActive (14 + n.val) = false →
      ∃ t, exec (.swapBlockEnd n) s = .next t ∧
        t.chan n = { c.fresh with offset := o, estimated := true, offsetRun := 0, offsetClear := c.offsetClear + 1 } ∧
        t.get (R.MTR_CH_OFS_EST n.val) = fromSigned 16 (roundRat (10 * o)) ∧
        Writes [R.MTR_CH_OFS_EST n.val] { s with mtr := t.mtr } t := by
  intro c o hle hge hest hclear hevt
  have hswap := State.swapEnd_near hmean hvalid rfl hle hge hest hclear hevt
  refine ⟨_, (exec_swapBlockEnd hmetering hswapped hfull).trans (congrArg _ hswap), State.chan_setChan_same .., ?_, State.put_writes _ _ _⟩
  exact (State.get_put_same ..).trans (fromSigned_mod 16 _)

end

end Sys2Proof.Machine
end

section
/-!
PROOFS. Metering, third part: temperatures (R560), the end of a flow cycle (R555–R562) and rail samples (R563).
-/

namespace Sys2Proof.Machine

/-! ### Calibrated readings (R558) -/

/-- What metering writes of events and readings. -/
def readingFields : List Fld :=
  [R.MTR_EVT, R.MTR_EVT_ACT] ++ (List.range 4).map R.MTR_TEMP ++ (List.range 4).flatMap (fun r => [R.MTR_RAIL_V r, R.MTR_RAIL_I r])

theorem readingFields_cal : ∀ x < 14, ∀ f ∈ readingFields, (R.MTR_GAIN x).key ≠ f.key ∧ (R.MTR_OFS x).key ≠ f.key := by decide

theorem readingFields_shunt : ∀ r : Fin 4, ∀ f ∈ readingFields, (R.MTR_RAIL_SHUNT r.val).key ≠ f.key := by decide

/-- A reading does not change the calibration of another. -/
theorem Notes.corrected {s t : State} (h : Notes readingFields s t) {x : Nat} (hx : x < 14) (raw unit : Rat) :
    t.corrected x raw unit = s.corrected x raw unit := by
  rw [State.corrected, State.corrected, h.cal fun f hf => (readingFields_cal x hx f hf).1, h.cal fun f hf => (readingFields_cal x hx f hf).2]

/-! ### Temperatures (R560) -/

section
variable (s : State) (n : Fin 4)

theorem State.sensor_setSensor_same (x : SensorSt) : (s.setSensor n x).sensor n = x := Vector.getElem_set_self _

theorem State.sensor_setSensor_other (x : SensorSt) {k : Fin 4} (h : k ≠ n) : (s.setSensor n x).sensor k = s.sensor k :=
  Vector.getElem_set_ne n.isLt k.isLt fun e => h (Fin.ext e.symm)

/-- The temperature that a reading leaves. -/
def State.thetaOf (r : Rtd) : Rat :=
  let ratio : Rat := ((r.plus + r.minus : Nat) : Rat) / 2000000000
  if (!r.excited || decide (18 / 10 < ratio)) || decide (ratio < 8 / 10) then (s.sensor n).theta else s.corrected (2 + n.val) (rtdTheta ratio) 1

/-- The sensor's own state after a reading. -/
def State.sensorTaken (r : Rtd) : SensorSt :=
  let ratio : Rat := ((r.plus + r.minus : Nat) : Rat) / 2000000000
  let isOpen := !r.excited || decide (18 / 10 < ratio)
  let isShort := decide (ratio < 8 / 10)
  let x := s.sensor n
  { x with openRun := if isOpen then x.openRun + 1 else 0, openGood := if isOpen || isShort then 0 else x.openGood + 1,
           shortRun := if isShort then x.shortRun + 1 else 0, shortGood := if isOpen || isShort then 0 else x.shortGood + 1,
           theta := s.thetaOf n r }

/-- The events and the register of a reading. -/
def State.sensorNoted (x : SensorSt) : State :=
  let s2 := if 2 ≤ x.openRun then s.mtrEvent (6 + n.val) true else if 2 ≤ x.openGood then s.mtrEvent (6 + n.val) false else s
  let s3 := if 2 ≤ x.shortRun then s2.mtrEvent (10 + n.val) true else if 2 ≤ x.shortGood then s2.mtrEvent (10 + n.val) false else s2
  if s3.evtActive (6 + n.val) || s3.evtActive (10 + n.val) then s3.put (R.MTR_TEMP n.val) 0x80000000
  else s3.put (R.MTR_TEMP n.val) (fromSigned 32 (roundRat x.theta))

theorem State.sensorRead_eq (r : Rtd) : s.sensorRead n r = (s.setSensor n (s.sensorTaken n r)).sensorNoted n (s.sensorTaken n r) := rfl

theorem State.mtrEvent_reading (b : Nat) (on : Bool) : Notes readingFields s (s.mtrEvent b on) :=
  (s.mtrEvent_notes b on).mono (by simp [readingFields])

theorem State.sensorNoted_notes (x : SensorSt) : Notes readingFields s (s.sensorNoted n x) := by
  have htemp : R.MTR_TEMP n.val ∈ readingFields :=
    List.mem_append_left _ (List.mem_append_right _ (List.mem_map.2 ⟨n.val, List.mem_range.2 n.isLt, rfl⟩))
  have hput (u : State) (v : Nat) : Notes readingFields u (u.put (R.MTR_TEMP n.val) v) :=
    ((u.put_writes (R.MTR_TEMP n.val) v).mono (by simpa using htemp)).notes
  have hevent (u : State) (c d : Prop) [Decidable c] [Decidable d] (b : Nat) :
      Notes readingFields u (if c then u.mtrEvent b true else if d then u.mtrEvent b false else u) :=
    Notes.ite _ (u.mtrEvent_reading _ _) (Notes.ite _ (u.mtrEvent_reading _ _) (.refl _ u))
  exact ((hevent s _ _ _).trans (hevent _ _ _ _)).trans (Notes.ite _ (hput _ _) (hput _ _))

end

/-- A sensor read: its own state, events and its register; the calibration in force is the same. -/
theorem State.sensorRead_effect (s : State) (n : Fin 4) (r : Rtd) :
    let t := s.sensorRead n r
    (t.sensor n).theta = s.thetaOf n r ∧ (∀ k, k ≠ n → t.sensor k = s.sensor k) ∧ t.isl.mode = s.isl.mode ∧
      (∀ x < 14, ∀ raw unit, t.corrected x raw unit = s.corrected x raw unit) := by
  have hnotes := (s.setSensor n (s.sensorTaken n r)).sensorNoted_notes n (s.sensorTaken n r)
  have hsensor (k : Fin 4) : (s.sensorRead n r).sensor k = (s.setSensor n (s.sensorTaken n r)).sensor k := by
    rw [State.sensorRead_eq, State.sensor, hnotes.mtr, State.sensor]
  refine ⟨?_, fun k hk => (hsensor k).trans (s.sensor_setSensor_other n _ hk), hnotes.mode, fun x hx raw unit => hnotes.corrected hx raw unit⟩
  rw [hsensor, State.sensor_setSensor_same]
  rfl

/-- Whether a loop's outlet is colder than its inlet changes no temperature. -/
theorem State.crossed_effect (s : State) (n : Fin 2) : (s.crossed n).mtr.sensors = s.mtr.sensors ∧ (s.crossed n).isl.mode = s.isl.mode := by
  have hnotes (c : ChanSt) (p q : Prop) [Decidable p] [Decidable q] (b : Nat) : Notes readingFields (s.setChan n c)
      (if p then (s.setChan n c).mtrEvent b true else if q then (s.setChan n c).mtrEvent b false else s.setChan n c) :=
    Notes.ite _ (State.mtrEvent_reading _ _ _) (Notes.ite _ (State.mtrEvent_reading _ _ _) (.refl _ _))
  have hmtr : (s.crossed n).mtr = (s.setChan n _).mtr := (hnotes _ _ _ _).mtr
  exact ⟨(congrArg MtrSt.sensors hmtr).trans rfl, (hnotes _ _ _ _).mode⟩

/-- The temperature a reading leaves: the good reading's own, else as it was (R560). -/
theorem State.thetaOf_cases (s : State) (n : Fin 4) (r : Rtd) :
    let ratio : Rat := ((r.plus + r.minus : Nat) : Rat) / 2000000000
    (r.excited = true → 8 / 10 ≤ ratio → ratio ≤ 18 / 10 → s.thetaOf n r = s.corrected (2 + n.val) (rtdTheta ratio) 1) ∧
      (r.excited = false ∨ ratio < 8 / 10 ∨ 18 / 10 < ratio → s.thetaOf n r = (s.sensor n).theta) := by
  refine ⟨fun hex hlo hhi => if_neg ?_, fun hbad => if_pos ?_⟩
  · rw [hex, decide_eq_false (not_lt.2 hhi), decide_eq_false (not_lt.2 hlo)]
    decide
  · rcases hbad with h | h | h
    · rw [h]
      rfl
    · rw [decide_eq_true h, Bool.or_true]
    · rw [decide_eq_true h, Bool.or_true, Bool.true_or]

/-- The four sensors read in turn. -/
theorem tempCycleEnd_reads {s : State} (hmetering : s.metering = true) (v : Vector Rtd 4) :
    ∃ t, exec (.tempCycleEnd v) s = .next t ∧ t.isl.runOn = (s.isl.mode != .standby) ∧ ∀ n : Fin 4, (t.sensor n).theta = s.thetaOf n v[n] := by
  obtain ⟨u0, h0⟩ : ∃ u, u = s.sensorRead 0 v[0] := ⟨_, rfl⟩
  obtain ⟨u1, h1⟩ : ∃ u, u = u0.sensorRead 1 v[1] := ⟨_, rfl⟩
  obtain ⟨u2, h2⟩ : ∃ u, u = u1.sensorRead 2 v[2] := ⟨_, rfl⟩
  obtain ⟨u3, h3⟩ : ∃ u, u = u2.sensorRead 3 v[3] := ⟨_, rfl⟩
  obtain ⟨w, hw⟩ : ∃ w, w = (u3.crossed 0).crossed 1 := ⟨_, rfl⟩
  have hsensors : w.mtr.sensors = u3.mtr.sensors := by rw [hw, (State.crossed_effect _ _).1, (State.crossed_effect _ _).1]
  have hwmode : w.isl.mode = u3.isl.mode := by rw [hw, (State.crossed_effect _ _).2, (State.crossed_effect _ _).2]
  have hexec : exec (.tempCycleEnd v) s = .next { w.calStart true with isl := { w.isl with runOn := w.isl.mode != .standby } } := by
    show execTempCycleEnd v s = _
    rw [execTempCycleEnd, if_neg (by rw [hmetering]; decide)]
    dsimp only
    rw [← h0, ← h1, ← h2, ← h3, ← hw]
    rfl
  obtain ⟨t0, o0, m0, c0⟩ := s.sensorRead_effect 0 v[0]
  obtain ⟨t1, o1, m1, c1⟩ := u0.sensorRead_effect 1 v[1]
  obtain ⟨t2, o2, m2, c2⟩ := u1.sensorRead_effect 2 v[2]
  obtain ⟨t3, o3, m3, c3⟩ := u2.sensorRead_effect 3 v[3]
  rw [← h0] at t0 o0 m0 c0
  rw [← h1] at t1 o1 m1 c1
  rw [← h2] at t2 o2 m2 c2
  rw [← h3] at t3 o3 m3 c3
  have htheta {u : State} {n : Fin 4} (hsensor : u.sensor n = s.sensor n)
      (hcal : ∀ x < 14, ∀ raw unit, u.corrected x raw unit = s.corrected x raw unit) (r : Rtd) : u.thetaOf n r = s.thetaOf n r := by
    rw [State.thetaOf, State.thetaOf, hsensor, hcal _ (by omega)]
  have c01 (x : Nat) (hx : x < 14) (raw unit : Rat) : u1.corrected x raw unit = s.corrected x raw unit := (c1 x hx raw unit).trans (c0 x hx raw unit)
  have c012 (x : Nat) (hx : x < 14) (raw unit : Rat) : u2.corrected x raw unit = s.corrected x raw unit := (c2 x hx raw unit).trans (c01 x hx raw unit)
  refine ⟨_, hexec, ?_, fun n => ?_⟩
  · show (w.isl.mode != _) = _
    rw [hwmode, m3, m2, m1, m0]
  · have hn : (({ w.calStart true with isl := { w.isl with runOn := w.isl.mode != .standby } } : State).sensor n) = u3.sensor n :=
      congrArg (fun x : Vector SensorSt 4 => x[n]) hsensors
    rw [hn]
    match n with
    | 0 => rw [o3 0 (by decide), o2 0 (by decide), o1 0 (by decide), t0]; rfl
    | 1 => rw [o3 1 (by decide), o2 1 (by decide), t1, htheta (o0 1 (by decide)) c0]; rfl
    | 2 => rw [o3 2 (by decide), t2, htheta ((o1 2 (by decide)).trans (o0 2 (by decide))) c01]; rfl
    | 3 => rw [t3, htheta ((o2 3 (by decide)).trans ((o1 3 (by decide)).trans (o0 3 (by decide)))) c012]; rfl

/-! ### The end of a flow cycle (R555–R562) -/

/-- The registers of a loop at the end of a cycle, and its events: error time, reversal, flow, and the state of its tables. -/
def State.loopNoted (s : State) (n : Fin 2) (errSeconds reverseRun reverseClear flow : Nat) (badPoints : Bool) (clamped : Prop) [Decidable clamped] : State :=
  let s1 := s.count (R.MTR_CH_ERRT n.val) errSeconds
  let s2 := if 8 ≤ reverseRun then s1.mtrEvent (2 + n.val) true else if 8 ≤ reverseClear then s1.mtrEvent (2 + n.val) false else s1
  let s3 := s2.put (R.MTR_CH_FLOW n.val) flow
  let s4 := if badPoints then s3.setBit R.MTR_STAT_seg_bad n.val else s3.clrBit R.MTR_STAT_seg_bad n.val
  if clamped then s4.put R.MTR_STAT_table_clamp 1 else s4

def loopFields : List Fld :=
  [R.MTR_EVT, R.MTR_EVT_ACT, R.MTR_STAT_seg_bad, R.MTR_STAT_table_clamp] ++ (List.range 2).flatMap (fun n => [R.MTR_CH_ERRT n, R.MTR_CH_FLOW n])

theorem State.loopNoted_notes (s : State) (n : Fin 2) (errSeconds reverseRun reverseClear flow : Nat) (badPoints : Bool) (clamped : Prop)
    [Decidable clamped] : Notes loopFields s (s.loopNoted n errSeconds reverseRun reverseClear flow badPoints clamped) := by
  have hmem : R.MTR_CH_ERRT n.val ∈ loopFields ∧ R.MTR_CH_FLOW n.val ∈ loopFields := by
    revert n
    decide
  have hput (u : State) {f : Fld} (hf : f ∈ loopFields) (v : Nat) : Notes loopFields u (u.put f v) := ((u.put_writes f v).mono (by simpa using hf)).notes
  have hevent (u : State) (b : Nat) (on : Bool) : Notes loopFields u (u.mtrEvent b on) := (u.mtrEvent_notes b on).mono (by simp [loopFields])
  have hreverse (u : State) : Notes loopFields u (if 8 ≤ reverseRun then u.mtrEvent (2 + n.val) true
      else if 8 ≤ reverseClear then u.mtrEvent (2 + n.val) false else u) :=
    Notes.ite _ (hevent u _ _) (Notes.ite _ (hevent u _ _) (.refl _ u))
  have hpoints (u : State) : Notes loopFields u (if badPoints then u.setBit R.MTR_STAT_seg_bad n.val else u.clrBit R.MTR_STAT_seg_bad n.val) :=
    Notes.ite _ (hput u (by simp [loopFields]) _) (hput u (by simp [loopFields]) _)
  have hclamp (u : State) : Notes loopFields u (if clamped then u.put R.MTR_STAT_table_clamp 1 else u) :=
    Notes.ite _ (hput u (by simp [loopFields]) _) (.refl _ u)
  exact ((((hput s hmem.1 _).trans (hreverse _)).trans (hput _ hmem.2 _)).trans (hpoints _)).trans (hclamp _)

/-- A loop's cycle: its own state, then its registers and events. -/
theorem State.loopCycle_eq (s : State) (n : Fin 2) : ∃ (c : ChanSt) (heat a b d e : Nat) (p : Bool) (q : Prop) (_ : Decidable q),
    s.loopCycle n = (heat, (s.setChan n c).loopNoted n a b d e p q) ∧ c.cycle = [] ∧ c.heat = (s.chan n).heat + heat ∧
      (s.cal (R.MTR_CH_K n.val) = 0 → c.q = 0 ∧ heat = 0 ∧ c.vol = (s.chan n).vol) := by
  refine ⟨_, _, _, _, _, _, _, _, _, rfl, rfl, rfl, fun hoff => ?_⟩
  have henabled : (s.cal (R.MTR_CH_K n.val) != 0) = false := by rw [hoff]; rfl
  rw [henabled]
  refine ⟨rfl, if_neg ?_, if_neg ?_⟩
  · simp
  · simp

theorem loopFields_on : ∀ n : Fin 2, ∀ f ∈ loopFields, (R.MTR_CH_K n.val).key ≠ f.key := by decide

theorem MtrSt.setCycle_chans (m : MtrSt) (c : CycleQ) : (m.setCycle c).chans = m.chans ∧ (m.setCycle c).cycle = m.cycle ∧
    (m.setCycle c).cycleElec = m.cycleElec := by
  unfold MtrSt.setCycle
  split <;> exact ⟨rfl, rfl, rfl⟩

/-- A loop's cycle leaves the rest of the metering as it was. -/
theorem State.loopCycle_effect (s : State) (n : Fin 2) : ∃ c : ChanSt,
    (s.loopCycle n).2.mtr = (s.setChan n c).mtr ∧ (s.loopCycle n).2.isl.mode = s.isl.mode ∧
      (∀ k : Fin 2, (s.loopCycle n).2.cal (R.MTR_CH_K k.val) = s.cal (R.MTR_CH_K k.val)) ∧ c.cycle = [] ∧
      c.heat = (s.chan n).heat + (s.loopCycle n).1 ∧
      (s.cal (R.MTR_CH_K n.val) = 0 → c.q = 0 ∧ (s.loopCycle n).1 = 0 ∧ c.vol = (s.chan n).vol) := by
  obtain ⟨c, heat, a, b, d, e, p, q, _, hloop, hcycle, hheat, hoff⟩ := s.loopCycle_eq n
  have hnotes := (s.setChan n c).loopNoted_notes n a b d e p q
  rw [hloop]
  exact ⟨c, hnotes.mtr, hnotes.mode, fun k => hnotes.cal (loopFields_on k), hcycle, hheat, hoff⟩

/-- The state in which a flow cycle ends: both loops done, their heat known. -/
def State.cycleEnded (s1 : State) (heat : Nat) : State :=
  let m := s1.mtr.setCycle { s1.mtr.cycleOf s1.mtr.cycle with heat := heat, closed := true }
  { s1 with mtr := { m with lastHeat := heat, lastElec := m.cycleElec, cycleElec := 0, cycle := m.cycle + 1,
                            cycleLen := if s1.slowSchedule then 16 else 1 },
            isl := { s1.isl with runOn := s1.isl.mode != .standby } }

/-- MTR_PWR of the cycle that has ended. -/
def State.powerShown (s2 : State) (heat len : Nat) : State :=
  let watts := fun (nj : Nat) => 8 * nj / (1000000000 * len)
  s2.puts [(R.MTR_PWR_heat, min 65535 (watts heat)), (R.MTR_PWR_elec, min 65535 (watts s2.mtr.lastElec))]

theorem State.powerShown_effect (s2 : State) (heat len : Nat) :
    (s2.powerShown heat len).get R.MTR_PWR_elec = min 65535 (8 * s2.mtr.lastElec / (1000000000 * len)) ∧
      (s2.powerShown heat len).mtr = s2.mtr ∧ (s2.powerShown heat len).isl = s2.isl := by
  have hwrites : Writes [R.MTR_PWR_heat, R.MTR_PWR_elec] s2 (s2.powerShown heat len) := s2.puts_writes _
  refine ⟨?_, hwrites.notes.mtr, hwrites.isl⟩
  refine (s2.get_puts_mem [R.MTR_PWR_heat, R.MTR_PWR_elec] rfl (by decide)
    (p := (R.MTR_PWR_elec, min 65535 (8 * s2.mtr.lastElec / (1000000000 * len)))) (by simp)).trans (Nat.mod_eq_of_lt ?_)
  show min 65535 _ < 65536
  omega

/-- FLOW_CYCLE_END (R555–R562). -/
theorem flowCycleEnd_closes {s : State} (hmetering : s.metering = true) :
    ∃ t, exec .flowCycleEnd s = .next t ∧ t.mtr.cycle = s.mtr.cycle + 1 ∧ t.mtr.lastElec = s.mtr.cycleElec ∧ t.mtr.cycleElec = 0 ∧
      t.mtr.cycleLen = (if s.isl.mode = .aux then 1 else 16) ∧ t.isl.runOn = (s.isl.mode != .standby) ∧
      (t.chan 0).heat + (t.chan 1).heat = (s.chan 0).heat + (s.chan 1).heat + t.mtr.lastHeat ∧
      t.get R.MTR_PWR_elec = min 65535 (8 * s.mtr.cycleElec / (1000000000 * s.mtr.cycleLen)) ∧
      ∀ n : Fin 2, (t.chan n).cycle = [] ∧ (s.cal (R.MTR_CH_K n.val) = 0 → (t.chan n).q = 0 ∧ (t.chan n).heat = (s.chan n).heat ∧
        (t.chan n).vol = (s.chan n).vol) := by
  obtain ⟨c0, hmtr0, hmode0, hcal0, hcycle0, hheat0, hoff0⟩ := s.loopCycle_effect 0
  obtain ⟨u0, hu0⟩ : ∃ u, u = (s.loopCycle 0).2 := ⟨_, rfl⟩
  obtain ⟨h0, hh0⟩ : ∃ h, h = (s.loopCycle 0).1 := ⟨_, rfl⟩
  rw [← hu0] at hmtr0 hmode0 hcal0
  rw [← hh0] at hheat0 hoff0
  obtain ⟨c1, hmtr1, hmode1, hcal1, hcycle1, hheat1, hoff1⟩ := u0.loopCycle_effect 1
  obtain ⟨u1, hu1⟩ : ∃ u, u = (u0.loopCycle 1).2 := ⟨_, rfl⟩
  obtain ⟨h1, hh1⟩ : ∃ h, h = (u0.loopCycle 1).1 := ⟨_, rfl⟩
  rw [← hu1] at hmtr1 hmode1 hcal1
  rw [← hh1] at hheat1 hoff1
  have hexec : exec .flowCycleEnd s = .next (((u1.cycleEnded (h0 + h1)).powerShown (h0 + h1) u1.mtr.cycleLen).calStart false) := by
    show execFlowCycleEnd s = _
    rw [execFlowCycleEnd, if_neg (by rw [hmetering]; decide)]
    dsimp only
    rw [← hu0, ← hu1, ← hh0, ← hh1]
    rfl
  obtain ⟨hchans, hcycle, helec⟩ := u1.mtr.setCycle_chans { u1.mtr.cycleOf u1.mtr.cycle with heat := h0 + h1, closed := true }
  obtain ⟨hpwr, hpmtr, hpisl⟩ := (u1.cycleEnded (h0 + h1)).powerShown_effect (h0 + h1) u1.mtr.cycleLen
  obtain ⟨v, hv⟩ : ∃ v, v = (u1.cycleEnded (h0 + h1)).powerShown (h0 + h1) u1.mtr.cycleLen := ⟨_, rfl⟩
  rw [← hv] at hexec hpwr hpmtr hpisl
  have hmtr : u1.mtr.cycle = s.mtr.cycle ∧ u1.mtr.cycleElec = s.mtr.cycleElec ∧ u1.mtr.cycleLen = s.mtr.cycleLen := by
    rw [hmtr1, State.setChan_mtr, hmtr0]
    exact ⟨rfl, rfl, rfl⟩
  have hmode : u1.isl.mode = s.isl.mode := hmode1.trans hmode0
  have hchan (n : Fin 2) : (v.calStart false).chan n = u1.chan n := by
    show v.mtr.chans[n] = u1.mtr.chans[n]
    rw [hpmtr]
    exact congrArg (fun x : Vector ChanSt 2 => x[n]) hchans
  have hfirst : u1.chan 0 = c0 := by
    rw [State.chan, hmtr1]
    exact (u0.chan_setChan_other 1 c1 (by decide)).trans ((congrArg (fun m : MtrSt => m.chans[(0 : Fin 2)]) hmtr0).trans (s.chan_setChan_same 0 c0))
  have hsecond : u1.chan 1 = c1 := by
    rw [State.chan, hmtr1]
    exact u0.chan_setChan_same 1 c1
  have hold : u0.chan 1 = s.chan 1 := (congrArg (fun m : MtrSt => m.chans[(1 : Fin 2)]) hmtr0).trans (s.chan_setChan_other 0 c0 (by decide))
  rw [hold] at hheat1 hoff1
  rw [hcal0 1] at hoff1
  have hlast : (u1.cycleEnded (h0 + h1)).mtr.lastElec = s.mtr.cycleElec := helec.trans hmtr.2.1
  refine ⟨_, hexec, ?_, ?_, ?_, ?_, ?_, ?_, ?_, fun n => ?_⟩
  · exact (congrArg MtrSt.cycle hpmtr).trans (congrArg (· + 1) (hcycle.trans hmtr.1))
  · exact (congrArg MtrSt.lastElec hpmtr).trans hlast
  · exact (congrArg MtrSt.cycleElec hpmtr).trans rfl
  · refine (congrArg MtrSt.cycleLen hpmtr).trans ?_
    show (if u1.isl.mode != .aux then 16 else 1) = _
    rw [hmode]
    by_cases haux : s.isl.mode = .aux <;> simp [haux]
  · exact (congrArg IslSt.runOn hpisl).trans (congrArg (· != IslMode.standby) hmode)
  · have hheat : v.mtr.lastHeat = h0 + h1 := (congrArg MtrSt.lastHeat hpmtr).trans rfl
    rw [hchan, hchan, hfirst, hsecond, hheat0, hheat1, show (v.calStart false).mtr.lastHeat = v.mtr.lastHeat from rfl, hheat]
    omega
  · refine hpwr.trans ?_
    rw [hlast, hmtr.2.2]
  · rw [hchan]
    match n with
    | 0 =>
      rw [hfirst]
      exact ⟨hcycle0, fun hoff => ⟨(hoff0 hoff).1, by rw [hheat0, (hoff0 hoff).2.1]; rfl, (hoff0 hoff).2.2⟩⟩
    | 1 =>
      rw [hsecond]
      exact ⟨hcycle1, fun hoff => ⟨(hoff1 hoff).1, by rw [hheat1, (hoff1 hoff).2.1]; rfl, (hoff1 hoff).2.2⟩⟩

/-! ### Rail samples (R563, R564) -/

/-- A rail's two registers are read-outs, apart from each other and from the other rails' voltages. -/
theorem railFields_reading : ∀ r : Fin 4, R.MTR_RAIL_V r.val ∈ readingFields ∧ R.MTR_RAIL_I r.val ∈ readingFields ∧
    ([R.MTR_RAIL_V r.val, R.MTR_RAIL_I r.val].map Fld.key).Nodup := by decide

theorem railFields_apart : ∀ r k : Fin 4, k ≠ r →
    (R.MTR_RAIL_V k.val).key ≠ (R.MTR_RAIL_V r.val).key ∧ (R.MTR_RAIL_V k.val).key ≠ (R.MTR_RAIL_I r.val).key := by decide

theorem railFields_event : ∀ r : Fin 4, ∀ f ∈ [R.MTR_EVT, R.MTR_EVT_ACT], (R.MTR_RAIL_V r.val).key ≠ f.key := by decide

/-- The voltage a sample shows. -/
def State.railVolts (s : State) (r : Fin 4) (x : RailSample) : Nat :=
  fromSigned 16 (roundRat (s.corrected (6 + r.val) ((x.volts : Rat) / 1000) (1 / 100)))

/-- One rail's sample writes that rail's two registers. -/
theorem State.railSample_effect (s : State) (r : Fin 4) (x : RailSample) :
    Notes readingFields s (s.railSample r x).2 ∧
      (s.cal (R.MTR_RAIL_SHUNT r.val) ≠ 0 → (s.railSample r x).2.get (R.MTR_RAIL_V r.val) = s.railVolts r x) ∧
      (∀ k : Fin 4, k ≠ r → (s.railSample r x).2.get (R.MTR_RAIL_V k.val) = s.get (R.MTR_RAIL_V k.val)) := by
  by_cases hoff : s.cal (R.MTR_RAIL_SHUNT r.val) = 0
  · have hsame : (s.railSample r x).2 = s := congrArg Prod.snd (if_pos hoff)
    rw [hsame]
    exact ⟨.refl _ s, fun hon => absurd hoff hon, fun _ _ => rfl⟩
  · obtain ⟨hvolts, hcurrent, hnodup⟩ := railFields_reading r
    obtain ⟨i, hi⟩ : ∃ i, (s.railSample r x).2 = s.puts [(R.MTR_RAIL_V r.val, s.railVolts r x), (R.MTR_RAIL_I r.val, i)] :=
      ⟨_, congrArg Prod.snd (if_neg hoff)⟩
    have hwrites : Writes [R.MTR_RAIL_V r.val, R.MTR_RAIL_I r.val] s
        (s.puts [(R.MTR_RAIL_V r.val, s.railVolts r x), (R.MTR_RAIL_I r.val, i)]) := s.puts_writes _
    rw [hi]
    refine ⟨(hwrites.mono (by simp [hvolts, hcurrent])).notes, fun _ => ?_, fun k hk => hwrites.2 _ (by simpa using railFields_apart r k hk)⟩
    refine (s.get_puts_mem [R.MTR_RAIL_V r.val, R.MTR_RAIL_I r.val] rfl hnodup (p := (R.MTR_RAIL_V r.val, s.railVolts r x))
      (List.mem_cons_self ..)).trans ?_
    exact fromSigned_mod 16 _

/-- What a sample shows does not change with other readings. -/
theorem Notes.railVolts {s t : State} (h : Notes readingFields s t) (r : Fin 4) (x : RailSample) : t.railVolts r x = s.railVolts r x := by
  rw [State.railVolts, h.corrected (by omega)]
  rfl

/-- Energy measured while a frame is open. -/
def State.energyTaken (s1 : State) (whole : Nat) (frac : Rat) : State :=
  { s1 with mtr := { s1.mtr with elec := s1.mtr.elec + whole, elecFrac := frac, cycleElec := s1.mtr.cycleElec + whole,
                                 openEnergy := s1.mtr.openEnergy + whole } }

theorem State.energyTaken_get (s : State) (whole : Nat) (frac : Rat) (g : Fld) : (s.energyTaken whole frac).get g = s.get g := rfl

/-- Energy measured: to the open frame, or to overhead where none is open. -/
def State.railTaken (s1 : State) (e : Rat) : State :=
  let whole := e.floor.toNat
  let s2 := { s1 with mtr := { s1.mtr with elec := s1.mtr.elec + whole, elecFrac := e - whole, cycleElec := s1.mtr.cycleElec + whole } }
  match s2.mtr.openFrame with
  | some _ => { s2 with mtr := { s2.mtr with openEnergy := s2.mtr.openEnergy + whole } }
  | none => s2.give 1025 whole false

theorem State.railTaken_open {s : State} {f : Nat} (h : s.mtr.openFrame = some f) (e : Rat) :
    s.railTaken e = s.energyTaken e.floor.toNat (e - e.floor.toNat) := by
  rw [State.railTaken, State.energyTaken]
  dsimp only
  rw [h]

theorem railSample_off {s : State} (hmode : s.isl.mode ≠ .aux) (v : Vector RailSample 4) : exec (.railSample v) s = .next s :=
  congrArg Host.Outcome.next (if_pos (by simp [hmode]))

/-- RAIL_SAMPLE (R563, R567). -/
theorem railSample_takes {s : State} (hmetering : s.metering = true) (hmode : s.isl.mode = .aux) {f : Nat} (hopen : s.mtr.openFrame = some f)
    (v : Vector RailSample 4) : ∃ t, exec (.railSample v) s = .next t ∧
      t.mtr.openEnergy + s.mtr.elec = s.mtr.openEnergy + t.mtr.elec ∧ t.mtr.cycleElec + s.mtr.elec = s.mtr.cycleElec + t.mtr.elec ∧
      ∀ r : Fin 4, s.cal (R.MTR_RAIL_SHUNT r.val) ≠ 0 → t.get (R.MTR_RAIL_V r.val) = s.railVolts r v[r] := by
  obtain ⟨n0, t0, o0⟩ := s.railSample_effect 0 v[0]
  obtain ⟨u0, h0⟩ : ∃ u, u = (s.railSample 0 v[0]).2 := ⟨_, rfl⟩
  rw [← h0] at n0 t0 o0
  obtain ⟨n1, t1, o1⟩ := u0.railSample_effect 1 v[1]
  obtain ⟨u1, h1⟩ : ∃ u, u = (u0.railSample 1 v[1]).2 := ⟨_, rfl⟩
  rw [← h1] at n1 t1 o1
  obtain ⟨n2, t2, o2⟩ := u1.railSample_effect 2 v[2]
  obtain ⟨u2, h2⟩ : ∃ u, u = (u1.railSample 2 v[2]).2 := ⟨_, rfl⟩
  rw [← h2] at n2 t2 o2
  obtain ⟨n3, t3, o3⟩ := u2.railSample_effect 3 v[3]
  obtain ⟨u3, h3⟩ : ∃ u, u = (u2.railSample 3 v[3]).2 := ⟨_, rfl⟩
  rw [← h3] at n3 t3 o3
  have n01 : Notes readingFields s u1 := n0.trans n1
  have n02 : Notes readingFields s u2 := n01.trans n2
  have hexec : ∃ (on : Bool) (e : Rat), exec (.railSample v) s = .next ((u3.mtrEvent 16 on).railTaken e) := by
    show ∃ (on : Bool) (e : Rat), execRailSample v s = .next ((u3.mtrEvent 16 on).railTaken e)
    rw [execRailSample, if_neg (by rw [hmetering, hmode]; decide)]
    dsimp only
    rw [← h0, ← h1, ← h2, ← h3]
    exact ⟨_, _, rfl⟩
  obtain ⟨on, e, hexec⟩ := hexec
  have hevent := u3.mtrEvent_notes 16 on
  have hmtr : (u3.mtrEvent 16 on).mtr = s.mtr := hevent.mtr.trans (n02.trans n3).mtr
  rw [State.railTaken_open (by rw [hmtr, hopen])] at hexec
  refine ⟨_, hexec, ?_, ?_, fun r hr => ?_⟩
  · show (u3.mtrEvent 16 on).mtr.openEnergy + _ + _ = _ + ((u3.mtrEvent 16 on).mtr.elec + _)
    rw [hmtr]
    omega
  · show (u3.mtrEvent 16 on).mtr.cycleElec + _ + _ = _ + ((u3.mtrEvent 16 on).mtr.elec + _)
    rw [hmtr]
    omega
  · rw [State.energyTaken_get, hevent.2 _ (railFields_event r)]
    have hcase : r = 0 ∨ r = 1 ∨ r = 2 ∨ r = 3 := by omega
    rcases hcase with rfl | rfl | rfl | rfl
    · rw [o3 0 (by decide), o2 0 (by decide), o1 0 (by decide)]
      exact t0 hr
    · rw [o3 1 (by decide), o2 1 (by decide), t1 (by rwa [n0.cal (readingFields_shunt 1)])]
      exact n0.railVolts 1 v[1]
    · rw [o3 2 (by decide), t2 (by rwa [n01.cal (readingFields_shunt 2)])]
      exact n01.railVolts 2 v[2]
    · rw [t3 (by rwa [n02.cal (readingFields_shunt 3)])]
      exact n02.railVolts 3 v[3]

end Sys2Proof.Machine
end

section
/-!
PROOFS. Metering (R563–R585), fourth part: attribution, splits, intervals, and the statement about metering.
-/

namespace Sys2Proof.Machine

/-! ### Energy given to accounts (R568, R569) -/

section
variable (s : State)

theorem State.give_overhead (nj : Nat) : s.give 1025 nj false = { s with mtr := { s.mtr with ovhElec := s.mtr.ovhElec + nj } } := by
  rw [State.give]
  split
  case isTrue h => rw [h]; rfl
  case isFalse => rfl

theorem State.give_overhead_heat (nj : Nat) : s.give 1025 nj true = { s with mtr := { s.mtr with ovhHeat := s.mtr.ovhHeat + nj } } := by
  rw [State.give]
  split
  case isTrue h => rw [h]; rfl
  case isFalse => rfl

/-- A tenant's electrical energy, while no commit is due. -/
theorem State.give_tenant {account : Nat} (haccount : account < 1024) (hroom : s.mtr.dirtyTenants.length < 56) (nj : Nat) :
    ∃ m, s.give account nj false = { s with mtr := { s.mtr with tenElec := m } } ∧
      SMap.get 0 m account = SMap.get 0 s.mtr.tenElec account + nj ∧ ∀ k, k ≠ account → SMap.get 0 m k = SMap.get 0 s.mtr.tenElec k := by
  by_cases hzero : nj = 0
  · exact ⟨s.mtr.tenElec, if_pos hzero, by rw [hzero]; rfl, fun _ _ => rfl⟩
  · refine ⟨SMap.update 0 s.mtr.tenElec account (fun x => x + nj), ?_, SMap.get_set_same .., fun k hk => SMap.get_set_other _ _ _ _ _ hk⟩
    have hs1 : (if 56 ≤ s.mtr.dirtyTenants.length ∧ (!s.mtr.dirtyTenants.contains account) = true then s.commitPending false else s) = s :=
      if_neg (by omega)
    rw [State.give, if_neg hzero, if_neg (by omega), if_neg (by omega)]
    dsimp only
    rw [hs1]
    rfl

/-- A share joins its cycle alone. -/
theorem State.addShare_effect (cycle account nj : Nat) : ∃ cs, s.addShare cycle account nj = { s with mtr := { s.mtr with cycles := cs } } := by
  rw [State.addShare, MtrSt.setCycle]
  dsimp only
  split
  case isTrue => exact ⟨_, rfl⟩
  case isFalse => exact ⟨_, rfl⟩

end

/-! ### Bindings and frame marks (R565, R567) -/

section
variable {s : State} (hmetering : s.metering = true) (hlink : s.linkOpen = true)
include hmetering hlink

theorem exec_bindingMessage (isOpen : Bool) (slot : Fin 64) (tenant : BitVec 10) (job : BitVec 16) (bench : Bool) (frame : BitVec 48) :
    exec (.bindingMessage isOpen slot tenant job bench frame) s = .next (s.bind isOpen slot.val tenant.toNat bench frame.toNat) :=
  congrArg Host.Outcome.next (if_neg (by rw [hmetering, hlink]; decide))

omit hmetering hlink in
/-- Closed at a frame, no binding of a slot stays open. -/
theorem closed_bindings {bs : List BindingSt} {slot f : Nat} :
    ∀ b ∈ bs.map (fun b => if b.slot == slot && b.toFrame.isNone then { b with toFrame := some f } else b), b.slot = slot → b.toFrame ≠ none := by
  intro b hb hslot
  obtain ⟨b0, -, rfl⟩ := List.mem_map.1 hb
  by_cases hopen : (b0.slot == slot && b0.toFrame.isNone) = true
  · rw [if_pos hopen]
    exact Option.some_ne_none f
  · rw [if_neg hopen] at hslot ⊢
    intro hnone
    exact hopen (by rw [hslot, hnone]; simp)

/-- An opening leaves the slot one open binding, the last. -/
theorem bindingMessage_opens (slot : Fin 64) (tenant : BitVec 10) (job : BitVec 16) (bench : Bool) (frame : BitVec 48) :
    ∃ t, exec (.bindingMessage true slot tenant job bench frame) s = .next t ∧
      t.mtr.bindings.getLast? = some ⟨slot.val, tenant.toNat, bench, frame.toNat, none⟩ ∧
      (∀ b ∈ t.mtr.bindings, b.slot = slot.val → b.toFrame = none → b.fromFrame = frame.toNat ∧ b.tenant = tenant.toNat) ∧
      t = { s with mtr := { s.mtr with bindings := t.mtr.bindings } } := by
  refine ⟨_, exec_bindingMessage hmetering hlink .., List.getLast?_concat, fun b hb hslot hnone => ?_, rfl⟩
  rcases List.mem_append.1 hb with hold | hnew
  · exact absurd hnone (closed_bindings b (List.mem_filter.1 hold).1 hslot)
  · obtain rfl := List.mem_singleton.1 hnew
    exact ⟨rfl, rfl⟩

theorem bindingMessage_closes (slot : Fin 64) (tenant : BitVec 10) (job : BitVec 16) (bench : Bool) (frame : BitVec 48) :
    ∃ t, exec (.bindingMessage false slot tenant job bench frame) s = .next t ∧
      (∀ b ∈ t.mtr.bindings, b.slot = slot.val → b.toFrame ≠ none) ∧ t = { s with mtr := { s.mtr with bindings := t.mtr.bindings } } :=
  ⟨_, exec_bindingMessage hmetering hlink .., closed_bindings, rfl⟩

/-- ISLAND_FRAME_MARK (R567): the open frame joins those that wait, and a new one opens. -/
theorem islandFrameMark_opens (f : BitVec 48) : ∃ t, exec (.islandFrameMark f) s = .next t ∧ t.mtr.openFrame = some f.toNat ∧
    t.mtr.openEnergy = 0 ∧ t.mtr.openCycle = s.mtr.cycle ∧ (s.mtr.openFrame = none → t.mtr.frames = s.mtr.frames) ∧
    (∀ g, s.mtr.openFrame = some g → t.mtr.frames = s.mtr.frames ++ [⟨g, s.mtr.openEnergy, s.mtr.openCycle⟩]) ∧ t = { s with mtr := t.mtr } := by
  have hclose : s.closeFrame.mtr.cycle = s.mtr.cycle ∧ (s.mtr.openFrame = none → s.closeFrame.mtr.frames = s.mtr.frames) ∧
      (∀ g, s.mtr.openFrame = some g → s.closeFrame.mtr.frames = s.mtr.frames ++ [⟨g, s.mtr.openEnergy, s.mtr.openCycle⟩]) ∧
      s.closeFrame = { s with mtr := s.closeFrame.mtr } := by
    rw [State.closeFrame]
    split
    case h_1 g hg =>
      refine ⟨rfl, fun h => absurd (hg.symm.trans h) (Option.some_ne_none g), fun g' hg' => ?_, rfl⟩
      obtain rfl := Option.some.inj (hg.symm.trans hg')
      rfl
    case h_2 hnone => exact ⟨rfl, fun _ => rfl, fun g hg => absurd (hg.symm.trans hnone) (Option.some_ne_none g), rfl⟩
  obtain ⟨hcycle, hnone, hsome, hframe⟩ := hclose
  refine ⟨_, congrArg Host.Outcome.next (if_neg (by rw [hmetering, hlink]; decide)), rfl, rfl, hcycle, hnone, hsome, ?_⟩
  dsimp only
  rw [hframe]

/-! ### Context marks (R565, R567, R570) -/

/-- A mark none of whose frames waits is late. -/
theorem contextMark_late (f : BitVec 48) (l : List (Fin 64 × BitVec 24))
    (h : ∀ e ∈ s.mtr.frames, e.frame ≠ f.toNat ∨ s.mtr.expired e.frame = true) :
    Sets (.contextMark f 1 l) R.MTR_ATTR_late (satAdd 16 (s.get R.MTR_ATTR_late) 1) s := by
  have hempty : (s.mtr.frames.filter (fun e => decide (f.toNat ≤ e.frame ∧ e.frame < f.toNat + max 1 (1 : BitVec 9).toNat) &&
      !s.mtr.expired e.frame)).isEmpty = true := by
    rw [List.isEmpty_iff, List.filter_eq_nil_iff]
    intro e he
    have hone : max 1 (1 : BitVec 9).toNat = 1 := rfl
    rcases h e he with hframe | hexpired
    · rw [hone, decide_eq_false (by omega)]
      simp
    · rw [hexpired]
      simp
  refine ⟨s.count R.MTR_ATTR_late 1, ?_, State.count_writes _ _ _, State.get_count_same ..⟩
  show execContextMark f 1 l s = _
  rw [execContextMark]
  dsimp only
  rw [if_neg (by rw [hmetering, hlink]; decide), if_pos hempty]
  rfl

omit hmetering hlink in
/-- One frame's energy between one slot and overhead. -/
theorem State.splitFrames_one (s : State) {e : FrameE} (hframes : s.mtr.frames = [e]) (slot w frame : Nat) (haccount : s.accountOf slot frame < 1024)
    (hroom : s.mtr.dirtyTenants.length < 56) :
    let account := s.accountOf slot frame
    let share := e.energy * w / (122880 + w)
    let t := s.splitFrames [e] 1 [(slot, w)] frame
    t.mtr.frames = [] ∧ t.regs = s.regs ∧ SMap.get 0 t.mtr.tenElec account = SMap.get 0 s.mtr.tenElec account + share ∧
      (∀ k, k ≠ account → SMap.get 0 t.mtr.tenElec k = SMap.get 0 s.mtr.tenElec k) ∧ t.mtr.ovhElec = s.mtr.ovhElec + (e.energy - share) := by
  intro account share t
  obtain ⟨m, hgive, hsame, hother⟩ := s.give_tenant haccount hroom share
  obtain ⟨cs, hfirst⟩ := State.addShare_effect { s with mtr := { s.mtr with tenElec := m } } e.cycle account share
  obtain ⟨cs', hsecond⟩ := State.addShare_effect { s with mtr := { s.mtr with tenElec := m, cycles := cs, ovhElec := s.mtr.ovhElec + (e.energy - share) } }
    e.cycle 1025 (e.energy - share)
  have ht : t = { s with mtr := { s.mtr with
      tenElec := m, cycles := cs', ovhElec := s.mtr.ovhElec + (e.energy - share),
      frames := s.mtr.frames.filter (fun f => !List.contains [e] f) } } := by
    show s.splitFrames [e] 1 [(slot, w)] frame = _
    rw [State.splitFrames]
    simp only [List.map_cons, List.map_nil, List.sum_cons, List.sum_nil, List.foldl_cons, List.foldl_nil, Nat.add_zero, Nat.mul_one]
    have hshare : e.energy * w / (122880 + w) = share := rfl
    rw [hshare, hgive, hfirst, State.give_overhead, hsecond]
  rw [ht]
  refine ⟨?_, rfl, hsame, hother, rfl⟩
  rw [hframes]
  simp

/-- A mark of one frame with one bound slot. -/
theorem contextMark_splits (f : BitVec 48) (slot : Fin 64) (w : BitVec 24) {e : FrameE} {account : Nat} (hframes : s.mtr.frames = [e])
    (hframe : e.frame = f.toNat) (hfresh : s.mtr.expired e.frame = false) (haccount : s.accountOf slot.val f.toNat = account)
    (htenant : account < 1024) (hroom : s.mtr.dirtyTenants.length < 56) :
    let share := e.energy * w.toNat / (122880 + w.toNat)
    ∃ t, exec (.contextMark f 1 [(slot, w)]) s = .next t ∧ t.mtr.frames = [] ∧ t.regs = s.regs ∧
      SMap.get 0 t.mtr.tenElec account = SMap.get 0 s.mtr.tenElec account + share ∧
      (∀ k, k ≠ account → SMap.get 0 t.mtr.tenElec k = SMap.get 0 s.mtr.tenElec k) ∧
      t.mtr.ovhElec = s.mtr.ovhElec + (e.energy - share) := by
  subst haccount
  have hwaits : s.mtr.frames.filter (fun e => decide (f.toNat ≤ e.frame ∧ e.frame < f.toNat + max 1 (1 : BitVec 9).toNat) &&
      !s.mtr.expired e.frame) = [e] := by
    rw [hframes]
    refine List.filter_eq_self.2 fun e' he' => ?_
    obtain rfl := List.mem_singleton.1 he'
    have hone : max 1 (1 : BitVec 9).toNat = 1 := rfl
    rw [hfresh, hone, decide_eq_true (by omega)]
    rfl
  have hbound : ¬ ([(slot.val, w.toNat)].any fun p => p.2 != 0 && s.accountOf p.1 f.toNat == 1025) = true := by
    have hne : s.accountOf slot.val f.toNat ≠ 1025 := by omega
    simp [hne]
  refine ⟨_, ?_, s.splitFrames_one hframes slot.val w.toNat f.toNat htenant hroom⟩
  show execContextMark f 1 [(slot, w)] s = _
  rw [execContextMark]
  dsimp only
  rw [if_neg (by rw [hmetering, hlink]; decide), hwaits, if_neg (by simp)]
  exact congrArg Host.Outcome.next (congrArg (fun u : State => u.splitFrames _ _ _ _) (if_neg hbound))

end

/-! ### Expiry and the split of heat (R568, R570) -/

section
variable {s : State}

/-- A frame's whole energy goes to overhead. -/
theorem State.splitFrames_none (s : State) (e : FrameE) (frame : Nat) :
    let t := s.splitFrames [e] 1 [] frame
    e ∉ t.mtr.frames ∧ t.mtr.ovhElec = s.mtr.ovhElec + e.energy ∧ t = { s with mtr := t.mtr } := by
  intro t
  obtain ⟨cs, hshare⟩ := State.addShare_effect { s with mtr := { s.mtr with ovhElec := s.mtr.ovhElec + e.energy } } e.cycle 1025 e.energy
  have ht : t = { s with mtr := { s.mtr with
      ovhElec := s.mtr.ovhElec + e.energy, cycles := cs,
      frames := s.mtr.frames.filter (fun f => !List.contains [e] f) } } := by
    show s.splitFrames [e] 1 [] frame = _
    rw [State.splitFrames]
    simp only [List.map_cons, List.map_nil, List.sum_cons, List.sum_nil, List.foldl_cons, List.foldl_nil, Nat.add_zero, Nat.sub_zero]
    rw [State.give_overhead, hshare]
  rw [ht]
  exact ⟨by simp, rfl, rfl⟩

theorem markExpiry_waits (h : s.mtr.frames = [] ∨ s.mtr.openFrame = none) : exec .markExpiry s = .next s := by
  show execMarkExpiry s = _
  rw [execMarkExpiry]
  split
  case isTrue => rfl
  case isFalse =>
    split
    case h_1 e rest hframes =>
      have hopen : s.mtr.openFrame = none := h.resolve_left (by rw [hframes]; simp)
      rw [if_neg (by rw [MtrSt.expired, hopen]; simp)]
    case h_2 => rfl

theorem markExpiry_oldest (hmetering : s.metering = true) {e : FrameE} {rest : List FrameE} {g : Nat} (hframes : s.mtr.frames = e :: rest)
    (hopen : s.mtr.openFrame = some g) : (g < e.frame + 513 → exec .markExpiry s = .next s) ∧
    (e.frame + 513 ≤ g → ∃ t, exec .markExpiry s = .next t ∧ e ∉ t.mtr.frames ∧ t.mtr.ovhElec = s.mtr.ovhElec + e.energy ∧
      t = { s with mtr := t.mtr }) := by
  have hexec : exec .markExpiry s = .next (if s.mtr.expired e.frame then s.splitFrames [e] 1 [] e.frame else s) := by
    show execMarkExpiry s = _
    rw [execMarkExpiry, if_neg (by rw [hmetering]; decide), hframes]
  have hexpired : s.mtr.expired e.frame = decide (e.frame + 513 ≤ g) := by rw [MtrSt.expired, hopen]
  rw [hexec, hexpired]
  refine ⟨fun hearly => congrArg _ (if_neg (by simp; omega)), fun hlate => ⟨_, congrArg _ (if_pos (by simpa using hlate)), ?_⟩⟩
  exact s.splitFrames_none e e.frame

theorem heatSplit_none (h : ∀ c ∈ s.mtr.cycles, s.mtr.splittable c = false) : exec .heatSplit s = .next s := by
  have hnone : s.mtr.cycles.find? s.mtr.splittable = none := List.find?_eq_none.2 fun c hc => by rw [h c hc]; decide
  show execHeatSplit s = _
  rw [execHeatSplit, hnone, ite_self]

theorem heatSplit_overhead (hmetering : s.metering = true) {c : CycleQ} (hfind : s.mtr.cycles.find? s.mtr.splittable = some c)
    (hshares : c.shares = []) : ∃ t, exec .heatSplit s = .next t ∧ t.mtr.ovhHeat = s.mtr.ovhHeat + c.heat ∧
      t.mtr.cycles = s.mtr.cycles.filter (fun d => d.id != c.id) ∧ t = { s with mtr := t.mtr } := by
  have hsplit : s.splitCycle c = { s with mtr := { s.mtr with
      ovhHeat := s.mtr.ovhHeat + c.heat,
      cycles := s.mtr.cycles.filter (fun d => d.id != c.id) } } := by
    rw [State.splitCycle, hshares]
    simp only [List.filter_nil, List.map_nil, List.foldl_nil, List.sum_nil, Nat.sub_zero]
    rw [State.give_overhead_heat]
  have hexec : exec .heatSplit s = .next (s.splitCycle c) := by
    show execHeatSplit s = _
    rw [execHeatSplit, if_neg (by rw [hmetering]; decide), hfind]
  exact ⟨_, hexec.trans (congrArg _ hsplit), rfl, rfl, rfl⟩

/-! ### Time and intervals (R571, R572) -/

/-- The RTC set, and no longer unknown. -/
theorem State.rtcPut_effect (s : State) (v : Word) : ∃ u, u = (s.put R.MTR_RTC v.toNat).put R.MTR_STAT_time_unknown 0 ∧
    u.get R.MTR_RTC = v.toNat ∧ u.get R.MTR_STAT_time_unknown = 0 ∧ Writes [R.MTR_RTC, R.MTR_STAT_time_unknown] s u := by
  refine ⟨_, rfl, ?_, State.get_put_same .., ((s.put_writes _ _).mono (by simp)).trans ((State.put_writes _ _ _).mono (by simp))⟩
  rw [State.get_put_other _ _ _ _ (by decide), State.get_put_same]
  exact Nat.mod_eq_of_lt v.isLt

theorem rtcSet_sets (hmetering : s.metering = true) (v : Word) :
    let old := s.get R.MTR_RTC
    (v.toNat < old + 2 → old < v.toNat + 2 → ∃ t, exec (.rtcSet v) s = .next t ∧ t.get R.MTR_RTC = v.toNat ∧
      t.get R.MTR_STAT_time_unknown = 0 ∧ Writes [R.MTR_RTC, R.MTR_STAT_time_unknown] s t) ∧
    (old + 2 ≤ v.toNat ∨ v.toNat + 2 ≤ old → ∃ u, exec (.rtcSet v) s = .next (u.intervalEnd true) ∧ u.get R.MTR_RTC = v.toNat ∧
      u.get R.MTR_STAT_time_unknown = 0 ∧ Writes [R.MTR_RTC, R.MTR_STAT_time_unknown] s u) := by
  intro old
  obtain ⟨u, hu, heffect⟩ := s.rtcPut_effect v
  have hexec : exec (.rtcSet v) s = .next (if old + 2 ≤ v.toNat ∨ v.toNat + 2 ≤ old then u.intervalEnd true else u) :=
    hu ▸ congrArg Host.Outcome.next (if_neg (by rw [hmetering]; decide))
  exact ⟨fun h1 h2 => ⟨u, hexec.trans (congrArg _ (if_neg (by omega))), heffect⟩, fun h => ⟨u, hexec.trans (congrArg _ (if_pos h)), heffect⟩⟩

theorem intervalEnd_waits (h : s.get R.MTR_RTC % 900 ≠ 0 ∨ s.mtr.intervalRtc = some (s.get R.MTR_RTC)) : exec .intervalEnd s = .next s :=
  congrArg Host.Outcome.next (if_neg (by rcases h with h | h <;> simp [h]))

/-- A commit with nothing pending changes no more than whether one is deferred. -/
theorem State.commitPending_idle (s : State) (h : s.pendingRecords = []) : ∃ i, s.commitPending false = { s with isl := i } := by
  rw [State.commitPending, h]
  split
  case isTrue => exact ⟨s.isl, rfl⟩
  case isFalse =>
    rw [if_pos (by rfl)]
    split
    case isTrue => exact ⟨_, rfl⟩
    case isFalse => exact ⟨s.isl, rfl⟩

theorem State.splitAll_nothing (s : State) (h : s.mtr.cycles = []) : s.splitAll = s := by
  rw [State.splitAll, h]
  rfl

/-- What is pending does not depend on the interval's number or instant while nothing is. -/
theorem State.pendingRecords_nothing {t : State} (h : s.pendingRecords = []) (hregs : ∀ n : Fin 2, t.get (R.MTR_CH_ERRT n.val) = s.get (R.MTR_CH_ERRT n.val))
    (hmtr : ∃ i, t.mtr = { s.mtr with intervalRtc := i }) (hisl : t.isl = s.isl) : t.pendingRecords = [] := by
  obtain ⟨i, hmtr⟩ := hmtr
  have herr : t.errTotals = s.errTotals := by
    rw [State.errTotals, State.errTotals]
    exact congrArg₂ (fun a b => [a, b]) (hregs 0) (hregs 1)
  rw [State.pendingRecords, List.append_eq_nil_iff, List.append_eq_nil_iff] at h ⊢
  obtain ⟨⟨hpkg, hten⟩, hrecords⟩ := h
  rw [herr, hmtr, hisl]
  refine ⟨⟨?_, ?_⟩, hrecords⟩
  · have hclean : ¬ s.mtr.dirty s.errTotals = true := by
      intro hdirty
      rw [if_pos hdirty] at hpkg
      cases hpkg
    exact if_neg hclean
  · have hnone := List.map_eq_nil_iff.1 hten
    exact List.map_eq_nil_iff.2 hnone

theorem errt_apart : ∀ n : Fin 2, ∀ f ∈ [R.MTR_INTERVAL], (R.MTR_CH_ERRT n.val).key ≠ f.key := by decide

/-- INTERVAL_END (R572) with nothing to split or write. -/
theorem intervalEnd_counts (hmetering : s.metering = true) (hdue : s.get R.MTR_RTC % 900 = 0) (hnew : s.mtr.intervalRtc ≠ some (s.get R.MTR_RTC))
    (hcycles : s.mtr.cycles = []) (hpending : s.pendingRecords = []) :
    ∃ t, exec .intervalEnd s = .next t ∧ t.get R.MTR_INTERVAL = (s.get R.MTR_INTERVAL + 1) % 2 ^ 32 ∧
      t.mtr.intervalRtc = some (s.get R.MTR_RTC) ∧ t.fls.short = s.fls.short ∧
      Writes [R.MTR_INTERVAL] { s with mtr := t.mtr, fls := t.fls, isl := t.isl } t := by
  obtain ⟨u, hu⟩ : ∃ u, u = s.put R.MTR_INTERVAL (s.get R.MTR_INTERVAL + 1) := ⟨_, rfl⟩
  have hwrites : Writes [R.MTR_INTERVAL] s u := hu ▸ s.put_writes _ _
  have hrtc : u.get R.MTR_RTC = s.get R.MTR_RTC := hwrites.2 _ (by decide)
  obtain ⟨v, hv⟩ : ∃ v : State, v = { u with fls := { u.fls with short := u.fls.short || false }, mtr := { u.mtr with intervalRtc := some (u.get R.MTR_RTC) } } :=
    ⟨_, rfl⟩
  have hnothing : v.pendingRecords = [] :=
    State.pendingRecords_nothing hpending (fun n => by rw [hv]; exact hwrites.2 _ (errt_apart n)) ⟨_, by rw [hv, hwrites.1]⟩ (by rw [hv, hwrites.1])
  obtain ⟨i, hcommit⟩ := v.commitPending_idle hnothing
  have hexec : exec .intervalEnd s = .next { v with isl := { i with runOn := i.mode != .standby } } := by
    refine (congrArg Host.Outcome.next (if_pos (by simp [hmetering, hdue, hnew]))).trans (congrArg _ ?_)
    rw [State.intervalEnd, s.splitAll_nothing hcycles]
    dsimp only
    rw [← hu, ← hv, hcommit]
  refine ⟨_, hexec, ?_, ?_, ?_, ?_⟩
  · show v.get R.MTR_INTERVAL = _
    rw [hv, hu]
    exact s.get_put_same _ _
  · show v.mtr.intervalRtc = _
    rw [hv, ← hrtc]
  · show v.fls.short = _
    rw [hv, hwrites.1]
    exact Bool.or_false _
  · subst hv
    exact ⟨by rw [hwrites.1]; rfl, hwrites.2⟩

end

/-! ### The statement -/

/-- Settles O59. Each event of metering changes its channel, sensor, account or register alone; an energy splits into shares and what is left. -/
theorem metering : Obligations.Metering := by
  intro s
  refine ⟨unmetered, fun h r => congrArg Host.Outcome.next (if_pos h), fun h r => congrArg Host.Outcome.next (if_neg h),
    fun hlock off v hoff hnot => calWrite_writes hlock off v hoff hnot, fun off v h => calWrite_not h v,
    fun h => congrArg Host.Outcome.next (if_pos h), calLock_sets, unlinked, rtcSecond_cold, rtcSecond_counts, fun hm => ?_⟩
  exact ⟨fun n d u hon hroom hd hu hrun => flowMeasurement_valid hm hon hroom hd hu hrun,
    fun n hon hroom hrun => flowMeasurement_missing hm hon hroom hrun, fun n d u h => flowMeasurement_off h d u,
    fun n => ⟨swapBlockEnd_early, fun hs hf h => swapBlockEnd_unused hm hs hf h, fun dn hs hf hmean hvalid => swapBlockEnd_estimates hm hs hf hmean hvalid⟩,
    fun v => let ⟨t, hexec, hrun, htheta⟩ := tempCycleEnd_reads hm v
      ⟨t, hexec, hrun, fun n => ⟨fun hx hlo hhi => (htheta n).trans ((s.thetaOf_cases n v[n]).1 hx hlo hhi),
        fun h => (htheta n).trans ((s.thetaOf_cases n v[n]).2 h)⟩⟩, flowCycleEnd_closes hm, fun v h => railSample_off h v, fun v f hmode hopen => railSample_takes hm hmode hopen v,
    fun slot tenant job bench frame hlink =>
      ⟨bindingMessage_opens hm hlink slot tenant job bench frame, bindingMessage_closes hm hlink slot tenant job bench frame⟩,
    fun f hlink => islandFrameMark_opens hm hlink f, fun f l hlink h => contextMark_late hm hlink f l h,
    fun f slot w e account hlink hframes hframe hfresh haccount htenant hroom =>
      contextMark_splits hm hlink f slot w hframes hframe hfresh haccount htenant hroom,
    fun e rest g hframes hopen => markExpiry_oldest hm hframes hopen, markExpiry_waits, heatSplit_none,
    fun c hfind hshares => heatSplit_overhead hm hfind hshares, rtcSet_sets hm, intervalEnd_waits, intervalEnd_counts hm⟩

end Sys2Proof.Machine
end

section
/-!
PROOFS. Fabric traffic (R451–R476), first part: flits that leave (R452, R455–R457).
-/

namespace Sys2Proof.Machine

/-! ### What signals leave alone of the fabric's view -/

theorem Signals.ownPkg {l : List Fld} {s t : State} (h : Signals l s t) (hl : ∀ f ∈ [R.GEN_TOPO_rack, R.GEN_TOPO_sled, R.GEN_TOPO_slot], ∀ g ∈ l, f.key ≠ g.key) :
    t.ownPkg = s.ownPkg := by
  unfold State.ownPkg
  rw [h.2 R.GEN_TOPO_rack (by decide) (hl _ (by simp)), h.2 R.GEN_TOPO_sled (by decide) (hl _ (by simp)),
    h.2 R.GEN_TOPO_slot (by decide) (hl _ (by simp))]

theorem State.port_portActive {s : State} {k : Nat} (h : (s.port k).state = .active) : s.portActive k = true := by
  rw [State.portActive, h]
  rfl

theorem State.not_portActive {s : State} {k : Nat} (h : (s.port k).state ≠ .active) : ¬ s.portActive k = true := by
  simp [State.portActive, h]

section
variable {s : State} {n : Fin 12}

/-- A port that is not ACTIVE neither sends nor takes flits. -/
theorem flits_inactive (h : (s.port n.val).state ≠ .active) :
    exec (.flitTransmit n) s = .next s ∧ ∀ c m, exec (.flitReceive n c m) s = .next s :=
  ⟨congrArg Host.Outcome.next (if_neg (State.not_portActive h)), fun _ _ => congrArg Host.Outcome.next (if_neg (State.not_portActive h))⟩

theorem exec_flitTransmit (h : (s.port n.val).state = .active) : exec (.flitTransmit n) s = .next (s.flitOut n.val) :=
  congrArg Host.Outcome.next (if_pos (State.port_portActive h))

/-! ### A DATA flit sent -/

theorem State.sendData_effect (s : State) (n : Fin 12) (seq : Nat) (ts : List Txn) :
    let p := s.port n.val
    let t := s.sendData n.val seq ts
    t.port n.val = p.headSent ∧ OtherPorts n s t ∧ t.fab.transfers = s.fab.transfers ∧
      Out.flit n.val (flitMessage (p.head seq false (((ts.map Txn.slotKind) ++ [0, 0, 0]).take 3)) ts) ∈ t.out ∧
      Signals [] { s with fab := t.fab } t := by
  intro p t
  obtain ⟨u, hu⟩ : ∃ u, u = (s.setPort n.val p.headSent).emit
      (.flit n.val (flitMessage (p.head seq false (((ts.map Txn.slotKind) ++ [0, 0, 0]).take 3)) ts)) := ⟨_, rfl⟩
  have ht : t = u.pmu (0x80 + 8 * n.val) none 1 := by rw [hu]; rfl
  have hevent : Signals [] u t := ht ▸ u.pmu_signals _ _ _ []
  have hfab : t.fab = (s.setPort n.val p.headSent).fab := hevent.1.fab.trans (by rw [hu]; rfl)
  refine ⟨?_, (s.setPort_others n _).of_fab hfab, by rw [hfab]; rfl, ?_, ?_⟩
  · rw [State.port_congr hfab]
    exact s.port_setPort_same _ _
  · rw [ht]
    exact State.pmu_out (by rw [hu]; exact List.mem_cons_self ..) _ _ _
  · rw [hfab]
    refine Signals.trans ?_ hevent
    rw [hu]
    exact State.emit_signals (s.setPort n.val p.headSent) _ []

/-! ### FLIT_TRANSMIT -/

/-- With nothing to send, an IDLE flit leaves. -/
theorem flitTransmit_idle (hactive : (s.port n.val).state = .active) (hreplay : (s.port n.val).replay = []) (hqueue : (s.port n.val).queue = []) :
    let k := n.val
    let p := s.port k
    ∃ t, exec (.flitTransmit n) s = .next t ∧ t.out = .flit k (flitMessage (p.head 0 true [0, 0, 0]) []) :: s.out ∧ t.port k = p.headSent ∧
      OtherPorts n s t ∧ t = { s with fab := t.fab, out := t.out } := by
  intro k p
  have hnone : (if p.retry.length < 512 then fillSlots 3 p.queue p.credits else ([], p.queue, p.credits)) = ([], [], p.credits) := by
    show (if p.retry.length < 512 then fillSlots 3 (s.port n.val).queue p.credits else ([], (s.port n.val).queue, p.credits)) = _
    rw [hqueue]
    exact ite_self _
  have hout : s.flitOut k = (s.setPort k p.headSent).emit (.flit k (flitMessage (p.head 0 true [0, 0, 0]) [])) := by
    rw [State.flitOut]
    dsimp only
    rw [hreplay, hnone]
    simp only [List.isEmpty_nil, Bool.not_true, Bool.and_false, Bool.false_eq_true, if_false]
    rfl
  exact ⟨_, (exec_flitTransmit hactive).trans (congrArg _ hout), rfl, s.port_setPort_same _ _, s.setPort_others n _, rfl⟩

/-- A flit to be replayed leaves as it was. -/
theorem flitTransmit_replay (hactive : (s.port n.val).state = .active) {f : SentFlit} {rest : List SentFlit}
    (hreplay : (s.port n.val).replay = f :: rest) :
    let k := n.val
    let p := s.port k
    ∃ t, exec (.flitTransmit n) s = .next t ∧ OtherPorts n s t ∧ t.port k = ({ p with replay := rest } : PortSt).headSent ∧
      Out.flit k (flitMessage (p.head f.seq false (((f.slots.map Txn.slotKind) ++ [0, 0, 0]).take 3)) f.slots) ∈ t.out ∧
      Signals [] { s with fab := t.fab } t := by
  intro k p
  obtain ⟨u, hu⟩ : ∃ u, u = s.setPort k { p with replay := rest } := ⟨_, rfl⟩
  have hout : s.flitOut k = u.sendData k f.seq f.slots := by
    rw [State.flitOut, hu]
    dsimp only
    rw [hreplay]
  have hport : u.port k = { p with replay := rest } := hu ▸ s.port_setPort_same _ _
  obtain ⟨hsent, hothers, -, hmessage, hsignals⟩ := u.sendData_effect n f.seq f.slots
  rw [hport] at hsent hmessage
  refine ⟨_, (exec_flitTransmit hactive).trans (congrArg _ hout), ?_, hsent, hmessage, ?_⟩
  · exact OtherPorts.trans (hu ▸ s.setPort_others n _) hothers
  · rw [hu] at hsignals ⊢
    exact hsignals

/-! ### One transaction with a credit -/

theorem Txn.slotKind_cases (t : Txn) : t.slotKind = 1 ∨ t.slotKind = 2 ∨ t.slotKind = 3 := by
  unfold Txn.slotKind
  split
  · exact .inr (.inr rfl)
  · split
    · exact .inl rfl
    · exact .inr (.inl rfl)

/-- A shared credit is taken first. -/
theorem creditFor_shared {credits : SMap Nat} {t : Txn} (h : 1 ≤ SMap.get 0 credits (16 * (t.slotKind - 1))) :
    creditFor credits t = some (16 * (t.slotKind - 1)) := if_pos h

theorem pickSlot_one {x : QTxn} {credits : SMap Nat} (h : 1 ≤ SMap.get 0 credits (16 * (x.txn.slotKind - 1))) :
    pickSlot [x] credits = some (x, 16 * (x.txn.slotKind - 1)) := by
  have hcredit := creditFor_shared h
  rcases x.txn.slotKind_cases with hkind | hkind | hkind <;>
    simp [pickSlot, List.find?, hkind, hcredit]

theorem pickSlot_nil (credits : SMap Nat) : pickSlot [] credits = none := rfl

theorem fillSlots_one {x : QTxn} {credits : SMap Nat} (h : 1 ≤ SMap.get 0 credits (16 * (x.txn.slotKind - 1))) :
    fillSlots 3 [x] credits =
      ([x], [], SMap.set 0 credits (16 * (x.txn.slotKind - 1)) (SMap.get 0 credits (16 * (x.txn.slotKind - 1)) - 1)) := by
  rw [fillSlots, pickSlot_one h]
  dsimp only
  rw [List.erase_cons_head, fillSlots, pickSlot_nil]

theorem State.noteLeft_effect (s : State) (t : Txn) : (s.noteLeft t).fab.ports = s.fab.ports ∧ (s.noteLeft t) = { s with fab := (s.noteLeft t).fab } ∧
    (t.origin = s.ownPkg → t.kind ≠ 4 → ∀ y ∈ (s.noteLeft t).fab.transfers, y.id = t.xfer → y.leftFrame = s.frame) := by
  rw [State.noteLeft]
  split
  case isTrue h =>
    refine ⟨rfl, rfl, fun _ _ y hy hid => ?_⟩
    obtain ⟨x, -, rfl⟩ := List.mem_map.1 hy
    by_cases hx : x.id = t.xfer
    · rw [if_pos hx]
    · rw [if_neg hx] at hid
      exact absurd hid hx
  case isFalse h => exact ⟨rfl, rfl, fun horigin hkind => absurd ⟨horigin, hkind⟩ h⟩

theorem State.freeSlot_none (s : State) : s.freeSlot none = s := rfl

/-- A transaction with a credit leaves in a DATA flit and is kept for replay. -/
theorem flitTransmit_one (hactive : (s.port n.val).state = .active) {x : QTxn} (hreplay : (s.port n.val).replay = [])
    (hqueue : (s.port n.val).queue = [x]) (hretry : (s.port n.val).retry.length < 512) (hheld : x.held = none)
    (hcredit : 1 ≤ SMap.get 0 (s.port n.val).credits (16 * (x.txn.slotKind - 1))) :
    let k := n.val
    let p := s.port k
    ∃ t, exec (.flitTransmit n) s = .next t ∧ (t.port k).queue = [] ∧ (t.port k).retry = p.retry ++ [⟨p.nextSeq, [x.txn]⟩] ∧
      (t.port k).nextSeq = (p.nextSeq + 1) % 65536 ∧
      (x.txn.origin = s.ownPkg → x.txn.kind ≠ 4 → ∀ y ∈ t.fab.transfers, y.id = x.txn.xfer → y.leftFrame = s.frame) ∧
      SMap.get 0 (t.port k).credits (16 * (x.txn.slotKind - 1)) = SMap.get 0 p.credits (16 * (x.txn.slotKind - 1)) - 1 ∧ OtherPorts n s t ∧
      Out.flit k (flitMessage (p.head p.nextSeq false [x.txn.slotKind, 0, 0]) [x.txn]) ∈ t.out ∧
      Signals [] { s with fab := t.fab } t := by
  intro k p
  have hfill : (if p.retry.length < 512 then fillSlots 3 p.queue p.credits else ([], p.queue, p.credits)) =
      ([x], [], SMap.set 0 p.credits (16 * (x.txn.slotKind - 1)) (SMap.get 0 p.credits (16 * (x.txn.slotKind - 1)) - 1)) := by
    rw [if_pos hretry, show p.queue = [x] from hqueue]
    exact fillSlots_one hcredit
  obtain ⟨p1, hp1⟩ : ∃ p1 : PortSt, p1 = { p with
      queue := [], replay := [], credits := SMap.set 0 p.credits (16 * (x.txn.slotKind - 1)) (SMap.get 0 p.credits (16 * (x.txn.slotKind - 1)) - 1),
      retry := p.retry ++ [⟨p.nextSeq, [x.txn]⟩], nextSeq := (p.nextSeq + 1) % 65536 } := ⟨_, rfl⟩
  obtain ⟨u, hu⟩ : ∃ u, u = s.setPort k p1 := ⟨_, rfl⟩
  obtain ⟨w, hw⟩ : ∃ w, w = u.sendData k p.nextSeq [x.txn] := ⟨_, rfl⟩
  have hout : ∃ code, s.flitOut k = (w.noteLeft x.txn).pmu code none 1 := by
    rw [State.flitOut, hw, hu, hp1]
    dsimp only
    rw [hreplay, hfill]
    simp only [List.isEmpty_nil, Bool.not_true, Bool.and_false, Bool.false_eq_true, if_false, List.foldl_cons, List.foldl_nil, hheld, State.freeSlot_none]
    rw [show (s.port k).replay = [] from hreplay]
    exact ⟨_, rfl⟩
  obtain ⟨code, hout⟩ := hout
  obtain ⟨hsent, hothers, -, hmessage, hsignals⟩ := u.sendData_effect n p.nextSeq [x.txn]
  rw [show u.port n.val = p1 from hu ▸ s.port_setPort_same _ _] at hsent hmessage
  rw [← hw] at hsent hothers hmessage hsignals
  obtain ⟨hports, honly, hleft⟩ := w.noteLeft_effect x.txn
  have hevent := (w.noteLeft x.txn).pmu_signals code none 1 []
  have hfab := hevent.1.fab
  have hport : ((w.noteLeft x.txn).pmu code none 1).port k = p1.headSent := by
    rw [State.port_congr hfab, ← hsent, State.port, hports, State.port]
  have hsentAll : Signals [] { s with fab := w.fab } w := by rw [hu] at hsignals; exact hsignals
  refine ⟨_, (exec_flitTransmit hactive).trans (congrArg _ hout), ?_, ?_, ?_, fun horigin hkind y hy hid => ?_, ?_, ?_, ?_, ?_⟩
  · rw [hport, hp1]
    rfl
  · rw [hport, hp1]
    rfl
  · rw [hport, hp1]
    rfl
  · rw [hfab] at hy
    refine (hleft ?_ hkind y hy hid).trans (congrArg HznSt.frame hsentAll.1.hzn)
    rw [hsentAll.ownPkg (by simp)]
    exact horigin
  · rw [hport, hp1]
    exact SMap.get_set_same ..
  · refine OtherPorts.trans (hu ▸ s.setPort_others n p1) (hothers.trans ?_)
    intro j hj
    rw [hfab, hports]
  · refine State.pmu_out ?_ _ _ _
    rw [honly]
    rw [hp1] at hmessage
    exact hmessage
  · rw [hfab]
    refine Signals.trans ?_ hevent
    have hnoted := hsentAll.withFab (w.noteLeft x.txn).fab
    rw [honly]
    exact hnoted

end

end Sys2Proof.Machine
end

section
/-!
PROOFS. Fabric traffic (R451–R476), second part: flits that arrive (R452, R455, R457).
-/

namespace Sys2Proof.Machine

/-- Corrected bytes counted, and port `n` alone changed: what a flit that arrives does of itself. -/
def FlitSeen (n : Fin 12) (c : Nat) (s t : State) : Prop :=
  t.get (R.FAB_PORT_CNT1_fec_corrected n.val) = satAdd 32 (s.get (R.FAB_PORT_CNT1_fec_corrected n.val)) c ∧ OtherPorts n s t ∧
    Signals [R.FAB_PORT_CNT1_fec_corrected n.val] { s with fab := t.fab } t

theorem fecField_pmu (n : Fin 12) : ¬ inPmu (R.FAB_PORT_CNT1_fec_corrected n.val) := by
  simp only [inPmu, Fld.key, R.FAB_PORT_CNT1_fec_corrected]
  omega

section
variable {s t : State} {n : Fin 12} {c : Nat}

theorem FlitSeen.setPort (h : FlitSeen n c s t) (p : PortSt) : FlitSeen n c s (t.setPort n.val p) := by
  obtain ⟨hget, hothers, hsignals⟩ := h
  exact ⟨hget, hothers.trans (t.setPort_others n p), hsignals.withFab _⟩

theorem FlitSeen.pmu (h : FlitSeen n c s t) (code : Nat) (ctx : Option Nat) (inc : Nat) : FlitSeen n c s (t.pmu code ctx inc) := by
  obtain ⟨hget, hothers, hsignals⟩ := h
  have hevent := t.pmu_signals code ctx inc [R.FAB_PORT_CNT1_fec_corrected n.val]
  refine ⟨(t.pmu_get _ _ _ (fecField_pmu n)).trans hget, hothers.of_fab hevent.1.fab, ?_⟩
  rw [hevent.1.fab]
  exact hsignals.trans hevent

/-- A flit's corrected bytes are counted. -/
def State.fecSeen (s : State) (n c : Nat) : State := (s.count (R.FAB_PORT_CNT1_fec_corrected n) c).pmu (0x80 + 8 * n + 7) none c

theorem State.fecSeen_fab (s : State) (n c : Nat) : (s.fecSeen n c).fab = s.fab := (State.pmu_only _ _ _ _).fab

theorem State.fecSeen_seen (s : State) (n : Fin 12) (c : Nat) : FlitSeen n c s (s.fecSeen n.val c) := by
  have hcount : FlitSeen n c s (s.count (R.FAB_PORT_CNT1_fec_corrected n.val) c) :=
    ⟨State.get_count_same .., fun _ _ => rfl, s.count_signals _ _ (by simp)⟩
  exact hcount.pmu _ _ _

/-! ### What an acknowledgement leaves alone (R457) -/

theorem PortSt.acked_same (p : PortSt) (ack : Nat) : (p.acked ack).lastGood = p.lastGood ∧ (p.acked ack).discarding = p.discarding := by
  unfold PortSt.acked
  split <;> exact ⟨rfl, rfl⟩

/-- A port once a flit without a nak has acknowledged flits and returned credits. -/
def PortSt.credited (p : PortSt) (h : FlitHead) : PortSt :=
  let q := p.acked h.ack
  let key := 16 * h.pool + (if h.reserved then h.hopClass else 0)
  { q with credits := if h.credits = 0 then q.credits else SMap.set 0 q.credits key (SMap.get 0 q.credits key + h.credits) }

theorem PortSt.credited_same (p : PortSt) (h : FlitHead) : (p.credited h).lastGood = p.lastGood ∧ (p.credited h).discarding = p.discarding :=
  p.acked_same h.ack

/-! ### FLIT_RECEIVE -/

theorem exec_flitReceive (hactive : (s.port n.val).state = .active) (c : Option (Fin 9)) (m : Vector Byte 256) :
    exec (.flitReceive n c m) s = .next (s.flitIn n.val (c.map Fin.val) m.toList) :=
  congrArg Host.Outcome.next (if_pos (State.port_portActive hactive))

/-- A flit that decoding fails. -/
theorem flitReceive_undecoded (hactive : (s.port n.val).state = .active) (m : Vector Byte 256) :
    exec (.flitReceive n none m) s = .next (s.setPort n.val { s.port n.val with nakOwed := true, discarding := true }) :=
  exec_flitReceive hactive none m

/-- A flit whose CRC fails. -/
theorem flitReceive_bad (hactive : (s.port n.val).state = .active) (c : Fin 9) {m : Vector Byte 256} (hbad : flitGood m.toList = false) :
    ∃ t, exec (.flitReceive n (some c) m) s = .next t ∧ t.port n.val = { s.port n.val with nakOwed := true, discarding := true } ∧
      FlitSeen n c.val s t := by
  obtain ⟨u, hu⟩ : ∃ u, u = s.fecSeen n.val c.val := ⟨_, rfl⟩
  have hin : s.flitIn n.val (some c.val) m.toList = u.owesNak n.val := by
    rw [hu]
    exact if_pos (by rw [hbad]; rfl)
  refine ⟨_, (exec_flitReceive hactive _ m).trans (congrArg _ hin), (u.port_setPort_same _ _).trans ?_, ?_⟩
  · rw [State.port_congr (hu ▸ s.fecSeen_fab n.val c.val)]
  · exact FlitSeen.setPort (hu ▸ s.fecSeen_seen n c.val) _

/-- What a good flit without a nak does once its header has been taken. -/
def State.flitTaken (s2 : State) (n : Nat) (m : List Byte) : State :=
  let p2 := s2.port n
  if bits (leAt m 0 12) 33 2 ≠ 0 then s2
  else if (FlitHead.ofNat (leAt m 0 12)).seq = (p2.lastGood + 1) % 65536 then
    ((s2.setPort n { p2 with lastGood := (FlitHead.ofNat (leAt m 0 12)).seq, discarding := false }).pmu (0x80 + 8 * n + 1) none 1).slotsIn n m
      (FlitHead.ofNat (leAt m 0 12)).kinds
  else if p2.discarding then s2 else s2.owesNak n

/-- A good flit without a nak. -/
theorem flitReceive_good (hactive : (s.port n.val).state = .active) (c : Fin 9) {m : Vector Byte 256} (hgood : flitGood m.toList = true)
    (hnak : (FlitHead.ofNat (leAt m.toList 0 12)).nak = false) :
    ∃ u, exec (.flitReceive n (some c) m) s = .next (u.flitTaken n.val m.toList) ∧
      u.port n.val = (s.port n.val).credited (FlitHead.ofNat (leAt m.toList 0 12)) ∧ FlitSeen n c.val s u := by
  obtain ⟨u, hu⟩ : ∃ u, u = s.fecSeen n.val c.val := ⟨_, rfl⟩
  have hport : u.port n.val = s.port n.val := State.port_congr (hu ▸ s.fecSeen_fab n.val c.val) _
  obtain ⟨h, hh⟩ : ∃ h, h = FlitHead.ofNat (leAt m.toList 0 12) := ⟨_, rfl⟩
  rw [← hh] at hnak ⊢
  have hin : s.flitIn n.val (some c.val) m.toList = (u.setPort n.val ((s.port n.val).credited h)).flitTaken n.val m.toList := by
    rw [State.flitIn, State.flitTaken]
    dsimp only
    rw [show (s.count (R.FAB_PORT_CNT1_fec_corrected n.val) c.val).pmu (0x80 + 8 * n.val + 7) none c.val = u from hu.symm, hgood, ← hh, hport,
      hnak]
    rfl
  exact ⟨_, (exec_flitReceive hactive _ m).trans (congrArg _ hin), u.port_setPort_same _ _, FlitSeen.setPort (hu ▸ s.fecSeen_seen n c.val) _⟩

/-- An IDLE flit acknowledges and returns credits; a DATA flit in order delivers its slots; one out of order owes a nak. -/
theorem flitReceive_taken (hactive : (s.port n.val).state = .active) (c : Fin 9) {m : Vector Byte 256} (hgood : flitGood m.toList = true)
    (hnak : (FlitHead.ofNat (leAt m.toList 0 12)).nak = false) :
    let k := n.val
    let p := s.port k
    let h := FlitHead.ofNat (leAt m.toList 0 12)
    let q1 := p.credited h
    (bits (leAt m.toList 0 12) 33 2 ≠ 0 → ∃ t, exec (.flitReceive n (some c) m) s = .next t ∧ t.port k = q1 ∧ FlitSeen n c.val s t) ∧
    (bits (leAt m.toList 0 12) 33 2 = 0 → h.seq = (p.lastGood + 1) % 65536 →
      ∃ u, exec (.flitReceive n (some c) m) s = .next (u.slotsIn k m.toList h.kinds) ∧
        u.port k = { q1 with lastGood := h.seq, discarding := false } ∧ FlitSeen n c.val s u) ∧
    (bits (leAt m.toList 0 12) 33 2 = 0 → h.seq ≠ (p.lastGood + 1) % 65536 → ∃ t, exec (.flitReceive n (some c) m) s = .next t ∧
      t.port k = (if p.discarding then q1 else { q1 with nakOwed := true, discarding := true }) ∧ FlitSeen n c.val s t) := by
  intro k p h q1
  obtain ⟨u, hexec, hport, hseen⟩ := flitReceive_good hactive c hgood hnak
  obtain ⟨hlast, hdiscarding⟩ := p.credited_same h
  rw [hexec, State.flitTaken]
  rw [hport, hlast, hdiscarding]
  refine ⟨fun hidle => ⟨u, congrArg _ (if_pos hidle), hport, hseen⟩, fun hdata hseq => ?_, fun hdata hseq => ?_⟩
  · refine ⟨_, congrArg _ ((if_neg (not_not.2 hdata)).trans (if_pos hseq)), ?_, (hseen.setPort _).pmu _ _ _⟩
    rw [State.port_congr (State.pmu_only _ _ _ _).fab, State.port_setPort_same]
  · rw [if_neg (not_not.2 hdata), if_neg hseq]
    by_cases hdisc : p.discarding = true
    · rw [if_pos hdisc, if_pos hdisc]
      exact ⟨u, rfl, hport, hseen⟩
    · rw [if_neg hdisc, if_neg hdisc]
      refine ⟨_, rfl, (u.port_setPort_same _ _).trans ?_, hseen.setPort _⟩
      rw [hport, ← hlast]

end

end Sys2Proof.Machine
end

section
/-!
PROOFS. Fabric traffic (R451–R476), third part: transactions that arrive, lines written and added to, and lines held while their stack sleeps
(R453, R454, R468).
-/

namespace Sys2Proof.Machine

/-! ### What one transaction's command does -/

/-- The commands that bring a transaction, with the type each brings. -/
def txnRows (n : Fin 12) (b : Vector Byte 80) : List (Instr × Nat) := [(.fabricWrite n b, 1), (.cadd n b, 2), (.signal n b, 3), (.resp n b, 4)]

section
variable {s : State} {n : Fin 12} {b : Vector Byte 80}

theorem exec_txnRow {x : Instr × Nat} (hx : x ∈ txnRows n b) : exec x.1 s = .next (s.txnIn n.val x.2 b.toList) := by
  simp only [txnRows, List.mem_cons, List.not_mem_nil, or_false] at hx
  rcases hx with rfl | rfl | rfl | rfl <;> rfl

theorem txnRow_ignored {x : Instr × Nat} (hx : x ∈ txnRows n b)
    (h : (s.port n.val).state ≠ .active ∨ (Txn.ofBytes b.toList).kind ≠ x.2 ∨ (Txn.ofBytes b.toList).dst ≠ s.ownPkg) : exec x.1 s = .next s := by
  refine (exec_txnRow hx).trans (congrArg _ (if_neg fun hall => ?_))
  simp only [Bool.and_eq_true, beq_iff_eq] at hall
  obtain ⟨⟨hactive, hkind⟩, hdst⟩ := hall
  exact h.elim (fun h => State.not_portActive h hactive) fun h => h.elim (· hkind) (· hdst)

section
variable (hactive : (s.port n.val).state = .active) (hdst : (Txn.ofBytes b.toList).dst = s.ownPkg)
include hactive hdst

theorem exec_txnArrives {x : Instr × Nat} (hx : x ∈ txnRows n b) (hkind : (Txn.ofBytes b.toList).kind = x.2) :
    exec x.1 s = .next (s.arriveBytes n.val b.toList none) := by
  refine (exec_txnRow hx).trans (congrArg _ (if_pos ?_))
  rw [State.port_portActive hactive, hkind, hdst]
  simp

/-- A good one for this package is delivered. -/
theorem exec_txnDelivered (hgood : malformed b.toList = false) {x : Instr × Nat} (hx : x ∈ txnRows n b)
    (hkind : (Txn.ofBytes b.toList).kind = x.2) : exec x.1 s = .next (s.deliver n.val (Txn.ofBytes b.toList)) := by
  rw [exec_txnArrives hactive hdst hx hkind, State.arriveBytes, if_neg (by rw [hgood]; decide), State.arrive, if_pos hdst, State.freeSlot_none]

end

end

/-! ### Drops (R453, R468) -/

/-- A drop counted, and its event raised. -/
theorem State.dropped_effect (s : State) {f : Fld} (hf : ¬ inPmu f) (hkey : f.key ≠ R.FAB_EVT.key) {e : Nat} (he : e < 9) :
    BitSet ((s.count f 1).raiseFab e) R.FAB_EVT e ∧ ((s.count f 1).raiseFab e).get f = satAdd f.w (s.get f) 1 ∧
      Signals [f, R.FAB_EVT] s ((s.count f 1).raiseFab e) := by
  have hraise := (s.count f 1).raiseFab_signals e (l := [R.FAB_EVT]) (by simp)
  refine ⟨State.raiseFab_bitSet _ e he, ?_, (s.count_signals f 1 (by simp)).trans (hraise.mono (by simp))⟩
  rw [hraise.2 f hf (by simpa using hkey), State.get_count_same]

/-- The fields of the drops. -/
def fabDropFields : List Fld :=
  [R.FAB_DROP0_job_drops, R.FAB_DROP0_addr_drops, R.FAB_DROP1_hop_drops, R.FAB_DROP1_malformed, R.FAB_DROP1_late_resps, R.FAB_XFER_resp_timeouts]

theorem fabDropFields_apart : ∀ f ∈ fabDropFields, ¬ inPmu f ∧ f.key ≠ R.FAB_EVT.key := by decide

theorem State.drop_effect (s : State) {f : Fld} (hf : f ∈ fabDropFields) {e : Nat} (he : e < 9) :
    BitSet ((s.count f 1).raiseFab e) R.FAB_EVT e ∧ ((s.count f 1).raiseFab e).get f = satAdd f.w (s.get f) 1 ∧
      Signals [f, R.FAB_EVT] s ((s.count f 1).raiseFab e) :=
  s.dropped_effect (fabDropFields_apart f hf).1 (fabDropFields_apart f hf).2 he

/-! ### Delivery of lines (R454, R468) -/

section
variable {s : State} {t : Txn} {port : Nat} (hline : t.kind ≤ 2)
include hline

theorem State.deliver_noContext (hnone : s.ctxWith [1, 2] (t.tenant, t.job) = none) : s.deliver port t = s.jobDrop t := by
  rw [State.deliver]
  dsimp only
  rw [if_neg (show t.kind ≠ 4 by omega), if_neg (show t.kind ≠ 3 by omega), hnone]

variable {c : Nat} (hctx : s.ctxWith [1, 2] (t.tenant, t.job) = some c)
include hctx

theorem State.deliver_noAccess (haccess : s.mayAccess c (64 * t.arg) (64 * t.arg + 64) = false) :
    s.deliver port t = ((s.count R.FAB_DROP0_addr_drops 1).raiseFab 4).answered t 2 0 := by
  rw [State.deliver]
  dsimp only
  rw [if_neg (show t.kind ≠ 4 by omega), if_neg (show t.kind ≠ 3 by omega), hctx]
  exact if_pos (by rw [haccess]; rfl)

/-- A WRITE or a CADD is handed to its controller. -/
theorem State.deliver_line (haccess : s.mayAccess c (64 * t.arg) (64 * t.arg + 64) = true) :
    s.deliver port t = if t.kind = 2 then (s.caddLine t).lineHanded port t
      else ((s.handOver ⟨false, 64 * t.arg, t.data⟩).pmuLine 1 (64 * t.arg) 1).lineHanded port t := by
  rw [State.deliver]
  dsimp only
  rw [if_neg (show t.kind ≠ 4 by omega), if_neg (show t.kind ≠ 3 by omega), hctx]
  exact if_neg (by rw [haccess]; decide)

end

section
variable {s : State} {n : Fin 12} {b : Vector Byte 80} (hactive : (s.port n.val).state = .active)
  (hdst : (Txn.ofBytes b.toList).dst = s.ownPkg)
include hactive hdst

/-- A malformed transaction is counted and dropped. -/
theorem txn_malformed (hbad : malformed b.toList = true) {x : Instr × Nat} (hx : x ∈ txnRows n b) (hkind : (Txn.ofBytes b.toList).kind = x.2) :
    ∃ u, exec x.1 s = .next u ∧ BitSet u R.FAB_EVT 8 ∧ u.get R.FAB_DROP1_malformed = satAdd R.FAB_DROP1_malformed.w (s.get R.FAB_DROP1_malformed) 1 ∧
      Signals [R.FAB_DROP1_malformed, R.FAB_EVT] s u := by
  refine ⟨_, (exec_txnArrives hactive hdst hx hkind).trans (congrArg _ (if_pos hbad)), ?_⟩
  rw [State.freeSlot_none]
  exact s.drop_effect (by simp [fabDropFields]) (by decide)

variable (hgood : malformed b.toList = false)
include hgood

/-- A WRITE or CADD whose pair has no context. -/
theorem txn_noContext {x : Instr × Nat} (hx : x ∈ txnRows n b) (hkind : (Txn.ofBytes b.toList).kind = x.2) (hline : (Txn.ofBytes b.toList).kind ≤ 2)
    (hnone : s.ctxWith [1, 2] ((Txn.ofBytes b.toList).tenant, (Txn.ofBytes b.toList).job) = none) :
    ∃ u, exec x.1 s = .next (u.answered (Txn.ofBytes b.toList) 1 0) ∧ BitSet u R.FAB_EVT 3 ∧
      u.get R.FAB_DROP0_job_drops = satAdd R.FAB_DROP0_job_drops.w (s.get R.FAB_DROP0_job_drops) 1 ∧
      Signals [R.FAB_DROP0_job_drops, R.FAB_EVT] s u :=
  ⟨_, (exec_txnDelivered hactive hdst hgood hx hkind).trans (congrArg _ (State.deliver_noContext hline hnone)),
    s.drop_effect (by simp [fabDropFields]) (by decide)⟩

/-- One whose context may not make the access. -/
theorem txn_noAccess {x : Instr × Nat} (hx : x ∈ txnRows n b) (hkind : (Txn.ofBytes b.toList).kind = x.2) (hline : (Txn.ofBytes b.toList).kind ≤ 2)
    {c : Nat} (hctx : s.ctxWith [1, 2] ((Txn.ofBytes b.toList).tenant, (Txn.ofBytes b.toList).job) = some c)
    (haccess : s.mayAccess c (64 * (Txn.ofBytes b.toList).arg) (64 * (Txn.ofBytes b.toList).arg + 64) = false) :
    ∃ u, exec x.1 s = .next (u.answered (Txn.ofBytes b.toList) 2 0) ∧ BitSet u R.FAB_EVT 4 ∧
      u.get R.FAB_DROP0_addr_drops = satAdd R.FAB_DROP0_addr_drops.w (s.get R.FAB_DROP0_addr_drops) 1 ∧
      Signals [R.FAB_DROP0_addr_drops, R.FAB_EVT] s u :=
  ⟨_, (exec_txnDelivered hactive hdst hgood hx hkind).trans (congrArg _ (State.deliver_noAccess hline hctx haccess)),
    s.drop_effect (by simp [fabDropFields]) (by decide)⟩

end

/-! ### Lines held while their stack sleeps (R151, R296, R300) -/

theorem stackOf_line (k : Nat) {i : Nat} (h : i < 64) : stackOf (64 * k + i) = stackOf (64 * k) := by
  rw [stackOf, stackOf, Nat.mul_add_div (by decide), Nat.div_eq_of_lt h, Nat.add_zero, Nat.mul_div_cancel_left _ (by decide)]

theorem State.asleep_line (s : State) (k : Nat) {i : Nat} (h : i < 64) : s.asleep (64 * k + i) = s.asleep (64 * k) := by
  rw [State.asleep, stackOf_line k h]
  rfl

theorem State.asleep_congr {s t : State} (h : t.clk = s.clk) (a : Nat) : t.asleep a = s.asleep a := by rw [State.asleep, h, State.asleep]

/-- The writes that controllers hold. -/
def State.withDue (s : State) (l : List DueWrite) : State := { s with dueWrites := l }

section
variable (s : State) (l : List DueWrite)

theorem State.pmuBump_withDue (n inc : Nat) : (s.withDue l).pmuBump n inc = ((s.pmuBump n inc).1.withDue l, (s.pmuBump n inc).2) := by
  obtain ⟨v, hv⟩ : ∃ v, v = s.pmuCount n + inc := ⟨_, rfl⟩
  have hdue : (s.withDue l).pmuCount n + inc = v := hv.symm
  rw [State.pmuBump, State.pmuBump]
  rw [hdue, ← hv]
  split <;> rfl

theorem State.pmuAdd_withDue (code : Nat) (ctx : Option Nat) (inc : Nat) :
    (s.withDue l).pmuAdd code ctx inc = ((s.pmuAdd code ctx inc).1.withDue l, (s.pmuAdd code ctx inc).2) := by
  have hfold (ns : List Nat) (p : State × Bool) :
      ns.foldl (fun p n => if p.1.pmuTakes n code ctx then let q := p.1.pmuBump n inc; (q.1, p.2 || q.2) else p) (p.1.withDue l, p.2) =
        let r := ns.foldl (fun p n => if p.1.pmuTakes n code ctx then let q := p.1.pmuBump n inc; (q.1, p.2 || q.2) else p) p
        (r.1.withDue l, r.2) := by
    induction ns generalizing p with
    | nil => rfl
    | cons n ns ih =>
      rw [List.foldl_cons, List.foldl_cons, ← ih]
      congr 1
      have htakes : (p.1.withDue l).pmuTakes n code ctx = p.1.pmuTakes n code ctx := rfl
      dsimp only
      rw [htakes, State.pmuBump_withDue]
      split <;> rfl
  rw [State.pmuAdd, State.pmuAdd]
  have hrun : (s.withDue l).get R.PMU_RUN = s.get R.PMU_RUN := rfl
  rw [hrun]
  split
  · rfl
  · exact hfold _ (s, false)

theorem State.sendRaw_withDue (v : Nat) : (s.withDue l).sendRaw v = ((s.sendRaw v).1.withDue l, (s.sendRaw v).2) := by
  have hsend : ((s.withDue l).half ((s.withDue l).route v)).canSend v = (s.half (s.route v)).canSend v := rfl
  rw [State.sendRaw, State.sendRaw]
  rw [hsend]
  split <;> rfl

theorem State.pmuOverflow_withDue : (s.withDue l).pmuOverflow = s.pmuOverflow.withDue l := by
  obtain ⟨u, hu⟩ : ∃ u, u = s.setBit R.PMU_EVT 0 := ⟨_, rfl⟩
  have hset : (s.withDue l).setBit R.PMU_EVT 0 = u.withDue l := by rw [hu]; rfl
  have hevt : (s.withDue l).get R.PMU_EVT = s.get R.PMU_EVT := rfl
  have hen : (u.withDue l).get R.PMU_IRQ_EN = u.get R.PMU_IRQ_EN := rfl
  have hmap : (u.withDue l).get R.HOST_IRQ_MAP2_pmu = u.get R.HOST_IRQ_MAP2_pmu := rfl
  rw [State.pmuOverflow, State.pmuOverflow, hevt]
  rw [hset, ← hu]
  dsimp only
  rw [hen, hmap, State.sendRaw_withDue]
  dsimp only
  rw [State.pmuAdd_withDue]
  split
  · rfl
  · split
    · split <;> rfl
    · rfl

/-- A count of events does not depend on what controllers hold. -/
theorem State.pmu_withDue (code : Nat) (ctx : Option Nat) (inc : Nat) : (s.withDue l).pmu code ctx inc = (s.pmu code ctx inc).withDue l := by
  rw [State.pmu, State.pmu]
  rw [State.pmuAdd_withDue, State.pmuOverflow_withDue]
  split <;> rfl

end

/-- A line held with its answer. -/
def State.lineHeld (s : State) (port : Nat) (t : Txn) (l : List DueWrite) : State :=
  { s with dueWrites := s.dueWrites ++ l, fab := { s.fab with unseen := s.fab.unseen ++ [(port, t)] } }

/-- A WRITE held. -/
theorem State.writeHeld (s : State) (port : Nat) (t : Txn) (h : s.asleep (64 * t.arg) = true) :
    ((s.handOver ⟨false, 64 * t.arg, t.data⟩).pmuLine 1 (64 * t.arg) 1).lineHanded port t =
      (s.pmuLine 1 (64 * t.arg) 1).lineHeld port t [⟨false, 64 * t.arg, t.data⟩] := by
  obtain ⟨u, hu⟩ : ∃ u, u = s.pmuLine 1 (64 * t.arg) 1 := ⟨_, rfl⟩
  have honly : OnlySignals s u := hu ▸ s.pmu_only _ _ _
  have hdue : u.dueWrites = s.dueWrites := by rw [honly]
  have hcount : (s.handOver ⟨false, 64 * t.arg, t.data⟩).pmuLine 1 (64 * t.arg) 1 = u.withDue (u.dueWrites ++ [⟨false, 64 * t.arg, t.data⟩]) := by
    rw [State.handOver_asleep (w := ⟨false, 64 * t.arg, t.data⟩) h, hdue, hu]
    exact s.pmu_withDue _ _ _ _
  rw [hcount, ← hu, State.lineHanded, if_pos]
  · rfl
  · exact (State.asleep_congr honly.clk _).trans h

/-- A CADD's adds that are held. -/
theorem State.caddFold_asleep (t : Txn) (ws : List Nat) (s : State) (h : ∀ w ∈ ws, s.asleep (64 * t.arg + 8 * w) = true) :
    ws.foldl (fun u w => if bitAt t.info w then u.handOver ⟨true, 64 * t.arg + 8 * w, (t.data.drop (8 * w)).take 8⟩ else u) s =
      s.withDue (s.dueWrites ++ (ws.filter (fun w => bitAt t.info w)).map
        (fun w => (⟨true, 64 * t.arg + 8 * w, (t.data.drop (8 * w)).take 8⟩ : DueWrite))) := by
  induction ws generalizing s with
  | nil =>
    rw [List.filter_nil, List.map_nil, List.append_nil]
    rfl
  | cons w ws ih =>
    obtain ⟨hw, hws⟩ := List.forall_mem_cons.1 h
    rw [List.foldl_cons]
    by_cases hbit : bitAt t.info w = true
    · rw [if_pos hbit, State.handOver_asleep (w := ⟨true, 64 * t.arg + 8 * w, (t.data.drop (8 * w)).take 8⟩) hw, List.filter_cons_of_pos hbit, List.map_cons]
      refine (ih (s.withDue (s.dueWrites ++ [⟨true, 64 * t.arg + 8 * w, (t.data.drop (8 * w)).take 8⟩])) hws).trans ?_
      show s.withDue ((s.dueWrites ++ [_]) ++ _) = _
      rw [List.append_assoc]
      rfl
    · rw [if_neg hbit, List.filter_cons_of_neg hbit]
      exact ih s hws

/-- A CADD held. -/
theorem State.caddHeld (s : State) (port : Nat) (t : Txn) (h : s.asleep (64 * t.arg) = true) :
    (s.caddLine t).lineHanded port t = s.lineHeld port t (((List.range 8).filter (fun w => bitAt t.info w)).map
      (fun w => (⟨true, 64 * t.arg + 8 * w, (t.data.drop (8 * w)).take 8⟩ : DueWrite))) := by
  have hasleep : ∀ w ∈ List.range 8, s.asleep (64 * t.arg + 8 * w) = true := fun w hw =>
    (s.asleep_line t.arg (by have := List.mem_range.1 hw; omega)).trans h
  rw [State.caddLine, State.caddFold_asleep t _ s hasleep, State.lineHanded, if_pos]
  · rfl
  · exact h

end Sys2Proof.Machine
end

section
/-!
PROOFS. Fabric traffic (R451–R476), fourth part: lines applied at once (R285, R454, R462, R468, R473).
-/

namespace Sys2Proof.Machine

/-! ### Memory read after a write or an add elsewhere -/

theorem State.readMem_apart {s t : State} {a n : Nat} (h : SameMemBut a n s t) {c m : Nat} (hapart : c + m ≤ a ∨ a + n ≤ c) :
    t.readMem c m = s.readMem c m := by
  rw [State.readMem, State.readMem, Memory.read, Memory.read]
  refine List.map_congr_left fun i hi => h _ ?_
  have := List.mem_range.1 hi
  omega

theorem SameMemBut.mono {s t : State} {a n c m : Nat} (h : SameMemBut a n s t) (hlo : c ≤ a) (hhi : a + n ≤ c + m) : SameMemBut c m s t :=
  fun x hx => h x (by omega)

theorem SameMemBut.trans {s t u : State} {a n : Nat} (h1 : SameMemBut a n s t) (h2 : SameMemBut a n t u) : SameMemBut a n s u :=
  fun x hx => (h2 x hx).trans (h1 x hx)

/-! ### One compensated add -/

/-- What signals change does not depend on memory or on what controllers count. -/
def MemSignals (s t : State) : Prop := Signals [] { s with mem := t.mem, poison := t.poison, flushes := t.flushes } t

section
variable {s t u : State}

theorem MemSignals.refl (s : State) : MemSignals s s := Signals.refl [] s

theorem Signals.withFlushes {l : List Fld} (h : Signals l s t) (m : List Host.Cell) (p : List Nat) (f : Vector Nat 2) :
    Signals l { s with mem := m, poison := p, flushes := f } { t with mem := m, poison := p, flushes := f } :=
  ⟨by rw [h.1]; rfl, h.2⟩

theorem MemSignals.trans (h1 : MemSignals s t) (h2 : MemSignals t u) : MemSignals s u :=
  (Signals.withFlushes h1 u.mem u.poison u.flushes).trans h2

theorem MemSignals.clk (h : MemSignals s t) : t.clk = s.clk := by rw [h.1]

theorem Signals.memory (h : Signals [] s t) : MemSignals s t := by
  have hflushes : t.flushes = s.flushes := by rw [h.1]
  rw [MemSignals, h.1.mem, h.1.poison, hflushes]
  exact h

theorem State.writeMem_memory (s : State) (a : Nat) (bs : List Byte) : MemSignals s (s.writeMem a bs) := ⟨rfl, fun _ _ _ => rfl⟩

theorem State.countFlush_memory (s : State) (a : Nat) (flushed : Bool) : MemSignals s (s.countFlush a flushed) := by
  cases flushed <;> exact ⟨rfl, fun _ _ _ => rfl⟩

theorem State.addComp_memory (s : State) (a w : Nat) : MemSignals s (s.addComp a w) :=
  ((s.writeMem_memory a _).trans (State.pmu_signals _ _ _ _ []).memory).trans (State.countFlush_memory _ a _)

end

theorem State.addComp_readMem (s : State) (a w : Nat) : (s.addComp a w).readMem a 8 = toLE 8 (compAdd (s.readNum a 8) w).1 := by
  have hread := Memory.read_write s.mem a (toLE 8 (compAdd (s.readNum a 8) w).1)
  rw [toLE_length] at hread
  rw [State.readMem, State.addComp_mem]
  exact hread

/-! ### A CADD's line -/

/-- The state after the adds of a line's first `m` words. -/
def State.caddUpTo (s : State) (t : Txn) (m : Nat) : State :=
  (List.range m).foldl (fun u w => if bitAt t.info w then u.handOver ⟨true, 64 * t.arg + 8 * w, (t.data.drop (8 * w)).take 8⟩ else u) s

/-- What a word of a CADD's line holds afterwards. -/
def State.caddWord (s : State) (t : Txn) (w : Nat) : List Byte :=
  toLE 8 (compAdd (s.readNum (64 * t.arg + 8 * w) 8) (leAt t.data (8 * w) 8)).1

section
variable {s : State} {t : Txn} (hawake : s.asleep (64 * t.arg) = false)
include hawake

/-- One word's add, where its mask bit is set. -/
theorem State.caddUpTo_succ {m : Nat} (hm : m < 8) (hclk : (s.caddUpTo t m).clk = s.clk) :
    s.caddUpTo t (m + 1) = if bitAt t.info m then (s.caddUpTo t m).addComp (64 * t.arg + 8 * m) (leAt t.data (8 * m) 8) else s.caddUpTo t m := by
  have hword : (s.caddUpTo t m).asleep (64 * t.arg + 8 * m) = false := by
    rw [State.asleep_line _ _ (by omega), State.asleep_congr hclk, hawake]
  rw [State.caddUpTo, List.range_succ, List.foldl_append, List.foldl_cons, List.foldl_nil]
  congr 1
  exact State.handOver_awake (w := ⟨true, 64 * t.arg + 8 * m, (t.data.drop (8 * m)).take 8⟩) hword

/-- A word's add changes that word alone; each word not reached yet is as it was. -/
theorem State.caddUpTo_effect {m : Nat} (hm : m ≤ 8) :
    MemSignals s (s.caddUpTo t m) ∧ SameMemBut (64 * t.arg) 64 s (s.caddUpTo t m) ∧
      ∀ w, w < 8 → (s.caddUpTo t m).readMem (64 * t.arg + 8 * w) 8 =
        if w < m ∧ bitAt t.info w = true then s.caddWord t w else s.readMem (64 * t.arg + 8 * w) 8 := by
  induction m with
  | zero => exact ⟨.refl s, fun _ _ => rfl, fun w _ => (if_neg (by omega)).symm⟩
  | succ m ih =>
    obtain ⟨hsignals, hmem, hwords⟩ := ih (by omega)
    rw [State.caddUpTo_succ hawake (by omega) hsignals.clk]
    obtain ⟨u, hu⟩ : ∃ u, u = s.caddUpTo t m := ⟨_, rfl⟩
    rw [← hu] at hsignals hmem hwords ⊢
    by_cases hbit : bitAt t.info m = true
    · rw [if_pos hbit]
      have hbut := u.addComp_sameMemBut (64 * t.arg + 8 * m) (leAt t.data (8 * m) 8)
      refine ⟨hsignals.trans (u.addComp_memory _ _), hmem.trans (hbut.mono (by omega) (by omega)), fun w hw => ?_⟩
      by_cases hwm : w = m
      · subst hwm
        rw [if_pos ⟨by omega, hbit⟩, State.addComp_readMem, State.readNum, hwords w hw, if_neg (by omega)]
        rfl
      · rw [State.readMem_apart hbut (by omega), hwords w hw]
        exact if_congr ⟨fun h => ⟨Nat.lt_succ_of_lt h.1, h.2⟩, fun h => ⟨by omega, h.2⟩⟩ rfl rfl
    · rw [if_neg hbit]
      refine ⟨hsignals, hmem, fun w hw => (hwords w hw).trans (if_congr ⟨fun h => ⟨by omega, h.2⟩, fun h => ⟨?_, h.2⟩⟩ rfl rfl)⟩
      obtain ⟨hle, hset⟩ := h
      have hne : w ≠ m := fun hwm => hbit (hwm ▸ hset)
      omega

/-- A CADD applied at once. -/
theorem State.cadd_awake (port : Nat) (hkind : t.kind = 2) :
    ∃ u, (s.caddLine t).lineHanded port t = u.answered t 0 0 ∧ SameMemBut (64 * t.arg) 64 s u ∧
      (∀ w, w < 8 → u.readMem (64 * t.arg + 8 * w) 8 = if bitAt t.info w = true then s.caddWord t w else s.readMem (64 * t.arg + 8 * w) 8) ∧
      Signals [] { s with mem := u.mem, poison := u.poison, flushes := u.flushes } u := by
  obtain ⟨hsignals, hmem, hwords⟩ := State.caddUpTo_effect hawake (Nat.le_refl 8)
  refine ⟨s.caddUpTo t 8, ?_, hmem, fun w hw => (hwords w hw).trans (if_congr (and_iff_right hw) rfl rfl), hsignals⟩
  have hstill : (s.caddUpTo t 8).asleep (64 * t.arg) = false := (State.asleep_congr hsignals.clk _).trans hawake
  show (s.caddUpTo t 8).lineHanded port t = _
  rw [State.lineHanded, if_neg (by rw [hstill]; decide), State.lineSeen, if_neg (by omega)]

/-- A WRITE applied at once. -/
theorem State.write_awake (port : Nat) (hkind : t.kind = 1) (hlength : t.data.length = 64) :
    ∃ u, ((s.handOver ⟨false, 64 * t.arg, t.data⟩).pmuLine 1 (64 * t.arg) 1).lineHanded port t = u.answered t 0 0 ∧
      u.readMem (64 * t.arg) 64 = t.data ∧ SameMemBut (64 * t.arg) 64 s u ∧
      u.seqs = (if t.sched then (s.frecvLine port (64 * t.arg)).seqs else s.seqs) ∧
      Signals [] { s with mem := u.mem, poison := u.poison, seqs := u.seqs } u := by
  obtain ⟨v, hv⟩ : ∃ v, v = (s.writeMem (64 * t.arg) t.data).pmuLine 1 (64 * t.arg) 1 := ⟨_, rfl⟩
  have hstore : (s.handOver ⟨false, 64 * t.arg, t.data⟩).pmuLine 1 (64 * t.arg) 1 = v := by
    rw [State.handOver_awake (w := ⟨false, 64 * t.arg, t.data⟩) hawake, hv]
    rfl
  have hevent : Signals [] (s.writeMem (64 * t.arg) t.data) v := hv ▸ State.pmu_signals _ _ _ _ []
  have hmem : v.mem = (s.writeMem (64 * t.arg) t.data).mem := hevent.1.mem
  have hread : v.readMem (64 * t.arg) 64 = t.data := by
    have hback := Memory.read_write s.mem (64 * t.arg) t.data
    rw [hlength] at hback
    rw [State.readMem, hmem]
    exact hback
  have hbut : SameMemBut (64 * t.arg) 64 s v := fun x hx => by
    rw [hmem]
    exact Memory.get_write_outside _ s.mem _ x (by rwa [hlength])
  have hseqs : v.seqs = s.seqs := hevent.1.seqs
  have hsignals : Signals [] { s with mem := v.mem, poison := v.poison } v := by
    rw [hmem, hevent.1.poison]
    exact hevent
  have hstill : v.asleep (64 * t.arg) = false := (State.asleep_congr (t := v) (hevent.1.clk) _).trans hawake
  rw [hstore, State.lineHanded, if_neg (by rw [hstill]; decide), State.lineSeen]
  refine ⟨_, rfl, ?_⟩
  by_cases hsched : t.sched = true
  · rw [if_pos ⟨hkind, hsched⟩, if_pos hsched]
    refine ⟨hread, hbut, ?_, ?_⟩
    · rw [State.frecvLine, State.frecvLine, hseqs]
    · exact ⟨by rw [hsignals.1]; rfl, hsignals.2⟩
  · rw [if_neg (fun h => hsched h.2), if_neg hsched]
    refine ⟨hread, hbut, hseqs, ?_⟩
    rw [hseqs]
    exact hsignals

end

end Sys2Proof.Machine
end

section
/-!
PROOFS. Fabric traffic (R434, R451–R476), fifth part: signals, responses, tallies and timeouts, and the statement about the traffic.
-/

namespace Sys2Proof.Machine

/-! ### SIGNAL (R434) -/

section
variable {s : State} {t : Txn} {port : Nat} (hkind : t.kind = 3)
include hkind

theorem State.deliver_signal {u : State} {applied : Bool}
    (h : s.remoteSignal (t.tenant, t.job) (bits t.arg 0 12) (bits t.arg 12 16) = (u, applied)) :
    s.deliver port t = if applied = true then u.answered t 0 0 else u.jobDrop t := by
  rw [State.deliver]
  dsimp only
  rw [if_neg (show t.kind ≠ 4 by omega), if_pos hkind, h]

theorem State.deliver_signal_gated (hgated : s.blockUp 9 = false) : s.deliver port t = s.jobDrop t :=
  State.deliver_signal hkind (if_pos (by rw [hgated]; rfl))

variable (hup : s.blockUp 9 = true)
include hup

/-- A signal to an object of a slot that holds its pair. -/
theorem State.deliver_signal_owned (c : Fin 64) (hstate : s.ctxState c.val = 1 ∨ s.ctxState c.val = 2) (hpair : s.ctxPair c.val = (t.tenant, t.job))
    (hrange : s.inRangeOf c.val (bits t.arg 0 12) = true) :
    s.deliver port t =
      (s.put (R.SYNC_VAL_value (bits t.arg 0 12)) (s.get (R.SYNC_VAL_value (bits t.arg 0 12)) + bits t.arg 12 16)).answered t 0 0 := by
  have howned : ((List.range 64).any fun c =>
      [1, 2, 3].contains (s.ctxState c) && s.ctxPair c == (t.tenant, t.job) && s.inRangeOf c (bits t.arg 0 12)) = true := by
    refine List.any_eq_true.2 ⟨c.val, List.mem_range.2 c.isLt, ?_⟩
    rw [hpair, hrange]
    rcases hstate with h | h <;> simp [h]
  refine State.deliver_signal (applied := true) hkind ?_
  rw [State.remoteSignal, if_neg (by rw [hup]; decide), if_pos (by rw [howned]; rfl)]
  rfl

/-- A signal whose pair no slot and no saved context holds. -/
theorem State.deliver_signal_unowned (hslots : ∀ c : Fin 64, s.ctxPair c.val ≠ (t.tenant, t.job)) (hsaved : ∀ y ∈ s.saved, y.pair ≠ (t.tenant, t.job)) :
    s.deliver port t = ((s.count R.SYNC_CNT_dropped_remote 1).setBit R.SYNC_EVT 1).jobDrop t := by
  have hnone : ((List.range 64).any fun c =>
      [1, 2, 3].contains (s.ctxState c) && s.ctxPair c == (t.tenant, t.job) && s.inRangeOf c (bits t.arg 0 12)) = false := by
    refine List.any_eq_false.2 fun c hc => ?_
    have hne := hslots ⟨c, List.mem_range.1 hc⟩
    simp [hne]
  have hnotSaved : (s.saved.any fun x => x.pair == (t.tenant, t.job) &&
      decide (x.syncBase ≤ bits t.arg 0 12 ∧ bits t.arg 0 12 < x.syncBase + x.syncCount)) = false :=
    List.any_eq_false.2 fun y hy => by simp [hsaved y hy]
  refine State.deliver_signal (applied := false) hkind ?_
  rw [State.remoteSignal, if_neg (by rw [hup]; decide), if_neg (by rw [hnone, hnotSaved]; decide)]

end

/-- The drop of a signal without an owner, counted by both blocks. -/
theorem State.signalDropped_effect (s : State) :
    let u := (((s.count R.SYNC_CNT_dropped_remote 1).setBit R.SYNC_EVT 1).count R.FAB_DROP0_job_drops 1).raiseFab 3
    BitSet u R.SYNC_EVT 1 ∧ BitSet u R.FAB_EVT 3 ∧
      u.get R.SYNC_CNT_dropped_remote = satAdd R.SYNC_CNT_dropped_remote.w (s.get R.SYNC_CNT_dropped_remote) 1 ∧
      u.get R.FAB_DROP0_job_drops = satAdd R.FAB_DROP0_job_drops.w (s.get R.FAB_DROP0_job_drops) 1 ∧
      Signals [R.SYNC_CNT_dropped_remote, R.SYNC_EVT, R.FAB_DROP0_job_drops, R.FAB_EVT] s u := by
  intro u
  obtain ⟨v, hv⟩ : ∃ v, v = (s.count R.SYNC_CNT_dropped_remote 1).setBit R.SYNC_EVT 1 := ⟨_, rfl⟩
  have hsync : Writes [R.SYNC_CNT_dropped_remote, R.SYNC_EVT] s v := by
    rw [hv, State.setBit_eq]
    exact ((s.count_writes _ _).mono (by simp)).trans ((State.put_writes _ _ _).mono (by simp))
  have hbit : BitSet v R.SYNC_EVT 1 := by
    rw [BitSet, hv, State.setBit_bit _ _ _ _ (by decide)]
    exact Bool.or_true _
  have hcount : v.get R.SYNC_CNT_dropped_remote = satAdd R.SYNC_CNT_dropped_remote.w (s.get R.SYNC_CNT_dropped_remote) 1 := by
    rw [hv, State.setBit_eq, State.get_put_other _ _ _ _ (by decide), State.get_count_same]
  have hu : u = (v.count R.FAB_DROP0_job_drops 1).raiseFab 3 := by rw [hv]
  obtain ⟨hevent, hdrops, hsignals⟩ := v.drop_effect (f := R.FAB_DROP0_job_drops) (by simp [fabDropFields]) (e := 3) (by decide)
  rw [← hu] at hevent hdrops hsignals
  refine ⟨?_, hevent, ?_, ?_, (hsync.signals.mono (by simp)).trans (hsignals.mono (by simp))⟩
  · rw [BitSet, hsignals.2 _ (by decide) (by decide)]
    exact hbit
  · rw [hsignals.2 _ (by decide) (by decide), hcount]
  · rw [hdrops, hsync.2 _ (by decide)]

/-! ### RESP (R469) -/

section
variable {s : State} {t : Txn}

theorem State.deliver_resp (hkind : t.kind = 4) (port : Nat) : s.deliver port t = s.takeResp t := if_pos hkind

theorem State.takeResp_late (h : ∀ x ∈ s.fab.transfers, x.id ≠ t.xfer) : s.takeResp t = (s.count R.FAB_DROP1_late_resps 1).raiseFab 7 := by
  have hnone : s.fab.transfers.find? (fun x => x.id == t.xfer) = none := List.find?_eq_none.2 fun x hx => by simpa using h x hx
  rw [State.takeResp, hnone]

section
variable {x : Transfer} (hone : s.fab.transfers = [x]) (hid : x.id = t.xfer) (hstatus : bits t.info 0 4 = 0)
include hone hid hstatus

theorem State.takeResp_counts (hmore : x.answered + t.arg < x.count) :
    s.takeResp t = { s with fab := { s.fab with transfers := [{ x with answered := x.answered + t.arg }] } } := by
  have hfind : s.fab.transfers.find? (fun x => x.id == t.xfer) = some x := by
    rw [hone]
    exact List.find?_cons_of_pos (by simpa using hid)
  rw [State.takeResp, hfind]
  dsimp only
  rw [if_neg (not_not.2 hstatus), if_neg (by omega), hone]
  simp

/-- The last answer of the only transfer, while no descriptor waits. -/
theorem State.takeResp_resolves (hlast : x.count ≤ x.answered + t.arg) (hdescs : s.descs = []) :
    s.takeResp t = { s with fab := { s.fab with transfers := [] } } := by
  have hfind : s.fab.transfers.find? (fun x => x.id == t.xfer) = some x := by
    rw [hone]
    exact List.find?_cons_of_pos (by simpa using hid)
  have hgone : s.fab.transfers.filter (fun y => y.id != x.id) = [] := by
    rw [hone]
    simp
  rw [State.takeResp, hfind]
  dsimp only
  rw [if_neg (not_not.2 hstatus), if_pos hlast, State.resolve]
  dsimp only
  rw [if_pos rfl, hgone, State.resumeSignal, hdescs]
  rfl

end

/-! ### Tallies (R468, R476) -/

/-- A first answer of another package's transfer opens its tally. -/
theorem State.answered_opens (s : State) {t : Txn} (status port : Nat) (horigin : t.origin ≠ s.ownPkg) (hlast : t.last = false)
    (hroom : s.fab.tallies.length < 256) (hnew : ∀ x ∈ s.fab.tallies, x.sameAs t.origin t.xfer = false) :
    ∃ u, u = s.answered t status port ∧ u.fab.tallies = s.fab.tallies ++ [⟨t.origin, t.xfer, t.tenant, t.job, 1, status, port⟩] ∧
      u = { s with fab := { s.fab with tallies := u.fab.tallies } } := by
  have hnone : s.fab.tallies.find? (fun x => x.sameAs t.origin t.xfer) = none := List.find?_eq_none.2 fun x hx => by rw [hnew x hx]; decide
  have hopen : s.answered t status port =
      { s with fab := { s.fab with tallies := s.fab.tallies ++ [⟨t.origin, t.xfer, t.tenant, t.job, 1, status, port⟩] } } := by
    rw [State.answered, if_neg horigin, hnone]
    dsimp only
    rw [if_neg (by omega), if_neg (by rw [hlast]; decide)]
  exact ⟨_, hopen.symm, rfl, rfl⟩

theorem respTallyFlush_none (origin : BitVec 10) (xfer : BitVec 16) (h : ∀ x ∈ s.fab.tallies, x.sameAs origin.toNat xfer.toNat = false) :
    exec (.respTallyFlush origin xfer) s = .next s := by
  have hnone : s.fab.tallies.find? (fun x => x.sameAs origin.toNat xfer.toNat) = none := List.find?_eq_none.2 fun x hx => by rw [h x hx]; decide
  show execRespTallyFlush origin xfer s = _
  rw [execRespTallyFlush, hnone]

section
variable {origin : BitVec 10} {xfer : BitVec 16} {x : Tally} {n : Nat} (hone : s.fab.tallies = [x])
  (hsame : x.sameAs origin.toNat xfer.toNat = true) (horigin : x.origin ≠ s.ownPkg)
include hone hsame horigin

/-- The only tally's RESP goes on its way. -/
theorem exec_respTallyFlush : exec (.respTallyFlush origin xfer) s =
    .next (({ s with fab := { s.fab with tallies := [] } } : State).forwardResp (respTo s.ownPkg x.txn x.status x.port x.count) none) := by
  have hfind : s.fab.tallies.find? (fun x => x.sameAs origin.toNat xfer.toNat) = some x := by
    rw [hone]
    exact List.find?_cons_of_pos hsame
  have hself : x.sameAs x.origin x.id = true := by simp [Tally.sameAs]
  have hgone : s.fab.tallies.filter (fun y => !y.sameAs x.origin x.id) = [] := by
    rw [hone, List.filter_cons_of_neg (by rw [hself]; decide)]
    rfl
  show execRespTallyFlush origin xfer s = _
  rw [execRespTallyFlush, hfind]
  dsimp only
  rw [State.flushTally, hgone, State.answer]
  dsimp only
  exact congrArg _ (if_neg horigin)

variable (hport : primaryPort s.ownPkg x.origin = some n)
include hport

theorem exec_respTallyFlush_port : exec (.respTallyFlush origin xfer) s =
    .next (if s.portActive n then
      ({ s with fab := { s.fab with tallies := [] } } : State).enqueue n (respTo s.ownPkg x.txn x.status x.port x.count) none
      else ({ s with fab := { s.fab with tallies := [] } } : State).dropHop) := by
  rw [exec_respTallyFlush hone hsame horigin, State.forwardResp]
  have hprimary : primaryPort ({ s with fab := { s.fab with tallies := [] } } : State).ownPkg
      (respTo s.ownPkg x.txn x.status x.port x.count).dst = some n := hport
  rw [hprimary]
  dsimp only
  have hhops : (({ s with fab := { s.fab with tallies := [] } } : State).portActive n &&
      decide ((respTo s.ownPkg x.txn x.status x.port x.count).hops < 15)) = s.portActive n := Bool.and_true _
  rw [hhops, State.freeSlot_none]

/-- It is queued on its primary port. -/
theorem respTallyFlush_queues (hactive : s.portActive n = true) :
    ∃ t, exec (.respTallyFlush origin xfer) s = .next t ∧ t.fab.tallies = [] ∧
      (t.port n).queue = (s.port n).queue ++ [⟨{ respTo s.ownPkg x.txn x.status x.port x.count with hops := 1 }, none⟩] ∧
      t = { s with fab := { s.fab with tallies := [], ports := t.fab.ports } } := by
  refine ⟨_, (exec_respTallyFlush_port hone hsame horigin hport).trans (congrArg _ (if_pos hactive)), rfl, ?_, rfl⟩
  rw [State.enqueue, State.port_setPort_same]
  rfl

/-- It is lost where that port is not ACTIVE. -/
theorem respTallyFlush_lost (hdown : s.portActive n = false) :
    ∃ t, exec (.respTallyFlush origin xfer) s = .next t ∧ t.fab = { s.fab with tallies := [] } ∧
      t.get R.FAB_DROP1_hop_drops = satAdd R.FAB_DROP1_hop_drops.w (s.get R.FAB_DROP1_hop_drops) 1 ∧ BitSet t R.FAB_EVT 6 ∧
      Signals [R.FAB_DROP1_hop_drops, R.FAB_EVT] { s with fab := t.fab } t := by
  obtain ⟨u, hu⟩ : ∃ u : State, u = { s with fab := { s.fab with tallies := [] } } := ⟨_, rfl⟩
  have hexec := (exec_respTallyFlush_port hone hsame horigin hport).trans (congrArg _ (if_neg (by rw [hdown]; decide)))
  rw [← hu] at hexec
  obtain ⟨hevent, hdrops, hsignals⟩ := u.drop_effect (f := R.FAB_DROP1_hop_drops) (by simp [fabDropFields]) (e := 6) (by decide)
  have hfab : u.dropHop.fab = { s.fab with tallies := [] } := hsignals.1.fab.trans (by rw [hu])
  refine ⟨_, hexec, hfab, hdrops.trans (by rw [hu]; rfl), hevent, ?_⟩
  rw [hfab, ← hu]
  exact hsignals

end

/-! ### TRANSFER_TIMEOUT (R469) -/

theorem transferTimeout_none (xfer : BitVec 16) (h : ∀ x ∈ s.fab.transfers, x.id ≠ xfer.toNat) : exec (.transferTimeout xfer) s = .next s := by
  have hnone : s.fab.transfers.find? (fun t => t.id == xfer.toNat) = none := List.find?_eq_none.2 fun x hx => by simpa using h x hx
  show execTransferTimeout xfer s = _
  rw [execTransferTimeout, hnone]

section
variable {xfer : BitVec 16} {x : Transfer} (hfind : s.fab.transfers.find? (fun t => t.id == xfer.toNat) = some x)
include hfind

theorem transferTimeout_early (h : s.xferQueued x.id = true ∨ s.frame < x.leftFrame + 8) : exec (.transferTimeout xfer) s = .next s := by
  show execTransferTimeout xfer s = _
  rw [execTransferTimeout, hfind]
  exact congrArg _ (if_pos h)

theorem transferTimeout_due (hqueued : s.xferQueued x.id = false) (hdue : x.leftFrame + 8 ≤ s.frame) :
    ∃ u, exec (.transferTimeout xfer) s = .next (u.resolve x 5 0) ∧ u.fab = { s.fab with timedOut := s.fab.timedOut ++ [(x.id, s.frame)] } ∧
      BitSet u R.FAB_EVT 5 ∧ u.get R.FAB_XFER_resp_timeouts = satAdd R.FAB_XFER_resp_timeouts.w (s.get R.FAB_XFER_resp_timeouts) 1 ∧
      Signals [R.FAB_XFER_resp_timeouts, R.FAB_EVT] { s with fab := u.fab } u := by
  obtain ⟨hevent, htimeouts, hsignals⟩ := s.drop_effect (f := R.FAB_XFER_resp_timeouts) (by simp [fabDropFields]) (e := 5) (by decide)
  obtain ⟨v, hv⟩ : ∃ v, v = (s.count R.FAB_XFER_resp_timeouts 1).raiseFab 5 := ⟨_, rfl⟩
  rw [← hv] at hevent htimeouts hsignals
  have hexec : exec (.transferTimeout xfer) s = .next (({ v with fab := { v.fab with timedOut := v.fab.timedOut ++ [(x.id, v.frame)] } } : State).resolve x 5 0) := by
    show execTransferTimeout xfer s = _
    rw [execTransferTimeout, hfind]
    dsimp only
    rw [if_neg (by rw [hqueued]; simpa using hdue), ← hv]
  refine ⟨_, hexec, ?_, hevent, htimeouts, hsignals.withFab _⟩
  dsimp only
  rw [hsignals.1.fab, State.frame, hsignals.1.hzn]
  rfl

end

end

/-! ### Good transactions of each type -/

section
variable {s : State} {n : Fin 12} {b : Vector Byte 80} (hactive : (s.port n.val).state = .active)
  (hdst : (Txn.ofBytes b.toList).dst = s.ownPkg) (hgood : malformed b.toList = false)
include hactive hdst hgood

section
variable {c : Nat} (hctx : s.ctxWith [1, 2] ((Txn.ofBytes b.toList).tenant, (Txn.ofBytes b.toList).job) = some c)
  (haccess : s.mayAccess c (64 * (Txn.ofBytes b.toList).arg) (64 * (Txn.ofBytes b.toList).arg + 64) = true)
include hctx haccess

theorem exec_fabricWrite (hkind : (Txn.ofBytes b.toList).kind = 1) :
    let t := Txn.ofBytes b.toList
    exec (.fabricWrite n b) s = .next (((s.handOver ⟨false, 64 * t.arg, t.data⟩).pmuLine 1 (64 * t.arg) 1).lineHanded n.val t) :=
  (exec_txnDelivered hactive hdst hgood (x := (.fabricWrite n b, 1)) (by simp [txnRows]) hkind).trans
    (congrArg _ ((State.deliver_line (by omega) hctx haccess).trans (if_neg (by omega))))

theorem exec_cadd (hkind : (Txn.ofBytes b.toList).kind = 2) :
    let t := Txn.ofBytes b.toList
    exec (.cadd n b) s = .next ((s.caddLine t).lineHanded n.val t) :=
  (exec_txnDelivered hactive hdst hgood (x := (.cadd n b, 2)) (by simp [txnRows]) hkind).trans
    (congrArg _ ((State.deliver_line (by omega) hctx haccess).trans (if_pos hkind)))

theorem fabricWrite_awake (hawake : s.asleep (64 * (Txn.ofBytes b.toList).arg) = false) (hkind : (Txn.ofBytes b.toList).kind = 1) :
    let t := Txn.ofBytes b.toList
    ∃ u, exec (.fabricWrite n b) s = .next (u.answered t 0 0) ∧ u.readMem (64 * t.arg) 64 = t.data ∧ SameMemBut (64 * t.arg) 64 s u ∧
      u.seqs = (if t.sched then (s.frecvLine n.val (64 * t.arg)).seqs else s.seqs) ∧
      Signals [] { s with mem := u.mem, poison := u.poison, seqs := u.seqs } u := by
  have hlength : (Txn.ofBytes b.toList).data.length = 64 := by
    show ((b.toList.drop 16).take 64).length = 64
    rw [List.length_take, List.length_drop, Vector.length_toList]
    rfl
  obtain ⟨u, hu, heffect⟩ := State.write_awake hawake n.val hkind hlength
  exact ⟨u, (exec_fabricWrite hactive hdst hgood hctx haccess hkind).trans (congrArg _ hu), heffect⟩

theorem cadd_awake (hawake : s.asleep (64 * (Txn.ofBytes b.toList).arg) = false) (hkind : (Txn.ofBytes b.toList).kind = 2) :
    let t := Txn.ofBytes b.toList
    ∃ u, exec (.cadd n b) s = .next (u.answered t 0 0) ∧ SameMemBut (64 * t.arg) 64 s u ∧
      (∀ w, w < 8 → u.readMem (64 * t.arg + 8 * w) 8 = if bitAt t.info w = true then s.caddWord t w else s.readMem (64 * t.arg + 8 * w) 8) ∧
      Signals [] { s with mem := u.mem, poison := u.poison, flushes := u.flushes } u := by
  obtain ⟨u, hu, heffect⟩ := State.cadd_awake hawake n.val hkind
  exact ⟨u, (exec_cadd hactive hdst hgood hctx haccess hkind).trans (congrArg _ hu), heffect⟩

end

theorem exec_signal (hkind : (Txn.ofBytes b.toList).kind = 3) : exec (.signal n b) s = .next (s.deliver n.val (Txn.ofBytes b.toList)) :=
  exec_txnDelivered hactive hdst hgood (x := (.signal n b, 3)) (by simp [txnRows]) hkind

theorem exec_resp (hkind : (Txn.ofBytes b.toList).kind = 4) : exec (.resp n b) s = .next (s.takeResp (Txn.ofBytes b.toList)) :=
  (exec_txnDelivered hactive hdst hgood (x := (.resp n b, 4)) (by simp [txnRows]) hkind).trans (congrArg _ (State.deliver_resp hkind n.val))

end

/-! ### The statement -/

/-- Settles O54. What a flit or a transaction does is one case of the port's or the destination's rule; a CADD's words are added in turn, each
apart from the others. -/
theorem fabricTraffic : Obligations.FabricTraffic := by
  refine ⟨fun n s => ⟨flits_inactive, fun ha => ?flits, fun b => ⟨fun x hx => txnRow_ignored (n := n) (b := b) hx, fun ha hdst =>
    ⟨fun x hx hkind hbad => txn_malformed ha hdst hbad hx hkind, fun hgood => ⟨fun x hx hkind hline => ?drops, fun c hctx haccess => ?lines, fun hkind hgated =>
      ?gated, fun hkind hup c => ?signals, fun hkind => ?responses⟩⟩⟩, fun t status port => State.answered_opens s status port⟩, fun origin xfer s => ?rest⟩
  case flits =>
    exact ⟨flitTransmit_idle ha, fun _ _ => flitTransmit_replay ha, fun _ => flitTransmit_one ha, flitReceive_undecoded ha,
      fun c _ => ⟨flitReceive_bad ha c, flitReceive_taken ha c⟩⟩
  case drops => exact ⟨txn_noContext ha hdst hgood hx hkind hline, fun _ => txn_noAccess ha hdst hgood hx hkind hline⟩
  case lines =>
    exact ⟨fun hasleep => ⟨fun hkind => (exec_fabricWrite ha hdst hgood hctx haccess hkind).trans (congrArg _ (s.writeHeld n.val _ hasleep)),
        fun hkind => (exec_cadd ha hdst hgood hctx haccess hkind).trans (congrArg _ (s.caddHeld n.val _ hasleep))⟩,
      fabricWrite_awake ha hdst hgood hctx haccess, cadd_awake ha hdst hgood hctx haccess⟩
  case gated =>
    exact ⟨_, (exec_signal ha hdst hgood hkind).trans (congrArg _ (State.deliver_signal_gated hkind hgated)),
      s.drop_effect (by simp [fabDropFields]) (by decide)⟩
  case signals =>
    exact ⟨fun hstate hpair hrange => (exec_signal ha hdst hgood hkind).trans (congrArg _ (State.deliver_signal_owned hkind hup c hstate hpair hrange)),
      fun hslots hsaved => ⟨_, (exec_signal ha hdst hgood hkind).trans (congrArg _ (State.deliver_signal_unowned hkind hup hslots hsaved)),
        s.signalDropped_effect⟩⟩
  case responses =>
    exact ⟨fun hlate => ⟨_, (exec_resp ha hdst hgood hkind).trans (congrArg _ (State.takeResp_late hlate)),
        s.drop_effect (by simp [fabDropFields]) (by decide)⟩,
      fun x hone hid hstatus => ⟨fun hmore => ⟨_, (exec_resp ha hdst hgood hkind).trans (congrArg _ (State.takeResp_counts hone hid hstatus hmore)), rfl, rfl⟩,
        fun hlast hdescs => (exec_resp ha hdst hgood hkind).trans (congrArg _ (State.takeResp_resolves hone hid hstatus hlast hdescs))⟩⟩
  case rest =>
    exact ⟨respTallyFlush_none origin xfer, fun _ _ => respTallyFlush_queues, fun _ _ => respTallyFlush_lost, transferTimeout_none xfer,
      fun _ hfind => ⟨transferTimeout_early hfind, transferTimeout_due hfind⟩⟩

end Sys2Proof.Machine
end
